-- ==== Sys2Proof/Word.lean ====
section
/-!
DEFINITION. The words of the Huarratik HV6: bytes, 32-bit register words, 64-bit words, byte strings, and the
type of the sorted tables that hold sparse state. The operations on them stand in Machine/Bits.lean and
Machine/Tab.lean.
-/
namespace Sys2Proof

/-- One byte. -/
abbrev Byte := BitVec 8

/-- One 32-bit register word (R118). -/
abbrev Word := BitVec 32

/-- A 64-bit value. -/
abbrev Dword := BitVec 64

/-- A byte string, first byte first. -/
abbrev Bytes := List Byte

/-- A sparse table: pairs of a key and a value, keys strictly rising (`Tab.wf`, Machine/Tab.lean). -/
abbrev Tab (α : Type) := List (Nat × α)

end Sys2Proof
end

