-- ==== Sys2Proof/Syntax.lean ====
section
/-!
DEFINITION. The commands of the HV6 and their operands. A command is a register access, a frame, message or bus
answer that arrives, an event on a pin, a deadline that passes, or a step of one of the device's own engines.
-/
namespace Sys2Proof

/-- Who made a register write or sent a mailbox request (VP_WERR_SRC.SRC, R376). -/
inductive Src where
  | host
  | mctp
  | jtag
  | tender
  deriving DecidableEq, Repr

/-- A write to one named register. `full` says the access is 32 bits, aligned, all byte enables set (R118); where it is
not, `data` holds the first four bytes with the bytes not written 0 (VP_WERR_DATA). -/
structure RegWr where
  src : Src
  full : Bool
  data : Word
  deriving DecidableEq, Repr

/-- A write at a control-window offset. -/
structure RegWrite where
  off : Nat
  wr : RegWr
  deriving DecidableEq, Repr

/-- The strap balls (R52). -/
structure Straps where
  /-- STRAP_PEN (R52). -/
  pen : Bool
  /-- STRAP_BOOT (R52). -/
  boot : BitVec 2
  /-- STRAP_SMB (R52). -/
  smb : BitVec 2
  /-- STRAP_TEST (R52). -/
  test : Bool
  deriving DecidableEq, Repr

/-- What an over-current event concerns (R63): one region's current or the package's power. -/
inductive PowerUnit where
  | region (n : Nat)
  | package
  deriving DecidableEq, Repr

/-- One sample of a region's sense quantities in 0.25 mV units: the readings of both pairs, the die grid, the cross-tap to the
neighbour, and the drop expected of the present current estimate (R65). -/
structure DropSample where
  va : Nat
  vb : Nat
  vdie : Nat
  xn : Int
  expected : Int
  deriving DecidableEq, Repr

/-- DA = VA − VDIE (R65). -/
def DropSample.da (x : DropSample) : Int := x.va - x.vdie

/-- DB = VB − VDIE (R65). -/
def DropSample.db (x : DropSample) : Int := x.vb - x.vdie

/-- The blocks outside the always-on domain that R71 gates. -/
inductive Blk where
  | sluice (n : Nat)
  | furrow (n : Nat)
  | tender (n : Nat)
  | hbm (n : Nat)
  | headgate
  | weir
  | runnel
  | synko
  | spanUnit
  | keyTable
  | codebook
  | culvert
  deriving DecidableEq, Repr

/-- The IEEE 1588 messages a time receiver takes (R75). -/
inductive PtpKind where
  | sync
  | followUp (origin : Nat)
  | delayResp (received : Nat)
  deriving DecidableEq, Repr

/-- A PTP message on a link. -/
structure PtpMsg where
  link : Nat
  kind : PtpKind
  deriving DecidableEq, Repr

/-- What a module advertises on insertion: its medium, the lanes per link of its applications, its memory. -/
structure ModuleInfo where
  passive : Bool
  backplane : Bool
  apps : List Nat
  mem : List (Nat × Byte)
  deriving DecidableEq, Repr

/-- A module's answer to a CMIS poll (R80). -/
inductive CmisAnswer where
  | ok
  | fault
  | silent
  deriving DecidableEq, Repr

/-- One block's place in the control window. -/
structure BlockSpan where
  base : Nat
  span : Nat
  deriving DecidableEq, Repr

/-- The placement the image's apply chose for everything the Vapen table locates (R124, R125). -/
structure Layout where
  windowLog2 : Nat
  blocks : List BlockSpan
  dbBase : Nat
  pushBase : Nat
  cqdbBase : Nat
  synkoBase : Nat
  linkBase : Nat
  instBase : Nat
  pageBase : Nat
  pageStride : Nat
  deriving DecidableEq, Repr

/-- One entry of the plot map (R17, R51), with the length in granules that the issuer checks against (R16). -/
structure MapEnt where
  /-- The serving device's slot (R51). -/
  slot : Nat
  /-- PAIRED (R51). -/
  paired : Bool
  /-- Marked as a spare (R51). -/
  spare : Bool
  /-- A copy to a new mirror is under way (R51). -/
  copying : Bool
  /-- The mirror's slot (R51). -/
  mirrorSlot : Nat
  /-- Free granules (R51). -/
  free : Nat
  /-- Length in granules (R16). -/
  len : Nat
  /-- The plot this one mirrors, 0 for none (R19). -/
  mirrorFor : Nat
  deriving DecidableEq, Repr

/-- A plot map at a Basin epoch: plots by number, overflow windows in granules by device slot. -/
structure PlotMap where
  /-- The Basin epoch of the map (R18). -/
  epoch : Nat
  /-- The entries by plot number (R51). -/
  plots : Tab MapEnt
  /-- Overflow windows in granules, by slot (R151). -/
  ovf : Tab Nat
  /-- BASIN_ENC: the BASIN and MIRROR queue pairs this map causes to be created are encrypted (R288). -/
  enc : Bool
  deriving DecidableEq, Repr

/-- A joined worker in the directory. -/
structure Worker where
  /-- Its slot (R23). -/
  slot : Nat
  /-- Its plot's granules (R23). -/
  plotLen : Nat
  /-- Replies missed in a row (R27). -/
  missed : Nat
  /-- It replied in this period (R27). -/
  replied : Bool
  /-- When this manager's JOIN_ACK left (R23, R30). -/
  ackAt : Option Nat
  /-- The epoch of its joining (R23). -/
  joinEpoch : Nat
  /-- The end of its reset notice (R25). -/
  excuse : Option Nat
  deriving DecidableEq, Repr

/-- One extent of an allocation: a plot number, or the overflow window of a device (plot number 0x80 + slot); offset and
length in granules; the span created over it. -/
structure Extent where
  /-- Plot number, or 0x80 + slot for an overflow window (R50). -/
  plot : Nat
  /-- First granule (R50). -/
  off : Nat
  /-- Granules (R50). -/
  len : Nat
  /-- The span created over it (R49). -/
  span : Nat
  deriving DecidableEq, Repr

/-- One allocation of the allocation table. -/
structure Alloc where
  /-- The requester's instance (R49). -/
  inst : Nat
  /-- The requester's slot (R49). -/
  slot : Nat
  /-- Its extents (R49). -/
  extents : List Extent
  /-- The slots and instances it is shared with (R201, R210); no command of the spec shares one (assumption 104). -/
  shared : List (Nat × Nat)
  deriving DecidableEq, Repr

/-- The result of a committed manager-bound command, kept by request ID (R36). -/
structure MgrResult where
  /-- The status replied (R36). -/
  status : Byte
  /-- The data replied (R36). -/
  data : Bytes
  deriving DecidableEq, Repr

/-- The Basin directory: workers by serial, the plot map with pairings, the allocation table, overflow lengths by slot,
and the results of committed request IDs. -/
structure Directory where
  /-- Joined workers by serial (R29). -/
  workers : Tab Worker
  /-- The plot map with pairings (R29). -/
  plots : Tab MapEnt
  /-- The allocation table, by handle (R29). -/
  allocs : Tab Alloc
  /-- Overflow lengths by slot (R151). -/
  ovf : Tab Nat
  /-- The next allocation handle (R49). -/
  nextHandle : Nat
  /-- Results of committed request IDs (R36). -/
  results : Tab MgrResult
  /-- The epoch that committed a worker's leave, by serial (R23, R48). -/
  left : Tab Nat
  /-- The unpaired plot a device lost, by serial: reported to its owners on rejoining (R41). -/
  lost : Tab Nat
  deriving DecidableEq, Repr

/-- What an SPDM attestation of a peer found (R286): whether the certificate chain ends at the Kequeden root, the leaf
serial, and the measurement summary. -/
structure AttestEv where
  chainOk : Bool
  leafSerial : Nat
  summary : Bytes
  deriving DecidableEq, Repr

/-- BASIN_ALLOC as it reaches the manager (R49); `spans` are the indices of the spans that Tender at each plot owner created, in
the order of the placement records (R50). -/
structure AllocReq where
  slot : Nat
  reqId : Nat
  inst : Nat
  length : Nat
  stripe : Nat
  overflow : Bool
  pairedOnly : Bool
  explicit : Bool
  mask : Nat
  resultCap : Nat
  spans : List Nat
  deriving DecidableEq, Repr

/-- BASIN_FREE as it reaches the manager; `drained` says that every plot owner has destroyed the allocation's PLOT spans, once
their admitted accesses were done (R51, R218). -/
structure FreeReq where
  slot : Nat
  reqId : Nat
  inst : Nat
  handle : Nat
  drained : Bool
  deriving DecidableEq, Repr

/-- BASIN_PAIR as it reaches the manager: PAIR names both plots, the spare commands the primary alone. -/
structure PairReq where
  slot : Nat
  reqId : Nat
  primary : Nat
  mirror : Nat
  deriving DecidableEq, Repr

/-- A write into a push window (R161): `full` says one 64-byte write aligned to 64 bytes; `off` is the offset in the
window; `data` holds the bytes written. -/
structure PushWr where
  src : Src
  full : Bool
  off : Nat
  data : Bytes
  deriving DecidableEq, Repr

/-- How the partner link trains (R133 to R136). HV6-P: the UCIe modules that trained and the partner die's advertisement of 48 GT/s.
HV6-D: the codes of TN_PARTNER_STAT.WIDTH and RATE. -/
structure LinkTrain where
  cxl : Bool
  modules : BitVec 4
  adv48 : Bool
  width : Nat
  rate : Nat
  deriving DecidableEq, Repr

/-- A block whose clock may be gated, and how long it has been idle (R71). -/
structure GateReq where
  blk : Blk
  idleNs : Nat
  deriving DecidableEq, Repr

/-- A message of a secured session (R269, R271): the session, and whether the message passes its authentication. -/
structure SecuredReq where
  sess : Nat
  verifies : Bool
  deriving DecidableEq, Repr

/-- A request block in an MCTP message (R129): over SMBus, with the target address (R52), or over PCIe VDM. -/
structure MctpReq where
  smb : Option Nat
  block : Bytes
  deriving DecidableEq, Repr

/-- A partner CXL.mem access to the HDM window (R138): a read of `len` bytes, or a write of bytes. -/
inductive HdmAcc where
  | read (off : Nat) (len : Nat)
  | write (off : Nat) (data : Bytes)
  deriving DecidableEq, Repr

/-- The partner's answer to an ATS Translation Request (R203): refused, or a translation of `len` bytes. -/
inductive AtsAns where
  | unsupported
  | piece (start : Nat) (len : Nat) (target : Nat) (r : Bool) (w : Bool)
  deriving DecidableEq, Repr

/-- A received Ethernet frame (R77, R226 to R229): what the MAC found, its EtherType and VLAN tag, of a routed frame the fields
that R227 checks (an extension header, destination address, next header, destination port) and its CE mark, the source address,
and the Sluice bytes. -/
structure Frame where
  fcsOk : Bool
  eth : Nat
  vid : Option Nat
  ipExt : Bool
  dst : Nat
  nh : Nat
  dport : Nat
  ce : Bool
  src : Nat
  hdr : Bytes
  ext : Bytes
  payload : Bytes
  tag : Bytes
  deriving DecidableEq, Repr

/-- The framing of a received frame: routed mode has the EtherType of IPv6 (R226). -/
def Frame.routed (f : Frame) : Bool := f.eth = 0x86DD

/-- The transports of the SPDM responder (R271). -/
inductive Transp where
  | mctpPcie
  | mctpSmbus (target : Nat)
  | doe
  | basin (slot : Nat)
  deriving DecidableEq, Repr

/-- The algorithms an SPDM requester offers (R269), one flag for each category's one supported choice. -/
structure SpdmAlgs where
  p384 : Bool
  sha384 : Bool
  secp384r1 : Bool
  aes256gcm : Bool
  schedule : Bool
  deriving DecidableEq, Repr

/-- Where an instance command came from: the running mailbox command, or a message in an SPDM session, with its TAG and
parameter block (R375, R387). -/
inductive InstVia where
  | mailbox
  | manager (sess : Nat) (tag : Nat) (params : Bytes)
  deriving DecidableEq, Repr

/-- The commands: one constructor per row of spec/opcode_table.json, in the table's order. -/
inductive Instr where
  /-- REGISTER_WRITE (R127). -/
  | registerWrite (w : RegWrite)
  /-- VP_WERR_CLEAR (R128). -/
  | vpWerrClear (w : RegWr)
  /-- COLD_RST_N_RISE (R52). -/
  | coldRstNRise (straps : Straps)
  /-- COLD_RST_N_FALL (R56). -/
  | coldRstNFall
  /-- BUNDLE_VERIFY (R102). -/
  | bundleVerify
  /-- FIRMWARE_RUNNING (R97). -/
  | firmwareRunning
  /-- IMAGE_VERIFY (R108). -/
  | imageVerify
  /-- HBM_TRAINED (R97). -/
  | hbmTrained (failed : BitVec 8)
  /-- STRUCTURE_APPLIED (R109). -/
  | structureApplied
  /-- VAPEN_BUILT (R120). -/
  | vapenBuilt (lay : Layout)
  /-- WARM_RST_N_FALL (R111). -/
  | warmRstNFall (lowNs : Nat)
  /-- WARM_RESUME (R111). -/
  | warmResume (stacksOk : Bool)
  /-- JUNCTION_OVERTEMP (R58). -/
  | junctionOvertemp (tempC : Nat)
  /-- GRID_EXCURSION (R62). -/
  | gridExcursion (region : Nat) (deltaMv : Int)
  /-- OC_THROTTLE_ENTER (R63). -/
  | ocThrottleEnter (unit : PowerUnit) (samples : List Nat)
  /-- THROTTLE_EXIT (R63). -/
  | throttleExit (unit : PowerUnit) (highest : Nat) (ns : Nat)
  /-- OC_PERSIST (R63). -/
  | ocPersist (unit : PowerUnit)
  /-- SENSE_OPEN (R64). -/
  | senseOpen (region : Nat) (pairB : Bool) (readings : List Nat)
  /-- DROP (R65). -/
  | drop (region : Nat) (samples : List DropSample)
  /-- DISAGREE (R65). -/
  | disagree (region : Nat) (samples : List DropSample)
  /-- PMBUS_POLL (R59). -/
  | pmbusPoll (faults : List (Nat × BitVec 16))
  /-- LV_VCMD (R67). -/
  | lvVcmd (w : RegWr)
  /-- VCMD_SETTLE (R68). -/
  | vcmdSettle (r1 : Nat) (r2 : Nat)
  /-- VCMD_TIMEOUT (R68). -/
  | vcmdTimeout
  /-- AVSBUS_SILENT (R68). -/
  | avsbusSilent
  /-- LV_VDONE_READ (R69). -/
  | lvVdoneRead
  /-- DEVTIME_LO_READ (R74). -/
  | devtimeLoRead
  /-- BLOCK_GATE (R71). -/
  | blockGate (b : GateReq)
  /-- WAKE_EVENT (R72). -/
  | wakeEvent (b : Blk)
  /-- FURROW_PLL_POWER_DOWN (R73). -/
  | furrowPllPowerDown
  /-- PTP_MESSAGE (R75). -/
  | ptpMessage (m : PtpMsg)
  /-- PPS_IN_EDGE (R75). -/
  | ppsInEdge
  /-- MODULE_INSERTION (R79). -/
  | moduleInsertion (port : Nat) (info : ModuleInfo)
  /-- CMIS_POLL (R80). -/
  | cmisPoll (port : Nat) (ans : CmisAnswer)
  /-- MODULE_READ (R81). -/
  | moduleRead (answers : Bool)
  /-- MODULE_WRITE (R81). -/
  | moduleWrite (answers : Bool)
  /-- SL_CAL_START (R83). -/
  | slCalStart (link : Nat) (w : RegWr)
  /-- CAL_IDLE_WINDOW (R83). -/
  | calIdleWindow (link : Nat) (ns : Nat)
  /-- CAL_COMPLETE (R83). -/
  | calComplete (link : Nat)
  /-- CAL_DEFER_TIMEOUT (R83). -/
  | calDeferTimeout (link : Nat)
  /-- LINK_TRAINED (R87). -/
  | linkTrained (link : Nat) (merge : Bool)
  /-- LINK_DOWN (R93). -/
  | linkDown (link : Nat)
  /-- OFFER (R87). -/
  | offer (link : Nat) (body : Bytes)
  /-- OFFER_REPLY_TIMEOUT (R87). -/
  | offerReplyTimeout (link : Nat)
  /-- MASTER_IDLE_ENTER (R89). -/
  | masterIdleEnter (link : Nat)
  /-- ENTER (R89). -/
  | enter (link : Nat) (body : Bytes)
  /-- ENTER_ACK (R89). -/
  | enterAck (link : Nat) (body : Bytes)
  /-- ENTER_NAK (R89). -/
  | enterNak (link : Nat) (body : Bytes)
  /-- CANCEL (R89). -/
  | cancel (link : Nat) (body : Bytes)
  /-- DORMANCY_HOLD_END (R89). -/
  | dormancyHoldEnd (link : Nat)
  /-- ENTER_ACK_TIMEOUT (R89). -/
  | enterAckTimeout (link : Nat)
  /-- WAKE_WINDOW_OPEN (R90). -/
  | wakeWindowOpen (link : Nat)
  /-- HELLO (R90). -/
  | hello (link : Nat) (body : Bytes)
  /-- WAKE_WINDOW_CLOSE (R90). -/
  | wakeWindowClose (link : Nat)
  /-- RETRAIN_LOOPBACK (R93). -/
  | retrainLoopback (link : Nat) (pass : Bool)
  /-- DORM_MISS_LIMIT (R94). -/
  | dormMissLimit (link : Nat)
  /-- HEARTBEAT_PERIOD (R28). -/
  | heartbeatPeriod
  /-- HEARTBEAT (R26). -/
  | heartbeat (m : Bytes)
  /-- HB_REPLY (R27). -/
  | hbReply (m : Bytes)
  /-- MANAGER_MISSING (R27). -/
  | managerMissing
  /-- WORKER_LOST (R27). -/
  | workerLost (serial : Nat)
  /-- LEASE_EXPIRY (R28). -/
  | leaseExpiry
  /-- UNJOINED_CLAIM_START (R26). -/
  | unjoinedClaimStart
  /-- CLAIM_PERIOD (R33). -/
  | claimPeriod
  /-- CLAIM (R31). -/
  | claim (m : Bytes)
  /-- GRANT (R33). -/
  | grant (m : Bytes)
  /-- REVOKE (R32). -/
  | revoke (m : Bytes)
  /-- WITHDRAW (R31). -/
  | withdraw (m : Bytes)
  /-- HANDOVER (R35). -/
  | handover (m : Bytes)
  /-- CLAIM_WAIT_ELAPSED (R33). -/
  | claimWaitElapsed
  /-- CLAIM_TIMEOUT (R32). -/
  | claimTimeout
  /-- YIELDING_TIMEOUT (R35). -/
  | yieldingTimeout
  /-- HB_PARAM_SWITCH (R30). -/
  | hbParamSwitch
  /-- JOIN_RETRY (R23). -/
  | joinRetry
  /-- JOIN_TIMEOUT (R23). -/
  | joinTimeout
  /-- JOIN (R22). -/
  | join (m : Bytes) (ev : AttestEv)
  /-- JOIN_ACK (R23). -/
  | joinAck (m : Bytes)
  /-- JOIN_NAK (R22). -/
  | joinNak (m : Bytes)
  /-- ROLE_CMD_YIELD (R35). -/
  | roleCmdYield (w : RegWr)
  /-- ROLE_CMD_REQUEST_SWAP (R35). -/
  | roleCmdRequestSwap (w : RegWr)
  /-- ROLE_CMD_LEAVE (R23). -/
  | roleCmdLeave (w : RegWr)
  /-- ROLE_CMD_RESET_NOTICE (R25). -/
  | roleCmdResetNotice (w : RegWr)
  /-- LEAVE (R23). -/
  | leave (m : Bytes)
  /-- LEAVE_ACK (R23). -/
  | leaveAck (m : Bytes)
  /-- LEAVE_TIMEOUT (R23). -/
  | leaveTimeout
  /-- LOST (R23). -/
  | lost (m : Bytes)
  /-- RESET_NOTICE (R25). -/
  | resetNotice (m : Bytes)
  /-- NOTICE_ACK (R25). -/
  | noticeAck (m : Bytes)
  /-- NOTICE_TIMEOUT (R25). -/
  | noticeTimeout
  /-- EXCUSE_EXPIRY (R25). -/
  | excuseExpiry (serial : Nat)
  /-- PLOT_MAP_FETCHED (R18). -/
  | plotMapFetched (map : PlotMap)
  /-- DIRECTORY_REPLICATION (R29). -/
  | directoryReplication (seq : Nat) (dir : Directory) (epoch : Nat)
  /-- REPLICATION_ACK (R29). -/
  | replicationAck (seq : Nat) (serial : Nat)
  /-- PROMOTION (R21). -/
  | promotion (plot : Nat)
  /-- SPARE_COPY_DONE (R51). -/
  | spareCopyDone (plot : Nat)
  /-- RECOVERY_WINDOW_EXPIRY (R39). -/
  | recoveryWindowExpiry (basinWide : Bool)
  /-- HELD_COMMAND_TIMEOUT (R36). -/
  | heldCommandTimeout
  /-- HELD_COMMAND_RESEND (R36). -/
  | heldCommandResend
  /-- BASIN_ALLOC (R43). -/
  | basinAlloc (r : AllocReq)
  /-- BASIN_FREE (R51). -/
  | basinFree (r : FreeReq)
  /-- BASIN_PAIR_PAIR (R19). -/
  | basinPairPair (r : PairReq)
  /-- BASIN_PAIR_MARK_SPARE (R51). -/
  | basinPairMarkSpare (r : PairReq)
  /-- BASIN_PAIR_UNMARK_SPARE (R51). -/
  | basinPairUnmarkSpare (r : PairReq)
  /-- BASIN_QUERY_MAP (R51). -/
  | basinQueryMap (slot : Nat)
  /-- BASIN_QUERY_ALLOC (R51). -/
  | basinQueryAlloc (slot : Nat) (handle : Nat)
  /-- PARTNER_ALLOC_FREE (R47). -/
  | partnerAllocFree (slot : Nat) (inst : Nat)
  /-- PARTNER_HB_ARM (R142). -/
  | partnerHbArm (w : RegWr)
  /-- PARTNER_HB_BEAT (R142). -/
  | partnerHbBeat (w : RegWr)
  /-- PARTNER_HB_DISARM (R142). -/
  | partnerHbDisarm (w : RegWr)
  /-- PARTNER_HB_EXPIRY (R142). -/
  | partnerHbExpiry
  /-- PARTNER_LINK_DOWN (R143). -/
  | partnerLinkDown
  /-- PARTNER_FATAL_ERROR (R143). -/
  | partnerFatalError
  /-- HOST_RESET (R143). -/
  | hostReset
  /-- SNOOP_TIMEOUT (R139). -/
  | snoopTimeout (line : Nat)
  /-- PARTNER_LINK_TRAINED (R146). -/
  | partnerLinkTrained (t : LinkTrain)
  /-- UCIE_MODULE_LOST (R134). -/
  | ucieModuleLost (m : Nat)
  /-- PARTNER_SNOOP (R139). -/
  | partnerSnoop (line : Nat) (store : Option Bytes)
  /-- BACK_INVALIDATE_ANSWER (R139). -/
  | backInvalidateAnswer (line : Nat) (dirty : Option Bytes)
  /-- HDM_ACCESS (R138). -/
  | hdmAccess (a : HdmAcc)
  /-- ATS_COMPLETION (R203). -/
  | atsCompletion (inst : Nat) (addr : Nat) (ans : AtsAns)
  /-- ATS_TIMEOUT (R203). -/
  | atsTimeout (inst : Nat) (addr : Nat)
  /-- ATS_INVALIDATION_REQUEST (R141). -/
  | atsInvalidationRequest (pasid : Nat) (addr : Nat) (len : Nat)
  /-- CULVERT_DOORBELL (R148). -/
  | culvertDoorbell (k : Nat) (w : RegWr)
  /-- CULVERT_TRANSFER_DONE (R148). -/
  | culvertTransferDone (k : Nat) (slot : Nat)
  /-- CV_POOL_DISABLE (R150). -/
  | cvPoolDisable (k : Nat) (w : RegWr)
  /-- CV_OVF_REGISTER (R151). -/
  | cvOvfRegister (w : RegWrite)
  /-- TENDER_CORE_FAIL (R154). -/
  | tenderCoreFail (core : Nat)
  /-- STACK_LOST (R244). -/
  | stackLost (stack : Nat)
  /-- HG_DB (R160). -/
  | hgDb (q : Nat) (w : RegWr)
  /-- PUSH_WRITE (R161). -/
  | pushWrite (win : Nat) (p : PushWr)
  /-- DESCRIPTOR_FETCH (R164). -/
  | descriptorFetch (q : Nat) (i : Nat)
  /-- DESCRIPTOR_RETRY (R164). -/
  | descriptorRetry (q : Nat)
  /-- ENTRY_ACCEPT (R163). -/
  | entryAccept (q : Nat)
  /-- HG_INV_FENCE (R168). -/
  | hgInvFence (q : Nat) (w : RegWr)
  /-- HG_INV_RELEASE (R168). -/
  | hgInvRelease (q : Nat) (w : RegWr)
  /-- HG_QCTRL_ENABLE (R175). -/
  | hgQctrlEnable (q : Nat) (w : RegWr)
  /-- HG_QCTRL_DISABLE (R175). -/
  | hgQctrlDisable (q : Nat) (w : RegWr)
  /-- HG_QCMD_CREATE (R177). -/
  | hgQcmdCreate (inst : Nat) (w : RegWr)
  /-- HG_QCMD_DESTROY (R176). -/
  | hgQcmdDestroy (inst : Nat) (w : RegWr)
  /-- HG_QCMD_RESET (R176). -/
  | hgQcmdReset (inst : Nat) (w : RegWr)
  /-- HG_QCMD_MODIFY (R177). -/
  | hgQcmdModify (inst : Nat) (w : RegWr)
  /-- HG_CCMD_CREATE (R177). -/
  | hgCcmdCreate (inst : Nat) (w : RegWr)
  /-- HG_CCMD_DESTROY (R177). -/
  | hgCcmdDestroy (inst : Nat) (w : RegWr)
  /-- HG_CCMD_RESET (R177). -/
  | hgCcmdReset (inst : Nat) (w : RegWr)
  /-- HG_CQDB (R171). -/
  | hgCqdb (c : Nat) (w : RegWr)
  /-- HG_CQARM (R172). -/
  | hgCqarm (c : Nat) (w : RegWr)
  /-- CQ_MOD_TIME_EXPIRY (R172). -/
  | cqModTimeExpiry (c : Nat)
  /-- WQE_COMPLETE (R165). -/
  | wqeComplete (q : Nat)
  /-- QUEUE_ERROR_ENTRY (R176). -/
  | queueErrorEntry (q : Nat)
  /-- NOP (R197). -/
  | nop (q : Nat) (i : Nat)
  /-- WRITE (R183). -/
  | write (q : Nat) (i : Nat)
  /-- WRITE_IMM (R183). -/
  | writeImm (q : Nat) (i : Nat)
  /-- READ (R183). -/
  | read (q : Nat) (i : Nat)
  /-- SEND (R183). -/
  | send (q : Nat) (i : Nat)
  /-- SEND_IMM (R183). -/
  | sendImm (q : Nat) (i : Nat)
  /-- ATOMIC_FADD (R183). -/
  | atomicFadd (q : Nat) (i : Nat)
  /-- ATOMIC_CSWAP (R183). -/
  | atomicCswap (q : Nat) (i : Nat)
  /-- RECV (R184). -/
  | recv (q : Nat) (i : Nat)
  /-- BASIN_LOAD (R215). -/
  | basinLoad (q : Nat) (i : Nat)
  /-- BASIN_STORE (R215). -/
  | basinStore (q : Nat) (i : Nat)
  /-- PREFETCH (R206). -/
  | prefetch (q : Nat) (i : Nat)
  /-- ADVISE_WILL_NEED (R208). -/
  | adviseWillNeed (q : Nat) (i : Nat)
  /-- ADVISE_DONT_NEED (R208). -/
  | adviseDontNeed (q : Nat) (i : Nat)
  /-- ADVISE_READ_MOSTLY (R208). -/
  | adviseReadMostly (q : Nat) (i : Nat)
  /-- ADVISE_PREFER_HBM (R208). -/
  | advisePreferHbm (q : Nat) (i : Nat)
  /-- ADVISE_PREFER_PARTNER (R208). -/
  | advisePreferPartner (q : Nat) (i : Nat)
  /-- ALL_REDUCE (R319). -/
  | allReduce (q : Nat) (i : Nat)
  /-- REDUCE_SCATTER (R319). -/
  | reduceScatter (q : Nat) (i : Nat)
  /-- ALL_GATHER (R319). -/
  | allGather (q : Nat) (i : Nat)
  /-- BROADCAST (R319). -/
  | broadcast (q : Nat) (i : Nat)
  /-- REDUCE (R319). -/
  | reduce (q : Nat) (i : Nat)
  /-- ALL_TO_ALL (R319). -/
  | allToAll (q : Nat) (i : Nat)
  /-- ALL_TO_ALL_V (R323). -/
  | allToAllV (q : Nat) (i : Nat)
  /-- BARRIER (R319). -/
  | barrier (q : Nat) (i : Nat)
  /-- KERNEL_LAUNCH (R342). -/
  | kernelLaunch (q : Nat) (i : Nat)
  /-- SYNKO_ADD (R296). -/
  | synkoAdd (q : Nat) (i : Nat)
  /-- SYNKO_SET (R296). -/
  | synkoSet (q : Nat) (i : Nat)
  /-- WAIT_GE (R296). -/
  | waitGe (q : Nat) (i : Nat)
  /-- ARM_FIRE (R297). -/
  | armFire (q : Nat) (i : Nat)
  /-- CB_LOAD (R363). -/
  | cbLoad (q : Nat) (i : Nat)
  /-- SP_CREATE (R224). -/
  | spCreate (inst : Nat) (w : RegWr)
  /-- SP_DESTROY (R218). -/
  | spDestroy (inst : Nat) (w : RegWr)
  /-- SP_QUERY (R224). -/
  | spQuery (inst : Nat) (w : RegWr)
  /-- KT_CREATE (R224). -/
  | ktCreate (inst : Nat) (w : RegWr)
  /-- KT_INVALIDATE (R217). -/
  | ktInvalidate (inst : Nat) (w : RegWr)
  /-- KT_QUERY (R224). -/
  | ktQuery (inst : Nat) (w : RegWr)
  /-- KEY_FREE (R217). -/
  | keyFree (index : Nat)
  /-- SPAN_MOVE_DONE (R207). -/
  | spanMoveDone (index : Nat)
  /-- SL_QP_CREATE (R248). -/
  | slQpCreate (inst : Nat) (w : RegWr)
  /-- SL_QP_CONNECT (R248). -/
  | slQpConnect (inst : Nat) (w : RegWr)
  /-- SL_QP_RESET (R248). -/
  | slQpReset (inst : Nat) (w : RegWr)
  /-- SL_QP_DESTROY (R245). -/
  | slQpDestroy (inst : Nat) (w : RegWr)
  /-- SL_QP_QUERY (R248). -/
  | slQpQuery (inst : Nat) (w : RegWr)
  /-- SL_QP_FAILOVER (R244). -/
  | slQpFailover (inst : Nat) (w : RegWr)
  /-- PACKET_TRANSMIT (R256). -/
  | packetTransmit (qp : Nat)
  /-- RX_WRITE (R235). -/
  | rxWrite (link : Nat) (f : Frame)
  /-- RX_WRITE_IMM (R235). -/
  | rxWriteImm (link : Nat) (f : Frame)
  /-- RX_READ_REQ (R236). -/
  | rxReadReq (link : Nat) (f : Frame)
  /-- RX_READ_RESP (R239). -/
  | rxReadResp (link : Nat) (f : Frame)
  /-- RX_SEND (R235). -/
  | rxSend (link : Nat) (f : Frame)
  /-- RX_SEND_IMM (R235). -/
  | rxSendImm (link : Nat) (f : Frame)
  /-- RX_ATOMIC_FADD (R238). -/
  | rxAtomicFadd (link : Nat) (f : Frame)
  /-- RX_ATOMIC_CSWAP (R238). -/
  | rxAtomicCswap (link : Nat) (f : Frame)
  /-- RX_ATOMIC_RESP (R239). -/
  | rxAtomicResp (link : Nat) (f : Frame)
  /-- RX_ACK (R239). -/
  | rxAck (link : Nat) (f : Frame)
  /-- RX_NAK_SEQ (R240). -/
  | rxNakSeq (link : Nat) (f : Frame)
  /-- RX_NAK_RNR (R240). -/
  | rxNakRnr (link : Nat) (f : Frame)
  /-- RX_NAK_REREAD (R240). -/
  | rxNakReread (link : Nat) (f : Frame)
  /-- RX_NAK_STATUS (R241). -/
  | rxNakStatus (link : Nat) (f : Frame)
  /-- RX_RESYNC (R242). -/
  | rxResync (link : Nat) (f : Frame)
  /-- RX_RESYNC_ACK (R242). -/
  | rxResyncAck (link : Nat) (f : Frame)
  /-- RX_ABORT (R245). -/
  | rxAbort (link : Nat) (f : Frame)
  /-- RX_MARK (R246). -/
  | rxMark (link : Nat) (f : Frame)
  /-- ACK_DELAY_EXPIRY (R238). -/
  | ackDelayExpiry (qp : Nat)
  /-- RTO_EXPIRY (R240). -/
  | rtoExpiry (qp : Nat)
  /-- RNR_DELAY_EXPIRY (R240). -/
  | rnrDelayExpiry (qp : Nat)
  /-- RETRY_TIME_EXPIRY (R240). -/
  | retryTimeExpiry (qp : Nat)
  /-- FAILOVER_TIME_EXPIRY (R244). -/
  | failoverTimeExpiry (link : Nat)
  /-- RESYNC_REPEAT (R242). -/
  | resyncRepeat (qp : Nat)
  /-- WEIR_INTERVAL_END (R254). -/
  | weirIntervalEnd (qp : Nat)
  /-- RATE_IDLE_RESET (R255). -/
  | rateIdleReset (qp : Nat)
  /-- WR_SNAP_GO (R260). -/
  | wrSnapGo (w : RegWr)
  /-- QDEPTH_MAX_READ (R261). -/
  | qdepthMaxRead (link : Nat)
  /-- MAP_PERIOD_END (R262). -/
  | mapPeriodEnd
  /-- MAP_SLOT_EXPIRY (R265). -/
  | mapSlotExpiry (slot : Nat)
  /-- WR_QUERY (R268). -/
  | wrQuery (inst : Nat) (w : RegWr)
  /-- GET_VERSION (R269). -/
  | getVersion (t : Transp)
  /-- GET_CAPABILITIES (R269). -/
  | getCapabilities (t : Transp)
  /-- NEGOTIATE_ALGORITHMS (R269). -/
  | negotiateAlgorithms (t : Transp) (a : SpdmAlgs)
  /-- GET_DIGESTS (R270). -/
  | getDigests (t : Transp)
  /-- GET_CERTIFICATE (R270). -/
  | getCertificate (t : Transp) (slot : Nat) (off : Nat) (len : Nat)
  /-- CHALLENGE (R269). -/
  | challenge (t : Transp) (slot : Nat) (nonce : Bytes)
  /-- GET_MEASUREMENTS (R272). -/
  | getMeasurements (t : Transp) (index : Nat) (nonce : Bytes)
  /-- KEY_EXCHANGE (R273). -/
  | keyExchange (t : Transp) (summary : Nat)
  /-- FINISH (R273). -/
  | finish (sess : Nat) (verifies : Bool)
  /-- KEY_UPDATE (R269). -/
  | keyUpdate (sess : SecuredReq)
  /-- END_SESSION (R271). -/
  | endSession (sess : SecuredReq)
  /-- IDE_KM_KEY_PROG (R137). -/
  | ideKmKeyProg (sess : Option Nat) (stream : Nat) (key : Bytes)
  /-- KEY_INSTALL_INITIAL (R275). -/
  | keyInstallInitial (sess : Option Nat) (m : Bytes)
  /-- KEY_INSTALL_REKEY (R284). -/
  | keyInstallRekey (sess : Option Nat) (m : Bytes)
  /-- KEY_COMMIT (R284). -/
  | keyCommit (sess : Option Nat) (m : Bytes)
  /-- CRYPT_POLICY (R276). -/
  | cryptPolicy (sess : Option Nat) (m : Bytes)
  /-- ADMIT_SET (R286). -/
  | admitSet (sess : Option Nat) (m : Bytes)
  /-- BASIN_ATTEST_FRAGMENT (R285). -/
  | basinAttestFragment (slot : Nat) (b : Bytes)
  /-- CRYPT_QUERY (R291). -/
  | cryptQuery
  /-- SYNKO_APPLY (R304). -/
  | synkoApply (n : Nat)
  /-- SYNKO_DEADLINE (R298). -/
  | synkoDeadline (q : Nat) (i : Nat)
  /-- GATE_TIMEOUT_EXPIRY (R300). -/
  | gateTimeoutExpiry (q : Nat)
  /-- SY_SET (R309). -/
  | sySet (inst : Nat) (w : RegWr)
  /-- SY_ADD (R309). -/
  | syAdd (inst : Nat) (w : RegWr)
  /-- SY_SHARE (R302). -/
  | syShare (inst : Nat) (w : RegWr)
  /-- SY_UNSHARE (R302). -/
  | syUnshare (inst : Nat) (w : RegWr)
  /-- GATE_SET (R301). -/
  | gateSet (inst : Nat) (w : RegWr)
  /-- GATE_CLEAR (R301). -/
  | gateClear (inst : Nat) (w : RegWr)
  /-- GATE_QUERY (R309). -/
  | gateQuery (inst : Nat) (w : RegWr)
  /-- RN_GCMD_CREATE (R313). -/
  | rnGcmdCreate (inst : Nat) (w : RegWr)
  /-- RN_GCMD_DESTROY (R333). -/
  | rnGcmdDestroy (inst : Nat) (w : RegWr)
  /-- RN_GCMD_RESET (R331). -/
  | rnGcmdReset (inst : Nat) (w : RegWr)
  /-- RN_GCMD_QUERY (R333). -/
  | rnGcmdQuery (inst : Nat) (w : RegWr)
  /-- COLL_DATA (R320). -/
  | collData (g : Nat)
  /-- COLL_CREDIT (R321). -/
  | collCredit (g : Nat)
  /-- COLL_ABORT (R331). -/
  | collAbort (g : Nat)
  /-- COLL_VOTE (R323). -/
  | collVote (g : Nat)
  /-- COLL_COMBINE_DONE (R321). -/
  | collCombineDone (g : Nat)
  /-- COLL_TIMEOUT (R331). -/
  | collTimeout (g : Nat)
  /-- RUNNEL_COLL (R329). -/
  | runnelColl (m : Bytes)
  /-- RUNNEL_COLL_ABORT (R331). -/
  | runnelCollAbort (m : Bytes)
  /-- RUNNEL_ACK (R328). -/
  | runnelAck (m : Bytes)
  /-- RUNNEL_RTO_EXPIRY (R328). -/
  | runnelRtoExpiry (slot : Nat)
  /-- RUNNEL_ACK_DELAY_EXPIRY (R328). -/
  | runnelAckDelayExpiry (slot : Nat)
  /-- RUNNEL_STREAM_RESTART (R328). -/
  | runnelStreamRestart (slot : Nat)
  /-- GROUP_START (R337). -/
  | groupStart (q : Nat) (i : Nat)
  /-- FW_NOP (R344). -/
  | fwNop (core : Nat) (slot : Nat)
  /-- MOVI (R344). -/
  | movi (core : Nat) (slot : Nat)
  /-- MOVU (R344). -/
  | movu (core : Nat) (slot : Nat)
  /-- MOVS (R344). -/
  | movs (core : Nat) (slot : Nat)
  /-- UMOV (R344). -/
  | umov (core : Nat) (slot : Nat)
  /-- IADD (R344). -/
  | iadd (core : Nat) (slot : Nat)
  /-- ISUB (R344). -/
  | isub (core : Nat) (slot : Nat)
  /-- IMUL (R344). -/
  | imul (core : Nat) (slot : Nat)
  /-- IMAD (R344). -/
  | imad (core : Nat) (slot : Nat)
  /-- AND (R344). -/
  | and (core : Nat) (slot : Nat)
  /-- OR (R344). -/
  | or (core : Nat) (slot : Nat)
  /-- XOR (R344). -/
  | xor (core : Nat) (slot : Nat)
  /-- SHL (R344). -/
  | shl (core : Nat) (slot : Nat)
  /-- SHR (R344). -/
  | shr (core : Nat) (slot : Nat)
  /-- SAR (R344). -/
  | sar (core : Nat) (slot : Nat)
  /-- IMIN (R344). -/
  | imin (core : Nat) (slot : Nat)
  /-- IMAX (R344). -/
  | imax (core : Nat) (slot : Nat)
  /-- ICMP (R344). -/
  | icmp (core : Nat) (slot : Nat)
  /-- FADD (R347). -/
  | fadd (core : Nat) (slot : Nat)
  /-- FMUL (R347). -/
  | fmul (core : Nat) (slot : Nat)
  /-- FFMA (R347). -/
  | ffma (core : Nat) (slot : Nat)
  /-- FMIN (R347). -/
  | fmin (core : Nat) (slot : Nat)
  /-- FMAX (R347). -/
  | fmax (core : Nat) (slot : Nat)
  /-- FCMP (R344). -/
  | fcmp (core : Nat) (slot : Nat)
  /-- FRCP (R344). -/
  | frcp (core : Nat) (slot : Nat)
  /-- CVT (R347). -/
  | cvt (core : Nat) (slot : Nat)
  /-- MXUNPK (R344). -/
  | mxunpk (core : Nat) (slot : Nat)
  /-- MXPACK (R347). -/
  | mxpack (core : Nat) (slot : Nat)
  /-- VQDEC (R371). -/
  | vqdec (core : Nat) (slot : Nat)
  /-- VQENC (R371). -/
  | vqenc (core : Nat) (slot : Nat)
  /-- SHFL (R344). -/
  | shfl (core : Nat) (slot : Nat)
  /-- VOTE (R344). -/
  | vote (core : Nat) (slot : Nat)
  /-- RED (R344). -/
  | red (core : Nat) (slot : Nat)
  /-- LDL (R344). -/
  | ldl (core : Nat) (slot : Nat)
  /-- STL (R344). -/
  | stl (core : Nat) (slot : Nat)
  /-- LDG (R345). -/
  | ldg (core : Nat) (slot : Nat)
  /-- STG (R345). -/
  | stg (core : Nat) (slot : Nat)
  /-- CPY (R345). -/
  | cpy (core : Nat) (slot : Nat)
  /-- ATOMG (R353). -/
  | atomg (core : Nat) (slot : Nat)
  /-- LDA (R344). -/
  | lda (core : Nat) (slot : Nat)
  /-- FENCE (R346). -/
  | fence (core : Nat) (slot : Nat)
  /-- BRA (R344). -/
  | bra (core : Nat) (slot : Nat)
  /-- CALL (R339). -/
  | call (core : Nat) (slot : Nat)
  /-- RET (R339). -/
  | ret (core : Nat) (slot : Nat)
  /-- EXIT (R348). -/
  | exit (core : Nat) (slot : Nat)
  /-- TRAP (R344). -/
  | trap (core : Nat) (slot : Nat)
  /-- RTE (R344). -/
  | rte (core : Nat) (slot : Nat)
  /-- SETRES (R344). -/
  | setres (core : Nat) (slot : Nat)
  /-- SETSTAT (R344). -/
  | setstat (core : Nat) (slot : Nat)
  /-- SADD (R348). -/
  | sadd (core : Nat) (slot : Nat)
  /-- BRK (R357). -/
  | brk (core : Nat) (slot : Nat)
  /-- WATCHDOG_EXPIRY (R352). -/
  | watchdogExpiry (core : Nat) (slot : Nat)
  /-- CORE_LOST (R354). -/
  | coreLost (core : Nat)
  /-- DBG_LIST (R356). -/
  | dbgList
  /-- DBG_HALT (R356). -/
  | dbgHalt
  /-- DBG_RESUME (R356). -/
  | dbgResume
  /-- DBG_STEP (R356). -/
  | dbgStep
  /-- DBG_READ (R356). -/
  | dbgRead
  /-- DBG_WRITE (R356). -/
  | dbgWrite
  /-- DBG_KILL (R356). -/
  | dbgKill
  /-- DBG_BREAK (R356). -/
  | dbgBreak
  /-- DBG_ATTACH (R355). -/
  | dbgAttach
  /-- DBG_DETACH (R356). -/
  | dbgDetach
  /-- FWDBG_UPDATE_DR (R358). -/
  | fwdbgUpdateDr (block : Bytes)
  /-- CB_SCMD_QUERY (R373). -/
  | cbScmdQuery (inst : Nat) (w : RegWr)
  /-- CB_SCMD_CLEAR (R373). -/
  | cbScmdClear (inst : Nat) (w : RegWr)
  /-- CB_SLOT_ERROR (R364). -/
  | cbSlotError (slot : Nat)
  /-- INST_CREATE (R387). -/
  | instCreate (v : InstVia)
  /-- INST_MODIFY (R388). -/
  | instModify (v : InstVia)
  /-- INST_DESTROY_GRACEFUL (R383). -/
  | instDestroyGraceful (v : InstVia)
  /-- INST_DESTROY_FORCE (R384). -/
  | instDestroyForce (v : InstVia)
  /-- INST_QUERY (R390). -/
  | instQuery (v : InstVia)
  /-- TN_MBX_GO (R131). -/
  | tnMbxGo (w : RegWr)
  /-- MCTP_REQUEST (R130). -/
  | mctpRequest (block : MctpReq)
  /-- MBX_COMMAND_START (R130). -/
  | mbxCommandStart
  /-- SLOT_WRITE (R103). -/
  | slotWrite (readBackOk : Bool)
  /-- SLOT_SELECT_ACTIVE (R104). -/
  | slotSelectActive
  /-- SLOT_SELECT_TRY (R104). -/
  | slotSelectTry
  /-- SLOT_QUERY (R116). -/
  | slotQuery
  /-- IMAGE_LOAD (R110). -/
  | imageLoad
  /-- STAGE_WRITE (R115). -/
  | stageWrite
  /-- FEAT_COMMIT (R113). -/
  | featCommit (w : RegWr)
  /-- FEAT_UNCOMMIT (R114). -/
  | featUncommit (w : RegWr)
  /-- EVENT_LOG_WRITE (R395). -/
  | eventLogWrite
  /-- TN_LOG_ACK_LO_WRITE (R396). -/
  | tnLogAckLoWrite (w : RegWr)
  /-- TN_LOG_ACK_HI_WRITE (R396). -/
  | tnLogAckHiWrite (w : RegWr)
  /-- TN_LOG_RSEL_HI_WRITE (R397). -/
  | tnLogRselHiWrite (w : RegWr)
  /-- TN_INT_STAT_CLEAR (R401). -/
  | tnIntStatClear (w : RegWr)
  /-- TN_INT_EN_WRITE (R401). -/
  | tnIntEnWrite (w : RegWr)
  /-- SELFTEST_START (R403). -/
  | selftestStart (w : RegWr)
  /-- SELFTEST_DONE (R404). -/
  | selftestDone (failed : Option Nat)
  /-- WARM_RST_N_RISE (R57). -/
  | warmRstNRise
  /-- CONFIGURATION_REQUEST (R98). -/
  | configurationRequest
  /-- MANAGER_REPLY (R51). -/
  | managerReply (reqId : Nat) (status : Byte) (data : Bytes)
  /-- HANDOVER_PERIOD (R35). -/
  | handoverPeriod
  /-- WORKER_PERIOD (R23). -/
  | workerPeriod
  /-- OVERFLOW_LENGTH_REPORT (R151). -/
  | overflowLengthReport (slot : Nat) (granules : Nat)
  deriving DecidableEq, Repr

end Sys2Proof
end

