-- ==== Sys2Proof/Decode.lean ====
section
/-!
DEFINITION. The decoder of table words: the rows of spec/opcode_table.json carry no bits.
-/
namespace Sys2Proof

/-- The command a word spells by the table's bits: the table gives no row any bits, so no word spells one. -/
def decodeTableWord (nbits w : Nat) : Option Instr :=
  match nbits, w with
  | _, _ => none

end Sys2Proof
end

