-- ==== Sys2Proof/Config.lean ====
section
/-!
DEFINITION. What the spec leaves to the part or to another standard, as constants with no body: free values, and the
cryptographic primitives that the spec takes from FIPS and RFC texts without restating them. No proof can see a value
of any of them.
-/
namespace Sys2Proof.Config

/-- A fresh value the spec does not fix, applied to the counter `State.freeCtr` (assumption 3). -/
opaque free : Nat → BitVec 64

/-- ECDSA P-384 / SHA-384 verification against the Kequeden key fused in the silicon (R102): input, signature. -/
opaque sigVerifies : Bytes → Bytes → Bool

/-- AES-256-GCM seal (R277): key, IV, AAD, plaintext; the ciphertext, of the plaintext's length. -/
opaque gcmSeal : Bytes → Bytes → Bytes → Bytes → Bytes

/-- The 16-byte AES-256-GCM tag (R277): key, IV, AAD, ciphertext. -/
opaque gcmTag : Bytes → Bytes → Bytes → Bytes → Bytes

/-- AES-256-GCM decryption of a ciphertext (R277): key, IV, AAD, ciphertext. -/
opaque gcmOpen : Bytes → Bytes → Bytes → Bytes → Bytes

/-- HKDF-SHA-384 (R278): input key material, info, output length. -/
opaque hkdf : Bytes → Bytes → Nat → Bytes

/-- The device's ECDSA P-384 signature over a byte string (R269). -/
opaque sign : Bytes → Bytes

/-- The SHA-384 of the boot ROM (R272): the ROM's bytes are not stated. -/
opaque romDigest : Bytes

/-- The certificate chain of slot 0 for a device serial (R270): its DER bytes are not stated. -/
opaque certChain : Nat → Bytes

/-- The HBM stack, modulo 8, that holds the first copy of a record, and the distance of the second (R202): kind,
index. Where the copies lie is not stated (assumption 15). -/
opaque copyStack : Nat → Nat → Nat × Nat

/-- The HBM stack, modulo 8, that holds a 64-byte line of the instance grant pool (`false`) or of the plot (`true`): how
lines lie on stacks is not stated (assumption 17). -/
opaque stackOf : Bool → Nat → Nat

/-- What a plot byte on a lost stack reads as (R244 states no value): plot address (assumption 17). -/
opaque lostByte : Nat → Byte

/-- A link's IPv6 address, from its MAC address (R226): the spec does not say how it is formed (assumption 103). -/
opaque linkIp : Nat → Nat

/-- The next hop's MAC address, from a link's MAC address and a peer's IPv6 address (R226): how it is found is not stated
(assumption 103). -/
opaque nextHop : Nat → Nat → Nat

end Sys2Proof.Config
end

