-- ==== Sys2Proof/Machine/Bits.lean ====
section
/-!
DEFINITION. Bit fields, byte order and CRC-32C: the helpers every other file uses.
-/
namespace Sys2Proof.Machine

/-- Bits `hi` to `lo` of a natural number (R8). -/
def fld (w : Nat) (hi lo : Nat) : Nat := (w / 2 ^ lo) % 2 ^ (hi + 1 - lo)

/-- Bit `n` of a natural number. -/
def bitN (w n : Nat) : Bool := (w / 2 ^ n) % 2 = 1

/-- A flag as a bit value. -/
def bit (b : Bool) : Nat := if b then 1 else 0

/-- The little-endian bytes of a value (R7). -/
def putLE : Nat → Nat → Bytes
  | 0, _ => []
  | n + 1, v => BitVec.ofNat 8 v :: putLE n (v / 256)

/-- The big-endian bytes of a value (R7). -/
def putBE (n v : Nat) : Bytes := (putLE n v).reverse

/-- The value of little-endian bytes. -/
def ofLE : Bytes → Nat
  | [] => 0
  | b :: r => b.toNat + 256 * ofLE r

/-- The value of big-endian bytes. -/
def ofBE (b : Bytes) : Nat := ofLE b.reverse

/-- `len` bytes from offset `off`, fewer where the string ends. -/
def slice (b : Bytes) (off len : Nat) : Bytes := (b.drop off).take len

/-- A little-endian field of `n` bytes at an offset. -/
def getLE (b : Bytes) (off n : Nat) : Nat := ofLE (slice b off n)

/-- A big-endian field of `n` bytes at an offset. -/
def getBE (b : Bytes) (off n : Nat) : Nat := ofBE (slice b off n)

/-- `n` zero bytes. -/
def zeros (n : Nat) : Bytes := List.replicate n 0

/-- Every byte of a range is zero. -/
def zeroIn (b : Bytes) (off len : Nat) : Bool := (slice b off len).all (· = 0)

/-- A string cut or extended with zeros to exactly `n` bytes. -/
def fit (n : Nat) (b : Bytes) : Bytes := b.take n ++ zeros (n - b.length)

/-- Overwrites bytes of a string from an offset, keeping its length. -/
def patch (b : Bytes) (off : Nat) (d : Bytes) : Bytes :=
  b.take off ++ (d.take (b.length - off)) ++ b.drop (off + d.length)

/-- One bit step of the reflected Castagnoli polynomial (R101). -/
def crcBit (c : Word) : Word :=
  if c.getLsbD 0 then (c >>> 1) ^^^ 0x82F63B78#32 else c >>> 1

/-- Eight bit steps. -/
def crcByte (c : Word) (b : Byte) : Word :=
  let c := c ^^^ b.zeroExtend 32
  crcBit (crcBit (crcBit (crcBit (crcBit (crcBit (crcBit (crcBit c)))))))

/-- CRC-32C with the parameters of R101. -/
def crc32c (b : Bytes) : Word := ~~~(b.foldl crcByte 0xFFFFFFFF#32)

/-- The CRC as a number. -/
def crcN (b : Bytes) : Nat := (crc32c b).toNat

/-- One bit step of the reflected polynomial of the Ethernet FCS (PRESUMED, assumption 103). -/
def fcsBit (c : Word) : Word := if c.getLsbD 0 then (c >>> 1) ^^^ 0xEDB88320#32 else c >>> 1

/-- The Ethernet FCS of a frame's bytes (PRESUMED, assumption 103). -/
def fcs32 (b : Bytes) : Word :=
  ~~~(b.foldl (fun c x => (List.range 8).foldl (fun c _ => fcsBit c) (c ^^^ x.zeroExtend 32)) 0xFFFFFFFF#32)

/-- The ones'-complement sum of 16-bit words (PRESUMED, assumption 103). -/
def sum16 : Bytes → Nat
  | [] => 0
  | [a] => a.toNat * 256
  | a :: b :: r => let t := a.toNat * 256 + b.toNat + sum16 r; t % 65536 + t / 65536

/-- The UDP checksum over its pseudo-header and datagram; 0 is sent as 0xFFFF (PRESUMED, assumption 103). -/
def udpSum (b : Bytes) : Nat := let c := 65535 - sum16 b; if c = 0 then 65535 else c

/-- The upper half of a 64-bit counter value. -/
def hi32 (v : Nat) : Word := BitVec.ofNat 32 (v / 2 ^ 32)

/-- The lower half of a 64-bit counter value. -/
def lo32 (v : Nat) : Word := BitVec.ofNat 32 v

/-- Saturating increment of an `n`-bit counter (R405). -/
def satInc (n v : Nat) : Nat := if v + 1 < 2 ^ n then v + 1 else 2 ^ n - 1

/-- Saturating addition in an `n`-bit counter. -/
def satAdd (n v d : Nat) : Nat := if v + d < 2 ^ n then v + d else 2 ^ n - 1

/-- Two half-open ranges share no point; a range of length 0 overlaps nothing (R125). -/
def disjointR (a al b bl : Nat) : Bool := al = 0 || bl = 0 || a + al ≤ b || b + bl ≤ a

/-- No two ranges of a list overlap. -/
def pairwiseDisjoint : List (Nat × Nat) → Bool
  | [] => true
  | (a, l) :: r => r.all (fun x => disjointR a l x.1 x.2) && pairwiseDisjoint r

end Sys2Proof.Machine
end

