-- ==== Sys2Proof/Machine/Tab.lean ====
section
/-!
DEFINITION. Sorted sparse tables and the byte memory built on them: one canonical form, so that equal contents are
equal data.
-/
namespace Sys2Proof.Machine

/-- The value a table lists for a key. -/
def Tab.find {α : Type} : Tab α → Nat → Option α
  | [], _ => none
  | (k, v) :: t, n => if n = k then some v else Tab.find t n

/-- The value for a key, or a default where none is listed. -/
def Tab.getD {α : Type} (t : Tab α) (n : Nat) (d : α) : α := (Tab.find t n).getD d

/-- A key is listed. -/
def Tab.has {α : Type} (t : Tab α) (n : Nat) : Bool := (Tab.find t n).isSome

/-- Lists a value for a key, in place of any value listed before. -/
def Tab.put {α : Type} : Tab α → Nat → α → Tab α
  | [], n, x => [(n, x)]
  | (k, v) :: t, n, x =>
    if n < k then (n, x) :: (k, v) :: t
    else if n = k then (n, x) :: t
    else (k, v) :: Tab.put t n x

/-- Removes a key. -/
def Tab.del {α : Type} : Tab α → Nat → Tab α
  | [], _ => []
  | (k, v) :: t, n => if n = k then Tab.del t n else (k, v) :: Tab.del t n

/-- Applies a function to a listed value. -/
def Tab.modify {α : Type} (t : Tab α) (n : Nat) (f : α → α) : Tab α :=
  match Tab.find t n with
  | none => t
  | some v => Tab.put t n (f v)

/-- Applies a function to every value. -/
def Tab.map {α β : Type} (f : Nat → α → β) (t : Tab α) : Tab β := List.map (fun p => (p.1, f p.1 p.2)) t

/-- Keeps the entries that meet a test. -/
def Tab.keep {α : Type} (f : Nat → α → Bool) (t : Tab α) : Tab α := List.filter (fun p => f p.1 p.2) t

/-- Some entry meets a test. -/
def Tab.some {α : Type} (f : Nat → α → Bool) (t : Tab α) : Bool := List.any t (fun p => f p.1 p.2)

/-- Every entry meets a test. -/
def Tab.every {α : Type} (f : Nat → α → Bool) (t : Tab α) : Bool := List.all t (fun p => f p.1 p.2)

/-- Every key is at least `n`, and the keys rise strictly from there. -/
def Tab.wfFrom {α : Type} : Nat → Tab α → Bool
  | _, [] => true
  | n, (k, _) :: t => decide (n ≤ k) && Tab.wfFrom (k + 1) t

/-- The keys of a table rise strictly. -/
def Tab.wf {α : Type} (t : Tab α) : Bool := Tab.wfFrom 0 t

/-- Inserts an element before the first one that does not precede it. -/
def insertBy {α : Type} (le : α → α → Bool) (x : α) : List α → List α
  | [] => [x]
  | y :: t => if le x y then x :: y :: t else y :: insertBy le x t

/-- A list in the order of a comparison; elements that compare equal keep their order. -/
def sortBy {α : Type} (le : α → α → Bool) : List α → List α
  | [] => []
  | x :: t => insertBy le x (sortBy le t)

/-- Byte memory: an address that is not listed reads as 0 (assumption 2). -/
abbrev Mem := Tab Byte

/-- The canonical form of a memory: addresses strictly rising, no listed byte equal to 0. -/
def Memory.wf (m : Mem) : Bool := Tab.wf m && Tab.every (fun _ b => decide (b ≠ 0)) m

/-- The byte at an address. -/
def Mem.get (m : Mem) (a : Nat) : Byte := Tab.getD m a 0

/-- Writes one byte, keeping the canonical form. -/
def Mem.set (m : Mem) (a : Nat) (b : Byte) : Mem := if b = 0 then Tab.del m a else Tab.put m a b

/-- `n` bytes from an address. -/
def Mem.read (m : Mem) : Nat → Nat → Bytes
  | _, 0 => []
  | a, n + 1 => Mem.get m a :: Mem.read m (a + 1) n

/-- Writes bytes from an address on. -/
def Mem.write (m : Mem) : Nat → Bytes → Mem
  | _, [] => m
  | a, b :: r => Mem.write (Mem.set m a b) (a + 1) r

end Sys2Proof.Machine
end

