-- ==== Sys2Proof/Machine/StBase.lean ====
section
/-!
DEFINITION. State of the device's base: pins, fuses, boot, boot flash, Levee, clocks, ports and links, the Vapen table
and the mailboxes, the event log, interrupts and self-tests (spec files 02, 03, 04, 05 and 18).
-/
namespace Sys2Proof.Machine

/-- The package variant, a fuse (R1). -/
inductive Variant where
  | p
  | d
  deriving DecidableEq, Repr

/-- The partner mode (R1): the codes of the image's MODE field. -/
inductive PMode where
  | p
  | c
  | h
  deriving DecidableEq, Repr

/-- The boot stages (R97). -/
inductive Stage where
  | rom
  | firmware
  | image
  | apply
  | vapen
  | ready
  | hold
  | loading
  | halted
  deriving DecidableEq, Repr

/-- What is fused in the part: the variant, the serial, the MAC base, the silicon revision, the voltage points (LV_VFUSE). -/
structure Fuses where
  /-- The package variant (R1). -/
  variant : Variant
  /-- The device serial (R31). -/
  serial : Nat
  /-- The base of the ports' MAC addresses (R124). -/
  macBase : Nat
  /-- SILICON_REV (R105). -/
  siliconRev : Nat
  /-- LV_VFUSE.VMIN_MV (R66). -/
  vminMv : Nat
  /-- LV_VFUSE.VNOM_MV (register table of spec file 02). -/
  vnomMv : Nat
  deriving DecidableEq, Repr

/-- Pins and device time (R52 to R58, R74, R75, R402). -/
structure Sys where
  /-- The fuses (R1). -/
  fuses : Fuses
  /-- The strap balls as COLD_RST_N's rise sampled them (LV_STRAPS) (R52). -/
  straps : Straps
  /-- COLD_RST_N is low (R52). -/
  coldLow : Bool
  /-- WARM_RST_N is low (R111). -/
  warmLow : Bool
  /-- THERM_TRIP_N is driven low (R58). -/
  thermTrip : Bool
  /-- Device time in ns (R74). -/
  now : Nat
  /-- The half that a read of TN_DEVTIME_LO latched (register table of spec file 02). -/
  devtimeHi : Word
  /-- The origin time of the last PTP Sync (R75). -/
  ptpT1 : Option Nat
  /-- Its arrival (R75). -/
  ptpT2 : Option Nat
  /-- The departure of the delay request (R75). -/
  ptpT3 : Option Nat
  /-- What the time servo still has to correct, in ns (R74). -/
  servo : Int
  /-- TN_TIME_CTRL.LOCKED (register table of spec file 02). -/
  locked : Bool
  /-- Ticks since the servo's last correction of a nanosecond (R74). -/
  subTick : Nat
  /-- The model's own counter of free values taken (assumption 3). -/
  freeCtr : Nat
  deriving DecidableEq, Repr

/-- The BASIN section of an image (R107). -/
structure BasinSec where
  /-- The MAC address of Basin port 0 (R107). -/
  mac0 : Nat
  /-- The MAC address of Basin port 1 (R107). -/
  mac1 : Nat
  /-- The IP address of Basin port 0 (R107). -/
  ip0 : Nat
  /-- The IP address of Basin port 1 (R107). -/
  ip1 : Nat
  /-- The heartbeat period, in 10 µs (R107). -/
  hbPeriod : Nat
  /-- The heartbeats that may be missed (R107). -/
  hbMiss : Nat
  /-- The plot's length in granules (R107). -/
  plotGranules : Nat
  deriving DecidableEq, Repr

/-- The PARTNER section of an image (R107). -/
structure PartnerSec where
  /-- The overflow window's granules (R107). -/
  ovf : Nat
  /-- The push windows (R107). -/
  push : Nat
  deriving DecidableEq, Repr

/-- The structure a Bennath image describes. -/
structure Image where
  /-- MIN_LEVEL (R106). -/
  minLevel : Nat
  /-- MODE (R108). -/
  mode : PMode
  /-- ROLE_CAP (R107). -/
  roleCap : Nat
  /-- IMAGE_ID (R409). -/
  imageId : Nat
  /-- CARVE: on-chip queue-pair contexts, granules (R107). -/
  qpc : Nat
  /-- CARVE: span cache, granules (R107). -/
  spanc : Nat
  /-- CARVE: codebook store, granules (R107). -/
  cb : Nat
  /-- CARVE: Furrow local store, granules (R107). -/
  fls : Nat
  /-- PORTS: two bits of breakout a port (R107). -/
  brk : Nat
  /-- PORTS: the UDP port of routed mode (R107). -/
  udpPort : Nat
  /-- PORTS: the framings (R107). -/
  framing : Nat
  /-- POOLS: QP_MAX (R107). -/
  qpMax : Nat
  /-- POOLS: CQ_MAX (R107). -/
  cqMax : Nat
  /-- POOLS: SPAN_MAX (R107). -/
  spanMax : Nat
  /-- POOLS: KEY_MAX (R107). -/
  keyMax : Nat
  /-- POOLS: SYNKO_MAX (R107). -/
  synkoMax : Nat
  /-- POOLS: INST_MAX (R107). -/
  instMax : Nat
  /-- POOLS: CB_SLOTS (R107). -/
  cbSlots : Nat
  /-- The BASIN section (R107). -/
  basin : Option BasinSec
  /-- The PARTNER section (R107). -/
  partner : Option PartnerSec
  /-- FEATMASK: the features withheld (R107). -/
  featmask : Nat
  deriving DecidableEq, Repr

/-- A boot candidate's slot. -/
inductive SlotId where
  | a
  | b
  | golden
  deriving DecidableEq, Repr

/-- Where the applied image came from, so that a warm reset can read it again. -/
inductive ImgSrc where
  | slot (i : SlotId)
  | builtin
  deriving DecidableEq, Repr

/-- One byte of BN_CAND: TRIED and the status of abandonment. -/
structure Cand where
  /-- TRIED (R96). -/
  tried : Bool
  /-- The status the candidate was abandoned with (R96). -/
  status : Byte
  deriving DecidableEq, Repr

/-- The boot record the AON domain keeps (R111), with the pending partner reset of R146. -/
structure BootRec where
  /-- The slot that booted (R111). -/
  slot : SlotId
  /-- Where the applied image came from (R111). -/
  src : ImgSrc
  /-- That image's digest (R111). -/
  digest : Bytes
  /-- The run level (R111). -/
  runLevel : Nat
  /-- The committed features (R111). -/
  feat : BitVec 128
  /-- COMMITTED (R111). -/
  committed : Bool
  /-- The cause of a partner reset that a warm reset cut off (R146). -/
  prstPending : Option Byte
  /-- The record's CRC-32C (R111). -/
  crc : Word
  deriving DecidableEq, Repr

/-- Boot state (R96 to R112). -/
structure Boot where
  /-- BN_STATUS.STAGE (R97). -/
  stage : Stage
  /-- BN_STATUS.STATUS (R106). -/
  status : Byte
  /-- BN_STATUS.SLOT (register table of spec file 04). -/
  slot : SlotId
  /-- BN_STATUS.WARM (R112). -/
  warm : Bool
  /-- BN_STATUS.RESUME_LOST (R112). -/
  resumeLost : Bool
  /-- BN_STATUS.HBM_FAIL (R114). -/
  hbmFail : BitVec 8
  /-- BN_LEVEL.RUN_LEVEL (register table of spec file 04). -/
  runLevel : Nat
  /-- BN_TENDER_TAG (register table of spec file 04). -/
  tenderTag : Nat
  /-- BN_SLUICE_TAG (register table of spec file 04). -/
  sluiceTag : Nat
  /-- BN_CAND, slot A (R96). -/
  candA : Cand
  /-- BN_CAND, slot B (R96). -/
  candB : Cand
  /-- BN_CAND, golden (R96). -/
  candG : Cand
  /-- The half that a read of BN_IMAGE_ID_LO latched (register table of spec file 04). -/
  idHi : Word
  /-- The candidates still to try, each with whether it is a trial (R96). -/
  cands : List (SlotId × Bool)
  /-- The slot whose bundle runs (R96). -/
  cur : Option SlotId
  /-- Candidates abandoned in this boot (R98). -/
  abandoned : Nat
  /-- The status of the first one abandoned (R106). -/
  firstStatus : Option Byte
  /-- A candidate failed on its compatibility entries (R106). -/
  anyMismatch : Bool
  /-- The ACTIVE slot did (R106). -/
  activeMismatch : Bool
  /-- This boot follows a warm reset (R111). -/
  warmBoot : Bool
  /-- The image that passed the checks, and its digest (R108). -/
  accepted : Option (Image × Bytes)
  /-- HBM training has ended (R97). -/
  trained : Bool
  /-- The image applied (R109). -/
  image : Option Image
  /-- Its digest (R111). -/
  digest : Bytes
  /-- Where it came from (R111). -/
  src : ImgSrc
  /-- The boot record in the AON domain (R111). -/
  bootRec : Option BootRec
  /-- The HBM stacks in service (R97). -/
  hbmInService : BitVec 8
  /-- The Furrow cores in service (R124). -/
  coreMask : BitVec 48
  /-- The last warm reset found the device READY with a record (R111). -/
  resumable : Bool
  /-- The measured sections of what booted (R272). -/
  sections : List Bytes
  /-- The plot's length in granules as applied (R408). -/
  plotGranules : Nat
  /-- The staging buffer (R115). -/
  staged : Mem
  deriving DecidableEq, Repr

/-- Boot flash (R99 to R104): the two directory copies as lists of 64-byte records, the slots as the bytes programmed
into them (erased flash beyond), and the identifiers of the golden built-in images for P, C and H mode (R106). -/
structure Flash where
  /-- Directory copy 0: 64-byte records (R100). -/
  dir0 : List Bytes
  /-- Directory copy 1 (R100). -/
  dir1 : List Bytes
  /-- Slot A (R102). -/
  a : Bytes
  /-- Slot B (R102). -/
  b : Bytes
  /-- The golden slot (R106). -/
  golden : Bytes
  /-- The IMAGE_ID of the golden P-mode image (R409). -/
  idP : Nat
  /-- The IMAGE_ID of the golden C-mode image (R409). -/
  idC : Nat
  /-- The IMAGE_ID of the golden H-mode image (R409). -/
  idH : Nat
  deriving DecidableEq, Repr

/-- Feature negotiation (R113, R114). -/
structure Feat where
  /-- VP_FEATOFFER (R113). -/
  offer : BitVec 128
  /-- VP_FEATACK (R113). -/
  ack : BitVec 128
  /-- VP_FEATSTAT.COMMITTED (R113). -/
  committed : Bool
  /-- The committed subset (R114). -/
  subset : BitVec 128
  /-- VP_FEATSTAT.CONFLICT_BIT (R113). -/
  conflict : Nat
  /-- VP_FEATSTAT.STATUS (R113). -/
  status : Byte
  deriving DecidableEq, Repr

/-- The Vapen table and the rejected-write capture (R120 to R128). -/
structure Vapen where
  /-- VP_WERR_STAT.VALID (R128). -/
  werrValid : Bool
  /-- VP_WERR_STAT.MULTI (R128). -/
  werrMulti : Bool
  /-- VP_WERR_STAT.STATUS (R128). -/
  werrStatus : Byte
  /-- VP_WERR_STAT.COUNT (R128). -/
  werrCount : Nat
  /-- VP_WERR_ADDR (R128). -/
  werrAddr : Word
  /-- VP_WERR_DATA (R128). -/
  werrData : Word
  /-- VP_WERR_SRC.INST where INST_VALID (R128). -/
  werrInst : Option Nat
  /-- VP_WERR_SRC.SRC (R128). -/
  werrSrc : Src
  /-- VP_TSTAT.VALID (R120). -/
  tvalid : Bool
  /-- VP_GEN (R121). -/
  gen : Nat
  /-- The placement of everything in the control window (R125). -/
  layout : Option Layout
  /-- The Vapen table's bytes (R122). -/
  table : Bytes
  deriving DecidableEq, Repr

/-- Where a mailbox request came from and where its response goes. -/
inductive MbxFrom where
  | host
  | mctp
  | jtag
  | tender
  deriving DecidableEq, Repr

/-- A mailbox request that has passed checks 1 to 3 of R130. -/
structure MbxReq where
  /-- Where the request came from (R129). -/
  origin : MbxFrom
  /-- CODE (R130). -/
  code : Nat
  /-- FLAGS.INTR (R129). -/
  intr : Bool
  /-- TAG (R129). -/
  tag : Nat
  /-- The parameters (R129). -/
  params : Bytes
  /-- Its response is thrown away (R131). -/
  discard : Bool
  deriving DecidableEq, Repr

/-- The host-link mailbox's states (R131). -/
inductive MbxState where
  | idle
  | busy
  | done
  deriving DecidableEq, Repr

/-- Both mailboxes (R129 to R132): Tender runs one command at a time, in order of acceptance. -/
structure Mbx where
  /-- TN_MBX_STAT.STATE (R131). -/
  st : MbxState
  /-- TN_MBX_STAT.LOST (R132). -/
  lost : Bool
  /-- TN_MBX_STAT.STATUS (R129). -/
  status : Byte
  /-- TN_MBX_REQ (R131). -/
  req : Mem
  /-- TN_MBX_RSP (R131). -/
  rsp : Bytes
  /-- Accepted requests of both mailboxes, oldest first (R130). -/
  waiting : List MbxReq
  /-- The command that runs (R130). -/
  running : Option MbxReq
  deriving DecidableEq, Repr

/-- A voltage command in progress (R67, R68). -/
structure VCmd where
  /-- TARGET_MV (R66). -/
  target : Nat
  /-- TAG (R67). -/
  tag : Nat
  /-- The voltage at acceptance, in 100 nV (R68). -/
  atV : Nat
  /-- The time of acceptance (R68). -/
  since : Nat
  /-- LV_CTRL.SLEW as sent to the regulator (R67). -/
  slew : Nat
  deriving DecidableEq, Repr

/-- One Levee region (R61 to R65). -/
structure Region where
  /-- Throttled for its own current (R63). -/
  thrOwn : Bool
  /-- Throttled for the package (R63). -/
  thrPkg : Bool
  /-- Since when (R63). -/
  since : Nat
  /-- OC_PERSIST has been raised in this episode (R63). -/
  persisted : Bool
  /-- LV_REGION_STATUS.OC_PERSIST (R63). -/
  ocPersist : Bool
  /-- LV_REGION_STATUS.OC (R63). -/
  oc : Bool
  /-- LV_REGION_STATUS.DISAGREE (R65). -/
  disagree : Bool
  /-- LV_REGION_STATUS.DROP (R65). -/
  drop : Bool
  /-- LV_REGION_STATUS.B_OPEN (R64). -/
  bOpen : Bool
  /-- LV_REGION_STATUS.A_OPEN (R64). -/
  aOpen : Bool
  /-- LV_REGION_STATUS.SENSE_EVT (R64). -/
  senseEvt : Bool
  /-- LV_REGION_V.VA (R64). -/
  va : Nat
  /-- LV_REGION_V.VB (R64). -/
  vb : Nat
  /-- LV_REGION_D.XN (R65). -/
  xn : Int
  /-- LV_REGION_D.VDIE (R63). -/
  vdie : Nat
  /-- LV_REGION_I.I_EST (R63). -/
  iEst : Nat
  /-- When the boost bank last engaged, until the grid is seen back in its band (R62). -/
  boost : Option Nat
  /-- When the shunt bank did (R62). -/
  shunt : Option Nat
  deriving DecidableEq, Repr

/-- Levee (R61 to R70): regions, the voltage command path, regulator telemetry. -/
structure Levee where
  /-- The regions that have left their reset values (R61). -/
  regions : Tab Region
  /-- LV_VSTAT.READY (R66). -/
  ready : Bool
  /-- LV_VSTAT.CUR_TAG (register table of spec file 02). -/
  curTag : Nat
  /-- LV_VSTAT.VNOW_MV (register table of spec file 02). -/
  vnow : Nat
  /-- The voltage command in progress (BUSY) (R66). -/
  cmd : Option VCmd
  /-- The last target sent to the regulator, in mV (R67, R68). -/
  target : Nat
  /-- The SLEW it turns at (R67). -/
  rate : Nat
  /-- The regulator's output where its present course began or was last read back, in 100 nV (R67). -/
  outV : Nat
  /-- When that was (R67). -/
  outAt : Nat
  /-- LV_VDONE: tags and statuses, oldest first (R69). -/
  done : List (Nat × Byte)
  /-- LV_VDONE.LOST (R69). -/
  lost : Nat
  /-- Each regulator's last fault word (R59). -/
  pmbus : Tab Nat
  deriving DecidableEq, Repr

/-- Clock state (R71 to R73). -/
structure Clk where
  /-- LV_CLK_STAT.HBM_LOCK (register table of spec file 03). -/
  hbmLock : BitVec 8
  /-- LV_CLK_STAT.HOST_LOCK (register table of spec file 03). -/
  hostLock : Bool
  /-- LV_CLK_STAT.TN_LOCK (register table of spec file 03). -/
  tnLock : Bool
  /-- LV_CLK_STAT.FW_LOCK (register table of spec file 03). -/
  fwLock : Bool
  /-- LV_CLK_STAT.SL_LOCK (register table of spec file 03). -/
  slLock : Bool
  /-- LV_CLK_STAT.AON_LOCK (register table of spec file 03). -/
  aonLock : Bool
  /-- The blocks whose clock is gated (R71). -/
  gated : List Blk
  /-- Wakes held until the throttle ends (R72). -/
  heldWakes : List Blk
  /-- Since when all 48 Furrow cores have been gated without a break (R73). -/
  furrowFrom : Option Nat
  deriving DecidableEq, Repr

/-- MOD_STATE (SL_PORT_STATUS). -/
inductive ModState where
  | none
  | initialising
  | ready
  | incompatible
  | fault
  deriving DecidableEq, Repr

/-- One Ethernet port (R76 to R81). -/
structure Port where
  /-- SL_PORT_STATUS.MEDIA (R76). -/
  media : Nat
  /-- SL_PORT_STATUS.MOD_STATE (R80). -/
  modState : ModState
  /-- CMIS polls missed in a row (R80). -/
  missed : Nat
  /-- SL_PORT_STATUS.FAILED (R93). -/
  failed : Bool
  /-- The module's memory, by page and offset (R79). -/
  modMem : Mem
  deriving DecidableEq, Repr

/-- A foreground calibration's state (R83). -/
inductive CalState where
  | idle
  | pending
  | running
  deriving DecidableEq, Repr

/-- Dormancy states with the codes of R89. -/
inductive Dorm where
  | down
  | ineligible
  | active
  | entering
  | dormant
  | waking
  | retrain
  deriving DecidableEq, Repr

/-- One link's calibration, training and dormancy state (R83 to R94). -/
structure LinkSt where
  /-- LINK_UP (register table of spec file 03). -/
  up : Bool
  /-- Since when the link is down (R244). -/
  downAt : Option Nat
  /-- MERGE_ACTIVE (R78). -/
  merge : Bool
  /-- The MAC merge verification runs (R78, R89). -/
  verify : Bool
  /-- SL_CAL_STAT.STATE (R83). -/
  cal : CalState
  /-- SL_CAL_STAT.TAG (register table of spec file 03). -/
  calTag : Nat
  /-- SL_CAL_STAT.STATUS (register table of spec file 03). -/
  calStatus : Byte
  /-- When the calibration was asked for (R83). -/
  calSince : Nat
  /-- SL_DORM_STAT.STATE (R89). -/
  dorm : Dorm
  /-- SL_DORM_STAT.MASTER (R85). -/
  master : Bool
  /-- SL_DORM_STAT.LINK_DELAY (R87). -/
  delay : Nat
  /-- SL_DORM_STAT.AGREED (R85). -/
  agreed : Nat
  /-- The peer's serial (R88). -/
  peer : Option Nat
  /-- OFFERs sent (R87). -/
  offerSent : Nat
  /-- When the last one left (R87). -/
  offerAt : Nat
  /-- The delay is measured (R87). -/
  measured : Bool
  /-- The peer's MAX_INTERVAL (R85). -/
  peerCap : Option Nat
  /-- The peer offers dormancy (R85). -/
  peerCapable : Bool
  /-- The TOKEN of the ENTER in flight (R88). -/
  token : Byte
  /-- When it left (R89). -/
  enterAt : Option Nat
  /-- The references are fixed (R89). -/
  ackFixed : Bool
  /-- The reference instant (R89). -/
  reference : Nat
  /-- The next window's instant (R89). -/
  wakeAt : Nat
  /-- HELLO has been sent in this window (R90). -/
  helloSent : Bool
  /-- Its flags (R90). -/
  helloFlags : Byte
  /-- The interval is to be agreed again (R86). -/
  reneg : Bool
  /-- The instants of recent misses (R94). -/
  missAt : List Nat
  /-- Since when the link trains (R93). -/
  trainSince : Option Nat
  /-- When the link last carried traffic (R89). -/
  busyAt : Nat
  /-- Work is held for the window (R92). -/
  held : Bool
  /-- Frames discarded: link control frames that fail their checks (R88), frames received during a calibration (R83). -/
  dropped : Nat
  /-- PAUSE and priority flow-control frames received (R77). -/
  pauses : Nat
  deriving DecidableEq, Repr

/-- An event before it is written (R394): everything but its SEQ. -/
structure Ev where
  /-- TIME (R394). -/
  time : Nat
  /-- EVENT (R394). -/
  id : Nat
  /-- STATUS (R394). -/
  status : Byte
  /-- SOURCE (R394). -/
  source : Nat
  /-- Severity (R394). -/
  sev : Nat
  /-- UNIT (R394). -/
  unit : Nat
  /-- DETAIL (R394). -/
  detail : Bytes
  deriving DecidableEq, Repr

/-- An entry of the event log. -/
structure LogEnt where
  /-- SEQ (R395). -/
  seq : Nat
  /-- REPEATS (R394). -/
  rep : Nat
  /-- The event (R394). -/
  ev : Ev
  deriving DecidableEq, Repr

/-- TN_LOG_RSTAT. -/
inductive RStat where
  | none
  | valid
  | gone
  | future
  deriving DecidableEq, Repr

/-- The event log and its registers (R394 to R400): entries newest first. -/
structure Log where
  /-- The entries, newest first (R395). -/
  entries : List LogEnt
  /-- Events not yet written, oldest first (R396). -/
  staged : List Ev
  /-- TN_LOG_HEAD (R396). -/
  head : Nat
  /-- TN_LOG_ACK (R396). -/
  ack : Nat
  /-- The low half staged by a write of TN_LOG_ACK_LO (R396). -/
  ackLo : Word
  /-- The half latched by a read of the low half of HEAD (register table of spec file 18). -/
  headHi : Word
  /-- The half latched by a read of the low half of ACK (register table of spec file 18). -/
  ackHi : Word
  /-- TN_LOG_LOST (R396). -/
  lost : Nat
  /-- TN_LOG_DROPPED (R396). -/
  dropped : Nat
  /-- TN_LOG_RSEL_LO (R397). -/
  rselLo : Word
  /-- TN_LOG_RSEL_HI (R397). -/
  rselHi : Word
  /-- TN_LOG_RSTAT (R397). -/
  rstat : RStat
  /-- The copy window (R397). -/
  window : Bytes
  deriving DecidableEq, Repr

/-- Device interrupts (R401). -/
structure Intr where
  /-- TN_INT_STAT (R401). -/
  stat : BitVec 6
  /-- TN_INT_EN (R401). -/
  en : BitVec 6
  deriving DecidableEq, Repr

/-- Self-test state (R403, R404): STATE of TN_ST_STAT is IDLE, RUNNING or DONE. -/
structure SelfTest where
  /-- A test runs (R404). -/
  running : Bool
  /-- TN_ST_STAT.STATE is DONE (R404). -/
  done : Bool
  /-- TN_ST_STAT.RESULT (R404). -/
  result : Bool
  /-- TN_ST_STAT.TAG (R404). -/
  tag : Nat
  /-- The target under test (R403). -/
  target : Nat
  /-- The unit under test (R403). -/
  unit : Nat
  /-- Since when (R403). -/
  started : Nat
  /-- TN_ST_DETAIL (R404). -/
  detail : Nat
  deriving DecidableEq, Repr

end Sys2Proof.Machine
end

