-- ==== Sys2Proof/Machine/StBasin.lean ====
section
/-!
DEFINITION. State of the device's place in the Basin: role, epochs, leases, claims, the directory (spec file 01).
-/
namespace Sys2Proof.Machine

/-- Basin roles (role table). -/
inductive Role where
  | unjoined
  | worker
  | standby
  | active
  | claiming
  | yielding
  deriving DecidableEq, Repr

/-- The role codes of TN_BASIN_STATE.ROLE. -/
def Role.code : Role → Nat
  | .unjoined => 0
  | .worker => 1
  | .standby => 2
  | .active => 3
  | .claiming => 4
  | .yielding => 5

/-- What follows the commit of a directory change (R29): a control record to a serial, or a command's reply. -/
inductive AfterCommit where
  | nothing
  | record (type : Nat) (serial : Nat) (subject : Nat)
  | reply (slot : Nat) (reqId : Nat) (data : Bytes)
  | replyEpoch (slot : Nat) (reqId : Nat)
  deriving DecidableEq, Repr

/-- A directory change sent to the standby and not yet acknowledged. -/
structure PendDir where
  /-- The change's number (R29). -/
  seq : Nat
  /-- The directory as changed (R29). -/
  dir : Directory
  /-- Whether the epoch rises with it (R21). -/
  bump : Nat
  /-- What follows the commit (R29). -/
  after : AfterCommit
  /-- When it went to the standby (R29). -/
  since : Nat
  deriving DecidableEq, Repr

/-- A manager-bound mailbox command waiting at its issuer (R36). -/
structure HeldCmd where
  /-- REQ_ID (R51). -/
  reqId : Nat
  /-- Held since (R36). -/
  since : Nat
  /-- The mailbox code (R51). -/
  code : Nat
  /-- The parameters (R51). -/
  params : Bytes
  /-- The requester's instance (R49). -/
  inst : Nat
  /-- Where the placement records go (R49). -/
  resultAddr : Nat
  /-- The key named for them (R49). -/
  resultKey : Nat
  deriving DecidableEq, Repr

/-- The Basin state of one device. -/
structure Basin where
  /-- TN_BASIN_STATE.ROLE (register table of spec file 01). -/
  role : Role
  /-- Own slot (R23). -/
  slot : Nat
  /-- TN_BASIN_STATE.PLOT (register table of spec file 01). -/
  plot : Nat
  /-- TN_BASIN_STATE.MIRROR_OF (register table of spec file 01). -/
  mirrorOf : Nat
  /-- TN_BASIN_STATE.NOTICED (R25). -/
  noticed : Bool
  /-- TN_BASIN_STATE.VOID (R40). -/
  void : Bool
  /-- TN_BASIN_STATE.PAIRED (register table of spec file 01). -/
  paired : Bool
  /-- TN_BASIN_STATE.STBY_PRESENT (register table of spec file 01). -/
  stby : Bool
  /-- TN_BASIN_EPOCH (R24). -/
  epoch : Nat
  /-- End of this device's part of the recovery window (R39). -/
  ownWin : Option Nat
  /-- End of the Basin's part (R39). -/
  basinWin : Option Nat
  /-- The heartbeat period in force, in 10 µs (R26). -/
  period : Nat
  /-- The misses in force (R26). -/
  miss : Nat
  /-- The period announced for the next switch (R30). -/
  nextPeriod : Nat
  /-- The misses announced with it (R30). -/
  nextMiss : Nat
  /-- The announced parameters are adopted (R30). -/
  adopted : Bool
  /-- The cached plot map (R17). -/
  map : PlotMap
  /-- New Basin accesses wait for a fetched map (R18). -/
  holdNew : Bool
  /-- Heartbeats missed in a row (R27). -/
  missedHb : Nat
  /-- The manager is missing (R27). -/
  mgrMissing : Bool
  /-- The active manager's serial (R22). -/
  mgrSerial : Option Nat
  /-- Its slot (R22). -/
  mgrSlot : Nat
  /-- When its last heartbeat came (R27). -/
  lastHb : Nat
  /-- The grant given: serial and epoch (R31). -/
  grant : Option (Nat × Nat)
  /-- The successor a HANDOVER named (R35). -/
  handoverTo : Option Nat
  /-- Since when a LEAVE is under way (R23). -/
  leaveSince : Option Nat
  /-- Since when a reset notice is under way (R25). -/
  noticeSince : Option Nat
  /-- When the notice was acknowledged (R25). -/
  noticedAt : Nat
  /-- The notice is answered when the acknowledgement comes (R25). -/
  answerNoticed : Bool
  /-- When the first JOIN left (R23). -/
  firstJoin : Option Nat
  /-- Serials attested in this life (R286). -/
  attested : List Nat
  /-- The own plot is being copied to a new mirror (COPYING, R51). -/
  copying : Bool
  /-- The next offset of that copy, none while a part is under way and after the last (R51). -/
  copyAt : Option Nat
  /-- SEQ of the active manager's last HEARTBEAT (R48). -/
  hbSeen : Option Nat
  /-- Serials named by LOST records, each with the time of the last one (R23, R39). -/
  lostSeen : List (Nat × Nat)
  deriving DecidableEq, Repr

/-- The manager side of a device: directory, lease, claim, hand-over. -/
structure Mgr where
  /-- The Basin directory (R29). -/
  dir : Directory
  /-- Changes sent to the standby and not acknowledged (R29). -/
  pend : List PendDir
  /-- The last change's number (R29). -/
  repSeq : Nat
  /-- The last renewal of the lease (R28). -/
  lease : Nat
  /-- The heartbeat SEQ (R48). -/
  hbSeq : Nat
  /-- When the first heartbeat of this rule left (R30). -/
  firstHb : Option Nat
  /-- The parameter switch is announced (R30). -/
  switched : Bool
  /-- When PERIOD last changed while this device was active (R30). -/
  periodAt : Option Nat
  /-- LOST records still to send (R23). -/
  lostNotices : List (Nat × Nat)
  /-- The claim follows a HANDOVER (R35). -/
  claimPlanned : Bool
  /-- Start of the claim (R33). -/
  claimSince : Nat
  /-- Serials that granted it (R33). -/
  grants : List Nat
  /-- Since when they are a majority (R33). -/
  majoritySince : Option Nat
  /-- Start of the yielding (R35). -/
  yieldSince : Nat
  /-- The successor chosen (R35). -/
  successor : Option Nat
  /-- The standby's serial (R29). -/
  standby : Option Nat
  /-- The epoch this device became active in (R26). -/
  activeEpoch : Nat
  /-- When the load of the plots was last counted (R30). -/
  loadAt : Nat
  /-- Manager-bound commands held at their issuer (R36). -/
  held : List HeldCmd
  /-- Control records discarded (R48). -/
  discards : Nat
  deriving DecidableEq, Repr

end Sys2Proof.Machine
end

