-- ==== Sys2Proof/Machine/StCrypt.lean ====
section
/-!
DEFINITION. Security state: policy, admission list (spec file 12).
-/
namespace Sys2Proof.Machine

/-- The encryption policy and the admission list of measurement summaries (R276, R286). -/
structure Policy where
  /-- REQUIRE_ENC (R276). -/
  requireEnc : Bool
  /-- BASIN_ENC (R276). -/
  basinEnc : Bool
  /-- LOCK (R276). -/
  lock : Bool
  /-- The admission list (R286). -/
  admission : List Bytes
  deriving DecidableEq, Repr

end Sys2Proof.Machine
end

