-- ==== Sys2Proof/Machine/StCore.lean ====
section
/-!
DEFINITION. State of the work queues, completion queues, spans, keys, queue pairs and instances (spec files 07, 08, 09,
10 and 17).
-/
namespace Sys2Proof.Machine

/-- Where a translated byte lies: device-private HBM of the instance pool, the device's plot, or partner memory. -/
inductive Space where
  | hbm
  | plot
  | partner
  deriving DecidableEq, Repr

/-- A translated address. -/
structure Loc where
  /-- Which memory (R204). -/
  space : Space
  /-- The address in it (R204). -/
  addr : Nat
  deriving DecidableEq, Repr

/-! ### Queues (R155 to R180) -/

/-- The kinds of a work queue (R155), in the code order of HG_QCFG.KIND. -/
inductive QKind where
  | sq
  | rq
  | lq
  deriving DecidableEq, Repr

/-- The states of a work queue (R174); FREE is a queue that is not listed. -/
inductive QState where
  | disabled
  | enabled
  | draining
  | error
  deriving DecidableEq, Repr

/-- A queue gate (R299). -/
structure Gate where
  /-- COUNTER (R299). -/
  counter : Nat
  /-- BASE (R299). -/
  base : Nat
  /-- STEP (R299). -/
  step : Nat
  /-- EVERY (R299). -/
  every : Nat
  /-- ORIGIN (R299). -/
  origin : Nat
  /-- GATE_TIMEOUT, ms (R300). -/
  timeout : Nat
  deriving DecidableEq, Repr

/-- A copy in the descriptor cache (R162, R164): pushed or from the ring, with the reads made of a failing entry. -/
structure CacheEnt where
  /-- The copy (R162). -/
  bytes : Bytes
  /-- It came by a push (R162). -/
  pushed : Bool
  /-- Reads made of an entry that fails its checks (R164). -/
  reads : Nat
  deriving DecidableEq, Repr

/-- One work queue (R155 to R176). -/
structure Wq where
  /-- Its instance (R156). -/
  inst : Nat
  /-- KIND (R155). -/
  kind : QKind
  /-- PUSH_EN (R160). -/
  pushEn : Bool
  /-- WEIGHT (R166). -/
  weight : Nat
  /-- What its instance's round still grants it (R166). -/
  turn : Nat
  /-- PF_DEPTH (R162). -/
  pfDepth : Nat
  /-- RING_LOG2 (R157). -/
  ringLog2 : Nat
  /-- The ring's address (R157). -/
  ring : Nat
  /-- Its queue pair (R155). -/
  qp : Nat
  /-- Its completion queue (R165). -/
  cq : Nat
  /-- PUSH_IDX (R160). -/
  pushIdx : Nat
  /-- OUTSTANDING (R163). -/
  limit : Nat
  /-- HG_QSTAT.STATE (R174). -/
  st : QState
  /-- PI (R160). -/
  pi : Nat
  /-- CI (R163). -/
  ci : Nat
  /-- ERR_STATUS (R176). -/
  errStatus : Byte
  /-- The error entry is owed (R176). -/
  errOwed : Bool
  /-- An invalidation fence: START and COUNT (R168). -/
  fence : Option (Nat × Nat)
  /-- Pushes that wait for their spill before PI advances, oldest first (R162). -/
  pushHeld : List Bytes
  /-- HG_INV_START (R168). -/
  invStart : Word
  /-- HG_INV_STAT.DONE (R168). -/
  invDone : Bool
  /-- HG_INV_STAT.TAG (R168). -/
  invTag : Nat
  /-- HG_INV_CI (R168). -/
  invCi : Nat
  /-- The descriptor cache (R162). -/
  cache : Tab CacheEnt
  /-- Its gate (R299). -/
  gate : Option Gate
  /-- Since when the gate holds the entry at CI (R300). -/
  holdSince : Option Nat
  /-- The ARM_FIRE that last fired it (R297). -/
  fireTag : Option (Nat × Nat)
  deriving DecidableEq, Repr

/-- What an engine found when it finished an entry (R196, R197). -/
structure Done where
  /-- STATUS (R196). -/
  status : Byte
  /-- CFLAGS (R196). -/
  cflags : Nat
  /-- DETAIL (R196). -/
  detail : Nat
  /-- BYTES (R197). -/
  bytes : Nat
  /-- AUX (R197). -/
  aux : Nat
  deriving DecidableEq, Repr

/-- An in-flight record (R163, R166): an accepted entry until its completion entry and its Synko increment. -/
structure Infl where
  /-- The entry (R163). -/
  ent : Bytes
  /-- Its place in the order of acceptance (R192). -/
  seq : Nat
  /-- It is dispatched (R166). -/
  disp : Bool
  /-- Its result (R197). -/
  done : Option Done
  /-- Its completion entry is written (R170). -/
  written : Bool
  /-- It no longer counts as outstanding (R163). -/
  retired : Bool
  /-- The deadline of a wait (R298). -/
  deadline : Option Nat
  /-- When its operands were admitted, in the order of accesses (R212). -/
  adm : Option Nat
  /-- The keys it was admitted under (R212). -/
  keys : List Nat
  /-- The spans it uses (R207, R218). -/
  spans : List Nat
  /-- A launch's argument block, as it was read (R194, R195). -/
  args : Option Bytes
  deriving DecidableEq, Repr

/-- One completion queue (R169 to R173); FREE is a queue that is not listed. -/
structure Cq where
  /-- Its instance (R169). -/
  inst : Nat
  /-- VECTOR (R172). -/
  vector : Nat
  /-- MOD_COUNT (R172). -/
  modCount : Nat
  /-- CQ_LOG2 (R169). -/
  log2 : Nat
  /-- The ring's address (R169). -/
  ring : Nat
  /-- MOD_TIME, µs (R172). -/
  modTime : Nat
  /-- The queue is in ERROR (R173). -/
  error : Bool
  /-- ERR_STATUS (R173). -/
  errStatus : Byte
  /-- CPI (R169). -/
  cpi : Nat
  /-- CCI (R171). -/
  cci : Nat
  /-- ARMED (R172). -/
  armed : Bool
  /-- Entries written since arming (R172). -/
  armCount : Nat
  /-- When the first of them was (R172). -/
  armFrom : Option Nat
  /-- LOST (R173). -/
  lost : Nat
  deriving DecidableEq, Repr

/-! ### Spans and keys (R200 to R225) -/

/-- The kinds of a span, in the code order of SP_ATTR.KIND. -/
inductive SKind where
  | ats
  | phys
  | hbm
  | basin
  | plot
  deriving DecidableEq, Repr

/-- A span record (R222). `bad1` and `bad2` say that a copy fails its CRC (R202). -/
structure Span where
  /-- INSTANCE (R222). -/
  inst : Nat
  /-- KIND (R222). -/
  kind : SKind
  /-- START (R222). -/
  start : Nat
  /-- LENGTH (R222). -/
  len : Nat
  /-- TARGET (R222). -/
  target : Nat
  /-- MIGR (R222). -/
  migr : Bool
  /-- MIG_OFF (R222). -/
  migOff : Nat
  /-- RES: resident in HBM (R222). -/
  resHbm : Bool
  /-- READ_MOSTLY (R222). -/
  readMostly : Bool
  /-- PREFER (R222). -/
  prefer : Nat
  /-- MOVING: for which entry (R207). -/
  moving : Option (Nat × Nat)
  /-- When it became MOVING, in the order of accesses (R207). -/
  movingAt : Nat
  /-- DESTROYING: removed from the range tree, since when in the order of accesses (R218). -/
  destroying : Option Nat
  /-- HANDLE (R222). -/
  handle : Nat
  /-- The first copy fails its CRC (R202). -/
  bad1 : Bool
  /-- The second copy does (R202). -/
  bad2 : Bool
  deriving DecidableEq, Repr

/-- A key record (R222): FREE records keep their generation. -/
structure Key where
  /-- INSTANCE (R222). -/
  inst : Nat
  /-- BASE (R222). -/
  base : Nat
  /-- LENGTH (R222). -/
  len : Nat
  /-- RIGHTS (R222). -/
  rights : Nat
  /-- GEN (R222). -/
  gen : Nat
  /-- SPACE (R222). -/
  basin : Bool
  /-- STATE (R222). -/
  st : Nat
  /-- HANDLE (R222). -/
  handle : Nat
  /-- When the index was last freed, in the order of accesses (R209). -/
  freedAt : Nat
  /-- The first copy fails its CRC (R202). -/
  bad1 : Bool
  /-- The second copy does (R202). -/
  bad2 : Bool
  deriving DecidableEq, Repr

/-- A piece of the span cache (R203). -/
structure Piece where
  /-- Its instance (R203). -/
  inst : Nat
  /-- Start (R203). -/
  start : Nat
  /-- Length (R203). -/
  len : Nat
  /-- What backs it; for a BASIN span the address is the Basin address (R203). -/
  loc : Loc
  /-- Writes are permitted (R203). -/
  w : Bool
  /-- Its span (R203). -/
  span : Nat
  /-- From an ATS translation (R203). -/
  ats : Bool
  /-- When it was last used (R203). -/
  used : Nat
  deriving DecidableEq, Repr

/-- An outstanding or refused ATS request (R203): instance, address, whether the access writes, since when. -/
structure AtsReq where
  /-- Instance (R203). -/
  inst : Nat
  /-- Address (R203). -/
  addr : Nat
  /-- The access writes (R203). -/
  write : Bool
  /-- Since when (R203). -/
  since : Nat
  /-- The partner refused it (R203). -/
  refused : Bool
  /-- When it did, in the order of accesses (R203). -/
  refusedAt : Nat
  /-- No access waits for it: a load that ADVISE asked for (R208). -/
  advise : Bool
  deriving DecidableEq, Repr

/-- A piece of Basin memory on another device that a local access is fetching or storing (R215). -/
structure BasinX where
  /-- Its number in the model (R215). -/
  id : Nat
  /-- Instance (R215). -/
  inst : Nat
  /-- Basin address (R215). -/
  addr : Nat
  /-- Length (R215). -/
  len : Nat
  /-- A store (R215). -/
  write : Bool
  /-- The bytes to store (R215). -/
  data : Bytes
  /-- The HANDLE its request carries (R215). -/
  handle : Nat
  /-- Its request is on a queue pair (R215). -/
  sent : Bool
  /-- The status came from the plot owner (R196, R215). -/
  remote : Bool
  /-- Its own copy was taken back with the instruction that made it, which is issued again (R344). -/
  redo : Bool
  /-- Status and bytes that came back (R215). -/
  result : Option (Byte × Bytes)
  deriving DecidableEq, Repr

/-! ### Queue pairs (R226 to R250) -/

/-- The kinds of a queue pair (R231), in the code order of SL_QP_CFG.KIND. -/
inductive QpKind where
  | rc
  | basin
  | mirror
  deriving DecidableEq, Repr

/-- The states of a queue pair (R233). -/
inductive QpState where
  | free
  | init
  | connected
  | resyncing
  | error
  deriving DecidableEq, Repr

/-- Where a request's payload comes from or goes to. -/
inductive Buf where
  | none
  | bytes (b : Bytes)
  | mem (inst : Nat) (addr : Nat)
  deriving DecidableEq, Repr

/-- Who waits for a request: a work-queue entry, a Basin piece, a mirrored acknowledgement (queue pair, EPSN, its KIND and STATUS), group
traffic, a Culvert transfer, a partner write to the HDM window, a part of the plot's copy, or nobody. -/
inductive Waiter where
  | entry (q : Nat) (i : Nat)
  | basinX (id : Nat)
  | mirrorAck (qp : Nat) (epsn : Nat) (kind : Nat) (status : Byte)
  | culvert (pool : Nat) (slot : Nat)
  | hdm
  | copy (off : Nat)
  | nobody
  deriving DecidableEq, Repr

/-- A request of the sender, from its dispatch to its completion (R234 to R240): packet opcode, PSN range, extension
fields, payload. -/
structure SReq where
  /-- Packet opcode (R230). -/
  op : Nat
  /-- First PSN (R234). -/
  first : Nat
  /-- PSNs (R236). -/
  count : Nat
  /-- LENGTH (R236). -/
  len : Nat
  /-- RADDR (R230). -/
  raddr : Nat
  /-- RKEY (R230). -/
  rkey : Nat
  /-- IMM (R230). -/
  imm : Nat
  /-- SOLICIT (R229). -/
  solicit : Bool
  /-- The atomic's operand (R230). -/
  operand : Nat
  /-- Its swap value (R230). -/
  swap : Nat
  /-- The body of a MARK (R246). -/
  mark : Bytes
  /-- Where its payload comes from or goes to (R236). -/
  buf : Buf
  /-- Who waits for it (R239). -/
  who : Waiter
  /-- Response PSNs placed (R239). -/
  got : List Nat
  /-- Packets sent at least once (R234). -/
  sent : Nat
  /-- The prior value that came back (R239). -/
  result : Option Nat
  deriving DecidableEq, Repr

/-- The request a receiver is placing (R235, R236). -/
structure RReq where
  /-- Packet opcode (R236). -/
  op : Nat
  /-- First PSN (R236). -/
  first : Nat
  /-- PSNs (R236). -/
  count : Nat
  /-- LENGTH (R236). -/
  len : Nat
  /-- RADDR (R230). -/
  raddr : Nat
  /-- RKEY (R230). -/
  rkey : Nat
  /-- IMM (R230). -/
  imm : Option Nat
  /-- SOLICIT (R229). -/
  solicit : Bool
  /-- PSNs placed (R235). -/
  placed : List Nat
  /-- Where a SEND's data goes (R198). -/
  target : Option Nat
  /-- The RECV entry it consumes (R237). -/
  rq : Option (Nat × Nat)
  /-- Bytes of group traffic and maps gathered (R265, R320). -/
  data : Mem
  /-- When it was admitted, in the order of accesses (R212). -/
  adm : Nat
  /-- The spans its target uses (R207, R218). -/
  spans : List Nat
  deriving DecidableEq, Repr

/-- A READ_RESP packet owed by the responder (R236): PSN and the data read. -/
structure RdRsp where
  /-- PSN (R236). -/
  psn : Nat
  /-- The payload (R236). -/
  data : Bytes
  deriving DecidableEq, Repr

/-- An entry of the atomic journal (R238, R249). -/
structure Jour where
  /-- PSN (R249). -/
  psn : Nat
  /-- APPLIED (R249). -/
  applied : Bool
  /-- TARGET (R249). -/
  target : Loc
  /-- PRIOR (R249). -/
  prior : Nat
  /-- NEW (R249). -/
  new : Nat
  deriving DecidableEq, Repr

/-- The last consumed receive entry, as the transport record holds it (R238, R249): its completion is owed while the entry's
completion is not written. -/
structure RecvRec where
  /-- The receive queue (R249). -/
  q : Nat
  /-- The entry's index (R249). -/
  i : Nat
  /-- RECV_BYTES (R249). -/
  bytes : Nat
  /-- RECV_IMM, where IMM_VALID (R249). -/
  imm : Option Nat
  /-- SOLICITED (R249). -/
  solicited : Bool
  /-- FROM_WRITE (R249). -/
  fromWrite : Bool
  deriving DecidableEq, Repr

/-- A control packet that waits for its link: KIND or opcode, status, PSN. -/
structure Ctl where
  /-- Opcode (R230). -/
  op : Nat
  /-- KIND (R230). -/
  kind : Nat
  /-- STATUS (R230). -/
  status : Byte
  /-- PSN (R230). -/
  psn : Nat
  deriving DecidableEq, Repr

/-- Weir's state of a queue pair (R251 to R258). -/
structure Rate where
  /-- R, in units of 100 Mb/s and a fraction (R255). -/
  r : Nat
  /-- Clean intervals in a row (R255). -/
  clean : Nat
  /-- Tokens (R256). -/
  tokens : Nat
  /-- When they were last filled (R256). -/
  tokAt : Nat
  /-- Acknowledgements in the interval (R254). -/
  acks : Nat
  /-- Those with ECE (R254). -/
  eces : Nat
  /-- A loss in the interval (R254). -/
  loss : Bool
  /-- The lowest queueing delay of the interval (R252). -/
  qmin : Option Nat
  /-- The last CREDIT sent (R253). -/
  creditTx : Nat
  /-- The last CREDIT received (R254). -/
  creditRx : Nat
  /-- The credit's cap on the rate (R253). -/
  creditCap : Nat
  /-- Recent one-way samples (R252). -/
  samples : List (Nat × Int)
  /-- The last ECHO_TS used (R252). -/
  lastEcho : Option Nat
  /-- Start of the interval (R254). -/
  startAt : Option Nat
  /-- When the queue pair was last busy (R255). -/
  idleAt : Nat
  /-- S of the last interval (R254). -/
  lastS : Nat
  /-- Qm of the last interval (R252). -/
  lastQm : Nat
  /-- WR_QCUTS (R267). -/
  cuts : Nat
  /-- What the last query read (register table of spec file 11). -/
  snap : Nat × Nat × Nat × Nat × Nat × Nat
  /-- The profile taken at CONNECT (R258). -/
  prof : Nat × Nat × Nat × Nat
  deriving DecidableEq, Repr

/-- A cipher record (R290). -/
structure Cipher where
  /-- KEYED (R290). -/
  keyed : Bool
  /-- SECRET (R290). -/
  secret : Bytes
  /-- PENDING, where PENDING_VALID (R290). -/
  pending : Option Bytes
  /-- COMMITTED (R290). -/
  committed : Bool
  /-- ROLE (R290). -/
  role : Nat
  /-- TX_PHASE (R290). -/
  txPhase : Nat
  /-- RX_PHASE (R290). -/
  rxPhase : Nat
  /-- TX_START (R290). -/
  txStart : Nat
  /-- TX_ON_P (R290). -/
  txOnP : Bool
  /-- RX_ON_P (R290). -/
  rxOnP : Bool
  /-- TX_P_PHASE (R290). -/
  txPPhase : Nat
  /-- RX_P_PHASE (R290). -/
  rxPPhase : Nat
  /-- The first resume since the key changed is due (R282). -/
  epochDue : Bool
  deriving DecidableEq, Repr

/-- One queue pair: context and transport record (R233, R249). `recEpsn` and `recRoc` are EPSN as the last
acknowledgement point wrote it (R237). -/
structure Qp where
  /-- Its instance (R249). -/
  inst : Nat
  /-- KIND (R231). -/
  kind : QpKind
  /-- SL_QP_STAT.STATE (R233). -/
  st : QpState
  /-- SL_QP_CFG (R249). -/
  cfg : Nat
  /-- PEER (R249). -/
  peer : Nat
  /-- DQPN (R249). -/
  dqpn : Nat
  /-- VID (R247). -/
  vid : Nat
  /-- SL_QP_RETRY (R247). -/
  retry : Nat
  /-- SL_QP_RTO (R247). -/
  rto : Nat
  /-- SL_QP_ACK (R247). -/
  ack : Nat
  /-- ON_ALT (R244). -/
  onAlt : Bool
  /-- ERR_STATUS (R247). -/
  errStatus : Byte
  /-- EPOCH (R234). -/
  epoch : Nat
  /-- LAST_EPOCH (R249). -/
  lastEpoch : Nat
  /-- PRST (R249). -/
  prst : Bool
  /-- SND_UNA (R234). -/
  sndUna : Nat
  /-- SND_NXT (R234). -/
  sndNxt : Nat
  /-- The PSN after the last reserved (R234). -/
  sndEnd : Nat
  /-- Rollovers of the send PSN (R278). -/
  sndRoc : Nat
  /-- Requests not finished, oldest first (R239). -/
  reqs : List SReq
  /-- PSNs to send again (R240). -/
  retx : List Nat
  /-- The retransmission time in force (R240). -/
  rtoNow : Nat
  /-- When it runs out (R240). -/
  rtoAt : Nat
  /-- The last progress (R240). -/
  progAt : Nat
  /-- Receiver-not-ready answers in a row (R240). -/
  rnrCount : Nat
  /-- The end of the wait after one (R240). -/
  rnrUntil : Option Nat
  /-- PSNs acknowledged selectively (R239). -/
  sack : List Nat
  /-- EPSN (R235). -/
  epsn : Nat
  /-- Its rollovers (R278). -/
  epsnRoc : Nat
  /-- EPSN as the last acknowledgement point wrote it (R237). -/
  recEpsn : Nat
  /-- Its rollovers (R249). -/
  recRoc : Nat
  /-- The EPSN that acknowledgements may name: that of the last acknowledgement point, for a paired plot once the mirror holds it
(R237, R246). -/
  ackEpsn : Nat
  /-- RQ_NEXT (R249). -/
  rqNext : Nat
  /-- The request being placed (R235). -/
  cur : Option RReq
  /-- The last consumed receive entry (R238, R249). -/
  recv : Option RecvRec
  /-- READ_RESP packets owed (R236). -/
  rsps : List RdRsp
  /-- The atomic journal (R249). -/
  jour : List Jour
  /-- Served in the present round of its instance's queue pairs on its link (R379). -/
  served : Bool
  /-- A NAK_SEQ was sent since EPSN moved (R239). -/
  nakSent : Bool
  /-- Packets placed since the last acknowledgement (R238). -/
  unacked : Nat
  /-- Since when (R238). -/
  unackedAt : Option Nat
  /-- The timestamp to echo (R251). -/
  echoTs : Nat
  /-- When it came (R251). -/
  echoAt : Option Nat
  /-- A CE mark came since the last acknowledgement (R227). -/
  ceSeen : Bool
  /-- When a foreign epoch was last answered (R235). -/
  foreignAt : Option Nat
  /-- When RESYNC was last sent (R242). -/
  resyncAt : Nat
  /-- The SND_UNA it named (R242). -/
  resyncFrom : Nat
  /-- Control packets that wait for the link (R239). -/
  ctl : List Ctl
  /-- Since when (R239). -/
  ctlAt : Nat
  /-- The collective group it serves (R313). -/
  group : Option Nat
  /-- The peer's rank in it (R313). -/
  member : Nat
  /-- Acknowledgements that wait for the mirror (R246). -/
  mirAck : Nat
  /-- The record's first copy is lost (R237, R244). -/
  bad1 : Bool
  /-- The second copy is (R237, R244). -/
  bad2 : Bool
  /-- Weir's state of it (R251). -/
  rate : Rate
  /-- Its cipher record (R290). -/
  cipher : Cipher
  deriving DecidableEq, Repr

/-- A shadow record of a mirror (R246): epoch, EPSN, journal of the last atomic. -/
structure Shadow where
  /-- Epoch (R246). -/
  epoch : Nat
  /-- EPSN (R246). -/
  epsn : Nat
  /-- The journal of the last atomic (R246). -/
  jour : List Jour
  deriving DecidableEq, Repr

/-! ### Instances (R375 to R391) -/

/-- The class of an instance (R375). -/
inductive IClass where
  | partner
  | manager
  deriving DecidableEq, Repr

/-- An instance (R377, R379, R380, R390, R391). Bases of instance 0 read 0. -/
structure Inst where
  /-- CLASS (R387). -/
  cls : IClass
  /-- A destroy in progress, and who asked (R384). -/
  destroying : Option InstVia
  /-- WEIGHT (R379). -/
  weight : Nat
  /-- The deficit counter of acceptance: entries the round still grants (R379). -/
  turn : Nat
  /-- The deficit counters of transmission, by link: bytes the round still grants (R379). -/
  txTurn : Tab Nat
  /-- PASID (R378). -/
  pasid : Nat
  /-- QP_BASE (R390). -/
  qpBase : Nat
  /-- QP_BLK (R387). -/
  qpBlk : Nat
  /-- WQ_BASE (R390). -/
  wqBase : Nat
  /-- WQ_BLK (R387). -/
  wqBlk : Nat
  /-- CQ_BASE (R390). -/
  cqBase : Nat
  /-- CQ_BLK (R387). -/
  cqBlk : Nat
  /-- SY_BASE (R390). -/
  syBase : Nat
  /-- SY_BLK (R387). -/
  syBlk : Nat
  /-- PUSH_BASE (R390). -/
  pushBase : Nat
  /-- PUSH (R387). -/
  push : Nat
  /-- SPAN_BASE (R390). -/
  spanBase : Nat
  /-- SPAN_BLK (R387). -/
  spanBlk : Nat
  /-- KEY_BASE (R390). -/
  keyBase : Nat
  /-- KEY_BLK (R387). -/
  keyBlk : Nat
  /-- CB_BASE (R390). -/
  cbBase : Nat
  /-- CB (R387). -/
  cb : Nat
  /-- GRP_BASE (R390). -/
  grpBase : Nat
  /-- GROUPS (R387). -/
  groups : Nat
  /-- FW_SLOTS (R377). -/
  fwSlots : Nat
  /-- FW_RESV (R377). -/
  fwResv : Nat
  /-- The granules of HBM granted, in order (R377). -/
  gran : List Nat
  /-- ACC_RATE (R380). -/
  accRate : Nat
  /-- TX_RATE (R380). -/
  txRate : Nat
  /-- TX_BURST (R380). -/
  txBurst : Nat
  /-- CMD_RATE (R380). -/
  cmdRate : Nat
  /-- Tokens of the acceptance bucket (R380). -/
  accTok : Nat
  /-- When it was last filled (R380). -/
  accAt : Nat
  /-- Tokens of the transmit bucket (R380). -/
  txTok : Nat
  /-- When it was last filled (R380). -/
  txAt : Nat
  /-- Tokens of the command bucket (R380). -/
  cmdTok : Nat
  /-- When it was last filled (R380). -/
  cmdAt : Nat
  /-- Ranges of its HBM reserved by the device (R377). -/
  resv : List (Nat × Nat)
  /-- Freed key indices, the first freed first (R209). -/
  freeKeys : List Nat
  /-- Its statistics block (R391). -/
  stats : Tab Nat
  deriving DecidableEq, Repr

/-- Who holds each block of each grantable resource (R377): block number to instance. -/
structure Own where
  /-- The instance of each block of queue pairs (R377). -/
  qp : Tab Nat
  /-- Of each block of work queues (R377). -/
  wq : Tab Nat
  /-- Of each block of completion queues (R377). -/
  cq : Tab Nat
  /-- Of each block of counters (R377). -/
  sy : Tab Nat
  /-- Of each block of spans (R377). -/
  span : Tab Nat
  /-- Of each block of keys (R377). -/
  key : Tab Nat
  /-- Of each push window (R377). -/
  push : Tab Nat
  /-- Of each codebook slot (R377). -/
  cb : Tab Nat
  /-- Of each group (R377). -/
  grp : Tab Nat
  deriving DecidableEq, Repr

end Sys2Proof.Machine
end

