-- ==== Sys2Proof/Machine/StOut.lean ====
section
/-!
DEFINITION. What the device sends: the model's own record of frames, messages and pin events, newest first
(assumption 4).
-/
namespace Sys2Proof.Machine

/-- What CAPABILITIES reports (R269): the capabilities that are set, CTExponent, DataTransferSize and MaxSPDMmsgSize. -/
structure SpdmCaps where
  cert : Bool
  chal : Bool
  meas : Nat
  measFresh : Bool
  encrypt : Bool
  mac : Bool
  keyEx : Bool
  keyUpd : Bool
  ctExponent : Nat
  dataTransferSize : Nat
  maxMsgSize : Nat
  deriving DecidableEq, Repr

/-- What the SPDM responder answers (R269 to R273). -/
inductive SpdmRsp where
  | version (v : Nat)
  | capabilities (c : SpdmCaps)
  | algorithms (a : SpdmAlgs)
  | digests (digest : Bytes)
  | certificate (portion : Bytes) (rest : Nat)
  | challengeAuth (digest : Bytes) (summary : Bytes) (signature : Bytes)
  | measurements (blocks : Bytes) (signature : Bytes)
  | keyExchange (sess : Nat) (summary : Bytes) (signature : Bytes)
  | finish (sess : Nat)
  | keyUpdateAck (sess : Nat)
  | endSessionAck (sess : Nat)
  | vendor (sess : Nat) (payload : Bytes)
  | error (code : Nat)
  deriving DecidableEq, Repr

/-- A Sluice frame as it leaves (R226), in the order of its bytes: addresses, VLAN tag and EtherType; in routed mode the IPv6 and
UDP headers; the Sluice header, extension, payload and GCM tag; the FCS. -/
structure TxFrame where
  link : Nat
  l2 : Bytes
  l3 : Bytes
  hdr : Bytes
  ext : Bytes
  payload : Bytes
  tag : Bytes
  fcs : Word
  deriving DecidableEq, Repr

/-- One thing the device put on a link, a bus or a pin. -/
inductive Out where
  /-- An MSI-X message to the partner (R401, R172). -/
  | msix (vector : Nat)
  /-- An interrupt to Tender, in H-mode (R401). -/
  | tenderInt (vector : Nat)
  /-- A link control frame (R88). -/
  | linkFrame (link : Nat) (body : Bytes)
  /-- The AVSBus transition-rate and target commands of one voltage command (R67). -/
  | avs (slew : Nat) (target : Nat)
  /-- An MCTP mailbox response (R129). -/
  | mctp (block : Bytes)
  /-- A PPS_OUT edge at a whole second of device time (R75). -/
  | pps (time : Nat)
  /-- A PTP delay request (R75). -/
  | ptpDelayReq (link : Nat)
  /-- The answer to a configuration request (R98): `retry` says Configuration Request Retry Status. -/
  | config (retry : Bool)
  /-- A Basin control record to the device of a serial; serial 0 to every member or manager-capable device (R48). -/
  | basin (serial : Nat) (record : Bytes)
  /-- A manager-bound command forwarded to the active manager (R51): code, request ID, parameters. -/
  | mgrReq (code : Nat) (reqId : Nat) (params : Bytes)
  /-- The manager's reply to a manager-bound command: requester's slot, request ID, status, data. -/
  | mgrReply (slot : Nat) (reqId : Nat) (status : Byte) (data : Bytes)
  /-- The owner (slot, instance) of an allocation learns that its extents were lost, with EPOCH_MISMATCH (R41). -/
  | ownerLost (slot : Nat) (inst : Nat) (handle : Nat)
  /-- A directory change replicated to the standby (R29). -/
  | replicate (seq : Nat) (dir : Directory)
  /-- The standby's acknowledgement of a directory change (R29). -/
  | replicated (seq : Nat)
  /-- Every plot owner destroys the PLOT spans of an allocation handle (R51, R218). -/
  | destroySpans (handle : Nat)
  /-- Tender at a plot owner is asked for a PLOT span over an extent of an allocation (R50, R215): the owner's slot, the
allocation handle, the plot, the first granule and the granules. -/
  | createSpan (slot : Nat) (handle : Nat) (plot : Nat) (off : Nat) (len : Nat)
  /-- KEY_INSTALL by the active manager at one end of a BASIN or MIRROR queue pair (R288): that end's slot, the other end's, whether
the queue pair is a MIRROR, ROLE and the secret. -/
  | keyInstall (slot : Nat) (peer : Nat) (mirror : Bool) (role : Nat) (secret : Bytes)
  /-- The primary tells the active manager that the copy to its new mirror has finished (R51). -/
  | spareCopied (plot : Nat)
  /-- A request for the plot map (R18). -/
  | fetchMap
  /-- A Sluice frame (R226). -/
  | frame (f : TxFrame)
  /-- A Runnel message toward a slot: the frame whose payload it is (R325, R326). -/
  | runnel (slot : Nat) (f : TxFrame)
  /-- An ATS Translation Request (R203): PASID, address, length asked for. -/
  | atsReq (pasid : Nat) (addr : Nat) (len : Nat)
  /-- The completion of an ATS Invalidation Request (R141). -/
  | atsInvDone (pasid : Nat) (addr : Nat)
  /-- A back-invalidate snoop of an HDM line (R139). -/
  | backInval (line : Nat)
  /-- The answer to a partner snoop (R139). -/
  | snoopRsp (line : Nat)
  /-- The completion of an HDM read (R138). -/
  | hdmData (data : Bytes)
  /-- The completion of an HDM write; poison where it was dropped (R138). -/
  | hdmDone (poison : Bool)
  /-- An SPDM response (R269). -/
  | spdm (t : Transp) (r : SpdmRsp)
  /-- A response to an IDE_KM message (R137, R273). -/
  | ideKm (status : Byte)
  /-- This device reports its plot lost to the active manager (R244). -/
  | plotLost (plot : Nat)
  /-- The active manager is told to free an instance's allocations (R144, R384). -/
  | freeAllocs (inst : Nat)
  /-- The new overflow length reported to the active manager (R151). -/
  | ovfLength (granules : Nat)
  /-- The response block in the FWDBG data register (R358). -/
  | fwdbg (block : Bytes)
  deriving DecidableEq, Repr

end Sys2Proof.Machine
end

