-- ==== Sys2Proof/Machine/StEng.lean ====
section
/-!
DEFINITION. State of the engines: Synko counters, collectives and Runnel, Furrow, the codebook store, the partner link
and Culvert, SPDM sessions (spec files 06, 12, 13, 14, 15 and 16).
-/
namespace Sys2Proof.Machine

/-! ### Synko (R293 to R310) -/

/-- The source of a counter change (R294, R304): a tagged one names its source. -/
inductive SySrc where
  | entry (q : Nat) (i : Nat)
  | launch (q : Nat) (i : Nat)
  | op (q : Nat) (i : Nat)
  | culvert (pool : Nat) (slot : Nat)
  | command
  deriving DecidableEq, Repr

/-- A change to a counter that is not applied yet. -/
structure SyChange where
  /-- The counter (R294). -/
  counter : Nat
  /-- A SET, else an ADD (R294). -/
  set : Bool
  /-- The value (R293). -/
  value : Nat
  /-- Its source (R304). -/
  src : SySrc
  deriving DecidableEq, Repr

/-- A counter record (R308). -/
structure SyCnt where
  /-- VALUE (R308). -/
  value : Nat
  /-- SAT (R303). -/
  sat : Bool
  /-- POISON (R308). -/
  poison : Bool
  /-- The instance it is shared with (R302). -/
  share : Option Nat
  /-- The tags of the changes last applied (R304). -/
  journal : List (Nat × Nat × Nat)
  /-- The first copy fails its CRC (R308). -/
  bad1 : Bool
  /-- The second copy does (R308). -/
  bad2 : Bool
  deriving DecidableEq, Repr

/-! ### Collectives and Runnel (R311 to R334) -/

/-- Group traffic delivered at this member: peer rank, KIND, slot, argument, signature, data. -/
structure GMsg where
  /-- The peer's rank (R320). -/
  rank : Nat
  /-- KIND (R320). -/
  kind : Nat
  /-- SLOT (R320). -/
  slot : Nat
  /-- Its argument (R320). -/
  arg : Nat
  /-- SIG (R320). -/
  sig : Nat
  /-- The data (R320). -/
  data : Bytes
  deriving DecidableEq, Repr

/-- A member of a group, as its table names it (R312). -/
structure Member where
  /-- QPN (R312). -/
  qpn : Nat
  /-- PEER_GROUP (R312). -/
  peerGroup : Nat
  /-- SLOT (R312). -/
  slot : Nat
  deriving DecidableEq, Repr

/-- The collective a group runs (R314 to R331): its queue entry, its place in the dispatch order, the source bytes as read,
what each receive of its algorithm has taken and how many requests, what each send has sent (one more than the bytes where
a zero-length request went out), the votes of an unequal exchange, the peers whose credit came. -/
structure Coll where
  /-- Its work queue (R314). -/
  q : Nat
  /-- Its index (R314). -/
  i : Nat
  /-- Its COLL_SEQ (R314). -/
  seq : Nat
  /-- Its signature (R320). -/
  sig : Nat
  /-- Since when it runs (R331). -/
  since : Nat
  /-- Its place in the dispatch order (R314). -/
  order : Nat
  /-- It takes the Runnel path (R317). -/
  runnel : Bool
  /-- The source bytes as read (R322). -/
  src : Bytes
  /-- What each receive of the algorithm has taken (R319). -/
  raw : Tab Bytes
  /-- How many requests each receive took (R319). -/
  hits : Tab Nat
  /-- What each send has sent (R319). -/
  sent : Tab Nat
  /-- Votes of an unequal exchange, by rank (R323). -/
  votes : List (Nat × Bool)
  /-- This member has voted (R323). -/
  voted : Bool
  /-- Peers whose credit came (R321). -/
  credited : List Nat
  deriving DecidableEq, Repr

/-- A Runnel contribution: rank and data. -/
structure Contrib where
  /-- COLL_SEQ (R329). -/
  seq : Nat
  /-- Rank (R329). -/
  rank : Nat
  /-- SIG (R327). -/
  sig : Nat
  /-- Data (R329). -/
  data : Bytes
  deriving DecidableEq, Repr

/-- A collective group (R311 to R316, R331). -/
structure Group where
  /-- Its instance (R311). -/
  inst : Nat
  /-- SIZE (R311). -/
  size : Nat
  /-- RANK (R311). -/
  rank : Nat
  /-- WIDE (R318). -/
  wide : Bool
  /-- RUNNEL_OK (R317). -/
  runnelOk : Bool
  /-- CHUNK_LOG2 (R313). -/
  chunkLog2 : Nat
  /-- GEN (R320). -/
  gen : Nat
  /-- TIMEOUT, ms (R331). -/
  timeout : Nat
  /-- The member table (R312). -/
  members : List Member
  /-- The status it is in ERROR with (R331). -/
  error : Option Byte
  /-- COLL_SEQ of the next collective (R314). -/
  seq : Nat
  /-- The collective that runs (R314). -/
  coll : Option Coll
  /-- The offset of its scratch range (R313). -/
  scratch : Nat
  /-- Group traffic delivered and not consumed (R320). -/
  inbox : List GMsg
  /-- Credits received (R321). -/
  credits : List (Nat × Nat × Nat)
  /-- Credits granted (R321). -/
  given : List (Nat × Nat)
  /-- Scratch slots filled and not consumed (R321). -/
  full : List (Nat × Nat × Bytes)
  /-- Signatures of recent collectives (R320). -/
  sigs : List Nat
  /-- Contributions that came before their collective (R329). -/
  early : List Contrib
  /-- Contributions kept for a replay (R329). -/
  kept : List Contrib
  deriving DecidableEq, Repr

/-- A Runnel message waiting or unacknowledged: sequence and bytes. -/
structure RMsg where
  /-- SEQ (R328). -/
  seq : Nat
  /-- The message (R327). -/
  body : Bytes
  deriving DecidableEq, Repr

/-- The two directions of a Runnel stream with one device (R328). -/
structure Stream where
  /-- SEPOCH of the sending direction (R328). -/
  sepoch : Nat
  /-- The first message of the epoch is not acknowledged (R328). -/
  sync : Bool
  /-- Next SEQ to send (R328). -/
  next : Nat
  /-- Messages sent and not acknowledged (R328). -/
  unacked : List RMsg
  /-- Messages that wait for the window (R328). -/
  waiting : List Bytes
  /-- The retransmission time in force (R328). -/
  rto : Nat
  /-- When it runs out (R328). -/
  rtoAt : Nat
  /-- Expiries in a row (R328). -/
  expiries : Nat
  /-- The peer's SEPOCH (R328). -/
  peerEpoch : Nat
  /-- The SEQ expected (R328). -/
  expect : Nat
  /-- Since when an acknowledgement is owed (R328). -/
  ackOwed : Option Nat
  deriving DecidableEq, Repr

/-- Runnel: streams by slot, counters. RN_ROUTE is the link of the BASIN queue pair to a slot (R326). -/
structure Runnel where
  /-- The streams by slot (R328). -/
  streams : Tab Stream
  /-- Arrived messages that wait for the Runnel unit, oldest first (R72, R404). -/
  held : List Bytes
  /-- The Runnel counters (register table of spec file 14). -/
  counters : Tab Nat
  /-- The instant from which RATE_PCT lets a link take its next message (R325). -/
  nextAt : Tab Nat
  deriving DecidableEq, Repr

/-! ### Furrow (R335 to R360) -/

/-- Slot states (R337); FREE is a slot that is not listed. -/
inductive FwState where
  | running
  | halted
  | dtrap
  deriving DecidableEq, Repr

/-- A thread group in its slot (R338, R350, R351). -/
structure Tg where
  /-- The slot's STATE (register table of spec file 15). -/
  st : FwState
  /-- Its launch: the queue (R337). -/
  q : Nat
  /-- Its launch: the index (R337). -/
  i : Nat
  /-- Its group index (R338). -/
  index : Nat
  /-- The order in which groups took their slots (R336). -/
  age : Nat
  /-- V0 to v31: 32 lanes each (R338). -/
  v : Tab Word
  /-- P0 to p7 (R338). -/
  p : Tab Word
  /-- U0 to u15 (R338). -/
  u : Tab Dword
  /-- PC (R338). -/
  pc : Nat
  /-- IN_HANDLER (R338). -/
  inHandler : Bool
  /-- The result word (R338). -/
  result : Word
  /-- The status byte (R338). -/
  status : Byte
  /-- CAUSE of the last trap (R359). -/
  cause : Byte
  /-- A double trap (R359). -/
  dbl : Bool
  /-- FAULT_ADDR (R359). -/
  faultAddr : Dword
  /-- LANES (R359). -/
  lanes : Word
  /-- A trap to be delivered at DBG_RESUME (R357). -/
  pendTrap : Option (Byte × Dword × Word)
  /-- ATOMGs executed (R338). -/
  atomg : Nat
  /-- SADDs staged: counter and value (R348). -/
  staged : List (Nat × Nat)
  /-- The breakpoint at PC is passed once (R357). -/
  skipBreak : Bool
  /-- Instructions a DBG_STEP still grants (R356). -/
  stepLeft : Option Nat
  /-- When it started (R352). -/
  started : Nat
  /-- Time it has run (R352). -/
  ran : Nat
  /-- Since when it runs (R352). -/
  ranAt : Nat
  /-- The watchdog limit, ms (R352). -/
  watchdog : Nat
  /-- The watchdog has trapped it once (R352). -/
  dogBarked : Bool
  /-- Its window of the local store (R339). -/
  localMem : Mem
  deriving DecidableEq, Repr

/-- A binding of an argument block (R341). -/
structure Bind where
  /-- ADDR (R341). -/
  addr : Nat
  /-- LENGTH (R341). -/
  len : Nat
  /-- KEY (R341). -/
  key : Nat
  /-- USE (R341). -/
  use : Nat
  deriving DecidableEq, Repr

/-- A launch record (R349, R359) with the copied argument block. -/
structure Launch where
  /-- Instance (R342). -/
  inst : Nat
  /-- The order of dispatch (R337). -/
  order : Nat
  /-- GROUPS (R337). -/
  groups : Nat
  /-- The next group to start (R337). -/
  next : Nat
  /-- Code address (R340). -/
  codeAddr : Nat
  /-- Code length (R340). -/
  codeLen : Nat
  /-- ENTRY (R340). -/
  entry : Nat
  /-- TRAPV (R340). -/
  trapv : Nat
  /-- STACK_BYTES (R340). -/
  stack : Nat
  /-- LOCAL_BYTES (R342). -/
  localBytes : Nat
  /-- The argument block (R341). -/
  args : Bytes
  /-- Its bindings (R341). -/
  binds : List Bind
  /-- Its codebooks (R341). -/
  cbs : List Nat
  /-- STOP_ON_TRAP (R348). -/
  stopOnTrap : Bool
  /-- No further group starts (R348). -/
  stopped : Bool
  /-- Groups retired (R349). -/
  retired : List Nat
  /-- Groups to run again after a warm reset (R354). -/
  rerun : List Nat
  /-- The sum of the result words (R349). -/
  sum : Word
  /-- The launch's status (R349). -/
  status : Byte
  /-- The status came from a trap (R349). -/
  trapStatus : Bool
  /-- The group it came from (R349). -/
  statusGroup : Nat
  /-- The counter changes summed over the groups (R359). -/
  sums : List (Nat × Nat)
  deriving DecidableEq, Repr

/-- An atomic-log entry (R353). -/
structure ALog where
  /-- The CRC of the instruction's operands (R353). -/
  crc : Word
  /-- The prior values by lane (R353). -/
  priors : List Word
  deriving DecidableEq, Repr

/-- The debugger (R355, FW_DBG_STAT). -/
structure Dbg where
  /-- FW_DBG_STAT.SRC where ATTACHED (R359). -/
  src : Option Nat
  /-- HALT_ON_TRAP (R356). -/
  haltTrap : Bool
  /-- HALT_ON_DTRAP (R356). -/
  haltDtrap : Bool
  /-- PENDING (R351). -/
  pending : Bool
  /-- DTRAP_COUNT (R351). -/
  dtraps : Nat
  deriving DecidableEq, Repr

/-- Furrow: slots by 16 × core + slot, the slots that collectives hold (group number), the breakpoints of each slot, launches and atomic logs by queue and index. -/
structure Furrow where
  /-- FW_CORE_STAT: cores in service (R354). -/
  cores : BitVec 48
  /-- Thread groups by 16 × core + slot (R337). -/
  slots : Tab Tg
  /-- Slots that collectives hold, by group (R319). -/
  colls : Tab Nat
  /-- Each slot's breakpoints (R356). -/
  breaks : Tab (List (Option Nat))
  /-- Save areas (R359). -/
  saved : Tab Bytes
  /-- Launches by queue and index (R359). -/
  launches : Tab Launch
  /-- Atomic logs (R353). -/
  alogs : Tab (List ALog)
  /-- Groups started so far (R336). -/
  ages : Nat
  /-- The debugger (R355). -/
  dbg : Dbg
  /-- The FWDBG data register (R358). -/
  jtag : Bytes
  deriving DecidableEq, Repr

/-! ### Codebooks (R361 to R374) -/

/-- Slot states of the codebook store; EMPTY is a slot that is not listed. -/
inductive CbState where
  | loading
  | loaded
  | poisoned
  deriving DecidableEq, Repr

/-- A codebook slot. -/
structure CbSlot where
  /-- STATE (R372). -/
  st : CbState
  /-- Its bytes (R361). -/
  data : Bytes
  /-- CB_SCRC (R364). -/
  crc : Word
  /-- CBMAX (R362). -/
  cbmax : Word
  /-- VLEN (R362). -/
  vlen : Nat
  /-- Its number of entries (R362). -/
  entries : Nat
  /-- ELEM (R362). -/
  elem : Nat
  /-- The store's copy fails its checks (R364). -/
  bad1 : Bool
  /-- The backing copy does (R364). -/
  bad2 : Bool
  deriving DecidableEq, Repr

/-! ### The partner link and Culvert (R133 to R154) -/

/-- TN_PARTNER_STAT.STATE. -/
inductive PState where
  | down
  | up
  | teardown
  | hosted
  deriving DecidableEq, Repr

/-- The partner link (R133 to R146). -/
structure Partner where
  /-- TN_PARTNER_STAT.STATE (R154). -/
  st : PState
  /-- The link is trained (R134). -/
  trained : Bool
  /-- TN_PARTNER_STAT.CXL (R136). -/
  cxl : Bool
  /-- TN_PARTNER_STAT.IDE (R137). -/
  ide : Bool
  /-- TN_PARTNER_STAT.WIDTH: trained modules or lanes (register table of spec file 06). -/
  width : Nat
  /-- UCIe modules in service (R134). -/
  modules : BitVec 4
  /-- A training held until the teardown ends (R146). -/
  sideband : Option LinkTrain
  /-- TN_PARTNER_STAT.RATE (register table of spec file 06). -/
  rate : Nat
  /-- TN_PARTNER_STAT.HB_ARMED (R142). -/
  hbArmed : Bool
  /-- When the partner heartbeat expires (R142). -/
  hbAt : Nat
  /-- TN_PRST_CAUSE.VALID (register table of spec file 06). -/
  causeValid : Bool
  /-- TN_PRST_CAUSE.TOTAL (register table of spec file 06). -/
  total : Nat
  /-- TN_PRST_CAUSE.CAUSE (R143). -/
  cause : Nat
  /-- TN_PRST_COUNT.MERGED (R146). -/
  merged : Nat
  /-- The teardown's step, 0 for none (R144). -/
  tdStep : Nat
  /-- Step 3 or 7 has done its part, and completion entries whose writes are held remain (R144). -/
  tdWait : Bool
  /-- TN_PRST_COUNT.CQE_LOST (R144). -/
  cqeLost : Nat
  /-- The Tender core with the partner role (R154). -/
  core : Nat
  /-- Tender cores in service (R154). -/
  cores : BitVec 4
  /-- Lines with a back-invalidate out, and since when (R139). -/
  held : Tab Nat
  /-- HDM lines the partner owns (R139). -/
  owned : List Nat
  /-- HDM accesses held at a line, or for the plot's mirror; set where the own copy of a write is made already (R138, R139). -/
  hdmHeld : List (HdmAcc × Bool)
  /-- IDE keys by stream (R137). -/
  ideKeys : Tab Bytes
  deriving DecidableEq, Repr

/-- A Culvert transfer accepted and not finished: its instance and the partner addresses of its record and its slot, the
record as read, and the waiting Basin request's result. -/
structure CvXfer where
  /-- The pool (R148). -/
  pool : Nat
  /-- The slot (R148). -/
  slot : Nat
  /-- The pool's instance (R148). -/
  inst : Nat
  /-- Where its record lies (R148). -/
  recAt : Nat
  /-- Where its data lies (R148). -/
  slotAt : Nat
  /-- The record as read (R149). -/
  rec_ : Bytes
  /-- What came back from the Basin (R149). -/
  result : Option (Byte × Bytes)
  /-- Its request is out (R149). -/
  sent : Bool
  /-- When it was accepted, in the order of accesses (R212). -/
  adm : Option Nat
  /-- The key of its Basin operand, once admitted (R212, R217). -/
  keys : List Nat
  /-- The spans its record and its slot lie in (R207, R218). -/
  spans : List Nat
  deriving DecidableEq, Repr

/-- Culvert: accepted transfers, and CV_POOL_STAT by pool. -/
structure Culvert where
  /-- Doorbells whose record is not read yet, oldest first: pool and slot (R148). -/
  bells : List (Nat × Nat)
  /-- Transfers accepted and not finished (R148). -/
  xfers : List CvXfer
  /-- CV_POOL_STAT: ERR_STATUS and ERR_SLOT where ERR is 1 (register table of spec file 06). -/
  err : Tab (Byte × Nat)
  deriving DecidableEq, Repr

/-! ### SPDM sessions (R269 to R273) -/

/-- A secure session: its transport, whether the handshake is finished, whether it qualifies. -/
structure Sess where
  /-- Its transport (R271). -/
  tr : Transp
  /-- The handshake is finished (R269). -/
  finished : Bool
  /-- It qualifies for key messages (R286). -/
  qual : Bool
  /-- KEY_UPDATEs made (R269). -/
  phase : Nat
  deriving DecidableEq, Repr

/-- The responder: sessions, and the messages being reassembled from Basin fragments, by slot and tag. -/
structure Spdm where
  /-- The sessions (R269). -/
  sess : Tab Sess
  /-- The next session's number (R269). -/
  nextSess : Nat
  /-- Basin fragments being reassembled, by slot and tag (R285). -/
  frags : Tab (Tab Bytes)
  /-- Messages reassembled (R285). -/
  inbox : List (Nat × Bytes)
  /-- Transports that have the version (R269). -/
  version : List Transp
  /-- Those that have the capabilities (R269). -/
  caps : List Transp
  /-- Those that have the algorithms (R269). -/
  algs : List Transp
  deriving DecidableEq, Repr

end Sys2Proof.Machine
end

