-- ==== Sys2Proof/Machine/StWeir.lean ====
section
/-!
DEFINITION. Weir state that is not a queue pair's own (spec file 11).
-/
namespace Sys2Proof.Machine

/-- The map reports of one period (R262, R264), by link. -/
structure MapAcc where
  /-- Bytes sent in the period (R264). -/
  tx : Nat
  /-- Bytes received (R264). -/
  rx : Nat
  /-- Stall cycles (R264). -/
  stall : Nat
  /-- CE marks (R264). -/
  ce : Nat
  /-- Retransmissions (R264). -/
  retx : Nat
  /-- Rate cuts (R264). -/
  cuts : Nat
  /-- Sum of the delay samples (R264). -/
  qsum : Nat
  /-- Their number (R264). -/
  qcnt : Nat
  /-- The largest queue depth (R264). -/
  qmax : Nat
  /-- The largest delay sample (R264). -/
  qhi : Nat
  /-- The largest ACTIVE_QPS (R264). -/
  active : Nat
  deriving DecidableEq, Repr

/-- Weir: link blocks (counter index by 16 × link + index, queue depths), snapshot, maps. -/
structure Weir where
  /-- The link blocks' counters: 16 × link + index (R259). -/
  counters : Tab Nat
  /-- QDEPTH by link (R259). -/
  qdepth : Tab Nat
  /-- QDEPTH_MAX by link (R259). -/
  qmax : Tab Nat
  /-- The snapshot's copy of the counters (R260). -/
  snap : Tab Nat
  /-- WR_SNAP_TIME (R260). -/
  snapTime : Nat
  /-- WR_SNAP.TAG (R260). -/
  snapTag : Nat
  /-- WR_SNAP.DONE (R260). -/
  snapDone : Bool
  /-- WR_MAP_VALID, bit of slot k at k (R265). -/
  mapValid : BitVec 67
  /-- The maps held, by slot (R265). -/
  maps : Tab Bytes
  /-- When each came (R265). -/
  mapAt : Tab Nat
  /-- SEQ of this device's next map (R263). -/
  mapSeq : Nat
  /-- The start of its period (R262). -/
  mapFrom : Nat
  /-- The period in force, in units of 100 µs (R262). -/
  mapPeriod : Nat
  /-- WR_MAP_STAT.DISCARDS (R265). -/
  discards : Nat
  /-- What the present period has gathered, by link (R262). -/
  acc : Tab MapAcc
  /-- A Levee region throttled in the present period (R263 FLAGS). -/
  thrSeen : Bool
  /-- Recent placements by path: instant and bytes (R253). -/
  placed : List (Nat × Nat × Nat)
  deriving DecidableEq, Repr

/-- Clears the bit of a member's slot in WR_MAP_VALID. -/
def clearSlot (m : BitVec 67) (slot : Nat) : BitVec 67 := m &&& ~~~(BitVec.ofNat 67 (2 ^ slot))

end Sys2Proof.Machine
end

