-- ==== Sys2Proof/Machine/State.lean ====
section
/-!
DEFINITION. The state of one HV6: everything the spec gives the device, the queue of waiting commands, and State.reset,
the device held in cold reset.
-/
namespace Sys2Proof.Machine

/-- What HBM in self-refresh holds across a warm reset (R111): the applied structure with every record the engines keep in
device-private HBM, the contents of HBM and the plot. -/
structure Asleep where
  /-- The image that was applied (R111). -/
  image : Option Image
  /-- The Basin state (R111). -/
  basin : Basin
  /-- The directory (R111). -/
  dir : Directory
  /-- The policy (R289). -/
  policy : Policy
  /-- The KT_CMD_STAT registers of the pages (R221). -/
  ktBusy : Tab Word
  /-- Grants (R385). -/
  own : Own
  /-- Instances (R385). -/
  insts : Tab Inst
  /-- Work queues (R179). -/
  wqs : Tab Wq
  /-- Completion queues (R179). -/
  cqs : Tab Cq
  /-- In-flight records (R179). -/
  infl : Tab Infl
  /-- Entries accepted so far (R179). -/
  accSeq : Nat
  /-- Spans (R221). -/
  spans : Tab Span
  /-- Keys (R221). -/
  keys : Tab Key
  /-- The order of accesses (R207, R212). -/
  pieceClock : Nat
  /-- Basin pieces under way (R221). -/
  bx : List BasinX
  /-- Their next number (R221). -/
  nextBx : Nat
  /-- Allocations known (R111). -/
  allocs : Tab Alloc
  /-- Transport records (R242). -/
  qps : Tab Qp
  /-- Shadow records (R246). -/
  shadows : Tab Shadow
  /-- Writes that wait for the mirror (R246). -/
  mirBlk : List (Nat × Nat)
  /-- Counters (R305). -/
  sy : Tab SyCnt
  /-- Changes that wait (R305). -/
  syPend : List SyChange
  /-- Groups (R332). -/
  groups : Tab Group
  /-- Runnel streams (R328). -/
  rn : Runnel
  /-- Launches, atomic logs and save areas (R354). -/
  fw : Furrow
  /-- Backing copies of codebooks (R364). -/
  cbs : Tab CbSlot
  /-- Culvert transfers (R148). -/
  xfers : List CvXfer
  /-- HBM of the instance pool (R111). -/
  hbm : Mem
  /-- The plot (R111). -/
  plot : Mem
  deriving DecidableEq, Repr

/-- The whole device. -/
structure State where
  /-- Pins, fuses, straps and device time (R52). -/
  sys : Sys
  /-- Boot (R97). -/
  boot : Boot
  /-- What HBM in self-refresh keeps across a warm reset (R111). -/
  asleep : Option Asleep
  /-- The boot flash (R99). -/
  flash : Flash
  /-- Feature negotiation (R113). -/
  feat : Feat
  /-- The Vapen table and the rejected-write capture (R120). -/
  vp : Vapen
  /-- The mailboxes (R129). -/
  mbx : Mbx
  /-- Levee (R61). -/
  lv : Levee
  /-- Clocks (R71). -/
  clk : Clk
  /-- The ports that have left their reset values (R76). -/
  ports : Tab Port
  /-- The links that have (R85). -/
  links : Tab LinkSt
  /-- The device's place in the Basin (R24). -/
  basin : Basin
  /-- Its manager side (R29). -/
  mgr : Mgr
  /-- The encryption policy (R276). -/
  policy : Policy
  /-- Weir (R259). -/
  wr : Weir
  /-- The event log (R394). -/
  log : Log
  /-- Device interrupts (R401). -/
  intr : Intr
  /-- Self-tests (R403). -/
  st : SelfTest
  /-- Stored RW and RWP registers of the blocks: block ID × 2^20 + offset; unlisted ones hold `regReset` (R127). -/
  regs : Tab Word
  /-- Stored registers of the instance pages: instance × 4096 + offset; unlisted ones hold `pageReset` (R127). -/
  pages : Tab Word
  /-- Who holds each block of each resource (R377). -/
  own : Own
  /-- Instances (R375). -/
  insts : Tab Inst
  /-- Work queues that are not FREE (R155). -/
  wqs : Tab Wq
  /-- Completion queues that are not FREE (R169). -/
  cqs : Tab Cq
  /-- In-flight records: queue × 2^32 + index (R163). -/
  infl : Tab Infl
  /-- Entries accepted so far (R192). -/
  accSeq : Nat
  /-- Span records (R222). -/
  spans : Tab Span
  /-- Key records (R222). -/
  keys : Tab Key
  /-- The span cache (R203). -/
  pieces : List Piece
  /-- The order of accesses: uses of pieces, admissions, moves and destructions so far (R204, R207, R212, R218). -/
  pieceClock : Nat
  /-- ATS requests outstanding or refused (R203). -/
  ats : List AtsReq
  /-- Pieces of Basin memory under way for local accesses (R215). -/
  bx : List BasinX
  /-- The number of the next one (R215). -/
  nextBx : Nat
  /-- Allocations this device knows, by handle (R49). -/
  allocs : Tab Alloc
  /-- Queue pairs that are not FREE (R233). -/
  qps : Tab Qp
  /-- Shadow records by originator (R246). -/
  shadows : Tab Shadow
  /-- Writes that wait for the mirror: queue pair and EPSN (R246). -/
  mirBlk : List (Nat × Nat)
  /-- Frames held until their span or line is free, their engine wakes or an earlier RECV completion is written (R72, R207, R238). -/
  rxHeld : List (Nat × Frame)
  /-- Link statistics: 16 × link + index (R250). -/
  linkStats : Tab Nat
  /-- TN_DECRYPT_FAILS (R281). -/
  decryptFails : Nat
  /-- The half latched by a read of its low half (register table of spec file 00). -/
  decryptHi : Word
  /-- The high halves that reads of low halves latched, for pairs without a latch of their own: by the low half's control-window
offset (R259, R391; assumption 115). -/
  rdHi : Tab Word
  /-- Counter records (R308). -/
  sy : Tab SyCnt
  /-- Changes that wait to be applied (R294). -/
  syPend : List SyChange
  /-- Collective groups (R311). -/
  groups : Tab Group
  /-- Runnel (R328). -/
  rn : Runnel
  /-- Furrow (R335). -/
  fw : Furrow
  /-- Codebook slots that are not EMPTY (R361). -/
  cbs : Tab CbSlot
  /-- The partner link (R134). -/
  pt : Partner
  /-- Culvert (R147). -/
  cv : Culvert
  /-- The SPDM responder (R269). -/
  spdm : Spdm
  /-- HBM of the instance pool, by byte (R377). -/
  hbm : Mem
  /-- The device's plot, by byte (R16). -/
  plot : Mem
  /-- Partner memory, by bus address (R138). -/
  pmem : Mem
  /-- HBM stacks lost since they trained (R202). -/
  stacksLost : BitVec 8
  /-- What the device sent, newest first (assumption 4). -/
  out : List Out
  /-- The value of the last read with a side effect (assumption 4). -/
  rd : Dword
  /-- The commands that wait, first in first out. -/
  pending : List Instr
  deriving DecidableEq, Repr

/-- The reasons a command can fault: none of the spec's commands stops the device. -/
inductive Fault where
  /-- No command raises it: every failure the spec names is a status, an event or a state (safe). -/
  | never
  deriving DecidableEq, Repr

/-- The reasons a command can be refused. -/
inductive Refusal where
  /-- Raised by Machine/Dispatch.lean alone, for a command not modelled yet (safe). -/
  | notModelled (mnemonic : String)
  deriving DecidableEq, Repr

/-- Fuses at reset (assumption 6). -/
def Fuses.reset : Fuses :=
  { variant := .p, serial := 0, macBase := 0, siliconRev := 0, vminMv := 700, vnomMv := 750 }

/-- Straps before the first sample (assumption 6). -/
def Straps.reset : Straps := { pen := false, boot := 0, smb := 0, test := false }

/-- Pins with both resets low, device time 0 (R74). -/
def Sys.reset : Sys :=
  { fuses := Fuses.reset, straps := Straps.reset, coldLow := true, warmLow := false,
    thermTrip := false, now := 0, devtimeHi := 0, ptpT1 := none, ptpT2 := none, ptpT3 := none,
    servo := 0, locked := false, subTick := 0, freeCtr := 0 }

/-- BN_CAND's bytes at reset. -/
def Cand.reset : Cand := { tried := false, status := 0 }

/-- Boot state at reset: stage ROM (R97). -/
def Boot.reset : Boot :=
  { stage := .rom, status := 0, slot := .a, warm := false, resumeLost := false, hbmFail := 0, runLevel := 0,
    tenderTag := 0, sluiceTag := 0, candA := Cand.reset, candB := Cand.reset, candG := Cand.reset, idHi := 0,
    cands := [], cur := none, abandoned := 0, firstStatus := none, anyMismatch := false, activeMismatch := false,
    warmBoot := false, accepted := none, trained := false, image := none, digest := [], src := .builtin,
    bootRec := none, hbmInService := 0, coreMask := 0, resumable := false, sections := [], plotGranules := 0, staged := [] }

/-- Boot flash at reset: an empty directory and erased slots (assumption 6; the flash outlives every reset). -/
def Flash.reset : Flash :=
  { dir0 := [], dir1 := [], a := [], b := [], golden := [], idP := 0, idC := 0, idH := 0 }

/-- No commit (VP_FEATSTAT reset). -/
def Feat.reset : Feat :=
  { offer := 0, ack := 0, committed := false, subset := 0, conflict := 0, status := 0 }

/-- No table and no capture (R120, VP_WERR reset). -/
def Vapen.reset : Vapen :=
  { werrValid := false, werrMulti := false, werrStatus := 0, werrCount := 0, werrAddr := 0, werrData := 0,
    werrInst := none, werrSrc := .host, tvalid := false, gen := 0, layout := none, table := [] }

/-- Idle mailboxes (TN_MBX_STAT reset). -/
def Mbx.reset : Mbx :=
  { st := .idle, lost := false, status := 0, req := [], rsp := [], waiting := [], running := none }

/-- A Levee region at reset (LV_REGION_STATUS reset; telemetry: assumption 6). -/
def Region.reset : Region :=
  { thrOwn := false, thrPkg := false, since := 0, persisted := false, ocPersist := false, oc := false,
    disagree := false, drop := false, bOpen := false, aOpen := false, senseEvt := false, va := 0, vb := 0, xn := 0,
    vdie := 0, iEst := 0, boost := none, shunt := none }

/-- Levee at reset (LV_VSTAT, LV_VDONE reset); the regulator stands at its boot voltage of 0.750 V (R55), SLEW at its reset
value. -/
def Levee.reset : Levee :=
  { regions := [], ready := false, curTag := 0, vnow := 0, cmd := none, target := 750, rate := 25, outV := 7500000, outAt := 0,
    done := [], lost := 0, pmbus := [] }

/-- No PLL locked (LV_CLK_STAT reset). -/
def Clk.reset : Clk :=
  { hbmLock := 0, hostLock := false, tnLock := false, fwLock := false, slLock := false,
    aonLock := false, gated := [], heldWakes := [], furrowFrom := none }

/-- A port at reset (SL_PORT_STATUS reset). -/
def Port.reset : Port := { media := 0, modState := .none, missed := 0, failed := false, modMem := [] }

/-- A link at reset (SL_CAL_STAT, SL_DORM_STAT reset). -/
def LinkSt.reset : LinkSt :=
  { up := false, downAt := none, merge := false, verify := false, cal := .idle, calTag := 0, calStatus := 0, calSince := 0,
    dorm := .down, master := false, delay := 0, agreed := 0, peer := none, offerSent := 0, offerAt := 0,
    measured := false, peerCap := none, peerCapable := false, token := 0, enterAt := none, ackFixed := false,
    reference := 0, wakeAt := 0, helloSent := false, helloFlags := 0, reneg := false, missAt := [],
    trainSince := none, busyAt := 0, held := false, dropped := 0, pauses := 0 }

/-- No plot map. -/
def PlotMap.reset : PlotMap := { epoch := 0, plots := [], ovf := [], enc := false }

/-- An empty directory. -/
def Directory.reset : Directory :=
  { workers := [], plots := [], allocs := [], ovf := [], nextHandle := 1, results := [], left := [], lost := [] }

/-- Outside any Basin (TN_BASIN_STATE, TN_BASIN_EPOCH reset); parameters in force as TN_BASIN_HB's reset values. -/
def Basin.reset : Basin :=
  { role := .unjoined, slot := 0, plot := 0, mirrorOf := 0, noticed := false, void := false, paired := false,
    stby := false, epoch := 0, ownWin := none, basinWin := none, period := 100, miss := 3, nextPeriod := 100,
    nextMiss := 3, adopted := false, map := PlotMap.reset, holdNew := false, missedHb := 0, mgrMissing := false,
    mgrSerial := none, mgrSlot := 0, lastHb := 0, grant := none, handoverTo := none, leaveSince := none, noticeSince := none,
    noticedAt := 0, answerNoticed := false, firstJoin := none, attested := [], copying := false, copyAt := none,
    hbSeen := none, lostSeen := [] }

/-- No directory, no claim, nothing held. -/
def Mgr.reset : Mgr :=
  { dir := Directory.reset, pend := [], repSeq := 0, lease := 0, hbSeq := 0, firstHb := none, switched := false,
    periodAt := none, lostNotices := [], claimPlanned := false, claimSince := 0, grants := [], majoritySince := none,
    yieldSince := 0, successor := none, standby := none, activeEpoch := 0, loadAt := 0, held := [], discards := 0 }

/-- The policy's cold-reset values (R276, R289). -/
def Policy.reset : Policy := { requireEnc := false, basinEnc := false, lock := false, admission := [] }

/-- An empty log (R398). -/
def Log.reset : Log :=
  { entries := [], staged := [], head := 0, ack := 0, ackLo := 0, headHi := 0, ackHi := 0, lost := 0, dropped := 0,
    rselLo := 0, rselHi := 0, rstat := .none, window := [] }

/-- No interrupt cause (TN_INT_STAT, TN_INT_EN reset). -/
def Intr.reset : Intr := { stat := 0, en := 0 }

/-- No self-test (TN_ST_STAT reset). -/
def SelfTest.reset : SelfTest :=
  { running := false, done := false, result := false, tag := 0, target := 0, unit := 0, started := 0, detail := 0 }

/-- Telemetry at reset (R259, WR_SNAP, WR_MAP_STAT). -/
def Weir.reset : Weir :=
  { counters := [], qdepth := [], qmax := [], snap := [], snapTime := 0, snapTag := 0, snapDone := false, mapValid := 0,
    maps := [], mapAt := [], mapSeq := 0, mapFrom := 0, mapPeriod := 10, discards := 0, acc := [], thrSeen := false, placed := [] }

/-- Nothing granted. -/
def Own.reset : Own :=
  { qp := [], wq := [], cq := [], sy := [], span := [], key := [], push := [], cb := [], grp := [] }

/-- No stream. -/
def Runnel.reset : Runnel := { streams := [], held := [], counters := [], nextAt := [] }

/-- No debugger attached (FW_DBG_STAT reset). -/
def Dbg.reset : Dbg := { src := none, haltTrap := false, haltDtrap := false, pending := false, dtraps := 0 }

/-- Every slot FREE, no core in service before an apply (FW_CORE_STAT). -/
def Furrow.reset : Furrow :=
  { cores := 0, slots := [], colls := [], breaks := [], saved := [], launches := [], alogs := [], ages := 0, dbg := Dbg.reset, jtag := [] }

/-- The partner link DOWN (TN_PARTNER_STAT, TN_PRST_CAUSE, TN_PRST_COUNT reset); the partner role on Tender core 0
(assumption 6). -/
def Partner.reset : Partner :=
  { st := .down, trained := false, cxl := false, ide := false, width := 0, rate := 0, hbArmed := false, hbAt := 0,
    causeValid := false, total := 0, cause := 0, merged := 0, tdStep := 0, tdWait := false, cqeLost := 0, core := 0, cores := 15, held := [],
    owned := [], hdmHeld := [], modules := 0, sideband := none, ideKeys := [] }

/-- No transfer, no captured rejection (CV_POOL_STAT reset). -/
def Culvert.reset : Culvert := { bells := [], xfers := [], err := [] }

/-- No session. -/
def Spdm.reset : Spdm := { sess := [], nextSess := 1, frags := [], inbox := [], version := [], caps := [], algs := [] }

/-- The device held in cold reset: every field at its reset value, nothing listed in any memory, no command waiting. -/
def State.reset : State :=
  { sys := Sys.reset, boot := Boot.reset, asleep := none, flash := Flash.reset, feat := Feat.reset, vp := Vapen.reset,
    mbx := Mbx.reset, lv := Levee.reset, clk := Clk.reset, ports := [], links := [], basin := Basin.reset, mgr := Mgr.reset, policy := Policy.reset, wr := Weir.reset, log := Log.reset,
    intr := Intr.reset, st := SelfTest.reset, regs := [], pages := [], own := Own.reset,
    insts := [], wqs := [], cqs := [], infl := [], accSeq := 0, spans := [], keys := [], pieces := [], pieceClock := 0,
    ats := [], bx := [], nextBx := 0, allocs := [], qps := [], shadows := [], mirBlk := [], rxHeld := [],
    linkStats := [], decryptFails := 0, decryptHi := 0, rdHi := [], sy := [], syPend := [], groups := [], rn := Runnel.reset,
    fw := Furrow.reset, cbs := [], pt := Partner.reset, cv := Culvert.reset, spdm := Spdm.reset, hbm := [], plot := [],
    pmem := [], stacksLost := 0, out := [], rd := 0, pending := [] }

end Sys2Proof.Machine
end

