-- ==== Sys2Proof/Machine/Pace.lean ====
section
/-!
DEFINITION. What waits to be sent, as time passes: the packet a queue pair would send next and what it lacks, and the stall
counters of the link blocks and the cycle counters of the instances (spec file 11, R256, R257, R259, R264; R92, R234, R379, R380, R391).
-/
namespace Sys2Proof.Machine

/-- The breakout code of a port. -/
def brkOf (s : State) (p : Nat) : Nat := match s.boot.image with | some i => fld i.brk (2 * p + 1) (2 * p) | none => 0

/-- A link's state. -/
def link (s : State) (l : Nat) : LinkSt := Tab.getD s.links l LinkSt.reset

/-- The Sluice engine of a link (R76). -/
def engineOf (s : State) (l : Nat) : Blk :=
  .sluice (2 * (l / 4) + (if brkOf s (l / 4) = 0 then 0 else if brkOf s (l / 4) = 1 then l % 2 else l % 4 / 2))

/-- A region's state. -/
def region (s : State) (n : Nat) : Region := Tab.getD s.lv.regions n Region.reset

/-- The region throttles now (LV_REGION_STATUS.THROTTLE). -/
def Region.throttled (r : Region) : Bool := r.thrOwn || r.thrPkg

/-- The region that holds a gated block (R61). -/
def blkRegion : Blk → Nat
  | .sluice n => n / 2
  | .furrow n => n / 6
  | .tender _ => 13
  | .hbm n => 8 + n
  | .headgate => 8
  | .synko => 9
  | .spanUnit => 9
  | .keyTable => 10
  | .codebook => 11
  | .culvert => 11
  | .weir => 12
  | .runnel => 12

/-- The link a queue pair runs on now (R232, R244). -/
def curLink (p : Qp) : Nat := if p.onAlt then fld p.cfg 17 13 else fld p.cfg 12 8

/-- Refills a bucket of `burst` at `rate` per nanosecond of elapsed time. -/
def refill (tok at_ now rate burst : Nat) : Nat := min burst (tok + rate * (now - at_))

/-- ENC. -/
def qEnc (p : Qp) : Bool := bitN p.cfg 29

/-- ROUTED. -/
def qRouted (p : Qp) : Bool := bitN p.cfg 28

/-- VLAN_EN. -/
def qVlan (p : Qp) : Bool := bitN p.cfg 27

/-- TC. -/
def qTc (p : Qp) : Nat := fld p.cfg 26 24

/-- SEG in bytes (R236). -/
def qSeg (p : Qp) : Nat := 1024 * 2 ^ fld p.cfg 21 20

/-- Difference of PSNs modulo 2^24 (R234). -/
def d24 (a b : Nat) : Nat := (a + (2 ^ 24 - b % 2 ^ 24)) % 2 ^ 24

/-- A PSN moved forward. -/
def psn (a n : Nat) : Nat := (a + n) % 2 ^ 24

/-- The report of a link in the map period now running (R264). -/
def accOf (s : State) (l : Nat) : MapAcc :=
  Tab.getD s.wr.acc l { tx := 0, rx := 0, stall := 0, ce := 0, retx := 0, cuts := 0, qsum := 0, qcnt := 0, qmax := 0, qhi := 0, active := 0 }

/-- BURST in bucket units: a bucket unit is 1/8000 byte, the tokens of 1 Mb/s in 1 ns. -/
def burstOf (pr : Nat × Nat × Nat × Nat) : Nat := fld pr.2.2.2 10 0 * 1024 * 8000

/-- Tokens now. -/
def tokensNow (s : State) (r : Rate) : Nat := refill r.tokens r.tokAt s.sys.now r.r (burstOf r.prof)

/-- The bytes of a frame on the wire (R226), FCS included. -/
def frameLen (p : Qp) (ext payload : Nat) : Nat :=
  18 + (if qVlan p then 4 else 0) + (if qRouted p then 48 else 0) + 24 + ext + payload + (if qEnc p then 16 else 0)

/-- A link can carry frames now: up, and not held by dormancy or calibration (R83, R92). -/
def sendable (s : State) (l : Nat) : Bool :=
  (link s l).up && !(link s l).held && (link s l).dorm ≠ .dormant && (link s l).dorm ≠ .waking && (link s l).dorm ≠ .retrain

/-- The request that holds a PSN, and the packet's place in it. -/
def reqAt (p : Qp) (x : Nat) : Option (SReq × Nat) :=
  (p.reqs.find? (fun r => d24 x r.first < r.count)).map (fun r => (r, d24 x r.first))

/-- The extension of a request's FIRST packet (R230). -/
def reqExt (r : SReq) (k : Nat) : Bytes :=
  if k ≠ 0 then []
  else if r.op ∈ [1, 2, 3] then putBE 8 r.raddr ++ putBE 4 r.rkey ++ putBE 4 r.len
  else if r.op = 5 ∨ r.op = 6 then putBE 4 r.len ++ zeros 4
  else if r.op = 7 ∨ r.op = 8 then putBE 8 r.raddr ++ putBE 4 r.rkey ++ zeros 4 ++ putBE 8 r.operand ++ putBE 8 r.swap
  else fit 32 r.mark

/-- The payload of packet `k` of a request. -/
def reqPay (p : Qp) (r : SReq) (k : Nat) : Bytes :=
  if r.op = 3 ∨ r.op = 7 ∨ r.op = 8 ∨ r.op = 0x15 then []
  else match r.buf with | .bytes b => slice b (k * qSeg p) (qSeg p) | _ => []

/-- The instance whose transmit bucket a request's payload draws on (R380). -/
def chargeOf (s : State) (p : Qp) (who : Waiter) : Option Nat :=
  if p.kind = .rc then some p.inst
  else match who with
    | .entry q _ => (Tab.find s.wqs q).map (·.inst)
    | .basinX id => (s.bx.find? (fun x => x.id = id)).map (·.inst)
    | _ => none

/-- The instance's transmit bucket holds a payload (one unit is one bit). -/
def txReady (s : State) (inst : Option Nat) (bytes : Nat) : Bool :=
  match inst.bind (Tab.find s.insts) with
  | none => true
  | some i => i.txRate = 0 || 8 * bytes ≤ refill i.txTok i.txAt s.sys.now i.txRate (i.txBurst * 8192)

/-- The bucket holds a frame's length (R256). -/
def paceReady (s : State) (p : Qp) (len : Nat) : Bool := 8000 * len ≤ tokensNow s p.rate

/-- The frame length of a packet with a payload and its charged instance, where pacing and the transmit bucket permit it. -/
def lenReady (s : State) (p : Qp) (ext pay : Nat) (who : Option Nat) : Option Nat :=
  let len := frameLen p ext pay
  if paceReady s p len && txReady s who pay then some len else none

/-- The frame length of packet `k` of a request, where it may go. -/
def reqReady (s : State) (p : Qp) (r : SReq) (k : Nat) : Option Nat :=
  lenReady s p (reqExt r k).length (reqPay p r k).length (chargeOf s p r.who)

/-- The frame length of a queue pair's next paced packet, where pacing, the window and the instance's transmit bucket all permit it:
a retransmission, a READ_RESP packet, or a new packet inside the window. -/
def txNext (s : State) (p : Qp) : Option Nat :=
  if !sendable s (curLink p) ∨ p.st ≠ .connected ∨ p.rnrUntil.isSome ∨ p.ctl ≠ [] then none
  else match p.retx, p.rsps with
    | x :: _, _ => (reqAt p x).bind fun y => if y.1.op = 3 ∧ y.2 ≠ 0 then none else reqReady s p y.1 y.2
    | [], x :: _ => lenReady s p 0 x.data.length (if p.kind = .rc then some p.inst else none)
    | [], [] =>
      if d24 p.sndEnd p.sndNxt = 0 ∨ 8192 ≤ d24 p.sndNxt p.sndUna then none
      else (reqAt p p.sndNxt).bind fun y => reqReady s p y.1 y.2

/-! ### Stalls (R257, R259, R264) -/

/-- The Sluice-clock cycles of 0.8 ns between two instants (R259). -/
def cyclesOf (a b : Nat) : Nat := b * 5 / 4 - a * 5 / 4

/-- A queue pair has something to send. -/
def hasPacket (p : Qp) : Bool :=
  p.ctl ≠ [] || p.retx ≠ [] || p.rsps ≠ [] || (p.st = .connected && d24 p.sndEnd p.sndNxt ≠ 0)

/-- Packets of the link are held by dormancy (R92). -/
def linkHolds (s : State) (l : Nat) : Bool :=
  let x := link s l
  x.up && (x.held || x.dorm = .dormant || x.dorm = .waking) && x.cal ≠ .running
    && s.qps.any (fun y => curLink y.2 = l && hasPacket y.2)

/-- The queue pair with its bucket full: what remains lacking is not tokens. -/
def fullBucket (p : Qp) : Qp := { p with rate.tokens := burstOf p.rate.prof }

/-- The instant at which the tokens of a queue pair's next packet suffice, where they are all that it lacks. -/
def paceAt (s : State) (p : Qp) : Option Nat :=
  if (txNext s p).isSome ∨ p.rate.r = 0 then none
  else (txNext s (fullBucket p)).map fun len => s.sys.now + (8000 * len - tokensNow s p.rate + p.rate.r - 1) / p.rate.r

/-- What a link's counters gain up to an instant: PACE_STALL, THROTTLE_STALL and HOLD cycles. A link with a frame ready has no pace
stall; a link that only lacks tokens has one until the first packet's suffice. -/
def stallOf (s : State) (l t : Nat) : Nat × Nat × Nat :=
  let qs := (s.qps.filter (fun y => curLink y.2 = l)).map (·.2)
  let cyc := cyclesOf s.sys.now t
  let ready := qs.any (fun p => (txNext s p).isSome)
  let pace := match qs.filterMap (paceAt s) with
    | [] => 0
    | x :: r => cyclesOf s.sys.now (max s.sys.now (min t (r.foldl min x)))
  (if ready then 0 else pace, if ready ∧ (region s (blkRegion (engineOf s l))).throttled then cyc else 0,
   if linkHolds s l then cyc else 0)

/-- Adds to a counter of a link block (R259). -/
def addStall (w : Weir) (l k d : Nat) : Weir :=
  if d = 0 then w
  else { w with counters := Tab.put w.counters (l * 16 + k) ((Tab.getD w.counters (l * 16 + k) 0 + d) % 2 ^ 64) }

/-- One link's stalls up to an instant, in its link block and in the map report of the running period (R259, R264). -/
def stallLink (s : State) (t : Nat) (w : Weir) (l : Nat) : Weir :=
  let (pace, thr, hold) := stallOf s l t
  let w := addStall (addStall (addStall w l 2 pace) l 4 thr) l 5 hold
  if pace + thr = 0 then w
  else
    let a := accOf s l
    { w with acc := Tab.put w.acc l { a with stall := a.stall + pace + thr } }

/-- Weir as time passes to an instant: the stalls of every link that has a queue pair. An express message takes no time in the model,
so PREEMPT_STALL stays (assumption 27). -/
def stallsTo (s : State) (t : Nat) : Weir :=
  (s.qps.map (fun y => curLink y.2)).eraseDups.foldl (stallLink s t) s.wr

/-! ### The instances' cycle counters (R379, R380, R391) -/

/-- Difference of two 32-bit free-running indices (R157). -/
def sub32 (a b : Nat) : Nat := (a + (2 ^ 32 - b % 2 ^ 32)) % 2 ^ 32

/-- An enabled queue has an entry posted. -/
def posted (x : Wq) : Bool := x.st = .enabled && sub32 x.pi x.ci ≠ 0

/-- The in-flight record's key: queue and index. -/
def inflKey (q i : Nat) : Nat := q * 2 ^ 32 + i

/-- The launch record of a queue entry. -/
def launchOf (s : State) (q i : Nat) : Option Launch := Tab.find s.fw.launches (inflKey q i)

/-- The instance a group runs for. -/
def tgInst (s : State) (t : Tg) : Nat := match launchOf s t.q t.i with | some l => l.inst | none => 0

/-- The slots an instance occupies. -/
def slotsOf (s : State) (n : Nat) : Nat :=
  (s.fw.slots.filter (fun p => tgInst s p.2 = n)).length
  + (s.fw.colls.filter (fun p => match Tab.find s.groups p.2 with | some g => g.inst = n | none => false)).length

/-- Acceptance tokens now; an entry takes 10^4 (R380). -/
def accTokens (s : State) (i : Inst) : Nat := refill i.accTok i.accAt s.sys.now i.accRate 2560000

/-- Transmit tokens now; a bit takes one (R380). -/
def txTokens (s : State) (i : Inst) : Nat := refill i.txTok i.txAt s.sys.now i.txRate (i.txBurst * 8192)

/-- The cycles until an instant, or until a bucket holds `need` where that comes first. -/
def lackCycles (s : State) (t need have_ rate : Nat) : Nat :=
  if rate = 0 ∨ need ≤ have_ then 0 else cyclesOf s.sys.now (max s.sys.now (min t (s.sys.now + (need - have_ + rate - 1) / rate)))

/-- The payload of a queue pair's next paced packet and the instance it draws on, where the instance's bucket alone may hold it back. -/
def txWant (s : State) (p : Qp) : Option (Nat × Nat) :=
  let t := { s with insts := s.insts.map (fun x => (x.1, { x.2 with txRate := 0 })) }
  if (txNext t p).isNone then none
  else match p.retx, p.rsps with
    | x :: _, _ => (reqAt p x).bind fun y => (chargeOf s p y.1.who).map fun n => (n, (reqPay p y.1 y.2).length)
    | [], x :: _ => if p.kind = .rc then some (p.inst, x.data.length) else none
    | [], [] => (reqAt p p.sndNxt).bind fun y => (chargeOf s p y.1.who).map fun n => (n, (reqPay p y.1 y.2).length)

/-- The least payload that an instance's packets wait to send. -/
def txLeast (s : State) (n : Nat) : Option Nat :=
  match (s.qps.filterMap (fun y => txWant s y.2)).filterMap (fun w => if w.1 = n then some w.2 else none) with
  | [] => none
  | x :: r => some (r.foldl min x)

/-- An instance's statistics as time passes: ACC_STALL while its acceptance bucket is empty with an entry posted, TX_STALL while its
transmit bucket lacks what every packet of it that is ready needs, and FW_SLOT_CYCLES, 1.6 GHz cycles of each slot it occupies (R391). -/
def instTick (s : State) (t n : Nat) (i : Inst) : Inst :=
  let acc := if s.wqs.any (fun x => x.2.inst = n && posted x.2) then lackCycles s t 10000 (accTokens s i) i.accRate else 0
  let tx := match txLeast s n with | some b => lackCycles s t (8 * b) (txTokens s i) i.txRate | none => 0
  let fw := slotsOf s n * (t * 8 / 5 - s.sys.now * 8 / 5)
  let add (st : Tab Nat) (k d : Nat) : Tab Nat := if d = 0 then st else Tab.put st k ((Tab.getD st k 0 + d) % 2 ^ 64)
  { i with stats := add (add (add i.stats 6 acc) 7 tx) 10 fw }

/-- Every instance as time passes to an instant. -/
def instsTo (s : State) (t : Nat) : Tab Inst := s.insts.map (fun x => (x.1, instTick s t x.1 x.2))

end Sys2Proof.Machine
end

