-- ==== Sys2Proof/Machine/Status.lean ====
section
/-!
DEFINITION. The device's status codes (R392).
-/
namespace Sys2Proof.Machine.Status

/-- 0x00 -/
def ok : Byte := 0x00
/-- 0x01 -/
def busy : Byte := 0x01
/-- 0x02 -/
def badField : Byte := 0x02
/-- 0x03 -/
def noResource : Byte := 0x03
/-- 0x04 -/
def notPermitted : Byte := 0x04
/-- 0x05 -/
def keyViolation : Byte := 0x05
/-- 0x06 -/
def bounds : Byte := 0x06
/-- 0x07 -/
def translationFault : Byte := 0x07
/-- 0x08 -/
def remoteAbort : Byte := 0x08
/-- 0x09 -/
def capacityShortfall : Byte := 0x09
/-- 0x0A -/
def featureNotNegotiated : Byte := 0x0A
/-- 0x0B -/
def featureConflict : Byte := 0x0B
/-- 0x0C -/
def versionMismatch : Byte := 0x0C
/-- 0x0D -/
def flushed : Byte := 0x0D
/-- 0x0E -/
def retryExceeded : Byte := 0x0E
/-- 0x0F -/
def overflowDropped : Byte := 0x0F
/-- 0x10 -/
def counterSaturated : Byte := 0x10
/-- 0x11 -/
def waitTimeout : Byte := 0x11
/-- 0x12 -/
def superseded : Byte := 0x12
/-- 0x13 -/
def senseOpen : Byte := 0x13
/-- 0x14 -/
def deferredTimeout : Byte := 0x14
/-- 0x15 -/
def dormancyMiss : Byte := 0x15
/-- 0x16 -/
def partnerReset : Byte := 0x16
/-- 0x17 -/
def epochMismatch : Byte := 0x17
/-- 0x18 -/
def decryptFail : Byte := 0x18
/-- 0x19 -/
def attestRequired : Byte := 0x19
/-- 0x1A -/
def doubleTrap : Byte := 0x1A
/-- 0x1B -/
def rateLimited : Byte := 0x1B
/-- 0x1C -/
def queueDisabled : Byte := 0x1C
/-- 0x1D -/
def descriptorCrc : Byte := 0x1D
/-- 0x1E -/
def staleDescriptor : Byte := 0x1E
/-- 0x1F -/
def slotWorn : Byte := 0x1F

end Sys2Proof.Machine.Status
end

