-- ==== Sys2Proof/Machine/Ops.lean ====
section
/-!
DEFINITION. The shared operations: time, outputs, free values, the register file, features, interrupts, events,
rejected register writes and mailbox completion.
-/
namespace Sys2Proof.Machine

/-- The outcome of every command of this device. -/
abbrev Result := Host.Outcome State Fault Refusal

/-! ### Time, outputs, free values -/

/-- Records something the device sends. -/
def emit (s : State) (o : Out) : State := { s with out := o :: s.out }

/-- The next free value (assumption 3). -/
def freeVal (s : State) : BitVec 64 := Config.free s.sys.freeCtr

/-- Steps past a free value. -/
def freeStep (s : State) : State := { s with sys.freeCtr := s.sys.freeCtr + 1 }

/-- Bytes of free values (assumption 16). -/
def freeBytes (s : State) (n : Nat) : Bytes := (List.range n).map fun k => (Config.free (s.sys.freeCtr + k)).setWidth 8

/-- Steps past a number of free values. -/
def freeSkip (s : State) (n : Nat) : State := { s with sys.freeCtr := s.sys.freeCtr + n }

/-- The value a read returns (assumption 4). -/
def setRd (s : State) (v : Nat) : State := { s with rd := BitVec.ofNat 64 v }

/-! ### Mode, stage, image -/

/-- The applied image's partner mode; H-mode where none is applied. -/
def modeOf (s : State) : PMode := match s.boot.image with | some i => i.mode | none => .h

/-- The applied image's role capability. -/
def roleCap (s : State) : Nat := match s.boot.image with | some i => i.roleCap | none => 0

/-- The control window's block registers respond (R97). -/
def windowLive (s : State) : Bool := s.boot.stage = .ready

/-- The fixed register page responds (R97, R130). -/
def fixedLive (s : State) : Bool := s.boot.stage ≠ .rom ∧ s.boot.stage ≠ .halted ∧ !s.sys.coldLow

/-- The Tender firmware runs (R130, R407). -/
def tenderRuns (s : State) : Bool := s.boot.stage ≠ .rom ∧ s.boot.stage ≠ .halted ∧ !s.sys.coldLow

/-- The SMBus target address: 0x60 plus STRAP_SMB (R52). -/
def smbAddr (s : State) : Nat := 0x60 + s.sys.straps.smb.toNat

/-! ### Features (R14, R113, R114) -/

/-- A feature lies in the offer. -/
def offered (s : State) (n : Nat) : Bool := s.feat.offer.getLsbD n

/-- A feature lies in the committed subset; bits 0 to 3 may be used before a commit (R114). -/
def committed (s : State) (n : Nat) : Bool :=
  if s.feat.committed then s.feat.subset.getLsbD n else n < 4

/-- A requester may use a feature: the commit governs the host link, the offer every other requester (R14, R114). -/
def srcHas (s : State) (src : Src) (n : Nat) : Bool :=
  match src with
  | .host => committed s n
  | .mctp | .jtag | .tender => offered s n

/-! ### The register file -/

/-- The key of a stored device-wide register: block ID and offset in the block. -/
def regKey (blk off : Nat) : Nat := blk * 2 ^ 20 + off

/-- Reset values of the stored RW and RWP device-wide registers. -/
def regReset (key : Nat) : Word :=
  let blk := key / 2 ^ 20
  let off := key % 2 ^ 20
  if blk = 0x0C then
    if off = 0x004 then 0x1907
    else if off = 0x00C then 760
    else if 0x100 ≤ off ∧ off < 0x140 then 0x5A0F
    else if off = 0x600 then 0x0A01
    else 0
  else if blk = 0x02 then
    if 0x8000 ≤ off ∧ off < 0x9000 then
      let o := off % 0x200
      if o = 0 then 0x100
      else if 0x100 ≤ o ∧ o % 0x40 = 0x08 then 0x80032064
      else 0
    else 0
  else if blk = 0x0B then
    if off = 0x588 then 2
    else if off = 0x208 then 0x30064
    else 0
  else if blk = 0x03 then
    if 0x100 ≤ off ∧ off < 0x170 then
      (if off % 16 = 0 then 0xE0088014 else if off % 16 = 4 then 0x07D00190 else if off % 16 = 8 then 0x8081500A else 64)
    else if off = 0x180 then 0x80000010
    else if off = 0x300 then 0x8000000A
    else 0
  else if blk = 0x04 then (if off = 0 then 0x00051405 else 0)
  else if blk = 0x05 then (if off = 0 then 1000 else 0)
  else if blk = 0x0A then
    if 0x100 ≤ off ∧ off < 0x900 ∧ off % 0x20 = 0x08 then 0x18001
    else 0
  else 0

/-- The present value of a stored device-wide register. -/
def getReg (s : State) (blk off : Nat) : Nat := (Tab.getD s.regs (regKey blk off) (regReset (regKey blk off))).toNat

/-- The whole seconds in (a, b], newest first. -/
def ppsEdges (a b : Nat) : List Nat :=
  ((List.range (b / 1000000000 - a / 1000000000)).map fun k => (a / 1000000000 + 1 + k) * 1000000000).reverse

/-- Device time at an instant; with TN_TIME_CTRL.PPS_OUT_EN, PPS_OUT rises at each whole second passed (R75), and the stalls of the
links and the cycles of the instances are counted (R259, R391). -/
def setNow (s : State) (t : Nat) : State :=
  { s with sys.now := t, wr := stallsTo s t, insts := instsTo s t, out := (if bitN (getReg s 0x0B 0x108) 3 then (ppsEdges s.sys.now t).map Out.pps else []) ++ s.out }

/-- Moves device time forward to an instant, if it lies ahead (assumption 7). -/
def advanceTo (s : State) (t : Nat) : State := setNow s (max s.sys.now t)

/-- Stores a device-wide register's value. -/
def putReg (s : State) (blk off : Nat) (w : Nat) : State :=
  { s with regs := Tab.put s.regs (regKey blk off) (BitVec.ofNat 32 w) }

/-- Returns the stored registers that meet a test to their reset values. -/
def resetRegs (s : State) (f : Nat → Bool) : State := { s with regs := Tab.keep (fun k _ => !f k) s.regs }

/-- A block's span in the control window, `none` where the image gave it no resources (R125). -/
def blockAt (s : State) (blk : Nat) : Option BlockSpan :=
  match s.vp.layout with
  | none => none
  | some l => match l.blocks[blk - 1]? with
    | some b => if b.span = 0 then none else some b
    | none => none

/-- The control-window offset of a register; the BN_, VP_ and mailbox registers lie in the fixed page (R117). -/
def regAddr (s : State) (blk off : Nat) : Nat :=
  if blk = 0x0D ∨ blk = 0x0E then 0x10000 + off
  else match blockAt s blk with | some b => b.base + off | none => off

/-- The control-window offset of an instance-page register (R124). -/
def pageAddr (s : State) (inst off : Nat) : Nat :=
  match s.vp.layout with | some l => l.pageBase + inst * l.pageStride + off | none => off

/-! ### Self-tests (R403, R404) -/

/-- A self-test of a target's unit runs: the target takes no new work. -/
def underTest (s : State) (target unit : Nat) : Bool := s.st.running && s.st.target = target && s.st.unit = unit

/-! ### Interrupts (R401) -/

/-- TN_INT_CFG.VECTOR. -/
def intVector (s : State) : Nat := fld (getReg s 0x0B 0x588) 26 16

/-- Sends the device interrupt message, to Tender in H-mode. -/
def sendInt (s : State) : State :=
  emit s (if modeOf s = .h then .tenderInt (intVector s) else .msix (intVector s))

/-- Sends an MSI-X message of a queue's vector, to Tender in H-mode. -/
def sendVector (s : State) (v : Nat) : State := emit s (if modeOf s = .h then .tenderInt v else .msix v)

/-- Replaces TN_INT_STAT and TN_INT_EN; the message follows when their AND changes from zero to nonzero. -/
def setInt (s : State) (stat en : BitVec 6) : State :=
  let was := s.intr.stat &&& s.intr.en
  let s := { s with intr := { stat := stat, en := en } }
  if was = 0 ∧ stat &&& en ≠ 0 then sendInt s else s

/-- Sets one cause bit of TN_INT_STAT. -/
def raise (s : State) (n : Nat) : State := setInt s (s.intr.stat ||| BitVec.ofNat 6 (2 ^ n)) s.intr.en

/-! ### Events (R394 to R400, R407) -/

/-- The severity of each event (R400); CAL_DONE and SELFTEST_DONE carry their own. -/
def evSev (id : Nat) : Nat :=
  if id ∈ [0x0004, 0x0020, 0x0040, 0x0080] then 0
  else if id ∈ [0x0010, 0x0012, 0x0021, 0x0022, 0x0024, 0x0031, 0x0032, 0x0052, 0x0063, 0x0070] then 1
  else if id ∈ [0x0011, 0x0043, 0x0050] then 3
  else 2

/-- The event is Tender-detected (R407). -/
def evTender (e : Ev) : Bool :=
  e.id ∈ [0x0001, 0x0002, 0x0003, 0x0004, 0x0005, 0x0013, 0x0024, 0x0033, 0x0040, 0x0041, 0x0042, 0x0043, 0x0044, 0x0063]
  || (e.id = 0x0054 && e.detail.head? = some 1)

/-- Stages an event ahead of the write port; a full staging drops it (R396). Events of one AON cycle stand in
ascending SOURCE (R395). -/
def stageEv (l : List Ev) (e : Ev) : List Ev :=
  match l with
  | [] => [e]
  | x :: r =>
    if x.time / 20 = e.time / 20 ∧ e.source < x.source ∧ !evTender x ∧ !evTender e then e :: x :: r
    else x :: stageEv r e

/-- Stages an event with its own severity. -/
def logSev (s : State) (id : Nat) (status : Byte) (source sev unit : Nat) (detail : Bytes) : State :=
  let e : Ev := { time := s.sys.now, id := id, status := status, source := source, sev := sev, unit := unit,
                  detail := fit 32 detail }
  if s.log.staged.length < 64 then { s with log.staged := stageEv s.log.staged e }
  else { s with log.dropped := satInc 32 s.log.dropped }

/-- Stages an event of the event table. -/
def logEv (s : State) (id : Nat) (status : Byte) (source unit : Nat) (detail : Bytes) : State :=
  logSev s id status source (evSev id) unit detail

/-- The 64 bytes of a log entry (R394). -/
def entBytes (e : LogEnt) : Bytes :=
  let b := putLE 8 e.ev.time ++ putLE 8 e.seq ++ putLE 2 e.ev.id ++ [e.ev.status, BitVec.ofNat 8 e.ev.source,
    BitVec.ofNat 8 e.ev.sev, 0] ++ putLE 2 e.rep ++ putLE 4 e.ev.unit ++ fit 32 e.ev.detail
  b ++ putLE 4 (crcN b)

/-! ### The delivery guarantee (R39, R40) -/

/-- Marks the guarantee void and logs why (R40, GUARANTEE_VOID). -/
def voidGuarantee (s : State) (why : Nat) : State :=
  logEv { s with basin.void := true } 0x0043 Status.ok 0x0B 0 [BitVec.ofNat 8 why]

/-- Opens the recovery window of this HV6's own parts; a second fault inside an open one voids the guarantee (R39, R40). -/
def openOwnWin (s : State) : State :=
  let s := if s.basin.ownWin = none then s else voidGuarantee s 0
  { s with basin.ownWin := some s.sys.now }

/-! ### Rejected register writes (R127, R128) -/

/-- Captures a rejected write in VP_WERR, or counts it; a capture raises WERR (R401). -/
def reject (s : State) (addr : Nat) (inst : Option Nat) (w : RegWr) (st : Byte) : State :=
  if s.vp.werrValid then
    { s with vp.werrMulti := true, vp.werrCount := satInc 16 s.vp.werrCount }
  else
    raise { s with vp.werrValid := true, vp.werrStatus := st, vp.werrAddr := BitVec.ofNat 32 addr,
                   vp.werrData := w.data, vp.werrInst := inst, vp.werrSrc := w.src } 0

/-- The status of the first check that fails. -/
def firstFail : List (Bool × Byte) → Option Byte
  | [] => none
  | (ok, st) :: r => if ok then firstFail r else some st

/-- There is no host link: the applied image is of H-mode, or, before one is applied, the straps select H-mode (R97, R105). -/
def noHost (s : State) : Bool := match s.boot.image with | some i => i.mode = .h | none => !s.sys.straps.pen

/-- A write of the host link is discarded while a teardown runs (R144 step 1); in H-mode there is no host link. -/
def discarded (s : State) (src : Src) : Bool := src = .host && (s.pt.st = .teardown || noHost s)

/-- Who writes the device-wide registers of Weir, Runnel and Furrow: the host link, or Tender in H-mode. -/
def devOwner (s : State) (w : RegWr) : Bool := if modeOf s = .h then w.src = .tender else w.src = .host

/-- A write that passes every check has its effect; the first failing check rejects it whole (R127, R10). -/
def checked (s : State) (addr : Nat) (inst : Option Nat) (w : RegWr) (cs : List (Bool × Byte)) (eff : State) : State :=
  if discarded s w.src then s
  else match firstFail ((w.full, Status.badField) :: cs) with
  | some st => reject s addr inst w st
  | none => eff

/-- No reserved bit of the written word is set (R9). -/
def noRsv (w : RegWr) (rsv : Word) : Bool := w.data &&& rsv = 0

/-! ### Mailbox completion (R129, R131, R132, R401) -/

/-- The response block of a request (R129). -/
def rspBlock (code tag : Nat) (st : Byte) (data : Bytes) : Bytes :=
  let h := [BitVec.ofNat 8 code, st] ++ putLE 2 data.length ++ putLE 4 tag ++ zeros 4
  h ++ putLE 4 (crcN (h ++ data)) ++ data

/-- Delivers a response: to TN_MBX_RSP, or to the MCTP requester; an INTR request raises MBX. -/
def mbxRespond (s : State) (r : MbxReq) (st : Byte) (data : Bytes) : State :=
  let b := rspBlock r.code r.tag st data
  let s := if r.discard then s
    else match r.origin with
      | .mctp => emit s (.mctp b)
      | _ => { s with mbx.st := .done, mbx.status := st, mbx.rsp := b }
  if r.intr && !r.discard then raise s 2 else s

/-- Completes the running mailbox command. -/
def mbxDone (s : State) (st : Byte) (data : Bytes) : State :=
  match s.mbx.running with
  | none => s
  | some r => mbxRespond { s with mbx.running := none } r st data

/-- The running mailbox command, if its code is the one asked for. -/
def mbxIs (s : State) (code : Nat) : Option MbxReq :=
  match s.mbx.running with
  | none => none
  | some r => if r.code = code then some r else none

/-- The requester of a mailbox command (R376). -/
def mbxSrc (r : MbxReq) : Src := match r.origin with | .host => .host | .mctp => .mctp | .jtag => .jtag | .tender => .tender

end Sys2Proof.Machine
end

