-- ==== Sys2Proof/Machine/Quiet.lean ====
section
/-!
DEFINITION. The link of a queue pair, and whether a link has nothing outstanding (R83, R89, R232): no packet of a queue
pair on it is unacknowledged or queued, no acknowledgement is owed, no Runnel message is outstanding.
-/
namespace Sys2Proof.Machine

/-- A queue pair has nothing to send and nothing to await. -/
def qpQuiet (p : Qp) : Bool :=
  p.reqs = [] && p.retx = [] && p.rsps = [] && p.ctl = [] && p.unacked = 0

/-- A Runnel stream has nothing outstanding. -/
def streamQuiet (x : Stream) : Bool := x.unacked = [] && x.waiting = [] && x.ackOwed = none

/-- The BASIN queue pair toward a member. -/
def basinQp (s : State) (slot : Nat) : Option Nat :=
  (s.qps.find? (fun p => p.2.kind = .basin && p.2.member = slot && p.2.st ≠ .free && p.2.st ≠ .init)).map (·.1)

/-- The Runnel route to a slot: the link of its BASIN queue pair (R326, RN_ROUTE). -/
def rnLink (s : State) (slot : Nat) : Option Nat := ((basinQp s slot).bind (Tab.find s.qps)).map curLink

/-- Nothing is outstanding on a link. -/
def linkQuiet (s : State) (l : Nat) : Bool :=
  s.qps.all (fun p => curLink p.2 ≠ l || qpQuiet p.2)
  && s.rn.streams.all (fun x => rnLink s x.1 ≠ some l || streamQuiet x.2)

end Sys2Proof.Machine
end

