-- ==== Sys2Proof/Machine/Ports.lean ====
section
/-!
DEFINITION. Ethernet ports, modules, SerDes calibration and link dormancy (spec file 03, R76 to R95).
-/
namespace Sys2Proof.Machine

/-! ### Ports and links (R76) -/

/-- The links a port's breakout provides. -/
def linksOf (brk : Nat) : Nat := if brk = 0 then 1 else if brk = 1 then 2 else if brk = 2 then 4 else 0

/-- The breakout provides a link index. -/
def linkExists (s : State) (l : Nat) : Bool := s.boot.image.isSome && l < 32 && l % 4 < linksOf (brkOf s (l / 4))

/-- The link indices of a port. -/
def portLinks (s : State) (p : Nat) : List Nat := (List.range (linksOf (brkOf s p))).map (4 * p + ·)

/-- A port's state. -/
def port (s : State) (p : Nat) : Port := Tab.getD s.ports p Port.reset

/-- Replaces a port's state. -/
def putPort (s : State) (p : Nat) (x : Port) : State := { s with ports := Tab.put s.ports p x }

/-- Replaces a link's state. -/
def putLink (s : State) (l : Nat) (x : LinkSt) : State := { s with links := Tab.put s.links l x }

/-- SL_PORT_CFG.ADMIN_UP of a link. -/
def adminUp (s : State) (l : Nat) : Bool := bitN (getReg s 0x02 (0x8000 + 0x200 * (l / 4))) (12 + l % 4)

/-- The offset of a link's registers in the Sluice block. -/
def linkReg (l : Nat) : Nat := 0x8100 + 0x200 * (l / 4) + 0x40 * (l % 4)

/-- SL_DORM_CFG. -/
def dormCfg (s : State) (l : Nat) : Nat := getReg s 0x02 (linkReg l + 8)

/-- SL_DORM_CFG.DORM_EN. -/
def dormEn (s : State) (l : Nat) : Bool := bitN (dormCfg s l) 31

/-- The link trains: enabled, its port sound, neither up nor in dormancy's sleep. -/
def isTraining (s : State) (l : Nat) : Bool :=
  linkExists s l && adminUp s l && !(port s (l / 4)).failed && !(link s l).up && (link s l).dorm ≠ .dormant
    && (link s l).dorm ≠ .waking

/-! ### Calibration (R83, R84) -/

/-- The link is live: up or in dormancy, so that calibration waits for an idle window. -/
def linkLive (s : State) (l : Nat) : Bool := adminUp s l && !((port s (l / 4)).modState = .fault) && (link s l).up

/-- Starts the sweep of a pending calibration. -/
def calRun (x : LinkSt) : LinkSt := { x with cal := .running, held := true }

/-- A link has what it trains over: a ready module, or a backplane. -/
def hasMedium (s : State) (l : Nat) : Bool := (port s (l / 4)).modState = .ready || (port s (l / 4)).media = 2

/-- A foreground calibration need not wait: the link is neither live nor asleep, and no training is under way (R83). -/
def calFree (s : State) (l : Nat) : Bool :=
  !linkLive s l && !(isTraining s l && hasMedium s l) && (link s l).dorm ≠ .dormant && (link s l).dorm ≠ .waking

/-- Starts a pending calibration that need not wait (R83). -/
def calStart (s : State) (l : Nat) : State :=
  if (link s l).cal = .pending ∧ calFree s l then putLink s l (calRun (link s l)) else s

/-- Accepts a foreground calibration request: it starts at once on a link that is not live and not training. -/
def calAccept (s : State) (l tag : Nat) : State :=
  calStart (putLink s l { link s l with calTag := tag, calSince := s.sys.now, cal := .pending }) l

/-- SL_CAL_CMD (R83, R84). -/
def execSlCalStart (l : Nat) (w : RegWr) (s : State) : Result :=
  if !windowLive s ∨ 32 ≤ l then .next s
  else
    let start := bitN w.data.toNat 0
    .next (checked s (regAddr s 0x02 (linkReg l)) none w
      [(linkExists s l, Status.badField), (noRsv w 0xFFFF00FE, Status.badField),
       (!start || (link s l).cal = .idle, Status.busy)]
      (if start then calAccept s l (fld w.data.toNat 15 8) else s))

/-- CAL_IDLE_WINDOW (R83): an idle window of at least 50 µs opens for a pending calibration. -/
def execCalIdleWindow (l ns : Nat) (s : State) : Result :=
  let x := link s l
  let dormantOk := x.dorm = .dormant ∧ s.sys.now + 50000 ≤ x.wakeAt - 1000
  if !linkExists s l ∨ x.cal ≠ .pending ∨ ns < 50000 ∨ !(dormantOk || (x.up && linkQuiet s l)) then .next s
  else .next (putLink s l (calRun x))

/-- Completes a calibration with its event (R83). -/
def calEnd (s : State) (l : Nat) (st : Byte) : State :=
  let x := link s l
  let s := putLink s l { x with cal := .idle, calStatus := st, held := x.dorm = .entering || x.dorm = .dormant || x.dorm = .waking }
  logSev s 0x0020 st 0x02 (if st = Status.ok then 0 else 1) l [BitVec.ofNat 8 x.calTag]

/-- CAL_COMPLETE (R83). -/
def execCalComplete (l : Nat) (s : State) : Result :=
  if (link s l).cal ≠ .running then .next s else .next (calEnd s l Status.ok)

/-- CAL_DEFER_TIMEOUT (R83): no idle window within 1 s of the request. -/
def execCalDeferTimeout (l : Nat) (s : State) : Result :=
  if (link s l).cal ≠ .pending then .next s
  else .next (calEnd (advanceTo s ((link s l).calSince + 1000000000)) l Status.deferredTimeout)

/-! ### Modules (R79 to R81) -/

/-- The code of MOD_STATE. -/
def ModState.code : ModState → Nat
  | .none => 0
  | .initialising => 1
  | .ready => 2
  | .incompatible => 3
  | .fault => 4

/-- Logs MODULE_STATE (R80). -/
def logModule (s : State) (p : Nat) (m : ModState) : State :=
  logEv s 0x0024 Status.ok 0x0B p [BitVec.ofNat 8 m.code]

/-- Since when a link that goes down has been down (R244). -/
def sinceDown (s : State) (x : LinkSt) : Option Nat := some (x.downAt.getD s.sys.now)

/-- Entering RETRAIN logs DORMANCY_MISS with the state at the miss (R93). -/
def retrain (s : State) (l : Nat) : State :=
  let x := link s l
  let code := match x.dorm with
    | .down => 0 | .active => 1 | .entering => 2 | .dormant => 3 | .waking => 4 | .retrain => 5 | .ineligible => 6
  let s := putLink s l { x with dorm := .retrain, up := false, downAt := sinceDown s x, merge := false, verify := false, agreed := 0, measured := false,
                                peerCap := none, offerSent := 0, enterAt := none, ackFixed := false, held := false,
                                missAt := s.sys.now :: x.missAt, trainSince := some s.sys.now }
  logEv s 0x0021 Status.dormancyMiss 0x02 l [BitVec.ofNat 8 code]

/-- A link goes down: DOWN from ACTIVE or INELIGIBLE, RETRAIN from the states of dormancy (R89, R93). A pending
calibration starts once the link neither carries traffic nor trains (R83). DESIGN CHOICE (log 85): the state table gives DORMANT no
link-down exit; a link taken down there (module fault, port failure, LINK_DOWN) goes to RETRAIN with DORMANCY_MISS, as from the
other states of dormancy. Unsafe. -/
def goDown (s : State) (l : Nat) : State :=
  let x := link s l
  let s := match x.dorm with
    | .entering => retrain s l
    | .waking => retrain s l
    | .dormant => retrain s l
    | _ => putLink s l { x with dorm := if x.dorm = .retrain then .retrain else .down, up := false, downAt := sinceDown s x,
                                merge := false, verify := false, agreed := 0, measured := false, peerCap := none,
                                offerSent := 0, held := false }
  calStart s l

/-- Takes every link of a port down. -/
def portDown (s : State) (p : Nat) : State :=
  (portLinks s p).foldl (fun s l => if (link s l).up ∨ (link s l).dorm ≠ .down then goDown s l else calStart s l) s

/-- The lanes per link of a breakout. -/
def lanesOf (brk : Nat) : Nat := 8 / max 1 (linksOf brk)

/-- MODULE_INSERTION (R79, R80): Tender selects the application that matches the breakout. A backplane has no module: the port's
medium is found, and its links train over it (assumption 86). -/
def execModuleInsertion (p : Nat) (info : ModuleInfo) (s : State) : Result :=
  if !tenderRuns s ∨ s.boot.image = none ∨ 8 ≤ p then .next s
  else if info.backplane then .next (putPort s p { port s p with media := 2, missed := 0 })
  else
    let mem := info.mem.foldl (fun m x => Mem.set m x.1 x.2) ([] : Mem)
    let x := { port s p with media := if info.passive then 1 else 3, missed := 0, modMem := mem }
    if info.apps.contains (lanesOf (brkOf s p)) then .next (putPort s p { x with modState := .ready })
    else .next (logModule (portDown (putPort s p { x with modState := .incompatible }) p) p .incompatible)

/-- A module reports a fault, or stops answering: its links go down (R80). -/
def moduleFault (s : State) (p : Nat) : State :=
  if (port s p).modState = .fault then s
  else logModule (portDown (putPort s p { port s p with modState := .fault }) p) p .fault

/-- CMIS_POLL (R80). -/
def execCmisPoll (p : Nat) (ans : CmisAnswer) (s : State) : Result :=
  if !tenderRuns s ∨ 8 ≤ p ∨ (port s p).modState = .none then .next s
  else match ans with
    | .ok => .next (putPort s p { port s p with missed := 0 })
    | .fault => .next (moduleFault s p)
    | .silent =>
      let n := (port s p).missed + 1
      let t := putPort s p { port s p with missed := n }
      if n ≥ 3 then .next (moduleFault t p) else .next t

/-- The address of a module byte: lower memory below 128, the selected bank and page above (R81). -/
def modAddr (bank page off : Nat) : Nat := if off < 128 then off else (bank * 256 + page) * 256 + off

/-- The checks of R81 that both module commands share, in order. -/
def moduleChecks (s : State) (q : Bytes) (maxLen : Nat) : List (Bool × Byte) :=
  let len := getLE q 4 2
  [(getLE q 0 1 < 8 ∧ 1 ≤ len ∧ len ≤ maxLen ∧ getLE q 3 1 + len ≤ 256 ∧ zeroIn q 6 2, Status.badField),
   ((port s (getLE q 0 1)).modState ≠ .none, Status.notPermitted)]

/-- MODULE_READ (0x30, R81). -/
def execModuleRead (answers : Bool) (s : State) : Result :=
  match mbxIs s 0x30 with
  | none => .next s
  | some r =>
    let q := r.params
    match firstFail (moduleChecks s q 256 ++ [(answers, Status.retryExceeded)]) with
    | some st => .next (mbxDone s st [])
    | none => .next (mbxDone s Status.ok ((List.range (getLE q 4 2)).map fun i =>
        Mem.get (port s (getLE q 0 1)).modMem (modAddr (getLE q 1 1) (getLE q 2 1) (getLE q 3 1 + i))))

/-- A module byte reserved to Tender (R81 check 3). -/
def tenderByte (page off : Nat) : Bool := off = 26 || (128 ≤ off && page = 0x10)

/-- MODULE_WRITE (0x31, R81). -/
def execModuleWrite (answers : Bool) (s : State) : Result :=
  match mbxIs s 0x31 with
  | none => .next s
  | some r =>
    let q := r.params
    let idx := List.range (getLE q 4 2)
    let own := idx.all fun i => !tenderByte (getLE q 2 1) (getLE q 3 1 + i)
    match firstFail (moduleChecks s q 8 ++ [(own, Status.notPermitted), (answers, Status.retryExceeded)]) with
    | some st => .next (mbxDone s st [])
    | none =>
      let p := getLE q 0 1
      let mem := idx.foldl (fun m i => Mem.set m (modAddr (getLE q 1 1) (getLE q 2 1) (getLE q 3 1 + i))
        ((q.drop 8).getD i 0)) (port s p).modMem
      .next (mbxDone (putPort s p { port s p with modMem := mem }) Status.ok [])

/-! ### Link control frames (R88) -/

/-- The fields of a link control frame. -/
structure LinkFrame where
  op : Nat
  haveWork : Bool
  capable : Bool
  disable : Bool
  reply : Bool
  token : Byte
  serial : Nat
  interval : Nat
  turnaround : Nat
  deriving DecidableEq, Repr

/-- The body of a link control frame. -/
def frameBytes (f : LinkFrame) : Bytes :=
  let b := [0x1E, BitVec.ofNat 8 f.op,
    BitVec.ofNat 8 (bit f.haveWork + 2 * bit f.capable + 4 * bit f.disable + 8 * bit f.reply), f.token]
    ++ putBE 8 f.serial ++ putBE 2 f.interval ++ zeros 2 ++ putBE 4 f.turnaround ++ zeros 8
  b ++ putBE 4 (crcN b)

/-- A frame that R88 does not discard: CRC right, OP defined, reserved bits zero. -/
def frameOf (b : Bytes) : Option LinkFrame :=
  let fl := getBE b 2 1
  let op := getBE b 1 1
  if b.length = 32 ∧ getBE b 0 1 = 0x1E ∧ 1 ≤ op ∧ op ≤ 6 ∧ fl < 16 ∧ zeroIn b 14 2 ∧ zeroIn b 20 8 ∧
      getBE b 28 4 = crcN (b.take 28) then
    some { op := op, haveWork := bitN fl 0, capable := bitN fl 1, disable := bitN fl 2, reply := bitN fl 3,
           token := b.getD 3 0, serial := getBE b 4 8, interval := getBE b 12 2, turnaround := getBE b 16 4 }
  else none

/-- The MAC address of a link: the port's MAC_BASE and the link's index in the port (R124). -/
def linkMac (s : State) (l : Nat) : Nat := s.sys.fuses.macBase + l

/-- The Ethernet header of a link control frame: destination 01-80-C2-00-00-0E, the port's address, EtherType 0x88B5 (R88). -/
def linkHeader (s : State) (l : Nat) : Bytes :=
  putBE 6 0x0180C200000E ++ putBE 6 (linkMac s l) ++ putBE 2 0x88B5

/-- Sends a link control frame. -/
def sendFrame (s : State) (l : Nat) (f : LinkFrame) : State := emit s (.linkFrame l (linkHeader s l ++ frameBytes f))

/-- A frame of one OP from this device. -/
def ownFrame (s : State) (op : Nat) : LinkFrame :=
  { op := op, haveWork := false, capable := false, disable := false, reply := false, token := 0,
    serial := s.sys.fuses.serial, interval := 0, turnaround := 0 }

/-- A received frame of the OP a row names; a frame that arrives during a calibration (R83) and one that R88 discards are dropped
and counted (a frame with another valid OP is another row's event). -/
def onFrame (s : State) (l : Nat) (op : Nat) (b : Bytes) (k : LinkFrame → State) : Result :=
  if !linkExists s l then .next s
  else if (link s l).cal = .running then .next (putLink s l { link s l with dropped := (link s l).dropped + 1 })
  else match frameOf b with
    | none => .next (putLink s l { link s l with dropped := (link s l).dropped + 1 })
    | some f => if f.op = op then .next (k f) else .next s

/-! ### Eligibility and agreement (R85 to R87) -/

/-- TN_TIME_CTRL.PTP_LINK is in use on a link: SRC is PTP. -/
def isPtpLink (s : State) (l : Nat) : Bool :=
  let c := getReg s 0x0B 0x108
  fld c 1 0 = 1 ∧ fld c 12 8 = l

/-- The conditions of R85 this end decides before the delay is known. -/
def capable (s : State) (l : Nat) : Bool :=
  let m := (port s (l / 4)).media
  dormEn s l && (m = 1 || m = 2) && !isPtpLink s l

/-- This end's interval cap (R85): MAX_INTERVAL, and as a Basin member half the smaller heartbeat period. -/
def ownCap (s : State) (l : Nat) : Nat :=
  let m := fld (dormCfg s l) 10 0
  if s.basin.role = .unjoined then m else min m (min s.basin.period s.basin.nextPeriod / 2)

/-- Sends an OFFER. -/
def sendOffer (s : State) (l : Nat) (reply : Bool) (turn : Nat) : State :=
  sendFrame s l { ownFrame s 1 with capable := capable s l, reply := reply, interval := ownCap s l, turnaround := turn }

/-- Begins an OFFER exchange (R87). -/
def beginOffer (s : State) (l : Nat) : State :=
  let x := link s l
  sendOffer (putLink s l { x with offerSent := 1, offerAt := s.sys.now, measured := false, peerCap := none }) l false 0

/-- Once both the delay and the peer's cap are known, the link is ACTIVE with an agreed interval, or INELIGIBLE. -/
def concludeOffer (s : State) (l : Nat) : State :=
  let x := link s l
  match x.measured, x.peerCap with
  | true, some c =>
    let ok := capable s l && x.peerCapable && decide (x.delay ≤ 1000)
    let m := decide (s.sys.fuses.serial < x.peer.getD 0)
    putLink s l { x with master := m, agreed := if ok then min (ownCap s l) c else 0,
                         dorm := if ok then .active else .ineligible, reneg := false, offerSent := 0 }
  | _, _ => s

/-- A loopback test of the port, or a test of one of its engines, runs (R404). -/
def portTested (s : State) (p : Nat) : Bool := underTest s 3 p || underTest s 1 (2 * p) || underTest s 1 (2 * p + 1)

/-- SL_PORT_CFG.MERGE_EN. -/
def mergeEn (s : State) (p : Nat) : Bool := bitN (getReg s 0x02 (0x8000 + 0x200 * p)) 8

/-- LINK_TRAINED (R87, R78): training ends with the merge verification's result, and the end sends an OFFER. On a link that is up
already, where MERGE_EN has set off a verification of its own, the row is the end of that. -/
def execLinkTrained (l : Nat) (merge : Bool) (s : State) : Result :=
  let p := l / 4
  let x := link s l
  if !linkExists s l ∨ !adminUp s l ∨ (port s p).failed ∨ portTested s p ∨ !hasMedium s l ∨ x.cal = .running then .next s
  else if x.up then
    .next (if x.verify then putLink s l { x with merge := merge && mergeEn s p, verify := false } else s)
  else
    let t := putLink s l { x with up := true, downAt := none, merge := merge && mergeEn s p, verify := false,
                                  trainSince := none, busyAt := s.sys.now }
    .next (beginOffer t l)

/-- LINK_DOWN (R89, R93). -/
def execLinkDown (l : Nat) (s : State) : Result :=
  if !linkExists s l ∨ (!(link s l).up ∧ (link s l).dorm = .down) then .next s else .next (goDown s l)

/-- OFFER (R87): the peer's caps are taken; an OFFER with REPLY 0 is answered, a reply ends the delay measurement. -/
def execOffer (l : Nat) (b : Bytes) (s : State) : Result :=
  onFrame s l 1 b fun f =>
    let x := link s l
    if !x.up then s
    else
      let x := { x with peer := some f.serial, peerCap := some f.interval, peerCapable := f.capable }
      if f.reply then
        if x.offerSent = 0 then s
        else
          let rt := s.sys.now - x.offerAt - f.turnaround
          concludeOffer (putLink s l { x with measured := true, delay := rt / 2 }) l
      else concludeOffer (sendOffer (putLink s l x) l true 0) l

/-- OFFER_REPLY_TIMEOUT (R87): no reply within 100 µs; after 8 attempts the link is ineligible. -/
def execOfferReplyTimeout (l : Nat) (s : State) : Result :=
  let x := link s l
  if !linkExists s l ∨ !x.up ∨ x.offerSent = 0 ∨ x.measured then .next s
  else
    let t := advanceTo s (x.offerAt + 100000)
    if x.offerSent ≥ 8 then .next (putLink t l { x with offerSent := 0, dorm := .ineligible, agreed := 0 })
    else .next (sendOffer (putLink t l { x with offerSent := x.offerSent + 1, offerAt := t.sys.now }) l false 0)

/-- The agreed interval exceeds the present cap of R85 (R86). -/
def capExceeded (s : State) (x : LinkSt) : Bool :=
  s.basin.role ≠ .unjoined && decide (x.agreed ≠ 0 ∧ min s.basin.period s.basin.nextPeriod / 2 < x.agreed)

/-- DORMANCY_RENEGOTIATE (R86): a falling cap marks every link whose agreement is too long, once; an ACTIVE one sends a new
OFFER at once, another when it wakes. -/
def renegotiate (s : State) : State :=
  (List.range 32).foldl (fun s l =>
    let x := link s l
    if capExceeded s x ∧ !x.reneg then
      let s := putLink s l { x with reneg := true }
      if x.dorm = .active then beginOffer s l else s
    else s) s

/-! ### Entering dormancy (R89) -/

/-- IDLE_ENTER in ns. -/
def idleEnterNs (s : State) (l : Nat) : Nat := 1000 * fld (dormCfg s l) 26 11

/-- A link end is idle (R89), apart from the time that has passed on the wire. -/
def endIdle (s : State) (l : Nat) : Bool := (link s l).cal = .idle && !(link s l).verify && linkQuiet s l

/-- MASTER_IDLE_ENTER (R89): the idle master sends ENTER. -/
def execMasterIdleEnter (l : Nat) (s : State) : Result :=
  let x := link s l
  if !linkExists s l ∨ x.dorm ≠ .active ∨ !x.master ∨ x.reneg ∨ !dormEn s l ∨ !endIdle s l then .next s
  else
    let t := freeStep (advanceTo s (x.busyAt + idleEnterNs s l))
    let tok := (freeVal s).setWidth 8
    .next (sendFrame (putLink t l { x with dorm := .entering, token := tok, enterAt := some t.sys.now,
                                           ackFixed := false, held := true }) l
      { ownFrame t 2 with token := tok, interval := x.agreed })

/-- Fixes a reference instant and the first wake window after it. -/
def fixRef (x : LinkSt) (t : Nat) : LinkSt :=
  { x with reference := t, wakeAt := t + 10000 * x.agreed, ackFixed := true, enterAt := none, held := true,
           dorm := .entering, helloSent := false }

/-- ENTER (R89): the slave answers ENTER_ACK if it has been idle for IDLE_ENTER, else ENTER_NAK. -/
def execEnter (l : Nat) (b : Bytes) (s : State) : Result :=
  onFrame s l 2 b fun f =>
    let x := link s l
    if (x.dorm ≠ .active ∧ x.dorm ≠ .ineligible) ∨ x.master then s
    else if x.dorm = .ineligible ∨ x.reneg ∨ !dormEn s l ∨ !endIdle s l ∨ s.sys.now < x.busyAt + idleEnterNs s l then
      sendFrame s l { ownFrame s 4 with token := f.token }
    else
      sendFrame (putLink s l (fixRef { x with token := f.token } (s.sys.now + x.delay))) l
        { ownFrame s 3 with token := f.token, interval := x.agreed }

/-- ENTER_ACK (R89): the master's reference is its receipt. -/
def execEnterAck (l : Nat) (b : Bytes) (s : State) : Result :=
  onFrame s l 3 b fun f =>
    let x := link s l
    if x.dorm = .entering ∧ x.enterAt ≠ none ∧ f.token = x.token then putLink s l (fixRef x s.sys.now) else s

/-- Back to ACTIVE: held packets leave, and an agreement under R86 is sought anew. A link that has become the PTP link meanwhile is
INELIGIBLE (R85). -/
def wakeUp (s : State) (l : Nat) : State :=
  let x := link s l
  let y := { x with dorm := .active, held := false, enterAt := none, ackFixed := false, busyAt := s.sys.now }
  if isPtpLink s l then putLink s l { y with dorm := .ineligible, agreed := 0, reneg := false }
  else if x.reneg then beginOffer (putLink s l y) l
  else putLink s l y

/-- ENTER_NAK (R89). -/
def execEnterNak (l : Nat) (b : Bytes) (s : State) : Result :=
  onFrame s l 4 b fun f =>
    let x := link s l
    if x.dorm = .entering ∧ x.enterAt ≠ none ∧ f.token = x.token then wakeUp s l else s

/-- CANCEL (R89, R92). -/
def execCancel (l : Nat) (b : Bytes) (s : State) : Result :=
  onFrame s l 5 b fun f =>
    let x := link s l
    if x.dorm = .entering ∧ f.token = x.token then wakeUp s l else s

/-- DORMANCY_HOLD_END (R89): 4 µs from the reference without CANCEL. -/
def execDormancyHoldEnd (l : Nat) (s : State) : Result :=
  let x := link s l
  if x.dorm ≠ .entering ∨ !x.ackFixed then .next s
  else .next (putLink (advanceTo s (x.reference + 4000)) l { x with dorm := .dormant, up := false })

/-- ENTER_ACK_TIMEOUT (R89): 10 µs after ENTER without an answer. -/
def execEnterAckTimeout (l : Nat) (s : State) : Result :=
  match (link s l).enterAt with
  | none => .next s
  | some t => if (link s l).dorm ≠ .entering then .next s else .next (retrain (advanceTo s (t + 10000)) l)

/-! ### Wake windows (R90) -/

/-- WAKE_WINDOW_OPEN (R90): at W − 1 µs the end powers the link and sends HELLO. -/
def execWakeWindowOpen (l : Nat) (s : State) : Result :=
  let x := link s l
  if x.dorm ≠ .dormant then .next s
  else
    let t := advanceTo s (x.wakeAt - 1000)
    let work := !linkQuiet s l
    let dis := !dormEn s l || x.reneg || isPtpLink s l
    let fl : Byte := BitVec.ofNat 8 (bit work + 4 * bit dis)
    .next (sendFrame (putLink t l { x with dorm := .waking, helloSent := true, helloFlags := fl,
                                           reference := if x.master then x.reference else t.sys.now + x.delay }) l
      { ownFrame t 6 with haveWork := work, disable := dis })

/-- HELLO (R90): the window ends with traffic, or with a new hold from a new reference. -/
def execHello (l : Nat) (b : Bytes) (s : State) : Result :=
  onFrame s l 6 b fun f =>
    let x := link s l
    if x.dorm ≠ .waking ∨ !x.helloSent ∨ x.peer ≠ some f.serial then s
    else
      let any := f.haveWork || f.disable || x.helloFlags ≠ 0
      let y := { x with up := true }
      if any then wakeUp (putLink s l y) l
      else putLink s l (fixRef y (if x.master then s.sys.now else x.reference))

/-- WAKE_WINDOW_CLOSE (R90): W + 1.6 µs + LINK_DELAY without a valid HELLO. -/
def execWakeWindowClose (l : Nat) (s : State) : Result :=
  let x := link s l
  if x.dorm ≠ .waking then .next s else .next (retrain (advanceTo s (x.wakeAt + 1600 + x.delay)) l)

/-- DORM_MISS_LIMIT (R94): the third miss within 1 s clears DORM_EN. -/
def execDormMissLimit (l : Nat) (s : State) : Result :=
  let x := link s l
  match x.missAt with
  | a :: _ :: c :: _ =>
    if a ≤ c + 1000000000 ∧ dormEn s l then
      .next (logEv (putLink (putReg s 0x02 (linkReg l + 8) (dormCfg s l % 2 ^ 31)) l { x with missAt := [] })
        0x0022 Status.ok 0x02 l [])
    else .next s
  | _ => .next s

end Sys2Proof.Machine
end

