-- ==== Sys2Proof/Machine/Inst.lean ====
section
/-!
DEFINITION. Instances as every block sees them: limits of the image, classes, grants, instance pages, the command
registers of an instance page with their checks, and the token buckets (R127, R376, R377, R380).
-/
namespace Sys2Proof.Machine

/-! ### Limits (R124, R156) -/

/-- A limit of the applied image; 0 where none is applied. -/
def lim (s : State) (f : Image → Nat) : Nat := match s.boot.image with | some i => f i | none => 0

/-- QP_MAX. -/
def qpMax (s : State) : Nat := lim s Image.qpMax
/-- DB_COUNT (R156). -/
def dbCount (s : State) : Nat := 2 * qpMax s
/-- CQ_MAX. -/
def cqMax (s : State) : Nat := lim s Image.cqMax
/-- SPAN_MAX. -/
def spanMax (s : State) : Nat := lim s Image.spanMax
/-- KEY_MAX. -/
def keyMax (s : State) : Nat := lim s Image.keyMax
/-- SYNKO_MAX. -/
def synkoMax (s : State) : Nat := lim s Image.synkoMax
/-- INST_MAX. -/
def instMax (s : State) : Nat := lim s Image.instMax
/-- CB_SLOTS. -/
def cbSlots (s : State) : Nat := lim s Image.cbSlots
/-- PUSH_COUNT. -/
def pushCount (s : State) : Nat := lim s (fun i => match i.partner with | some p => p.push | none => 0)
/-- SLOT_BYTES (R361). -/
def slotBytes (s : State) : Nat :=
  match s.boot.image with
  | some i => if i.cbSlots = 0 then 0 else i.cb * 262144 / i.cbSlots / 64 * 64
  | none => 0
/-- FLS_BYTES (R124). -/
def flsBytes (s : State) : Nat := lim s (fun i => i.fls * 262144 / 48)

/-! ### Classes and grants (R375 to R377) -/

/-- The instance is partner-side. -/
def isPartner (s : State) (n : Nat) : Bool :=
  match Tab.find s.insts n with | some i => i.cls = .partner | none => false

/-- A feature that a request of an instance may use: committed for a partner-side one, offered for a manager-owned one. -/
def instHas (s : State) (n f : Nat) : Bool := if isPartner s n then committed s f else offered s f

/-- A member of an aligned block of 64 is granted to an instance. -/
def owns (t : Tab Nat) (n inst : Nat) : Bool := Tab.find t (n / 64) = some inst

/-- A member of a resource granted one by one belongs to an instance. -/
def owns1 (t : Tab Nat) (n inst : Nat) : Bool := Tab.find t n = some inst

/-- Instance 0 takes a free block of a resource when it first uses one of it (R375). -/
def mayUse (t : Tab Nat) (n inst : Nat) : Bool := owns t n inst || (inst = 0 && !Tab.has t (n / 64))

/-- The block of a member, taken by the instance that uses it (R375). -/
def takeBlock (t : Tab Nat) (n inst : Nat) : Tab Nat := if owns t n inst then t else Tab.put t (n / 64) inst

/-- Instance 0 returns a block none of whose members it still uses; key block 0 stays (R375). -/
def dropBlock (t : Tab Nat) (n inst : Nat) (used : Nat → Bool) : Tab Nat :=
  if inst = 0 ∧ owns t n 0 ∧ (List.range 64).all (fun k => !used (n / 64 * 64 + k)) then Tab.del t (n / 64) else t

/-- The lowest position at or above `p` where `n` consecutive free blocks lie below `limit`; the table lists the taken
blocks in rising order. -/
def gapFrom (n limit : Nat) : Nat → Tab Nat → Option Nat
  | p, [] => if p + n ≤ limit then some p else none
  | p, (k, _) :: t => if p + n ≤ k then (if p + n ≤ limit then some p else none) else gapFrom n limit (k + 1) t

/-- The lowest free range of `n` blocks below `limit`, from block `lo` on (R377). -/
def lowestGap (t : Tab Nat) (n lo limit : Nat) : Option Nat := gapFrom n limit lo (Tab.keep (fun k _ => lo ≤ k) t)

/-- Marks `n` blocks from `b` as an instance's. -/
def grantRange (inst : Nat) : Nat → Nat → Tab Nat → Tab Nat
  | _, 0, t => t
  | b, n + 1, t => grantRange inst (b + 1) n (Tab.put t b inst)

/-- Removes every block of an instance. -/
def ungrant (t : Tab Nat) (inst : Nat) : Tab Nat := Tab.keep (fun _ o => o ≠ inst) t

/-- An instance takes no new work: a partner reset or a forced destroy tears it down (R144, R384). -/
def leaving (s : State) (n : Nat) : Bool :=
  (s.pt.st = .teardown && isPartner s n)
  || (match Tab.find s.insts n with | some i => i.destroying.isSome | none => false)

/-- The requester may act on an instance (R376). -/
def srcMay (src : Src) (c : IClass) : Bool :=
  match src with
  | .host => c = .partner
  | .mctp | .jtag | .tender => c = .manager

/-- The requester owns an instance's page (R376). -/
def pageOwned (s : State) (n : Nat) (src : Src) : Bool :=
  match Tab.find s.insts n with | some i => srcMay src i.cls | none => false

/-- Adds to one statistics counter of an instance (R391). -/
def instStat (s : State) (n k d : Nat) : State :=
  { s with insts := Tab.modify s.insts n (fun i =>
      { i with stats := Tab.put i.stats k ((Tab.getD i.stats k 0 + d) % 2 ^ 64) }) }

/-! ### Instance pages (R124, R127) -/

/-- Reset values of the RW registers of an instance page. -/
def pageReset (off : Nat) : Nat :=
  if off = 0x004 then 0x00011004 else if off = 0x01C then 256 else if off = 0x044 then 4
  else if off = 0x104 then 0x00300000 else if off = 0x128 then 0x03E8E064 else if off = 0x12C then 0x00080010
  else if off = 0x130 then 0x00140210 else if off = 0x234 then 1 else if off = 0x284 then 0x00020012
  else if off = 0x298 then 1000 else 0

/-- The key of an instance-page register. -/
def pageKey (inst off : Nat) : Nat := inst * 4096 + off

/-- A register of an instance page. -/
def getPage (s : State) (inst off : Nat) : Nat :=
  (Tab.getD s.pages (pageKey inst off) (BitVec.ofNat 32 (pageReset off))).toNat

/-- Stores a register of an instance page. -/
def putPage (s : State) (inst off v : Nat) : State :=
  { s with pages := Tab.put s.pages (pageKey inst off) (BitVec.ofNat 32 v) }

/-- Stores BUSY and STATUS in a command's status register, leaving its other bits. -/
def putStat (s : State) (inst off : Nat) (busy : Bool) (st : Byte) : State :=
  let keep := fld (getPage s inst off) 30 30
  putPage s inst off (bit busy * 2 ^ 31 + keep * 2 ^ 30 + st.toNat * 256)

/-- A command's BUSY bit. -/
def pageBusy (s : State) (inst off : Nat) : Bool := bitN (getPage s inst off) 31

/-! ### Token buckets (R380) -/

/-- The instance's command bucket holds a token (one token is 10^6). -/
def cmdReady (s : State) (n : Nat) : Bool :=
  match Tab.find s.insts n with
  | none => true
  | some i => i.cmdRate = 0 || 1000000 ≤ refill i.cmdTok i.cmdAt s.sys.now i.cmdRate 16000000

/-- Draws one command token. -/
def cmdDraw (s : State) (n : Nat) : State :=
  { s with insts := Tab.modify s.insts n (fun i =>
      if i.cmdRate = 0 then i
      else { i with cmdTok := refill i.cmdTok i.cmdAt s.sys.now i.cmdRate 16000000 - 1000000, cmdAt := s.sys.now }) }

/-! ### Command registers (R127, R380) -/

/-- Rejects a command write: captured in VP_WERR and mirrored in the command's status register. -/
def rejectCmd (s : State) (inst off stat : Nat) (w : RegWr) (st : Byte) : State :=
  let s := reject s (pageAddr s inst off) (some inst) w st
  putStat s inst stat (pageBusy s inst stat) st

/-- A command register of an instance page: checks 1 and 2 of R127, the BUSY rule, the command's own table, then the
command bucket; a command that passes has its effect and leaves BUSY 0 with STATUS OK. -/
def pageCmd (s : State) (inst off stat : Nat) (w : RegWr) (cs : List (Bool × Byte)) (eff : State → State) : Result :=
  if !windowLive s ∨ discarded s w.src ∨ instMax s ≤ inst then .next s
  else if !w.full then .next (reject s (pageAddr s inst off) (some inst) w Status.badField)
  else if !pageOwned s inst w.src then .next (reject s (pageAddr s inst off) (some inst) w Status.notPermitted)
  else if pageBusy s inst stat then .next (reject s (pageAddr s inst off) (some inst) w Status.busy)
  else match firstFail cs with
    | some st => .next (rejectCmd s inst off stat w st)
    | none =>
      if cmdReady s inst then .next (eff (putStat (cmdDraw s inst) inst stat false Status.ok))
      else .next (rejectCmd (instStat s inst 8 1) inst off stat w Status.rateLimited)

/-- The command register's CMD field names a row's command. -/
def cmdIs (w : RegWr) (c : Nat) : Bool := fld w.data.toNat 3 0 = c

/-- A row's command, or nothing where the written word names another. -/
def onCmd (w : RegWr) (c : Nat) (s : State) (k : Result) : Result := if cmdIs w c ∨ !w.full then k else .next s

end Sys2Proof.Machine
end

