-- ==== Sys2Proof/Machine/Entry.lean ====
section
/-!
DEFINITION. Work-queue entries: layout, phase, and the field checks of R190 with the rules of R181 to R189, R316 and R369.
-/
namespace Sys2Proof.Machine

/-- The next 32-bit index. -/
def inc32 (a : Nat) : Nat := (a + 1) % 2 ^ 32

/-- The phase of an index in a ring of 2^log2 entries (R158). -/
def phaseOf (i log2 : Nat) : Nat := if i / 2 ^ log2 % 2 = 0 then 1 else 0

/-- OPCODE of an entry. -/
def entOp (e : Bytes) : Nat := getLE e 0 1 % 128
/-- FLAGS. -/
def entFlags (e : Bytes) : Nat := getLE e 1 1
/-- FENCE. -/
def entFence (e : Bytes) : Bool := bitN (entFlags e) 0
/-- RD_FENCE. -/
def entRdFence (e : Bytes) : Bool := bitN (entFlags e) 1
/-- INLINE. -/
def entInline (e : Bytes) : Bool := bitN (entFlags e) 2
/-- SOLICIT. -/
def entSolicit (e : Bytes) : Bool := bitN (entFlags e) 3
/-- SYNKO. -/
def entSynko (e : Bytes) : Nat := getLE e 2 2
/-- WR_ID. -/
def entWrId (e : Bytes) : Bytes := slice e 4 8
/-- LENGTH, bytes 12 to 15. -/
def entLen (e : Bytes) : Nat := getLE e 12 4
/-- The local address at bytes 16 to 23. -/
def entAddr (e : Bytes) : Nat := getLE e 16 8
/-- The key at bytes 24 to 27. -/
def entKey (e : Bytes) : Nat := getLE e 24 4

/-- An entry is current for an index: its PHASE is the index's (R158). -/
def entCurrent (e : Bytes) (i log2 : Nat) : Bool := getLE e 0 1 / 128 = phaseOf i log2

/-- An entry's CRC is right (R158). -/
def entCrcOk (e : Bytes) : Bool := getLE e 60 4 = crcN (e.take 60)

/-- The kinds that accept an opcode (R182). -/
def opKinds (op : Nat) : List QKind :=
  if op = 0 then [.sq, .lq] else if 1 ≤ op ∧ op ≤ 7 then [.sq] else if op = 8 then [.rq]
  else if (0x10 ≤ op ∧ op ≤ 0x13) ∨ (0x20 ≤ op ∧ op ≤ 0x23) then [.lq] else []

/-- The features an opcode itself needs (R182). -/
def opFeat (op : Nat) : Option Nat :=
  if 1 ≤ op ∧ op ≤ 8 then some 1 else if op = 0x10 ∨ op = 0x11 then some 5 else if op = 0x12 ∨ op = 0x13 then some 22
  else if op = 0x20 then some 11 else if op = 0x21 then some 12 else if op = 0x22 then some 9
  else if op = 0x23 then some 14 else none

/-- The features a number format needs (R189). -/
def fmtFeat (f : Nat) : Option Nat :=
  if f = 4 ∨ f = 5 then some 17 else if 6 ≤ f ∧ f ≤ 8 then some 16 else none

/-- The encoded bytes of `n` elements of a format (R189). -/
def fmtBytes (f n : Nat) : Nat :=
  if f = 1 ∨ f = 9 then 4 * n else if f = 2 ∨ f = 3 then 2 * n
  else if f = 6 then 25 * (n / 32) else if f = 7 then 17 * (n / 32) else if f = 8 then 33 * (n / 32) else n

/-- An MX format. -/
def isMx (f : Nat) : Bool := 6 ≤ f && f ≤ 8

/-- The features of an entry, each with the offset of the field it is charged to (R190 check 2). -/
def entFeats (e : Bytes) : List (Nat × Nat) :=
  let op := entOp e
  let c (f : Option Nat) (o : Nat) : List (Nat × Nat) := match f with | some n => [(n, o)] | none => []
  c (opFeat op) 0 ++ (if entSynko e = 0xFFFF then [] else [(9, 2)])
  ++ (if op = 0x22 ∧ getLE e 12 1 = 4 then [(10, 12)] else [])
  ++ (if op = 0x20 then
        c (fmtFeat (getLE e 14 1)) 14
        ++ (if getLE e 15 1 % 4 = 0 then [] else [(15, 15)])
        ++ (if bitN (getLE e 15 1) 2 then [(13, 15)] else [])
      else [])

/-- The reserved byte ranges of each opcode's body (R183, R186 to R188). -/
def entRsv (e : Bytes) : List (Nat × Nat) :=
  let inl := entInline e
  let op := entOp e
  if op = 0 then [(12, 48)]
  else if op = 1 then (if inl then [(40, 4)] else [(40, 20)])
  else if op = 2 then (if inl then [] else [(44, 16)])
  else if op = 3 then [(40, 20)]
  else if op = 4 then (if inl then [(28, 16)] else [(28, 32)])
  else if op = 5 then (if inl then [(28, 12)] else [(28, 12), (44, 16)])
  else if op = 6 then [(48, 12)]
  else if op = 7 then [(56, 4)]
  else if op = 8 then [(28, 32)]
  else if op = 0x10 then [(40, 20)]
  else if op = 0x11 then (if inl then [(40, 4)] else [(40, 20)])
  else if op = 0x12 ∨ op = 0x13 then [(29, 31)]
  else if op = 0x20 then [(50, 2), (56, 4)]
  else if op = 0x21 then [(14, 2), (52, 8)]
  else if op = 0x22 then [(13, 3), (18, 2), (36, 24)]
  else if op = 0x23 then [(17, 3), (36, 24)]
  else []

/-- The offset of the first nonzero byte of a range. -/
def firstNonzero (e : Bytes) (off len : Nat) : Option Nat :=
  ((List.range len).find? (fun k => e.getD (off + k) 0 ≠ 0)).map (off + ·)

/-- FLAGS legal for the opcode (R183, R192). -/
def flagsOk (e : Bytes) : Bool :=
  let op := entOp e
  let f := entFlags e
  f < 16 && (!bitN f 2 || op ∈ [1, 2, 4, 5, 0x11]) && (!bitN f 3 || op ∈ [2, 4, 5]) && (op ≠ 8 || f % 4 = 0)

/-- Check 3: the offset of the first reserved or illegal byte, in ascending order. -/
def rsvFail (e : Bytes) : Option Nat :=
  if !flagsOk e then some 1
  else
    let op := entOp e
    let inField := (if op = 0x20 ∧ 32 ≤ getLE e 15 1 then [15] else [])
      ++ (if (op = 0x10 ∨ op = 0x11) ∧ e.getD 39 0 ≠ 0 then [32] else [])
    let inArea := (entRsv e).filterMap (fun r => firstNonzero e r.1 r.2)
    (inField ++ inArea).min?

/-- A failing rule list gives the lowest offset it is charged to. -/
def ruleFail (l : List (Bool × Nat)) : Option Nat := ((l.filter (fun x => !x.1)).map (·.2)).min?

/-- Two ranges share a byte; an empty range shares none. -/
def overlapR (a al b bl : Nat) : Bool := !disjointR a al b bl

/-- H of an unequal exchange's count header (R323). -/
def countHdr (n : Nat) : Nat := (4 * n + 63) / 64 * 64

/-- The blocks of source and destination of a collective (R315), at SIZE n and RANK r. -/
def collBlocks (op n r root : Nat) : Nat × Nat :=
  if op = 1 then (1, 1) else if op = 2 then (n, 1) else if op = 3 then (1, n)
  else if op = 4 then (if r = root then (1, 1) else (0, 1))
  else if op = 5 then (1, if r = root then 1 else 0)
  else if op = 6 then (n, n) else (0, 0)

/-- The byte lengths of a collective's source and destination, without VQ operands (R315, R323, R324). -/
def collBytes (e : Bytes) (n r : Nat) : Nat × Nat :=
  let op := getLE e 12 1
  let f := getLE e 14 1
  let cnt := getLE e 16 4
  let root := getLE e 52 4
  if op = 7 then
    (countHdr n + fmtBytes f cnt, countHdr n + (if bitN (getLE e 15 1) 4 then n * fmtBytes f root else fmtBytes f cnt))
  else
    let b := collBlocks op n r root
    (b.1 * fmtBytes f cnt, b.2 * fmtBytes f cnt)

/-- The group a COLLECTIVE names, when it exists and is the instance's. -/
def collGroup (s : State) (inst : Nat) (e : Bytes) : Option Group :=
  match Tab.find s.groups (getLE e 20 4) with
  | some g => if g.inst = inst then some g else none
  | none => none

/-- The rules of a COLLECTIVE's fields (R187, R316, R369). -/
def collRules (s : State) (inst : Nat) (e : Bytes) : List (Bool × Nat) :=
  let op := getLE e 12 1
  let red := getLE e 13 1
  let dt := getLE e 14 1
  let fl := getLE e 15 1
  let cnt := getLE e 16 4
  let src := getLE e 24 8
  let dst := getLE e 32 8
  let vin := bitN fl 0
  let vout := bitN fl 1
  let frn := bitN fl 2
  let ffw := bitN fl 3
  let pad := bitN fl 4
  let root := getLE e 52 4
  let bar := op = 8
  let flags := (!(vin || vout) || (1 ≤ op && op ≤ 5))
    && (!frn || (op ∈ [1, 4, 8] && !vin && !vout && !isMx dt && fmtBytes dt cnt ≤ 32))
    && !(frn && ffw) && (!pad || op = 7)
  let base : List (Bool × Nat) :=
    [(1 ≤ op ∧ op ≤ 8, 12), (red ≤ 3 ∧ ((red ≠ 0) = (op ∈ [1, 2, 5])), 13),
     ((if bar then dt = 0 else 1 ≤ dt && dt ≤ 10) && (!(vin || vout) || (1 ≤ dt && dt ≤ 5)) && !(op = 7 && isMx dt), 14),
     (flags, 15), ((!bar || cnt = 0) && (!isMx dt || cnt % 32 = 0), 16),
     (getLE e 20 4 < 4096, 20),
     ((!bar || src = 0) && (!vin || src % 64 = 0), 24), ((!bar || dst = 0) && (!vout || dst % 64 = 0), 32),
     (if vin then getLE e 48 1 < cbSlots s else getLE e 48 1 = 0, 48),
     (if vout then getLE e 49 1 < cbSlots s else getLE e 49 1 = 0, 49),
     ((op ∈ [4, 5] || pad || root = 0) && (!pad || 1 ≤ root), 52)]
  match collGroup s inst e with
  | none => base
  | some g =>
    let noSrc := op = 4 && g.rank ≠ root
    let noDst := op = 5 && g.rank ≠ root
    let b := collBytes e g.size g.rank
    let same := op = 4 && g.rank = root && src = dst
    base ++ [(!(op ∈ [4, 5]) || root < g.size, 52), (!noSrc || src = 0, 24), (!noSrc || getLE e 40 4 = 0, 40),
             (!noDst || dst = 0, 32), (!noDst || getLE e 44 4 = 0, 44),
             (vin || vout || same || !overlapR src b.1 dst b.2, 32)]

/-- The rules of an entry's fields (R190 check 4), each with the offset it is charged to. -/
def fieldRules (s : State) (inst : Nat) (e : Bytes) : List (Bool × Nat) :=
  let op := entOp e
  let len := entLen e
  let inl := entInline e
  let z (o n : Nat) : Bool := zeroIn e o n
  let inlRules : List (Bool × Nat) :=
    if inl then ([(1 ≤ len ∧ len ≤ 16, 12), (z 16 8, 16), (z 24 4, 24)] : List (Bool × Nat))
      ++ (match firstNonzero e (44 + len) (16 - len) with | some o => [(false, o)] | none => [])
    else [(len ≤ 2 ^ 31, 12)]
  let zeroRules : List (Bool × Nat) :=
    if len = 0 ∧ !inl then [(z 16 8, 16), (z 24 4, 24), (z 28 4, 28), (z 32 8, 32)] else []
  let sy : List (Bool × Nat) := [(entSynko e = 0xFFFF ∨ entSynko e < synkoMax s, 2)]
  sy ++
  (if op ∈ [1, 2, 3, 4, 5] then inlRules ++ zeroRules
   else if op = 6 ∨ op = 7 then [(len = 8, 12), (entAddr e % 8 = 0, 16), (getLE e 32 8 % 8 = 0, 32)]
   else if op = 8 then [(1 ≤ len ∧ len ≤ 2 ^ 31, 12)]
   else if op = 0x10 then [(1 ≤ len ∧ len ≤ 2 ^ 31, 12)]
   else if op = 0x11 then (if inl then inlRules else [(1 ≤ len ∧ len ≤ 2 ^ 31, 12)])
   else if op = 0x12 ∨ op = 0x13 then
     [(4096 ≤ len ∧ len % 4096 = 0, 12), (entAddr e % 4096 = 0, 16),
      (1 ≤ getLE e 28 1 ∧ getLE e 28 1 ≤ (if op = 0x12 then 2 else 5), 28)]
   else if op = 0x20 then collRules s inst e
   else if op = 0x21 then
     let fls := flsBytes s / 16
     let alen := getLE e 44 4
     let clen := getLE e 28 4
     [(1 ≤ getLE e 12 2 ∧ getLE e 12 2 ≤ 768, 12), (getLE e 16 8 % 256 = 0, 16),
      (256 ≤ clen ∧ clen ≤ 2 ^ 20 ∧ clen % 256 = 0, 28), (alen ≠ 0 ∨ z 32 8, 32), (alen ≠ 0 ∨ z 40 4, 40),
      (alen ≤ 4096, 44), (getLE e 48 4 ≤ fls, 48)]
   else if op = 0x22 then
     let sop := getLE e 12 1
     [(1 ≤ sop ∧ sop ≤ 4, 12), (getLE e 16 2 < synkoMax s, 16), (getLE e 20 8 < 2 ^ 48, 20),
      (3 ≤ sop ∨ z 28 4, 28), (if sop = 4 then getLE e 32 4 < dbCount s else z 32 4, 32)]
   else if op = 0x23 then
     let vl := getLE e 14 1
     let en := getLE e 15 1
     let el := getLE e 16 1
     [(getLE e 12 2 < cbSlots s, 12), (vl = 4 ∨ vl = 8 ∨ vl = 16, 14), (en ≤ 1, 15), (1 ≤ el ∧ el ≤ 3, 16),
      (getLE e 20 8 % 64 = 0, 20),
      (getLE e 32 4 = (if en = 0 then 256 else 4096) * vl * (if el = 1 then 4 else 2), 32)]
   else [])

/-- A counter granted to an instance, or shared with it (R302). -/
def counterSeen (s : State) (n inst : Nat) : Bool :=
  owns s.own.sy n inst || (match Tab.find s.sy n with | some c => c.share = some inst | none => false)

/-- Check 5: counters, slots, groups and target queues named are the instance's (R190, R302, R316, R369). -/
def grantsOk (s : State) (inst : Nat) (e : Bytes) : Bool :=
  let op := entOp e
  let sop := getLE e 12 1
  (entSynko e = 0xFFFF || owns s.own.sy (entSynko e) inst)
  && (op ≠ 0x20 || ((collGroup s inst e).isSome
        && (!bitN (getLE e 15 1) 0 || owns1 s.own.cb (getLE e 48 1) inst)
        && (!bitN (getLE e 15 1) 1 || owns1 s.own.cb (getLE e 49 1) inst)))
  && (op ≠ 0x22 || ((if 3 ≤ sop then counterSeen s (getLE e 16 2) inst else owns s.own.sy (getLE e 16 2) inst)
        && (sop ≠ 4 || owns s.own.wq (getLE e 32 4) inst)))
  && (op ≠ 0x23 || owns1 s.own.cb (getLE e 12 2) inst)

/-- The field checks of R190: the status and DETAIL of the first failure. -/
def entFail (s : State) (inst : Nat) (kind : QKind) (e : Bytes) : Option (Byte × Nat) :=
  if !(opKinds (entOp e)).contains kind then some (Status.badField, 0)
  else match (entFeats e).find? (fun f => !instHas s inst f.1) with
    | some f => some (Status.featureNotNegotiated, f.2)
    | none => match rsvFail e with
      | some o => some (Status.badField, o)
      | none => match ruleFail (fieldRules s inst e) with
        | some o => some (Status.badField, o)
        | none => if grantsOk s inst e then none else some (Status.notPermitted, 0)

/-- The SYNKO field passes its own checks, whatever the rest of the entry (R190, R193). -/
def synkoOk (s : State) (inst : Nat) (e : Bytes) : Bool :=
  entSynko e ≠ 0xFFFF && instHas s inst 9 && entSynko e < synkoMax s && owns s.own.sy (entSynko e) inst

end Sys2Proof.Machine
end

