-- ==== Sys2Proof/Machine/Power.lean ====
section
/-!
DEFINITION. Levee: regions, over-current throttle, sense diagnosis, voltage commands, regulator telemetry
(spec file 02, R58 to R70).
-/
namespace Sys2Proof.Machine

/-- Replaces a region's state. -/
def putRegion (s : State) (n : Nat) (r : Region) : State := { s with lv.regions := Tab.put s.lv.regions n r }

/-- The regions' numbers. -/
def allRegions : List Nat := List.range 16

/-- JUNCTION_OVERTEMP (R58): THERM_TRIP_N falls at 115 °C and stays low until cold reset. -/
def execJunctionOvertemp (tempC : Nat) (s : State) : Result :=
  if s.sys.coldLow ∨ tempC < 115 then .next s else .next { s with sys.thermTrip := true }

/-- LV_CTRL.FAST_EN. -/
def fastEn (s : State) : Bool := bitN (getReg s 0x0C 0x004) 0

/-- A bank that engaged at an instant is still engaged: it acts for up to 200 ns (R62). -/
def bankOn (at_ : Option Nat) (now : Nat) : Bool := match at_ with | some t => decide (now ≤ t + 200) | none => false

/-- The region's boost bank supplies current now. -/
def boosted (s : State) (n : Nat) : Bool := bankOn (region s n).boost s.sys.now

/-- The region's shunt bank absorbs current now. -/
def shunted (s : State) (n : Nat) : Bool := bankOn (region s n).shunt s.sys.now

/-- A sample of a region's die grid, `deltaMv` from the commanded voltage: LV_REGION_D.VDIE shows it (R59), and the banks answer
to it where FAST_EN is 1. -/
def gridSample (s : State) (deltaMv : Int) (r : Region) : Region :=
  let r := { r with vdie := (4 * ((s.lv.target : Int) + deltaMv)).toNat % 4096 }
  if !fastEn s then r
  else if deltaMv ≤ -20 then { r with boost := some s.sys.now, shunt := none }
  else if 20 ≤ deltaMv then { r with shunt := some s.sys.now, boost := none }
  else { r with boost := none, shunt := none }

/-- GRID_EXCURSION (R62): at 20 mV below the commanded voltage the boost bank engages, at 20 mV above the shunt bank; a grid back
in its band needs neither. -/
def execGridExcursion (n : Nat) (deltaMv : Int) (s : State) : Result :=
  if s.sys.coldLow ∨ 16 ≤ n then .next s else .next (putRegion s n (gridSample s deltaMv (region s n)))

/-- LV_CTRL.OC_EN. -/
def ocEn (s : State) : Bool := bitN (getReg s 0x0C 0x004) 2

/-- The limit of a power unit: OC_LIMIT in 0.1 A, or LV_PKG_CAP in W (R63). -/
def unitLimit (s : State) : PowerUnit → Nat
  | .region n => 10 * fld (getReg s 0x0C (0x100 + 4 * n)) 15 8
  | .package => fld (getReg s 0x0C 0x00C) 9 0

/-- The regions a power unit throttles. -/
def unitRegions : PowerUnit → List Nat
  | .region n => if n < 16 then [n] else []
  | .package => allRegions

/-- Puts one region into throttle for a unit's condition, setting OC on entry. -/
def throttleOn (now : Nat) (pkg : Bool) (r : Region) : Region :=
  let was := r.throttled
  let r := if pkg then { r with thrPkg := true } else { r with thrOwn := true }
  if was then r else { r with oc := true, since := now, persisted := false }

/-- Applies a change to each listed region. -/
def onRegions (s : State) (ns : List Nat) (f : Region → Region) : State :=
  ns.foldl (fun s n => putRegion s n (f (region s n))) s

/-- LV_REGION_I.I_EST of a region holds its last estimate. -/
def seenCurrent (s : State) (u : PowerUnit) (i : Nat) : State :=
  match u with
  | .region n => if n < 16 then putRegion s n { region s n with iEst := i % 4096 } else s
  | .package => s

/-- OC_THROTTLE_ENTER (R63): four samples over the limit. -/
def execOcThrottleEnter (u : PowerUnit) (samples : List Nat) (s : State) : Result :=
  if s.sys.coldLow ∨ !ocEn s ∨ samples.length < 4 ∨ !(samples.all (fun x => unitLimit s u < x)) then .next s
  else
    let s := onRegions (seenCurrent s u (samples.getLastD 0)) (unitRegions u) (throttleOn s.sys.now (u = .package))
    .next { s with wr.thrSeen := s.wr.thrSeen || !(unitRegions u).isEmpty }

/-! ### Gating and wakes (R71 to R73) -/

/-- The clock of a block is gated (R71). -/
def gated (s : State) (b : Blk) : Bool := s.clk.gated.contains b

/-- A Furrow core. -/
def isCore : Blk → Bool
  | .furrow _ => true
  | _ => false

/-- A block runs again; the Furrow PLL relocks on the wake of any core (R73). -/
def ungate (s : State) (b : Blk) : State :=
  { s with clk.gated := s.clk.gated.erase b, clk.heldWakes := s.clk.heldWakes.erase b,
           clk.fwLock := s.clk.fwLock || isCore b, clk.furrowFrom := if isCore b then none else s.clk.furrowFrom }

/-- A wake event for a block (R71, R72): a gated block runs again, and only a throttled region holds the wake (R63). -/
def wakeBlk (s : State) (b : Blk) : State :=
  if !gated s b then s
  else if (region s (blkRegion b)).throttled then
    { s with clk.heldWakes := if s.clk.heldWakes.contains b then s.clk.heldWakes else b :: s.clk.heldWakes }
  else ungate s b

/-- Work for a block (R71, R72): it wakes a gated block and is done there; behind a held wake it waits where it stands. -/
def onBlk (b : Blk) (s : State) (k : State → Result) : Result :=
  if gated (wakeBlk s b) b then .next (wakeBlk s b) else k (wakeBlk s b)

/-- Wakes held while a region throttled proceed once it no longer does (R63, R72). -/
def releaseWakes (s : State) : State :=
  s.clk.heldWakes.foldl (fun t b => if (region s (blkRegion b)).throttled then t else ungate t b) s

/-- One region leaves throttle for a unit's condition. -/
def throttleOff (pkg : Bool) (r : Region) : Region :=
  if pkg then { r with thrPkg := false } else { r with thrOwn := false }

/-- THROTTLE_EXIT (R63): the estimate has stayed below 90 % of its limit for 10 µs. -/
def execThrottleExit (u : PowerUnit) (highest ns : Nat) (s : State) : Result :=
  if s.sys.coldLow ∨ ns < 10000 ∨ 9 * unitLimit s u ≤ 10 * highest then .next s
  else .next (releaseWakes (onRegions s (unitRegions u) (throttleOff (u = .package))))

/-- The region's throttle for a unit's condition has not yet been reported as persistent. -/
def persistDue (u : PowerUnit) (r : Region) : Bool :=
  !r.persisted && (match u with | .region _ => r.thrOwn | .package => r.thrPkg)

/-- Sets OC_PERSIST of one region and logs the event. -/
def persistOne (pkg : Bool) (s : State) (n : Nat) : State :=
  let s := putRegion s n { region s n with ocPersist := true, persisted := true }
  logEv s 0x0012 Status.ok 0x0C n [BitVec.ofNat 8 (bit pkg)]

/-- OC_PERSIST (R63): throttle that has lasted 1 ms without a break. -/
def execOcPersist (u : PowerUnit) (s : State) : Result :=
  let due := (unitRegions u).filter (fun n => persistDue u (region s n))
  if s.sys.coldLow ∨ due = [] then .next s
  else
    let t := due.foldl (fun m n => max m ((region s n).since + 1000000)) 0
    .next (due.foldl (persistOne (u = .package)) (advanceTo s t))

/-- Readings that declare a pair open: above 500 mV, then two consecutive samples below 10 mV (R64). -/
def opensPair : List Nat → Bool
  | [a, b, c] => 500 < a ∧ b < 10 ∧ c < 10
  | _ => false

/-- SENSE_OPEN (R64). -/
def execSenseOpen (n : Nat) (pairB : Bool) (readings : List Nat) (s : State) : Result :=
  let r := region s n
  if s.sys.coldLow ∨ 16 ≤ n ∨ !opensPair readings ∨ (if pairB then r.bOpen else r.aOpen) then .next s
  else
    let v := 4 * readings.getLastD 0
    let r := if pairB then { r with bOpen := true, senseEvt := true, vb := v } else { r with aOpen := true, senseEvt := true, va := v }
    .next (logEv (putRegion s n r) 0x0010 Status.senseOpen 0x0C n [BitVec.ofNat 8 (bit pairB)])

/-- LV_REGION_STATUS.SRC (R64). -/
def Region.src (r : Region) : Nat := if r.aOpen then (if r.bOpen then 3 else 1) else 0

/-- DROP_THRESH in 0.25 mV units. -/
def dropThresh (s : State) (n : Nat) : Int := 4 * fld (getReg s 0x0C (0x100 + 4 * n)) 7 0

/-- The drop test of R65 on one sample. -/
def dropSample (r : Region) (th : Int) (x : DropSample) : Bool :=
  (r.aOpen || x.expected + th < x.da) && (r.bOpen || x.expected + th < x.db) && th < x.xn

/-- Sixteen bits of a signed reading. -/
def le16 (i : Int) : Bytes := putLE 2 (i % 65536).toNat

/-- LV_REGION_V and LV_REGION_D show the last sample (R59, R65). -/
def seenSample (r : Region) (samples : List DropSample) : Region :=
  match samples.getLast? with
  | some x => { r with va := x.va % 4096, vb := x.vb % 4096, vdie := x.vdie % 4096, xn := x.xn }
  | none => r

/-- DROP (R65): a cracked connection, declared after 16 consecutive samples. -/
def execDrop (n : Nat) (samples : List DropSample) (s : State) : Result :=
  let r := region s n
  if s.sys.coldLow ∨ 16 ≤ n ∨ !bitN (getReg s 0x0C 0x004) 1 ∨ (r.aOpen && r.bOpen) ∨ samples.length < 16
    ∨ !(samples.all (dropSample r (dropThresh s n))) then .next s
  else
    let d := match samples.getLast? with
      | some x => le16 x.da ++ le16 x.db ++ le16 x.xn
      | none => []
    .next (logEv (putRegion s n (seenSample { r with drop := true } samples)) 0x0011 Status.ok 0x0C n d)

/-- The disagreement test of R65 on one sample: pair A alone, or pair B alone, shows excess drop. -/
def alone (r : Region) (th : Int) (b : Bool) (x : DropSample) : Bool :=
  !r.aOpen && !r.bOpen && x.xn < th &&
    (if b then decide (x.expected + th < x.db ∧ x.da < x.expected + th)
     else decide (x.expected + th < x.da ∧ x.db < x.expected + th))

/-- DISAGREE (R65). -/
def execDisagree (n : Nat) (samples : List DropSample) (s : State) : Result :=
  let r := region s n
  let th := dropThresh s n
  if s.sys.coldLow ∨ 16 ≤ n ∨ samples.length < 16
    ∨ !(samples.all (alone r th false) || samples.all (alone r th true)) then .next s
  else .next (putRegion s n (seenSample { r with disagree := true } samples))

/-- PMBUS_POLL (R59): each fault a regulator reports is telemetry and an event, and nothing else. -/
def execPmbusPoll (faults : List (Nat × BitVec 16)) (s : State) : Result :=
  if !tenderRuns s then .next s
  else .next (faults.foldl (fun s f =>
    logEv { s with lv.pmbus := Tab.put s.lv.pmbus f.1 f.2.toNat } 0x0013 Status.ok 0x0C f.1 (putLE 2 f.2.toNat)) s)

/-- Places a completion in LV_VDONE; a full FIFO overwrites its oldest entry (R69). -/
def vdone (s : State) (tag : Nat) (st : Byte) : State :=
  if s.lv.done.length < 8 then { s with lv.done := s.lv.done ++ [(tag, st)] }
  else { s with lv.done := s.lv.done.drop 1 ++ [(tag, st)], lv.lost := satInc 7 s.lv.lost }

/-- LV_CTRL.SLEW. -/
def slew (s : State) : Nat := fld (getReg s 0x0C 0x004) 15 8

/-- The regulator's output at an instant, in 100 nV: from the last known output it turns toward its target at SLEW, which is
SLEW × 100 nV each nanosecond (R67; assumption 84). -/
def regOut (l : Levee) (now : Nat) : Nat :=
  let goal := 10000 * l.target
  let way := l.rate * (now - l.outAt)
  if l.outV ≤ goal then min goal (l.outV + way) else max goal (l.outV - way)

/-- Sends a target to the regulator, which turns from its present output at the present SLEW (R67). -/
def sendV (s : State) (target : Nat) : State :=
  emit { s with lv.outV := regOut s.lv s.sys.now, lv.outAt := s.sys.now, lv.target := target, lv.rate := slew s }
    (.avs (slew s) target)

/-- Accepts a voltage command: a command in progress completes with SUPERSEDED (R67). -/
def acceptV (s : State) (target tag : Nat) : State :=
  let s := match s.lv.cmd with | some c => vdone s c.tag Status.superseded | none => s
  let c : VCmd := { target := target, tag := tag, atV := regOut s.lv s.sys.now, since := s.sys.now, slew := slew s }
  sendV { s with lv.cmd := some c, lv.curTag := tag } target

/-- LV_VCMD (R66, R67). -/
def execLvVcmd (w : RegWr) (s : State) : Result :=
  if !windowLive s then .next s
  else
    let mv := fld w.data.toNat 11 0
    .next (checked s (regAddr s 0x0C 0x010) none w
      [(noRsv w 0xFF00F000, Status.badField), (700 ≤ mv ∧ mv ≤ 800, Status.badField),
       (s.sys.fuses.vminMv ≤ mv, Status.notPermitted), (s.lv.ready, Status.notPermitted)]
      (acceptV s mv (fld w.data.toNat 23 16)))

/-- Ends the voltage command in progress with a status. -/
def endV (s : State) (st : Byte) : State :=
  match s.lv.cmd with
  | none => s
  | some c => vdone { s with lv.cmd := none } c.tag st

/-- VCMD_SETTLE (R68): two consecutive read-backs within 3 mV of the target. -/
def execVcmdSettle (r1 r2 : Nat) (s : State) : Result :=
  match s.lv.cmd with
  | none => .next s
  | some c =>
    let near := fun r => c.target ≤ r + 3 ∧ r ≤ c.target + 3
    let t := { s with lv.vnow := r2 % 4096, lv.outV := 10000 * r2, lv.outAt := s.sys.now }
    if near r1 ∧ near r2 then .next (endV t Status.ok) else .next t

/-- The settle limit of a command in ns: 2 × (|target − voltage at acceptance| ÷ SLEW) + 50 µs, with the SLEW it was sent with
(R68). -/
def settleNs (c : VCmd) : Nat :=
  let goal := 10000 * c.target
  2 * (if c.atV ≤ goal then goal - c.atV else c.atV - goal) / c.slew + 50000

/-- VCMD_TIMEOUT (R68): the limit passes without a settle; the regulator keeps the last target. -/
def execVcmdTimeout (s : State) : Result :=
  match s.lv.cmd with
  | none => .next s
  | some c => .next (endV (advanceTo s (c.since + settleNs c)) Status.waitTimeout)

/-- AVSBUS_SILENT (R68): three consecutive AVSBus frames unanswered. -/
def execAvsbusSilent (s : State) : Result :=
  match s.lv.cmd with
  | none => .next s
  | some _ => .next (endV s Status.retryExceeded)

/-- The value of a read of LV_VDONE. -/
def vdoneWord (s : State) : Nat :=
  match s.lv.done with
  | [] => s.lv.lost * 2 ^ 24
  | (tag, st) :: _ => 2 ^ 31 + s.lv.lost * 2 ^ 24 + tag % 256 * 2 ^ 16 + st.toNat * 2 ^ 8

/-- LV_VDONE read (R69): returns and removes the oldest entry, and clears LOST. -/
def execLvVdoneRead (s : State) : Result :=
  if !windowLive s then .next s
  else
    let t := setRd s (vdoneWord s)
    .next { t with lv.done := s.lv.done.drop 1, lv.lost := 0 }

end Sys2Proof.Machine
end

