-- ==== Sys2Proof/Machine/Xlate.lean ====
section
/-!
DEFINITION. Keys and address translation: the checks of R212 to R216, spans and pieces (R203, R204), access to local
memory, held accesses (R139, R207), the plot-map check (R16).
-/
namespace Sys2Proof.Machine

/-! ### Keys (R209 to R214, R223) -/

/-- Logs RECORD_CORRUPT of a record kind (R202, R400). -/
def logCorrupt (s : State) (source kind idx : Nat) : State :=
  logEv s 0x0050 Status.descriptorCrc source kind (putLE 4 idx)

/-- The first failing check of R213, with its number: 1 to 7, 8 for a record that both copies lost. -/
def keyFail (s : State) (inst key need addr len : Nat) (basin : Bool) : Option (Nat × Byte) :=
  let idx := key / 256
  if idx = 0 ∨ keyMax s ≤ idx then some (1, Status.keyViolation)
  else match Tab.find s.keys idx with
    | none => if key % 256 = 0 then some (3, Status.keyViolation) else some (2, Status.keyViolation)
    | some k =>
      if k.bad1 ∧ k.bad2 then some (8, Status.descriptorCrc)
      else if k.gen ≠ key % 256 then some (2, Status.keyViolation)
      else if k.st ≠ 1 then some (3, Status.keyViolation)
      else if k.inst ≠ inst then some (4, Status.keyViolation)
      else if k.basin ≠ basin then some (5, Status.keyViolation)
      else if (k.rights &&& need) ≠ need then some (6, Status.keyViolation)
      else if addr < k.base ∨ k.base + k.len < addr + len then some (7, Status.bounds)
      else none

/-- Captures a violation in KT_VSTAT and KT_VKEY of the instance whose request was checked (R223). -/
def captureKey (s : State) (inst key reason : Nat) (remote : Bool) : State :=
  let s := instStat s inst 9 1
  let v := getPage s inst 0x0E0
  if bitN v 31 then putPage s inst 0x0E0 (v ||| 2 ^ 30)
  else putPage (putPage s inst 0x0E0 (2 ^ 31 + bit remote * 2 ^ 29 + reason * 2 ^ 24)) inst 0x0E4 key

/-- Rewrites the failing copy of a key record from the other one (R202). -/
def keyRepair (s : State) (idx : Nat) : State :=
  { s with keys := Tab.modify s.keys idx (fun k => if k.bad1 ∧ k.bad2 then k else { k with bad1 := false, bad2 := false }) }

/-- Admission: checks 1 to 7 of R213, with the capture of a violation. -/
def admitKey (s : State) (inst key need addr len : Nat) (basin remote : Bool) : State × Option Byte :=
  match keyFail s inst key need addr len basin with
  | none => (keyRepair s (key / 256), none)
  | some (8, st) => (logCorrupt s 0x08 2 (key / 256), some st)
  | some (n, st) => (captureKey s inst key n remote, some st)

/-- The rights bits of a key record (R222). -/
def rRead : Nat := 1
/-- WRITE. -/
def rWrite : Nat := 2
/-- ATOMIC. -/
def rAtomic : Nat := 4
/-- INVOKE. -/
def rInvoke : Nat := 8
/-- REMOTE. -/
def rRemote : Nat := 16

/-! ### The plot map (R15, R16) -/

/-- The plot number of a Basin address. -/
def plotOf (a : Nat) : Nat := fld a 55 48
/-- Its offset. -/
def plotOff (a : Nat) : Nat := a % 2 ^ 48

/-- The granule of 64 MiB. -/
def gran64 : Nat := 2 ^ 26

/-- The check of R16 on a Basin range. -/
def mapFail (s : State) (a len : Nat) : Option Byte :=
  let p := plotOf a
  if 2 ^ 56 ≤ a then some Status.badField
  else if 1 ≤ p ∧ p ≤ 64 then
    match Tab.find s.basin.map.plots p with
    | none => some Status.translationFault
    | some e =>
      if e.mirrorFor ≠ 0 ∨ e.slot = 0 then some Status.translationFault
      else if e.len * gran64 < plotOff a + len then some Status.bounds
      else none
  else if 0x81 ≤ p ∧ p ≤ 0xC2 then
    match Tab.find s.basin.map.ovf (p - 0x80) with
    | none => some Status.translationFault
    | some g => if g * gran64 < plotOff a + len then some Status.bounds else none
  else some Status.badField

/-- The Basin slot that serves a Basin address, by the cached plot map (R17). -/
def plotSlot (s : State) (a : Nat) : Nat :=
  let p := plotOf a
  if p ≤ 64 then (match Tab.find s.basin.map.plots p with | some e => e.slot | none => 0) else p - 0x80

/-- A new Basin access to another device is held while a higher epoch is known (R18). -/
def basinHeld (s : State) (a : Nat) : Bool := s.basin.holdNew && plotSlot s a ≠ s.basin.slot

/-! ### HBM space and plot extents (R377, R215) -/

/-- An offset in an instance's HBM space, in the device's HBM grant pool. -/
def hbmLoc (s : State) (inst off : Nat) : Option Loc :=
  match Tab.find s.insts inst with
  | none => none
  | some i => match i.gran[off / gran64]? with
    | some g => some { space := .hbm, addr := g * gran64 + off % gran64 }
    | none => none

/-- Stage 3 of R215 at the plot owner: one PLOT span covers the range and carries the handle. -/
def extentFail (s : State) (off len handle : Nat) : Option Byte :=
  match s.spans.find? (fun p => p.2.kind = .plot && p.2.destroying.isNone && p.2.start ≤ off && off + len ≤ p.2.start + p.2.len) with
  | none => some Status.translationFault
  | some (_, sp) => if sp.bad1 ∧ sp.bad2 then some Status.descriptorCrc
                    else if sp.handle = handle then none else some Status.keyViolation

/-! ### Lost stacks (R244) -/

/-- A line lies on a stack that was in service at the apply and has failed since. -/
def onLost (s : State) (plot : Bool) (line : Nat) : Bool :=
  (s.boot.hbmInService &&& s.stacksLost).getLsbD (Config.stackOf plot line % 8)

/-- A range of the grant pool touches a lost stack. -/
def hbmLost (s : State) (a n : Nat) : Bool :=
  s.boot.hbmInService &&& s.stacksLost ≠ 0 && (List.range ((a + n + 63) / 64 - a / 64)).any (fun k => onLost s false (a / 64 + k))

/-- The plot's bytes: those on a lost stack are gone. -/
def plotRead (s : State) (a n : Nat) : Bytes :=
  if s.boot.hbmInService &&& s.stacksLost = 0 then Mem.read s.plot a n
  else (List.range n).map (fun k => if onLost s true ((a + k) / 64) then Config.lostByte (a + k) else Mem.get s.plot (a + k))

/-! ### Held lines (R139, R140) -/

/-- The lines of a range. -/
def linesOf (a len : Nat) : List Nat :=
  if len = 0 then [] else (List.range ((a + len - 1) / 64 + 1 - a / 64)).map (a / 64 + ·)

/-- Requests the partner's copies of plot lines back before a write; `none` where no line is held. -/
def lineWait (s : State) (l : Loc) (len : Nat) (write : Bool) : Option State :=
  if l.space ≠ .plot then none
  else
    let ls := linesOf l.addr len
    if ls.any (fun x => Tab.has s.pt.held x) then some s
    else
      let own := if write then ls.filter (fun x => s.pt.owned.contains x) else []
      if own = [] then none
      else some (own.foldl (fun s x => emit { s with pt.held := Tab.put s.pt.held x s.sys.now } (.backInval x)) s)

/-! ### Translation (R203, R204, R206, R207) -/

/-- What one step of a translation finds. -/
inductive Tr where
  | ok (s : State) (l : Loc) (n : Nat)
  | basin (s : State) (a : Nat) (n : Nat) (handle : Nat)
  | fault (s : State) (st : Byte)
  | wait (s : State)
  deriving DecidableEq, Repr

/-- The partner link carries CXL now: UP, or still trained while a teardown runs (R136, R144). -/
def partnerLive (s : State) : Bool := s.pt.cxl && (s.pt.st = .up || (s.pt.st = .teardown && s.pt.trained))

/-- An instance can reach partner memory: link UP with CXL; during a teardown only a partner-side instance, whose accepted
transfers complete (R136, R144). -/
def partnerUp (s : State) (inst : Nat) : Bool := partnerLive s && (s.pt.st = .up || isPartner s inst)

/-- Stage 3 of R215 in the overflow window of this device (R45, R152). -/
def overflowFail (s : State) (off len handle : Nat) : Option Byte :=
  let hit (t : Tab Alloc) : Option Nat :=
    (t.find? (fun a => a.2.extents.any (fun x => x.plot = 0x80 + s.basin.slot && x.off * gran64 ≤ off
      && off + len ≤ (x.off + x.len) * gran64))).map (·.1)
  if !partnerLive s ∨ getReg s 0x0A 8 * gran64 < off + len then some Status.translationFault
  else match (hit s.allocs).orElse (fun _ => hit s.mgr.dir.allocs) with
    | none => some Status.translationFault
    | some h => if h = handle then none else some Status.keyViolation

/-- Where Basin data lies on this device (R17, R152). -/
def basinLoc (s : State) (kind : QpKind) (a : Nat) : Loc :=
  if kind = .mirror ∨ plotOf a ≤ 64 then { space := .plot, addr := plotOff a }
  else { space := .partner, addr := getReg s 0x0A 0 + getReg s 0x0A 4 * 2 ^ 32 + plotOff a }

/-- Stage 3 of R215 on this device: the plot's extents, or those of its overflow window. -/
def ownFail (s : State) (a len handle : Nat) : Option Byte :=
  if plotOf a ≤ 64 then extentFail s (plotOff a) len handle else overflowFail s (plotOff a) len handle

/-- Stage 3 of R215 for an instance of this device: its overflow window is partner memory, which a manager-owned instance does not
reach from the start of a teardown until the link is UP again (R144). The flag says that the owner's record failed. -/
def homeFail (s : State) (inst a len handle : Nat) : Option (Byte × Bool) :=
  if 64 < plotOf a ∧ !partnerUp s inst then some (Status.partnerReset, false)
  else (ownFail s a len handle).map (fun st => (st, true))

/-- A span's range covers an address of its instance. -/
def Span.covers (sp : Span) (inst addr : Nat) : Bool :=
  sp.inst = inst && sp.kind ≠ .plot && sp.start ≤ addr && addr < sp.start + sp.len

/-- The span of an instance that covers an address, by the range tree (R202, R218). -/
def spanAt (s : State) (inst addr : Nat) : Option (Nat × Span) :=
  s.spans.find? (fun p => p.2.covers inst addr && p.2.destroying.isNone)

/-- An event at `t` in the order of accesses came after an access was admitted; `none` is an access made now. -/
def older (at_ : Option Nat) (t : Nat) : Bool := match at_ with | some a => a < t | none => false

/-- An event at `t` came before an access was admitted. -/
def newer (at_ : Option Nat) (t : Nat) : Bool := match at_ with | some a => t < a | none => false

/-- The span an access goes through: one admitted before a DESTROY still uses the span that was destroyed (R212, R218). -/
def spanFor (at_ : Option Nat) (s : State) (inst addr : Nat) : Option (Nat × Span) :=
  (s.spans.find? (fun p => p.2.covers inst addr && (match p.2.destroying with | some t => older at_ t | none => false))).orElse
    (fun _ => spanAt s inst addr)

/-- A move holds an access at its translation step unless the access was admitted before it (R207). -/
def heldByMove (at_ : Option Nat) (sp : Span) : Bool := sp.moving.isSome && !older at_ sp.movingAt

/-- The spans of an instance that a range overlaps. -/
def spansOver (s : State) (inst addr len : Nat) : List Nat :=
  (s.spans.filter (fun p => p.2.inst = inst && p.2.kind ≠ .plot && p.2.destroying.isNone && !disjointR p.2.start p.2.len addr len)).map (·.1)

/-- An access admitted before `t` through a span has not completed (R207, R218): an entry's, or an arriving request's. -/
def spanUsed (s : State) (k t : Nat) : Bool :=
  s.infl.any (fun p => p.2.done = none && older p.2.adm t && p.2.spans.contains k)
  || s.qps.any (fun p => match p.2.cur with | some c => c.adm < t && c.spans.contains k | none => false)
  || s.cv.xfers.any (fun x => older x.adm t && x.spans.contains k)

/-- SPANC_ENTRIES (R124). -/
def pieceMax (s : State) : Nat := lim s (fun i => i.spanc * 8192)

/-- An admitted access is using a piece: the next byte of a request being placed lies in it (R204). -/
def pieceInUse (s : State) (p : Piece) : Bool :=
  s.qps.any (fun x => match x.2.cur with
    | some c => x.2.kind = .rc && x.2.inst = p.inst && c.placed ≠ []
        && (let a := c.target.getD c.raddr + c.placed.length * (1024 * 2 ^ fld x.2.cfg 21 20); p.start ≤ a && a < p.start + p.len)
    | none => false)

/-- Makes room for a piece: a full cache evicts the least recently used piece that no admitted access is using, READ_MOSTLY ones
last; `none` while every entry is in use (R204, R208). -/
def roomFor (s : State) : Option (List Piece) :=
  let mostly (x : Piece) : Bool := match Tab.find s.spans x.span with | some sp => sp.readMostly | none => false
  let worse (x y : Piece) : Bool := (!mostly x && mostly y) || (mostly x = mostly y && x.used < y.used)
  if s.pieces.length < pieceMax s ∨ s.pieces = [] then some s.pieces
  else match s.pieces.filter (fun p => !pieceInUse s p) with
    | [] => none
    | x :: r => some (s.pieces.erase (r.foldl (fun m y => if worse y m then y else m) x))

/-- Installs a piece (R203), where an entry of the cache can be had. -/
def installPiece (s : State) (p : Piece) : Option State :=
  (roomFor s).map fun ps => { s with pieces := ps ++ [{ p with used := s.pieceClock }], pieceClock := s.pieceClock + 1 }

/-- The cached piece of a span that covers an address. -/
def pieceOf (s : State) (k addr : Nat) : Option Piece :=
  s.pieces.find? (fun p => p.span = k && p.start ≤ addr && addr < p.start + p.len)

/-- Uses a cached piece (R204). -/
def touch (s : State) (p : Piece) : State :=
  { s with pieces := s.pieces.map (fun x => if x = p then { x with used := s.pieceClock } else x), pieceClock := s.pieceClock + 1 }

/-- An access uses the piece of a span that is cached whole, installed where it is missing (R203, R204). -/
def usePiece (s : State) (k addr : Nat) (p : Piece) : Option State :=
  match pieceOf s k addr with
  | some x => some (touch s x)
  | none => installPiece s p

/-- Sends an ATS request (R203). -/
def atsAsk (s : State) (inst addr len : Nat) (write advise : Bool) (pasid : Nat) : State :=
  let r : AtsReq := { inst := inst, addr := addr, write := write, since := s.sys.now, refused := false, refusedAt := 0, advise := advise }
  emit { s with ats := s.ats ++ [r] } (.atsReq pasid addr len)

/-- The ATS request for a piece at its home residence (R203): sent once, then awaited; a refused one faults the access that
waited for it, and no access admitted later. -/
def atsStep (at_ : Option Nat) (s : State) (inst addr len : Nat) (write : Bool) (pasid : Nat) : Tr :=
  match s.ats.find? (fun r => r.inst = inst && r.addr = addr) with
  | some r =>
    let t := { s with ats := s.ats.erase r }
    if !r.refused then .wait { s with ats := s.ats.map (fun x => if x = r then { x with advise := false } else x) }
    else if newer at_ r.refusedAt then .wait (atsAsk t inst addr len write false pasid)
    else .fault t Status.translationFault
  | none => .wait (if (roomFor s).isNone then s else atsAsk s inst addr len write false pasid)

/-- The PASID of an instance (R378). -/
def pasidOf (s : State) (inst : Nat) : Nat := match Tab.find s.insts inst with | some i => i.pasid | none => 0

/-- Rewrites the failing copy of a span record from the other one (R202). -/
def spanRepair (s : State) (idx : Nat) : State :=
  match Tab.find s.spans idx with
  | some sp => if sp.bad1 || sp.bad2 then { s with spans := Tab.put s.spans idx { sp with bad1 := false, bad2 := false } } else s
  | none => s

/-- Translates the first piece of a local range of an instance, for an access admitted at `at_` or made now (R203, R207, R218): it
wakes a gated Span unit, and waits behind a held wake (R71, R72). -/
def translateAt (at_ : Option Nat) (s : State) (inst addr len : Nat) (write : Bool) : Tr :=
  let s := wakeBlk s .spanUnit
  if underTest s 5 0 ∨ gated s .spanUnit then .wait s
  else match spanFor at_ s inst addr with
  | none => .fault s Status.translationFault
  | some (idx, sp) =>
    if sp.bad1 ∧ sp.bad2 then .fault (logCorrupt s 0x07 1 idx) Status.descriptorCrc
    else
    let s := spanRepair s idx
    if heldByMove at_ sp then .wait s
    else
      let d := addr - sp.start
      let n := min len (sp.len - d)
      let whole (l : Loc) (r : State → Tr) : Tr :=
        match usePiece s idx addr { inst := inst, start := sp.start, len := sp.len, loc := l, w := true, span := idx, ats := false, used := 0 } with
        | some s => r s
        | none => .wait s
      let inHbm (off : Nat) : Tr :=
        match hbmLoc s inst off with
        | none => .fault s Status.translationFault
        | some l =>
          let k := min n (gran64 - off % gran64)
          if hbmLost s l.addr k then .fault s Status.translationFault else whole l (fun s => .ok s l k)
      match sp.kind with
      | .hbm => inHbm (sp.target + d)
      | .basin => whole { space := .plot, addr := sp.target } (fun s => .basin s (sp.target + d) n sp.handle)
      | .plot => .fault s Status.translationFault
      | .phys =>
        if sp.resHbm then inHbm (sp.migOff + d)
        else if !partnerUp s inst then .fault s Status.partnerReset
        else whole { space := .partner, addr := sp.target } (fun s => .ok s { space := .partner, addr := sp.target + d } n)
      | .ats =>
        if sp.resHbm then inHbm (sp.migOff + d)
        else if !partnerUp s inst then .fault s Status.partnerReset
        else match pieceOf s idx addr with
          | some p =>
            if write ∧ !p.w then .fault s Status.translationFault
            else .ok (touch s p) { p.loc with addr := p.loc.addr + (addr - p.start) } (min n (p.start + p.len - addr))
          | none => atsStep at_ s inst addr (sp.len - d) write (pasidOf s inst)

/-- Translates the first piece of a local range for an access made now. -/
def translate (s : State) (inst addr len : Nat) (write : Bool) : Tr := translateAt none s inst addr len write

/-! ### Access to local memory -/

/-- The bytes at a location. -/
def getLoc (s : State) (l : Loc) (n : Nat) : Bytes :=
  match l.space with
  | .hbm => Mem.read s.hbm l.addr n
  | .plot => plotRead s l.addr n
  | .partner => Mem.read s.pmem l.addr n

/-- Writes bytes at a location. -/
def setLoc (s : State) (l : Loc) (b : Bytes) : State :=
  match l.space with
  | .hbm => { s with hbm := Mem.write s.hbm l.addr b }
  | .plot => { s with plot := Mem.write s.plot l.addr b }
  | .partner => { s with pmem := Mem.write s.pmem l.addr b }

/-- The outcome of an access: done with the bytes read, faulted (`remote`: at the owner of a plot, R196), or held. -/
inductive Acc where
  | ok (s : State) (b : Bytes)
  | fault (s : State) (st : Byte) (remote : Bool)
  | wait (s : State)
  deriving DecidableEq, Repr

/-- Writes to the own plot go to a mirror as well: it is paired, or being copied to a new mirror (R20, R51). -/
def mirrored (s : State) : Bool := s.basin.paired || s.basin.copying

/-- The transaction of a Basin piece under way for an access. -/
def bxOf (s : State) (inst a n : Nat) (write : Bool) (data : Bytes) : Option BasinX :=
  s.bx.find? (fun x => x.inst = inst && x.addr = a && x.len = n && x.write = write && x.data = data)

/-- The transaction of a Basin piece: made once, then awaited. -/
def bxStep (s : State) (inst a n handle : Nat) (write : Bool) (data : Bytes) : Acc :=
  match bxOf s inst a n write data with
  | some x =>
    (match x.result with
    | none => .wait s
    | some (st, b) =>
      let s := { s with bx := s.bx.erase x }
      if st = Status.ok then .ok s b else .fault s st x.remote)
  | none =>
    let x : BasinX := { id := s.nextBx, inst := inst, addr := a, len := n, write := write, data := data, handle := handle,
                        sent := false, remote := false, redo := false, result := none }
    .wait { s with bx := s.bx ++ [x], nextBx := s.nextBx + 1 }

/-- A write of the own plot: its copy is made once, then its mirror's is awaited, unless the plot is no longer mirrored (R20). -/
def ownStore (s : State) (inst a n handle : Nat) (l : Loc) (data : Bytes) : Acc :=
  match bxOf s inst a n true data with
  | some x =>
    let s := if x.redo then setLoc s l data else s
    if mirrored s then bxStep s inst a n handle true data else .ok { s with bx := s.bx.erase x } []
  | none =>
    if l.space = .plot ∧ mirrored s then bxStep (setLoc s l data) inst a n handle true data
    else .ok (setLoc s l data) []

/-- Serves a Basin piece of a local access (R18, R215): the own plot at once, and its mirror with it (R20), another device's
plot through its queue pair. -/
def basinPiece (s : State) (inst a n handle : Nat) (write : Bool) (data : Bytes) : Acc :=
  if basinHeld s a then .wait s
  else match mapFail s a n with
  | some st => .fault s st false
  | none =>
    if plotSlot s a = s.basin.slot then
      match homeFail s inst a n handle with
      | some (st, r) => .fault s st r
      | none =>
        let l := basinLoc s .basin a
        match lineWait s l n write with
        | some s => .wait s
        | none => if write then ownStore s inst a n handle l data else .ok s (getLoc s l n)
    else bxStep s inst a n handle write data

/-- One piece of an access. -/
def accPiece (at_ : Option Nat) (s : State) (inst addr len : Nat) (write : Bool) (data : Bytes) : Acc × Nat :=
  match translateAt at_ s inst addr len write with
  | .fault s st => (.fault s st false, 0)
  | .wait s => (.wait s, 0)
  | .basin s a n h => (basinPiece s inst a n h write (data.take n), n)
  | .ok s l n =>
    match lineWait s l n write with
    | some s => (.wait s, 0)
    | none => if write then (.ok (setLoc s l (data.take n)) [], n) else (.ok s (getLoc s l n), n)

/-- Reads a local range piece by piece in ascending order (R204). -/
def readAcc (at_ : Option Nat) : Nat → State → Nat → Nat → Nat → Acc
  | 0, s, _, _, _ => .ok s []
  | f + 1, s, inst, addr, len =>
    if len = 0 then .ok s []
    else match accPiece at_ s inst addr len false [] with
      | (.ok s b, n) =>
        (match readAcc at_ f s inst (addr + n) (len - n) with
        | .ok s c => .ok s (b ++ c)
        | r => r)
      | (r, _) => r

/-- Writes a local range piece by piece in ascending order; a fault leaves the earlier pieces written (R204). -/
def writeAcc (at_ : Option Nat) : Nat → State → Nat → Nat → Bytes → Acc
  | 0, s, _, _, _ => .ok s []
  | f + 1, s, inst, addr, data =>
    if data = [] then .ok s []
    else match accPiece at_ s inst addr data.length true data with
      | (.ok s _, n) => writeAcc at_ f s inst (addr + n) (data.drop n)
      | (r, _) => r

/-- Reads `len` bytes of an instance's local memory, for an access admitted at `at_`. -/
def readMemAt (at_ : Option Nat) (s : State) (inst addr len : Nat) : Acc := readAcc at_ (len + 1) s inst addr len

/-- Writes bytes to an instance's local memory, for an access admitted at `at_`. -/
def writeMemAt (at_ : Option Nat) (s : State) (inst addr : Nat) (b : Bytes) : Acc := writeAcc at_ (b.length + 1) s inst addr b

/-- Reads `len` bytes of an instance's local memory now. -/
def readMem (s : State) (inst addr len : Nat) : Acc := readMemAt none s inst addr len

/-- Writes bytes to an instance's local memory now. -/
def writeMem (s : State) (inst addr : Nat) (b : Bytes) : Acc := writeMemAt none s inst addr b

/-- Whether an access to a range would go through now: nothing held, nothing refused; the state with any request made. -/
def probe (write : Bool) (at_ : Option Nat) : Nat → State → Nat → Nat → Nat → Acc
  | 0, s, _, _, _ => .ok s []
  | f + 1, s, inst, addr, len =>
    if len = 0 then .ok s []
    else match translateAt at_ s inst addr len write with
      | .fault s st => .fault s st false
      | .wait s => .wait s
      | .basin s a n _ =>
        if basinHeld s a then .wait s
        else (match mapFail s a n with
          | some st => .fault s st false
          | none => probe write at_ f s inst (addr + n) (len - n))
      | .ok s l n =>
        (match lineWait s l n write with
        | some s => .wait s
        | none => probe write at_ f s inst (addr + n) (len - n))

/-- Drops the pieces of a span. -/
def dropPieces (s : State) (idx : Nat) : State := { s with pieces := s.pieces.filter (fun p => p.span ≠ idx) }

/-- Drops the pieces of a span that no admitted access is using (R208). -/
def dropFree (s : State) (idx : Nat) : State := { s with pieces := s.pieces.filter (fun p => p.span ≠ idx || pieceInUse s p) }

/-! ### Record layouts (R222) -/

/-- The KIND code of a span. -/
def SKind.code : SKind → Nat
  | .ats => 1
  | .phys => 2
  | .hbm => 3
  | .basin => 4
  | .plot => 5

/-- The STATE byte of a span (R222). -/
def spanState (sp : Span) : Nat := if sp.destroying.isSome then 3 else if sp.moving.isSome then 2 else 1

/-- A span record's 64 bytes, its CRC-32C last (R222). -/
def spanBytes (sp : Span) : Bytes :=
  let b := putLE 8 sp.start ++ putLE 8 sp.len ++ putLE 8 sp.target ++ putLE 8 sp.migOff ++ putLE 2 sp.inst
    ++ putLE 2 (sp.kind.code + 8 * bit sp.migr + 16 * bit sp.resHbm + 32 * bit sp.readMostly + 64 * sp.prefer)
    ++ putLE 1 (spanState sp) ++ zeros 3 ++ putLE 4 sp.handle ++ zeros 16
  b ++ putLE 4 (crcN b)

/-- A key record's 32 bytes, its CRC-32C last (R222). -/
def keyBytes (k : Key) : Bytes :=
  let b := putLE 8 k.base ++ putLE 8 k.len ++ putLE 2 k.inst ++ putLE 1 k.rights ++ putLE 1 k.gen ++ putLE 1 (if k.basin then 2 else 1)
    ++ putLE 1 k.st ++ zeros 2 ++ putLE 4 k.handle
  b ++ putLE 4 (crcN b)

/-- Both copies of a span record are lost (R202). -/
def spanLost (s : State) (k : Nat) : Bool := match Tab.find s.spans k with | some x => x.bad1 && x.bad2 | none => false

/-- Both copies of a key record are lost. -/
def keyLost (s : State) (k : Nat) : Bool := match Tab.find s.keys k with | some x => x.bad1 && x.bad2 | none => false

end Sys2Proof.Machine
end

