-- ==== Sys2Proof/Machine/Queues.lean ====
section
/-!
DEFINITION. Work queues and completion queues: posting, the descriptor cache, acceptance, fences, states, completion
entries, and the queue commands (spec files 07 and 08, R155 to R199).
-/
namespace Sys2Proof.Machine

/-! ### Small operations -/

/-- The blocks that the dispatch of an entry of an opcode needs (R71): the key table; for SYNKO_OP and CB_LOAD their own unit too. -/
def opBlks (op : Nat) : List Blk :=
  if op = 0 then [] else if op = 0x22 then [.synko] else if op = 0x23 then [.keyTable, .codebook] else [.keyTable]

/-- An accepted entry not yet dispatched needs a block: it is work that the block holds (R71). -/
def handed (s : State) (b : Blk) : Bool := s.infl.any (fun p => !p.2.disp && p.2.done.isNone && (opBlks (entOp p.2.ent)).contains b)

/-- The in-flight record of an entry. -/
def inflOf (s : State) (q i : Nat) : Option Infl := Tab.find s.infl (inflKey q i)

/-- Replaces a work queue. -/
def putWq (s : State) (q : Nat) (x : Wq) : State := { s with wqs := Tab.put s.wqs q x }

/-- Replaces a completion queue. -/
def putCq (s : State) (c : Nat) (x : Cq) : State := { s with cqs := Tab.put s.cqs c x }

/-- Replaces an in-flight record. -/
def putInfl (s : State) (q i : Nat) (x : Infl) : State := { s with infl := Tab.put s.infl (inflKey q i) x }

/-- The accepted entries of a queue that have no completion entry yet. -/
def owed (s : State) (q : Nat) : Tab Infl := Tab.keep (fun k x => k / 2 ^ 32 = q && !x.written) s.infl

/-- HG_QSTAT.IDLE (R175): no accepted work and no completion entry owed. -/
def qIdle (s : State) (q : Nat) : Bool :=
  owed s q = [] && (match Tab.find s.wqs q with | some x => !x.errOwed | none => true)

/-- A completion queue's reservation count (R170). -/
def cqRsv (s : State) (c : Nat) : Nat :=
  match Tab.find s.cqs c with
  | none => 0
  | some x =>
    (Tab.keep (fun k y => !y.written && (match Tab.find s.wqs (k / 2 ^ 32) with | some w => w.cq = c | none => false)) s.infl).length
      + sub32 x.cpi x.cci

/-- The ring address of an index (R157). -/
def ringAt (x : Wq) (i : Nat) : Nat := x.ring + 64 * (i % 2 ^ x.ringLog2)

/-- Entries held by the descriptor cache, over all queues. -/
def cacheUse (s : State) : Nat := (s.wqs.map (fun p => p.2.cache.length)).sum

/-- A queue enters ERROR with a status (R174, R176); its cached copies are dropped. -/
def enterError (s : State) (q : Nat) (st : Byte) : State :=
  match Tab.find s.wqs q with
  | none => s
  | some x =>
    if x.st = .error then s
    else putWq s q { x with st := .error, errStatus := st, errOwed := true, cache := [], pushHeld := [], fence := none, holdSince := none }

/-- Spills the pushed entries that meet a test to their ring slots and drops their copies; one whose write is held keeps its copy
(R162, R168, R175). A refused translation takes the queue into ERROR (R174). -/
def spillAll (s : State) (q : Nat) (f : Nat → Bool) : State :=
  match Tab.find s.wqs q with
  | none => s
  | some x => x.cache.foldl (fun s p =>
      if p.2.pushed && f p.1 then
        match writeMem s x.inst (ringAt x p.1) p.2.bytes with
        | .wait s => s
        | .fault s st _ => enterError s q st
        | .ok s _ => { s with wqs := Tab.modify s.wqs q (fun y => { y with cache := Tab.del y.cache p.1 }) }
      else s) s

/-- Every pushed entry that meets a test has reached its ring slot. -/
def spilled (x : Wq) (f : Nat → Bool) : Bool := x.cache.all (fun p => !(p.2.pushed && f p.1)) && x.pushHeld = []

/-- An index lies in the range of a fence (R168). -/
def inFence (x : Wq) (i : Nat) : Bool := match x.fence with | none => false | some (h, n) => sub32 i h < n

/-- A fence holds the acceptance of an index: at the later of START and the CI it found, and from there on (R168). -/
def fenced (x : Wq) (i : Nat) : Bool :=
  match x.fence with
  | none => false
  | some (h, _) => sub32 i (if sub32 x.invCi h ≤ 65536 then x.invCi else h) < 2 ^ 31

/-- A fence that is not DONE yet: once the pushed entries of its range are spilled every copy of the range drops, and DONE is set
(R168). -/
def fenceStep (s : State) (q : Nat) : State :=
  match Tab.find s.wqs q with
  | none => s
  | some x =>
    if x.fence.isNone ∨ x.invDone then s
    else
      let s := spillAll s q (inFence x)
      { s with wqs := Tab.modify s.wqs q (fun y =>
          if y.cache.all (fun p => !(p.2.pushed && inFence y p.1)) then { y with cache := Tab.keep (fun i _ => !inFence y i) y.cache, invDone := true }
          else y) }

/-- A draining queue whose last completion entry is written becomes DISABLED once its pushed entries are spilled; copies drop, and
the fence is released (R168, R174, R175). -/
def settle (s : State) (q : Nat) : State :=
  match Tab.find s.wqs q with
  | none => s
  | some x =>
    if x.st = .draining ∧ qIdle s q then
      let s := spillAll s q (fun _ => true)
      { s with wqs := Tab.modify s.wqs q (fun y =>
          if y.st = .draining ∧ spilled y (fun _ => true) then { y with st := .disabled, cache := [], fence := none, holdSince := none }
          else y) }
    else s

/-! ### Register access to a queue's block (R127, R174) -/

/-- The offset of a per-queue register. -/
def dbAddr (s : State) (q off : Nat) : Nat :=
  match s.vp.layout with | some l => l.dbBase + 64 * q + off | none => off

/-- The offset of a per-completion-queue register. -/
def cqAddr (s : State) (c off : Nat) : Nat :=
  match s.vp.layout with | some l => l.cqdbBase + 64 * c + off | none => off

/-- The requester owns the page of a block granted to an instance (R127 check 2). -/
def blockOwned (s : State) (t : Tab Nat) (n : Nat) (src : Src) : Bool :=
  match Tab.find t (n / 64) with | some i => pageOwned s i src | none => false

/-- A write to a queue's block: alignment, ownership, a queue that is not FREE, then the register's own checks. -/
def queueReg (s : State) (q off : Nat) (w : RegWr) (k : Wq → State) : Result :=
  if !windowLive s ∨ discarded s w.src ∨ dbCount s ≤ q then .next s
  else if !w.full then .next (reject s (dbAddr s q off) none w Status.badField)
  else if !blockOwned s s.own.wq q w.src then .next (reject s (dbAddr s q off) none w Status.notPermitted)
  else match Tab.find s.wqs q with
    | none => .next (reject s (dbAddr s q off) none w Status.queueDisabled)
    | some x => .next (k x)

/-- HG_DB (R160): caught in the AON domain, it wakes a gated Headgate (R71, R179). -/
def execHgDb (q : Nat) (w : RegWr) (s : State) : Result :=
  queueReg s q 0 w fun x =>
    let a := sub32 w.data.toNat x.ci
    if leaving s x.inst then s
    else if x.st = .error then reject s (dbAddr s q 0) none w Status.queueDisabled
    else if 2 ^ x.ringLog2 < a then reject s (dbAddr s q 0) none w Status.badField
    else if sub32 x.pi x.ci < a then wakeBlk (putWq s q { x with pi := w.data.toNat }) .headgate
    else s

/-- The offset of a push write in the control window. -/
def pushAddr (s : State) (win off : Nat) : Nat :=
  match s.vp.layout with | some l => l.pushBase + 4096 * win + off | none => off

/-- A line of the descriptor cache for a pushed entry: a free one, or that of a ring copy, which is evicted (R162, R166). -/
def cacheLine (s : State) : Option State :=
  if cacheUse s < 16384 then some s
  else match s.wqs.findSome? (fun w => (w.2.cache.find? (fun p => !p.2.pushed)).map (fun p => (w.1, p.1))) with
    | some (w, i) => some { s with wqs := Tab.modify s.wqs w (fun x => { x with cache := Tab.del x.cache i }) }
    | none => none

/-- Takes the oldest push of a queue: into the cache, or to its ring slot where every line holds a pushed entry; PI advances with it
(R162). While its write is held, or Headgate's wake is, the push waits (R72, R179). -/
def pushStep (s : State) (q : Nat) : State :=
  match Tab.find s.wqs q with
  | none => s
  | some x =>
    match (if gated s .headgate then [] else x.pushHeld) with
    | [] => s
    | b :: rest =>
      let pi := x.pi
      let done (s : State) (f : Wq → Wq) : State :=
        { s with wqs := Tab.modify s.wqs q (fun y => f { y with pushHeld := rest, pi := inc32 pi }) }
      match cacheLine s with
      | some s => done s (fun y => { y with cache := Tab.put y.cache pi { bytes := b, pushed := true, reads := 0 } })
      | none => match writeMem s x.inst (ringAt x pi) b with
        | .ok s _ => done s id
        | .wait s => s
        | .fault s st _ => enterError s q st

/-- PUSH_WRITE (R161, R162). -/
def execPushWrite (win : Nat) (p : PushWr) (s : State) : Result :=
  let w : RegWr := { src := p.src, full := p.full, data := BitVec.ofNat 32 (getLE p.data 0 4) }
  let rej (st : Byte) : State := reject s (pushAddr s win p.off) none w st
  let mine := match Tab.find s.own.push win with | some i => pageOwned s i p.src | none => false
  if !windowLive s ∨ discarded s p.src ∨ pushCount s ≤ win ∨ 4096 ≤ p.off then .next s
  else if !(p.full && p.off % 64 = 0 && p.data.length = 64) then .next (rej Status.badField)
  else if !mine then .next (rej Status.notPermitted)
  else match s.wqs.find? (fun x => x.2.pushEn && x.2.pushIdx = win) with
    | none => .next (rej Status.queueDisabled)
    | some (q, x) =>
      if leaving s x.inst then .next s
      else
        let pi := (x.pi + x.pushHeld.length) % 2 ^ 32
        match firstFail [(x.st = .enabled, Status.queueDisabled),
          (p.off / 64 = pi % 64 ∧ entCurrent p.data pi x.ringLog2, Status.badField),
          (sub32 pi x.ci < 2 ^ x.ringLog2, Status.noResource)] with
      | some st => .next (rej st)
      | none => .next (pushStep (wakeBlk (putWq s q { x with pushHeld := x.pushHeld ++ [p.data] }) .headgate) q)

/-! ### Fetch and acceptance (R162 to R166) -/

/-- A fetched copy is current with a correct CRC (R164). -/
def entGood (x : Wq) (i : Nat) (b : Bytes) : Bool := entCurrent b i x.ringLog2 && entCrcOk b

/-- Reads a ring slot into the descriptor cache. -/
def fetchSlot (s : State) (q i : Nat) (x : Wq) (reads : Nat) : State :=
  match readMem s x.inst (ringAt x i) 64 with
  | .wait s => s
  | .fault s st _ => enterError s q st
  | .ok s b =>
    let n := if entGood x i b then 0 else reads + 1
    if 8 ≤ n then enterError s q (if entCurrent b i x.ringLog2 then Status.descriptorCrc else Status.staleDescriptor)
    else putWq s q { x with cache := Tab.put x.cache i { bytes := b, pushed := false, reads := n } }

/-- DESCRIPTOR_FETCH (R162 to R164): a posted entry within PF_DEPTH of CI that the cache does not hold. -/
def execDescriptorFetch (q i : Nat) (s : State) : Result :=
  onBlk .headgate s fun s =>
  match Tab.find s.wqs q with
  | none => .next s
  | some x =>
    let d := sub32 i x.ci
    if x.st ≠ .enabled ∨ sub32 x.pi x.ci ≤ d ∨ x.pfDepth ≤ d ∨ Tab.has x.cache i ∨ inFence x i then .next s
    else .next (fetchSlot s q i x 0)

/-- A pushed entry that fails its checks is read again in the cache, never from the ring (R162, R164). -/
def rereadPush (s : State) (q : Nat) (x : Wq) (c : CacheEnt) : State :=
  if 8 ≤ c.reads + 1 then enterError s q (if entCurrent c.bytes x.ci x.ringLog2 then Status.descriptorCrc else Status.staleDescriptor)
  else putWq s q { x with cache := Tab.put x.cache x.ci { c with reads := c.reads + 1 } }

/-- DESCRIPTOR_RETRY (R164): the entry at CI is read again; the eighth failing read gives up. -/
def execDescriptorRetry (q : Nat) (s : State) : Result :=
  onBlk .headgate s fun s =>
  match Tab.find s.wqs q with
  | none => .next s
  | some x =>
    match x.st, Tab.find x.cache x.ci with
    | .enabled, some c =>
      if entGood x x.ci c.bytes then .next s
      else if c.pushed then .next (rereadPush s q x c) else .next (fetchSlot s q x.ci x c.reads)
    | _, _ => .next s

/-- T(i) of a gate (R299). -/
def gateT (g : Gate) (i : Nat) : Nat := g.base + g.step * (sub32 i g.origin / g.every)

/-- What a queue's gate says of the entry at CI: open, closed, or an error status (R299, R303, R305). -/
inductive GateIs where
  | opened
  | closed
  | failed (st : Byte)
  deriving DecidableEq

/-- A counter's record, at rest where it is not listed (R293). -/
def cnt (s : State) (n : Nat) : SyCnt :=
  Tab.getD s.sy n { value := 0, sat := false, poison := false, share := none, journal := [], bad1 := false, bad2 := false }

/-- The gate of a queue at its CI. -/
def gateIs (s : State) (x : Wq) : GateIs :=
  match x.gate with
  | none => .opened
  | some g =>
    let c := cnt s g.counter
    if 2 ^ 48 ≤ gateT g x.ci then .failed Status.counterSaturated
    else if c.poison then .failed Status.descriptorCrc
    else if c.sat then .failed Status.counterSaturated
    else if gateT g x.ci ≤ c.value then .opened else .closed

/-- The instance's acceptance bucket holds an entry (10^4 units each, R380). -/
def accReady (s : State) (n : Nat) : Bool :=
  match Tab.find s.insts n with
  | none => true
  | some i => i.accRate = 0 || 10000 ≤ accTokens s i

/-- Draws one entry from the acceptance bucket. -/
def accDraw (s : State) (n : Nat) : State :=
  { s with insts := Tab.modify s.insts n (fun i =>
      if i.accRate = 0 then i
      else { i with accTok := accTokens s i - 10000, accAt := s.sys.now }) }

/-- The state of a send queue's queue pair admits new requests (R233). -/
def sqAdmits (s : State) (x : Wq) : Bool :=
  x.kind ≠ .sq || (match Tab.find s.qps x.qp with
    | some p => p.st = .connected || p.st = .resyncing || p.st = .error
    | none => false)

/-- The conditions of R163 but for the gate and the weights. An entry whose queue and index a record not yet retired still carries
(R304) waits for that record. -/
def acceptable (s : State) (q : Nat) (x : Wq) (e : Bytes) : Bool :=
  x.st = .enabled && sub32 x.pi x.ci ≠ 0 && entGood x x.ci e && !fenced x x.ci
  && (owed s q).length < x.limit && s.infl.length < 1048576 && !Tab.has s.infl (inflKey q x.ci)
  && (match Tab.find s.cqs x.cq with | some c => !c.error && cqRsv s x.cq < 2 ^ c.log2 | none => false)
  && accReady s x.inst && sqAdmits s x && !leaving s x.inst

/-- A queue whose entry at CI only the weights can still hold back (R166, R379). -/
def readyQ (s : State) (q : Nat) (x : Wq) : Bool :=
  match Tab.find x.cache x.ci with
  | some c => acceptable s q x c.bytes && (match gateIs s x with | .opened => true | _ => false)
  | none => false

/-- The ready queues of an instance. -/
def readyOf (s : State) (inst : Nat) : Tab Wq := Tab.keep (fun q x => x.inst = inst && readyQ s q x) s.wqs

/-- The weights let a queue be served now: its instance and it have turns left in their rounds, or no ready one has (R166, R379). -/
def turnOk (s : State) (q : Nat) (x : Wq) : Bool :=
  let turns (n : Nat) : Nat := match Tab.find s.insts n with | some i => i.turn | none => 0
  (0 < turns x.inst || s.wqs.all (fun p => turns p.2.inst = 0 || !readyQ s p.1 p.2))
  && (0 < x.turn || (readyOf s x.inst).all (fun p => p.1 = q || p.2.turn = 0))

/-- Draws a turn; where none was left a new round begins: every instance with a ready queue gets its WEIGHT, every ready queue of
the instance its own (R166, R379). -/
def drawTurn (s : State) (q : Nat) (x : Wq) : State :=
  let newI : Bool := match Tab.find s.insts x.inst with | some i => i.turn = 0 | none => false
  let insts := if newI then Tab.map (fun n i => { i with turn := if readyOf s n = [] then 0 else max 1 i.weight }) s.insts else s.insts
  let wqs := if x.turn = 0 then
      Tab.map (fun n y => if y.inst = x.inst then { y with turn := if readyQ s n y then max 1 y.weight else 0 } else y) s.wqs
    else s.wqs
  { s with insts := Tab.modify insts x.inst (fun i => { i with turn := i.turn - 1 }),
           wqs := Tab.modify wqs q (fun y => { y with turn := y.turn - 1 }) }

/-- A reused queue and index begins with no tag of its predecessor in a journal: that record is retired (R304). -/
def freeTag (s : State) (q i : Nat) : State :=
  { s with sy := Tab.map (fun _ c => { c with journal := c.journal.filter (fun t => t ≠ (1, q, i)) }) s.sy }

/-- Accepts the entry at CI: the in-flight record, CI, the wake of the blocks it is handed to (R71), and for an entry with an illegal field its completion (R163,
R164, R190). -/
def acceptEnt (s : State) (q : Nat) (x : Wq) (e : Bytes) : State :=
  let done : Option Done := (entFail s x.inst x.kind e).map fun f =>
    { status := f.1, cflags := 0, detail := f.2, bytes := 0, aux := 0 }
  let r : Infl := { ent := e, seq := s.accSeq, disp := done.isSome, done := done, written := false, retired := false,
                    deadline := none, adm := none, keys := [], spans := [], args := none }
  let s := putInfl (instStat (accDraw (freeTag s q x.ci) x.inst) x.inst 0 1) q x.ci r
  let s := if done.isSome then s else (opBlks (entOp e)).foldl wakeBlk s
  { s with accSeq := s.accSeq + 1, wqs := Tab.modify s.wqs q (fun y =>
      { y with ci := inc32 x.ci, cache := Tab.del y.cache x.ci, holdSince := none }) }

/-- ENTRY_ACCEPT (R163, R299, R300). -/
def execEntryAccept (q : Nat) (s : State) : Result :=
  onBlk .headgate s fun s =>
  match Tab.find s.wqs q with
  | none => .next s
  | some x =>
    match Tab.find x.cache x.ci with
    | none => .next s
    | some c =>
      if !acceptable s q x c.bytes then .next s
      else match gateIs s x with
        | .opened => if turnOk s q x then .next (acceptEnt (drawTurn s q x) q x c.bytes) else .next s
        | .closed => .next (putWq s q { x with holdSince := some (x.holdSince.getD s.sys.now) })
        | .failed st => .next (enterError s q st)

/-- The entry at a queue's CI is held by a closed gate and by nothing else (R163, R300). -/
def gateHolds (s : State) (q : Nat) (x : Wq) : Bool :=
  gateIs s x = .closed && (match Tab.find x.cache x.ci with | some c => acceptable s q x c.bytes | none => false)

/-- GATE_TIMEOUT_EXPIRY (R300): a queue held only by a closed gate for GATE_TIMEOUT. -/
def execGateTimeoutExpiry (q : Nat) (s : State) : Result :=
  match Tab.find s.wqs q with
  | none => .next s
  | some x =>
    match x.holdSince, x.gate with
    | some t, some g =>
      if g.timeout = 0 ∨ !gateHolds s q x then .next s
      else .next (enterError (advanceTo s (t + g.timeout * 1000000)) q Status.waitTimeout)
    | _, _ => .next s

/-! ### Fences (R168) -/

/-- The checks that FENCE and RELEASE share, in R168's order: COUNT is 0 for RELEASE, and is held against PI and START as for FENCE. -/
def fenceChecks (x : Wq) (w : RegWr) : List (Bool × Byte) :=
  let d := w.data.toNat
  let f := bitN d 31
  let r := bitN d 30
  let n := fld d 16 0
  let a := sub32 x.pi x.invStart.toNat
  [(noRsv w 0x300E0000 && f ≠ r && (if f then decide (1 ≤ n ∧ n ≤ 2 ^ x.ringLog2) else n = 0)
      && decide (n ≤ a ∧ a ≤ 2 ^ x.ringLog2), Status.badField),
   (!f || x.fence = none, Status.busy),
   (if f then x.st = .enabled else x.fence.isSome, Status.notPermitted)]

/-- HG_INV_CMD with FENCE (R168). -/
def execHgInvFence (q : Nat) (w : RegWr) (s : State) : Result :=
  if w.full ∧ !bitN w.data.toNat 31 ∧ bitN w.data.toNat 30 then .next s
  else queueReg s q 0x18 w fun x =>
    match firstFail (fenceChecks x w) with
    | some st => reject s (dbAddr s q 0x18) none w st
    | none =>
      fenceStep (putWq s q { x with fence := some (x.invStart.toNat, fld w.data.toNat 16 0), invCi := x.ci, invDone := false,
                                    invTag := fld w.data.toNat 27 20 }) q

/-- HG_INV_CMD with RELEASE (R168). -/
def execHgInvRelease (q : Nat) (w : RegWr) (s : State) : Result :=
  if !(w.full ∧ !bitN w.data.toNat 31 ∧ bitN w.data.toNat 30) then .next s
  else queueReg s q 0x18 w fun x =>
    match firstFail (fenceChecks x w) with
    | some st => reject s (dbAddr s q 0x18) none w st
    | none => putWq s q { x with fence := none, invDone := true, invTag := fld w.data.toNat 27 20 }

/-! ### States (R174, R175) -/

/-- The rule that refuses EN = 1 on a queue, if one does (R114, R136, R175). -/
def enableFail (s : State) (x : Wq) : Option Byte :=
  let p := isPartner s x.inst
  firstFail [(!p || s.feat.committed, Status.featureNotNegotiated),
    (x.st ≠ .draining, Status.busy), (x.st ≠ .error, Status.notPermitted), (!p || s.pt.cxl, Status.notPermitted)]

/-- HG_QCTRL with EN = 1 (R175). -/
def execHgQctrlEnable (q : Nat) (w : RegWr) (s : State) : Result :=
  if w.full ∧ !bitN w.data.toNat 0 then .next s
  else queueReg s q 4 w fun x =>
    let p := isPartner s x.inst
    match firstFail [(!p || s.feat.committed, Status.featureNotNegotiated), (noRsv w 0xFFFFFFFE, Status.badField)] with
    | some st => reject s (dbAddr s q 4) none w st
    | none => match enableFail s x with
      | some st => reject s (dbAddr s q 4) none w st
      | none => if x.st = .disabled then putWq s q { x with st := .enabled } else s

/-- HG_QCTRL with EN = 0 (R175). -/
def execHgQctrlDisable (q : Nat) (w : RegWr) (s : State) : Result :=
  if !(w.full ∧ !bitN w.data.toNat 0) then .next s
  else queueReg s q 4 w fun x =>
    if !noRsv w 0xFFFFFFFE then reject s (dbAddr s q 4) none w Status.badField
    else if x.st = .enabled then settle (putWq s q { x with st := .draining, holdSince := none }) q
    else s

/-! ### Completion (R165, R169 to R173, R193, R196 to R199) -/

/-- A kernel-defined status code (R197, SETSTAT). -/
def kernelCode (st : Byte) : Bool := 0x80 ≤ st.toNat

/-- An engine finishes an entry (R197): BYTES and AUX stand only with OK, OVERFLOW_DROPPED or a kernel-defined code. -/
def finish (s : State) (q i : Nat) (d : Done) : State :=
  match inflOf s q i with
  | none => s
  | some r =>
    let d := if d.status = Status.ok ∨ d.status = Status.overflowDropped ∨ kernelCode d.status then d
             else { d with bytes := 0, aux := 0 }
    if r.done.isSome then s else putInfl s q i { r with disp := true, done := some d, keys := [], spans := [] }

/-- Finishes an entry with a status that this device found, or that the owner of a plot reported (R196). -/
def finishR (s : State) (q i : Nat) (st : Byte) (remote : Bool) : State :=
  finish s q i { status := st, cflags := 2 * bit remote, detail := 0, bytes := 0, aux := 0 }

/-- Finishes an entry with a status found on this device. -/
def finishSt (s : State) (q i : Nat) (st : Byte) : State :=
  finish s q i { status := st, cflags := 0, detail := 0, bytes := 0, aux := 0 }

/-- The 32 bytes of a completion entry (R196). -/
def cqeBytes (phase q i : Nat) (op : Nat) (wrId : Bytes) (d : Done) : Bytes :=
  let b := [BitVec.ofNat 8 (phase * 128 + op), d.status, BitVec.ofNat 8 d.cflags, BitVec.ofNat 8 d.detail]
    ++ putLE 4 q ++ putLE 4 i ++ putLE 4 (min d.bytes (2 ^ 32 - 1)) ++ fit 8 wrId ++ putLE 4 d.aux
  b ++ putLE 4 (crcN b)

/-- Sends an armed completion queue's interrupt and disarms it (R172). -/
def cqFire (s : State) (c : Nat) (x : Cq) : State :=
  sendVector (putCq s c { x with armed := false, armCount := 0, armFrom := none }) x.vector

/-- A completion-entry write failed: the completion queue and every queue bound to it enter ERROR (R173). -/
def cqFail (s : State) (c : Nat) (x : Cq) (st : Byte) : State :=
  let s := putCq s c { x with error := true, errStatus := st, lost := satInc 32 x.lost }
  s.wqs.foldl (fun s p => if p.2.cq = c then enterError s p.1 st else s) s

/-- Writes one completion entry; `none` while its write is held. A completion queue in ERROR discards it. -/
def writeCqe (s : State) (c q i op : Nat) (wrId : Bytes) (d : Done) : State × Bool :=
  match Tab.find s.cqs c with
  | none => (s, true)
  | some x =>
    if x.error then (putCq s c { x with lost := satInc 32 x.lost }, true)
    else
      match writeMem s x.inst (x.ring + 32 * (x.cpi % 2 ^ x.log2)) (cqeBytes (phaseOf x.cpi x.log2) q i op wrId d) with
      | .wait s => (s, false)
      | .fault s st _ => (cqFail s c x st, true)
      | .ok s _ =>
        let y := { x with cpi := inc32 x.cpi, armCount := x.armCount + bit x.armed,
                          armFrom := if x.armed then some (x.armFrom.getD s.sys.now) else none }
        if y.armed ∧ max 1 y.modCount ≤ y.armCount then (cqFire s c y, true) else (putCq s c y, true)

/-- Queues a counter change; it becomes applied by SYNKO_APPLY (R294, R295, R304). -/
def syQueue (s : State) (n : Nat) (set : Bool) (v : Nat) (src : SySrc) : State :=
  { s with syPend := s.syPend ++ [{ counter := n, set := set, value := v, src := src }] }

/-- After its completion entry: the Synko increment with the launch's staged sums (R193, R348), or retirement. -/
def afterCqe (s : State) (q i : Nat) (r : Infl) (inst : Nat) : State :=
  let inc := synkoOk s inst r.ent
  let c := entSynko r.ent
  let sums := match Tab.find s.fw.launches (inflKey q i) with | some l => l.sums | none => []
  let ch := (if inc then (if sums.any (fun x => x.1 = c) then sums.map (fun x => if x.1 = c then (c, min (x.2 + 1) (2 ^ 48 - 1)) else x)
                          else sums ++ [(c, 1)]) else sums)
  let s := ch.foldl (fun s x => syQueue s x.1 false x.2 (if sums = [] then .entry q i else .launch q i)) s
  let s := { s with fw := { s.fw with launches := Tab.del s.fw.launches (inflKey q i) } }
  if ch = [] then { s with infl := Tab.del s.infl (inflKey q i) }
  else putInfl s q i { r with written := true }

/-- The oldest accepted entry of a queue without a completion entry: the one whose index precedes every other. -/
def oldest (s : State) (q : Nat) : Option (Nat × Infl) :=
  (owed s q).foldl (fun m p => match m with
    | none => some (p.1 % 2 ^ 32, p.2)
    | some (i, r) => if p.2.seq < r.seq then some (p.1 % 2 ^ 32, p.2) else some (i, r)) none

/-- WQE_COMPLETE (R165, R193, R196): the completion entry of the oldest accepted entry, once its engine finished. -/
def execWqeComplete (q : Nat) (s : State) : Result :=
  match Tab.find s.wqs q, oldest s q with
  | some x, some (i, r) =>
    (match r.done with
    | none => .next s
    | some d =>
      match writeCqe s x.cq q i (entOp r.ent) (entWrId r.ent) d with
      | (s, false) => .next s
      | (s, true) =>
        let s := if d.status = Status.ok then s else instStat s x.inst 1 1
        .next (settle (afterCqe s q i r x.inst) q))
  | _, _ => .next s

/-- QUEUE_ERROR_ENTRY (R176, R199). -/
def execQueueErrorEntry (q : Nat) (s : State) : Result :=
  match Tab.find s.wqs q with
  | none => .next s
  | some x =>
    match Tab.find s.cqs x.cq with
    | none => .next s
    | some c =>
      if x.st ≠ .error ∨ !x.errOwed ∨ owed s q ≠ [] ∨ (!c.error ∧ 2 ^ c.log2 ≤ cqRsv s x.cq) then .next s
      else
        match writeCqe s x.cq q x.ci 0 [] { status := x.errStatus, cflags := 1, detail := 0, bytes := 0, aux := 0 } with
        | (s, false) => .next s
        | (s, true) => .next { s with wqs := Tab.modify s.wqs q (fun y => { y with errOwed := false }) }

/-! ### Completion-queue registers (R171, R172) -/

/-- A write to a completion queue's block. -/
def cqReg (s : State) (c off : Nat) (w : RegWr) (k : Cq → State) : Result :=
  if !windowLive s ∨ discarded s w.src ∨ cqMax s ≤ c then .next s
  else if !w.full then .next (reject s (cqAddr s c off) none w Status.badField)
  else if !blockOwned s s.own.cq c w.src then .next (reject s (cqAddr s c off) none w Status.notPermitted)
  else match Tab.find s.cqs c with
    | none => .next (reject s (cqAddr s c off) none w Status.queueDisabled)
    | some x => .next (k x)

/-- HG_CQDB (R171). -/
def execHgCqdb (c : Nat) (w : RegWr) (s : State) : Result :=
  cqReg s c 0 w fun x =>
    let v := w.data.toNat
    if 2 ^ x.log2 < sub32 x.cpi v then reject s (cqAddr s c 0) none w Status.badField
    else if sub32 x.cpi v < sub32 x.cpi x.cci then putCq s c { x with cci := v }
    else s

/-- HG_CQARM (R172). -/
def execHgCqarm (c : Nat) (w : RegWr) (s : State) : Result :=
  cqReg s c 4 w fun x =>
    if !noRsv w 0xFFFFFFFE then reject s (cqAddr s c 4) none w Status.badField
    else if w.data.toNat = 0 then s
    else putCq s c { x with armed := true, armCount := 0, armFrom := if x.cpi = x.cci then none else some s.sys.now }

/-- CQ_MOD_TIME_EXPIRY (R172). -/
def execCqModTimeExpiry (c : Nat) (s : State) : Result :=
  match Tab.find s.cqs c with
  | none => .next s
  | some x => match x.armed, x.armFrom with
    | true, some t => .next (cqFire (advanceTo s (t + x.modTime * 1000)) c x)
    | _, _ => .next s

/-! ### Queue commands (R176, R177) -/

/-- The selected work queue of an instance page. -/
def qSel (s : State) (inst : Nat) : Nat := fld (getPage s inst 0x000) 18 0

/-- The kind a CREATE asks for; 0b11 is reserved. -/
def kindOf (cfg : Nat) : Option QKind :=
  if fld cfg 31 30 = 0 then some .sq else if fld cfg 31 30 = 1 then some .rq
  else if fld cfg 31 30 = 2 then some .lq else none

/-- The checks of R177 that every work-queue command shares: its CMD, the number, the grant. -/
def qcmdHead (s : State) (inst : Nat) (w : RegWr) : List (Bool × Byte) :=
  [(noRsv w 0xFFFFFFF0, Status.badField), (qSel s inst < dbCount s, Status.badField),
   (mayUse s.own.wq (qSel s inst) inst, Status.notPermitted)]

/-- WEIGHT, PF_DEPTH and OUTSTANDING in range. -/
def qTuneOk (cfg lim : Nat) : Bool :=
  1 ≤ fld cfg 23 16 && 1 ≤ fld cfg 15 8 && fld cfg 15 8 ≤ 64 && 1 ≤ fld lim 12 0 && fld lim 12 0 ≤ 4096

/-- HG_QCMD CREATE (R177). -/
def execHgQcmdCreate (inst : Nat) (w : RegWr) (s : State) : Result :=
  let q := qSel s inst
  let cfg := getPage s inst 0x004
  let qp := fld (getPage s inst 0x010) 17 0
  let cq := fld (getPage s inst 0x014) 15 0
  let win := fld (getPage s inst 0x018) 15 0
  let lm := getPage s inst 0x01C
  let push := bitN cfg 24
  let k := kindOf cfg
  let isQp := k = some .sq || k = some .rq
  let taken := isQp && s.wqs.any (fun x => x.2.qp = qp && x.2.kind ≠ .lq && some x.2.kind = k)
  let bound := isQp && (match Tab.find s.qps qp with | some p => p.group.isSome | none => false)
  onCmd w 1 s (pageCmd s inst 0x020 0x024 w
    [(noRsv w 0xFFFFFFF0, Status.badField),
     (q < dbCount s && cq < cqMax s && (!isQp || qp < qpMax s) && (!push || win < pushCount s), Status.badField),
     (mayUse s.own.wq q inst && owns s.own.cq cq inst && (!isQp || owns s.own.qp qp inst)
        && (!push || owns1 s.own.push win inst), Status.notPermitted),
     (!push || instHas s inst 4, Status.featureNotNegotiated),
     (k.isSome && 4 ≤ fld cfg 4 0 && fld cfg 4 0 ≤ 16 && qTuneOk cfg lm && (isQp || qp = 0), Status.badField),
     (!Tab.has s.wqs q && (!push || !s.wqs.any (fun x => x.2.pushEn && x.2.pushIdx = win)) && !taken && !bound, Status.busy),
     ((match Tab.find s.cqs cq with | some c => !c.error | none => false), Status.badField)]
    (fun s => putWq { s with own.wq := takeBlock s.own.wq q inst } q
      { inst := inst, kind := k.getD .lq, pushEn := push, weight := fld cfg 23 16, turn := 0, pfDepth := fld cfg 15 8,
        ringLog2 := fld cfg 4 0, ring := getPage s inst 0x008 + getPage s inst 0x00C * 2 ^ 32, qp := qp, cq := cq,
        pushIdx := win, limit := fld lm 12 0, st := .disabled, pi := 0, ci := 0, errStatus := 0, errOwed := false,
        fence := none, pushHeld := [], invStart := 0, invDone := false, invTag := 0, invCi := 0, cache := [], gate := none,
        holdSince := none, fireTag := none }))

/-- RESET and DESTROY are accepted in DISABLED, or in ERROR with IDLE = 1 (R176). -/
def qQuiet (s : State) (q : Nat) : Bool :=
  match Tab.find s.wqs q with
  | some x => x.st = .disabled || (x.st = .error && qIdle s q)
  | none => false

/-- HG_QCMD DESTROY (R176, R177). -/
def execHgQcmdDestroy (inst : Nat) (w : RegWr) (s : State) : Result :=
  let q := qSel s inst
  onCmd w 2 s (pageCmd s inst 0x020 0x024 w (qcmdHead s inst w ++ [(qQuiet s q, Status.busy)])
    (fun s => { s with wqs := Tab.del s.wqs q, own.wq := dropBlock s.own.wq q inst (fun k => k ≠ q && Tab.has s.wqs k) }))

/-- HG_QCMD RESET (R176, R177, R301). -/
def execHgQcmdReset (inst : Nat) (w : RegWr) (s : State) : Result :=
  let q := qSel s inst
  onCmd w 3 s (pageCmd s inst 0x020 0x024 w (qcmdHead s inst w ++ [(qQuiet s q, Status.busy)])
    (fun s => { s with wqs := Tab.modify s.wqs q (fun x =>
      { x with st := .disabled, pi := 0, ci := 0, errStatus := 0, errOwed := false, gate := none, holdSince := none,
               fence := none, pushHeld := [], cache := [], fireTag := none }) }))

/-- HG_QCMD MODIFY (R177). -/
def execHgQcmdModify (inst : Nat) (w : RegWr) (s : State) : Result :=
  let q := qSel s inst
  let cfg := getPage s inst 0x004
  let lm := getPage s inst 0x01C
  onCmd w 4 s (pageCmd s inst 0x020 0x024 w
    (qcmdHead s inst w ++ [(qTuneOk cfg lm, Status.badField), (Tab.has s.wqs q, Status.busy)])
    (fun s => { s with wqs := Tab.modify s.wqs q (fun x =>
      { x with weight := fld cfg 23 16, pfDepth := fld cfg 15 8, limit := fld lm 12 0 }) }))

/-- The selected completion queue of an instance page. -/
def cSel (s : State) (inst : Nat) : Nat := fld (getPage s inst 0x040) 15 0

/-- The checks of R177 that every completion-queue command shares. -/
def ccmdHead (s : State) (inst : Nat) (w : RegWr) : List (Bool × Byte) :=
  [(noRsv w 0xFFFFFFF0, Status.badField), (cSel s inst < cqMax s, Status.badField),
   (mayUse s.own.cq (cSel s inst) inst, Status.notPermitted)]

/-- HG_CCMD CREATE (R177). -/
def execHgCcmdCreate (inst : Nat) (w : RegWr) (s : State) : Result :=
  let c := cSel s inst
  let cfg := getPage s inst 0x044
  onCmd w 1 s (pageCmd s inst 0x054 0x058 w
    (ccmdHead s inst w ++ [(4 ≤ fld cfg 4 0 && fld cfg 4 0 ≤ 20 && fld cfg 26 16 < 2048, Status.badField),
      (!Tab.has s.cqs c, Status.busy)])
    (fun s => putCq { s with own.cq := takeBlock s.own.cq c inst } c
      { inst := inst, vector := fld cfg 26 16, modCount := fld cfg 15 8, log2 := fld cfg 4 0,
        ring := getPage s inst 0x048 + getPage s inst 0x04C * 2 ^ 32, modTime := fld (getPage s inst 0x050) 15 0,
        error := false, errStatus := 0, cpi := 0, cci := 0, armed := false, armCount := 0, armFrom := none, lost := 0 }))

/-- No work queue is bound to a completion queue. -/
def cqUnbound (s : State) (c : Nat) : Bool := !s.wqs.any (fun x => x.2.cq = c)

/-- HG_CCMD DESTROY (R177, R173). -/
def execHgCcmdDestroy (inst : Nat) (w : RegWr) (s : State) : Result :=
  let c := cSel s inst
  onCmd w 2 s (pageCmd s inst 0x054 0x058 w
    (ccmdHead s inst w ++ [(Tab.has s.cqs c && cqUnbound s c, Status.busy)])
    (fun s => { s with cqs := Tab.del s.cqs c, own.cq := dropBlock s.own.cq c inst (fun k => k ≠ c && Tab.has s.cqs k) }))

/-- HG_CCMD RESET (R177). -/
def execHgCcmdReset (inst : Nat) (w : RegWr) (s : State) : Result :=
  let c := cSel s inst
  let ok := match Tab.find s.cqs c with | some x => !x.error && cqUnbound s c && cqRsv s c = 0 | none => false
  onCmd w 3 s (pageCmd s inst 0x054 0x058 w (ccmdHead s inst w ++ [(ok, Status.busy)])
    (fun s => { s with cqs := Tab.modify s.cqs c (fun x =>
      { x with cpi := 0, cci := 0, armed := false, armCount := 0, armFrom := none }) }))

end Sys2Proof.Machine
end

