-- ==== Sys2Proof/Machine/Spans.lean ====
section
/-!
DEFINITION. Span and key commands, dispatch order, and the entries that act on spans: NOP, PREFETCH, ADVISE (spec file 09,
R200 to R225; R191, R192, R194).
-/
namespace Sys2Proof.Machine

/-! ### Dispatch (R191, R192, R194) -/

/-- The codebook slots an entry names (R194); a launch names those its argument block declares (R341), `none` before it is read. -/
def cbNamed (r : Infl) : Option (List Nat) :=
  let e := r.ent
  if entOp e = 0x20 then
    some ((if bitN (getLE e 15 1) 0 then [getLE e 48 1] else []) ++ (if bitN (getLE e 15 1) 1 then [getLE e 49 1] else []))
  else if entOp e = 0x21 then
    if getLE e 44 4 < 16 then some []
    else r.args.map (fun b => (List.range (min 4 (getLE b 1 1))).map (fun k => getLE b (8 + 2 * k) 2))
  else if entOp e = 0x23 then some [getLE e 12 2]
  else some []

/-- Two entries name a slot in common, or may (R194). -/
def cbMeet (a b : Option (List Nat)) : Bool :=
  a ≠ some [] && b ≠ some [] && (match a, b with | some x, some y => x.any y.contains | _, _ => true)

/-- Device-wide order of codebook loads and their users (R194). -/
def cbOrdered (s : State) (r : Infl) : Bool :=
  s.infl.all (fun p => r.seq ≤ p.2.seq || p.2.done.isSome || !(entOp r.ent = 0x23 || entOp p.2.ent = 0x23)
    || !cbMeet (cbNamed r) (cbNamed p.2))

/-- The opcodes RD_FENCE waits for. -/
def readLike (op : Nat) : Bool := op ∈ [3, 6, 7, 0x10]

/-- Step 3 of a teardown of the instance has ended its accepted work (R144, R384). -/
def workEnded (s : State) (inst : Nat) : Bool :=
  (s.pt.st = .teardown && decide (3 < s.pt.tdStep) && isPartner s inst)
  || (match Tab.find s.insts inst with | some i => i.destroying.isSome | none => false)

/-- An accepted entry may be dispatched: in index order, with its ordering flags, its queue pair not RESYNCING, its
blocks' clocks running (R72). -/
def mayDispatch (s : State) (q i : Nat) (op : Nat) : Option (Wq × Infl) :=
  match Tab.find s.wqs q, inflOf s q i with
  | some x, some r =>
    let earlier := (owed s q).filter (fun p => p.2.seq < r.seq)
    let qpOk := x.kind ≠ .sq || (match Tab.find s.qps x.qp with | some p => p.st ≠ .resyncing | none => true)
    if entOp r.ent = op ∧ !r.disp ∧ r.done = none ∧ qpOk ∧ !workEnded s x.inst ∧ (opBlks op).all (fun b => !gated s b) ∧ earlier.all (fun p => p.2.disp)
      ∧ (!entFence r.ent ∨ earlier.all (fun p => p.2.done.isSome))
      ∧ (!entRdFence r.ent ∨ earlier.all (fun p => !readLike (entOp p.2.ent) || p.2.done.isSome))
      ∧ (op = 0x21 ∨ (cbOrdered s r ∧ !(underTest s 6 0 ∧ cbNamed r ≠ some [])))
    then some (x, r) else none
  | _, _ => none

/-- Marks an entry dispatched. -/
def dispatched (s : State) (q i : Nat) : State :=
  { s with infl := Tab.modify s.infl (inflKey q i) (fun r => { r with disp := true }) }

/-- A local operand of an entry: its key, the rights it needs, its range (R211). -/
structure LocOpd where
  key : Nat
  need : Nat
  addr : Nat
  len : Nat
  deriving DecidableEq, Repr

/-- The admission checks on local operands, in order (R213). -/
def admitOpds (s : State) (inst : Nat) : List LocOpd → State × Option Byte
  | [] => (s, none)
  | o :: r => match admitKey s inst o.key o.need o.addr o.len false false with
    | (s, some st) => (s, some st)
    | (s, none) => admitOpds s inst r

/-- When an entry was admitted (R212). -/
def admOf (s : State) (q i : Nat) : Option Nat := (inflOf s q i).bind (·.adm)

/-- An entry is admitted, with the keys and spans it holds until it completes (R207, R212, R217, R218). -/
def noteAdmit (s : State) (q i : Nat) (keys spans : List Nat) : State :=
  { s with infl := Tab.modify s.infl (inflKey q i) (fun r => { r with adm := some s.pieceClock, keys := keys, spans := spans }),
           pieceClock := s.pieceClock + 1 }

/-- The admission of an entry under its local operands: made once, then kept (R212). -/
def admitOnce (s : State) (q i inst : Nat) (r : Infl) (os : List LocOpd) : State × Option Byte :=
  if r.adm.isSome then (s, none)
  else match admitOpds s inst os with
    | (s, some st) => (s, some st)
    | (s, none) => (noteAdmit s q i (os.map (·.key)) (os.flatMap (fun o => spansOver s inst o.addr o.len)), none)

/-- The admission under which a request's local operand is accessed. -/
def whoAdm (s : State) (w : Waiter) : Option Nat := match w with | .entry q i => admOf s q i | _ => none

/-- NOP (R186, R197): complete when dispatched. -/
def execNop (q i : Nat) (s : State) : Result :=
  match mayDispatch s q i 0 with
  | none => .next s
  | some _ => .next (finishSt s q i Status.ok)

/-! ### PREFETCH and ADVISE (R205 to R208) -/

/-- The span of an instance that holds a whole range. -/
def spanOver (s : State) (inst addr len : Nat) : Option (Nat × Span) :=
  match spanAt s inst addr with
  | some (k, sp) => if addr + len ≤ sp.start + sp.len then some (k, sp) else none
  | none => none

/-- Fetches the translations of a range of an ATS span into the span cache; `true` once all are there. -/
def loadAts : Nat → State → Nat → Nat → Nat → Acc
  | 0, s, _, _, _ => .ok s []
  | f + 1, s, inst, addr, len =>
    if len = 0 then .ok s []
    else match translate s inst addr len false with
      | .ok s _ n => loadAts f s inst (addr + n) (len - n)
      | .basin s _ _ _ => .ok s []
      | .fault s st => .fault s st false
      | .wait s => .wait s

/-- The span becomes MOVING for a PREFETCH entry (R206, R207). -/
def beginMove (s : State) (q i k : Nat) (sp : Span) : State :=
  dispatched { s with spans := Tab.put s.spans k { sp with moving := some (q, i), movingAt := s.pieceClock },
                      pieceClock := s.pieceClock + 1 } q i

/-- PREFETCH (R206, R207). -/
def execPrefetch (q i : Nat) (s : State) : Result :=
  match mayDispatch s q i 0x12 with
  | none => .next s
  | some (x, r) =>
    let addr := entAddr r.ent
    let len := entLen r.ent
    let toHbm : Bool := decide (getLE r.ent 28 1 = 1)
    match (if r.adm.isSome then (s, none) else admitKey s x.inst (entKey r.ent) rRead addr len false false) with
    | (s, some st) => .next (finishSt s q i st)
    | (s, none) =>
      let s := if r.adm.isSome then s else noteAdmit s q i [entKey r.ent] []
      let ok (s : State) : State := finish s q i { status := Status.ok, cflags := 0, detail := 0, bytes := len, aux := 0 }
      match spanOver s x.inst addr len with
      | none => .next (finishSt s q i Status.translationFault)
      | some (k, sp) =>
        if sp.bad1 ∧ sp.bad2 then .next (finishSt (logCorrupt s 0x07 1 k) q i Status.descriptorCrc)
        else if sp.moving.isSome then .next s
        else if sp.migr then
          if addr ≠ sp.start ∨ len ≠ sp.len then .next (finishSt s q i Status.bounds)
          else if sp.resHbm = toHbm then .next (ok s)
          else .next (beginMove s q i k sp)
        else match sp.kind, toHbm with
          | .ats, false =>
            (match loadAts (len + 1) s x.inst addr len with
            | .ok s _ => .next (ok s)
            | .fault s st _ => .next (finishSt s q i st)
            | .wait s => .next s)
          | .phys, false => .next (ok s)
          | .plot, false => .next (ok s)
          | .hbm, true => .next (ok s)
          | _, _ => .next (finishSt s q i Status.notPermitted)

/-- An ADVISE entry: admission, the spans its range overlaps, and the effect on them. -/
def advise (q i advice : Nat) (s : State) (eff : State → List Nat → State) : Result :=
  match mayDispatch s q i 0x13 with
  | none => .next s
  | some (x, r) =>
    if getLE r.ent 28 1 ≠ advice then .next s
    else
      let addr := entAddr r.ent
      let len := entLen r.ent
      match admitKey s x.inst (entKey r.ent) rRead addr len false false with
      | (s, some st) => .next (finishSt s q i st)
      | (s, none) =>
        let ks := spansOver s x.inst addr len
        if ks = [] then .next (finishSt s q i Status.translationFault)
        else match ks.find? (spanLost s) with
          | some k => .next (finishSt (logCorrupt s 0x07 1 k) q i Status.descriptorCrc)
          | none => .next (finishSt (eff (ks.foldl spanRepair s) ks) q i Status.ok)

/-- Changes the spans of a list. -/
def mapSpans (s : State) (ks : List Nat) (f : Span → Span) : State :=
  { s with spans := Tab.map (fun k sp => if ks.contains k then f sp else sp) s.spans }

/-- Asks for the translation of the next part of an ATS span that no piece holds (R203, R208). -/
def adviseAts : Nat → State → Nat → Span → Nat → State
  | 0, s, _, _, _ => s
  | f + 1, s, k, sp, addr =>
    if sp.start + sp.len ≤ addr then s
    else match pieceOf s k addr with
      | some p => adviseAts f s k sp (p.start + p.len)
      | none =>
        if s.ats.any (fun r => r.inst = sp.inst && r.addr = addr) then s
        else atsAsk s sp.inst addr (sp.start + sp.len - addr) false true (pasidOf s sp.inst)

/-- Loads a span's pieces; a span cached whole is one piece, an ATS span at home is fetched translation by translation (R203, R208). -/
def loadSpan (s : State) (k : Nat) : State :=
  match Tab.find s.spans k with
  | none => s
  | some sp =>
    if sp.moving.isSome then s
    else if sp.kind = .ats ∧ !sp.resHbm then
      (if partnerUp s sp.inst then adviseAts (s.pieces.length + 1) s k sp sp.start else s)
    else match (if sp.kind = .phys ∧ !sp.resHbm then some ({ space := .partner, addr := sp.target } : Loc)
        else if sp.kind = .basin then some { space := .plot, addr := sp.target }
        else hbmLoc s sp.inst (if sp.kind = .hbm then sp.target else sp.migOff)) with
      | none => s
      | some l => (usePiece s k sp.start
          { inst := sp.inst, start := sp.start, len := sp.len, loc := l, w := true, span := k, ats := false, used := 0 }).getD s

/-- ADVISE WILL_NEED (R208): loads pieces; the completion does not wait for them. -/
def execAdviseWillNeed (q i : Nat) (s : State) : Result :=
  advise q i 1 s fun s ks => ks.foldl loadSpan s

/-- ADVISE DONT_NEED (R208). -/
def execAdviseDontNeed (q i : Nat) (s : State) : Result :=
  advise q i 2 s fun s ks => ks.foldl dropFree s

/-- ADVISE READ_MOSTLY (R208). -/
def execAdviseReadMostly (q i : Nat) (s : State) : Result :=
  advise q i 3 s fun s ks => mapSpans s ks (fun sp => { sp with readMostly := true })

/-- ADVISE PREFER_HBM (R208). -/
def execAdvisePreferHbm (q i : Nat) (s : State) : Result :=
  advise q i 4 s fun s ks => mapSpans s ks (fun sp => { sp with prefer := 1 })

/-- ADVISE PREFER_PARTNER (R208). -/
def execAdvisePreferPartner (q i : Nat) (s : State) : Result :=
  advise q i 5 s fun s ks => mapSpans s ks (fun sp => { sp with prefer := 2 })

/-! ### Grants by index (R209, R224) -/

/-- The lowest index of an instance's blocks that a test leaves free. -/
def lowestIn (t : Tab Nat) (inst limit : Nat) (free : Nat → Bool) : Option Nat :=
  (t.filter (fun p => p.2 = inst)).findSome? (fun p =>
    ((List.range 64).map (64 * p.1 + ·)).find? (fun n => n < limit && free n))

/-- The lowest index that a test leaves free in the lowest block that nobody holds, for instance 0 (R375). -/
def lowestNew (t : Tab Nat) (inst limit : Nat) (free : Nat → Bool) : Option Nat :=
  if inst ≠ 0 then none
  else (lowestGap t 1 0 ((limit + 63) / 64)).bind fun b => ((List.range 64).map (64 * b + ·)).find? (fun n => n < limit && free n)

/-- The index a key CREATE takes: one never used, lowest first, else the one freed earliest (R209); instance 0 takes a further block
when it holds none that serves (R375). -/
def nextKey (s : State) (inst : Nat) : Option Nat :=
  let free (n : Nat) : Bool := n ≠ 0 && !Tab.has s.keys n
  match lowestIn s.own.key inst (keyMax s) free with
  | some n => some n
  | none => (match Tab.find s.insts inst with | some i => i.freeKeys.head? | none => none).orElse
      (fun _ => lowestNew s.own.key inst (keyMax s) free)

/-- The ranges of an instance's HBM space in use: its HBM spans and its reservations (R377). -/
def hbmUsed (s : State) (inst : Nat) : List (Nat × Nat) :=
  ((s.spans.filter (fun p => p.2.inst = inst && p.2.kind = .hbm)).map (fun p => (p.2.target, p.2.len)))
    ++ (match Tab.find s.insts inst with | some i => i.resv | none => [])

/-- The size of an instance's HBM space. -/
def hbmSize (s : State) (inst : Nat) : Nat :=
  match Tab.find s.insts inst with | some i => i.gran.length * gran64 | none => 0

/-- The lowest offset where a reservation fits: 0, or the end of a range in use (R377). -/
def lowestHbm (s : State) (inst len : Nat) : Option Nat :=
  let used := hbmUsed s inst
  let up (n : Nat) : Nat := (n + 4095) / 4096 * 4096
  let ok (o : Nat) : Bool := o + len ≤ hbmSize s inst && used.all (fun u => disjointR o len u.1 u.2)
  (((0 :: used.map (fun u => up (u.1 + u.2))).filter ok)).min?

/-- Reserves a range of an instance's HBM space. -/
def reserve (s : State) (inst off len : Nat) : State :=
  { s with insts := Tab.modify s.insts inst (fun i => { i with resv := i.resv ++ [(off, len)] }) }

/-- Releases a reservation. -/
def release (s : State) (inst off len : Nat) : State :=
  { s with insts := Tab.modify s.insts inst (fun i => { i with resv := i.resv.erase (off, len) }) }

/-- The allocations an instance owns, or that are shared with it, as this device knows the directory (R201, R210). -/
def allocsOf (s : State) (inst : Nat) : Tab Alloc :=
  Tab.keep (fun _ p => (p.inst = inst && p.slot = s.basin.slot) || p.shared.contains (s.basin.slot, inst)) (s.allocs ++ s.mgr.dir.allocs)

/-- The ranges of a plot that an allocation holds: offset and end. -/
def allocRanges (p : Alloc) (plot : Nat) : List (Nat × Nat) :=
  (p.extents.filter (fun x => x.plot = plot)).map (fun x => (x.off * gran64, (x.off + x.len) * gran64))

/-- Ranges cover [a, z) between them. -/
def coverFrom (rs : List (Nat × Nat)) : Nat → Nat → Nat → Bool
  | 0, a, z => z ≤ a
  | f + 1, a, z => z ≤ a || (match rs.find? (fun r => r.1 ≤ a && a < r.2) with
    | some r => coverFrom rs f r.2 z
    | none => false)

/-- One allocation of an instance, or shared with it, that covers a Basin range (R210). -/
def allocOver (s : State) (inst a len : Nat) : Option Nat :=
  ((allocsOf s inst).find? (fun p => let rs := allocRanges p.2 (plotOf a); coverFrom rs (rs.length + 1) (plotOff a) (plotOff a + len))).map (·.1)

/-- The allocations of an instance, or shared with it, cover a Basin range between them (R201): the one that holds its first byte. -/
def allocsOver (s : State) (inst a len : Nat) : Option Nat :=
  let as := allocsOf s inst
  let rs := as.flatMap (fun p => allocRanges p.2 (plotOf a))
  if coverFrom rs (rs.length + 1) (plotOff a) (plotOff a + len) then
    (as.find? (fun p => (allocRanges p.2 (plotOf a)).any (fun r => r.1 ≤ plotOff a && plotOff a < r.2))).map (·.1)
  else none

/-! ### Span commands (R201, R218, R224) -/

/-- The span kind of a code. -/
def skindOf (n : Nat) : Option SKind :=
  if n = 1 then some .ats else if n = 2 then some .phys else if n = 3 then some .hbm else if n = 4 then some .basin
  else if n = 5 then some .plot else none

/-- A 64-bit staging value in two registers. -/
def page64 (s : State) (inst off : Nat) : Nat := getPage s inst off + getPage s inst (off + 4) * 2 ^ 32

/-- The index a span CREATE takes (R224). -/
def nextSpan (s : State) (inst : Nat) : Option Nat :=
  let free (n : Nat) : Bool := !Tab.has s.spans n
  (lowestIn s.own.span inst (spanMax s) free).orElse (fun _ => lowestNew s.own.span inst (spanMax s) free)

/-- Where the HBM copy of a new span goes: reserved at CREATE where it is migratable (R207, R377). -/
def spMig (s : State) (inst : Nat) : Option Nat :=
  if bitN (getPage s inst 0x09C) 3 then lowestHbm s inst (page64 s inst 0x08C) else some 0

/-- The checks of R224 on a span CREATE. -/
def spChecks (s : State) (inst : Nat) (w : RegWr) : List (Bool × Byte) :=
  let start := page64 s inst 0x084
  let len := page64 s inst 0x08C
  let tgt := page64 s inst 0x094
  let attr := getPage s inst 0x09C
  let migr := bitN attr 3
  let k := skindOf (fld attr 2 0)
  let partnerKind := k = some .ats || k = some .phys
  let tender := w.src = .tender && inst = 0
  let permitted : Bool :=
    (!partnerKind || (modeOf s ≠ .h && s.pt.st = .up && s.pt.cxl)) && (k ≠ some .ats || pasidOf s inst ≠ 0)
    && (k ≠ some .plot || tender) && (k ≠ some .basin || (allocsOver s inst tgt len).isSome)
    && (k ≠ some .hbm || (tgt + len ≤ hbmSize s inst
          && (match Tab.find s.insts inst with | some i => i.resv.all (fun u => disjointR tgt len u.1 u.2) | none => false)))
  [(noRsv w 0xFFFFFFF0, Status.badField),
   ((k ≠ some .ats || instHas s inst 21) && ((k ≠ some .phys && k ≠ some .hbm) || instHas s inst 2)
      && (!migr || instHas s inst 22) && (k ≠ some .basin || instHas s inst 5), Status.featureNotNegotiated),
   (k.isSome && start % 4096 = 0 && len % 4096 = 0 && tgt % 4096 = 0 && 4096 ≤ len && len ≤ 2 ^ 48 && start + len ≤ 2 ^ 57
      && (!migr || (partnerKind && len ≤ 2 ^ 32 - 4096)) && (k ≠ some .ats || tgt = 0)
      && (k ≠ some .basin || (tgt < 2 ^ 56 && plotOff tgt + len ≤ 2 ^ 48)), Status.badField),
   (permitted, Status.notPermitted),
   (s.spans.all (fun p => p.2.inst ≠ inst || p.2.destroying.isSome || (p.2.kind = .plot) ≠ (k = some .plot) || disjointR p.2.start p.2.len start len), Status.busy),
   ((nextSpan s inst).isSome && (spMig s inst).isSome, Status.noResource)]

/-- SP_CMD CREATE (R201, R224). -/
def execSpCreate (inst : Nat) (w : RegWr) (s : State) : Result :=
  let start := page64 s inst 0x084
  let len := page64 s inst 0x08C
  let tgt := page64 s inst 0x094
  let attr := getPage s inst 0x09C
  let migr := bitN attr 3
  let k := skindOf (fld attr 2 0)
  let handle := if k = some .plot then getPage s inst 0x080 else if k = some .basin then (allocsOver s inst tgt len).getD 0 else 0
  let n := (nextSpan s inst).getD 0
  let mig := (spMig s inst).getD 0
  onCmd w 1 s (pageCmd s inst 0x0A4 0x0A8 w (spChecks s inst w)
    (fun s =>
      let sp : Span := { inst := inst, kind := k.getD .hbm, start := start, len := len, target := tgt, migr := migr,
                         migOff := mig, resHbm := false, readMostly := false, prefer := 0, moving := none,
                         movingAt := 0, destroying := none, handle := handle, bad1 := false, bad2 := false }
      let s := if migr then reserve s inst mig len else s
      putPage { s with spans := Tab.put s.spans n sp, own.span := takeBlock s.own.span n inst } inst 0x080 n))

/-- Removes a span with its pieces and its reservation; instance 0 returns a block it no longer needs (R218, R375). -/
def killSpan (s : State) (k : Nat) : State :=
  match Tab.find s.spans k with
  | none => s
  | some sp =>
    let s := dropPieces { s with spans := Tab.del s.spans k } k
    let s := { s with own.span := dropBlock s.own.span k sp.inst (fun n => Tab.has s.spans n) }
    if sp.migr then release s sp.inst sp.migOff sp.len else s

/-- Steps 2 and 3 of R218: the last admitted access through a span that is being destroyed has completed. -/
def reapSpan (s : State) (k : Nat) : State :=
  match Tab.find s.spans k with
  | none => s
  | some sp => match sp.destroying with
    | some t => if spanUsed s k t then s else putStat (killSpan s k) sp.inst 0x0A8 false Status.ok
    | none => s

/-- Destroys a span (R218): it leaves the range tree at once, and goes when no admitted access uses it. -/
def destroySpan (s : State) (k : Nat) : State :=
  match Tab.find s.spans k with
  | none => s
  | some sp =>
    reapSpan (putStat { s with spans := Tab.put s.spans k { sp with destroying := some s.pieceClock }, pieceClock := s.pieceClock + 1 }
      sp.inst 0x0A8 true Status.ok) k

/-- Destroys every span that only waited for its admitted accesses. -/
def reapSpans (s : State) : State := s.spans.foldl (fun s p => if p.2.destroying.isSome then reapSpan s p.1 else s) s

/-- The selected span belongs to an instance. -/
def spanOwned (s : State) (inst k : Nat) : Bool :=
  match Tab.find s.spans k with | some sp => sp.inst = inst | none => false

/-- A command reads a record: where both copies are lost it has no effect, completes with DESCRIPTOR_CRC and logs it; else a failing
copy is rewritten (R202). -/
def spanCmd (s : State) (inst k : Nat) (eff : State → State) : State :=
  if spanLost s k then putStat (logCorrupt s 0x07 1 k) inst 0x0A8 false Status.descriptorCrc else eff (spanRepair s k)

/-- The same of a key record. -/
def keyCmd (s : State) (inst k : Nat) (eff : State → State) : State :=
  if keyLost s k then putStat (logCorrupt s 0x08 2 k) inst 0x0DC false Status.descriptorCrc else eff (keyRepair s k)

/-- SP_CMD DESTROY (R218, R224). -/
def execSpDestroy (inst : Nat) (w : RegWr) (s : State) : Result :=
  let k := fld (getPage s inst 0x080) 19 0
  let discard := bitN w.data.toNat 8
  let plotOk := match Tab.find s.spans k with | some sp => sp.kind ≠ .plot || w.src = .tender | none => true
  let free := match Tab.find s.spans k with | some sp => sp.moving = none && (!sp.resHbm || discard) | none => true
  onCmd w 2 s (pageCmd s inst 0x0A4 0x0A8 w
    [(noRsv w 0xFFFFFEF0, Status.badField), (k < spanMax s, Status.badField),
     (spanOwned s inst k && plotOk, Status.notPermitted), (free, Status.busy)]
    (fun s => spanCmd s inst k fun s => destroySpan s k))

/-- SP_CMD QUERY (R224): the RO fields of SP_ATTR, and SP_QSTATE. -/
def execSpQuery (inst : Nat) (w : RegWr) (s : State) : Result :=
  let k := fld (getPage s inst 0x080) 19 0
  onCmd w 3 s (pageCmd s inst 0x0A4 0x0A8 w
    [(noRsv w 0xFFFFFFF0, Status.badField), (k < spanMax s, Status.badField),
     (spanOwned s inst k || (!Tab.has s.spans k && owns s.own.span k inst), Status.notPermitted)]
    (fun s => spanCmd s inst k fun s =>
      let low := fld (getPage s inst 0x09C) 3 0
      match Tab.find s.spans k with
      | none => putPage (putPage s inst 0x09C low) inst 0x0A0 0
      | some sp =>
        putPage (putPage s inst 0x09C (low + 16 * bit sp.resHbm + 32 * bit sp.readMostly + 64 * sp.prefer))
          inst 0x0A0 (spanState sp)))

/-! ### Key commands (R209, R210, R217, R224) -/

/-- The checks of R224 on a key CREATE. -/
def ktChecks (s : State) (inst : Nat) (w : RegWr) : List (Bool × Byte) :=
  let base := page64 s inst 0x0C4
  let len := page64 s inst 0x0CC
  let attr := getPage s inst 0x0D4
  let rights := fld attr 12 8
  let space := fld attr 1 0
  let basin := space = 2
  [(noRsv w 0xFFFFFFF0, Status.badField), (!basin || instHas s inst 5, Status.featureNotNegotiated),
   (1 ≤ len && len ≤ 2 ^ 48 && base + len ≤ 2 ^ 64 && (space = 1 || space = 2) && rights ≠ 0
      && (!basin || (rights < 8 && base < 2 ^ 56 && plotOff base + len ≤ 2 ^ 48)), Status.badField),
   (!basin || (allocOver s inst base len).isSome, Status.notPermitted), ((nextKey s inst).isSome, Status.noResource)]

/-- KT_CMD CREATE (R210, R224). -/
def execKtCreate (inst : Nat) (w : RegWr) (s : State) : Result :=
  let base := page64 s inst 0x0C4
  let len := page64 s inst 0x0CC
  let attr := getPage s inst 0x0D4
  let basin := fld attr 1 0 = 2
  let handle := (allocOver s inst base len).getD 0
  let k := (nextKey s inst).getD 0
  onCmd w 1 s (pageCmd s inst 0x0D8 0x0DC w (ktChecks s inst w)
    (fun s =>
      let gen := match Tab.find s.keys k with | some x => x.gen | none => 0
      let key : Key := { inst := inst, base := base, len := len, rights := fld attr 12 8, gen := gen, basin := basin, st := 1,
                         handle := if basin then handle else 0, freedAt := 0, bad1 := false, bad2 := false }
      let s := { s with keys := Tab.put s.keys k key, own.key := takeBlock s.own.key k inst,
                        insts := Tab.modify s.insts inst (fun i => { i with freeKeys := i.freeKeys.erase k }) }
      putPage s inst 0x0C0 (k * 256 + gen)))

/-- The checks of R224 on a selected key. -/
def keySel (s : State) (inst : Nat) (w : RegWr) (query : Bool) : List (Bool × Byte) :=
  let v := getPage s inst 0x0C0
  let k := v / 256
  let rec_ := Tab.find s.keys k
  [(noRsv w 0xFFFFFFF0, Status.badField),
   (k ≠ 0 && k < keyMax s && (match rec_ with | some x => decide (x.gen = v % 256) | none => decide (v % 256 = 0)), Status.badField),
   ((match rec_ with
      | some x => (x.inst = inst && decide (x.st ≠ 0)) || (query && x.st = 0 && owns s.own.key k inst)
      | none => query && owns s.own.key k inst), Status.notPermitted)]

/-- KT_CMD INVALIDATE (R217, R219). -/
def execKtInvalidate (inst : Nat) (w : RegWr) (s : State) : Result :=
  let k := getPage s inst 0x0C0 / 256
  let valid : Bool := match Tab.find s.keys k with | some x => x.st = 1 | none => false
  onCmd w 2 s (pageCmd s inst 0x0D8 0x0DC w (keySel s inst w false ++ [(valid, Status.busy)])
    (fun s => keyCmd s inst k fun s =>
      let s := { s with keys := Tab.modify s.keys k (fun x => { x with gen := (x.gen + 1) % 256, st := 2 }) }
      putStat s inst 0x0DC true Status.ok))

/-- KT_CMD QUERY (R224): KT_ATTR.STATE. -/
def execKtQuery (inst : Nat) (w : RegWr) (s : State) : Result :=
  let k := getPage s inst 0x0C0 / 256
  onCmd w 3 s (pageCmd s inst 0x0D8 0x0DC w (keySel s inst w true)
    (fun s => keyCmd s inst k fun s =>
      let st := match Tab.find s.keys k with | some x => x.st | none => 0
      putPage s inst 0x0D4 (fld (getPage s inst 0x0D4) 15 0 + st * 2 ^ 16)))

/-- An access admitted under a key of an index has not completed (R217): entries, arriving requests, launches, Culvert
transfers, placement records to be written. -/
def keyUsed (s : State) (k : Nat) : Bool :=
  s.infl.any (fun p => p.2.done = none && p.2.keys.any (fun x => x / 256 = k))
  || s.qps.any (fun p => match p.2.cur with | some c => p.2.kind = .rc && c.rkey / 256 = k | none => false)
  || s.fw.launches.any (fun p => p.2.binds.any (fun b => b.key / 256 = k))
  || s.cv.xfers.any (fun x => x.keys.any (fun y => y / 256 = k)) || s.mgr.held.any (fun h => h.resultKey / 256 = k)

/-- KEY_FREE (R217): the last access admitted under the old generation has completed. -/
def execKeyFree (k : Nat) (s : State) : Result :=
  match Tab.find s.keys k with
  | none => .next s
  | some x =>
    if x.st ≠ 2 ∨ keyUsed s k then .next s
    else
      let s := { s with keys := Tab.put s.keys k { x with st := 0, freedAt := s.pieceClock }, pieceClock := s.pieceClock + 1,
                        insts := Tab.modify s.insts x.inst (fun i => { i with freeKeys := i.freeKeys ++ [k] }) }
      .next (putStat s x.inst 0x0DC false Status.ok)

end Sys2Proof.Machine
end

