-- ==== Sys2Proof/Machine/Sluice.lean ====
section
/-!
DEFINITION. The Sluice transport's sender: queue-pair configuration, packets and their encryption, requests, transmission,
completion, errors and resume (spec file 10, R226 to R249; spec file 12, R277 to R284).
-/
namespace Sys2Proof.Machine

/-! ### Configuration of a queue pair (SL_QP registers) -/

/-- ALT_EN. -/
def qAlt (p : Qp) : Bool := bitN p.cfg 18
/-- RETRY_TIME in ns; 2 s on BASIN and MIRROR queue pairs (R240). -/
def qRetryNs (p : Qp) : Nat := if p.kind = .rc then fld p.retry 31 16 * 1000000 else 2000000000
/-- RTO_MIN in ns. -/
def qRtoMin (p : Qp) : Nat := fld p.rto 9 0 * 1000
/-- RTO_MAX in ns. -/
def qRtoMax (p : Qp) : Nat := fld p.rto 31 16 * 1000000

/-- A queue pair's record, if one is listed. -/
def qpOf (s : State) (n : Nat) : Option Qp := Tab.find s.qps n

/-- Replaces a queue pair. -/
def putQp (s : State) (n : Nat) (p : Qp) : State := { s with qps := Tab.put s.qps n p }

/-- The PSNs a request of `len` bytes uses (R236). -/
def psnCount (seg len : Nat) : Nat := max 1 ((len + seg - 1) / seg)

/-- A link's rate in Mb/s (R76). -/
def linkRate (s : State) (l : Nat) : Nat :=
  if brkOf s (l / 4) = 0 then 1600000 else if brkOf s (l / 4) = 1 then 800000 else 400000

/-- Adds to a counter of the link statistics bank (R250). -/
def linkStat (s : State) (l k d : Nat) : State :=
  { s with linkStats := Tab.put s.linkStats (l * 16 + k) ((Tab.getD s.linkStats (l * 16 + k) 0 + d) % 2 ^ 64) }

/-- Adds to a telemetry counter of a link block (R259). -/
def weirStat (s : State) (l k : Nat) : State :=
  { s with wr.counters := Tab.put s.wr.counters (l * 16 + k) ((Tab.getD s.wr.counters (l * 16 + k) 0 + 1) % 2 ^ 64) }

/-- Changes it. -/
def accUp (s : State) (l : Nat) (f : MapAcc → MapAcc) : State := { s with wr.acc := Tab.put s.wr.acc l (f (accOf s l)) }

/-- ACTIVE_QPS of a link (R259): queue pairs on it with an unacknowledged packet. -/
def activeQps (s : State) (l : Nat) : Nat := (s.qps.filter (fun p => curLink p.2 = l && decide (p.2.sndUna ≠ p.2.sndNxt))).length

/-- A frame is handed to the MAC: the largest queue depth since it was read, and the map report (R259, R264). -/
def noteTx (s : State) (l frame payload : Nat) : State :=
  let s := { s with wr.qmax := Tab.put s.wr.qmax l (max (Tab.getD s.wr.qmax l 0) (Tab.getD s.wr.qdepth l 0 + frame)) }
  accUp s l (fun a => { a with tx := a.tx + payload, qmax := max a.qmax frame, active := max a.active (activeQps s l) })

/-! ### The receiver's credit hint (R253) -/

/-- The placement path of a queue pair's data at an address: 0 HBM, 1 the partner link. -/
def pathOf (s : State) (p : Qp) (a : Nat) : Nat :=
  if p.kind ≠ .rc then (if plotOf a ≤ 64 then 0 else 1)
  else match spanAt s p.inst a with
    | some (_, sp) => bit ((sp.kind = .ats || sp.kind = .phys) && !sp.resHbm)
    | none => 1

/-- Bytes admitted on a path and not yet visible: the payloads of the arrived packets that wait. -/
def backlog (s : State) (path : Nat) : Nat :=
  (s.rxHeld.map (fun x =>
    match Tab.find s.qps (getBE x.2.hdr 4 3) with
    | some p => if pathOf s p (match p.cur with | some c => c.raddr | none => 0) = path then x.2.payload.length else 0
    | none => 0)).sum

/-- The placements of the last 10 µs on a path: time, path and queue pair, bytes. -/
def recent (s : State) (path : Nat) : List (Nat × Nat × Nat) :=
  s.wr.placed.filter (fun x => s.sys.now ≤ x.1 + 10000 && x.2.1 / 2 ^ 20 = path)

/-- The CREDIT a path asks for now, from the last one sent. -/
def pathCredit (s : State) (path last : Nat) : Nat :=
  let thresh := fld (getReg s 0x03 0x180) 15 0 * 65536
  if thresh < backlog s path then
    let ps := recent s path
    let qs := (ps.map (fun x => x.2.1)).eraseDups.length
    max 1 (min 255 ((ps.map (fun x => x.2.2)).sum * 8 / (62500 * max 1 qs)))
  else if backlog s path < thresh / 2 then 0 else last

/-- CREDIT of an acknowledgement (R253): the smaller nonzero hint of the two paths. -/
def creditHint (s : State) (p : Qp) : Nat :=
  if !bitN (getReg s 0x03 0x180) 31 then 0
  else
    let a := pathCredit s 0 p.rate.creditTx
    let b := pathCredit s 1 p.rate.creditTx
    if a = 0 then b else if b = 0 then a else min a b

/-- Records a placement, and forgets those older than 10 µs. -/
def notePlaced (s : State) (n path bytes : Nat) : State :=
  { s with wr.placed := (s.sys.now, path * 2 ^ 20 + n, bytes) :: s.wr.placed.filter (fun x => decide (s.sys.now ≤ x.1 + 10000)) }

/-! ### The rate law's state (R255, R256, R258) -/

/-- A profile's registers. -/
def profile (s : State) (tc : Nat) : Nat × Nat × Nat × Nat :=
  let o := 0x100 + 16 * tc
  (getReg s 0x03 o, getReg s 0x03 (o + 4), getReg s 0x03 (o + 8), getReg s 0x03 (o + 12))

/-- The rate state at CONNECT, after a resume or a link move (R255). -/
def rateInit (s : State) (p : Qp) : Rate :=
  let pr := profile s (qTc p)
  { r := fld pr.2.2.1 31 27 * linkRate s (curLink p) / 16, clean := 0, tokens := burstOf pr, tokAt := s.sys.now, acks := 0,
    eces := 0, loss := false, qmin := none, creditTx := p.rate.creditTx, creditRx := p.rate.creditRx, creditCap := 0, samples := [], lastEcho := none, startAt := none,
    idleAt := s.sys.now, lastS := 0, lastQm := 0, cuts := p.rate.cuts, snap := p.rate.snap, prof := pr }

/-! ### Packets (R226 to R230) -/

/-- The Sluice header (R229). -/
def hdrBytes (op flags epoch dqpn credit psn sqpn aux : Nat) (ext : Bytes) : Bytes :=
  let h := putBE 1 (0x60 + ext.length / 8) ++ putBE 1 op ++ putBE 1 flags ++ putBE 1 epoch ++ putBE 3 dqpn ++ putBE 1 credit
    ++ putBE 3 psn ++ [0] ++ putBE 3 sqpn ++ [0] ++ putBE 4 aux
  h ++ putBE 4 (crcN (h ++ ext))

/-- A packet that consumes no PSN (R230). -/
def isCtl (op : Nat) : Bool := op = 0x10 || op = 0x12 || op = 0x13 || op = 0x14

/-- The protected range of an extension (R277): from, to. -/
def protRange (op : Nat) (ext : Bytes) : Nat :=
  if (op = 7 ∨ op = 8 ∨ op = 0x15) ∧ ext.length = 32 then 16 else if op = 9 ∧ ext.length = 8 then 0 else ext.length

/-- The AAD of a packet (R277): the header with its unprotected fields masked, and the unprotected extension bytes. -/
def aadOf (op : Nat) (hdr ext : Bytes) : Bytes :=
  let fl := getBE hdr 2 1
  let imm := (op = 2 ∨ op = 6) ∧ bitN fl 6
  let h := patch (patch (hdr.take 20) 2 (putBE 1 (fl - fl % 64 + (fl % 32 - fl % 16) + fl % 8 / 4 * 4 + fl % 2))) 7 [0]
  let h := if isCtl op ∨ imm then h else patch h 16 (zeros 4)
  h ++ ext.take (protRange op ext)

/-- A phase's key and salt (R279). -/
def phaseKey (secret : Bytes) (role n : Nat) : Bytes × Bytes :=
  let o := Config.hkdf secret (("HV6 PHASE".toList.map (fun c => BitVec.ofNat 8 c.toNat)) ++ putBE 1 role ++ putBE 4 n) 36
  (fit 32 o, fit 4 (o.drop 32))

/-- The IV of a packet (R278). -/
def ivOf (salt : Bytes) (op roc epoch psn aux : Nat) : Bytes :=
  if isCtl op then salt ++ putBE 4 0x80000000 ++ putBE 4 aux
  else salt ++ putBE 4 (roc % 2 ^ 31) ++ putBE 1 epoch ++ putBE 3 psn

/-- Before a packet leaves an encrypted queue pair, its phase advances if that is due (R280, R284). -/
def phaseStep (now : Nat) (c : Cipher) : Cipher :=
  let due := c.epochDue || (c.txStart ≠ 0 && 4000000000 ≤ now - c.txStart)
  if due then
    let toP := c.committed && !c.txOnP
    { c with txPhase := (c.txPhase + 1) % 2 ^ 32, txStart := now, epochDue := false, txOnP := c.txOnP || toP,
             txPPhase := if toP then (c.txPhase + 1) % 2 ^ 32 else c.txPPhase }
  else if c.txStart = 0 then { c with txStart := now } else c

/-- Once both directions have left S, P becomes S (R284). -/
def secretStep (c : Cipher) : Cipher :=
  match c.pending with
  | some pnd => if c.txOnP ∧ c.rxOnP ∧ c.rxPPhase < c.rxPhase then
      { c with secret := pnd, pending := none, committed := false, txOnP := false, rxOnP := false, txPPhase := 0, rxPPhase := 0 }
    else c
  | none => c

/-- The IPv6 and UDP headers of a routed frame with a datagram `b` (R226, R227). -/
def ipHeader (s : State) (l tc n dst : Nat) (ect : Bool) (b : Bytes) : Bytes :=
  let src := putBE 16 (Config.linkIp (linkMac s l))
  let port := lim s Image.udpPort
  let udp (c : Nat) : Bytes := putBE 2 (0xC000 + n % 0x4000) ++ putBE 2 port ++ putBE 2 (8 + b.length) ++ putBE 2 c
  let sum := udpSum (src ++ putBE 16 dst ++ putBE 4 (8 + b.length) ++ zeros 3 ++ [17] ++ udp 0 ++ b)
  putBE 4 (6 * 2 ^ 28 + (32 * tc + bit ect * 2) * 2 ^ 20 + n % 2 ^ 20) ++ putBE 2 (8 + b.length) ++ [17, 64] ++ src ++ putBE 16 dst
    ++ udp sum

/-- A frame as it leaves a link (R226, R326): routed mode, or fabric mode of an EtherType, toward a peer, with its 802.1Q tag where
there is one. -/
def txFrame (s : State) (eth l : Nat) (routed : Bool) (vid : Option Nat) (tc n dst : Nat) (ect : Bool) (hdr ext payload tag : Bytes) :
    TxFrame :=
  let da := if routed then Config.nextHop (linkMac s l) dst else dst
  let q := match vid with | some v => putBE 2 0x8100 ++ putBE 2 (tc * 2 ^ 13 + v) | none => []
  let l2 := putBE 6 da ++ putBE 6 (linkMac s l) ++ q ++ putBE 2 (if routed then 0x86DD else eth)
  let b := hdr ++ ext ++ payload ++ tag
  let l3 := if routed then ipHeader s l tc n dst ect b else []
  { link := l, l2 := l2, l3 := l3, hdr := hdr, ext := ext, payload := payload, tag := tag, fcs := fcs32 (l2 ++ l3 ++ b) }

/-- Puts one Sluice packet of a queue pair on its link, sealed where ENC = 1. -/
def emitPkt (s : State) (n : Nat) (op flags pn roc aux : Nat) (credit : Nat) (ext payload : Bytes) : State :=
  match qpOf s n with
  | none => s
  | some p =>
    let l := curLink p
    let enc := qEnc p
    let flags := flags + (if enc then 16 else 0)
    let c := if enc then secretStep (phaseStep s.sys.now p.cipher) else p.cipher
    let h0 := hdrBytes op flags p.epoch p.dqpn credit pn n aux ext
    let (ext, payload, tag) :=
      if enc then
        let sec := if c.txOnP then c.pending.getD c.secret else c.secret
        let (key, salt) := phaseKey sec c.role c.txPhase
        let iv := ivOf salt op roc p.epoch pn aux
        let cut := protRange op ext
        let ct := Config.gcmSeal key iv (aadOf op h0 ext) (ext.drop cut ++ payload)
        (ext.take cut ++ fit (ext.length - cut) ct, fit payload.length (ct.drop (ext.length - cut)),
         fit 16 (Config.gcmTag key iv (aadOf op h0 ext) ct))
      else (ext, payload, [])
    let hdr := hdrBytes op flags p.epoch p.dqpn credit pn n aux ext
    let fr := txFrame s 0x88B5 l (qRouted p) (if qVlan p then some p.vid else none) (qTc p) n p.peer (!isCtl op) hdr ext payload tag
    let s := putQp s n { p with cipher := c }
    let s := putLink s l { link s l with busyAt := s.sys.now }
    let s := noteTx s l (60 + ext.length + payload.length + tag.length) payload.length
    linkStat (linkStat (emit s (.frame fr)) l 0 1) l 1 payload.length

/-- Work arrives for a link: within 3 µs of an ENTERING link's reference the end cancels (R89, R92). -/
def workArrives (s : State) (l : Nat) : State :=
  let x := link s l
  if x.dorm = .entering ∧ x.ackFixed ∧ s.sys.now ≤ x.reference + 3000 then
    wakeUp (sendFrame s l { ownFrame s 5 with token := x.token }) l
  else s

/-! ### Control packets -/

/-- A PSN after an acknowledged one is placed: it precedes EPSN, or the current request shows it (R239). -/
def placedAt (p : Qp) (x : Nat) : Bool :=
  (let d := d24 p.epsn x; decide (1 ≤ d) && decide (d < 2 ^ 23))
  || (match p.cur with | some c => c.placed.any (fun k => psn c.first k = x) | none => false)

/-- The SACK bitmap of an acknowledgement that names a PSN (R230, R239): bit k stands for the PSN 1 + k after it. -/
def sackOf (p : Qp) (e : Nat) : Nat := ((List.range 64).map (fun k => bit (placedAt p (psn e (1 + k))) * 2 ^ k)).sum

/-- The acknowledgement extension (R230, R251). -/
def ackExt (s : State) (p : Qp) (kind : Nat) (st : Byte) (e : Nat) : Bytes :=
  let delta := match p.echoAt with | some t => min 0xFFFE ((s.sys.now - t) / 10) | none => 0xFFFF
  putBE 1 kind ++ [st] ++ putBE 2 delta ++ putBE 4 p.echoTs ++ putBE 8 (sackOf p e)

/-- The resync extension (R230). -/
def resyncExt (s : State) (p : Qp) (st : Byte) : Bytes :=
  putBE 3 (if p.kind = .basin ∧ mirrored s then p.ackEpsn else p.epsn) ++ [st] ++ putBE 3 p.sndUna ++ [0] ++ putBE 4 s.basin.slot
    ++ zeros 4

/-- The PSN in a control packet's header: the EPSN of the last acknowledgement point for an acknowledgement, as it stands when the
packet leaves; a NAK_STATUS names the PSN after the request it answers (R230, R241). -/
def ctlPsn (p : Qp) (c : Ctl) : Nat := if c.op = 0x10 ∧ c.kind ≠ 4 then p.ackEpsn else c.psn

/-- Sends a control packet at an instant of its own on the queue pair (R278), or queues it while the link holds. -/
def sendCtl (s : State) (n : Nat) (c : Ctl) : State :=
  match qpOf s n with
  | none => s
  | some p =>
    if !sendable s (curLink p) then
      (if c.op = 0x12 ∧ p.ctl.any (fun x => x.op = 0x12) then s
       else workArrives (putQp s n { p with ctl := p.ctl ++ [c] }) (curLink p))
    else
      let s := advanceTo s (p.ctlAt + 1)
      let ack := c.op = 0x10
      let ece := ack && p.ceSeen && qRouted p
      let pn := ctlPsn p c
      let ext := if ack then ackExt s p c.kind c.status pn else resyncExt s p c.status
      let credit := if ack then creditHint s p else 0
      let s := putQp s n { p with ctlAt := s.sys.now, ceSeen := if ack then false else p.ceSeen,
                                  echoAt := if ack then none else p.echoAt, rate.creditTx := if ack then credit else p.rate.creditTx,
                                  unacked := if ack then 0 else p.unacked, unackedAt := if ack then none else p.unackedAt }
      let s := if credit ≠ 0 then weirStat s (curLink p) 7 else s
      let s := if ack ∧ c.kind ≠ 0 then linkStat s (curLink p) 13 1 else s
      let s := if c.op = 0x12 then linkStat s (curLink p) 14 1 else s
      let s := if c.op = 0x14 then linkStat s (curLink p) 15 1 else s
      emitPkt s n c.op (0xC0 + (if ece then 8 else 0)) pn 0 (s.sys.now % 2 ^ 32) credit ext []

/-- The transport record is written, both copies of it (R237). -/
def recordQp (p : Qp) : Qp := { p with recEpsn := p.epsn, recRoc := p.epsnRoc, bad1 := false, bad2 := false }

/-! ### Requests (R231, R234, R236) -/

/-- Queues a request: it takes the next PSNs of the queue pair. -/
def queueReq (s : State) (n : Nat) (op len raddr rkey imm : Nat) (solicit : Bool) (operand swap : Nat) (mark : Bytes)
    (buf : Buf) (who : Waiter) : State :=
  match qpOf s n with
  | none => s
  | some p =>
    let cnt := if op = 7 ∨ op = 8 ∨ op = 0x15 then 1 else psnCount (qSeg p) len
    let r : SReq := { op := op, first := p.sndEnd, count := cnt, len := len, raddr := raddr, rkey := rkey, imm := imm,
                      solicit := solicit, operand := operand, swap := swap, mark := mark, buf := buf, who := who,
                      got := [], sent := 0, result := none }
    workArrives (putQp s n { p with reqs := p.reqs ++ [r], sndEnd := psn p.sndEnd cnt }) (curLink p)

/-! ### Acknowledgement points (R237, R239, R246) -/

/-- The MIRROR queue pair of a mirrored plot: not FREE, not in ERROR (R20, R246). -/
def mirrorQp (s : State) : Option Nat :=
  (s.qps.find? (fun p => p.2.kind = .mirror && (p.2.st = .init || p.2.st = .connected || p.2.st = .resyncing))).map (·.1)

/-- A MARK's body (R230, R246): the queue pair's identity and EPSN; after an atomic its prior and new values. -/
def markBytes (p : Qp) : Bytes := putBE 1 p.member ++ putBE 1 p.epoch ++ putBE 3 p.dqpn ++ putBE 3 p.epsn ++ zeros 24

/-- An acknowledgement that the mirror of a mirrored plot must hold first (R20, R246). -/
def needsMark (s : State) (p : Qp) (c : Ctl) : Bool :=
  p.kind = .basin && mirrored s && c.op = 0x10 && (let d := d24 c.psn p.ackEpsn; decide (1 ≤ d) && decide (d < 2 ^ 23))

/-- Asks the mirror to hold an acknowledgement point; the acknowledgement waits while there is no MIRROR queue pair (R246). -/
def ackVia (s : State) (n : Nat) (c : Ctl) : State :=
  match qpOf s n with
  | none => s
  | some p =>
    match mirrorQp s with
    | none => putQp s n { p with ctl := p.ctl ++ [c] }
    | some m => queueReq (putQp s n { p with mirAck := p.mirAck + 1 }) m 0x15 0 0 0 0 false 0 0 (markBytes p) .none (.mirrorAck n c.psn c.kind c.status)

/-- An acknowledgement point and its acknowledgement of a KIND (R237, R239): at once, or once the mirror of a mirrored plot has
acknowledged the MARK (R246). -/
def sendAck (s : State) (n : Nat) (kind : Nat) (st : Byte) : State :=
  match qpOf s n with
  | none => s
  | some p =>
    let c : Ctl := { op := 0x10, kind := kind, status := st, psn := p.epsn }
    if needsMark s p c then ackVia (putQp s n { recordQp p with unacked := 0, unackedAt := none }) n c
    else sendCtl (putQp s n { recordQp p with ackEpsn := p.epsn }) n c

/-- The EPSN an end shows in a resync (R242): for a mirrored plot the one its mirror holds (R246). -/
def shownEpsn (s : State) (p : Qp) : Nat := if p.kind = .basin ∧ mirrored s then p.ackEpsn else p.epsn

/-- The bytes of the plot that one copy request of a new mirror carries (assumption 106). -/
def copyChunk : Nat := 65536

/-- The mirror's answer to a part of the plot's copy (R51): the next part begins, or the manager learns that the copy is complete; a
part that failed is sent again. -/
def copyDone (s : State) (n : Nat) (st : Byte) : State :=
  if !s.basin.copying then s
  else if st ≠ Status.ok then { s with basin.copyAt := some n }
  else if n + copyChunk < s.boot.plotGranules * gran64 then { s with basin.copyAt := some (n + copyChunk) }
  else emit { s with basin.copyAt := none } (.spareCopied s.basin.plot)

/-- The mirror has answered a MARK (R246): the acknowledgement goes to the originator; where the MARK failed it waits for another. -/
def mirrorAnswer (s : State) (n e kind : Nat) (status st : Byte) : State :=
  match qpOf s n with
  | none => s
  | some p =>
    let q := { p with mirAck := p.mirAck - 1 }
    let c : Ctl := { op := 0x10, kind := kind, status := status, psn := e }
    if st ≠ Status.ok then putQp s n { q with ctl := q.ctl ++ [c] }
    else sendCtl (putQp s n { q with ackEpsn := if d24 e q.ackEpsn < 2 ^ 23 then e else q.ackEpsn }) n c

/-- Gives a waiter its request's outcome: the status, whether the peer reported it, the bytes moved. A store whose copy at the mirror
failed is forwarded again (R20). -/
def tellWaiter (s : State) (who : Waiter) (st : Byte) (remote : Bool) (bytes : Nat) (data : Bytes) : State :=
  match who with
  | .entry q i => finish s q i { status := st, cflags := 2 * bit remote, detail := 0, bytes := bytes, aux := 0 }
  | .basinX id => { s with bx := s.bx.map (fun x =>
      if x.id ≠ id then x
      else if plotSlot s x.addr = s.basin.slot ∧ st ≠ Status.ok then { x with sent := false }
      else { x with result := some (st, data), remote := remote }) }
  | .mirrorAck n e kind status => mirrorAnswer s n e kind status st
  | .culvert k sl => { s with cv := { s.cv with xfers := s.cv.xfers.map (fun x =>
      if x.pool = k ∧ x.slot = sl then { x with result := some (st, data) } else x) } }
  | .hdm => emit s (.hdmDone false)
  | .copy n => copyDone s n st
  | .nobody => s

/-- SND_UNA has passed a request's LAST PSN. -/
def reqAcked (p : Qp) (r : SReq) : Bool := r.count ≤ d24 p.sndUna r.first && d24 p.sndUna r.first < 2 ^ 23

/-- A request is complete at its sender (R239). -/
def reqDone (p : Qp) (r : SReq) : Bool :=
  if r.op = 3 then r.got.length = r.count
  else if r.op = 7 ∨ r.op = 8 then r.result.isSome
  else reqAcked p r

/-- The data a completed READ for a Basin piece collected. -/
def readData (r : SReq) : Bytes := match r.buf with | .bytes b => b | _ => []

/-- Completes every request whose condition holds (R197, R239); one whose data came before its acknowledgement stays
listed for nobody. -/
def completeReqs (s : State) (n : Nat) : State :=
  match qpOf s n with
  | none => s
  | some p =>
    let rest := (p.reqs.filter (fun r => !(reqDone p r && reqAcked p r))).map
      (fun r => if reqDone p r then { r with who := .nobody } else r)
    (p.reqs.filter (reqDone p)).foldl (fun s r =>
        tellWaiter s r.who Status.ok false (if r.op = 3 then r.operand + r.len else r.len) (readData r))
      (putQp s n { p with reqs := rest })

/-- The place of a request in its queue pair's order of acceptance: a READ asked for again keeps its entry's (R192, R240). -/
def reqSeq (s : State) (r : SReq) : Nat :=
  match r.who with
  | .entry q i => (match inflOf s q i with | some x => x.seq | none => 0)
  | _ => 0

/-- The oldest of some requests. -/
def oldestReq (s : State) : List SReq → Option SReq
  | [] => none
  | r :: rs => some (rs.foldl (fun m x => if reqSeq s x < reqSeq s m then x else m) r)

/-- The accepted entries of a queue pair's queues end with FLUSHED (R240); where no request was dispatched, the oldest accepted
send-queue entry carries the cause. -/
def flushQueues (s : State) (n : Nat) (cause : Option (Byte × Bool)) : State :=
  s.wqs.foldl (fun s w =>
    if w.2.qp = n ∧ w.2.kind ≠ .lq then
      let s := match cause, w.2.kind, (owed s w.1).foldl (fun (m : Option (Nat × Infl)) p =>
          if p.2.done.isSome then m else match m with | some (_, x) => if p.2.seq < x.seq then some p else m | none => some p) none with
        | some (st, remote), .sq, some (k, _) => finishR s w.1 (k % 2 ^ 32) st remote
        | _, _, _ => s
      (owed s w.1).foldl (fun s r => finishSt s w.1 (r.1 % 2 ^ 32) Status.flushed) s
    else s) s

/-- A queue pair enters ERROR (R240): its oldest incomplete request completes with the cause, every later accepted one with FLUSHED; a
stream that lost its other end completes every outstanding request with EPOCH_MISMATCH or REMOTE_ABORT (R41, R42; assumption 105). A
bound group learns of it (R331). -/
def qpError (s : State) (n : Nat) (st : Byte) (remote : Bool) : State :=
  match qpOf s n with
  | none => s
  | some p =>
    if p.st = .error ∨ p.st = .free then s
    else
      let todo := p.reqs.filter (fun r => !reqDone p r)
      let all : Bool := st = Status.epochMismatch || st = Status.remoteAbort
      let first := oldestReq s todo
      let s := putQp s n { p with st := .error, errStatus := st, reqs := [], retx := [], rsps := [], cur := none }
      let s := todo.foldl (fun s r =>
        let c : Bool := all || some r = first
        tellWaiter s r.who (if c then st else Status.flushed) (c && remote) 0 []) s
      let s := flushQueues s n (if todo = [] then some (st, remote) else none)
      match p.group with
      | none => s
      | some g => { s with groups := Tab.modify s.groups g (fun x =>
          { x with inbox := x.inbox ++ [{ rank := p.member, kind := 4, slot := 0, arg := st.toNat, sig := 0, data := [] }] }) }

/-! ### Resume (R242, R243, R255) -/

/-- A resume event: the end becomes the initiator and sends RESYNC. -/
def startResync (s : State) (n : Nat) : State :=
  match qpOf s n with
  | none => s
  | some p =>
    let s := putQp s n { p with st := .resyncing, resyncAt := s.sys.now, resyncFrom := s.sys.now }
    sendCtl s n { op := 0x12, kind := 0, status := 0, psn := shownEpsn s p }

/-- Takes SND_UNA from the other end's EPSN and retransmits from it (R242); the rate restarts (R255). -/
def resumeSend (s : State) (n peerEpsn : Nat) : State :=
  match qpOf s n with
  | none => s
  | some p =>
    let sent := d24 p.sndNxt peerEpsn
    let retx := if sent < 2 ^ 23 then (List.range sent).map (psn peerEpsn) else []
    let before (c : RReq) : RReq := { c with placed := c.placed.filter (fun k => decide (2 ^ 23 ≤ d24 (psn c.first k) p.epsn)) }
    let p := { p with sndUna := if sent < 2 ^ 23 then peerEpsn else p.sndUna, sack := [], retx := retx, st := .connected,
                      rtoNow := qRtoMin p, rtoAt := s.sys.now, progAt := s.sys.now, rnrUntil := none,
                      cur := p.cur.map before, nakSent := false, ctl := p.ctl.filter (fun c => decide (c.op ≠ 0x12)) }
    completeReqs (putQp s n { p with rate := rateInit s p }) n

/-- Moves a queue pair to its other link and resumes (R244). -/
def moveLink (s : State) (n : Nat) : State :=
  match qpOf s n with
  | none => s
  | some p => startResync (putQp s n { p with onAlt := !p.onAlt }) n

/-! ### A new plot map (R18, R247) -/

/-- Ends every request of a queue pair with EPOCH_MISMATCH: its plot has no owner in the new map (R41, R247). -/
def endStream (s : State) (n : Nat) (p : Qp) : State :=
  let s := putQp s n { p with st := .error, errStatus := Status.epochMismatch, reqs := [], retx := [], rsps := [], cur := none }
  (p.reqs.filter (fun r => !reqDone p r)).foldl (fun s r => tellWaiter s r.who Status.epochMismatch false 0 []) s

/-- The address of a member, as a BASIN queue pair toward it names it. -/
def memberAddr (s : State) (slot d : Nat) : Nat :=
  match s.qps.find? (fun p => p.2.kind = .basin && p.2.member = slot) with | some p => p.2.peer | none => d

/-- The BASIN queue pairs that target a plot's old owner turn to the new one and resync (R242, R247); a promoted mirror
closes its MIRROR queue pair. -/
def retarget (s : State) (old new : Nat) : State :=
  let s := if new = s.basin.slot ∧ old ≠ new then
      { s with mirBlk := (old, new) :: s.mirBlk,
               qps := Tab.map (fun _ p => if p.kind = .mirror ∧ p.member = old then { p with st := .free } else p) s.qps }
    else s
  if new = s.basin.slot then s
  else s.qps.foldl (fun s x =>
    match qpOf s x.1 with
    | none => s
    | some p =>
      if p.kind ≠ .basin ∨ p.member ≠ old ∨ p.st = .free ∨ p.st = .init ∨ p.st = .error then s
      else if new = 0 then endStream s x.1 p
      else startResync (putQp s x.1 { p with member := new, peer := memberAddr s new p.peer }) x.1) s

/-- An unused cipher record. -/
def Cipher.empty : Cipher :=
  { keyed := false, secret := [], pending := none, committed := false, role := 0, txPhase := 0, rxPhase := 0, txStart := 0,
    txOnP := false, rxOnP := false, txPPhase := 0, rxPPhase := 0, epochDue := false }

/-- A rate record at rest. -/
def Rate.empty : Rate :=
  { r := 0, clean := 0, tokens := 0, tokAt := 0, acks := 0, eces := 0, loss := false, qmin := none, creditTx := 0, creditRx := 0,
    creditCap := 0, samples := [], lastEcho := none, startAt := none, idleAt := 0, lastS := 0, lastQm := 0, cuts := 0,
    snap := (0, 0, 0, 0, 0, 0), prof := (0, 0, 0, 0) }

/-- A queue pair at CREATE: INIT, nothing sent or received. -/
def Qp.fresh (inst : Nat) (kind : QpKind) (cfg peer dqpn vid retry rto ack member last : Nat) (prst : Bool) : Qp :=
  { inst := inst, kind := kind, st := .init, cfg := cfg, peer := peer, dqpn := dqpn, vid := vid, retry := retry, rto := rto,
    ack := ack, onAlt := false, errStatus := 0, epoch := 0, lastEpoch := last, prst := prst, sndUna := 0, sndNxt := 0, sndEnd := 0,
    sndRoc := 0, reqs := [], retx := [], rtoNow := 0, rtoAt := 0, progAt := 0, rnrCount := 0, rnrUntil := none, sack := [],
    epsn := 0, epsnRoc := 0, recEpsn := 0, recRoc := 0, ackEpsn := 0, rqNext := 0, cur := none, recv := none, rsps := [], jour := [], served := false, nakSent := false, unacked := 0, unackedAt := none,
    echoTs := 0, echoAt := none, ceSeen := false, foreignAt := none, resyncAt := 0, resyncFrom := 0,
    ctl := [], ctlAt := 0, group := none, member := member, mirAck := 0, bad1 := false, bad2 := false, rate := Rate.empty, cipher := Cipher.empty }

/-! ### The queue pairs of a joined device (R231, R288) -/

/-- The slots of the devices a map names, and of its active manager. -/
def memberSlots (s : State) (m : PlotMap) : List Nat :=
  ((m.plots.flatMap (fun x => [x.2.slot, x.2.mirrorSlot]) ++ (m.ovf.filter (fun x => x.2 ≠ 0)).map (·.1) ++ [s.basin.mgrSlot]).eraseDups).filter
    (fun k => k ≠ 0 && k ≠ s.basin.slot)

/-- The number Tender gives a queue pair toward a slot: the lowest FREE one equal to the slot modulo 128, outside the instances'
grants (assumption 95). -/
def autoQpn (s : State) (slot : Nat) : Option Nat :=
  ((List.range (qpMax s / 128 + 1)).map (128 * · + slot)).find? fun n =>
    decide (n < qpMax s) && (match qpOf s n with | some p => p.st = .free | none => true)
      && (match Tab.find s.own.qp (n / 64) with | some i => i = 0 | none => true)

/-- Tender creates a BASIN or MIRROR queue pair toward a member unless there is one (R231); the active manager keys it with
BASIN_ENC, and installs the secret at the other end (R288). Its addresses and numbers are staged at CONNECT (assumption 95). -/
def autoQp (kind : QpKind) (enc : Bool) (s : State) (slot : Nat) : State :=
  if s.qps.any (fun p => p.2.kind = kind && p.2.member = slot && p.2.st ≠ .free) then s
  else match autoQpn s slot with
    | none => s
    | some n =>
      let code := if kind = .mirror then 2 else 1
      let (last, prst) := match qpOf s n with | some p => (p.lastEpoch, p.prst) | none => (0, false)
      let p := Qp.fresh 0 kind (code * 2 ^ 30 + bit enc * 2 ^ 29 + bit (!offered s 20) * 2 ^ 28 + 3 * 2 ^ 20) 0 0 0 (pageReset 0x128)
        (pageReset 0x12C) (pageReset 0x130) slot last prst
      let keys : Bool := enc && s.basin.role = .active
      let sec := freeBytes s 32
      let role := bit (decide (slot < s.basin.slot))
      let p := if keys then { p with cipher := { Cipher.empty with keyed := true, secret := sec, role := role } } else p
      let s := { s with own := { s.own with qp := Tab.put s.own.qp (n / 64) 0 }, qps := Tab.put s.qps n p }
      if keys then emit (freeSkip s 32) (.keyInstall slot s.basin.slot (kind = .mirror) (1 - role) sec) else s

/-- The queue pairs a map asks for: BASIN toward every other member, MIRROR toward the mirror of the own plot (R231). -/
def autoQps (s : State) (m : PlotMap) (mirror : Nat) : State :=
  if s.basin.role = .unjoined ∨ s.basin.slot = 0 then s
  else
    let s := (memberSlots s m).foldl (autoQp .basin m.enc) s
    if mirror = 0 then s else autoQp .mirror m.enc s mirror

/-- Acknowledgements that waited for a mirror go out once the plot has none (R20, R246). -/
def releaseAcks (s : State) : State :=
  if mirrored s then s
  else s.qps.foldl (fun s x => if x.2.kind = .basin ∧ x.2.mirAck ≠ 0 then
      (match qpOf s x.1 with | some p => sendAck (putQp s x.1 { p with mirAck := 0 }) x.1 0 0 | none => s) else s) s

/-- Adopts a plot map: the own plot's number and pairing, the queue pairs, then every plot whose owner moved (R17, R18, R21, R231,
R247). A primary whose plot is to be copied to a new mirror begins at offset 0 (R51). -/
def adoptMap (s : State) (m : PlotMap) : State :=
  let moved := s.basin.map.plots.filterMap (fun x =>
    let now := match Tab.find m.plots x.1 with | some e => e.slot | none => 0
    if x.2.mirrorFor ≠ 0 ∨ x.2.slot = 0 ∨ now = x.2.slot then none else some (x.2.slot, now))
  let own := if s.basin.slot = 0 then none else m.plots.find? (fun x => x.2.slot = s.basin.slot)
  let me := own.map (·.2)
  let copying : Bool := match me with | some e => e.copying && e.mirrorFor = 0 | none => false
  let mirror := match me with | some e => if (e.paired || e.copying) ∧ e.mirrorFor = 0 then e.mirrorSlot else 0 | none => 0
  let s := { s with basin.map := m, basin.holdNew := false, basin.plot := (own.map (·.1)).getD s.basin.plot, basin.copying := copying,
                    basin.copyAt := if copying then (if s.basin.copying then s.basin.copyAt else some 0) else none,
                    basin.paired := (match me with | some e => e.paired && e.mirrorFor = 0 | none => false),
                    basin.mirrorOf := (match me with | some e => e.mirrorFor | none => 0) }
  moved.foldl (fun s x => retarget s x.1 x.2) (releaseAcks (autoQps s m mirror))

/-! ### Transmission (R234, R256, R379, R380) -/

/-- Draws a payload from the instance's transmit bucket and counts it (R391). -/
def txDraw (s : State) (inst : Option Nat) (bytes : Nat) : State :=
  match inst with
  | none => s
  | some k =>
    let s := { s with insts := Tab.modify s.insts k (fun i =>
      if i.txRate = 0 then i
      else { i with txTok := txTokens s i - 8 * bytes, txAt := s.sys.now }) }
    instStat s k 2 bytes

/-- Draws a frame's tokens from the queue pair's bucket; a packet in flight starts the interval and the RTO. -/
def paceDraw (s : State) (n : Nat) (len : Nat) : State :=
  match qpOf s n with
  | none => s
  | some p =>
    let r := p.rate
    let tok := tokensNow s r - 8000 * len
    let fresh := p.sndUna = p.sndNxt
    putQp s n { p with rate := { r with tokens := tok, tokAt := s.sys.now, startAt := some (r.startAt.getD s.sys.now) },
                       rtoAt := if fresh then s.sys.now else p.rtoAt, progAt := if fresh then s.sys.now else p.progAt }

/-- Sends one packet of a request, new or again (R229, R240). -/
def sendReq (s : State) (n : Nat) (p : Qp) (r : SReq) (k : Nat) (again : Bool) : Option State :=
  let pay := reqPay p r k
  let ext := reqExt r k
  let len := frameLen p ext.length pay.length
  let who := chargeOf s p r.who
  if !paceReady s p len ∨ !txReady s who pay.length then none
  else
    let last := k + 1 = r.count || r.op = 3
    let imm := last && (r.op = 2 || r.op = 6)
    let flags := (if k = 0 then 128 else 0) + (if last then 64 else 0) + (if r.solicit ∧ last then 4 else 0)
      + (if again then 2 else 0)
    let aux := if imm then r.imm else s.sys.now % 2 ^ 32
    let pn := psn r.first k
    let roc := if pn < r.first then p.sndRoc + 1 else p.sndRoc
    let s := txDraw (paceDraw s n len) who pay.length
    let s := if again then accUp (linkStat s (curLink p) 4 1) (curLink p) (fun a => { a with retx := a.retx + 1 }) else s
    some (emitPkt s n r.op flags pn roc aux 0 ext pay)

/-- A READ_RESP packet (R230, R236). -/
def sendRsp (s : State) (n : Nat) (p : Qp) (x : RdRsp) : Option State :=
  let len := frameLen p 0 x.data.length
  let who := if p.kind = .rc then some p.inst else none
  if !paceReady s p len ∨ !txReady s who x.data.length then none
  else
    let s := txDraw (paceDraw s n len) who x.data.length
    let s := match qpOf s n with | some y => putQp s n { y with rsps := y.rsps.drop 1 } | none => s
    some (emitPkt s n 4 0xC0 x.psn p.epsnRoc (s.sys.now % 2 ^ 32) 0 [] x.data)

/-- Turns the waiting Basin pieces of local accesses toward a member into requests on its BASIN queue pair, and stores to
the own mirrored plot into requests on the MIRROR queue pair (R20, R215, R231). A queue pair in ERROR ends them with FLUSHED, one that
is RESYNCING holds them (R233). -/
def pullBasin (s : State) (n : Nat) (p : Qp) : State :=
  if p.kind = .rc ∨ !(p.st = .connected ∨ p.st = .error) then s
  else s.bx.foldl (fun s x =>
    let mine : Bool := if p.kind = .mirror then plotSlot s x.addr = s.basin.slot && plotOf x.addr ≤ 64
      else plotSlot s x.addr = p.member && !basinHeld s x.addr
    if x.sent ∨ !mine then s
    else if p.st = .error then
      (if p.kind = .mirror then s
       else { s with bx := s.bx.map (fun y => if y.id = x.id then { y with sent := true, result := some (Status.flushed, []) } else y) })
    else
      let s := queueReq s n (if x.write then 1 else 3) x.len x.addr x.handle 0 false 0 0 []
        (if x.write then .bytes x.data else .bytes (zeros x.len)) (.basinX x.id)
      { s with bx := s.bx.map (fun y => if y.id = x.id then { y with sent := true } else y) }) s

/-- Queues the next part of the own plot's copy to a new mirror, behind the writes already forwarded (R20, R51). -/
def pullCopy (s : State) (n : Nat) (p : Qp) : State :=
  match s.basin.copyAt with
  | none => s
  | some a =>
    let len := min copyChunk (s.boot.plotGranules * gran64 - a)
    let l : Loc := { space := .plot, addr := a }
    if p.kind ≠ .mirror ∨ p.st ≠ .connected ∨ !s.basin.copying ∨ (lineWait s l len false).isSome then s
    else queueReq { s with basin.copyAt := none } n 1 len (s.basin.plot * 2 ^ 48 + a) 0 0 false 0 0 [] (.bytes (getLoc s l len)) (.copy a)

/-! ### The transmission scheduler (R379) -/

/-- The queue pairs of a link whose next packet may go, each with its frame length. -/
def txReadyOn (s : State) (l : Nat) : List (Nat × Qp × Nat) :=
  s.qps.filterMap fun x => if curLink x.2 = l then (txNext s x.2).map (fun len => (x.1, x.2, len)) else none

/-- A queue pair is not ahead of a ready one of its instance in their round robin. -/
def robinOk (ready : List (Nat × Qp × Nat)) (p : Qp) : Bool := !p.served || ready.all (fun y => y.2.1.inst ≠ p.inst || y.2.1.served)

/-- What a round of the deficit round robin grants an instance: WEIGHT KiB. -/
def txQuantum (s : State) (inst : Nat) : Nat := 1024 * (match Tab.find s.insts inst with | some i => max 1 i.weight | none => 1)

/-- An instance's deficit counter on a link. -/
def txDeficit (s : State) (l inst : Nat) : Nat := match Tab.find s.insts inst with | some i => Tab.getD i.txTurn l 0 | none => 0

/-- The rounds until a packet fits its instance's deficit counter. -/
def roundsFor (s : State) (l : Nat) (y : Nat × Qp × Nat) : Nat :=
  let q := txQuantum s y.2.1.inst
  (y.2.2 - txDeficit s l y.2.1.inst + q - 1) / q

/-- The rounds until some ready packet fits. -/
def txRounds (s : State) (l : Nat) (ready : List (Nat × Qp × Nat)) : Nat :=
  match (ready.filter (fun y => robinOk ready y.2.1)).map (roundsFor s l) with
  | [] => 0
  | x :: r => r.foldl min x

/-- The scheduler lets a queue pair's packet go now (R379). -/
def txTurnOk (s : State) (p : Qp) (len : Nat) : Bool :=
  let l := curLink p
  let ready := txReadyOn s l
  robinOk ready p && decide (len ≤ txDeficit s l p.inst + txRounds s l ready * txQuantum s p.inst)

/-- Draws a packet from the scheduler: the rounds that had to pass grant every instance with a ready packet its quantum, one without
loses its deficit counter; a finished round of the instance's queue pairs begins anew. -/
def drawTx (s : State) (n : Nat) (p : Qp) (len : Nat) : State :=
  let l := curLink p
  let ready := txReadyOn s l
  let k := txRounds s l ready
  let insts := Tab.map (fun m i =>
    if ready.any (fun y => y.2.1.inst = m) then
      { i with txTurn := Tab.put i.txTurn l (txDeficit s l m + k * txQuantum s m - (if m = p.inst then len else 0)) }
    else { i with txTurn := Tab.del i.txTurn l }) s.insts
  let qps := if p.served then Tab.map (fun _ y => if curLink y = l ∧ y.inst = p.inst then { y with served := false } else y) s.qps else s.qps
  { s with insts := insts, qps := Tab.modify qps n (fun y => { y with served := true }) }

/-- A packet due from a queue pair goes when the scheduler lets it (R379). -/
def onTurn (s : State) (n : Nat) (p : Qp) (send : State → Result) : Result :=
  match txNext s p with
  | none => .next s
  | some len => if txTurnOk s p len then send (drawTx s n p len) else .next s

/-- Sends packet `k` of a request again; the PSN leaves the list of those to send again. -/
def sendAgain (s : State) (n : Nat) (rest : List Nat) (r : SReq) (k : Nat) : Result :=
  match qpOf s n with
  | none => .next s
  | some p =>
    let q := { p with retx := rest }
    match sendReq (putQp s n q) n q r k true with
    | some t => .next t
    | none => .next s

/-- Sends a READ_RESP packet that is owed, else the next new packet. -/
def sendNew (s : State) (n : Nat) : State :=
  match qpOf s n with
  | none => s
  | some p =>
    match p.rsps with
    | x :: _ => (sendRsp s n p x).getD s
    | [] =>
      match (reqAt p p.sndNxt).bind fun y => (sendReq s n p y.1 y.2 false).map fun t => (y.1, t) with
      | none => s
      | some (r, t) =>
        let step := if r.op = 3 then r.count else 1
        { t with qps := Tab.modify t.qps n (fun y =>
          { y with sndNxt := psn y.sndNxt step, sndRoc := if psn y.sndNxt step < y.sndNxt then y.sndRoc + 1 else y.sndRoc }) }

/-- PACKET_TRANSMIT (R234, R239, R240, R256, R379): control packets first, then retransmissions, READ_RESP packets, and the next
new packet inside the window, as the scheduler lets the queue pair send. -/
def execPacketTransmit (n : Nat) (s : State) : Result :=
  match qpOf s n with
  | none => .next s
  | some p0 => onBlk (engineOf s (curLink p0)) s fun s =>
    let s := pullCopy (pullBasin s n p0) n p0
    match qpOf s n with
    | none => .next s
    | some p =>
      if !sendable s (curLink p) then .next s
      else match p.ctl with
        | c :: rest =>
          let s := putQp s n { p with ctl := rest }
          .next (if needsMark s p c then ackVia s n c else sendCtl s n c)
        | [] =>
          match p.retx with
          | x :: rest =>
            if p.st ≠ .connected ∨ p.rnrUntil.isSome then .next s
            else
              (match reqAt p x with
              | none => .next (putQp s n { p with retx := rest })
              | some (r, k) =>
                if r.op = 3 ∧ k ≠ 0 then .next (putQp s n { p with retx := rest })
                else onTurn s n p fun s => sendAgain s n rest r k)
          | [] => onTurn s n p fun s => .next (sendNew s n)

/-! ### Dispatch of send-queue entries (R183, R184, R213, R233) -/

/-- The local operand of a send-queue entry (R183, R211). -/
def sqOpds (e : Bytes) (op : Nat) : List LocOpd :=
  if entLen e = 0 ∨ entInline e then []
  else [{ key := entKey e, need := if op ∈ [1, 2, 4, 5] then rRead else rWrite, addr := entAddr e, len := entLen e }]

/-- Dispatches a send-queue entry: a queue pair in ERROR flushes it, the local operand is admitted once, its payload is read,
and the request joins the queue pair. -/
def sqDispatch (q i op pktOp : Nat) (s : State) : Result :=
  match mayDispatch s q i op with
  | none => .next s
  | some (x, r) =>
    match qpOf s x.qp with
    | none => .next (finishSt s q i Status.flushed)
    | some p =>
      if p.st = .error then .next (finishSt s q i Status.flushed)
      else if p.st ≠ .connected then .next s
      else
        let e := r.ent
        let len := entLen e
        let atomic := op = 6 || op = 7
        let out := op ∈ [1, 2, 4, 5]
        if atomic ∧ 4 ≤ (p.reqs.filter (fun r => r.op = 7 || r.op = 8)).length then .next s
        else
          let go (s : State) (buf : Buf) : Result :=
            .next (queueReq (dispatched s q i) x.qp pktOp len (getLE e 32 8) (getLE e 28 4) (getLE e 40 4) (entSolicit e)
              (getLE e 40 8) (getLE e 48 8) [] buf (.entry q i))
          match admitOnce s q i x.inst r (sqOpds e op) with
          | (s, some st) => .next (finishSt s q i st)
          | (s, none) =>
            if entInline e then go s (.bytes (slice e 44 len))
            else if len = 0 then go s .none
            else if out then
              match readMemAt (admOf s q i) s x.inst (entAddr e) len with
              | .ok s b => go s (.bytes b)
              | .wait s => .next s
              | .fault s st r => .next (finishR s q i st r)
            else go s (.mem x.inst (entAddr e))

/-- WRITE (R183). -/
def execWrite (q i : Nat) (s : State) : Result := sqDispatch q i 1 1 s
/-- WRITE_IMM (R183). -/
def execWriteImm (q i : Nat) (s : State) : Result := sqDispatch q i 2 2 s
/-- READ (R183). -/
def execRead (q i : Nat) (s : State) : Result := sqDispatch q i 3 3 s
/-- SEND (R183). -/
def execSend (q i : Nat) (s : State) : Result := sqDispatch q i 4 5 s
/-- SEND_IMM (R183). -/
def execSendImm (q i : Nat) (s : State) : Result := sqDispatch q i 5 6 s
/-- ATOMIC_FADD (R183, R238). -/
def execAtomicFadd (q i : Nat) (s : State) : Result := sqDispatch q i 6 7 s
/-- ATOMIC_CSWAP (R183, R238). -/
def execAtomicCswap (q i : Nat) (s : State) : Result := sqDispatch q i 7 8 s

/-- RECV (R183, R184): the buffer is admitted and offered to arriving sends. -/
def execRecv (q i : Nat) (s : State) : Result :=
  match mayDispatch s q i 8 with
  | none => .next s
  | some (x, r) =>
    match qpOf s x.qp with
    | some p =>
      if p.st = .error then .next (finishSt s q i Status.flushed)
      else match admitOnce s q i x.inst r [{ key := entKey r.ent, need := rWrite, addr := entAddr r.ent, len := entLen r.ent }] with
        | (s, some st) => .next (finishSt s q i st)
        | (s, none) => .next (dispatched s q i)
    | none => .next (finishSt s q i Status.flushed)

/-! ### Basin loads and stores (R16, R215, R231) -/

/-- The local operand of BASIN_LOAD and BASIN_STORE (R211). -/
def basinOpds (e : Bytes) (store : Bool) : List LocOpd :=
  if entInline e then [] else [{ key := entKey e, need := if store then rRead else rWrite, addr := entAddr e, len := entLen e }]

/-- The admission of a Basin entry, made once: R16, the local operand, the Basin operand (R212, R215). -/
def basinAdmit (s : State) (q i : Nat) (x : Wq) (r : Infl) (store : Bool) : State × Option Byte :=
  let e := r.ent
  let a := getLE e 32 8
  let bkey := getLE e 28 4
  if r.adm.isSome then (s, none)
  else match mapFail s a (entLen e) with
    | some st => (s, some st)
    | none => match admitOpds s x.inst (basinOpds e store) with
      | (s, some st) => (s, some st)
      | (s, none) => match admitKey s x.inst bkey (if store then rWrite else rRead) a (entLen e) true false with
        | (s, some st) => (s, some st)
        | (s, none) =>
          let os := basinOpds e store
          (noteAdmit s q i (bkey :: os.map (·.key)) (os.flatMap (fun o => spansOver s x.inst o.addr o.len)), none)

/-- The payload of a BASIN_STORE: inline, or read from the local operand. -/
def storeData (s : State) (q i : Nat) (inst : Nat) (e : Bytes) : Acc :=
  if entInline e then .ok s (slice e 44 (entLen e)) else readMemAt (admOf s q i) s inst (entAddr e) (entLen e)

/-- A Basin entry on the own plot or overflow window: stage 3 of R215, then the copy. -/
def basinOwn (q i : Nat) (store : Bool) (s : State) (x : Wq) (e : Bytes) (a h : Nat) (ok : State → State) : Result :=
  let len := entLen e
  match homeFail s x.inst a len h with
  | some (st, r) => .next (finishR s q i st r)
  | none =>
    if store then
      match storeData s q i x.inst e with
      | .wait s => .next s
      | .fault s st r => .next (finishR s q i st r)
      | .ok s b => match basinPiece s x.inst a len h true b with
        | .ok s _ => .next (ok s)
        | .wait s => .next s
        | .fault s st r => .next (finishR s q i st r)
    else
      let l := basinLoc s .basin a
      match lineWait s l len false with
      | some s => .next s
      | none => match writeMemAt (admOf s q i) s x.inst (entAddr e) (getLoc s l len) with
        | .ok s _ => .next (ok s)
        | .wait s => .next s
        | .fault s st r => .next (finishR s q i st r)

/-- BASIN_LOAD and BASIN_STORE: held while a higher epoch is known (R18), admitted once, then served by the owner of the plot (R215)
over its BASIN queue pair, which flushes the entry in ERROR (R233). -/
def basinDispatch (q i : Nat) (store : Bool) (s : State) : Result :=
  match mayDispatch s q i (if store then 0x11 else 0x10) with
  | none => .next s
  | some (x, r) =>
    let e := r.ent
    let len := entLen e
    let a := getLE e 32 8
    if basinHeld s a then .next s
    else match basinAdmit s q i x r store with
    | (s, some st) => .next (finishSt s q i st)
    | (s, none) =>
      let h := match Tab.find s.keys (getLE e 28 4 / 256) with | some k => k.handle | none => 0
      let moved (s : State) : State := instStat s x.inst (if store then 5 else 4) len
      if plotSlot s a = s.basin.slot then
        basinOwn q i store s x e a h fun s =>
          moved (finish s q i { status := Status.ok, cflags := 0, detail := 0, bytes := len, aux := 0 })
      else match (basinQp s (plotSlot s a)).bind (fun n => (qpOf s n).map (fun p => (n, p))) with
        | none => .next (if plotSlot s a = 0 then finishSt s q i Status.translationFault else s)
        | some (n, p) =>
          let go (s : State) (buf : Buf) : Result :=
            .next (moved (queueReq (dispatched s q i) n (if store then 1 else 3) len a h 0 false 0 0 [] buf (.entry q i)))
          if p.st = .error then .next (finishSt s q i Status.flushed)
          else if p.st ≠ .connected then .next s
          else if !store then go s (.mem x.inst (entAddr e))
          else match storeData s q i x.inst e with
            | .ok s b => go s (.bytes b)
            | .wait s => .next s
            | .fault s st r => .next (finishR s q i st r)

/-- BASIN_LOAD (R215). -/
def execBasinLoad (q i : Nat) (s : State) : Result := basinDispatch q i false s
/-- BASIN_STORE (R215). -/
def execBasinStore (q i : Nat) (s : State) : Result := basinDispatch q i true s

end Sys2Proof.Machine
end

