-- ==== Sys2Proof/Machine/Basin.lean ====
section
/-!
DEFINITION. The device's place in the Basin: control records, heartbeats, leases, claims, joining and leaving, reset
notices, recovery windows (spec file 01, R17 to R41, R48).
-/
namespace Sys2Proof.Machine

/-! ### Control records (R48) -/

/-- A decoded control record. -/
structure CtlRec where
  type : Nat
  flags : Nat
  role : Nat
  slot : Nat
  serial : Nat
  epoch : Nat
  subject : Nat
  seq : Nat
  deriving DecidableEq, Repr

/-- The bytes of a control record. -/
def ctlBytes (r : CtlRec) : Bytes :=
  let b := putBE 1 r.type ++ putBE 1 r.flags ++ putBE 1 r.role ++ putBE 1 r.slot ++ putBE 8 r.serial ++ putBE 4 r.epoch
    ++ putBE 8 r.subject ++ putBE 4 r.seq
  b ++ putBE 4 (crcN b)

/-- A record whose CRC passes and whose type is defined (R27). -/
def ctlOf (b : Bytes) : Option CtlRec :=
  if b.length = 32 ∧ getBE b 28 4 = crcN (b.take 28) ∧ 1 ≤ getBE b 0 1 ∧ getBE b 0 1 ≤ 15 then
    some { type := getBE b 0 1, flags := getBE b 1 1, role := getBE b 2 1, slot := getBE b 3 1, serial := getBE b 4 8,
           epoch := getBE b 12 4, subject := getBE b 16 8, seq := getBE b 24 4 }
  else none

/-- A received record of the type a row names; a record R27 discards is counted. -/
def onCtl (s : State) (type : Nat) (m : Bytes) (k : CtlRec → State) : Result :=
  if s.sys.coldLow ∨ s.boot.stage ≠ .ready then .next s
  else match ctlOf m with
    | none => .next { s with mgr.discards := s.mgr.discards + 1 }
    | some r => if r.type = type then .next (k r) else .next s

/-- SEQ of this device's records: a worker answers with that of the HEARTBEAT it last heard (R48; assumption 96). -/
def ownSeq (s : State) : Nat := if s.basin.role = .worker then s.basin.hbSeen.getD 0 else s.mgr.hbSeq

/-- A record of this device. -/
def ownCtl (s : State) (type subject : Nat) : CtlRec :=
  { type := type, flags := 0, role := s.basin.role.code, slot := s.basin.slot, serial := s.sys.fuses.serial,
    epoch := s.basin.epoch, subject := subject, seq := ownSeq s }

/-- A SEQ is behind or equal to another, compared modulo 2^32 (R48). -/
def seqOld (new seen : Nat) : Bool :=
  let d := (new + 2 ^ 32 - seen % 2 ^ 32) % 2 ^ 32
  d = 0 || decide (2 ^ 31 ≤ d)

/-- Sends a control record to a serial (0: to every member or manager-capable device). -/
def sendBasin (s : State) (dst : Nat) (r : CtlRec) : State := emit s (.basin dst (ctlBytes r))

/-! ### Roles, parameters, windows -/

/-- Enters a role, logging ROLE_CHANGE. -/
def setRole (s : State) (r : Role) : State :=
  if s.basin.role = r then s
  else
    let d := [BitVec.ofNat 8 s.basin.role.code, BitVec.ofNat 8 r.code, 0, 0] ++ putLE 4 s.basin.epoch
    logEv { s with basin.role := r } 0x0040 Status.ok 0x0B s.basin.slot d

/-- The heartbeat period in force, in ns. -/
def periodNs (s : State) : Nat := 10000 * s.basin.period

/-- The lease L in ns (R26). -/
def leaseNs (s : State) : Nat := s.basin.miss * periodNs s

/-- TN_BASIN_HB: this device's own period and miss limit. -/
def ownPeriod (s : State) : Nat := fld (getReg s 0x0B 0x208) 15 0
/-- TN_BASIN_HB.MISS. -/
def ownMiss (s : State) : Nat := fld (getReg s 0x0B 0x208) 19 16

/-- Opens the Basin-wide recovery window (R39); a second device loss inside it voids the guarantee. -/
def openBasinWin (s : State) : State :=
  let s := if s.basin.basinWin = none then s else voidGuarantee s 1
  { s with basin.basinWin := some s.sys.now }

/-- RECOVERY_WINDOW_EXPIRY (R39): 30 s after the window opened. -/
def execRecoveryWindowExpiry (basinWide : Bool) (s : State) : Result :=
  if basinWide then
    match s.basin.basinWin with
    | none => .next s
    | some t =>
      let a := advanceTo s (t + 30000000000)
      .next { a with basin.basinWin := none }
  else
    match s.basin.ownWin with
    | none => .next s
    | some t =>
      let a := advanceTo s (t + 30000000000)
      .next { a with basin.ownWin := none }

/-! ### Directory changes (R29) -/

/-- The directory with every change sent so far. -/
def dirLatest (s : State) : Directory :=
  match s.mgr.pend.getLast? with
  | some p => p.dir
  | none => s.mgr.dir

/-- The Basin epoch once every change sent so far is committed. -/
def epochLatest (s : State) : Nat := s.basin.epoch + (s.mgr.pend.map (·.bump)).sum

/-- The key under which a committed result is kept: the requester's slot and its request ID. -/
def resultKey (slot reqId : Nat) : Nat := slot * 2 ^ 64 + reqId

/-- What follows a commit, once the epoch it commits is known. -/
def resolveAfter (e : Nat) : AfterCommit → AfterCommit
  | .replyEpoch slot reqId => .reply slot reqId (putLE 4 e ++ zeros 4)
  | x => x

/-- Changes one worker's account in the directory and in every pending one. -/
def onWorker (s : State) (serial : Nat) (f : Worker → Worker) : State :=
  let pend := s.mgr.pend.map fun p => { p with dir.workers := Tab.modify p.dir.workers serial f }
  { s with mgr.dir.workers := Tab.modify s.mgr.dir.workers serial f, mgr.pend := pend }

/-- A directory change holds its own result (R25, R36, R48): the committed reply, the excuse, the epoch of a join or a leave. -/
def noteCommit (d : Directory) (e now : Nat) : AfterCommit → Directory
  | .record 0x0F serial _ => { d with workers := Tab.modify d.workers serial fun w => { w with excuse := some now } }
  | .record 0x09 serial _ => { d with workers := Tab.modify d.workers serial fun w => { w with ackAt := some now, joinEpoch := e } }
  | .record 0x0C serial _ => { d with left := Tab.put d.left serial e }
  | .reply slot reqId data =>
    { d with results := Tab.put d.results (resultKey slot reqId) { status := Status.ok, data := data } }
  | _ => d

/-- The times of an excuse and of a JOIN_ACK are those of the commit (R25, R30). -/
def stampCommit (s : State) : AfterCommit → State
  | .record 0x0F serial _ => onWorker s serial fun w => { w with excuse := some s.sys.now }
  | .record 0x09 serial _ => onWorker s serial fun w => { w with ackAt := some s.sys.now }
  | _ => s

/-- The plot map of a directory at an epoch. -/
def mapOf (s : State) (d : Directory) (e : Nat) : PlotMap := { epoch := e, plots := d.plots, ovf := d.ovf, enc := s.policy.basinEnc }

/-- Commits a directory: the Basin epoch rises by its number of events, the map follows, and what was to follow the
commit happens. -/
def applyDir (s : State) (p : PendDir) : State :=
  let e := s.basin.epoch + p.bump
  let s := stampCommit { s with mgr.dir := p.dir, basin.epoch := e } p.after
  let s := adoptMap s (mapOf s p.dir e)
  match p.after with
  | .nothing => s
  | .record type serial subject => sendBasin s serial (ownCtl s type subject)
  | .reply slot reqId data => emit s (.mgrReply slot reqId Status.ok data)
  | .replyEpoch slot reqId => emit s (.mgrReply slot reqId Status.ok (putLE 4 e ++ zeros 4))

/-- Carries a directory change to the directory it was made on top of: later pending changes keep their own. -/
def commitDir (s : State) (dir : Directory) (bump : Nat) (after : AfterCommit) : State :=
  let e := epochLatest s + bump
  let after := resolveAfter e after
  let p : PendDir := { seq := s.mgr.repSeq + 1, dir := noteCommit dir e s.sys.now after, bump := bump, after := after, since := s.sys.now }
  let s := { s with mgr.repSeq := s.mgr.repSeq + 1 }
  if s.basin.stby then emit { s with mgr.pend := s.mgr.pend ++ [p] } (.replicate p.seq p.dir)
  else applyDir s p

/-- Commits up to `n` pending changes up to a sequence number, oldest first. -/
def commitN : Nat → Nat → State → State
  | 0, _, s => s
  | n + 1, seq, s =>
    match s.mgr.pend with
    | [] => s
    | p :: r => if p.seq ≤ seq then commitN n seq (applyDir { s with mgr.pend := r } p) else s

/-- Commits the pending changes up to a sequence number. -/
def commitUpTo (s : State) (seq : Nat) : State := commitN s.mgr.pend.length seq s

/-- A change that the standby has not acknowledged for L: no standby is present, and the manager commits alone (R29;
assumption 97). -/
def dropStandby (s : State) : State :=
  match s.mgr.pend with
  | p :: _ =>
    if s.basin.stby ∧ p.since + leaseNs s ≤ s.sys.now then
      commitUpTo { s with basin.stby := false, mgr.standby := none } s.mgr.repSeq
    else s
  | [] => s

/-- REPLICATION_ACK (R29): the standby's acknowledgement commits the change. -/
def execReplicationAck (seq serial : Nat) (s : State) : Result :=
  if s.basin.role ≠ .active then .next s
  else .next (commitUpTo { s with basin.stby := true, mgr.standby := some serial } seq)

/-- The standby keeps an excuse from the moment the directory brings it (R25). -/
def takeExcuses (old : Directory) (now : Nat) (d : Directory) : Directory :=
  { d with workers := Tab.map (fun serial w =>
      { w with excuse := w.excuse.map fun _ => ((Tab.find old.workers serial).bind (·.excuse)).getD now }) d.workers }

/-- DIRECTORY_REPLICATION (R29): the standby takes the directory and acknowledges it. -/
def execDirectoryReplication (seq : Nat) (dir : Directory) (epoch : Nat) (s : State) : Result :=
  if s.basin.role ≠ .standby then .next s
  else
    .next (emit { s with mgr.dir := takeExcuses s.mgr.dir s.sys.now dir, basin.epoch := max s.basin.epoch epoch } (.replicated seq))

/-! ### Heartbeats (R26 to R30) -/

/-- SUBJECT of a HEARTBEAT. -/
def hbSubject (s : State) : Nat :=
  s.basin.period * 2 ^ 48 + s.basin.miss * 2 ^ 40 + s.basin.nextPeriod * 2 ^ 24 + s.basin.nextMiss * 2 ^ 16

/-- An instant lies 16 ms + 3 µs back, or there was none (R30). -/
def graceSince (s : State) (t : Option Nat) : Bool := match t with | some t => decide (t + 16003000 ≤ s.sys.now) | none => true

/-- The grace of R30 before missed replies of a worker count: after its JOIN_ACK and after each change of PERIOD. -/
def graceOver (s : State) (w : Worker) : Bool := graceSince s w.ackAt && graceSince s s.mgr.periodAt

/-- A worker's reply account at the end of a period. -/
def endPeriod (s : State) (w : Worker) : Worker :=
  if w.replied then { w with replied := false, missed := 0 }
  else if w.excuse ≠ none ∨ !graceOver s w then w
  else { w with missed := w.missed + 1 }

/-- More than half of the joined workers replied in the period (R28); none of none is no majority (assumption 13). -/
def majorityReplied (d : Directory) : Bool :=
  d.workers.length < 2 * (d.workers.filter (fun w => w.2.replied)).length

/-- Sends the LOST notices still due, once per period for 1 s (R23). -/
def sendLosts (s : State) : State :=
  let due := s.mgr.lostNotices.filter (fun n => s.sys.now < n.2 + 1000000000)
  due.foldl (fun s n => sendBasin s n.1 (ownCtl s 0x0D n.1)) { s with mgr.lostNotices := due }

/-- HEARTBEAT_PERIOD (R26, R28, R23). -/
def execHeartbeatPeriod (s : State) : Result :=
  if s.basin.role ≠ .active then .next s
  else
    let s := dropStandby (if s.mgr.firstHb = none then s else advanceTo s (s.basin.lastHb + periodNs s))
    let s := if s.mgr.firstHb ≠ none ∧ majorityReplied s.mgr.dir then { s with mgr.lease := s.sys.now } else s
    let ws := if s.mgr.firstHb = none then s.mgr.dir.workers else Tab.map (fun _ w => endPeriod s w) s.mgr.dir.workers
    let carry := fun (k : Nat) (w : Worker) => match Tab.find ws k with
      | some x => { w with missed := x.missed, replied := x.replied }
      | none => w
    let pend := s.mgr.pend.map fun p => { p with dir.workers := Tab.map carry p.dir.workers }
    let s := { s with mgr.dir.workers := ws, mgr.pend := pend, mgr.hbSeq := (s.mgr.hbSeq + 1) % 2 ^ 32,
                      mgr.firstHb := some (s.mgr.firstHb.getD s.sys.now), basin.lastHb := s.sys.now }
    let s := sendBasin s 0 { ownCtl s 0x01 (hbSubject s) with flags := 2 * bit s.basin.stby }
    let s := if s.basin.stby then s else emit s (.replicate s.mgr.repSeq s.mgr.dir)
    .next (sendLosts s)

/-- Adopts the parameters a HEARTBEAT carries (R26), renegotiating dormancy where the cap fell (R86). -/
def adoptHb (s : State) (subject : Nat) : State :=
  let p := fld subject 63 48
  let m := fld subject 47 40
  let np := fld subject 39 24
  let nm := fld subject 23 16
  renegotiate { s with basin.period := p, basin.miss := m, basin.nextPeriod := np, basin.nextMiss := nm, basin.adopted := true }

/-- Answers a heartbeat with HB_REPLY, unless the worker is excused or has granted another manager's claim (R25, R31). -/
def answerHb (s : State) (serial : Nat) : State :=
  if s.basin.noticed ∧ !s.basin.answerNoticed then s
  else
    let s := { s with basin.noticed := false, basin.answerNoticed := false }
    match s.basin.grant with
    | some g => if g.1 = serial then sendBasin { s with basin.grant := none, basin.handoverTo := none } serial (ownCtl s 0x02 0)
                else s
    | none => sendBasin s serial (ownCtl s 0x02 0)

/-- Takes the Basin epoch of a heartbeat; a newer map is fetched, and new Basin loads and stores wait for it (R18). -/
def noteEpoch (s : State) (e : Nat) : State :=
  let s := { s with basin.epoch := max s.basin.epoch e }
  if s.basin.map.epoch < e then emit { s with basin.holdNew := true } .fetchMap else s

/-- The slot of a manager-capable device beside another: 65 or 66 (assumption 98). -/
def otherMgrSlot (slot : Nat) : Nat := if slot = 65 then 66 else 65

/-- A HEARTBEAT of the manager last heard whose SEQ does not rise is no new one (R48). -/
def staleHb (s : State) (r : CtlRec) : Bool :=
  s.basin.mgrSerial = some r.serial && (match s.basin.hbSeen with | some q => seqOld r.seq q | none => false)

/-- What every listener takes from a HEARTBEAT: the manager is there, and no hand-over stands unless this worker granted another. -/
def hearHb (s : State) (r : CtlRec) : State :=
  let granted : Bool := match s.basin.grant with | some g => g.1 ≠ r.serial | none => false
  { s with basin.missedHb := 0, basin.mgrMissing := false, basin.mgrSerial := some r.serial, basin.mgrSlot := r.slot,
           basin.lastHb := s.sys.now, basin.hbSeen := some r.seq,
           basin.handoverTo := if granted then s.basin.handoverTo else none,
           basin.slot := if roleCap s = 2 ∧ s.basin.slot = 0 then otherMgrSlot r.slot else s.basin.slot }

/-- HEARTBEAT (R26, R18, R27, R48, role table). -/
def execHeartbeat (m : Bytes) (s : State) : Result :=
  onCtl s 0x01 m fun r =>
    if staleHb s r then s
    else
    let heard := fun (s : State) => hearHb s r
    match s.basin.role with
    | .active => s
    | .claiming => s
    | .unjoined => if roleCap s = 2 then noteEpoch (adoptHb (setRole (heard s) .standby) r.subject) r.epoch else s
    | .standby => noteEpoch (adoptHb (heard s) r.subject) r.epoch
    | .yielding =>
      if r.serial = s.sys.fuses.serial then s
      else noteEpoch (adoptHb (setRole (heard s) .standby) r.subject) r.epoch
    | .worker => answerHb (noteEpoch (adoptHb (heard s) r.subject) r.epoch) r.serial

/-- Answers a device the directory does not list with LOST (R23). -/
def answerLost (s : State) (serial : Nat) : State := sendBasin s serial (ownCtl s 0x0D serial)

/-- HB_REPLY (R27, R23, R25): one that answers no HEARTBEAT sent yet is no reply (R48). -/
def execHbReply (m : Bytes) (s : State) : Result :=
  onCtl s 0x02 m fun r =>
    if s.basin.role ≠ .active then s
    else if Tab.has s.mgr.dir.workers r.serial then
      if r.seq ≠ s.mgr.hbSeq % 2 ^ 32 ∧ !seqOld r.seq s.mgr.hbSeq then s
      else onWorker s r.serial fun w => { w with replied := true, missed := 0, excuse := none }
    else answerLost s r.serial

/-! ### Claims (R31 to R35) -/

/-- More than half of the directory's workers granted; none is needed where there are none (R33). -/
def hasMajority (s : State) : Bool :=
  let n := s.mgr.dir.workers.length
  n = 0 || n < 2 * s.mgr.grants.length

/-- Begins a claim and sends its first CLAIM. -/
def startClaim (s : State) (planned : Bool) : State :=
  let s := renegotiate (setRole s .claiming)
  let s := { s with basin.mgrMissing := true, mgr.claimPlanned := planned, mgr.claimSince := s.sys.now, mgr.grants := [],
                    mgr.majoritySince := if s.mgr.dir.workers = [] then some s.sys.now else none }
  sendBasin s 0 { ownCtl s 0x03 0 with flags := bit planned }

/-- MANAGER_MISSING (R27): M periods without a valid HEARTBEAT. -/
def execManagerMissing (s : State) : Result :=
  match s.basin.role with
  | .worker =>
    if s.basin.mgrMissing then .next s
    else
      let t := advanceTo s (s.basin.lastHb + leaseNs s)
      .next { t with basin.mgrMissing := true, basin.missedHb := s.basin.miss }
  | .standby => .next (startClaim (advanceTo s (s.basin.lastHb + leaseNs s)) false)
  | _ => .next s

/-- UNJOINED_CLAIM_START (role table): no active manager heard for L after load or resume (R23). -/
def execUnjoinedClaimStart (s : State) : Result :=
  if s.basin.role ≠ .unjoined ∨ roleCap s ≠ 2 ∨ s.boot.stage ≠ .ready then .next s
  else .next (startClaim (advanceTo s (s.mgr.loadAt + leaseNs s)) false)

/-- CLAIM_PERIOD (R33). -/
def execClaimPeriod (s : State) : Result :=
  if s.basin.role ≠ .claiming then .next s
  else .next (sendBasin s 0 { ownCtl s 0x03 0 with flags := bit s.mgr.claimPlanned })

/-- A claim ranks above another: the higher epoch, then the lower serial (R31). -/
def ranksAbove (e1 n1 e2 n2 : Nat) : Bool := e2 < e1 || (e1 = e2 && n1 < n2)

/-- Withdraws a claim (R32). -/
def withdraw (s : State) : State :=
  setRole (sendBasin { s with mgr.grants := [], mgr.majoritySince := none } 0 (ownCtl s 0x06 0)) .standby

/-- A worker grants a claim. -/
def grantTo (s : State) (r : CtlRec) : State :=
  sendBasin { s with basin.grant := some (r.serial, r.epoch) } r.serial (ownCtl s 0x04 r.serial)

/-- CLAIM (R31, R32, R35). -/
def execClaim (m : Bytes) (s : State) : Result :=
  onCtl s 0x03 m fun r =>
    let planned := bitN r.flags 0
    match s.basin.role with
    | .worker =>
      let may := if planned then s.basin.handoverTo = some r.serial else s.basin.mgrMissing = true
      if !may then s
      else match s.basin.grant with
        | none => grantTo s r
        | some g =>
          if g.1 = r.serial then grantTo s r
          else if ranksAbove r.epoch r.serial g.2 g.1 then
            grantTo (sendBasin s g.1 (ownCtl s 0x05 g.1)) r
          else s
    | .claiming =>
      if ranksAbove r.epoch r.serial s.basin.epoch s.sys.fuses.serial then withdraw s else s
    | .active =>
      if planned ∧ s.basin.epoch ≤ r.epoch then
        let t := sendBasin s 0 (ownCtl s 0x07 r.serial)
        setRole { t with mgr.yieldSince := s.sys.now, mgr.successor := some r.serial } .yielding
      else s
    | _ => s

/-- Enters ACTIVE: the Basin epoch rises, the parameters in force stay, the own ones follow as NEXT (R30, R33); a cap that falls
with them is renegotiated (R86). -/
def enterActive (s : State) : State :=
  let slot := if s.basin.slot = 0 then otherMgrSlot s.basin.mgrSlot else s.basin.slot
  let s := { s with basin.epoch := s.basin.epoch + 1, basin.slot := slot }
  let s := setRole s .active
  let s := adoptMap s (mapOf s s.mgr.dir s.basin.epoch)
  let own := !s.basin.adopted
  renegotiate {
    s with basin.period := if own then ownPeriod s else s.basin.period,
           basin.miss := if own then ownMiss s else s.basin.miss,
           basin.nextPeriod := ownPeriod s, basin.nextMiss := ownMiss s, basin.stby := false,
           wr.maps := [], wr.mapAt := [], wr.mapValid := 0, mgr.pend := [], mgr.lease := s.sys.now, mgr.firstHb := none,
           mgr.switched := false, mgr.periodAt := none, mgr.grants := [], mgr.majoritySince := none,
           mgr.activeEpoch := s.basin.epoch,
           mgr.dir.workers := Tab.map (fun _ w => { w with missed := 0, replied := false, ackAt := none }) s.mgr.dir.workers }

/-- Notes when a claimant first holds its majority. -/
def noteMajority (s : State) : State :=
  if hasMajority s then { s with mgr.majoritySince := some (s.mgr.majoritySince.getD s.sys.now) }
  else { s with mgr.majoritySince := none }

/-- GRANT (R33, R23). -/
def execGrant (m : Bytes) (s : State) : Result :=
  onCtl s 0x04 m fun r =>
    match s.basin.role with
    | .active => if Tab.has s.mgr.dir.workers r.serial then s else answerLost s r.serial
    | .claiming =>
      if r.subject = s.sys.fuses.serial ∧ Tab.has s.mgr.dir.workers r.serial ∧ !s.mgr.grants.contains r.serial then
        let t := noteMajority { s with mgr.grants := r.serial :: s.mgr.grants }
        if t.mgr.claimPlanned ∧ hasMajority t then enterActive t else t
      else s
    | _ => s

/-- REVOKE (R32). -/
def execRevoke (m : Bytes) (s : State) : Result :=
  onCtl s 0x05 m fun r =>
    if s.basin.role = .claiming ∧ r.subject = s.sys.fuses.serial then withdraw s else s

/-- WITHDRAW (R31): ends the grant this worker holds for the sender. -/
def execWithdraw (m : Bytes) (s : State) : Result :=
  onCtl s 0x06 m fun r =>
    match s.basin.grant with
    | some g => if s.basin.role = .worker ∧ g.1 = r.serial then { s with basin.grant := none } else s
    | none => s

/-- HANDOVER (R35): enables a planned claim. -/
def execHandover (m : Bytes) (s : State) : Result :=
  onCtl s 0x07 m fun r =>
    match s.basin.role with
    | .worker => { s with basin.handoverTo := some r.subject }
    | .standby => if r.subject = s.sys.fuses.serial then startClaim s true else s
    | _ => s

/-- The wait before an unplanned claimant enters ACTIVE (R33): L + ⌈L ÷ 1,024⌉ + 2 µs, counted in whole microseconds as the worked
claim counts it. -/
def claimWaitNs (s : State) : Nat :=
  let us := leaseNs s / 1000
  1000 * (us + (us + 1023) / 1024 + 2)

/-- CLAIM_WAIT_ELAPSED (R33). -/
def execClaimWaitElapsed (s : State) : Result :=
  match s.mgr.majoritySince with
  | none => .next s
  | some t =>
    if s.basin.role ≠ .claiming ∨ !hasMajority s then .next s
    else .next (enterActive (if s.mgr.claimPlanned ∧ s.mgr.dir.workers ≠ [] then s else advanceTo s (t + claimWaitNs s)))

/-- CLAIM_TIMEOUT (R32): 4 × L without ACTIVE. DESIGN CHOICE (log 99): the spec does not say how a worker's grant ends when its
claimant times out; no WITHDRAW is sent, and the worker keeps the grant until a HEARTBEAT of the claimant or a higher claim, sending
no HB_REPLY to another manager meanwhile. Unsafe. -/
def execClaimTimeout (s : State) : Result :=
  if s.basin.role ≠ .claiming then .next s
  else
    let t := advanceTo s (s.mgr.claimSince + 4 * leaseNs s)
    .next (setRole { t with mgr.grants := [], mgr.majoritySince := none, basin.lastHb := t.sys.now } .standby)

/-- LEASE_EXPIRY (R28): the manager fences itself. -/
def execLeaseExpiry (s : State) : Result :=
  if s.basin.role ≠ .active then .next s
  else
    let t := advanceTo s (s.mgr.lease + leaseNs s)
    .next (setRole { t with mgr.pend := [], basin.stby := false, basin.lastHb := t.sys.now, basin.mgrMissing := true } .standby)

/-- HANDOVER_PERIOD (R35): a YIELDING device sends HANDOVER each period. -/
def execHandoverPeriod (s : State) : Result :=
  if s.basin.role ≠ .yielding then .next s
  else .next (sendBasin s 0 (ownCtl s 0x07 (s.mgr.successor.getD 0)))

/-- YIELDING_TIMEOUT (R35). -/
def execYieldingTimeout (s : State) : Result :=
  if s.basin.role ≠ .yielding then .next s
  else
    let t := advanceTo s (s.mgr.yieldSince + 4 * leaseNs s)
    .next (setRole { t with basin.lastHb := t.sys.now, basin.mgrMissing := true } .standby)

/-- HB_PARAM_SWITCH (R30): 16 ms + L after its first HEARTBEAT the manager's own values come into force. -/
def execHbParamSwitch (s : State) : Result :=
  match s.mgr.firstHb with
  | none => .next s
  | some t =>
    if s.basin.role ≠ .active ∨ s.mgr.switched then .next s
    else
      let a := advanceTo s (t + 16000000 + leaseNs s)
      .next { a with basin.period := a.basin.nextPeriod, basin.miss := a.basin.nextMiss, mgr.switched := true,
                     mgr.periodAt := if a.basin.period ≠ a.basin.nextPeriod then some a.sys.now else a.mgr.periodAt }

/-! ### Joining (R22, R23, R286) -/

/-- Which of the three attestation checks of R286 fails first; 0 for none. -/
def attestCheck (s : State) (serial : Nat) (ev : AttestEv) : Nat :=
  if !ev.chainOk then 1
  else if ev.leafSerial ≠ serial then 2
  else if s.policy.admission ≠ [] ∧ !s.policy.admission.contains ev.summary then 3
  else 0

/-- Logs ATTEST_FAIL. -/
def logAttest (s : State) (slot chk serial : Nat) : State :=
  logEv s 0x0044 Status.ok 0x0B slot ([BitVec.ofNat 8 chk] ++ zeros 7 ++ putLE 8 serial)

/-- The lowest slot index whose device and whose plot number are both free, and which no plot's data still names (R15, R22). -/
def freeSlot (d : Directory) : Option Nat :=
  ((List.range 64).map (· + 1)).find? fun n => !(Tab.some (fun _ w => w.slot = n) d.workers) && !Tab.has d.plots n
    && !(Tab.some (fun _ e => e.slot = n ∨ e.mirrorSlot = n) d.plots)

/-- Drops the extents that lay on a plot number whose data was lost; their owners learn it with EPOCH_MISMATCH (R41). -/
def dropStale (plot : Nat) (d : Directory) : Directory :=
  { d with allocs := Tab.map (fun _ x => { x with extents := x.extents.filter (fun e => e.plot ≠ plot) }) d.allocs }

/-- The allocations that had extents on a lost plot. -/
def staleOwners (plot : Nat) (d : Directory) : List (Nat × Alloc) :=
  d.allocs.filter fun x => x.2.extents.any fun e => e.plot = plot

/-- SUBJECT of a JOIN_ACK: the parameters in force, the slot and the plot. -/
def ackSubject (s : State) (slot : Nat) : Nat :=
  s.basin.period * 2 ^ 48 + s.basin.miss * 2 ^ 40 + slot * 2 ^ 32 + slot * 2 ^ 24

/-- The directory with a new worker and its plot. -/
def dirJoin (d : Directory) (serial slot len : Nat) : Directory :=
  let d := dropStale slot d
  let w : Worker :=
    { slot := slot, plotLen := len, missed := 0, replied := false, ackAt := none, joinEpoch := 0, excuse := none }
  let e : MapEnt := { slot := slot, paired := false, spare := false, copying := false, mirrorSlot := 0, free := len,
                      len := len, mirrorFor := 0 }
  { d with workers := Tab.put d.workers serial w, plots := Tab.put d.plots slot e }

/-- The owners of the extents on a lost plot learn of it with EPOCH_MISMATCH (R41). -/
def tellOwners (plot : Nat) (d : Directory) (s : State) : State :=
  (staleOwners plot d).foldl (fun s x => emit s (.ownerLost x.2.slot x.2.inst x.1)) s

/-- The active manager generates the secret of one pair of ends and installs it at both, ROLE 0 at the lower slot (R288). -/
def keyPair (mirror : Bool) (a : Nat) (s : State) (b : Nat) : State :=
  let sec := freeBytes s 32
  let role := bit (decide (b < a))
  emit (emit (freeSkip s 32) (.keyInstall a b mirror role sec)) (.keyInstall b a mirror (1 - role) sec)

/-- JOIN accepted: with BASIN_ENC the new member is keyed with every worker joined before it completes (R288); the owners of what
the device, or the slot's plot number, once lost are told (R41). -/
def acceptJoin (s : State) (d : Directory) (serial n len : Nat) : State :=
  let s := tellOwners n d s
  let lost := Tab.find d.lost serial
  let s := match lost with | some p => if p = n then s else tellOwners p d s | none => s
  let d := match lost with | some p => { dropStale p d with lost := Tab.del d.lost serial } | none => d
  let s := if s.policy.basinEnc then (d.workers.map (fun w => w.2.slot)).foldl (keyPair false n) s else s
  commitDir s (dirJoin d serial n len) 1 (.record 0x09 serial (ackSubject s n))

/-- JOIN (R22, R23, R286, R41): a repeated one receives the same JOIN_ACK once the join has been committed. -/
def execJoin (m : Bytes) (ev : AttestEv) (s : State) : Result :=
  onCtl s 0x08 m fun r =>
    if s.basin.role ≠ .active then s
    else
      let d := dirLatest s
      match Tab.find d.workers r.serial with
      | some w =>
        if Tab.has s.mgr.dir.workers r.serial then
          sendBasin s r.serial { ownCtl s 0x09 (ackSubject s w.slot) with epoch := w.joinEpoch }
        else s
      | none =>
        let chk := attestCheck s r.serial ev
        if chk ≠ 0 then
          sendBasin (logAttest s 0 chk r.serial) r.serial (ownCtl s 0x0A (0x04 * 2 ^ 56))
        else match freeSlot d with
          | none => sendBasin s r.serial (ownCtl s 0x0A (0x03 * 2 ^ 56))
          | some n => acceptJoin s d r.serial n (fld r.subject 63 32)

/-- JOIN_RETRY (R23): every 1 ms to each attested manager-capable device. -/
def execJoinRetry (s : State) : Result :=
  if s.basin.role ≠ .unjoined ∨ roleCap s ≠ 1 ∨ s.boot.stage ≠ .ready ∨ s.basin.attested = [] then .next s
  else
    let t := { s with basin.firstJoin := some (s.basin.firstJoin.getD s.sys.now) }
    .next (s.basin.attested.foldl (fun a n => sendBasin a n (ownCtl a 0x08 (s.boot.plotGranules * 2 ^ 32))) t)

/-- JOIN_TIMEOUT (R23): 1 s without an answer the worker attests and joins again from the start. -/
def execJoinTimeout (s : State) : Result :=
  match s.basin.firstJoin with
  | none => .next s
  | some t =>
    if s.basin.role ≠ .unjoined then .next s
    else
      let a := advanceTo s (t + 1000000000)
      .next { a with basin.firstJoin := none, basin.attested := [] }

/-- The plot of a device that joins holds no extents and no data (R41). -/
def emptyPlot (s : State) : State :=
  let mine (x : Span) : Bool := x.kind = .plot
  { s with plot := [], spans := Tab.keep (fun _ x => !mine x) s.spans,
           pieces := s.pieces.filter (fun p => match Tab.find s.spans p.span with | some x => !mine x | none => true) }

/-- JOIN_ACK (R23, R26, R41, R86). -/
def execJoinAck (m : Bytes) (s : State) : Result :=
  onCtl s 0x09 m fun r =>
    if s.basin.role ≠ .unjoined ∨ roleCap s ≠ 1 ∨ !s.basin.attested.contains r.serial then s
    else
      let s := { emptyPlot s with
                        basin.slot := fld r.subject 39 32, basin.plot := fld r.subject 31 24, basin.hbSeen := none,
                        basin.period := fld r.subject 63 48, basin.miss := fld r.subject 47 40,
                        basin.nextPeriod := fld r.subject 63 48, basin.nextMiss := fld r.subject 47 40,
                        basin.adopted := true, basin.mgrSerial := some r.serial, basin.mgrSlot := r.slot, basin.lastHb := s.sys.now,
                        basin.mgrMissing := false, basin.grant := none, basin.handoverTo := none,
                        basin.firstJoin := none, basin.map := { s.basin.map with epoch := 0 } }
      renegotiate (noteEpoch (setRole s .worker) r.epoch)

/-- JOIN_NAK (R22): the worker stays UNJOINED. -/
def execJoinNak (m : Bytes) (s : State) : Result :=
  onCtl s 0x0A m fun r =>
    if s.basin.role ≠ .unjoined ∨ !s.basin.attested.contains r.serial then s else { s with basin.firstJoin := none }

/-! ### Leaving, loss, reset notices (R23, R25) -/

/-- A worker leaves the Basin: plot service ends. -/
def becomeUnjoined (s : State) : State :=
  let t := setRole s .unjoined
  { t with basin.slot := 0, basin.plot := 0, basin.mirrorOf := 0, basin.paired := false, basin.noticed := false,
           basin.answerNoticed := false, basin.grant := none, basin.handoverTo := none, basin.leaveSince := none,
           basin.noticeSince := none, basin.firstJoin := none, basin.attested := [], basin.holdNew := false,
           basin.map := PlotMap.reset, mgr.loadAt := s.sys.now }

/-- A write of one command to TN_ROLE_CMD. -/
def roleCmd (s : State) (w : RegWr) (cmd : Nat) (cs : List (Bool × Byte)) (eff : State) : Result :=
  if !windowLive s ∨ fld w.data.toNat 3 0 ≠ cmd then .next s
  else .next (checked s (regAddr s 0x0B 0x20C) none w ((noRsv w 0xFFFFFFF0, Status.badField) :: cs) eff)

/-- TN_ROLE_CMD YIELD (R35). -/
def execRoleCmdYield (w : RegWr) (s : State) : Result :=
  roleCmd s w 1 [(s.basin.role = .active, Status.notPermitted), (s.basin.stby, Status.busy)]
    (setRole { s with mgr.yieldSince := s.sys.now, mgr.successor := s.mgr.standby, mgr.pend := [] } .yielding)

/-- TN_ROLE_CMD REQUEST_SWAP (R35): discarded without error at a YIELDING device. -/
def execRoleCmdRequestSwap (w : RegWr) (s : State) : Result :=
  roleCmd s w 2 [(s.basin.role = .standby ∨ s.basin.role = .yielding, Status.notPermitted)]
    (if s.basin.role = .standby then startClaim s true else s)

/-- The own plot holds allocated extents: Tender has a PLOT span over each (R215), and the cached map counts them. -/
def plotInUse (s : State) : Bool :=
  s.spans.any (fun x => x.2.kind = .plot) || match Tab.find s.basin.map.plots s.basin.plot with
  | some e => e.free ≠ e.len
  | none => false

/-- TN_ROLE_CMD LEAVE (R23). -/
def execRoleCmdLeave (w : RegWr) (s : State) : Result :=
  roleCmd s w 3 [(s.basin.role = .worker, Status.notPermitted),
      (!plotInUse s && !s.basin.paired && s.basin.mirrorOf = 0, Status.busy)]
    (sendBasin { s with basin.leaveSince := some s.sys.now } (s.basin.mgrSerial.getD 0) (ownCtl s 0x0B 0))

/-- TN_ROLE_CMD RESET_NOTICE (R25). -/
def execRoleCmdResetNotice (w : RegWr) (s : State) : Result :=
  roleCmd s w 4 [(s.basin.role = .worker, Status.notPermitted),
      (!s.basin.noticed && s.basin.leaveSince = none, Status.busy)]
    (sendBasin { s with basin.noticeSince := some s.sys.now } (s.basin.mgrSerial.getD 0) (ownCtl s 0x0E 0))

/-- WORKER_PERIOD (R23, R25): LEAVE or RESET_NOTICE is sent again each period. -/
def execWorkerPeriod (s : State) : Result :=
  if s.basin.role ≠ .worker then .next s
  else
    let dst := s.basin.mgrSerial.getD 0
    let s := if s.basin.leaveSince = none then s else sendBasin s dst (ownCtl s 0x0B 0)
    .next (if s.basin.noticeSince = none then s else sendBasin s dst (ownCtl s 0x0E 0))

/-- LEAVE_ACK (R23). -/
def execLeaveAck (m : Bytes) (s : State) : Result :=
  onCtl s 0x0C m fun r =>
    if s.basin.role = .worker ∧ s.basin.leaveSince ≠ none ∧ r.subject = s.sys.fuses.serial then becomeUnjoined s else s

/-- LEAVE_TIMEOUT (R23): 1 s after the write. -/
def execLeaveTimeout (s : State) : Result :=
  match s.basin.leaveSince with
  | none => .next s
  | some t => if s.basin.role ≠ .worker then .next s else .next (becomeUnjoined (advanceTo s (t + 1000000000)))

/-- A LOST record repeats one that came within the last second (R23). -/
def lostAgain (s : State) (serial : Nat) : Bool :=
  s.basin.lostSeen.any fun x => x.1 = serial && decide (s.sys.now < x.2 + 1000000000)

/-- LOST (R23): naming this device, plot service stops; naming another, the Basin-wide window opens on every member, and a second
loss inside it opens it anew and voids the guarantee (R39, R40). -/
def execLost (m : Bytes) (s : State) : Result :=
  onCtl s 0x0D m fun r =>
    if r.subject = s.sys.fuses.serial then (if s.basin.role = .worker then becomeUnjoined s else s)
    else if s.basin.role = .unjoined ∨ s.basin.role = .active then s
    else
      let t := { s with basin.lostSeen := (r.subject, s.sys.now) :: s.basin.lostSeen.filter (fun x => x.1 ≠ r.subject) }
      if lostAgain s r.subject then t else openBasinWin t

/-- RESET_NOTICE (R25): the manager commits an excuse, then answers NOTICE_ACK. -/
def execResetNotice (m : Bytes) (s : State) : Result :=
  onCtl s 0x0E m fun r =>
    if s.basin.role ≠ .active then s
    else if Tab.has (dirLatest s).workers r.serial then commitDir s (dirLatest s) 0 (.record 0x0F r.serial r.serial)
    else answerLost s r.serial

/-- NOTICE_ACK (R25). -/
def execNoticeAck (m : Bytes) (s : State) : Result :=
  onCtl s 0x0F m fun r =>
    if s.basin.role = .worker ∧ s.basin.noticeSince ≠ none ∧ r.subject = s.sys.fuses.serial then
      { s with basin.noticed := true, basin.noticedAt := s.sys.now, basin.noticeSince := none,
               basin.answerNoticed := false }
    else s

/-- NOTICE_TIMEOUT (R25): WARM_RST_N has not fallen 100 ms after NOTICED. -/
def execNoticeTimeout (s : State) : Result :=
  if !s.basin.noticed ∨ s.basin.answerNoticed ∨ s.sys.warmLow then .next s
  else
    let t := advanceTo s (s.basin.noticedAt + 100000000)
    .next { t with basin.noticed := false }

/-! ### The directory's losses and promotions (R21, R40, R51) -/

/-- The lowest-numbered spare plot on a device other than a given one (R51). DESIGN CHOICE (log 100): R19 asks for equal lengths, and
the spec does not say what happens where the lowest-numbered spare has another one; the model skips to the lowest spare of equal
length. Unsafe. -/
def spareFor (d : Directory) (slot len : Nat) : Option (Nat × MapEnt) :=
  d.plots.find? fun x => x.2.spare && x.2.slot ≠ slot && x.2.len = len && x.2.mirrorFor = 0

/-- Pairs an unpaired plot with a spare, copying first: the directory and the number of epoch events (R21, R51). -/
def pairSpare (d : Directory) (plot : Nat) : Directory × Nat :=
  match Tab.find d.plots plot with
  | none => (d, 0)
  | some e => match spareFor d e.slot e.len with
    | none => (d, 0)
    | some (n, sp) =>
      let a := { e with copying := true, mirrorSlot := sp.slot }
      let b := { sp with spare := false, mirrorFor := plot }
      ({ d with plots := Tab.put (Tab.put d.plots plot a) n b }, 1)

/-- What the loss of a slot makes of one entry: the loss of a mirror unpairs its plot; a spare whose primary is lost before the copy
has finished is a spare again (assumption 101). -/
def loseEnt (d : Directory) (slot : Nat) (e : MapEnt) : MapEnt :=
  let orphan : Bool := e.mirrorFor ≠ 0 && (match Tab.find d.plots e.mirrorFor with | some x => x.slot = slot && !x.paired | none => true)
  if e.mirrorSlot = slot then { e with paired := false, copying := false, mirrorSlot := 0 }
  else if orphan then { e with mirrorFor := 0, spare := true }
  else e

/-- The directory without a lost worker: its paired plot keeps its number and its entry until the promotion, its unpaired plot is
gone, and plots it mirrored are unpaired; a plot both of whose copies are lost is gone (R17, R21). -/
def dirLose (d : Directory) (serial slot : Nat) : Directory :=
  let ws := Tab.del d.workers serial
  let joined (k : Nat) : Bool := Tab.some (fun _ w => w.slot = k) ws
  { d with workers := ws,
           plots := Tab.keep (fun _ e => joined e.slot || (e.paired && e.mirrorFor = 0)) (Tab.map (fun _ => loseEnt d slot) d.plots) }

/-- Plots that lost their mirror with a slot. -/
def mirrorless (d : Directory) (slot : Nat) : List Nat :=
  (d.plots.filter fun x => x.2.mirrorSlot = slot ∧ x.2.slot ≠ slot ∧ (x.2.paired ∨ x.2.copying)).map (·.1)

/-- The unpaired plot a lost slot served, noted for its rejoining (R41). -/
def noteLost (d : Directory) (serial slot : Nat) (e : Directory) : Directory :=
  match d.plots.find? (fun x => x.2.slot = slot && !x.2.paired && x.2.mirrorFor = 0) with
  | some x => { e with lost := Tab.put e.lost serial x.1 }
  | none => e

/-! ### Sessions (R271) -/

/-- Ends the sessions whose transport meets a test (R271, R289). -/
def endSessions (s : State) (f : Transp → Bool) : State :=
  { s with spdm := { s.spdm with sess := Tab.keep (fun _ x => !f x.tr) s.spdm.sess, version := s.spdm.version.filter (fun t => !f t),
                                 caps := s.spdm.caps.filter (fun t => !f t), algs := s.spdm.algs.filter (fun t => !f t) } }

/-- A member that is gone: the sessions over its Basin fragments end with their transport (R271), and its map is no longer current
(R265). -/
def memberGone (s : State) (slot : Nat) : State :=
  let s := endSessions s (fun t => t = .basin slot)
  { s with wr.mapValid := clearSlot s.wr.mapValid slot }

/-- Declares a worker lost (R27): MEMBER_LOST, LOST, the Basin-wide window, and the guarantee of an unpaired plot (R40). -/
def declareLost (s : State) (serial : Nat) : State :=
  let d := dirLatest s
  match Tab.find d.workers serial with
  | none => s
  | some w =>
    let unpaired := Tab.some (fun _ e => e.slot = w.slot ∧ !e.paired ∧ e.mirrorFor = 0) d.plots
    let pr := (mirrorless d w.slot).foldl (fun (x : Directory × Nat) p =>
      let y := pairSpare x.1 p
      (y.1, x.2 + y.2)) (noteLost d serial w.slot (dirLose d serial w.slot), 1)
    let s := logEv s 0x0041 Status.ok 0x0B w.slot (putLE 4 (epochLatest s + 1))
    let s := openBasinWin s
    let s := if unpaired then voidGuarantee s 2 else s
    let s := memberGone { s with mgr.lostNotices := (serial, s.sys.now) :: s.mgr.lostNotices } w.slot
    let s := sendBasin s 0 (ownCtl s 0x0D serial)
    commitDir s pr.1 pr.2 .nothing

/-- WORKER_LOST (R27): M consecutive periods without a valid HB_REPLY. -/
def execWorkerLost (serial : Nat) (s : State) : Result :=
  match Tab.find s.mgr.dir.workers serial with
  | none => .next s
  | some w => if s.basin.role ≠ .active ∨ w.missed < s.basin.miss then .next s else .next (declareLost s serial)

/-- EXCUSE_EXPIRY (R25): 1 s after the excuse's commit without an HB_REPLY. -/
def execExcuseExpiry (serial : Nat) (s : State) : Result :=
  match Tab.find s.mgr.dir.workers serial with
  | none => .next s
  | some w => match w.excuse with
    | none => .next s
    | some t => if s.basin.role ≠ .active then .next s else .next (declareLost (advanceTo s (t + 1000000000)) serial)

/-- LEAVE (R23): the worker is removed; a repeated LEAVE is answered again, once the leave has been committed, with the epoch that
committed it (R48). -/
def execLeave (m : Bytes) (s : State) : Result :=
  onCtl s 0x0B m fun r =>
    if s.basin.role ≠ .active then s
    else match Tab.find (dirLatest s).workers r.serial with
      | none =>
        if Tab.has s.mgr.dir.workers r.serial then s
        else sendBasin s r.serial { ownCtl s 0x0C r.serial with epoch := Tab.getD s.mgr.dir.left r.serial s.basin.epoch }
      | some w =>
        let s := memberGone s w.slot
        commitDir s (dirLose (dirLatest s) r.serial w.slot) 1 (.record 0x0C r.serial r.serial)

/-- PROMOTION (R21): the mirror of a lost primary takes the plot; a spare is then paired with it (R51). -/
def execPromotion (plot : Nat) (s : State) : Result :=
  let d := dirLatest s
  match Tab.find d.plots plot with
  | none => .next s
  | some e =>
    if s.basin.role ≠ .active ∨ !e.paired ∨ e.mirrorFor ≠ 0 ∨ Tab.some (fun _ w => w.slot = e.slot) d.workers then .next s
    else
      let up := { e with slot := e.mirrorSlot, paired := false, mirrorSlot := 0 }
      let d1 := { d with plots := Tab.put (Tab.keep (fun _ x => x.mirrorFor ≠ plot) d.plots) plot up }
      let pr := pairSpare d1 plot
      let s := logEv s 0x0042 Status.ok 0x0B plot ([BitVec.ofNat 8 e.mirrorSlot, 0, 0, 0] ++ putLE 4 (epochLatest s + 1))
      .next (commitDir s pr.1 (1 + pr.2) .nothing)

/-- SPARE_COPY_DONE (R51): the plot becomes PAIRED. -/
def execSpareCopyDone (plot : Nat) (s : State) : Result :=
  let d := dirLatest s
  match Tab.find d.plots plot with
  | none => .next s
  | some e =>
    if s.basin.role ≠ .active ∨ !e.copying then .next s
    else
      let x := { e with copying := false, paired := true }
      .next (commitDir s { d with plots := Tab.put d.plots plot x } 1 .nothing)

/-- OVERFLOW_LENGTH_REPORT (R151); a window of length 0 is not assigned (R45). -/
def execOverflowLengthReport (slot granules : Nat) (s : State) : Result :=
  if s.basin.role ≠ .active then .next s
  else .next (commitDir s
    { dirLatest s with ovf := if granules = 0 then Tab.del (dirLatest s).ovf slot else Tab.put (dirLatest s).ovf slot granules } 0 .nothing)

end Sys2Proof.Machine
end

