-- ==== Sys2Proof/Machine/Sha384.lean ====
section
/-!
DEFINITION. SHA-384 (R108 check 1, R111, R272). The spec names the function and does not restate it: the algorithm and
its constants are those of FIPS 180-4 (PRESUMED, assumption 5).
-/
namespace Sys2Proof.Machine.Sha

/-- The whole `k`-th root of a number, found from its highest bit down: `n` bits remain, `r` is what the bits above give. -/
def root (k x : Nat) : Nat → Nat → Nat
  | 0, r => r
  | n + 1, r => root k x n (if (r + 2 ^ n) ^ k ≤ x then r + 2 ^ n else r)

/-- The first 64 bits of the fractional part of the `k`-th root of a number below 512. -/
def rootFrac (k p : Nat) : Nat := root k (p * 2 ^ (64 * k)) 73 0 % 2 ^ 64

/-- The primes up to 409, the first 80: no number below 23 × 23 needs a larger divisor than 19. -/
def primes : List Nat :=
  (List.range 410).filter fun n => 2 ≤ n && [2, 3, 5, 7, 11, 13, 17, 19].all fun d => n = d || n % d ≠ 0

/-- The 80 round constants: from the cube roots of the first 80 primes. -/
def roundKeys : List Nat := primes.map (rootFrac 3)

/-- The initial hash value of SHA-384: from the square roots of the ninth to the sixteenth prime. -/
def iv : List Nat := ((primes.drop 8).take 8).map (rootFrac 2)

/-- The eight working words. -/
structure W8 where
  a : Dword
  b : Dword
  c : Dword
  d : Dword
  e : Dword
  f : Dword
  g : Dword
  h : Dword

/-- One round with schedule word `w` and constant `k`. -/
def W8.round (x : W8) (w k : Dword) : W8 :=
  let t1 := x.h + ((x.e.rotateRight 14) ^^^ (x.e.rotateRight 18) ^^^ (x.e.rotateRight 41))
    + ((x.e &&& x.f) ^^^ (~~~x.e &&& x.g)) + k + w
  let t2 := ((x.a.rotateRight 28) ^^^ (x.a.rotateRight 34) ^^^ (x.a.rotateRight 39))
    + ((x.a &&& x.b) ^^^ (x.a &&& x.c) ^^^ (x.b &&& x.c))
  ⟨t1 + t2, x.a, x.b, x.c, x.d + t1, x.e, x.f, x.g⟩

/-- The word-wise sum of two working sets. -/
def W8.add (x y : W8) : W8 :=
  ⟨x.a + y.a, x.b + y.b, x.c + y.c, x.d + y.d, x.e + y.e, x.f + y.f, x.g + y.g, x.h + y.h⟩

/-- The rounds over the sliding 16-word schedule window. -/
def rounds : List Nat → List Dword → W8 → W8
  | [], _, x => x
  | k :: ks, ws, x =>
    let w := ws.getD 0 0
    let a := ws.getD 1 0
    let b := ws.getD 14 0
    let n := ((b.rotateRight 19) ^^^ (b.rotateRight 61) ^^^ (b >>> 6)) + ws.getD 9 0
      + ((a.rotateRight 1) ^^^ (a.rotateRight 8) ^^^ (a >>> 7)) + w
    rounds ks (ws.drop 1 ++ [n]) (x.round w (BitVec.ofNat 64 k))

/-- The 16 big-endian words of a 128-byte block. -/
def blockWords (b : Bytes) : List Dword :=
  (List.range 16).map fun i => BitVec.ofNat 64 (getBE b (8 * i) 8)

/-- One block. -/
def block (x : W8) (b : Bytes) : W8 := x.add (rounds roundKeys (blockWords b) x)

/-- The blocks of a padded message, the count first. -/
def blocks : Nat → Bytes → W8 → W8
  | 0, _, x => x
  | n + 1, m, x => blocks n (m.drop 128) (block x (m.take 128))

/-- The padded message. -/
def padded (m : Bytes) : Bytes :=
  let z := (239 - m.length % 128) % 128
  m ++ [0x80] ++ List.replicate z 0 ++ putBE 16 (8 * m.length)

/-- SHA-384 of a byte string: 48 bytes. -/
def sha384 (m : Bytes) : Bytes :=
  let p := padded m
  let i := fun n => BitVec.ofNat 64 (iv.getD n 0)
  let x := blocks (p.length / 128) p ⟨i 0, i 1, i 2, i 3, i 4, i 5, i 6, i 7⟩
  [x.a, x.b, x.c, x.d, x.e, x.f].flatMap fun w => putBE 8 w.toNat

end Sys2Proof.Machine.Sha
end

