-- ==== Sys2Proof/Machine/Image.lean ====
section
/-!
DEFINITION. The Bennath image and the slot bundle as bytes: their parsing, their checks in order, the feature offer and
the HBM an image takes (spec file 04, R100 to R108, R113, R408, R409).
-/
namespace Sys2Proof.Machine

/-- Bytes of flash from an offset: erased flash reads 0xFF (assumption 6). -/
def flashRead (b : Bytes) (off len : Nat) : Bytes :=
  let x := slice b off len
  x ++ List.replicate (len - x.length) 0xFF

/-! ### The Bennath image -/

/-- One entry of the section directory. -/
structure DirEnt where
  type : Nat
  rsv : Nat
  off : Nat
  len : Nat
  crc : Nat

/-- The directory entries of an image. -/
def dirEnts (b : Bytes) : List DirEnt :=
  (List.range (getBE b 6 1)).map fun i =>
    let o := 64 + 16 * i
    { type := getBE b o 2, rsv := getBE b (o + 2) 2, off := getBE b (o + 4) 4, len := getBE b (o + 8) 4,
      crc := getBE b (o + 12) 4 }

/-- The length each defined section type has (R107). -/
def secLen : Nat → Option Nat
  | 1 => some 8
  | 2 => some 8
  | 3 => some 32
  | 4 => some 64
  | 5 => some 16
  | 6 => some 16
  | _ => none

/-- R108 check 1: MAGIC, FMT_VER, HDR_CRC, IMAGE_LEN, SECTIONS with the directory inside, the SHA-384 trailer. -/
def imgCheck1 (b : Bytes) : Bool :=
  let n := getBE b 8 4
  let k := getBE b 6 1
  64 ≤ b.length ∧ getBE b 0 4 = 0x424E5448 ∧ getBE b 4 2 = 1 ∧ getBE b 60 4 = crcN (b.take 60) ∧ n ≤ 2 ^ 24 ∧
    n ≤ b.length ∧ 3 ≤ k ∧ k ≤ 6 ∧ 64 + 16 * k + 48 ≤ n ∧ slice b (n - 48) 48 = Sha.sha384 (b.take (n - 48))

/-- R108 check 2: placement, overlap, lengths and CRCs of the sections. -/
def imgCheck2 (b : Bytes) : Bool :=
  let n := getBE b 8 4
  let k := getBE b 6 1
  let es := dirEnts b
  es.all (fun e => e.off % 16 = 0 ∧ 64 + 16 * k ≤ e.off ∧ e.off + e.len ≤ n - 48 ∧
      (secLen e.type = none ∨ secLen e.type = some e.len) ∧ e.crc = crcN (slice b e.off e.len))
    && pairwiseDisjoint (es.map fun e => (e.off, e.len))

/-- The body of the first section of a type. -/
def secBody (b : Bytes) (t : Nat) : Option Bytes :=
  ((dirEnts b).find? (fun e => e.type = t)).map fun e => slice b e.off e.len

/-- The MODE field. -/
def modeCode : Nat → Option PMode
  | 1 => some .p
  | 2 => some .c
  | 3 => some .h
  | _ => none

/-- The code of a mode. -/
def PMode.code : PMode → Nat
  | .p => 1
  | .c => 2
  | .h => 3

/-- The structure an image describes. -/
def parseImage (b : Bytes) : Image :=
  let c := (secBody b 1).getD []
  let p := (secBody b 2).getD []
  let o := (secBody b 3).getD []
  { minLevel := getBE b 12 2, mode := (modeCode (getBE b 14 1)).getD .h, roleCap := getBE b 15 1,
    imageId := getBE b 16 8, qpc := getBE c 0 1, spanc := getBE c 1 1, cb := getBE c 2 1, fls := getBE c 3 1,
    brk := getBE p 0 2, udpPort := getBE p 2 2, framing := getBE p 4 1, qpMax := getBE o 0 4, cqMax := getBE o 4 4,
    spanMax := getBE o 8 4, keyMax := getBE o 12 4, synkoMax := getBE o 16 4, instMax := getBE o 20 2,
    cbSlots := getBE o 22 2,
    basin := (secBody b 4).map fun x =>
      { mac0 := getBE x 0 6, mac1 := getBE x 8 6, ip0 := getBE x 16 16, ip1 := getBE x 32 16,
        hbPeriod := getBE x 48 2, hbMiss := getBE x 50 1, plotGranules := getBE x 52 4 },
    partner := (secBody b 5).map fun x => { ovf := getBE x 0 4, push := getBE x 4 4 },
    featmask := ((secBody b 6).map ofBE).getD 0 }

/-- A variant may run a mode (R1). -/
def variantMode (v : Variant) (m : PMode) : Bool :=
  match v, m with
  | _, .h => true
  | .p, .p => true
  | .d, .c => true
  | _, _ => false

/-- R108 check 4: the mode is legal for the variant (R1) and permitted by STRAP_PEN (R52). -/
def imgCheck4 (v : Variant) (pen : Bool) (b : Bytes) : Bool :=
  match modeCode (getBE b 14 1) with
  | none => true
  | some m => variantMode v m && (pen || m = .h)

/-- The feature offer of an image (the feature table; R108 check 5 and R113 use it). -/
def offerBits (i : Image) : List Bool :=
  let pc := i.mode ≠ .h
  let push := (i.partner.map (·.push)).getD 0
  let ovf := (i.partner.map (·.ovf)).getD 0
  [true, true, true, true, push > 0, true, true, pc && ovf > 0, true, i.synkoMax > 0, i.synkoMax > 0, true, true, true,
   i.cbSlots > 0, i.cbSlots > 0, true, true, true, bitN i.framing 1, bitN i.framing 0, pc, true, pc, i.mode = .c, true,
   i.roleCap = 2, true, true, true]

/-- A list of bits as a word, the first bit lowest. -/
def bitsNat : List Bool → Nat
  | [] => 0
  | b :: r => bit b + 2 * bitsNat r

/-- The offered feature word: the feature table less FEATMASK. -/
def offerOf (i : Image) : BitVec 128 :=
  BitVec.ofNat 128 (bitsNat (offerBits i)) &&& ~~~(BitVec.ofNat 128 i.featmask)

/-- The number of entries of a section type. -/
def secCount (b : Bytes) (t : Nat) : Nat := ((dirEnts b).filter (fun e => e.type = t)).length

/-- Section presence by R107. -/
def presence (b : Bytes) (i : Image) : Bool :=
  (List.range 6).all (fun t => secCount b (t + 1) ≤ 1) && secCount b 1 = 1 && secCount b 2 = 1 && secCount b 3 = 1 &&
    (secCount b 4 = if i.roleCap = 0 then 0 else 1) && (secCount b 5 = if i.mode = .h then 0 else 1)

/-- Field ranges of the CARVE, PORTS and POOLS sections (R107). -/
def poolsOk (i : Image) : Bool :=
  let k := fun (v lo hi : Nat) => decide (lo ≤ v ∧ v ≤ hi ∧ v % 1024 = 0)
  1 ≤ i.qpc && i.qpc ≤ 32 && 1 ≤ i.spanc && i.spanc ≤ 8 && i.cb ≤ 128 && 12 ≤ i.fls && i.fls ≤ 96 && i.fls % 3 = 0 &&
    i.qpc + i.spanc + i.cb + i.fls ≤ 256 && (List.range 8).all (fun p => fld i.brk (2 * p + 1) (2 * p) ≠ 3) &&
    1024 ≤ i.udpPort && 1 ≤ i.framing && i.framing ≤ 3 && k i.qpMax 1024 262144 && k i.cqMax 1024 65536 &&
    k i.spanMax 1024 1048576 && k i.keyMax 1024 4194304 && i.synkoMax ≤ 16384 && 1 ≤ i.instMax && i.instMax ≤ 1024 &&
    i.cbSlots ≤ 256 && (decide (i.cbSlots = 0) == decide (i.cb = 0))

/-- Field ranges of the BASIN and PARTNER sections (R107). -/
def rolesOk (i : Image) : Bool :=
  (match i.basin with
    | none => true
    | some x =>
      if i.roleCap = 2 then 10 ≤ x.hbPeriod ∧ x.hbPeriod ≤ 1600 ∧ 3 ≤ x.hbMiss ∧ x.hbMiss ≤ 15 ∧ x.plotGranules = 0
      else x.hbPeriod = 0 ∧ x.hbMiss = 0) &&
  (match i.partner with
    | none => true
    | some x => x.ovf ≤ 16384 ∧ x.push ≤ 65536 ∧ x.push % 256 = 0)

/-- Reserved bytes of the header and of every section are zero. -/
def imgReserved (b : Bytes) : Bool :=
  let z := fun (t : Nat) (rs : List (Nat × Nat)) => match secBody b t with
    | none => true
    | some x => rs.all (fun r => zeroIn x r.1 r.2)
  getBE b 7 1 = 0 && zeroIn b 24 36 && (dirEnts b).all (fun e => e.rsv = 0) && z 1 [(4, 4)] && z 2 [(5, 3)] &&
    z 3 [(24, 8)] && z 4 [(6, 2), (14, 2), (51, 1), (56, 8)] && z 5 [(8, 8)]

/-- R108 check 5. -/
def imgCheck5 (b : Bytes) : Bool :=
  let i := parseImage b
  let o := offerOf i
  imgReserved b && (modeCode (getBE b 14 1)).isSome && i.roleCap ≤ 2 &&
    (dirEnts b).all (fun e => (secLen e.type).isSome) && presence b i && poolsOk i && rolesOk i &&
    i.featmask < 2 ^ 30 && o.getLsbD 0 && o.getLsbD 1 && o.getLsbD 2 && o.getLsbD 3 && (o.getLsbD 19 || o.getLsbD 20)

/-- Bytes of one codebook slot (R361). -/
def imgSlotBytes (i : Image) : Nat := if i.cbSlots = 0 then 0 else i.cb * 262144 / i.cbSlots / 64 * 64

/-- The device-private carve-out in 64 MiB granules (R408). -/
def carveGranules (i : Image) : Nat :=
  let c := 2 ^ 30 + 1024 * i.qpMax + 256 * 2 * i.qpMax + 128 * i.cqMax + 256 * i.spanMax + 64 * i.keyMax
    + 128 * i.synkoMax + 256 * i.instMax + 2 * i.cbSlots * imgSlotBytes i
  (c + 2 ^ 26 - 1) / 2 ^ 26

/-- The number of set bits of a stack mask. -/
def popcount8 (m : BitVec 8) : Nat := ((List.range 8).filter (fun n => m.getLsbD n)).length

/-- Granules of HBM in the stacks of a mask: 64 GiB each. -/
def hbmGranules (m : BitVec 8) : Nat := 1024 * popcount8 m

/-- The plot granules an image asks for. -/
def plotAsked (i : Image) : Nat := (i.basin.map (·.plotGranules)).getD 0

/-- R108 check 6. -/
def imgCheck6 (stk : BitVec 8) (b : Bytes) : Bool :=
  carveGranules (parseImage b) + plotAsked (parseImage b) ≤ hbmGranules stk

/-- The plot length laid out (R408): a worker that names none gets what leaves a pool of ⌊T ÷ 16⌋ granules. -/
def plotLaid (stk : BitVec 8) (i : Image) : Nat :=
  let t := hbmGranules stk
  if i.roleCap ≠ 1 then 0
  else if plotAsked i ≠ 0 then plotAsked i
  else t - carveGranules i - t / 16

/-- The checks of R108 in order; check 6 is made where the stk that trained are known. -/
def imageStatus (v : Variant) (pen : Bool) (level : Nat) (stk : Option (BitVec 8)) (b : Bytes) : Byte :=
  (firstFail [(imgCheck1 b, Status.descriptorCrc), (imgCheck2 b, Status.descriptorCrc),
    (getBE b 12 2 ≤ level, Status.versionMismatch), (imgCheck4 v pen b, Status.notPermitted),
    (imgCheck5 b, Status.badField),
    ((match stk with | some m => imgCheck6 m b | none => true), Status.noResource)]).getD Status.ok

/-- The image's own bytes: IMAGE_LEN of them. -/
def imageBytes (b : Bytes) : Bytes := b.take (getBE b 8 4)

/-- A measured image: its digest is the SHA-384 over every byte before the trailer. -/
def imageDigest (b : Bytes) : Bytes := Sha.sha384 (b.take (getBE b 8 4 - 48))

/-! ### The golden built-in images (R409) -/

/-- One directory entry's bytes. -/
def dirEntBytes (t off : Nat) (body : Bytes) : Bytes :=
  putBE 2 t ++ zeros 2 ++ putBE 4 off ++ putBE 4 body.length ++ putBE 4 (crcN body)

/-- The golden built-in image of a mode; where its sections lie is not stated (assumption 8). -/
def builtinImage (m : PMode) (id : Nat) : Bytes :=
  let carve : Bytes := [4, 1, 0, 12, 0, 0, 0, 0]
  let ports := putBE 2 0 ++ putBE 2 47230 ++ [3] ++ zeros 3
  let pools := putBE 4 4096 ++ putBE 4 1024 ++ putBE 4 8192 ++ putBE 4 16384 ++ putBE 4 1024 ++ putBE 2 16 ++ putBE 2 0
    ++ zeros 8
  let part := putBE 4 0 ++ putBE 4 256 ++ zeros 8
  let n := if m = .h then 3 else 4
  let d := 64 + 16 * n
  let len := d + 64 + (if m = .h then 0 else 16) + 48
  let h := putBE 4 0x424E5448 ++ putBE 2 1 ++ putBE 1 n ++ [0] ++ putBE 4 len ++ putBE 2 1 ++ putBE 1 m.code ++ [0]
    ++ putBE 8 id ++ zeros 36
  let head := h ++ putBE 4 (crcN h)
  let dir := dirEntBytes 1 d carve ++ dirEntBytes 2 (d + 16) ports ++ dirEntBytes 3 (d + 32) pools
    ++ (if m = .h then [] else dirEntBytes 5 (d + 64) part)
  let body := carve ++ zeros 8 ++ ports ++ zeros 8 ++ pools ++ (if m = .h then [] else part)
  let all := head ++ dir ++ body
  all ++ Sha.sha384 all

/-- The strapped mode (R106): the variant's partner mode with STRAP_PEN 1, H-mode otherwise. -/
def strappedMode (s : State) : PMode :=
  if s.sys.straps.pen then (match s.sys.fuses.variant with | .p => .p | .d => .c) else .h

/-- The built-in image for the strapped mode. -/
def builtinFor (s : State) : Bytes :=
  match strappedMode s with
  | .p => builtinImage .p s.flash.idP
  | .c => builtinImage .c s.flash.idC
  | .h => builtinImage .h s.flash.idH

/-! ### The slot bundle (R101, R102, R105) -/

/-- A bundle header's fields. -/
structure Bundle where
  tenderOff : Nat
  tenderLen : Nat
  sluiceOff : Nat
  sluiceLen : Nat
  compatOff : Nat
  compatLen : Nat
  bennathOff : Nat
  bennathLen : Nat
  tenderTag : Nat
  sluiceTag : Nat
  sigOff : Nat
  deriving DecidableEq, Repr

/-- The slot holds a bundle (R96): its first four bytes read the MAGIC. -/
def holdsBundle (b : Bytes) : Bool := getBE (flashRead b 0 4) 0 4 = 0x4B51534C

/-- The header of a slot's bundle. -/
def bundleOf (b : Bytes) : Bundle :=
  let h := flashRead b 0 64
  { tenderOff := getBE h 8 4, tenderLen := getBE h 12 4, sluiceOff := getBE h 16 4, sluiceLen := getBE h 20 4,
    compatOff := getBE h 24 4, compatLen := getBE h 28 4, bennathOff := getBE h 32 4, bennathLen := getBE h 36 4,
    tenderTag := getBE h 40 4, sluiceTag := getBE h 44 4, sigOff := getBE h 48 4 }

/-- A slot's size: 64 MiB. -/
def slotSize : Nat := 2 ^ 26

/-- The sections of a bundle, header and signature included. -/
def bundleRanges (x : Bundle) : List (Nat × Nat) :=
  [(0, 64), (x.tenderOff, x.tenderLen), (x.sluiceOff, x.sluiceLen), (x.compatOff, x.compatLen),
   (x.bennathOff, x.bennathLen), (x.sigOff, 96)]

/-- MAGIC, BUNDLE_VER, HDR_CRC and every offset and length rule (R102). -/
def bundleHeaderOk (b : Bytes) : Bool :=
  let h := flashRead b 0 64
  let x := bundleOf b
  holdsBundle b && getBE h 4 2 = 1 && zeroIn h 6 2 && zeroIn h 52 8 && getBE h 60 4 = crcN (h.take 60) &&
    (bundleRanges x).all (fun r => r.1 % 4096 = 0 ∧ r.1 + r.2 ≤ slotSize) && pairwiseDisjoint (bundleRanges x)

/-- The signature over header bytes 0 to 59, Tender firmware, Sluice microcode and compatibility table. -/
def bundleSigned (b : Bytes) : Bool :=
  let x := bundleOf b
  Config.sigVerifies (flashRead b 0 60 ++ flashRead b x.tenderOff x.tenderLen ++ flashRead b x.sluiceOff x.sluiceLen
    ++ flashRead b x.compatOff x.compatLen) (flashRead b x.sigOff 96)

/-- The compatibility table's LEVEL for this silicon revision and this pair of tags (R105). -/
def bundleLevel (rev : Nat) (b : Bytes) : Option Nat :=
  let x := bundleOf b
  let t := flashRead b x.compatOff x.compatLen
  let n := getBE t 0 2
  if n = 0 ∨ n > 1024 ∨ t.length < 8 + 12 * n then none
  else ((List.range n).find? fun k =>
      getBE t (8 + 12 * k) 2 = rev ∧ getBE t (12 + 12 * k) 4 = x.tenderTag ∧ getBE t (16 + 12 * k) 4 = x.sluiceTag).map
    fun k => getBE t (10 + 12 * k) 2

/-- The checks of R102 in order. -/
def bundleStatus (rev : Nat) (b : Bytes) : Byte :=
  (firstFail [(bundleHeaderOk b, Status.descriptorCrc), (bundleSigned b, Status.notPermitted),
    ((bundleLevel rev b).isSome, Status.versionMismatch)]).getD Status.ok

/-- The Bennath image section of a bundle. -/
def bundleImage (b : Bytes) : Bytes :=
  let x := bundleOf b
  flashRead b x.bennathOff x.bennathLen

/-! ### The slot directory (R100, R103) -/

/-- A directory record. -/
structure DirRec where
  seq : Nat
  active : Nat
  try_ : Nat
  countA : Nat
  countB : Nat
  deriving DecidableEq, Repr

/-- A record is valid when its MAGIC matches and its CRC passes. -/
def dirValid (b : Bytes) : Bool :=
  b.length = 64 ∧ getBE b 0 4 = 0x4B514452 ∧ getBE b 60 4 = crcN (b.take 60)

/-- The fields of a record. -/
def dirRec (b : Bytes) : DirRec :=
  { seq := getBE b 4 4, active := getBE b 8 1, try_ := getBE b 9 1, countA := getBE b 12 4, countB := getBE b 16 4 }

/-- The bytes of a record. -/
def dirBytes (r : DirRec) : Bytes :=
  let b := putBE 4 0x4B514452 ++ putBE 4 r.seq ++ putBE 1 r.active ++ putBE 1 r.try_ ++ zeros 2 ++ putBE 4 r.countA
    ++ putBE 4 r.countB ++ zeros 40
  b ++ putBE 4 (crcN b)

/-- The valid record with the highest SEQ. -/
def dirBest : List Bytes → Option Bytes
  | [] => none
  | b :: r =>
    match dirBest r with
    | none => if dirValid b then some b else none
    | some x => if dirValid b && (dirRec x).seq < (dirRec b).seq then some b else some x

/-- The record in force (R100), as stored. -/
def dirStored (f : Flash) : Option Bytes := dirBest (f.dir0 ++ f.dir1)

/-- The record in force; slot A, no TRY and zero counts where none is valid. -/
def dirNow (f : Flash) : DirRec :=
  match dirStored f with
  | some b => dirRec b
  | none => { seq := 0, active := 0, try_ := 0, countA := 0, countB := 0 }

/-- Appends a record to one copy; a full copy is erased first. -/
def dirPush (l : List Bytes) (b : Bytes) : List Bytes := if l.length ≥ 1024 then [b] else l ++ [b]

/-- Appends a new record to both copies. -/
def dirAppend (s : State) (r : DirRec) : State :=
  let b := dirBytes { r with seq := r.seq + 1 }
  { s with flash.dir0 := dirPush s.flash.dir0 b, flash.dir1 := dirPush s.flash.dir1 b }

/-- The bytes of a slot. -/
def slotOf (f : Flash) : SlotId → Bytes
  | .a => f.a
  | .b => f.b
  | .golden => f.golden

/-- A slot's number in commands and directory records. -/
def slotNum (n : Nat) : SlotId := if n = 0 then .a else .b

end Sys2Proof.Machine
end

