-- ==== Sys2Proof/Machine/Boot.lean ====
section
/-!
DEFINITION. The boot flow from the candidate list to an applied structure (spec file 04, R96 to R109).
-/
namespace Sys2Proof.Machine

/-! ### Candidates (R96) -/

/-- The ACTIVE slot of the record in force. -/
def activeSlot (f : Flash) : SlotId := slotNum (dirNow f).active

/-- The slot other than a given one. -/
def otherSlot : SlotId → SlotId
  | .a => .b
  | _ => .a

/-- The slot TRY names. -/
def trySlot (f : Flash) : Option SlotId :=
  match (dirNow f).try_ with
  | 1 => some .a
  | 2 => some .b
  | _ => none

/-- The ordered candidates of the normal path; each slot once, and only slots that hold a bundle (assumption 9). -/
def normalCands (f : Flash) (useTry : Bool) : List (SlotId × Bool) :=
  let t := if useTry then trySlot f else none
  let tr := match t with | some x => [(x, true)] | none => []
  let act := activeSlot f
  let rest := [act, otherSlot act].filter (fun x => t ≠ some x)
  (tr ++ rest.map (fun x => (x, false)) ++ [(SlotId.golden, false)]).filter (fun x => holdsBundle (slotOf f x.1))

/-- The candidates by STRAP_BOOT (R96, R53). -/
def candidates (s : State) (useTry : Bool) : List (SlotId × Bool) :=
  if s.sys.straps.boot = 0 then normalCands s.flash useTry
  else [(SlotId.golden, false)].filter (fun x => holdsBundle (slotOf s.flash x.1))

/-- TRY names a slot that holds no bundle: the boot ROM appends a record with TRY = none (R96). -/
def dropEmptyTry (s : State) : State :=
  match trySlot s.flash with
  | some x => if holdsBundle (slotOf s.flash x) then s else dirAppend s { dirNow s.flash with try_ := 0 }
  | none => s

/-- Starts the boot ROM on a candidate list; with no candidate the device halts (R96, R97). -/
def startCands (s : State) (useTry : Bool) : State :=
  let s := if useTry ∧ s.sys.straps.boot = 0 then dropEmptyTry s else s
  let cs := candidates s useTry
  { s with boot.cands := cs, boot.cur := none, boot.abandoned := 0, boot.firstStatus := none,
           boot.anyMismatch := false, boot.activeMismatch := false, boot.accepted := none,
           boot.candA := Cand.reset, boot.candB := Cand.reset, boot.candG := Cand.reset,
           boot.stage := if cs = [] then .halted else .rom }

/-- Sets one byte of BN_CAND. -/
def setCand (s : State) (x : SlotId) (c : Cand) : State :=
  match x with
  | .a => { s with boot.candA := c }
  | .b => { s with boot.candB := c }
  | .golden => { s with boot.candG := c }

/-- CANDIDATE_ABANDONED (R96, R97): the next candidate follows, or the device halts. -/
def abandon (s : State) (x : SlotId) (st : Byte) : State :=
  let s := setCand s x { tried := true, status := st }
  let slotCand := x ≠ .golden
  { s with boot.cur := none, boot.accepted := none, boot.abandoned := s.boot.abandoned + 1,
           boot.firstStatus := if slotCand ∧ s.boot.firstStatus = none then some st else s.boot.firstStatus,
           boot.anyMismatch := s.boot.anyMismatch || (slotCand && st = Status.versionMismatch),
           boot.activeMismatch :=
             s.boot.activeMismatch || (x = activeSlot s.flash && st = Status.versionMismatch),
           boot.stage := if s.boot.cands = [] then .halted
                         else if s.boot.stage = .rom then .rom else .firmware }

/-- A verified bundle takes the stage to FIRMWARE with its tags and run level. -/
def takeBundle (s : State) (x : SlotId) (level : Nat) : State :=
  let f := slotOf s.flash x
  let b := bundleOf f
  let s := setCand s x { tried := true, status := Status.ok }
  let dig (off len : Nat) : Bytes := Sha.sha384 (flashRead f off len)
  let secs := [dig b.tenderOff b.tenderLen, dig b.sluiceOff b.sluiceLen, dig b.compatOff b.compatLen]
  { s with boot.cur := some x, boot.slot := x, boot.runLevel := level, boot.tenderTag := b.tenderTag,
           boot.sluiceTag := b.sluiceTag, boot.sections := secs, boot.stage := .firmware, clk.slLock := true, clk.fwLock := true }

/-- BUNDLE_VERIFY (R102, R104, R105): the next candidate is verified, or abandoned. -/
def execBundleVerify (s : State) : Result :=
  if s.sys.coldLow ∨ s.sys.warmLow ∨ s.sys.straps.test ∨ s.boot.warmBoot ∨ s.boot.cur ≠ none
    ∨ (s.boot.stage ≠ .rom ∧ s.boot.stage ≠ .firmware) then .next s
  else match s.boot.cands with
    | [] => .next s
    | (x, isTry) :: rest =>
      let s := { s with boot.cands := rest }
      let s := if isTry then dirAppend s { dirNow s.flash with try_ := 0 } else s
      let b := slotOf s.flash x
      match bundleLevel s.sys.fuses.siliconRev b with
      | some lv =>
        if bundleStatus s.sys.fuses.siliconRev b = Status.ok then .next (takeBundle s x lv)
        else .next (abandon s x (bundleStatus s.sys.fuses.siliconRev b))
      | none => .next (abandon s x (bundleStatus s.sys.fuses.siliconRev b))

/-- FIRMWARE_RUNNING (R97): Tender commands VNOM and the stage moves to IMAGE, or to HOLD on the hold path. After a warm
reset Tender leaves the voltage at its present value (assumption 10). -/
def execFirmwareRunning (s : State) : Result :=
  if s.sys.coldLow ∨ s.sys.warmLow ∨ s.boot.stage ≠ .firmware ∨ s.boot.cur = none then .next s
  else
    let v := s.sys.fuses.vnomMv
    let s := if s.boot.resumeLost then s else { sendV s v with lv.vnow := v }
    .next { s with lv.ready := true, boot.stage := if s.sys.straps.boot = 2 then .hold else .image }

/-! ### The image (R106, R108) -/

/-- The stacks known to have trained. -/
def trainedMask (s : State) : Option (BitVec 8) := if s.boot.trained then some s.boot.hbmInService else none

/-- R108 for an image against this device. -/
def imageFor (s : State) (level : Nat) (b : Bytes) : Byte :=
  imageStatus s.sys.fuses.variant s.sys.straps.pen level (trainedMask s) b

/-- The image the current candidate loads: a slot's own; for golden the ACTIVE slot's when only its tags failed and it
passes every check, else the built-in one (R106). -/
def chooseImage (s : State) (x : SlotId) : Bytes × ImgSrc :=
  match x with
  | .golden =>
    let act := activeSlot s.flash
    let b := bundleImage (slotOf s.flash act)
    if s.sys.straps.boot = 0 ∧ s.boot.activeMismatch ∧ imageFor s s.boot.runLevel b = Status.ok then
      (b, .slot act)
    else (builtinFor s, .builtin)
  | y => (bundleImage (slotOf s.flash y), .slot y)

/-- BN_CAND. -/
def candWord (s : State) : Nat :=
  let c := fun (x : Cand) => 128 * bit x.tried + x.status.toNat % 32
  c s.boot.candA * 2 ^ 24 + c s.boot.candB * 2 ^ 16 + c s.boot.candG * 2 ^ 8

/-- BOOT_FALLBACK (R106): on the normal path the golden bundle sets BN_STATUS.STATUS and is logged. -/
def bootFallback (s : State) : State :=
  if s.boot.cur = some .golden ∧ s.sys.straps.boot = 0 ∧ s.boot.accepted = none then
    let st := if s.boot.anyMismatch then Status.versionMismatch else s.boot.firstStatus.getD Status.ok
    logEv { s with boot.status := st } 0x0001 st 0x0E 0 (putLE 4 (candWord s))
  else s

/-- Accepts the chosen image, moving on to APPLY once the stacks have trained, or abandons the candidate. -/
def judgeImage (s : State) (x : SlotId) : State :=
  let c := chooseImage s x
  let st := imageFor s s.boot.runLevel c.1
  if st ≠ Status.ok then abandon s x st
  else
    { s with boot.accepted := some (parseImage (imageBytes c.1), imageDigest c.1), boot.src := c.2,
             boot.stage := if s.boot.trained then .apply else .image }

/-- IMAGE_VERIFY (R108, R106). -/
def execImageVerify (s : State) : Result :=
  match s.boot.cur with
  | none => .next s
  | some x =>
    if s.sys.coldLow ∨ s.sys.warmLow ∨ s.boot.stage ≠ .image ∨ s.boot.accepted ≠ none then .next s
    else .next (judgeImage (bootFallback s) x)

/-- Marks the stacks that failed training out of service, with an event each. -/
def trainStacks (s : State) (failed : BitVec 8) : State :=
  let s := { s with boot.trained := true, boot.hbmFail := failed, boot.hbmInService := ~~~failed,
                    clk.hbmLock := ~~~failed }
  ((List.range 8).filter (fun n => failed.getLsbD n)).foldl (fun s n => logEv s 0x0002 Status.ok 0x0E n []) s

/-- HBM_TRAINED (R97): training ends; an image already accepted is held against check 6 and the stage moves to APPLY. -/
def execHbmTrained (failed : BitVec 8) (s : State) : Result :=
  if s.sys.coldLow ∨ s.sys.warmLow ∨ s.boot.trained
    ∨ (s.boot.stage ≠ .firmware ∧ s.boot.stage ≠ .image ∧ s.boot.stage ≠ .hold) then .next s
  else
    let t := trainStacks s failed
    match s.boot.cur, s.boot.accepted with
    | some x, some _ => .next (judgeImage t x)
    | _, _ => .next t

/-- CONFIGURATION_REQUEST (R98, R144): Configuration Request Retry Status until READY or HOLD. DESIGN CHOICE (log 88): "until" is
read as a test of the present stage, so the answer is retry also in LOADING and in VAPEN after an IMAGE_LOAD, and in HALTED. Unsafe. -/
def configRetry (s : State) : Bool := s.boot.stage ≠ .ready ∧ s.boot.stage ≠ .hold

end Sys2Proof.Machine
end

