-- ==== Sys2Proof/Machine/Clock.lean ====
section
/-!
DEFINITION. Clocks and device time: clock gating, wakes, the Furrow PLL, the time servo, the loopback test of a port that
does not train again (spec file 03, R71 to R75, R93).
-/
namespace Sys2Proof.Machine

/-! ### Gating and wakes (R71 to R73) -/

/-- The links an engine serves (R76). -/
def engineLinks (s : State) (n : Nat) : List Nat :=
  let b := brkOf s (n / 2)
  let l := 4 * (n / 2)
  if b = 0 then [l] else if b = 1 then [l + n % 2] else [l + 2 * (n % 2), l + 2 * (n % 2) + 1]

/-- A block holds no work, no queued request and no unfinished memory access (R71). -/
def blkIdle (s : State) (b : Blk) : Bool :=
  match b with
  | .sluice n => n < 16 && (engineLinks s n).all (fun l => linkQuiet s l && s.rxHeld.all (fun x => x.1 ≠ l))
  | .furrow n => n < 48 && s.fw.slots.all (fun x => x.1 / 16 ≠ n) && s.fw.colls.all (fun x => x.1 / 16 ≠ n)
  | .tender n => n < 4 && s.mbx.running.isNone && s.mbx.waiting.isEmpty
  | .hbm n => n < 8 && s.pt.held.isEmpty && s.pt.hdmHeld.isEmpty
  | .headgate => s.infl.isEmpty && s.wqs.all (fun x => x.2.pi = x.2.ci && x.2.pushHeld.isEmpty)
  | .weir => true
  | .runnel => s.rn.streams.all (fun x => streamQuiet x.2) && s.rn.held.isEmpty
  | .synko => s.syPend.isEmpty && !handed s b
  | .spanUnit => s.ats.isEmpty && s.spans.all (fun x => x.2.moving.isNone && x.2.destroying.isNone)
  | .keyTable => s.keys.all (fun x => x.2.st ≠ 2) && !handed s b
  | .codebook => s.cbs.all (fun x => x.2.st ≠ .loading) && !handed s b
  | .culvert => s.cv.xfers.isEmpty && s.cv.bells.isEmpty

/-- LV_CLK_CTRL.GATE_HOLD in ns. -/
def gateHoldNs (s : State) : Nat := 100 * fld (getReg s 0x0C 0x600) 15 8

/-- Every Furrow core is gated. -/
def coresGated (s : State) : Bool := (List.range 48).all fun n => gated s (.furrow n)

/-- Gates a block's clock; with the last core, the time of R73 begins. -/
def gate (s : State) (b : Blk) : State :=
  let t := { s with clk.gated := b :: s.clk.gated }
  if isCore b && coresGated t then { t with clk.furrowFrom := some s.sys.now } else t

/-- BLOCK_GATE (R71): a block that has been idle for GATE_HOLD is gated; its state is kept. -/
def execBlockGate (g : GateReq) (s : State) : Result :=
  if s.sys.coldLow ∨ gated s g.blk ∨ !blkIdle s g.blk ∨ g.idleNs < gateHoldNs s then .next s else .next (gate s g.blk)

/-- WAKE_EVENT (R72, R73, R63): the block runs again, its PLL relocked; only a throttled region holds the wake. -/
def execWakeEvent (b : Blk) (s : State) : Result := .next (wakeBlk s b)

/-- FURROW_PLL_POWER_DOWN (R73): FW_PLL_KEEP is 0 and every core has been gated for 1 ms without a break. -/
def execFurrowPllPowerDown (s : State) : Result :=
  match s.clk.furrowFrom with
  | none => .next s
  | some t =>
    if s.sys.coldLow ∨ bitN (getReg s 0x0C 0x600) 0 ∨ !coresGated s then .next s
    else .next { advanceTo s (t + 1000000) with clk.fwLock := false }

/-! ### Device time (R74, R75) -/

/-- TN_DEVTIME_LO read (R74): bits 63 to 32 are latched. -/
def execDevtimeLoRead (s : State) : Result :=
  if !windowLive s then .next s
  else .next { setRd s (s.sys.now % 2 ^ 32) with sys.devtimeHi := hi32 s.sys.now }

/-- TN_TIME_CTRL.SRC. -/
def timeSrc (s : State) : Nat := fld (getReg s 0x0B 0x108) 1 0

/-- The servo takes a new offset, source minus device time: above 1 ms device time steps forward, otherwise its rate
removes the offset (R74). -/
def servoOffset (s : State) (off : Int) : State :=
  if 1000000 < off then { setNow s (s.sys.now + off.toNat) with sys.servo := 0, sys.locked := true }
  else { s with sys.servo := off, sys.locked := decide (-100 ≤ off ∧ off ≤ 100) }

/-- PTP_MESSAGE (R75): two-step, delay request-response; four timestamps give the offset. -/
def execPtpMessage (m : PtpMsg) (s : State) : Result :=
  if !windowLive s ∨ timeSrc s ≠ 1 ∨ m.link ≠ fld (getReg s 0x0B 0x108) 12 8 ∨ !(link s m.link).up then .next s
  else match m.kind with
    | .sync => .next { s with sys.ptpT1 := none, sys.ptpT2 := some s.sys.now, sys.ptpT3 := none }
    | .followUp t1 =>
      if s.sys.ptpT2 = none then .next s
      else .next (emit { s with sys.ptpT1 := some t1, sys.ptpT3 := some s.sys.now } (.ptpDelayReq m.link))
    | .delayResp t4 =>
      match s.sys.ptpT1, s.sys.ptpT2, s.sys.ptpT3 with
      | some t1, some t2, some t3 =>
        let off : Int := (((t1 : Int) - t2) + ((t4 : Int) - t3)) / 2
        .next (servoOffset { s with sys.ptpT1 := none, sys.ptpT2 := none, sys.ptpT3 := none } off)
      | _, _, _ => .next s

/-- PPS_IN_EDGE (R75): the edge marks a whole second, taken as the nearest one. -/
def execPpsInEdge (s : State) : Result :=
  if !windowLive s ∨ timeSrc s ≠ 2 then .next s
  else
    let r := s.sys.now % 1000000000
    .next (servoOffset s (if r < 500000000 then -(r : Int) else ((1000000000 - r : Nat) : Int)))

/-- One nanosecond passes: while the servo has an offset the rate differs by 200 ppm, one nanosecond in 5,000 (R74);
PPS_OUT rises at each whole second (R75). -/
def tickTime (s : State) : State :=
  let k := s.sys.subTick + 1
  let due : Bool := decide (5000 ≤ k)
  let step := if due ∧ 0 < s.sys.servo then 2 else if due ∧ s.sys.servo < 0 then 0 else 1
  let servo : Int := if due ∧ 0 < s.sys.servo then s.sys.servo - 1 else if due ∧ s.sys.servo < 0 then s.sys.servo + 1 else s.sys.servo
  { setNow s (s.sys.now + step) with
      sys.subTick := if due then 0 else k, sys.servo := servo,
      sys.locked := if servo = s.sys.servo then s.sys.locked else decide (-100 ≤ servo ∧ servo ≤ 100) }

/-! ### A port that does not train again (R93) -/

/-- RETRAIN_LOOPBACK (R93): 1 s after the miss the port is tested; a failure is a single-part fault. -/
def execRetrainLoopback (l : Nat) (pass : Bool) (s : State) : Result :=
  let x := link s l
  match x.trainSince with
  | none => .next s
  | some t =>
    if !linkExists s l ∨ x.up ∨ x.dorm ≠ .retrain then .next s
    else
      let s := putLink (advanceTo s (t + 1000000000)) l { x with trainSince := none }
      if pass then .next s
      else .next (openOwnWin (logEv (portDown (putPort s (l / 4) { port s (l / 4) with failed := true }) (l / 4)) 0x0023 Status.ok 0x02
        (l / 4) [0]))

end Sys2Proof.Machine
end

