-- ==== Sys2Proof/Machine/Float.lean ====
section
/-!
DEFINITION. Number formats (R189, R347): exact values, rounding to nearest even, FP32 arithmetic, conversions and MX
blocks.
-/
namespace Sys2Proof.Machine

/-! ### Exact values -/

/-- A floating-point datum: not a number, an infinity, or ±m × 2^e. -/
inductive Fp where
  | nan
  | inf (neg : Bool)
  | num (neg : Bool) (m : Nat) (e : Int)
  deriving DecidableEq, Repr

/-- Zero. -/
def Fp.zero : Fp := .num false 0 0

/-- The datum of a binary format with `mb` mantissa bits, a largest exponent field `emax` and lowest weight 2^qmin; `ieee`
says that the largest field holds infinities and NaN. -/
def fpOf (mb emax : Nat) (qmin : Int) (ieee : Bool) (w : Nat) : Fp :=
  let neg := bitN w (mb + Nat.log2 (emax + 1))
  let m := w % 2 ^ mb
  let x := w / 2 ^ mb % (emax + 1)
  if ieee ∧ x = emax then (if m = 0 then .inf neg else .nan)
  else if x = 0 then .num neg m qmin
  else .num neg (m + 2 ^ mb) (qmin + (x - 1 : Nat))

/-- FP32 (R189). -/
def of32 (w : Nat) : Fp := fpOf 23 255 (-149) true w
/-- FP16. -/
def of16 (w : Nat) : Fp := fpOf 10 31 (-24) true w
/-- BF16. -/
def ofBf (w : Nat) : Fp := fpOf 7 255 (-133) true w
/-- FP8-E4M3: no infinity; the two all-ones patterns are NaN. -/
def ofE4 (w : Nat) : Fp := if w % 128 = 127 then .nan else fpOf 3 15 (-9) false w
/-- FP8-E5M2. -/
def ofE5 (w : Nat) : Fp := fpOf 2 31 (-16) true w
/-- An integer of `n` bits, two's complement. -/
def ofInt (n w : Nat) : Fp :=
  let v := w % 2 ^ n
  if bitN v (n - 1) then .num true (2 ^ n - v) 0 else .num false v 0

/-! ### Rounding to nearest even (R347) -/

/-- `m / 2^k` to nearest, ties to even. -/
def rne (m k : Nat) : Nat :=
  let f := m / 2 ^ k
  let r := m % 2 ^ k
  if 2 * r > 2 ^ k ∨ (2 * r = 2 ^ k ∧ f % 2 = 1) then f + 1 else f

/-- The magnitude bits of m × 2^e in a format of `p` significant bits and lowest weight 2^qmin, with no upper limit. -/
def magBits (p : Nat) (qmin : Int) (m : Nat) (e : Int) : Nat :=
  if m = 0 then 0
  else
    let q := max (e + (Nat.log2 m : Nat) - (p - 1 : Nat)) qmin
    let n := if q ≤ e then m * 2 ^ (e - q).toNat else rne m (q - e).toNat
    (q - qmin).toNat * 2 ^ (p - 1) + n

/-- The canonical quiet NaN of FP32. -/
def nan32 : Nat := 0x7FC00000

/-- Rounds a datum to FP32. -/
def to32 : Fp → Nat
  | .nan => nan32
  | .inf n => bit n * 2 ^ 31 + 0x7F800000
  | .num n m e => bit n * 2 ^ 31 + min (magBits 24 (-149) m e) 0x7F800000

/-- The nearest integer, ties to even, with its sign. -/
def toRounded (neg : Bool) (m : Nat) (e : Int) : Int :=
  let v := if 0 ≤ e then m * 2 ^ e.toNat else rne m (-e).toNat
  if neg then -(v : Int) else v

/-- An integer of `n` bits as its pattern. -/
def intBits (n : Nat) (v : Int) : Nat := (v % 2 ^ n).toNat

/-- Clamps an integer to `n` bits. -/
def clampInt (n : Nat) (v : Int) : Int := max (-(2 ^ (n - 1) : Int)) (min (2 ^ (n - 1) - 1) v)

/-- Rounds to an integer format: saturating, NaN to 0 (R347). -/
def toIntF (n : Nat) : Fp → Nat
  | .nan => 0
  | .inf neg => if neg then 2 ^ (n - 1) else 2 ^ (n - 1) - 1
  | .num neg m e => intBits n (clampInt n (toRounded neg m e))

/-- Converts a datum to a format of R189 other than the MX ones (R347). -/
def toFmt (f : Nat) (sat : Bool) (x : Fp) : Nat :=
  if f = 1 then to32 x
  else if f = 2 then
    (match x with
    | .nan => 0x7E00
    | .inf n => bit n * 2 ^ 15 + 0x7C00
    | .num n m e => bit n * 2 ^ 15 + min (magBits 11 (-24) m e) 0x7C00)
  else if f = 3 then
    (match x with
    | .nan => 0x7FC0
    | .inf n => bit n * 2 ^ 15 + 0x7F80
    | .num n m e => bit n * 2 ^ 15 + min (magBits 8 (-133) m e) 0x7F80)
  else if f = 4 then
    (match x with
    | .nan => 0x7F
    | .inf n => bit n * 2 ^ 7 + 0x7E
    | .num n m e => bit n * 2 ^ 7 + min (magBits 4 (-9) m e) 0x7E)
  else if f = 5 then
    let top := if sat then 0x7B else 0x7C
    (match x with
    | .nan => 0x7E
    | .inf n => bit n * 2 ^ 7 + top
    | .num n m e => bit n * 2 ^ 7 + min (magBits 3 (-16) m e) top)
  else if f = 9 then toIntF 32 x
  else toIntF 8 x

/-- The datum of a packed value of a format other than the MX ones. -/
def ofFmt (f w : Nat) : Fp :=
  if f = 1 then of32 w else if f = 2 then of16 w else if f = 3 then ofBf w else if f = 4 then ofE4 w
  else if f = 5 then ofE5 w else if f = 9 then ofInt 32 w else ofInt 8 w

/-! ### FP32 arithmetic (R347) -/

/-- The signed integer of a datum at a weight not above its own. -/
def atWeight (q : Int) (neg : Bool) (m : Nat) (e : Int) : Int :=
  let v : Int := (m * 2 ^ (e - q).toNat : Nat)
  if neg then -v else v

/-- The exact sum. -/
def fpAdd : Fp → Fp → Fp
  | .nan, _ => .nan
  | _, .nan => .nan
  | .inf a, .inf b => if a = b then .inf a else .nan
  | .inf a, _ => .inf a
  | _, .inf b => .inf b
  | .num a m e, .num b n k =>
    let q := min e k
    let v := atWeight q a m e + atWeight q b n k
    if v = 0 then .num (a && b) 0 0 else .num (v < 0) v.natAbs q

/-- Changes the sign. -/
def fpNeg : Fp → Fp
  | .nan => .nan
  | .inf a => .inf (!a)
  | .num a m e => .num (!a) m e

/-- The exact product. -/
def fpMul : Fp → Fp → Fp
  | .nan, _ => .nan
  | _, .nan => .nan
  | .inf a, .inf b => .inf (a != b)
  | .inf a, .num b n _ => if n = 0 then .nan else .inf (a != b)
  | .num a m _, .inf b => if m = 0 then .nan else .inf (a != b)
  | .num a m e, .num b n k => .num (a != b) (m * n) (e + k)

/-- The quotient with enough bits, the last one sticky, that a later rounding to FP32 is the correct one. -/
def fpDiv : Fp → Fp → Fp
  | .nan, _ => .nan
  | _, .nan => .nan
  | .inf _, .inf _ => .nan
  | .inf a, .num b _ _ => .inf (a != b)
  | .num a _ _, .inf b => .num (a != b) 0 0
  | .num a m e, .num b n k =>
    if n = 0 then (if m = 0 then .nan else .inf (a != b))
    else
      let sh := 64 + Nat.log2 n
      let t := m * 2 ^ sh
      .num (a != b) (2 * (t / n) + (if t % n = 0 then 0 else 1)) (e - k - sh - 1)

/-- `a + b` in FP32. -/
def add32 (a b : Nat) : Nat := to32 (fpAdd (of32 a) (of32 b))
/-- `a - b` in FP32. -/
def sub32f (a b : Nat) : Nat := to32 (fpAdd (of32 a) (fpNeg (of32 b)))
/-- `a × b` in FP32. -/
def mul32 (a b : Nat) : Nat := to32 (fpMul (of32 a) (of32 b))
/-- `a × b + c` with one rounding. -/
def fma32 (a b c : Nat) : Nat := to32 (fpAdd (fpMul (of32 a) (of32 b)) (of32 c))
/-- `a ÷ b` in FP32. -/
def div32 (a b : Nat) : Nat := to32 (fpDiv (of32 a) (of32 b))

/-- `x < y` for data that are not NaN. -/
def fpLt : Fp → Fp → Bool
  | .nan, _ => false
  | _, .nan => false
  | .inf a, .inf b => a && !b
  | .inf a, _ => a
  | _, .inf b => !b
  | .num a m e, .num b n k => let q := min e k; atWeight q a m e < atWeight q b n k

/-- `x = y` for data that are not NaN: the zeros are equal. -/
def fpEq (x y : Fp) : Bool := x ≠ .nan && y ≠ .nan && !fpLt x y && !fpLt y x

/-- The sign of an FP32 word. -/
def neg32 (w : Nat) : Bool := bitN w 31

/-- MAX: a NaN operand yields the canonical NaN (R318); of two zeros the positive one. -/
def max32 (a b : Nat) : Nat :=
  let x := of32 a
  let y := of32 b
  if x = .nan ∨ y = .nan then nan32
  else if fpLt x y then b else if fpLt y x then a else if neg32 a then b else a

/-- MIN: a NaN operand yields the canonical NaN (R318); of two zeros the negative one. -/
def min32 (a b : Nat) : Nat :=
  let x := of32 a
  let y := of32 b
  if x = .nan ∨ y = .nan then nan32
  else if fpLt x y then a else if fpLt y x then b else if neg32 a then a else b

/-- A signed 32-bit word as an integer. -/
def sInt (w : Nat) : Int := (BitVec.ofNat 32 w).toInt

/-! ### MX blocks (R189, R347): 32 elements and one E8M0 scale, the scale in byte 0 -/

/-- The bits of one element: MXFP6 6, MXFP4 4, MXINT8 8. -/
def mxBits (f : Nat) : Nat := if f = 6 then 6 else if f = 7 then 4 else 8

/-- The bytes of one block. -/
def mxBytes (f : Nat) : Nat := 1 + 4 * mxBits f

/-- An element without its scale: E3M2, E2M1, or an 8-bit integer in units of 2^-6. -/
def mxElem (f w : Nat) : Fp :=
  if f = 6 then fpOf 2 7 (-4) false w
  else if f = 7 then fpOf 1 3 (-1) false w
  else match ofInt 8 w with | .num n m _ => .num n m (-6) | x => x

/-- The elements of a block, element k in bits `k × b` on of the bytes after the scale. -/
def mxWords (f : Nat) (b : Bytes) : List Nat :=
  let v := ofLE (b.drop 1)
  (List.range 32).map (fun k => v / 2 ^ (k * mxBits f) % 2 ^ mxBits f)

/-- The 32 data of a block: scale 0xFF makes every element NaN. -/
def mxData (f : Nat) (b : Bytes) : List Fp :=
  let s := getLE b 0 1
  (mxWords f b).map (fun w =>
    if s = 255 then .nan
    else match mxElem f w with | .num n m e => .num n m (e + s - 127) | x => x)

/-- The 32 FP32 words of a block. -/
def mxUnpack (f : Nat) (b : Bytes) : List Nat := (mxData f b).map to32

/-- The greatest magnitude of a list of numbers: the pair of its mantissa and weight. -/
def amaxOf (l : List Fp) : Nat × Int :=
  l.foldl (fun a x => match x with
    | .num _ m e => if fpLt (.num false a.1 a.2) (.num false m e) then (m, e) else a
    | _ => a) (0, 0)

/-- One element of an encoded block: nearest even after scaling by 2^-s, saturating (R347). -/
def mxPut (f : Nat) (s : Int) (x : Fp) : Nat :=
  match x with
  | .num n m e =>
    let k := e - s
    if f = 6 then bit n * 32 + min (magBits 3 (-4) m k) 31
    else if f = 7 then bit n * 8 + min (magBits 2 (-1) m k) 7
    else intBits 8 (clampInt 8 (toRounded n m (k + 6)))
  | _ => 0

/-- emax of the element format (R347). -/
def mxEmax (f : Nat) : Int := if f = 6 then 4 else if f = 7 then 2 else 0

/-- Encodes 32 data as one block (R347). A NaN or an infinity gives scale 0xFF, with elements of 0. -/
def mxPack (f : Nat) (l : List Fp) : Bytes :=
  let bad := l.any (fun x => match x with | .num _ _ _ => false | _ => true)
  let am := amaxOf l
  let s : Int := if am.1 = 0 then -127
    else max (-127) (min 127 (am.2 + (Nat.log2 am.1 : Nat) - mxEmax f))
  let w := if bad then List.replicate 32 0 else l.map (mxPut f s)
  let v := w.foldr (fun x acc => x + acc * 2 ^ mxBits f) 0
  let sc := if bad then 255 else (s + 127).toNat
  BitVec.ofNat 8 sc :: putLE (4 * mxBits f) v

/-! ### Encoded buffers (R189) -/

/-- Cuts a list into pieces of `n`. -/
def chunks (n : Nat) : Nat → Bytes → List Bytes
  | 0, _ => []
  | k + 1, b => if b = [] then [] else b.take n :: chunks n k (b.drop n)

/-- The elements of an encoded buffer as data. -/
def decodeBuf (f : Nat) (b : Bytes) : List Fp :=
  if 6 ≤ f ∧ f ≤ 8 then ((chunks (mxBytes f) b.length b).map (mxData f)).flatten
  else
    let n := if f = 1 ∨ f = 9 then 4 else if f = 2 ∨ f = 3 then 2 else 1
    (chunks n b.length b).map (fun x => ofFmt f (ofLE x))

/-- Cuts a list of data into blocks of 32. -/
def blocks32 : Nat → List Fp → List (List Fp)
  | 0, _ => []
  | k + 1, l => if l = [] then [] else l.take 32 :: blocks32 k (l.drop 32)

/-- Encodes data in a format. -/
def encodeBuf (f : Nat) (l : List Fp) : Bytes :=
  if 6 ≤ f ∧ f ≤ 8 then ((blocks32 l.length l).map (mxPack f)).flatten
  else
    let n := if f = 1 ∨ f = 9 then 4 else if f = 2 ∨ f = 3 then 2 else 1
    (l.map (fun x => putLE n (toFmt f false x))).flatten

end Sys2Proof.Machine
end

