-- ==== Sys2Proof/Machine/Codebook.lean ====
section
/-!
DEFINITION. Codebooks: slots, loading, the encoded line, decoding and encoding, slot commands (spec file 16, R361 to R374).
-/
namespace Sys2Proof.Machine

/-! ### Codebook contents (R362, R363) -/

/-- The bytes of one element of an ELEM code. -/
def elemBytes (elem : Nat) : Nat := if elem = 1 then 4 else 2

/-- Element `e` of entry `i`, as FP32 (R362, R367). -/
def cbElem (c : CbSlot) (i e : Nat) : Nat :=
  let n := elemBytes c.elem
  to32 (ofFmt c.elem (getLE c.data ((i * c.vlen + e) * n) n))

/-- Entry `i`. -/
def cbEntry (c : CbSlot) (i : Nat) : List Nat := (List.range c.vlen).map (cbElem c i)

/-- CBMAX (R363): the largest magnitude among the finite elements, as FP32. -/
def cbMax (elem : Nat) (data : Bytes) : Nat :=
  let n := elemBytes elem
  (chunks n data.length data).foldl (fun m b =>
    let w := to32 (ofFmt elem (ofLE b)) % 2 ^ 31
    if w < 0x7F800000 ∧ m < w then w else m) 0

/-- The FP32 sum of squared differences, in element order, each operation rounded (R368). -/
def sqDist (v e : List Nat) : Nat :=
  (List.zip v e).foldl (fun a p => let d := sub32f p.1 p.2; add32 a (mul32 d d)) 0

/-- A distance beats another: smaller, or a number where the other is not one. -/
def closer (a b : Nat) : Bool := fpLt (of32 a) (of32 b) || (of32 b = .nan && of32 a ≠ .nan)

/-- The index of the nearest entry; a tie goes to the lowest (R344, R368). -/
def nearest (c : CbSlot) (v : List Nat) : Nat :=
  ((List.range c.entries).foldl (fun (m : Nat × Nat) i =>
    let d := sqDist v (cbEntry c i)
    if i = 0 ∨ closer d m.2 then (i, d) else m) (0, 0)).1

/-! ### The encoded line (R365 to R368) -/

/-- K: codes per line. -/
def cbK (c : CbSlot) : Nat := if c.entries = 256 then 48 else 32

/-- The bits of a code. -/
def cbBits (c : CbSlot) : Nat := if c.entries = 256 then 8 else 12

/-- Lines of a tensor of `n` elements. -/
def cbLines (c : CbSlot) (n : Nat) : Nat := (n / c.vlen + cbK c - 1) / cbK c

/-- Cuts a list into pieces of `n`. -/
def pieces {α : Type} (n : Nat) : Nat → List α → List (List α)
  | 0, _ => []
  | k + 1, l => match l with | [] => [] | _ => l.take n :: pieces n k (l.drop n)

/-- Encodes one sub-block: its gain and its codes (R368). -/
def encSub (c : CbSlot) (vs : List (List Nat)) : Nat × List Nat :=
  let clean (w : Nat) : Nat := if 0x7F800000 ≤ w % 2 ^ 31 then 0 else w
  let vs := vs.map (List.map clean)
  let amax := vs.flatten.foldl (fun m w => max m (w % 2 ^ 31)) 0
  if amax = 0 ∨ c.cbmax = 0 then (0, vs.map (fun _ => 0))
  else
    let g := div32 amax c.cbmax.toNat
    (g, vs.map (fun v => nearest c (v.map (fun w => div32 w g))))

/-- One line of at most K vectors (R365). -/
def encLine (c : CbSlot) (vs : List (List Nat)) : Bytes :=
  let s := cbK c / 4
  let subs := (List.range 4).map (fun q => encSub c ((vs.drop (q * s)).take s))
  let codes := (subs.map (fun x => x.2)).flatten
  let v := codes.foldr (fun x acc => x + acc * 2 ^ cbBits c) 0
  (subs.map (fun x => putLE 4 x.1)).flatten ++ putLE 48 v

/-- Encodes FP32 words as a tensor (R366, R368). -/
def encTensor (c : CbSlot) (l : List Nat) : Bytes :=
  let vs := pieces c.vlen l.length l
  ((pieces (cbK c) vs.length vs).map (encLine c)).flatten

/-- Decodes the first `n` elements of a tensor as FP32 words (R367). -/
def decTensor (c : CbSlot) (n : Nat) (b : Bytes) : List Nat :=
  ((List.range (n / c.vlen)).map fun j =>
    let line := slice b (64 * (j / cbK c)) 64
    let m := j % cbK c
    let g := getLE line (4 * (m / (cbK c / 4))) 4
    let code := ofLE (line.drop 16) / 2 ^ (m * cbBits c) % 2 ^ cbBits c
    (cbEntry c code).map (mul32 g)).flatten

/-! ### Loading (R361, R363) -/

/-- The slot is LOADING (R362). -/
def cbLoading (s : State) (n : Nat) : Bool := match Tab.find s.cbs n with | some c => c.st = .loading | none => false

/-- A slot whose load has been admitted: its previous contents are void (R363). -/
def loadingSlot : CbSlot :=
  { st := .loading, data := [], crc := 0, cbmax := 0, vlen := 0, entries := 0, elem := 0, bad1 := false, bad2 := false }

/-- The slot that an entry's bytes fill (R363). -/
def loadedSlot (e b : Bytes) : CbSlot :=
  { st := .loaded, data := b, crc := crc32c b, cbmax := BitVec.ofNat 32 (cbMax (getLE e 16 1) b), vlen := getLE e 14 1,
    entries := if getLE e 15 1 = 0 then 256 else 4096, elem := getLE e 16 1, bad1 := false, bad2 := false }

/-- The read of an admitted CB_LOAD (R363): its slot is LOADED and the entry complete, or EMPTY where the read fails. -/
def cbRead (s : State) (q i inst : Nat) (e : Bytes) : Result :=
  match readMemAt (admOf s q i) s inst (getLE e 20 8) (getLE e 32 4) with
  | .wait s => .next s
  | .fault s st r => .next (finishR { s with cbs := Tab.del s.cbs (getLE e 12 2) } q i st r)
  | .ok s b =>
    .next (finish { s with cbs := Tab.put s.cbs (getLE e 12 2) (loadedSlot e b) } q i
      { status := Status.ok, cflags := 0, detail := 0, bytes := getLE e 32 4, aux := 0 })

/-- CB_LOAD (R361, R363): admission by key and translation of the whole range, which leaves the slot LOADING; then the read. -/
def execCbLoad (q i : Nat) (s : State) : Result :=
  match mayDispatch s q i 0x23 with
  | none => .next s
  | some (x, r) =>
    let e := r.ent
    let len := getLE e 32 4
    if slotBytes s < len then .next (finishSt s q i Status.noResource)
    else match admitOnce s q i x.inst r [{ key := getLE e 28 4, need := rRead, addr := getLE e 20 8, len := len }] with
      | (s, some st) => .next (finishSt s q i st)
      | (s, none) =>
        if cbLoading s (getLE e 12 2) then cbRead s q i x.inst e
        else match probe false (admOf s q i) (len + 1) s x.inst (getLE e 20 8) len with
          | .wait s => .next s
          | .fault s st r => .next (finishR s q i st r)
          | .ok s _ => cbRead { s with cbs := Tab.put s.cbs (getLE e 12 2) loadingSlot } q i x.inst e

/-! ### Slot commands (R373) -/

/-- The slot selected in an instance page. -/
def cbSel (s : State) (inst : Nat) : Nat := getPage s inst 0x300

/-- Checks 1 to 3 of R373. -/
def cbHead (s : State) (inst : Nat) (w : RegWr) : List (Bool × Byte) :=
  [(noRsv w 0xFFFFFFF0 && decide (cbSel s inst < cbSlots s), Status.badField), (instHas s inst 14, Status.featureNotNegotiated),
   (owns1 s.own.cb (cbSel s inst) inst, Status.notPermitted)]

/-- The codes of the slot states (R362); EMPTY is 0. -/
def cbCode : CbState → Nat
  | .loading => 1
  | .loaded => 2
  | .poisoned => 3

/-- CB_SCMD QUERY (R373): CB_SINFO, CB_SCRC, CB_SMAX. -/
def execCbScmdQuery (inst : Nat) (w : RegWr) (s : State) : Result :=
  onCmd w 1 s (pageCmd s inst 0x304 0x308 w (cbHead s inst w) (fun s =>
    let put (s : State) (a b c : Nat) : State := putPage (putPage (putPage s inst 0x30C a) inst 0x310 b) inst 0x314 c
    match Tab.find s.cbs (cbSel s inst) with
    | none => put s 0 0 0
    | some c =>
      if c.st = .loading then put s (2 ^ 28) 0 0
      else put s (cbCode c.st * 2 ^ 28 + c.elem * 2 ^ 24 + c.vlen * 2 ^ 16 + bit (c.entries = 4096) * 256) c.crc.toNat c.cbmax.toNat))

/-- An accepted request that names a slot is incomplete; a launch whose argument block is not read yet may name any (assumption 108). -/
def cbBusy (s : State) (n : Nat) : Bool :=
  s.infl.any (fun p => p.2.done.isNone && (match cbNamed p.2 with | some l => l.contains n | none => true))

/-- CB_SCMD CLEAR (R373). -/
def execCbScmdClear (inst : Nat) (w : RegWr) (s : State) : Result :=
  let n := cbSel s inst
  onCmd w 2 s (pageCmd s inst 0x304 0x308 w (cbHead s inst w ++ [(!cbLoading s n && !cbBusy s n, Status.busy)])
    (fun s => { s with cbs := Tab.del s.cbs n }))

/-- CB_SLOT_ERROR (R364): an uncorrectable error in a LOADED slot. -/
def execCbSlotError (n : Nat) (s : State) : Result :=
  match Tab.find s.cbs n with
  | none => .next s
  | some c =>
    if c.st ≠ .loaded then .next s
    else .next (logEv { s with cbs := Tab.put s.cbs n { c with st := .poisoned } } 0x0054 0 0x09 n [0])

end Sys2Proof.Machine
end

