-- ==== Sys2Proof/Machine/Furrow.lean ====
section
/-!
DEFINITION. Furrow's thread groups: slots and shares, launches, retirement, traps, the fetch and issue of an instruction,
the save area (spec file 15, R335 to R359).
-/
namespace Sys2Proof.Machine

/-! ### Slots and shares (R335, R337, R379) -/

/-- The key of a slot. -/
def fwKey (core slot : Nat) : Nat := 16 * core + slot

/-- A core in service (R335). -/
def coreIn (s : State) (c : Nat) : Bool := decide (c < 48) && s.fw.cores.getLsbD c

/-- A slot that holds neither a group nor a collective. -/
def slotFree (s : State) (k : Nat) : Bool := coreIn s (k / 16) && !Tab.has s.fw.slots k && !Tab.has s.fw.colls k

/-- The occupied slots of a core. -/
def coreUse (s : State) (c : Nat) : Nat :=
  (s.fw.slots.filter (fun p => p.1 / 16 = c)).length + (s.fw.colls.filter (fun p => p.1 / 16 = c)).length

/-- Slots of the in-service cores. -/
def slotsInService (s : State) : Nat := 16 * ((List.range 48).filter (coreIn s)).length

/-- The slot of R337: the in-service core, none under test (R404), with the fewest occupied slots, lowest core on a tie, then its lowest free slot. -/
def pickSlot (s : State) : Option Nat :=
  let cores := (List.range 48).filter (fun c => coreIn s c && coreUse s c < 16 && !underTest s 2 c)
  match cores with
  | [] => none
  | c0 :: r =>
    let c := r.foldl (fun m c => if coreUse s c < coreUse s m then c else m) c0
    ((List.range 16).map (fwKey c)).find? (slotFree s)

/-- The slots in use over the array (FW_BUSY). -/
def slotsBusy (s : State) : Nat := s.fw.slots.length + s.fw.colls.length

/-- An instance may take one more slot: its FW_SLOTS, and the reservations the others have not filled (R379). -/
def mayTakeSlot (s : State) (n : Nat) : Bool :=
  match Tab.find s.insts n with
  | none => false
  | some x =>
    let owedR := ((s.insts.filter (fun p => p.1 ≠ n)).map (fun p => p.2.fwResv - slotsOf s p.1)).sum
    slotsOf s n < x.fwSlots && slotsBusy s < slotsInService s && owedR ≤ slotsInService s - slotsBusy s - 1

/-- A launch with groups that wait for a slot. -/
def launchWaits (l : Launch) : Bool := l.rerun ≠ [] || (!l.stopped && l.next < l.groups)

/-- No launch or Furrow-path collective of the instance that was dispatched earlier waits for a slot (R337). -/
def firstWaiting (s : State) (n order : Nat) : Bool :=
  s.fw.launches.all (fun p => p.2.inst ≠ n || !launchWaits p.2 || order ≤ p.2.order)
  && s.groups.all (fun p => match p.2.coll with
      | some c => p.2.inst ≠ n || c.runnel || order ≤ c.order || s.fw.colls.any (fun x => x.2 = p.1)
      | none => true)

/-! ### Group state (R338, R339, R359) -/

/-- Register `r` of a lane. -/
def Tg.vr (t : Tg) (r lane : Nat) : Nat := (Tab.getD t.v (32 * r + lane) 0).toNat

/-- Writes register `r` on the lanes of a mask. -/
def Tg.setV (t : Tg) (r mask : Nat) (f : Nat → Nat) : Tg :=
  { t with v := (List.range 32).foldl (fun v k => if bitN mask k then Tab.put v (32 * r + k) (BitVec.ofNat 32 (f k)) else v) t.v }

/-- Predicate `j` as a mask; p0 always reads 1. -/
def Tg.pr (t : Tg) (j : Nat) : Nat := if j = 0 then 2 ^ 32 - 1 else (Tab.getD t.p j 0).toNat

/-- Writes predicate `j` on the lanes of a mask; p0 ignores it. -/
def Tg.setP (t : Tg) (j mask : Nat) (f : Nat → Bool) : Tg :=
  let w := (List.range 32).foldl (fun a k => a + (if bitN mask k then bit (f k) else bit (bitN (t.pr j) k)) * 2 ^ k) 0
  { t with p := Tab.put t.p j (BitVec.ofNat 32 w) }

/-- Uniform register `j`. -/
def Tg.ur (t : Tg) (j : Nat) : Nat := (Tab.getD t.u j 0).toNat

/-- Writes uniform register `j`. -/
def Tg.setU (t : Tg) (j v : Nat) : Tg := { t with u := Tab.put t.u j (BitVec.ofNat 64 v) }

/-- The stack pointer. -/
def Tg.sp (t : Tg) : Nat := t.ur 15

/-- A group at its start (R338). -/
def Tg.start (q i index : Nat) (l : Launch) (age now dog : Nat) : Tg :=
  { st := .running, q := q, i := i, index := index, age := age, v := [], p := [],
    u := [(0, BitVec.ofNat 64 index), (1, BitVec.ofNat 64 l.groups), (2, BitVec.ofNat 64 l.localBytes), (15, BitVec.ofNat 64 l.localBytes)],
    pc := l.entry, inHandler := false, result := 0, status := 0, cause := 0, dbl := false, faultAddr := 0, lanes := 0,
    pendTrap := none, atomg := 0, staged := [], skipBreak := false, stepLeft := none, started := now, ran := 0,
    ranAt := now, watchdog := dog, dogBarked := false, localMem := [] }

/-- The 4,352 bytes of the save area (R359). -/
def Tg.save (t : Tg) : Bytes :=
  putLE 8 t.pc ++ [t.cause, BitVec.ofNat 8 (bit t.inHandler + 2 * bit t.dbl)] ++ putLE 2 t.index ++ putLE 4 t.atomg
    ++ putLE 8 t.faultAddr.toNat ++ putLE 4 t.lanes.toNat ++ putLE 4 t.result.toNat ++ [t.status] ++ zeros 31
    ++ ((List.range 16).map (fun j => putLE 8 (t.ur j))).flatten ++ ((List.range 8).map (fun j => putLE 4 (t.pr j))).flatten
    ++ zeros 32 ++ ((List.range 1024).map (fun k => putLE 4 (Tab.getD t.v k 0).toNat)).flatten

/-- The state written back from a save area's writable bytes: PC, u, p and v. -/
def Tg.load (t : Tg) (b : Bytes) : Tg :=
  { t with pc := getLE b 0 8, u := (List.range 16).map (fun j => (j, BitVec.ofNat 64 (getLE b (64 + 8 * j) 8))),
           p := (List.range 8).map (fun j => (j, BitVec.ofNat 32 (if j = 0 then 0 else getLE b (192 + 4 * j) 4))),
           v := (List.range 1024).filterMap (fun k =>
             let w := getLE b (256 + 4 * k) 4
             if w = 0 then none else some (k, BitVec.ofNat 32 w)) }

/-- A push of 32 bytes is valid (R339). -/
def pushOk (l : Launch) (t : Tg) : Bool :=
  t.sp % 32 = 0 && l.localBytes + 32 ≤ t.sp + l.stack && t.sp ≤ l.localBytes && 32 ≤ t.sp

/-- A pop of 32 bytes is valid (R339). -/
def popOk (l : Launch) (t : Tg) : Bool := t.sp % 32 = 0 && l.localBytes ≤ t.sp + l.stack && t.sp + 32 ≤ l.localBytes

/-- Pushes 32 bytes. -/
def Tg.push (t : Tg) (b : Bytes) : Tg :=
  { t.setU 15 (t.sp - 32) with localMem := Mem.write t.localMem (t.sp - 32) (fit 32 b) }

/-! ### Starting groups (R337, R338, R354) -/

/-- Replaces a group in its slot. -/
def putTg (s : State) (k : Nat) (t : Tg) : State := { s with fw := { s.fw with slots := Tab.put s.fw.slots k t } }

/-- Replaces a launch record. -/
def putLaunch (s : State) (q i : Nat) (l : Launch) : State :=
  { s with fw := { s.fw with launches := Tab.put s.fw.launches (inflKey q i) l } }

/-- Starts the next group of a launch in a slot. -/
def startGroup (s : State) (q i k : Nat) (l : Launch) : State :=
  let (g, l) := match l.rerun with
    | g :: r => (g, { l with rerun := r })
    | [] => (l.next, { l with next := l.next + 1 })
  let t := Tg.start q i g l s.fw.ages s.sys.now (fld (getReg s 0x05 0) 15 0)
  let s := putTg (putLaunch s q i l) k t
  { s with fw := { s.fw with ages := s.fw.ages + 1, saved := Tab.del s.fw.saved k } }

/-- GROUP_START (R337): a free slot of the share takes a launch's next group, or the collective that waits for one. -/
def execGroupStart (q i : Nat) (s : State) : Result :=
  let coll := s.groups.find? (fun p => match p.2.coll with | some c => c.q = q && c.i = i && !c.runnel | none => false)
  match launchOf s q i, coll with
  | some l, _ =>
    let live : Bool := match inflOf s q i with | some r => r.disp && r.done.isNone | none => false
    if !live ∨ !launchWaits l ∨ !mayTakeSlot s l.inst ∨ !firstWaiting s l.inst l.order then .next s
    else (match pickSlot s with
      | none => .next s
      | some k => onBlk (.furrow (k / 16)) s fun s => .next (startGroup s q i k l))
  | none, some (g, x) =>
    (match x.coll with
    | none => .next s
    | some c =>
      if s.fw.colls.any (fun p => p.2 = g) ∨ !mayTakeSlot s x.inst ∨ !firstWaiting s x.inst c.order then .next s
      else match pickSlot s with
        | none => .next s
        | some k => onBlk (.furrow (k / 16)) s fun s => .next { s with fw := { s.fw with colls := Tab.put s.fw.colls k g } })
  | none, none => .next s

/-! ### Retirement and completion (R348, R349) -/

/-- Adds a staged value to the sums of a launch, saturating at 2^48 - 1 (R348). -/
def addSum (sums : List (Nat × Nat)) (x : Nat × Nat) : List (Nat × Nat) :=
  if sums.any (fun y => y.1 = x.1) then sums.map (fun y => if y.1 = x.1 then (y.1, min (y.2 + x.2) (2 ^ 48 - 1)) else y)
  else sums ++ [x]

/-- The launch record after a group's retirement (R349). -/
def Launch.retire (l : Launch) (t : Tg) (st : Byte) (trap : Bool) : Launch :=
  let first : Bool := if trap then !l.trapStatus || decide (t.index < l.statusGroup)
    else !l.trapStatus && st ≠ 0 && (l.status = 0 || decide (t.index < l.statusGroup))
  let l := { l with retired := t.index :: l.retired, sum := l.sum + t.result, sums := t.staged.foldl addSum l.sums,
                    stopped := l.stopped || (trap && l.stopOnTrap) }
  if first then { l with status := st, trapStatus := trap, statusGroup := t.index } else l

/-- A launch whose groups have all retired completes (R348). -/
def launchDone (s : State) (q i : Nat) : State :=
  match launchOf s q i with
  | none => s
  | some l =>
    if launchWaits l ∨ s.fw.slots.any (fun p => p.2.q = q && p.2.i = i) then s
    else
      let s := putLaunch s q i { l with binds := [] }
      finish s q i { status := l.status, cflags := 0, detail := 0, bytes := 0, aux := l.sum.toNat }

/-- The key of a group's atomic log (R353). -/
def alogKey (q i g : Nat) : Nat := inflKey q i * 1024 + g

/-- Retires a group (R348, R349): its slot is freed. -/
def retireTg (s : State) (k : Nat) (t : Tg) (st : Byte) (trap : Bool) : State :=
  match launchOf s t.q t.i with
  | none => s
  | some l =>
    let s := putLaunch s t.q t.i (l.retire t st trap)
    let s := { s with fw := { s.fw with slots := Tab.del s.fw.slots k, alogs := Tab.del s.fw.alogs (alogKey t.q t.i t.index) } }
    launchDone s t.q t.i

/-! ### Traps (R350, R351) -/

/-- A group that stops running, with the time it ran. -/
def Tg.pause (t : Tg) (st : FwState) (now : Nat) : Tg :=
  { t with st := st, ran := if t.st = .running then t.ran + (now - t.ranAt) else t.ran, stepLeft := none }

/-- The 32-byte trap frame (R350). -/
def trapFrame (pc : Nat) (cause : Byte) (addr lanes : Nat) : Bytes :=
  putLE 8 pc ++ [cause] ++ zeros 7 ++ putLE 8 addr ++ putLE 4 lanes ++ zeros 4

/-- A double trap (R351). -/
def doubleTrap (s : State) (k : Nat) (t : Tg) (cause : Byte) (addr lanes : Nat) : State :=
  let t := { t with cause := cause, dbl := true, faultAddr := BitVec.ofNat 64 addr, lanes := BitVec.ofNat 32 lanes,
                    pendTrap := some (cause, BitVec.ofNat 64 addr, BitVec.ofNat 32 lanes) }
  let d := s.fw.dbg
  let s := { s with fw := { s.fw with saved := Tab.put s.fw.saved k t.save, dbg := { d with dtraps := satInc 16 d.dtraps } } }
  let s := logEv s 0x0060 Status.doubleTrap 0x05 k (putLE 4 t.q ++ putLE 4 t.i ++ putLE 2 t.index ++ zeros 6 ++ putLE 8 t.pc)
  if d.src.isSome ∧ d.haltDtrap then
    let s := putTg s k (t.pause .dtrap s.sys.now)
    { s with fw := { s.fw with dbg := { s.fw.dbg with pending := true } } }
  else retireTg s k t Status.doubleTrap true

/-- Delivers a trap to a group (R350, R357): retirement, the handler, or a double trap. -/
def deliver (s : State) (k : Nat) (t : Tg) (cause : Byte) (addr lanes : Nat) : State :=
  match launchOf s t.q t.i with
  | none => s
  | some l =>
    if l.trapv = 0 then retireTg s k t cause true
    else if !t.inHandler ∧ pushOk l t then
      let f := t.push (trapFrame t.pc cause addr lanes)
      let h := { f with inHandler := true, pc := l.trapv, cause := cause, dbl := false, pendTrap := none, skipBreak := false }
      if (s.fw.dbg.src.isSome ∧ s.fw.dbg.haltTrap) ∨ t.stepLeft.isSome then putTg s k (h.pause .halted s.sys.now)
      else putTg s k h
    else doubleTrap s k t cause addr lanes

/-! ### Instructions (R343) -/

/-- An instruction's fields. -/
structure Ins where
  op : Nat
  pred : Nat
  pneg : Bool
  md : Nat
  d : Nat
  a : Nat
  b : Nat
  c : Nat
  rsv : Nat
  imm : Nat
  deriving DecidableEq, Repr

/-- The fields of an instruction word. -/
def insOf (w : Nat) : Ins :=
  { op := fld w 63 56, pred := fld w 55 53, pneg := bitN w 52, md := fld w 51 48, d := fld w 47 43, a := fld w 42 38,
    b := fld w 37 33, c := fld w 32 28, rsv := fld w 27 24, imm := fld w 23 0 }

/-- IMM sign-extended. -/
def Ins.simm (x : Ins) : Int := (BitVec.ofNat 24 x.imm).toInt

/-- The defined opcodes (R344). -/
def fwOps : List Nat :=
  [0x00, 0x01, 0x02, 0x03, 0x04, 0x10, 0x11, 0x12, 0x13, 0x14, 0x15, 0x16, 0x17, 0x18, 0x19, 0x1A, 0x1B, 0x1C, 0x20, 0x21,
   0x22, 0x23, 0x24, 0x25, 0x26, 0x30, 0x31, 0x32, 0x38, 0x39, 0x40, 0x41, 0x42, 0x50, 0x51, 0x52, 0x53, 0x54, 0x55, 0x56,
   0x57] ++ [0x60, 0x61, 0x62, 0x63, 0x64, 0x65, 0x66, 0x67, 0x68, 0x69]

/-- The MOD values an opcode defines: opcodes with no variant take 0 alone. -/
def modOk (x : Ins) : Bool :=
  if x.op ∈ [0x38, 0x39, 0x52, 0x53, 0x54, 0x55] then true
  else if x.op = 0x02 then x.md ≤ 1
  else if x.op = 0x04 then x.md ≤ 3
  else if x.op = 0x1A ∨ x.op = 0x1B then x.md ≤ 1
  else if x.op = 0x1C then x.md % 8 ≤ 5
  else if x.op = 0x25 then x.md ≤ 5
  else if x.op = 0x31 ∨ x.op = 0x32 then x.md ≤ 2
  else if x.op = 0x42 then x.md ≤ 5
  else x.md = 0

/-- The fields that name u or p registers have their unused high bits 0 (R343). -/
def regsOk (x : Ins) : Bool :=
  (x.op ∉ [0x04, 0x41] || x.d < 16) && (x.op ∉ [0x1C, 0x25] || x.d < 8)
  && ((x.op ∉ [0x02, 0x31, 0x32, 0x50, 0x51, 0x52, 0x53, 0x54, 0x55, 0x56, 0x66, 0x68] && !(x.op = 0x04 && x.md = 1)) || x.a < 16)
  && (x.op ≠ 0x41 || x.a < 8) && (x.op ≠ 0x54 || (x.b < 16 && x.c < 16))

/-- No undefined OP or MOD and no reserved bit (R343). -/
def insLegal (x : Ins) : Bool := fwOps.contains x.op && modOk x && x.rsv = 0 && regsOk x

/-- The lanes on which an instruction acts. -/
def predMask (t : Tg) (x : Ins) : Nat := if x.pneg then 2 ^ 32 - 1 - t.pr x.pred else t.pr x.pred

/-- The lanes of a mask, ascending. -/
def lanesIn (mask : Nat) : List Nat := (List.range 32).filter (bitN mask)

/-- Every lane: the LANES value of a group cause. -/
def allLanes : Nat := 2 ^ 32 - 1

/-- What an instruction does: goes on, traps, is held, retires its group, or halts it. -/
inductive Fx where
  | go (s : State) (t : Tg)
  | trap (s : State) (cause : Byte) (addr lanes : Nat)
  | wait (s : State)
  | retire (s : State) (t : Tg) (st : Byte) (trap : Bool)
  | halt (s : State) (t : Tg)

/-- What an instruction sees: slot, launch, fields, lanes. -/
structure FwCtx where
  k : Nat
  l : Launch
  x : Ins
  mask : Nat

/-- What a fetch finds. -/
inductive Fetched where
  | ok (s : State) (w : Nat)
  | trap (s : State) (cause : Byte)
  | wait (s : State)

/-- Reads the instruction at PC (R343). Outside the code image the word is a free value (assumption 3). -/
def fetch (s : State) (l : Launch) (t : Tg) : Fetched :=
  if 64 ≤ t.pc ∧ t.pc % 8 = 0 ∧ t.pc + 8 ≤ l.codeLen then
    match readMemAt (admOf s t.q t.i) s l.inst (l.codeAddr + t.pc) 8 with
    | .ok s b => .ok s (ofLE b)
    | .wait s => .wait s
    | .fault s st _ => .trap s st
  else .ok s (freeVal s).toNat

/-- The group at its slot after an instruction, with a step counted (R356). -/
def stepped (now : Nat) (t : Tg) : Tg :=
  let t := { t with skipBreak := false }
  match t.stepLeft with
  | none => t
  | some n => if n ≤ 1 then t.pause .halted now else { t with stepLeft := some (n - 1) }

/-- A breakpoint stops the group before the instruction at its PC (R357). -/
def atBreak (s : State) (k : Nat) (t : Tg) : Bool :=
  s.fw.dbg.src.isSome && !t.skipBreak && (Tab.getD s.fw.breaks k []).contains (some t.pc)

/-- Issues the next instruction of a slot when it is the one asked for; opcode 0 also issues undefined opcodes, which
trap. `eff` sees the group with PC already past the instruction. -/
def issue (core slot op : Nat) (s : State) (eff : FwCtx → State → Tg → Fx) : Result :=
  let k := fwKey core slot
  match Tab.find s.fw.slots k with
  | none => .next s
  | some t =>
    if t.st ≠ .running ∨ 16 ≤ slot then .next s
    else match launchOf s t.q t.i with
      | none => .next s
      | some l =>
        if atBreak s k t then .next (putTg s k (t.pause .halted s.sys.now))
        else match fetch s l t with
          | .wait s => .next s
          | .trap s st => if op = 0 then .next (deliver s k t st (l.codeAddr + t.pc) allLanes) else .next s
          | .ok s w =>
            let x := insOf w
            if x.op ≠ op ∧ !(op = 0 ∧ !fwOps.contains x.op) then .next s
            else
              let s := if 64 ≤ t.pc ∧ t.pc % 8 = 0 ∧ t.pc + 8 ≤ l.codeLen then s else freeStep s
              if !insLegal x then .next (deliver s k t Status.badField 0 allLanes)
              else match eff { k := k, l := l, x := x, mask := predMask t x } s { t with pc := (t.pc + 8) % 2 ^ 64 } with
                | .go s t => .next (putTg s k (stepped s.sys.now t))
                | .trap s c a m => .next (deliver s k t c a m)
                | .wait s => .next s
                | .retire s t st tr => .next (retireTg s k t st tr)
                | .halt s t => .next (putTg s k ((stepped s.sys.now t).pause .halted s.sys.now))

/-- A lane instruction: writes v[D] on the lanes of its predicate. -/
def laneOp (core slot op : Nat) (s : State) (f : FwCtx → Tg → Nat → Nat) : Result :=
  issue core slot op s fun c s t => .go s (t.setV c.x.d c.mask (f c t))

/-- A comparison: writes p[D] on the lanes of its predicate. -/
def cmpOp (core slot op : Nat) (s : State) (f : FwCtx → Tg → Nat → Bool) : Result :=
  issue core slot op s fun c s t => .go s (t.setP c.x.d c.mask (f c t))

/-! ### Launch admission (R340 to R342) -/

/-- The bindings of an argument block. -/
def argBinds (b : Bytes) : List Bind :=
  (List.range (getLE b 0 1)).map fun k =>
    { addr := getLE b (16 + 24 * k) 8, len := getLE b (24 + 24 * k) 8, key := getLE b (32 + 24 * k) 4, use := getLE b (36 + 24 * k) 1 }

/-- The codebook slots of an argument block. -/
def argCbs (b : Bytes) : List Nat := (List.range (getLE b 1 1)).map fun k => getLE b (8 + 2 * k) 2

/-- Check 2 of R342: MAGIC, ISA, CRC. -/
def codeOk (b : Bytes) : Bool :=
  getLE b 0 4 = 0x46574B31 && getLE b 4 2 = 1 && getLE b 60 4 = crcN (b.take 60 ++ b.drop 64)

/-- An instruction offset in range. -/
def entryOk (n len : Nat) : Bool := n % 8 = 0 && 64 ≤ n && n + 8 ≤ len

/-- Check 3 of R342 on the code header. -/
def headerOk (b : Bytes) (localBytes : Nat) : Bool :=
  let tv := getLE b 12 4
  let st := getLE b 16 4
  zeroIn b 6 2 && zeroIn b 20 40 && entryOk (getLE b 8 4) b.length && (tv = 0 || entryOk tv b.length)
  && st % 32 = 0 && st ≤ localBytes

/-- Check 3 of R342 on the argument block. -/
def argOk (b : Bytes) : Bool :=
  let n := getLE b 0 1
  let cb := getLE b 1 1
  b = [] || (16 ≤ b.length && n ≤ 8 && cb ≤ 4 && getLE b 2 1 ≤ 1 && zeroIn b 3 5
    && (List.range 4).all (fun k => k < cb || getLE b (8 + 2 * k) 2 = 0) && 16 + 24 * n ≤ b.length
    && (List.range n).all (fun k =>
      let len := getLE b (24 + 24 * k) 8
      let use := getLE b (36 + 24 * k) 1
      4 ≤ len && len ≤ 2 ^ 48 && 1 ≤ use && use ≤ 7 && zeroIn b (37 + 24 * k) 3))

/-- The rights a binding's USE needs. -/
def useRights (u : Nat) : Nat := bit (bitN u 0) * rRead + bit (bitN u 1) * rWrite + bit (bitN u 2) * rAtomic

/-- Check 7 of R342: the bindings in ascending order. -/
def bindsFail (s : State) (inst : Nat) : List Bind → State × Option Byte
  | [] => (s, none)
  | b :: r =>
    match admitKey s inst b.key (useRights b.use) b.addr b.len false false with
    | (s, some st) => (s, some st)
    | (s, none) => bindsFail s inst r

/-- Checks 2 to 7 of R342 and the codebook states of R364, over the code and the arguments as read. -/
def launchFail (s : State) (inst : Nat) (code args : Bytes) (localBytes : Nat) : State × Option Byte :=
  let cbs := argCbs args
  match firstFail [(codeOk code, Status.descriptorCrc), (headerOk code localBytes && argOk args, Status.badField),
      (cbs = [] || instHas s inst 14, Status.featureNotNegotiated), (cbs.all (fun n => n < cbSlots s), Status.badField),
      (cbs.all (fun n => owns1 s.own.cb n inst), Status.notPermitted)] with
  | some st => (s, some st)
  | none =>
    match bindsFail s inst (argBinds args) with
    | (s, some st) => (s, some st)
    | (s, none) =>
      (s, if cbs.all (fun n => match Tab.find s.cbs n with | some c => c.st = .loaded | none => false) then none
          else some Status.descriptorCrc)

/-- The operands of a KERNEL_LAUNCH that its admission begins with (R342 check 1): its code, and its arguments where it has any. -/
def launchOpds (e : Bytes) : List LocOpd :=
  { key := getLE e 24 4, need := rInvoke, addr := getLE e 16 8, len := getLE e 28 4 }
    :: (if getLE e 44 4 = 0 then [] else [{ key := getLE e 40 4, need := rRead, addr := getLE e 32 8, len := getLE e 44 4 }])

/-- The argument block of a KERNEL_LAUNCH: copied once (R342). -/
def launchArgs (s : State) (q i inst : Nat) (r : Infl) : Acc :=
  match r.args with
  | some b => .ok s b
  | none => if getLE r.ent 44 4 = 0 then .ok s [] else readMemAt (admOf s q i) s inst (getLE r.ent 32 8) (getLE r.ent 44 4)

/-- The launch record of an admitted KERNEL_LAUNCH. -/
def newLaunch (inst order : Nat) (e code args : Bytes) : Launch :=
  { inst := inst, order := order, groups := getLE e 12 2, next := 0, codeAddr := getLE e 16 8, codeLen := code.length,
    entry := getLE code 8 4, trapv := getLE code 12 4, stack := getLE code 16 4, localBytes := getLE e 48 4,
    args := args, binds := argBinds args, cbs := argCbs args, stopOnTrap := bitN (getLE args 2 1) 0, stopped := false,
    retired := [], rerun := [], sum := 0, status := 0, trapStatus := false, statusGroup := 0, sums := [] }

/-- An admitted launch starts, with the keys and spans of its bindings beside those of its operands. -/
def startLaunch (s : State) (q i : Nat) (l : Launch) : State :=
  let ks := l.binds.flatMap (fun b => spansOver s l.inst b.addr b.len)
  let s := { s with infl := Tab.modify s.infl (inflKey q i) (fun r => { r with keys := r.keys ++ l.binds.map (·.key), spans := r.spans ++ ks }) }
  let s := putLaunch (dispatched s q i) q i l
  { s with fw := { s.fw with ages := s.fw.ages + 1 } }

/-- KERNEL_LAUNCH (R188, R194, R342): admission, made once; the codebook loads accepted before it that name one of its slots have
completed; then the launch record whose groups GROUP_START starts. -/
def execKernelLaunch (q i : Nat) (s : State) : Result :=
  match mayDispatch s q i 0x21 with
  | none => .next s
  | some (x, r) =>
    let e := r.ent
    let share := match Tab.find s.insts x.inst with | some n => n.fwSlots | none => 0
    if share < getLE e 12 2 then .next (finishSt s q i Status.noResource)
    else match admitOnce s q i x.inst r (launchOpds e) with
      | (s, some st) => .next (finishSt s q i st)
      | (s, none) =>
        match readMemAt (admOf s q i) s x.inst (getLE e 16 8) (getLE e 28 4) with
        | .wait s => .next s
        | .fault s st re => .next (finishR s q i st re)
        | .ok s code =>
          match launchArgs s q i x.inst r with
          | .wait s => .next s
          | .fault s st re => .next (finishR s q i st re)
          | .ok s args =>
            let s := { s with infl := Tab.modify s.infl (inflKey q i) (fun r => { r with args := some args }) }
            let r := { r with args := some args }
            if !cbOrdered s r ∨ (underTest s 6 0 ∧ cbNamed r ≠ some []) then .next s
            else match launchFail s x.inst code args (getLE e 48 4) with
              | (s, some st) => .next (finishSt s q i st)
              | (s, none) => .next (startLaunch s q i (newLaunch x.inst s.fw.ages e code args))

/-! ### Watchdog and core loss (R352, R354) -/

/-- WATCHDOG_EXPIRY (R352): once per group. -/
def execWatchdogExpiry (core slot : Nat) (s : State) : Result :=
  let k := fwKey core slot
  match Tab.find s.fw.slots k with
  | none => .next s
  | some t =>
    if t.st ≠ .running ∨ t.watchdog = 0 ∨ t.dogBarked ∨ 16 ≤ slot then .next s
    else
      let s := advanceTo s (t.ranAt + (t.watchdog * 1000000 - t.ran))
      .next (deliver s k { t with dogBarked := true } Status.waitTimeout 0 allLanes)

/-- Reservations honoured in ascending instance number (R379). -/
def trimResv : Nat → Tab Inst → Tab Inst
  | _, [] => []
  | left, (n, x) :: r => (n, { x with fwResv := min x.fwResv left }) :: trimResv (left - min x.fwResv left) r

/-- CORE_LOST (R354, R379): its groups run again from their start elsewhere, its collectives take other slots. -/
def execCoreLost (core : Nat) (s : State) : Result :=
  if !coreIn s core then .next s
  else
    let mine := s.fw.slots.filter (fun p => p.1 / 16 = core)
    let s := mine.foldl (fun s p => match launchOf s p.2.q p.2.i with
      | none => s
      | some l => putLaunch s p.2.q p.2.i { l with rerun := insertBy (fun a b => a ≤ b) p.2.index l.rerun }) s
    let off (k : Nat) : Bool := k / 16 ≠ core
    let f := s.fw
    let f := { f with cores := f.cores &&& ~~~(BitVec.ofNat 48 (2 ^ core)), slots := Tab.keep (fun k _ => off k) f.slots,
                      colls := Tab.keep (fun k _ => off k) f.colls, breaks := Tab.keep (fun k _ => off k) f.breaks,
                      saved := Tab.keep (fun k _ => off k) f.saved }
    let s := { s with fw := f }
    let s := openOwnWin (logEv s 0x0061 0 0x05 core [])
    if slotsInService s < (s.insts.map (fun p => p.2.fwResv)).sum then
      .next (logEv { s with insts := trimResv (slotsInService s) s.insts } 0x0063 0 0x0F 0 (putLE 2 (slotsInService s)))
    else .next s

end Sys2Proof.Machine
end

