-- ==== Sys2Proof/Machine/Runnel.lean ====
section
/-!
DEFINITION. Runnel streams: messages, windows, acknowledgement, retransmission, restart (spec file 14, R325 to R328).
-/
namespace Sys2Proof.Machine

/-- Adds to a Runnel counter. -/
def rnCount (s : State) (k : Nat) : State :=
  { s with rn := { s.rn with counters := Tab.put s.rn.counters k ((Tab.getD s.rn.counters k 0 + 1) % 2 ^ 64) } }

/-- RTO of RN_CFG in nanoseconds. -/
def rnRto (s : State) : Nat := fld (getReg s 0x04 0) 23 16 * 1000

/-- ACK_DELAY of RN_CFG in nanoseconds. -/
def rnAckDelay (s : State) : Nat := fld (getReg s 0x04 0) 15 8 * 10

/-- Replaces a stream. -/
def putStream (s : State) (slot : Nat) (x : Stream) : State := { s with rn := { s.rn with streams := Tab.put s.rn.streams slot x } }

/-- The stream with a device; one never used starts with a SEPOCH of the DRBG, nonzero and otherwise free (R328). -/
def streamOf (s : State) (slot : Nat) : State × Stream :=
  match Tab.find s.rn.streams slot with
  | some x => (s, x)
  | none =>
    (freeStep s, { sepoch := 1 + (freeVal s).toNat % 255, sync := true, next := 0, unacked := [], waiting := [],
                   rto := rnRto s, rtoAt := s.sys.now, expiries := 0, peerEpoch := 0, expect := 0, ackOwed := none })

/-- The fields of a message that its stream does not give: TYPE, REPLAY, GROUP, COLL_SEQ, SIG, RANK, DTYPE, NBYTES, DATA, as
bytes 10 to 59 after TYPE and REPLAY. -/
def rnBody (type : Nat) (replay : Bool) (group seq sig rank dtype nbytes : Nat) (data : Bytes) : Bytes :=
  [BitVec.ofNat 8 type, BitVec.ofNat 8 (4 * bit replay)] ++ putBE 2 group ++ putBE 4 seq ++ putBE 4 sig
    ++ [BitVec.ofNat 8 rank, BitVec.ofNat 8 dtype, BitVec.ofNat 8 nbytes, 0] ++ fit 32 data ++ zeros 4

/-- The 64 bytes of a message (R327). -/
def rnMsg (s : State) (slot : Nat) (x : Stream) (body : Bytes) (seq : Nat) (sync retx : Bool) : Bytes :=
  let known : Bool := decide (x.peerEpoch ≠ 0)
  let flags := bit sync + 2 * bit retx + getLE body 1 1 + 8 * bit known
  let b := [0x52, body.getD 0 0, BitVec.ofNat 8 flags, BitVec.ofNat 8 x.sepoch, BitVec.ofNat 8 s.basin.slot, BitVec.ofNat 8 slot]
    ++ putBE 2 seq ++ putBE 2 (if known then x.expect else 0) ++ body.drop 2
  b ++ putBE 4 (crcN b)

/-- The frame of a message toward a slot, on the link of its route and as its BASIN queue pair is framed: traffic class 7, Not-ECT
(R325, R326). The spec gives no UDP source port or flow label: queue-pair number 0 stands for them (assumption 103). -/
def rnFrame (s : State) (l slot : Nat) (m : Bytes) : TxFrame :=
  match (basinQp s slot).bind (qpOf s) with
  | some p => txFrame s 0x88B6 l (qRouted p) (if qVlan p then some p.vid else none) 7 0 p.peer false [] [] m []
  | none => txFrame s 0x88B6 l false none 7 0 0 false [] [] m []

/-- The bytes of a frame (R226), FCS included. -/
def txLen (f : TxFrame) : Nat := f.l2.length + f.l3.length + f.hdr.length + f.ext.length + f.payload.length + f.tag.length + 4

/-- The time that a frame takes of a link at RATE_PCT percent of its rate (R325). -/
def rnShare (s : State) (l : Nat) (f : TxFrame) : Nat :=
  let d := linkRate s l * fld (getReg s 0x04 0) 7 0
  if d = 0 then 0 else (txLen f * 800000 + d - 1) / d

/-- Runnel's share of a link (R325): a message that comes before its turn waits for it, and its frame takes the share's time. -/
def rnPace (s : State) (l : Nat) (f : TxFrame) : State :=
  let t := Tab.getD s.rn.nextAt l 0
  let s := if s.sys.now < t then rnCount (advanceTo s t) 6 else s
  { s with rn.nextAt := Tab.put s.rn.nextAt l (s.sys.now + rnShare s l f) }

/-- Puts a message on the route of its slot, within Runnel's share of the link; without a route, or on a link that cannot send, it waits for retransmission. -/
def rnEmit (s : State) (slot : Nat) (x : Stream) (body : Bytes) (seq : Nat) (retx : Bool) : State :=
  match rnLink s slot with
  | none => s
  | some l =>
    if !sendable s l then s
    else
      let numbered : Bool := decide (body.head? ≠ some 3)
      let s := putLink s l { link s l with busyAt := s.sys.now }
      let f := rnFrame s l slot (rnMsg s slot x body seq (numbered && x.sync && seq = 0) retx)
      rnCount (emit (rnPace s l f) (.runnel slot f)) 0

/-- The route of a slot is up but held, by dormancy or a calibration: what is to be sent waits, and no timer runs (R83, R92). -/
def rnHeld (s : State) (slot : Nat) : Bool :=
  match rnLink s slot with | some l => (link s l).up && !sendable s l | none => false

/-- Sends the next waiting messages while the window of 32 has room (R328). -/
def rnFlush : Nat → State → Nat → State
  | 0, s, _ => s
  | f + 1, s, slot =>
    match Tab.find s.rn.streams slot with
    | none => s
    | some x =>
      match x.waiting with
      | [] => s
      | b :: r =>
        if 32 ≤ x.unacked.length ∨ underTest s 7 0 ∨ gated s .runnel ∨ rnHeld s slot then s
        else
          let y := { x with next := (x.next + 1) % 2 ^ 16, unacked := x.unacked ++ [{ seq := x.next, body := b }], waiting := r,
                            rtoAt := if x.unacked = [] then s.sys.now else x.rtoAt, ackOwed := none }
          rnFlush f (rnEmit (putStream s slot y) slot y b x.next false) slot

/-- Work for a slot's stream: it wakes a gated Runnel unit, and ends a dormancy hold of the route (R71, R89, R92). -/
def rnWork (s : State) (slot : Nat) : State :=
  let s := wakeBlk s .runnel
  match rnLink s slot with | some l => workArrives s l | none => s

/-- Sends a message to a slot on its stream. -/
def rnSend (s : State) (slot : Nat) (body : Bytes) : State :=
  let (s, x) := streamOf (rnWork s slot) slot
  rnFlush 33 (putStream s slot { x with waiting := x.waiting ++ [body] }) slot

/-- The body of an ACK message. -/
def rnAckBody : Bytes := rnBody 3 false 0 0 0 0 0 0 []

/-- Sends an ACK message (R328): its SEQ is 0 and it takes none. -/
def rnSendAck (s : State) (slot : Nat) : State :=
  match Tab.find s.rn.streams slot with
  | none => s
  | some x =>
    let y := { x with ackOwed := none }
    rnEmit (putStream s slot y) slot y rnAckBody 0 false

/-- Every unacknowledged message goes again, in order. -/
def rnResend (s : State) (slot : Nat) (retx : Bool) : State :=
  match Tab.find s.rn.streams slot with
  | none => s
  | some x => x.unacked.foldl (fun s m => rnEmit (if retx then rnCount s 2 else s) slot x m.body m.seq retx) s

/-- Restarts a stream (R328): a new SEPOCH, SYNC, and its unacknowledged messages from SEQ 0. -/
def rnRestart (s : State) (slot : Nat) : State :=
  match Tab.find s.rn.streams slot with
  | none => s
  | some x =>
    let e := if x.sepoch = 255 then 1 else x.sepoch + 1
    let y := { x with sepoch := e, sync := true, next := x.unacked.length,
                      unacked := (x.unacked.zipIdx).map (fun p => { p.1 with seq := p.2 }), rto := rnRto s, rtoAt := s.sys.now,
                      expiries := 0 }
    rnCount (rnResend (putStream s slot y) slot false) 7

/-- RUNNEL_RTO_EXPIRY (R328). -/
def execRunnelRtoExpiry (slot : Nat) (s : State) : Result :=
  match Tab.find s.rn.streams slot with
  | none => .next s
  | some x =>
    if x.unacked = [] ∨ 16 ≤ x.expiries ∨ rnHeld s slot then .next s
    else
      let s := advanceTo s (x.rtoAt + x.rto)
      let y := { x with rto := min (2 * x.rto) (max 1000000 (rnRto s)), rtoAt := s.sys.now, expiries := x.expiries + 1 }
      .next (rnResend (putStream s slot y) slot true)

/-- RUNNEL_STREAM_RESTART (R328): after 16 consecutive expiries. -/
def execRunnelStreamRestart (slot : Nat) (s : State) : Result :=
  match Tab.find s.rn.streams slot with
  | none => .next s
  | some x =>
    if x.expiries < 16 then .next s
    else
      let e := if x.sepoch = 255 then 1 else x.sepoch + 1
      .next (rnRestart (logEv s 0x0070 0 0x04 slot [BitVec.ofNat 8 e]) slot)

/-- RUNNEL_ACK_DELAY_EXPIRY (R328). -/
def execRunnelAckDelayExpiry (slot : Nat) (s : State) : Result :=
  match Tab.find s.rn.streams slot with
  | none => .next s
  | some x => match x.ackOwed with
    | none => .next s
    | some t => if rnHeld s slot then .next (rnWork s slot) else .next (rnSendAck (advanceTo s (t + rnAckDelay s)) slot)

/-! ### Receiving (R327, R328) -/

/-- A message that R327 does not discard. -/
def rnGood (m : Bytes) : Bool :=
  let t := getBE m 1 1
  let f := getBE m 2 1
  let coll := t = 1 || t = 2
  m.length = 64 && getBE m 60 4 = crcN (m.take 60) && getBE m 0 1 = 0x52 && 1 ≤ t && t ≤ 5 && f < 16 && (t = 1 || !bitN f 2)
  && zeroIn m 23 1 && zeroIn m 56 4 && getBE m 10 2 < 4096 && getBE m 22 1 ≤ 32
  && (coll || (zeroIn m 10 11)) && (t = 1 || zeroIn m 21 1) && (t ≠ 3 || zeroIn m 6 2)

/-- Takes an acknowledgement: every message before `a` is acknowledged; progress restores RTO (R328). -/
def rnTakeAck (s : State) (slot a : Nat) : State :=
  match Tab.find s.rn.streams slot with
  | none => s
  | some x =>
    let left := x.unacked.filter (fun m => !((a + 2 ^ 16 - m.seq - 1) % 2 ^ 16 < 2 ^ 15))
    if left.length = x.unacked.length then s
    else
      let y := { x with unacked := left, rto := rnRto s, rtoAt := s.sys.now, expiries := 0, sync := x.sync && left.any (fun m => m.seq = 0) }
      rnFlush 33 (putStream s slot y) slot

/-- What the stream makes of a message: it is the next one, or it is not delivered. -/
inductive RnIn where
  | deliver (s : State)
  | done (s : State)

/-- The stream's part of a received message: SYNC, SEPOCH, ACK, SEQ (R328). `accept` says that the message, if it is the
next, can be delivered now. -/
def rnArrive (s : State) (m : Bytes) (accept : Bool) : RnIn :=
  if !rnGood m then .done (rnCount s 5)
  else if getBE m 5 1 ≠ s.basin.slot then .done s
  else
    let slot := getBE m 4 1
    let f := getBE m 2 1
    let e := getBE m 3 1
    let (s, x) := streamOf (rnCount s 1) slot
    let fresh : Bool := bitN f 0 && decide (e ≠ x.peerEpoch)
    if !fresh ∧ e ≠ x.peerEpoch then .done (rnCount (putStream s slot x) 4)
    else
      let x := if fresh then { x with peerEpoch := e, expect := 0 } else x
      let s := putStream s slot x
      let s := if bitN f 3 then rnTakeAck s slot (getBE m 8 2) else s
      let x := (Tab.find s.rn.streams slot).getD x
      let n := getBE m 6 2
      let owe (s : State) (x : Stream) : State := putStream s slot { x with ackOwed := some (x.ackOwed.getD s.sys.now) }
      if getBE m 1 1 = 3 then .done s
      else if n = x.expect then
        (if accept then .deliver (owe s { x with expect := (x.expect + 1) % 2 ^ 16 }) else .done s)
      else if (x.expect + 2 ^ 16 - n) % 2 ^ 16 < 2 ^ 15 then .done (owe (rnCount s 3) x)
      else .done (rnCount s 4)

end Sys2Proof.Machine
end

