-- ==== Sys2Proof/Machine/Coll.lean ====
section
/-!
DEFINITION. Collectives: encodings, the algorithms as plans of receives and sends, group traffic, the Runnel path, failure,
the group commands (spec file 14, R311 to R333; spec file 16, R369, R370).
-/
namespace Sys2Proof.Machine

/-! ### Encodings (R189, R318, R347, R366) -/

/-- How a run of elements is encoded: a number format, or lines of a codebook. -/
inductive Enc where
  | fmt (f : Nat)
  | lines (c : CbSlot)
  deriving DecidableEq, Repr

/-- The bytes and the elements of one unit of an encoding. -/
def Enc.unit : Enc → Nat × Nat
  | .fmt f => if isMx f then (mxBytes f, 32) else (fmtBytes f 1, 1)
  | .lines c => (64, cbK c * c.vlen)

/-- The bytes of `n` elements. -/
def Enc.len (e : Enc) (n : Nat) : Nat :=
  match e with | .fmt f => fmtBytes f n | .lines c => 64 * cbLines c n

/-- The first `n` elements as 32-bit words: FP32, or INT32 for the integer formats (R318). -/
def Enc.dec (e : Enc) (n : Nat) (b : Bytes) : List Nat :=
  match e with
  | .lines c => decTensor c n b
  | .fmt f =>
    if f = 9 then (chunks 4 n b).map ofLE
    else if f = 10 then (b.take n).map (fun x => intBits 32 x.toInt)
    else ((decodeBuf f b).take n).map to32

/-- Encodes words. -/
def Enc.enc (e : Enc) (l : List Nat) : Bytes :=
  match e with
  | .lines c => encTensor c l
  | .fmt f =>
    if f = 9 then (l.map (putLE 4)).flatten
    else if f = 10 then l.map (fun w => BitVec.ofNat 8 (intBits 8 (clampInt 8 (sInt w))))
    else encodeBuf f (l.map of32)

/-- The combination of two words under REDOP (R318). -/
def redWord (red dt a b : Nat) : Nat :=
  if dt = 9 ∨ dt = 10 then
    (if red = 1 then (a + b) % 2 ^ 32 else if red = 2 then (if ltS a b then b else a) else (if ltS b a then b else a))
  else if red = 1 then add32 a b else if red = 2 then max32 a b else min32 a b
where ltS (a b : Nat) : Bool := decide (sInt a < sInt b)

/-! ### What a collective is (R187, R315, R317, R319) -/

/-- A collective as its member runs it. -/
structure Env where
  op : Nat
  red : Nat
  dt : Nat
  n : Nat
  r : Nat
  root : Nat
  cnt : Nat
  pad : Bool
  srcE : Enc
  wire : Enc
  fin : Enc
  travel : Enc
  chunk : Nat
  src : Bytes

/-- The present codebook of a slot, for the geometry of an encoding. -/
def cbAt (s : State) (n : Nat) : CbSlot :=
  match Tab.find s.cbs n with
  | some c => c
  | none => { st := .poisoned, data := [], crc := 0, cbmax := 0, vlen := 4, entries := 256, elem := 1, bad1 := false, bad2 := false }

/-- The collective of an entry at a member of a group. -/
def envOf (s : State) (g : Group) (e : Bytes) (src : Bytes) : Env :=
  let dt := getLE e 14 1
  let fl := getLE e 15 1
  let vin := bitN fl 0
  let vout := bitN fl 1
  let cin := Enc.lines (cbAt s (getLE e 48 1))
  let cout := Enc.lines (cbAt s (getLE e 49 1))
  { op := getLE e 12 1, red := getLE e 13 1, dt := dt, n := g.size, r := g.rank, root := getLE e 52 4, cnt := getLE e 16 4,
    pad := bitN fl 4, srcE := if vin then cin else .fmt dt,
    wire := if vout then cout else if g.wide then .fmt (if dt = 9 ∨ dt = 10 then 9 else 1) else .fmt dt,
    fin := if vout then cout else .fmt dt,
    travel := if vout then cout else if vin then cin else .fmt dt, chunk := 2 ^ g.chunkLog2, src := src }

/-- The bytes of one source block. -/
def Env.blk (v : Env) : Nat := v.srcE.len v.cnt

/-- The words of source block `k`. -/
def Env.words (v : Env) (k : Nat) : List Nat := v.srcE.dec v.cnt (slice v.src (k * v.blk) v.blk)

/-- Source block `k` as copies carry it (R370): unchanged where nothing changes its form. -/
def Env.copyOf (v : Env) (k : Nat) : Bytes :=
  if v.travel = v.srcE then slice v.src (k * v.blk) v.blk else v.travel.enc (v.words k)

/-- What a receive combines with. -/
inductive Opd where
  | none
  | item (key : Nat)
  | words (l : List Nat)

/-- A receive of the plan: from a rank, the item it yields, its operand, whether its own operand comes first, whether the
output is final, its elements, its length on the wire (`none` until the count prefix has come), whether a request comes even
for no data. -/
structure RxOp where
  peer : Nat
  key : Nat
  own : Opd
  ownFirst : Bool
  final : Bool
  elems : Nat
  len : Option Nat
  zero : Bool

/-- A send of the plan: to a rank, an item; `zero` sends a request even for no data. -/
structure TxOp where
  peer : Nat
  key : Nat
  zero : Bool

/-- A member's plan: items it has from the start, receives, sends. -/
structure Plan where
  items : Tab Bytes
  rx : List RxOp
  tx : List TxOp

/-- The elements of part `b` of a ring: its first and its number (R319, R370). -/
def partOf (v : Env) (b : Nat) : Nat × Nat :=
  let u := if v.srcE.unit.2 = 1 ∧ v.fin.unit.2 = 1 then 1 else max v.srcE.unit.2 v.fin.unit.2
  let u := match v.fin with | .lines c => cbK c * c.vlen | _ => u
  let units := (v.cnt + u - 1) / u
  let pe := (units + v.n - 1) / v.n * u
  (min (b * pe) v.cnt, min pe (v.cnt - b * pe))

/-- The items of one combining receive. -/
def rxRed (v : Env) (peer key : Nat) (own : Opd) (ownFirst final : Bool) (elems : Nat) : RxOp :=
  { peer := peer, key := key, own := own, ownFirst := ownFirst, final := final, elems := elems,
    len := some (v.wire.len elems), zero := false }

/-- A receive that copies. -/
def rxCopy (peer key elems len : Nat) : RxOp :=
  { peer := peer, key := key, own := .none, ownFirst := false, final := false, elems := elems, len := some len, zero := false }

/-- A send. -/
def txOf (peer key : Nat) : TxOp := { peer := peer, key := key, zero := false }

/-- Key of the final form of part or block `b`. -/
def finKey (b : Nat) : Nat := 1000 + b

/-- The largest power of two not above `n`. -/
def pow2Below (n : Nat) : Nat := 2 ^ Nat.log2 n

/-- Recursive doubling (R319). -/
def planDoubling (v : Env) : Plan :=
  let p := pow2Below v.n
  let flen := v.fin.len v.cnt
  let items : Tab Bytes := [(0, v.wire.enc (v.words 0))]
  if p ≤ v.r then { items := items, rx := [rxCopy (v.r - p) (finKey 0) v.cnt flen], tx := [txOf (v.r - p) 0] }
  else
    let up : Bool := decide (v.r + p < v.n)
    let k0 := bit up
    let steps := Nat.log2 p
    let pre := if up then [rxRed v (v.r + p) 1 (.item 0) true false v.cnt] else []
    let rx := (List.range steps).map fun k =>
      let q := v.r ^^^ 2 ^ k
      let last : Bool := decide (k + 1 = steps)
      rxRed v q (if last then finKey 0 else k0 + k + 1) (.item (k0 + k)) (decide (v.r < q)) last v.cnt
    let tx := (List.range steps).map fun k => txOf (v.r ^^^ 2 ^ k) (k0 + k)
    { items := items, rx := pre ++ rx, tx := tx ++ (if up then [txOf (v.r + p) (finKey 0)] else []) }

/-- The reduce-scatter half of the ring over parts whose words and sizes are given (R319). -/
def planScatter (v : Env) (words : Nat → List Nat) (size : Nat → Nat) : Plan :=
  let b (s : Nat) : Nat := (v.r + 2 * v.n - 1 - s) % v.n
  let next := (v.r + 1) % v.n
  let prev := (v.r + v.n - 1) % v.n
  { items := [(b 0, v.wire.enc (words (b 0)))],
    rx := (List.range (v.n - 1)).map fun s =>
      let x := b (s + 1)
      rxRed v prev (if x = v.r then finKey x else x) (.words (words x)) false (decide (x = v.r)) (size x),
    tx := (List.range (v.n - 1)).map fun s => txOf next (b s) }

/-- The all-gather half of the ring: final items from rank to rank (R319). -/
def planGather (v : Env) (size : Nat → Nat) (len : Nat → Nat) : List RxOp × List TxOp :=
  let b (s : Nat) : Nat := (v.r + v.n - s) % v.n
  let next := (v.r + 1) % v.n
  let prev := (v.r + v.n - 1) % v.n
  ((List.range (v.n - 1)).map fun s => rxCopy prev (finKey (b (s + 1))) (size (b (s + 1))) (len (b (s + 1))),
   (List.range (v.n - 1)).map fun s => txOf next (finKey (b s)))

/-- The ring of an ALL_REDUCE (R319). -/
def planRing (v : Env) : Plan :=
  let w := v.words 0
  let words (b : Nat) : List Nat := let p := partOf v b; (w.drop p.1).take p.2
  let size (b : Nat) : Nat := (partOf v b).2
  let a := planScatter v words size
  let g := planGather v size (fun b => v.fin.len (size b))
  { items := a.items, rx := a.rx ++ g.1, tx := a.tx ++ g.2 }

/-- A chain from a rank: who comes before and after this member, none at the ends (R319). -/
def chainOf_ (n r first : Nat) : Option Nat × Option Nat :=
  (if r = first then none else some ((r + n - 1) % n), if (r + 1) % n = first then none else some ((r + 1) % n))

/-- BROADCAST: a chain from the root. -/
def planBroadcast (v : Env) : Plan :=
  let c := chainOf_ v.n v.r v.root
  { items := if v.r = v.root then [(0, v.copyOf 0)] else [],
    rx := (c.1.map fun p => rxCopy p 0 v.cnt (v.travel.len v.cnt)).toList, tx := (c.2.map fun p => txOf p 0).toList }

/-- REDUCE: a chain from root + 1 to the root, combining in that order. -/
def planReduce (v : Env) : Plan :=
  let c := chainOf_ v.n v.r ((v.root + 1) % v.n)
  { items := if c.1.isNone then [(0, v.wire.enc (v.words 0))] else [],
    rx := (c.1.map fun p => rxRed v p (if v.r = v.root then finKey 0 else 0) (.words (v.words 0)) false (decide (v.r = v.root)) v.cnt).toList,
    tx := (c.2.map fun p => txOf p 0).toList }

/-- ALL_TO_ALL: pairwise rounds; the own block is copied locally. -/
def planAllToAll (v : Env) : Plan :=
  let ks := (List.range (v.n - 1)).map (· + 1)
  { items := (List.range v.n).map fun j => (if j = v.r then finKey j else j, slice v.src (j * v.blk) v.blk),
    rx := ks.map fun k => let p := (v.r + v.n - k) % v.n; rxCopy p (finKey p) v.cnt v.blk,
    tx := ks.map fun k => let p := (v.r + k) % v.n; txOf p p }

/-- SC[j] of the source's count header (R323). -/
def Env.sc (v : Env) (j : Nat) : Nat := getLE v.src (4 * j) 4

/-- The total this member declares. -/
def Env.scSum (v : Env) : Nat := ((List.range v.n).map v.sc).sum

/-- The data of the source for rank `j`. -/
def Env.scData (v : Env) (j : Nat) : Bytes :=
  slice v.src (countHdr v.n + v.fin.len ((List.range j).map v.sc).sum) (v.fin.len (v.sc j))

/-- An 8-byte count prefix. -/
def prefixOf (n : Nat) : Bytes := putBE 4 n ++ zeros 4

/-- ALL_TO_ALL_V (R323, R324): padded, each stream is its prefix and its data; counts first, the prefixes are items
2000 + rank and the data streams follow. `raw` gives what the receives have taken. -/
def planAllToAllV (v : Env) (raw : Tab Bytes) : Plan :=
  let ks := (List.range (v.n - 1)).map (· + 1)
  let from_ (k : Nat) : Nat := (v.r + v.n - k) % v.n
  let count (i : Nat) : Option Nat := let b := Tab.getD raw i []; if b.length < 8 then none else some (getBE b 0 4)
  if v.pad then
    { items := (List.range v.n).map fun j => (if j = v.r then finKey j else j, prefixOf (v.sc j) ++ v.scData j),
      rx := ks.map fun k =>
        { peer := from_ k, key := finKey (from_ k), own := .none, ownFirst := false, final := false, elems := 0,
          len := (count (k - 1)).map (fun n => 8 + v.fin.len n), zero := false },
      tx := ks.map fun k => txOf ((v.r + k) % v.n) ((v.r + k) % v.n) }
  else
    { items := ((List.range v.n).map fun j => (if j = v.r then finKey j else j, v.scData j))
        ++ ((List.range v.n).map fun j => (2000 + j, prefixOf (v.sc j))),
      rx := (ks.map fun k => rxCopy (from_ k) (3000 + from_ k) 0 8)
        ++ (ks.map fun k =>
          { peer := from_ k, key := finKey (from_ k), own := .none, ownFirst := false, final := false, elems := 0,
            len := (count (k - 1)).map v.fin.len, zero := false }),
      tx := (ks.map fun k => txOf ((v.r + k) % v.n) (2000 + (v.r + k) % v.n)) ++ (ks.map fun k => txOf ((v.r + k) % v.n) ((v.r + k) % v.n)) }

/-- BARRIER: dissemination, ⌈log2 N⌉ rounds of zero-length DATA. -/
def planBarrier (v : Env) : Plan :=
  let rounds := Nat.log2 (v.n - 1) + 1
  { items := [(0, [])],
    rx := (List.range rounds).map fun k =>
      { peer := (v.r + v.n - 2 ^ k % v.n) % v.n, key := k + 1, own := .item k, ownFirst := false, final := false, elems := 0,
        len := some 0, zero := true },
    tx := (List.range rounds).map fun k => { peer := (v.r + 2 ^ k) % v.n, key := k, zero := true } }

/-- The plan of a Furrow-path collective (R319). -/
def planOf (v : Env) (raw : Tab Bytes) : Plan :=
  if v.op = 1 then (if v.src.length ≤ v.chunk then planDoubling v else planRing v)
  else if v.op = 2 then planScatter v v.words (fun _ => v.cnt)
  else if v.op = 3 then
    let g := planGather v (fun _ => v.cnt) (fun _ => v.travel.len v.cnt)
    { items := [(finKey v.r, v.copyOf 0)], rx := g.1, tx := g.2 }
  else if v.op = 4 then planBroadcast v
  else if v.op = 5 then planReduce v
  else if v.op = 6 then planAllToAll v
  else if v.op = 7 then planAllToAllV v raw
  else planBarrier v

/-! ### What the received bytes yield (R318, R322) -/

/-- An item: the bytes there are so far, and whether they are all. -/
abbrev Item := Bytes × Bool

/-- A receive has everything. -/
def rxFull (op : RxOp) (raw : Bytes) (hits : Nat) : Bool :=
  match op.len with
  | none => false
  | some n => if n = 0 then !op.zero || 1 ≤ hits else n ≤ raw.length

/-- Combines the elements there are of both operands, in whole units of the output. -/
def combine (v : Env) (op : RxOp) (raw : Bytes) (full : Bool) (own : List Nat) : Item :=
  let out := if op.final then v.fin else v.wire
  let u := v.wire.unit
  let have_ := min (min op.elems (raw.length / u.1 * u.2)) own.length
  let whole : Bool := full && decide (own.length = op.elems)
  let k := if whole then op.elems else have_ / out.unit.2 * out.unit.2
  let got := v.wire.dec (if whole then op.elems else have_) raw
  let f := redWord v.red v.dt
  let w := (List.zip (own.take k) (got.take k)).map (fun x => if op.ownFirst then f x.1 x.2 else f x.2 x.1)
  (out.enc w, whole)

/-- The words of a partial item as an operand. -/
def itemWords (v : Env) (elems : Nat) (it : Item) : List Nat :=
  v.wire.dec (if it.2 then elems else min elems (it.1.length / v.wire.unit.1 * v.wire.unit.2)) it.1

/-- The items of a plan after the receives so far. -/
def itemsOf (v : Env) (p : Plan) (raw : Tab Bytes) (hits : Tab Nat) : Tab Item :=
  (p.rx.zipIdx).foldl (fun t x =>
    let op := x.1
    let b := Tab.getD raw x.2 []
    let full := rxFull op b (Tab.getD hits x.2 0)
    let it : Item := match op.own with
      | .none => (b, full)
      | .words l => combine v op b full l
      | .item k =>
        let o := Tab.getD t k ([], false)
        if op.zero then ([], full && o.2) else combine v op b full (itemWords v op.elems o)
    Tab.put t op.key it) (p.items.foldl (fun t x => Tab.put t x.1 (x.2, true)) [])

/-- The first receive from a rank that lacks something. -/
def rxNext (p : Plan) (raw : Tab Bytes) (hits : Tab Nat) (rank : Nat) : Option Nat :=
  ((p.rx.zipIdx).find? (fun x => x.1.peer = rank && !rxFull x.1 (Tab.getD raw x.2 []) (Tab.getD hits x.2 0))).map (·.2)

/-- Every receive has everything. -/
def rxAll (p : Plan) (raw : Tab Bytes) (hits : Tab Nat) : Bool :=
  (p.rx.zipIdx).all (fun x => rxFull x.1 (Tab.getD raw x.2 []) (Tab.getD hits x.2 0))

/-- The ranks that deliver data to this member (R321). -/
def rxPeers (v : Env) (p : Plan) : List Nat :=
  ((p.rx.filter (fun x => v.op = 7 || x.zero || x.len ≠ some 0)).map (·.peer)).eraseDups

/-! ### Group traffic (R320, R321) -/

/-- RADDR of group traffic. -/
def groupAddr (peerGroup gen kind slot arg : Nat) : Nat :=
  0xFE * 2 ^ 56 + peerGroup * 2 ^ 44 + gen * 2 ^ 36 + kind * 2 ^ 34 + slot * 2 ^ 33 + arg

/-- Sends a request of group traffic to a rank. -/
def groupSend (s : State) (g : Group) (rank kind slot arg sig : Nat) (data : Bytes) : State :=
  match g.members[rank]? with
  | none => s
  | some m =>
    queueReq s m.qpn 1 data.length (groupAddr m.peerGroup g.gen kind slot arg) sig 0 false 0 0 []
      (if data = [] then .none else .bytes data) .nobody

/-- The other ranks of a group. -/
def others (g : Group) : List Nat := (List.range g.size).filter (· ≠ g.rank)

/-- Replaces a group. -/
def putGroup (s : State) (n : Nat) (g : Group) : State := { s with groups := Tab.put s.groups n g }

/-- Grants a slot to a rank (R321). -/
def giveCredit (s : State) (n rank slot sig : Nat) : State :=
  match Tab.find s.groups n with
  | none => s
  | some g => groupSend (putGroup s n { g with given := (rank, slot) :: g.given }) g rank 1 slot 0 sig []

/-- The collective a group runs, with its queue entry. -/
def collOf (s : State) (n : Nat) : Option (Group × Coll × Infl) :=
  match Tab.find s.groups n with
  | none => none
  | some g => match g.coll with
    | none => none
    | some c => (inflOf s c.q c.i).map (fun r => (g, c, r))

/-- The collective holds its Furrow slot (R319). -/
def holdsSlot (s : State) (n : Nat) : Bool := s.fw.colls.any (fun p => p.2 = n)

/-! ### The end of a collective (R330, R331) -/

/-- A collective ends at this member: credits and slots are discarded, its Furrow slot is freed. -/
def collEnd (s : State) (n : Nat) (d : Done) (err : Option Byte) : State :=
  match Tab.find s.groups n with
  | none => s
  | some g => match g.coll with
    | none => s
    | some c =>
      let inbox := if err.isSome then [] else g.inbox
      let s := putGroup s n { g with coll := none, error := if err.isSome then err else g.error, given := [], full := [],
                                     credits := [], sigs := c.sig :: g.sigs, inbox := inbox }
      finish { s with fw := { s.fw with colls := Tab.keep (fun _ x => x ≠ n) s.fw.colls } } c.q c.i d

/-- The ABORTs of a failing member (R331): on every bound queue pair still CONNECTED, and COLL_ABORT on the Runnel path. -/
def sendAborts (s : State) (g : Group) (c : Coll) (st : Byte) : State :=
  (others g).foldl (fun s k => match g.members[k]? with
    | none => s
    | some m =>
      let up : Bool := (qpOf s m.qpn).any (fun p => decide (p.st = .connected))
      let s := if up = true then groupSend s g k 2 0 st.toNat c.sig [] else s
      if c.runnel then rnSend s m.slot (rnBody 2 false m.peerGroup c.seq c.sig g.rank 0 1 [st]) else s) s

/-- A member fails its collective (R331). -/
def collFail (s : State) (n : Nat) (st : Byte) : State :=
  match Tab.find s.groups n with
  | none => s
  | some g => match g.coll with
    | none => s
    | some c => collEnd (sendAborts s g c st) n { status := st, cflags := 0, detail := 0, bytes := 0, aux := 0 } (some st)

/-- Another member aborted (R331): the status it carries, with REMOTE, and no abort in turn. -/
def collAborted (s : State) (n : Nat) (st : Byte) : State :=
  collEnd s n { status := st, cflags := 2, detail := 0, bytes := 0, aux := 0 } (some st)

/-! ### Votes and outputs of an unequal exchange (R323, R324) -/

/-- REQ[i] of the ranks: what each declared for this member; `none` until its prefix has come. -/
def reqOf (v : Env) (raw : Tab Bytes) (i : Nat) : Option Nat :=
  if i = v.r then some (v.sc v.r)
  else
    let k := (v.r + v.n - i) % v.n - 1
    let b := Tab.getD raw k []
    if b.length < 8 then none else some (getBE b 0 4)

/-- The counts of every rank, once all are known. -/
def allReqs (v : Env) (raw : Tab Bytes) : Option (List Nat) := (List.range v.n).mapM (reqOf v raw)

/-- This member's FIT (R323). -/
def fitOf (v : Env) (reqs : List Nat) : Bool := decide (reqs.sum ≤ v.cnt) && decide (v.scSum ≤ v.cnt)

/-- The count header written. -/
def countHeader (v : Env) (l : List Nat) : Bytes := fit (countHdr v.n) ((l.map (putLE 4)).flatten)

/-- Every vote is in, this member's own included. -/
def votesIn (v : Env) (c : Coll) : Bool := c.voted && (List.range v.n).all (fun k => k = v.r || c.votes.any (fun x => x.1 = k))

/-- Every vote in is FIT = 1. -/
def allFit (v : Env) (c : Coll) : Bool :=
  votesIn v c && c.votes.all (·.2) && (match allReqs v c.raw with | some l => fitOf v l | none => false)

/-- A send may go: the data of a counts-first exchange waits for the votes. -/
def txOpen (v : Env) (c : Coll) (op : TxOp) : Bool := v.op ≠ 7 || v.pad || 2000 ≤ op.key || allFit v c

/-- The receives that must be full: a counts-first exchange that does not fit needs its prefixes alone. -/
def rxDone (v : Env) (p : Plan) (c : Coll) : Bool :=
  if v.op = 7 ∧ !v.pad then votesIn v c && (!allFit v c || rxAll p c.raw c.hits) else rxAll p c.raw c.hits

/-- What is written at DST_ADDR: offsets and bytes; with the elements dropped. -/
def collOut (v : Env) (c : Coll) (items : Tab Item) : List (Nat × Bytes) × Nat :=
  let it (k : Nat) : Bytes := (Tab.getD items k ([], false)).1
  let dst (b : Bytes) : Bytes := if v.travel = v.fin then b else v.fin.enc (v.travel.dec v.cnt b)
  if v.op = 1 then
    ([(0, if v.src.length ≤ v.chunk then it (finKey 0) else ((List.range v.n).map (fun b => it (finKey b))).flatten)], 0)
  else if v.op = 2 then ([(0, it (finKey v.r))], 0)
  else if v.op = 3 then ([(0, ((List.range v.n).map (fun b => dst (it (finKey b)))).flatten)], 0)
  else if v.op = 4 then ([(0, dst (it 0))], 0)
  else if v.op = 5 then (if v.r = v.root then [(0, it (finKey 0))] else [], 0)
  else if v.op = 6 then ([(0, ((List.range v.n).map (fun b => it (finKey b))).flatten)], 0)
  else if v.op = 7 then
    let reqs := (allReqs v c.raw).getD []
    let h := countHdr v.n
    if v.pad then
      ((0, countHeader v reqs) :: (List.range v.n).map (fun i =>
          (h + i * v.fin.len v.root, ((it (finKey i)).drop 8).take (v.fin.len (min (reqs.getD i 0) v.root)))),
       (reqs.map (· - v.root)).sum)
    else if allFit v c then
      ([(0, countHeader v reqs ++ ((List.range v.n).map (fun i => it (finKey i))).flatten)], 0)
    else ([(0, countHeader v reqs)], 0)
  else ([], 0)

/-- Writes pieces at offsets of an address, for an access admitted at `at_`. -/
def writePieces (at_ : Option Nat) (s : State) (inst base : Nat) : List (Nat × Bytes) → Acc
  | [] => .ok s []
  | (o, b) :: r => match writeMemAt at_ s inst (base + o) b with
    | .ok s _ => writePieces at_ s inst base r
    | x => x

/-- When the collective of a group was admitted (R212). -/
def collAdm (s : State) (n : Nat) : Option Nat :=
  (Tab.find s.groups n).bind (fun g => g.coll.bind (fun c => admOf s c.q c.i))

/-- Writes the result and completes the collective; a held write leaves it to COLL_COMBINE_DONE. -/
def collFinish (s : State) (n : Nat) (inst dst : Nat) (out : List (Nat × Bytes)) (d : Done) : State :=
  match writePieces (collAdm s n) s inst dst out with
  | .wait s' => { s' with hbm := s.hbm, plot := s.plot, pmem := s.pmem,
                          bx := s'.bx.map (fun x => if s.bx.contains x then x else { x with redo := true }) }
  | .fault s st _ => collFail s n st
  | .ok s _ => collEnd s n { d with bytes := (out.map (fun x => x.2.length)).sum } none

/-! ### Progress on the Furrow path (R319 to R323) -/

/-- Sends the next chunk that an item, a credit and the order of its peer allow. -/
def sendOne (s : State) (n : Nat) (v : Env) (p : Plan) (items : Tab Item) : Option State :=
  match Tab.find s.groups n with
  | none => none
  | some g => match g.coll with
    | none => none
    | some c =>
      let sentAll (x : TxOp × Nat) : Bool :=
        let it := Tab.getD items x.1.key ([], false)
        it.2 && (if it.1 = [] then !x.1.zero || 1 ≤ Tab.getD c.sent x.2 0 else decide (it.1.length ≤ Tab.getD c.sent x.2 0))
      let open_ := (p.tx.zipIdx).filter (fun x => !sentAll x)
      let ready (x : TxOp × Nat) : Bool :=
        let it := Tab.getD items x.1.key ([], false)
        let off := Tab.getD c.sent x.2 0
        txOpen v c x.1 && (it.2 || off + v.chunk ≤ it.1.length)
        && g.credits.any (fun k => k.1 = x.1.peer && k.2.2 = c.sig)
        && (match open_.find? (fun y => y.1.peer = x.1.peer) with | some y => y.2 = x.2 | none => false)
      match open_.find? ready with
      | none => none
      | some (op, i) =>
        match g.credits.find? (fun k => k.1 = op.peer && k.2.2 = c.sig) with
        | none => none
        | some k =>
          let it := Tab.getD items op.key ([], false)
          let off := Tab.getD c.sent i 0
          let b := slice it.1 off v.chunk
          let c := { c with sent := Tab.put c.sent i (off + max 1 b.length) }
          let g := { g with credits := g.credits.erase k, coll := some c }
          some (groupSend (putGroup s n g) g op.peer 0 k.2.1 0 c.sig b)

/-- Sends until nothing more may go. -/
def sendMany : Nat → State → Nat → Env → Plan → Tab Item → State
  | 0, s, _, _, _, _ => s
  | f + 1, s, n, v, p, items => match sendOne s n v p items with
    | none => s
    | some s => sendMany f s n v p items

/-- Every send has gone, those a vote closed apart. -/
def txDone (v : Env) (p : Plan) (c : Coll) (items : Tab Item) : Bool :=
  (p.tx.zipIdx).all (fun x =>
    let it := Tab.getD items x.1.key ([], false)
    (!txOpen v c x.1) || (it.2 && (if it.1 = [] then !x.1.zero || 1 ≤ Tab.getD c.sent x.2 0 else decide (it.1.length ≤ Tab.getD c.sent x.2 0))))

/-- Sends this member's vote once every count prefix has come (R323). -/
def collVote (s : State) (n : Nat) (v : Env) : State :=
  match Tab.find s.groups n with
  | none => s
  | some g => match g.coll with
    | none => s
    | some c =>
      if v.op ≠ 7 ∨ v.pad ∨ c.voted then s
      else match allReqs v c.raw with
        | none => s
        | some l =>
          (others g).foldl (fun s k => groupSend s g k 3 0 (bit (fitOf v l)) c.sig [])
            (putGroup s n { g with coll := some { c with voted := true } })

/-- What a Furrow-path collective can do now: vote, send, and end when everything has come and gone. -/
def collStep (s : State) (n : Nat) : State :=
  match collOf s n with
  | none => s
  | some (g, c, r) =>
    if c.runnel ∨ !holdsSlot s n then s
    else
      let v := envOf s g r.ent c.src
      let p := planOf v c.raw
      let items := itemsOf v p c.raw c.hits
      let s := sendMany 4096 (collVote s n v) n v p items
      match collOf s n with
      | none => s
      | some (g, c, r) =>
        if rxDone v p c ∧ txDone v p c items ∧ g.full = [] then
          let o := collOut v c items
          let st := if v.op = 7 ∧ !v.pad ∧ !allFit v c then Status.bounds
            else if o.2 = 0 then Status.ok else Status.overflowDropped
          collFinish s n g.inst (getLE r.ent 32 8) o.1 { status := st, cflags := 0, detail := 0, bytes := 0, aux := o.2 }
        else s

/-! ### The Runnel path (R317, R329) -/

/-- The Runnel path is chosen (R317). -/
def onRunnel (s : State) (g : Group) (e : Bytes) : Bool :=
  let op := getLE e 12 1
  let dt := getLE e 14 1
  let fl := getLE e 15 1
  bitN fl 2 || (!bitN fl 3 && instHas s g.inst 13 && g.runnelOk && op ∈ [1, 4, 8] && fl % 4 = 0 && !isMx dt
    && fmtBytes dt (getLE e 16 4) ≤ 32)

/-- Sends a member's own contribution to every other member. -/
def sendContrib (s : State) (g : Group) (replay : Bool) (seq sig dt : Nat) (data : Bytes) : State :=
  (others g).foldl (fun s k => match g.members[k]? with
    | none => s
    | some m => rnSend s m.slot (rnBody 1 replay m.peerGroup seq sig g.rank dt data.length data)) s

/-- A COLL message of a collective waits on some stream, unacknowledged. -/
def collUnacked (s : State) (c : Coll) : Bool :=
  let mine (b : Bytes) : Bool := getBE b 0 1 = 1 && getBE b 4 4 = c.seq && getBE b 8 4 = c.sig
  s.rn.streams.any (fun x => x.2.unacked.any (fun m => mine m.body) || x.2.waiting.any mine)

/-- The contribution of a rank to a collective. -/
def contribOf (g : Group) (seq rank : Nat) : Option Contrib := g.early.find? (fun x => x.seq = seq && x.rank = rank)

/-- The combination of all contributions in ascending rank order, with one conversion at the end (R318, R329). -/
def runnelReduce (v : Env) (bs : List Bytes) : Bytes :=
  let ws := bs.map (v.fin.dec v.cnt)
  match ws with
  | [] => []
  | w :: r => v.fin.enc (r.foldl (fun a b => (List.zip a b).map (fun x => redWord v.red v.dt x.1 x.2)) w)

/-- What a Runnel-path collective can do now: fail on a contribution of another SIG, or end. -/
def runnelStep (s : State) (n : Nat) : State :=
  match collOf s n with
  | none => s
  | some (g, c, r) =>
    if !c.runnel then s
    else
      let v := envOf s g r.ent c.src
      let dst := getLE r.ent 32 8
      let d : Done := { status := Status.ok, cflags := 0, detail := 0, bytes := 0, aux := 0 }
      if g.early.any (fun x => x.seq = c.seq && x.sig ≠ c.sig) then collFail s n Status.badField
      else if v.op = 4 then
        if v.r = v.root then
          (if collUnacked s c then s else collFinish s n g.inst dst [(0, c.src)] d)
        else match contribOf g c.seq v.root with
          | none => s
          | some x => collFinish s n g.inst dst [(0, x.data)] d
      else
        let all := (List.range v.n).map (fun k => if k = v.r then some c.src else (contribOf g c.seq k).map (·.data))
        match all.mapM id with
        | none => s
        | some bs => collFinish s n g.inst dst (if v.op = 8 then [] else [(0, runnelReduce v bs)]) d

/-! ### Dispatch (R314, R316, R369) -/

/-- SIG (R314). -/
def sigOf (seq : Nat) (e : Bytes) : Nat :=
  let op := getLE e 12 1
  crcN (putBE 4 seq ++ slice e 12 4 ++ putBE 4 (if op = 7 then 0 else getLE e 16 4) ++ putBE 4 (getLE e 52 4))

/-- The lengths of source and destination, with the geometry of the loaded codebooks (R315, R369). -/
def collLens (s : State) (g : Group) (e : Bytes) : Nat × Nat :=
  let v := envOf s g e []
  if v.op = 7 then collBytes e g.size g.rank
  else
    let b := collBlocks v.op g.size g.rank v.root
    (b.1 * v.srcE.len v.cnt, b.2 * v.fin.len v.cnt)

/-- The admission checks of R369 on a collective with a VQ flag. -/
def vqFail (s : State) (g : Group) (e : Bytes) : Option Byte :=
  let fl := getLE e 15 1
  let ci := getLE e 48 1
  let co := getLE e 49 1
  let used := (if bitN fl 0 then [ci] else []) ++ (if bitN fl 1 then [co] else [])
  let loaded (k : Nat) : Bool := match Tab.find s.cbs k with | some c => c.st = .loaded | none => false
  let a := cbAt s ci
  let b := cbAt s co
  let l := collLens s g e
  let same : Bool := getLE e 12 1 = 4 && g.rank = getLE e 52 4 && getLE e 24 8 = getLE e 32 8
  if used = [] then none
  else firstFail [(used.all loaded, Status.descriptorCrc),
    (used.all (fun k => (cbAt s k).vlen ≠ 0 && getLE e 16 4 % (cbAt s k).vlen = 0), Status.badField),
    (used.length < 2 || (a.vlen = b.vlen && a.entries = b.entries), Status.badField),
    (same || !overlapR (getLE e 24 8) l.1 (getLE e 32 8) l.2, Status.badField)]

/-- The local operands of a COLLECTIVE (R211, R315). -/
def collOpds (e : Bytes) (l : Nat × Nat) (src dst : Bool) : List LocOpd :=
  (if src && l.1 ≠ 0 then [{ key := getLE e 40 4, need := rRead, addr := getLE e 24 8, len := l.1 }] else [])
    ++ (if dst && l.2 ≠ 0 then [{ key := getLE e 44 4, need := rWrite, addr := getLE e 32 8, len := l.2 }] else [])

/-- Admission of both buffers, made once (R212): the source is read, the destination's translation is checked. -/
def collAdmit (s : State) (q i inst : Nat) (r : Infl) (l : Nat × Nat) (src dst : Bool) : Acc :=
  let e := r.ent
  match admitOnce s q i inst r (collOpds e l src dst) with
  | (s, some st) => .fault s st false
  | (s, none) => match (if src ∧ l.1 ≠ 0 then readMemAt (admOf s q i) s inst (getLE e 24 8) l.1 else .ok s []) with
    | .ok s b =>
      if !dst ∨ l.2 = 0 then .ok s b
      else match probe true (admOf s q i) (l.2 + 1) s inst (getLE e 32 8) l.2 with
        | .ok s _ => .ok s b
        | x => x
    | x => x

/-- The collective of a dispatched entry joins its group: COLL_SEQ and SIG are taken (R314). -/
def collBegin (s : State) (q i n : Nat) (g : Group) (e : Bytes) (runnel : Bool) (src : Bytes) : State :=
  let c : Coll := { q := q, i := i, seq := g.seq, sig := sigOf g.seq e, since := s.sys.now, order := s.fw.ages, runnel := runnel,
                    src := src, raw := [], hits := [], sent := [], votes := [], voted := false, credited := [] }
  let s := putGroup (dispatched s q i) n { g with seq := (g.seq + 1) % 2 ^ 32, coll := some c }
  { s with fw := { s.fw with ages := s.fw.ages + 1 } }

/-- Takes a Furrow slot for a collective if one is free (R319, R337). -/
def collSlot (s : State) (n inst order : Nat) : State :=
  if mayTakeSlot s inst && firstWaiting s inst order then
    match pickSlot s with
    | none => s
    | some k => { s with fw := { s.fw with colls := Tab.put s.fw.colls k n } }
  else s

/-- Starts a dispatched collective on its path. -/
def collStart (s : State) (n : Nat) : State :=
  match collOf s n with
  | none => s
  | some (g, c, r) =>
    let v := envOf s g r.ent c.src
    if c.runnel then
      let own : Contrib := { seq := c.seq, rank := g.rank, sig := c.sig, data := c.src }
      let send : Bool := v.op ≠ 4 || v.r = v.root
      let s := putGroup s n { g with kept := if send then (own :: g.kept).take 2 else g.kept }
      runnelStep (if send then sendContrib s g false c.seq c.sig v.dt c.src else s) n
    else
      let p := planOf v []
      let s := (rxPeers v p).foldl (fun s k => giveCredit (giveCredit s n k 0 c.sig) n k 1 c.sig) s
      collStep (collSlot s n g.inst c.order) n

/-- Dispatches a COLLECTIVE of one COLL_OP (R314, R316, R330). -/
def collDispatch (q i op : Nat) (s : State) : Result :=
  match mayDispatch s q i 0x20 with
  | none => .next s
  | some (x, r) =>
    let e := r.ent
    if getLE e 12 1 ≠ op then .next s
    else
      let n := getLE e 20 4
      match Tab.find s.groups n with
      | none => .next (finishSt s q i Status.flushed)
      | some g =>
        if g.error.isSome then .next (finishSt s q i Status.flushed)
        else if g.coll.isSome then .next s
        else
          let runnel := onRunnel s g e
          let share := match Tab.find s.insts x.inst with | some y => y.fwSlots | none => 0
          let root := getLE e 52 4
          let fail (s : State) (st : Byte) : Result := .next (collFail (collBegin s q i n g e runnel []) n st)
          match vqFail s g e with
          | some st => fail s st
          | none =>
            if !runnel ∧ share = 0 then fail s Status.noResource
            else match collAdmit s q i x.inst r (collLens s g e) (!(op = 4 && g.rank ≠ root) && op ≠ 8) (!(op = 5 && g.rank ≠ root) && op ≠ 8) with
              | .wait s => .next s
              | .fault s st _ => fail s st
              | .ok s src =>
                let v := envOf s g e src
                if op = 7 ∧ v.pad ∧ v.cnt < v.scSum then fail s Status.bounds
                else .next (collStart (collBegin s q i n g e runnel src) n)

/-- ALL_REDUCE (R318, R319). -/
def execAllReduce (q i : Nat) (s : State) : Result := collDispatch q i 1 s
/-- REDUCE_SCATTER (R319). -/
def execReduceScatter (q i : Nat) (s : State) : Result := collDispatch q i 2 s
/-- ALL_GATHER (R319). -/
def execAllGather (q i : Nat) (s : State) : Result := collDispatch q i 3 s
/-- BROADCAST (R319). -/
def execBroadcast (q i : Nat) (s : State) : Result := collDispatch q i 4 s
/-- REDUCE (R319). -/
def execReduce (q i : Nat) (s : State) : Result := collDispatch q i 5 s
/-- ALL_TO_ALL (R319). -/
def execAllToAll (q i : Nat) (s : State) : Result := collDispatch q i 6 s
/-- ALL_TO_ALL_V (R323, R324). -/
def execAllToAllV (q i : Nat) (s : State) : Result := collDispatch q i 7 s
/-- BARRIER (R319). -/
def execBarrier (q i : Nat) (s : State) : Result := collDispatch q i 8 s

/-! ### Group traffic received (R320 to R323, R331) -/

/-- Removes the k-th message of a group's inbox. -/
def dropMsg (s : State) (n k : Nat) : State :=
  { s with groups := Tab.modify s.groups n (fun g => { g with inbox := g.inbox.eraseIdx k }) }

/-- The first message of a group's inbox that a test takes, with its place. -/
def msgAt (g : Group) (f : GMsg → Bool) : Option (GMsg × Nat) := (g.inbox.zipIdx).find? (fun x => f x.1)

/-- COLL_DATA (R320): a delivered DATA request stands in its slot. -/
def execCollData (n : Nat) (s : State) : Result :=
  match Tab.find s.groups n with
  | none => .next s
  | some g => match msgAt g (fun m => m.kind = 0) with
    | none => .next s
    | some (m, k) =>
      let s := dropMsg s n k
      match g.coll with
      | none => .next s
      | some c =>
        if m.sig ≠ c.sig then .next (collFail s n Status.badField)
        else .next { s with groups := Tab.modify s.groups n (fun g => { g with full := g.full ++ [(m.rank, m.slot, m.data)] }) }

/-- COLL_COMBINE_DONE (R321, R322): the oldest full slot is consumed and its credit returned; then whatever can go goes. -/
def execCollCombineDone (n : Nat) (s : State) : Result :=
  match collOf s n with
  | none => .next s
  | some (g, c, r) =>
    if c.runnel then .next (runnelStep s n)
    else if !holdsSlot s n then .next s
    else match g.full with
      | [] => .next (collStep s n)
      | (rank, slot, b) :: rest =>
        let v := envOf s g r.ent c.src
        let p := planOf v c.raw
        let c := match rxNext p c.raw c.hits rank with
          | none => c
          | some k => { c with raw := Tab.put c.raw k (Tab.getD c.raw k [] ++ b), hits := Tab.put c.hits k (Tab.getD c.hits k 0 + 1) }
        let s := putGroup s n { g with full := rest, coll := some c }
        .next (collStep (giveCredit s n rank slot c.sig) n)

/-- This member sends data to a rank in its collective. -/
def sendsTo (s : State) (g : Group) (c : Coll) (r : Infl) (rank : Nat) : Bool :=
  let v := envOf s g r.ent c.src
  (planOf v c.raw).tx.any (fun x => x.peer = rank && (v.op = 7 || x.zero || v.cnt ≠ 0))

/-- COLL_CREDIT (R321): a credit of the running collective is held to be spent; one of an ended collective is dropped; one of
the next collective waits for its dispatch; another SIG fails the collective (R314). -/
def execCollCredit (n : Nat) (s : State) : Result :=
  match Tab.find s.groups n with
  | none => .next s
  | some g =>
    let cur := collOf s n
    let wrong (m : GMsg) : Bool := match cur with
      | some (g, c, r) => !c.runnel && !c.credited.contains m.rank && sendsTo s g c r m.rank
      | none => false
    let mine (m : GMsg) : Bool := match cur with | some (_, c, _) => m.sig = c.sig | none => false
    match msgAt g (fun m => m.kind = 1 && (mine m || g.sigs.contains m.sig || wrong m)) with
    | none => .next s
    | some (m, k) =>
      let s := dropMsg s n k
      if mine m then
        .next (collStep { s with groups := Tab.modify s.groups n (fun g =>
          { g with credits := g.credits ++ [(m.rank, m.slot, m.sig)],
                   coll := g.coll.map (fun c => { c with credited := m.rank :: c.credited }) }) } n)
      else if g.sigs.contains m.sig then .next s
      else .next (collFail s n Status.badField)

/-- COLL_ABORT (R331): an ABORT of the running collective completes it; one of an ended collective is dropped; one of the next
waits for its dispatch. The failure of a bound queue pair fails the running collective. -/
def execCollAbort (n : Nat) (s : State) : Result :=
  match Tab.find s.groups n with
  | none => .next s
  | some g =>
    let mine (m : GMsg) : Bool := match g.coll with | some c => m.sig = c.sig | none => false
    match msgAt g (fun m => m.kind = 4 || (m.kind = 2 && (mine m || g.sigs.contains m.sig))) with
    | none => .next s
    | some (m, k) =>
      let s := dropMsg s n k
      if m.kind = 4 then .next (collFail s n (BitVec.ofNat 8 m.arg))
      else if mine m then .next (collAborted s n (BitVec.ofNat 8 m.arg))
      else .next s

/-- COLL_VOTE (R323). -/
def execCollVote (n : Nat) (s : State) : Result :=
  match Tab.find s.groups n with
  | none => .next s
  | some g => match msgAt g (fun m => m.kind = 3) with
    | none => .next s
    | some (m, k) =>
      let s := dropMsg s n k
      match g.coll with
      | none => .next s
      | some c =>
        if m.sig ≠ c.sig then .next (if g.sigs.contains m.sig then s else collFail s n Status.badField)
        else .next (collStep { s with groups := Tab.modify s.groups n (fun g =>
          { g with coll := g.coll.map (fun c => { c with votes := c.votes ++ [(m.rank, decide (m.arg = 1))] }) }) } n)

/-- COLL_TIMEOUT (R331). -/
def execCollTimeout (n : Nat) (s : State) : Result :=
  match Tab.find s.groups n with
  | none => .next s
  | some g => match g.coll with
    | none => .next s
    | some c => .next (collFail (advanceTo s (c.since + g.timeout * 1000000)) n Status.waitTimeout)

/-! ### Runnel messages received (R329, R331) -/

/-- The COLL_SEQ a group runs, or will run next. -/
def curSeq (g : Group) : Nat := match g.coll with | some c => c.seq | none => g.seq

/-- How far a COLL_SEQ lies past the current one. -/
def seqAhead (g : Group) (x : Nat) : Nat := (x + 2 ^ 32 - curSeq g) % 2 ^ 32

/-- A COLL message can be delivered now: it is not for a collective later than the next (R329). -/
def collAccept (s : State) (m : Bytes) : Bool :=
  match Tab.find s.groups (getBE m 10 2) with
  | none => true
  | some g => g.error.isSome || seqAhead g (getBE m 12 4) ≤ 1 || 2 ^ 31 ≤ seqAhead g (getBE m 12 4)

/-- A delivered contribution (R329). -/
def takeContrib (s : State) (m : Bytes) : State :=
  let n := getBE m 10 2
  match Tab.find s.groups n with
  | none => s
  | some g =>
    let x : Contrib := { seq := getBE m 12 4, rank := getBE m 20 1, sig := getBE m 16 4, data := slice m 24 (getBE m 22 1) }
    if g.error.isSome then s
    else if 2 ^ 31 ≤ seqAhead g x.seq then
      match bitN (getBE m 2 1) 2, g.kept.find? (fun y => y.seq = x.seq), g.members[x.rank]? with
      | true, some k, some p => rnSend s p.slot (rnBody 1 false p.peerGroup k.seq k.sig g.rank (getBE m 21 1) k.data.length k.data)
      | _, _, _ => s
    else if g.early.any (fun y => y.seq = x.seq && y.rank = x.rank) then s
    else
      let live (y : Contrib) : Bool := seqAhead g y.seq ≤ 1
      runnelStep (putGroup s n { g with early := g.early.filter live ++ [x] }) n

/-- A delivered COLL_ABORT: of the running collective, or kept for the next (R331). -/
def takeRunnelAbort (s : State) (m : Bytes) : State :=
  let n := getBE m 10 2
  match Tab.find s.groups n with
  | none => s
  | some g =>
    let a := seqAhead g (getBE m 12 4)
    let st := m.getD 24 0
    if g.error.isSome ∨ 2 ≤ a then s
    else if a = 0 ∧ g.coll.isSome then collAborted s n st
    else
      let x : GMsg := { rank := getBE m 20 1, kind := 2, slot := 0, arg := st.toNat, sig := getBE m 16 4, data := [] }
      putGroup s n { g with inbox := g.inbox ++ [x] }

/-- Collectives that an acknowledgement may have ended: the roots of Runnel broadcasts. -/
def runnelRoots (s : State) : State := s.groups.foldl (fun s p => runnelStep s p.1) s

/-- The Runnel unit takes an arrived message, by its TYPE (R327 to R331). -/
def rnServe (s : State) (m : Bytes) : State :=
  let t := getBE m 1 1
  match rnArrive s m (if t = 1 then collAccept s m else t = 2) with
  | .done s => runnelRoots s
  | .deliver s => runnelRoots (if t = 1 then takeContrib s m else takeRunnelAbort s m)

/-- The Runnel unit holds the messages that arrive: it is under test (R404), or its wake is held (R72). -/
def rnStopped (s : State) : Bool := underTest s 7 0 || gated s .runnel

/-- A message of a row's TYPE, or one that R327 discards, arrives: it wakes a gated Runnel unit (R71); it is lost while its link is in
calibration (R83). -/
def rnRow (m : Bytes) (type : Nat) (s : State) : Result :=
  if rnGood m ∧ getBE m 1 1 ≠ type then .next s
  else match (rnLink s (getBE m 4 1)).filter (fun l => (link s l).cal = .running) with
    | some l => .next (putLink s l { link s l with dropped := (link s l).dropped + 1 })
    | none =>
      let s := wakeBlk s .runnel
      .next (if rnStopped s then { s with rn.held := s.rn.held ++ [m] } else rnServe s m)

/-- Messages that waited are served in order, and what waited to leave leaves. -/
def rnRelease (s : State) : State :=
  if rnStopped s then s
  else
    let s := s.rn.held.foldl rnServe { s with rn.held := [] }
    s.rn.streams.foldl (fun s p => rnFlush 33 s p.1) s

/-- RUNNEL_COLL (R328, R329). -/
def execRunnelColl (m : Bytes) (s : State) : Result := rnRow m 1 s

/-- RUNNEL_COLL_ABORT (R328, R331). -/
def execRunnelCollAbort (m : Bytes) (s : State) : Result := rnRow m 2 s

/-- RUNNEL_ACK (R328). -/
def execRunnelAck (m : Bytes) (s : State) : Result := rnRow m 3 s

/-! ### Group commands (R312, R313, R333) -/

/-- The selected group. -/
def gSel (s : State) (inst : Nat) : Nat := getPage s inst 0x280

/-- Checks 1 and 2 of R333; CREATE checks every staging field. -/
def gHead (s : State) (inst : Nat) (w : RegWr) (create : Bool) : List (Bool × Byte) :=
  let cfg := getPage s inst 0x284
  let n := fld cfg 22 16
  let to_ := getPage s inst 0x298
  [(noRsv w 0xFFFFFFF0 && decide (gSel s inst < 4096) && decide (getPage s inst 0x288 < 256)
      && (!create || (2 ≤ n && n ≤ 64 && fld cfg 13 8 < n && 16 ≤ fld cfg 4 0 && fld cfg 4 0 ≤ 22 && 1 ≤ to_ && to_ ≤ 60000
        && getPage s inst 0x28C % 64 = 0)), Status.badField),
   (instHas s inst 11 && (!create || !bitN cfg 30 || instHas s inst 13), Status.featureNotNegotiated)]

/-- The members of a table (R312). -/
def membersOf (n : Nat) (b : Bytes) : List Member :=
  (List.range n).map fun k => { qpn := getLE b (8 * k) 3 % 2 ^ 18, peerGroup := getLE b (8 * k + 4) 2 % 2 ^ 12, slot := getLE b (8 * k + 6) 1 }

/-- No two numbers of a list are equal. -/
def distinct (l : List Nat) : Bool := l.eraseDups.length = l.length

/-- Check 4 of R333 on the member table. -/
def tableOk (s : State) (n rank : Nat) (b : Bytes) : Bool :=
  let ms := membersOf n b
  let far := (ms.zipIdx.filter (fun x => x.2 ≠ rank)).map (fun x => x.1.qpn)
  (List.range n).all (fun k => getLE b (8 * k) 3 < 2 ^ 18 && zeroIn b (8 * k + 3) 1 && getLE b (8 * k + 4) 2 < 2 ^ 12 && zeroIn b (8 * k + 7) 1)
  && (match ms[rank]? with | some m => m.qpn = 2 ^ 18 - 1 | none => false)
  && distinct far && far.all (fun q => q < qpMax s && (match qpOf s q with | some p => p.kind = .rc | none => false))
  && ms.all (fun m => 1 ≤ m.slot && m.slot ≤ 66) && distinct (ms.map (·.slot))

/-- Checks 4 to 7 of R333 for CREATE. -/
def createChecks (s : State) (inst : Nat) (b : Bytes) : List (Bool × Byte) :=
  let g := gSel s inst
  let cfg := getPage s inst 0x284
  let n := fld cfg 22 16
  let far := ((membersOf n b).zipIdx.filter (fun x => x.2 ≠ fld cfg 13 8)).map (fun x => x.1.qpn)
  let unbound (q : Nat) : Bool := (match qpOf s q with | some p => p.group.isNone | none => true)
    && !s.wqs.any (fun x => x.2.kind ≠ .lq && x.2.qp = q)
  [(tableOk s n (fld cfg 13 8) b, Status.badField),
   (owns1 s.own.grp g inst && far.all (fun q => owns s.own.qp q inst), Status.notPermitted),
   (!Tab.has s.groups g && far.all unbound, Status.busy),
   ((s.groups.filter (fun p => p.2.inst = inst)).length < 64 && s.groups.length < 4096
      && (lowestHbm s inst (2 * (n - 1) * 2 ^ fld cfg 4 0)).isSome, Status.noResource)]

/-- The group comes into being (R313): queue pairs bound, scratch reserved, COLL_SEQ 0, READY. -/
def createGroup (s : State) (inst : Nat) (b : Bytes) : State :=
  let cfg := getPage s inst 0x284
  let n := fld cfg 22 16
  let k := gSel s inst
  let len := 2 * (n - 1) * 2 ^ fld cfg 4 0
  let off := (lowestHbm s inst len).getD 0
  let ms := membersOf n b
  let g : Group := { inst := inst, size := n, rank := fld cfg 13 8, wide := bitN cfg 31, runnelOk := bitN cfg 30,
                     chunkLog2 := fld cfg 4 0, gen := getPage s inst 0x288, timeout := getPage s inst 0x298, members := ms,
                     error := none, seq := 0, coll := none, scratch := off, inbox := [], credits := [], given := [], full := [],
                     sigs := [], early := [], kept := [] }
  let s := putGroup (reserve s inst off len) k g
  (ms.zipIdx).foldl (fun s x => if x.2 = g.rank then s else
    { s with qps := Tab.modify s.qps x.1.qpn (fun p => { p with group := some k, member := x.2 }) }) s

/-- Reads the member table under its key. -/
def readTable (s : State) (inst : Nat) : Acc :=
  let addr := getPage s inst 0x28C + getPage s inst 0x290 * 2 ^ 32
  let len := 8 * fld (getPage s inst 0x284) 22 16
  match admitKey s inst (getPage s inst 0x294) rRead addr len false false with
  | (s, some st) => .fault s st false
  | (s, none) => readMem s inst addr len

/-- A command of an instance page would reach its own checks. -/
def pageOpen (s : State) (inst stat : Nat) (w : RegWr) : Bool :=
  windowLive s && !discarded s w.src && decide (inst < instMax s) && w.full && pageOwned s inst w.src && !pageBusy s inst stat

/-- RN_GCMD CREATE (R312, R313, R333). A member table whose read is held leaves BUSY set, and the command goes on with
`retryCreates`. -/
def execRnGcmdCreate (inst : Nat) (w : RegWr) (s : State) : Result :=
  let pre := gHead s inst w true
  onCmd w 1 s (
    if !pageOpen s inst 0x2A0 w ∨ firstFail pre ≠ none then pageCmd s inst 0x29C 0x2A0 w pre id
    else match readTable s inst with
      | .fault s st _ => pageCmd s inst 0x29C 0x2A0 w [(false, st)] id
      | .wait s => pageCmd s inst 0x29C 0x2A0 w [] (fun s => putStat s inst 0x2A0 true Status.ok)
      | .ok s b => pageCmd s inst 0x29C 0x2A0 w (createChecks s inst b) (fun s => createGroup s inst b))

/-- A CREATE whose member table was held is tried again. -/
def retryCreate (s : State) (inst : Nat) : State :=
  let w : RegWr := { src := if isPartner s inst then .host else .tender, full := true, data := 1 }
  let no (s : State) (st : Byte) : State := rejectCmd (putStat s inst 0x2A0 false st) inst 0x29C 0x2A0 w st
  if !pageBusy s inst 0x2A0 then s
  else match readTable s inst with
    | .wait s => s
    | .fault s st _ => no s st
    | .ok s b => match firstFail (createChecks s inst b) with
      | some st => no s st
      | none => createGroup (putStat s inst 0x2A0 false Status.ok) inst b

/-- Every held CREATE is tried again. -/
def retryCreates (s : State) : State := s.insts.foldl (fun s p => retryCreate s p.1) s

/-- Removes a group: queue pairs unbound, scratch released. -/
def dropGroup (s : State) (k : Nat) : State :=
  match Tab.find s.groups k with
  | none => s
  | some g =>
    let s := release s g.inst g.scratch (2 * (g.size - 1) * 2 ^ g.chunkLog2)
    { s with groups := Tab.del s.groups k, fw := { s.fw with colls := Tab.keep (fun _ x => x ≠ k) s.fw.colls },
             qps := Tab.map (fun _ p => if p.group = some k then { p with group := none } else p) s.qps }

/-- The selected group is granted to the instance (check 5 of R333). -/
def gMine (s : State) (inst : Nat) : Bool := owns1 s.own.grp (gSel s inst) inst

/-- RN_GCMD DESTROY (R313, R333). -/
def execRnGcmdDestroy (inst : Nat) (w : RegWr) (s : State) : Result :=
  let k := gSel s inst
  let idle : Bool := match Tab.find s.groups k with | some g => g.coll.isNone | none => true
  onCmd w 2 s (pageCmd s inst 0x29C 0x2A0 w (gHead s inst w false ++ [(gMine s inst, Status.notPermitted), (idle, Status.busy)])
    (fun s => dropGroup s k))

/-- RN_GCMD RESET (R331, R333): READY, COLL_SEQ 0, a new generation. -/
def execRnGcmdReset (inst : Nat) (w : RegWr) (s : State) : Result :=
  let k := gSel s inst
  let gen := getPage s inst 0x288
  let ok : Bool := match Tab.find s.groups k with | some g => g.coll.isNone && decide (g.gen ≠ gen) | none => false
  onCmd w 3 s (pageCmd s inst 0x29C 0x2A0 w (gHead s inst w false ++ [(gMine s inst, Status.notPermitted), (ok, Status.busy)])
    (fun s => { s with groups := Tab.modify s.groups k (fun g =>
      { g with error := none, seq := 0, gen := gen, inbox := [], credits := [], given := [], full := [], sigs := [], early := [],
               kept := [] }) }))

/-- The STATE of a group (RN_GSTAT). -/
def gState (g : Group) : Nat := if g.error.isSome then 3 else if g.coll.isSome then 2 else 1

/-- RN_GCMD QUERY (R333): RN_GSTAT, RN_GSEQ. -/
def execRnGcmdQuery (inst : Nat) (w : RegWr) (s : State) : Result :=
  onCmd w 4 s (pageCmd s inst 0x29C 0x2A0 w (gHead s inst w false ++ [(gMine s inst, Status.notPermitted)]) (fun s =>
    match Tab.find s.groups (gSel s inst) with
    | none => putPage (putPage s inst 0x2A4 0) inst 0x2A8 0
    | some g =>
      let st := match g.error with | some b => b.toNat | none => 0
      putPage (putPage s inst 0x2A4 (gState g * 2 ^ 28 + st * 256)) inst 0x2A8 g.seq))

end Sys2Proof.Machine
end

