-- ==== Sys2Proof/Machine/Rx.lean ====
section
/-!
DEFINITION. The Sluice transport's receiver: frame checks, classification, decryption, placement, acknowledgement points,
acknowledgements at the sender, resume, timers (spec file 10, R226 to R247; R253, R265, R281, R320).
-/
namespace Sys2Proof.Machine

/-! ### Headers and frame checks (R229, R230, R241) -/

/-- A Sluice header's fields (R229). -/
structure PktHdr where
  op : Nat
  flags : Nat
  epoch : Nat
  dqpn : Nat
  credit : Nat
  psn : Nat
  sqpn : Nat
  aux : Nat
  deriving DecidableEq, Repr

/-- Reads a header. -/
def parseHdr (h : Bytes) : PktHdr :=
  { op := getBE h 1 1, flags := getBE h 2 1, epoch := getBE h 3 1, dqpn := getBE h 4 3, credit := getBE h 7 1,
    psn := getBE h 8 3, sqpn := getBE h 12 3, aux := getBE h 16 4 }

/-- FIRST. -/
def hFirst (h : PktHdr) : Bool := bitN h.flags 7
/-- LAST. -/
def hLast (h : PktHdr) : Bool := bitN h.flags 6

/-- The defined opcodes (R230). -/
def pktOps : List Nat := [1, 2, 3, 4, 5, 6, 7, 8, 9, 0x10, 0x12, 0x13, 0x14, 0x15]

/-- The reserved bytes of an extension are zero (R230). -/
def extRsvOk (op : Nat) (e : Bytes) : Bool :=
  if op = 5 ∨ op = 6 then zeroIn e 4 4
  else if op = 7 ∨ op = 8 ∨ op = 0x15 then zeroIn e 12 4
  else if op = 0x12 ∨ op = 0x13 ∨ op = 0x14 then zeroIn e 7 1 && zeroIn e 12 4
  else true

/-- A received frame's length, destination address through FCS (R77, R226). -/
def rxLen (f : Frame) : Nat :=
  18 + (if f.vid.isSome then 4 else 0) + (if f.routed then 48 else 0) + f.hdr.length + f.ext.length + f.payload.length + f.tag.length

/-- What R227 discards of the routed frames that arrive. -/
def routedBad (s : State) (l : Nat) (f : Frame) : Bool :=
  f.routed && (f.ipExt || f.dst ≠ Config.linkIp (linkMac s l) || f.nh ≠ 17 || f.dport ≠ lim s Image.udpPort)

/-- The frame checks that come before any answer (R77, R227, R241): the link counter of the failing one. -/
def frameFail (s : State) (l : Nat) (f : Frame) : Option Nat :=
  let h := parseHdr f.hdr
  let ext := getBE f.hdr 0 1 % 16
  if !f.fcsOk ∨ 8320 < rxLen f ∨ routedBad s l f ∨ f.hdr.length ≠ 24 then some 12
  else if getBE f.hdr 0 1 / 16 ≠ 6 ∨ !([0, 1, 2, 4].contains ext) ∨ f.ext.length ≠ 8 * ext then some 12
  else if getBE f.hdr 20 4 ≠ crcN (f.hdr.take 20 ++ f.ext) then some 11
  else if !(pktOps.contains h.op) ∨ h.flags % 2 = 1 ∨ getBE f.hdr 11 1 ≠ 0 ∨ getBE f.hdr 15 1 ≠ 0 ∨ 2 ^ 18 ≤ h.dqpn
      ∨ 2 ^ 18 ≤ h.sqpn ∨ !extRsvOk h.op f.ext ∨ qpMax s ≤ h.dqpn then some 12
  else none

/-- Answers a packet that no queue pair serves (R235, R245): a NAK_STATUS to where it came from. -/
def answerStatus (s : State) (l : Nat) (f : Frame) (h : PktHdr) (st : Byte) : State :=
  let ext := [(4 : Byte), st] ++ putBE 2 0xFFFF ++ zeros 12
  let fr := txFrame s 0x88B5 l f.routed none 0 h.dqpn f.src false
    (hdrBytes 0x10 0xC0 h.epoch h.sqpn 0 h.psn h.dqpn (s.sys.now % 2 ^ 32) ext) ext [] []
  linkStat (linkStat (emit s (.frame fr)) l 0 1) l 13 1

/-! ### Decryption (R278, R281, R284) -/

/-- The ROC of an arriving PSN: placed against EPSN's, or against SND_NXT's for a response (R278). -/
def rxRoc (p : Qp) (op x : Nat) : Nat :=
  let e := if op = 4 ∨ op = 9 then p.sndNxt else p.epsn
  let r := if op = 4 ∨ op = 9 then p.sndRoc else p.epsnRoc
  if d24 x e < 2 ^ 23 then (if x < e then r + 1 else r) else (if e < x then r - 1 else r)

/-- Tries one phase key. -/
def tryKey (p : Qp) (sec : Bytes) (n : Nat) (f : Frame) (h : PktHdr) : Option (Bytes × Bytes) :=
  let ks := phaseKey sec (1 - p.cipher.role) n
  let cut := protRange h.op f.ext
  let ct := f.ext.drop cut ++ f.payload
  let aad := aadOf h.op f.hdr f.ext
  let iv := ivOf ks.2 h.op (rxRoc p h.op h.psn) h.epoch h.psn h.aux
  if fit 16 (Config.gcmTag ks.1 iv aad ct) = f.tag then
    let pt := fit ct.length (Config.gcmOpen ks.1 iv aad ct)
    some (f.ext.take cut ++ pt.take (f.ext.length - cut), pt.drop (f.ext.length - cut))
  else none

/-- The phases tried, in order, each with its secret and whether that is the pending one (R281, R284). -/
def trials (c : Cipher) : List (Nat × Bytes × Bool) :=
  let known (n : Nat) : Nat × Bytes × Bool :=
    if c.rxOnP ∧ c.rxPPhase ≤ n then (n, c.pending.getD c.secret, true) else (n, c.secret, false)
  let above (n : Nat) : List (Nat × Bytes × Bool) :=
    (n, c.secret, false) :: (match c.pending with | some x => [(n, x, true)] | none => [])
  known c.rxPhase :: above (c.rxPhase + 1) ++ above (c.rxPhase + 2) ++ (if c.rxPhase = 0 then [] else [known (c.rxPhase - 1)])

/-- Opens a packet: the cipher record after it, the extension and the payload; `none` where no key verifies it or ENC is
not the queue pair's. -/
def openPkt (p : Qp) (f : Frame) (h : PktHdr) : Option (Cipher × Bytes × Bytes) :=
  if bitN h.flags 4 ≠ qEnc p then none
  else if !qEnc p then (if f.tag = [] then some (p.cipher, f.ext, f.payload) else none)
  else (trials p.cipher).findSome? fun t =>
    match tryKey p t.2.1 t.1 f h with
    | none => none
    | some (e, y) =>
      let c := p.cipher
      let c := { c with rxPhase := max c.rxPhase t.1, rxOnP := c.rxOnP || t.2.2,
                        rxPPhase := if t.2.2 ∧ !c.rxOnP then t.1 else c.rxPPhase }
      some (secretStep c, e, y)

/-- Counts a packet that failed authentication (R281). -/
def decryptFail (s : State) : State := { s with decryptFails := (s.decryptFails + 1) % 2 ^ 64 }

/-! ### Acknowledgement points (R237 to R239, R246) -/

/-- EPSN moves past `cnt` PSNs. -/
def moveEpsn (p : Qp) (cnt : Nat) : Qp :=
  let e := psn p.epsn cnt
  { p with epsn := e, epsnRoc := if e < p.epsn then p.epsnRoc + 1 else p.epsnRoc, nakSent := if cnt = 0 then p.nakSent else false }

/-- An acknowledgement point (R238). -/
def ackPoint (s : State) (n : Nat) : State := sendAck s n 0 0

/-- Consumes the rest of a request with a status (R241): EPSN passes `cnt` PSNs, nothing more is placed. -/
def consumeReq (s : State) (n cnt : Nat) (st : Byte) : State :=
  match qpOf s n with
  | none => s
  | some p => sendAck (putQp s n (moveEpsn { p with cur := none } cnt)) n 4 st

/-! ### What a request targets -/

/-- RADDR of a congestion map (R262). -/
def mapAddr : Nat := 0xFFFFFFFFFFFF0000

/-- A WRITE of group traffic (R320). -/
def isGroup (op raddr : Nat) : Bool := op = 1 && fld raddr 63 56 = 0xFE

/-- A WRITE of a congestion map (R265). -/
def isMap (op raddr rkey : Nat) : Bool := op = 1 && raddr = mapAddr && rkey = 0

/-- The checks of R320 on group traffic. -/
def groupOk (s : State) (p : Qp) (raddr len : Nat) : Bool :=
  let kind := fld raddr 35 34
  let arg := fld raddr 31 0
  match p.group with
  | none => false
  | some g =>
    match Tab.find s.groups g with
    | none => false
    | some x =>
      fld raddr 55 44 = g && fld raddr 43 36 = x.gen && !bitN raddr 32
      && (if kind = 2 then decide (arg < 256) else if kind = 3 then decide (arg ≤ 1) else decide (arg = 0))
      && (if kind = 0 then x.given.contains (p.member, fld raddr 33 33) && decide (len ≤ 2 ^ x.chunkLog2) else decide (len = 0))

/-- The rights a request needs at its target (R213, R214). -/
def reqRights (op : Nat) : Nat := if op = 3 then rRead + rRemote else if op = 7 ∨ op = 8 then rAtomic + rRemote else rWrite + rRemote

/-- Check 3 of R241: the state with a capture, and the status of a failure. -/
def targetFail (s : State) (p : Qp) (op raddr rkey len : Nat) : State × Option Byte :=
  if isGroup op raddr then (s, if groupOk s p raddr len then none else some Status.keyViolation)
  else if op = 1 ∧ raddr = mapAddr then
    (s, if rkey = 0 ∧ p.kind = .basin ∧ s.basin.role = .active ∧ 64 ≤ len ∧ len ≤ 1056 ∧ len % 32 = 0 then none
        else some Status.keyViolation)
  else match p.kind with
    | .mirror => (s, none)
    | .basin =>
      (match mapFail s raddr len with
      | some st => (s, some st)
      | none =>
        (s, if plotSlot s raddr ≠ s.basin.slot then some Status.translationFault
            else ownFail s raddr len rkey))
    | .rc =>
      if op = 5 ∨ op = 6 ∨ len = 0 then (s, none)
      else admitKey s p.inst rkey (reqRights op) raddr len false true

/-- The receive queue of a queue pair. -/
def rqOf (s : State) (n : Nat) : Option Nat := (s.wqs.find? (fun x => x.2.kind = .rq && x.2.qp = n)).map (·.1)

/-- The accepted receive entry that the next arriving send consumes: the earliest accepted one (R191). -/
def recvEntry (s : State) (q : Nat) : Option (Nat × Infl) :=
  (owed s q).foldl (fun m p =>
    if !(p.2.disp && p.2.done.isNone) then m
    else match m with
      | some (_, x) => if p.2.seq < x.seq then some (p.1 % 2 ^ 32, p.2) else m
      | none => some (p.1 % 2 ^ 32, p.2)) none

/-- The completion of the last consumed receive entry is still owed (R238). -/
def recvOwed (s : State) (p : Qp) : Bool :=
  match p.recv with
  | some r => (match inflOf s r.q r.i with | some x => x.done.isSome && !x.written | none => false)
  | none => false

/-- What the transport record keeps of the receive entry a request consumes (R238, R249). -/
def recvRec (c : RReq) : Option RecvRec :=
  c.rq.map fun x => { q := x.1, i := x.2, bytes := if c.op = 2 then 0 else c.len, imm := c.imm, solicited := c.solicit, fromWrite := c.op = 2 }

/-! ### Congestion maps at the manager (R265) -/

/-- A slot of the map table holds a current map. -/
def mapCurrent (s : State) (slot : Nat) : Bool := s.wr.mapValid.getLsbD slot

/-- Stores a map that passes R265, or counts its discard. -/
def placeMap (s : State) (sender : Nat) (b : Bytes) : State :=
  let slot := getBE b 2 1
  let old := Tab.find s.wr.maps slot
  let after : Bool := match old with
    | none => true
    | some o => let d := (getBE b 4 4 + (2 ^ 32 - getBE o 4 4)) % 2 ^ 32; decide (1 ≤ d) && decide (d < 2 ^ 31)
  if getBE b 0 1 = 0x4D ∧ getBE b 1 1 = 1 ∧ b.length = 32 + 32 * getBE b 3 1 ∧ slot = sender
      ∧ getBE b 28 4 = crcN (b.take 28 ++ b.drop 32) ∧ s.mgr.activeEpoch ≤ getBE b 16 4 ∧ after then
    { s with wr.maps := Tab.put s.wr.maps slot b, wr.mapAt := Tab.put s.wr.mapAt slot s.sys.now,
             wr.mapValid := s.wr.mapValid ||| BitVec.ofNat 67 (2 ^ slot) }
  else { s with wr.discards := satInc 16 s.wr.discards }

/-! ### Placing a packet (R235 to R241) -/

/-- A request is complete at the receiver: group traffic is delivered, a map is checked, a receive entry completes. -/
def requestDone (s : State) (p : Qp) (c : RReq) : State :=
  let data := Mem.read c.data 0 c.len
  if isGroup c.op c.raddr then
    match p.group with
    | none => s
    | some g =>
      { s with groups := Tab.modify s.groups g (fun x =>
          let m : GMsg := { rank := p.member, kind := fld c.raddr 35 34, slot := fld c.raddr 33 33, arg := fld c.raddr 31 0,
                            sig := c.rkey, data := data }
          if x.error.isSome then x else { x with inbox := x.inbox ++ [m] }) }
  else if isMap c.op c.raddr c.rkey then placeMap s p.member data
  else match c.rq with
    | some (q, i) =>
      let imm := match c.imm with | some v => v | none => 0
      finish s q i { status := Status.ok, cflags := 4 * bit c.imm.isSome + 8 * bit c.solicit + 16 * bit (c.op = 2),
                     detail := 0, bytes := if c.op = 2 then 0 else c.len, aux := imm }
    | none => s

/-- The packets of the front of a request that are placed. -/
def leading (placed : List Nat) : Nat → Nat → Nat
  | 0, k => k
  | f + 1, k => if placed.contains k then leading placed f (k + 1) else k

/-- Writes a packet's payload to its target; a write to the own plot is forwarded to its mirror (R20), one into the overflow window
needs its extent and the partner link (R152). -/
def putPayload (s : State) (p : Qp) (c : RReq) (off : Nat) (b : Bytes) : Acc :=
  if p.kind = .rc then writeMemAt (some c.adm) s p.inst (c.target.getD c.raddr + off) b
  else
    let l := basinLoc s p.kind (c.raddr + off)
    match (if l.space = .partner then overflowFail s (plotOff c.raddr) c.len c.rkey else none), lineWait s l b.length true with
    | some st, _ => .fault s st false
    | none, some s => .wait s
    | none, none =>
      if p.kind = .basin ∧ mirrored s ∧ l.space = .plot then
        match mirrorQp s with
        | some m => .ok (queueReq (setLoc s l b) m 1 b.length (c.raddr + off) c.rkey 0 false 0 0 [] (.bytes b) .nobody) []
        | none => .wait s
      else .ok (setLoc s l b) []

/-- Counts payload placed for a queue pair's instance (R391). -/
def rxCount (s : State) (p : Qp) (bytes : Nat) : State := if bytes = 0 then s else instStat s p.inst 3 bytes

/-- After a placement: the echo, EPSN, the acknowledgement (R235, R238, R239, R251). -/
def placed (s : State) (n : Nat) (p : Qp) (c : RReq) (k : Nat) (h : PktHdr) (bytes : Nat) : State :=
  let late := h.psn ≠ p.epsn
  let c := { c with placed := if c.placed.contains k then c.placed else c.placed ++ [k] }
  let lead := leading c.placed (c.count + 1) (d24 p.epsn c.first)
  let stamped := !(hLast h && (h.op = 2 || h.op = 6))
  let fin := lead = c.count
  let q := moveEpsn { p with cur := if fin then none else some c } (d24 (psn c.first lead) p.epsn)
  let q := { q with echoTs := if stamped then h.aux else q.echoTs, echoAt := if stamped then some s.sys.now else q.echoAt,
                    unacked := q.unacked + 1, unackedAt := some (q.unackedAt.getD s.sys.now),
                    recv := if fin ∧ c.rq.isSome then recvRec c else q.recv,
                    rqNext := match c.rq with | some (_, i) => if fin then inc32 i else q.rqNext | none => q.rqNext }
  let s := rxCount (notePlaced s n (pathOf s p c.raddr) bytes) p bytes
  let nak : Bool := late && !p.nakSent && !fin
  let s := putQp s n { q with nakSent := q.nakSent || nak }
  if fin then ackPoint (requestDone s p c) n
  else if nak then sendAck s n 1 0
  else if hLast h ∨ bitN h.flags 5 ∨ fld p.ack 7 0 ≤ q.unacked then ackPoint s n
  else s

/-- A frame waits: for its span, its line, its engine or an earlier RECV completion (R72, R139, R207, R238). -/
def holdFrame (s : State) (l : Nat) (f : Frame) : State := { s with rxHeld := s.rxHeld ++ [(l, f)] }

/-- Placing packet `k` would consume a receive entry. -/
def wouldConsume (p : Qp) (c : RReq) (k : Nat) : Bool :=
  c.rq.isSome && leading (k :: c.placed) (c.count + 1) (d24 p.epsn c.first) = c.count

/-- Places packet `k` of the current request. -/
def placePkt (s : State) (l n : Nat) (p : Qp) (c : RReq) (k : Nat) (f : Frame) (h : PktHdr) (pay : Bytes) : State :=
  let seg := qSeg p
  let want := if k + 1 = c.count then c.len - k * seg else seg
  let rest := d24 (psn c.first c.count) p.epsn
  if pay.length ≠ want ∨ hLast h ≠ decide (k + 1 = c.count) then consumeReq s n rest Status.badField
  else if wouldConsume p c k ∧ recvOwed s p then holdFrame s l f
  else
    let c := if hLast h ∧ (h.op = 2 ∨ h.op = 6) then { c with imm := some h.aux } else c
    let c := { c with solicit := c.solicit || (hLast h && bitN h.flags 2) }
    if c.placed.contains k then placed s n p c k h 0
    else if isGroup c.op c.raddr ∨ isMap c.op c.raddr c.rkey then
      placed s n p { c with data := Mem.write c.data (k * seg) pay } k h pay.length
    else match putPayload s p c (k * seg) pay with
      | .ok s _ => placed s n ((qpOf s n).getD p) c k h pay.length
      | .wait s => holdFrame s l f
      | .fault s st _ =>
        let s := match c.rq with
          | some (q, i) =>
            let s := finishSt s q i st
            { s with qps := Tab.modify s.qps n (fun y => { y with rqNext := inc32 i }) }
          | none => s
        consumeReq s n rest st

/-- The data of a READ_REQ, read when the request takes effect (R191, R236). -/
def readTarget (s : State) (p : Qp) (c : RReq) : Acc :=
  if p.kind = .rc then readMemAt (some c.adm) s p.inst c.raddr c.len
  else
    let l := basinLoc s p.kind c.raddr
    match lineWait s l c.len false with
    | some s => .wait s
    | none => .ok s (getLoc s l c.len)

/-- Serves a READ_REQ (R236): its responses are queued, one PSN each. -/
def serveRead (s : State) (l n : Nat) (p : Qp) (c : RReq) (f : Frame) (h : PktHdr) : State :=
  match readTarget s p c with
  | .wait s => holdFrame s l f
  | .fault s st _ => consumeReq s n c.count st
  | .ok s b =>
    let rs := (List.range c.count).map (fun k => ({ psn := psn h.psn k, data := slice b (k * qSeg p) (min (qSeg p) (c.len - k * qSeg p)) } : RdRsp))
    ackPoint (putQp s n (moveEpsn { p with cur := none, rsps := p.rsps ++ rs, echoTs := h.aux, echoAt := some s.sys.now } c.count)) n

/-- Sends an ATOMIC_RESP (R230, R256): never paced. -/
def sendAtomicRsp (s : State) (n : Nat) (p : Qp) (x prior : Nat) : State :=
  if sendable s (curLink p) then
    emitPkt s n 9 0xC0 x (rxRoc p 7 x) (s.sys.now % 2 ^ 32) 0 (putBE 8 prior) []
  else workArrives s (curLink p)

/-- A journal entry's write at its target (R238). -/
def applyJour (s : State) (j : Jour) : State := setLoc s j.target (putLE 8 j.new)

/-- Applies an atomic (R183, R185, R238): journalled with APPLIED = 0, written, journalled with APPLIED = 1, answered. -/
def serveAtomic (s : State) (l n : Nat) (p : Qp) (c : RReq) (f : Frame) (h : PktHdr) (ext : Bytes) : State :=
  let operand := getBE ext 16 8
  let swap := getBE ext 24 8
  match translateAt (some c.adm) s p.inst c.raddr 8 true with
  | .fault s st => consumeReq s n 1 st
  | .wait s => holdFrame s l f
  | .basin s _ _ _ => consumeReq s n 1 Status.translationFault
  | .ok s loc _ =>
    match lineWait s loc 8 true with
    | some s => holdFrame s l f
    | none =>
      let prior := ofLE (getLoc s loc 8)
      let new := if h.op = 7 then (prior + operand) % 2 ^ 64 else if prior = operand then swap else prior
      let j : Jour := { psn := h.psn, applied := false, target := loc, prior := prior, new := new }
      let s := applyJour (putQp s n { p with jour := (j :: p.jour).take 4 }) j
      let q := moveEpsn { p with cur := none, jour := ({ j with applied := true } :: p.jour).take 4, echoTs := h.aux,
                                 echoAt := some s.sys.now } 1
      ackPoint (sendAtomicRsp (putQp s n q) n q h.psn prior) n

/-- Before a resuming queue pair admits a packet, every journal entry with APPLIED = 0 is replayed, once (R243). -/
def replayJour (s : State) (n : Nat) : State :=
  match qpOf s n with
  | none => s
  | some p =>
    let s := (p.jour.filter (fun j => !j.applied)).reverse.foldl applyJour s
    putQp s n { p with jour := p.jour.map (fun j => { j with applied := true }) }

/-- Applies a MARK to the shadow record of its originator (R246). -/
def applyMark (s : State) (n : Nat) (p : Qp) (h : PktHdr) (ext : Bytes) : State :=
  let key := getBE ext 0 1 * 2 ^ 18 + getBE ext 2 3
  let old := Tab.find s.shadows key
  let j : List Jour := if getBE ext 11 1 = 1 then
      [{ psn := getBE ext 8 3, applied := true, target := { space := .plot, addr := 0 }, prior := getBE ext 16 8, new := getBE ext 24 8 }]
    else (match old with | some x => x.jour | none => [])
  let s := { s with shadows := Tab.put s.shadows key { epoch := getBE ext 1 1, epsn := getBE ext 5 3, jour := j } }
  sendAck (putQp s n (moveEpsn { p with echoTs := h.aux, echoAt := some s.sys.now } 1)) n 0 0

/-- Check 1 of R241 on a FIRST packet. -/
def firstOk (s : State) (n : Nat) (p : Qp) (h : PktHdr) (f : Frame) : Bool :=
  let kindOk : Bool := match p.kind with
    | .rc => h.op ≠ 0x15
    | .basin => h.op = 1 || h.op = 3
    | .mirror => h.op = 1 || h.op = 0x15
  let extLen := if h.op = 5 ∨ h.op = 6 then 8 else if h.op = 7 ∨ h.op = 8 ∨ h.op = 0x15 then 32 else 16
  let len := if h.op = 5 ∨ h.op = 6 then getBE f.ext 0 4 else getBE f.ext 12 4
  let one : Bool := h.op = 7 || h.op = 8 || h.op = 0x15
  kindOk && (!(h.op ∈ [2, 5, 6]) || (rqOf s n).isSome) && f.ext.length = extLen
  && (if one then hLast h && f.payload = []
      else if h.op = 3 then hLast h && f.payload = []
      else hLast h = decide (psnCount (qSeg p) len = 1) && f.payload.length = min len (qSeg p))
  && (!(h.op = 7 || h.op = 8) || getBE f.ext 0 8 % 8 = 0)

/-- A request that was admitted takes effect with its FIRST packet. -/
def applyFirst (s : State) (l n : Nat) (p : Qp) (c : RReq) (f : Frame) (h : PktHdr) (ext pay : Bytes) : State :=
  if c.op = 3 then serveRead s l n p c f h
  else if c.op = 7 ∨ c.op = 8 then serveAtomic s l n p c f h ext
  else placePkt s l n p c 0 f h pay

/-- Admits a request on its FIRST packet: the admission stays in the queue pair's receive state (R212). -/
def admitReq (s : State) (n : Nat) (p : Qp) (c : RReq) : State × Qp × RReq :=
  let a := c.target.getD c.raddr
  let c := { c with adm := s.pieceClock, spans := if p.kind = .rc then spansOver s p.inst a c.len else [] }
  let p := { p with cur := some c }
  (putQp { s with pieceClock := s.pieceClock + 1 } n p, p, c)

/-- A group that gave a slot has it used (R320). -/
def takeSlot (s : State) (p : Qp) (c : RReq) : State :=
  match p.group with
  | some g => if isGroup c.op c.raddr ∧ fld c.raddr 35 34 = 0 then
      { s with groups := Tab.modify s.groups g (fun x => { x with given := x.given.erase (p.member, fld c.raddr 33 33) }) }
    else s
  | none => s

/-- The FIRST packet of the request at EPSN: the checks of R241 in order, then its effect. `o` is the opened packet. -/
def firstPkt (s : State) (l n : Nat) (p : Qp) (f : Frame) (h : PktHdr) (o : Option (Cipher × Bytes × Bytes)) : State :=
  let send : Bool := h.op = 5 || h.op = 6
  let one : Bool := h.op = 7 || h.op = 8 || h.op = 0x15
  let len := if send then getBE f.ext 0 4 else if one then 8 else getBE f.ext 12 4
  let cnt := if one then 1 else psnCount (qSeg p) len
  if !firstOk s n p h f then consumeReq s n cnt Status.badField
  else match o with
    | none => consumeReq s n cnt Status.decryptFail
    | some (c, ext, pay) =>
      let p := { p with cipher := c }
      let s := putQp s n p
      let raddr := if send then 0 else getBE ext 0 8
      let rkey := if send then 0 else getBE ext 8 4
      let out : Bool := p.kind = .rc && leaving s p.inst
      let entry := (rqOf s n).bind (fun q => (recvEntry s q).map (fun r => (q, r)))
      let short : Bool := send && (match entry with | some (_, _, r) => decide (entLen r.ent < len) | none => false)
      let abort (s : State) : State := sendCtl s n { op := 0x14, kind := 0, status := Status.remoteAbort, psn := p.epsn }
      if out ∧ 6 < s.pt.tdStep then abort s
      else match (if h.op = 0x15 then (s, none) else targetFail s p h.op raddr rkey len) with
      | (s, some st) => consumeReq s n cnt st
      | (s, none) =>
        if out ∧ !short then abort s
        else if h.op = 0x15 then applyMark s n p h ext
        else
          let r0 : RReq := { op := h.op, first := h.psn, count := cnt, len := len, raddr := raddr, rkey := rkey, imm := none,
                             solicit := false, placed := [], target := none, rq := none, data := [], adm := 0, spans := [] }
          if !(h.op ∈ [2, 5, 6]) then
            let (s, p, c) := admitReq (takeSlot s p r0) n p r0
            applyFirst s l n p c f h ext pay
          else match entry with
            | none => sendAck s n 2 0
            | some (q, i, r) =>
              if short ∧ recvOwed s p then holdFrame s l f
              else if short then
                consumeReq (putQp (finishSt s q i Status.bounds) n { p with rqNext := inc32 i }) n cnt Status.bounds
              else
                let (s, p, c) := admitReq s n p { r0 with rq := some (q, i), target := if send then some (entAddr r.ent) else none }
                applyFirst s l n p { c with adm := if send then r.adm.getD c.adm else c.adm } f h ext pay

/-- A packet that repeats an earlier one (R235, R238). -/
def duplicate (s : State) (l n : Nat) (p : Qp) (h : PktHdr) : State :=
  let s := linkStat s l 5 1
  let ack (s : State) (kind : Nat) : State :=
    if p.kind = .basin ∧ mirrored s then sendCtl s n { op := 0x10, kind := kind, status := 0, psn := p.ackEpsn } else sendAck s n kind 0
  if h.op = 3 then ack s 3
  else if h.op = 7 ∨ h.op = 8 then
    match p.jour.find? (fun j => j.psn = h.psn) with
    | some j => ack (sendAtomicRsp s n p j.psn j.prior) 0
    | none => ack s 0
  else ack s 0

/-- A request packet on a CONNECTED queue pair: R235 by its PSN. A FIRST packet whose request is admitted already was held. -/
def requestPkt (s : State) (l n : Nat) (p : Qp) (f : Frame) (h : PktHdr) : State :=
  let o := openPkt p f h
  let d := d24 h.psn p.epsn
  let fail := if o.isNone then decryptFail s else s
  if 8192 ≤ d ∧ d < 2 ^ 24 - 8192 then linkStat fail l 10 1
  else if 8192 ≤ d then
    match o with
    | none => fail
    | some (c, _, _) => duplicate (putQp s n { p with cipher := c }) l n { p with cipher := c } h
  else match p.cur with
    | none => if d = 0 ∧ hFirst h then firstPkt fail l n p f h o else linkStat fail l 10 1
    | some c =>
      let k := d24 h.psn c.first
      if c.count ≤ k then linkStat fail l 10 1
      else match o with
        | none => fail
        | some (ci, ext, pay) =>
          let p := { p with cipher := ci }
          if h.op ≠ c.op ∨ hFirst h ≠ decide (k = 0) ∨ (k ≠ 0 ∧ f.ext ≠ []) then linkStat s l 10 1
          else if k = 0 ∧ c.placed = [] then applyFirst (putQp s n p) l n p c f h ext pay
          else placePkt (putQp s n p) l n p c k f h pay

/-! ### Responses at the requester (R236, R239, R251) -/

/-- Removes a request and tells its waiter that it failed. -/
def failReq (s : State) (n : Nat) (r : SReq) (st : Byte) (remote : Bool) : State :=
  let s := { s with qps := Tab.modify s.qps n (fun p => { p with reqs := p.reqs.erase r }) }
  tellWaiter s r.who st remote 0 []

/-- Counts a placed response toward the requester's acknowledgements (R251). -/
def respAck (s : State) (n : Nat) (h : PktHdr) : State :=
  match qpOf s n with
  | none => s
  | some p =>
    let q := { p with echoTs := h.aux, echoAt := some s.sys.now, unacked := p.unacked + 1,
                      unackedAt := some (p.unackedAt.getD s.sys.now) }
    let s := putQp s n q
    if fld p.ack 7 0 ≤ q.unacked then sendAck s n 0 0 else s

/-- A READ_RESP packet: its payload goes to the request's buffer. -/
def readResp (s : State) (l n : Nat) (p : Qp) (f : Frame) (h : PktHdr) (pay : Bytes) : State :=
  match reqAt p h.psn with
  | none => s
  | some (r, k) =>
    let off := r.operand + k * qSeg p
    let want := if k + 1 = r.count then r.len - k * qSeg p else qSeg p
    if r.op ≠ 3 ∨ r.got.contains k ∨ pay.length ≠ want then s
    else
      let upd (s : State) (r' : SReq) : State :=
        completeReqs (rxCount { s with qps := Tab.modify s.qps n (fun p =>
          { p with reqs := p.reqs.map (fun x => if x = r then r' else x) }) } p pay.length) n
      let g := { r with got := r.got ++ [k] }
      match r.buf with
      | .bytes b => respAck (upd s { g with buf := .bytes (patch b off pay) }) n h
      | .none => respAck (upd s g) n h
      | .mem inst a =>
        match writeMemAt (whoAdm s r.who) s inst (a + off) pay with
        | .ok s _ => respAck (upd s g) n h
        | .wait s => holdFrame s l f
        | .fault s st rem => failReq s n r st rem

/-- An ATOMIC_RESP: the prior value goes to LADDR and the atomic completes. -/
def atomicResp (s : State) (l n : Nat) (p : Qp) (f : Frame) (h : PktHdr) (ext : Bytes) : State :=
  match reqAt p h.psn with
  | none => s
  | some (r, _) =>
    if !(r.op = 7 || r.op = 8) ∨ r.result.isSome then s
    else
      let prior := getBE ext 0 8
      let upd (s : State) : State :=
        completeReqs { s with qps := Tab.modify s.qps n (fun p =>
          { p with reqs := p.reqs.map (fun x => if x = r then { r with result := some prior } else x) }) } n
      match r.buf with
      | .mem inst a =>
        (match writeMemAt (whoAdm s r.who) s inst a (putLE 8 prior) with
        | .ok s _ => upd s
        | .wait s => holdFrame s l f
        | .fault s st rem => failReq s n r st rem)
      | _ => upd s

/-! ### Acknowledgements at the sender (R239, R240, R251, R252) -/

/-- The delay sample of an acknowledgement (R252): the rate state after it. -/
def sample (now : Nat) (r : Rate) (aux delta echo : Nat) : Rate × Option Nat :=
  if 0xFFFE ≤ delta ∨ r.lastEcho = some echo then ({ r with lastEcho := some echo }, none)
  else
    let w : Int := (BitVec.ofInt 32 ((aux : Int) - 10 * (delta : Int) - (echo : Int))).toInt
    let win := fld r.prof.2.2.1 13 10 * 1000000
    let ss := (now, w) :: r.samples.filter (fun x => decide (now ≤ x.1 + win))
    let base := ss.foldl (fun m x => min m x.2) w
    let q := (w - base).toNat
    ({ r with lastEcho := some echo, samples := ss, qmin := some (match r.qmin with | some m => min m q | none => q) }, some q)

/-- The PSNs after SND_UNA that a SACK shows placed. -/
def sackList (e bits : Nat) : List Nat := ((List.range 64).filter (fun k => bitN bits k)).map (fun k => psn e (1 + k))

/-- Takes an acknowledgement: SND_UNA, the SACK, Weir's signals, then what it completes. -/
def takeAck (s : State) (l n : Nat) (h : PktHdr) (ext : Bytes) : State :=
  match qpOf s n with
  | none => s
  | some p =>
    let adv := d24 h.psn p.sndUna
    let valid := adv ≤ d24 p.sndNxt p.sndUna
    let moved := valid && adv ≠ 0
    let una := if valid then h.psn else p.sndUna
    let ece := bitN h.flags 3
    let (r, q) := sample s.sys.now p.rate h.aux (getBE ext 2 2) (getBE ext 4 4)
    let r := { r with acks := r.acks + 1, eces := r.eces + bit ece, creditRx := h.credit,
                      creditCap := if h.credit ≠ 0 then h.credit else r.creditCap }
    let p := { p with sndUna := una, sack := if valid then sackList h.psn (getBE ext 8 8) else p.sack, rate := r,
                      retx := p.retx.filter (fun x => decide (d24 x una < 2 ^ 23)),
                      rtoNow := if moved then qRtoMin p else p.rtoNow, rtoAt := if moved then s.sys.now else p.rtoAt,
                      progAt := if moved then s.sys.now else p.progAt, rnrCount := if moved then 0 else p.rnrCount }
    let p := if p.sndUna = p.sndNxt then { p with rate := { p.rate with startAt := none, idleAt := s.sys.now } } else p
    let s := if ece then weirStat s l 1 else s
    let s := match q with
      | some v => accUp s l (fun a => { a with qsum := a.qsum + v, qcnt := a.qcnt + 1, qhi := max a.qhi v })
      | none => s
    completeReqs (putQp s n p) n

/-- The unacknowledged PSNs that the SACK does not show, in order (R240). -/
def missing (p : Qp) : List Nat :=
  ((List.range (d24 p.sndNxt p.sndUna)).map (psn p.sndUna)).filter (fun x => !p.sack.contains x)

/-- Retransmits every missing PSN. -/
def retransmit (s : State) (n : Nat) (loss : Bool) : State :=
  { s with qps := Tab.modify s.qps n (fun p => { p with retx := missing p, rate.loss := p.rate.loss || loss }) }

/-- NAK_RNR (R240): the wait of RNR_DELAY, or the end of the request. -/
def takeRnr (s : State) (l n : Nat) : State :=
  match qpOf s n with
  | none => s
  | some p =>
    let s := linkStat s l 6 1
    let lim := fld p.retry 15 13
    if lim ≠ 7 ∧ lim ≤ p.rnrCount + 1 then qpError s n Status.retryExceeded false
    else putQp s n { p with rnrCount := p.rnrCount + 1, rnrUntil := some (s.sys.now + fld p.ack 23 16 * 1000), retx := [] }

/-- NAK_REREAD (R240): the unfinished part of the oldest READ is asked for again with new PSNs. -/
def takeReread (s : State) (n : Nat) : State :=
  match qpOf s n with
  | none => s
  | some p =>
    match p.reqs.find? (fun r => r.op = 3 && decide (r.got.length < r.count) && reqAcked p r) with
    | none => s
    | some r =>
      let k := leading r.got (r.count + 1) 0
      let off := k * qSeg p
      let s := putQp s n { p with reqs := p.reqs.erase r }
      queueReq s n 3 (r.len - off) (r.raddr + off) r.rkey 0 r.solicit (r.operand + off) 0 [] r.buf r.who

/-- NAK_STATUS (R240, R241): ERROR, or the end of the request that the receiver consumed. DESIGN CHOICE (log 94): R13 gives no
check of a STATUS of 0x20 to 0x7F in an arriving NAK_STATUS, ABORT or collective abort, which no HV6 sends; the model takes it into
the completion as it stands. Unsafe. -/
def takeStatus (s : State) (l n : Nat) (h : PktHdr) (ext : Bytes) : State :=
  let st := ext.getD 1 0
  if st = Status.epochMismatch ∨ st = Status.remoteAbort then qpError s n st true
  else match qpOf s n with
    | none => s
    | some p =>
      let x := (h.psn + 2 ^ 24 - 1) % 2 ^ 24
      let s := match reqAt p x with
        | some (r, _) => failReq s n r st true
        | none => s
      takeAck s l n h ext

/-! ### Resume (R242, R243, R247) -/

/-- A RESYNC: the next epoch and RESYNC_ACK, the answer repeated, or the end of the stream. -/
def takeResync (s : State) (n : Nat) (p : Qp) (h : PktHdr) (ext : Bytes) : State :=
  let ack (s : State) : State :=
    match qpOf s n with
    | some q => sendCtl s n { op := 0x13, kind := 0, status := 0, psn := shownEpsn s q }
    | none => s
  if h.epoch = p.epoch then
    let s := putQp s n { recordQp p with epoch := (p.epoch + 1) % 256, cipher.epochDue := true,
                                         ackEpsn := shownEpsn s p, unacked := 0, unackedAt := none }
    resumeSend (ack s) n (getBE ext 0 3)
  else if (h.epoch + 1) % 256 = p.epoch then ack s
  else qpError (sendAck s n 4 Status.epochMismatch) n Status.epochMismatch false

/-- A RESYNC_ACK at the initiator. -/
def takeResyncAck (s : State) (n : Nat) (p : Qp) (h : PktHdr) (ext : Bytes) : State :=
  if p.st = .resyncing ∧ h.epoch = (p.epoch + 1) % 256 then
    resumeSend (putQp s n { p with epoch := h.epoch, cipher.epochDue := true }) n (getBE ext 0 3)
  else s

/-- The new owner of a moved plot serves a requester's stream from its shadow record, or from a record it creates at the
requester's epoch (R247). -/
def adoptStream (s : State) (l : Nat) (f : Frame) (h : PktHdr) : State :=
  let slot := getBE f.ext 8 4
  let key := slot * 2 ^ 18 + h.sqpn
  let (e, x, j) := match Tab.find s.shadows key with
    | some r => (r.epoch, r.epsn, r.jour)
    | none => (h.epoch, getBE f.ext 4 3, [])
  let cfg := 2 ^ 30 + bit f.routed * 2 ^ 28 + 3 * 2 ^ 20 + l * 2 ^ 8
  let p0 := Qp.fresh 0 .basin cfg f.src h.sqpn 0 (pageReset 0x128) (pageReset 0x12C) (pageReset 0x130) slot 0 false
  let p := { p0 with st := .connected, epoch := e, epsn := x, recEpsn := x, ackEpsn := x, jour := j }
  let s := { s with shadows := Tab.del s.shadows key }
  takeResync (putQp s h.dqpn { p with rate := rateInit s p }) h.dqpn { p with rate := rateInit s p } h f.ext

/-! ### One arriving frame -/

/-- A control packet of an opened acknowledgement, by its KIND. -/
def ackPkt (s : State) (l n : Nat) (h : PktHdr) (ext : Bytes) : State :=
  let kind := getBE ext 0 1
  if kind = 4 then takeStatus s l n h ext
  else
    let s := takeAck s l n h ext
    if kind = 1 then retransmit s n true
    else if kind = 2 then takeRnr s l n
    else if kind = 3 then takeReread s n
    else s

/-- A packet whose epoch differs (R235): stale ones are silent, foreign ones answered once in 100 µs. -/
def otherEpoch (s : State) (l n : Nat) (p : Qp) (h : PktHdr) : State :=
  if (h.epoch + 1) % 256 = p.epoch then linkStat s l 8 1
  else
    let s := linkStat s l 9 1
    match p.foreignAt with
    | some t => if s.sys.now < t + 100000 then s
                else sendAck (putQp s n { p with foreignAt := some s.sys.now }) n 4 Status.epochMismatch
    | none => sendAck (putQp s n { p with foreignAt := some s.sys.now }) n 4 Status.epochMismatch

/-- A control packet: authenticated first, then its effect. -/
def ctlPkt (s : State) (l n : Nat) (p : Qp) (f : Frame) (h : PktHdr) : State :=
  match openPkt p f h with
  | none => decryptFail s
  | some (c, ext, _) =>
    let p := { p with cipher := c }
    let s := putQp s n p
    if f.ext.length ≠ 16 then linkStat s l 12 1
    else if h.op = 0x12 then takeResync s n p h ext
    else if h.op = 0x13 then takeResyncAck s n p h ext
    else if h.op = 0x14 then (if h.epoch ≠ p.epoch then otherEpoch s l n p h else qpError s n (ext.getD 3 0) true)
    else if p.st = .resyncing then (if getBE ext 0 1 = 4 then takeStatus s l n h ext else s)
    else if h.epoch ≠ p.epoch then
      (if getBE ext 0 1 = 4 ∧ ext.getD 1 0 = Status.epochMismatch then takeStatus s l n h ext else otherEpoch s l n p h)
    else ackPkt s l n h ext

/-- A CE mark on a data packet of a ROUTED queue pair: the next acknowledgement echoes it (R227, R259, R264). -/
def noteCe (s : State) (l n : Nat) (p : Qp) (f : Frame) (h : PktHdr) : State × Qp :=
  if f.ce ∧ qRouted p ∧ h.epoch = p.epoch ∧ (openPkt p f h).isSome then
    (accUp (weirStat (putQp s n { p with ceSeen := true }) l 0) l (fun a => { a with ce := a.ce + 1 }), { p with ceSeen := true })
  else (s, p)

/-- A data or response packet of a CONNECTED queue pair. -/
def dataPkt (s : State) (l n : Nat) (p : Qp) (f : Frame) (h : PktHdr) : State :=
  let (s, p) := noteCe s l n p f h
  if h.epoch ≠ p.epoch then
    (match openPkt p f h with
    | some _ => otherEpoch s l n p h
    | none => linkStat (decryptFail s) l (if (h.epoch + 1) % 256 = p.epoch then 8 else 9) 1)
  else if h.op = 4 ∨ h.op = 9 then
    match openPkt p f h with
    | none => decryptFail s
    | some (c, ext, pay) =>
      let p := { p with cipher := c }
      let s := putQp s n p
      if h.op = 4 then (if f.ext = [] then readResp s l n p f h pay else linkStat s l 12 1)
      else if f.ext.length = 8 then atomicResp s l n p f h ext else linkStat s l 12 1
  else requestPkt s l n p f h

/-- A frame that reached its link (R235, R241, R245). -/
def arrive (s : State) (l : Nat) (f : Frame) : State :=
  let h := parseHdr f.hdr
  match frameFail s l f with
  | some k => linkStat s l k 1
  | none =>
    let s := putLink s l { link s l with busyAt := s.sys.now }
    let s := accUp (linkStat (linkStat s l 2 1) l 3 f.payload.length) l (fun a => { a with rx := a.rx + f.payload.length })
    let adopt : Bool := h.op = 0x12 && s.mirBlk ≠ [] && f.ext.length = 16 && getBE f.ext 8 4 ≠ 0
    match qpOf s h.dqpn with
    | none => if adopt then adoptStream s l f h else answerStatus s l f h Status.epochMismatch
    | some p =>
      match p.st with
      | .free =>
        if adopt then adoptStream s l f h
        else answerStatus s l f h (if p.prst ∧ p.lastEpoch = h.epoch then Status.remoteAbort else Status.epochMismatch)
      | .init =>
        if f.src ≠ p.peer ∨ h.sqpn ≠ p.dqpn ∨ f.routed ≠ qRouted p then linkStat s l 12 1
        else answerStatus s l f h (if p.prst ∧ p.lastEpoch = h.epoch then Status.remoteAbort else Status.epochMismatch)
      | .error => s
      | .resyncing => if isCtl h.op then ctlPkt s l h.dqpn p f h else s
      | .connected =>
        if f.src ≠ p.peer ∨ h.sqpn ≠ p.dqpn ∨ f.routed ≠ qRouted p then linkStat s l 12 1
        else if isCtl h.op then ctlPkt s l h.dqpn p f h
        else dataPkt s l h.dqpn p f h

/-- A frame is work for its link's engine, which hands its key checks to the key table (R71). -/
def rxWake (s : State) (l : Nat) : State := wakeBlk (wakeBlk s (engineOf s l)) .keyTable

/-- The work of a frame waits behind a held wake (R72). -/
def rxAsleep (s : State) (l : Nat) : Bool := gated s (engineOf s l) || gated s .keyTable

/-- A frame on an active link (R71, R72, R77, R83): a PAUSE or priority flow-control frame is discarded and counted, and so is every
frame during a calibration; another wakes the link's engine, and waits while its wake is held. -/
def reach (s : State) (l : Nat) (f : Frame) : State :=
  let x := link s l
  if f.eth = 0x8808 then putLink s l { x with pauses := x.pauses + 1 }
  else if x.cal = .running then putLink s l { x with dropped := x.dropped + 1 }
  else
    let s := rxWake s l
    if rxAsleep s l then holdFrame s l f else arrive s l f

/-- A row's packet on a link that is up: its opcode, and for an acknowledgement its KIND, are the row's. -/
def rxRow (l : Nat) (f : Frame) (op : Nat) (kind : Option Nat) (s : State) : Result :=
  let k : Bool := match kind with | some v => getBE f.ext 0 1 = v | none => true
  if (f.eth = 0x8808 ∨ (getBE f.hdr 1 1 = op ∧ k)) ∧ (link s l).up then .next (reach s l f) else .next s

/-- RX_WRITE (R235). -/
def execRxWrite (l : Nat) (f : Frame) (s : State) : Result := rxRow l f 1 none s
/-- RX_WRITE_IMM (R235). -/
def execRxWriteImm (l : Nat) (f : Frame) (s : State) : Result := rxRow l f 2 none s
/-- RX_READ_REQ (R236). -/
def execRxReadReq (l : Nat) (f : Frame) (s : State) : Result := rxRow l f 3 none s
/-- RX_READ_RESP (R239). -/
def execRxReadResp (l : Nat) (f : Frame) (s : State) : Result := rxRow l f 4 none s
/-- RX_SEND (R235). -/
def execRxSend (l : Nat) (f : Frame) (s : State) : Result := rxRow l f 5 none s
/-- RX_SEND_IMM (R235). -/
def execRxSendImm (l : Nat) (f : Frame) (s : State) : Result := rxRow l f 6 none s
/-- RX_ATOMIC_FADD (R238). -/
def execRxAtomicFadd (l : Nat) (f : Frame) (s : State) : Result := rxRow l f 7 none s
/-- RX_ATOMIC_CSWAP (R238). -/
def execRxAtomicCswap (l : Nat) (f : Frame) (s : State) : Result := rxRow l f 8 none s
/-- RX_ATOMIC_RESP (R239). -/
def execRxAtomicResp (l : Nat) (f : Frame) (s : State) : Result := rxRow l f 9 none s
/-- RX_ACK (R239). -/
def execRxAck (l : Nat) (f : Frame) (s : State) : Result := rxRow l f 0x10 (some 0) s
/-- RX_NAK_SEQ (R240). -/
def execRxNakSeq (l : Nat) (f : Frame) (s : State) : Result := rxRow l f 0x10 (some 1) s
/-- RX_NAK_RNR (R240). -/
def execRxNakRnr (l : Nat) (f : Frame) (s : State) : Result := rxRow l f 0x10 (some 2) s
/-- RX_NAK_REREAD (R240). -/
def execRxNakReread (l : Nat) (f : Frame) (s : State) : Result := rxRow l f 0x10 (some 3) s
/-- RX_NAK_STATUS (R241). -/
def execRxNakStatus (l : Nat) (f : Frame) (s : State) : Result := rxRow l f 0x10 (some 4) s
/-- RX_RESYNC (R242). -/
def execRxResync (l : Nat) (f : Frame) (s : State) : Result := rxRow l f 0x12 none s
/-- RX_RESYNC_ACK (R242). -/
def execRxResyncAck (l : Nat) (f : Frame) (s : State) : Result := rxRow l f 0x13 none s
/-- RX_ABORT (R245). -/
def execRxAbort (l : Nat) (f : Frame) (s : State) : Result := rxRow l f 0x14 none s
/-- RX_MARK (R246). -/
def execRxMark (l : Nat) (f : Frame) (s : State) : Result := rxRow l f 0x15 none s

/-- Packets whose access was held arrive again, in order (R139, R203, R207). -/
def rxRelease (s : State) : State :=
  s.rxHeld.foldl (fun s x =>
    if rxAsleep s x.1 then holdFrame s x.1 x.2 else arrive s x.1 x.2) { s with rxHeld := [] }

/-! ### Timers (R238, R240, R242, R244) -/

/-- ACK_DELAY_EXPIRY (R238). -/
def execAckDelayExpiry (n : Nat) (s : State) : Result :=
  match qpOf s n with
  | some p => match p.unackedAt with
    | some t => if p.st ≠ .connected then .next s else .next (ackPoint (advanceTo s (t + fld p.ack 15 8 * 1000)) n)
    | none => .next s
  | none => .next s

/-- The first PSNs of the READs and atomics whose responses are missing (R235, R240). -/
def unanswered (p : Qp) : List Nat :=
  (p.reqs.filter (fun r => (r.op = 3 || r.op = 7 || r.op = 8) && reqAcked p r && !reqDone p r)).map (fun r => r.first)

/-- RTO_EXPIRY (R240). -/
def execRtoExpiry (n : Nat) (s : State) : Result :=
  match qpOf s n with
  | none => .next s
  | some p =>
    let todo := unanswered p ++ missing p
    if p.st ≠ .connected ∨ (p.sndUna = p.sndNxt ∧ unanswered p = []) ∨ p.rnrUntil.isSome ∨ ((link s (curLink p)).up ∧ !sendable s (curLink p)) then .next s
    else
      let s := linkStat (advanceTo s (p.rtoAt + p.rtoNow)) (curLink p) 7 1
      .next (putQp s n { p with retx := todo, rtoAt := s.sys.now, rtoNow := min (qRtoMax p) (2 * p.rtoNow), rate.loss := true })

/-- RNR_DELAY_EXPIRY (R240): again from the FIRST packet of the oldest request. -/
def execRnrDelayExpiry (n : Nat) (s : State) : Result :=
  match qpOf s n with
  | none => .next s
  | some p =>
    match p.rnrUntil with
    | none => .next s
    | some t =>
      let s := advanceTo s t
      .next (putQp s n { p with rnrUntil := none, retx := (List.range (d24 p.sndNxt p.sndUna)).map (psn p.sndUna),
                                rtoAt := s.sys.now })

/-- RETRY_TIME_EXPIRY (R233, R240). -/
def execRetryTimeExpiry (n : Nat) (s : State) : Result :=
  match qpOf s n with
  | none => .next s
  | some p =>
    if p.st = .connected ∧ p.sndUna ≠ p.sndNxt then
      .next (qpError (advanceTo s (p.progAt + qRetryNs p)) n Status.retryExceeded false)
    else if p.st = .resyncing then
      .next (qpError (advanceTo s (p.resyncFrom + qRetryNs p)) n Status.retryExceeded false)
    else .next s

/-- FAILOVER_TIME_EXPIRY (R244): the queue pairs of a link that is down or whose port reads FAILED move. -/
def execFailoverTimeExpiry (l : Nat) (s : State) : Result :=
  let x0 := link s l
  if !(port s (l / 4)).failed ∧ (x0.up ∨ !(x0.dorm = .down || x0.dorm = .retrain)) then .next s
  else .next (s.qps.foldl (fun s x =>
    match qpOf s x.1 with
    | none => s
    | some p =>
      if curLink p ≠ l ∨ p.onAlt ∨ !qAlt p ∨ !(p.st = .connected || p.st = .resyncing) then s
      else
        let t := (x0.downAt.getD s.sys.now) + fld p.retry 12 0 * 1000
        let s := if (port s (l / 4)).failed then s else advanceTo s t
        moveLink s x.1) s)

/-- RESYNC_REPEAT (R242). -/
def execResyncRepeat (n : Nat) (s : State) : Result :=
  match qpOf s n with
  | none => .next s
  | some p =>
    if p.st ≠ .resyncing then .next s
    else
      let s := advanceTo s (p.resyncAt + qRtoMax p)
      .next (sendCtl (putQp s n { p with resyncAt := s.sys.now }) n { op := 0x12, kind := 0, status := 0, psn := p.epsn })

/-! ### Queue-pair commands (R231, R233, R245, R248) -/

/-- The selected queue pair of an instance page. -/
def qpSel (s : State) (inst : Nat) : Nat := getPage s inst 0x100

/-- Every staged field lies in its range (R248 check 2). -/
def qpRanges (s : State) (inst : Nat) : Bool :=
  let c := getPage s inst 0x104
  let r := getPage s inst 0x128
  let t := getPage s inst 0x12C
  let a := getPage s inst 0x130
  let vid := getPage s inst 0x124
  decide (qpSel s inst < qpMax s) && fld c 31 30 ≠ 3 && fld c 26 24 ≤ 6 && linkExists s (fld c 12 8) && linkExists s (fld c 17 13)
  && (!bitN c 27 || (1 ≤ vid && vid ≤ 4094)) && 10 ≤ fld r 31 16 && fld r 31 16 ≤ 60000 && 10 ≤ fld r 12 0 && fld r 12 0 ≤ 8000
  && 1 ≤ fld t 31 16 && fld t 31 16 ≤ 100 && 4 ≤ fld t 9 0 && fld t 9 0 ≤ 1000 && fld t 9 0 ≤ fld t 31 16 * 1000
  && 1 ≤ fld a 23 16 && 1 ≤ fld a 15 8 && fld a 15 8 ≤ 100 && 1 ≤ fld a 7 0 && fld a 7 0 ≤ 64

/-- The checks of R248 that every queue-pair command shares. -/
def qpHead (s : State) (inst : Nat) (w : RegWr) (connect : Bool) : List (Bool × Byte) :=
  let n := qpSel s inst
  let c := getPage s inst 0x104
  let long : Bool := match qpOf s n with | some p => decide (4000 < fld p.retry 31 16) | none => false
  [(noRsv w 0xFFFFFFF0, Status.badField), (qpRanges s inst && !(connect && bitN c 29 && long), Status.badField),
   (mayUse s.own.qp n inst && (fld c 31 30 = 0 || w.src = .tender), Status.notPermitted),
   ((if bitN c 28 then instHas s inst 19 else instHas s inst 20) && (!bitN c 29 || instHas s inst 18), Status.featureNotNegotiated)]

/-- The peer address staged in SL_QP_PEER. -/
def stagedPeer (s : State) (inst : Nat) : Nat :=
  getPage s inst 0x108 + getPage s inst 0x10C * 2 ^ 32 + getPage s inst 0x110 * 2 ^ 64 + getPage s inst 0x114 * 2 ^ 96

/-- The kind a CREATE asks for. -/
def qpKindOf (c : Nat) : QpKind := if fld c 31 30 = 1 then .basin else if fld c 31 30 = 2 then .mirror else .rc

/-- A queue pair is FREE. -/
def qpFree (s : State) (n : Nat) : Bool := match qpOf s n with | some p => p.st = .free | none => true

/-- A queue pair's state. -/
def qpIs (s : State) (n : Nat) (st : QpState) : Bool := match qpOf s n with | some p => p.st = st | none => false

/-- No accepted request of a queue pair's queues is incomplete. -/
def qpDone (s : State) (n : Nat) : Bool :=
  s.wqs.all (fun x => x.2.kind = .lq || x.2.qp ≠ n || (owed s x.1).all (fun r => r.2.done.isSome))

/-- SL_QP_CMD CREATE (R233, R248). Tender numbers BASIN and MIRROR queue pairs so that the number modulo 128 is the
member's slot. -/
def execSlQpCreate (inst : Nat) (w : RegWr) (s : State) : Result :=
  let n := qpSel s inst
  let c := getPage s inst 0x104
  onCmd w 1 s (pageCmd s inst 0x134 0x138 w (qpHead s inst w false ++ [(qpFree s n, Status.busy)])
    (fun s =>
      let (last, prst) := match qpOf s n with | some p => (p.lastEpoch, p.prst) | none => (0, false)
      let s := { s with own.qp := takeBlock s.own.qp n inst }
      putQp s n (Qp.fresh inst (qpKindOf c) c (stagedPeer s inst) (fld (getPage s inst 0x118) 17 0) (getPage s inst 0x124)
        (getPage s inst 0x128) (getPage s inst 0x12C) (getPage s inst 0x130) (if qpKindOf c = .rc then 0 else n % 128) last prst)))

/-- Requests queued on a MIRROR or BASIN queue pair before CONNECT take their PSNs from the staged one (R234). -/
def renumber (a : Nat) : List SReq → List SReq
  | [] => []
  | r :: rs => { r with first := a } :: renumber (psn a r.count) rs

/-- SL_QP_CMD CONNECT (R233, R234, R248, R255, R276, R282). A BASIN or MIRROR queue pair made while BASIN_ENC was 1 connects with
ENC = 1 (R288). -/
def execSlQpConnect (inst : Nat) (w : RegWr) (s : State) : Result :=
  let n := qpSel s inst
  let c := getPage s inst 0x104
  let keyed : Bool := match qpOf s n with | some p => p.cipher.keyed | none => false
  let forced : Bool := match qpOf s n with | some p => p.kind ≠ .rc && qEnc p | none => false
  let c := if forced then (BitVec.ofNat 32 c ||| 0x20000000).toNat else c
  onCmd w 2 s (pageCmd s inst 0x134 0x138 w (qpHead s inst w true ++
      [((!bitN c 29 || keyed) && (bitN c 29 || fld c 31 30 ≠ 0 || !s.policy.requireEnc), Status.notPermitted),
       (qpIs s n .init, Status.busy)])
    (fun s => match qpOf s n with
      | none => s
      | some p =>
        let v := getPage s inst 0x11C
        let q := { p with cfg := c % 2 ^ 30 + p.cfg / 2 ^ 30 * 2 ^ 30, peer := stagedPeer s inst,
                          dqpn := fld (getPage s inst 0x118) 17 0, vid := getPage s inst 0x124, rto := getPage s inst 0x12C,
                          ack := getPage s inst 0x130, st := .connected, epoch := fld v 31 24, sndUna := fld v 23 0,
                          sndNxt := fld v 23 0, sndEnd := psn (fld v 23 0) (p.reqs.map SReq.count).sum, sndRoc := 0, epsn := fld (getPage s inst 0x120) 23 0, recEpsn := fld (getPage s inst 0x120) 23 0,
                          ackEpsn := fld (getPage s inst 0x120) 23 0, recRoc := 0, reqs := renumber (fld v 23 0) p.reqs,
                          epsnRoc := 0, onAlt := false, rtoAt := s.sys.now, progAt := s.sys.now, prst := false }
        let q := { q with rtoNow := qRtoMin q, cipher := { q.cipher with txPhase := 0, rxPhase := 0, txStart := 0 } }
        putQp s n { q with rate := { rateInit s q with cuts := 0 } }))

/-- SL_QP_CMD RESET (R233, R248). -/
def execSlQpReset (inst : Nat) (w : RegWr) (s : State) : Result :=
  let n := qpSel s inst
  onCmd w 3 s (pageCmd s inst 0x134 0x138 w (qpHead s inst w false ++
      [((qpIs s n .init || qpIs s n .error) && qpDone s n, Status.busy)])
    (fun s => match qpOf s n with
      | none => s
      | some p =>
        let q := Qp.fresh p.inst p.kind p.cfg p.peer p.dqpn p.vid p.retry p.rto p.ack p.member p.epoch false
        putQp s n { q with group := p.group }))

/-- SL_QP_CMD DESTROY (R233, R245, R248). -/
def execSlQpDestroy (inst : Nat) (w : RegWr) (s : State) : Result :=
  let n := qpSel s inst
  let unbound := s.wqs.all (fun x => x.2.kind = .lq || x.2.qp ≠ n)
  onCmd w 4 s (pageCmd s inst 0x134 0x138 w (qpHead s inst w false ++
      [((qpIs s n .init || qpIs s n .error) && qpDone s n && unbound, Status.busy)])
    (fun s => match qpOf s n with
      | none => s
      | some p =>
        let q := Qp.fresh p.inst p.kind p.cfg p.peer p.dqpn p.vid p.retry p.rto p.ack p.member p.epoch false
        putQp s n { q with st := .free }))

/-- The code of a queue-pair state (R233). -/
def QpState.code : QpState → Nat
  | .free => 0
  | .init => 1
  | .connected => 2
  | .resyncing => 3
  | .error => 4

/-- SL_QP_CMD QUERY: SL_QP_STAT, QSND, QRCV and CRYPT (R248). -/
def execSlQpQuery (inst : Nat) (w : RegWr) (s : State) : Result :=
  let n := qpSel s inst
  onCmd w 5 s (pageCmd s inst 0x134 0x138 w (qpHead s inst w false)
    (fun s =>
      let put (s : State) (a b c d : Nat) : State :=
        putPage (putPage (putPage (putPage s inst 0x13C a) inst 0x140 b) inst 0x144 c) inst 0x148 d
      match qpOf s n with
      | none => put s 0 0 0 0
      | some p =>
        let k := p.cipher
        put s (p.st.code * 2 ^ 28 + bit p.onAlt * 2 ^ 27 + p.errStatus.toNat * 256) (p.epoch * 2 ^ 24 + p.sndUna) p.epsn
          (bit k.keyed * 2 ^ 31 + bit k.pending.isSome * 2 ^ 30 + bit k.committed * 2 ^ 29 + k.role * 2 ^ 28
            + k.txPhase % 256 * 2 ^ 16 + k.rxPhase % 256 * 2 ^ 8)))

/-- SL_QP_CMD FAILOVER (R244, R248). -/
def execSlQpFailover (inst : Nat) (w : RegWr) (s : State) : Result :=
  let n := qpSel s inst
  let alt : Bool := match qpOf s n with | some p => qAlt p | none => false
  onCmd w 6 s (pageCmd s inst 0x134 0x138 w (qpHead s inst w false ++ [(qpIs s n .connected && alt, Status.busy)])
    (fun s => moveLink s n))

end Sys2Proof.Machine
end

