-- ==== Sys2Proof/Machine/Crypt.lean ====
section
/-!
DEFINITION. The SPDM responder, key messages, policy, Basin attestation fragments, CRYPT_QUERY (spec file 12, R269 to R292;
R137).
-/
namespace Sys2Proof.Machine

/-! ### Transports and sessions (R269, R271) -/

/-- SPDM error codes (DSP0274). -/
def spdmInvalidRequest : Nat := 1
/-- InvalidSession. -/
def spdmInvalidSession : Nat := 2
/-- Busy. -/
def spdmBusy : Nat := 3
/-- UnexpectedRequest. -/
def spdmUnexpected : Nat := 4
/-- DecryptError. -/
def spdmDecrypt : Nat := 6

/-- A transport can carry a message now (R271). -/
def trUp (s : State) : Transp → Bool
  | .mctpPcie => tenderRuns s && s.pt.st = .up
  | .mctpSmbus a => tenderRuns s && a = smbAddr s
  | .doe => tenderRuns s && modeOf s = .c && s.pt.st = .up
  | .basin _ => tenderRuns s

/-- A transport is host-side. -/
def trHost : Transp → Bool
  | .basin _ => false
  | _ => true

/-- Answers on a transport. -/
def spdmSay (s : State) (t : Transp) (r : SpdmRsp) : State := emit s (.spdm t r)

/-- A request on a transport that is up. -/
def onSpdm (t : Transp) (s : State) (k : State) : Result := if trUp s t then .next k else .next s

/-- GET_VERSION (R269): version 1.2; the connection of the transport starts anew. -/
def execGetVersion (t : Transp) (s : State) : Result :=
  let q := { s.spdm with version := t :: s.spdm.version.erase t, caps := s.spdm.caps.erase t, algs := s.spdm.algs.erase t }
  onSpdm t s (spdmSay { s with spdm := q } t (.version 0x12))

/-- The capabilities (R269). -/
def spdmCaps : SpdmCaps :=
  { cert := true, chal := true, meas := 2, measFresh := true, encrypt := true, mac := true, keyEx := true, keyUpd := true,
    ctExponent := 15, dataTransferSize := 4096, maxMsgSize := 4096 }

/-- The one algorithm of each category (R269). -/
def spdmAlgs : SpdmAlgs := { p384 := true, sha384 := true, secp384r1 := true, aes256gcm := true, schedule := true }

/-- GET_CAPABILITIES (R269). -/
def execGetCapabilities (t : Transp) (s : State) : Result :=
  onSpdm t s
    (if s.spdm.version.contains t then
      spdmSay { s with spdm := { s.spdm with caps := t :: s.spdm.caps.erase t } } t (.capabilities spdmCaps)
    else spdmSay s t (.error spdmUnexpected))

/-- NEGOTIATE_ALGORITHMS (R269): the one algorithm of each category, where the requester offers all of them. -/
def execNegotiateAlgorithms (t : Transp) (a : SpdmAlgs) (s : State) : Result :=
  onSpdm t s
    (if !s.spdm.caps.contains t then spdmSay s t (.error spdmUnexpected)
    else if a.p384 ∧ a.sha384 ∧ a.secp384r1 ∧ a.aes256gcm ∧ a.schedule then
      spdmSay { s with spdm := { s.spdm with algs := t :: s.spdm.algs.erase t } } t (.algorithms spdmAlgs)
    else spdmSay s t (.error spdmInvalidRequest))

/-- A request that needs the negotiated algorithms. -/
def onNegotiated (t : Transp) (s : State) (k : State) : Result :=
  onSpdm t s (if s.spdm.algs.contains t then k else spdmSay s t (.error spdmUnexpected))

/-! ### Identity and measurements (R270, R272) -/

/-- The certificate chain of slot 0. -/
def chainOf (s : State) : Bytes := Config.certChain s.sys.fuses.serial

/-- GET_DIGESTS (R270). -/
def execGetDigests (t : Transp) (s : State) : Result :=
  onNegotiated t s (spdmSay s t (.digests (Sha.sha384 (chainOf s))))

/-- GET_CERTIFICATE (R270): slots 1 to 7 are empty. -/
def execGetCertificate (t : Transp) (slot off len : Nat) (s : State) : Result :=
  let c := chainOf s
  let p := slice c off (min len 4088)
  onNegotiated t s
    (if slot ≠ 0 ∨ c.length ≤ off then spdmSay s t (.error spdmInvalidRequest)
    else spdmSay s t (.certificate p (c.length - off - p.length)))

/-- The SLOT code of BN_STATUS. -/
def slotCode : SlotId → Nat
  | .a => 0
  | .b => 1
  | .golden => 2

/-- The MODE code of the applied image. -/
def modeByte (s : State) : Nat := match s.boot.image with | some i => i.mode.code | none => 0

/-- The VARIANT code. -/
def variantCode (s : State) : Nat := match s.sys.fuses.variant with | .p => 0 | .d => 1

/-- The value type and value of measurement `i`, 1 to 7 (R272). -/
def measurement (s : State) (i : Nat) : Nat × Bytes :=
  if i = 1 then (0x00, fit 48 Config.romDigest)
  else if i = 2 then (0x01, fit 48 (s.boot.sections.getD 0 []))
  else if i = 3 then (0x01, fit 48 (s.boot.sections.getD 1 []))
  else if i = 4 then (0x03, fit 48 (s.boot.sections.getD 2 []))
  else if i = 5 then (0x03, fit 48 s.boot.digest)
  else if i = 6 then
    (0x82, putBE 2 s.sys.fuses.siliconRev ++ putBE 2 s.boot.runLevel ++ putBE 4 s.boot.tenderTag ++ putBE 4 s.boot.sluiceTag
      ++ putBE 1 (slotCode s.boot.slot) ++ putBE 1 (variantCode s) ++ putBE 1 (modeByte s) ++ putBE 1 (roleCap s)
      ++ putLE 16 s.feat.offer.toNat)
  else (0x83, putBE 4 (bit (offered s 27) + 2 * bit s.sys.straps.test))

/-- A measurement block (DSP0274): index, specification 1, size, then value type, value size, value. -/
def measBlock (s : State) (i : Nat) : Bytes :=
  let m := measurement s i
  putLE 1 i ++ [1] ++ putLE 2 (m.2.length + 3) ++ putLE 1 m.1 ++ putLE 2 m.2.length ++ m.2

/-- The seven blocks. -/
def measAll (s : State) : Bytes := ([1, 2, 3, 4, 5, 6, 7].map (measBlock s)).flatten

/-- The summary of all measurements. -/
def measSummary (s : State) : Bytes := Sha.sha384 (measAll s)

/-- CHALLENGE (R269). -/
def execChallenge (t : Transp) (slot : Nat) (nonce : Bytes) (s : State) : Result :=
  let d := Sha.sha384 (chainOf s)
  onNegotiated t s
    (if slot ≠ 0 then spdmSay s t (.error spdmInvalidRequest)
    else spdmSay s t (.challengeAuth d (measSummary s) (Config.sign (nonce ++ d ++ measSummary s))))

/-- GET_MEASUREMENTS (R272): one block, all of them (0xFF), or none but their number (0). -/
def execGetMeasurements (t : Transp) (index : Nat) (nonce : Bytes) (s : State) : Result :=
  let b := if index = 0xFF then measAll s else if index = 0 then [] else measBlock s index
  onNegotiated t s
    (if 7 < index ∧ index ≠ 0xFF then spdmSay s t (.error spdmInvalidRequest)
    else spdmSay s t (.measurements b (Config.sign (nonce ++ b))))

/-! ### Secure sessions (R271, R273) -/

/-- Sessions on host-side transports, or over Basin fragments. -/
def sessCount (s : State) (host : Bool) : Nat := (s.spdm.sess.filter (fun x => trHost x.2.tr = host)).length

/-- KEY_EXCHANGE (R271, R273): a session; it qualifies if it asked for the summary of all measurements. -/
def execKeyExchange (t : Transp) (summary : Nat) (s : State) : Result :=
  onNegotiated t s
    (if (if trHost t then 8 else 66) ≤ sessCount s (trHost t) then spdmSay s t (.error spdmBusy)
    else
      let n := s.spdm.nextSess
      let x : Sess := { tr := t, finished := false, qual := decide (summary = 0xFF), phase := 0 }
      let sm := if summary = 0xFF then measSummary s else []
      spdmSay { s with spdm := { s.spdm with sess := Tab.put s.spdm.sess n x, nextSess := n + 1 } } t
        (.keyExchange n sm (Config.sign sm)))

/-- A message in a session whose transport is up. -/
def onSess (n : Nat) (s : State) (k : Sess → State) : Result :=
  match Tab.find s.spdm.sess n with
  | none => .next (if tenderRuns s then spdmSay s (.mctpSmbus (smbAddr s)) (.error spdmInvalidSession) else s)
  | some x => onSpdm x.tr s (k x)

/-- A session message that fails its AEAD or its verification ends the session (R271). What it was cannot be told, so any row of a
session message stands for it. -/
def onVerified (n : Nat) (ok : Bool) (s : State) (k : Sess → State) : Result :=
  onSess n s fun x =>
    if !ok then spdmSay { s with spdm := { s.spdm with sess := Tab.del s.spdm.sess n } } x.tr (.error spdmDecrypt) else k x

/-- FINISH (R273). -/
def execFinish (n : Nat) (ok : Bool) (s : State) : Result :=
  onVerified n ok s fun x =>
    spdmSay { s with spdm := { s.spdm with sess := Tab.put s.spdm.sess n { x with finished := true } } } x.tr (.finish n)

/-- KEY_UPDATE (R269). -/
def execKeyUpdate (m : SecuredReq) (s : State) : Result :=
  onVerified m.sess m.verifies s fun x =>
    if !x.finished then spdmSay s x.tr (.error spdmUnexpected)
    else spdmSay { s with spdm := { s.spdm with sess := Tab.put s.spdm.sess m.sess { x with phase := x.phase + 1 } } } x.tr
      (.keyUpdateAck m.sess)

/-- END_SESSION (R271). -/
def execEndSession (m : SecuredReq) (s : State) : Result :=
  onVerified m.sess m.verifies s fun x =>
    spdmSay { s with spdm := { s.spdm with sess := Tab.del s.spdm.sess m.sess } } x.tr (.endSessionAck m.sess)

/-- The qualifying session a message came in (R273). -/
def qualSess (s : State) (n : Option Nat) : Option Sess :=
  match n with
  | none => none
  | some k => match Tab.find s.spdm.sess k with
    | some x => if x.finished ∧ x.qual then some x else none
    | none => none

/-- The IDE streams of the partner link are active (R137): feature bit 24 is committed, the link stream has its key, and so has
CXL.cache and CXL.mem where they are negotiated (log 110). -/
def ideOn (s : State) (cxl : Bool) : Bool :=
  committed s 24 && Tab.has s.pt.ideKeys 0 && (!cxl || Tab.has s.pt.ideKeys 1)

/-- IDE_KM key programming (R137, R273): over the DOE mailbox, inside a qualifying session; stream 0 is the one link stream, stream 1
that of CXL.cache and CXL.mem (log 110). -/
def execIdeKmKeyProg (n : Option Nat) (stream : Nat) (key : Bytes) (s : State) : Result :=
  if !trUp s .doe then .next s
  else match (qualSess s n).filter (fun x => x.tr = .doe) with
    | none => .next (emit s (.ideKm Status.attestRequired))
    | some _ =>
      if !committed s 24 then .next (emit s (.ideKm Status.featureNotNegotiated))
      else if 2 ≤ stream then .next (emit s (.ideKm Status.badField))
      else
        let t := { s with pt.ideKeys := Tab.put s.pt.ideKeys stream key }
        .next (emit { t with pt.ide := s.pt.trained && ideOn t s.pt.cxl } (.ideKm Status.ok))

/-! ### Key messages (R274 to R276, R284) -/

/-- A 48-byte summary list cut into summaries. -/
def summaries : Nat → Bytes → List Bytes
  | 0, _ => []
  | n + 1, b => b.take 48 :: summaries n (b.drop 48)

/-- The policy's flags. -/
def policyByte (p : Policy) : Nat := bit p.requireEnc + 2 * bit p.basinEnc + 4 * bit p.lock

/-- The response to a key message (R274). -/
def keyRsp (s : State) (n : Option Nat) (m : Bytes) (st : Byte) : State :=
  let kcmd := getBE m 0 1
  let len := if kcmd = 3 then 16 else 8
  let b := putBE 1 kcmd ++ [st] ++ putBE 2 len ++ slice m 4 4
    ++ (if kcmd = 3 then putBE 1 (policyByte s.policy) ++ zeros 7 else [])
  let k := n.getD 0
  let t := match Tab.find s.spdm.sess k with | some x => x.tr | none => .mctpSmbus (smbAddr s)
  spdmSay s t (.vendor k b)

/-- QPN of a key message. -/
def kmQpn (m : Bytes) : Nat := getBE m 8 4
/-- INSTANCE. -/
def kmInst (m : Bytes) : Nat := getBE m 12 2
/-- SECRET. -/
def kmSecret (m : Bytes) : Bytes := slice m 16 32

/-- AUTH of a REKEY (R274). -/
def rekeyAuth (present new : Bytes) : Bytes :=
  fit 16 (Config.hkdf present (("HV6 REKEY".toList.map (fun c => BitVec.ofNat 8 c.toNat)) ++ new) 16)

/-- The QPN and INSTANCE fields are legal. -/
def kmTargetOk (s : State) (m : Bytes) : Bool := decide (kmQpn m < qpMax s) && decide (kmInst m < 1024)

/-- Check 2 of R275. -/
def kmFieldsOk (s : State) (m : Bytes) : Bool :=
  let kcmd := getBE m 0 1
  getBE m 1 1 = 0 && getBE m 2 2 = m.length &&
  (if kcmd = 1 then
      decide (m.length = 64) && kmTargetOk s m && (getBE m 14 1 = 1 || getBE m 14 1 = 2) && decide (getBE m 15 1 ≤ 1)
      && (getBE m 14 1 = 2 || zeroIn m 48 16)
    else if kcmd = 2 then decide (m.length = 16) && kmTargetOk s m && zeroIn m 14 2
    else if kcmd = 3 then decide (m.length = 16) && decide (getBE m 8 1 < 8) && zeroIn m 9 7 && (!bitN (getBE m 8 1) 1 || roleCap s = 2)
    else decide (getBE m 8 1 ≤ 16) && decide (m.length = 16 + 48 * getBE m 8 1) && zeroIn m 9 7)

/-- The session is with the device that this one attested as its active manager (R286, R288). -/
def fromManager (s : State) (x : Sess) : Bool :=
  match x.tr with | .basin k => k = s.basin.mgrSlot && k ≠ 0 | _ => false

/-- Check 4 of R275 on KEY_INSTALL and KEY_COMMIT. -/
def kmGranted (s : State) (x : Sess) (m : Bytes) : Bool :=
  let n := kmQpn m
  match qpOf s n with
  | none => false
  | some p => owns s.own.qp n (kmInst m) && p.st ≠ .free && (p.kind = .rc || fromManager s x) && qEnc p
      && (getBE m 0 1 ≠ 2 || p.cipher.pending.isSome)

/-- The first failing check of R275. -/
def kmFail (s : State) (n : Option Nat) (m : Bytes) : Option Byte :=
  match qualSess s n with
  | none => some Status.attestRequired
  | some x =>
    let kcmd := getBE m 0 1
    let target : Bool := kcmd = 1 || kcmd = 2
    let rekey : Bool := kcmd = 1 && getBE m 14 1 = 2
    let c := match qpOf s (kmQpn m) with | some p => p.cipher | none => Cipher.empty
    let stateOk : Bool := match qpOf s (kmQpn m) with
      | none => false
      | some p => if kcmd = 2 then !c.committed
                  else if rekey then p.st = .connected && c.keyed && c.pending.isNone else p.st = .init && !c.keyed
    firstFail [(trHost x.tr || fromManager s x, Status.notPermitted), (kmFieldsOk s m, Status.badField), (!target || instHas s (kmInst m) 18, Status.featureNotNegotiated),
      (if target then kmGranted s x m else !s.policy.lock, Status.notPermitted),
      (!rekey || (getBE m 15 1 = c.role && slice m 48 16 = rekeyAuth c.secret (kmSecret m)), Status.keyViolation),
      (!target || stateOk, Status.busy)]

/-- A key message: the first failing check answers it; otherwise its effect. -/
def keyMessage (n : Option Nat) (m : Bytes) (row : Bool) (s : State) (eff : State → State) : Result :=
  if !tenderRuns s ∨ !row then .next s
  else match kmFail s n m with
    | some st => .next (keyRsp s n m st)
    | none => .next (keyRsp (eff s) n m Status.ok)

/-- Changes the cipher record of a message's queue pair. -/
def onCipher (s : State) (m : Bytes) (f : Cipher → Cipher) : State :=
  { s with qps := Tab.modify s.qps (kmQpn m) (fun p => { p with cipher := f p.cipher }) }

/-- KEY_INSTALL, MODE INITIAL (R274, R275, R276). -/
def execKeyInstallInitial (n : Option Nat) (m : Bytes) (s : State) : Result :=
  keyMessage n m (getBE m 0 1 = 1 && getBE m 14 1 ≠ 2) s fun s =>
    onCipher s m (fun _ => { Cipher.empty with keyed := true, secret := kmSecret m, role := getBE m 15 1 })

/-- KEY_INSTALL, MODE REKEY (R274, R275, R276). -/
def execKeyInstallRekey (n : Option Nat) (m : Bytes) (s : State) : Result :=
  keyMessage n m (getBE m 0 1 = 1 && getBE m 14 1 = 2) s fun s =>
    onCipher s m (fun c => { c with pending := some (kmSecret m), committed := false, txOnP := false, rxOnP := false })

/-- KEY_COMMIT (R274, R275, R284). -/
def execKeyCommit (n : Option Nat) (m : Bytes) (s : State) : Result :=
  keyMessage n m (getBE m 0 1 = 2) s fun s => onCipher s m (fun c => { c with committed := true })

/-- CRYPT_POLICY (R276). -/
def execCryptPolicy (n : Option Nat) (m : Bytes) (s : State) : Result :=
  keyMessage n m (getBE m 0 1 = 3) s fun s =>
    let f := getBE m 8 1
    { s with policy := { s.policy with requireEnc := bitN f 0, basinEnc := bitN f 1, lock := bitN f 2 } }

/-- ADMIT_SET (R286). -/
def execAdmitSet (n : Option Nat) (m : Bytes) (s : State) : Result :=
  keyMessage n m (getBE m 0 1 = 4) s fun s =>
    { s with policy := { s.policy with admission := summaries (getBE m 8 1) (m.drop 16) } }

/-! ### Basin attestation fragments (R285) -/

/-- The fragments of a message from the first on, up to the one before `n`. -/
def gather (t : Tab Bytes) : Nat → Option Bytes
  | 0 => some []
  | n + 1 => match gather t n, Tab.find t n with
    | some a, some b => some (a ++ b)
    | _, _ => none

/-- BASIN_ATTEST_FRAGMENT: kept by TAG and FRAG; with every fragment up to EOM there, the SPDM message is whole (R285, R286). -/
def execBasinAttestFragment (slot : Nat) (b : Bytes) (s : State) : Result :=
  let fl := getBE b 0 1
  let k := getBE b 1 1
  let len := getBE b 2 2
  if !tenderRuns s ∨ b.length ≠ 32 ∨ getBE b 28 4 ≠ crcN (b.take 28) ∨ 8 ≤ fl ∨ 204 < k ∨ len = 0 ∨ 20 < len then .next s
  else
    let key := slot * 2 ^ 32 + getBE b 4 4
    let old := if bitN fl 0 then [] else Tab.getD s.spdm.frags key []
    let t := Tab.put old k (slice b 8 len)
    let q := s.spdm
    if !bitN fl 1 then .next { s with spdm := { q with frags := Tab.put q.frags key t } }
    else match gather t (k + 1) with
      | none => .next { s with spdm := { q with frags := Tab.put q.frags key t } }
      | some m => .next { s with spdm := { q with frags := Tab.del q.frags key, inbox := q.inbox ++ [(slot, m)] } }

/-! ### State and CRYPT_QUERY (R291) -/

/-- TN_ATTEST_STAT. -/
def attestStat (s : State) : Nat :=
  bit s.policy.lock * 2 ^ 31 + bit s.policy.requireEnc * 2 ^ 30 + bit s.policy.basinEnc * 2 ^ 29
    + s.policy.admission.length * 2 ^ 24 + sessCount s false * 2 ^ 16 + sessCount s true

/-- CRYPT_QUERY, mailbox code 0x50 (R291). -/
def execCryptQuery (s : State) : Result :=
  match mbxIs s 0x50 with
  | none => .next s
  | some _ => .next (mbxDone s Status.ok (putLE 4 (attestStat s) ++ zeros 4 ++ measSummary s))

end Sys2Proof.Machine
end

