-- ==== Sys2Proof/Machine/Debug.lean ====
section
/-!
DEFINITION. The Furrow debugger: the debug commands over the mailboxes and over JTAG (R355 to R359).
-/
namespace Sys2Proof.Machine

/-- The code of a debug source (FW_DBG_STAT.SRC). -/
def dbgSrc (r : MbxReq) : Nat := match r.origin with | .host => 0 | .mctp => 1 | .jtag => 2 | .tender => 3

/-- CORE of a debug parameter block (R356). -/
def dpCore (p : Bytes) : Nat := getLE p 0 1
/-- SLOT. -/
def dpSlot (p : Bytes) : Nat := getLE p 1 1
/-- COUNT. -/
def dpCount (p : Bytes) : Nat := getLE p 2 2
/-- VALUE. -/
def dpValue (p : Bytes) : Nat := getLE p 4 8
/-- OFFSET. -/
def dpOff (p : Bytes) : Nat := getLE p 12 2
/-- LENGTH. -/
def dpLen (p : Bytes) : Nat := getLE p 14 2
/-- The slot's key. -/
def dpKey (p : Bytes) : Nat := fwKey (dpCore p) (dpSlot p)

/-- Fields in range (check 2 of R356). -/
def dpRange (code : Nat) (p : Bytes) : Bool :=
  dpSlot p < 16
  && (code ≠ 0x73 || 1 ≤ dpCount p) && (code ≠ 0x77 || dpCount p ≤ 3) && (code ≠ 0x78 || dpCount p ≤ 3)
  && ((code ≠ 0x74 && code ≠ 0x75) || (1 ≤ dpLen p && dpLen p ≤ 1008 && dpOff p + dpLen p ≤ 4352))

/-- The state a command needs (check 4 of R356). -/
def dpState (s : State) (code : Nat) (p : Bytes) : Bool :=
  let st := (Tab.find s.fw.slots (dpKey p)).map (·.st)
  if code = 0x71 then st = some .running
  else if code = 0x72 then st = some .halted || st = some .dtrap
  else if code = 0x73 then st = some .halted
  else if code = 0x74 ∨ code = 0x75 ∨ code = 0x76 then st = some .halted || st = some .dtrap
  else if code = 0x77 then st.isSome
  else if code = 0x78 then s.fw.dbg.src.isNone
  else true

/-- A host-link source reaches only groups of partner-side instances (R355). -/
def dpHostOk (s : State) (src code : Nat) (p : Bytes) : Bool :=
  src ≠ 0 || code = 0x70 || code = 0x78 || code = 0x79
  || (match Tab.find s.fw.slots (dpKey p) with | some t => isPartner s (tgInst s t) | none => true)

/-- The checks of R356 in order. -/
def dbgFail (s : State) (src code : Nat) (p : Bytes) : Option Byte :=
  firstFail [(offered s 27, Status.featureNotNegotiated), (dpRange code p && coreIn s (dpCore p), Status.badField),
    ((s.fw.dbg.src = some src || code = 0x78 || code = 0x70) && dpHostOk s src code p, Status.notPermitted),
    (dpState s code p, Status.busy)]

/-- What a debug command leaves: the state, and its response data. -/
abbrev DbgRes := State × Bytes

/-- The code of a slot state (R337). -/
def fwCode : FwState → Nat
  | .running => 1
  | .halted => 2
  | .dtrap => 3

/-- One entry of DBG_LIST. -/
def listEntry (s : State) (k : Nat) : Bytes :=
  match Tab.find s.fw.slots k with
  | some t => [BitVec.ofNat 8 (fwCode t.st), BitVec.ofNat 8 (bit t.inHandler + 2 * bit t.dbl)] ++ putLE 2 (tgInst s t)
      ++ putLE 4 t.q ++ putLE 4 t.i ++ putLE 2 t.index ++ zeros 2
  | none =>
    match (Tab.find s.fw.colls k).bind (Tab.find s.groups) with
    | some g => (match g.coll with
      | some c => [1, 0] ++ putLE 2 g.inst ++ putLE 4 c.q ++ putLE 4 c.i ++ zeros 4
      | none => zeros 16)
    | none => zeros 16

/-- Resumes a HALTED group: the instruction at PC is not stopped by its own breakpoint again. -/
def resume (s : State) (t : Tg) : Tg := { t with st := .running, ranAt := s.sys.now, skipBreak := true, stepLeft := none }

/-- Delivers a DTRAP group's pending trap again (R356). -/
def redeliver (s : State) (k : Nat) (t : Tg) : State :=
  match t.pendTrap with
  | none => putTg s k (resume s t)
  | some (c, a, m) =>
    deliver s k { t with st := .running, ranAt := s.sys.now, stepLeft := none, dbl := false, pendTrap := none } c a.toNat m.toNat

/-- The status of a killed group (R356). -/
def killStatus (t : Tg) : Byte := if t.dbl then Status.doubleTrap else if t.cause ≠ 0 then t.cause else Status.flushed

/-- DBG_KILL on a group. -/
def killTg (s : State) (k : Nat) (t : Tg) : State := retireTg s k t (killStatus t) true

/-- DBG_DETACH: resumes every HALTED group, kills every DTRAP group, clears every breakpoint (R356). -/
def detach (s : State) : State :=
  let s := s.fw.slots.foldl (fun s p =>
    match p.2.st with
    | .running => s
    | .halted => putTg s p.1 (resume s p.2)
    | .dtrap => killTg s p.1 p.2) s
  let f := s.fw
  { s with fw := { f with breaks := [], dbg := { f.dbg with src := none, haltTrap := false, haltDtrap := false } } }

/-- A command on the group in the selected slot. -/
def onSlot (s : State) (p : Bytes) (f : Tg → State) : DbgRes :=
  match Tab.find s.fw.slots (dpKey p) with
  | none => (s, [])
  | some t => (f t, [])

/-- DBG_LIST. -/
def dbgList (p : Bytes) (s : State) : DbgRes :=
  (s, ((List.range 16).map (fun j => listEntry s (fwKey (dpCore p) j))).flatten)

/-- DBG_HALT: at the next instruction boundary, where every group stands between commands. -/
def dbgHalt (p : Bytes) (s : State) : DbgRes := onSlot s p fun t => putTg s (dpKey p) (t.pause .halted s.sys.now)

/-- DBG_RESUME. -/
def dbgResume (p : Bytes) (s : State) : DbgRes :=
  onSlot s p fun t => if t.st = .dtrap then redeliver s (dpKey p) t else putTg s (dpKey p) (resume s t)

/-- DBG_STEP: the group runs COUNT instructions, then is HALTED. -/
def dbgStep (p : Bytes) (s : State) : DbgRes :=
  onSlot s p fun t => putTg s (dpKey p) { resume s t with stepLeft := some (dpCount p) }

/-- DBG_READ: bytes of the save-area layout. -/
def dbgRead (p : Bytes) (s : State) : DbgRes :=
  match Tab.find s.fw.slots (dpKey p) with
  | none => (s, [])
  | some t => (s, slice t.save (dpOff p) (dpLen p))

/-- DBG_WRITE: bytes 8 to 63 are read-only. -/
def dbgWrite (p : Bytes) (s : State) : DbgRes :=
  onSlot s p fun t =>
    let b := patch t.save (dpOff p) (fit (dpLen p) (p.drop 16))
    let t := t.load (patch b 8 (slice t.save 8 56))
    let s := putTg s (dpKey p) t
    if t.st = .dtrap then { s with fw := { s.fw with saved := Tab.put s.fw.saved (dpKey p) t.save } } else s

/-- DBG_KILL. -/
def dbgKill (p : Bytes) (s : State) : DbgRes := onSlot s p fun t => killTg s (dpKey p) t

/-- DBG_BREAK: sets or clears breakpoint COUNT of the slot. -/
def dbgBreak (p : Bytes) (s : State) : DbgRes :=
  onSlot s p fun _ =>
    let l := (Tab.find s.fw.breaks (dpKey p)).getD [none, none, none, none]
    let v := if dpValue p = 0 then none else some (dpValue p)
    { s with fw := { s.fw with breaks := Tab.put s.fw.breaks (dpKey p) (l.set (dpCount p) v) } }

/-- DBG_ATTACH. -/
def dbgAttach (src : Nat) (p : Bytes) (s : State) : DbgRes :=
  let d := s.fw.dbg
  ({ s with fw := { s.fw with dbg := { d with src := some src, haltTrap := bitN (dpCount p) 0, haltDtrap := bitN (dpCount p) 1 } } }, [])

/-- DBG_DETACH. -/
def dbgDetach (s : State) : DbgRes := (detach s, [])

/-- A debug command of the mailboxes: the checks of R356, the effect, the response. -/
def dbgCmd (code : Nat) (s : State) (eff : Nat → Bytes → State → DbgRes) : Result :=
  match mbxIs s code with
  | none => .next s
  | some r =>
    match dbgFail s (dbgSrc r) code r.params with
    | some st => .next (mbxDone s st [])
    | none =>
      let e := eff (dbgSrc r) r.params s
      .next (mbxDone e.1 Status.ok e.2)

/-- DBG_LIST (0x70) (R355, R356). -/
def execDbgList (s : State) : Result := dbgCmd 0x70 s fun _ => dbgList
/-- DBG_HALT (0x71) (R355, R356). -/
def execDbgHalt (s : State) : Result := dbgCmd 0x71 s fun _ => dbgHalt
/-- DBG_RESUME (0x72) (R355, R356). -/
def execDbgResume (s : State) : Result := dbgCmd 0x72 s fun _ => dbgResume
/-- DBG_STEP (0x73) (R355, R356). -/
def execDbgStep (s : State) : Result := dbgCmd 0x73 s fun _ => dbgStep
/-- DBG_READ (0x74) (R355, R356). -/
def execDbgRead (s : State) : Result := dbgCmd 0x74 s fun _ => dbgRead
/-- DBG_WRITE (0x75) (R355, R356). -/
def execDbgWrite (s : State) : Result := dbgCmd 0x75 s fun _ => dbgWrite
/-- DBG_KILL (0x76) (R355, R356). -/
def execDbgKill (s : State) : Result := dbgCmd 0x76 s fun _ => dbgKill
/-- DBG_BREAK (0x77) (R355, R356). -/
def execDbgBreak (s : State) : Result := dbgCmd 0x77 s fun _ => dbgBreak
/-- DBG_ATTACH (0x78) (R355, R356). -/
def execDbgAttach (s : State) : Result := dbgCmd 0x78 s dbgAttach
/-- DBG_DETACH (0x79) (R355, R356). -/
def execDbgDetach (s : State) : Result := dbgCmd 0x79 s fun _ _ => dbgDetach

/-- The effect of a debug code. -/
def dbgEff (code src : Nat) (p : Bytes) (s : State) : DbgRes :=
  if code = 0x70 then dbgList p s else if code = 0x71 then dbgHalt p s else if code = 0x72 then dbgResume p s
  else if code = 0x73 then dbgStep p s else if code = 0x74 then dbgRead p s else if code = 0x75 then dbgWrite p s
  else if code = 0x76 then dbgKill p s else if code = 0x77 then dbgBreak p s else if code = 0x78 then dbgAttach src p s
  else dbgDetach s

/-- The parameter length of a debug command (R356). -/
def dbgParamLen (code : Nat) (p : Bytes) : Nat := if code = 0x75 then 16 + dpLen p else 16

/-- Checks 1 to 4 of R130 on a JTAG request, padded with zeros; only debug codes are taken (R358). -/
def jtagFail (s : State) (b : Bytes) : Option Byte :=
  let n := getLE b 2 2
  let code := getLE b 0 1
  let p := slice b 16 n
  firstFail [(n ≤ 2032 && 16 + n ≤ b.length && getLE b 12 4 = crcN (b.take 12 ++ p), Status.descriptorCrc),
    (0x70 ≤ code && code ≤ 0x79 && getLE b 1 1 < 2 && zeroIn b 8 4 && n = dbgParamLen code p, Status.badField),
    (offered s 27, Status.featureNotNegotiated), (s.boot.stage = .ready, Status.notPermitted)]

/-- FWDBG_UPDATE_DR (R358): the request runs, and the response stands in the data register. -/
def execFwdbgUpdateDr (b : Bytes) (s : State) : Result :=
  if !tenderRuns s then .next s
  else
    let b := fit 1040 b
    let code := getLE b 0 1
    let p := slice b 16 (getLE b 2 2)
    let put (s : State) (st : Byte) (d : Bytes) : State :=
      let r := rspBlock code (getLE b 4 4) st d
      emit { s with fw := { s.fw with jtag := r } } (.fwdbg r)
    match jtagFail s b with
    | some st => .next (put s st [])
    | none => match dbgFail s 2 code p with
      | some st => .next (put s st [])
      | none =>
        let e := dbgEff code 2 p s
        .next (put e.1 Status.ok e.2)

end Sys2Proof.Machine
end

