-- ==== Sys2Proof/Machine/Loader.lean ====
section
/-!
DEFINITION. From an accepted image to READY: the image applied, the Vapen table built, the loader's mailbox commands,
feature negotiation (spec files 04 and 05, R103 to R125).
-/
namespace Sys2Proof.Machine

/-! ### Applying an image (R109, R110, R375, R408) -/

/-- Granules of the HBM grant pool (R408, IN_POOL_HBM). -/
def poolGranules (s : State) : Nat :=
  match s.boot.image with
  | some i => hbmGranules s.boot.hbmInService - carveGranules i - s.boot.plotGranules
  | none => 0

/-- Instance 0 at READY: manager-owned, key block 0, WEIGHT 64, no limits (R375, R381). -/
def inst0 : Inst :=
  { cls := .manager, destroying := none, turn := 0, txTurn := [], weight := 64, pasid := 0, qpBase := 0, qpBlk := 0, wqBase := 0, wqBlk := 0,
    cqBase := 0, cqBlk := 0, syBase := 0, syBlk := 0, pushBase := 0, push := 0, spanBase := 0, spanBlk := 0, keyBase := 0,
    keyBlk := 1, cbBase := 0, cb := 0, grpBase := 0, groups := 0, fwSlots := 0, fwResv := 0, gran := [], accRate := 0,
    txRate := 0, txBurst := 8, cmdRate := 0, accTok := 0, accAt := 0, txTok := 0, txAt := 0, cmdTok := 0, cmdAt := 0, resv := [],
    freeKeys := [], stats := [] }

/-- Every partner-facing and Basin-facing structure and the contents of HBM go; device time, Levee, the boot state, the
flash, the event log, self-test results, the mailboxes, the link statistics, what is plugged in and the partner's own memory stay
(R110; assumption 42). -/
def discardAll (s : State) : State :=
  let r := State.reset
  { r with
      sys := s.sys, boot := { s.boot with staged := [] }, flash := s.flash, feat := r.feat, vp := { r.vp with gen := s.vp.gen },
      mbx := s.mbx, lv := s.lv, clk := s.clk, ports := s.ports, log := s.log, st := s.st,
      intr := { r.intr with stat := s.intr.stat &&& 0x20 },
      regs := Tab.keep (fun k _ => decide (k / 2 ^ 20 = 0x0C)) s.regs, stacksLost := s.stacksLost, pmem := s.pmem, linkStats := s.linkStats,
      pt := { r.pt with core := s.pt.core, cores := s.pt.cores, trained := s.pt.trained, cxl := s.pt.cxl, ide := s.pt.ide,
                        width := s.pt.width, rate := s.pt.rate },
      fw := { r.fw with cores := s.fw.cores }, out := s.out, rd := s.rd, pending := s.pending }

/-- The partner link in the mode of the image (R133): HOSTED in H-mode; it trains again where the mode changes (R110). -/
def partnerOf (s : State) (old : Option PMode) (m : PMode) : Partner :=
  if m = .h then { s.pt with st := .hosted, trained := false, cxl := false, ide := false }
  else if s.pt.trained ∧ (old = none ∨ old = some m) then { s.pt with st := .up }
  else { s.pt with st := .down, trained := false, cxl := false, ide := false }

/-- Every port whose breakout changes selects its application anew. -/
def portsOf (s : State) (old : Option Image) (i : Image) : Tab Port :=
  Tab.keep (fun p _ => decide ((old.map fun o => fld o.brk (2 * p + 1) (2 * p)) = some (fld i.brk (2 * p + 1) (2 * p)))) s.ports

/-- The heartbeat parameters an image gives a manager-capable device (R107). -/
def hbOf (i : Image) : Nat :=
  match i.basin with
  | some b => if i.roleCap = 2 then b.hbMiss * 65536 + b.hbPeriod else 0x30064
  | none => 0x30064

/-- The image applied (R109): its structure, plot, offer and instance 0; device role UNJOINED. -/
def applyImage (s : State) (i : Image) (digest : Bytes) : State :=
  let old := s.boot.image
  let s := { s with boot.hbmInService := s.boot.hbmInService &&& ~~~s.stacksLost }
  let d := discardAll s
  let cores : BitVec 48 := if d.fw.cores = 0 then BitVec.allOnes 48 else d.fw.cores
  let d := { d with boot.image := some i, boot.digest := digest, boot.accepted := none, boot.coreMask := cores,
                    boot.plotGranules := plotLaid s.boot.hbmInService i, fw.cores := cores, feat.offer := offerOf i,
                    ports := portsOf s old i, pt := partnerOf s (old.map Image.mode) i.mode, clk.hostLock := decide (i.mode ≠ .h) }
  let d := if i.roleCap = 2 then putReg d 0x0B 0x208 (hbOf i) else d
  { d with basin.period := fld (hbOf i) 15 0, basin.miss := fld (hbOf i) 19 16, basin.nextPeriod := fld (hbOf i) 15 0,
           basin.nextMiss := fld (hbOf i) 19 16, insts := [(0, inst0)], own.key := [(0, 0)] }

/-- STRUCTURE_APPLIED (R97, R109). -/
def execStructureApplied (s : State) : Result :=
  match s.boot.accepted with
  | none => .next s
  | some (i, digest) =>
    if s.sys.coldLow ∨ s.sys.warmLow ∨ (s.boot.stage ≠ .apply ∧ s.boot.stage ≠ .loading) then .next s
    else
      let t := applyImage s i digest
      .next { t with boot.stage := .vapen }

/-! ### The Vapen table (R117, R120 to R125) -/

/-- The block of an ID has no resources under an image (R125). -/
def blkAbsent (i : Image) (id : Nat) : Bool := (id = 0x09 && i.cb = 0) || (id = 0x06 && i.synkoMax = 0)

/-- Bytes of the doorbell windows: 64 for each of 2 × QP_MAX work queues (R156, R124). -/
def dbBytes (i : Image) : Nat := 64 * (2 * i.qpMax)
/-- PUSH_WINDOWS. -/
def pushOf (i : Image) : Nat := (i.partner.map (·.push)).getD 0

/-- The ranges of a layout: block spans other than the fixed page, windows, counter banks, instance pages. -/
def layoutRanges (i : Image) (l : Layout) : List (Nat × Nat) :=
  ((l.blocks.zipIdx).filter (fun b => b.2 ≠ 12 && b.2 ≠ 13)).map (fun b => (b.1.base, b.1.span))
    ++ [(l.dbBase, dbBytes i), (l.pushBase, 4096 * pushOf i), (l.cqdbBase, 64 * i.cqMax), (l.synkoBase, 64 * i.synkoMax),
        (l.linkBase, 128 * 32), (l.instBase, 128 * i.instMax), (l.pageBase, l.pageStride * i.instMax)]

/-- A layout the HV6 may have chosen (R117, R125): every range inside the window, clear of the fixed parts and of the
others; absent blocks and empty windows at 0. -/
def layoutOk (i : Image) (l : Layout) : Bool :=
  let z := fun (n base : Nat) => decide (n = 0) == decide (base = 0)
  decide (26 ≤ l.windowLog2 ∧ l.windowLog2 ≤ 31 ∧ l.blocks.length = 15 ∧ 4096 ≤ l.pageStride)
    && (l.blocks.zipIdx).all (fun b =>
        if b.2 = 12 ∨ b.2 = 13 then b.1 = { base := 0x10000, span := 65536 }
        else if blkAbsent i (b.2 + 1) then b.1 = { base := 0, span := 0 } else decide (0 < b.1.span))
    && (layoutRanges i l).all (fun r => r.2 = 0 || decide (0x20000 ≤ r.1 ∧ r.1 + r.2 ≤ 2 ^ l.windowLog2))
    && pairwiseDisjoint (layoutRanges i l) && z (pushOf i) l.pushBase && z i.synkoMax l.synkoBase

/-- One record: TYPE, LENGTH, INDEX, body (R123). -/
def tblRec (type index : Nat) (body : Bytes) : Bytes :=
  putLE 2 type ++ putLE 2 (8 + body.length) ++ putLE 2 index ++ zeros 2 ++ body

/-- The records of the table in order (R123, R124). -/
def tableRecords (s : State) (i : Image) (l : Layout) : List Bytes :=
  let ovf := (i.partner.map (·.ovf)).getD 0
  let blocks := (l.blocks.zipIdx).map fun b =>
    tblRec 1 (b.2 + 1) (putLE 4 b.1.base ++ putLE 4 b.1.span ++ [1] ++ zeros 7)
  let limits := tblRec 2 0 (putLE 4 i.qpMax ++ putLE 4 i.cqMax ++ putLE 4 i.spanMax ++ putLE 4 i.keyMax ++ putLE 4 i.synkoMax
    ++ putLE 2 i.instMax ++ putLE 2 i.cbSlots ++ putLE 4 (i.qpc * 512) ++ putLE 4 (i.spanc * 8192)
    ++ putLE 4 (i.fls * 262144 / 48) ++ putLE 4 (pushOf i) ++ putLE 4 ovf ++ putLE 4 s.boot.plotGranules
    ++ putLE 8 s.boot.coreMask.toNat ++ [s.boot.hbmInService] ++ zeros 7)
  let windows := tblRec 3 0 (putLE 4 l.dbBase ++ putLE 4 64 ++ putLE 4 (2 * i.qpMax) ++ putLE 4 l.pushBase ++ putLE 4 4096
    ++ putLE 4 (pushOf i) ++ putLE 4 l.cqdbBase ++ putLE 4 64 ++ putLE 4 i.cqMax ++ zeros 4)
  let bank := fun (kind width base stride count : Nat) =>
    tblRec 4 kind ([BitVec.ofNat 8 width] ++ zeros 3 ++ putLE 4 base ++ putLE 4 stride ++ putLE 4 count ++ zeros 8)
  let banks := [bank 1 48 l.synkoBase 64 i.synkoMax, bank 2 64 l.linkBase 128 32, bank 3 64 l.instBase 128 i.instMax]
  let pages := tblRec 5 0 (putLE 4 l.pageBase ++ putLE 4 l.pageStride ++ putLE 2 i.instMax ++ zeros 6)
  let ports := (List.range 8).map fun p =>
    let b := fld i.brk (2 * p + 1) (2 * p)
    tblRec 6 p ([BitVec.ofNat 8 b, BitVec.ofNat 8 (linksOf b), BitVec.ofNat 8 (2 * p), BitVec.ofNat 8 (2 * p + 1)]
      ++ putBE 6 (s.sys.fuses.macBase + 4 * p) ++ zeros 6)
  blocks ++ [limits, windows] ++ banks ++ [pages] ++ ports ++ [tblRec 0xFFFF 0 []]

/-- The whole table, header first (R122). -/
def tableBytes (s : State) (i : Image) (l : Layout) (gen : Nat) : Bytes :=
  let rs := tableRecords s i l
  let body := rs.flatten
  let mode := i.mode.code
  let var := match s.sys.fuses.variant with | .p => 0 | .d => 1
  let h := putLE 4 0x5641504E ++ [0, 1] ++ putLE 2 64 ++ putLE 4 (64 + body.length) ++ putLE 2 rs.length
    ++ [BitVec.ofNat 8 l.windowLog2, BitVec.ofNat 8 mode] ++ putLE 8 i.imageId ++ putLE 16 s.feat.offer.toNat
    ++ putLE 2 s.boot.runLevel ++ putLE 2 s.sys.fuses.siliconRev ++ [BitVec.ofNat 8 i.roleCap, BitVec.ofNat 8 var,
    BitVec.ofNat 8 i.framing, 0] ++ putLE 4 gen ++ putLE 2 i.udpPort ++ zeros 2 ++ putLE 4 (crcN body)
  h ++ putLE 4 (crcN h) ++ body

/-! ### Feature negotiation (R113, R114) -/

/-- The features each feature requires. -/
def featNeeds (n : Nat) : List Nat :=
  if n = 6 then [5] else if n = 7 ∨ n = 8 then [6] else if n = 10 then [9] else if n = 13 then [11]
  else if n = 15 then [11, 14] else if n = 26 then [25] else if n = 27 then [12] else if n = 29 then [28] else []

/-- The first bit of an accepted word that fails the walk of R113, the framing rule last. -/
def featConflict (offer ack : BitVec 128) : Option Nat :=
  let bad := fun n => if ack.getLsbD n then !offer.getLsbD n || (featNeeds n).any (fun k => !ack.getLsbD k) else decide (n < 4)
  match (List.range 30).find? bad with
  | some n => some n
  | none => if ack.getLsbD 19 || ack.getLsbD 20 then none else some 20

/-- The word less every bit whose requirements it does not hold. -/
def featPrune (w : BitVec 128) : BitVec 128 :=
  BitVec.ofNat 128 (bitsNat ((List.range 30).map fun n => w.getLsbD n && (featNeeds n).all (fun k => w.getLsbD k)))

/-- H-mode: Tender commits the offer made consistent (R114); a requirement chain is at most two long. -/
def featTender (s : State) : State :=
  if modeOf s ≠ .h then s
  else
    let w := featPrune (featPrune (featPrune s.feat.offer))
    { s with feat.ack := w, feat.subset := w, feat.committed := true }

/-- The checks 1 to 5 of R127 on VP_FEATCTRL. -/
def featCtrl (s : State) (w : RegWr) (eff : State) : Result :=
  if !fixedLive s then .next s
  else .next (checked s 0x10120 none w
    [(noRsv w 0xFFFFFFFC, Status.badField), (fld w.data.toNat 1 0 ≠ 3, Status.badField)] eff)

/-- The outcome of a COMMIT. -/
def featCommit (s : State) : State :=
  match featConflict s.feat.offer s.feat.ack with
  | some n => { s with feat.status := Status.featureConflict, feat.conflict := n }
  | none => { s with feat.committed := true, feat.subset := s.feat.ack, feat.status := Status.ok }

/-- The code of a boot record's slot. -/
def SlotId.code : SlotId → Nat
  | .a => 0
  | .b => 1
  | .golden => 2

/-- The CRC-32C of a boot record (R111): over its fields, in an order of the model's (assumption 89). -/
def recCrc (r : BootRec) : Word :=
  let src := match r.src with | .slot x => x.code | .builtin => 3
  let prst := match r.prstPending with | some c => c.toNat + 1 | none => 0
  crc32c ([BitVec.ofNat 8 r.slot.code, BitVec.ofNat 8 src] ++ r.digest ++ putLE 2 r.runLevel ++ putLE 16 r.feat.toNat
    ++ [BitVec.ofNat 8 (bit r.committed)] ++ putLE 2 prst)

/-- A boot record with its CRC. -/
def sealRec (r : BootRec) : BootRec := { r with crc := recCrc r }

/-- The commit is part of the boot record (R111). -/
def recordFeat (s : State) : State :=
  { s with boot.bootRec := s.boot.bootRec.map fun r => sealRec { r with feat := s.feat.subset, committed := s.feat.committed } }

/-- FEAT_COMMIT (R113). -/
def execFeatCommit (w : RegWr) (s : State) : Result :=
  if w.full ∧ bitN w.data.toNat 1 ∧ !bitN w.data.toNat 0 then .next s
  else featCtrl s w (if bitN w.data.toNat 0 then recordFeat (featCommit s) else s)

/-- A partner-side instance exists. -/
def anyPartnerInst (s : State) : Bool := s.insts.any fun x => x.2.cls = .partner

/-- The commit cleared (R114). -/
def featClear (f : Feat) : Feat := { f with ack := 0, committed := false, subset := 0, conflict := 0, status := 0 }

/-- FEAT_UNCOMMIT (R114): only while no partner-side instance exists. -/
def execFeatUncommit (w : RegWr) (s : State) : Result :=
  if w.full ∧ !bitN w.data.toNat 1 then .next s
  else featCtrl s w (recordFeat (if anyPartnerInst s then { s with feat.status := Status.busy }
    else { s with feat := { s.feat with committed := false, subset := 0, status := Status.ok } }))

/-! ### READY (R97, R120) -/

/-- The boot record of the applied image (R111). -/
def bootRecOf (s : State) : BootRec :=
  sealRec { slot := s.boot.slot, src := s.boot.src, digest := s.boot.digest, runLevel := s.boot.runLevel, feat := s.feat.subset,
            committed := s.feat.committed, prstPending := none, crc := 0 }

/-- READY is reported: the table is valid; an IMAGE_LOAD that led here completes. -/
def enterReady (s : State) : State :=
  let s := { s with boot.stage := .ready, boot.bootRec := some (bootRecOf s), vp.tvalid := true }
  match mbxIs s 0x23 with
  | some _ => mbxDone s Status.ok []
  | none => s

/-- VAPEN_BUILT (R120): the table is written and its CRCs verified, GENERATION rises, the stage becomes READY. -/
def execVapenBuilt (lay : Layout) (s : State) : Result :=
  match s.boot.image with
  | none => .next s
  | some i =>
    if s.sys.coldLow ∨ s.sys.warmLow ∨ s.boot.stage ≠ .vapen ∨ !layoutOk i lay then .next s
    else
      let g := s.vp.gen + 1
      let t := { s with vp.layout := some lay, vp.gen := g, vp.table := tableBytes s i lay g, mgr.loadAt := s.sys.now }
      let t := logEv (featTender t) 0x0004 Status.ok 0x0E 0 (putLE 8 i.imageId ++ putLE 4 g)
      .next (enterReady t)

/-- CONFIGURATION_REQUEST (R98, R144): the HV6-D answers with retry until READY or HOLD, and while a teardown runs; a board in test
mode answers nothing (R53). -/
def execConfigurationRequest (s : State) : Result :=
  if s.sys.coldLow ∨ s.sys.fuses.variant ≠ .d ∨ s.sys.straps.test then .next s
  else .next (emit s (.config (configRetry s || s.pt.st = .teardown)))

/-! ### Loader mailbox commands (R103, R104, R110, R115, R116) -/

/-- A slot's write count. -/
def slotCount (f : Flash) (n : Nat) : Nat := if n = 0 then (dirNow f).countA else (dirNow f).countB

/-- The slot a command names is the running one. -/
def isRunning (s : State) (n : Nat) : Bool := s.boot.slot = slotNum n

/-- The bytes a SLOT_WRITE takes: partner memory through the partner cache, or the staging buffer. -/
def slotSource (s : State) (kind src len : Nat) : Bytes :=
  if kind = 0 then Mem.read s.pmem src len else Mem.read s.boot.staged src len

/-- The fields of a SLOT_WRITE lie in their ranges (R115). -/
def slotFields (p : Bytes) : Bool :=
  let len := getLE p 4 4
  let src := getLE p 8 8
  getLE p 0 1 ≤ 1 && getLE p 1 1 ≤ 1 && zeroIn p 2 2 && 4096 ≤ len && len ≤ slotSize && len % 4096 = 0 && src % 4096 = 0
    && (getLE p 1 1 = 0 || decide (src + len ≤ slotSize))

/-- The checks of SLOT_WRITE in order (R115). DESIGN CHOICE (log 90): the list does not give a source in partner memory that
cannot be read, because the partner link is not up or does not run CXL; the model completes it with PARTNER_RESET, between
SLOT_WORN and DESCRIPTOR_CRC, where the bytes are first read. Unsafe. -/
def slotWriteFail (s : State) (r : MbxReq) (b : Bytes) : Option Byte :=
  let p := r.params
  let n := getLE p 0 1
  let kind := getLE p 1 1
  let rev := s.sys.fuses.siliconRev
  firstFail [(slotFields p, Status.badField),
    (!isRunning s n && (kind = 1 || (r.origin = .host && !noHost s)), Status.notPermitted),
    (slotCount s.flash n < 10000, Status.slotWorn), (kind = 1 || (s.pt.st = .up && s.pt.cxl), Status.partnerReset),
    (bundleStatus rev b = Status.ok, bundleStatus rev b),
    (imageStatus s.sys.fuses.variant s.sys.straps.pen ((bundleLevel rev b).getD 0) (some (s.boot.hbmInService &&& ~~~s.stacksLost))
      (bundleImage b) = Status.ok,
     imageStatus s.sys.fuses.variant s.sys.straps.pen ((bundleLevel rev b).getD 0) (some (s.boot.hbmInService &&& ~~~s.stacksLost))
      (bundleImage b))]

/-- The count of a slot one higher, appended before the erase (R103). -/
def countUp (s : State) (n : Nat) : State :=
  let r := dirNow s.flash
  dirAppend s (if n = 0 then { r with countA := r.countA + 1 } else { r with countB := r.countB + 1 })

/-- Replaces a slot's contents. -/
def putSlot (s : State) (n : Nat) (b : Bytes) : State :=
  if n = 0 then { s with flash.a := b } else { s with flash.b := b }

/-- SLOT_WRITE (0x20, R103, R115). -/
def execSlotWrite (readBackOk : Bool) (s : State) : Result :=
  match mbxIs s 0x20 with
  | none => .next s
  | some r =>
    let p := r.params
    let n := getLE p 0 1
    let b := if slotFields p then slotSource s (getLE p 1 1) (getLE p 8 8) (getLE p 4 4) else []
    match slotWriteFail s r b with
    | some st => .next (mbxDone s st [])
    | none =>
      let t := countUp s n
      if readBackOk then .next (mbxDone (putSlot t n b) Status.ok (putLE 4 (slotCount t.flash n) ++ zeros 4))
      else
        let t := putSlot t n (freeBytes t b.length)
        .next (mbxDone { t with sys.freeCtr := t.sys.freeCtr + b.length } Status.retryExceeded [])

/-- SLOT_SELECT (0x21, R104): the checks, then the record both kinds append. -/
def slotSelect (s : State) (try_ : Bool) (f : Nat → DirRec → DirRec) : Result :=
  match mbxIs s 0x21 with
  | none => .next s
  | some r =>
    let p := r.params
    let n := getLE p 0 1
    if (getLE p 1 1 = 1) ≠ (try_ = true) then .next s
    else
      let rev := s.sys.fuses.siliconRev
      match firstFail [(n ≤ 1 ∧ getLE p 1 1 ≤ 1 ∧ zeroIn p 2 2, Status.badField),
          (bundleStatus rev (slotOf s.flash (slotNum n)) = Status.ok, Status.notPermitted)] with
      | some st => .next (mbxDone s st [])
      | none => .next (mbxDone (dirAppend s (f n (dirNow s.flash))) Status.ok [])

/-- SLOT_SELECT ACTIVE (R104, R115). -/
def execSlotSelectActive (s : State) : Result := slotSelect s false fun n r => { r with active := n }
/-- SLOT_SELECT TRY (R104, R115). -/
def execSlotSelectTry (s : State) : Result := slotSelect s true fun n r => { r with try_ := n + 1 }

/-- One slot description of SLOT_QUERY (R116). DESIGN CHOICE (log 91): for a slot that holds no bundle the spec gives no values;
the tags read as the erased flash does, 0xFFFFFFFF, and IMAGE_ID, MIN_LEVEL, MODE and ROLE_CAP as 0. Unsafe. -/
def slotDesc (s : State) (b img : Bytes) (count : Nat) : Bytes :=
  let x := bundleOf b
  let rev := s.sys.fuses.siliconRev
  let pass := holdsBundle b && (bundleLevel rev b).isSome
  let ok := imgCheck1 img && imgCheck2 img
  let lv := if pass then (bundleLevel rev b).getD 0 else 0
  [BitVec.ofNat 8 (bit (bundleStatus rev b = Status.ok) + 2 * bit pass + 4 * bit ok), 0] ++ putLE 2 lv
    ++ putLE 4 x.tenderTag ++ putLE 4 x.sluiceTag ++ putLE 8 (getBE img 16 8) ++ putLE 2 (getBE img 12 2)
    ++ fit 1 (slice img 14 1) ++ fit 1 (slice img 15 1) ++ putLE 4 count ++ zeros 4

/-- The image of a slot, or no bytes where it holds no bundle. -/
def slotImage (b : Bytes) : Bytes := if holdsBundle b then bundleImage b else []

/-- SLOT_QUERY (0x22, R116). -/
def execSlotQuery (s : State) : Result :=
  match mbxIs s 0x22 with
  | none => .next s
  | some _ =>
    let f := s.flash
    .next (mbxDone s Status.ok ((dirStored f).getD (zeros 64) ++ slotDesc s f.a (slotImage f.a) (dirNow f).countA
      ++ slotDesc s f.b (slotImage f.b) (dirNow f).countB ++ slotDesc s f.golden (builtinFor s) 0))

/-- The image an IMAGE_LOAD names. -/
def loadSource (s : State) (src : Nat) : Bytes :=
  if src = 0 then slotImage s.flash.a else if src = 1 then slotImage s.flash.b else if src = 2 then builtinFor s
  else Mem.read s.boot.staged 0 (min (2 ^ 24) (getBE (Mem.read s.boot.staged 0 64) 8 4))

/-- IMAGE_LOAD (0x23, R110): accepted, the stage is LOADING until the image has been applied; it waits for the stacks. -/
def execImageLoad (s : State) : Result :=
  match mbxIs s 0x23 with
  | none => .next s
  | some r =>
    if !s.boot.trained ∨ s.boot.stage = .loading ∨ s.boot.stage = .vapen then .next s
    else
      let p := r.params
      let b := loadSource s (getLE p 0 1)
      let st := imageStatus s.sys.fuses.variant s.sys.straps.pen s.boot.runLevel (some (s.boot.hbmInService &&& ~~~s.stacksLost)) b
      match firstFail [(getLE p 0 1 ≤ 3 ∧ zeroIn p 1 3, Status.badField),
          ((s.boot.stage = .ready ∨ s.boot.stage = .hold) ∧ s.insts.all (fun x => x.1 = 0) ∧ s.basin.role = .unjoined, Status.busy),
          (st = Status.ok, st)] with
      | some st => .next (mbxDone s st [])
      | none =>
        .next { s with boot.stage := .loading, boot.accepted := some (parseImage (imageBytes b), imageDigest b),
                       boot.bootRec := none, vp.tvalid := false, boot.hbmInService := s.boot.hbmInService &&& ~~~s.stacksLost }

/-- STAGE_WRITE (0x24, R115). -/
def execStageWrite (s : State) : Result :=
  match mbxIs s 0x24 with
  | none => .next s
  | some r =>
    let off := getLE r.params 0 4
    match firstFail [(off % 1024 = 0 ∧ off < slotSize ∧ zeroIn r.params 4 4, Status.badField)] with
    | some st => .next (mbxDone s st [])
    | none => .next (mbxDone { s with boot.staged := Mem.write s.boot.staged off (slice r.params 8 1024) } Status.ok [])

end Sys2Proof.Machine
end

