-- ==== Sys2Proof/Machine/Manager.lean ====
section
/-!
DEFINITION. The manager-bound commands as the active manager carries them out: allocation, freeing, pairing, queries
(spec file 01, R43 to R51).
-/
namespace Sys2Proof.Machine

/-- One granule in bytes: 64 MiB. -/
def granule : Nat := 2 ^ 26

/-- The used ranges of a plot or overflow window, by ascending offset: (offset, length). -/
def usedRanges (d : Directory) (plot : Nat) : List (Nat × Nat) :=
  let es := d.allocs.flatMap fun x => (x.2.extents.filter (fun e => e.plot = plot)).map fun e => (e.off, e.len)
  sortBy (fun a b => a.1 ≤ b.1) es

/-- The free ranges between used ranges, from an offset to a length. -/
def gaps (len : Nat) : Nat → List (Nat × Nat) → List (Nat × Nat)
  | at_, [] => if at_ < len then [(at_, len - at_)] else []
  | at_, (o, l) :: r => if at_ < o then (at_, o - at_) :: gaps len (o + l) r else gaps len (max at_ (o + l)) r

/-- Takes `n` granules from free ranges, lowest first. -/
def takeFrom : Nat → List (Nat × Nat) → List (Nat × Nat)
  | 0, _ => []
  | _, [] => []
  | n, (o, l) :: r => if n ≤ l then [(o, n)] else (o, l) :: takeFrom (n - l) r

/-- Free granules of a plot by the extents placed on it. -/
def freeOn (d : Directory) (plot len : Nat) : Nat := len - ((usedRanges d plot).map (·.2)).sum

/-- One plot a request may use: its number, its free granules, the granules dealt to it. -/
structure Share where
  plot : Nat
  free : Nat
  got : Nat
  deriving DecidableEq, Repr

/-- The eligible plots in order of preference: most free granules first, the lower number on a tie (R49). -/
def eligible (d : Directory) (r : AllocReq) : List Share :=
  let ps := d.plots.filter fun x => x.2.mirrorFor = 0 && !x.2.spare && x.2.slot ≠ 0
    && (!r.explicit || bitN r.mask (x.1 - 1)) && (!r.pairedOnly || x.2.paired)
  let sh := ps.map fun x => ({ plot := x.1, free := freeOn d x.1 x.2.len, got := 0 } : Share)
  sortBy (fun a b => b.free < a.free || (a.free = b.free && a.plot ≤ b.plot)) sh

/-- One round of dealing: one granule to each plot that has room, in order. -/
def dealRound : Nat → List Share → Nat × List Share
  | n, [] => (n, [])
  | n, x :: r =>
    if n = 0 ∨ x.free ≤ x.got then
      let y := dealRound n r
      (y.1, x :: y.2)
    else
      let y := dealRound (n - 1) r
      (y.1, { x with got := x.got + 1 } :: y.2)

/-- Deals `n` granules round-robin, at most `fuel` rounds; what is left over comes first. -/
def deal : Nat → Nat → List Share → Nat × List Share
  | 0, n, l => (n, l)
  | fuel + 1, n, l =>
    let x := dealRound n l
    if x.1 = 0 ∨ x.1 = n then x else deal fuel x.1 x.2

/-- Deals to the stripe's plots, then to the remaining eligible ones. DESIGN CHOICE (log 102): the spec does not say how a full
stripe spills; what the STRIPE plots chosen (or fewer, where fewer are eligible) cannot hold is dealt round-robin to the other
eligible plots. Unsafe. -/
def dealStripe (n stripe : Nat) (l : List Share) : Nat × List Share :=
  let a := deal n n (l.take stripe)
  let b := deal a.1 a.1 (l.drop stripe)
  (b.1, a.2 ++ b.2)

/-- The extents of a dealt request on the plots, and what is left over. -/
def plotExtents (d : Directory) (sh : List Share) : List Extent :=
  (sh.filter (fun x => x.got ≠ 0)).flatMap fun x =>
    let len := ((Tab.find d.plots x.plot).map (·.len)).getD 0
    (takeFrom x.got (gaps len 0 (usedRanges d x.plot))).map fun g =>
      { plot := x.plot, off := g.1, len := g.2, span := 0 }

/-- The extents of the rest in the requester's overflow window (R44). -/
def ovfExtents (d : Directory) (slot n : Nat) : List Extent :=
  let w := Tab.getD d.ovf slot 0
  (takeFrom n (gaps w 0 (usedRanges d (0x80 + slot)))).map fun g => { plot := 0x80 + slot, off := g.1, len := g.2, span := 0 }

/-- Free granules of the requester's overflow window. -/
def ovfFree (d : Directory) (slot : Nat) : Nat := freeOn d (0x80 + slot) (Tab.getD d.ovf slot 0)

/-- The free counts of the plot map after a change of the allocation table. -/
def refreshFree (d : Directory) : Directory :=
  { d with plots := Tab.map (fun p e => { e with free := freeOn d p e.len }) d.plots }

/-- A placement record (R50). -/
def placementRec (d : Directory) (handle : Nat) (e : Extent) : Bytes :=
  let ovf := 0x80 < e.plot
  let paired := ((Tab.find d.plots e.plot).map (·.paired)).getD false
  let b := putLE 8 (e.plot * 2 ^ 48 + e.off * granule) ++ putLE 8 (e.len * granule)
    ++ [BitVec.ofNat 8 (bit ovf), BitVec.ofNat 8 (bit (paired && !ovf)), 0, 0] ++ putLE 4 e.span ++ putLE 4 handle
  b ++ putLE 4 (crcN b)

/-- The reply data of BASIN_ALLOC: HANDLE, RECORDS, SHORTFALL. -/
def allocReply (handle records shortfall : Nat) : Bytes := putLE 4 handle ++ putLE 4 records ++ putLE 8 shortfall

/-- Replies without committing anything. -/
def mgrRefuse (s : State) (slot reqId : Nat) (st : Byte) (data : Bytes) : State := emit s (.mgrReply slot reqId st data)

/-- A request ID already committed is answered with its committed result (R36). -/
def onMgr (s : State) (slot reqId : Nat) (k : Directory → State) : Result :=
  if s.basin.role ≠ .active then .next s
  else
    let d := dirLatest s
    match Tab.find s.mgr.dir.results (resultKey slot reqId) with
    | some x => .next (mgrRefuse s slot reqId x.status x.data)
    | none => .next (k d)

/-- The extents with the indices of the spans their owners created, in order (R50). -/
def numberSpans : List Extent → List Nat → List Extent
  | [], _ => []
  | e :: r, ns => { e with span := ns.headD 0 % 2 ^ 32 } :: numberSpans r (ns.drop 1)

/-- The owner of an extent: the plot's server, or the device of the overflow window. -/
def extentOwner (d : Directory) (e : Extent) : Nat :=
  if 0x80 < e.plot then e.plot - 0x80 else ((Tab.find d.plots e.plot).map (·.slot)).getD 0

/-- Tender at the owner of each extent creates a span over it (R50, R51). -/
def askSpans (d : Directory) (h : Nat) (s : State) (es : List Extent) : State :=
  es.foldl (fun s e => emit s (.createSpan (extentOwner d e) h e.plot e.off e.len)) s

/-- BASIN_ALLOC at the manager (R43, R44, R46, R50). -/
def execBasinAlloc (r : AllocReq) (s : State) : Result :=
  onMgr s r.slot r.reqId fun d =>
    let n := (r.length + granule - 1) / granule
    let dl := dealStripe n r.stripe (eligible d r)
    let left := dl.1
    let ov := if r.overflow then ovfFree d r.slot else 0
    if ov < left then
      mgrRefuse s r.slot r.reqId Status.capacityShortfall (allocReply 0 0 ((left - ov) * granule))
    else
      let es := plotExtents d dl.2 ++ (if left = 0 then [] else ovfExtents d r.slot left)
      if r.resultCap < es.length then mgrRefuse s r.slot r.reqId Status.noResource (allocReply 0 0 0)
      else
        let x := numberSpans es r.spans
        let h := d.nextHandle
        let al : Alloc := { inst := r.inst, slot := r.slot, extents := x, shared := [] }
        let d' := refreshFree { d with allocs := Tab.put d.allocs h al, nextHandle := h + 1 }
        commitDir (askSpans d h s x) d' 0 (.reply r.slot r.reqId (allocReply h x.length 0 ++ x.flatMap (placementRec d' h)))

/-- The bytes of an allocation's extents that meet a test. -/
def extentBytes (es : List Extent) (f : Extent → Bool) : Nat := ((es.filter f).map (·.len)).sum * granule

/-- BASIN_FREE at the manager (R51): Tender at each plot owner destroys the PLOT spans, and once their admitted accesses are done
(R218) the change is committed and the command completes. -/
def execBasinFree (r : FreeReq) (s : State) : Result :=
  onMgr s r.slot r.reqId fun d =>
    match Tab.find d.allocs r.handle with
    | none => mgrRefuse s r.slot r.reqId Status.badField []
    | some x =>
      if x.inst ≠ r.inst ∨ x.slot ≠ r.slot then mgrRefuse s r.slot r.reqId Status.notPermitted []
      else
        if !r.drained then emit s (.destroySpans r.handle)
        else commitDir s (refreshFree { d with allocs := Tab.del d.allocs r.handle }) 0
          (.reply r.slot r.reqId (putLE 8 (extentBytes x.extents fun _ => true)))

/-- PARTNER_ALLOC_FREE (R47): a torn-down instance's allocations are freed. -/
def execPartnerAllocFree (slot inst : Nat) (s : State) : Result :=
  if s.basin.role ≠ .active then .next s
  else
    let d := dirLatest s
    let mine := d.allocs.filter fun x => x.2.inst = inst ∧ x.2.slot = slot
    let s := mine.foldl (fun s x => emit s (.destroySpans x.1)) s
    let kept := Tab.keep (fun _ x => !(x.inst = inst && x.slot = slot)) d.allocs
    .next (commitDir s (refreshFree { d with allocs := kept }) 0 .nothing)

/-- A plot holds allocated extents. -/
def holdsExtents (d : Directory) (plot : Nat) : Bool := Tab.some (fun _ x => x.extents.any fun e => e.plot = plot) d.allocs

/-- An assigned plot: in the map, and not the mirror of another. -/
def assigned (d : Directory) (plot : Nat) : Option MapEnt :=
  match Tab.find d.plots plot with
  | some e => if e.mirrorFor = 0 ∧ e.slot ≠ 0 then some e else none
  | none => none

/-- BASIN_PAIR PAIR at the manager (R19, R51). -/
def execBasinPairPair (r : PairReq) (s : State) : Result :=
  onMgr s r.slot r.reqId fun d =>
    match assigned d r.primary, assigned d r.mirror with
    | some a, some b =>
      if r.primary = r.mirror ∨ a.slot = b.slot ∨ a.len ≠ b.len then mgrRefuse s r.slot r.reqId Status.badField []
      else if holdsExtents d r.primary ∨ holdsExtents d r.mirror ∨ a.paired ∨ b.paired ∨ a.copying ∨ b.copying then
        mgrRefuse s r.slot r.reqId Status.busy []
      else
        let a' := { a with paired := true, mirrorSlot := b.slot }
        let b' := { b with mirrorFor := r.primary, spare := false }
        let s := if s.policy.basinEnc then keyPair true a.slot s b.slot else s
        commitDir s { d with plots := Tab.put (Tab.put d.plots r.primary a') r.mirror b' } 1
          (.replyEpoch r.slot r.reqId)
    | _, _ => mgrRefuse s r.slot r.reqId Status.badField []

/-- BASIN_PAIR MARK_SPARE at the manager (R51). -/
def execBasinPairMarkSpare (r : PairReq) (s : State) : Result :=
  onMgr s r.slot r.reqId fun d =>
    match assigned d r.primary with
    | none => mgrRefuse s r.slot r.reqId Status.badField []
    | some a =>
      if holdsExtents d r.primary ∨ a.paired ∨ a.copying ∨ a.spare then mgrRefuse s r.slot r.reqId Status.busy []
      else commitDir s { d with plots := Tab.put d.plots r.primary { a with spare := true } } 1
        (.replyEpoch r.slot r.reqId)

/-- BASIN_PAIR UNMARK_SPARE at the manager (R51). -/
def execBasinPairUnmarkSpare (r : PairReq) (s : State) : Result :=
  onMgr s r.slot r.reqId fun d =>
    match assigned d r.primary with
    | none => mgrRefuse s r.slot r.reqId Status.badField []
    | some a =>
      if !a.spare then mgrRefuse s r.slot r.reqId Status.badField []
      else commitDir s { d with plots := Tab.put d.plots r.primary { a with spare := false } } 1
        (.replyEpoch r.slot r.reqId)

/-- One 8-byte entry of the plot map reply (R51). -/
def mapEntBytes (plot : Nat) (e : MapEnt) : Bytes :=
  [BitVec.ofNat 8 plot, BitVec.ofNat 8 e.slot, BitVec.ofNat 8 (bit e.paired + 2 * bit e.spare + 4 * bit e.copying),
   BitVec.ofNat 8 e.mirrorSlot] ++ putLE 4 e.free

/-- BASIN_QUERY KIND 0x01 (R51): the assigned plots in ascending number. -/
def execBasinQueryMap (slot : Nat) (s : State) : Result :=
  if s.basin.role ≠ .active then .next s
  else
    let ps := s.mgr.dir.plots.filter fun x => x.2.mirrorFor = 0
    .next (emit s (.mgrReply slot 0 Status.ok
      (putLE 4 s.basin.epoch ++ putLE 2 ps.length ++ zeros 2 ++ ps.flatMap fun x => mapEntBytes x.1 x.2)))

/-- BASIN_QUERY KIND 0x02 (R51). -/
def execBasinQueryAlloc (slot handle : Nat) (s : State) : Result :=
  if s.basin.role ≠ .active then .next s
  else
    let d := s.mgr.dir
    match Tab.find d.allocs handle with
    | none => .next (emit s (.mgrReply slot 0 Status.badField []))
    | some x =>
      let onPlot := fun (e : Extent) => decide (e.plot ≤ 0x80)
      let allPaired := (x.extents.filter onPlot).all fun e => ((Tab.find d.plots e.plot).map (·.paired)).getD false
      .next (emit s (.mgrReply slot 0 Status.ok
        (putLE 4 handle ++ putLE 2 x.inst ++ putLE 2 x.extents.length ++ putLE 8 (extentBytes x.extents onPlot)
          ++ putLE 8 (extentBytes x.extents fun e => !onPlot e) ++ [BitVec.ofNat 8 (bit allPaired)] ++ zeros 7)))

end Sys2Proof.Machine
end

