-- ==== Sys2Proof/Machine/Mailbox.lean ====
section
/-!
DEFINITION. The host-link and MCTP mailboxes (R129 to R132), and the issuing side of the manager-bound commands
(R36, R49, R51).
-/
namespace Sys2Proof.Machine

/-! ### Requests and their checks (R129, R130) -/

/-- The parameter length a defined code takes; none for an undefined code (R51, R81, R116, R291, R356, R387). -/
def mbxLen (code : Nat) (p : Bytes) : Option Nat :=
  if code = 0x20 then some 16 else if code = 0x21 ∨ code = 0x23 then some 4 else if code = 0x22 ∨ code = 0x50 then some 0
  else if code = 0x24 then some 1032 else if code = 0x30 then some 8 else if code = 0x31 then some (8 + getLE p 4 2)
  else if code = 0x40 then some 24 else if code = 0x41 ∨ code = 0x42 then some 16 else if code = 0x43 then some 8
  else if code = 0x60 then some 64 else if code = 0x61 then some 32 else if code = 0x62 ∨ code = 0x63 then some 16
  else if 0x70 ≤ code ∧ code ≤ 0x79 then some (dbgParamLen code p)
  else none

/-- The features a code needs (R130 check 3, R51). -/
def mbxFeatures (code : Nat) : List Nat :=
  if code = 0x42 then [6, 8] else if 0x40 ≤ code ∧ code ≤ 0x43 then [6] else if 0x60 ≤ code ∧ code ≤ 0x63 then [28]
  else if 0x70 ≤ code ∧ code ≤ 0x79 then [27] else []

/-- Checks 1 to 3 of R130 on a request block. -/
def mbxFail (s : State) (src : Src) (b : Bytes) (lenOk : Bool) : Option Byte :=
  let n := getLE b 2 2
  let p := slice b 16 n
  firstFail [(n ≤ 2032 && lenOk && getLE b 12 4 = crcN (b.take 12 ++ p), Status.descriptorCrc),
    (mbxLen (getLE b 0 1) p = some n && getLE b 1 1 < 2 && zeroIn b 8 4, Status.badField),
    ((mbxFeatures (getLE b 0 1)).all (srcHas s src), Status.featureNotNegotiated)]

/-- The request of a block. -/
def mbxReqOf (o : MbxFrom) (b : Bytes) : MbxReq :=
  { origin := o, code := getLE b 0 1, intr := bitN (getLE b 1 1) 0, tag := getLE b 4 4, params := slice b 16 (getLE b 2 2), discard := false }

/-- A loader command that runs alone (R115). -/
def loaderCode (code : Nat) : Bool := code = 0x20 || code = 0x21 || code = 0x23

/-- Takes a request: checks 1 to 3 at once, then it waits its turn, having woken the Tender
core that runs it (R71); a loader command that arrives while another runs
completes with BUSY (R115). -/
def mbxTake (s : State) (o : MbxFrom) (b : Bytes) (lenOk : Bool) : State :=
  let r := mbxReqOf o b
  match mbxFail s (mbxSrc r) b lenOk with
  | some st => mbxRespond s r st []
  | none =>
    if loaderCode r.code && (s.mbx.running.map fun x => loaderCode x.code) = some true then mbxRespond s r Status.busy []
    else wakeBlk { s with mbx.waiting := s.mbx.waiting ++ [r] } (.tender s.pt.core)

/-- The mailbox a register write submits to. -/
def mbxFrom : Src → MbxFrom
  | .host => .host
  | .mctp => .jtag
  | .jtag => .jtag
  | .tender => .tender

/-- The host-link mailbox submits its request buffer: LOST clears, a held response goes (R131). DESIGN CHOICE (log 93): the spec
gives TN_MBX_STAT.STATUS no value while BUSY; it keeps that of the response a GO from DONE discards. Unsafe. -/
def mbxGo (s : State) (src : Src) : State :=
  let n := min 2032 (getLE (Mem.read s.mbx.req 2 2) 0 2)
  let s := { s with mbx.st := .busy, mbx.lost := false, mbx.rsp := [] }
  mbxTake s (mbxFrom src) (Mem.read s.mbx.req 0 (16 + n)) true

/-- TN_MBX_GO (R131). -/
def execTnMbxGo (w : RegWr) (s : State) : Result :=
  if !fixedLive s then .next s
  else .next (checked s 0x10800 none w
    [(noRsv w 0xFFFFFFFE, Status.badField), (!bitN w.data.toNat 0 || s.mbx.st ≠ .busy, Status.busy)]
    (if bitN w.data.toNat 0 then mbxGo s w.src else s))

/-- An MCTP message is meant for this device: over SMBus at its target address (R52); over PCIe VDM except in HALTED, where only
JTAG and SMBus respond (R97). -/
def mctpHere (s : State) (smb : Option Nat) : Bool :=
  match smb with
  | some a => a = smbAddr s
  | none => s.boot.stage ≠ .halted

/-- MCTP_REQUEST (R129, R130): too short a message is dropped; without the Tender firmware the boot ROM answers; a board in test
mode answers nothing (R53). -/
def execMctpRequest (m : MctpReq) (s : State) : Result :=
  let b := m.block
  if s.sys.coldLow ∨ s.sys.straps.test ∨ !mctpHere s m.smb ∨ b.length < 16 then .next s
  else if !tenderRuns s then .next (emit s (.mctp (rspBlock (getLE b 0 1) (getLE b 4 4) Status.notPermitted [])))
  else .next (mbxTake s .mctp b (b.length = 16 + getLE b 2 2 && b.length ≤ 2048))

/-! ### The issuing side of manager-bound commands (R36, R49, R51) -/

/-- What the issuing device's checks find. -/
inductive Issued where
  | wait (s : State)
  | fail (s : State) (st : Byte)
  | go (s : State) (h : HeldCmd)

/-- R49 on a request block, in the order of its table. -/
def allocFail (s : State) (src : Src) (inst : Nat) (b : Bytes) : Option Byte :=
  let flags := getLE b 13 1
  let mask := getLE b 40 8
  let set := ((List.range 64).filter fun n => bitN mask n).length
  let stripe := getLE b 12 1
  firstFail [(getLE b 60 4 = crcN (b.take 60), Status.descriptorCrc),
    (getLE b 8 4 < 1024 && flags < 8 && zeroIn b 14 2 && zeroIn b 36 4 && zeroIn b 48 12, Status.badField),
    (0 < getLE b 0 8, Status.badField), (1 ≤ stripe ∧ stripe ≤ 64, Status.badField),
    (!bitN flags 2 || decide (0 < set ∧ stripe ≤ set), Status.badField), (getLE b 24 8 % 32 = 0, Status.badField),
    (pageOwned s (getLE b 8 4) src && getLE b 8 4 = inst, Status.notPermitted)]

/-- A command with its request ID and its place for results. -/
def heldOf (s : State) (r : MbxReq) (reqId inst addr key : Nat) (p : Bytes) : HeldCmd :=
  { reqId := reqId, since := s.sys.now, code := r.code, params := p, inst := inst, resultAddr := addr, resultKey := key }

/-- BASIN_ALLOC at the issuing device. -/
def issueAlloc (s : State) (r : MbxReq) : Issued :=
  let p := r.params
  let inst := getLE p 16 2
  let addr := getLE p 0 8
  match firstFail [(inst < 1024 && zeroIn p 18 6 && addr % 64 = 0, Status.badField), (pageOwned s inst (mbxSrc r), Status.notPermitted)] with
  | some st => .fail s st
  | none => match admitKey s inst (getLE p 8 4) rRead addr 64 false false with
    | (s, some st) => .fail s st
    | (s, none) => match readMem s inst addr 64 with
      | .wait s => .wait s
      | .fault s st _ => .fail s st
      | .ok s b => match allocFail s (mbxSrc r) inst b with
        | some st => .fail s st
        | none => match admitKey s inst (getLE p 12 4) rWrite (getLE b 24 8) (32 * getLE b 32 4) false false with
          | (s, some st) => .fail s st
          | (s, none) => .go s (heldOf s r (getLE b 16 8) inst (getLE b 24 8) (getLE p 12 4) b)

/-- A manager-bound command at the issuing device (R51). -/
def issueMgr (s : State) (r : MbxReq) : Issued :=
  let p := r.params
  if r.code = 0x40 then issueAlloc s r
  else if r.code = 0x41 then
    match firstFail [(getLE p 4 2 < 1024 && zeroIn p 6 2, Status.badField), (pageOwned s (getLE p 4 2) (mbxSrc r), Status.notPermitted)] with
    | some st => .fail s st
    | none => .go s (heldOf s r (getLE p 8 8) (getLE p 4 2) 0 0 p)
  else if r.code = 0x42 then
    let op := getLE p 0 1
    let plot (n : Nat) : Bool := decide (1 ≤ n ∧ n ≤ 64)
    if 1 ≤ op ∧ op ≤ 3 ∧ plot (getLE p 1 1) ∧ zeroIn p 3 5 ∧ (if op = 1 then plot (getLE p 2 1) = true else getLE p 2 1 = 0) then
      .go s (heldOf s r (getLE p 8 8) 0 0 0 p)
    else .fail s Status.badField
  else
    let k := getLE p 0 1
    if (k = 1 ∨ k = 2) ∧ zeroIn p 1 3 ∧ (k = 2 ∨ getLE p 4 4 = 0) then .go s (heldOf s r 0 0 0 0 p) else .fail s Status.badField

/-- The device knows an active manager, itself or one it hears. -/
def managerKnown (s : State) : Bool :=
  s.basin.role = .active
  || ((s.basin.role = .worker || s.basin.role = .standby) && s.basin.mgrSerial.isSome && !s.basin.mgrMissing
      && s.basin.handoverTo.isNone)

/-- Sends a held command to the active manager. -/
def forward (s : State) (h : HeldCmd) : State := emit s (.mgrReq h.code h.reqId h.params)

/-- HELD_COMMAND_RESEND (R36): to a newly active manager. -/
def execHeldCommandResend (s : State) : Result :=
  if !managerKnown s then .next s else .next (s.mgr.held.foldl forward s)

/-- HELD_COMMAND_TIMEOUT (R36): 1 s without an active manager. -/
def execHeldCommandTimeout (s : State) : Result :=
  match s.mgr.held with
  | [] => .next s
  | h :: t =>
    if managerKnown s then .next s
    else .next (mbxDone (advanceTo { s with mgr.held := t } (h.since + 1000000000)) Status.waitTimeout [])

/-- The extents of an allocation as its placement records name them (R50). -/
def recordExtents (b : Bytes) (n : Nat) : List Extent :=
  (List.range n).map fun k =>
    let base := getLE b (32 * k) 8
    { plot := base / 2 ^ 48, off := base % 2 ^ 48 / granule, len := getLE b (32 * k + 8) 8 / granule, span := getLE b (32 * k + 20) 4 }

/-- MANAGER_REPLY (R51, R50): placement records are written before BASIN_ALLOC completes; while that write waits, the
reply is taken again. -/
def execManagerReply (reqId : Nat) (status : Byte) (data : Bytes) (s : State) : Result :=
  match s.mgr.held.find? (fun h => h.reqId = reqId) with
  | none => .next s
  | some h =>
    let t := { s with mgr.held := s.mgr.held.erase h }
    if status ≠ Status.ok then .next (mbxDone t status data)
    else if h.code = 0x40 then
      let recs := data.drop 16
      let al : Alloc := { inst := h.inst, slot := s.basin.slot, extents := recordExtents recs (getLE data 4 4), shared := [] }
      match writeMem t h.inst h.resultAddr recs with
      | .wait u => .next { u with mgr.held := s.mgr.held }
      | .fault u st _ => .next (mbxDone { u with allocs := Tab.put u.allocs (getLE data 0 4) al } st [])
      | .ok u _ => .next (mbxDone { u with allocs := Tab.put u.allocs (getLE data 0 4) al } Status.ok (data.take 16))
    else if h.code = 0x41 then .next (mbxDone { t with allocs := Tab.del t.allocs (getLE h.params 0 4) } Status.ok data)
    else .next (mbxDone t Status.ok data)

/-! ### Commands start (R130 check 4) -/

/-- A stage permits a code. -/
def stageAllows (st : Stage) (code : Nat) : Bool :=
  match st with
  | .ready => true
  | .hold => 0x20 ≤ code && code ≤ 0x24
  | .firmware | .image | .apply | .vapen | .loading => code = 0x22
  | .rom | .halted => false

/-- A manager-bound command starts: it is forwarded, or held until a manager is active (R36). -/
def startBasin (s : State) (r : MbxReq) (rest : List MbxReq) : State :=
  match issueMgr s r with
  | .wait s => s
  | .fail s st => mbxRespond { s with mbx.waiting := rest } r st []
  | .go s h =>
    let s := { s with mbx.waiting := rest, mbx.running := some r, mgr.held := s.mgr.held ++ [h] }
    if managerKnown s then forward s h else s

/-- MBX_COMMAND_START (R130): one command at a time, in the order of acceptance. -/
def execMbxCommandStart (s : State) : Result :=
  if !tenderRuns s ∨ s.mbx.running.isSome ∨ gated s (.tender s.pt.core) then .next s
  else match s.mbx.waiting with
    | [] => .next s
    | r :: rest =>
      if !stageAllows s.boot.stage r.code then .next (mbxRespond { s with mbx.waiting := rest } r Status.notPermitted [])
      else if 0x40 ≤ r.code ∧ r.code ≤ 0x43 then .next (startBasin s r rest)
      else .next { s with mbx.waiting := rest, mbx.running := some r }

end Sys2Proof.Machine
end

