-- ==== Sys2Proof/Machine/Moves.lean ====
section
/-!
DEFINITION. The end of a span's move, and ATS answers (spec files 06 and 09, R141, R203, R207).
-/
namespace Sys2Proof.Machine

/-- The copy of a moving span ends (R207): it begins once the accesses admitted before the move have completed; the residence switches
only where the whole copy succeeded, then the held accesses proceed. -/
def execSpanMoveDone (k : Nat) (s : State) : Result :=
  match Tab.find s.spans k with
  | none => .next s
  | some sp =>
    match sp.moving with
    | none => .next s
    | some (q, i) =>
      let at_ (s : State) (hbm : Bool) : State :=
        { s with spans := Tab.put s.spans k { sp with moving := none, resHbm := hbm } }
      let held (s : State) : State := { s with spans := Tab.put s.spans k sp }
      let failed (s : State) (st : Byte) : State := rxRelease (finishSt (dropPieces (at_ s sp.resHbm) k) q i st)
      if spanUsed s k sp.movingAt then .next s
      else match readMem (at_ s sp.resHbm) sp.inst sp.start sp.len with
      | .wait s => .next (held s)
      | .fault s st _ => .next (failed s st)
      | .ok s b =>
        match writeMem (dropPieces (at_ s (!sp.resHbm)) k) sp.inst sp.start b with
        | .wait s => .next (held s)
        | .fault s st _ => .next (failed s st)
        | .ok s _ =>
          let d : Done := { status := Status.ok, cflags := 0, detail := 0, bytes := sp.len, aux := 0 }
          .next (rxRelease (finish s q i d))

/-- The outstanding ATS request of an instance for an address. -/
def atsOf (s : State) (inst addr : Nat) : Option AtsReq :=
  s.ats.find? (fun r => r.inst = inst && r.addr = addr && !r.refused)

/-- An ATS request is refused (R203): the access that waits for it will fault; one that only ADVISE asked for is forgotten (R208). -/
def atsRefuse (s : State) (r : AtsReq) : State :=
  if r.advise then { s with ats := s.ats.erase r }
  else { s with ats := s.ats.map (fun x => if x = r then { x with refused := true, refusedAt := s.pieceClock } else x),
                pieceClock := s.pieceClock + 1 }

/-- After a translation that ADVISE asked for, the rest of its span is asked for (R208). -/
def adviseRest (s : State) (r : AtsReq) (k : Nat) (sp : Span) : State :=
  if r.advise ∧ !sp.resHbm ∧ partnerUp s sp.inst then adviseAts (s.pieces.length + 1) s k sp sp.start else s

/-- ATS_COMPLETION (R203): the piece is clipped to its span and installed, or the request is refused. Where every entry of the span
cache is in use the answer is dropped, and the access asks again once one is free (R204). -/
def execAtsCompletion (inst addr : Nat) (a : AtsAns) (s : State) : Result :=
  match atsOf s inst addr with
  | none => .next s
  | some r =>
    match a with
    | .unsupported => .next (rxRelease (atsRefuse s r))
    | .piece start len target rd wr =>
      if addr < start ∨ start + len ≤ addr then .next s
      else if !rd ∨ (r.write ∧ !wr) then .next (rxRelease (atsRefuse s r))
      else match s.spans.find? (fun x => x.2.covers inst addr) with
        | none => .next (rxRelease (atsRefuse s r))
        | some (k, sp) =>
          let lo := max start sp.start
          let hi := min (start + len) (sp.start + sp.len)
          let p : Piece := { inst := inst, start := lo, len := hi - lo, loc := { space := .partner, addr := target + (lo - start) },
                             w := wr, span := k, ats := true, used := 0 }
          let s := { s with ats := s.ats.erase r }
          .next (rxRelease (match installPiece s p with | some s => adviseRest s r k sp | none => s))

/-- ATS_TIMEOUT (R203): no answer within 10 ms. -/
def execAtsTimeout (inst addr : Nat) (s : State) : Result :=
  match atsOf s inst addr with
  | none => .next s
  | some r =>
    let s := advanceTo s (r.since + 10000000)
    .next (rxRelease (logEv (atsRefuse s r) 0x0032 Status.ok 0x07 inst (putLE 8 addr)))

/-- ATS_INVALIDATION_REQUEST (R141): the pieces of the range go, and the request completes. Every access of this model
that used them has completed. -/
def execAtsInvalidationRequest (pasid addr len : Nat) (s : State) : Result :=
  if !partnerLive s then .next s
  else
    let hit (p : Piece) : Bool := p.ats && pasidOf s p.inst = pasid && overlapR p.start p.len addr len
    .next (emit { s with pieces := s.pieces.filter (fun p => !hit p) } (.atsInvDone pasid addr))

end Sys2Proof.Machine
end

