-- ==== Sys2Proof/Machine/Synko.lean ====
section
/-!
DEFINITION. Synko: counter changes, waiters, gates, and the counter and gate commands (spec file 13, R293 to R309).
-/
namespace Sys2Proof.Machine

/-- Replaces a counter's record. -/
def putCnt (s : State) (n : Nat) (c : SyCnt) : State := { s with sy := Tab.put s.sy n c }

/-! ### Waiters (R296 to R298, R303, R305) -/

/-- The SOP of an entry. -/
def sopOf (e : Bytes) : Nat := getLE e 12 1
/-- The counter a SYNKO_OP names. -/
def sopCounter (e : Bytes) : Nat := getLE e 16 2
/-- VALUE. -/
def sopValue (e : Bytes) : Nat := getLE e 20 8

/-- Finishes a SYNKO_OP: AUX carries bits 31 to 0 of the counter (R197). -/
def sopFinish (s : State) (q i : Nat) (st : Byte) : State :=
  let v := match inflOf s q i with | some r => (cnt s (sopCounter r.ent)).value | none => 0
  finish s q i { status := st, cflags := 0, detail := 0, bytes := 0, aux := v % 2 ^ 32 }

/-- Fires the target of an ARM_FIRE (R297): one write of the target queue's context, with its FIRE_TAG. -/
def fire (s : State) (t q i : Nat) : State × Byte :=
  match Tab.find s.wqs t with
  | none => (s, Status.queueDisabled)
  | some x =>
    match x.st with
    | .error => (s, Status.queueDisabled)
    | .draining => (s, Status.busy)
    | .enabled => (wakeBlk (putWq s t { x with fireTag := some (q, i) }) .headgate, Status.ok)
    | .disabled =>
      match enableFail s x with
      | some st => (putWq s t { x with fireTag := some (q, i) }, st)
      | none => (wakeBlk (putWq s t { x with st := .enabled, fireTag := some (q, i) }) .headgate, Status.ok)

/-- What the applied counter says to one waiting entry: released with a status, fired, timed out, or still waiting. -/
def wake (s : State) (q i : Nat) (r : Infl) : State :=
  let c := cnt s (sopCounter r.ent)
  let late : Bool := match r.deadline with | some d => decide (d < s.sys.now) | none => false
  if late then sopFinish s q i Status.waitTimeout
  else if c.poison then sopFinish s q i Status.descriptorCrc
  else if c.sat then sopFinish s q i Status.counterSaturated
  else if c.value < sopValue r.ent then s
  else if sopOf r.ent = 3 then sopFinish s q i Status.ok
  else
    let f := fire s (getLE r.ent 32 4) q i
    sopFinish f.1 q i f.2

/-- The entries that wait on a counter. -/
def waiting (s : State) (n : Nat) : Tab Infl :=
  Tab.keep (fun _ r => r.disp && r.done.isNone && entOp r.ent = 0x22 && decide (3 ≤ sopOf r.ent) && sopCounter r.ent = n) s.infl

/-- Releases what a counter's applied value releases: waiting entries, and the gated queues of a saturated or poisoned
counter (R295, R303, R305). `before` is the value before the change. -/
def releaseWaiters (s : State) (n before : Nat) : State :=
  let s := (waiting s n).foldl (fun s p => wake s (p.1 / 2 ^ 32) (p.1 % 2 ^ 32) p.2) s
  let c := cnt s n
  if !c.sat ∧ !c.poison then s
  else s.wqs.foldl (fun s p =>
    match p.2.gate with
    | none => s
    | some g =>
      if g.counter = n ∧ p.2.st = .enabled ∧ before < gateT g p.2.ci then
        enterError s p.1 (if c.poison then Status.descriptorCrc else Status.counterSaturated)
      else s) s

/-! ### Changes (R294, R295, R303, R304) -/

/-- A counter after a change (R303): its value and SAT, with its journal as given. -/
def changed (c : SyCnt) (set : Bool) (v : Nat) (journal : List (Nat × Nat × Nat)) : SyCnt :=
  if set then { c with value := v, sat := false, poison := false, bad1 := false, bad2 := false, journal := journal }
  else if c.poison ∨ c.sat then { c with journal := journal }
  else if 2 ^ 48 ≤ c.value + v then { c with value := 2 ^ 48 - 1, sat := true, journal := journal }
  else { c with value := c.value + v, journal := journal }

/-- Applies a change to a counter: the record, the saturation event, the waiters. -/
def applyCnt (s : State) (n : Nat) (set : Bool) (v : Nat) (journal : List (Nat × Nat × Nat)) : State :=
  let c := cnt s n
  let d := changed c set v journal
  let s := putCnt s n d
  let owner := match Tab.find s.own.sy (n / 64) with | some i => i | none => 0
  let s := if d.sat ∧ !c.sat then logEv s 0x0052 Status.counterSaturated 0x06 n (putLE 2 owner) else s
  releaseWaiters s n c.value

/-- The tag of a source (R304, R308): KIND, then its numbers; register commands and kernel instructions carry none. -/
def tagOf : SySrc → Option (Nat × Nat × Nat)
  | .entry q i => some (1, q, i)
  | .launch q i => some (1, q, i)
  | .op q i => some (1, q, i)
  | .culvert k t => some (2, k, t)
  | .command => none

/-- The durable record of a tag's source is not retired yet. -/
def tagLive (s : State) (t : Nat × Nat × Nat) : Bool :=
  if t.1 = 1 then Tab.has s.infl (inflKey t.2.1 t.2.2)
  else s.cv.xfers.any (fun x => x.pool = t.2.1 && x.slot = t.2.2)

/-- A transfer whose record is DONE and whose counter change is not applied yet. -/
def CvXfer.finished (x : CvXfer) : Bool := getLE x.rec_ 17 1 = 3

/-- After its change is applied, a source retires: a completed entry or transfer whose last change this was, and a
SYNKO_OP completes (R296, R304). -/
def retire (s : State) (src : SySrc) : State :=
  match src with
  | .command => s
  | .op q i => sopFinish s q i Status.ok
  | .culvert k t => { s with cv.xfers := s.cv.xfers.filter (fun x => !(x.pool = k && x.slot = t && x.finished)) }
  | .entry q i => { s with infl := Tab.del s.infl (inflKey q i) }
  | .launch q i => if s.syPend.any (fun x => x.src = src) then s else { s with infl := Tab.del s.infl (inflKey q i) }

/-- SYNKO_APPLY (R295, R303, R304): the n-th queued change becomes applied once the journal has a free slot. -/
def execSynkoApply (n : Nat) (s : State) : Result :=
  match s.syPend[n]? with
  | none => .next s
  | some ch => onBlk .synko s fun s =>
    let kept := (cnt s ch.counter).journal.filter (tagLive s)
    let journal := kept ++ (tagOf ch.src).toList
    if 5 < journal.length ∨ underTest s 4 0 then .next s
    else
      let s := applyCnt { s with syPend := s.syPend.eraseIdx n } ch.counter ch.set ch.value journal
      .next (retire s ch.src)

/-! ### SYNKO_OP entries (R296 to R298) -/

/-- A SYNKO_OP entry of one SOP that may be dispatched. -/
def sopDispatch (q i sop : Nat) (s : State) (k : Infl → State → State) : Result :=
  match mayDispatch s q i 0x22 with
  | none => .next s
  | some (_, r) => if sopOf r.ent ≠ sop ∨ underTest s 4 0 then .next s else .next (k r (dispatched s q i))

/-- SYNKO_ADD (R296). -/
def execSynkoAdd (q i : Nat) (s : State) : Result :=
  sopDispatch q i 1 s fun r s =>
    if (cnt s (sopCounter r.ent)).poison then sopFinish s q i Status.descriptorCrc
    else syQueue s (sopCounter r.ent) false (sopValue r.ent) (.op q i)

/-- SYNKO_SET (R296). -/
def execSynkoSet (q i : Nat) (s : State) : Result :=
  sopDispatch q i 2 s fun r s => syQueue s (sopCounter r.ent) true (sopValue r.ent) (.op q i)

/-- Starts a wait: the deadline, and the release where the counter has it already (R298, R303). -/
def startWait (q i : Nat) (r : Infl) (s : State) : State :=
  let t := getLE r.ent 28 4
  let d := if t = 0 then none else some (s.sys.now + t * 1000)
  let s := { s with infl := Tab.modify s.infl (inflKey q i) (fun x => { x with deadline := d }) }
  wake s q i { r with deadline := d }

/-- WAIT_GE (R296). -/
def execWaitGe (q i : Nat) (s : State) : Result := sopDispatch q i 3 s (startWait q i)

/-- ARM_FIRE (R296, R297). -/
def execArmFire (q i : Nat) (s : State) : Result := sopDispatch q i 4 s (startWait q i)

/-- SYNKO_DEADLINE (R298). -/
def execSynkoDeadline (q i : Nat) (s : State) : Result :=
  match inflOf s q i with
  | none => .next s
  | some r =>
    match r.deadline with
    | none => .next s
    | some d =>
      if !r.disp ∨ r.done.isSome ∨ entOp r.ent ≠ 0x22 then .next s
      else .next (sopFinish (advanceTo s d) q i Status.waitTimeout)

/-! ### Counter commands (R302, R309) -/

/-- The selected counter of an instance page. -/
def sySel (s : State) (inst : Nat) : Nat := getPage s inst 0x200

/-- The checks of R309 that every counter command shares. -/
def syHead (s : State) (inst : Nat) (w : RegWr) : List (Bool × Byte) :=
  [(noRsv w 0xFFFFFFF0 && decide (sySel s inst < synkoMax s) && decide (getPage s inst 0x208 < 2 ^ 16)
      && decide (getPage s inst 0x20C < instMax s), Status.badField),
   (instHas s inst 9, Status.featureNotNegotiated), (owns s.own.sy (sySel s inst) inst, Status.notPermitted)]

/-- SY_CVAL. -/
def syVal (s : State) (inst : Nat) : Nat := getPage s inst 0x204 + getPage s inst 0x208 * 2 ^ 32

/-- The counter is being released by a partner reset (R306). -/
def syLeaving (s : State) (inst : Nat) : Bool := s.pt.st = .teardown && isPartner s inst

/-- SY_CCMD SET (R294, R303, R309). -/
def execSySet (inst : Nat) (w : RegWr) (s : State) : Result :=
  onCmd w 1 s (pageCmd s inst 0x210 0x214 w (syHead s inst w ++ [(!syLeaving s inst, Status.busy)])
    (fun s => applyCnt s (sySel s inst) true (syVal s inst) (cnt s (sySel s inst)).journal))

/-- SY_CCMD ADD (R294, R303, R309). -/
def execSyAdd (inst : Nat) (w : RegWr) (s : State) : Result :=
  onCmd w 2 s (pageCmd s inst 0x210 0x214 w
    (syHead s inst w ++ [(!syLeaving s inst, Status.busy), (!(cnt s (sySel s inst)).poison, Status.descriptorCrc)])
    (fun s => applyCnt s (sySel s inst) false (syVal s inst) (cnt s (sySel s inst)).journal))

/-- SY_CCMD SHARE (R302, R309). -/
def execSyShare (inst : Nat) (w : RegWr) (s : State) : Result :=
  let to_ := getPage s inst 0x20C
  onCmd w 3 s (pageCmd s inst 0x210 0x214 w
    (syHead s inst w ++ [(decide (to_ ≠ inst), Status.notPermitted), ((cnt s (sySel s inst)).share.isNone, Status.busy)])
    (fun s => putCnt s (sySel s inst) { cnt s (sySel s inst) with share := some to_ }))

/-- A gate or a waiting entry of an instance names a counter (R302). -/
def syUsed (s : State) (n inst : Nat) : Bool :=
  s.wqs.any (fun x => x.2.inst = inst && (match x.2.gate with | some g => g.counter = n | none => false))
  || (waiting s n).any (fun p => match Tab.find s.wqs (p.1 / 2 ^ 32) with | some x => x.inst = inst | none => false)

/-- SY_CCMD UNSHARE (R302, R309). -/
def execSyUnshare (inst : Nat) (w : RegWr) (s : State) : Result :=
  let n := sySel s inst
  let free : Bool := match (cnt s n).share with | some j => !syUsed s n j | none => true
  onCmd w 4 s (pageCmd s inst 0x210 0x214 w (syHead s inst w ++ [(free, Status.busy)])
    (fun s => putCnt s n { cnt s n with share := none }))

/-! ### Gate commands (R299, R301, R309) -/

/-- The selected queue of the gate registers. -/
def gateSel (s : State) (inst : Nat) : Nat := getPage s inst 0x220

/-- The checks of R309 on a gate command. -/
def gateHead (s : State) (inst : Nat) (w : RegWr) (set : Bool) : List (Bool × Byte) :=
  let c := getPage s inst 0x224
  [(noRsv w 0xFFFFFFF0 && decide (gateSel s inst < dbCount s) && decide (c < synkoMax s) && decide (getPage s inst 0x22C < 2 ^ 16)
      && decide (1 ≤ getPage s inst 0x234) && decide (getPage s inst 0x234 ≤ 65535) && decide (getPage s inst 0x238 ≤ 1000000), Status.badField),
   (instHas s inst 9, Status.featureNotNegotiated),
   (owns s.own.wq (gateSel s inst) inst && (!set || counterSeen s c inst), Status.notPermitted)]

/-- A queue is DISABLED (R301). -/
def wqDisabled (s : State) (q : Nat) : Bool := match Tab.find s.wqs q with | some x => x.st = .disabled | none => false

/-- SY_GCMD GATE_SET (R299, R301): ORIGIN is the queue's CI. -/
def execGateSet (inst : Nat) (w : RegWr) (s : State) : Result :=
  let q := gateSel s inst
  onCmd w 1 s (pageCmd s inst 0x23C 0x240 w (gateHead s inst w true ++ [(wqDisabled s q, Status.busy)])
    (fun s => { s with wqs := Tab.modify s.wqs q (fun x =>
      let g : Gate := { counter := getPage s inst 0x224, base := getPage s inst 0x228 + getPage s inst 0x22C * 2 ^ 32,
                        step := getPage s inst 0x230, every := getPage s inst 0x234, origin := x.ci, timeout := getPage s inst 0x238 }
      { x with gate := some g, holdSince := none }) }))

/-- SY_GCMD GATE_CLEAR (R301). -/
def execGateClear (inst : Nat) (w : RegWr) (s : State) : Result :=
  let q := gateSel s inst
  onCmd w 2 s (pageCmd s inst 0x23C 0x240 w (gateHead s inst w false ++ [(wqDisabled s q, Status.busy)])
    (fun s => { s with wqs := Tab.modify s.wqs q (fun x => { x with gate := none, holdSince := none }) }))

/-- SY_GCMD GATE_QUERY (R309): the gate in force and T(CI). -/
def execGateQuery (inst : Nat) (w : RegWr) (s : State) : Result :=
  let q := gateSel s inst
  onCmd w 3 s (pageCmd s inst 0x23C 0x240 w (gateHead s inst w false)
    (fun s =>
      let put (s : State) (l : List (Nat × Nat)) : State := l.foldl (fun s x => putPage s inst x.1 x.2) s
      match Tab.find s.wqs q with
      | none => put s [(0x240, 0)]
      | some x => match x.gate with
        | none => put s [(0x240, 0)]
        | some g =>
          let t := gateT g x.ci
          put s [(0x224, g.counter), (0x228, g.base % 2 ^ 32), (0x22C, g.base / 2 ^ 32), (0x230, g.step), (0x234, g.every),
            (0x238, g.timeout), (0x240, 2 ^ 30), (0x244, t % 2 ^ 32), (0x248, t / 2 ^ 32 % 2 ^ 16)]))

end Sys2Proof.Machine
end

