-- ==== Sys2Proof/Machine/Teardown.lean ====
section
/-!
DEFINITION. Tearing instances down: the shared steps of a partner reset (R144) and of a forced destroy (R384), and the
partner reset itself with its triggers (spec files 06 and 17, R142 to R146, R220, R306).
-/
namespace Sys2Proof.Machine

/-- A register of pool `k`. -/
def poolReg (s : State) (k off : Nat) : Nat := getReg s 0x0A (0x100 + 0x20 * k + off)
/-- INST. -/
def poolInst (s : State) (k : Nat) : Nat := fld (poolReg s k 8) 29 20

/-! ### Step 3: accepted work ends (R144, R178, R245, R332, R384) -/

/-- The instance of a work queue meets a test. -/
def queueOf (s : State) (f : Nat → Bool) (q : Nat) : Bool := match Tab.find s.wqs q with | some x => f x.inst | none => false

/-- The queue pairs of the instances that meet a test. -/
def qpsOf (s : State) (f : Nat → Bool) : Tab Qp := Tab.keep (fun _ p => decide (p.kind = .rc) && f p.inst && decide (p.st ≠ .free)) s.qps

/-- Drops everything a queue pair has queued, placed or owed. -/
def hush (p : Qp) : Qp := { p with reqs := [], retx := [], rsps := [], ctl := [], cur := none, sack := [], sndEnd := p.sndNxt, unackedAt := none }

/-- Every queue pair of the set dropped what it had. -/
def hushAll (s : State) (f : Nat → Bool) : State :=
  { s with qps := Tab.map (fun _ p => if p.kind = .rc ∧ f p.inst then hush p else p) s.qps }

/-- The groups of the set with a collective running send the aborts of R331 with REMOTE_ABORT and end locally (R332). -/
def endColls (s : State) (f : Nat → Bool) (st : Byte) : State :=
  s.groups.foldl (fun s p =>
    if !f p.2.inst then s
    else match p.2.coll with
      | none => s
      | some c =>
        let s := collEnd (sendAborts s p.2 c Status.remoteAbort) p.1
          { status := st, cflags := 0, detail := 0, bytes := 0, aux := 0 } (some st)
        p.2.members.foldl (fun s m => match execPacketTransmit m.qpn s with | .next t => t | _ => s) s) s

/-- Every queue pair of the set sends ABORT with REMOTE_ABORT and its EPSN (R245, R384). -/
def sendAbortsQp (s : State) (f : Nat → Bool) (resyncing : Bool) : State :=
  (qpsOf s f).foldl (fun s p =>
    if p.2.st = .connected ∨ (resyncing ∧ p.2.st = .resyncing) then
      sendCtl s p.1 { op := 0x14, kind := 0, status := Status.remoteAbort, psn := p.2.epsn }
    else s) s

/-- A held line lies in a Basin range of the own plot (R139). -/
def plotHeld (s : State) (a len : Nat) : Bool :=
  plotSlot s a = s.basin.slot && decide (plotOf a ≤ 64) && (linesOf (plotOff a) len).any (fun x => Tab.has s.pt.held x)

/-- A held line lies behind a local range of an instance, through a BASIN span. -/
def localHeld (s : State) (inst addr len : Nat) : Bool :=
  s.spans.any (fun p => p.2.inst = inst && p.2.kind = .basin && overlapR p.2.start p.2.len addr len
    && (let lo := max addr p.2.start
        plotHeld s (p.2.target + (lo - p.2.start)) (min (addr + len) (p.2.start + p.2.len) - lo)))

/-- An admitted access of an entry is held at a line of the own plot (R139, R220). -/
def heldEntry (s : State) (inst : Nat) (r : Infl) : Bool :=
  let e := r.ent
  let op := entOp e
  let basin : Bool := op = 0x10 || op = 0x11
  r.adm.isSome && !r.disp && r.done.isNone
    && ((basin && plotHeld s (getLE e 32 8) (entLen e))
      || (if op = 0x21 then localHeld s inst (getLE e 16 8) (getLE e 28 4) || localHeld s inst (getLE e 32 8) (getLE e 44 4)
          else !entInline e && localHeld s inst (entAddr e) (entLen e)))

/-- Every accepted entry of the set without an outcome ends with a status (R42, R178), but for those that a test spares. -/
def endEntries (s : State) (f : Nat → Bool) (st : Byte) (spare : Nat → Infl → Bool) : State :=
  let drop (src : SySrc) : Bool := match src with | .op q _ => queueOf s f q | _ => false
  let s := { s with syPend := s.syPend.filter (fun c => !drop c.src) }
  s.infl.foldl (fun t p =>
    let q := p.1 / 2 ^ 32
    let inst := match Tab.find s.wqs q with | some x => x.inst | none => 0
    if queueOf s f q ∧ !p.2.written ∧ !spare inst p.2 then finishSt t q (p.1 % 2 ^ 32) st else t) s

/-- Writes the completion entry of one ended request (R144, R178): `false` while its write is held. One that cannot reach partner
memory is discarded, and counted for a partner reset. -/
def tdEntry (s : State) (q i : Nat) (x : Wq) (r : Infl) (d : Done) (prst : Bool) : State × Bool :=
  let lost (c : Cq) : Bool := prst && !c.error && !partnerLive s
    && (match writeMem s c.inst (c.ring + 32 * (c.cpi % 2 ^ c.log2))
          (cqeBytes (phaseOf c.cpi c.log2) q i (entOp r.ent) (entWrId r.ent) d) with | .ok _ _ => false | _ => true)
  let gone : Bool := match Tab.find s.cqs x.cq with | some c => lost c | none => prst
  match (if gone then ({ s with pt.cqeLost := satInc 28 s.pt.cqeLost }, true)
         else writeCqe s x.cq q i (entOp r.ent) (entWrId r.ent) d) with
  | (s, false) => (s, false)
  | (s, true) => (afterCqe (if d.status = Status.ok then s else instStat s x.inst 1 1) q i r x.inst, true)

/-- Completes the ended entries of a queue, oldest first, until one is not ended or its write is held. -/
def tdQueue : Nat → State → Nat → Wq → Bool → State
  | 0, s, _, _, _ => s
  | n + 1, s, q, x, prst =>
    match oldest s q with
    | some (i, r) => (match r.done with
      | some d => (match tdEntry s q i x r d prst with
        | (s, true) => tdQueue n s q x prst
        | (s, false) => s)
      | none => s)
    | none => s

/-- The completion entries of every queue of the set. -/
def tdEntries (s : State) (f : Nat → Bool) (prst : Bool) : State :=
  s.wqs.foldl (fun s p => if f p.2.inst then tdQueue ((owed s p.1).length) s p.1 p.2 prst else s) s

/-- A completion entry of the set is not written yet: its write is held. -/
def tdOpen (s : State) (f : Nat → Bool) : Bool :=
  s.wqs.any (fun p => f p.2.inst && (match oldest s p.1 with | some (_, r) => r.done.isSome | none => false))

/-- Drops the local accesses of the set that wait for other devices or for translations. -/
def dropWaits (s : State) (f : Nat → Bool) : State :=
  { s with bx := s.bx.filter (fun x => !f x.inst), ats := s.ats.filter (fun r => !f r.inst) }

/-- Step 3: aborts go out and accepted work ends; then the completion entries. At a partner reset an access held under R139 ends in
step 7 instead (R220). -/
def endWork (s : State) (f : Nat → Bool) (st : Byte) (prst : Bool) : State :=
  let s := hushAll (endColls (hushAll s f) f st) f
  let s := sendAbortsQp s f prst
  tdEntries (dropWaits (endEntries s f st (fun inst r => prst && heldEntry s inst r)) f) f prst

/-! ### Step 4: Furrow groups (R144, R353, R384) -/

/-- Stops and frees every Furrow group of the set, with its breakpoints, launch and atomic log. -/
def freeGroups (s : State) (f : Nat → Bool) : State :=
  let mine (k : Nat) : Bool := match Tab.find s.fw.slots k with | some t => queueOf s f t.q | none => false
  let w := s.fw
  { s with fw := { w with slots := Tab.keep (fun k _ => !mine k) w.slots, breaks := Tab.keep (fun k _ => !mine k) w.breaks,
                          colls := Tab.keep (fun _ g => match Tab.find s.groups g with | some x => !f x.inst | none => false) w.colls,
                          launches := Tab.keep (fun _ l => !f l.inst) w.launches,
                          alogs := Tab.keep (fun k _ => !queueOf s f (k / 2 ^ 42)) w.alogs } }

/-! ### Step 5: counters (R306, R384) -/

/-- The increments of the set's completed entries apply (R193, R306). -/
def applyOwed (s : State) (f : Nat → Bool) : State :=
  let mine (src : SySrc) : Bool := match src with
    | .entry q _ => queueOf s f q
    | .launch q _ => queueOf s f q
    | .culvert k i => f (poolInst s k) || s.cv.xfers.any (fun x => x.pool = k && x.slot = i && f x.inst)
    | _ => false
  let due := s.syPend.filter (fun c => mine c.src)
  due.foldl (fun s c => retire (applyCnt { s with syPend := s.syPend.erase c } c.counter c.set c.value (cnt s c.counter).journal) c.src) s

/-- The counter belongs to an instance of the set. -/
def counterOf (s : State) (f : Nat → Bool) (n : Nat) : Bool := match Tab.find s.own.sy (n / 64) with | some i => f i | none => false

/-- Waiters of other instances on the set's counters end with a status; the counters return to 0, unshared. -/
def freeCounters (s : State) (f : Nat → Bool) (st : Byte) : State :=
  let s := s.infl.foldl (fun s p =>
    let q := p.1 / 2 ^ 32
    if p.2.disp ∧ p.2.done.isNone ∧ entOp p.2.ent = 0x22 ∧ 3 ≤ sopOf p.2.ent ∧ counterOf s f (sopCounter p.2.ent) ∧ !queueOf s f q then
      sopFinish s q (p.1 % 2 ^ 32) st
    else s) s
  let s := s.wqs.foldl (fun s p => match p.2.gate with
    | none => s
    | some g => if counterOf s f g.counter ∧ !f p.2.inst ∧ p.2.st = .enabled then enterError s p.1 st else s) s
  { s with sy := Tab.keep (fun n _ => !counterOf s f n) s.sy, syPend := s.syPend.filter (fun c => !counterOf s f c.counter) }

/-! ### Step 6: keys, spans, codebooks, groups (R144, R220, R384) -/

/-- Every key and span of the set is gone, its codebook slots are EMPTY, its groups destroyed. -/
def dropGrants (s : State) (f : Nat → Bool) : State :=
  let freed (k : Key) : Key :=
    { k with st := 0, gen := if k.st = 1 then (k.gen + 1) % 256 else k.gen, freedAt := if k.st = 0 then k.freedAt else s.pieceClock }
  let s := { s with keys := Tab.map (fun _ (k : Key) => if f k.inst then freed k else k) s.keys, pieceClock := s.pieceClock + 1 }
  let s := s.spans.foldl (fun s p => if f p.2.inst then killSpan s p.1 else s) s
  let s := { s with cbs := Tab.keep (fun n _ => match Tab.find s.own.cb n with | some i => !f i | none => true) s.cbs }
  s.groups.foldl (fun s p => if f p.2.inst then dropGroup s p.1 else s) s

/-! ### The last step: grants and instances (R144 step 10, R384 step 7) -/

/-- The FREE record of a destroyed queue pair: it keeps its epoch, and PRST where a partner reset destroyed it (R245). -/
def deadQp (p : Qp) (prst : Bool) : Qp :=
  { Qp.fresh 0 .rc 0 0 0 0 0 0 0 0 (if p.st = .free then p.lastEpoch else p.epoch) (if p.st = .free then p.prst else prst) with st := .free }

/-- Destroys every instance of the set: queue pairs, queues, completion queues, push windows and grants become FREE; the
active manager is told to free their allocations where the rule says so (R47, R384). -/
def destroyInsts (s : State) (f : Nat → Bool) (prst tell : Bool) : State :=
  let gone := s.insts.filter (fun p => f p.1)
  let s := { s with qps := Tab.map (fun _ p => if p.kind = .rc ∧ f p.inst then deadQp p prst else p) s.qps,
                    infl := Tab.keep (fun k _ => !queueOf s f (k / 2 ^ 32)) s.infl,
                    wqs := Tab.keep (fun _ x => !f x.inst) s.wqs, cqs := Tab.keep (fun _ c => !f c.inst) s.cqs,
                    keys := Tab.map (fun _ (k : Key) => if f k.inst then { k with inst := 1024 } else k) s.keys,
                    pages := Tab.keep (fun k _ => !f (k / 4096)) s.pages, pieces := s.pieces.filter (fun p => !f p.inst) }
  let s := gone.foldl (fun s p =>
    let o := s.own
    let own : Own := { qp := ungrant o.qp p.1, wq := ungrant o.wq p.1, cq := ungrant o.cq p.1, sy := ungrant o.sy p.1,
                       span := ungrant o.span p.1, key := ungrant o.key p.1, push := ungrant o.push p.1, cb := ungrant o.cb p.1,
                       grp := ungrant o.grp p.1 }
    let s := { s with own := own }
    if tell then emit { s with allocs := Tab.keep (fun _ a => a.inst ≠ p.1) s.allocs } (.freeAllocs p.1) else s) s
  { s with insts := Tab.keep (fun n _ => !f n) s.insts }

end Sys2Proof.Machine
end

