-- ==== Sys2Proof/Machine/Culvert.lean ====
section
/-!
DEFINITION. Culvert: staging pools, their doorbells and transfers, and the host overflow registration (spec file 06, R147
to R153).
-/
namespace Sys2Proof.Machine

/-! ### Pools and slot records (R147) -/

/-- SLOT_LOG2. -/
def poolLog (s : State) (k : Nat) : Nat := fld (poolReg s k 8) 17 13
/-- COUNT. -/
def poolCount (s : State) (k : Nat) : Nat := fld (poolReg s k 8) 12 0
/-- EN. -/
def poolEn (s : State) (k : Nat) : Bool := bitN (poolReg s k 8) 31
/-- CV_POOL_BASE. -/
def poolBase (s : State) (k : Nat) : Nat := poolReg s k 0 + poolReg s k 4 * 2 ^ 32
/-- The partner address of a slot record. -/
def recAddr (s : State) (k i : Nat) : Nat := poolBase s k + 32 * i
/-- The partner address of a slot. -/
def slotAddr (s : State) (k i : Nat) : Nat := poolBase s k + (32 * poolCount s k + 4095) / 4096 * 4096 + i * 2 ^ poolLog s k

/-- LENGTH of a slot record. -/
def cvLen (b : Bytes) : Nat := getLE b 8 4
/-- SYNKO. -/
def cvSynko (b : Bytes) : Nat := getLE b 20 2

/-- The record with a new STATE and STATUS, its CRC recomputed. -/
def recWith (b : Bytes) (st : Nat) (status : Byte) : Bytes :=
  let h := b.take 17 ++ [BitVec.ofNat 8 st, status] ++ slice b 19 9
  h ++ putLE 4 (crcN h)

/-- Checks 3 to 5 of R148. -/
def recFail (s : State) (k : Nat) (b : Bytes) : Option Byte :=
  firstFail [(getLE b 28 4 = crcN (b.take 28), Status.descriptorCrc),
    ((getLE b 16 1 = 1 || getLE b 16 1 = 2) && getLE b 17 1 = 1 && getLE b 19 1 = 0 && zeroIn b 22 6 && getLE b 7 1 = 0
      && decide (1 ≤ cvLen b) && decide (cvLen b ≤ 2 ^ poolLog s k) && (cvSynko b = 0xFFFF || decide (cvSynko b < synkoMax s)),
     Status.badField),
    (cvSynko b = 0xFFFF || owns s.own.sy (cvSynko b) (poolInst s k), Status.notPermitted)]

/-- The first rejection since ERR was cleared is captured in CV_POOL_STAT (R148). -/
def cvReject (s : State) (k i : Nat) (st : Byte) : State :=
  if Tab.has s.cv.err k then s else { s with cv.err := Tab.put s.cv.err k (st, i) }

/-- Removes a transfer. -/
def dropXfer (s : State) (k i : Nat) : State := { s with cv.xfers := s.cv.xfers.filter (fun x => !(x.pool = k && x.slot = i)) }

/-- Stores a transfer. -/
def putXfer (s : State) (x : CvXfer) : State :=
  { s with cv.xfers := s.cv.xfers.filter (fun y => !(y.pool = x.pool && y.slot = x.slot)) ++ [x] }

/-- The transfer of a slot. -/
def xferOf (s : State) (k i : Nat) : Option CvXfer := s.cv.xfers.find? (fun x => x.pool = k && x.slot = i)

/-- IDLE: EN is 0 and no accepted transfer is outstanding. -/
def poolIdle (s : State) (k : Nat) : Bool := !poolEn s k && s.cv.xfers.all (fun x => x.pool ≠ k || x.finished)

/-! ### Doorbells (R148) -/

/-- The transfer a slot starts: its record as written BUSY, with the spans it holds until it completes. -/
def newXfer (s : State) (k i : Nat) (b : Bytes) : CvXfer :=
  let inst := poolInst s k
  { pool := k, slot := i, inst := inst, recAt := recAddr s k i, slotAt := slotAddr s k i, rec_ := b, result := none, sent := false,
    adm := some s.pieceClock, keys := [],
    spans := spansOver s inst (recAddr s k i) 32 ++ spansOver s inst (slotAddr s k i) (cvLen b) }

/-- The transfer of a slot is accepted and not DONE. -/
def cvRunning (s : State) (k i : Nat) : Bool := match xferOf s k i with | some x => !x.finished | none => false

/-- The doorbell of a slot whose record cannot be read yet. -/
def cvHold (s : State) (k i : Nat) : State := { s with cv.bells := s.cv.bells ++ [(k, i)] }

/-- Checks 1 to 5 of R148, then acceptance: the record is written BUSY. While its read or that write waits, so does the doorbell.
A slot whose transfer is BUSY fails check 4, whatever software wrote over its record (R149; log 109). -/
def cvAccept (s : State) (k i : Nat) : State :=
  if !poolEn s k then cvReject s k i Status.queueDisabled
  else if poolCount s k ≤ i then cvReject s k i Status.badField
  else match readMem s (poolInst s k) (recAddr s k i) 32 with
  | .wait s => cvHold s k i
  | .fault s st _ => cvReject s k i st
  | .ok s b => match (recFail s k b).orElse (fun _ => if cvRunning s k i then some Status.badField else none) with
    | some st => cvReject s k i st
    | none =>
      let c := recWith b 2 (BitVec.ofNat 8 (getLE b 18 1))
      match writeMem s (poolInst s k) (recAddr s k i) c with
      | .wait s => cvHold s k i
      | .fault s st _ => cvReject s k i st
      | .ok s _ => { putXfer s (newXfer s k i c) with pieceClock := s.pieceClock + 1 }

/-- Every waiting doorbell is tried again, in order; one of an instance that is being torn down is discarded (R144 step 1). -/
def cvRetry (s : State) : State :=
  if gated s .culvert then s else s.cv.bells.foldl (fun s b => if leaving s (poolInst s b.1) then s else cvAccept s b.1 b.2) { s with cv.bells := [] }

/-- A doorbell wakes a gated Culvert, and waits behind a held wake (R71, R72). -/
def cvRing (s : State) (k i : Nat) : State :=
  let s := wakeBlk s .culvert
  if gated s .culvert then cvHold s k i else cvAccept s k i

/-- CULVERT_DOORBELL (R148). -/
def execCulvertDoorbell (k : Nat) (w : RegWr) (s : State) : Result :=
  let i := fld w.data.toNat 11 0
  if !windowLive s ∨ 64 ≤ k then .next s
  else .next (checked s (regAddr s 0x0A (0x10C + 0x20 * k)) none w
    [(decide (modeOf s ≠ .h) && (poolInst s k = 0 || pageOwned s (poolInst s k) w.src), Status.notPermitted),
     (noRsv w 0xFFFFF000, Status.badField)]
    (if leaving s (poolInst s k) then s else cvRing s k i))

/-! ### Transfers (R148, R37) -/

/-- The record is written DONE with its status, then the counter is incremented (R148, R304). -/
def cvFinish (s : State) (x : CvXfer) (st : Byte) : State :=
  let b := recWith x.rec_ 3 st
  let y := { x with rec_ := b }
  let inc (s : State) : State :=
    if cvSynko b = 0xFFFF then dropXfer s x.pool x.slot
    else syQueue (putXfer s y) (cvSynko b) false 1 (.culvert x.pool x.slot)
  match writeMemAt x.adm s x.inst x.recAt b with
  | .wait s => putXfer s { x with sent := true, result := some (st, []) }
  | .fault s _ _ => inc s
  | .ok s _ => inc s

/-- Puts Basin data into the slot of an OUT transfer. -/
def cvOut (s : State) (x : CvXfer) (b : Bytes) : State :=
  match writeMemAt x.adm s x.inst x.slotAt b with
  | .wait s => s
  | .fault s st _ => cvFinish s x st
  | .ok s _ => cvFinish s x Status.ok

/-- Sends an accepted transfer to another device's plot (R215, R231); its queue pair in ERROR flushes it (R233). -/
def cvSend (s : State) (x : CvXfer) (a len h : Nat) (into : Bool) : State :=
  match (basinQp s (plotSlot s a)).bind (fun n => (qpOf s n).map (fun p => (n, p))) with
  | none => if plotSlot s a = 0 then cvFinish s x Status.translationFault else s
  | some (n, p) =>
    let go (s : State) (buf : Buf) : State :=
      queueReq (putXfer s { x with sent := true }) n (if into then 1 else 3) len a h 0 false 0 0 [] buf (.culvert x.pool x.slot)
    if p.st = .error then cvFinish s x Status.flushed
    else if p.st ≠ .connected then s
    else if !into then go s (.bytes (zeros len))
    else match readMemAt x.adm s x.inst x.slotAt len with
      | .wait s => s
      | .fault s st _ => cvFinish s x st
      | .ok s b => go s (.bytes b)

/-- The Basin operand of a transfer is admitted once (R16, R212, R213): the transfer, holding its key, or the status it fails with. -/
def cvAdmit (s : State) (x : CvXfer) : State × CvXfer × Option Byte :=
  let b := x.rec_
  let a := getLE b 0 8
  let key := getLE b 12 4
  if x.keys ≠ [] then (s, x, none)
  else match mapFail s a (cvLen b) with
    | some st => (s, x, some st)
    | none => match admitKey s x.inst key (if getLE b 16 1 = 1 then rWrite else rRead) a (cvLen b) true false with
      | (s, some st) => (s, x, some st)
      | (s, none) => (putXfer s { x with keys := [key] }, { x with keys := [key] }, none)

/-- An accepted transfer moves its data (R148): the checks of a Basin load or store, held as one is while a higher epoch is known
(R18), then the owner of the plot. -/
def cvMove (s : State) (x : CvXfer) : State :=
  let inst := x.inst
  let a := getLE x.rec_ 0 8
  let len := cvLen x.rec_
  let into : Bool := getLE x.rec_ 16 1 = 1
  if basinHeld s a then s
  else match cvAdmit s x with
  | (s, x, some st) => cvFinish s x st
  | (s, x, none) =>
    let h := match Tab.find s.keys (getLE x.rec_ 12 4 / 256) with | some k => k.handle | none => 0
    if plotSlot s a ≠ s.basin.slot then cvSend s x a len h into
    else match homeFail s inst a len h with
      | some (st, _) => cvFinish s x st
      | none =>
        if !into then
          (if (lineWait s (basinLoc s .basin a) len false).isSome then s else cvOut s x (getLoc s (basinLoc s .basin a) len))
        else match readMemAt x.adm s inst x.slotAt len with
          | .wait s => s
          | .fault s st _ => cvFinish s x st
          | .ok s d => match basinPiece s inst a len h true d with
            | .ok s _ => cvFinish s x Status.ok
            | .wait s => s
            | .fault s st _ => cvFinish s x st

/-- One step of a transfer: the move, or what the other device answered. -/
def cvStep (s : State) (x : CvXfer) : State :=
  if x.finished then s
  else match x.result with
    | some (st, d) => if st = Status.ok ∧ d ≠ [] then cvOut s x d else cvFinish s x st
    | none => if x.sent then s else cvMove s x

/-- CULVERT_TRANSFER_DONE (R148). -/
def execCulvertTransferDone (k i : Nat) (s : State) : Result :=
  match xferOf s k i with
  | none => .next s
  | some x => .next (cvStep s x)

/-! ### Teardown (R144 steps 4 and 8, R384 step 4) -/

/-- Runs every transfer of the set's pools on. -/
def cvRun (s : State) (f : Nat → Bool) : State :=
  s.cv.xfers.foldl (fun s x => if f x.inst then cvStep s x else s) s

/-- A transfer of the set is neither done nor rejected. -/
def cvOpen (s : State) (f : Nat → Bool) : Bool := s.cv.xfers.any (fun x => f x.inst && !x.finished)

/-- The bytes of a plot range before the first line that is held (R139). -/
def freePrefix (s : State) (off len : Nat) : Nat :=
  match (linesOf off len).find? (fun x => Tab.has s.pt.held x) with
  | some x => 64 * x - off
  | none => len

/-- An IN transfer that a partner reset interrupts may have written a prefix of its target (R148): of free length, before any
held line. -/
def cvCut (s : State) (x : CvXfer) : State :=
  let b := x.rec_
  let a := getLE b 0 8
  let up := { s with pt.st := .up, pt.cxl := true }
  let n := min ((freeVal s).toNat % (cvLen b + 1)) (freePrefix s (plotOff a) (cvLen b))
  if x.sent ∨ x.keys = [] ∨ getLE b 16 1 ≠ 1 ∨ plotSlot s a ≠ s.basin.slot ∨ 64 < plotOf a then s
  else match readMemAt x.adm up x.inst x.slotAt (cvLen b) with
    | .ok _ d => freeStep (setLoc s { space := .plot, addr := plotOff a } (d.take n))
    | _ => s

/-- The Basin requests of the set's transfers answer nobody any more. -/
def cvForget (s : State) (f : Nat → Bool) : State :=
  let mine (w : Waiter) : Bool := match w with
    | .culvert k i => s.cv.xfers.any (fun x => x.pool = k && x.slot = i && f x.inst && !x.finished)
    | _ => false
  { s with qps := Tab.map (fun _ p => { p with reqs := p.reqs.map (fun r => if mine r.who then { r with who := .nobody } else r) }) s.qps }

/-- A transfer that cannot go on ends with a status (R148), its record DONE where partner memory can be reached. -/
def cvAbort (s : State) (x : CvXfer) (st : Byte) : State :=
  let s := cvCut s x
  match writeMemAt x.adm s x.inst x.recAt (recWith x.rec_ 3 st) with
  | .wait _ => dropXfer s x.pool x.slot
  | _ => cvFinish s x st

/-- Accepted transfers complete, or end with a status where they cannot (R144 step 4). Waiting doorbells were not accepted, and are
dropped. -/
def cvEnd (s : State) (f : Nat → Bool) (st : Byte) : State :=
  let s := cvRun { s with cv.bells := s.cv.bells.filter (fun b => !f (poolInst s b.1)) } f
  s.cv.xfers.foldl (fun s x => if f x.inst ∧ !x.finished then cvAbort s x st else s) (cvForget s f)

/-- Disables and deregisters the pools of the set (R144 step 8, R384 step 4). -/
def cvClear (s : State) (f : Nat → Bool) : State :=
  let mine (k : Nat) : Bool := f (poolInst s k)
  let t := { s with cv.xfers := s.cv.xfers.filter (fun x => !f x.inst), cv.bells := s.cv.bells.filter (fun b => !mine b.1),
                    cv.err := Tab.keep (fun k _ => !mine k) s.cv.err }
  resetRegs t (fun key => key / 2 ^ 20 = 0x0A && decide (0x100 ≤ key % 2 ^ 20 ∧ key % 2 ^ 20 < 0x900) && mine ((key % 2 ^ 20 - 0x100) / 0x20))

/-! ### Pool configuration (R147, R150) -/

/-- The checks of R127 on CV_POOL_CFG. -/
def poolCfgChecks (s : State) (k : Nat) (w : RegWr) : List (Bool × Byte) :=
  let v := w.data.toNat
  let en := bitN v 31
  let log := fld v 17 13
  let cnt := fld v 12 0
  [(decide (modeOf s ≠ .h), Status.notPermitted), (srcHas s w.src 5, Status.featureNotNegotiated), (noRsv w 0x000C0000, Status.badField),
   (decide (fld v 29 20 < instMax s) && decide (12 ≤ log) && decide (log ≤ 24) && decide (1 ≤ cnt) && decide (cnt ≤ 4096), Status.badField),
   (poolIdle s k || fld v 29 0 = fld (poolReg s k 8) 29 0, Status.busy),
   (!en || (pageOwned s (fld v 29 20) w.src && s.pt.cxl), Status.notPermitted)]

/-- A write of CV_POOL_CFG. -/
def poolCfg (s : State) (k : Nat) (w : RegWr) : State :=
  checked s (regAddr s 0x0A (0x108 + 0x20 * k)) none w (poolCfgChecks s k w)
    (putReg s 0x0A (0x108 + 0x20 * k) (w.data.toNat % 2 ^ 30 + bit (bitN w.data.toNat 31) * 2 ^ 31))

/-- CV_POOL_DISABLE (R150): a write of CV_POOL_CFG with EN = 0. -/
def execCvPoolDisable (k : Nat) (w : RegWr) (s : State) : Result :=
  if !windowLive s ∨ 64 ≤ k ∨ (w.full ∧ bitN w.data.toNat 31) then .next s else .next (poolCfg s k w)

/-! ### The overflow tier (R151, R153) -/

/-- An overflow extent is placed on this device. -/
def ovfPlaced (s : State) : Bool :=
  let hit (t : Tab Alloc) : Bool := t.any (fun a => a.2.extents.any (fun x => x.plot = 0x80 + s.basin.slot))
  s.basin.slot ≠ 0 && (hit s.allocs || hit s.mgr.dir.allocs)

/-- OVF_GRANULES of the image. -/
def ovfMax (s : State) : Nat := lim s (fun i => (i.partner.map (·.ovf)).getD 0)

/-- The cached plot map follows the length of this device's own overflow window (R15, R151): a window of length 0 is no entry. -/
def ownOvf (s : State) (v : Nat) : State :=
  let t := s.basin.map.ovf
  { s with basin.map.ovf := if v = 0 then Tab.del t s.basin.slot else Tab.put t s.basin.slot v }

/-- A write of CV_OVF_BASE_LO, CV_OVF_BASE_HI or CV_OVF_LEN at an offset in the block. -/
def ovfWrite (s : State) (off : Nat) (w : RegWr) : State :=
  let v := w.data.toNat
  let rsv : Word := if off = 0 then 0x03FFFFFF else if off = 8 then 0xFFFF8000 else 0
  let old := getReg s 0x0A off
  let t := putReg s 0x0A off v
  checked s (regAddr s 0x0A off) none w
    [(decide (modeOf s ≠ .h) && devOwner s w, Status.notPermitted), (v = 0 || srcHas s w.src 7, Status.featureNotNegotiated),
     (noRsv w rsv, Status.badField), (off ≠ 8 || (decide (v ≤ ovfMax s) && decide (v ≤ 16384)), Status.badField),
     (!ovfPlaced s || v = old, Status.busy), (off ≠ 8 || v = 0 || s.pt.cxl, Status.notPermitted)]
    (if off = 8 ∧ v ≠ old then emit (ownOvf t v) (.ovfLength v) else t)

/-- CV_OVF_REGISTER (R151): the offset names one of the three registers. -/
def execCvOvfRegister (w : RegWrite) (s : State) : Result :=
  if !windowLive s then .next s
  else match [0, 4, 8].find? (fun o => regAddr s 0x0A o = w.off) with
    | some o => .next (ovfWrite s o w.wr)
    | none => .next s

end Sys2Proof.Machine
end

