-- ==== Sys2Proof/Machine/EventLog.lean ====
section
/-!
DEFINITION. The event log and the device interrupts: EVENT_LOG_WRITE, the log registers, TN_INT_STAT and TN_INT_EN
(spec file 18, R394 to R401).
-/
namespace Sys2Proof.Machine

/-- The first staged event that may be written now, and the rest: Tender-detected events wait for the firmware, events
of the two classes keep no order between them (R395, R407). -/
def nextStaged (run : Bool) : List Ev → Option (Ev × List Ev)
  | [] => none
  | e :: r =>
    if !evTender e || run then some (e, r)
    else match nextStaged run r with
      | none => none
      | some (x, y) => some (x, e :: y)

/-- Two events agree in everything that R395 compares. -/
def evSame (a b : Ev) : Bool :=
  a.id = b.id ∧ a.source = b.source ∧ a.unit = b.unit ∧ a.sev = b.sev ∧ a.status = b.status

/-- Two times lie within 1 ms of each other. -/
def within1ms (a b : Nat) : Bool := a ≤ b + 1000000 ∧ b ≤ a + 1000000

/-- Coalesces an event of severity 0 or 1 into the newest entry that agrees with it (R395). -/
def coalesce (e : Ev) : List LogEnt → Option (List LogEnt)
  | [] => none
  | x :: r =>
    if evSame x.ev e then
      if within1ms x.ev.time e.time then some ({ x with rep := satInc 16 x.rep } :: r) else none
    else (coalesce e r).map (x :: ·)

/-- Writes one new entry, overwriting the one with the lowest SEQ when the log is full (R396). -/
def appendEv (s : State) (e : Ev) : State :=
  let n := s.log.head + 1
  let full := s.log.entries.length ≥ 4096
  let lost := full && (match s.log.entries.getLast? with | some o => o.seq > s.log.ack | none => false)
  let kept := if full then s.log.entries.dropLast else s.log.entries
  { s with log.entries := { seq := n, rep := 0, ev := e } :: kept, log.head := n,
           log.lost := if lost then satInc 32 s.log.lost else s.log.lost }

/-- TN_INT_CFG.LOG_SEV. -/
def logSevCfg (s : State) : Nat := fld (getReg s 0x0B 0x588) 1 0

/-- The interrupts of a newly written entry (R401). -/
def eventInts (s : State) (sev : Nat) : State :=
  let s := if sev ≥ logSevCfg s then raise s 1 else s
  if sev = 3 then raise s 5 else s

/-- EVENT_LOG_WRITE (R395, R396). -/
def execEventLogWrite (s : State) : Result :=
  match nextStaged (tenderRuns s) s.log.staged with
  | none => .next s
  | some (e, rest) =>
    let s := { s with log.staged := rest }
    match if e.sev ≤ 1 then coalesce e s.log.entries else none with
    | some es => .next { s with log.entries := es }
    | none => .next (eventInts (appendEv s e) e.sev)

/-- TN_LOG_ACK_LO (R396): stages the low half. -/
def execTnLogAckLoWrite (w : RegWr) (s : State) : Result :=
  if !windowLive s then .next s
  else .next (checked s (regAddr s 0x0B 0x508) none w [] { s with log.ackLo := w.data })

/-- The 64-bit value a write of TN_LOG_ACK_HI commits. -/
def ackValue (s : State) (w : RegWr) : Nat := w.data.toNat * 2 ^ 32 + s.log.ackLo.toNat

/-- TN_LOG_ACK_HI (R396): commits the acknowledged SEQ; a lower value is ignored. -/
def execTnLogAckHiWrite (w : RegWr) (s : State) : Result :=
  if !windowLive s then .next s
  else .next (checked s (regAddr s 0x0B 0x50C) none w [(ackValue s w ≤ s.log.head, Status.badField)]
    { s with log.ack := max s.log.ack (ackValue s w) })

/-- The copy of R397: the entry of a SEQ, with what TN_LOG_RSTAT shows. -/
def logCopy (s : State) (seq : Nat) : RStat × Bytes :=
  if seq = 0 ∨ seq > s.log.head then (.future, zeros 64)
  else match s.log.entries.find? (fun e => e.seq = seq) with
    | some e => (.valid, entBytes e)
    | none => (.gone, zeros 64)

/-- TN_LOG_RSEL_HI (R397): copies the entry whose SEQ is RSEL into the window. -/
def execTnLogRselHiWrite (w : RegWr) (s : State) : Result :=
  if !windowLive s then .next s
  else
    let c := logCopy s (w.data.toNat * 2 ^ 32 + s.log.rselLo.toNat)
    .next (checked s (regAddr s 0x0B 0x51C) none w []
      { s with log.rselHi := w.data, log.rstat := c.1, log.window := c.2 })

/-- Clears interrupt causes; the message is sent again while an enabled cause remains (R401). -/
def clearInt (s : State) (bits : BitVec 6) : State :=
  let stat := s.intr.stat &&& ~~~bits
  let t := { s with intr.stat := stat }
  if stat &&& s.intr.en = 0 then t else sendInt t

/-- TN_INT_STAT, W1C (R401). -/
def execTnIntStatClear (w : RegWr) (s : State) : Result :=
  if !windowLive s then .next s
  else .next (checked s (regAddr s 0x0B 0x580) none w [(noRsv w 0xFFFFFFC0, Status.badField)]
    (clearInt s (w.data.setWidth 6)))

/-- TN_INT_EN (R401). -/
def execTnIntEnWrite (w : RegWr) (s : State) : Result :=
  if !windowLive s then .next s
  else .next (checked s (regAddr s 0x0B 0x584) none w [(noRsv w 0xFFFFFFC0, Status.badField)]
    (setInt s s.intr.stat (w.data.setWidth 6)))

end Sys2Proof.Machine
end

