-- ==== Sys2Proof/Machine/Partner.lean ====
section
/-!
DEFINITION. The partner link: training, the heartbeat, the triggers and the steps of a partner reset, snoops, the HDM window,
a new plot map, and the loss of a Tender core or an HBM stack (spec files 01, 06 and 10; R18, R134 to R146, R154, R244).
-/
namespace Sys2Proof.Machine

/-! ### Triggers (R143, R146) -/

/-- The link left the trained state: RATE reads 0, and the partner's accesses that wait have nobody to answer. DESIGN CHOICE (log 111): CXL, IDE and WIDTH keep the last trained values while the
link is down; the register table gives a value there for RATE only. Unsafe. -/
def linkLost (p : Partner) : Partner := { p with trained := false, rate := 0, hdmHeld := p.hdmHeld.filter (·.2) }

/-- A trigger of R143: a teardown starts from UP, or merges into the one that runs. -/
def prstTrigger (s : State) (cause : Nat) : State :=
  match s.pt.st with
  | .up =>
    let p := s.pt
    let s := { s with pt := { p with st := .teardown, causeValid := true, total := satInc 4 p.total, cause := cause, merged := 0,
                                     cqeLost := 0, hbArmed := false, tdStep := 1, tdWait := false } }
    openOwnWin (logEv s 0x0030 Status.partnerReset 0x0B 0 [BitVec.ofNat 8 cause])
  | .teardown => { s with pt.merged := satInc 4 s.pt.merged }
  | _ => s

/-- A trigger with the loss of the link. -/
def linkTrigger (s : State) (cause : Nat) : State := prstTrigger { s with pt := linkLost s.pt } cause

/-- PARTNER_LINK_DOWN (R143); a training held until a teardown ends is lost, on an HV6-D as a trigger merged into it (R146). -/
def execPartnerLinkDown (s : State) : Result :=
  if s.pt.sideband.isSome then
    let t := { s with pt.sideband := none }
    .next (if s.sys.fuses.variant = .p then t else prstTrigger t 1)
  else if !s.pt.trained then .next s
  else .next (linkTrigger s 1)

/-- PARTNER_FATAL_ERROR (R143): a partner-link loss. -/
def execPartnerFatalError (s : State) : Result := if !s.pt.trained then .next s else .next (linkTrigger s 2)

/-- HOST_RESET (R143): the link itself stays as it is trained. -/
def execHostReset (s : State) : Result := if s.sys.coldLow then .next s else .next (prstTrigger s 5)

/-- SNOOP_TIMEOUT (R139): 2 ms after its back-invalidate a line is still held; the link stays as it is trained (worked case of spec file
06). -/
def execSnoopTimeout (line : Nat) (s : State) : Result :=
  match Tab.find s.pt.held line with
  | none => .next s
  | some t => .next (prstTrigger (advanceTo s (t + 2000000)) 4)

/-! ### Training (R133 to R136, R146) -/

/-- The CXL protocols are negotiated: always asked for, and on an HV6-D only from 32 GT/s (R135, R136). -/
def cxlUp (s : State) (t : LinkTrain) : Bool := t.cxl && (s.sys.fuses.variant = .p || decide (64 ≤ t.rate))

/-- The modules of a set. -/
def modCount (m : BitVec 4) : Nat := ((List.range 4).filter (fun k => m.getLsbD k)).length

/-- A link the HV6 can train (R133, R135): CXL over at least one UCIe module on an HV6-P, a width and rate of PCI Express on an HV6-D. -/
def canTrain (s : State) (t : LinkTrain) : Bool :=
  if s.sys.fuses.variant = .p then t.cxl && t.modules ≠ 0
  else [1, 2, 4].contains t.width && [5, 10, 16, 32, 64, 128].contains t.rate

/-- The rate of the link: 48 GT/s on an HV6-P whose partner die advertises it, otherwise 32 (R133). -/
def trainRate (s : State) (t : LinkTrain) : Nat := if s.sys.fuses.variant = .p then (if t.adv48 then 96 else 64) else t.rate

/-- The link is trained: WIDTH counts the modules in service, and each one that failed training is logged (R134). -/
def linkUp (s : State) (t : LinkTrain) : State :=
  let onP : Bool := s.sys.fuses.variant = .p
  let c := cxlUp s t
  let w := if onP then modCount t.modules else t.width
  let s := { s with pt := { s.pt with trained := true, cxl := c, ide := ideOn s c, width := w, rate := trainRate s t,
                                      modules := if onP then t.modules else 0, sideband := none } }
  (if onP then (List.range 4).filter (fun k => !t.modules.getLsbD k) else []).foldl
    (fun s k => logEv s 0x0031 Status.ok 0x0B k [BitVec.ofNat 8 w]) s

/-- PARTNER_LINK_TRAINED (R146): UP once an image for a partner is applied; held while a teardown runs. -/
def execPartnerLinkTrained (t : LinkTrain) (s : State) : Result :=
  if s.sys.coldLow ∨ s.sys.warmLow ∨ s.pt.st = .hosted ∨ !canTrain s t then .next s
  else if s.pt.st = .teardown ∧ !s.pt.trained then .next { s with pt.sideband := some t }
  else
    let u := linkUp s t
    let ready : Bool := s.pt.st = .down && s.boot.image.isSome && s.boot.stage ≠ .rom && s.boot.stage ≠ .halted
    .next (if ready then { u with pt.st := .up } else u)

/-- UCIE_MODULE_LOST (R134): a module in service is removed; the loss of the last one is a loss of the link. -/
def execUcieModuleLost (m : Nat) (s : State) : Result :=
  if !s.pt.trained ∨ s.sys.fuses.variant ≠ .p ∨ 4 ≤ m ∨ !s.pt.modules.getLsbD m then .next s
  else
    let left := s.pt.modules &&& ~~~(BitVec.ofNat 4 (2 ^ m))
    let w := modCount left
    let s := logEv { s with pt := { s.pt with width := w, modules := left } } 0x0031 Status.ok 0x0B m [BitVec.ofNat 8 w]
    if w = 0 then .next (linkTrigger s 1) else .next s

/-! ### The heartbeat (R142) -/

/-- A write of TN_PARTNER_HB. -/
def hbWrite (s : State) (w : RegWr) (eff : State) : Result :=
  if !windowLive s then .next s
  else .next (checked s (regAddr s 0x0B 0x304) none w
    [(noRsv w 0xFFFFFFFC, Status.badField), (decide (modeOf s = .p), Status.notPermitted)] eff)

/-- PARTNER_HB_ARM (R142): ARM = 1 arms the timer and counts as a BEAT. -/
def execPartnerHbArm (w : RegWr) (s : State) : Result :=
  if w.full ∧ !bitN w.data.toNat 1 then .next s else hbWrite s w { s with pt.hbArmed := true, pt.hbAt := s.sys.now }

/-- PARTNER_HB_BEAT (R142): BEAT = 1 without ARM restarts an armed timer. -/
def execPartnerHbBeat (w : RegWr) (s : State) : Result :=
  if w.full ∧ (bitN w.data.toNat 1 ∨ !bitN w.data.toNat 0) then .next s
  else hbWrite s w (if s.pt.hbArmed then { s with pt.hbAt := s.sys.now } else s)

/-- PARTNER_HB_DISARM (R142): ARM = 0 and BEAT = 0. -/
def execPartnerHbDisarm (w : RegWr) (s : State) : Result :=
  if w.full ∧ (bitN w.data.toNat 1 ∨ bitN w.data.toNat 0) then .next s else hbWrite s w { s with pt.hbArmed := false }

/-- PARTNER_HB_EXPIRY (R142): 10 ms after the last BEAT. -/
def execPartnerHbExpiry (s : State) : Result :=
  if !s.pt.hbArmed then .next s
  else .next (prstTrigger { advanceTo s (s.pt.hbAt + 10000000) with pt.hbArmed := false } 3)

/-! ### Teardown (R144 to R146, R220, R306, R132, R289) -/

/-- The host-link mailbox returns to IDLE, whoever wrote the request it holds; MCTP requests are not in it (R132). -/
def mbxTeardown (s : State) : State :=
  let own (r : MbxReq) : Bool := r.origin ≠ .mctp
  let drop := s.mbx.waiting.any own
  let run : Bool := match s.mbx.running with | some r => own r | none => false
  { s with mbx := { s.mbx with st := .idle, status := 0, rsp := if s.mbx.st = .done then [] else s.mbx.rsp,
                               lost := s.mbx.lost || drop || run || s.mbx.st = .done,
                               waiting := s.mbx.waiting.filter (fun r => !own r),
                               running := s.mbx.running.map (fun r => if own r then { r with discard := true } else r) } }

/-- The partner-facing device-wide registers return to their reset values (R11, R128, R401). -/
def partnerRegs (s : State) : State :=
  let s := { s with vp := { Vapen.reset with tvalid := s.vp.tvalid, gen := s.vp.gen, layout := s.vp.layout, table := s.vp.table },
                    intr := { stat := s.intr.stat &&& 0x20, en := 0 } }
  resetRegs s (fun k => k = regKey 0x0B 0x588)

/-- The overflow extents of this device are gone and CV_OVF_LEN returns to 0 (R144 step 8, R45). -/
def ovfTeardown (s : State) : State :=
  let had := getReg s 0x0A 8
  let s := resetRegs s (fun k => k / 2 ^ 20 = 0x0A)
  let mine (x : Extent) : Bool := x.plot = 0x80 + s.basin.slot
  let s := { s with cv := Culvert.reset, basin.map.ovf := Tab.del s.basin.map.ovf s.basin.slot,
                    allocs := Tab.map (fun _ a => { a with extents := a.extents.filter (fun x => !mine x) }) s.allocs }
  if had = 0 then s else emit s (.ovfLength 0)

/-- A host-link debugger is detached (R357). -/
def dbgTeardown (s : State) : State := if s.fw.dbg.src = some 0 then detach s else s

/-! ### Coherence (R138 to R140) -/

/-- PARTNER_SNOOP (R139): the HV6 answers; a partner store that the snoop cleared the way for reaches partner memory. -/
def execPartnerSnoop (line : Nat) (store : Option Bytes) (s : State) : Result :=
  if !partnerLive s then .next s
  else
    let s := match store with | some b => { s with pmem := Mem.write s.pmem (64 * line) (fit 64 b) } | none => s
    .next (emit s (.snoopRsp line))

/-- Bytes of the HDM window: the plot, or none on a manager-capable device and in H-mode (R138). -/
def hdmLen (s : State) : Nat := if modeOf s = .h ∨ roleCap s = 2 then 0 else s.boot.plotGranules * gran64

/-- Forwards a partner write of a mirrored plot; `none` while it has no MIRROR queue pair (R20, R138). -/
def hdmForward (s : State) (off : Nat) (b : Bytes) (who : Waiter) : Option State :=
  (mirrorQp s).map (fun m => queueReq s m 1 b.length (s.basin.plot * 2 ^ 48 + off) 0 0 false 0 0 [] (.bytes b) who)

/-- Serves a partner access, or keeps it: at a line that is held (R139), or while a mirrored plot cannot forward it. `stored` says that
the own copy of a write is made already. -/
def hdmServe (s : State) (a : HdmAcc) (stored : Bool) : State :=
  let keep (s : State) (stored : Bool) : State := { s with pt.hdmHeld := s.pt.hdmHeld ++ [(a, stored)] }
  match a with
  | .read o n =>
    if (linesOf o n).any (fun x => Tab.has s.pt.held x) then keep s false
    else
      let own := (linesOf o n).filter (fun x => !s.pt.owned.contains x)
      emit { s with pt.owned := s.pt.owned ++ own } (.hdmData (plotRead s o n))
  | .write o d =>
    if stored then (if mirrored s then (hdmForward s o d .nobody).getD (keep s true) else s)
    else if (linesOf o d.length).any (fun x => Tab.has s.pt.held x) then keep s false
    else if s.basin.mirrorOf ≠ 0 then emit s (.hdmDone true)
    else
      let t := { s with plot := Mem.write s.plot o d }
      if !mirrored s then emit t (.hdmDone false)
      else (hdmForward t o d .hdm).getD (keep s false)

/-- Every partner access that waits is tried again, in order. -/
def hdmRetry (s : State) : State := s.pt.hdmHeld.foldl (fun s x => hdmServe s x.1 x.2) { s with pt.hdmHeld := [] }

/-- Data the partner's cache held is written back: the own copy at once, its mirror's once it can be forwarded (R20, R139). -/
def writeBack (s : State) (line : Nat) (b : Bytes) : State :=
  if s.basin.mirrorOf ≠ 0 then s
  else hdmServe { s with plot := Mem.write s.plot (64 * line) b } (.write (64 * line) b) true

/-- BACK_INVALIDATE_ANSWER (R139): dirty data is written back, and the accesses held on the line proceed. -/
def execBackInvalidateAnswer (line : Nat) (dirty : Option Bytes) (s : State) : Result :=
  if !Tab.has s.pt.held line then .next s
  else
    let s := match dirty with
      | some b => writeBack s line (fit 64 b)
      | none => s
    .next (rxRelease (hdmRetry { s with pt.held := Tab.del s.pt.held line, pt.owned := s.pt.owned.filter (· ≠ line) }))

/-- HDM_ACCESS (R138): checked only against the window; an access to a held line waits (R139). -/
def execHdmAccess (a : HdmAcc) (s : State) : Result :=
  let off := match a with | .read o _ => o | .write o _ => o
  let len := match a with | .read _ n => n | .write _ d => d.length
  if !partnerLive s ∨ hdmLen s < off + len then .next s else .next (hdmServe s a false)

/-- Accesses that step 3 spared, held under R139, end when step 7 releases them (R220). -/
def endHeld (s : State) (f : Nat → Bool) : State := tdEntries (endEntries s f Status.partnerReset (fun _ _ => false)) f true

/-- One step of R144 for the partner-side instances. -/
def tdStepOf (s : State) (n : Nat) : State :=
  let f := isPartner s
  if n = 3 then endWork s f Status.partnerReset true
  else if n = 4 then cvEnd (dbgTeardown (freeGroups s f)) (fun _ => true) Status.partnerReset
  else if n = 5 then freeCounters (applyOwed s f) f Status.partnerReset
  else if n = 6 then dropGrants s f
  else if n = 7 then
    rxRelease (hdmRetry (endHeld { s with pt.held := [], pt.owned := [], pieces := s.pieces.filter (fun p => !p.ats), ats := [] } f))
  else if n = 8 then ovfTeardown s
  else if n = 9 then
    recordFeat (mbxTeardown (partnerRegs { s with feat := featClear s.feat, pt.ide := false, pt.ideKeys := [] }))
  else if n = 10 then destroyInsts s f true true
  else s

/-- A step whose completion entries wait stays: step 3 for translations, while no line is held; step 7 for every one. -/
def tdStays (s : State) (n : Nat) : Bool :=
  ((n = 3 && s.pt.held.isEmpty) || n = 7) && tdOpen s (isPartner s)

/-- The teardown is over (R144, R146): UP if the link is trained, otherwise DOWN; a training held meanwhile completes. -/
def teardownOver (s : State) : State :=
  let s := { s with pt.tdStep := 0, pt.tdWait := false }
  match s.pt.sideband with
  | some t => let u := linkUp s t; { u with pt.st := .up }
  | none => { s with pt.st := if s.pt.trained then .up else .down }

/-- Runs the next step, or what remains of one whose completion entries waited (R144, R146). -/
def teardownStep (s : State) : State :=
  if s.pt.st ≠ .teardown then s
  else
    let n := s.pt.tdStep
    let s := if n = 1 then endSessions s (fun t => t = .mctpPcie || t = .doe) else s
    let s := if s.pt.tdWait then tdEntries s (isPartner s) true else tdStepOf s n
    if tdStays s n then { s with pt.tdWait := true }
    else if n < 10 then { s with pt.tdStep := n + 1, pt.tdWait := false }
    else teardownOver s

/-! ### A new plot map (R18) -/

/-- PLOT_MAP_FETCHED (R18): a map of the present epoch is adopted, and held requests proceed; fetched again at one epoch it brings
the overflow windows reported since (R151). -/
def execPlotMapFetched (m : PlotMap) (s : State) : Result :=
  if m.epoch < s.basin.map.epoch ∨ m.epoch < s.basin.epoch then .next s else .next (rxRelease (adoptMap s m))

/-! ### Lost parts (R38, R154, R202, R244) -/

/-- The lowest Tender core of a set. -/
def lowestCore (c : BitVec 4) : Option Nat := (List.range 4).find? (fun n => c.getLsbD n)

/-- TENDER_CORE_FAIL (R154): a single-part fault; in H-mode the partner role moves to the lowest surviving core. -/
def execTenderCoreFail (core : Nat) (s : State) : Result :=
  if s.sys.coldLow ∨ !s.pt.cores.getLsbD core then .next s
  else
    let cores := s.pt.cores &&& ~~~(BitVec.ofNat 4 (2 ^ core))
    let s := openOwnWin (logEv { s with pt.cores := cores } 0x0003 Status.ok 0x0B core [])
    match lowestCore cores with
    | some n => if modeOf s = .h ∧ s.pt.core = core then .next (logEv { s with pt.core := n } 0x0033 Status.ok 0x0B n []) else .next s
    | none => .next s

/-- The copies of a record that a stack held: first, second (R202). -/
def copyOn (stack kind idx : Nat) : Bool × Bool :=
  let c := Config.copyStack kind idx
  (c.1 % 8 = stack, (c.1 + 1 + c.2 % 7) % 8 = stack)

/-- Marks the lost copies of every record; a counter or launch whose copies are both lost fails (R202, R305). -/
def loseCopies (s : State) (n : Nat) : State :=
  let s := { s with
    spans := Tab.map (fun k (x : Span) => { x with bad1 := x.bad1 || (copyOn n 1 k).1, bad2 := x.bad2 || (copyOn n 1 k).2 }) s.spans,
    keys := Tab.map (fun k (x : Key) => { x with bad1 := x.bad1 || (copyOn n 2 k).1, bad2 := x.bad2 || (copyOn n 2 k).2 }) s.keys,
    sy := Tab.map (fun k (x : SyCnt) => { x with bad1 := x.bad1 || (copyOn n 5 k).1, bad2 := x.bad2 || (copyOn n 5 k).2 }) s.sy,
    cbs := Tab.map (fun k (x : CbSlot) => { x with bad1 := x.bad1 || (copyOn n 9 k).1, bad2 := x.bad2 || (copyOn n 9 k).2 }) s.cbs,
    qps := Tab.map (fun k (x : Qp) => { x with bad1 := x.bad1 || (copyOn n 3 k).1, bad2 := x.bad2 || (copyOn n 3 k).2 }) s.qps }
  s.sy.foldl (fun s p =>
    if p.2.bad1 && p.2.bad2 && !p.2.poison then
      releaseWaiters (logCorrupt (putCnt s p.1 { p.2 with poison := true }) 0x06 5 p.1) p.1 p.2.value
    else s) s

/-- STACK_LOST (R244): records are served from their other copies; an unpaired plot loses what the stack held, a paired
primary reports its plot lost. -/
def execStackLost (n : Nat) (s : State) : Result :=
  if s.sys.coldLow ∨ !(s.boot.hbmInService &&& ~~~s.stacksLost).getLsbD n then .next s
  else
    let s := { s with stacksLost := s.stacksLost ||| BitVec.ofNat 8 (2 ^ n) }
    let s := loseCopies (openOwnWin (logEv s 0x0051 Status.ok 0x0B n [])) n
    if s.basin.plot = 0 ∨ s.basin.mirrorOf ≠ 0 then .next s
    else if s.basin.paired then .next (emit s (.plotLost s.basin.plot))
    else .next (voidGuarantee s 2)

end Sys2Proof.Machine
end

