-- ==== Sys2Proof/Machine/Instances.lean ====
section
/-!
DEFINITION. The instance commands: create, modify, destroy, query (spec file 17, R375 to R391).
-/
namespace Sys2Proof.Machine

/-! ### Requesters and replies (R375, R376, R387) -/

/-- The reply to an instance command. -/
def instReply (s : State) (v : InstVia) (code : Nat) (st : Byte) (data : Bytes) : State :=
  match v with
  | .mailbox => mbxDone s st data
  | .manager k tag _ =>
    match Tab.find s.spdm.sess k with
    | none => s
    | some x => spdmSay s x.tr (.vendor k (putBE 1 (code - 0x50) ++ [st] ++ putBE 2 (8 + data.length) ++ putBE 4 tag ++ data))

/-- What arrived: nothing that runs now, a refusal, or the parameters with their requester. -/
inductive InstCmd where
  | idle
  | fail (st : Byte)
  | run (src : Src) (p : Bytes)
  deriving DecidableEq, Repr

/-- The parameters of a command: the running mailbox command's, or a message of the active manager's qualifying session
(R273, R286), held to the same length and to feature bit 28 (R389). -/
def instCmd (s : State) (v : InstVia) (code len : Nat) : InstCmd :=
  match v with
  | .mailbox => (match mbxIs s code with | some r => .run (mbxSrc r) r.params | none => .idle)
  | .manager k _ p =>
    if !windowLive s then .idle
    else match qualSess s (some k) with
      | none => .fail Status.attestRequired
      | some x =>
        if !fromManager s x then .fail Status.notPermitted
        else if p.length ≠ len then .fail Status.badField
        else if !offered s 28 then .fail Status.featureNotNegotiated
        else .run .mctp p

/-- A command with its ordered checks (R389). -/
def instRun (v : InstVia) (code len : Nat) (s : State) (k : Src → Bytes → State → State) : Result :=
  match instCmd s v code len with
  | .idle => .next s
  | .fail st => .next (instReply s v code st [])
  | .run src p => .next (k src p s)

/-- The class of an instance matches the requester; a FREE one has none (R389 check 3). -/
def mayAct (s : State) (src : Src) (n : Nat) : Bool := match Tab.find s.insts n with | some i => srcMay src i.cls | none => true

/-! ### The instance record (R390) -/

/-- HBM_USED (R377). -/
def hbmUsedGran (s : State) (n : Nat) : Nat := (((hbmUsed s n).map (fun r => r.1 + r.2)).foldl max 0 + gran64 - 1) / gran64

/-- The 64-byte grant record. -/
def grantRec (s : State) (n : Nat) (i : Inst) : Bytes :=
  let cls : Byte := match i.cls with | .partner => 1 | .manager => 2
  putLE 2 n ++ [cls, if i.destroying.isSome then 2 else 1] ++ putLE 4 (64 * i.qpBase) ++ putLE 4 (64 * i.wqBase) ++ putLE 4 (64 * i.cqBase)
    ++ putLE 4 (64 * i.syBase) ++ putLE 4 i.pushBase ++ putLE 4 (64 * i.spanBase) ++ putLE 4 (64 * i.keyBase) ++ putLE 2 i.cbBase
    ++ putLE 2 i.grpBase ++ putLE 4 (hbmUsedGran s n) ++ zeros 24

/-- The 64-byte parameter block with the values in force. -/
def paramRec (n : Nat) (i : Inst) : Bytes :=
  let cls : Byte := match i.cls with | .partner => 1 | .manager => 2
  putLE 2 n ++ [cls, BitVec.ofNat 8 i.weight] ++ putLE 4 i.pasid ++ putLE 2 i.qpBlk ++ putLE 2 i.wqBlk ++ putLE 2 i.cqBlk
    ++ putLE 2 i.syBlk ++ putLE 4 i.push ++ putLE 4 i.spanBlk ++ putLE 4 i.keyBlk ++ putLE 2 i.cb ++ putLE 2 i.groups
    ++ putLE 2 i.fwSlots ++ putLE 2 i.fwResv ++ putLE 4 i.gran.length ++ putLE 2 i.accRate ++ putLE 2 i.txRate ++ putLE 2 i.txBurst
    ++ putLE 2 i.cmdRate ++ zeros 16

/-- The 128-byte instance record; a FREE instance's is all zero. -/
def instRec (s : State) (n : Nat) : Bytes :=
  match Tab.find s.insts n with | none => zeros 128 | some i => grantRec s n i ++ paramRec n i

/-! ### INST_CREATE (R387, R389) -/

/-- Check 1: every field of the parameter block in its range. -/
def createFields (s : State) (p : Bytes) : Bool :=
  let n := getLE p 0 2
  let cls := getLE p 2 1
  (n = 0xFFFF || (decide (1 ≤ n) && decide (n < instMax s))) && (cls = 1 || cls = 2) && decide (1 ≤ getLE p 3 1)
    && decide (getLE p 4 4 < 2 ^ 20) && (cls = 1 || getLE p 4 4 = 0)
    && decide (getLE p 8 2 ≤ 4096) && decide (getLE p 10 2 ≤ 8192) && decide (getLE p 12 2 ≤ 1024) && decide (getLE p 14 2 ≤ 256)
    && decide (getLE p 16 4 ≤ 65536) && decide (getLE p 20 4 ≤ 16384) && decide (getLE p 24 4 ≤ 65536)
    && decide (getLE p 28 2 ≤ 256) && decide (getLE p 30 2 ≤ 64) && decide (getLE p 32 2 ≤ 768)
    && decide (getLE p 34 2 ≤ getLE p 32 2) && decide (getLE p 40 2 ≤ 6250) && decide (getLE p 42 2 ≤ 12800)
    && decide (8 ≤ getLE p 44 2) && decide (getLE p 44 2 ≤ 1024) && decide (getLE p 46 2 ≤ 1000) && zeroIn p 48 16

/-- The lowest FREE instance. -/
def lowestInst (s : State) : Option Nat := (List.range (instMax s)).find? (fun n => n ≠ 0 && !Tab.has s.insts n)

/-- A range of a resource, base 0 where nothing is asked for (R377). -/
def rangeFor (t : Tab Nat) (n lo limit : Nat) : Option Nat := if n = 0 then some 0 else lowestGap t n lo limit

/-- Blocks of 64 below a limit; the last may be partial. -/
def blocks64 (n : Nat) : Nat := (n + 63) / 64

/-- Free granules of the pool, lowest first. -/
def freeGran (s : State) : List Nat :=
  (List.range (poolGranules s)).filter (fun g => s.insts.all (fun x => !x.2.gran.contains g))

/-- Key indices, the one freed earliest first (R209). -/
def freedFirst (t : Tab Key) : List Nat := (sortBy (fun a b => decide (a.2.freedAt ≤ b.2.freedAt)) t).map (·.1)

/-- The instance that a parameter block describes with every grant, or nothing where one is not available (R377, R389
check 5). -/
def layInst (s : State) (p : Bytes) (via : IClass) : Option Inst := do
  let o := s.own
  let qp ← rangeFor o.qp (getLE p 8 2) 0 (blocks64 (qpMax s))
  let wq ← rangeFor o.wq (getLE p 10 2) 0 (blocks64 (dbCount s))
  let cq ← rangeFor o.cq (getLE p 12 2) 0 (blocks64 (cqMax s))
  let sy ← rangeFor o.sy (getLE p 14 2) 0 (blocks64 (synkoMax s))
  let pu ← rangeFor o.push (getLE p 16 4) 0 (pushCount s)
  let sp ← rangeFor o.span (getLE p 20 4) 0 (blocks64 (spanMax s))
  let ke ← rangeFor o.key (getLE p 24 4) 1 (blocks64 (keyMax s))
  let cb ← rangeFor o.cb (getLE p 28 2) 0 (cbSlots s)
  let gr ← rangeFor o.grp (getLE p 30 2) 0 4096
  let free := (freeGran s).take (getLE p 36 4)
  if free.length < getLE p 36 4 ∨ slotsInService s < (s.insts.map (fun x => x.2.fwResv)).sum + getLE p 34 2 then none
  else some { cls := via, destroying := none, turn := 0, txTurn := [], weight := getLE p 3 1, pasid := getLE p 4 4, qpBase := qp, qpBlk := getLE p 8 2,
              wqBase := wq, wqBlk := getLE p 10 2, cqBase := cq, cqBlk := getLE p 12 2, syBase := sy, syBlk := getLE p 14 2,
              pushBase := pu, push := getLE p 16 4, spanBase := sp, spanBlk := getLE p 20 4, keyBase := ke, keyBlk := getLE p 24 4,
              cbBase := cb, cb := getLE p 28 2, grpBase := gr, groups := getLE p 30 2, fwSlots := getLE p 32 2, fwResv := getLE p 34 2,
              gran := free, accRate := getLE p 40 2, txRate := getLE p 42 2, txBurst := getLE p 44 2, cmdRate := getLE p 46 2,
              accTok := 2560000, accAt := s.sys.now, txTok := 8192 * getLE p 44 2, txAt := s.sys.now, cmdTok := 16000000,
              cmdAt := s.sys.now, resv := [], stats := [],
              freeKeys := freedFirst (s.keys.filter (fun k => decide (ke ≤ k.1 / 64 ∧ k.1 / 64 < ke + getLE p 24 4))) }

/-- Records an instance with its grants. -/
def grantInst (s : State) (n : Nat) (i : Inst) : State :=
  let o := s.own
  { s with insts := Tab.put s.insts n i,
           own := { qp := grantRange n i.qpBase i.qpBlk o.qp, wq := grantRange n i.wqBase i.wqBlk o.wq,
                    cq := grantRange n i.cqBase i.cqBlk o.cq, sy := grantRange n i.syBase i.syBlk o.sy,
                    push := grantRange n i.pushBase i.push o.push, span := grantRange n i.spanBase i.spanBlk o.span,
                    key := grantRange n i.keyBase i.keyBlk o.key, cb := grantRange n i.cbBase i.cb o.cb,
                    grp := grantRange n i.grpBase i.groups o.grp } }

/-- Checks 2 to 4 of R389 on INST_CREATE. -/
def instCreateChecks (s : State) (src : Src) (p : Bytes) : List (Bool × Byte) :=
  let n := getLE p 0 2
  let cls : IClass := if getLE p 2 1 = 1 then .partner else .manager
  let pasid := getLE p 4 4
  [(createFields s p, Status.badField),
   ((getLE p 40 2 = 0 && getLE p 42 2 = 0 && getLE p 46 2 = 0) || srcHas s src 29, Status.featureNotNegotiated),
   (srcMay src cls, Status.notPermitted),
   ((n = 0xFFFF || !Tab.has s.insts n) && (pasid = 0 || s.insts.all (fun x => x.2.pasid ≠ pasid))
      && (cls = .manager || s.pt.st = .up), Status.busy)]

/-- INST_CREATE (R387): every grant or none. -/
def execInstCreate (v : InstVia) (s : State) : Result :=
  instRun v 0x60 64 s fun src p s =>
    let out (st : Byte) (d : Bytes) (s : State) : State := instReply s v 0x60 st d
    match firstFail (instCreateChecks s src p) with
    | some st => out st [] s
    | none =>
      let n := if getLE p 0 2 = 0xFFFF then lowestInst s else some (getLE p 0 2)
      match n, layInst s p (if getLE p 2 1 = 1 then .partner else .manager) with
      | some n, some i => out Status.ok (grantRec s n i) (grantInst s n i)
      | _, _ => out Status.noResource [] s

/-! ### INST_MODIFY (R388, R385, R389) -/

/-- The value of a field that the MASK bit `b` selects, or the one in force. -/
def pick (p : Bytes) (b off len old : Nat) : Nat := if bitN (getLE p 2 2) b then getLE p off len else old

/-- Check 1 of R389 on INST_MODIFY. -/
def modifyFields (s : State) (p : Bytes) (i : Inst) : Bool :=
  let m := getLE p 2 2
  let sel (b off len lo hi : Nat) : Bool :=
    if bitN m b then decide (lo ≤ getLE p off len) && decide (getLE p off len ≤ hi) else getLE p off len = 0
  decide (getLE p 0 2 < instMax s) && decide (m < 256) && zeroIn p 5 3 && zeroIn p 24 8 && sel 0 4 1 1 255 && sel 1 16 2 0 6250
    && sel 2 18 2 0 12800 && sel 3 20 2 8 1024 && sel 4 22 2 0 1000 && sel 5 8 2 0 768 && sel 6 10 2 0 768 && sel 7 12 4 0 (2 ^ 32 - 1)
    && decide (pick p 6 10 2 i.fwResv ≤ pick p 5 8 2 i.fwSlots) && (getLE p 0 2 ≠ 0 || decide (m ≤ 1))

/-- The instance with the selected fields changed, its buckets filled at the old rates up to now: granules taken lowest first, given back from the end. -/
def modified (s : State) (p : Bytes) (i : Inst) : Inst :=
  let g := pick p 7 12 4 i.gran.length
  { i with accTok := accTokens s i, accAt := s.sys.now, txTok := txTokens s i, txAt := s.sys.now,
           cmdTok := refill i.cmdTok i.cmdAt s.sys.now i.cmdRate 16000000, cmdAt := s.sys.now,
           weight := pick p 0 4 1 i.weight, accRate := pick p 1 16 2 i.accRate, txRate := pick p 2 18 2 i.txRate,
           txBurst := pick p 3 20 2 i.txBurst, cmdRate := pick p 4 22 2 i.cmdRate, fwSlots := pick p 5 8 2 i.fwSlots,
           fwResv := pick p 6 10 2 i.fwResv,
           gran := if g ≤ i.gran.length then i.gran.take g else i.gran ++ (freeGran s).take (g - i.gran.length) }

/-- Checks 2 to 5 of R389 on INST_MODIFY. -/
def modifyChecks (s : State) (src : Src) (p : Bytes) (n : Nat) (i : Inst) : List (Bool × Byte) :=
  let g := pick p 7 12 4 i.gran.length
  let shrinks (b off old use : Nat) : Bool := bitN (getLE p 2 2) b && decide (getLE p off 2 < old) && decide (getLE p off 2 < use)
  [((getLE p 16 2 = 0 && getLE p 18 2 = 0 && getLE p 22 2 = 0) || srcHas s src 29, Status.featureNotNegotiated),
   (mayAct s src n, Status.notPermitted),
   (Tab.has s.insts n && i.destroying.isNone && !shrinks 5 8 i.fwSlots (slotsOf s n) && !shrinks 6 10 i.fwResv (slotsOf s n)
      && decide (hbmUsedGran s n ≤ g), Status.busy),
   (decide (g - i.gran.length ≤ (freeGran s).length)
      && decide ((s.insts.map (fun x => if x.1 = n then 0 else x.2.fwResv)).sum + pick p 6 10 2 i.fwResv ≤ slotsInService s), Status.noResource)]

/-- A FREE instance, as MODIFY's field checks see it. -/
def freeInst : Inst := { inst0 with weight := 0, keyBlk := 0, txBurst := 0 }

/-- INST_MODIFY (R388): the selected fields together, or none. -/
def execInstModify (v : InstVia) (s : State) : Result :=
  instRun v 0x61 32 s fun src p s =>
    let n := getLE p 0 2
    let i := Tab.getD s.insts n freeInst
    match firstFail ((modifyFields s p i, Status.badField) :: modifyChecks s src p n i) with
    | some st => instReply s v 0x61 st []
    | none =>
      let t := { s with insts := Tab.put s.insts n (modified s p i) }
      instReply t v 0x61 Status.ok (instRec t n)

/-! ### INST_DESTROY (R383 to R386) -/

/-- The checks of INST_DESTROY but for the instance's state. -/
def destroyHead (s : State) (src : Src) (p : Bytes) : List (Bool × Byte) :=
  let n := getLE p 0 2
  [(decide (n < instMax s) && n ≠ 0 && decide (getLE p 2 1 ≤ 1) && zeroIn p 3 13, Status.badField), (mayAct s src n, Status.notPermitted)]

/-- Nothing of the instance is in place (R383). -/
def instIdle (s : State) (n : Nat) : Bool :=
  s.wqs.all (fun x => x.2.inst ≠ n) && s.cqs.all (fun x => x.2.inst ≠ n) && s.groups.all (fun x => x.2.inst ≠ n)
    && s.qps.all (fun x => x.2.inst ≠ n || x.2.kind ≠ .rc || x.2.st = .free) && slotsOf s n = 0
    && (List.range 64).all (fun k => poolInst s k ≠ n || poolIdle s k)

/-- The instance exists and no destroy runs. -/
def instActive (s : State) (n : Nat) : Bool := match Tab.find s.insts n with | some i => i.destroying.isNone | none => false

/-- INST_DESTROY with FORCE = 0 (R383). -/
def execInstDestroyGraceful (v : InstVia) (s : State) : Result :=
  instRun v 0x62 16 s fun src p s =>
    let n := getLE p 0 2
    let f (k : Nat) : Bool := k = n
    if bitN (getLE p 2 1) 0 then s
    else match firstFail (destroyHead s src p ++ [(instActive s n && instIdle s n, Status.busy)]) with
      | some st => instReply s v 0x62 st []
      | none => instReply (destroyInsts (dropGrants (freeCounters (cvClear s f) f Status.flushed) f) f false false) v 0x62 Status.ok []

/-- Steps 4 to 7 of R384, once the completion entries of step 3 are written and the accepted Culvert transfers are complete. -/
def forceRest (s : State) (v : InstVia) (n : Nat) : State :=
  let f (k : Nat) : Bool := k = n
  let s := tdEntries (cvRun s f) f false
  if cvOpen s f ∨ tdOpen s f then s
  else
    let s := cvClear (applyOwed s f) f
    rxRelease (instReply (destroyInsts (dropGrants (freeCounters s f Status.flushed) f) f false true) v 0x62 Status.ok [])

/-- Steps 1 to 4 of R384: acceptance stops, accepted work ends, Furrow groups are freed. -/
def forceStart (s : State) (v : InstVia) (n : Nat) : State :=
  let f (k : Nat) : Bool := k = n
  freeGroups (endWork { s with insts := Tab.modify s.insts n (fun i => { i with destroying := some v }) } f Status.flushed false) f

/-- INST_DESTROY with FORCE = 1 (R384); while a completion entry is held or a Culvert transfer is outstanding the row is taken again. -/
def execInstDestroyForce (v : InstVia) (s : State) : Result :=
  instRun v 0x62 16 s fun src p s =>
    let n := getLE p 0 2
    if !bitN (getLE p 2 1) 0 then s
    else if ((Tab.find s.insts n).bind (·.destroying)) = some v then forceRest s v n
    else match firstFail (destroyHead s src p ++ [(instActive s n, Status.busy)]) with
      | some st => instReply s v 0x62 st []
      | none => forceRest (forceStart s v n) v n

/-! ### INST_QUERY (R388, R390) -/

/-- INST_QUERY (R388). -/
def execInstQuery (v : InstVia) (s : State) : Result :=
  instRun v 0x63 16 s fun src p s =>
    let n := getLE p 0 2
    match firstFail [(decide (n < instMax s) && zeroIn p 2 14, Status.badField), (mayAct s src n, Status.notPermitted)] with
    | some st => instReply s v 0x63 st []
    | none => instReply s v 0x63 Status.ok (instRec s n)

end Sys2Proof.Machine
end

