-- ==== Sys2Proof/Machine/Isa.lean ====
section
/-!
DEFINITION. Furrow's instructions, one meaning each (R344 to R347, R371).
-/
namespace Sys2Proof.Machine

/-! ### Moves (R344) -/

/-- NOP; it also issues an undefined opcode, which traps (R343). -/
def execFwNop (core slot : Nat) (s : State) : Result := issue core slot 0x00 s fun _ s t => .go s t

/-- MOVI (R344). -/
def execMovi (core slot : Nat) (s : State) : Result :=
  laneOp core slot 0x01 s fun c _ _ => intBits 32 c.x.simm

/-- MOVU (R344). -/
def execMovu (core slot : Nat) (s : State) : Result :=
  laneOp core slot 0x02 s fun c t _ => t.ur c.x.a / 2 ^ (32 * c.x.md) % 2 ^ 32

/-- MOVS (R344). -/
def execMovs (core slot : Nat) (s : State) : Result :=
  issue core slot 0x03 s fun c s t =>
    if 4 < c.x.imm then .trap s Status.badField 0 allLanes
    else .go s (t.setV c.x.d c.mask fun k =>
      if c.x.imm = 0 then k else if c.x.imm = 1 then t.index else if c.x.imm = 2 then c.k / 16 else if c.x.imm = 3 then c.k % 16
      else s.sys.now % 2 ^ 32)

/-- UMOV (R344). -/
def execUmov (core slot : Nat) (s : State) : Result :=
  issue core slot 0x04 s fun c s t =>
    let v : Nat := if c.x.md = 0 then intBits 64 c.x.simm
      else if c.x.md = 1 then intBits 64 (t.ur c.x.a + c.x.simm)
      else if c.x.md = 2 then t.ur c.x.d / 2 ^ 32 * 2 ^ 32 + t.vr c.x.a 0
      else t.ur c.x.d % 2 ^ 32 + t.vr c.x.a 0 * 2 ^ 32
    .go s (t.setU c.x.d v)

/-! ### Integers (R344) -/

/-- A binary lane operation on v[A] and v[B]. -/
def lane2 (core slot op : Nat) (s : State) (f : Ins → Nat → Nat → Nat) : Result :=
  laneOp core slot op s fun c t k => f c.x (t.vr c.x.a k) (t.vr c.x.b k)

/-- IADD (R344). -/
def execIadd (core slot : Nat) (s : State) : Result := lane2 core slot 0x10 s fun _ a b => a + b
/-- ISUB (R344). -/
def execIsub (core slot : Nat) (s : State) : Result := lane2 core slot 0x11 s fun _ a b => a + (2 ^ 32 - b)
/-- IMUL (R344). -/
def execImul (core slot : Nat) (s : State) : Result := lane2 core slot 0x12 s fun _ a b => a * b
/-- IMAD (R344). -/
def execImad (core slot : Nat) (s : State) : Result :=
  laneOp core slot 0x13 s fun c t k => t.vr c.x.a k * t.vr c.x.b k + t.vr c.x.c k
/-- AND (R344). -/
def execAnd (core slot : Nat) (s : State) : Result := lane2 core slot 0x14 s fun _ a b => a &&& b
/-- OR (R344). -/
def execOr (core slot : Nat) (s : State) : Result := lane2 core slot 0x15 s fun _ a b => a ||| b
/-- XOR (R344). -/
def execXor (core slot : Nat) (s : State) : Result := lane2 core slot 0x16 s fun _ a b => a ^^^ b
/-- SHL (R344). -/
def execShl (core slot : Nat) (s : State) : Result := lane2 core slot 0x17 s fun _ a b => a * 2 ^ (b % 32)
/-- SHR (R344). -/
def execShr (core slot : Nat) (s : State) : Result := lane2 core slot 0x18 s fun _ a b => a / 2 ^ (b % 32)
/-- SAR (R344). -/
def execSar (core slot : Nat) (s : State) : Result := lane2 core slot 0x19 s fun _ a b => intBits 32 (sInt a / 2 ^ (b % 32))

/-- `a < b`, unsigned or two's complement. -/
def ltW (uns : Bool) (a b : Nat) : Bool := if uns then decide (a < b) else decide (sInt a < sInt b)

/-- IMIN: MOD bit 0 unsigned (R344). -/
def execImin (core slot : Nat) (s : State) : Result :=
  lane2 core slot 0x1A s fun x a b => if ltW (x.md = 1) b a then b else a
/-- IMAX: MOD bit 0 unsigned (R344). -/
def execImax (core slot : Nat) (s : State) : Result :=
  lane2 core slot 0x1B s fun x a b => if ltW (x.md = 1) a b then b else a

/-- A condition code on the results of a comparison: EQ, NE, LT, LE, GT, GE. -/
def condOf (code : Nat) (lt eq : Bool) : Bool :=
  if code = 0 then eq else if code = 1 then !eq else if code = 2 then lt else if code = 3 then lt || eq
  else if code = 4 then !lt && !eq else !lt

/-- ICMP: MOD bits 2 to 0 the condition, bit 3 unsigned (R344). -/
def execIcmp (core slot : Nat) (s : State) : Result :=
  cmpOp core slot 0x1C s fun c t k =>
    let a := t.vr c.x.a k
    let b := t.vr c.x.b k
    condOf (c.x.md % 8) (ltW (bitN c.x.md 3) a b) (a = b)

/-! ### FP32 (R347) -/

/-- FADD (R344). -/
def execFadd (core slot : Nat) (s : State) : Result := lane2 core slot 0x20 s fun _ a b => add32 a b
/-- FMUL (R344). -/
def execFmul (core slot : Nat) (s : State) : Result := lane2 core slot 0x21 s fun _ a b => mul32 a b
/-- FFMA: one rounding (R344). -/
def execFfma (core slot : Nat) (s : State) : Result :=
  laneOp core slot 0x22 s fun c t k => fma32 (t.vr c.x.a k) (t.vr c.x.b k) (t.vr c.x.c k)
/-- FMIN (R344). -/
def execFmin (core slot : Nat) (s : State) : Result := lane2 core slot 0x23 s fun _ a b => min32 a b
/-- FMAX (R344). -/
def execFmax (core slot : Nat) (s : State) : Result := lane2 core slot 0x24 s fun _ a b => max32 a b

/-- FCMP: a NaN operand gives 0, except for NE (R344). -/
def execFcmp (core slot : Nat) (s : State) : Result :=
  cmpOp core slot 0x25 s fun c t k =>
    let a := of32 (t.vr c.x.a k)
    let b := of32 (t.vr c.x.b k)
    if a = .nan ∨ b = .nan then decide (c.x.md = 1) else condOf c.x.md (fpLt a b) (fpEq a b)

/-- FRCP: correctly rounded (R344). -/
def execFrcp (core slot : Nat) (s : State) : Result :=
  laneOp core slot 0x26 s fun c t k => div32 0x3F800000 (t.vr c.x.a k)

/-- The format codes CVT takes. -/
def cvtCode (f : Nat) : Bool := [1, 2, 3, 4, 5, 9, 10].contains f

/-- CVT (R347). -/
def execCvt (core slot : Nat) (s : State) : Result :=
  issue core slot 0x30 s fun c s t =>
    let f := fld c.x.imm 7 0
    let g := fld c.x.imm 15 8
    let fp8 (n : Nat) : Bool := n = 4 || n = 5
    if !cvtCode f ∨ !cvtCode g then .trap s Status.badField 0 allLanes
    else if (fp8 f ∨ fp8 g) ∧ !instHas s c.l.inst 17 then .trap s Status.featureNotNegotiated 0 allLanes
    else .go s (t.setV c.x.d c.mask fun k => toFmt g (bitN c.x.imm 16) (ofFmt f (t.vr c.x.a k)))

/-! ### MX blocks and codebooks (R344, R347, R371) -/

/-- The format code of an MX instruction's MOD. -/
def mxOf (md : Nat) : Nat := 6 + md

/-- The checks of MXUNPK and MXPACK: feature 16, and a block inside the local window. -/
def onBlock (c : FwCtx) (s : State) (t : Tg) (k : Nat → Nat → Fx) : Fx :=
  let f := mxOf c.x.md
  let a := (t.ur c.x.a + fld c.x.imm 15 0) % 2 ^ 64
  if !instHas s c.l.inst 16 then .trap s Status.featureNotNegotiated 0 allLanes
  else if c.mask = 0 then .go s t
  else if c.l.localBytes < a + mxBytes f then .trap s Status.bounds a allLanes
  else k f a

/-- MXUNPK (R344). -/
def execMxunpk (core slot : Nat) (s : State) : Result :=
  issue core slot 0x31 s fun c s t => onBlock c s t fun f a =>
    let w := mxUnpack f (Mem.read t.localMem a (mxBytes f))
    .go s (t.setV c.x.d c.mask fun k => w.getD k 0)

/-- MXPACK: one block of the 32 lanes (R344). -/
def execMxpack (core slot : Nat) (s : State) : Result :=
  issue core slot 0x32 s fun c s t => onBlock c s t fun f a =>
    let b := mxPack f ((List.range 32).map fun k => of32 (t.vr c.x.b k))
    .go s { t with localMem := Mem.write t.localMem a b }

/-- The codebook an instruction's MOD names (R371). -/
def cbOf (c : FwCtx) (s : State) : Option CbSlot := (c.l.cbs[c.x.md]?).bind (Tab.find s.cbs)

/-- The lanes of a mask where a test fails. -/
def badLanes (mask : Nat) (ok : Nat → Bool) : List Nat := (lanesIn mask).filter (fun k => !ok k)

/-- A list of lanes as a mask. -/
def maskOf (l : List Nat) : Nat := (l.map (2 ^ ·)).sum

/-- `n` free values for the lanes of one instruction (assumption 3). -/
def freeLane (s : State) (k : Nat) : Nat := (Config.free (s.sys.freeCtr + k)).toNat

/-- VQDEC. A slot that an uncorrectable error has poisoned gives free values (R344, R371). -/
def execVqdec (core slot : Nat) (s : State) : Result :=
  issue core slot 0x38 s fun c s t =>
    match cbOf c s with
    | none => .trap s Status.badField 0 allLanes
    | some cb =>
      let e := fld c.x.imm 3 0
      let bad := badLanes c.mask (fun k => decide (t.vr c.x.a k < cb.entries))
      if cb.vlen ≤ e then .trap s Status.badField 0 allLanes
      else if bad ≠ [] then .trap s Status.bounds 0 (maskOf bad)
      else if cb.st = .loaded then .go s (t.setV c.x.d c.mask fun k => cbElem cb (t.vr c.x.a k) e)
      else .go { s with sys.freeCtr := s.sys.freeCtr + 32 } (t.setV c.x.d c.mask (freeLane s))

/-- VQENC (R344, R371). -/
def execVqenc (core slot : Nat) (s : State) : Result :=
  issue core slot 0x39 s fun c s t =>
    match cbOf c s with
    | none => .trap s Status.badField 0 allLanes
    | some cb =>
      if 32 < c.x.a + cb.vlen then .trap s Status.badField 0 allLanes
      else if cb.st = .loaded then
        .go s (t.setV c.x.d c.mask fun k => nearest cb ((List.range cb.vlen).map fun j => t.vr (c.x.a + j) k))
      else .go { s with sys.freeCtr := s.sys.freeCtr + 32 } (t.setV c.x.d c.mask (freeLane s))

/-! ### Across lanes (R344) -/

/-- SHFL (R344). -/
def execShfl (core slot : Nat) (s : State) : Result :=
  laneOp core slot 0x40 s fun c t k => t.vr c.x.a (t.vr c.x.b k % 32)

/-- VOTE (R344). -/
def execVote (core slot : Nat) (s : State) : Result :=
  issue core slot 0x41 s fun c s t => .go s (t.setU c.x.d (t.pr c.x.a))

/-- One level of the fixed tree: pairs, lower operand first. -/
def redLevel (f : Nat → Nat → Nat) : List Nat → List Nat
  | a :: b :: r => f a b :: redLevel f r
  | l => l

/-- The operations of RED by MOD. -/
def redOp (md a b : Nat) : Nat :=
  if md = 0 then (a + b) % 2 ^ 32
  else if md = 1 then (if ltW false a b then b else a)
  else if md = 2 then (if ltW false b a then b else a)
  else if md = 3 then add32 a b else if md = 4 then max32 a b else min32 a b

/-- RED: five levels over the 32 lanes (R344). -/
def execRed (core slot : Nat) (s : State) : Result :=
  issue core slot 0x42 s fun c s t =>
    let f := redLevel (redOp c.x.md)
    let v := f (f (f (f (f ((List.range 32).map (t.vr c.x.a))))))
    .go s (t.setV c.x.d c.mask fun _ => v.headD 0)

/-! ### Local and argument memory (R344) -/

/-- The effective address of a lane: u[A] + v[B] + simm. -/
def eaOf (c : FwCtx) (t : Tg) (k : Nat) : Nat := intBits 64 (t.ur c.x.a + t.vr c.x.b k + c.x.simm)

/-- The checks of a local access: the window, then alignment. -/
def localFail (c : FwCtx) (t : Tg) : Option (Byte × Nat × Nat) :=
  let out := badLanes c.mask (fun k => decide (eaOf c t k + 4 ≤ c.l.localBytes))
  let odd := badLanes c.mask (fun k => decide (eaOf c t k % 4 = 0))
  match out, odd with
  | k :: r, _ => some (Status.bounds, eaOf c t k, maskOf (k :: r))
  | [], k :: r => some (Status.badField, eaOf c t k, maskOf (k :: r))
  | [], [] => none

/-- LDL (R344). -/
def execLdl (core slot : Nat) (s : State) : Result :=
  issue core slot 0x50 s fun c s t =>
    match localFail c t with
    | some (st, a, m) => .trap s st a m
    | none => .go s (t.setV c.x.d c.mask fun k => ofLE (Mem.read t.localMem (eaOf c t k) 4))

/-- STL: v[C], lane by lane (R344). -/
def execStl (core slot : Nat) (s : State) : Result :=
  issue core slot 0x51 s fun c s t =>
    match localFail c t with
    | some (st, a, m) => .trap s st a m
    | none => .go s { t with localMem := (lanesIn c.mask).foldl (fun m k => Mem.write m (eaOf c t k) (putLE 4 (t.vr c.x.c k))) t.localMem }

/-- LDA (R344). -/
def execLda (core slot : Nat) (s : State) : Result :=
  issue core slot 0x56 s fun c s t =>
    match badLanes c.mask (fun k => decide (eaOf c t k + 4 ≤ c.l.args.length)) with
    | k :: r => .trap s Status.bounds (eaOf c t k) (maskOf (k :: r))
    | [] => .go s (t.setV c.x.d c.mask fun k => getLE c.l.args (eaOf c t k) 4)

/-! ### Global memory (R345, R346, R353) -/

/-- The state of a global instruction that must be issued again: memory as before, the answers it used kept. -/
def rollback (s s' : State) : State :=
  { s' with hbm := s.hbm, plot := s.plot, pmem := s.pmem,
            bx := s.bx.filter (fun x => x.result.isSome && !s'.bx.contains x)
              ++ s'.bx.map (fun x => if s.bx.contains x then x else { x with redo := true }) }

/-- The state of a global instruction that had no effect on memory. -/
def undo (s s' : State) : State := { s' with hbm := s.hbm, plot := s.plot, pmem := s.pmem }

/-- The checks of R345 on 4-byte accesses through the binding of MOD: the binding, or the trap. -/
def globalFail (c : FwCtx) (t : Tg) (use : Nat) : Except (Byte × Nat × Nat) Bind :=
  match c.l.binds[c.x.md]? with
  | none => .error (Status.badField, 0, allLanes)
  | some b =>
    if !bitN b.use use then .error (Status.keyViolation, 0, allLanes)
    else
      let out := badLanes c.mask (fun k => decide (eaOf c t k + 4 ≤ b.len))
      let odd := badLanes c.mask (fun k => decide (eaOf c t k % 4 = 0))
      match out, odd with
      | k :: r, _ => .error (Status.bounds, eaOf c t k, maskOf (k :: r))
      | [], k :: r => .error (Status.badField, eaOf c t k, maskOf (k :: r))
      | [], [] => .ok b

/-- What a pass over lanes finds: the words read, a trap on a lane, or a hold. -/
inductive Pass where
  | ok (s : State) (l : List (Nat × Nat))
  | fault (s : State) (st : Byte) (addr lane : Nat)
  | wait (s : State)
  deriving DecidableEq, Repr

/-- Reads one word for each lane. -/
def readLanes (at_ : Option Nat) (inst : Nat) (f : Nat → Nat) : State → List Nat → Pass
  | s, [] => .ok s []
  | s, k :: r =>
    match readMemAt at_ s inst (f k) 4 with
    | .wait s => .wait s
    | .fault s st _ => .fault s st (f k) k
    | .ok s b =>
      match readLanes at_ inst f s r with
      | .ok s l => .ok s ((k, ofLE b) :: l)
      | x => x

/-- Writes words at addresses, in order, each for a lane. -/
def writeLanes (at_ : Option Nat) (inst : Nat) : State → List (Nat × Nat × Nat) → Pass
  | s, [] => .ok s []
  | s, (k, a, v) :: r =>
    match writeMemAt at_ s inst a (putLE 4 v) with
    | .wait s => .wait s
    | .fault s st _ => .fault s st a k
    | .ok s _ => writeLanes at_ inst s r

/-- The word a lane read. -/
def gotLane (l : List (Nat × Nat)) (k : Nat) : Nat := match l.find? (fun x => x.1 = k) with | some x => x.2 | none => 0

/-- LDG (R344). -/
def execLdg (core slot : Nat) (s : State) : Result :=
  issue core slot 0x52 s fun c s t =>
    match globalFail c t 0 with
    | .error (st, a, m) => .trap s st a m
    | .ok b =>
      match readLanes (admOf s t.q t.i) c.l.inst (fun k => b.addr + eaOf c t k) s (lanesIn c.mask) with
      | .wait s' => .wait (rollback s s')
      | .fault s' st a k => .trap (undo s s') st a (2 ^ k)
      | .ok s l => .go s (t.setV c.x.d c.mask (gotLane l))

/-- STG: v[C], lane by lane; a lane that fails leaves no lane's effect (R344). -/
def execStg (core slot : Nat) (s : State) : Result :=
  issue core slot 0x53 s fun c s t =>
    match globalFail c t 1 with
    | .error (st, a, m) => .trap s st a m
    | .ok b =>
      match writeLanes (admOf s t.q t.i) c.l.inst s ((lanesIn c.mask).map fun k => (k, b.addr + eaOf c t k, t.vr c.x.c k)) with
      | .wait s' => .wait (rollback s s')
      | .fault s' st a k => .trap (undo s s') st a (2 ^ k)
      | .ok s _ => .go s t

/-- The checks of CPY: binding, use, bounds, size and alignment, the local range. -/
def cpyFail (c : FwCtx) (t : Tg) : Except (Byte × Nat) Bind :=
  let n := t.ur c.x.c
  let off := t.ur c.x.a
  let loc := t.ur c.x.b
  match c.l.binds[c.x.md]? with
  | none => .error (Status.badField, 0)
  | some b =>
    if !bitN b.use (c.x.imm % 2) then .error (Status.keyViolation, 0)
    else if b.len < off + n then .error (Status.bounds, off)
    else if n % 64 ≠ 0 ∨ n < 64 ∨ 65536 < n ∨ off % 64 ≠ 0 ∨ loc % 64 ≠ 0 then .error (Status.badField, off)
    else if c.l.localBytes < loc + n then .error (Status.bounds, loc)
    else .ok b

/-- CPY: IMM bit 0 is 0 to local, 1 to global. A translation fault may leave a prefix moved (R344). -/
def execCpy (core slot : Nat) (s : State) : Result :=
  issue core slot 0x54 s fun c s t =>
    if c.mask = 0 then .go s t
    else match cpyFail c t with
      | .error (st, a) => .trap s st a allLanes
      | .ok b =>
        let n := t.ur c.x.c
        let a := b.addr + t.ur c.x.a
        let loc := t.ur c.x.b
        if bitN c.x.imm 0 then
          match writeMemAt (admOf s t.q t.i) s c.l.inst a (Mem.read t.localMem loc n) with
          | .wait s' => .wait (rollback s s')
          | .fault s st _ => .trap s st a allLanes
          | .ok s _ => .go s t
        else
          match readMemAt (admOf s t.q t.i) s c.l.inst a n with
          | .wait s' => .wait (rollback s s')
          | .fault s' st _ => .trap (undo s s') st a allLanes
          | .ok s d => .go s { t with localMem := Mem.write t.localMem loc d }

/-- The new value of an atomic: ADD, MAX, MIN (signed), CAS. -/
def atomNew (op old c d : Nat) : Nat :=
  if op = 0 then (old + c) % 2 ^ 32
  else if op = 1 then (if ltW false old c then c else old)
  else if op = 2 then (if ltW false c old then c else old)
  else if old = c then d else old

/-- The word at an address among those written so far, else the one read. -/
def seen (w : List (Nat × Nat × Nat)) (a dflt : Nat) : Nat := match w.find? (fun x => x.2.1 = a) with | some x => x.2.2 | none => dflt

/-- Applies the lanes' atomics in order: the prior values by lane, the words written (last write first). -/
def atomLanes (c : FwCtx) (t : Tg) (b : Bind) (old : List (Nat × Nat)) : List (Nat × Nat) × List (Nat × Nat × Nat) :=
  old.foldl (fun acc x =>
    let a := b.addr + eaOf c t x.1
    let p := seen acc.2 a x.2
    let n := atomNew c.x.imm p (t.vr c.x.c x.1) (t.vr c.x.d x.1)
    (acc.1 ++ [(x.1, p)], (x.1, a, n) :: acc.2.filter (fun y => y.2.1 ≠ a))) ([], [])

/-- The CRC of the lane addresses and operands (R353). -/
def atomCrc (c : FwCtx) (t : Tg) (b : Bind) : Word :=
  crc32c ((List.range 32).map fun k =>
    if bitN c.mask k then putLE 8 (b.addr + eaOf c t k) ++ putLE 4 (t.vr c.x.c k) ++ putLE 4 (t.vr c.x.d k) else zeros 16).flatten

/-- ATOMG (R345, R353): logged before its prior values return; a re-run is answered from the log. -/
def execAtomg (core slot : Nat) (s : State) : Result :=
  issue core slot 0x55 s fun c s t =>
    if 3 < c.x.imm then .trap s Status.badField 0 allLanes
    else if 64 ≤ t.atomg then .trap s Status.noResource 0 allLanes
    else match globalFail c t 2 with
      | .error (st, a, m) => .trap s st a m
      | .ok b =>
        let key := alogKey t.q t.i t.index
        let log := Tab.getD s.fw.alogs key []
        let crc := atomCrc c t b
        let t1 := { t with atomg := t.atomg + 1 }
        match log[t.atomg]? with
        | some e =>
          if e.crc = crc then .go s (t1.setV c.x.d c.mask fun k => (e.priors.getD k 0).toNat)
          else .retire (logEv s 0x0062 Status.epochMismatch 0x05 c.k (putLE 4 t.q ++ putLE 4 t.i)) t Status.epochMismatch true
        | none =>
          match readLanes (admOf s t.q t.i) c.l.inst (fun k => b.addr + eaOf c t k) s (lanesIn c.mask) with
          | .wait s' => .wait (rollback s s')
          | .fault s' st a k => .trap (undo s s') st a (2 ^ k)
          | .ok s1 old =>
            let r := atomLanes c t b old
            match writeLanes (admOf s t.q t.i) c.l.inst s1 r.2 with
            | .wait s' => .wait (rollback s s')
            | .fault s' st a k => .trap (undo s s') st a (2 ^ k)
            | .ok s _ =>
              let e : ALog := { crc := crc, priors := (List.range 32).map fun k => BitVec.ofNat 32 (gotLane r.1 k) }
              let f := s.fw
              let f := { f with alogs := Tab.put f.alogs key (log ++ [e]) }
              .go { s with fw := f } (t1.setV c.x.d c.mask (gotLane r.1))

/-- FENCE (R346): the commands of this model have their effect in order, so nothing is left to wait for. -/
def execFence (core slot : Nat) (s : State) : Result := issue core slot 0x57 s fun _ s t => .go s t

/-! ### Control (R339, R344, R350) -/

/-- The target of a branch at the instruction before `pc`. -/
def target (pc : Nat) (x : Ins) : Nat := intBits 64 ((pc : Int) - 8 + 8 * x.simm)

/-- BRA (R344). -/
def execBra (core slot : Nat) (s : State) : Result :=
  issue core slot 0x60 s fun c s t =>
    if c.mask = 0 then .go s t
    else if c.mask = allLanes then .go s { t with pc := target t.pc c.x }
    else .trap s Status.badField 0 allLanes

/-- CALL (R344). -/
def execCall (core slot : Nat) (s : State) : Result :=
  issue core slot 0x61 s fun c s t =>
    if pushOk c.l t then .go s { t.push (putLE 8 t.pc) with pc := target t.pc c.x }
    else .trap s Status.bounds t.sp allLanes

/-- RET (R344). -/
def execRet (core slot : Nat) (s : State) : Result :=
  issue core slot 0x62 s fun c s t =>
    if popOk c.l t then .go s { t.setU 15 (t.sp + 32) with pc := ofLE (Mem.read t.localMem t.sp 8) }
    else .trap s Status.bounds t.sp allLanes

/-- EXIT (R348). -/
def execExit (core slot : Nat) (s : State) : Result := issue core slot 0x63 s fun _ s t => .retire s t t.status false

/-- TRAP (R344). -/
def execTrap (core slot : Nat) (s : State) : Result :=
  issue core slot 0x64 s fun c s _ =>
    let v := fld c.x.imm 7 0
    if v < 0x80 then .trap s Status.badField 0 allLanes else .trap s (BitVec.ofNat 8 v) 0 allLanes

/-- RTE (R344). -/
def execRte (core slot : Nat) (s : State) : Result :=
  issue core slot 0x65 s fun c s t =>
    if !t.inHandler then .trap s Status.badField 0 allLanes
    else if popOk c.l t then
      .go s { t.setU 15 (t.sp + 32) with pc := ofLE (Mem.read t.localMem t.sp 8), inHandler := false, cause := 0 }
    else .trap s Status.bounds t.sp allLanes

/-- SETRES (R344). -/
def execSetres (core slot : Nat) (s : State) : Result :=
  issue core slot 0x66 s fun c s t => .go s { t with result := BitVec.ofNat 32 (t.ur c.x.a) }

/-- SETSTAT (R344). -/
def execSetstat (core slot : Nat) (s : State) : Result :=
  issue core slot 0x67 s fun c s t =>
    let v := fld c.x.imm 7 0
    if 1 ≤ v ∧ v ≤ 0x7F then .trap s Status.badField 0 allLanes else .go s { t with status := BitVec.ofNat 8 v }

/-- The distinct counters a launch has staged: its retired groups' and its running groups'. -/
def stagedSet (s : State) (l : Launch) (t : Tg) : List Nat :=
  let run := (s.fw.slots.filter (fun p => p.2.q = t.q && p.2.i = t.i)).flatMap (fun p => p.2.staged)
  ((l.sums ++ run ++ t.staged).map (·.1)).eraseDups

/-- SADD (R348). -/
def execSadd (core slot : Nat) (s : State) : Result :=
  issue core slot 0x68 s fun c s t =>
    let n := fld c.x.imm 13 0
    let have_ := stagedSet s c.l t
    match firstFail [(n < synkoMax s, Status.badField), (owns s.own.sy n c.l.inst, Status.notPermitted),
        (have_.contains n || have_.length < 4, Status.noResource), (instHas s c.l.inst 9, Status.featureNotNegotiated)] with
    | some st => .trap s st 0 allLanes
    | none => .go s { t with staged := addSum t.staged (n, t.ur c.x.a % 2 ^ 48) }

/-- BRK: halts where a debugger is attached (R344). -/
def execBrk (core slot : Nat) (s : State) : Result :=
  issue core slot 0x69 s fun _ s t => if s.fw.dbg.src.isSome then .halt s t else .go s t

end Sys2Proof.Machine
end

