-- ==== Sys2Proof/Machine/Regs.lean ====
section
/-!
DEFINITION. A write to a register that has no row of its own, wherever the control window maps it (R9 to R12, R117, R118,
R127), and the clearing of the rejected-write capture (R128). A register whose write is a row of its own is written by that
row; the write of a register whose fields are all RO passes with no effect (R11).
-/
namespace Sys2Proof.Machine

/-! ### Which bits are reserved (R9)

Each function gives the reserved bits of the registers of one block, by offset in the block; `none` is an unmapped offset. -/

/-- The entry of an offset. -/
def rsvAt (l : List (Nat × Word)) (off : Nat) : Option Word := (l.find? (fun p => p.1 = off)).map (·.2)

/-- The fixed register page, by control-window offset (R117). -/
def fixedRsv (off : Nat) : Option Word :=
  rsvAt [(0x10000, 0x00F000F0), (0x10004, 0), (0x10008, 0), (0x1000C, 0), (0x10010, 0x606060FF), (0x10018, 0), (0x1001C, 0),
    (0x10100, 0), (0x10104, 0), (0x10108, 0), (0x1010C, 0), (0x10110, 0xC0000000), (0x10114, 0xFFFFFFFF), (0x10118, 0xFFFFFFFF),
    (0x1011C, 0xFFFFFFFF), (0x10124, 0x7F8000FF), (0x10204, 0), (0x10208, 0), (0x1020C, 0xF800FFFC), (0x10210, 0xFFFFFFFE),
    (0x10214, 0), (0x10804, 0x1F00FFFF)] off

/-- Levee. -/
def lvRsv (off : Nat) : Option Word :=
  if off % 4 = 0 ∧ 0x100 ≤ off ∧ off < 0x540 ∧ off % 0x100 < 0x40 then
    rsvAt [(1, 0xFFFF0000), (2, 0xFFFFFC00), (3, 0xF000F000), (4, 0xF000F000), (5, 0xFFFFF000)] (off / 0x100)
  else rsvAt [(0x000, 0xFFFFFE01), (0x004, 0xFFFF00F8), (0x008, 0xFFFE0000), (0x00C, 0xFFFFFC00), (0x014, 0x3F00F000),
    (0x018, 0x000000FF), (0x01C, 0xF000F000), (0x600, 0xFFFF00FE), (0x604, 0xFF0000E0)] off

/-- Sluice: port and link registers. -/
def slRsv (off : Nat) : Option Word :=
  if off < 0x8000 ∨ 0x9000 ≤ off then none
  else
    let o := (off - 0x8000) % 0x200
    if o < 0x100 then rsvAt [(0, 0xFFFF0EF0), (4, 0x0000F0FE)] o
    else rsvAt [(4, 0x3F0000FF), (8, 0x78000000), (0xC, 0x0C00F800)] (o % 0x40)

/-- Weir; the map window exists on a manager-capable image only. -/
def wrRsv (mgr : Bool) (off : Nat) : Option Word :=
  if 0x100 ≤ off ∧ off < 0x170 then rsvAt [(0, 0x1F000000), (4, 0), (8, 0x07000000), (0xC, 0xFFFFF800)] (off % 16)
  else if (0x1000 ≤ off ∧ off < 0x2000) ∨ (0x3000 ≤ off ∧ off < 0x4000) then
    if off % 4 = 0 ∧ off % 0x80 < 0x4C then some 0 else none
  else if 0x10000 ≤ off ∧ off < 0x10000 + 0x800 * 66 then if mgr ∧ off % 4 = 0 then some 0 else none
  else rsvAt [(0x180, 0x7FFF0000), (0x204, 0), (0x208, 0), (0x300, 0x7FFFFC00), (0x304, 0x7F000000), (0x310, 0), (0x314, 0),
    (0x318, 0xFFFFFFFC)] off

/-- Runnel. -/
def rnRsv (off : Nat) : Option Word :=
  if off = 0 then some 0xFF000000
  else if off % 4 ≠ 0 then none
  else if 0x100 ≤ off ∧ off < 0x100 + 4 * 66 then some 0x3FFFE0E0
  else if 0x400 ≤ off ∧ off < 0x440 then some 0
  else none

/-- Furrow. -/
def fwRsv (off : Nat) : Option Word :=
  rsvAt [(0, 0xFFFF0000), (4, 0), (8, 0xFFFF0000), (0xC, 0x03FF0000), (0x10, 0xFFFFFC00)] off

/-- Culvert: the staging pools. -/
def cvRsv (off : Nat) : Option Word :=
  if 0x100 ≤ off ∧ off < 0x900 then rsvAt [(0, 0x00000FFF), (4, 0), (8, 0x000C0000), (0x10, 0x7F00F000)] (off % 0x20) else none

/-- Tender. -/
def tnRsv (off : Nat) : Option Word :=
  if off % 4 = 0 ∧ 0x540 ≤ off ∧ off < 0x580 then some 0
  else rsvAt [(0x100, 0), (0x104, 0), (0x108, 0x7FFFE0F4), (0x200, 0x0000E0F0), (0x204, 0), (0x208, 0xFFF00000),
    (0x20C, 0xFFFFFFF0), (0x300, 0x00000FFF), (0x308, 0x7FFFFF00), (0x30C, 0), (0x400, 0x0000FFF0), (0x408, 0), (0x40C, 0),
    (0x500, 0), (0x504, 0), (0x510, 0), (0x514, 0), (0x518, 0), (0x520, 0x1FFFFFFF), (0x588, 0xF800FFFC), (0x604, 0x1F000000),
    (0x608, 0)] off

/-- A device-wide register outside the fixed page, by block ID (R124). -/
def devRsv (s : State) (blk off : Nat) : Option Word :=
  if blk = 0x02 then slRsv off
  else if blk = 0x03 then wrRsv (roleCap s = 2) off
  else if blk = 0x04 then rnRsv off
  else if blk = 0x05 then fwRsv off
  else if blk = 0x09 then rsvAt [(0, 0xFFF00000), (4, 0xFFFFFE00)] off
  else if blk = 0x0A then cvRsv off
  else if blk = 0x0B then tnRsv off
  else if blk = 0x0C then lvRsv off
  else if blk = 0x0F then rsvAt [(0, 0xFFF00000), (4, 0xFFFFFC00), (8, 0xFFFFF800)] off
  else none

/-- The register's write is a row of its own. -/
def ownRow (blk off : Nat) (w : RegWr) : Bool :=
  if blk = 0x02 then 0x8000 ≤ off && off < 0x9000 && 0x100 ≤ off % 0x200 && off % 0x40 = 0
  else if blk = 0x03 then off = 0x200
  else if blk = 0x0A then
    off = 0 || off = 4 || off = 8
    || (0x100 ≤ off && off < 0x900 && (off % 0x20 = 0x0C || (off % 0x20 = 8 && !(w.full && bitN w.data.toNat 31))))
  else if blk = 0x0B then
    off = 0x304 || off = 0x508 || off = 0x50C || off = 0x51C || off = 0x580 || off = 0x584 || off = 0x600
    || (off = 0x20C && 1 ≤ fld w.data.toNat 3 0 && fld w.data.toNat 3 0 ≤ 4)
  else if blk = 0x0C then off = 0x010
  else false

/-! ### Owners, ranges and states (R127 checks 2, 5, 6, 7) -/

/-- Check 2: Weir, Runnel and Furrow registers are the host link's, or Tender's in H-mode; in H-mode every Culvert write is
refused (R153). -/
def devOwned (s : State) (blk : Nat) (w : RegWr) : Bool :=
  if blk = 0x03 ∨ blk = 0x04 ∨ blk = 0x05 then devOwner s w
  else if blk = 0x0A then modeOf s ≠ .h
  else true

/-- A field lies in a range. -/
def inRange (v hi lo a b : Nat) : Bool := decide (a ≤ fld v hi lo) && decide (fld v hi lo ≤ b)

/-- The ranges of a WR_PROF register (R127 check 5). -/
def profOk (off v : Nat) : Bool :=
  if off % 16 = 0 then inRange v 23 16 2 255 && inRange v 15 8 16 255 && inRange v 7 0 1 255
  else if off % 16 = 4 then
    inRange v 31 16 20 65535 && inRange v 15 0 10 65534 && decide (fld v 15 0 < fld v 31 16)
  else if off % 16 = 8 then
    inRange v 31 27 1 16 && inRange v 23 20 1 15 && inRange v 19 14 1 63 && inRange v 13 10 1 15 && inRange v 9 0 1 1000
  else inRange v 10 0 8 1024

/-- The link of a link register of the Sluice block. -/
def regLink (off : Nat) : Nat := 4 * ((off - 0x8000) / 0x200) + ((off - 0x8000) % 0x200 - 0x100) / 0x40

/-- Check 5 on a Sluice register: a link the breakout does not provide may not be named (R76). -/
def slOk (s : State) (off v : Nat) : Bool :=
  let p := (off - 0x8000) / 0x200
  let o := (off - 0x8000) % 0x200
  if o = 0 then (List.range 4).all (fun n => !bitN v (12 + n) || linkExists s (4 * p + n))
  else if o < 0x100 then true
  else linkExists s (regLink off)
    && (o % 0x40 ≠ 8 || (inRange v 26 11 10 50000 && inRange v 10 0 10 1600))

/-- Check 5 on a Levee register. -/
def lvOk (off v : Nat) : Bool :=
  if off = 0x004 then inRange v 15 8 5 50
  else if off = 0x00C then inRange v 9 0 300 760
  else if off = 0x600 then inRange v 15 8 1 255
  else if off / 0x100 = 1 then inRange v 15 8 40 120 && inRange v 7 0 5 50
  else true

/-- Check 5 on a Tender register. -/
def tnOk (s : State) (off v : Nat) : Bool :=
  if off = 0x108 then fld v 1 0 ≠ 3 && linkExists s (fld v 12 8)
  else if off = 0x208 then inRange v 19 16 3 15 && inRange v 15 0 10 1600
  else off ≠ 0x20C

/-- Check 5: every field within its range. -/
def devOk (s : State) (blk off v : Nat) : Bool :=
  if blk = 0x02 then slOk s off v
  else if blk = 0x03 then
    if 0x100 ≤ off ∧ off < 0x170 then profOk off v
    else if off = 0x180 then inRange v 15 0 1 4096
    else if off = 0x300 then inRange v 9 0 1 1000
    else true
  else if blk = 0x04 then off ≠ 0 || (inRange v 23 16 1 255 && inRange v 15 8 1 255 && inRange v 7 0 1 25)
  else if blk = 0x05 then off ≠ 0 || inRange v 15 0 0 60000
  else if blk = 0x0B then tnOk s off v
  else if blk = 0x0C then lvOk off v
  else true

/-- Every block outside region 13, which LV_CTRL.FAST_EN does not ask to be quiesced. -/
def levBlks : List Blk :=
  (List.range 16).map Blk.sluice ++ (List.range 48).map Blk.furrow ++ ((List.range 8).erase 5).map Blk.hbm
    ++ [.headgate, .weir, .runnel, .synko, .spanUnit, .keyTable, .codebook, .culvert]

/-- Check 6: no RWP field of a running block would change (R11): FAST_EN, TN_BASIN_HB, the base of a pool; SLEW stands while a
voltage command runs (R66). -/
def devQuiet (s : State) (blk off v : Nat) : Bool :=
  if blk = 0x0C ∧ off = 0x004 then
    (bitN v 0 = fastEn s || levBlks.all (gated s)) && (fld v 15 8 = slew s || s.lv.cmd.isNone)
  else if blk = 0x0B ∧ off = 0x208 then
    !(s.basin.role = .claiming || s.basin.role = .active || s.basin.role = .yielding) || v = getReg s 0x0B 0x208
  else if blk = 0x0A ∧ off % 0x20 ≤ 4 then poolIdle s ((off - 0x100) / 0x20) || v = getReg s 0x0A off
  else true

/-- Check 7: TN_BASIN_HB is not written on a worker. -/
def devState (s : State) (blk off : Nat) : Bool := !(blk = 0x0B && off = 0x208) || roleCap s ≠ 1

/-! ### Effects -/

/-- A link disabled by ADMIN_UP goes to DOWN from any state; a pending calibration starts (R83, R89). -/
def adminOff (s : State) (l : Nat) : State :=
  let x := link s l
  let y := { x with up := false, downAt := sinceDown s x, merge := false, verify := false, dorm := .down, agreed := 0, measured := false, peerCap := none, offerSent := 0,
                    enterAt := none, ackFixed := false, reneg := false, trainSince := none, held := decide (x.cal = .running) }
  putLink s l (if x.cal = .pending then calRun y else y)

/-- A new MERGE_EN on a link that is up: off at once, or on once a verification of its own succeeds (R78). -/
def mergeCfg (on : Bool) (s : State) (l : Nat) : State :=
  let x := link s l
  if x.up then putLink s l { x with merge := x.merge && on, verify := on && !x.merge } else s

/-- SL_PORT_CFG: ADMIN_UP and MERGE_EN are kept. -/
def portCfg (s : State) (off v : Nat) : State :=
  let p := (off - 0x8000) / 0x200
  let t := putReg s 0x02 off (fld v 15 12 * 2 ^ 12 + fld v 8 8 * 2 ^ 8)
  let t := (portLinks s p).foldl (fun t l => if adminUp s l ∧ !bitN v (12 + l % 4) then adminOff t l else t) t
  if bitN v 8 = mergeEn s p then t else (portLinks s p).foldl (mergeCfg (bitN v 8)) t

/-- LV_CTRL: with FAST_EN = 0 the boost and shunt banks disengage. DESIGN CHOICE (log 87): clearing OC_EN leaves a region that
throttles in throttle until its THROTTLE_EXIT; the spec says what OC_EN = 0 keeps from starting, not what it ends. Unsafe. -/
def lvCtrl (s : State) (v : Nat) : State :=
  let t := putReg s 0x0C 0x004 v
  if bitN v 0 then t else onRegions t allRegions (fun r => { r with boost := none, shunt := none })

/-- LV_REGION_STATUS: 1 clears a W1C bit. -/
def regionClear (r : Region) (v : Nat) : Region :=
  { r with ocPersist := r.ocPersist && !bitN v 8, oc := r.oc && !bitN v 7, disagree := r.disagree && !bitN v 6,
           drop := r.drop && !bitN v 5, senseEvt := r.senseEvt && !bitN v 2 }

/-- The link that has become the PTP link is ineligible (R85): at once where it is ACTIVE, at its next waking where it sleeps. -/
def ptpLinkOff (s : State) : State :=
  let l := fld (getReg s 0x0B 0x108) 12 8
  if isPtpLink s l ∧ (link s l).dorm = .active then
    putLink s l { link s l with dorm := .ineligible, agreed := 0, reneg := false }
  else s

/-- TN_TIME_CTRL: a new source starts the servo anew. -/
def timeCtrl (s : State) (v : Nat) : State :=
  let t := ptpLinkOff (putReg s 0x0B 0x108 (fld v 12 8 * 2 ^ 8 + fld v 3 3 * 2 ^ 3 + fld v 1 0))
  if fld v 1 0 = timeSrc s then t
  else { t with sys.servo := 0, sys.locked := false, sys.ptpT1 := none, sys.ptpT2 := none, sys.ptpT3 := none }

/-- What an accepted write does: RW fields take the value, W1C bits clear, RO fields ignore it (R11). -/
def devEffect (s : State) (blk off v : Nat) : State :=
  if blk = 0x02 then
    if (off - 0x8000) % 0x200 = 0 then portCfg s off v
    else if off % 0x40 = 8 ∧ 0x100 ≤ off % 0x200 then putReg s 0x02 off v
    else s
  else if blk = 0x03 then
    if (0x100 ≤ off ∧ off < 0x170) ∨ off = 0x180 ∨ off = 0x300 then putReg s 0x03 off v else s
  else if blk = 0x04 then if off = 0 then putReg s 0x04 off v else s
  else if blk = 0x05 then
    if off = 0 then putReg s 0x05 off v
    else if off = 0xC ∧ bitN v 26 then { s with fw.dbg.pending := false }
    else s
  else if blk = 0x0A then
    if off % 0x20 ≤ 4 then putReg s 0x0A off v
    else if off % 0x20 = 0x10 ∧ bitN v 31 then { s with cv.err := Tab.del s.cv.err ((off - 0x100) / 0x20) }
    else s
  else if blk = 0x0B then
    if off = 0x108 then timeCtrl s v
    else if off = 0x200 then { s with basin.void := s.basin.void && !bitN v 11 }
    else if off = 0x208 ∨ off = 0x588 then putReg s 0x0B off v
    else if off = 0x308 then { s with pt.causeValid := s.pt.causeValid && !bitN v 31 }
    else if off = 0x518 then { s with log.rselLo := BitVec.ofNat 32 v }
    else s
  else if blk = 0x0C then
    if off = 0x004 then lvCtrl s v
    else if off = 0x00C ∨ off = 0x600 ∨ off / 0x100 = 1 then putReg s 0x0C off v
    else if off / 0x100 = 2 then
      (let n := (off - 0x200) / 4
       putRegion s n (regionClear (region s n) v))
    else s
  else s

/-! ### The write -/

/-- A device-wide register of a block with a span. -/
def devWrite (s : State) (blk off : Nat) (w : RegWr) : State :=
  let a := regAddr s blk off
  let v := w.data.toNat
  if ownRow blk off w then s
  else match devRsv s blk off with
    | none => checked s a none w [(false, Status.badField)] s
    | some rsv =>
      if blk = 0x0A ∧ off % 0x20 = 8 then poolCfg s ((off - 0x100) / 0x20) w
      else checked s a none w
        [(devOwned s blk w, Status.notPermitted), (blk ≠ 0x0A || 4 < off % 0x20 || srcHas s w.src 5, Status.featureNotNegotiated),
         (noRsv w rsv, Status.badField), (devOk s blk off v, Status.badField), (devQuiet s blk off v, Status.busy),
         (devState s blk off, Status.notPermitted)]
        (devEffect s blk off v)

/-- VP_FEATACK_i with a new value. -/
def featAck (s : State) (i v : Nat) : State :=
  { s with feat.ack := (s.feat.ack &&& ~~~(BitVec.ofNat 128 (0xFFFFFFFF * 2 ^ (32 * i)))) ||| BitVec.ofNat 128 (v * 2 ^ (32 * i)) }

/-- The fixed register page (R117): the request buffer is closed while the mailbox is BUSY (R131), the response buffer is
read-only (R118), VP_FEATACK is RWP (R114). -/
def fixedWrite (s : State) (off : Nat) (w : RegWr) : State :=
  let v := w.data.toNat
  if off = 0x10120 ∨ off = 0x10200 ∨ off = 0x10800 then s
  else if 0x11000 ≤ off ∧ off < 0x11800 then
    checked s off none w [(decide (off % 4 = 0), Status.badField), (decide (s.mbx.st ≠ .busy), Status.busy)]
      { s with mbx.req := Mem.write s.mbx.req (off - 0x11000) (putLE 4 v) }
  else if 0x11800 ≤ off ∧ off < 0x11C00 then checked s off none w [(false, Status.notPermitted)] s
  else match fixedRsv off with
    | none => checked s off none w [(false, Status.badField)] s
    | some rsv =>
      if 0x10110 ≤ off ∧ off < 0x10120 then
        let i := (off - 0x10110) / 4
        checked s off none w
          [(noRsv w rsv, Status.badField), (!s.feat.committed || fld s.feat.ack.toNat (32 * i + 31) (32 * i) = v, Status.busy)]
          (featAck s i v)
      else checked s off none w [(noRsv w rsv, Status.badField)] s

/-- A register of an instance page that is no command register: its offset, its reserved bits, its RW bits, the status register
of its command. -/
structure PageReg where
  off : Nat
  rsv : Word
  rw : Word
  stat : Nat

/-- A staging register whose fields are all RW. -/
def stageReg (off : Nat) (rsv : Word) (stat : Nat) : PageReg := { off := off, rsv := rsv, rw := ~~~rsv, stat := stat }
/-- A register whose fields are all RO. -/
def roReg (off : Nat) (rsv : Word) : PageReg := { off := off, rsv := rsv, rw := 0, stat := 0 }

/-- Work and completion queues. -/
def pageHg : List PageReg :=
  [stageReg 0x000 0xFFF80000 0x024, stageReg 0x004 0x3E0000E0 0x024, stageReg 0x008 0x00000FFF 0x024, stageReg 0x00C 0 0x024,
   stageReg 0x010 0xFFFC0000 0x024, stageReg 0x014 0xFFFF0000 0x024, stageReg 0x018 0xFFFF0000 0x024,
   stageReg 0x01C 0xFFFFE000 0x024, roReg 0x024 0x7FFF00FF, stageReg 0x040 0xFFFF0000 0x058, stageReg 0x044 0xF80000E0 0x058,
   stageReg 0x048 0x00000FFF 0x058, stageReg 0x04C 0 0x058, stageReg 0x050 0xFFFF0000 0x058, roReg 0x058 0x7FFF00FF]

/-- Spans and keys. -/
def pageSpan : List PageReg :=
  [stageReg 0x080 0xFFF00000 0x0A8, stageReg 0x084 0x00000FFF 0x0A8, stageReg 0x088 0xFE000000 0x0A8,
   stageReg 0x08C 0x00000FFF 0x0A8, stageReg 0x090 0xFFFE0000 0x0A8, stageReg 0x094 0x00000FFF 0x0A8, stageReg 0x098 0 0x0A8,
   { off := 0x09C, rsv := 0xFFFFFF00, rw := 0x0000000F, stat := 0x0A8 }, roReg 0x0A0 0xFFFFFF00, roReg 0x0A8 0x7FFF00FF,
   stageReg 0x0C0 0 0x0DC, stageReg 0x0C4 0 0x0DC, stageReg 0x0C8 0 0x0DC, stageReg 0x0CC 0 0x0DC, stageReg 0x0D0 0xFFFE0000 0x0DC,
   { off := 0x0D4, rsv := 0xFFFCE0FC, rw := 0x00001F03, stat := 0x0DC }, roReg 0x0DC 0x7FFF00FF, roReg 0x0E4 0]

/-- Queue pairs and their rate query. -/
def pageQp : List PageReg :=
  [stageReg 0x100 0xFFFC0000 0x138, stageReg 0x104 0x00C800FF 0x138, stageReg 0x108 0 0x138, stageReg 0x10C 0 0x138,
   stageReg 0x110 0 0x138, stageReg 0x114 0 0x138, stageReg 0x118 0xFFFC0000 0x138, stageReg 0x11C 0 0x138,
   stageReg 0x120 0xFF000000 0x138, stageReg 0x124 0xFFFFF000 0x138, stageReg 0x128 0 0x138, stageReg 0x12C 0x0000FC00 0x138,
   stageReg 0x130 0xFF000000 0x138, roReg 0x138 0x7FFF00FF, roReg 0x13C 0x07FF00FF, roReg 0x140 0, roReg 0x144 0xFF000000,
   roReg 0x148 0x0F0000FF, stageReg 0x180 0xFFFC0000 0x188, roReg 0x188 0x7FFF00FF, roReg 0x18C 0x000000C0, roReg 0x190 0x000000FF,
   roReg 0x194 0]

/-- Counters and gates, groups, codebook slots, identity. -/
def pageRest : List PageReg :=
  [stageReg 0x200 0xFFFFC000 0x214, stageReg 0x204 0 0x214, stageReg 0x208 0xFFFF0000 0x214, stageReg 0x20C 0xFFFFFC00 0x214,
   roReg 0x214 0x7FFF00FF, stageReg 0x220 0xFFF80000 0x240, stageReg 0x224 0xFFFFC000 0x240, stageReg 0x228 0 0x240,
   stageReg 0x22C 0xFFFF0000 0x240, stageReg 0x230 0 0x240, stageReg 0x234 0xFFFF0000 0x240, stageReg 0x238 0xFFF00000 0x240,
   roReg 0x240 0x3FFF00FF, roReg 0x244 0, roReg 0x248 0xFFFF0000, stageReg 0x280 0xFFFFF000 0x2A0, stageReg 0x284 0x3F80C0E0 0x2A0,
   stageReg 0x288 0xFFFFFF00 0x2A0, stageReg 0x28C 0x0000003F 0x2A0, stageReg 0x290 0 0x2A0, stageReg 0x294 0 0x2A0,
   stageReg 0x298 0xFFFF0000 0x2A0, roReg 0x2A0 0x7FFF00FF, roReg 0x2A4 0x0FFF00FF, roReg 0x2A8 0, stageReg 0x300 0xFFFFFF00 0x308,
   roReg 0x308 0x7FFF00FF, roReg 0x30C 0x00E0FEFF, roReg 0x310 0, roReg 0x314 0, roReg 0x380 0x0CFFFC00, roReg 0x384 0x1FFFFFFF]

/-- The register at an offset of an instance page. -/
def pageReg (off : Nat) : Option PageReg :=
  (pageHg.find? (fun r => r.off = off)).or ((pageSpan.find? (fun r => r.off = off)).or
    ((pageQp.find? (fun r => r.off = off)).or (pageRest.find? (fun r => r.off = off))))

/-- The command registers: offset, status register, the highest defined CMD. -/
def pageCmds : List (Nat × Nat × Nat) :=
  [(0x020, 0x024, 4), (0x054, 0x058, 3), (0x0A4, 0x0A8, 3), (0x0D8, 0x0DC, 3), (0x134, 0x138, 6), (0x210, 0x214, 4),
   (0x23C, 0x240, 3), (0x29C, 0x2A0, 4), (0x304, 0x308, 2)]

/-- KT_VSTAT: 1 to VALID clears VALID, MULTI and every captured field (R223). -/
def vstatClear (s : State) (inst v : Nat) : State :=
  if bitN v 31 then putPage (putPage s inst 0x0E0 0) inst 0x0E4 0 else s

/-- The staged value: RW bits taken, the others as they were. -/
def staged (s : State) (inst : Nat) (r : PageReg) (w : RegWr) : Nat :=
  ((BitVec.ofNat 32 (getPage s inst r.off) &&& ~~~r.rw) ||| (w.data &&& r.rw)).toNat

/-- A write in an instance page: a staging register is held to checks 1, 2 and 4 and to its BUSY rule; an undefined CMD is
refused by its command's own table (R127). -/
def pageWrite (s : State) (inst off : Nat) (w : RegWr) : Result :=
  let a := pageAddr s inst off
  let mine := pageOwned s inst w.src
  match pageCmds.find? (fun c => c.1 = off) with
  | some (_, stat, top) =>
    let c := fld w.data.toNat 3 0
    if !w.full ∨ (1 ≤ c ∧ c ≤ top) then .next s else pageCmd s inst off stat w [(false, Status.badField)] id
  | none =>
    if off = 0x184 then .next s
    else if off = 0x0E0 then
      .next (checked s a (some inst) w [(mine, Status.notPermitted), (noRsv w 0x10FFFFFF, Status.badField)]
        (vstatClear s inst w.data.toNat))
    else match pageReg off with
      | none => .next (checked s a (some inst) w [(false, Status.badField)] s)
      | some r =>
        .next (checked s a (some inst) w
          [(mine, Status.notPermitted), (noRsv w r.rsv, Status.badField), (r.rw = 0 || !pageBusy s inst r.stat, Status.busy)]
          (if r.rw = 0 then s else putPage s inst off (staged s inst r w)))

/-- The block of a work queue: HG_INV_START is RW, the other registers without a row are RO. -/
def queueWrite (s : State) (q off : Nat) (w : RegWr) : Result :=
  if off = 0 ∨ off = 4 ∨ off = 0x18 then .next s
  else match rsvAt [(0x08, 0x003F00FF), (0x0C, 0), (0x10, 0), (0x14, 0), (0x1C, 0x700FFFFF), (0x20, 0), (0x24, 0xFFFFE000)] off with
    | none => .next (checked s (dbAddr s q off) none w [(false, Status.badField)] s)
    | some rsv =>
      queueReg s q off w fun x =>
        if !noRsv w rsv then reject s (dbAddr s q off) none w Status.badField
        else if off = 0x14 then putWq s q { x with invStart := w.data }
        else s

/-- The block of a completion queue: every register without a row is RO. -/
def cqWrite (s : State) (c off : Nat) (w : RegWr) : Result :=
  if off = 0 ∨ off = 4 then .next s
  else match rsvAt [(0x08, 0x07FF00FF), (0x0C, 0), (0x10, 0), (0x14, 0xFFE00000), (0x18, 0)] off with
    | none => .next (checked s (cqAddr s c off) none w [(false, Status.badField)] s)
    | some rsv =>
      cqReg s c off w fun _ => if !noRsv w rsv then reject s (cqAddr s c off) none w Status.badField else s

/-- The block whose span holds an offset: its ID and the offset in it; the VP_ and BN_ blocks lie in the fixed page. -/
def blockOf (l : Layout) (off : Nat) : Option (Nat × Nat) :=
  ((l.blocks.zipIdx).find? (fun b => b.2 ≠ 12 && b.2 ≠ 13 && decide (b.1.base ≤ off) && decide (off < b.1.base + b.1.span))).map
    (fun b => (b.2 + 1, off - b.1.base))

/-- An offset lies in a range. -/
def within (off base len : Nat) : Bool := decide (base ≤ off) && decide (off < base + len)

/-- A write at an offset that the Vapen table places (R117, R118): a block span, a queue window, a counter bank, an instance
page, or nothing. -/
def placedWrite (s : State) (l : Layout) (off : Nat) (w : RegWr) : Result :=
  match blockOf l off with
  | some (blk, o) => .next (devWrite s blk o w)
  | none =>
    if within off l.dbBase (64 * dbCount s) then queueWrite s ((off - l.dbBase) / 64) ((off - l.dbBase) % 64) w
    else if within off l.cqdbBase (64 * cqMax s) then cqWrite s ((off - l.cqdbBase) / 64) ((off - l.cqdbBase) % 64) w
    else if within off l.pushBase (4096 * pushCount s) then .next s
    else if within off l.synkoBase (64 * synkoMax s) ∨ within off l.linkBase (128 * 32) ∨ within off l.instBase (128 * instMax s) then
      .next (checked s off none w [(false, Status.notPermitted)] s)
    else if within off l.pageBase (l.pageStride * instMax s) then
      pageWrite s ((off - l.pageBase) / l.pageStride) ((off - l.pageBase) % l.pageStride) w
    else .next (checked s off none w [(false, Status.badField)] s)

/-- REGISTER_WRITE (R127): the fixed page answers in every stage but ROM and HALTED, the rest of the window in READY (R97). -/
def execRegisterWrite (w : RegWrite) (s : State) : Result :=
  if !fixedLive s then .next s
  else if w.off < 0x10000 then .next (checked s w.off none w.wr [(false, Status.notPermitted)] s)
  else if w.off < 0x20000 then .next (fixedWrite s w.off w.wr)
  else match windowLive s, s.vp.layout with
    | true, some l => placedWrite s l w.off w.wr
    | _, _ => .next s

/-- VP_WERR_CLEAR (R128): 1 to VALID clears VALID, MULTI, COUNT and every captured field. -/
def execVpWerrClear (w : RegWr) (s : State) : Result :=
  if !fixedLive s then .next s
  else .next (checked s 0x10200 none w [(noRsv w 0x3F000000, Status.badField)]
    (if bitN w.data.toNat 31 then
      { s with vp := { Vapen.reset with tvalid := s.vp.tvalid, gen := s.vp.gen, layout := s.vp.layout, table := s.vp.table } }
     else s))

end Sys2Proof.Machine
end

