-- ==== Sys2Proof/Machine/Reset.lean ====
section
/-!
DEFINITION. The resets of the device: cold reset, warm reset, and the resume from a warm reset (spec files 02 and 04; R52,
R56, R57, R74, R96, R111, R112, R146, R179, R221, R242, R267, R289, R305, R354, R364, R385, R398, R404, R406).
-/
namespace Sys2Proof.Machine

/-! ### Cold reset (R52, R56, R57, R74, R96) -/

/-- A running SLOT_WRITE that passed its checks is cut off: the slot is invalid, its count already incremented (R406). -/
def cutSlotWrite (s : State) : State :=
  match mbxIs s 0x20 with
  | none => s
  | some r =>
    let p := r.params
    let n := getLE p 0 1
    let b := if slotFields p then slotSource s (getLE p 1 1) (getLE p 8 8) (getLE p 4 4) else []
    match slotWriteFail s r b with
    | some _ => s
    | none => putSlot (countUp s n) n []

/-- The device in cold reset: what lies outside it, its fuses and its boot flash stay. -/
def coldState (s : State) : State :=
  let r := State.reset
  { r with sys := { r.sys with fuses := s.sys.fuses, warmLow := s.sys.warmLow, freeCtr := s.sys.freeCtr },
           flash := s.flash, pmem := s.pmem, out := s.out, rd := s.rd, pending := s.pending }

/-- COLD_RST_N_FALL (R56): every block restarts; HBM contents are not kept. -/
def execColdRstNFall (s : State) : Result := .next (coldState (cutSlotWrite s))

/-- COLD_RST_N_RISE (R52, R74, R96): the straps are sampled, device time is 0, the boot ROM starts; a board in test mode runs
no boot ROM. -/
def execColdRstNRise (straps : Straps) (s : State) : Result :=
  if !s.sys.coldLow then .next s
  else
    let s := { s with sys.coldLow := false, sys.straps := straps, sys.now := 0, clk.aonLock := true, clk.tnLock := true }
    .next (if straps.test then s else startCands s true)

/-! ### What a warm reset keeps (R111, R179, R221, R305, R354, R386) -/

/-- Queues at the reset: contexts and completion queues stay, PI restarts equal to CI, no descriptor is cached (R179). -/
def warmWq (w : Wq) : Wq := { w with pi := w.ci, cache := [] }

/-- A queue pair at the reset: EPSN as its transport record holds it, and what was placed after the last acknowledgement
point is placed again (R237, R243). -/
def warmQp (p : Qp) : Qp :=
  let back : Nat → Bool := fun k => decide (2 ^ 23 ≤ d24 k p.recEpsn)
  let q := { p with ctl := [], rsps := [], sack := [], nakSent := false, unacked := 0, unackedAt := none, echoAt := none,
                    ceSeen := false, epsn := p.recEpsn, epsnRoc := p.recRoc }
  match p.cur with
  | none => q
  | some c =>
    if d24 p.recEpsn c.first = 0 ∨ 2 ^ 23 ≤ d24 p.recEpsn c.first then
      { q with cur := none }
    else { q with cur := some { c with placed := c.placed.filter (fun k => back (psn c.first k)) } }

/-- A launch with incomplete groups runs every unretired group that had started again (R354). -/
def warmLaunch (f : Furrow) (key : Nat) (l : Launch) : Launch :=
  (f.slots.filter (fun p => inflKey p.2.q p.2.i = key)).foldl
    (fun l p => { l with rerun := insertBy (fun a b => a ≤ b) p.2.index l.rerun }) l

/-- Furrow at the reset: every slot is free, the debugger is detached, breakpoints are cleared (R354, R357). -/
def warmFurrow (f : Furrow) : Furrow :=
  { f with slots := [], colls := [], breaks := [], saved := [], launches := Tab.map (warmLaunch f) f.launches,
           dbg := { Dbg.reset with dtraps := f.dbg.dtraps }, jtag := [] }

/-- A change of a register command whose BUSY had not cleared may or may not have been applied (R305): which is free. -/
def warmChanges (s : State) : List SyChange :=
  (s.syPend.zipIdx).filterMap (fun p =>
    if p.1.src = .command ∧ (Config.free (s.sys.freeCtr + p.2)).getLsbD 0 then none else some p.1)

/-- KT_CMD_STAT of an instance whose INVALIDATE is not complete (R221). -/
def warmKtBusy (s : State) : Tab Word :=
  Tab.keep (fun k w => decide (k % 4096 = 0x0DC) && w.getLsbD 31) s.pages

/-- A worker keeps its role; a manager-capable device resumes UNJOINED with its epoch and map (R25). -/
def warmBasin (s : State) : Basin :=
  let b := s.basin
  if roleCap s = 2 then
    { Basin.reset with epoch := b.epoch, map := b.map, ownWin := b.ownWin, basinWin := b.basinWin }
  else { b with void := false, answerNoticed := b.noticed, leaveSince := b.leaveSince, noticeSince := none, attested := [],
                missedHb := 0 }

/-- An entry at the reset: a CB_LOAD whose slot was LOADING is to complete with DESCRIPTOR_CRC when the engines resume (R364). -/
def warmInfl (s : State) (r : Infl) : Infl :=
  if entOp r.ent = 0x23 ∧ r.done.isNone ∧ r.adm.isSome ∧ cbLoading s (getLE r.ent 12 2) then
    { r with disp := true, done := some { status := Status.descriptorCrc, cflags := 0, detail := 0, bytes := 0, aux := 0 }, keys := [], spans := [] }
  else r

/-- HBM in self-refresh (R111). -/
def sleepOf (s : State) : Asleep :=
  { image := s.boot.image, basin := warmBasin s, dir := s.mgr.dir, policy := s.policy, ktBusy := warmKtBusy s, own := s.own,
    insts := s.insts, wqs := Tab.map (fun _ => warmWq) s.wqs, cqs := s.cqs, infl := Tab.map (fun _ => warmInfl s) s.infl, accSeq := s.accSeq,
    spans := s.spans, keys := s.keys, bx := s.bx, nextBx := s.nextBx, allocs := s.allocs,
    qps := Tab.map (fun _ => warmQp) s.qps, shadows := s.shadows, mirBlk := s.mirBlk, sy := s.sy,
    syPend := warmChanges s, pieceClock := s.pieceClock, groups := s.groups, rn := s.rn, fw := warmFurrow s.fw, cbs := Tab.keep (fun _ c => c.st ≠ .loading) s.cbs,
    xfers := s.cv.xfers, hbm := s.hbm, plot := s.plot }

/-! ### What restarts (R3, R11, R57, R70, R95, R267, R289, R398, R404, R406) -/

/-- The mailboxes end every command; LOST says that one was waiting, running or unread (R406). -/
def warmMbx (m : Mbx) : Mbx :=
  { Mbx.reset with lost := !m.waiting.isEmpty || m.running.isSome || decide (m.st = .done) }

/-- A region after the reset: its W1C bits are clear. -/
def warmRegion (r : Region) : Region := { r with ocPersist := false, oc := false, disagree := false, drop := false, senseEvt := false }

/-- Levee: the FIFO and BUSY are cleared, the regulator keeps its target (R70). -/
def warmLevee (l : Levee) : Levee :=
  { l with regions := Tab.map (fun _ => warmRegion) l.regions, ready := false, curTag := 0, cmd := none, done := [], lost := 0 }

/-- The registers that keep their values: WR_PROF, WR_CREDIT_CFG, WR_MAP_CFG (R267). -/
def warmRegKept (k : Nat) : Bool :=
  let off := k % 2 ^ 20
  decide (k / 2 ^ 20 = 0x03) && (decide (0x100 ≤ off ∧ off < 0x170) || off = 0x180 || off = 0x300)

/-- A test that runs is discarded, a finished one keeps its result (R404). -/
def warmSt (t : SelfTest) : SelfTest := if t.running then SelfTest.reset else t

/-- The partner link is DOWN; what a teardown counted stays (R146). -/
def warmPartner (p : Partner) : Partner :=
  { Partner.reset with total := p.total, cause := p.cause, merged := p.merged, cqeLost := p.cqeLost, core := p.core, cores := p.cores }

/-- The boot ROM starts on the running slot; whether the device may resume is decided now (R111, R112, R146). -/
def warmBootState (s : State) : Boot :=
  let b := s.boot
  { Boot.reset with slot := b.slot, hbmFail := b.hbmFail, idHi := b.idHi, warmBoot := true, trained := b.trained,
                    digest := b.digest, src := b.src, hbmInService := b.hbmInService, coreMask := b.coreMask,
                    plotGranules := b.plotGranules, sections := b.sections, runLevel := b.runLevel, tenderTag := b.tenderTag,
                    sluiceTag := b.sluiceTag,
                    bootRec := b.bootRec.map fun r =>
                      if s.pt.st = .teardown then sealRec { r with prstPending := some (BitVec.ofNat 8 s.pt.cause) } else r,
                    resumable := b.bootRec.isSome && decide (b.stage = .ready) }

/-- Every block outside the AON domain restarts. -/
def warmState (s : State) : State :=
  let r := State.reset
  let b := warmBootState s
  { r with sys := { s.sys with warmLow := true, freeCtr := s.sys.freeCtr + s.syPend.length, ptpT1 := none, ptpT2 := none,
                               ptpT3 := none, servo := 0, locked := false },
           boot := b, asleep := if b.resumable then some (sleepOf s) else none, flash := s.flash,
           vp := { r.vp with gen := s.vp.gen, layout := s.vp.layout, table := s.vp.table }, mbx := warmMbx s.mbx,
           lv := warmLevee s.lv, clk := { r.clk with aonLock := true, tnLock := true }, ports := s.ports,
           links := Tab.map (fun _ x => { LinkSt.reset with downAt := some (x.downAt.getD s.sys.now) }) s.links,
           wr := { r.wr with mapPeriod := s.wr.mapPeriod, mapFrom := s.sys.now }, log := s.log, st := warmSt s.st,
           regs := Tab.keep (fun k _ => warmRegKept k) s.regs, linkStats := s.linkStats, decryptFails := s.decryptFails,
           pt := warmPartner s.pt, spdm := { Spdm.reset with nextSess := s.spdm.nextSess }, pmem := s.pmem,
           stacksLost := s.stacksLost, out := s.out, rd := s.rd, pending := s.pending }

/-- WARM_RST_N_FALL (R57, R111): a low pulse shorter than 1 µs is ignored, and so is any while COLD_RST_N is low; HALTED ends
only by a cold reset. A second one before the resume changes nothing that is asleep. -/
def execWarmRstNFall (lowNs : Nat) (s : State) : Result :=
  if s.sys.coldLow ∨ lowNs < 1000 ∨ s.boot.stage = .halted ∨ s.sys.straps.test then .next s
  else if s.boot.warmBoot then .next { s with sys.warmLow := true }
  else .next (warmState (cutSlotWrite s))

/-- WARM_RST_N_RISE (R57): the boot ROM goes on from here. -/
def execWarmRstNRise (s : State) : Result := .next { s with sys.warmLow := false }

/-! ### Resuming (R111, R146, R179, R242, R305, R328, R329, R364, R385) -/

/-- The digest of the running slot's Bennath image; the golden bundle's is the image it ran with (R106). -/
def slotDigest (s : State) (r : BootRec) : Bytes :=
  match r.slot, r.src with
  | .golden, .slot x => imageDigest (bundleImage (slotOf s.flash x))
  | .golden, .builtin => imageDigest (builtinFor s)
  | x, _ => imageDigest (bundleImage (slotOf s.flash x))

/-- The conditions of R111. -/
def mayResume (s : State) (r : BootRec) (stacksOk : Bool) : Bool :=
  decide (r.crc = recCrc r) && s.boot.resumable && stacksOk && holdsBundle (slotOf s.flash r.slot)
    && decide (bundleStatus s.sys.fuses.siliconRev (slotOf s.flash r.slot) = Status.ok) && decide (slotDigest s r = r.digest)

/-- The boot registers after a resume. DESIGN CHOICE (log 92): a warm resume of the golden bundle on the normal path leaves
BN_STATUS.STATUS at OK and logs no BOOT_FALLBACK: the bundle is taken up again, it does not boot as a fallback. Unsafe. -/
def wakeBoot (b : Boot) (r : BootRec) (i : Option Image) : Boot :=
  let c : Cand := { tried := true, status := Status.ok }
  { b with stage := .ready, warm := true, resumeLost := false, warmBoot := false, resumable := false, image := i, cur := some r.slot,
           candA := if r.slot = .a then c else Cand.reset, candB := if r.slot = .b then c else Cand.reset,
           candG := if r.slot = .golden then c else Cand.reset, runLevel := r.runLevel,
           bootRec := some (sealRec { r with prstPending := none }) }

/-- The engines take their records from HBM again; the structure, the table and the committed features are those of before
(R111, R120). -/
def wakeAll (s : State) (r : BootRec) (a : Asleep) : State :=
  let offer := match a.image with | some i => offerOf i | none => 0
  let hm : Bool := match a.image with | some i => i.mode = .h | none => false
  let mgrCap : Bool := match a.image with | some i => i.roleCap = 2 | none => false
  let s := { s with
    boot := wakeBoot s.boot r a.image, asleep := none,
    feat := { Feat.reset with offer := offer, ack := r.feat, committed := r.committed, subset := r.feat },
    vp.tvalid := true, lv.ready := true,
    clk := { s.clk with hbmLock := s.boot.hbmInService, hostLock := !hm, tnLock := true, fwLock := true, slLock := true },
    basin := { a.basin with lastHb := s.sys.now }, mgr := { Mgr.reset with dir := a.dir, loadAt := s.sys.now }, policy := a.policy,
    pages := a.ktBusy, own := a.own, insts := a.insts, wqs := a.wqs, cqs := a.cqs, infl := a.infl, accSeq := a.accSeq,
    spans := a.spans, keys := a.keys, bx := a.bx, nextBx := a.nextBx, allocs := a.allocs, qps := a.qps, shadows := a.shadows,
    mirBlk := a.mirBlk, sy := a.sy, syPend := a.syPend, pieceClock := a.pieceClock, groups := a.groups, rn := a.rn, fw := a.fw, cbs := a.cbs,
    cv := { s.cv with xfers := a.xfers }, hbm := a.hbm, plot := a.plot,
    pt := if hm then { s.pt with st := .hosted } else if s.pt.trained then { s.pt with st := .up } else s.pt }
  match a.image with
  | none => s
  | some i =>
    if mgrCap then
      { putReg s 0x0B 0x208 (hbOf i) with
          basin.period := fld (hbOf i) 15 0, basin.miss := fld (hbOf i) 19 16, basin.nextPeriod := fld (hbOf i) 15 0,
          basin.nextMiss := fld (hbOf i) 19 16 }
    else s
/-- Tender reloads every LOADED codebook slot; one whose CRC differs becomes POISONED (R364). -/
def reloadCbs (s : State) : State :=
  s.cbs.foldl (fun s p =>
    if p.2.st = .loaded ∧ (crc32c p.2.data ≠ p.2.crc ∨ (p.2.bad1 ∧ p.2.bad2)) then
      logEv { s with cbs := Tab.put s.cbs p.1 { p.2 with st := .poisoned } } 0x0054 Status.ok 0x09 p.1 [1]
    else s) s

/-- A teardown that the reset interrupted runs again from step 1 (R146). -/
def resumeTeardown (s : State) (r : BootRec) : State :=
  if r.prstPending = none then s
  else
    let t := { s with pt.st := .teardown, pt.tdStep := 1 }
    teardownStep (teardownStep (teardownStep (teardownStep (teardownStep (teardownStep (teardownStep (teardownStep (teardownStep
      (teardownStep t)))))))))

/-- A destroy that the reset interrupted restarts from step 1 (R385). -/
def resumeDestroys (s : State) : State :=
  s.insts.foldl (fun s p => match p.2.destroying with
    | some v => forceRest (forceStart s v p.1) v p.1
    | none => s) s

/-- A queue pair's transport record is read again: with both copies lost the pair is in ERROR (R202, R237; log 112), otherwise its
journal is replayed, and one that was CONNECTED or RESYNCING becomes the initiator of a resync (R242, R243). -/
def resumeQp (s : State) (n : Nat) (p : Qp) : State :=
  if p.st = .free then s
  else if p.bad1 && p.bad2 then qpError (logCorrupt s 0x02 3 n) n Status.descriptorCrc false
  else
    let s := replayJour s n
    if p.st = .connected ∨ p.st = .resyncing then startResync s n else s

/-- Every queue pair resumes. -/
def resumeQps (s : State) : State := s.qps.foldl (fun s p => resumeQp s p.1 p.2) s

/-- A member sends its contribution to a running Runnel collective again, with REPLAY (R329). -/
def replayColl (s : State) (n : Nat) (g : Group) : State :=
  match g.coll with
  | none => s
  | some c =>
    match (if c.runnel then g.kept.find? (fun y => y.seq = c.seq) else none), Tab.find s.infl (inflKey c.q c.i) with
    | some k, some r => runnelStep (sendContrib s g true k.seq k.sig (envOf s g r.ent c.src).dt k.data) n
    | _, _ => s

/-- Every Runnel stream restarts, and running collectives replay (R328, R329). -/
def resumeRunnel (s : State) : State :=
  let s := s.rn.streams.foldl (fun s p => rnRestart s p.1) s
  s.groups.foldl (fun s p => replayColl s p.1 p.2) s

/-- READY after a resume. -/
def resumed (s : State) (r : BootRec) (a : Asleep) : State :=
  resumeRunnel (resumeQps (resumeDestroys (resumeTeardown (reloadCbs (wakeAll s r a)) r)))

/-- A warm reset that cannot resume: HBM contents go, the boot follows the cold order (R112). -/
def resumeLost (s : State) : State :=
  let s := logEv s 0x0005 Status.ok 0x0E 0 []
  let b := { s.boot with warm := false, resumeLost := true, warmBoot := false, resumable := false, trained := false,
                         bootRec := none, image := none, hbmInService := 0 }
  let d := discardAll { s with boot := b, stacksLost := 0 }
  startCands { d with asleep := none } false

/-- WARM_RESUME (R111, R112). -/
def execWarmResume (stacksOk : Bool) (s : State) : Result :=
  if s.sys.coldLow ∨ s.sys.warmLow ∨ !s.boot.warmBoot then .next s
  else match s.boot.bootRec, s.asleep with
    | some r, some a => if mayResume s r stacksOk then .next (resumed s r a) else .next (resumeLost s)
    | _, _ => .next (resumeLost s)

end Sys2Proof.Machine
end

