-- ==== Sys2Proof/Machine/SelfTest.lean ====
section
/-!
DEFINITION. Foreground self-tests (spec file 18, R403 and R404).
-/
namespace Sys2Proof.Machine

/-- Units of a target; 0 for an undefined one (R403). -/
def stUnits (target : Nat) : Nat :=
  if target = 1 then 16 else if target = 2 then 48 else if target = 3 then 8 else if 4 ≤ target ∧ target ≤ 7 then 1 else 0

/-- The unit is in service (R403 check 2). -/
def stInService (s : State) (target unit : Nat) : Bool :=
  if target = 1 then !(port s (unit / 2)).failed else if target = 2 then coreIn s unit else if target = 3 then !(port s unit).failed
  else true

/-- A link is up, training or dormant. -/
def linkInUse (s : State) (l : Nat) : Bool :=
  (link s l).up || (isTraining s l && (port s (l / 4)).modState = .ready) || (link s l).dorm = .dormant || (link s l).dorm = .waking

/-- An ENABLED queue's gate is closed. -/
def gateShut (s : State) : Bool :=
  s.wqs.any (fun x => x.2.st = .enabled && (match x.2.gate with | some g => decide ((cnt s g.counter).value < gateT g x.2.ci) | none => false))

/-- The target is busy (R403 check 4). -/
def stBusy (s : State) (target unit : Nat) : Bool :=
  if target = 1 then (engineLinks s unit).any (linkInUse s)
  else if target = 2 then decide (0 < coreUse s unit)
  else if target = 3 then (portLinks s unit).any (fun l => linkInUse s l || (link s l).cal ≠ .idle)
  else if target = 4 then !s.syPend.isEmpty || gateShut s
    || s.infl.any (fun p => p.2.disp && p.2.done.isNone && entOp p.2.ent = 0x22 && decide (3 ≤ sopOf p.2.ent))
  else if target = 5 then s.ats.any (fun r => !r.refused) || !s.rxHeld.isEmpty || s.spans.any (fun p => p.2.moving.isSome)
  else if target = 6 then s.cbs.any (fun p => p.2.st = .loading) || s.infl.any (fun p => p.2.done.isNone && cbNamed p.2 ≠ some [])
  else s.groups.any (fun p => match p.2.coll with | some c => c.runnel | none => false)

/-- SELFTEST_START (R403): a write of TN_ST_CMD. -/
def execSelftestStart (w : RegWr) (s : State) : Result :=
  let v := w.data.toNat
  let start := bitN v 31
  let target := fld v 15 8
  let unit := fld v 7 0
  if !windowLive s then .next s
  else .next (checked s (regAddr s 0x0B 0x600) none w
    [(noRsv w 0x7F000000, Status.badField), (!start || decide (unit < stUnits target), Status.badField),
     (!start || stInService s target unit, Status.notPermitted), (!start || !s.st.running, Status.busy),
     (!start || !stBusy s target unit, Status.busy)]
    (if start then { s with st := { running := true, done := false, result := false, tag := fld v 23 16, target := target, unit := unit,
                                    started := s.sys.now, detail := 0 } } else s))

/-- What a failed test does to its target (R403, R38, R354). -/
def stFail (s : State) (target unit : Nat) : State :=
  let portFail (p : Nat) : State :=
    openOwnWin (logEv (portDown (putPort s p { port s p with failed := true }) p) 0x0023 Status.ok 0x02 p [1])
  if target = 1 then portFail (unit / 2)
  else if target = 3 then portFail unit
  else if target = 2 then (match execCoreLost unit s with | .next t => t | _ => s)
  else if target = 6 then
    s.cbs.foldl (fun s p => if p.2.st = .loaded then
        logEv { s with cbs := Tab.put s.cbs p.1 { p.2 with st := .poisoned } } 0x0054 Status.ok 0x09 p.1 [0]
      else s) s
  else s

/-- SELFTEST_DONE (R404): `failed` names the first failing sub-test. -/
def execSelftestDone (failed : Option Nat) (s : State) : Result :=
  if !s.st.running then .next s
  else
    let t := s.st
    let d := match failed with | some n => n % 2 ^ 32 | none => 0
    let s := { s with st := { t with running := false, done := true, result := failed.isSome, detail := d } }
    let s := if failed.isSome then stFail s t.target t.unit else s
    let s := logSev s 0x0080 Status.ok 0x0B (if failed.isSome then 2 else 0) (256 * t.target + t.unit)
      ([BitVec.ofNat 8 t.tag, BitVec.ofNat 8 (bit failed.isSome), 0, 0] ++ putLE 4 d)
    let s := if t.target = 7 then rnRelease s
      else if t.target = 5 then rxRelease s else s
    .next (raise s 4)

end Sys2Proof.Machine
end

