-- ==== Sys2Proof/Machine/Weir.lean ====
section
/-!
DEFINITION. Weir: the rate law, telemetry snapshots, congestion maps, the queue-pair query (spec file 11, R251 to R268).
-/
namespace Sys2Proof.Machine

/-! ### The rate law (R254, R255) -/

/-- INTERVAL in ns of a profile. -/
def intervalNs (pr : Nat × Nat × Nat × Nat) : Nat := fld pr.1 23 16 * 1000

/-- S of an interval (R254). -/
def severity (r : Rate) : Nat :=
  let a := r.prof.1
  let lo := fld r.prof.2.1 15 0 * 10
  let hi := fld r.prof.2.1 31 16 * 10
  let ecn := if bitN a 31 ∧ r.acks ≠ 0 then 256 * r.eces / r.acks else 0
  let delay := match r.qmin with
    | some q => if !bitN a 30 ∨ q ≤ lo then 0 else if hi ≤ q then 256 else 256 * (q - lo) / (hi - lo)
    | none => 0
  max ecn (max delay (if r.loss then 256 else 0))

/-- The cap of R254: the link rate and the credit cap. -/
def capRate (r : Rate) (lnk v : Nat) : Nat :=
  let v := min v lnk
  if bitN r.prof.1 29 ∧ r.creditCap ≠ 0 then min v (r.creditCap * 6250) else v

/-- R and C after an interval (R254). -/
def nextRate (r : Rate) (lnk : Nat) : Nat × Nat :=
  let s := severity r
  let md := fld r.prof.1 15 8
  let ai := fld r.prof.1 7 0 * 100
  let rmin := fld r.prof.2.2.1 9 0 * 100
  let after := fld r.prof.2.2.1 19 14
  let mult := fld r.prof.2.2.1 23 20
  let p := if 0 < s then (max rmin (r.r - r.r * s * md / 65536), 0)
    else if r.acks = 0 then (r.r, r.clean)
    else (r.r + (if r.clean + 1 < after then ai else ai * mult), r.clean + 1)
  (capRate r lnk p.1, p.2)

/-- WEIR_INTERVAL_END (R254, R258, R261). -/
def execWeirIntervalEnd (n : Nat) (s : State) : Result :=
  match qpOf s n with
  | none => .next s
  | some p =>
    match p.rate.startAt with
    | none => .next s
    | some t =>
      if p.st ≠ .connected then .next s
      else onBlk .weir s fun s =>
        let r := p.rate
        let l := curLink p
        let s := advanceTo s (t + intervalNs r.prof)
        let sev := severity r
        let (v, c) := nextRate r (linkRate s l)
        let cuts := if 0 < sev then satInc 32 r.cuts else r.cuts
        let tok := tokensNow s r
        let s := if 0 < sev then accUp (weirStat s l 6) l (fun a => { a with cuts := a.cuts + 1 }) else s
        let qm := r.qmin.getD r.lastQm
        .next (putQp s n { p with rate :=
          { r with r := v, clean := c, tokens := tok, tokAt := s.sys.now, acks := 0, eces := 0, loss := false, qmin := none,
                   creditCap := 0, startAt := some s.sys.now, lastS := sev, lastQm := qm, cuts := cuts,
                   prof := profile s (qTc p), snap := (v, r.creditRx, c, qm, sev, cuts) } })

/-- RATE_IDLE_RESET (R255): 1 ms with no unacknowledged packet. -/
def execRateIdleReset (n : Nat) (s : State) : Result :=
  match qpOf s n with
  | none => .next s
  | some p =>
    if p.st ≠ .connected ∨ p.sndUna ≠ p.sndNxt then .next s
    else onBlk .weir s fun s =>
      let s := advanceTo s (p.rate.idleAt + 1000000)
      let i := rateInit s p
      .next (putQp s n { p with rate :=
        { i with samples := p.rate.samples, lastEcho := p.rate.lastEcho, tokens := tokensNow s p.rate, lastS := p.rate.lastS,
                 lastQm := p.rate.lastQm } })

/-! ### Snapshots and link blocks (R259 to R261) -/

/-- Eleven values of every link block, by 16 × link + index. -/
def linkBlocks (s : State) : Tab Nat :=
  (List.range 32).foldl (fun t l =>
    if !linkExists s l then t
    else
      let vs := (List.range 8).map (fun k => Tab.getD s.wr.counters (l * 16 + k) 0)
        ++ [Tab.getD s.wr.qdepth l 0, Tab.getD s.wr.qmax l 0, activeQps s l]
      vs.zipIdx.foldl (fun t v => Tab.put t (l * 16 + v.2) v.1) t) []

/-- WR_SNAP (R260): GO takes the snapshot of every link block at one instant. -/
def execWrSnapGo (w : RegWr) (s : State) : Result :=
  if !windowLive s then .next s
  else
    let tag := fld w.data.toNat 23 16
    let t := if bitN w.data.toNat 0 then
        { s with wr.snap := linkBlocks s, wr.snapTime := s.sys.now, wr.snapTag := tag, wr.snapDone := true }
      else { s with wr.snapTag := tag }
    .next (checked s (regAddr s 0x03 0x200) none w
      [(devOwner s w, Status.notPermitted), (noRsv w 0x7F00FFFE, Status.badField)] t)

/-- A read of QDEPTH_MAX in a live block (R259): it returns to the present QDEPTH. -/
def execQdepthMaxRead (l : Nat) (s : State) : Result :=
  if !windowLive s then .next s
  else if !linkExists s l then .next (setRd s 0)
  else .next (setRd { s with wr.qmax := Tab.put s.wr.qmax l (Tab.getD s.wr.qdepth l 0) } (Tab.getD s.wr.qmax l 0))

/-! ### Congestion maps (R262 to R266) -/

/-- A map's entry for a link (R264). -/
def mapEntry (s : State) (period l : Nat) : Bytes :=
  let a := accOf s l
  let x := link s l
  let den := linkRate s l * period * 25
  let util (n : Nat) : Nat := if den = 0 then 0 else min 65535 (n * 131072 / den)
  let state := bit x.up + 2 * bit (x.dorm = .dormant) + 4 * bit (isTraining s l && (port s (l / 4)).modState = .ready) + 8 * bit (port s (l / 4)).failed
  putBE 1 l ++ putBE 1 state ++ putBE 2 (min 65535 a.active) ++ putBE 2 (util a.tx) ++ putBE 2 (util a.rx)
    ++ putBE 4 (min (2 ^ 32 - 1) a.qmax) ++ putBE 4 (min (2 ^ 32 - 1) a.stall) ++ putBE 4 (min (2 ^ 32 - 1) a.ce)
    ++ putBE 2 (min 65535 (a.qsum / max 1 a.qcnt / 10)) ++ putBE 2 (min 65535 (a.qhi / 10))
    ++ putBE 4 (min (2 ^ 32 - 1) a.retx) ++ putBE 4 (min (2 ^ 32 - 1) a.cuts)

/-- A device's map of the period just ended (R263). -/
def mapBytes (s : State) : Bytes :=
  let ls := (List.range 32).filter (linkExists s)
  let fl := bit s.sys.locked + 2 * bit s.wr.thrSeen + 4 * bit (s.pt.st = .up)
  let h := [(0x4D : Byte), 1] ++ putBE 1 s.basin.slot ++ putBE 1 ls.length ++ putBE 4 s.wr.mapSeq ++ putBE 8 s.sys.now
    ++ putBE 4 s.basin.epoch ++ putBE 2 s.wr.mapPeriod ++ putBE 1 fl ++ zeros 5
  let es := (ls.map (mapEntry s s.wr.mapPeriod)).flatten
  h ++ putBE 4 (crcN (h ++ es)) ++ es

/-- What a new period starts with (R264): the queue pairs active and the frames queued at its first instant. -/
def freshAcc (s : State) : Tab MapAcc :=
  (List.range 32).foldl (fun t l =>
    let q := Tab.getD s.wr.qdepth l 0
    let n := activeQps s l
    if n = 0 ∧ q = 0 then t else Tab.put t l { accOf { s with wr.acc := [] } l with active := n, qmax := q }) []

/-- MAP_PERIOD_END (R262). -/
def execMapPeriodEnd (s : State) : Result :=
  let cfg := getReg s 0x03 0x300
  let member : Bool := s.basin.role = .worker || s.basin.role = .standby || s.basin.role = .active
  if !windowLive s ∨ !bitN cfg 31 ∨ !member then .next s
  else onBlk .weir s fun s =>
    let s := advanceTo s (s.wr.mapFrom + s.wr.mapPeriod * 100000)
    let b := mapBytes s
    let s := if s.basin.role = .active then placeMap s s.basin.slot b
      else match (if s.basin.mgrMissing ∨ s.basin.mgrSlot = 0 then none else basinQp s s.basin.mgrSlot) with
        | some n => queueReq s n 1 b.length mapAddr 0 0 false 0 0 [] (.bytes b) .nobody
        | none => s
    .next { s with wr.mapSeq := (s.wr.mapSeq + 1) % 2 ^ 32, wr.mapFrom := s.sys.now, wr.mapPeriod := fld cfg 9 0,
                   wr.acc := freshAcc s, wr.thrSeen := s.lv.regions.any (fun r => r.2.throttled) }

/-- MAP_SLOT_EXPIRY (R265): no map for 4 × the stored PERIOD. -/
def execMapSlotExpiry (slot : Nat) (s : State) : Result :=
  match Tab.find s.wr.maps slot with
  | none => .next s
  | some b =>
    if !mapCurrent s slot then .next s
    else
      let s := advanceTo s (Tab.getD s.wr.mapAt slot 0 + 4 * getBE b 20 2 * 100000)
      .next { s with wr.mapValid := clearSlot s.wr.mapValid slot }

/-! ### The queue-pair query (R261, R268) -/

/-- WR_QCMD QUERY: the copy of the queue pair's last interval end (R268). -/
def execWrQuery (inst : Nat) (w : RegWr) (s : State) : Result :=
  let n := getPage s inst 0x180
  if w.full ∧ w.data = 0 then .next s
  else pageCmd s inst 0x184 0x188 w
    [(noRsv w 0xFFFFFFFE && decide (n < qpMax s), Status.badField), (mayUse s.own.qp n inst, Status.notPermitted),
     (instHas s inst 25, Status.featureNotNegotiated), (!qpFree s n, Status.queueDisabled)]
    (fun s => match qpOf s n with
      | none => s
      | some p =>
        let (r, credit, clean, qm, sev, cuts) := p.rate.snap
        putPage (putPage (putPage s inst 0x18C (r / 100 * 2 ^ 16 + credit * 256 + min 63 clean))
          inst 0x190 (min 65535 (qm / 10) * 2 ^ 16 + min 255 sev * 256)) inst 0x194 cuts)

end Sys2Proof.Machine
end

