-- ==== Sys2Proof/Machine/Dispatch.lean ====
section
/-!
DEFINITION. The dispatch: one arm per command, each a direct call of its meaning.
-/
namespace Sys2Proof.Machine

/-- A command's effect on everything but the queue of waiting commands. -/
def exec (i : Instr) (s : State) : Host.Outcome State Fault Refusal :=
  match i with
  | .registerWrite w => Sys2Proof.Machine.execRegisterWrite w s
  | .vpWerrClear w => Sys2Proof.Machine.execVpWerrClear w s
  | .coldRstNRise straps => Sys2Proof.Machine.execColdRstNRise straps s
  | .coldRstNFall => Sys2Proof.Machine.execColdRstNFall s
  | .bundleVerify => Sys2Proof.Machine.execBundleVerify s
  | .firmwareRunning => Sys2Proof.Machine.execFirmwareRunning s
  | .imageVerify => Sys2Proof.Machine.execImageVerify s
  | .hbmTrained failed => Sys2Proof.Machine.execHbmTrained failed s
  | .structureApplied => Sys2Proof.Machine.execStructureApplied s
  | .vapenBuilt lay => Sys2Proof.Machine.execVapenBuilt lay s
  | .warmRstNFall lowNs => Sys2Proof.Machine.execWarmRstNFall lowNs s
  | .warmResume stacksOk => Sys2Proof.Machine.execWarmResume stacksOk s
  | .junctionOvertemp tempC => Sys2Proof.Machine.execJunctionOvertemp tempC s
  | .gridExcursion region deltaMv => Sys2Proof.Machine.execGridExcursion region deltaMv s
  | .ocThrottleEnter unit samples => Sys2Proof.Machine.execOcThrottleEnter unit samples s
  | .throttleExit unit highest ns => Sys2Proof.Machine.execThrottleExit unit highest ns s
  | .ocPersist unit => Sys2Proof.Machine.execOcPersist unit s
  | .senseOpen region pairB readings => Sys2Proof.Machine.execSenseOpen region pairB readings s
  | .drop region samples => Sys2Proof.Machine.execDrop region samples s
  | .disagree region samples => Sys2Proof.Machine.execDisagree region samples s
  | .pmbusPoll faults => Sys2Proof.Machine.execPmbusPoll faults s
  | .lvVcmd w => Sys2Proof.Machine.execLvVcmd w s
  | .vcmdSettle r1 r2 => Sys2Proof.Machine.execVcmdSettle r1 r2 s
  | .vcmdTimeout => Sys2Proof.Machine.execVcmdTimeout s
  | .avsbusSilent => Sys2Proof.Machine.execAvsbusSilent s
  | .lvVdoneRead => Sys2Proof.Machine.execLvVdoneRead s
  | .devtimeLoRead => Sys2Proof.Machine.execDevtimeLoRead s
  | .blockGate b => Sys2Proof.Machine.execBlockGate b s
  | .wakeEvent b => Sys2Proof.Machine.execWakeEvent b s
  | .furrowPllPowerDown => Sys2Proof.Machine.execFurrowPllPowerDown s
  | .ptpMessage m => Sys2Proof.Machine.execPtpMessage m s
  | .ppsInEdge => Sys2Proof.Machine.execPpsInEdge s
  | .moduleInsertion port info => Sys2Proof.Machine.execModuleInsertion port info s
  | .cmisPoll port ans => Sys2Proof.Machine.execCmisPoll port ans s
  | .moduleRead answers => Sys2Proof.Machine.execModuleRead answers s
  | .moduleWrite answers => Sys2Proof.Machine.execModuleWrite answers s
  | .slCalStart link w => Sys2Proof.Machine.execSlCalStart link w s
  | .calIdleWindow link ns => Sys2Proof.Machine.execCalIdleWindow link ns s
  | .calComplete link => Sys2Proof.Machine.execCalComplete link s
  | .calDeferTimeout link => Sys2Proof.Machine.execCalDeferTimeout link s
  | .linkTrained link merge => Sys2Proof.Machine.execLinkTrained link merge s
  | .linkDown link => Sys2Proof.Machine.execLinkDown link s
  | .offer link body => Sys2Proof.Machine.execOffer link body s
  | .offerReplyTimeout link => Sys2Proof.Machine.execOfferReplyTimeout link s
  | .masterIdleEnter link => Sys2Proof.Machine.execMasterIdleEnter link s
  | .enter link body => Sys2Proof.Machine.execEnter link body s
  | .enterAck link body => Sys2Proof.Machine.execEnterAck link body s
  | .enterNak link body => Sys2Proof.Machine.execEnterNak link body s
  | .cancel link body => Sys2Proof.Machine.execCancel link body s
  | .dormancyHoldEnd link => Sys2Proof.Machine.execDormancyHoldEnd link s
  | .enterAckTimeout link => Sys2Proof.Machine.execEnterAckTimeout link s
  | .wakeWindowOpen link => Sys2Proof.Machine.execWakeWindowOpen link s
  | .hello link body => Sys2Proof.Machine.execHello link body s
  | .wakeWindowClose link => Sys2Proof.Machine.execWakeWindowClose link s
  | .retrainLoopback link pass => Sys2Proof.Machine.execRetrainLoopback link pass s
  | .dormMissLimit link => Sys2Proof.Machine.execDormMissLimit link s
  | .heartbeatPeriod => Sys2Proof.Machine.execHeartbeatPeriod s
  | .heartbeat m => Sys2Proof.Machine.execHeartbeat m s
  | .hbReply m => Sys2Proof.Machine.execHbReply m s
  | .managerMissing => Sys2Proof.Machine.execManagerMissing s
  | .workerLost serial => Sys2Proof.Machine.execWorkerLost serial s
  | .leaseExpiry => Sys2Proof.Machine.execLeaseExpiry s
  | .unjoinedClaimStart => Sys2Proof.Machine.execUnjoinedClaimStart s
  | .claimPeriod => Sys2Proof.Machine.execClaimPeriod s
  | .claim m => Sys2Proof.Machine.execClaim m s
  | .grant m => Sys2Proof.Machine.execGrant m s
  | .revoke m => Sys2Proof.Machine.execRevoke m s
  | .withdraw m => Sys2Proof.Machine.execWithdraw m s
  | .handover m => Sys2Proof.Machine.execHandover m s
  | .claimWaitElapsed => Sys2Proof.Machine.execClaimWaitElapsed s
  | .claimTimeout => Sys2Proof.Machine.execClaimTimeout s
  | .yieldingTimeout => Sys2Proof.Machine.execYieldingTimeout s
  | .hbParamSwitch => Sys2Proof.Machine.execHbParamSwitch s
  | .joinRetry => Sys2Proof.Machine.execJoinRetry s
  | .joinTimeout => Sys2Proof.Machine.execJoinTimeout s
  | .join m ev => Sys2Proof.Machine.execJoin m ev s
  | .joinAck m => Sys2Proof.Machine.execJoinAck m s
  | .joinNak m => Sys2Proof.Machine.execJoinNak m s
  | .roleCmdYield w => Sys2Proof.Machine.execRoleCmdYield w s
  | .roleCmdRequestSwap w => Sys2Proof.Machine.execRoleCmdRequestSwap w s
  | .roleCmdLeave w => Sys2Proof.Machine.execRoleCmdLeave w s
  | .roleCmdResetNotice w => Sys2Proof.Machine.execRoleCmdResetNotice w s
  | .leave m => Sys2Proof.Machine.execLeave m s
  | .leaveAck m => Sys2Proof.Machine.execLeaveAck m s
  | .leaveTimeout => Sys2Proof.Machine.execLeaveTimeout s
  | .lost m => Sys2Proof.Machine.execLost m s
  | .resetNotice m => Sys2Proof.Machine.execResetNotice m s
  | .noticeAck m => Sys2Proof.Machine.execNoticeAck m s
  | .noticeTimeout => Sys2Proof.Machine.execNoticeTimeout s
  | .excuseExpiry serial => Sys2Proof.Machine.execExcuseExpiry serial s
  | .plotMapFetched map => Sys2Proof.Machine.execPlotMapFetched map s
  | .directoryReplication seq dir epoch => Sys2Proof.Machine.execDirectoryReplication seq dir epoch s
  | .replicationAck seq serial => Sys2Proof.Machine.execReplicationAck seq serial s
  | .promotion plot => Sys2Proof.Machine.execPromotion plot s
  | .spareCopyDone plot => Sys2Proof.Machine.execSpareCopyDone plot s
  | .recoveryWindowExpiry basinWide => Sys2Proof.Machine.execRecoveryWindowExpiry basinWide s
  | .heldCommandTimeout => Sys2Proof.Machine.execHeldCommandTimeout s
  | .heldCommandResend => Sys2Proof.Machine.execHeldCommandResend s
  | .basinAlloc r => Sys2Proof.Machine.execBasinAlloc r s
  | .basinFree r => Sys2Proof.Machine.execBasinFree r s
  | .basinPairPair r => Sys2Proof.Machine.execBasinPairPair r s
  | .basinPairMarkSpare r => Sys2Proof.Machine.execBasinPairMarkSpare r s
  | .basinPairUnmarkSpare r => Sys2Proof.Machine.execBasinPairUnmarkSpare r s
  | .basinQueryMap slot => Sys2Proof.Machine.execBasinQueryMap slot s
  | .basinQueryAlloc slot handle => Sys2Proof.Machine.execBasinQueryAlloc slot handle s
  | .partnerAllocFree slot inst => Sys2Proof.Machine.execPartnerAllocFree slot inst s
  | .partnerHbArm w => Sys2Proof.Machine.execPartnerHbArm w s
  | .partnerHbBeat w => Sys2Proof.Machine.execPartnerHbBeat w s
  | .partnerHbDisarm w => Sys2Proof.Machine.execPartnerHbDisarm w s
  | .partnerHbExpiry => Sys2Proof.Machine.execPartnerHbExpiry s
  | .partnerLinkDown => Sys2Proof.Machine.execPartnerLinkDown s
  | .partnerFatalError => Sys2Proof.Machine.execPartnerFatalError s
  | .hostReset => Sys2Proof.Machine.execHostReset s
  | .snoopTimeout line => Sys2Proof.Machine.execSnoopTimeout line s
  | .partnerLinkTrained t => Sys2Proof.Machine.execPartnerLinkTrained t s
  | .ucieModuleLost m => Sys2Proof.Machine.execUcieModuleLost m s
  | .partnerSnoop line store => Sys2Proof.Machine.execPartnerSnoop line store s
  | .backInvalidateAnswer line dirty => Sys2Proof.Machine.execBackInvalidateAnswer line dirty s
  | .hdmAccess a => Sys2Proof.Machine.execHdmAccess a s
  | .atsCompletion inst addr ans => Sys2Proof.Machine.execAtsCompletion inst addr ans s
  | .atsTimeout inst addr => Sys2Proof.Machine.execAtsTimeout inst addr s
  | .atsInvalidationRequest pasid addr len => Sys2Proof.Machine.execAtsInvalidationRequest pasid addr len s
  | .culvertDoorbell k w => Sys2Proof.Machine.execCulvertDoorbell k w s
  | .culvertTransferDone k slot => Sys2Proof.Machine.execCulvertTransferDone k slot s
  | .cvPoolDisable k w => Sys2Proof.Machine.execCvPoolDisable k w s
  | .cvOvfRegister w => Sys2Proof.Machine.execCvOvfRegister w s
  | .tenderCoreFail core => Sys2Proof.Machine.execTenderCoreFail core s
  | .stackLost stack => Sys2Proof.Machine.execStackLost stack s
  | .hgDb q w => Sys2Proof.Machine.execHgDb q w s
  | .pushWrite win p => Sys2Proof.Machine.execPushWrite win p s
  | .descriptorFetch q idx => Sys2Proof.Machine.execDescriptorFetch q idx s
  | .descriptorRetry q => Sys2Proof.Machine.execDescriptorRetry q s
  | .entryAccept q => Sys2Proof.Machine.execEntryAccept q s
  | .hgInvFence q w => Sys2Proof.Machine.execHgInvFence q w s
  | .hgInvRelease q w => Sys2Proof.Machine.execHgInvRelease q w s
  | .hgQctrlEnable q w => Sys2Proof.Machine.execHgQctrlEnable q w s
  | .hgQctrlDisable q w => Sys2Proof.Machine.execHgQctrlDisable q w s
  | .hgQcmdCreate inst w => Sys2Proof.Machine.execHgQcmdCreate inst w s
  | .hgQcmdDestroy inst w => Sys2Proof.Machine.execHgQcmdDestroy inst w s
  | .hgQcmdReset inst w => Sys2Proof.Machine.execHgQcmdReset inst w s
  | .hgQcmdModify inst w => Sys2Proof.Machine.execHgQcmdModify inst w s
  | .hgCcmdCreate inst w => Sys2Proof.Machine.execHgCcmdCreate inst w s
  | .hgCcmdDestroy inst w => Sys2Proof.Machine.execHgCcmdDestroy inst w s
  | .hgCcmdReset inst w => Sys2Proof.Machine.execHgCcmdReset inst w s
  | .hgCqdb c w => Sys2Proof.Machine.execHgCqdb c w s
  | .hgCqarm c w => Sys2Proof.Machine.execHgCqarm c w s
  | .cqModTimeExpiry c => Sys2Proof.Machine.execCqModTimeExpiry c s
  | .wqeComplete q => Sys2Proof.Machine.execWqeComplete q s
  | .queueErrorEntry q => Sys2Proof.Machine.execQueueErrorEntry q s
  | .nop q idx => Sys2Proof.Machine.execNop q idx s
  | .write q idx => Sys2Proof.Machine.execWrite q idx s
  | .writeImm q idx => Sys2Proof.Machine.execWriteImm q idx s
  | .read q idx => Sys2Proof.Machine.execRead q idx s
  | .send q idx => Sys2Proof.Machine.execSend q idx s
  | .sendImm q idx => Sys2Proof.Machine.execSendImm q idx s
  | .atomicFadd q idx => Sys2Proof.Machine.execAtomicFadd q idx s
  | .atomicCswap q idx => Sys2Proof.Machine.execAtomicCswap q idx s
  | .recv q idx => Sys2Proof.Machine.execRecv q idx s
  | .basinLoad q idx => Sys2Proof.Machine.execBasinLoad q idx s
  | .basinStore q idx => Sys2Proof.Machine.execBasinStore q idx s
  | .prefetch q idx => Sys2Proof.Machine.execPrefetch q idx s
  | .adviseWillNeed q idx => Sys2Proof.Machine.execAdviseWillNeed q idx s
  | .adviseDontNeed q idx => Sys2Proof.Machine.execAdviseDontNeed q idx s
  | .adviseReadMostly q idx => Sys2Proof.Machine.execAdviseReadMostly q idx s
  | .advisePreferHbm q idx => Sys2Proof.Machine.execAdvisePreferHbm q idx s
  | .advisePreferPartner q idx => Sys2Proof.Machine.execAdvisePreferPartner q idx s
  | .allReduce q idx => Sys2Proof.Machine.execAllReduce q idx s
  | .reduceScatter q idx => Sys2Proof.Machine.execReduceScatter q idx s
  | .allGather q idx => Sys2Proof.Machine.execAllGather q idx s
  | .broadcast q idx => Sys2Proof.Machine.execBroadcast q idx s
  | .reduce q idx => Sys2Proof.Machine.execReduce q idx s
  | .allToAll q idx => Sys2Proof.Machine.execAllToAll q idx s
  | .allToAllV q idx => Sys2Proof.Machine.execAllToAllV q idx s
  | .barrier q idx => Sys2Proof.Machine.execBarrier q idx s
  | .kernelLaunch q idx => Sys2Proof.Machine.execKernelLaunch q idx s
  | .synkoAdd q idx => Sys2Proof.Machine.execSynkoAdd q idx s
  | .synkoSet q idx => Sys2Proof.Machine.execSynkoSet q idx s
  | .waitGe q idx => Sys2Proof.Machine.execWaitGe q idx s
  | .armFire q idx => Sys2Proof.Machine.execArmFire q idx s
  | .cbLoad q idx => Sys2Proof.Machine.execCbLoad q idx s
  | .spCreate inst w => Sys2Proof.Machine.execSpCreate inst w s
  | .spDestroy inst w => Sys2Proof.Machine.execSpDestroy inst w s
  | .spQuery inst w => Sys2Proof.Machine.execSpQuery inst w s
  | .ktCreate inst w => Sys2Proof.Machine.execKtCreate inst w s
  | .ktInvalidate inst w => Sys2Proof.Machine.execKtInvalidate inst w s
  | .ktQuery inst w => Sys2Proof.Machine.execKtQuery inst w s
  | .keyFree index => Sys2Proof.Machine.execKeyFree index s
  | .spanMoveDone index => Sys2Proof.Machine.execSpanMoveDone index s
  | .slQpCreate inst w => Sys2Proof.Machine.execSlQpCreate inst w s
  | .slQpConnect inst w => Sys2Proof.Machine.execSlQpConnect inst w s
  | .slQpReset inst w => Sys2Proof.Machine.execSlQpReset inst w s
  | .slQpDestroy inst w => Sys2Proof.Machine.execSlQpDestroy inst w s
  | .slQpQuery inst w => Sys2Proof.Machine.execSlQpQuery inst w s
  | .slQpFailover inst w => Sys2Proof.Machine.execSlQpFailover inst w s
  | .packetTransmit qp => Sys2Proof.Machine.execPacketTransmit qp s
  | .rxWrite link f => Sys2Proof.Machine.execRxWrite link f s
  | .rxWriteImm link f => Sys2Proof.Machine.execRxWriteImm link f s
  | .rxReadReq link f => Sys2Proof.Machine.execRxReadReq link f s
  | .rxReadResp link f => Sys2Proof.Machine.execRxReadResp link f s
  | .rxSend link f => Sys2Proof.Machine.execRxSend link f s
  | .rxSendImm link f => Sys2Proof.Machine.execRxSendImm link f s
  | .rxAtomicFadd link f => Sys2Proof.Machine.execRxAtomicFadd link f s
  | .rxAtomicCswap link f => Sys2Proof.Machine.execRxAtomicCswap link f s
  | .rxAtomicResp link f => Sys2Proof.Machine.execRxAtomicResp link f s
  | .rxAck link f => Sys2Proof.Machine.execRxAck link f s
  | .rxNakSeq link f => Sys2Proof.Machine.execRxNakSeq link f s
  | .rxNakRnr link f => Sys2Proof.Machine.execRxNakRnr link f s
  | .rxNakReread link f => Sys2Proof.Machine.execRxNakReread link f s
  | .rxNakStatus link f => Sys2Proof.Machine.execRxNakStatus link f s
  | .rxResync link f => Sys2Proof.Machine.execRxResync link f s
  | .rxResyncAck link f => Sys2Proof.Machine.execRxResyncAck link f s
  | .rxAbort link f => Sys2Proof.Machine.execRxAbort link f s
  | .rxMark link f => Sys2Proof.Machine.execRxMark link f s
  | .ackDelayExpiry qp => Sys2Proof.Machine.execAckDelayExpiry qp s
  | .rtoExpiry qp => Sys2Proof.Machine.execRtoExpiry qp s
  | .rnrDelayExpiry qp => Sys2Proof.Machine.execRnrDelayExpiry qp s
  | .retryTimeExpiry qp => Sys2Proof.Machine.execRetryTimeExpiry qp s
  | .failoverTimeExpiry link => Sys2Proof.Machine.execFailoverTimeExpiry link s
  | .resyncRepeat qp => Sys2Proof.Machine.execResyncRepeat qp s
  | .weirIntervalEnd qp => Sys2Proof.Machine.execWeirIntervalEnd qp s
  | .rateIdleReset qp => Sys2Proof.Machine.execRateIdleReset qp s
  | .wrSnapGo w => Sys2Proof.Machine.execWrSnapGo w s
  | .qdepthMaxRead link => Sys2Proof.Machine.execQdepthMaxRead link s
  | .mapPeriodEnd => Sys2Proof.Machine.execMapPeriodEnd s
  | .mapSlotExpiry slot => Sys2Proof.Machine.execMapSlotExpiry slot s
  | .wrQuery inst w => Sys2Proof.Machine.execWrQuery inst w s
  | .getVersion t => Sys2Proof.Machine.execGetVersion t s
  | .getCapabilities t => Sys2Proof.Machine.execGetCapabilities t s
  | .negotiateAlgorithms t a => Sys2Proof.Machine.execNegotiateAlgorithms t a s
  | .getDigests t => Sys2Proof.Machine.execGetDigests t s
  | .getCertificate t slot off len => Sys2Proof.Machine.execGetCertificate t slot off len s
  | .challenge t slot nonce => Sys2Proof.Machine.execChallenge t slot nonce s
  | .getMeasurements t index nonce => Sys2Proof.Machine.execGetMeasurements t index nonce s
  | .keyExchange t summary => Sys2Proof.Machine.execKeyExchange t summary s
  | .finish sess verifies => Sys2Proof.Machine.execFinish sess verifies s
  | .keyUpdate sess => Sys2Proof.Machine.execKeyUpdate sess s
  | .endSession sess => Sys2Proof.Machine.execEndSession sess s
  | .ideKmKeyProg sess stream key => Sys2Proof.Machine.execIdeKmKeyProg sess stream key s
  | .keyInstallInitial sess m => Sys2Proof.Machine.execKeyInstallInitial sess m s
  | .keyInstallRekey sess m => Sys2Proof.Machine.execKeyInstallRekey sess m s
  | .keyCommit sess m => Sys2Proof.Machine.execKeyCommit sess m s
  | .cryptPolicy sess m => Sys2Proof.Machine.execCryptPolicy sess m s
  | .admitSet sess m => Sys2Proof.Machine.execAdmitSet sess m s
  | .basinAttestFragment slot b => Sys2Proof.Machine.execBasinAttestFragment slot b s
  | .cryptQuery => Sys2Proof.Machine.execCryptQuery s
  | .synkoApply n => Sys2Proof.Machine.execSynkoApply n s
  | .synkoDeadline q idx => Sys2Proof.Machine.execSynkoDeadline q idx s
  | .gateTimeoutExpiry q => Sys2Proof.Machine.execGateTimeoutExpiry q s
  | .sySet inst w => Sys2Proof.Machine.execSySet inst w s
  | .syAdd inst w => Sys2Proof.Machine.execSyAdd inst w s
  | .syShare inst w => Sys2Proof.Machine.execSyShare inst w s
  | .syUnshare inst w => Sys2Proof.Machine.execSyUnshare inst w s
  | .gateSet inst w => Sys2Proof.Machine.execGateSet inst w s
  | .gateClear inst w => Sys2Proof.Machine.execGateClear inst w s
  | .gateQuery inst w => Sys2Proof.Machine.execGateQuery inst w s
  | .rnGcmdCreate inst w => Sys2Proof.Machine.execRnGcmdCreate inst w s
  | .rnGcmdDestroy inst w => Sys2Proof.Machine.execRnGcmdDestroy inst w s
  | .rnGcmdReset inst w => Sys2Proof.Machine.execRnGcmdReset inst w s
  | .rnGcmdQuery inst w => Sys2Proof.Machine.execRnGcmdQuery inst w s
  | .collData g => Sys2Proof.Machine.execCollData g s
  | .collCredit g => Sys2Proof.Machine.execCollCredit g s
  | .collAbort g => Sys2Proof.Machine.execCollAbort g s
  | .collVote g => Sys2Proof.Machine.execCollVote g s
  | .collCombineDone g => Sys2Proof.Machine.execCollCombineDone g s
  | .collTimeout g => Sys2Proof.Machine.execCollTimeout g s
  | .runnelColl m => Sys2Proof.Machine.execRunnelColl m s
  | .runnelCollAbort m => Sys2Proof.Machine.execRunnelCollAbort m s
  | .runnelAck m => Sys2Proof.Machine.execRunnelAck m s
  | .runnelRtoExpiry slot => Sys2Proof.Machine.execRunnelRtoExpiry slot s
  | .runnelAckDelayExpiry slot => Sys2Proof.Machine.execRunnelAckDelayExpiry slot s
  | .runnelStreamRestart slot => Sys2Proof.Machine.execRunnelStreamRestart slot s
  | .groupStart q idx => Sys2Proof.Machine.execGroupStart q idx s
  | .fwNop core slot => Sys2Proof.Machine.execFwNop core slot s
  | .movi core slot => Sys2Proof.Machine.execMovi core slot s
  | .movu core slot => Sys2Proof.Machine.execMovu core slot s
  | .movs core slot => Sys2Proof.Machine.execMovs core slot s
  | .umov core slot => Sys2Proof.Machine.execUmov core slot s
  | .iadd core slot => Sys2Proof.Machine.execIadd core slot s
  | .isub core slot => Sys2Proof.Machine.execIsub core slot s
  | .imul core slot => Sys2Proof.Machine.execImul core slot s
  | .imad core slot => Sys2Proof.Machine.execImad core slot s
  | .and core slot => Sys2Proof.Machine.execAnd core slot s
  | .or core slot => Sys2Proof.Machine.execOr core slot s
  | .xor core slot => Sys2Proof.Machine.execXor core slot s
  | .shl core slot => Sys2Proof.Machine.execShl core slot s
  | .shr core slot => Sys2Proof.Machine.execShr core slot s
  | .sar core slot => Sys2Proof.Machine.execSar core slot s
  | .imin core slot => Sys2Proof.Machine.execImin core slot s
  | .imax core slot => Sys2Proof.Machine.execImax core slot s
  | .icmp core slot => Sys2Proof.Machine.execIcmp core slot s
  | .fadd core slot => Sys2Proof.Machine.execFadd core slot s
  | .fmul core slot => Sys2Proof.Machine.execFmul core slot s
  | .ffma core slot => Sys2Proof.Machine.execFfma core slot s
  | .fmin core slot => Sys2Proof.Machine.execFmin core slot s
  | .fmax core slot => Sys2Proof.Machine.execFmax core slot s
  | .fcmp core slot => Sys2Proof.Machine.execFcmp core slot s
  | .frcp core slot => Sys2Proof.Machine.execFrcp core slot s
  | .cvt core slot => Sys2Proof.Machine.execCvt core slot s
  | .mxunpk core slot => Sys2Proof.Machine.execMxunpk core slot s
  | .mxpack core slot => Sys2Proof.Machine.execMxpack core slot s
  | .vqdec core slot => Sys2Proof.Machine.execVqdec core slot s
  | .vqenc core slot => Sys2Proof.Machine.execVqenc core slot s
  | .shfl core slot => Sys2Proof.Machine.execShfl core slot s
  | .vote core slot => Sys2Proof.Machine.execVote core slot s
  | .red core slot => Sys2Proof.Machine.execRed core slot s
  | .ldl core slot => Sys2Proof.Machine.execLdl core slot s
  | .stl core slot => Sys2Proof.Machine.execStl core slot s
  | .ldg core slot => Sys2Proof.Machine.execLdg core slot s
  | .stg core slot => Sys2Proof.Machine.execStg core slot s
  | .cpy core slot => Sys2Proof.Machine.execCpy core slot s
  | .atomg core slot => Sys2Proof.Machine.execAtomg core slot s
  | .lda core slot => Sys2Proof.Machine.execLda core slot s
  | .fence core slot => Sys2Proof.Machine.execFence core slot s
  | .bra core slot => Sys2Proof.Machine.execBra core slot s
  | .call core slot => Sys2Proof.Machine.execCall core slot s
  | .ret core slot => Sys2Proof.Machine.execRet core slot s
  | .exit core slot => Sys2Proof.Machine.execExit core slot s
  | .trap core slot => Sys2Proof.Machine.execTrap core slot s
  | .rte core slot => Sys2Proof.Machine.execRte core slot s
  | .setres core slot => Sys2Proof.Machine.execSetres core slot s
  | .setstat core slot => Sys2Proof.Machine.execSetstat core slot s
  | .sadd core slot => Sys2Proof.Machine.execSadd core slot s
  | .brk core slot => Sys2Proof.Machine.execBrk core slot s
  | .watchdogExpiry core slot => Sys2Proof.Machine.execWatchdogExpiry core slot s
  | .coreLost core => Sys2Proof.Machine.execCoreLost core s
  | .dbgList => Sys2Proof.Machine.execDbgList s
  | .dbgHalt => Sys2Proof.Machine.execDbgHalt s
  | .dbgResume => Sys2Proof.Machine.execDbgResume s
  | .dbgStep => Sys2Proof.Machine.execDbgStep s
  | .dbgRead => Sys2Proof.Machine.execDbgRead s
  | .dbgWrite => Sys2Proof.Machine.execDbgWrite s
  | .dbgKill => Sys2Proof.Machine.execDbgKill s
  | .dbgBreak => Sys2Proof.Machine.execDbgBreak s
  | .dbgAttach => Sys2Proof.Machine.execDbgAttach s
  | .dbgDetach => Sys2Proof.Machine.execDbgDetach s
  | .fwdbgUpdateDr block => Sys2Proof.Machine.execFwdbgUpdateDr block s
  | .cbScmdQuery inst w => Sys2Proof.Machine.execCbScmdQuery inst w s
  | .cbScmdClear inst w => Sys2Proof.Machine.execCbScmdClear inst w s
  | .cbSlotError slot => Sys2Proof.Machine.execCbSlotError slot s
  | .instCreate v => Sys2Proof.Machine.execInstCreate v s
  | .instModify v => Sys2Proof.Machine.execInstModify v s
  | .instDestroyGraceful v => Sys2Proof.Machine.execInstDestroyGraceful v s
  | .instDestroyForce v => Sys2Proof.Machine.execInstDestroyForce v s
  | .instQuery v => Sys2Proof.Machine.execInstQuery v s
  | .tnMbxGo w => Sys2Proof.Machine.execTnMbxGo w s
  | .mctpRequest block => Sys2Proof.Machine.execMctpRequest block s
  | .mbxCommandStart => Sys2Proof.Machine.execMbxCommandStart s
  | .slotWrite readBackOk => Sys2Proof.Machine.execSlotWrite readBackOk s
  | .slotSelectActive => Sys2Proof.Machine.execSlotSelectActive s
  | .slotSelectTry => Sys2Proof.Machine.execSlotSelectTry s
  | .slotQuery => Sys2Proof.Machine.execSlotQuery s
  | .imageLoad => Sys2Proof.Machine.execImageLoad s
  | .stageWrite => Sys2Proof.Machine.execStageWrite s
  | .featCommit w => Sys2Proof.Machine.execFeatCommit w s
  | .featUncommit w => Sys2Proof.Machine.execFeatUncommit w s
  | .eventLogWrite => Sys2Proof.Machine.execEventLogWrite s
  | .tnLogAckLoWrite w => Sys2Proof.Machine.execTnLogAckLoWrite w s
  | .tnLogAckHiWrite w => Sys2Proof.Machine.execTnLogAckHiWrite w s
  | .tnLogRselHiWrite w => Sys2Proof.Machine.execTnLogRselHiWrite w s
  | .tnIntStatClear w => Sys2Proof.Machine.execTnIntStatClear w s
  | .tnIntEnWrite w => Sys2Proof.Machine.execTnIntEnWrite w s
  | .selftestStart w => Sys2Proof.Machine.execSelftestStart w s
  | .selftestDone failed => Sys2Proof.Machine.execSelftestDone failed s
  | .warmRstNRise => Sys2Proof.Machine.execWarmRstNRise s
  | .configurationRequest => Sys2Proof.Machine.execConfigurationRequest s
  | .managerReply reqId status data => Sys2Proof.Machine.execManagerReply reqId status data s
  | .handoverPeriod => Sys2Proof.Machine.execHandoverPeriod s
  | .workerPeriod => Sys2Proof.Machine.execWorkerPeriod s
  | .overflowLengthReport slot granules => Sys2Proof.Machine.execOverflowLengthReport slot granules s

end Sys2Proof.Machine
end

