-- ==== Sys2Proof/Machine/Idle.lean ====
section
/-!
DEFINITION. What goes on by itself while no command waits: work that was held and can now proceed (R72, R92, R138, R139, R162,
R168, R175, R204, R207, R218; assumption 7).
-/
namespace Sys2Proof.Machine

/-- The queues' own work: pushes that wait, fences and drains whose pushed entries are to be spilled. -/
def queueWork (s : State) : State := s.wqs.foldl (fun s p => settle (fenceStep (pushStep s p.1) p.1) p.1) s

/-- Every kind of held work is tried again. -/
def heldWork (s : State) : State := retryCreates (rnRelease (reapSpans (cvRetry (rxRelease (hdmRetry (queueWork s))))))

/-- One nanosecond of device time, one step of a partner reset, and the held work. -/
def idleWork (s : State) : State := heldWork (teardownStep (tickTime s))

end Sys2Proof.Machine
end

