-- ==== Sys2Proof/Machine/Reads.lean ====
section
/-!
DEFINITION. A read of the control window (R117 to R120): the value every register, counter and table byte returns, and the side
effects that a register's description states. The command table has no row for a plain read; the three reads with an effect on
what other commands see are rows of their own, and answer as `readReg` does at their offsets. The pins that show register bits
(R402) stand at the end.
-/
namespace Sys2Proof.Machine

/-- What a read leaves and what it returns. -/
abbrev Read := State × Nat

/-- A register without a side effect. -/
def plainRead (s : State) (v : Nat) : Read := (s, v)

/-- One half of a 64-bit counter or a LO and HI pair that has no latch of its own: the low half latches the high one (assumption
115); `key` is the control-window offset of the low half. -/
def latched (s : State) (key : Nat) (hi : Bool) (v : Nat) : Read :=
  if hi then plainRead s (Tab.getD s.rdHi key 0).toNat else ({ s with rdHi := Tab.put s.rdHi key (hi32 v) }, v % 2 ^ 32)

/-- A list of bits as a mask, the first at bit 0. -/
def flagMask (l : List Bool) : Nat := (l.zipIdx.map (fun p => bit p.1 * 2 ^ p.2)).sum

/-! ### Levee (spec files 02 and 03) -/

/-- LV_STRAPS, with STRAP_ERR for the reserved boot strap (R53). -/
def strapsWord (s : State) : Nat :=
  let x := s.sys.straps
  bit (x.boot = 3) * 2 ^ 8 + bit (s.sys.fuses.variant = .d) * 2 ^ 7 + bit x.pen * 2 ^ 6 + x.boot.toNat * 2 ^ 4 + x.smb.toNat * 2 ^ 2
    + bit x.test * 2

/-- A region's bit of LV_EVENT.REGION_EVT. -/
def Region.event (r : Region) : Bool := r.ocPersist || r.oc || r.disagree || r.drop || r.senseEvt

/-- LV_EVENT. -/
def lvEvent (s : State) : Nat :=
  bit (!s.lv.done.isEmpty) * 2 ^ 16 + flagMask (allRegions.map (fun n => (region s n).event))

/-- LV_REGION_STATUS, SRC among its fields (R64). -/
def regionWord (r : Region) : Nat :=
  bit r.throttled * 2 ^ 9 + bit r.ocPersist * 2 ^ 8 + bit r.oc * 2 ^ 7 + bit r.disagree * 2 ^ 6 + bit r.drop * 2 ^ 5
    + bit r.bOpen * 2 ^ 4 + bit r.aOpen * 2 ^ 3 + bit r.senseEvt * 2 ^ 2
    + (if r.aOpen && r.bOpen then 3 else bit r.aOpen)

/-- LV_VSTAT. -/
def vstatWord (s : State) : Nat :=
  bit s.lv.cmd.isSome * 2 ^ 31 + bit s.lv.ready * 2 ^ 30 + s.lv.curTag % 256 * 2 ^ 16 + s.lv.vnow % 4096

/-- SD_LOCK: the SerDes PLL of a port is locked while one of its links has ADMIN_UP, or is dormant (R73). -/
def sdLock (s : State) (p : Nat) : Bool :=
  (portLinks s p).any (fun l => adminUp s l || (link s l).dorm = .dormant)

/-- LV_CLK_STAT. -/
def clkWord (s : State) : Nat :=
  flagMask ((List.range 8).map (sdLock s)) * 2 ^ 16 + s.clk.hbmLock.toNat * 2 ^ 8 + bit s.clk.hostLock * 2 ^ 4 + bit s.clk.tnLock * 2 ^ 3
    + bit s.clk.fwLock * 2 ^ 2 + bit s.clk.slLock * 2 + bit s.clk.aonLock

/-- A per-region register of Levee. -/
def readRegion (s : State) (off : Nat) : Nat :=
  let r := region s (off % 0x100 / 4)
  match off / 0x100 with
  | 1 => getReg s 0x0C off
  | 2 => regionWord r
  | 3 => r.vb % 4096 * 2 ^ 16 + r.va % 4096
  | 4 => (r.xn % 4096).toNat * 2 ^ 16 + r.vdie % 4096
  | _ => r.iEst % 4096

/-- Levee. -/
def readLv (s : State) (off : Nat) : Read :=
  if 0x100 ≤ off ∧ off < 0x540 then plainRead s (readRegion s off)
  else if off = 0x000 then plainRead s (strapsWord s)
  else if off = 0x008 then plainRead s (lvEvent s)
  else if off = 0x014 then plainRead s (vstatWord s)
  else if off = 0x018 then ({ s with lv.done := s.lv.done.drop 1, lv.lost := 0 }, vdoneWord s)
  else if off = 0x01C then plainRead s (s.sys.fuses.vminMv % 4096 * 2 ^ 16 + s.sys.fuses.vnomMv % 4096)
  else if off = 0x604 then plainRead s (clkWord s)
  else plainRead s (getReg s 0x0C off)

/-! ### Sluice ports and links (spec file 03) -/

/-- SL_CAL_STAT.STATE. -/
def CalState.code : CalState → Nat
  | .idle => 0
  | .pending => 1
  | .running => 2

/-- SL_DORM_STAT.STATE (R89). -/
def Dorm.code : Dorm → Nat
  | .down => 0
  | .active => 1
  | .entering => 2
  | .dormant => 3
  | .waking => 4
  | .retrain => 5
  | .ineligible => 6

/-- One flag of each of a port's links. -/
def linkMask (s : State) (p : Nat) (f : Nat → LinkSt → Bool) : Nat :=
  flagMask ((List.range 4).map (fun k => linkExists s (4 * p + k) && f (4 * p + k) (link s (4 * p + k))))

/-- SL_PORT_STATUS. -/
def portWord (s : State) (p : Nat) : Nat :=
  linkMask s p (fun _ x => x.up && x.dorm ≠ .dormant) * 2 ^ 28 + linkMask s p (fun _ x => x.dorm = .dormant) * 2 ^ 24
    + linkMask s p (fun l _ => isTraining s l && hasMedium s l) * 2 ^ 20 + linkMask s p (fun _ x => x.merge) * 2 ^ 16
    + (port s p).modState.code * 2 ^ 8 + bit (port s p).failed

/-- A link register: SL_CAL_CMD, SL_CAL_STAT, SL_DORM_CFG, SL_DORM_STAT. -/
def readLink (s : State) (off : Nat) : Nat :=
  let x := link s (regLink off)
  match off % 0x40 with
  | 4 => x.cal.code * 2 ^ 30 + x.calTag % 256 * 2 ^ 16 + x.calStatus.toNat * 2 ^ 8
  | 8 => getReg s 0x02 off
  | 0xC => x.dorm.code * 2 ^ 29 + bit x.master * 2 ^ 28 + x.delay % 1024 * 2 ^ 16 + x.agreed % 2048
  | _ => 0

/-- Sluice. -/
def readSl (s : State) (off : Nat) : Nat :=
  let p := (off - 0x8000) / 0x200
  let o := (off - 0x8000) % 0x200
  if o = 0 then getReg s 0x02 off / 16 * 16 + (port s p).media % 4 * 4 + brkOf s p % 4
  else if o = 4 then portWord s p
  else readLink s off

/-! ### Weir (spec file 11) -/

/-- A register of a live link block or of the snapshot's copy; a read of QDEPTH_MAX in a live block resets it (R259). -/
def readLinkBlock (s : State) (key : Nat) (live : Bool) (l o : Nat) : Read :=
  if !linkExists s l then plainRead s 0
  else
    let v (k : Nat) : Nat := if live then Tab.getD s.wr.counters (l * 16 + k) 0 else Tab.getD s.wr.snap (l * 16 + k) 0
    if o < 0x40 then latched s (key - o % 8) (o % 8 = 4) (v (o / 8))
    else if !live then plainRead s (v (o / 4 - 8) % 2 ^ 32)
    else if o = 0x40 then plainRead s (Tab.getD s.wr.qdepth l 0 % 2 ^ 32)
    else if o = 0x44 then
      ({ s with wr.qmax := Tab.put s.wr.qmax l (Tab.getD s.wr.qdepth l 0) }, Tab.getD s.wr.qmax l 0 % 2 ^ 32)
    else plainRead s (activeQps s l % 2 ^ 32)

/-- The maps may be read: feature bit 26 committed, or offered in H-mode. -/
def mapsShown (s : State) : Bool := if modeOf s = .h then offered s 26 else committed s 26

/-- Four bytes of the map window. -/
def mapWord (s : State) (o : Nat) : Nat :=
  if mapsShown s then getLE (Tab.getD s.wr.maps (o / 0x800 + 1) []) (o % 0x800) 4 else 0

/-- Weir. -/
def readWr (s : State) (base off : Nat) : Read :=
  if off = 0x200 then plainRead s (bit s.wr.snapDone * 2 ^ 31 + s.wr.snapTag % 256 * 2 ^ 16)
  else if off = 0x204 ∨ off = 0x208 then latched s (base + 0x204) (off = 0x208) s.wr.snapTime
  else if off = 0x304 then
    plainRead s (bit (s.basin.role = .active) * 2 ^ 31
      + ((List.range 67).filter (fun k => s.wr.mapValid.getLsbD k)).length * 2 ^ 16 + min 65535 s.wr.discards)
  else if 0x310 ≤ off ∧ off ≤ 0x318 then plainRead s (s.wr.mapValid.toNat / 2 / 2 ^ (32 * ((off - 0x310) / 4)) % 2 ^ 32)
  else if 0x1000 ≤ off ∧ off < 0x2000 then readLinkBlock s (base + off) true ((off - 0x1000) / 0x80) (off % 0x80)
  else if 0x3000 ≤ off ∧ off < 0x4000 then readLinkBlock s (base + off) false ((off - 0x3000) / 0x80) (off % 0x80)
  else if 0x10000 ≤ off then plainRead s (mapWord s (off - 0x10000))
  else plainRead s (getReg s 0x03 off)

/-! ### Runnel, Furrow, codebook store, instance manager (spec files 14 to 17) -/

/-- RN_ROUTE of a slot: the links and the framing of its BASIN queue pair (R326). -/
def routeWord (s : State) (slot : Nat) : Nat :=
  match (basinQp s slot).bind (qpOf s) with
  | some p => 2 ^ 31 + bit (qRouted p) * 2 ^ 30 + fld p.cfg 17 13 * 2 ^ 8 + fld p.cfg 12 8
  | none => 0

/-- Runnel. -/
def readRn (s : State) (base off : Nat) : Read :=
  if off = 0 then plainRead s (getReg s 0x04 0)
  else if off < 0x400 then plainRead s (routeWord s ((off - 0x100) / 4 + 1))
  else latched s (base + off - off % 8) (off % 8 = 4) (Tab.getD s.rn.counters ((off - 0x400) / 8) 0)

/-- FW_DBG_STAT. -/
def dbgWord (s : State) : Nat :=
  let d := s.fw.dbg
  (match d.src with | some x => 2 ^ 31 + x % 4 * 2 ^ 29 | none => 0) + bit d.haltTrap * 2 ^ 28 + bit d.haltDtrap * 2 ^ 27
    + bit d.pending * 2 ^ 26 + min 65535 d.dtraps

/-- Furrow. -/
def readFw (s : State) (off : Nat) : Nat :=
  match off with
  | 0 => getReg s 0x05 0
  | 4 => s.fw.cores.toNat % 2 ^ 32
  | 8 => s.fw.cores.toNat / 2 ^ 32
  | 0xC => dbgWord s
  | _ => slotsBusy s

/-- Codebook store: CB_GEOM and CB_COUNT. -/
def readCb (s : State) (off : Nat) : Nat := if off = 0 then slotBytes s / 64 else cbSlots s

/-- Instance manager: IN_POOL_HBM, IN_POOL_FW, IN_COUNT. -/
def readIn (s : State) (off : Nat) : Nat :=
  if off = 0 then (freeGran s).length
  else if off = 4 then slotsInService s - (s.insts.map (fun x => x.2.fwResv)).sum
  else s.insts.length

/-! ### Culvert (spec file 06) -/

/-- CV_POOL_STAT. -/
def poolErrWord (s : State) (k : Nat) : Nat :=
  match Tab.find s.cv.err k with
  | some (st, slot) => 2 ^ 31 + st.toNat * 2 ^ 16 + slot % 4096
  | none => 0

/-- Culvert. -/
def readCv (s : State) (off : Nat) : Nat :=
  let k := (off - 0x100) / 0x20
  if off < 0x100 then getReg s 0x0A off
  else match off % 0x20 with
    | 8 => getReg s 0x0A off % 2 ^ 30 + bit (poolEn s k) * 2 ^ 31 + bit (poolIdle s k) * 2 ^ 30
    | 0xC => 0
    | 0x10 => poolErrWord s k
    | _ => getReg s 0x0A off

/-! ### Tender (spec files 01, 03, 06, 12 and 18) -/

/-- TN_BASIN_STATE. -/
def basinWord (s : State) : Nat :=
  let b := s.basin
  b.plot % 256 * 2 ^ 24 + b.mirrorOf % 256 * 2 ^ 16 + bit b.noticed * 2 ^ 12 + bit b.void * 2 ^ 11
    + bit (b.ownWin.isSome || b.basinWin.isSome) * 2 ^ 10 + bit b.paired * 2 ^ 9 + bit (b.role = .active && b.stby) * 2 ^ 8 + b.role.code

/-- TN_PARTNER_STAT.STATE. -/
def PState.code : PState → Nat
  | .down => 0
  | .up => 1
  | .teardown => 2
  | .hosted => 4

/-- TN_PARTNER_STAT; MODE is the applied image's. -/
def partnerWord (s : State) : Nat :=
  let p := s.pt
  p.st.code * 2 ^ 28 + (match s.boot.image with | some i => i.mode.code | none => 0) * 2 ^ 26 + bit p.cxl * 2 ^ 25 + bit p.ide * 2 ^ 24
    + bit p.hbArmed * 2 ^ 23 + p.width % 8 * 2 ^ 20 + p.rate % 256 * 2 ^ 12

/-- TN_LOG_RSTAT. -/
def RStat.word : RStat → Nat
  | .none => 0
  | .valid => 2 ^ 31
  | .gone => 2 ^ 30
  | .future => 2 ^ 29

/-- TN_ST_STAT. -/
def selfTestWord (s : State) : Nat :=
  let t := s.st
  (if t.running then 1 else if t.done then 2 else 0) * 2 ^ 30 + bit t.result * 2 ^ 29 + t.tag % 256 * 2 ^ 16 + t.target % 256 * 2 ^ 8
    + t.unit % 256

/-- The log's registers and the interrupt registers. -/
def readLog (s : State) (off : Nat) : Read :=
  if 0x540 ≤ off ∧ off < 0x580 then plainRead s (getLE s.log.window (off - 0x540) 4)
  else match off with
    | 0x500 => ({ s with log.headHi := hi32 s.log.head }, s.log.head % 2 ^ 32)
    | 0x504 => plainRead s s.log.headHi.toNat
    | 0x508 => ({ s with log.ackHi := hi32 s.log.ack }, s.log.ack % 2 ^ 32)
    | 0x50C => plainRead s s.log.ackHi.toNat
    | 0x510 => plainRead s s.log.lost
    | 0x514 => plainRead s s.log.dropped
    | 0x518 => plainRead s s.log.rselLo.toNat
    | 0x51C => plainRead s s.log.rselHi.toNat
    | 0x520 => plainRead s s.log.rstat.word
    | 0x580 => plainRead s s.intr.stat.toNat
    | 0x584 => plainRead s s.intr.en.toNat
    | _ => plainRead s (getReg s 0x0B off)

/-- Tender. -/
def readTn (s : State) (off : Nat) : Read :=
  match off with
  | 0x100 => ({ s with sys.devtimeHi := hi32 s.sys.now }, s.sys.now % 2 ^ 32)
  | 0x104 => plainRead s s.sys.devtimeHi.toNat
  | 0x108 => plainRead s (getReg s 0x0B 0x108 % 2 ^ 31 + bit s.sys.locked * 2 ^ 31)
  | 0x200 => plainRead s (basinWord s)
  | 0x204 => plainRead s (s.basin.epoch % 2 ^ 32)
  | 0x208 => plainRead s (getReg s 0x0B 0x208)
  | 0x300 => plainRead s (partnerWord s)
  | 0x308 => plainRead s (bit s.pt.causeValid * 2 ^ 31 + min 15 s.pt.total * 2 ^ 4 + s.pt.cause % 16)
  | 0x30C => plainRead s (min 15 s.pt.merged * 2 ^ 28 + min (2 ^ 28 - 1) s.pt.cqeLost)
  | 0x400 => plainRead s (attestStat s)
  | 0x408 => ({ s with decryptHi := hi32 s.decryptFails }, s.decryptFails % 2 ^ 32)
  | 0x40C => plainRead s s.decryptHi.toNat
  | 0x604 => plainRead s (selfTestWord s)
  | 0x608 => plainRead s s.st.detail
  | _ => if 0x500 ≤ off ∧ off < 0x600 then readLog s off else plainRead s 0

/-! ### Queue windows (spec file 07) -/

/-- HG_QSTAT.STATE. -/
def QState.code : QState → Nat
  | .disabled => 1
  | .enabled => 2
  | .draining => 3
  | .error => 4

/-- The reservations of a queue's completion queue are all taken (R170). -/
def cqFull (s : State) (x : Wq) : Bool :=
  match Tab.find s.cqs x.cq with | some c => 2 ^ c.log2 ≤ cqRsv s x.cq | none => false

/-- HG_QSTAT of a queue that is not FREE. WAITING, CQ_STALL, LIMIT_STALL and RATE_STALL say what holds a posted entry of an enabled
queue (R163, R170, R299, R380). -/
def qstatWord (s : State) (q : Nat) (x : Wq) : Nat :=
  x.st.code * 2 ^ 28 + bit (qIdle s q) * 2 ^ 27 + bit x.fence.isSome * 2 ^ 26
    + bit (posted x && (match gateIs s x with | .closed => true | _ => false)) * 2 ^ 25
    + bit (posted x && cqFull s x) * 2 ^ 24
    + bit (posted x && (decide (x.limit ≤ (owed s q).length) || decide (1048576 ≤ s.infl.length))) * 2 ^ 23
    + bit (posted x && !accReady s x.inst) * 2 ^ 22 + x.errStatus.toNat * 2 ^ 8

/-- The block of a work queue; a FREE one reads its reset values. EN is 1 while the queue is ENABLED (assumption 114). -/
def readQueue (s : State) (q off : Nat) : Nat :=
  match Tab.find s.wqs q with
  | none => if off = 0x08 then 2 ^ 27 else 0
  | some x =>
    match off with
    | 0x04 => bit (x.st = .enabled)
    | 0x08 => qstatWord s q x
    | 0x0C => x.ci
    | 0x10 => x.pi
    | 0x14 => x.invStart.toNat
    | 0x1C => bit x.invDone * 2 ^ 31 + x.invTag % 256 * 2 ^ 20
    | 0x20 => x.invCi
    | 0x24 => (owed s q).length
    | _ => 0

/-- The block of a completion queue. -/
def readCq (s : State) (c off : Nat) : Nat :=
  match Tab.find s.cqs c with
  | none => 0
  | some x =>
    match off with
    | 0x08 => (if x.error then 2 else 1) * 2 ^ 28 + bit x.armed * 2 ^ 27 + x.errStatus.toNat * 2 ^ 8
    | 0x0C => x.cpi
    | 0x10 => x.cci
    | 0x14 => cqRsv s c
    | 0x18 => x.lost
    | _ => 0

/-! ### Counter banks and instance pages (spec files 10, 13 and 17) -/

/-- An entry of the Synko bank; its high word holds SAT and POISON beside VALUE. A counter that is not granted reads 0. -/
def readSynko (s : State) (base off : Nat) : Read :=
  let n := off / 64
  match Tab.find s.own.sy (n / 64), off % 64 with
  | none, _ => plainRead s 0
  | some _, 0 =>
    let c := cnt s n
    latched s (base + off) false (c.value + bit c.poison * 2 ^ 62 + bit c.sat * 2 ^ 63)
  | some _, 4 => latched s (base + off - 4) true 0
  | some o, 8 =>
    plainRead s (2 ^ 31 + (match (cnt s n).share with | some i => 2 ^ 30 + i % 1024 * 2 ^ 16 | none => 0) + o % 1024)
  | some _, _ => plainRead s 0

/-- A 64-bit counter of a bank whose blocks are 128 bytes. -/
def readBank (s : State) (base off : Nat) (v : Nat → Nat → Nat) : Read :=
  latched s (base + off - off % 8) (off % 8 = 4) (v (off / 128) (off % 128 / 8))

/-- A counter of an instance's statistics block; a FREE instance's reads 0 (R391). -/
def instCounter (s : State) (n k : Nat) : Nat := match Tab.find s.insts n with | some i => Tab.getD i.stats k 0 | none => 0

/-- IN_SELF. -/
def selfWord (s : State) (n : Nat) : Nat :=
  (match Tab.find s.insts n with
    | some i => (if i.destroying.isSome then 2 else 1) * 2 ^ 28 + (match i.cls with | .partner => 1 | .manager => 2) * 2 ^ 24
    | none => 0) + n

/-- The instance's transmit bucket is empty now. -/
def txEmpty (s : State) (n : Nat) : Bool := !txReady s (some n) 1

/-- IN_LIMSTAT. -/
def limstatWord (s : State) (n : Nat) : Nat :=
  bit (!accReady s n) * 2 ^ 31 + bit (txEmpty s n) * 2 ^ 30 + bit (!cmdReady s n) * 2 ^ 29

/-- A register of an instance page; the command registers are write-only. -/
def readPage (s : State) (n off : Nat) : Nat :=
  if off = 0x380 then selfWord s n
  else if off = 0x384 then limstatWord s n
  else if off = 0x0E0 ∨ (pageReg off).isSome then getPage s n off else 0

/-! ### The window -/

/-- A register of a block with a span; an unmapped offset reads 0 (R118). -/
def readDev (s : State) (blk base off : Nat) : Read :=
  if (devRsv s blk off).isNone then plainRead s 0
  else if blk = 0x02 then plainRead s (readSl s off)
  else if blk = 0x03 then readWr s base off
  else if blk = 0x04 then readRn s base off
  else if blk = 0x05 then plainRead s (readFw s off)
  else if blk = 0x09 then plainRead s (readCb s off)
  else if blk = 0x0A then plainRead s (readCv s off)
  else if blk = 0x0B then readTn s off
  else if blk = 0x0C then readLv s off
  else if blk = 0x0F then plainRead s (readIn s off)
  else plainRead s 0

/-- BN_STATUS.STAGE (R97). -/
def Stage.code : Stage → Nat
  | .rom => 0
  | .firmware => 1
  | .image => 2
  | .apply => 3
  | .vapen => 4
  | .ready => 5
  | .hold => 6
  | .loading => 7
  | .halted => 15

/-- BN_STATUS. -/
def bootWord (s : State) : Nat :=
  let b := s.boot
  b.status.toNat * 2 ^ 24 + b.slot.code * 2 ^ 18 + bit b.warm * 2 ^ 17 + bit b.resumeLost * 2 ^ 16 + b.hbmFail.toNat * 2 ^ 8
    + b.stage.code

/-- VP_WERR_STAT and VP_WERR_SRC. -/
def werrWord (s : State) : Nat :=
  bit s.vp.werrValid * 2 ^ 31 + bit s.vp.werrMulti * 2 ^ 30 + s.vp.werrStatus.toNat * 2 ^ 16 + s.vp.werrCount

/-- SRC codes (R128). -/
def srcCode : Src → Nat
  | .host => 0
  | .mctp => 1
  | .jtag => 2
  | .tender => 3

/-- TN_MBX_STAT. -/
def mbxWord (s : State) : Nat :=
  (match s.mbx.st with | .idle => 0 | .busy => 1 | .done => 2) * 2 ^ 30 + bit s.mbx.lost * 2 ^ 29 + s.mbx.status.toNat * 2 ^ 16

/-- VP_TSTAT.VALID: 1 in READY only (R120). -/
def tableLive (s : State) : Bool := s.vp.tvalid && windowLive s

/-- The fixed register page. -/
def readFixed (s : State) (off : Nat) : Read :=
  if 0x11000 ≤ off ∧ off < 0x11800 then plainRead s (ofLE (Mem.read s.mbx.req (off - 0x11000) 4))
  else if 0x11800 ≤ off ∧ off < 0x11C00 then plainRead s (getLE s.mbx.rsp (off - 0x11800) 4)
  else if 0x10100 ≤ off ∧ off < 0x10110 then plainRead s (s.feat.offer.toNat / 2 ^ (32 * ((off - 0x10100) / 4)) % 2 ^ 32)
  else if 0x10110 ≤ off ∧ off < 0x10120 then plainRead s (s.feat.ack.toNat / 2 ^ (32 * ((off - 0x10110) / 4)) % 2 ^ 32)
  else match off with
    | 0x10000 => plainRead s (bootWord s)
    | 0x10004 => plainRead s (s.boot.runLevel % 65536 * 2 ^ 16 + s.sys.fuses.siliconRev % 65536)
    | 0x10008 => plainRead s (s.boot.tenderTag % 2 ^ 32)
    | 0x1000C => plainRead s (s.boot.sluiceTag % 2 ^ 32)
    | 0x10010 => plainRead s (candWord s)
    | 0x10018 => ({ s with boot.idHi := hi32 (lim s Image.imageId) }, lim s Image.imageId % 2 ^ 32)
    | 0x1001C => plainRead s s.boot.idHi.toNat
    | 0x10124 => plainRead s (bit s.feat.committed * 2 ^ 31 + s.feat.conflict % 128 * 2 ^ 16 + s.feat.status.toNat * 2 ^ 8)
    | 0x10200 => plainRead s (werrWord s)
    | 0x10204 => plainRead s s.vp.werrAddr.toNat
    | 0x10208 => plainRead s s.vp.werrData.toNat
    | 0x1020C =>
      plainRead s ((match s.vp.werrInst with | some n => 2 ^ 26 + n % 1024 * 2 ^ 16 | none => 0) + srcCode s.vp.werrSrc)
    | 0x10210 => plainRead s (bit (tableLive s))
    | 0x10214 => plainRead s (if tableLive s then s.vp.gen % 2 ^ 32 else 0)
    | 0x10804 => plainRead s (mbxWord s)
    | _ => plainRead s 0

/-- A read at an offset that the Vapen table places; what lies in no region reads 0 (R118). -/
def readPlaced (s : State) (l : Layout) (off : Nat) : Read :=
  match blockOf l off with
  | some (blk, o) => readDev s blk (off - o) o
  | none =>
    if within off l.dbBase (64 * dbCount s) then plainRead s (readQueue s ((off - l.dbBase) / 64) ((off - l.dbBase) % 64))
    else if within off l.cqdbBase (64 * cqMax s) then plainRead s (readCq s ((off - l.cqdbBase) / 64) ((off - l.cqdbBase) % 64))
    else if within off l.synkoBase (64 * synkoMax s) then readSynko s l.synkoBase (off - l.synkoBase)
    else if within off l.linkBase (128 * 32) then
      readBank s l.linkBase (off - l.linkBase) (fun n k => Tab.getD s.linkStats (n * 16 + k) 0)
    else if within off l.instBase (128 * instMax s) then readBank s l.instBase (off - l.instBase) (instCounter s)
    else if within off l.pageBase (l.pageStride * instMax s) then
      plainRead s (readPage s ((off - l.pageBase) / l.pageStride) ((off - l.pageBase) % l.pageStride))
    else plainRead s 0

/-- The fixed page answers a requester: in every stage but ROM and HALTED; JTAG always, and SMBus in HALTED too (R97, R53). -/
def answers (s : State) (src : Src) : Bool :=
  !s.sys.coldLow && !(src = .host && noHost s)
    && (fixedLive s || src = .jtag || (src = .mctp && s.boot.stage = .halted && !s.sys.straps.test))

/-- A read of `bits` bits at a control-window offset (R118): the state it leaves and the value. The table region takes aligned reads
of 32 and 64 bits and reads 0 outside READY (R120); every other region takes aligned 32-bit reads, and any other read returns 0 and
has no effect. -/
def readReg (src : Src) (off bits : Nat) (s : State) : Read :=
  if !answers s src then plainRead s 0
  else if off < 0x10000 then
    plainRead s (if tableLive s && ((bits = 32 && off % 4 = 0) || (bits = 64 && off % 8 = 0)) then getLE s.vp.table off (bits / 8) else 0)
  else if bits ≠ 32 ∨ off % 4 ≠ 0 then plainRead s 0
  else if off < 0x20000 then readFixed s off
  else match windowLive s, s.vp.layout with
    | true, some l => readPlaced s l off
    | _, _ => plainRead s 0

/-! ### Pins (R58, R402) -/

/-- ALERT_N is low (R402): a bit of LV_EVENT, the stage HALTED, or TN_INT_STAT.CRIT. -/
def alertLow (s : State) : Bool := lvEvent s ≠ 0 || s.boot.stage = .halted || s.intr.stat.getLsbD 5

/-- The level of ALERT_N. -/
def alertN (s : State) : Bool := !alertLow s

/-- The level of THERM_TRIP_N (R58). -/
def thermTripN (s : State) : Bool := !s.sys.thermTrip

end Sys2Proof.Machine
end

