-- ==== Sys2Proof/Safety.lean ====
section
/-!
DEFINITION. The terms the statements are written in: a command's answer, and what every state keeps of its memories.
-/
namespace Sys2Proof.Machine

/-- A command, run on a state, answers a next state of which `P` holds: it neither faults nor is refused. -/
def Answers (c : Instr) (s : State) (P : State → Prop) : Prop := ∃ t, exec c s = .next t ∧ P t

/-- HBM, the plot, partner memory and the memories that sleep through a warm reset stand in their canonical form. -/
def memoriesWf (s : State) : Prop :=
  Memory.wf s.hbm = true ∧ Memory.wf s.plot = true ∧ Memory.wf s.pmem = true ∧
  ∀ a, s.asleep = some a → Memory.wf a.hbm = true ∧ Memory.wf a.plot = true

/-- A register write that is one whole aligned word and is not thrown away by a teardown or by H-mode (R118, R144). -/
abbrev Taken (s : State) (w : RegWr) : Prop := w.full = true ∧ discarded s w.src = false

/-- Both resets are high. -/
abbrev Awake (s : State) : Prop := s.sys.coldLow = false ∧ s.sys.warmLow = false

/-- The device, READY, has received a valid control record of a type (R27, R48). -/
abbrev Heard (s : State) (m : Bytes) (r : CtlRec) (type : Nat) : Prop :=
  s.sys.coldLow = false ∧ s.boot.stage = .ready ∧ ctlOf m = some r ∧ r.type = type

/-- The plots of the map in force keep their owners in another directory. -/
abbrev ownersKept (s : State) (d : Directory) : Prop :=
  ∀ x ∈ s.basin.map.plots, (Tab.find d.plots x.1).map (·.slot) = some x.2.slot

/-- A write of a command register of an instance page that reaches the command's own checks: checks 1 and 2 of R127, BUSY,
the command bucket, no bit the register reserves, the row's CMD code. -/
abbrev CmdOpenAt (rsv : Word) (s : State) (inst stat code : Nat) (w : RegWr) : Prop :=
  windowLive s = true ∧ Taken s w ∧ inst < instMax s ∧ pageOwned s inst w.src = true ∧ pageBusy s inst stat = false ∧
  cmdReady s inst = true ∧ noRsv w rsv = true ∧ cmdIs w code = true

/-- The same where CMD is the register's only field. -/
abbrev CmdOpen (s : State) (inst stat code : Nat) (w : RegWr) : Prop := CmdOpenAt 0xFFFFFFF0 s inst stat code w

/-- The state in which an accepted command register's effect takes place: a command token drawn, BUSY 0, STATUS OK. -/
def cmdTaken (s : State) (inst stat : Nat) : State := putStat (cmdDraw s inst) inst stat false Status.ok

/-- A write of a work queue's own register that reaches that register's checks (R127, R174). -/
abbrev QueueOpen (s : State) (q : Nat) (w : RegWr) (x : Wq) : Prop :=
  windowLive s = true ∧ Taken s w ∧ q < dbCount s ∧ blockOwned s s.own.wq q w.src = true ∧ Tab.find s.wqs q = some x

/-- A write of a completion queue's own register that reaches that register's checks (R127). -/
abbrev CqOpen (s : State) (c : Nat) (w : RegWr) (x : Cq) : Prop :=
  windowLive s = true ∧ Taken s w ∧ c < cqMax s ∧ blockOwned s s.own.cq c w.src = true ∧ Tab.find s.cqs c = some x

/-- The spans of an instance that an ADVISE names: those its range overlaps (R208). -/
def spansIn (s : State) (inst addr len : Nat) : List Nat :=
  (s.spans.filter (fun p => p.2.inst = inst && p.2.kind ≠ .plot && p.2.destroying.isNone && overlapR p.2.start p.2.len addr len)).map (·.1)

/-- The entry at an index of a queue is finished with a completion (R165, R197). -/
def DoneAs (s : State) (q i : Nat) (d : Done) : Prop := ∃ r, inflOf s q i = some r ∧ r.done = some d

/-- It is finished with OK and a number of bytes. -/
def DoneOk (s : State) (q i bytes : Nat) : Prop :=
  DoneAs s q i { status := Status.ok, cflags := 0, detail := 0, bytes := bytes, aux := 0 }

/-- It is finished with a failing status found on this device. -/
def DoneBad (s : State) (q i : Nat) (st : Byte) : Prop :=
  DoneAs s q i { status := st, cflags := 0, detail := 0, bytes := 0, aux := 0 }

/-- It is dispatched and not finished, admitted under a list of keys (R192, R212). -/
def Underway (s : State) (q i : Nat) (keys : List Nat) : Prop :=
  ∃ r, inflOf s q i = some r ∧ r.disp = true ∧ r.done = none ∧ r.keys = keys

/-- A frame is served on arrival (R71, R72, R77, R83): its link is up and not being calibrated, it is no flow-control frame, and the
blocks that serve it run. -/
abbrev RxReaches (s : State) (l : Nat) (f : Frame) : Prop :=
  (link s l).up = true ∧ f.eth ≠ 0x8808 ∧ (link s l).cal ≠ .running ∧ rxAsleep (rxWake s l) l = false

/-- The device as an arriving frame finds it once the link has counted it, its blocks awake (R71, R250, R264). -/
def rxCounted (s : State) (l : Nat) (f : Frame) : State :=
  let s := rxWake s l
  accUp (linkStat (linkStat (putLink s l { link s l with busyAt := s.sys.now }) l 2 1) l 3 f.payload.length) l
    (fun a => { a with rx := a.rx + f.payload.length })

/-- A good frame of an opcode reaches a CONNECTED queue pair from its peer, in the queue pair's epoch, and opens (R235, R241,
R281). -/
abbrev RxOpen (s : State) (l : Nat) (f : Frame) (op n : Nat) (p : Qp) (c : Cipher) (ext pay : Bytes) : Prop :=
  RxReaches s l f ∧ f.routed = qRouted p ∧ getBE f.hdr 1 1 = op ∧ frameFail s l f = none ∧ (parseHdr f.hdr).dqpn = n ∧ qpOf s n = some p ∧
  p.st = .connected ∧ f.src = p.peer ∧ (parseHdr f.hdr).sqpn = p.dqpn ∧ (parseHdr f.hdr).epoch = p.epoch ∧
  openPkt p f (parseHdr f.hdr) = some (c, ext, pay)

/-- The device and the queue pair that an opened data packet meets: a CE mark noted, the cipher record moved (R227, R281). -/
def rxMet (s : State) (l : Nat) (f : Frame) (n : Nat) (p : Qp) (c : Cipher) : State × Qp :=
  let x := noteCe (rxCounted s l f) l n p f (parseHdr f.hdr)
  (putQp x.1 n { x.2 with cipher := c }, { x.2 with cipher := c })

/-- The frame is the whole of a new request: FIRST and LAST, its PSN the expected one, its fields as R241 asks; in the state
in which its target is looked at. -/
abbrev RxNew (s : State) (l : Nat) (f : Frame) (n : Nat) (p : Qp) : Prop :=
  p.cur = none ∧ (parseHdr f.hdr).psn = p.epsn ∧ hFirst (parseHdr f.hdr) = true ∧ hLast (parseHdr f.hdr) = true ∧
  firstOk (noteCe (rxCounted s l f) l n p f (parseHdr f.hdr)).1 n (noteCe (rxCounted s l f) l n p f (parseHdr f.hdr)).2 (parseHdr f.hdr) f = true

/-- The request that a FIRST packet opens, before its admission (R212, R241). -/
def rxRequest (f : Frame) (count len raddr rkey : Nat) (rq : Option (Nat × Nat)) (target : Option Nat) : RReq :=
  { op := (parseHdr f.hdr).op, first := (parseHdr f.hdr).psn, count := count, len := len, raddr := raddr, rkey := rkey, imm := none,
    solicit := false, placed := [], target := target, rq := rq, data := [], adm := 0, spans := [] }

/-- The device in which an admitted request takes effect: the admission stands in the queue pair's receive state (R212). -/
def rxAdmitted (u : State) (n : Nat) (p : Qp) (c : RReq) : State := (admitReq u n p c).1

/-- A collective of one operation that its group can run now: dispatched, admitted, its source read (R314, R316, R369). -/
def CollReady (s : State) (q i op : Nat) (r : Infl) (n : Nat) (g : Group) (u : State) (src : Bytes) : Prop :=
  ∃ x, mayDispatch s q i 0x20 = some (x, r) ∧ getLE r.ent 12 1 = op ∧ n = getLE r.ent 20 4 ∧ Tab.find s.groups n = some g ∧
    g.error = none ∧ g.coll = none ∧ vqFail s g r.ent = none ∧
    (onRunnel s g r.ent = true ∨ ∃ y, Tab.find s.insts x.inst = some y ∧ y.fwSlots ≠ 0) ∧
    collAdmit s q i x.inst r (collLens s g r.ent) (!(op = 4 && g.rank ≠ getLE r.ent 52 4) && op ≠ 8)
      (!(op = 5 && g.rank ≠ getLE r.ent 52 4) && op ≠ 8) = .ok u src ∧
    ¬ (op = 7 ∧ (envOf u g r.ent src).pad = true ∧ (envOf u g r.ent src).cnt < (envOf u g r.ent src).scSum)

/-- The collective has taken its group's COLL_SEQ and runs there, or has ended there already (R314). -/
def CollJoined (t : State) (q i : Nat) (r : Infl) (n : Nat) (g : Group) : Prop :=
  ∃ h, Tab.find t.groups n = some h ∧ h.seq = (g.seq + 1) % 2 ^ 32 ∧ h.members = g.members ∧ h.rank = g.rank ∧
    ((∃ c, h.coll = some c ∧ c.q = q ∧ c.i = i ∧ c.seq = g.seq ∧ c.sig = sigOf g.seq r.ent) ∨
     (h.coll = none ∧ ∃ d, DoneAs t q i d))

/-- A running group of a slot is about to issue a defined, legal instruction of its code image, as read in `u` (R343). -/
def Issues (s : State) (core slot op : Nat) (t : Tg) (l : Launch) (x : Ins) (u : State) : Prop :=
  slot < 16 ∧ Tab.find s.fw.slots (fwKey core slot) = some t ∧ t.st = .running ∧ launchOf s t.q t.i = some l ∧
  atBreak s (fwKey core slot) t = false ∧ 64 ≤ t.pc ∧ t.pc % 8 = 0 ∧ t.pc + 8 ≤ l.codeLen ∧
  (∃ b, readMemAt (admOf s t.q t.i) s l.inst (l.codeAddr + t.pc) 8 = .ok u b ∧ insOf (ofLE b) = x) ∧ x.op = op ∧ insLegal x = true

/-- The address a lane of a local, argument or global access names: u[A] + v[B] + IMM (R344, R345). -/
def laneAddr (t : Tg) (x : Ins) (lane : Nat) : Nat := intBits 64 (t.ur x.a + t.vr x.b lane + x.simm)

/-- The instruction did nothing but move its group: PC past it, the debugger's step counted, and the group as `f` leaves it
(R343, R356). -/
def Moves (u v : State) (core slot : Nat) (t : Tg) (f : Tg → Tg) : Prop :=
  v = putTg u (fwKey core slot) (stepped u.sys.now (f { t with pc := (t.pc + 8) % 2 ^ 64 }))

/-- The instruction wrote register `d` on the lanes of its predicate, and nothing else of its group but PC and the step
(R343). -/
def LaneWrites (u v : State) (core slot : Nat) (t : Tg) (x : Ins) (f : Nat → Nat) : Prop :=
  ∃ g, v = putTg u (fwKey core slot) g ∧
    (∀ r lane, lane < 32 → g.vr r lane = if r = x.d ∧ bitN (predMask t x) lane = true then f lane % 2 ^ 32 else t.vr r lane) ∧
    g = { t with v := g.v, pc := (t.pc + 8) % 2 ^ 64, st := g.st, ran := g.ran, stepLeft := g.stepLeft, skipBreak := false }

/-- The instruction wrote predicate `d` on the lanes of its predicate, p0 apart, and nothing else of its group but PC and the
step (R343). -/
def PredWrites (u v : State) (core slot : Nat) (t : Tg) (x : Ins) (f : Nat → Bool) : Prop :=
  ∃ g, v = putTg u (fwKey core slot) g ∧
    (∀ j lane, j < 8 → lane < 32 → bitN (g.pr j) lane =
      if j = x.d ∧ j ≠ 0 ∧ bitN (predMask t x) lane = true then f lane else bitN (t.pr j) lane) ∧
    g = { t with p := g.p, pc := (t.pc + 8) % 2 ^ 64, st := g.st, ran := g.ran, stepLeft := g.stepLeft, skipBreak := false }

/-- LV_VDONE after one completion: the entry at its end, a full FIFO's oldest entry overwritten and counted in LOST (R69). -/
abbrev Queued (s t : State) (tag : Nat) (st : Byte) : Prop :=
  (s.lv.done.length < 8 → t.lv.done = s.lv.done ++ [(tag, st)] ∧ t.lv.lost = s.lv.lost) ∧
  (s.lv.done.length = 8 → t.lv.done = s.lv.done.drop 1 ++ [(tag, st)] ∧ t.lv.lost = min 127 (s.lv.lost + 1))


/-- Work for a block is done now: the block runs, or its wake is not held (R71, R72). -/
abbrev Runs (s : State) (b : Blk) : Prop := gated (wakeBlk s b) b = false

/-- A link control frame arrives on a link that is not being calibrated, and R88 does not discard it. -/
abbrev FrameIn (s : State) (l : Nat) (b : Bytes) (f : LinkFrame) : Prop :=
  linkExists s l = true ∧ (link s l).cal ≠ .running ∧ frameOf b = some f

/-- The standby's acknowledgements are not overdue: the manager does not give it up now (R29). -/
abbrev StandbyAnswers (s : State) : Prop := s.mgr.pend = [] ∨ s.basin.stby = false

/-- The keys an entry holds once it is admitted: those of its admission, or the ones it was admitted under before (R212). -/
abbrev keysIn (r : Infl) (ks : List Nat) : List Nat := if r.adm.isSome then r.keys else ks

/-- The local operand of an entry in the common layout, with the rights it needs (R183, R211). -/
abbrev opdOf (e : Bytes) (need : Nat) : LocOpd := { key := entKey e, need := need, addr := entAddr e, len := entLen e }

/-- The admission that a PREFETCH makes once: its key, then the note in its record (R212). -/
def pfAdmit (s : State) (q i : Nat) (x : Wq) (r : Infl) : State × Option Byte :=
  if r.adm.isSome then (s, none)
  else match admitKey s x.inst (entKey r.ent) rRead (entAddr r.ent) (entLen r.ent) false false with
    | (w, none) => (noteAdmit w q i [entKey r.ent] [], none)
    | f => f

/-- A PREFETCH entry is admitted, now or before (R206, R212). -/
abbrev PfAdmitted (s : State) (q i : Nat) (x : Wq) (r : Infl) (u : State) : Prop := pfAdmit s q i x r = (u, none)

/-- No record of a span that an ADVISE names has lost a copy (R202). -/
abbrev spansGood (s : State) (ks : List Nat) : Prop :=
  ∀ k ∈ ks, ∀ sp, Tab.find s.spans k = some sp → sp.bad1 = false ∧ sp.bad2 = false

/-- The Runnel unit serves an arriving message now: its link is not being calibrated, and the unit runs and is not under test (R83,
R72, R404). -/
abbrev RnServes (s : State) (m : Bytes) : Prop :=
  (∀ l, rnLink s (getBE m 4 1) = some l → (link s l).cal ≠ .running) ∧ rnStopped (wakeBlk s .runnel) = false

/-- The oldest incomplete request of a queue pair is an entry's, and that entry's only one (R240). -/
abbrev OldestIs (s : State) (p : Qp) (r : SReq) (q i : Nat) (e : Infl) : Prop :=
  oldestReq s (p.reqs.filter (fun x => !reqDone p x)) = some r ∧ r.who = .entry q i ∧ (∀ x ∈ p.reqs, x.who = .entry q i → x = r) ∧
  inflOf s q i = some e ∧ e.done = none
end Sys2Proof.Machine
end

