-- ==== Sys2Proof/Certificates/Slice0/Obligations.lean ====
section
/-!
DEFINITION. The statements for the provers. A clause `Answers c s P` says that exec of c at s answers a next state and that P
holds of it; the hypotheses speak of the state and the operands alone.
-/
open Sys2Proof Sys2Proof.Machine

/-- A step runs the command at the front of the queue (spec/95_what_each_step_holds.md). For every command c, queue rest r and
state s, step of s with c at the front of its queue is exec of c on s with the queue r. The queue itself is the model's (log
12). -/
def Obligations.StepRunsTheFrontCommand : Prop :=
  ∀ (c : Instr) (r : List Instr) (s : State), step { s with pending := c :: r } = exec c { s with pending := r }

/-- A step without a command: device time advances by 1 ns, or nothing moves in cold reset (R71). The model's choice of log 7,
no rule of the spec: with an empty queue and cold reset low the step leaves the state as it is; out of cold reset, with no
teardown under way, no work held anywhere and the sub-nanosecond count below its end, device time grows by 1 and nothing else but
the time and the outputs may change. -/
def Obligations.StepOnAnEmptyQueueIdles : Prop :=
  (∀ s : State, s.pending = [] → s.sys.coldLow = true → step s = .next s) ∧
  (∀ s : State, s.pending = [] → s.sys.coldLow = false → s.pt.st ≠ .teardown → s.sys.subTick < 4999 → s.insts = [] →
    s.wqs = [] → s.qps = [] → s.spans = [] → s.rxHeld = [] → s.pt.hdmHeld = [] → s.cv.bells = [] → s.rn.held = [] → s.rn.streams = [] →
    ∃ t, step s = .next t ∧ t.sys.now = s.sys.now + 1 ∧ t = { s with sys := t.sys, out := t.out })

/-- What State.reset holds (R11, R56, R74, R97). Device time, the boot stage, the features, VP_WERR, the log, the interrupts,
the role, the partner link, the policy, four registers with a stated reset value and the empty memories. That the memories and
the queue are empty is the model's (logs 2, 11 and 12). -/
def Obligations.ResetLeavesWhatTheSpecStates : Prop :=
  State.reset.sys.now = 0 ∧ State.reset.boot.stage = .rom ∧ State.reset.boot.warm = false ∧ State.reset.feat.committed = false ∧
  State.reset.vp.werrValid = false ∧ State.reset.log.entries = [] ∧ State.reset.log.head = 0 ∧ State.reset.log.lost = 0 ∧
  State.reset.intr.stat = 0 ∧ State.reset.intr.en = 0 ∧ State.reset.basin.role = .unjoined ∧ State.reset.pt.st = .down ∧
  State.reset.policy.requireEnc = false ∧ State.reset.policy.basinEnc = false ∧ State.reset.policy.lock = false ∧
  getReg State.reset 0x0C 0x004 = 0x1907 ∧ getReg State.reset 0x0C 0x00C = 760 ∧ getReg State.reset 0x0B 0x208 = 0x30064 ∧
  getReg State.reset 0x03 0x300 = 0x8000000A ∧ State.reset.hbm = [] ∧ State.reset.plot = [] ∧ State.reset.pending = []

/-- The memories of State.reset stand in their canonical form (R202). Addresses strictly rising and no entry equal to the
value an unlisted address reads as. The form is the model's (log 2). -/
def Obligations.ResetMemoriesStandInCanonicalForm : Prop := memoriesWf State.reset

/-- Every step keeps every memory in its canonical form (R202, R204). For every state whose memories stand in canonical form,
a step that answers a next state leaves them so. It speaks of HBM, the plot, partner memory and the copies of HBM and the plot
that sleep through a warm reset. The form is the model's (log 2). -/
def Obligations.EveryStepKeepsTheMemoriesCanonical : Prop :=
  ∀ s t : State, memoriesWf s → step s = .next t → memoriesWf t

/-- No step writes the golden bundle or the fuses, and a step takes exactly the front of the queue (R99). For all states: when
a step answers a next state, the golden slot and the fuses are what they were, and the queue is the old one without its front
command. -/
def Obligations.EveryStepKeepsTheGoldenBundleTheFusesAndTheQueue : Prop :=
  ∀ s t : State, step s = .next t →
    t.flash.golden = s.flash.golden ∧ t.sys.fuses = s.sys.fuses ∧ t.pending = s.pending.drop 1

/-- The boot walks from the bundle to READY, or abandons the candidate (R97, R98, R102, R104, R105, R106, R108, R109, R120,
R144). Model choices: logs 66 and 88. -/
def Obligations.BootWalksItsStages : Prop :=
  (∀ s x lv rest, Awake s → s.sys.straps.test = false → s.boot.warmBoot = false → s.boot.cur = none →
    (s.boot.stage = .rom ∨ s.boot.stage = .firmware) → s.boot.cands = (x, false) :: rest →
    bundleStatus s.sys.fuses.siliconRev (slotOf s.flash x) = Status.ok →
    bundleLevel s.sys.fuses.siliconRev (slotOf s.flash x) = some lv → Answers .bundleVerify s fun t =>
    t.boot.stage = .firmware ∧ t.boot.cur = some x ∧ t.boot.slot = x ∧ t.boot.runLevel = lv ∧ t.boot.cands = rest ∧
    t = { s with boot := t.boot, clk := t.clk }) ∧
  (∀ s x rest, Awake s → s.sys.straps.test = false → s.boot.warmBoot = false → s.boot.cur = none →
    (s.boot.stage = .rom ∨ s.boot.stage = .firmware) → s.boot.cands = (x, false) :: rest →
    bundleStatus s.sys.fuses.siliconRev (slotOf s.flash x) ≠ Status.ok → Answers .bundleVerify s fun t =>
    t.boot.stage = (if rest = [] then .halted else s.boot.stage) ∧ t.boot.abandoned = s.boot.abandoned + 1 ∧
    t.boot.image = s.boot.image ∧ t = { s with boot := t.boot }) ∧
  (∀ s x, Awake s → s.boot.stage = .firmware → s.boot.cur = some x → s.boot.resumeLost = false → Answers .firmwareRunning s fun t =>
    t.lv.ready = true ∧ t.lv.vnow = s.sys.fuses.vnomMv ∧ t.boot.stage = (if s.sys.straps.boot = 2 then .hold else .image) ∧
    t = { s with boot := t.boot, lv := t.lv, out := t.out }) ∧
  (∀ s x, Awake s → s.boot.stage = .image → s.boot.cur = some x → x ≠ .golden → s.boot.accepted = none →
    imageFor s s.boot.runLevel (bundleImage (slotOf s.flash x)) = Status.ok → Answers .imageVerify s fun t =>
    t.boot.accepted = some (parseImage (imageBytes (bundleImage (slotOf s.flash x))), imageDigest (bundleImage (slotOf s.flash x))) ∧
    t.boot.stage = (if s.boot.trained then .apply else .image) ∧ t = { s with boot := t.boot }) ∧
  (∀ s x, Awake s → s.boot.stage = .image → s.boot.cur = some x → x ≠ .golden → s.boot.accepted = none →
    imageFor s s.boot.runLevel (bundleImage (slotOf s.flash x)) ≠ Status.ok → Answers .imageVerify s fun t =>
    t.boot.image = s.boot.image ∧ t.boot.accepted = none ∧ t.boot.cur = none ∧
    t.boot.stage = (if s.boot.cands = [] then .halted else .firmware) ∧ t = { s with boot := t.boot }) ∧
  (∀ s failed, Awake s → s.boot.trained = false → (s.boot.stage = .firmware ∨ s.boot.stage = .image) → s.boot.accepted = none →
    Answers (.hbmTrained failed) s fun t => t.boot.trained = true ∧ t.boot.hbmFail = failed ∧ t.boot.hbmInService = ~~~failed ∧
    t.boot.stage = s.boot.stage ∧ t = { s with boot := t.boot, clk := t.clk, log := t.log }) ∧
  (∀ s i d, Awake s → s.boot.accepted = some (i, d) → (s.boot.stage = .apply ∨ s.boot.stage = .loading) →
    Answers .structureApplied s fun t => t.boot.stage = .vapen ∧ t.boot.image = some i ∧ t.boot.digest = d ∧
    t.feat.offer = offerOf i ∧ t.feat.committed = false ∧ t.insts = [(0, inst0)] ∧ t.basin.role = .unjoined ∧ t.hbm = [] ∧
    t.spans = [] ∧ t.keys = [] ∧ t.qps = [] ∧ t.flash = s.flash ∧ t.log = s.log ∧ t.sys = s.sys ∧ t.lv = s.lv ∧ t.mbx = s.mbx ∧
    t.pmem = s.pmem ∧ t.boot.hbmInService = s.boot.hbmInService &&& ~~~s.stacksLost) ∧
  (∀ s i lay, Awake s → s.boot.image = some i → s.boot.stage = .vapen → layoutOk i lay = true → mbxIs s 0x23 = none →
    Answers (.vapenBuilt lay) s fun t => t.boot.stage = .ready ∧ t.vp.tvalid = true ∧ t.vp.gen = s.vp.gen + 1 ∧
    t.vp.layout = some lay ∧ t.vp.table = tableBytes s i lay (s.vp.gen + 1) ∧ t.feat.offer = s.feat.offer ∧
    (modeOf s = .h → t.feat.committed = true) ∧ (modeOf s ≠ .h → t.feat = s.feat) ∧
    t = { s with boot := t.boot, vp := t.vp, mgr := t.mgr, feat := t.feat, log := t.log }) ∧
  (∀ s, s.sys.coldLow = false → s.sys.fuses.variant = .d → s.sys.straps.test = false → Answers .configurationRequest s fun t =>
    t = { s with out := .config (decide (s.boot.stage ≠ .ready ∧ s.boot.stage ≠ .hold) || decide (s.pt.st = .teardown)) :: s.out }) ∧
  (∀ s, (s.sys.fuses.variant = .p ∨ s.sys.straps.test = true) → Answers .configurationRequest s fun t => t = s)

/-- What the reset pins do, and what a warm resume keeps or discards (R52, R56, R57, R58, R74, R96, R111, R112). Model
choices: logs 56, 57, 58, 59, 89 and 92. -/
def Obligations.ResetPinsAndTheWarmResumeActAsStated : Prop :=
  (∀ s, Answers .coldRstNFall s fun t => t.sys.coldLow = true ∧ t.boot = Boot.reset ∧ t.hbm = [] ∧ t.plot = []
    ∧ t.asleep = none ∧ t.log = Log.reset ∧ t.sys.fuses = s.sys.fuses ∧ t.flash.golden = s.flash.golden
    ∧ t.pending = s.pending ∧ (s.mbx.running = none → t.flash = s.flash)) ∧
  (∀ s straps, s.sys.coldLow = true → straps.test = false → Answers (.coldRstNRise straps) s fun t =>
    t.sys.coldLow = false ∧ t.sys.straps = straps ∧ t.sys.now = 0
    ∧ t.boot.stage = (if t.boot.cands = [] then .halted else .rom)
    ∧ (straps.boot ≠ 0 → t.boot.cands = if holdsBundle s.flash.golden then [(.golden, false)] else [])) ∧
  (∀ s straps, s.sys.coldLow = true → straps.test = true → Answers (.coldRstNRise straps) s fun t =>
    t.sys.straps = straps ∧ t.boot = s.boot ∧ t = { s with sys := t.sys, clk := t.clk }) ∧
  (∀ s ns, s.sys.coldLow = false → 1000 ≤ ns → s.boot.stage ≠ .halted → s.sys.straps.test = false → s.boot.warmBoot = false →
    s.mbx.running = none → Answers (.warmRstNFall ns) s fun t =>
    t.sys.warmLow = true ∧ t.boot.stage = .rom ∧ t.boot.warmBoot = true ∧ t.sys.now = s.sys.now ∧ t.flash = s.flash
    ∧ t.log = s.log ∧ t.lv.vnow = s.lv.vnow ∧ t.pending = s.pending
    ∧ ((s.boot.stage = .ready ∧ s.boot.bootRec ≠ none) → ∃ a, t.asleep = some a ∧ a.hbm = s.hbm ∧ a.plot = s.plot ∧ a.insts = s.insts ∧ a.keys = s.keys ∧ a.spans = s.spans)) ∧
  (∀ s ns, ns < 1000 → Answers (.warmRstNFall ns) s fun t => t = s) ∧
  (∀ s, Answers .warmRstNRise s fun t => t = { s with sys.warmLow := false }) ∧
  (∀ s c, s.sys.coldLow = false → 115 ≤ c → Answers (.junctionOvertemp c) s fun t => t = { s with sys.thermTrip := true }) ∧
  (∀ s c, c < 115 → Answers (.junctionOvertemp c) s fun t => t = s) ∧
  (∀ s r a, Awake s → s.boot.warmBoot = true → s.boot.bootRec = some r → s.asleep = some a → mayResume s r true = true →
    r.prstPending = none → (∀ p ∈ a.insts, p.2.destroying = none) → (∀ p ∈ a.qps, p.2.st ≠ .connected ∧ p.2.st ≠ .resyncing ∧ (p.2.bad1 && p.2.bad2) = false) →
    (∀ p ∈ a.groups, p.2.coll = none) → a.rn.streams = [] → (∀ p ∈ a.cbs, p.2.st ≠ .loaded) →
    Answers (.warmResume true) s fun t => t.boot.stage = .ready ∧ t.boot.warm = true ∧ t.asleep = none ∧ t.boot.image = a.image ∧
    t.hbm = a.hbm ∧ t.plot = a.plot ∧ t.spans = a.spans ∧ t.keys = a.keys ∧ t.sy = a.sy ∧ t.wqs = a.wqs ∧ t.cqs = a.cqs ∧
    t.feat.subset = r.feat ∧ t.feat.committed = r.committed ∧ t.vp.tvalid = true ∧ t.sys = s.sys ∧ t.flash = s.flash ∧ t.log = s.log) ∧
  (∀ s ok, Awake s → s.boot.warmBoot = true → (s.boot.bootRec = none ∨ s.asleep = none ∨ ok = false ∨
      ∃ r, s.boot.bootRec = some r ∧ slotDigest s r ≠ r.digest) → Answers (.warmResume ok) s fun t =>
    t.boot.resumeLost = true ∧ t.boot.warm = false ∧ t.asleep = none ∧ t.hbm = [] ∧ t.plot = [] ∧ t.spans = [] ∧ t.keys = [] ∧
    t.qps = [] ∧ t.boot.stage = (if t.boot.cands = [] then .halted else .rom) ∧ t.flash = s.flash ∧ t.sys = s.sys ∧ t.pmem = s.pmem)

/-- Loader commands complete as stated, and features commit as a consistent subset (R103, R104, R110, R113, R114, R115,
R116). Model choices: logs 16, 42, 43, 47, 90 and 91. -/
def Obligations.LoaderAndFeatureCommandsActAsStated : Prop :=
  (∀ (s : State) (r : MbxReq) (b : Bool), mbxIs s 0x20 = some r → slotFields r.params = true → getLE r.params 0 1 = b.toNat →
    slotWriteFail s r (slotSource s (getLE r.params 1 1) (getLE r.params 8 8) (getLE r.params 4 4)) = none →
    Answers (.slotWrite true) s fun t =>
    (if b then t.flash.b else t.flash.a) = slotSource s (getLE r.params 1 1) (getLE r.params 8 8) (getLE r.params 4 4) ∧
    (if b then t.flash.a = s.flash.a else t.flash.b = s.flash.b) ∧ t.flash.golden = s.flash.golden ∧ t.mbx.running = none ∧
    t = { s with flash := t.flash, mbx := t.mbx, intr := t.intr, out := t.out }) ∧
  (∀ s r st ok, mbxIs s 0x20 = some r → slotFields r.params = true →
    slotWriteFail s r (slotSource s (getLE r.params 1 1) (getLE r.params 8 8) (getLE r.params 4 4)) = some st →
    Answers (.slotWrite ok) s fun t => t.flash = s.flash ∧ t = mbxDone s st []) ∧
  (∀ s r, mbxIs s 0x21 = some r → getLE r.params 0 1 ≤ 1 → getLE r.params 1 1 = 0 → zeroIn r.params 2 2 = true →
    bundleStatus s.sys.fuses.siliconRev (slotOf s.flash (slotNum (getLE r.params 0 1))) = Status.ok →
    Answers .slotSelectActive s fun t => t = mbxDone (dirAppend s { dirNow s.flash with active := getLE r.params 0 1 }) Status.ok []) ∧
  (∀ s r, mbxIs s 0x21 = some r → getLE r.params 0 1 ≤ 1 → getLE r.params 1 1 = 1 → zeroIn r.params 2 2 = true →
    bundleStatus s.sys.fuses.siliconRev (slotOf s.flash (slotNum (getLE r.params 0 1))) = Status.ok →
    Answers .slotSelectTry s fun t => t = mbxDone (dirAppend s { dirNow s.flash with try_ := getLE r.params 0 1 + 1 }) Status.ok []) ∧
  (∀ s r, mbxIs s 0x21 = some r → getLE r.params 0 1 ≤ 1 → getLE r.params 1 1 = 0 → zeroIn r.params 2 2 = true →
    bundleStatus s.sys.fuses.siliconRev (slotOf s.flash (slotNum (getLE r.params 0 1))) ≠ Status.ok →
    Answers .slotSelectActive s fun t => t.flash = s.flash ∧ t = mbxDone s Status.notPermitted []) ∧
  (∀ s r, mbxIs s 0x22 = some r → Answers .slotQuery s fun t => t.flash = s.flash ∧ ∃ d, t = mbxDone s Status.ok d ∧
    d.take 64 = ((dirStored s.flash).getD (zeros 64)).take 64) ∧
  (∀ s r, mbxIs s 0x23 = some r → s.boot.trained = true → (s.boot.stage = .ready ∨ s.boot.stage = .hold) → s.basin.role = .unjoined →
    s.insts = [(0, inst0)] → getLE r.params 0 1 ≤ 3 → zeroIn r.params 1 3 = true →
    imageStatus s.sys.fuses.variant s.sys.straps.pen s.boot.runLevel (some (s.boot.hbmInService &&& ~~~s.stacksLost))
      (loadSource s (getLE r.params 0 1)) = Status.ok → Answers .imageLoad s fun t => t.boot.stage = .loading ∧
    t.boot.accepted = some (parseImage (imageBytes (loadSource s (getLE r.params 0 1))), imageDigest (loadSource s (getLE r.params 0 1))) ∧
    t.vp.tvalid = false ∧ t.mbx = s.mbx ∧ t = { s with boot := t.boot, vp := t.vp }) ∧
  (∀ s r, mbxIs s 0x23 = some r → s.boot.trained = true → s.boot.stage = .ready → getLE r.params 0 1 ≤ 3 → zeroIn r.params 1 3 = true →
    (s.basin.role ≠ .unjoined ∨ ∃ p ∈ s.insts, p.1 ≠ 0) → Answers .imageLoad s fun t => t = mbxDone s Status.busy []) ∧
  (∀ s r, mbxIs s 0x24 = some r → getLE r.params 0 4 % 1024 = 0 → getLE r.params 0 4 < slotSize → zeroIn r.params 4 4 = true →
    Answers .stageWrite s fun t => t.boot.staged = Mem.write s.boot.staged (getLE r.params 0 4) (slice r.params 8 1024) ∧
    t.mbx.running = none ∧ t = { s with boot := t.boot, mbx := t.mbx, intr := t.intr, out := t.out }) ∧
  (∀ s w, fixedLive s = true → Taken s w → noRsv w 0xFFFFFFFC = true → bitN w.data.toNat 0 = true → bitN w.data.toNat 1 = false →
    featConflict s.feat.offer s.feat.ack = none → Answers (.featCommit w) s fun t => t.feat.committed = true ∧
    t.feat.subset = s.feat.ack ∧ t.feat.status = Status.ok ∧ t.vp = s.vp ∧ t = { s with feat := t.feat, boot := t.boot }) ∧
  (∀ s w n, fixedLive s = true → Taken s w → noRsv w 0xFFFFFFFC = true → bitN w.data.toNat 0 = true → bitN w.data.toNat 1 = false →
    featConflict s.feat.offer s.feat.ack = some n → Answers (.featCommit w) s fun t => t.feat.committed = s.feat.committed ∧
    t.feat.subset = s.feat.subset ∧ t.feat.status = Status.featureConflict ∧ t.feat.conflict = n ∧ t.vp = s.vp ∧
    t = { s with feat := t.feat, boot := t.boot }) ∧
  (∀ s w, fixedLive s = true → Taken s w → noRsv w 0xFFFFFFFC = true → bitN w.data.toNat 1 = true → bitN w.data.toNat 0 = false →
    (∀ p ∈ s.insts, p.2.cls ≠ .partner) → Answers (.featUncommit w) s fun t => t.feat.committed = false ∧ t.feat.status = Status.ok ∧
    t.vp = s.vp ∧ t = { s with feat := t.feat, boot := t.boot }) ∧
  (∀ s w, fixedLive s = true → Taken s w → noRsv w 0xFFFFFFFC = true → bitN w.data.toNat 1 = true → bitN w.data.toNat 0 = false →
    (∃ p ∈ s.insts, p.2.cls = .partner) → Answers (.featUncommit w) s fun t => t.feat.committed = s.feat.committed ∧
    t.feat.status = Status.busy ∧ t.vp = s.vp ∧ t = { s with feat := t.feat, boot := t.boot })

/-- Levee's sensing and throttling, and voltage commands that run to one completion (R59, R62, R63, R64, R65, R66, R67, R68,
R69). Model choices: logs 10, 63, 84 and 87. -/
def Obligations.LeveeSensesThrottlesAndRunsVoltageCommands : Prop :=
  (∀ s n d, s.sys.coldLow = false → n < 16 → fastEn s = true → d ≤ -20 → Answers (.gridExcursion n d) s fun t =>
    (region t n).boost = some s.sys.now ∧ (region t n).shunt = none ∧ boosted t n = true ∧
    (region t n).vdie = (4 * ((s.lv.target : Int) + d)).toNat % 4096 ∧ t = { s with lv.regions := t.lv.regions }) ∧
  (∀ s n d, s.sys.coldLow = false → n < 16 → fastEn s = true → 20 ≤ d → Answers (.gridExcursion n d) s fun t =>
    (region t n).shunt = some s.sys.now ∧ (region t n).boost = none ∧ shunted t n = true ∧
    (region t n).vdie = (4 * ((s.lv.target : Int) + d)).toNat % 4096 ∧ t = { s with lv.regions := t.lv.regions }) ∧
  (∀ s n d, s.sys.coldLow = false → n < 16 → (fastEn s = false ∨ (-20 < d ∧ d < 20)) → Answers (.gridExcursion n d) s fun t =>
    (fastEn s = true → (region t n).boost = none ∧ (region t n).shunt = none) ∧
    (fastEn s = false → (region t n).boost = (region s n).boost ∧ (region t n).shunt = (region s n).shunt) ∧
    (region t n).vdie = (4 * ((s.lv.target : Int) + d)).toNat % 4096 ∧ t = { s with lv.regions := t.lv.regions }) ∧
  (∀ s n xs, s.sys.coldLow = false → n < 16 → ocEn s = true → 4 ≤ xs.length → (∀ x ∈ xs, unitLimit s (.region n) < x) →
    Answers (.ocThrottleEnter (.region n) xs) s fun t =>
    (region t n).throttled = true ∧ ((region s n).throttled = false → (region t n).oc = true ∧ (region t n).since = s.sys.now) ∧
    t.wr.thrSeen = true ∧ t = { s with lv.regions := t.lv.regions, wr.thrSeen := t.wr.thrSeen }) ∧
  (∀ s n hi ns, s.sys.coldLow = false → n < 16 → 10000 ≤ ns → 10 * hi < 9 * unitLimit s (.region n) →
    Answers (.throttleExit (.region n) hi ns) s fun t => (region t n).thrOwn = false ∧
    t = { s with lv.regions := t.lv.regions, clk := t.clk }) ∧
  (∀ s n, s.sys.coldLow = false → n < 16 → persistDue (.region n) (region s n) = true → Answers (.ocPersist (.region n)) s fun t =>
    (region t n).ocPersist = true ∧ t.sys.now = max s.sys.now ((region s n).since + 1000000) ∧
    t = { advanceTo s ((region s n).since + 1000000) with lv.regions := t.lv.regions, wr := t.wr, insts := t.insts, out := t.out, log := t.log }) ∧
  (∀ s n b a x y, s.sys.coldLow = false → n < 16 → 500 < a → x < 10 → y < 10 →
    (if b then (region s n).bOpen else (region s n).aOpen) = false → Answers (.senseOpen n b [a, x, y]) s fun t =>
    (if b then (region t n).bOpen else (region t n).aOpen) = true ∧ (region t n).senseEvt = true ∧
    t = logEv { s with lv.regions := t.lv.regions } 0x0010 Status.senseOpen 0x0C n [BitVec.ofNat 8 (bit b)]) ∧
  (∀ s n xs, s.sys.coldLow = false → n < 16 → bitN (getReg s 0x0C 0x004) 1 = true →
    ((region s n).aOpen && (region s n).bOpen) = false → 16 ≤ xs.length → (∀ x ∈ xs, dropSample (region s n) (dropThresh s n) x = true) →
    Answers (.drop n xs) s fun t => (region t n).drop = true ∧ t = { s with lv.regions := t.lv.regions, log := t.log }) ∧
  (∀ s n xs, s.sys.coldLow = false → n < 16 → 16 ≤ xs.length → (∃ b, ∀ x ∈ xs, alone (region s n) (dropThresh s n) b x = true) →
    Answers (.disagree n xs) s fun t => (region t n).disagree = true ∧ t = { s with lv.regions := t.lv.regions }) ∧
  (∀ s n w, tenderRuns s = true → Answers (.pmbusPoll [(n, w)]) s fun t => Tab.find t.lv.pmbus n = some w.toNat ∧
    t = logEv { s with lv.pmbus := t.lv.pmbus } 0x0013 Status.ok 0x0C n (putLE 2 w.toNat)) ∧
  (∀ s w, windowLive s = true → Taken s w → noRsv w 0xFF00F000 = true → 700 ≤ fld w.data.toNat 11 0 → fld w.data.toNat 11 0 ≤ 800 →
    s.sys.fuses.vminMv ≤ fld w.data.toNat 11 0 → s.lv.ready = true → Answers (.lvVcmd w) s fun t =>
    t.lv.cmd = some { target := fld w.data.toNat 11 0, tag := fld w.data.toNat 23 16, atV := regOut s.lv s.sys.now, since := s.sys.now,
                      slew := slew s } ∧
    t.lv.curTag = fld w.data.toNat 23 16 ∧ t.out = .avs (slew s) (fld w.data.toNat 11 0) :: s.out ∧
    (s.lv.cmd = none → t.lv.done = s.lv.done) ∧
    (∀ c, s.lv.cmd = some c → s.lv.done.length < 8 → t.lv.done = s.lv.done ++ [(c.tag, Status.superseded)]) ∧
    t = { s with lv := t.lv, out := t.out }) ∧
  (∀ s w, windowLive s = true → Taken s w → (fld w.data.toNat 11 0 < 700 ∨ 800 < fld w.data.toNat 11 0) → s.vp.werrValid = false →
    Answers (.lvVcmd w) s fun t => t.lv = s.lv ∧ t.vp.werrValid = true ∧ t.vp.werrStatus = Status.badField) ∧
  (∀ s c a b, s.lv.cmd = some c → c.target ≤ a + 3 → a ≤ c.target + 3 → c.target ≤ b + 3 → b ≤ c.target + 3 →
    Answers (.vcmdSettle a b) s fun t => t.lv.cmd = none ∧ t.lv.vnow = b % 4096 ∧
    (s.lv.done.length < 8 → t.lv.done = s.lv.done ++ [(c.tag, Status.ok)]) ∧ t = { s with lv := t.lv }) ∧
  (∀ s c a b, s.lv.cmd = some c → (c.target + 3 < a ∨ a + 3 < c.target ∨ c.target + 3 < b ∨ b + 3 < c.target) →
    Answers (.vcmdSettle a b) s fun t =>
    t = { s with lv.vnow := b % 4096, lv.outV := 10000 * b, lv.outAt := s.sys.now }) ∧
  (∀ s c, s.lv.cmd = some c → Answers .vcmdTimeout s fun t => t.lv.cmd = none ∧
    t.sys.now = max s.sys.now (c.since + settleNs c) ∧
    (s.lv.done.length < 8 → t.lv.done = s.lv.done ++ [(c.tag, Status.waitTimeout)]) ∧ t = { advanceTo s (c.since + settleNs c) with lv := t.lv }) ∧
  (∀ s c, s.lv.cmd = some c → Answers .avsbusSilent s fun t => t.lv.cmd = none ∧
    (s.lv.done.length < 8 → t.lv.done = s.lv.done ++ [(c.tag, Status.retryExceeded)]) ∧ t = { s with lv := t.lv }) ∧
  (∀ s, windowLive s = true → Answers .lvVdoneRead s fun t => t.rd = BitVec.ofNat 64 (vdoneWord s) ∧
    t = { s with lv.done := s.lv.done.drop 1, lv.lost := 0, rd := t.rd })

/-- Gating, waking, device time, PTP and PPS, and the modules of the ports (R63, R71, R72, R73, R74, R75, R79, R80, R81).
Model choices: logs 46, 69, 86 and 113. -/
def Obligations.ClocksTimeAndModulesActAsStated : Prop :=
  (∀ s b ns, s.sys.coldLow = false → blkIdle s b = true → b ∉ s.clk.gated → gateHoldNs s ≤ ns → Answers (.blockGate ⟨b, ns⟩) s fun t =>
    t.clk.gated = b :: s.clk.gated ∧ ((∀ n, b ≠ .furrow n) → t = { s with clk.gated := t.clk.gated }) ∧
    t = { s with clk.gated := t.clk.gated, clk.furrowFrom := t.clk.furrowFrom }) ∧
  (∀ s b ns, s.sys.coldLow = false → (blkIdle s b = false ∨ ns < gateHoldNs s) → Answers (.blockGate ⟨b, ns⟩) s fun t => t = s) ∧
  (∀ s b, b ∈ s.clk.gated → (region s (blkRegion b)).throttled = false → Answers (.wakeEvent b) s fun t =>
    t.clk.gated = s.clk.gated.erase b ∧ (∀ n, b = .furrow n → t.clk.fwLock = true) ∧ t = { s with clk := t.clk }) ∧
  (∀ s b, b ∈ s.clk.gated → (region s (blkRegion b)).throttled = true → Answers (.wakeEvent b) s fun t =>
    b ∈ t.clk.heldWakes ∧ t.clk.gated = s.clk.gated ∧ t = { s with clk := t.clk }) ∧
  (∀ s a, s.sys.coldLow = false → bitN (getReg s 0x0C 0x600) 0 = false → (∀ n < 48, Blk.furrow n ∈ s.clk.gated) →
    s.clk.furrowFrom = some a → Answers .furrowPllPowerDown s fun t => t.sys.now = max s.sys.now (a + 1000000) ∧
    t = { advanceTo s (a + 1000000) with clk.fwLock := false }) ∧
  (∀ s, (bitN (getReg s 0x0C 0x600) 0 = true ∨ (∃ n < 48, Blk.furrow n ∉ s.clk.gated) ∨ s.clk.furrowFrom = none) →
    Answers .furrowPllPowerDown s fun t => t = s) ∧
  (∀ s, windowLive s = true → Answers .devtimeLoRead s fun t =>
    t = { s with rd := BitVec.ofNat 64 (s.sys.now % 2 ^ 32), sys.devtimeHi := hi32 s.sys.now }) ∧
  (∀ s l, windowLive s = true → timeSrc s = 1 → l = fld (getReg s 0x0B 0x108) 12 8 → (link s l).up = true →
    Answers (.ptpMessage ⟨l, .sync⟩) s fun t => t.sys.ptpT2 = some s.sys.now ∧ t = { s with sys := t.sys }) ∧
  (∀ s l a b c (d : Nat), windowLive s = true → timeSrc s = 1 → l = fld (getReg s 0x0B 0x108) 12 8 → (link s l).up = true →
    s.sys.ptpT1 = some a → s.sys.ptpT2 = some b → s.sys.ptpT3 = some c →
    1000000 < (((a : Int) - b) + ((d : Int) - c)) / 2 →
    Answers (.ptpMessage ⟨l, .delayResp d⟩) s fun t => t.sys.servo = 0 ∧
      (t.sys.now : Int) = s.sys.now + (((a : Int) - b) + ((d : Int) - c)) / 2 ∧
      t = { setNow s t.sys.now with sys := t.sys }) ∧
  (∀ s, windowLive s = true → timeSrc s = 2 → s.sys.now % 1000000000 < 500000000 → Answers .ppsInEdge s fun t =>
    t.sys.servo = -((s.sys.now % 1000000000 : Nat) : Int) ∧ t.sys.now = s.sys.now ∧ t = { s with sys := t.sys }) ∧
  (∀ s, windowLive s = true → timeSrc s = 2 → 500000000 ≤ s.sys.now % 1000000000 → s.sys.now % 1000000000 < 999000000 →
    Answers .ppsInEdge s fun t => t.sys.now = s.sys.now + (1000000000 - s.sys.now % 1000000000) ∧ t.sys.servo = 0 ∧
    t = { setNow s t.sys.now with sys := t.sys }) ∧
  (∀ s p info, tenderRuns s = true → s.boot.image ≠ none → p < 8 → info.apps.contains (lanesOf (brkOf s p)) = true →
    Answers (.moduleInsertion p info) s fun t => (port t p).modState = .ready ∧ t = { s with ports := t.ports }) ∧
  (∀ s p info, tenderRuns s = true → s.boot.image ≠ none → p < 8 → info.apps.contains (lanesOf (brkOf s p)) = false →
    Answers (.moduleInsertion p info) s fun t => (port t p).modState = .incompatible) ∧
  (∀ s p, tenderRuns s = true → p < 8 → (port s p).modState ≠ .none → Answers (.cmisPoll p .ok) s fun t =>
    (port t p).missed = 0 ∧ t = { s with ports := t.ports }) ∧
  (∀ s p, tenderRuns s = true → p < 8 → (port s p).modState ≠ .none → Answers (.cmisPoll p .fault) s fun t =>
    (port t p).modState = .fault) ∧
  (∀ s p, tenderRuns s = true → p < 8 → (port s p).modState ≠ .none → (port s p).missed < 2 → Answers (.cmisPoll p .silent) s fun t =>
    (port t p).missed = (port s p).missed + 1 ∧ (port t p).modState = (port s p).modState ∧ t = { s with ports := t.ports }) ∧
  (∀ s p, tenderRuns s = true → p < 8 → (port s p).modState ≠ .none → 2 ≤ (port s p).missed → Answers (.cmisPoll p .silent) s fun t =>
    (port t p).modState = .fault) ∧
  (∀ s r, mbxIs s 0x30 = some r → r.origin ≠ .mctp → r.discard = false → firstFail (moduleChecks s r.params 256) = none →
    Answers (.moduleRead true) s fun t => t.mbx.st = .done ∧ t.mbx.status = Status.ok ∧ t.mbx.running = none ∧
    t.mbx.rsp = rspBlock r.code r.tag Status.ok ((List.range (getLE r.params 4 2)).map fun i => Mem.get
      (port s (getLE r.params 0 1)).modMem (modAddr (getLE r.params 1 1) (getLE r.params 2 1) (getLE r.params 3 1 + i))) ∧
    t = { s with mbx := t.mbx, intr := t.intr, out := t.out }) ∧
  (∀ s r, mbxIs s 0x31 = some r → r.origin ≠ .mctp → r.discard = false → firstFail (moduleChecks s r.params 8) = none →
    (∀ i < getLE r.params 4 2, tenderByte (getLE r.params 2 1) (getLE r.params 3 1 + i) = false) →
    Answers (.moduleWrite true) s fun t => t.mbx.st = .done ∧ t.mbx.status = Status.ok ∧ t.mbx.running = none ∧
    t = { s with mbx := t.mbx, intr := t.intr, out := t.out, ports := t.ports })

/-- Calibration sweeps and the negotiation of a link (R78, R83, R84, R87, R89, R93). Model choices: logs 67 and 85. -/
def Obligations.CalibrationRunsAndLinksNegotiate : Prop :=
  (∀ s l w, windowLive s = true → l < 32 → linkExists s l = true → Taken s w → noRsv w 0xFFFF00FE = true → bitN w.data.toNat 0 = true →
    (link s l).cal = .idle → Answers (.slCalStart l w) s fun t => (link t l).cal ≠ .idle ∧
    (link t l).calTag = fld w.data.toNat 15 8 ∧ (linkLive s l = true → (link t l).cal = .pending) ∧ t = { s with links := t.links }) ∧
  (∀ s l ns, linkExists s l = true → (link s l).cal = .pending → 50000 ≤ ns → (link s l).up = true → linkQuiet s l = true →
    Answers (.calIdleWindow l ns) s fun t => (link t l).cal = .running ∧ t = { s with links := t.links }) ∧
  (∀ s l, (link s l).cal = .running → Answers (.calComplete l) s fun t => (link t l).cal = .idle ∧ (link t l).calStatus = Status.ok ∧
    t = { s with links := t.links, log := t.log }) ∧
  (∀ s l, (link s l).cal = .pending → Answers (.calDeferTimeout l) s fun t => (link t l).cal = .idle ∧
    (link t l).calStatus = Status.deferredTimeout ∧ t.sys.now = max s.sys.now ((link s l).calSince + 1000000000) ∧
    t = { advanceTo s ((link s l).calSince + 1000000000) with links := t.links, log := t.log }) ∧
  (∀ s l m, linkExists s l = true → adminUp s l = true → (link s l).up = false → (port s (l / 4)).failed = false →
    portTested s (l / 4) = false → hasMedium s l = true → (link s l).cal ≠ .running → Answers (.linkTrained l m) s fun t =>
    (link t l).up = true ∧ (link t l).offerSent = 1 ∧ (link t l).offerAt = s.sys.now ∧ t = { s with links := t.links, out := t.out } ∧
    t.out = .linkFrame l (linkHeader s l ++ frameBytes { ownFrame s 1 with capable := capable s l, interval := ownCap s l }) :: s.out) ∧
  (∀ s l m, linkExists s l = true → adminUp s l = true → (link s l).up = true → (port s (l / 4)).failed = false →
    portTested s (l / 4) = false → hasMedium s l = true → (link s l).cal ≠ .running → (link s l).verify = true →
    Answers (.linkTrained l m) s fun t => (link t l).merge = (m && mergeEn s (l / 4)) ∧ (link t l).verify = false ∧
    t = { s with links := t.links }) ∧
  (∀ s l, linkExists s l = true → (link s l).up = true → Answers (.linkDown l) s fun t => (link t l).up = false ∧
    ((link t l).dorm = .down ∨ (link t l).dorm = .retrain)) ∧
  (∀ s l b f, FrameIn s l b f → f.op = 1 → f.reply = false → (link s l).up = true →
    (link s l).measured = false → Answers (.offer l b) s fun t => (link t l).peer = some f.serial ∧
    (link t l).peerCap = some f.interval ∧ t = { s with links := t.links, out := t.out } ∧
    t.out = .linkFrame l (linkHeader s l ++ frameBytes { ownFrame s 1 with capable := capable s l, reply := true, interval := ownCap s l }) :: s.out) ∧
  (∀ s l b f, FrameIn s l b f → f.op = 1 → f.reply = true → (link s l).up = true →
    (link s l).offerSent ≠ 0 → capable s l = true → f.capable = true → (s.sys.now - (link s l).offerAt - f.turnaround) / 2 ≤ 1000 →
    Answers (.offer l b) s fun t => (link t l).dorm = .active ∧ (link t l).agreed = min (ownCap s l) f.interval ∧
    (link t l).master = decide (s.sys.fuses.serial < f.serial) ∧ t = { s with links := t.links }) ∧
  (∀ s l, linkExists s l = true → (link s l).up = true → (link s l).offerSent ≠ 0 → (link s l).offerSent < 8 →
    (link s l).measured = false → Answers (.offerReplyTimeout l) s fun t => (link t l).offerSent = (link s l).offerSent + 1 ∧
    t.sys.now = max s.sys.now ((link s l).offerAt + 100000) ∧ t = { advanceTo s ((link s l).offerAt + 100000) with links := t.links, out := t.out }) ∧
  (∀ s l, linkExists s l = true → (link s l).up = true → 8 ≤ (link s l).offerSent → (link s l).measured = false →
    Answers (.offerReplyTimeout l) s fun t => (link t l).dorm = .ineligible ∧ (link t l).agreed = 0 ∧ t.out = s.out) ∧
  (∀ s l b c, linkExists s l = true → ((link s l).cal = .running ∨ frameOf b = none) →
    c ∈ [Instr.offer l b, .enter l b, .enterAck l b, .enterNak l b, .cancel l b, .hello l b] → Answers c s fun t =>
    t = putLink s l { link s l with dropped := (link s l).dropped + 1 })

/-- A link enters dormancy, holds and wakes (R89, R90, R92, R93, R94). Model choices: log 85. -/
def Obligations.DormancyEntersHoldsAndWakes : Prop :=
  (∀ s l, linkExists s l = true → (link s l).dorm = .active → (link s l).master = true → (link s l).reneg = false → dormEn s l = true →
    endIdle s l = true → Answers (.masterIdleEnter l) s fun t => (link t l).dorm = .entering ∧ (link t l).held = true ∧
    (link t l).token = (Config.free s.sys.freeCtr).setWidth 8 ∧ t.sys.freeCtr = s.sys.freeCtr + 1 ∧
    t.sys.now = max s.sys.now ((link s l).busyAt + idleEnterNs s l) ∧ t = { freeStep (advanceTo s ((link s l).busyAt + idleEnterNs s l)) with links := t.links, out := t.out }) ∧
  (∀ s l b f, FrameIn s l b f → f.op = 2 → (link s l).dorm = .active → (link s l).master = false →
    (link s l).reneg = false → dormEn s l = true → endIdle s l = true → (link s l).busyAt + idleEnterNs s l ≤ s.sys.now →
    Answers (.enter l b) s fun t =>
    (link t l).dorm = .entering ∧ (link t l).reference = s.sys.now + (link s l).delay ∧ (link t l).token = f.token ∧
    (link t l).wakeAt = s.sys.now + (link s l).delay + 10000 * (link s l).agreed ∧ t = { s with links := t.links, out := t.out } ∧
    t.out = .linkFrame l (linkHeader s l ++ frameBytes { ownFrame s 3 with token := f.token, interval := (link s l).agreed }) :: s.out) ∧
  (∀ s l b f, FrameIn s l b f → f.op = 2 → (link s l).dorm = .active → (link s l).master = false →
    (endIdle s l = false ∨ s.sys.now < (link s l).busyAt + idleEnterNs s l ∨ dormEn s l = false ∨ (link s l).reneg = true) →
    Answers (.enter l b) s fun t =>
    t = { s with out := .linkFrame l (linkHeader s l ++ frameBytes { ownFrame s 4 with token := f.token }) :: s.out }) ∧
  (∀ s l b f, FrameIn s l b f → f.op = 3 → (link s l).dorm = .entering → (link s l).enterAt ≠ none →
    f.token = (link s l).token → Answers (.enterAck l b) s fun t => (link t l).reference = s.sys.now ∧ (link t l).ackFixed = true ∧
    (link t l).wakeAt = s.sys.now + 10000 * (link s l).agreed ∧ t = { s with links := t.links }) ∧
  (∀ s l b f, FrameIn s l b f → f.op = 4 → (link s l).dorm = .entering → (link s l).enterAt ≠ none →
    f.token = (link s l).token → Answers (.enterNak l b) s fun t =>
    (link t l).dorm = (if isPtpLink s l then .ineligible else .active) ∧ (link t l).held = false ∧
    ((link s l).reneg = true → isPtpLink s l = false → (link t l).offerSent = 1) ∧
    ((link s l).reneg = false → t.out = s.out) ∧ t = { s with links := t.links, out := t.out }) ∧
  (∀ s l b f, FrameIn s l b f → f.op = 5 → (link s l).dorm = .entering → f.token = (link s l).token →
    Answers (.cancel l b) s fun t => (link t l).dorm = (if isPtpLink s l then .ineligible else .active) ∧ (link t l).held = false ∧
    ((link s l).reneg = true → isPtpLink s l = false → (link t l).offerSent = 1) ∧
    ((link s l).reneg = false → t.out = s.out) ∧ t = { s with links := t.links, out := t.out }) ∧
  (∀ s l, (link s l).dorm = .entering → (link s l).ackFixed = true → Answers (.dormancyHoldEnd l) s fun t =>
    (link t l).dorm = .dormant ∧ t.sys.now = max s.sys.now ((link s l).reference + 4000) ∧ t = { advanceTo s ((link s l).reference + 4000) with links := t.links }) ∧
  (∀ s l a, (link s l).dorm = .entering → (link s l).enterAt = some a → Answers (.enterAckTimeout l) s fun t =>
    (link t l).dorm = .retrain ∧ (link t l).up = false ∧ t.sys.now = max s.sys.now (a + 10000) ∧
    t = { advanceTo s (a + 10000) with links := t.links, log := t.log }) ∧
  (∀ s l, (link s l).dorm = .dormant → Answers (.wakeWindowOpen l) s fun t => (link t l).dorm = .waking ∧ (link t l).helloSent = true ∧
    t.sys.now = max s.sys.now ((link s l).wakeAt - 1000) ∧ t = { advanceTo s ((link s l).wakeAt - 1000) with links := t.links, out := t.out }) ∧
  (∀ s l b f, FrameIn s l b f → f.op = 6 → (link s l).dorm = .waking → (link s l).helloSent = true →
    (link s l).peer = some f.serial → (link s l).reneg = false → (f.haveWork = true ∨ f.disable = true ∨ (link s l).helloFlags ≠ 0) →
    Answers (.hello l b) s fun t => (link t l).dorm = (if isPtpLink s l then .ineligible else .active) ∧ (link t l).up = true ∧
    t = { s with links := t.links }) ∧
  (∀ s l b f, FrameIn s l b f → f.op = 6 → (link s l).dorm = .waking → (link s l).helloSent = true →
    (link s l).peer = some f.serial → f.haveWork = false → f.disable = false → (link s l).helloFlags = 0 →
    Answers (.hello l b) s fun t => (link t l).dorm = .entering ∧
    (link t l).reference = (if (link s l).master then s.sys.now else (link s l).reference) ∧ t = { s with links := t.links }) ∧
  (∀ s l, (link s l).dorm = .waking → Answers (.wakeWindowClose l) s fun t => (link t l).dorm = .retrain ∧
    t.sys.now = max s.sys.now ((link s l).wakeAt + 1600 + (link s l).delay) ∧ t = { advanceTo s ((link s l).wakeAt + 1600 + (link s l).delay) with links := t.links, log := t.log }) ∧
  (∀ s l t0 p, (link s l).trainSince = some t0 → linkExists s l = true → (link s l).up = false → (link s l).dorm = .retrain →
    Answers (.retrainLoopback l p) s fun t => (p = true → (port t (l / 4)).failed = (port s (l / 4)).failed ∧ t.log = s.log) ∧
    (p = false → (port t (l / 4)).failed = true) ∧ t.sys.now = max s.sys.now (t0 + 1000000000)) ∧
  (∀ s l a b c r, (link s l).missAt = a :: b :: c :: r → a ≤ c + 1000000000 → dormEn s l = true → Answers (.dormMissLimit l) s fun t =>
    dormEn t l = false ∧ (link t l).missAt = [] ∧ t = { s with links := t.links, regs := t.regs, log := t.log })

/-- Heartbeats, replies, leases and lost members (R18, R23, R25, R26, R27, R28, R30). Model choices: logs 13, 96, 97 and 98. -/
def Obligations.HeartbeatsHoldTheBasinTogether : Prop :=
  (∀ s, s.basin.role = .active → s.mgr.firstHb = none → StandbyAnswers s → Answers .heartbeatPeriod s fun t =>
    t.mgr.hbSeq = (s.mgr.hbSeq + 1) % 2 ^ 32 ∧ t.mgr.firstHb = some s.sys.now ∧ t.basin.lastHb = s.sys.now ∧
    t.mgr.dir.workers = s.mgr.dir.workers ∧ t.sys = s.sys ∧ t.hbm = s.hbm ∧ t.log = s.log) ∧
  (∀ s p, s.basin.role = .active → s.mgr.firstHb = none → s.basin.stby = true → s.mgr.pend = [p] → p.after = .nothing →
    p.since + leaseNs s ≤ s.sys.now → p.seq ≤ s.mgr.repSeq → ownersKept s p.dir → Answers .heartbeatPeriod s fun t =>
    t.basin.stby = false ∧ t.mgr.standby = none ∧ t.mgr.pend = [] ∧ t.basin.epoch = s.basin.epoch + p.bump ∧
    t.mgr.dir.plots = p.dir.plots ∧ t.mgr.firstHb = some s.sys.now) ∧
  (∀ s h, s.basin.role = .active → s.mgr.firstHb = some h → StandbyAnswers s → Answers .heartbeatPeriod s fun t =>
    t.sys.now = max s.sys.now (s.basin.lastHb + periodNs s) ∧
    (majorityReplied s.mgr.dir = true → t.mgr.lease = t.sys.now) ∧ (majorityReplied s.mgr.dir = false → t.mgr.lease = s.mgr.lease)) ∧
  (∀ s m r, Heard s m r 0x01 → staleHb s r = false → s.basin.role = .standby → Answers (.heartbeat m) s fun t =>
    t.basin.role = .standby ∧ t.basin.missedHb = 0 ∧ t.basin.mgrMissing = false ∧ t.basin.mgrSerial = some r.serial ∧
    t.basin.lastHb = s.sys.now ∧ t.basin.period = fld r.subject 63 48 ∧ t.basin.miss = fld r.subject 47 40 ∧
    t.basin.epoch = max s.basin.epoch r.epoch) ∧
  (∀ s m r, Heard s m r 0x01 → staleHb s r = false → s.basin.role = .worker → s.basin.noticed = false → s.basin.grant = none →
    r.epoch ≤ s.basin.map.epoch → s.basin.period ≤ fld r.subject 63 48 → s.basin.nextPeriod ≤ fld r.subject 39 24 →
    Answers (.heartbeat m) s fun t => t.basin.mgrMissing = false ∧ t.basin.period = fld r.subject 63 48 ∧
    t.basin.nextPeriod = fld r.subject 39 24 ∧ (∃ b, t.out = .basin r.serial (ctlBytes b) :: s.out ∧ b.type = 0x02) ∧
    t = { s with basin := t.basin, out := t.out }) ∧
  (∀ s m r, Heard s m r 0x01 → staleHb s r = true → Answers (.heartbeat m) s fun t => t = s) ∧
  (∀ s m r w, Heard s m r 0x02 → s.basin.role = .active → Tab.find s.mgr.dir.workers r.serial = some w → r.seq ≠ s.mgr.hbSeq % 2 ^ 32 →
    seqOld r.seq s.mgr.hbSeq = false → Answers (.hbReply m) s fun t => t = s) ∧
  (∀ s m r w, Heard s m r 0x02 → s.basin.role = .active → Tab.find s.mgr.dir.workers r.serial = some w →
    (r.seq = s.mgr.hbSeq % 2 ^ 32 ∨ seqOld r.seq s.mgr.hbSeq = true) → Answers (.hbReply m) s fun t =>
    Tab.find t.mgr.dir.workers r.serial = some { w with replied := true, missed := 0, excuse := none } ∧ t = { s with mgr := t.mgr }) ∧
  (∀ s m r, Heard s m r 0x02 → s.basin.role = .active → Tab.find s.mgr.dir.workers r.serial = none → Answers (.hbReply m) s fun t =>
    t = { s with out := .basin r.serial (ctlBytes (ownCtl s 0x0D r.serial)) :: s.out }) ∧
  (∀ s, s.basin.role = .worker → s.basin.mgrMissing = false → Answers .managerMissing s fun t => t.basin.mgrMissing = true ∧
    t.basin.role = .worker ∧ t.sys.now = max s.sys.now (s.basin.lastHb + leaseNs s) ∧ t = { advanceTo s (s.basin.lastHb + leaseNs s) with basin := t.basin }) ∧
  (∀ s, s.basin.role = .standby → Answers .managerMissing s fun t => t.basin.role = .claiming ∧
    t.sys.now = max s.sys.now (s.basin.lastHb + leaseNs s) ∧ t.mgr.grants = [] ∧ t.mgr.claimPlanned = false) ∧
  (∀ s n w, s.basin.role = .active → s.basin.stby = true → Tab.find s.mgr.dir.workers n = some w → s.basin.miss ≤ w.missed →
    Tab.find (dirLatest s).workers n = some w → Answers (.workerLost n) s fun t =>
    t.basin.basinWin = some s.sys.now ∧ t.mgr.dir = s.mgr.dir ∧ Tab.find (dirLatest t).workers n = none ∧
    (n, s.sys.now) ∈ t.mgr.lostNotices ∧ t.hbm = s.hbm ∧ t.plot = s.plot) ∧
  (∀ s n w a, s.basin.role = .active → s.basin.stby = true → Tab.find s.mgr.dir.workers n = some w → w.excuse = some a →
    Tab.find (dirLatest s).workers n = some w → Answers (.excuseExpiry n) s fun t =>
    t.sys.now = max s.sys.now (a + 1000000000) ∧ t.basin.basinWin = some t.sys.now ∧ Tab.find (dirLatest t).workers n = none) ∧
  (∀ s, s.basin.role = .active → Answers .leaseExpiry s fun t => t.basin.role = .standby ∧ t.mgr.pend = [] ∧
    t.basin.stby = false ∧ t.sys.now = max s.sys.now (s.mgr.lease + leaseNs s) ∧
    t = { advanceTo s (s.mgr.lease + leaseNs s) with basin := t.basin, mgr := t.mgr, log := t.log }) ∧
  (∀ s h, s.basin.role = .active → s.mgr.firstHb = some h → s.mgr.switched = false → Answers .hbParamSwitch s fun t =>
    t.basin.period = s.basin.nextPeriod ∧ t.basin.miss = s.basin.nextMiss ∧ t.mgr.switched = true ∧
    t.sys.now = max s.sys.now (h + 16000000 + leaseNs s) ∧ t = { advanceTo s (h + 16000000 + leaseNs s) with basin := t.basin, mgr := t.mgr })

/-- Claims, grants, revocations and handovers of the manager role (R23, R31, R32, R33, R35). Model choices: logs 98 and 99. -/
def Obligations.ClaimsEndWithOneManager : Prop :=
  (∀ s, s.basin.role = .unjoined → roleCap s = 2 → s.boot.stage = .ready → Answers .unjoinedClaimStart s fun t =>
    t.basin.role = .claiming ∧ t.mgr.claimPlanned = false ∧ t.mgr.grants = [] ∧
    t.sys.now = max s.sys.now (s.mgr.loadAt + leaseNs s)) ∧
  (∀ s, s.basin.role = .claiming → Answers .claimPeriod s fun t =>
    t = { s with out := .basin 0 (ctlBytes { ownCtl s 0x03 0 with flags := bit s.mgr.claimPlanned }) :: s.out }) ∧
  (∀ s m r, Heard s m r 0x03 → s.basin.role = .worker → bitN r.flags 0 = false → s.basin.mgrMissing = true → s.basin.grant = none →
    Answers (.claim m) s fun t => t.basin.grant = some (r.serial, r.epoch) ∧
    t.out = .basin r.serial (ctlBytes (ownCtl s 0x04 r.serial)) :: s.out ∧ t = { s with basin := t.basin, out := t.out }) ∧
  (∀ s m r, Heard s m r 0x03 → s.basin.role = .worker → bitN r.flags 0 = false → s.basin.mgrMissing = false →
    Answers (.claim m) s fun t => t = s) ∧
  (∀ s m r g, Heard s m r 0x03 → s.basin.role = .worker → bitN r.flags 0 = false → s.basin.mgrMissing = true → s.basin.grant = some g →
    g.1 ≠ r.serial → ranksAbove r.epoch r.serial g.2 g.1 = true → Answers (.claim m) s fun t =>
    t.basin.grant = some (r.serial, r.epoch) ∧
    t.out = .basin r.serial (ctlBytes (ownCtl s 0x04 r.serial)) :: .basin g.1 (ctlBytes (ownCtl s 0x05 g.1)) :: s.out) ∧
  (∀ s m r, Heard s m r 0x03 → s.basin.role = .claiming → ranksAbove r.epoch r.serial s.basin.epoch s.sys.fuses.serial = true →
    Answers (.claim m) s fun t => t.basin.role = .standby ∧ t.mgr.grants = [] ∧
    t = { s with basin := t.basin, mgr := t.mgr, out := t.out, log := t.log }) ∧
  (∀ s m r, Heard s m r 0x04 → s.basin.role = .claiming → r.subject = s.sys.fuses.serial → Tab.has s.mgr.dir.workers r.serial = true →
    r.serial ∉ s.mgr.grants → s.mgr.claimPlanned = false → Answers (.grant m) s fun t => t.mgr.grants = r.serial :: s.mgr.grants ∧
    t.basin.role = .claiming ∧ (hasMajority t = true → t.mgr.majoritySince = some (s.mgr.majoritySince.getD s.sys.now)) ∧
    (hasMajority t = false → t.mgr.majoritySince = none) ∧ t = { s with mgr := t.mgr }) ∧
  (∀ s m r, Heard s m r 0x05 → s.basin.role = .claiming → r.subject = s.sys.fuses.serial → Answers (.revoke m) s fun t =>
    t.basin.role = .standby ∧ t.mgr.grants = [] ∧ t = { s with basin := t.basin, mgr := t.mgr, out := t.out, log := t.log }) ∧
  (∀ s m r g, Heard s m r 0x06 → s.basin.role = .worker → s.basin.grant = some g → g.1 = r.serial → Answers (.withdraw m) s fun t =>
    t = { s with basin.grant := none }) ∧
  (∀ s m r, Heard s m r 0x07 → s.basin.role = .worker → Answers (.handover m) s fun t =>
    t = { s with basin.handoverTo := some r.subject }) ∧
  (∀ s m r, Heard s m r 0x07 → s.basin.role = .standby → r.subject = s.sys.fuses.serial → Answers (.handover m) s fun t =>
    t.basin.role = .claiming ∧ t.mgr.claimPlanned = true) ∧
  (∀ s a, s.basin.role = .claiming → s.mgr.majoritySince = some a → hasMajority s = true → s.mgr.claimPlanned = false →
    ownersKept s s.mgr.dir → Answers .claimWaitElapsed s fun t => t.basin.role = .active ∧ t.basin.epoch = s.basin.epoch + 1 ∧
    t.sys.now = max s.sys.now (a + claimWaitNs s) ∧ t.mgr.lease = t.sys.now ∧ t.mgr.firstHb = none ∧
    t.basin.nextPeriod = ownPeriod s ∧ t.basin.nextMiss = ownMiss s ∧ t.hbm = s.hbm) ∧
  (∀ s, s.basin.role = .claiming → Answers .claimTimeout s fun t => t.basin.role = .standby ∧ t.mgr.grants = [] ∧
    t.sys.now = max s.sys.now (s.mgr.claimSince + 4 * leaseNs s) ∧ t = { advanceTo s (s.mgr.claimSince + 4 * leaseNs s) with basin := t.basin, mgr := t.mgr, log := t.log }) ∧
  (∀ s, s.basin.role = .yielding → Answers .yieldingTimeout s fun t => t.basin.role = .standby ∧
    t.sys.now = max s.sys.now (s.mgr.yieldSince + 4 * leaseNs s) ∧ t = { advanceTo s (s.mgr.yieldSince + 4 * leaseNs s) with basin := t.basin, log := t.log }) ∧
  (∀ s, s.basin.role = .yielding → Answers .handoverPeriod s fun t =>
    t = { s with out := .basin 0 (ctlBytes (ownCtl s 0x07 (s.mgr.successor.getD 0))) :: s.out })

/-- JOIN, its repeats, its answers and its timeout (R22, R23, R26, R41, R86, R286). Model choices: logs 68, 79 and 95. -/
def Obligations.WorkersJoinThroughAttestation : Prop :=
  (∀ s n, s.basin.role = .unjoined → roleCap s = 1 → s.boot.stage = .ready → s.basin.attested = [n] → Answers .joinRetry s fun t =>
    t.basin.firstJoin = some (s.basin.firstJoin.getD s.sys.now) ∧
    t.out = .basin n (ctlBytes (ownCtl s 0x08 (s.boot.plotGranules * 2 ^ 32))) :: s.out ∧ t = { s with basin := t.basin, out := t.out }) ∧
  (∀ s a, s.basin.role = .unjoined → s.basin.firstJoin = some a → Answers .joinTimeout s fun t => t.basin.firstJoin = none ∧
    t.basin.attested = [] ∧ t.sys.now = max s.sys.now (a + 1000000000) ∧ t = { advanceTo s (a + 1000000000) with basin := t.basin }) ∧
  (∀ s m r ev n, Heard s m r 0x08 → s.basin.role = .active → s.basin.stby = true → s.mgr.pend = [] →
    Tab.find s.mgr.dir.workers r.serial = none → attestCheck s r.serial ev = 0 → freeSlot s.mgr.dir = some n →
    Answers (.join m ev) s fun t => t.mgr.dir = s.mgr.dir ∧
    (∃ w e, Tab.find (dirLatest t).workers r.serial = some w ∧ w.slot = n ∧ Tab.find (dirLatest t).plots n = some e ∧ e.slot = n ∧
      e.len = fld r.subject 63 32 ∧ e.paired = false) ∧ t = { s with mgr := t.mgr, out := t.out, sys := t.sys } ∧
    (s.policy.basinEnc = false → t.sys = s.sys) ∧
    (s.policy.basinEnc = true → ∀ p ∈ s.mgr.dir.workers, ∃ sec, sec.length = 32 ∧
      Out.keyInstall n p.2.slot false (bit (decide (p.2.slot < n))) sec ∈ t.out ∧
      Out.keyInstall p.2.slot n false (1 - bit (decide (p.2.slot < n))) sec ∈ t.out)) ∧
  (∀ s m r ev w, Heard s m r 0x08 → s.basin.role = .active → Tab.find (dirLatest s).workers r.serial = some w →
    Tab.has s.mgr.dir.workers r.serial = true → Answers (.join m ev) s fun t =>
    t = { s with out := .basin r.serial (ctlBytes { ownCtl s 0x09 (ackSubject s w.slot) with epoch := w.joinEpoch }) :: s.out }) ∧
  (∀ s m r ev, Heard s m r 0x08 → s.basin.role = .active → Tab.find (dirLatest s).workers r.serial = none →
    attestCheck s r.serial ev ≠ 0 → Answers (.join m ev) s fun t => t.mgr = s.mgr ∧
    t.out = .basin r.serial (ctlBytes (ownCtl s 0x0A (0x04 * 2 ^ 56))) :: s.out ∧ t = { s with out := t.out, log := t.log }) ∧
  (∀ s m r ev, Heard s m r 0x08 → s.basin.role = .active → Tab.find (dirLatest s).workers r.serial = none →
    attestCheck s r.serial ev = 0 → freeSlot (dirLatest s) = none → Answers (.join m ev) s fun t =>
    t = { s with out := .basin r.serial (ctlBytes (ownCtl s 0x0A (0x03 * 2 ^ 56))) :: s.out }) ∧
  (∀ s m r, Heard s m r 0x09 → s.basin.role = .unjoined → roleCap s = 1 → r.serial ∈ s.basin.attested → Answers (.joinAck m) s fun t =>
    t.basin.role = .worker ∧ t.basin.slot = fld r.subject 39 32 ∧ t.basin.plot = fld r.subject 31 24 ∧
    t.basin.period = fld r.subject 63 48 ∧ t.basin.miss = fld r.subject 47 40 ∧ t.basin.mgrSerial = some r.serial ∧
    t.basin.epoch = max s.basin.epoch r.epoch ∧ t.basin.lastHb = s.sys.now ∧ t.hbm = s.hbm ∧
    t.plot = [] ∧ (∀ p ∈ t.spans, p.2.kind ≠ .plot)) ∧
  (∀ s m r, Heard s m r 0x0A → s.basin.role = .unjoined → r.serial ∈ s.basin.attested → Answers (.joinNak m) s fun t =>
    t.basin.role = .unjoined ∧ t = { s with basin.firstJoin := none })

/-- TN_ROLE_CMD, LEAVE, LOST and RESET_NOTICE (R23, R25, R35, R39). Model choices: log 68. -/
def Obligations.RoleCommandsAndNoticesActAsStated : Prop :=
  (∀ s w, windowLive s = true → Taken s w → noRsv w 0xFFFFFFF0 = true → fld w.data.toNat 3 0 = 1 → s.basin.role = .active →
    s.basin.stby = true → Answers (.roleCmdYield w) s fun t => t.basin.role = .yielding ∧ t.mgr.successor = s.mgr.standby ∧
    t.mgr.yieldSince = s.sys.now ∧ t = { s with basin := t.basin, mgr := t.mgr, log := t.log }) ∧
  (∀ s w, windowLive s = true → Taken s w → noRsv w 0xFFFFFFF0 = true → fld w.data.toNat 3 0 = 1 → s.basin.role ≠ .active →
    s.vp.werrValid = false → Answers (.roleCmdYield w) s fun t => t.basin = s.basin ∧ t.vp.werrValid = true ∧
    t.vp.werrStatus = Status.notPermitted ∧ t = { s with vp := t.vp, intr := t.intr, out := t.out }) ∧
  (∀ s w, windowLive s = true → Taken s w → noRsv w 0xFFFFFFF0 = true → fld w.data.toNat 3 0 = 2 → s.basin.role = .standby →
    Answers (.roleCmdRequestSwap w) s fun t => t.basin.role = .claiming ∧ t.mgr.claimPlanned = true ∧
    t = { s with basin := t.basin, mgr := t.mgr, out := t.out, log := t.log }) ∧
  (∀ s w, windowLive s = true → Taken s w → noRsv w 0xFFFFFFF0 = true → fld w.data.toNat 3 0 = 3 → s.basin.role = .worker →
    plotInUse s = false → s.basin.paired = false → s.basin.mirrorOf = 0 → Answers (.roleCmdLeave w) s fun t =>
    t.basin.leaveSince = some s.sys.now ∧ t.out = .basin (s.basin.mgrSerial.getD 0) (ctlBytes (ownCtl s 0x0B 0)) :: s.out ∧
    t = { s with basin := t.basin, out := t.out }) ∧
  (∀ s w, windowLive s = true → Taken s w → noRsv w 0xFFFFFFF0 = true → fld w.data.toNat 3 0 = 4 → s.basin.role = .worker →
    s.basin.noticed = false → s.basin.leaveSince = none → Answers (.roleCmdResetNotice w) s fun t =>
    t.basin.noticeSince = some s.sys.now ∧ t.out = .basin (s.basin.mgrSerial.getD 0) (ctlBytes (ownCtl s 0x0E 0)) :: s.out ∧
    t = { s with basin := t.basin, out := t.out }) ∧
  (∀ s m r w, Heard s m r 0x0B → s.basin.role = .active → s.basin.stby = true → Tab.find (dirLatest s).workers r.serial = some w →
    Answers (.leave m) s fun t => t.mgr.dir = s.mgr.dir ∧ Tab.find (dirLatest t).workers r.serial = none ∧
    (∀ p ∈ t.spdm.sess, p.2.tr ≠ .basin w.slot) ∧ t = { s with mgr := t.mgr, wr := t.wr, spdm := t.spdm, out := t.out }) ∧
  (∀ s m r, Heard s m r 0x0B → s.basin.role = .active → Tab.find (dirLatest s).workers r.serial = none →
    Tab.has s.mgr.dir.workers r.serial = false → Answers (.leave m) s fun t =>
    t.out = .basin r.serial (ctlBytes { ownCtl s 0x0C r.serial with epoch := Tab.getD s.mgr.dir.left r.serial s.basin.epoch }) :: s.out ∧
    t = { s with out := t.out }) ∧
  (∀ s m r a, Heard s m r 0x0C → s.basin.role = .worker → s.basin.leaveSince = some a → r.subject = s.sys.fuses.serial →
    Answers (.leaveAck m) s fun t => t.basin.role = .unjoined ∧ t.basin.slot = 0 ∧ t.basin.plot = 0 ∧ t.basin.leaveSince = none ∧
    t = { s with basin := t.basin, mgr := t.mgr, log := t.log }) ∧
  (∀ s a, s.basin.role = .worker → s.basin.leaveSince = some a → Answers .leaveTimeout s fun t => t.basin.role = .unjoined ∧
    t.sys.now = max s.sys.now (a + 1000000000) ∧ t = { advanceTo s (a + 1000000000) with basin := t.basin, mgr := t.mgr, log := t.log }) ∧
  (∀ s m r, Heard s m r 0x0D → s.basin.role = .worker → r.subject = s.sys.fuses.serial → Answers (.lost m) s fun t =>
    t.basin.role = .unjoined ∧ t.basin.plot = 0 ∧ t = { s with basin := t.basin, mgr := t.mgr, log := t.log }) ∧
  (∀ s m r, Heard s m r 0x0D → (s.basin.role = .worker ∨ s.basin.role = .standby) → r.subject ≠ s.sys.fuses.serial →
    lostAgain s r.subject = false → Answers (.lost m) s fun t => t.basin.basinWin = some s.sys.now ∧ t.basin.role = s.basin.role ∧
    (s.basin.basinWin = none → t = { s with basin := t.basin } ∧ t.basin.void = s.basin.void) ∧
    (s.basin.basinWin ≠ none → t.basin.void = true)) ∧
  (∀ s m r, Heard s m r 0x0D → s.basin.role = .worker → r.subject ≠ s.sys.fuses.serial → lostAgain s r.subject = true →
    Answers (.lost m) s fun t => t.basin.basinWin = s.basin.basinWin ∧ t = { s with basin := t.basin }) ∧
  (∀ s m r, Heard s m r 0x0E → s.basin.role = .active → s.basin.stby = true → Tab.has (dirLatest s).workers r.serial = true →
    Answers (.resetNotice m) s fun t => (∃ p, t.mgr.pend = s.mgr.pend ++ [p] ∧ p.after = .record 0x0F r.serial r.serial ∧ p.bump = 0 ∧
      ∃ w, Tab.find p.dir.workers r.serial = some w ∧ w.excuse = some s.sys.now) ∧
    t = { s with mgr := t.mgr, out := t.out }) ∧
  (∀ s m r a, Heard s m r 0x0F → s.basin.role = .worker → s.basin.noticeSince = some a → r.subject = s.sys.fuses.serial →
    Answers (.noticeAck m) s fun t => t.basin.noticed = true ∧ t.basin.noticedAt = s.sys.now ∧ t.basin.noticeSince = none ∧
    t = { s with basin := t.basin }) ∧
  (∀ s, s.basin.noticed = true → s.basin.answerNoticed = false → s.sys.warmLow = false → Answers .noticeTimeout s fun t =>
    t.basin.noticed = false ∧ t.sys.now = max s.sys.now (s.basin.noticedAt + 100000000) ∧ t = { advanceTo s (s.basin.noticedAt + 100000000) with basin := t.basin }) ∧
  (∀ s, s.basin.role = .worker → s.basin.leaveSince ≠ none → s.basin.noticeSince = none → Answers .workerPeriod s fun t =>
    t = { s with out := .basin (s.basin.mgrSerial.getD 0) (ctlBytes (ownCtl s 0x0B 0)) :: s.out })

/-- The directory changes by replication and commit (R18, R21, R29, R39, R51, R151). Model choices: logs 68, 95, 97, 101 and
106. -/
def Obligations.TheDirectoryChangesOnlyByCommit : Prop :=
  (∀ s m, s.rxHeld = [] → s.basin.map.epoch ≤ m.epoch → s.basin.epoch ≤ m.epoch →
    (∀ x ∈ s.basin.map.plots, (Tab.find m.plots x.1).map (·.slot) = some x.2.slot) → Answers (.plotMapFetched m) s fun t =>
    t.basin.map = m ∧ t.basin.holdNew = false ∧ t = { s with basin := t.basin }) ∧
  (∀ s m, (m.epoch < s.basin.map.epoch ∨ m.epoch < s.basin.epoch) → Answers (.plotMapFetched m) s fun t => t = s) ∧
  (∀ s q d e, s.basin.role = .standby → Answers (.directoryReplication q d e) s fun t =>
    t.mgr.dir = takeExcuses s.mgr.dir s.sys.now d ∧ t.mgr.dir.plots = d.plots ∧ t.mgr.dir.allocs = d.allocs ∧
    t.basin.epoch = max s.basin.epoch e ∧ t.out = .replicated q :: s.out ∧ t = { s with mgr := t.mgr, basin := t.basin, out := t.out }) ∧
  (∀ s q n p, s.basin.role = .active → s.mgr.pend = [p] → p.seq ≤ q → p.after = .nothing → ownersKept s p.dir →
    Answers (.replicationAck q n) s fun t => t.mgr.dir = p.dir ∧ t.mgr.pend = [] ∧ t.basin.epoch = s.basin.epoch + p.bump ∧
    t.basin.map.epoch = s.basin.epoch + p.bump ∧ t.basin.stby = true ∧ t.mgr.standby = some n ∧
    t = { s with mgr := t.mgr, basin := t.basin }) ∧
  (∀ s p e, s.basin.role = .active → s.basin.stby = true → Tab.find (dirLatest s).plots p = some e → e.paired = true →
    e.mirrorFor = 0 → p ≠ 0 → Tab.some (fun _ w => w.slot = e.slot) (dirLatest s).workers = false → spareFor (dirLatest s) e.mirrorSlot e.len = none → Answers (.promotion p) s fun t => t.mgr.dir = s.mgr.dir ∧
    Tab.find (dirLatest t).plots p = some { e with slot := e.mirrorSlot, paired := false, mirrorSlot := 0 } ∧
    t = { s with mgr := t.mgr, out := t.out, log := t.log }) ∧
  (∀ s p e, s.basin.role = .active → s.basin.stby = true → Tab.find (dirLatest s).plots p = some e → e.copying = true →
    Answers (.spareCopyDone p) s fun t => t.mgr.dir = s.mgr.dir ∧
    Tab.find (dirLatest t).plots p = some { e with copying := false, paired := true } ∧ t = { s with mgr := t.mgr, out := t.out }) ∧
  (∀ s a, s.basin.basinWin = some a → Answers (.recoveryWindowExpiry true) s fun t => t.basin.basinWin = none ∧
    t.sys.now = max s.sys.now (a + 30000000000) ∧ t = { advanceTo s (a + 30000000000) with basin := t.basin }) ∧
  (∀ s a, s.basin.ownWin = some a → Answers (.recoveryWindowExpiry false) s fun t => t.basin.ownWin = none ∧
    t.sys.now = max s.sys.now (a + 30000000000) ∧ t = { advanceTo s (a + 30000000000) with basin := t.basin }) ∧
  (∀ s n g, s.basin.role = .active → s.basin.stby = true → Answers (.overflowLengthReport n g) s fun t => t.mgr.dir = s.mgr.dir ∧
    Tab.find (dirLatest t).ovf n = (if g = 0 then none else some g) ∧ t = { s with mgr := t.mgr, out := t.out })

/-- Allocation, freeing, pairing and queries at the manager, and the issuer's side (R19, R36, R43, R44, R46, R47, R50, R51).
Model choices: logs 14, 45, 68, 79, 100, 102, 104 and 106. -/
def Obligations.ManagerCommandsAnswerAsStated : Prop :=
  (∀ (s : State) (r : AllocReq) sh es left, s.basin.role = .active → s.basin.stby = true →
    Tab.find s.mgr.dir.results (resultKey r.slot r.reqId) = none →
    dealStripe ((r.length + granule - 1) / granule) r.stripe (eligible (dirLatest s) r) = (left, sh) →
    left ≤ (if r.overflow then ovfFree (dirLatest s) r.slot else 0) →
    es = plotExtents (dirLatest s) sh ++ (if left = 0 then [] else ovfExtents (dirLatest s) r.slot left) → es.length ≤ r.resultCap →
    Answers (.basinAlloc r) s fun t => t.mgr.dir = s.mgr.dir ∧ (∃ a, Tab.find (dirLatest t).allocs (dirLatest s).nextHandle = some a ∧
      a.inst = r.inst ∧ a.slot = r.slot ∧ a.extents.length = es.length) ∧ (dirLatest t).nextHandle = (dirLatest s).nextHandle + 1 ∧
    (∀ x ∈ es, Out.createSpan (extentOwner (dirLatest s) x) (dirLatest s).nextHandle x.plot x.off x.len ∈ t.out) ∧
    t = { s with mgr := t.mgr, out := t.out }) ∧
  (∀ (s : State) (r : AllocReq) sh left ov, s.basin.role = .active → Tab.find s.mgr.dir.results (resultKey r.slot r.reqId) = none →
    dealStripe ((r.length + granule - 1) / granule) r.stripe (eligible (dirLatest s) r) = (left, sh) →
    ov = (if r.overflow then ovfFree (dirLatest s) r.slot else 0) → ov < left → Answers (.basinAlloc r) s fun t =>
    t = { s with out := .mgrReply r.slot r.reqId Status.capacityShortfall (allocReply 0 0 ((left - ov) * granule)) :: s.out }) ∧
  (∀ (s : State) (r : FreeReq) a, s.basin.role = .active → Tab.find s.mgr.dir.results (resultKey r.slot r.reqId) = none →
    Tab.find (dirLatest s).allocs r.handle = some a → a.inst = r.inst → a.slot = r.slot → r.drained = false →
    Answers (.basinFree r) s fun t => t = { s with out := .destroySpans r.handle :: s.out }) ∧
  (∀ (s : State) (r : FreeReq) a, s.basin.role = .active → s.basin.stby = true →
    Tab.find s.mgr.dir.results (resultKey r.slot r.reqId) = none → Tab.find (dirLatest s).allocs r.handle = some a → a.inst = r.inst →
    a.slot = r.slot → r.drained = true → Answers (.basinFree r) s fun t => t.mgr.dir = s.mgr.dir ∧
    Tab.find (dirLatest t).allocs r.handle = none ∧ t = { s with mgr := t.mgr, out := t.out }) ∧
  (∀ (s : State) (r : FreeReq) a, s.basin.role = .active → Tab.find s.mgr.dir.results (resultKey r.slot r.reqId) = none →
    Tab.find (dirLatest s).allocs r.handle = some a → (a.inst ≠ r.inst ∨ a.slot ≠ r.slot) → Answers (.basinFree r) s fun t =>
    t = { s with out := .mgrReply r.slot r.reqId Status.notPermitted [] :: s.out }) ∧
  (∀ (s : State) (r : FreeReq) x, s.basin.role = .active → Tab.find s.mgr.dir.results (resultKey r.slot r.reqId) = some x →
    Answers (.basinFree r) s fun t => t = { s with out := .mgrReply r.slot r.reqId x.status x.data :: s.out }) ∧
  (∀ (s : State) (r : PairReq) a b, s.basin.role = .active → s.basin.stby = true →
    Tab.find s.mgr.dir.results (resultKey r.slot r.reqId) = none → assigned (dirLatest s) r.primary = some a →
    assigned (dirLatest s) r.mirror = some b → r.primary ≠ r.mirror → a.slot ≠ b.slot → a.len = b.len →
    holdsExtents (dirLatest s) r.primary = false → holdsExtents (dirLatest s) r.mirror = false → a.paired = false → b.paired = false →
    a.copying = false → b.copying = false → Answers (.basinPairPair r) s fun t => t.mgr.dir = s.mgr.dir ∧
    Tab.find (dirLatest t).plots r.primary = some { a with paired := true, mirrorSlot := b.slot } ∧
    Tab.find (dirLatest t).plots r.mirror = some { b with mirrorFor := r.primary, spare := false } ∧
    t = { s with mgr := t.mgr, out := t.out, sys := t.sys } ∧ (s.policy.basinEnc = false → t.sys = s.sys) ∧
    (s.policy.basinEnc = true → ∃ sec, sec.length = 32 ∧ Out.keyInstall a.slot b.slot true (bit (decide (b.slot < a.slot))) sec ∈ t.out ∧
      Out.keyInstall b.slot a.slot true (1 - bit (decide (b.slot < a.slot))) sec ∈ t.out)) ∧
  (∀ (s : State) (r : PairReq) a, s.basin.role = .active → s.basin.stby = true →
    Tab.find s.mgr.dir.results (resultKey r.slot r.reqId) = none → assigned (dirLatest s) r.primary = some a →
    holdsExtents (dirLatest s) r.primary = false → a.paired = false → a.copying = false → a.spare = false →
    Answers (.basinPairMarkSpare r) s fun t => Tab.find (dirLatest t).plots r.primary = some { a with spare := true } ∧
    t = { s with mgr := t.mgr, out := t.out }) ∧
  (∀ (s : State) (r : PairReq) a, s.basin.role = .active → s.basin.stby = true →
    Tab.find s.mgr.dir.results (resultKey r.slot r.reqId) = none → assigned (dirLatest s) r.primary = some a → a.spare = true →
    Answers (.basinPairUnmarkSpare r) s fun t => Tab.find (dirLatest t).plots r.primary = some { a with spare := false } ∧
    t = { s with mgr := t.mgr, out := t.out }) ∧
  (∀ (s : State) (r : PairReq), s.basin.role = .active → Tab.find s.mgr.dir.results (resultKey r.slot r.reqId) = none →
    assigned (dirLatest s) r.primary = none → Answers (.basinPairMarkSpare r) s fun t =>
    t = { s with out := .mgrReply r.slot r.reqId Status.badField [] :: s.out }) ∧
  (∀ s n, s.basin.role = .active → Answers (.basinQueryMap n) s fun t => (∃ d, t.out = .mgrReply n 0 Status.ok d :: s.out ∧
      d.take 6 = putLE 4 s.basin.epoch ++ putLE 2 (s.mgr.dir.plots.filter fun x => x.2.mirrorFor = 0).length ∧
      d.drop 8 = (s.mgr.dir.plots.filter fun x => x.2.mirrorFor = 0).flatMap fun x => mapEntBytes x.1 x.2) ∧
    t = { s with out := t.out }) ∧
  (∀ s n h, s.basin.role = .active → Tab.find s.mgr.dir.allocs h = none → Answers (.basinQueryAlloc n h) s fun t =>
    t = { s with out := .mgrReply n 0 Status.badField [] :: s.out }) ∧
  (∀ s n h a, s.basin.role = .active → Tab.find s.mgr.dir.allocs h = some a → Answers (.basinQueryAlloc n h) s fun t =>
    (∃ d, t.out = .mgrReply n 0 Status.ok d :: s.out ∧ d.take 8 = putLE 4 h ++ putLE 2 a.inst ++ putLE 2 a.extents.length) ∧
    t = { s with out := t.out }) ∧
  (∀ s n i, s.basin.role = .active → s.basin.stby = true → Answers (.partnerAllocFree n i) s fun t => t.mgr.dir = s.mgr.dir ∧
    (∀ p ∈ (dirLatest t).allocs, ¬ (p.2.inst = i ∧ p.2.slot = n)) ∧ t = { s with mgr := t.mgr, out := t.out }) ∧
  (∀ s h r, s.mgr.held = h :: r → managerKnown s = false → Answers .heldCommandTimeout s fun t => t.mgr.held = r ∧ t.mbx.running = none ∧
    t.sys.now = max s.sys.now (h.since + 1000000000) ∧ t = { advanceTo s (h.since + 1000000000) with mgr := t.mgr, mbx := t.mbx, intr := t.intr, out := t.out }) ∧
  (∀ s h, s.mgr.held = [h] → managerKnown s = true → Answers .heldCommandResend s fun t =>
    t = { s with out := .mgrReq h.code h.reqId h.params :: s.out }) ∧
  (∀ (s : State) h n st d, s.mgr.held = [h] → h.reqId = n → (st ≠ Status.ok ∨ (h.code ≠ 0x40 ∧ h.code ≠ 0x41)) →
    Answers (.managerReply n st d) s fun t => t = mbxDone { s with mgr.held := [] } st d)

/-- The partner heartbeat, the partner link and what loses it (R134, R139, R142, R143, R146, R154, R244). Model choices: logs
48, 49, 53, 111 and 121. -/
def Obligations.ThePartnerLinkRunsAndTearsDown : Prop :=
  (∀ s w, windowLive s = true → Taken s w → noRsv w 0xFFFFFFFC = true → modeOf s = .p → bitN w.data.toNat 1 = true →
    Answers (.partnerHbArm w) s fun t => t = { s with pt.hbArmed := true, pt.hbAt := s.sys.now }) ∧
  (∀ s w, windowLive s = true → Taken s w → noRsv w 0xFFFFFFFC = true → modeOf s = .p → bitN w.data.toNat 1 = false →
    bitN w.data.toNat 0 = true → s.pt.hbArmed = true → Answers (.partnerHbBeat w) s fun t => t = { s with pt.hbAt := s.sys.now }) ∧
  (∀ s w, windowLive s = true → Taken s w → noRsv w 0xFFFFFFFC = true → modeOf s = .p → bitN w.data.toNat 1 = false →
    bitN w.data.toNat 0 = false → Answers (.partnerHbDisarm w) s fun t => t = { s with pt.hbArmed := false }) ∧
  (∀ s, s.pt.hbArmed = true → s.pt.st = .up → Answers .partnerHbExpiry s fun t => t.pt.st = .teardown ∧ t.pt.tdStep = 1 ∧
    t.pt.cause = 3 ∧ t.pt.causeValid = true ∧ t.pt.hbArmed = false ∧ t.sys.now = max s.sys.now (s.pt.hbAt + 10000000) ∧
    t.basin.ownWin = some t.sys.now) ∧
  (∀ s, s.pt.trained = true → s.pt.st = .up → s.pt.sideband = none → Answers .partnerLinkDown s fun t => t.pt.st = .teardown ∧ t.pt.cause = 1 ∧
    t.pt.trained = false ∧ t.pt.rate = 0 ∧ t.pt.total = satInc 4 s.pt.total ∧ t.pt.merged = 0 ∧ t.basin.ownWin = some s.sys.now ∧
    t.hbm = s.hbm) ∧
  (∀ s tr, s.pt.sideband = some tr → s.sys.fuses.variant = .p → Answers .partnerLinkDown s fun t => t = { s with pt.sideband := none }) ∧
  (∀ s, s.pt.trained = true → s.pt.st = .up → Answers .partnerFatalError s fun t => t.pt.st = .teardown ∧ t.pt.cause = 2 ∧
    t.pt.trained = false) ∧
  (∀ s, s.sys.coldLow = false → s.pt.st = .up → Answers .hostReset s fun t => t.pt.st = .teardown ∧ t.pt.cause = 5 ∧
    t.pt.trained = s.pt.trained) ∧
  (∀ s, s.sys.coldLow = false → s.pt.st = .teardown → Answers .hostReset s fun t => t = { s with pt.merged := satInc 4 s.pt.merged }) ∧
  (∀ s l a, Tab.find s.pt.held l = some a → s.pt.st = .up → Answers (.snoopTimeout l) s fun t => t.pt.st = .teardown ∧ t.pt.cause = 4 ∧
    t.sys.now = max s.sys.now (a + 2000000)) ∧
  (∀ s tr, Awake s → canTrain s tr = true → s.pt.st = .down → s.boot.image ≠ none → s.boot.stage = .ready →
    Answers (.partnerLinkTrained tr) s fun t => t.pt.st = .up ∧ t.pt.trained = true ∧ t.pt.cxl = cxlUp s tr ∧
    (s.sys.fuses.variant = .p → t.pt.modules = tr.modules ∧ t.pt.width = modCount tr.modules ∧ t.pt.rate = (if tr.adv48 then 96 else 64)) ∧
    (s.sys.fuses.variant = .d → t.pt.width = tr.width ∧ t.pt.rate = tr.rate ∧ t.log = s.log) ∧ t = { s with pt := t.pt, log := t.log }) ∧
  (∀ s tr, Awake s → canTrain s tr = true → s.pt.st = .teardown → s.pt.trained = false → Answers (.partnerLinkTrained tr) s fun t =>
    t = { s with pt.sideband := some tr }) ∧
  (∀ s tr, canTrain s tr = false → Answers (.partnerLinkTrained tr) s fun t => t = s) ∧
  (∀ s m n, s.pt.trained = true → s.sys.fuses.variant = .p → m < 4 → s.pt.modules.getLsbD m = true →
    n = s.pt.modules &&& ~~~(BitVec.ofNat 4 (2 ^ m)) → n ≠ 0 → Answers (.ucieModuleLost m) s fun t =>
    t.pt.modules = n ∧ t.pt.width = modCount n ∧ t.pt.st = s.pt.st ∧ t = { s with pt := t.pt, log := t.log }) ∧
  (∀ s m, s.pt.trained = true → s.sys.fuses.variant = .p → m < 4 → s.pt.modules = BitVec.ofNat 4 (2 ^ m) → s.pt.st = .up →
    Answers (.ucieModuleLost m) s fun t => t.pt.st = .teardown ∧ t.pt.cause = 1 ∧ t.pt.trained = false ∧ t.pt.width = 0) ∧
  (∀ s c, s.sys.coldLow = false → s.pt.cores.getLsbD c = true → modeOf s ≠ .h → Answers (.tenderCoreFail c) s fun t =>
    t.pt.cores = s.pt.cores &&& ~~~(BitVec.ofNat 4 (2 ^ c)) ∧ t.basin.ownWin = some s.sys.now ∧
    t = { s with pt := t.pt, basin := t.basin, log := t.log }) ∧
  (∀ s n, s.sys.coldLow = false → (s.boot.hbmInService &&& ~~~s.stacksLost).getLsbD n = true →
    (∀ p ∈ s.sy, p.2.bad1 = false ∧ p.2.bad2 = false) → Answers (.stackLost n) s fun t =>
    t.stacksLost = s.stacksLost ||| BitVec.ofNat 8 (2 ^ n) ∧ t.basin.ownWin = some s.sys.now ∧
    (∀ k x, Tab.find s.spans k = some x → Tab.find t.spans k = some { x with bad1 := x.bad1 || (copyOn n 1 k).1, bad2 := x.bad2 || (copyOn n 1 k).2 }) ∧
    t = { s with stacksLost := t.stacksLost, basin := t.basin, spans := t.spans, keys := t.keys, sy := t.sy, cbs := t.cbs, qps := t.qps,
                 log := t.log, out := t.out })

/-- Snoops, HDM accesses and ATS (R138, R139, R141, R203). Model choices: logs 20, 30, 55, 122 and 123. -/
def Obligations.PartnerMemoryIsReachedAsStated : Prop :=
  (∀ s l, partnerLive s = true → Answers (.partnerSnoop l none) s fun t => t = { s with out := .snoopRsp l :: s.out }) ∧
  (∀ s l b, partnerLive s = true → Answers (.partnerSnoop l (some b)) s fun t =>
    Mem.read t.pmem (64 * l) 64 = fit 64 b ∧ (∀ a, (a < 64 * l ∨ 64 * l + 64 ≤ a) → Mem.get t.pmem a = Mem.get s.pmem a) ∧
    t = { s with pmem := t.pmem, out := .snoopRsp l :: s.out }) ∧
  (∀ s l, Tab.has s.pt.held l = true → s.rxHeld = [] → s.pt.hdmHeld = [] → Answers (.backInvalidateAnswer l none) s fun t =>
    Tab.has t.pt.held l = false ∧ l ∉ t.pt.owned ∧ t.plot = s.plot ∧ t = { s with pt := t.pt }) ∧
  (∀ s l b, Tab.has s.pt.held l = true → s.rxHeld = [] → s.pt.hdmHeld = [] → s.basin.mirrorOf = 0 → mirrored s = false →
    Answers (.backInvalidateAnswer l (some b)) s fun t => Mem.read t.plot (64 * l) 64 = fit 64 b ∧
    (∀ a, (a < 64 * l ∨ 64 * l + 64 ≤ a) → Mem.get t.plot a = Mem.get s.plot a) ∧ t = { s with pt := t.pt, plot := t.plot }) ∧
  (∀ s o n, partnerLive s = true → o + n ≤ hdmLen s → s.pt.held = [] → Answers (.hdmAccess (.read o n)) s fun t =>
    t.out = .hdmData (plotRead s o n) :: s.out ∧ (∀ l ∈ linesOf o n, l ∈ t.pt.owned) ∧ t = { s with pt := t.pt, out := t.out }) ∧
  (∀ s o d, partnerLive s = true → o + d.length ≤ hdmLen s → s.pt.held = [] → s.basin.mirrorOf = 0 → mirrored s = false →
    Answers (.hdmAccess (.write o d)) s fun t => Mem.read t.plot o d.length = d ∧
    (∀ a, (a < o ∨ o + d.length ≤ a) → Mem.get t.plot a = Mem.get s.plot a) ∧ t = { s with plot := t.plot, out := .hdmDone false :: s.out }) ∧
  (∀ s o d, partnerLive s = true → o + d.length ≤ hdmLen s → s.pt.held = [] → s.basin.mirrorOf ≠ 0 →
    Answers (.hdmAccess (.write o d)) s fun t => t = { s with out := .hdmDone true :: s.out }) ∧
  (∀ s o n l, partnerLive s = true → Tab.has s.pt.held l = true → l ∈ linesOf o n → o + n ≤ hdmLen s →
    Answers (.hdmAccess (.read o n)) s fun t => t = { s with pt.hdmHeld := s.pt.hdmHeld ++ [(.read o n, false)] }) ∧
  (∀ s o d l, partnerLive s = true → Tab.has s.pt.held l = true → l ∈ linesOf o d.length → o + d.length ≤ hdmLen s →
    Answers (.hdmAccess (.write o d)) s fun t => t = { s with pt.hdmHeld := s.pt.hdmHeld ++ [(.write o d, false)] }) ∧
  (∀ s o n l, s.rxHeld = [] → s.pt.held.map (·.1) = [l] → s.pt.hdmHeld = [(.read o n, false)] → Answers (.backInvalidateAnswer l none) s fun t =>
    t.out = .hdmData (plotRead s o n) :: s.out ∧ t.pt.hdmHeld = [] ∧ t = { s with pt := t.pt, out := t.out }) ∧
  (∀ s i a r, atsOf s i a = some r → s.rxHeld = [] → Answers (.atsCompletion i a .unsupported) s fun t =>
    (r.advise = false → t = { s with ats := s.ats.map (fun x => if x = r then { x with refused := true, refusedAt := s.pieceClock } else x),
                                     pieceClock := s.pieceClock + 1 }) ∧
    (r.advise = true → t = { s with ats := s.ats.erase r })) ∧
  (∀ s i a r k sp st len tg w, atsOf s i a = some r → s.rxHeld = [] → st ≤ a → a < st + len → (r.write = true → w = true) →
    spanAt s i a = some (k, sp) → s.pieces.length < pieceMax s → r.advise = false → Answers (.atsCompletion i a (.piece st len tg true w)) s fun t =>
    t.ats = s.ats.erase r ∧ (∃ p ∈ t.pieces, p.inst = i ∧ p.ats = true ∧ p.span = k ∧ p.start = max st sp.start ∧
      p.start + p.len = min (st + len) (sp.start + sp.len) ∧ p.loc = { space := .partner, addr := tg + (p.start - st) } ∧ p.w = w) ∧
    t = { s with ats := t.ats, pieces := t.pieces, pieceClock := t.pieceClock }) ∧
  (∀ s i a r, atsOf s i a = some r → s.rxHeld = [] → Answers (.atsTimeout i a) s fun t =>
    (r.advise = false → t.ats = s.ats.map (fun x => if x = r then { x with refused := true, refusedAt := s.pieceClock } else x)) ∧
    (r.advise = true → t.ats = s.ats.erase r) ∧ t.sys.now = max s.sys.now (r.since + 10000000) ∧
    t = { advanceTo s (r.since + 10000000) with ats := t.ats, pieceClock := t.pieceClock, log := t.log }) ∧
  (∀ s p a n, partnerLive s = true → Answers (.atsInvalidationRequest p a n) s fun t =>
    (∀ x ∈ t.pieces, ¬ (x.ats = true ∧ pasidOf s x.inst = p ∧ overlapR x.start x.len a n = true)) ∧
    t = { s with pieces := t.pieces, out := .atsInvDone p a :: s.out })

/-- Culvert doorbells, transfers, pools and the overflow window (R148, R150, R151). Model choices: logs 50, 51 and 109. -/
def Obligations.CulvertTransfersAndPoolsActAsStated : Prop :=
  (∀ s k w b u v c d, windowLive s = true → k < 64 → Taken s w → modeOf s ≠ .h → pageOwned s (poolInst s k) w.src = true →
    noRsv w 0xFFFFF000 = true → leaving s (poolInst s k) = false → d = wakeBlk s .culvert → gated d .culvert = false →
    cvRunning s k (fld w.data.toNat 11 0) = false → poolEn s k = true → fld w.data.toNat 11 0 < poolCount s k →
    readMem d (poolInst s k) (recAddr s k (fld w.data.toNat 11 0)) 32 = .ok u b →
    recFail u k b = none → c = recWith b 2 (BitVec.ofNat 8 (getLE b 18 1)) →
    writeMem u (poolInst u k) (recAddr u k (fld w.data.toNat 11 0)) c = .ok v [] →
    Answers (.culvertDoorbell k w) s fun t => (∃ x ∈ t.cv.xfers, x.pool = k ∧ x.slot = fld w.data.toNat 11 0 ∧ x.rec_ = c) ∧
    t = { v with cv := t.cv, pieceClock := v.pieceClock + 1 }) ∧
  (∀ s k w, windowLive s = true → k < 64 → Taken s w → modeOf s ≠ .h → pageOwned s (poolInst s k) w.src = true →
    noRsv w 0xFFFFF000 = true → leaving s (poolInst s k) = false → Runs s .culvert → poolEn s k = false →
    Tab.has s.cv.err k = false → Answers (.culvertDoorbell k w) s fun t =>
    t = { wakeBlk s .culvert with cv.err := Tab.put s.cv.err k (Status.queueDisabled, fld w.data.toNat 11 0) }) ∧
  (∀ s k w, windowLive s = true → k < 64 → Taken s w → modeOf s ≠ .h → pageOwned s (poolInst s k) w.src = true →
    noRsv w 0xFFFFF000 = true → leaving s (poolInst s k) = false → ¬ Runs s .culvert → Answers (.culvertDoorbell k w) s fun t =>
    t = { wakeBlk s .culvert with cv.bells := s.cv.bells ++ [(k, fld w.data.toNat 11 0)] }) ∧
  (∀ s k i x st u, xferOf s k i = some x → x.rec_ ≠ [] → x.finished = false → x.result = some (st, []) → cvSynko (recWith x.rec_ 3 st) = 0xFFFF →
    writeMemAt x.adm s x.inst x.recAt (recWith x.rec_ 3 st) = .ok u [] → Answers (.culvertTransferDone k i) s fun t =>
    t = dropXfer u x.pool x.slot) ∧
  (∀ s k w, windowLive s = true → k < 64 → Taken s w → bitN w.data.toNat 31 = false → firstFail (poolCfgChecks s k w) = none →
    Answers (.cvPoolDisable k w) s fun t => poolEn t k = false ∧ t = { s with regs := t.regs }) ∧
  (∀ s k w, windowLive s = true → k < 64 → Taken s w → bitN w.data.toNat 31 = false → modeOf s ≠ .h → srcHas s w.src 5 = true → noRsv w 0x000C0000 = true →
    poolIdle s k = false → fld w.data.toNat 29 0 ≠ fld (poolReg s k 8) 29 0 → fld w.data.toNat 29 20 < instMax s →
    12 ≤ fld w.data.toNat 17 13 → fld w.data.toNat 17 13 ≤ 24 → 1 ≤ fld w.data.toNat 12 0 → fld w.data.toNat 12 0 ≤ 4096 →
    s.vp.werrValid = false → Answers (.cvPoolDisable k w) s fun t => t.regs = s.regs ∧ t.vp.werrStatus = Status.busy) ∧
  (∀ s w, windowLive s = true → Taken s w.wr → w.off = regAddr s 0x0A 8 → regAddr s 0x0A 0 ≠ w.off → regAddr s 0x0A 4 ≠ w.off →
    modeOf s ≠ .h → devOwner s w.wr = true → srcHas s w.wr.src 7 = true → noRsv w.wr 0xFFFF8000 = true →
    w.wr.data.toNat ≤ ovfMax s → w.wr.data.toNat ≤ 16384 → ovfPlaced s = false → (s.pt.cxl = true ∨ w.wr.data.toNat = 0) →
    w.wr.data.toNat ≠ getReg s 0x0A 8 → Answers (.cvOvfRegister w) s fun t => getReg t 0x0A 8 = w.wr.data.toNat ∧
    Tab.find t.basin.map.ovf s.basin.slot = (if w.wr.data.toNat = 0 then none else some w.wr.data.toNat) ∧
    t = { s with regs := t.regs, basin := t.basin, out := .ovfLength w.wr.data.toNat :: s.out })

/-- Doorbells, pushes, descriptor fetches and the acceptance of an entry (R160, R161, R162, R163, R164, R299, R300). Model
choices: log 23. -/
def Obligations.EntriesArePostedFetchedAndAccepted : Prop :=
  (∀ s q w x, QueueOpen s q w x → leaving s x.inst = false → x.st ≠ .error → sub32 w.data.toNat x.ci ≤ 2 ^ x.ringLog2 →
    sub32 x.pi x.ci < sub32 w.data.toNat x.ci → Answers (.hgDb q w) s fun t => t = wakeBlk (putWq s q { x with pi := w.data.toNat }) .headgate) ∧
  (∀ s q w x, QueueOpen s q w x → leaving s x.inst = false → x.st ≠ .error → sub32 w.data.toNat x.ci ≤ sub32 x.pi x.ci →
    sub32 x.pi x.ci ≤ 2 ^ x.ringLog2 → Answers (.hgDb q w) s fun t => t = s) ∧
  (∀ s q w x, QueueOpen s q w x → leaving s x.inst = false → x.st ≠ .error → 2 ^ x.ringLog2 < sub32 w.data.toNat x.ci →
    s.vp.werrValid = false → Answers (.hgDb q w) s fun t => t.wqs = s.wqs ∧ t.vp.werrValid = true ∧ t.vp.werrStatus = Status.badField ∧
    t = { s with vp := t.vp, intr := t.intr, out := t.out }) ∧
  (∀ (s : State) (win : Nat) (p : PushWr) (i q : Nat) (x : Wq), windowLive s = true → discarded s p.src = false → win < pushCount s →
    p.off < 4096 → p.full = true → p.off % 64 = 0 → p.data.length = 64 → Tab.find s.own.push win = some i → pageOwned s i p.src = true →
    s.wqs.find? (fun x => x.2.pushEn && x.2.pushIdx = win) = some (q, x) → leaving s x.inst = false → x.st = .enabled →
    x.pushHeld = [] → p.off / 64 = x.pi % 64 → x.pi < 2 ^ 32 → entCurrent p.data x.pi x.ringLog2 = true →
    sub32 x.pi x.ci < 2 ^ x.ringLog2 → cacheUse s < 16384 → Runs s .headgate → Answers (.pushWrite win p) s fun t =>
    Tab.find t.wqs q = some { x with pi := inc32 x.pi, cache := Tab.put x.cache x.pi { bytes := p.data, pushed := true, reads := 0 } } ∧
    t = { wakeBlk s .headgate with wqs := t.wqs }) ∧
  (∀ (s : State) (win : Nat) (p : PushWr) (i q : Nat) (x : Wq), windowLive s = true → discarded s p.src = false → win < pushCount s →
    p.off < 4096 → p.full = true → p.off % 64 = 0 → p.data.length = 64 → Tab.find s.own.push win = some i → pageOwned s i p.src = true →
    s.wqs.find? (fun x => x.2.pushEn && x.2.pushIdx = win) = some (q, x) → leaving s x.inst = false → x.st = .enabled →
    p.off / 64 = (x.pi + x.pushHeld.length) % 2 ^ 32 % 64 → entCurrent p.data ((x.pi + x.pushHeld.length) % 2 ^ 32) x.ringLog2 = true →
    sub32 ((x.pi + x.pushHeld.length) % 2 ^ 32) x.ci < 2 ^ x.ringLog2 → ¬ Runs s .headgate → Answers (.pushWrite win p) s fun t =>
    t = wakeBlk (putWq s q { x with pushHeld := x.pushHeld ++ [p.data] }) .headgate) ∧
  (∀ s q i x u b, Tab.find s.wqs q = some x → x.st = .enabled → sub32 i x.ci < sub32 x.pi x.ci → sub32 i x.ci < x.pfDepth →
    Tab.has x.cache i = false → inFence x i = false → Runs s .headgate → readMem (wakeBlk s .headgate) x.inst (ringAt x i) 64 = .ok u b → Answers (.descriptorFetch q i) s fun t =>
    (∃ y c, Tab.find t.wqs q = some y ∧ Tab.find y.cache i = some c ∧ c.bytes = b ∧ c.pushed = false ∧ y.pi = x.pi ∧ y.ci = x.ci) ∧
    t = { u with wqs := t.wqs }) ∧
  (∀ s q x c u b, Tab.find s.wqs q = some x → x.st = .enabled → Tab.find x.cache x.ci = some c → c.pushed = false →
    entGood x x.ci c.bytes = false → Runs s .headgate → readMem (wakeBlk s .headgate) x.inst (ringAt x x.ci) 64 = .ok u b → entGood x x.ci b = true →
    Answers (.descriptorRetry q) s fun t =>
    t = putWq u q { x with cache := Tab.put x.cache x.ci { bytes := b, pushed := false, reads := 0 } }) ∧
  (∀ s q x c u b, Tab.find s.wqs q = some x → x.st = .enabled → Tab.find x.cache x.ci = some c → c.pushed = false →
    entGood x x.ci c.bytes = false → Runs s .headgate → readMem (wakeBlk s .headgate) x.inst (ringAt x x.ci) 64 = .ok u b → entGood x x.ci b = false → 7 ≤ c.reads →
    Tab.find u.wqs q = some x → Answers (.descriptorRetry q) s fun t => (∃ y, Tab.find t.wqs q = some y ∧ y.st = .error ∧
      y.errStatus = (if entCurrent b x.ci x.ringLog2 then Status.descriptorCrc else Status.staleDescriptor) ∧ y.errOwed = true)) ∧
  (∀ s q x c, Tab.find s.wqs q = some x → x.st = .enabled → Tab.find x.cache x.ci = some c → c.pushed = true →
    entGood x x.ci c.bytes = false → Runs s .headgate → Answers (.descriptorRetry q) s fun t =>
    (c.reads < 7 → t = putWq (wakeBlk s .headgate) q { x with cache := Tab.put x.cache x.ci { c with reads := c.reads + 1 } }) ∧
    (7 ≤ c.reads → ∃ y, Tab.find t.wqs q = some y ∧ y.st = .error ∧
      y.errStatus = (if entCurrent c.bytes x.ci x.ringLog2 then Status.descriptorCrc else Status.staleDescriptor) ∧
      t = { wakeBlk s .headgate with wqs := t.wqs })) ∧
  (∀ s q i, ¬ Runs s .headgate → Answers (.descriptorFetch q i) s fun t => t = wakeBlk s .headgate) ∧
  (∀ s q, ¬ Runs s .headgate → Answers (.descriptorRetry q) s fun t => t = wakeBlk s .headgate) ∧
  (∀ s q, ¬ Runs s .headgate → Answers (.entryAccept q) s fun t => t = wakeBlk s .headgate) ∧
  (∀ s q x c, Tab.find s.wqs q = some x → Tab.find x.cache x.ci = some c → acceptable s q x c.bytes = true → gateIs s x = .opened →
    Runs s .headgate → turnOk s q x = true → Answers (.entryAccept q) s fun t => (∃ r, inflOf t q x.ci = some r ∧ r.ent = c.bytes ∧ r.seq = s.accSeq ∧ r.written = false ∧
      (r.done = none ↔ entFail s x.inst x.kind c.bytes = none)) ∧
    (∃ y, Tab.find t.wqs q = some y ∧ y.ci = inc32 x.ci ∧ y.pi = x.pi ∧ y.st = .enabled) ∧ t.accSeq = s.accSeq + 1 ∧
    t = { s with infl := t.infl, wqs := t.wqs, insts := t.insts, accSeq := t.accSeq, sy := t.sy, clk := t.clk }) ∧
  (∀ s q x c, Tab.find s.wqs q = some x → Tab.find x.cache x.ci = some c → acceptable s q x c.bytes = true → gateIs s x = .closed →
    Runs s .headgate → Answers (.entryAccept q) s fun t => t = putWq (wakeBlk s .headgate) q { x with holdSince := some (x.holdSince.getD s.sys.now) }) ∧
  (∀ s q x c st, Tab.find s.wqs q = some x → Tab.find x.cache x.ci = some c → acceptable s q x c.bytes = true → gateIs s x = .failed st →
    Runs s .headgate → Answers (.entryAccept q) s fun t => (∃ y, Tab.find t.wqs q = some y ∧ y.st = .error ∧ y.errStatus = st) ∧
    t = { wakeBlk s .headgate with wqs := t.wqs })

/-- HG_QCMD, HG_QCTRL and the invalidation fence (R168, R175, R176, R177, R301). Model choices: log 114. -/
def Obligations.WorkQueuesFollowTheirCommands : Prop :=
  (∀ s q w x, QueueOpen s q w x → bitN w.data.toNat 31 = true → bitN w.data.toNat 30 = false → firstFail (fenceChecks x w) = none →
    x.cache = [] → sub32 x.ci x.invStart.toNat = 0 → Answers (.hgInvFence q w) s fun t =>
    (∃ y, Tab.find t.wqs q = some y ∧ y.fence = some (x.invStart.toNat, fld w.data.toNat 16 0) ∧ y.invDone = true ∧
      y.invTag = fld w.data.toNat 27 20 ∧ y.invCi = x.ci ∧ y.pi = x.pi ∧ y.ci = x.ci ∧ y.st = x.st) ∧ t = { s with wqs := t.wqs }) ∧
  (∀ s q w x, QueueOpen s q w x → bitN w.data.toNat 31 = false → bitN w.data.toNat 30 = true → firstFail (fenceChecks x w) = none →
    Answers (.hgInvRelease q w) s fun t =>
    t = putWq s q { x with fence := none, invDone := true, invTag := fld w.data.toNat 27 20 }) ∧
  (∀ s q w x, QueueOpen s q w x → bitN w.data.toNat 0 = true → noRsv w 0xFFFFFFFE = true → x.st = .disabled →
    (isPartner s x.inst = true → s.feat.committed = true ∧ s.pt.cxl = true) → Answers (.hgQctrlEnable q w) s fun t =>
    t = putWq s q { x with st := .enabled }) ∧
  (∀ s q w x, QueueOpen s q w x → bitN w.data.toNat 0 = true → noRsv w 0xFFFFFFFE = true → x.st = .draining →
    (isPartner s x.inst = true → s.feat.committed = true) → s.vp.werrValid = false → Answers (.hgQctrlEnable q w) s fun t =>
    t.wqs = s.wqs ∧ t.vp.werrStatus = Status.busy) ∧
  (∀ s q w x, QueueOpen s q w x → bitN w.data.toNat 0 = false → noRsv w 0xFFFFFFFE = true → x.st = .enabled → owed s q ≠ [] →
    Answers (.hgQctrlDisable q w) s fun t => t = putWq s q { x with st := .draining, holdSince := none }) ∧
  (∀ s q w x, QueueOpen s q w x → bitN w.data.toNat 0 = false → noRsv w 0xFFFFFFFE = true → x.st = .enabled → owed s q = [] →
    x.errOwed = false → x.cache = [] → Answers (.hgQctrlDisable q w) s fun t =>
    (∃ y, Tab.find t.wqs q = some y ∧ y.st = .disabled ∧ y.fence = none) ∧ t = { s with wqs := t.wqs }) ∧
  (∀ s i w k, CmdOpen s i 0x024 1 w → qSel s i < dbCount s → fld (getPage s i 0x014) 15 0 < cqMax s → owns s.own.wq (qSel s i) i = true →
    owns s.own.cq (fld (getPage s i 0x014) 15 0) i = true → bitN (getPage s i 0x004) 24 = false → kindOf (getPage s i 0x004) = some k → k = .lq →
    fld (getPage s i 0x010) 17 0 = 0 → 4 ≤ fld (getPage s i 0x004) 4 0 → fld (getPage s i 0x004) 4 0 ≤ 16 →
    qTuneOk (getPage s i 0x004) (getPage s i 0x01C) = true → Tab.has s.wqs (qSel s i) = false →
    (∃ c, Tab.find s.cqs (fld (getPage s i 0x014) 15 0) = some c ∧ c.error = false) → Answers (.hgQcmdCreate i w) s fun t =>
    (∃ x, Tab.find t.wqs (qSel s i) = some x ∧ x.inst = i ∧ x.kind = .lq ∧ x.st = .disabled ∧ x.pi = 0 ∧ x.ci = 0 ∧
      x.ring = getPage s i 0x008 + getPage s i 0x00C * 2 ^ 32 ∧ x.cq = fld (getPage s i 0x014) 15 0) ∧
    t = { s with pages := t.pages, insts := t.insts, wqs := t.wqs }) ∧
  (∀ s i w, CmdOpen s i 0x024 2 w → firstFail (qcmdHead s i w) = none → qQuiet s (qSel s i) = true → Answers (.hgQcmdDestroy i w) s fun t =>
    Tab.find t.wqs (qSel s i) = none ∧ t = { s with pages := t.pages, insts := t.insts, wqs := t.wqs }) ∧
  (∀ s i w x, CmdOpen s i 0x024 3 w → firstFail (qcmdHead s i w) = none → qQuiet s (qSel s i) = true → Tab.find s.wqs (qSel s i) = some x →
    Answers (.hgQcmdReset i w) s fun t => (∃ y, Tab.find t.wqs (qSel s i) = some y ∧ y.st = .disabled ∧ y.pi = 0 ∧ y.ci = 0 ∧
      y.gate = none ∧ y.fence = none ∧ y.ring = x.ring ∧ y.cq = x.cq) ∧ t = { s with pages := t.pages, insts := t.insts, wqs := t.wqs }) ∧
  (∀ s i w x, CmdOpen s i 0x024 4 w → firstFail (qcmdHead s i w) = none → qTuneOk (getPage s i 0x004) (getPage s i 0x01C) = true →
    Tab.find s.wqs (qSel s i) = some x → Answers (.hgQcmdModify i w) s fun t =>
    Tab.find t.wqs (qSel s i) = some { x with weight := fld (getPage s i 0x004) 23 16, pfDepth := fld (getPage s i 0x004) 15 8,
                                              limit := fld (getPage s i 0x01C) 12 0 } ∧
    t = { s with pages := t.pages, insts := t.insts, wqs := t.wqs }) ∧
  (∀ s i w, CmdOpen s i 0x024 2 w → firstFail (qcmdHead s i w) = none → qQuiet s (qSel s i) = false → s.vp.werrValid = false →
    Answers (.hgQcmdDestroy i w) s fun t => t.wqs = s.wqs ∧ t.vp.werrStatus = Status.busy ∧ fld (getPage t i 0x024) 15 8 = 1)

/-- HG_CCMD, arming, moderation and completion entries (R165, R171, R172, R173, R176, R177, R193, R196, R199). -/
def Obligations.CompletionQueuesFollowTheirCommands : Prop :=
  (∀ s i w, CmdOpen s i 0x058 1 w → firstFail (ccmdHead s i w) = none → 4 ≤ fld (getPage s i 0x044) 4 0 → fld (getPage s i 0x044) 4 0 ≤ 20 →
    fld (getPage s i 0x044) 26 16 < 2048 → Tab.has s.cqs (cSel s i) = false → Answers (.hgCcmdCreate i w) s fun t =>
    (∃ x, Tab.find t.cqs (cSel s i) = some x ∧ x.inst = i ∧ x.cpi = 0 ∧ x.cci = 0 ∧ x.error = false ∧ x.armed = false ∧
      x.vector = fld (getPage s i 0x044) 26 16 ∧ x.log2 = fld (getPage s i 0x044) 4 0) ∧
    t = { s with pages := t.pages, insts := t.insts, cqs := t.cqs }) ∧
  (∀ s i w, CmdOpen s i 0x058 2 w → firstFail (ccmdHead s i w) = none → Tab.has s.cqs (cSel s i) = true → cqUnbound s (cSel s i) = true →
    Answers (.hgCcmdDestroy i w) s fun t => Tab.find t.cqs (cSel s i) = none ∧ t = { s with pages := t.pages, insts := t.insts, cqs := t.cqs }) ∧
  (∀ s i w x, CmdOpen s i 0x058 3 w → firstFail (ccmdHead s i w) = none → Tab.find s.cqs (cSel s i) = some x → x.error = false →
    cqUnbound s (cSel s i) = true → cqRsv s (cSel s i) = 0 → Answers (.hgCcmdReset i w) s fun t =>
    Tab.find t.cqs (cSel s i) = some { x with cpi := 0, cci := 0, armed := false, armCount := 0, armFrom := none } ∧
    t = { s with pages := t.pages, insts := t.insts, cqs := t.cqs }) ∧
  (∀ s c w x, CqOpen s c w x → sub32 x.cpi w.data.toNat ≤ 2 ^ x.log2 → sub32 x.cpi w.data.toNat < sub32 x.cpi x.cci →
    Answers (.hgCqdb c w) s fun t => t = putCq s c { x with cci := w.data.toNat }) ∧
  (∀ s c w x, CqOpen s c w x → 2 ^ x.log2 < sub32 x.cpi w.data.toNat → s.vp.werrValid = false → Answers (.hgCqdb c w) s fun t =>
    t.cqs = s.cqs ∧ t.vp.werrStatus = Status.badField) ∧
  (∀ s c w x, CqOpen s c w x → noRsv w 0xFFFFFFFE = true → w.data ≠ 0 → Answers (.hgCqarm c w) s fun t =>
    t = putCq s c { x with armed := true, armCount := 0, armFrom := if x.cpi = x.cci then none else some s.sys.now }) ∧
  (∀ s c x a, Tab.find s.cqs c = some x → x.armed = true → x.armFrom = some a → Answers (.cqModTimeExpiry c) s fun t =>
    (∃ y, Tab.find t.cqs c = some y ∧ y.armed = false ∧ y.cpi = x.cpi) ∧ t.sys.now = max s.sys.now (a + x.modTime * 1000) ∧
    t.out = (if modeOf s = .h then .tenderInt x.vector else .msix x.vector) :: s.out ∧ t = { advanceTo s (a + x.modTime * 1000) with cqs := t.cqs, out := t.out }) ∧
  (∀ s q x i r d c u, Tab.find s.wqs q = some x → oldest s q = some (i, r) → r.done = some d → Tab.find s.cqs x.cq = some c →
    c.error = false → c.armed = false → entSynko r.ent = 0xFFFF → Tab.find s.fw.launches (inflKey q i) = none → d.status = Status.ok →
    writeMem s c.inst (c.ring + 32 * (c.cpi % 2 ^ c.log2)) (cqeBytes (phaseOf c.cpi c.log2) q i (entOp r.ent) (entWrId r.ent) d) = .ok u [] →
    u.wqs = s.wqs → u.fw = s.fw → x.st = .enabled → Answers (.wqeComplete q) s fun t =>
    Tab.find t.cqs x.cq = some { c with cpi := inc32 c.cpi, armFrom := none } ∧ inflOf t q i = none ∧ t.wqs = s.wqs ∧
    t.hbm = u.hbm ∧ t.plot = u.plot ∧ t.pmem = u.pmem) ∧
  (∀ s q x c u, Tab.find s.wqs q = some x → x.st = .error → x.errOwed = true → owed s q = [] → Tab.find s.cqs x.cq = some c →
    c.error = false → c.armed = false → cqRsv s x.cq < 2 ^ c.log2 →
    writeMem s c.inst (c.ring + 32 * (c.cpi % 2 ^ c.log2)) (cqeBytes (phaseOf c.cpi c.log2) q x.ci 0 []
      { status := x.errStatus, cflags := 1, detail := 0, bytes := 0, aux := 0 }) = .ok u [] → u.wqs = s.wqs →
    Answers (.queueErrorEntry q) s fun t => Tab.find t.wqs q = some { x with errOwed := false } ∧
    Tab.find t.cqs x.cq = some { c with cpi := inc32 c.cpi, armFrom := none } ∧ t.pmem = u.pmem ∧ t.hbm = u.hbm)

/-- NOP, ADVISE and PREFETCH entries, and the end of a span's move (R186, R197, R206, R207, R208). Model choices: logs 22,
107 and 123. -/
def Obligations.EntriesCompleteAtTheSpans : Prop :=
  (∀ s q i x r, mayDispatch s q i 0 = some (x, r) → Answers (.nop q i) s fun t => DoneOk t q i 0 ∧ t = { s with infl := t.infl }) ∧
  (∀ s q i x r u, mayDispatch s q i 0x13 = some (x, r) → getLE r.ent 28 1 = 1 →
    admitKey s x.inst (entKey r.ent) rRead (entAddr r.ent) (entLen r.ent) false false = (u, none) →
    spansIn u x.inst (entAddr r.ent) (entLen r.ent) ≠ [] → spansGood u (spansIn u x.inst (entAddr r.ent) (entLen r.ent)) →
    Answers (.adviseWillNeed q i) s fun t => DoneOk t q i 0 ∧ t.keys = u.keys ∧
    t = { s with infl := t.infl, keys := t.keys, spans := t.spans, pieces := t.pieces, pieceClock := t.pieceClock, ats := t.ats,
                 log := t.log, out := t.out, pt := t.pt, bx := t.bx, nextBx := t.nextBx }) ∧
  (∀ s q i x r u, mayDispatch s q i 0x13 = some (x, r) → getLE r.ent 28 1 = 2 →
    admitKey s x.inst (entKey r.ent) rRead (entAddr r.ent) (entLen r.ent) false false = (u, none) →
    spansIn u x.inst (entAddr r.ent) (entLen r.ent) ≠ [] → spansGood u (spansIn u x.inst (entAddr r.ent) (entLen r.ent)) →
    Answers (.adviseDontNeed q i) s fun t => DoneOk t q i 0 ∧
    (∀ p, p ∈ t.pieces ↔ p ∈ u.pieces ∧ (p.span ∉ spansIn u x.inst (entAddr r.ent) (entLen r.ent) ∨ pieceInUse u p = true)) ∧
    t = { u with infl := t.infl, pieces := t.pieces }) ∧
  (∀ s q i x r u, mayDispatch s q i 0x13 = some (x, r) → getLE r.ent 28 1 = 3 →
    admitKey s x.inst (entKey r.ent) rRead (entAddr r.ent) (entLen r.ent) false false = (u, none) →
    spansIn u x.inst (entAddr r.ent) (entLen r.ent) ≠ [] → spansGood u (spansIn u x.inst (entAddr r.ent) (entLen r.ent)) →
    Answers (.adviseReadMostly q i) s fun t => DoneOk t q i 0 ∧
    (∀ k sp, Tab.find u.spans k = some sp → k ∈ spansIn u x.inst (entAddr r.ent) (entLen r.ent) →
      Tab.find t.spans k = some { sp with readMostly := true }) ∧
    (∀ k, k ∉ spansIn u x.inst (entAddr r.ent) (entLen r.ent) → Tab.find t.spans k = Tab.find u.spans k) ∧
    t = { u with infl := t.infl, spans := t.spans }) ∧
  (∀ s q i x r u, mayDispatch s q i 0x13 = some (x, r) → getLE r.ent 28 1 = 4 →
    admitKey s x.inst (entKey r.ent) rRead (entAddr r.ent) (entLen r.ent) false false = (u, none) →
    spansIn u x.inst (entAddr r.ent) (entLen r.ent) ≠ [] → spansGood u (spansIn u x.inst (entAddr r.ent) (entLen r.ent)) →
    Answers (.advisePreferHbm q i) s fun t => DoneOk t q i 0 ∧
    (∀ k sp, Tab.find u.spans k = some sp → k ∈ spansIn u x.inst (entAddr r.ent) (entLen r.ent) →
      Tab.find t.spans k = some { sp with prefer := 1 }) ∧
    (∀ k, k ∉ spansIn u x.inst (entAddr r.ent) (entLen r.ent) → Tab.find t.spans k = Tab.find u.spans k) ∧
    t = { u with infl := t.infl, spans := t.spans }) ∧
  (∀ s q i x r u, mayDispatch s q i 0x13 = some (x, r) → getLE r.ent 28 1 = 5 →
    admitKey s x.inst (entKey r.ent) rRead (entAddr r.ent) (entLen r.ent) false false = (u, none) →
    spansIn u x.inst (entAddr r.ent) (entLen r.ent) ≠ [] → spansGood u (spansIn u x.inst (entAddr r.ent) (entLen r.ent)) →
    Answers (.advisePreferPartner q i) s fun t => DoneOk t q i 0 ∧
    (∀ k sp, Tab.find u.spans k = some sp → k ∈ spansIn u x.inst (entAddr r.ent) (entLen r.ent) →
      Tab.find t.spans k = some { sp with prefer := 2 }) ∧
    (∀ k, k ∉ spansIn u x.inst (entAddr r.ent) (entLen r.ent) → Tab.find t.spans k = Tab.find u.spans k) ∧
    t = { u with infl := t.infl, spans := t.spans }) ∧
  (∀ s q i x r u k sp, mayDispatch s q i 0x12 = some (x, r) →
    PfAdmitted s q i x r u → spanOver u x.inst (entAddr r.ent) (entLen r.ent) = some (k, sp) → (sp.bad1 && sp.bad2) = false → sp.moving = none → sp.migr = true → entAddr r.ent = sp.start →
    entLen r.ent = sp.len → sp.resHbm ≠ decide (getLE r.ent 28 1 = 1) → Answers (.prefetch q i) s fun t =>
    Underway t q i (keysIn r [entKey r.ent]) ∧ t.spans = Tab.put u.spans k { sp with moving := some (q, i), movingAt := u.pieceClock } ∧
    t = { u with infl := t.infl, spans := t.spans, pieceClock := u.pieceClock + 1 }) ∧
  (∀ s q i x r u k sp, mayDispatch s q i 0x12 = some (x, r) →
    PfAdmitted s q i x r u → spanOver u x.inst (entAddr r.ent) (entLen r.ent) = some (k, sp) → (sp.bad1 && sp.bad2) = false → sp.moving = none → sp.migr = true → entAddr r.ent = sp.start →
    entLen r.ent = sp.len → sp.resHbm = decide (getLE r.ent 28 1 = 1) → Answers (.prefetch q i) s fun t =>
    DoneOk t q i (entLen r.ent) ∧ t = { u with infl := t.infl }) ∧
  (∀ s q i x r u k sp, mayDispatch s q i 0x12 = some (x, r) →
    PfAdmitted s q i x r u → spanOver u x.inst (entAddr r.ent) (entLen r.ent) = some (k, sp) → (sp.bad1 && sp.bad2) = false → sp.moving = none → sp.migr = true →
    (entAddr r.ent ≠ sp.start ∨ entLen r.ent ≠ sp.len) → Answers (.prefetch q i) s fun t =>
    DoneBad t q i Status.bounds ∧ t = { u with infl := t.infl }) ∧
  (∀ s q i x r u k sp, mayDispatch s q i 0x12 = some (x, r) →
    PfAdmitted s q i x r u → spanOver u x.inst (entAddr r.ent) (entLen r.ent) = some (k, sp) → (sp.bad1 && sp.bad2) = false → sp.moving = none → sp.migr = false →
    (sp.kind = .phys ∧ getLE r.ent 28 1 = 2 ∨ sp.kind = .hbm ∧ getLE r.ent 28 1 = 1) → Answers (.prefetch q i) s fun t =>
    DoneOk t q i (entLen r.ent) ∧ t = { u with infl := t.infl }) ∧
  (∀ s q i x r u k sp v b, mayDispatch s q i 0x12 = some (x, r) →
    PfAdmitted s q i x r u → spanOver u x.inst (entAddr r.ent) (entLen r.ent) = some (k, sp) → (sp.bad1 && sp.bad2) = false → sp.moving = none → sp.migr = false → sp.kind = .ats →
    getLE r.ent 28 1 = 2 → loadAts (entLen r.ent + 1) u x.inst (entAddr r.ent) (entLen r.ent) = .ok v b → Answers (.prefetch q i) s fun t =>
    DoneOk t q i (entLen r.ent) ∧ t = { v with infl := t.infl }) ∧
  (∀ s q i x r u k sp, mayDispatch s q i 0x12 = some (x, r) →
    PfAdmitted s q i x r u → spanOver u x.inst (entAddr r.ent) (entLen r.ent) = some (k, sp) → (sp.bad1 && sp.bad2) = false → sp.moving = none → sp.migr = false →
    (sp.kind = .hbm ∧ getLE r.ent 28 1 = 2 ∨ (sp.kind = .ats ∨ sp.kind = .phys) ∧ getLE r.ent 28 1 = 1 ∨ sp.kind = .basin) →
    Answers (.prefetch q i) s fun t => DoneBad t q i Status.notPermitted ∧ t = { u with infl := t.infl }) ∧
  (∀ s q i x r u n c k, mayDispatch s q i 0x13 = some (x, r) → getLE r.ent 28 1 = n →
    (n, c) ∈ [(1, Instr.adviseWillNeed q i), (2, .adviseDontNeed q i), (3, .adviseReadMostly q i), (4, .advisePreferHbm q i),
      (5, .advisePreferPartner q i)] →
    admitKey s x.inst (entKey r.ent) rRead (entAddr r.ent) (entLen r.ent) false false = (u, none) →
    k ∈ spansIn u x.inst (entAddr r.ent) (entLen r.ent) → spanLost u k = true → Answers c s fun t =>
    DoneBad t q i Status.descriptorCrc ∧ t = { u with infl := t.infl, log := t.log }) ∧
  (∀ s q i x r u k sp, mayDispatch s q i 0x12 = some (x, r) → PfAdmitted s q i x r u →
    spanOver u x.inst (entAddr r.ent) (entLen r.ent) = some (k, sp) → (sp.bad1 && sp.bad2) = true → Answers (.prefetch q i) s fun t =>
    DoneBad t q i Status.descriptorCrc ∧ t = { u with infl := t.infl, log := t.log }) ∧
  (∀ s k sp q i, Tab.find s.spans k = some sp → sp.moving = some (q, i) → spanUsed s k sp.movingAt = true →
    Answers (.spanMoveDone k) s fun t => t = s) ∧
  (∀ s k sp q i r u b v c, Tab.find s.spans k = some sp → sp.moving = some (q, i) → spanUsed s k sp.movingAt = false → inflOf s q i = some r → r.done = none →
    readMem { s with spans := Tab.put s.spans k { sp with moving := none } } sp.inst sp.start sp.len = .ok u b →
    writeMem (dropPieces { u with spans := Tab.put u.spans k { sp with moving := none, resHbm := !sp.resHbm } } k) sp.inst sp.start b
      = .ok v c → v.rxHeld = [] → Answers (.spanMoveDone k) s fun t => DoneOk t q i sp.len ∧ t = { v with infl := t.infl })

/-- WRITE, SEND, READ, ATOMIC and RECV entries become requests of their queue pair (R183, R184, R238). Model choices: log 76. -/
def Obligations.SendEntriesBecomeRequests : Prop :=
  (∀ s q i x r p u v b, mayDispatch s q i 1 = some (x, r) → qpOf s x.qp = some p → p.st = .connected → entInline r.ent = false →
    entLen r.ent ≠ 0 → admitOnce s q i x.inst r [opdOf r.ent rRead] = (u, none) →
    readMemAt (admOf u q i) u x.inst (entAddr r.ent) (entLen r.ent) = .ok v b → Answers (.write q i) s fun t => Underway t q i (keysIn r [entKey r.ent]) ∧
    (∃ y, qpOf t x.qp = some { p with reqs := p.reqs ++ [y], sndEnd := psn p.sndEnd (psnCount (qSeg p) (entLen r.ent)) } ∧ y.op = 1 ∧
      y.first = p.sndEnd ∧ y.raddr = getLE r.ent 32 8 ∧ y.rkey = getLE r.ent 28 4 ∧ y.buf = .bytes b ∧ y.who = .entry q i) ∧
    t = { v with infl := t.infl, qps := t.qps, links := t.links, out := t.out }) ∧
  (∀ s q i x r p u v b, mayDispatch s q i 2 = some (x, r) → qpOf s x.qp = some p → p.st = .connected → entInline r.ent = false →
    entLen r.ent ≠ 0 → admitOnce s q i x.inst r [opdOf r.ent rRead] = (u, none) →
    readMemAt (admOf u q i) u x.inst (entAddr r.ent) (entLen r.ent) = .ok v b → Answers (.writeImm q i) s fun t => Underway t q i (keysIn r [entKey r.ent]) ∧
    (∃ y, qpOf t x.qp = some { p with reqs := p.reqs ++ [y], sndEnd := psn p.sndEnd (psnCount (qSeg p) (entLen r.ent)) } ∧ y.op = 2 ∧
      y.first = p.sndEnd ∧ y.raddr = getLE r.ent 32 8 ∧ y.imm = getLE r.ent 40 4 ∧ y.solicit = entSolicit r.ent ∧ y.buf = .bytes b ∧
      y.who = .entry q i) ∧ t = { v with infl := t.infl, qps := t.qps, links := t.links, out := t.out }) ∧
  (∀ s q i x r p u v b, mayDispatch s q i 4 = some (x, r) → qpOf s x.qp = some p → p.st = .connected → entInline r.ent = false →
    entLen r.ent ≠ 0 → admitOnce s q i x.inst r [opdOf r.ent rRead] = (u, none) →
    readMemAt (admOf u q i) u x.inst (entAddr r.ent) (entLen r.ent) = .ok v b → Answers (.send q i) s fun t => Underway t q i (keysIn r [entKey r.ent]) ∧
    (∃ y, qpOf t x.qp = some { p with reqs := p.reqs ++ [y], sndEnd := psn p.sndEnd (psnCount (qSeg p) (entLen r.ent)) } ∧ y.op = 5 ∧
      y.first = p.sndEnd ∧ y.solicit = entSolicit r.ent ∧ y.buf = .bytes b ∧ y.who = .entry q i) ∧
    t = { v with infl := t.infl, qps := t.qps, links := t.links, out := t.out }) ∧
  (∀ s q i x r p u v b, mayDispatch s q i 5 = some (x, r) → qpOf s x.qp = some p → p.st = .connected → entInline r.ent = false →
    entLen r.ent ≠ 0 → admitOnce s q i x.inst r [opdOf r.ent rRead] = (u, none) →
    readMemAt (admOf u q i) u x.inst (entAddr r.ent) (entLen r.ent) = .ok v b → Answers (.sendImm q i) s fun t => Underway t q i (keysIn r [entKey r.ent]) ∧
    (∃ y, qpOf t x.qp = some { p with reqs := p.reqs ++ [y], sndEnd := psn p.sndEnd (psnCount (qSeg p) (entLen r.ent)) } ∧ y.op = 6 ∧
      y.first = p.sndEnd ∧ y.imm = getLE r.ent 40 4 ∧ y.solicit = entSolicit r.ent ∧ y.buf = .bytes b ∧ y.who = .entry q i) ∧
    t = { v with infl := t.infl, qps := t.qps, links := t.links, out := t.out }) ∧
  (∀ s q i x r p, mayDispatch s q i 1 = some (x, r) → qpOf s x.qp = some p → p.st = .connected →
    (entInline r.ent = true ∨ entLen r.ent = 0) → Answers (.write q i) s fun t => Underway t q i (keysIn r []) ∧
    (∃ y, qpOf t x.qp = some { p with reqs := p.reqs ++ [y], sndEnd := psn p.sndEnd (psnCount (qSeg p) (entLen r.ent)) } ∧ y.op = 1 ∧
      y.first = p.sndEnd ∧ y.raddr = getLE r.ent 32 8 ∧ y.rkey = getLE r.ent 28 4 ∧ y.who = .entry q i ∧
      y.buf = (if entInline r.ent then .bytes (slice r.ent 44 (entLen r.ent)) else .none)) ∧
    t = { s with infl := t.infl, qps := t.qps, links := t.links, out := t.out, pieceClock := t.pieceClock }) ∧
  (∀ s q i x r p u, mayDispatch s q i 3 = some (x, r) → qpOf s x.qp = some p → p.st = .connected → entInline r.ent = false →
    entLen r.ent ≠ 0 → admitOnce s q i x.inst r [opdOf r.ent rWrite] = (u, none) →
    Answers (.read q i) s fun t => Underway t q i (keysIn r [entKey r.ent]) ∧
    (∃ y, qpOf t x.qp = some { p with reqs := p.reqs ++ [y], sndEnd := psn p.sndEnd (psnCount (qSeg p) (entLen r.ent)) } ∧ y.op = 3 ∧
      y.first = p.sndEnd ∧ y.len = entLen r.ent ∧ y.raddr = getLE r.ent 32 8 ∧ y.rkey = getLE r.ent 28 4 ∧
      y.buf = .mem x.inst (entAddr r.ent) ∧ y.who = .entry q i) ∧
    t = { u with infl := t.infl, qps := t.qps, links := t.links, out := t.out }) ∧
  (∀ s q i x r p u, mayDispatch s q i 6 = some (x, r) → qpOf s x.qp = some p → p.st = .connected →
    (p.reqs.filter (fun y => y.op = 7 || y.op = 8)).length < 4 → entInline r.ent = false → entLen r.ent ≠ 0 →
    admitOnce s q i x.inst r [opdOf r.ent rWrite] = (u, none) → Answers (.atomicFadd q i) s fun t =>
    Underway t q i (keysIn r [entKey r.ent]) ∧ (∃ y, qpOf t x.qp = some { p with reqs := p.reqs ++ [y], sndEnd := psn p.sndEnd 1 } ∧ y.op = 7 ∧
      y.first = p.sndEnd ∧ y.raddr = getLE r.ent 32 8 ∧ y.rkey = getLE r.ent 28 4 ∧ y.operand = getLE r.ent 40 8 ∧
      y.buf = .mem x.inst (entAddr r.ent) ∧ y.who = .entry q i) ∧
    t = { u with infl := t.infl, qps := t.qps, links := t.links, out := t.out }) ∧
  (∀ s q i x r p u, mayDispatch s q i 7 = some (x, r) → qpOf s x.qp = some p → p.st = .connected →
    (p.reqs.filter (fun y => y.op = 7 || y.op = 8)).length < 4 → entInline r.ent = false → entLen r.ent ≠ 0 →
    admitOnce s q i x.inst r [opdOf r.ent rWrite] = (u, none) → Answers (.atomicCswap q i) s fun t =>
    Underway t q i (keysIn r [entKey r.ent]) ∧ (∃ y, qpOf t x.qp = some { p with reqs := p.reqs ++ [y], sndEnd := psn p.sndEnd 1 } ∧ y.op = 8 ∧
      y.first = p.sndEnd ∧ y.raddr = getLE r.ent 32 8 ∧ y.rkey = getLE r.ent 28 4 ∧ y.operand = getLE r.ent 40 8 ∧
      y.swap = getLE r.ent 48 8 ∧ y.buf = .mem x.inst (entAddr r.ent) ∧ y.who = .entry q i) ∧
    t = { u with infl := t.infl, qps := t.qps, links := t.links, out := t.out }) ∧
  (∀ s q i x r p u, mayDispatch s q i 8 = some (x, r) → qpOf s x.qp = some p → p.st ≠ .error →
    admitOnce s q i x.inst r [opdOf r.ent rWrite] = (u, none) → Answers (.recv q i) s fun t =>
    Underway t q i (keysIn r [entKey r.ent]) ∧ t = { u with infl := t.infl }) ∧
  (∀ s q i x r p, mayDispatch s q i 8 = some (x, r) → qpOf s x.qp = some p → p.st = .error → Answers (.recv q i) s fun t =>
    DoneBad t q i Status.flushed ∧ t = { s with infl := t.infl }) ∧
  (∀ s q i x r p, mayDispatch s q i 1 = some (x, r) → qpOf s x.qp = some p → p.st = .error → Answers (.write q i) s fun t =>
    DoneBad t q i Status.flushed ∧ t = { s with infl := t.infl }) ∧
  (∀ s q i x r p u st, mayDispatch s q i 1 = some (x, r) → qpOf s x.qp = some p → p.st = .connected → entInline r.ent = false →
    entLen r.ent ≠ 0 → admitOnce s q i x.inst r [opdOf r.ent rRead] = (u, some st) →
    Answers (.write q i) s fun t => DoneBad t q i st ∧ t = { u with infl := t.infl })

/-- BASIN_LOAD and BASIN_STORE go to the owner of the plot (R215). Model choices: log 75. -/
def Obligations.BasinEntriesGoToThePlotOwner : Prop :=
  (∀ s q i x r u a h w c, mayDispatch s q i 0x10 = some (x, r) → a = getLE r.ent 32 8 → basinHeld s a = false →
    basinAdmit s q i x r false = (u, none) →
    h = (match Tab.find u.keys (getLE r.ent 28 4 / 256) with | some k => k.handle | none => 0) → plotSlot u a = u.basin.slot →
    homeFail u x.inst a (entLen r.ent) h = none → lineWait u (basinLoc u .basin a) (entLen r.ent) false = none →
    writeMemAt (admOf u q i) u x.inst (entAddr r.ent) (getLoc u (basinLoc u .basin a) (entLen r.ent)) = .ok w c →
    Answers (.basinLoad q i) s fun t => DoneOk t q i (entLen r.ent) ∧ t = { w with infl := t.infl, insts := t.insts }) ∧
  (∀ s q i x r u a h p n, mayDispatch s q i 0x10 = some (x, r) → a = getLE r.ent 32 8 → basinHeld s a = false →
    entInline r.ent = false → basinAdmit s q i x r false = (u, none) →
    h = (match Tab.find u.keys (getLE r.ent 28 4 / 256) with | some k => k.handle | none => 0) → plotSlot u a ≠ u.basin.slot →
    basinQp u (plotSlot u a) = some n → qpOf u n = some p → p.st = .connected → Answers (.basinLoad q i) s fun t =>
    Underway t q i (keysIn r [getLE r.ent 28 4, entKey r.ent]) ∧
    (∃ y, qpOf t n = some { p with reqs := p.reqs ++ [y], sndEnd := psn p.sndEnd (psnCount (qSeg p) (entLen r.ent)) } ∧ y.op = 3 ∧
      y.raddr = a ∧ y.rkey = h ∧ y.len = entLen r.ent ∧ y.buf = .mem x.inst (entAddr r.ent) ∧ y.who = .entry q i) ∧
    t = { u with infl := t.infl, qps := t.qps, links := t.links, out := t.out, insts := t.insts }) ∧
  (∀ s q i x r u a h w b p n, mayDispatch s q i 0x11 = some (x, r) → a = getLE r.ent 32 8 → basinHeld s a = false →
    entInline r.ent = false → basinAdmit s q i x r true = (u, none) →
    h = (match Tab.find u.keys (getLE r.ent 28 4 / 256) with | some k => k.handle | none => 0) → plotSlot u a ≠ u.basin.slot →
    basinQp u (plotSlot u a) = some n → storeData u q i x.inst r.ent = .ok w b →
    qpOf u n = some p → p.st = .connected → Answers (.basinStore q i) s fun t =>
    Underway t q i (keysIn r [getLE r.ent 28 4, entKey r.ent]) ∧
    (∃ y, qpOf t n = some { p with reqs := p.reqs ++ [y], sndEnd := psn p.sndEnd (psnCount (qSeg p) (entLen r.ent)) } ∧ y.op = 1 ∧
      y.raddr = a ∧ y.rkey = h ∧ y.len = entLen r.ent ∧ y.buf = .bytes b ∧ y.who = .entry q i) ∧
    t = { w with infl := t.infl, qps := t.qps, links := t.links, out := t.out, insts := t.insts }) ∧
  (∀ s q i x r u a h v b w c, mayDispatch s q i 0x11 = some (x, r) → a = getLE r.ent 32 8 → basinHeld s a = false →
    basinAdmit s q i x r true = (u, none) →
    h = (match Tab.find u.keys (getLE r.ent 28 4 / 256) with | some k => k.handle | none => 0) → plotSlot u a = u.basin.slot →
    homeFail u x.inst a (entLen r.ent) h = none → storeData u q i x.inst r.ent = .ok v b →
    basinPiece v x.inst a (entLen r.ent) h true b = .ok w c → Answers (.basinStore q i) s fun t =>
    DoneOk t q i (entLen r.ent) ∧ t = { w with infl := t.infl, insts := t.insts }) ∧
  (∀ s q i x r u st, mayDispatch s q i 0x10 = some (x, r) → basinHeld s (getLE r.ent 32 8) = false → basinAdmit s q i x r false = (u, some st) →
    Answers (.basinLoad q i) s fun t => DoneBad t q i st ∧ t = { u with infl := t.infl } ∧
    (mapFail s (getLE r.ent 32 8) (entLen r.ent) = some st → t = { s with infl := t.infl })) ∧
  (∀ s q i x r u st, mayDispatch s q i 0x11 = some (x, r) → basinHeld s (getLE r.ent 32 8) = false → basinAdmit s q i x r true = (u, some st) →
    Answers (.basinStore q i) s fun t => DoneBad t q i st ∧ t = { u with infl := t.infl } ∧
    (mapFail s (getLE r.ent 32 8) (entLen r.ent) = some st → t = { s with infl := t.infl })) ∧
  (∀ s q i x r u a n p, mayDispatch s q i 0x10 = some (x, r) → a = getLE r.ent 32 8 → basinHeld s a = false →
    basinAdmit s q i x r false = (u, none) → plotSlot u a ≠ u.basin.slot → basinQp u (plotSlot u a) = some n → qpOf u n = some p →
    p.st = .error → Answers (.basinLoad q i) s fun t => DoneBad t q i Status.flushed ∧ t = { u with infl := t.infl }) ∧
  (∀ s q i x r, mayDispatch s q i 0x10 = some (x, r) → basinHeld s (getLE r.ent 32 8) = true → Answers (.basinLoad q i) s fun t => t = s) ∧
  (∀ s q i x r, mayDispatch s q i 0x11 = some (x, r) → basinHeld s (getLE r.ent 32 8) = true → Answers (.basinStore q i) s fun t => t = s)

/-- Codebook slots load, answer, clear and fail (R361, R363, R364, R373). Model choices: log 38. -/
def Obligations.CodebooksLoadAndClear : Prop :=
  (∀ s q i x r u o v w b, mayDispatch s q i 0x23 = some (x, r) → getLE r.ent 32 4 ≤ slotBytes s →
    admitOnce s q i x.inst r [{ key := getLE r.ent 28 4, need := rRead, addr := getLE r.ent 20 8, len := getLE r.ent 32 4 }] = (u, none) →
    (if cbLoading u (getLE r.ent 12 2) then v = u else
      probe false (admOf u q i) (getLE r.ent 32 4 + 1) u x.inst (getLE r.ent 20 8) (getLE r.ent 32 4) = .ok o [] ∧
      v = { o with cbs := Tab.put o.cbs (getLE r.ent 12 2) loadingSlot }) →
    readMemAt (admOf v q i) v x.inst (getLE r.ent 20 8) (getLE r.ent 32 4) = .ok w b → Answers (.cbLoad q i) s fun t =>
    DoneOk t q i (getLE r.ent 32 4) ∧
    (∃ c, Tab.find t.cbs (getLE r.ent 12 2) = some c ∧ c.st = .loaded ∧ c.data = b ∧ c.crc = crc32c b ∧ c.vlen = getLE r.ent 14 1 ∧
      c.entries = (if getLE r.ent 15 1 = 0 then 256 else 4096) ∧ c.elem = getLE r.ent 16 1 ∧
      c.cbmax = BitVec.ofNat 32 (cbMax (getLE r.ent 16 1) b)) ∧
    (∀ n, n ≠ getLE r.ent 12 2 → Tab.find t.cbs n = Tab.find s.cbs n) ∧ t = { w with infl := t.infl, cbs := t.cbs }) ∧
  (∀ s q i x r, mayDispatch s q i 0x23 = some (x, r) → slotBytes s < getLE r.ent 32 4 → Answers (.cbLoad q i) s fun t =>
    DoneBad t q i Status.noResource ∧ t = { s with infl := t.infl }) ∧
  (∀ s i w c, CmdOpen s i 0x308 1 w → getPage s i 0x300 < cbSlots s → instHas s i 14 = true → owns1 s.own.cb (getPage s i 0x300) i = true →
    Tab.find s.cbs (getPage s i 0x300) = some c → c.st ≠ .loading → c.elem < 16 → c.vlen < 256 → Answers (.cbScmdQuery i w) s fun t =>
    getPage t i 0x30C = cbCode c.st * 2 ^ 28 + c.elem * 2 ^ 24 + c.vlen * 2 ^ 16 + bit (c.entries = 4096) * 256 ∧ getPage t i 0x310 = c.crc.toNat ∧ getPage t i 0x314 = c.cbmax.toNat ∧
    t = { s with pages := t.pages, insts := t.insts }) ∧
  (∀ s i w, CmdOpen s i 0x308 1 w → getPage s i 0x300 < cbSlots s → instHas s i 14 = true → owns1 s.own.cb (getPage s i 0x300) i = true →
    Tab.find s.cbs (getPage s i 0x300) = none → Answers (.cbScmdQuery i w) s fun t =>
    getPage t i 0x30C = 0 ∧ getPage t i 0x310 = 0 ∧ getPage t i 0x314 = 0 ∧ t = { s with pages := t.pages, insts := t.insts }) ∧
  (∀ s i w, CmdOpen s i 0x308 2 w → getPage s i 0x300 < cbSlots s → instHas s i 14 = true → owns1 s.own.cb (getPage s i 0x300) i = true →
    (∀ c, Tab.find s.cbs (getPage s i 0x300) = some c → c.st ≠ .loading) → cbBusy s (getPage s i 0x300) = false →
    Answers (.cbScmdClear i w) s fun t => Tab.find t.cbs (getPage s i 0x300) = none ∧
    (∀ n, n ≠ getPage s i 0x300 → Tab.find t.cbs n = Tab.find s.cbs n) ∧ t = { s with cbs := t.cbs, pages := t.pages, insts := t.insts }) ∧
  (∀ s i w, CmdOpen s i 0x308 2 w → getPage s i 0x300 < cbSlots s → instHas s i 14 = true → owns1 s.own.cb (getPage s i 0x300) i = true →
    cbBusy s (getPage s i 0x300) = true → Answers (.cbScmdClear i w) s fun t => t.cbs = s.cbs ∧
    fld (getPage t i 0x308) 15 8 = Status.busy.toNat ∧ t = { s with pages := t.pages, vp := t.vp, intr := t.intr, out := t.out }) ∧
  (∀ s n c, Tab.find s.cbs n = some c → c.st = .loaded → s.log.staged.length < 64 → Answers (.cbSlotError n) s fun t =>
    t.cbs = Tab.put s.cbs n { c with st := .poisoned } ∧ (∃ e ∈ t.log.staged, e.id = 0x0054 ∧ e.unit = n) ∧
    t = { s with cbs := t.cbs, log := t.log })

/-- Integer and move instructions of the Furrow write one register on the lanes of their predicate (R343, R344, R356). For a
running group about to issue a legal instruction: the lanes of register D named by the predicate take the value of the table,
and nothing else of the group but PC and the step. -/
def Obligations.FurrowIntegersWriteTheirLanes : Prop :=
  (∀ s core slot t l x u, Issues s core slot 0x01 t l x u → Answers (.movi core slot) s fun v =>
    LaneWrites u v core slot t x fun k => intBits 32 x.simm) ∧
  (∀ s core slot t l x u, Issues s core slot 0x02 t l x u → Answers (.movu core slot) s fun v =>
    LaneWrites u v core slot t x fun k => t.ur x.a / 2 ^ (32 * x.md)) ∧
  (∀ s core slot t l x u, Issues s core slot 0x10 t l x u → Answers (.iadd core slot) s fun v =>
    LaneWrites u v core slot t x fun k => t.vr x.a k + t.vr x.b k) ∧
  (∀ s core slot t l x u, Issues s core slot 0x11 t l x u → Answers (.isub core slot) s fun v =>
    LaneWrites u v core slot t x fun k => t.vr x.a k + 2 ^ 32 - t.vr x.b k) ∧
  (∀ s core slot t l x u, Issues s core slot 0x12 t l x u → Answers (.imul core slot) s fun v =>
    LaneWrites u v core slot t x fun k => t.vr x.a k * t.vr x.b k) ∧
  (∀ s core slot t l x u, Issues s core slot 0x13 t l x u → Answers (.imad core slot) s fun v =>
    LaneWrites u v core slot t x fun k => t.vr x.a k * t.vr x.b k + t.vr x.c k) ∧
  (∀ s core slot t l x u, Issues s core slot 0x14 t l x u → Answers (.and core slot) s fun v =>
    LaneWrites u v core slot t x fun k => t.vr x.a k &&& t.vr x.b k) ∧
  (∀ s core slot t l x u, Issues s core slot 0x15 t l x u → Answers (.or core slot) s fun v =>
    LaneWrites u v core slot t x fun k => t.vr x.a k ||| t.vr x.b k) ∧
  (∀ s core slot t l x u, Issues s core slot 0x16 t l x u → Answers (.xor core slot) s fun v =>
    LaneWrites u v core slot t x fun k => t.vr x.a k ^^^ t.vr x.b k) ∧
  (∀ s core slot t l x u, Issues s core slot 0x17 t l x u → Answers (.shl core slot) s fun v =>
    LaneWrites u v core slot t x fun k => t.vr x.a k * 2 ^ (t.vr x.b k % 32)) ∧
  (∀ s core slot t l x u, Issues s core slot 0x18 t l x u → Answers (.shr core slot) s fun v =>
    LaneWrites u v core slot t x fun k => t.vr x.a k / 2 ^ (t.vr x.b k % 32)) ∧
  (∀ s core slot t l x u, Issues s core slot 0x19 t l x u → Answers (.sar core slot) s fun v =>
    LaneWrites u v core slot t x fun k => intBits 32 (sInt (t.vr x.a k) / 2 ^ (t.vr x.b k % 32))) ∧
  (∀ s core slot t l x u, Issues s core slot 0x1A t l x u → Answers (.imin core slot) s fun v =>
    LaneWrites u v core slot t x fun k => if x.md = 1 then min (t.vr x.a k) (t.vr x.b k) else if sInt (t.vr x.b k) < sInt (t.vr x.a k) then t.vr x.b k else t.vr x.a k) ∧
  (∀ s core slot t l x u, Issues s core slot 0x1B t l x u → Answers (.imax core slot) s fun v =>
    LaneWrites u v core slot t x fun k => if x.md = 1 then max (t.vr x.a k) (t.vr x.b k) else if sInt (t.vr x.a k) < sInt (t.vr x.b k) then t.vr x.b k else t.vr x.a k) ∧
  (∀ s core slot t l x u, Issues s core slot 0x40 t l x u → Answers (.shfl core slot) s fun v =>
    LaneWrites u v core slot t x fun k => t.vr x.a (t.vr x.b k % 32))

/-- Floating-point, conversion and codebook instructions of the Furrow write their register (R343, R344, R347, R371). For a
running group about to issue a legal instruction: FADD to FRCP, FCMP, CVT, MXUNPK, MXPACK, VQDEC and VQENC; the NaN and zero
cases of FMIN and FMAX are log 33, the MX block is log 32. -/
def Obligations.FurrowFloatsWriteTheirLanes : Prop :=
  (∀ s core slot t l x u, Issues s core slot 0x20 t l x u → Answers (.fadd core slot) s fun v =>
    LaneWrites u v core slot t x fun k => add32 (t.vr x.a k) (t.vr x.b k)) ∧
  (∀ s core slot t l x u, Issues s core slot 0x21 t l x u → Answers (.fmul core slot) s fun v =>
    LaneWrites u v core slot t x fun k => mul32 (t.vr x.a k) (t.vr x.b k)) ∧
  (∀ s core slot t l x u, Issues s core slot 0x22 t l x u → Answers (.ffma core slot) s fun v =>
    LaneWrites u v core slot t x fun k => fma32 (t.vr x.a k) (t.vr x.b k) (t.vr x.c k)) ∧
  (∀ s core slot t l x u, Issues s core slot 0x23 t l x u → Answers (.fmin core slot) s fun v =>
    LaneWrites u v core slot t x fun k => min32 (t.vr x.a k) (t.vr x.b k)) ∧
  (∀ s core slot t l x u, Issues s core slot 0x24 t l x u → Answers (.fmax core slot) s fun v =>
    LaneWrites u v core slot t x fun k => max32 (t.vr x.a k) (t.vr x.b k)) ∧
  (∀ s core slot t l x u, Issues s core slot 0x26 t l x u → Answers (.frcp core slot) s fun v =>
    LaneWrites u v core slot t x fun k => div32 0x3F800000 (t.vr x.a k)) ∧
  (∀ s core slot t l x u, Issues s core slot 0x25 t l x u → Answers (.fcmp core slot) s fun v =>
    PredWrites u v core slot t x fun k => if of32 (t.vr x.a k) = .nan ∨ of32 (t.vr x.b k) = .nan then decide (x.md = 1)
      else condOf x.md (fpLt (of32 (t.vr x.a k)) (of32 (t.vr x.b k))) (fpEq (of32 (t.vr x.a k)) (of32 (t.vr x.b k)))) ∧
  (∀ s core slot t l x u, Issues s core slot 0x30 t l x u → cvtCode (fld x.imm 7 0) = true → cvtCode (fld x.imm 15 8) = true →
    (fld x.imm 7 0 ≠ 4 ∧ fld x.imm 7 0 ≠ 5 ∧ fld x.imm 15 8 ≠ 4 ∧ fld x.imm 15 8 ≠ 5 ∨ instHas s l.inst 17 = true) → Answers (.cvt core slot) s fun v =>
    LaneWrites u v core slot t x fun k => toFmt (fld x.imm 15 8) (bitN x.imm 16) (ofFmt (fld x.imm 7 0) (t.vr x.a k))) ∧
  (∀ s core slot t l x u, Issues s core slot 0x30 t l x u → cvtCode (fld x.imm 7 0) = false ∨ cvtCode (fld x.imm 15 8) = false →
    Answers (.cvt core slot) s fun v => v = deliver u (fwKey core slot) t Status.badField 0 allLanes) ∧
  (∀ s core slot t l x u, Issues s core slot 0x30 t l x u → cvtCode (fld x.imm 7 0) = true → cvtCode (fld x.imm 15 8) = true →
    (fld x.imm 7 0 = 4 ∨ fld x.imm 7 0 = 5 ∨ fld x.imm 15 8 = 4 ∨ fld x.imm 15 8 = 5) → instHas s l.inst 17 = false →
    Answers (.cvt core slot) s fun v => v = deliver u (fwKey core slot) t Status.featureNotNegotiated 0 allLanes) ∧
  (∀ s core slot t l x u, Issues s core slot 0x31 t l x u → instHas s l.inst 16 = true →
    (predMask t x ≠ 0 → (t.ur x.a + fld x.imm 15 0) % 2 ^ 64 + mxBytes (6 + x.md) ≤ l.localBytes) → Answers (.mxunpk core slot) s fun v =>
    LaneWrites u v core slot t x fun k => (mxUnpack (6 + x.md) (Mem.read t.localMem ((t.ur x.a + fld x.imm 15 0) % 2 ^ 64) (mxBytes (6 + x.md)))).getD k 0) ∧
  (∀ s core slot t l x u, Issues s core slot 0x32 t l x u → instHas s l.inst 16 = true → predMask t x ≠ 0 →
    (t.ur x.a + fld x.imm 15 0) % 2 ^ 64 + mxBytes (6 + x.md) ≤ l.localBytes → Answers (.mxpack core slot) s fun v =>
    Moves u v core slot t fun g => { g with localMem := Mem.write t.localMem ((t.ur x.a + fld x.imm 15 0) % 2 ^ 64) (mxPack (6 + x.md) ((List.range 32).map fun k => of32 (t.vr x.b k))) }) ∧
  (∀ s core slot t l x u n c, Issues s core slot 0x38 t l x u → l.cbs[x.md]? = some n → Tab.find s.cbs n = some c → c.st = .loaded →
    fld x.imm 3 0 < c.vlen → (∀ k < 32, bitN (predMask t x) k = true → t.vr x.a k < c.entries) → Answers (.vqdec core slot) s fun v =>
    LaneWrites u v core slot t x fun k => cbElem c (t.vr x.a k) (fld x.imm 3 0)) ∧
  (∀ s core slot t l x u n c, Issues s core slot 0x39 t l x u → l.cbs[x.md]? = some n → Tab.find s.cbs n = some c → c.st = .loaded →
    x.a + c.vlen ≤ 32 → Answers (.vqenc core slot) s fun v =>
    LaneWrites u v core slot t x fun k => nearest c ((List.range c.vlen).map fun j => t.vr (x.a + j) k)) ∧
  (∀ s core slot t l x u, Issues s core slot 0x38 t l x u → l.cbs.length ≤ x.md → Answers (.vqdec core slot) s fun v =>
    v = deliver u (fwKey core slot) t Status.badField 0 allLanes)

/-- Uniform, predicate, voting and staging instructions of the Furrow (R343, R344, R346, R348, R357). For a running group
about to issue a legal instruction: NOP, FENCE, MOVS, UMOV, ICMP, VOTE, RED, SETRES, SETSTAT, SADD and BRK. -/
def Obligations.FurrowGroupInstructionsMoveTheGroup : Prop :=
  (∀ s core slot t l x u, Issues s core slot 0x00 t l x u → Answers (.fwNop core slot) s fun v =>
    Moves u v core slot t fun g => g) ∧
  (∀ s core slot t l x u, Issues s core slot 0x57 t l x u → Answers (.fence core slot) s fun v =>
    Moves u v core slot t fun g => g) ∧
  (∀ s core slot t l x u, Issues s core slot 0x03 t l x u → x.imm ≤ 4 → Answers (.movs core slot) s fun v =>
    LaneWrites u v core slot t x fun k => if x.imm = 0 then k else if x.imm = 1 then t.index else if x.imm = 2 then core else if x.imm = 3 then slot
      else s.sys.now) ∧
  (∀ s core slot t l x u, Issues s core slot 0x03 t l x u → 4 < x.imm → Answers (.movs core slot) s fun v =>
    v = deliver u (fwKey core slot) t Status.badField 0 allLanes) ∧
  (∀ s core slot t l x u, Issues s core slot 0x04 t l x u → Answers (.umov core slot) s fun v => ∃ w,
    Moves u v core slot t (fun g => { g with u := Tab.put t.u x.d w }) ∧
    w = BitVec.ofNat 64 (if x.md = 0 then intBits 64 x.simm else if x.md = 1 then intBits 64 (t.ur x.a + x.simm)
      else if x.md = 2 then t.ur x.d / 2 ^ 32 * 2 ^ 32 + t.vr x.a 0 else t.ur x.d % 2 ^ 32 + t.vr x.a 0 * 2 ^ 32)) ∧
  (∀ s core slot t l x u, Issues s core slot 0x1C t l x u → Answers (.icmp core slot) s fun v =>
    PredWrites u v core slot t x fun k => condOf (x.md % 8) (if bitN x.md 3 then decide (t.vr x.a k < t.vr x.b k) else decide (sInt (t.vr x.a k) < sInt (t.vr x.b k)))
      (decide (t.vr x.a k = t.vr x.b k))) ∧
  (∀ s core slot t l x u, Issues s core slot 0x41 t l x u → Answers (.vote core slot) s fun v =>
    Moves u v core slot t fun g => { g with u := Tab.put t.u x.d (BitVec.ofNat 64 (t.pr x.a)) }) ∧
  (∀ s core slot t l x u, Issues s core slot 0x42 t l x u → Answers (.red core slot) s fun v =>
    LaneWrites u v core slot t x fun k => (redLevel (redOp x.md) (redLevel (redOp x.md) (redLevel (redOp x.md) (redLevel (redOp x.md) (redLevel (redOp x.md)
      ((List.range 32).map (t.vr x.a))))))).headD 0) ∧
  (∀ s core slot t l x u, Issues s core slot 0x66 t l x u → Answers (.setres core slot) s fun v =>
    Moves u v core slot t fun g => { g with result := BitVec.ofNat 32 (t.ur x.a) }) ∧
  (∀ s core slot t l x u, Issues s core slot 0x67 t l x u → (fld x.imm 7 0 = 0 ∨ 0x80 ≤ fld x.imm 7 0) → Answers (.setstat core slot) s fun v =>
    Moves u v core slot t fun g => { g with status := BitVec.ofNat 8 (fld x.imm 7 0) }) ∧
  (∀ s core slot t l x u, Issues s core slot 0x67 t l x u → 1 ≤ fld x.imm 7 0 → fld x.imm 7 0 < 0x80 → Answers (.setstat core slot) s fun v =>
    v = deliver u (fwKey core slot) t Status.badField 0 allLanes) ∧
  (∀ s core slot t l x u, Issues s core slot 0x68 t l x u → fld x.imm 13 0 < synkoMax s → owns s.own.sy (fld x.imm 13 0) l.inst = true →
    ((stagedSet s l t).contains (fld x.imm 13 0) = true ∨ (stagedSet s l t).length < 4) → instHas s l.inst 9 = true → Answers (.sadd core slot) s fun v =>
    Moves u v core slot t fun g => { g with staged := addSum t.staged (fld x.imm 13 0, t.ur x.a % 2 ^ 48) }) ∧
  (∀ s core slot t l x u, Issues s core slot 0x68 t l x u → fld x.imm 13 0 < synkoMax s → owns s.own.sy (fld x.imm 13 0) l.inst = true →
    (stagedSet s l t).contains (fld x.imm 13 0) = false → 4 ≤ (stagedSet s l t).length → Answers (.sadd core slot) s fun v =>
    v = deliver u (fwKey core slot) t Status.noResource 0 allLanes) ∧
  (∀ s core slot t l x u, Issues s core slot 0x69 t l x u → s.fw.dbg.src = none → Answers (.brk core slot) s fun v =>
    Moves u v core slot t fun g => g) ∧
  (∀ s core slot t l x u, Issues s core slot 0x69 t l x u → s.fw.dbg.src.isSome = true → Answers (.brk core slot) s fun v =>
    (∃ g, v = putTg u (fwKey core slot) g ∧ g.st = .halted ∧ g.pc = (t.pc + 8) % 2 ^ 64 ∧ g.v = t.v ∧ g.u = t.u ∧ g.p = t.p ∧
      g.localMem = t.localMem))

/-- Local and global accesses of the Furrow, with their checks (R344, R345, R353). -/
def Obligations.FurrowMemoryAccessesAreChecked : Prop :=
  (∀ s core slot t l x u, Issues s core slot 0x50 t l x u → (∀ k < 32, bitN (predMask t x) k = true →
    laneAddr t x k + 4 ≤ l.localBytes ∧ laneAddr t x k % 4 = 0) → Answers (.ldl core slot) s fun v =>
    LaneWrites u v core slot t x fun k => ofLE (Mem.read t.localMem (laneAddr t x k) 4)) ∧
  (∀ s core slot t l x u, Issues s core slot 0x51 t l x u → (∀ k < 32, bitN (predMask t x) k = true →
    laneAddr t x k + 4 ≤ l.localBytes ∧ laneAddr t x k % 4 = 0) → Answers (.stl core slot) s fun v => ∃ m,
    Moves u v core slot t (fun g => { g with localMem := m }) ∧
    (∀ a, (∀ k < 32, bitN (predMask t x) k = true → a < laneAddr t x k ∨ laneAddr t x k + 4 ≤ a) → Mem.get m a = Mem.get t.localMem a) ∧
    (∀ k < 32, bitN (predMask t x) k = true →
      (∀ j < 32, k < j → bitN (predMask t x) j = true → laneAddr t x j ≠ laneAddr t x k) →
      Mem.read m (laneAddr t x k) 4 = putLE 4 (t.vr x.c k))) ∧
  (∀ s core slot t l x u, Issues s core slot 0x50 t l x u → (∃ k < 32, bitN (predMask t x) k = true ∧ l.localBytes < laneAddr t x k + 4) →
    Answers (.ldl core slot) s fun v => ∃ a m, v = deliver u (fwKey core slot) t Status.bounds a m) ∧
  (∀ s core slot t l x u, Issues s core slot 0x51 t l x u → (∀ k < 32, bitN (predMask t x) k = true → laneAddr t x k + 4 ≤ l.localBytes) →
    (∃ k < 32, bitN (predMask t x) k = true ∧ laneAddr t x k % 4 ≠ 0) → Answers (.stl core slot) s fun v => ∃ a m,
    v = deliver u (fwKey core slot) t Status.badField a m) ∧
  (∀ s core slot t l x u, Issues s core slot 0x56 t l x u → (∀ k < 32, bitN (predMask t x) k = true →
    laneAddr t x k + 4 ≤ l.args.length) → Answers (.lda core slot) s fun v =>
    LaneWrites u v core slot t x fun k => getLE l.args (laneAddr t x k) 4) ∧
  (∀ s core slot t l x u b r w, Issues s core slot 0x52 t l x u → l.binds[x.md]? = some b → bitN b.use 0 = true →
    (∀ k < 32, bitN (predMask t x) k = true → laneAddr t x k + 4 ≤ b.len ∧ laneAddr t x k % 4 = 0) →
    readLanes (admOf u t.q t.i) l.inst (fun k => b.addr + laneAddr t x k) u (lanesIn (predMask t x)) = .ok w r → Answers (.ldg core slot) s fun v =>
    LaneWrites w v core slot t x (gotLane r)) ∧
  (∀ s core slot t l x u b r w, Issues s core slot 0x53 t l x u → l.binds[x.md]? = some b → bitN b.use 1 = true →
    (∀ k < 32, bitN (predMask t x) k = true → laneAddr t x k + 4 ≤ b.len ∧ laneAddr t x k % 4 = 0) →
    writeLanes (admOf u t.q t.i) l.inst u ((lanesIn (predMask t x)).map fun k => (k, b.addr + laneAddr t x k, t.vr x.c k)) = .ok w r →
    Answers (.stg core slot) s fun v => Moves w v core slot t fun g => g) ∧
  (∀ s core slot t l x u b, Issues s core slot 0x53 t l x u → l.binds[x.md]? = some b → bitN b.use 1 = false →
    Answers (.stg core slot) s fun v => v = deliver u (fwKey core slot) t Status.keyViolation 0 allLanes) ∧
  (∀ s core slot t l x u, Issues s core slot 0x52 t l x u → l.binds.length ≤ x.md →
    Answers (.ldg core slot) s fun v => v = deliver u (fwKey core slot) t Status.badField 0 allLanes) ∧
  (∀ s core slot t l x u b d w, Issues s core slot 0x54 t l x u → l.binds[x.md]? = some b → predMask t x ≠ 0 → bitN x.imm 0 = false →
    bitN b.use 0 = true → t.ur x.a + t.ur x.c ≤ b.len → t.ur x.c % 64 = 0 → 64 ≤ t.ur x.c → t.ur x.c ≤ 65536 → t.ur x.a % 64 = 0 →
    t.ur x.b % 64 = 0 → t.ur x.b + t.ur x.c ≤ l.localBytes → readMemAt (admOf u t.q t.i) u l.inst (b.addr + t.ur x.a) (t.ur x.c) = .ok w d →
    Answers (.cpy core slot) s fun v => Moves w v core slot t fun g => { g with localMem := Mem.write t.localMem (t.ur x.b) d }) ∧
  (∀ s core slot t l x u b d w, Issues s core slot 0x54 t l x u → l.binds[x.md]? = some b → predMask t x ≠ 0 → bitN x.imm 0 = true →
    bitN b.use 1 = true → t.ur x.a + t.ur x.c ≤ b.len → t.ur x.c % 64 = 0 → 64 ≤ t.ur x.c → t.ur x.c ≤ 65536 → t.ur x.a % 64 = 0 →
    t.ur x.b % 64 = 0 → t.ur x.b + t.ur x.c ≤ l.localBytes →
    writeMemAt (admOf u t.q t.i) u l.inst (b.addr + t.ur x.a) (Mem.read t.localMem (t.ur x.b) (t.ur x.c)) = .ok w d → Answers (.cpy core slot) s fun v =>
    Moves w v core slot t fun g => g) ∧
  (∀ s core slot t l x u b w old y r, Issues s core slot 0x55 t l x u → x.imm ≤ 3 → t.atomg < 64 → l.binds[x.md]? = some b →
    bitN b.use 2 = true → (∀ k < 32, bitN (predMask t x) k = true → laneAddr t x k + 4 ≤ b.len ∧ laneAddr t x k % 4 = 0) →
    (Tab.getD s.fw.alogs (alogKey t.q t.i t.index) []).length ≤ t.atomg →
    readLanes (admOf u t.q t.i) l.inst (fun k => b.addr + laneAddr t x k) u (lanesIn (predMask t x)) = .ok w old →
    writeLanes (admOf u t.q t.i) l.inst w (atomLanes { k := fwKey core slot, l := l, x := x, mask := predMask t x }
      { t with pc := (t.pc + 8) % 2 ^ 64 } b old).2 = .ok y r → Answers (.atomg core slot) s fun v =>
    (∃ g, Tab.find v.fw.slots (fwKey core slot) = some g ∧ g.atomg = t.atomg + 1 ∧
      (∀ k < 32, bitN (predMask t x) k = true → g.vr x.d k = gotLane (atomLanes { k := fwKey core slot, l := l, x := x, mask := predMask t x }
        { t with pc := (t.pc + 8) % 2 ^ 64 } b old).1 k % 2 ^ 32)) ∧
    (Tab.getD v.fw.alogs (alogKey t.q t.i t.index) []).length = (Tab.getD s.fw.alogs (alogKey t.q t.i t.index) []).length + 1 ∧
    v = { y with fw := v.fw }) ∧
  (∀ s core slot t l x u, Issues s core slot 0x55 t l x u → x.imm ≤ 3 → 64 ≤ t.atomg → Answers (.atomg core slot) s fun v =>
    v = deliver u (fwKey core slot) t Status.noResource 0 allLanes)

/-- Branches, calls, returns, exits and traps of the Furrow (R343, R344, R348, R350, R351). Model choices: log 34. -/
def Obligations.FurrowControlTransfersAndTraps : Prop :=
  (∀ s core slot t l x u, Issues s core slot 0x60 t l x u → predMask t x = allLanes → Answers (.bra core slot) s fun v =>
    Moves u v core slot t fun g => { g with pc := intBits 64 (t.pc + 8 * x.simm) }) ∧
  (∀ s core slot t l x u, Issues s core slot 0x60 t l x u → predMask t x = 0 → Answers (.bra core slot) s fun v =>
    Moves u v core slot t fun g => g) ∧
  (∀ s core slot t l x u, Issues s core slot 0x60 t l x u → predMask t x ≠ 0 → predMask t x ≠ allLanes → Answers (.bra core slot) s fun v =>
    v = deliver u (fwKey core slot) t Status.badField 0 allLanes) ∧
  (∀ s core slot t l x u, Issues s core slot 0x61 t l x u → pushOk l t = true → Answers (.call core slot) s fun v =>
    Moves u v core slot t fun g => { g with pc := intBits 64 (t.pc + 8 * x.simm), u := Tab.put t.u 15 (BitVec.ofNat 64 (t.sp - 32)), localMem := Mem.write t.localMem (t.sp - 32) (putLE 8 (t.pc + 8) ++ zeros 24) }) ∧
  (∀ s core slot t l x u, Issues s core slot 0x61 t l x u → pushOk l t = false → Answers (.call core slot) s fun v =>
    v = deliver u (fwKey core slot) t Status.bounds t.sp allLanes) ∧
  (∀ s core slot t l x u, Issues s core slot 0x62 t l x u → popOk l t = true → Answers (.ret core slot) s fun v =>
    Moves u v core slot t fun g => { g with pc := ofLE (Mem.read t.localMem t.sp 8), u := Tab.put t.u 15 (BitVec.ofNat 64 (t.sp + 32)) }) ∧
  (∀ s core slot t l x u, Issues s core slot 0x62 t l x u → popOk l t = false → Answers (.ret core slot) s fun v =>
    v = deliver u (fwKey core slot) t Status.bounds t.sp allLanes) ∧
  (∀ s core slot t l x u, Issues s core slot 0x65 t l x u → t.inHandler = true → popOk l t = true → Answers (.rte core slot) s fun v =>
    Moves u v core slot t fun g => { g with pc := ofLE (Mem.read t.localMem t.sp 8), u := Tab.put t.u 15 (BitVec.ofNat 64 (t.sp + 32)), inHandler := false, cause := 0 }) ∧
  (∀ s core slot t l x u, Issues s core slot 0x65 t l x u → t.inHandler = false → Answers (.rte core slot) s fun v =>
    v = deliver u (fwKey core slot) t Status.badField 0 allLanes) ∧
  (∀ s core slot t l x u, Issues s core slot 0x63 t l x u → Answers (.exit core slot) s fun v =>
    Tab.find v.fw.slots (fwKey core slot) = none ∧ (∃ m, launchOf v t.q t.i = some m ∧ m.retired = t.index :: l.retired ∧
      m.sum = l.sum + t.result ∧ m.sums = t.staged.foldl addSum l.sums ∧ m.stopped = l.stopped) ∧
    v = { u with fw := v.fw, insts := v.insts, infl := v.infl }) ∧
  (∀ s core slot t l x u, Issues s core slot 0x64 t l x u → 0x80 ≤ fld x.imm 7 0 → Answers (.trap core slot) s fun v =>
    v = deliver u (fwKey core slot) t (BitVec.ofNat 8 (fld x.imm 7 0)) 0 allLanes) ∧
  (∀ s core slot t l x u, Issues s core slot 0x64 t l x u → fld x.imm 7 0 < 0x80 → Answers (.trap core slot) s fun v =>
    v = deliver u (fwKey core slot) t Status.badField 0 allLanes) ∧
  (∀ s core slot t l b u, slot < 16 → Tab.find s.fw.slots (fwKey core slot) = some t → t.st = .running → launchOf s t.q t.i = some l →
    atBreak s (fwKey core slot) t = false → 64 ≤ t.pc → t.pc % 8 = 0 → t.pc + 8 ≤ l.codeLen →
    readMem s l.inst (l.codeAddr + t.pc) 8 = .ok u b → fwOps.contains (insOf (ofLE b)).op = false → Answers (.fwNop core slot) s fun v =>
    v = deliver u (fwKey core slot) t Status.badField 0 allLanes) ∧
  (∀ s core slot t l, Tab.find s.fw.slots (fwKey core slot) = some t → slot < 16 → t.st = .running → launchOf s t.q t.i = some l →
    atBreak s (fwKey core slot) t = true → Answers (.iadd core slot) s fun v =>
    v = putTg s (fwKey core slot) (t.pause .halted s.sys.now))

/-- Watchdogs, lost cores, group starts and kernel launches (R188, R337, R342, R352, R354, R379). Model choices: logs 35 and
108. -/
def Obligations.TrapsEnterTheHandlerOrRetire : Prop :=
  (∀ s k t l c a m, launchOf s t.q t.i = some l → l.trapv ≠ 0 → t.inHandler = false → pushOk l t = true →
    (s.fw.dbg.src = none ∨ s.fw.dbg.haltTrap = false) → t.stepLeft = none →
    ∃ h, deliver s k t c a m = putTg s k h ∧ h.inHandler = true ∧ h.pc = l.trapv ∧ h.cause = c ∧ h.st = t.st ∧ h.v = t.v ∧ h.p = t.p ∧
      h.sp = t.sp - 32 ∧ (∀ j, j ≠ 15 → h.ur j = t.ur j) ∧
      h.localMem = Mem.write t.localMem (t.sp - 32) (putLE 8 t.pc ++ [c] ++ zeros 7 ++ putLE 8 a ++ putLE 4 m ++ zeros 4)) ∧
  (∀ s k t l c a m, launchOf s t.q t.i = some l → l.trapv = 0 → ∀ v, v = deliver s k t c a m → Tab.find v.fw.slots k = none ∧
    (∃ n, launchOf v t.q t.i = some n ∧ n.retired = t.index :: l.retired ∧ n.stopped = (l.stopped || l.stopOnTrap) ∧
      (l.trapStatus = false → n.status = c ∧ n.trapStatus = true)) ∧
    v = { s with fw := v.fw, insts := v.insts, infl := v.infl }) ∧
  (∀ s k t l c a m, launchOf s t.q t.i = some l → l.trapv ≠ 0 → (t.inHandler = true ∨ pushOk l t = false) →
    (s.fw.dbg.src = none ∨ s.fw.dbg.haltDtrap = false) → ∀ v, v = deliver s k t c a m → Tab.find v.fw.slots k = none ∧
    v.fw.dbg.dtraps = satInc 16 s.fw.dbg.dtraps ∧
    (∃ n, launchOf v t.q t.i = some n ∧ n.retired = t.index :: l.retired ∧ (l.trapStatus = false → n.status = Status.doubleTrap)) ∧
    v = { s with fw := v.fw, insts := v.insts, infl := v.infl, log := v.log }) ∧
  (∀ s core slot t l, Tab.find s.fw.slots (fwKey core slot) = some t → slot < 16 → t.st = .running → t.watchdog ≠ 0 → t.dogBarked = false →
    launchOf s t.q t.i = some l → Answers (.watchdogExpiry core slot) s fun v =>
    v = deliver (advanceTo s (t.ranAt + (t.watchdog * 1000000 - t.ran))) (fwKey core slot) { t with dogBarked := true } Status.waitTimeout 0
      allLanes) ∧
  (∀ s core, coreIn s core = true → s.log.staged.length < 64 → (∀ p ∈ s.fw.slots, p.1 / 16 = core → launchOf s p.2.q p.2.i ≠ none) →
    Answers (.coreLost core) s fun v => coreIn v core = false ∧ (∀ c, c ≠ core → coreIn v c = coreIn s c) ∧
    (∀ p ∈ v.fw.slots, p.1 / 16 ≠ core) ∧ (∀ k, k / 16 ≠ core → Tab.find v.fw.slots k = Tab.find s.fw.slots k) ∧
    (∀ p ∈ s.fw.slots, p.1 / 16 = core → ∃ l, launchOf v p.2.q p.2.i = some l ∧ p.2.index ∈ l.rerun) ∧
    v.basin.ownWin = some s.sys.now ∧ (∃ e ∈ v.log.staged, e.id = 0x0061 ∧ e.unit = core) ∧
    v = { s with fw := v.fw, log := v.log, basin := v.basin, insts := v.insts }) ∧
  (∀ s q i l r k, launchOf s q i = some l → inflOf s q i = some r → r.disp = true → r.done = none → launchWaits l = true →
    mayTakeSlot s l.inst = true → firstWaiting s l.inst l.order = true → pickSlot s = some k → Runs s (.furrow (k / 16)) →
    Answers (.groupStart q i) s fun v =>
    (∃ t, Tab.find v.fw.slots k = some t ∧ t.st = .running ∧ t.q = q ∧ t.i = i ∧ t.index = (l.rerun.head?).getD l.next ∧ t.pc = l.entry ∧
      t.v = [] ∧ t.p = [] ∧ t.ur 0 = t.index % 2 ^ 64 ∧ t.ur 1 = l.groups % 2 ^ 64 ∧ t.ur 2 = l.localBytes % 2 ^ 64 ∧
      t.sp = l.localBytes % 2 ^ 64 ∧ t.localMem = [] ∧ t.atomg = 0) ∧
    (∀ j, j ≠ k → Tab.find v.fw.slots j = Tab.find s.fw.slots j) ∧ v = { wakeBlk s (.furrow (k / 16)) with fw := v.fw }) ∧
  (∀ s q i l r k, launchOf s q i = some l → inflOf s q i = some r → r.disp = true → r.done = none → launchWaits l = true →
    mayTakeSlot s l.inst = true → firstWaiting s l.inst l.order = true → pickSlot s = some k →
    gated (wakeBlk s (.furrow (k / 16))) (.furrow (k / 16)) = true → Answers (.groupStart q i) s fun v => v = wakeBlk s (.furrow (k / 16))) ∧
  (∀ s q i x r u z code w args y, mayDispatch s q i 0x21 = some (x, r) → (∃ n, Tab.find s.insts x.inst = some n ∧ getLE r.ent 12 2 ≤ n.fwSlots) →
    admitOnce s q i x.inst r (launchOpds r.ent) = (u, none) →
    readMemAt (admOf u q i) u x.inst (getLE r.ent 16 8) (getLE r.ent 28 4) = .ok z code → launchArgs z q i x.inst r = .ok w args →
    cbOrdered w { r with args := some args } = true → underTest w 6 0 = false →
    launchFail { w with infl := Tab.modify w.infl (inflKey q i) (fun r => { r with args := some args }) } x.inst code args (getLE r.ent 48 4)
      = (y, none) → Answers (.kernelLaunch q i) s fun v =>
    (∃ l, launchOf v q i = some l ∧ l.inst = x.inst ∧ l.groups = getLE r.ent 12 2 ∧ l.next = 0 ∧ l.entry = getLE code 8 4 ∧
      l.trapv = getLE code 12 4 ∧ l.localBytes = getLE r.ent 48 4 ∧ l.args = args ∧ l.sum = 0 ∧ l.status = 0 ∧ l.retired = []) ∧
    (∃ keys, Underway v q i keys) ∧ v = { y with infl := v.infl, fw := v.fw }) ∧
  (∀ s q i x r n, mayDispatch s q i 0x21 = some (x, r) → Tab.find s.insts x.inst = some n → n.fwSlots < getLE r.ent 12 2 →
    Answers (.kernelLaunch q i) s fun v => DoneBad v q i Status.noResource ∧ v = { s with infl := v.infl })

/-- Every collective joins its group, or ends with its status (R318, R319, R323, R324, R337). Model choices: log 37. -/
def Obligations.CollectivesJoinTheirGroups : Prop :=
  (∀ s q i r n g u src, CollReady s q i 1 r n g u src → Answers (.allReduce q i) s fun t => CollJoined t q i r n g) ∧
  (∀ s q i r n g u src, CollReady s q i 2 r n g u src → Answers (.reduceScatter q i) s fun t => CollJoined t q i r n g) ∧
  (∀ s q i r n g u src, CollReady s q i 3 r n g u src → Answers (.allGather q i) s fun t => CollJoined t q i r n g) ∧
  (∀ s q i r n g u src, CollReady s q i 4 r n g u src → Answers (.broadcast q i) s fun t => CollJoined t q i r n g) ∧
  (∀ s q i r n g u src, CollReady s q i 5 r n g u src → Answers (.reduce q i) s fun t => CollJoined t q i r n g) ∧
  (∀ s q i r n g u src, CollReady s q i 6 r n g u src → Answers (.allToAll q i) s fun t => CollJoined t q i r n g) ∧
  (∀ s q i r n g u src, CollReady s q i 7 r n g u src → Answers (.allToAllV q i) s fun t => CollJoined t q i r n g) ∧
  (∀ s q i r n g u src, CollReady s q i 8 r n g u src → Answers (.barrier q i) s fun t => CollJoined t q i r n g) ∧
  (∀ s q i x r n g, mayDispatch s q i 0x20 = some (x, r) → getLE r.ent 12 1 = 1 → n = getLE r.ent 20 4 → Tab.find s.groups n = some g →
    g.error.isSome = true → Answers (.allReduce q i) s fun t => DoneBad t q i Status.flushed ∧ t = { s with infl := t.infl }) ∧
  (∀ s q i x r n g, mayDispatch s q i 0x20 = some (x, r) → getLE r.ent 12 1 = 6 → n = getLE r.ent 20 4 → Tab.find s.groups n = some g →
    g.error = none → g.coll.isSome = true → Answers (.allToAll q i) s fun t => t = s) ∧
  (∀ s n g x c, Tab.find s.groups n = some g → g.coll = some c → launchOf s c.q c.i = none →
    s.groups.find? (fun p => match p.2.coll with | some y => y.q = c.q && y.i = c.i && !y.runnel | none => false) = some (n, g) →
    s.fw.colls.any (fun p => p.2 = n) = false → mayTakeSlot s g.inst = true → firstWaiting s g.inst c.order = true →
    pickSlot s = some x → Runs s (.furrow (x / 16)) → Answers (.groupStart c.q c.i) s fun t => Tab.find t.fw.colls x = some n ∧
    (∀ k, k ≠ x → Tab.find t.fw.colls k = Tab.find s.fw.colls k) ∧ t = { wakeBlk s (.furrow (x / 16)) with fw := t.fw })

/-- Traffic of a collective group and the RN_GCMD commands (R312, R313, R314, R320, R321, R322, R323, R331, R333). -/
def Obligations.GroupTrafficAndCommandsActAsStated : Prop :=
  (∀ s n g m c k, Tab.find s.groups n = some g → g.coll = some c → msgAt g (fun y => y.kind = 0) = some (m, k) → m.sig = c.sig →
    Answers (.collData n) s fun t => t = putGroup s n { g with inbox := g.inbox.eraseIdx k, full := g.full ++ [(m.rank, m.slot, m.data)] }) ∧
  (∀ s n g m c k, Tab.find s.groups n = some g → g.coll = some c → msgAt g (fun y => y.kind = 0) = some (m, k) → m.sig ≠ c.sig → (∀ r, inflOf s c.q c.i = some r → r.done = none) →
    Answers (.collData n) s fun t => (∃ h, Tab.find t.groups n = some h ∧ h.coll = none ∧ h.error = some Status.badField ∧ h.inbox = []) ∧
    (∀ r, inflOf s c.q c.i = some r → DoneBad t c.q c.i Status.badField)) ∧
  (∀ s n g m rest c r, collOf s n = some (g, c, r) → g.inbox = m :: rest → m.kind = 1 → m.sig = c.sig → holdsSlot s n = false → Answers (.collCredit n) s fun t =>
    (∃ h, Tab.find t.groups n = some h ∧ h.credits = g.credits ++ [(m.rank, m.slot, m.sig)] ∧ h.inbox = rest ∧
      h.coll = some { c with credited := m.rank :: c.credited }) ∧ t = { s with groups := t.groups }) ∧
  (∀ s n g m rest c r, collOf s n = some (g, c, r) → r.done = none → g.inbox = m :: rest → m.kind = 2 → m.sig = c.sig → Answers (.collAbort n) s fun t =>
    DoneAs t c.q c.i { status := BitVec.ofNat 8 m.arg, cflags := 2, detail := 0,
                       bytes := 0, aux := 0 } ∧
    (∃ h, Tab.find t.groups n = some h ∧ h.coll = none ∧ h.error = some (BitVec.ofNat 8 m.arg) ∧ h.credits = [] ∧ h.full = []) ∧
    holdsSlot t n = false ∧ t = { s with groups := t.groups, infl := t.infl, fw := t.fw }) ∧
  (∀ s n g m c r k, collOf s n = some (g, c, r) → msgAt g (fun y => y.kind = 3) = some (m, k) → m.sig = c.sig → holdsSlot s n = false → Answers (.collVote n) s fun t =>
    (∃ h, Tab.find t.groups n = some h ∧ h.inbox = g.inbox.eraseIdx k ∧ h.coll = some { c with votes := c.votes ++ [(m.rank, decide (m.arg = 1))] }) ∧
    t = { s with groups := t.groups }) ∧
  (∀ s n g c r, collOf s n = some (g, c, r) → r.done = none → Answers (.collTimeout n) s fun t => DoneBad t c.q c.i Status.waitTimeout ∧
    t.sys.now = max s.sys.now (c.since + g.timeout * 1000000) ∧ holdsSlot t n = false ∧
    (∃ h, Tab.find t.groups n = some h ∧ h.coll = none ∧ h.error = some Status.waitTimeout ∧ h.inbox = [])) ∧
  (∀ s n g c r rank slot b rest, collOf s n = some (g, c, r) → c.runnel = false → holdsSlot s n = true → g.full = (rank, slot, b) :: rest →
    Answers (.collCombineDone n) s fun t => (∃ h, Tab.find t.groups n = some h ∧ h.seq = g.seq ∧ h.members = g.members ∧
      (∀ d, h.coll = some d → h.full = rest ∧ d.q = c.q ∧ d.i = c.i ∧ d.sig = c.sig) ∧ (h.coll = none → ∃ d, DoneAs t c.q c.i d ∨ r.done = some d))) ∧
  (∀ s i w u b, CmdOpen s i 0x2A0 1 w → firstFail (gHead s i w true) = none → readTable s i = .ok u b → firstFail (createChecks u i b) = none →
    Answers (.rnGcmdCreate i w) s fun t => (∃ g, Tab.find t.groups (gSel s i) = some g ∧ g.inst = i ∧ g.seq = 0 ∧ g.error = none ∧
      g.coll = none ∧ g.size = fld (getPage s i 0x284) 22 16 ∧ g.rank = fld (getPage s i 0x284) 13 8 ∧ g.gen = getPage s i 0x288 ∧
      g.members = membersOf (fld (getPage s i 0x284) 22 16) b) ∧
    (∀ k, k ≠ gSel s i → Tab.find t.groups k = Tab.find s.groups k) ∧
    t = { u with pages := t.pages, insts := t.insts, groups := t.groups, qps := t.qps }) ∧
  (∀ s i w g, CmdOpen s i 0x2A0 2 w → firstFail (gHead s i w false) = none → gMine s i = true → Tab.find s.groups (gSel s i) = some g →
    g.coll = none → Answers (.rnGcmdDestroy i w) s fun t => Tab.find t.groups (gSel s i) = none ∧
    (∀ p ∈ t.qps, p.2.group ≠ some (gSel s i)) ∧ (∀ k, k ≠ gSel s i → Tab.find t.groups k = Tab.find s.groups k) ∧
    t = { s with pages := t.pages, insts := t.insts, groups := t.groups, qps := t.qps, fw := t.fw }) ∧
  (∀ s i w g, CmdOpen s i 0x2A0 2 w → firstFail (gHead s i w false) = none → gMine s i = true → Tab.find s.groups (gSel s i) = some g →
    g.coll.isSome = true → Answers (.rnGcmdDestroy i w) s fun t => t.groups = s.groups ∧
    fld (getPage t i 0x2A0) 15 8 = Status.busy.toNat ∧ t = { s with pages := t.pages, vp := t.vp, intr := t.intr, out := t.out }) ∧
  (∀ s i w g, CmdOpen s i 0x2A0 3 w → firstFail (gHead s i w false) = none → gMine s i = true → Tab.find s.groups (gSel s i) = some g →
    g.coll = none → g.gen ≠ getPage s i 0x288 → Answers (.rnGcmdReset i w) s fun t =>
    (∃ h, Tab.find t.groups (gSel s i) = some h ∧ h.error = none ∧ h.seq = 0 ∧ h.gen = getPage s i 0x288 ∧ h.members = g.members) ∧
    (∀ k, k ≠ gSel s i → Tab.find t.groups k = Tab.find s.groups k) ∧ t = { s with pages := t.pages, insts := t.insts, groups := t.groups }) ∧
  (∀ s i w g, CmdOpen s i 0x2A0 4 w → firstFail (gHead s i w false) = none → gMine s i = true → Tab.find s.groups (gSel s i) = some g →
    g.seq < 2 ^ 32 → Answers (.rnGcmdQuery i w) s fun t => getPage t i 0x2A8 = g.seq ∧ fld (getPage t i 0x2A4) 31 28 = gState g ∧
    t = { s with pages := t.pages, insts := t.insts })

/-- Runnel streams send, acknowledge, restart and deliver in order (R328, R329, R331). Model choices: logs 39, 41 and 118. -/
def Obligations.RunnelStreamsDeliverInOrder : Prop :=
  (∀ s k x, Tab.find s.rn.streams k = some x → x.unacked ≠ [] → x.expiries < 16 → rnHeld s k = false → Answers (.runnelRtoExpiry k) s fun t =>
    max s.sys.now (x.rtoAt + x.rto) ≤ t.sys.now ∧ (∃ y, Tab.find t.rn.streams k = some y ∧ y.rto = min (2 * x.rto) (max 1000000 (rnRto s)) ∧
      y.expiries = x.expiries + 1 ∧ y.unacked = x.unacked ∧ y.sepoch = x.sepoch) ∧
    t = { s with sys := { s.sys with now := t.sys.now }, rn := t.rn, out := t.out, wr := t.wr, insts := t.insts, links := t.links }) ∧
  (∀ s k x, Tab.find s.rn.streams k = some x → rnHeld s k = true → Answers (.runnelRtoExpiry k) s fun t => t = s) ∧
  (∀ s k x, Tab.find s.rn.streams k = some x → 16 ≤ x.expiries → s.log.staged.length < 64 → Answers (.runnelStreamRestart k) s fun t =>
    (∃ y, Tab.find t.rn.streams k = some y ∧ y.sepoch = (if x.sepoch = 255 then 1 else x.sepoch + 1) ∧ y.sync = true ∧ y.expiries = 0 ∧
      y.unacked.map (·.body) = x.unacked.map (·.body) ∧ y.unacked.map (·.seq) = List.range x.unacked.length) ∧
    (∃ e ∈ t.log.staged, e.id = 0x0070 ∧ e.unit = k) ∧
    t = { s with sys := { s.sys with now := t.sys.now }, rn := t.rn, out := t.out, log := t.log, wr := t.wr, insts := t.insts, links := t.links }) ∧
  (∀ s k x d, Tab.find s.rn.streams k = some x → x.ackOwed = some d → rnHeld s k = false → Answers (.runnelAckDelayExpiry k) s fun t =>
    max s.sys.now (d + rnAckDelay s) ≤ t.sys.now ∧ (∃ y, Tab.find t.rn.streams k = some y ∧ y.ackOwed = none ∧ y.expect = x.expect) ∧
    t = { s with sys := { s.sys with now := t.sys.now }, rn := t.rn, out := t.out, wr := t.wr, insts := t.insts, links := t.links }) ∧
  (∀ s k x d, Tab.find s.rn.streams k = some x → x.ackOwed = some d → rnHeld s k = true → Answers (.runnelAckDelayExpiry k) s fun t =>
    t = rnWork s k) ∧
  (∀ s m, rnGood m = false → RnServes s m → (∀ p ∈ s.groups, p.2.coll = none) → Answers (.runnelColl m) s fun t =>
    t = rnCount (wakeBlk s .runnel) 5) ∧
  (∀ s m l, getBE m 1 1 = 1 → rnLink s (getBE m 4 1) = some l → (link s l).cal = .running → Answers (.runnelColl m) s fun t =>
    t = putLink s l { link s l with dropped := (link s l).dropped + 1 }) ∧
  (∀ s m, getBE m 1 1 = 1 → (∀ l, rnLink s (getBE m 4 1) = some l → (link s l).cal ≠ .running) → rnStopped (wakeBlk s .runnel) = true →
    Answers (.runnelColl m) s fun t => t = { wakeBlk s .runnel with rn := { s.rn with held := s.rn.held ++ [m] } }) ∧
  (∀ s m x, rnGood m = true → RnServes s m → getBE m 1 1 = 1 → getBE m 5 1 = s.basin.slot → Tab.find s.rn.streams (getBE m 4 1) = some x → (∀ p ∈ s.groups, p.2.coll = none) → Tab.find s.groups (getBE m 10 2) = none →
    bitN (getBE m 2 1) 0 = false → bitN (getBE m 2 1) 3 = false → getBE m 3 1 = x.peerEpoch → getBE m 6 2 = x.expect →
    Answers (.runnelColl m) s fun t => (∃ y, Tab.find t.rn.streams (getBE m 4 1) = some y ∧ y.expect = (x.expect + 1) % 2 ^ 16 ∧
      y.ackOwed = some (x.ackOwed.getD s.sys.now)) ∧ t = { wakeBlk s .runnel with rn := t.rn }) ∧
  (∀ s m x, rnGood m = true → RnServes s m → getBE m 1 1 = 2 → getBE m 5 1 = s.basin.slot → Tab.find s.rn.streams (getBE m 4 1) = some x → (∀ p ∈ s.groups, p.2.coll = none) → Tab.find s.groups (getBE m 10 2) = none →
    bitN (getBE m 2 1) 0 = false → bitN (getBE m 2 1) 3 = false → getBE m 3 1 = x.peerEpoch → getBE m 6 2 = x.expect →
    Answers (.runnelCollAbort m) s fun t => (∃ y, Tab.find t.rn.streams (getBE m 4 1) = some y ∧ y.expect = (x.expect + 1) % 2 ^ 16 ∧
      y.ackOwed = some (x.ackOwed.getD s.sys.now)) ∧ t = { wakeBlk s .runnel with rn := t.rn }) ∧
  (∀ s m x, rnGood m = true → RnServes s m → getBE m 1 1 = 3 → getBE m 5 1 = s.basin.slot → Tab.find s.rn.streams (getBE m 4 1) = some x → (∀ p ∈ s.groups, p.2.coll = none) → Tab.find s.groups (getBE m 10 2) = none →
    bitN (getBE m 2 1) 0 = false → bitN (getBE m 2 1) 3 = true → getBE m 3 1 = x.peerEpoch → x.waiting = [] → Answers (.runnelAck m) s fun t =>
    (∃ y, Tab.find t.rn.streams (getBE m 4 1) = some y ∧ y.expect = x.expect ∧ y.waiting = [] ∧
      (∀ z, z ∈ y.unacked ↔ z ∈ x.unacked ∧ 2 ^ 15 ≤ (getBE m 8 2 + 2 ^ 16 - z.seq - 1) % 2 ^ 16)) ∧ t = { wakeBlk s .runnel with rn := t.rn }) ∧
  (∀ s m x, rnGood m = true → RnServes s m → getBE m 1 1 = 1 → getBE m 5 1 = s.basin.slot → Tab.find s.rn.streams (getBE m 4 1) = some x → (∀ p ∈ s.groups, p.2.coll = none) → Tab.find s.groups (getBE m 10 2) = none →
    bitN (getBE m 2 1) 0 = false → getBE m 3 1 ≠ x.peerEpoch → Answers (.runnelColl m) s fun t =>
    Tab.find t.rn.streams (getBE m 4 1) = some x ∧ Tab.getD t.rn.counters 4 0 = (Tab.getD s.rn.counters 4 0 + 1) % 2 ^ 64 ∧
    t = { wakeBlk s .runnel with rn := t.rn })

/-- Synko entries add, set, wait and fire (R295, R296, R297, R298, R300, R303, R304). -/
def Obligations.CounterOperationsWaitAndApply : Prop :=
  (∀ s q i x r, mayDispatch s q i 0x22 = some (x, r) → sopOf r.ent = 1 → underTest s 4 0 = false → (cnt s (sopCounter r.ent)).poison = false →
    Answers (.synkoAdd q i) s fun t => Underway t q i [] ∧
    t.syPend = s.syPend ++ [{ counter := sopCounter r.ent, set := false, value := sopValue r.ent, src := .op q i }] ∧
    t = { s with infl := t.infl, syPend := t.syPend }) ∧
  (∀ s q i x r, mayDispatch s q i 0x22 = some (x, r) → sopOf r.ent = 1 → underTest s 4 0 = false → (cnt s (sopCounter r.ent)).poison = true →
    Answers (.synkoAdd q i) s fun t => DoneBad t q i Status.descriptorCrc ∧ t = { s with infl := t.infl }) ∧
  (∀ s q i x r, mayDispatch s q i 0x22 = some (x, r) → sopOf r.ent = 2 → underTest s 4 0 = false → Answers (.synkoSet q i) s fun t =>
    Underway t q i [] ∧ t.syPend = s.syPend ++ [{ counter := sopCounter r.ent, set := true, value := sopValue r.ent, src := .op q i }] ∧
    t = { s with infl := t.infl, syPend := t.syPend }) ∧
  (∀ s q i x r, mayDispatch s q i 0x22 = some (x, r) → sopOf r.ent = 3 → underTest s 4 0 = false → (cnt s (sopCounter r.ent)).poison = false →
    (cnt s (sopCounter r.ent)).sat = false → sopValue r.ent ≤ (cnt s (sopCounter r.ent)).value → Answers (.waitGe q i) s fun t =>
    DoneAs t q i { status := Status.ok, cflags := 0, detail := 0, bytes := 0, aux := (cnt s (sopCounter r.ent)).value % 2 ^ 32 } ∧
    t = { s with infl := t.infl }) ∧
  (∀ s q i x r, mayDispatch s q i 0x22 = some (x, r) → sopOf r.ent = 3 → underTest s 4 0 = false → (cnt s (sopCounter r.ent)).poison = false →
    (cnt s (sopCounter r.ent)).sat = false → (cnt s (sopCounter r.ent)).value < sopValue r.ent → Answers (.waitGe q i) s fun t =>
    (∃ y, inflOf t q i = some y ∧ y.disp = true ∧ y.done = none ∧
      y.deadline = (if getLE r.ent 28 4 = 0 then none else some (s.sys.now + getLE r.ent 28 4 * 1000))) ∧ t = { s with infl := t.infl }) ∧
  (∀ s q i x r y, mayDispatch s q i 0x22 = some (x, r) → sopOf r.ent = 4 → underTest s 4 0 = false → (cnt s (sopCounter r.ent)).poison = false →
    (cnt s (sopCounter r.ent)).sat = false → sopValue r.ent ≤ (cnt s (sopCounter r.ent)).value → Tab.find s.wqs (getLE r.ent 32 4) = some y →
    y.st = .enabled → Answers (.armFire q i) s fun t => (∃ d, DoneAs t q i d ∧ d.status = Status.ok) ∧
    t.wqs = Tab.put s.wqs (getLE r.ent 32 4) { y with fireTag := some (q, i) } ∧
    t = { wakeBlk s .headgate with infl := t.infl, wqs := t.wqs }) ∧
  (∀ s q i x r y, mayDispatch s q i 0x22 = some (x, r) → sopOf r.ent = 4 → underTest s 4 0 = false → (cnt s (sopCounter r.ent)).poison = false →
    (cnt s (sopCounter r.ent)).sat = false → sopValue r.ent ≤ (cnt s (sopCounter r.ent)).value → Tab.find s.wqs (getLE r.ent 32 4) = some y →
    y.st = .disabled → enableFail s y = none → Answers (.armFire q i) s fun t => (∃ d, DoneAs t q i d ∧ d.status = Status.ok) ∧
    t.wqs = Tab.put s.wqs (getLE r.ent 32 4) { y with st := .enabled, fireTag := some (q, i) } ∧
    t = { wakeBlk s .headgate with infl := t.infl, wqs := t.wqs }) ∧
  (∀ s q i r d, inflOf s q i = some r → r.deadline = some d → r.disp = true → r.done = none → entOp r.ent = 0x22 →
    Answers (.synkoDeadline q i) s fun t => (∃ e, DoneAs t q i e ∧ e.status = Status.waitTimeout) ∧ t.sys.now = max s.sys.now d ∧
    t = { s with sys := { s.sys with now := t.sys.now }, infl := t.infl, wr := t.wr, insts := t.insts, out := t.out }) ∧
  (∀ s n v r, s.syPend[n]? = some { counter := v, set := false, value := r, src := .command } → Runs s .synko → underTest s 4 0 = false →
    ((cnt s v).journal.filter (tagLive s)).length ≤ 5 → (cnt s v).poison = false → (cnt s v).sat = false → (cnt s v).value + r < 2 ^ 48 →
    waiting s v = [] → Answers (.synkoApply n) s fun t => (cnt t v).value = (cnt s v).value + r ∧ t.syPend = s.syPend.eraseIdx n ∧
    (∀ m, m ≠ v → cnt t m = cnt s m) ∧ t = { wakeBlk s .synko with sy := t.sy, syPend := t.syPend }) ∧
  (∀ s n v r, s.syPend[n]? = some { counter := v, set := false, value := r, src := .command } → Runs s .synko → underTest s 4 0 = false →
    ((cnt s v).journal.filter (tagLive s)).length ≤ 5 → (cnt s v).poison = false → (cnt s v).sat = false → 2 ^ 48 ≤ (cnt s v).value + r →
    s.log.staged.length < 64 → waiting s v = [] → (∀ x ∈ s.wqs, x.2.gate = none) → Answers (.synkoApply n) s fun t =>
    (cnt t v).value = 2 ^ 48 - 1 ∧ (cnt t v).sat = true ∧ (∃ e ∈ t.log.staged, e.id = 0x0052 ∧ e.unit = v) ∧
    t = { wakeBlk s .synko with sy := t.sy, syPend := t.syPend, log := t.log }) ∧
  (∀ s n q i v r e, s.syPend[n]? = some { counter := v, set := false, value := r, src := .op q i } → Runs s .synko → underTest s 4 0 = false →
    ((cnt s v).journal.filter (tagLive s)).length < 5 → (cnt s v).poison = false → (cnt s v).sat = false → (cnt s v).value + r < 2 ^ 48 →
    waiting s v = [] → inflOf s q i = some e → e.done = none → sopCounter e.ent = v → Answers (.synkoApply n) s fun t =>
    (cnt t v).value = (cnt s v).value + r ∧ (∃ j, (cnt t v).journal = j ++ [(1, q, i)]) ∧ t.syPend = s.syPend.eraseIdx n ∧
    DoneAs t q i { status := Status.ok, cflags := 0, detail := 0, bytes := 0, aux := ((cnt s v).value + r) % 2 ^ 32 } ∧
    t = { wakeBlk s .synko with sy := t.sy, syPend := t.syPend, infl := t.infl }) ∧
  (∀ s n ch, s.syPend[n]? = some ch → gated (wakeBlk s .synko) .synko = true → Answers (.synkoApply n) s fun t => t = wakeBlk s .synko) ∧
  (∀ s q x h g, Tab.find s.wqs q = some x → x.holdSince = some h → x.gate = some g → g.timeout ≠ 0 → gateHolds s q x = true →
    Answers (.gateTimeoutExpiry q) s fun t => t.sys.now = max s.sys.now (h + g.timeout * 1000000) ∧
    (∃ y, Tab.find t.wqs q = some y ∧ y.st = .error ∧ y.errStatus = Status.waitTimeout) ∧
    t = { s with sys := { s.sys with now := t.sys.now }, wqs := t.wqs, wr := t.wr, insts := t.insts, out := t.out })

/-- The SY_ and gate commands (R294, R299, R301, R302, R303, R309). -/
def Obligations.CounterAndGateCommandsActAsStated : Prop :=
  (∀ s i w, CmdOpen s i 0x214 1 w → firstFail (syHead s i w) = none → syLeaving s i = false → waiting s (sySel s i) = [] →
    Answers (.sySet i w) s fun t => (cnt t (sySel s i)).value = getPage s i 0x204 + getPage s i 0x208 * 2 ^ 32 ∧
    (cnt t (sySel s i)).sat = false ∧ (cnt t (sySel s i)).poison = false ∧ (∀ n, n ≠ sySel s i → cnt t n = cnt s n) ∧
    t = { s with sy := t.sy, pages := t.pages, insts := t.insts }) ∧
  (∀ s i w, CmdOpen s i 0x214 2 w → firstFail (syHead s i w) = none → syLeaving s i = false → (cnt s (sySel s i)).poison = false →
    (cnt s (sySel s i)).sat = false → (cnt s (sySel s i)).value + syVal s i < 2 ^ 48 → waiting s (sySel s i) = [] → Answers (.syAdd i w) s fun t =>
    (cnt t (sySel s i)).value = (cnt s (sySel s i)).value + syVal s i ∧ (∀ n, n ≠ sySel s i → cnt t n = cnt s n) ∧
    t = { s with sy := t.sy, pages := t.pages, insts := t.insts }) ∧
  (∀ s i w, CmdOpen s i 0x214 2 w → firstFail (syHead s i w) = none → syLeaving s i = false → (cnt s (sySel s i)).poison = true →
    Answers (.syAdd i w) s fun t => t.sy = s.sy ∧ fld (getPage t i 0x214) 15 8 = Status.descriptorCrc.toNat ∧
    t = { s with pages := t.pages, vp := t.vp, intr := t.intr, out := t.out }) ∧
  (∀ s i w, CmdOpen s i 0x214 3 w → firstFail (syHead s i w) = none → getPage s i 0x20C ≠ i → (cnt s (sySel s i)).share = none →
    Answers (.syShare i w) s fun t => t.sy = Tab.put s.sy (sySel s i) { cnt s (sySel s i) with share := some (getPage s i 0x20C) } ∧
    t = { s with sy := t.sy, pages := t.pages, insts := t.insts }) ∧
  (∀ s i w j, CmdOpen s i 0x214 4 w → firstFail (syHead s i w) = none → (cnt s (sySel s i)).share = some j → syUsed s (sySel s i) j = false →
    Answers (.syUnshare i w) s fun t => t.sy = Tab.put s.sy (sySel s i) { cnt s (sySel s i) with share := none } ∧
    t = { s with sy := t.sy, pages := t.pages, insts := t.insts }) ∧
  (∀ s i w j, CmdOpen s i 0x214 4 w → firstFail (syHead s i w) = none → (cnt s (sySel s i)).share = some j → syUsed s (sySel s i) j = true →
    Answers (.syUnshare i w) s fun t => t.sy = s.sy ∧ fld (getPage t i 0x214) 15 8 = Status.busy.toNat ∧
    t = { s with pages := t.pages, vp := t.vp, intr := t.intr, out := t.out }) ∧
  (∀ s i w x, CmdOpen s i 0x240 1 w → firstFail (gateHead s i w true) = none → Tab.find s.wqs (gateSel s i) = some x → x.st = .disabled →
    Answers (.gateSet i w) s fun t => t.wqs = Tab.put s.wqs (gateSel s i) { x with
      gate := some { counter := getPage s i 0x224, base := getPage s i 0x228 + getPage s i 0x22C * 2 ^ 32, step := getPage s i 0x230,
                     every := getPage s i 0x234, origin := x.ci, timeout := getPage s i 0x238 },
      holdSince := none } ∧ t = { s with wqs := t.wqs, pages := t.pages, insts := t.insts }) ∧
  (∀ s i w x, CmdOpen s i 0x240 1 w → firstFail (gateHead s i w true) = none → Tab.find s.wqs (gateSel s i) = some x → x.st ≠ .disabled →
    Answers (.gateSet i w) s fun t => t.wqs = s.wqs ∧ fld (getPage t i 0x240) 15 8 = Status.busy.toNat ∧
    t = { s with pages := t.pages, vp := t.vp, intr := t.intr, out := t.out }) ∧
  (∀ s i w x, CmdOpen s i 0x240 2 w → firstFail (gateHead s i w false) = none → Tab.find s.wqs (gateSel s i) = some x → x.st = .disabled →
    Answers (.gateClear i w) s fun t => t.wqs = Tab.put s.wqs (gateSel s i) { x with gate := none, holdSince := none } ∧
    t = { s with wqs := t.wqs, pages := t.pages, insts := t.insts }) ∧
  (∀ s i w x g, CmdOpen s i 0x240 3 w → firstFail (gateHead s i w false) = none → Tab.find s.wqs (gateSel s i) = some x → x.gate = some g →
    g.counter < 2 ^ 32 → g.timeout < 2 ^ 32 → Answers (.gateQuery i w) s fun t => getPage t i 0x224 = g.counter ∧ getPage t i 0x228 = g.base % 2 ^ 32 ∧
    getPage t i 0x230 = g.step % 2 ^ 32 ∧ getPage t i 0x238 = g.timeout ∧ bitN (getPage t i 0x240) 30 = true ∧
    getPage t i 0x244 = gateT g x.ci % 2 ^ 32 ∧ t = { s with pages := t.pages, insts := t.insts }) ∧
  (∀ s i w x, CmdOpen s i 0x240 3 w → firstFail (gateHead s i w false) = none → Tab.find s.wqs (gateSel s i) = some x → x.gate = none →
    Answers (.gateQuery i w) s fun t => getPage t i 0x240 = 0 ∧ t = { s with pages := t.pages, insts := t.insts })

/-- Spans and keys: CREATE, DESTROY, INVALIDATE, QUERY and KEY_FREE (R201, R210, R217, R218, R219, R224). Model choices: logs
18, 19, 22, 81, 104 and 107. -/
def Obligations.SpansAndKeysFollowTheirCommands : Prop :=
  (∀ s i w k n, CmdOpen s i 0x0A8 1 w → firstFail (spChecks s i w) = none → skindOf (fld (getPage s i 0x09C) 2 0) = some k → nextSpan s i = some n →
    Answers (.spCreate i w) s fun t => (∃ sp, Tab.find t.spans n = some sp ∧ sp.inst = i ∧ sp.kind = k ∧ sp.start = page64 s i 0x084 ∧
      sp.len = page64 s i 0x08C ∧ sp.target = page64 s i 0x094 ∧ sp.migr = bitN (getPage s i 0x09C) 3 ∧ sp.moving = none ∧
      sp.resHbm = false ∧ sp.destroying = none) ∧
    (∀ k, k ≠ n → Tab.find t.spans k = Tab.find s.spans k) ∧ getPage t i 0x080 = n % 2 ^ 32 ∧
    t = { s with spans := t.spans, pages := t.pages, insts := t.insts, own := { s.own with span := t.own.span } }) ∧
  (∀ s i w, CmdOpen s i 0x0A8 1 w → fld (getPage s i 0x09C) 2 0 = 3 → bitN (getPage s i 0x09C) 3 = false →
    instHas s i 2 = true → page64 s i 0x084 % 4096 = 0 → page64 s i 0x08C % 4096 = 0 → page64 s i 0x094 % 4096 = 0 →
    4096 ≤ page64 s i 0x08C → page64 s i 0x08C ≤ 2 ^ 48 → page64 s i 0x084 + page64 s i 0x08C ≤ 2 ^ 57 →
    page64 s i 0x094 + page64 s i 0x08C ≤ hbmSize s i →
    (∃ x, Tab.find s.insts i = some x ∧ ∀ u ∈ x.resv, disjointR (page64 s i 0x094) (page64 s i 0x08C) u.1 u.2 = true) →
    (∀ p ∈ s.spans, p.2.inst = i → p.2.kind ≠ .plot → disjointR p.2.start p.2.len (page64 s i 0x084) (page64 s i 0x08C) = true) →
    (nextSpan s i).isSome = true → firstFail (spChecks s i w) = none) ∧
  (∀ s i w, CmdOpen s i 0x0A8 1 w → skindOf (fld (getPage s i 0x09C) 2 0) = none → bitN (getPage s i 0x09C) 3 = false →
    Answers (.spCreate i w) s fun t => t.spans = s.spans ∧
    fld (getPage t i 0x0A8) 15 8 = Status.badField.toNat ∧ t = { s with pages := t.pages, vp := t.vp, intr := t.intr, out := t.out }) ∧
  (∀ s i w k sp, CmdOpenAt 0xFFFFFEF0 s i 0x0A8 2 w → k = fld (getPage s i 0x080) 19 0 → k < spanMax s → Tab.find s.spans k = some sp →
    sp.inst = i → (sp.kind ≠ .plot ∨ w.src = .tender) → sp.moving = none → (sp.resHbm = false ∨ bitN w.data.toNat 8 = true) → spanLost s k = false → spanUsed s k s.pieceClock = false →
    Answers (.spDestroy i w) s fun t => Tab.find t.spans k = none ∧ (∀ j, j ≠ k → Tab.find t.spans j = Tab.find s.spans j) ∧
    (∀ p, p ∈ t.pieces ↔ p ∈ s.pieces ∧ p.span ≠ k) ∧
    t = { s with spans := t.spans, pieces := t.pieces, pages := t.pages, insts := t.insts, pieceClock := t.pieceClock, own := { s.own with span := t.own.span } }) ∧
  (∀ s i w k sp, CmdOpenAt 0xFFFFFEF0 s i 0x0A8 2 w → k = fld (getPage s i 0x080) 19 0 → k < spanMax s → Tab.find s.spans k = some sp →
    sp.inst = i → (sp.kind ≠ .plot ∨ w.src = .tender) → sp.moving = none → (sp.resHbm = false ∨ bitN w.data.toNat 8 = true) → spanLost s k = false → spanUsed s k s.pieceClock = true →
    Answers (.spDestroy i w) s fun t => pageBusy t i 0x0A8 = true ∧
    t.spans = Tab.put s.spans k { sp with destroying := some s.pieceClock, bad1 := false, bad2 := false } ∧ t.pieces = s.pieces ∧
    t = { s with spans := t.spans, pages := t.pages, insts := t.insts, pieceClock := t.pieceClock }) ∧
  (∀ s i w k sp, CmdOpenAt 0xFFFFFEF0 s i 0x0A8 2 w → k = fld (getPage s i 0x080) 19 0 → k < spanMax s → Tab.find s.spans k = some sp →
    sp.inst = i → (sp.kind ≠ .plot ∨ w.src = .tender) → sp.resHbm = true → bitN w.data.toNat 8 = false →
    Answers (.spDestroy i w) s fun t => t.spans = s.spans ∧ fld (getPage t i 0x0A8) 15 8 = Status.busy.toNat ∧ t = { s with pages := t.pages, vp := t.vp, intr := t.intr, out := t.out }) ∧
  (∀ s i w k sp, CmdOpen s i 0x0A8 3 w → k = fld (getPage s i 0x080) 19 0 → k < spanMax s → Tab.find s.spans k = some sp → sp.inst = i →
    sp.prefer < 4 → spanLost s k = false → Answers (.spQuery i w) s fun t => getPage t i 0x09C = fld (getPage s i 0x09C) 3 0 + 16 * bit sp.resHbm +
      32 * bit sp.readMostly + 64 * sp.prefer ∧ getPage t i 0x0A0 = spanState sp ∧
    t = { spanRepair s k with pages := t.pages, insts := t.insts }) ∧
  (∀ s i w k, CmdOpen s i 0x0A8 3 w → k = fld (getPage s i 0x080) 19 0 → k < spanMax s → spanOwned s i k = true → spanLost s k = true →
    s.log.staged.length < 64 → Answers (.spQuery i w) s fun t => fld (getPage t i 0x0A8) 15 8 = Status.descriptorCrc.toNat ∧
    (∃ x ∈ t.log.staged, x.id = 0x0050 ∧ x.unit = 1) ∧ t = { s with pages := t.pages, insts := t.insts, log := t.log }) ∧
  (∀ s i w n, CmdOpen s i 0x0DC 1 w → firstFail (ktChecks s i w) = none → nextKey s i = some n → Answers (.ktCreate i w) s fun t =>
    (∃ k, Tab.find t.keys n = some k ∧ k.inst = i ∧ k.base = page64 s i 0x0C4 ∧ k.len = page64 s i 0x0CC ∧
      k.rights = fld (getPage s i 0x0D4) 12 8 ∧ k.basin = decide (fld (getPage s i 0x0D4) 1 0 = 2) ∧ k.st = 1 ∧
      (∀ x, Tab.find s.keys n = some x → k.gen = x.gen) ∧ getPage t i 0x0C0 = (n * 256 + k.gen) % 2 ^ 32) ∧
    (∀ j, j ≠ n → Tab.find t.keys j = Tab.find s.keys j) ∧
    t = { s with keys := t.keys, pages := t.pages, insts := t.insts, own := { s.own with key := t.own.key } }) ∧
  (∀ s i w, CmdOpen s i 0x0DC 1 w → fld (getPage s i 0x0D4) 1 0 = 1 → 1 ≤ page64 s i 0x0CC → page64 s i 0x0CC ≤ 2 ^ 48 →
    page64 s i 0x0C4 + page64 s i 0x0CC ≤ 2 ^ 64 → fld (getPage s i 0x0D4) 12 8 ≠ 0 →
    firstFail (ktChecks s i w) = if (nextKey s i).isSome then none else some Status.noResource) ∧
  (∀ s i w, CmdOpen s i 0x0DC 1 w → firstFail (ktChecks s i w) = some Status.noResource → Answers (.ktCreate i w) s fun t =>
    t.keys = s.keys ∧ fld (getPage t i 0x0DC) 15 8 = Status.noResource.toNat ∧ t = { s with pages := t.pages, vp := t.vp, intr := t.intr, out := t.out }) ∧
  (∀ s i w k, CmdOpen s i 0x0DC 2 w → getPage s i 0x0C0 / 256 ≠ 0 → getPage s i 0x0C0 / 256 < keyMax s →
    Tab.find s.keys (getPage s i 0x0C0 / 256) = some k → k.gen = getPage s i 0x0C0 % 256 → k.inst = i → k.st = 1 → keyLost s (getPage s i 0x0C0 / 256) = false →
    Answers (.ktInvalidate i w) s fun t =>
    t.keys = Tab.put s.keys (getPage s i 0x0C0 / 256) { k with gen := (k.gen + 1) % 256, st := 2, bad1 := false, bad2 := false } ∧
    pageBusy t i 0x0DC = true ∧ t = { s with keys := t.keys, pages := t.pages, insts := t.insts }) ∧
  (∀ s k x, Tab.find s.keys k = some x → x.st = 2 → keyUsed s k = false → Answers (.keyFree k) s fun t =>
    t.keys = Tab.put s.keys k { x with st := 0, freedAt := s.pieceClock } ∧ (∀ y, Tab.find s.insts x.inst = some y →
      ∃ z, Tab.find t.insts x.inst = some z ∧ z.freeKeys = y.freeKeys ++ [k]) ∧ pageBusy t x.inst 0x0DC = false ∧
    t = { s with keys := t.keys, pages := t.pages, insts := t.insts, pieceClock := s.pieceClock + 1 }) ∧
  (∀ s k x, Tab.find s.keys k = some x → x.st = 2 → keyUsed s k = true → Answers (.keyFree k) s fun t => t = s) ∧
  (∀ s i w k, CmdOpen s i 0x0DC 3 w → getPage s i 0x0C0 / 256 ≠ 0 → getPage s i 0x0C0 / 256 < keyMax s →
    Tab.find s.keys (getPage s i 0x0C0 / 256) = some k → k.gen = getPage s i 0x0C0 % 256 → k.inst = i → k.st ≠ 0 → k.st < 4 → keyLost s (getPage s i 0x0C0 / 256) = false →
    Answers (.ktQuery i w) s fun t => getPage t i 0x0D4 = fld (getPage s i 0x0D4) 15 0 + k.st * 2 ^ 16 ∧
    t = { keyRepair s (getPage s i 0x0C0 / 256) with pages := t.pages, insts := t.insts }) ∧
  (∀ s i k need a n b r reason st, keyFail s i k need a n b = some (reason, st) → reason ≠ 8 → bitN (getPage s i 0x0E0) 31 = false → k < 2 ^ 32 →
    ∃ u, admitKey s i k need a n b r = (u, some st) ∧ getPage u i 0x0E4 = k ∧ bitN (getPage u i 0x0E0) 31 = true ∧
    fld (getPage u i 0x0E0) 28 24 = reason ∧ bitN (getPage u i 0x0E0) 29 = r ∧ u = { s with pages := u.pages, insts := u.insts })

/-- SL_QP_CMD: CREATE, CONNECT, RESET, DESTROY, QUERY and FAILOVER (R233, R234, R244, R245, R248, R255, R276, R282). Model
choices: logs 24, 25 and 82. -/
def Obligations.QueuePairsFollowTheirCommands : Prop :=
  (∀ s i w, CmdOpen s i 0x138 1 w → firstFail (qpHead s i w false) = none → qpFree s (qpSel s i) = true → Answers (.slQpCreate i w) s fun t =>
    (∃ p, qpOf t (qpSel s i) = some p ∧ p.st = .init ∧ p.inst = i ∧ p.kind = qpKindOf (getPage s i 0x104) ∧ p.cfg = getPage s i 0x104 ∧
      p.peer = stagedPeer s i ∧ p.dqpn = fld (getPage s i 0x118) 17 0 ∧ p.reqs = [] ∧ p.cipher.keyed = false ∧ p.group = none) ∧
    owns t.own.qp (qpSel s i) i = true ∧ (∀ n, n ≠ qpSel s i → qpOf t n = qpOf s n) ∧
    t = { s with qps := t.qps, own := { s.own with qp := t.own.qp }, pages := t.pages, insts := t.insts }) ∧
  (∀ s i w, CmdOpen s i 0x138 1 w → firstFail (qpHead s i w false) = none → qpFree s (qpSel s i) = false → Answers (.slQpCreate i w) s fun t =>
    t.qps = s.qps ∧ fld (getPage t i 0x138) 15 8 = Status.busy.toNat ∧ t = { s with pages := t.pages, vp := t.vp, intr := t.intr, out := t.out }) ∧
  (∀ s i w p, CmdOpen s i 0x138 2 w → firstFail (qpHead s i w true) = none → qpOf s (qpSel s i) = some p → p.st = .init →
    (bitN (getPage s i 0x104) 29 = true → p.cipher.keyed = true) →
    (bitN (getPage s i 0x104) 29 = false → fld (getPage s i 0x104) 31 30 = 0 → s.policy.requireEnc = false) → Answers (.slQpConnect i w) s fun t =>
    (∃ y, qpOf t (qpSel s i) = some y ∧ y.st = .connected ∧ y.epoch = fld (getPage s i 0x11C) 31 24 ∧ y.sndUna = fld (getPage s i 0x11C) 23 0 ∧
      y.sndNxt = fld (getPage s i 0x11C) 23 0 ∧ y.epsn = fld (getPage s i 0x120) 23 0 ∧ y.peer = stagedPeer s i ∧ y.kind = p.kind ∧
      y.onAlt = false ∧ y.rtoNow = fld (getPage s i 0x12C) 9 0 * 1000) ∧ (∀ n, n ≠ qpSel s i → qpOf t n = qpOf s n) ∧
    t = { s with qps := t.qps, pages := t.pages, insts := t.insts }) ∧
  (∀ s i w p, CmdOpen s i 0x138 2 w → firstFail (qpHead s i w true) = none → qpOf s (qpSel s i) = some p →
    bitN (getPage s i 0x104) 29 = true → p.cipher.keyed = false → Answers (.slQpConnect i w) s fun t => t.qps = s.qps ∧
    fld (getPage t i 0x138) 15 8 = Status.notPermitted.toNat ∧ t = { s with pages := t.pages, vp := t.vp, intr := t.intr, out := t.out }) ∧
  (∀ s i w p, CmdOpen s i 0x138 3 w → firstFail (qpHead s i w false) = none → qpOf s (qpSel s i) = some p → (p.st = .init ∨ p.st = .error) →
    qpDone s (qpSel s i) = true → Answers (.slQpReset i w) s fun t => (∃ y, qpOf t (qpSel s i) = some y ∧ y.st = .init ∧ y.reqs = [] ∧
      y.peer = p.peer ∧ y.cfg = p.cfg ∧ y.cipher.keyed = false ∧ y.group = p.group) ∧ (∀ n, n ≠ qpSel s i → qpOf t n = qpOf s n) ∧
    t = { s with qps := t.qps, pages := t.pages, insts := t.insts }) ∧
  (∀ s i w p, CmdOpen s i 0x138 4 w → firstFail (qpHead s i w false) = none → qpOf s (qpSel s i) = some p → (p.st = .init ∨ p.st = .error) →
    qpDone s (qpSel s i) = true → (∀ x ∈ s.wqs, x.2.kind = .lq ∨ x.2.qp ≠ qpSel s i) → Answers (.slQpDestroy i w) s fun t =>
    (∃ y, qpOf t (qpSel s i) = some y ∧ y.st = .free ∧ y.lastEpoch = p.epoch) ∧ (∀ n, n ≠ qpSel s i → qpOf t n = qpOf s n) ∧
    t = { s with qps := t.qps, pages := t.pages, insts := t.insts }) ∧
  (∀ s i w p, CmdOpen s i 0x138 4 w → firstFail (qpHead s i w false) = none → qpOf s (qpSel s i) = some p → p.st = .connected →
    Answers (.slQpDestroy i w) s fun t => t.qps = s.qps ∧ fld (getPage t i 0x138) 15 8 = Status.busy.toNat ∧ t = { s with pages := t.pages, vp := t.vp, intr := t.intr, out := t.out }) ∧
  (∀ s i w p, CmdOpen s i 0x138 5 w → firstFail (qpHead s i w false) = none → qpOf s (qpSel s i) = some p → p.epoch < 256 → p.cipher.role ≤ 1 → p.sndUna < 2 ^ 24 →
    p.epsn < 2 ^ 24 → Answers (.slQpQuery i w) s fun t => fld (getPage t i 0x13C) 31 28 = p.st.code ∧ bitN (getPage t i 0x13C) 27 = p.onAlt ∧
    fld (getPage t i 0x13C) 15 8 = p.errStatus.toNat ∧ getPage t i 0x140 = p.epoch * 2 ^ 24 + p.sndUna ∧ getPage t i 0x144 = p.epsn ∧
    bitN (getPage t i 0x148) 31 = p.cipher.keyed ∧ t = { s with pages := t.pages, insts := t.insts }) ∧
  (∀ s i w p, CmdOpen s i 0x138 6 w → firstFail (qpHead s i w false) = none → qpOf s (qpSel s i) = some p → p.st = .connected → qAlt p = true →
    Answers (.slQpFailover i w) s fun t => (∃ y, qpOf t (qpSel s i) = some y ∧ y.st = .resyncing ∧ y.onAlt = !p.onAlt ∧ y.epoch = p.epoch ∧
      y.reqs = p.reqs) ∧ (∀ n, n ≠ qpSel s i → qpOf t n = qpOf s n)) ∧
  (∀ s i w p, CmdOpen s i 0x138 6 w → firstFail (qpHead s i w false) = none → qpOf s (qpSel s i) = some p → qAlt p = false →
    Answers (.slQpFailover i w) s fun t => t.qps = s.qps ∧ fld (getPage t i 0x138) 15 8 = Status.busy.toNat ∧ t = { s with pages := t.pages, vp := t.vp, intr := t.intr, out := t.out })

/-- A queue pair sends, acknowledges, retransmits and fails over (R233, R234, R238, R239, R240, R242, R244, R256). Model
choices: logs 28, 105 and 116. -/
def Obligations.QueuePairsTransmitAndTimeOut : Prop :=
  (∀ s n p c rest, qpOf s n = some p → p.kind = .rc → sendable s (curLink p) = true → p.ctl = c :: rest → Runs s (engineOf s (curLink p)) → Answers (.packetTransmit n) s fun t =>
    (∃ f, .frame f ∈ t.out ∧ f.link = curLink p ∧ getBE f.hdr 1 1 = c.op % 256) ∧ (∃ y, qpOf t n = some y ∧ y.ctl = rest ∧ y.sndNxt = p.sndNxt ∧ y.reqs = p.reqs) ∧
    t.sys.now = max s.sys.now (p.ctlAt + 1) ∧ t = { wakeBlk s (engineOf s (curLink p)) with sys := { s.sys with now := t.sys.now }, qps := t.qps, links := t.links, linkStats := t.linkStats, wr := t.wr, out := t.out, insts := t.insts }) ∧
  (∀ s n p r k, qpOf s n = some p → p.kind = .rc → p.st = .connected → sendable s (curLink p) = true → p.ctl = [] → p.rnrUntil = none → p.retx = [] →
    p.rsps = [] → d24 p.sndEnd p.sndNxt ≠ 0 → d24 p.sndNxt p.sndUna < 8192 → reqAt p p.sndNxt = some (r, k) →
    paceReady s p (frameLen p (reqExt r k).length (reqPay p r k).length) = true → txReady s (some p.inst) (reqPay p r k).length = true →
    Runs s (engineOf s (curLink p)) → txTurnOk (wakeBlk s (engineOf s (curLink p))) p (frameLen p (reqExt r k).length (reqPay p r k).length) = true →
    Answers (.packetTransmit n) s fun t =>
    (∃ f, .frame f ∈ t.out ∧ f.link = curLink p ∧ getBE f.hdr 1 1 = r.op % 256 ∧ getBE f.hdr 8 3 = psn r.first k ∧ bitN (getBE f.hdr 2 1) 7 = decide (k = 0) ∧
      bitN (getBE f.hdr 2 1) 1 = false) ∧
    (∃ y, qpOf t n = some y ∧ y.sndNxt = psn p.sndNxt (if r.op = 3 then r.count else 1) ∧ y.sndUna = p.sndUna ∧ y.reqs = p.reqs ∧ y.st = .connected) ∧
    t = { wakeBlk s (engineOf s (curLink p)) with insts := t.insts, qps := t.qps, links := t.links, linkStats := t.linkStats, wr := t.wr, out := t.out }) ∧
  (∀ s n p x rest r k, qpOf s n = some p → p.kind = .rc → p.st = .connected → sendable s (curLink p) = true → p.ctl = [] → p.rnrUntil = none →
    p.retx = x :: rest → reqAt p x = some (r, k) → (r.op ≠ 3 ∨ k = 0) →
    paceReady s p (frameLen p (reqExt r k).length (reqPay p r k).length) = true → txReady s (some p.inst) (reqPay p r k).length = true →
    Runs s (engineOf s (curLink p)) → txTurnOk (wakeBlk s (engineOf s (curLink p))) p (frameLen p (reqExt r k).length (reqPay p r k).length) = true →
    Answers (.packetTransmit n) s fun t =>
    (∃ f, .frame f ∈ t.out ∧ getBE f.hdr 1 1 = r.op % 256 ∧ getBE f.hdr 8 3 = psn r.first k ∧ bitN (getBE f.hdr 2 1) 1 = true) ∧
    (∃ y, qpOf t n = some y ∧ y.retx = rest ∧ y.sndNxt = p.sndNxt ∧ y.reqs = p.reqs) ∧
    t = { wakeBlk s (engineOf s (curLink p)) with insts := t.insts, qps := t.qps, links := t.links, linkStats := t.linkStats, wr := t.wr, out := t.out }) ∧
  (∀ s n p, qpOf s n = some p → p.kind = .rc → p.st = .connected → p.ctl = [] → p.retx = [] → p.rsps = [] → 8192 ≤ d24 p.sndNxt p.sndUna →
    Answers (.packetTransmit n) s fun t => t = wakeBlk s (engineOf s (curLink p))) ∧
  (∀ s n p len, qpOf s n = some p → p.kind = .rc → p.ctl = [] → p.retx = [] → txNext (wakeBlk s (engineOf s (curLink p))) p = some len →
    txTurnOk (wakeBlk s (engineOf s (curLink p))) p len = false → Answers (.packetTransmit n) s fun t => t = wakeBlk s (engineOf s (curLink p))) ∧
  (∀ s n p, qpOf s n = some p → gated (wakeBlk s (engineOf s (curLink p))) (engineOf s (curLink p)) = true →
    Answers (.packetTransmit n) s fun t => t = wakeBlk s (engineOf s (curLink p))) ∧
  (∀ s n p d, qpOf s n = some p → p.kind = .rc → p.st = .connected → p.unackedAt = some d → sendable s (curLink p) = true →
    Answers (.ackDelayExpiry n) s fun t => (∃ f, .frame f ∈ t.out ∧ f.link = curLink p ∧ getBE f.hdr 1 1 = 0x10 ∧ getBE f.hdr 8 3 = p.epsn % 2 ^ 24) ∧
    (∃ y, qpOf t n = some y ∧ y.unacked = 0 ∧ y.unackedAt = none ∧ y.epsn = p.epsn ∧ y.recEpsn = p.epsn) ∧
    t = { s with sys := { s.sys with now := t.sys.now }, qps := t.qps, links := t.links, linkStats := t.linkStats, wr := t.wr, out := t.out, insts := t.insts }) ∧
  (∀ s n p, qpOf s n = some p → p.st = .connected → (p.sndUna ≠ p.sndNxt ∨ unanswered p ≠ []) → p.rnrUntil = none →
    ((link s (curLink p)).up = false ∨ sendable s (curLink p) = true) → Answers (.rtoExpiry n) s fun t => t.sys.now = max s.sys.now (p.rtoAt + p.rtoNow) ∧
    (∃ y, qpOf t n = some y ∧ y.retx = unanswered p ++ missing p ∧ y.rtoNow = min (qRtoMax p) (2 * p.rtoNow) ∧ y.rate.loss = true ∧
      y.sndUna = p.sndUna ∧ y.sndNxt = p.sndNxt) ∧
    t = { s with sys := { s.sys with now := t.sys.now }, linkStats := t.linkStats, qps := t.qps, wr := t.wr, insts := t.insts, out := t.out }) ∧
  (∀ s n p d, qpOf s n = some p → p.rnrUntil = some d → Answers (.rnrDelayExpiry n) s fun t => t.sys.now = max s.sys.now d ∧
    (∃ y, qpOf t n = some y ∧ y.rnrUntil = none ∧ y.retx = (List.range (d24 p.sndNxt p.sndUna)).map (psn p.sndUna)) ∧
    t = { s with sys := { s.sys with now := t.sys.now }, qps := t.qps, wr := t.wr, insts := t.insts, out := t.out }) ∧
  (∀ s n p r q i e, qpOf s n = some p → p.st = .connected → p.sndUna ≠ p.sndNxt → OldestIs s p r q i e → Answers (.retryTimeExpiry n) s fun t =>
    t.sys.now = max s.sys.now (p.progAt + qRetryNs p) ∧ DoneBad t q i Status.retryExceeded ∧
    (∃ y, qpOf t n = some y ∧ y.st = .error ∧ y.errStatus = Status.retryExceeded ∧ y.reqs = [])) ∧
  (∀ s l, (port s (l / 4)).failed = true ∨ ((link s l).up = false ∧ ((link s l).dorm = .down ∨ (link s l).dorm = .retrain)) →
    ∀ n p, s.qps = [(n, p)] → curLink p = l → p.onAlt = false → qAlt p = true → p.st = .connected → Answers (.failoverTimeExpiry l) s fun t =>
    (∃ y, qpOf t n = some y ∧ y.onAlt = true ∧ y.st = .resyncing ∧ y.reqs = p.reqs)) ∧
  (∀ s n p, qpOf s n = some p → p.st = .resyncing → Answers (.resyncRepeat n) s fun t =>
    max s.sys.now (p.resyncAt + qRtoMax p) ≤ t.sys.now ∧ (∃ y, qpOf t n = some y ∧ y.st = .resyncing ∧ y.epoch = p.epoch ∧ y.reqs = p.reqs ∧
      y.resyncAt = max s.sys.now (p.resyncAt + qRtoMax p)) ∧ t = { s with sys := { s.sys with now := t.sys.now }, qps := t.qps, links := t.links, linkStats := t.linkStats, wr := t.wr, out := t.out, insts := t.insts })

/-- Request packets at their receiver (R235, R236, R238, R246). For a frame in order of an open queue pair: WRITE, SEND,
WRITE_IMM, SEND_IMM, READ, the atomics and MARK (logs 26, 28, 71, 72, 73, 75 and 103). -/
def Obligations.RequestsArriveAndArePlaced : Prop :=
  (∀ s l f n p c ext pay z y u v b, RxOpen s l f 1 n p c ext pay → RxNew s l f n p → rxMet s l f n p c = (z, y) → p.kind = .rc → leaving s p.inst = false →
    isGroup 1 (getBE ext 0 8) = false → getBE ext 0 8 ≠ mapAddr → pay.length = getBE f.ext 12 4 →
    targetFail z y 1 (getBE ext 0 8) (getBE ext 8 4) (getBE f.ext 12 4) = (u, none) →
    writeMemAt (some u.pieceClock) (rxAdmitted u n y (rxRequest f (psnCount (qSeg p) (getBE f.ext 12 4)) (getBE f.ext 12 4) (getBE ext 0 8)
      (getBE ext 8 4) none none)) p.inst (getBE ext 0 8) pay = .ok v b → Answers (.rxWrite l f) s fun t =>
    (∃ y, qpOf t n = some y ∧ y.epsn = psn p.epsn 1 ∧ y.recEpsn = psn p.epsn 1 ∧ y.cur = none ∧ y.st = .connected ∧ y.reqs = p.reqs) ∧
    t = { v with sys := { v.sys with now := t.sys.now }, qps := t.qps, links := t.links, linkStats := t.linkStats, wr := t.wr, out := t.out, insts := t.insts }) ∧
  (∀ s l f n p c ext pay z y u st, RxOpen s l f 1 n p c ext pay → RxNew s l f n p → rxMet s l f n p c = (z, y) → p.kind = .rc → leaving s p.inst = false →
    targetFail z y 1 (getBE ext 0 8) (getBE ext 8 4) (getBE f.ext 12 4) = (u, some st) → Answers (.rxWrite l f) s fun t =>
    (∃ y, qpOf t n = some y ∧ y.epsn = psn p.epsn 1 ∧ y.cur = none) ∧ t.hbm = s.hbm ∧ t.plot = s.plot ∧ t.pmem = s.pmem ∧
    (sendable s (curLink p) = true → ∃ g, .frame g ∈ t.out ∧ getBE g.hdr 1 1 = 0x10 ∧ g.ext.take 2 = [4, st]) ∧
    t = { u with sys := { u.sys with now := t.sys.now }, qps := t.qps, links := t.links, linkStats := t.linkStats, wr := t.wr, out := t.out, insts := t.insts }) ∧
  (∀ s l f n p c ext pay z y q i e v b, RxOpen s l f 5 n p c ext pay → RxNew s l f n p → rxMet s l f n p c = (z, y) → p.kind = .rc → leaving s p.inst = false →
    rqOf s n = some q → recvEntry s q = some (i, e) → getBE f.ext 0 4 ≤ entLen e.ent → pay.length = getBE f.ext 0 4 → recvOwed s p = false →
    writeMemAt (some (e.adm.getD z.pieceClock)) (rxAdmitted z n y (rxRequest f (psnCount (qSeg p) (getBE f.ext 0 4)) (getBE f.ext 0 4) 0 0
      (some (q, i)) (some (entAddr e.ent)))) p.inst (entAddr e.ent) pay = .ok v b → inflOf s q i = some e → Answers (.rxSend l f) s fun t =>
    (∃ y, qpOf t n = some y ∧ y.epsn = psn p.epsn 1 ∧ y.cur = none ∧ y.rqNext = inc32 i ∧
      y.recv = some { q := q, i := i, bytes := getBE f.ext 0 4, imm := none, solicited := bitN (parseHdr f.hdr).flags 2, fromWrite := false }) ∧
    DoneAs t q i { status := Status.ok, cflags := 8 * bit (bitN (parseHdr f.hdr).flags 2), detail := 0, bytes := pay.length, aux := 0 } ∧
    t = { v with infl := t.infl, sys := { v.sys with now := t.sys.now }, qps := t.qps, links := t.links, linkStats := t.linkStats, wr := t.wr, out := t.out, insts := t.insts }) ∧
  (∀ s l f n p c ext pay z y q i e v b, RxOpen s l f 6 n p c ext pay → RxNew s l f n p → rxMet s l f n p c = (z, y) → p.kind = .rc → leaving s p.inst = false →
    rqOf s n = some q → recvEntry s q = some (i, e) → getBE f.ext 0 4 ≤ entLen e.ent → pay.length = getBE f.ext 0 4 → recvOwed s p = false →
    writeMemAt (some (e.adm.getD z.pieceClock)) (rxAdmitted z n y (rxRequest f (psnCount (qSeg p) (getBE f.ext 0 4)) (getBE f.ext 0 4) 0 0
      (some (q, i)) (some (entAddr e.ent)))) p.inst (entAddr e.ent) pay = .ok v b → inflOf s q i = some e → Answers (.rxSendImm l f) s fun t =>
    (∃ y, qpOf t n = some y ∧ y.epsn = psn p.epsn 1 ∧ y.cur = none ∧ y.rqNext = inc32 i) ∧
    DoneAs t q i { status := Status.ok, cflags := 4 + 8 * bit (bitN (parseHdr f.hdr).flags 2), detail := 0, bytes := pay.length,
                   aux := (parseHdr f.hdr).aux } ∧ t = { v with infl := t.infl, sys := { v.sys with now := t.sys.now }, qps := t.qps, links := t.links, linkStats := t.linkStats, wr := t.wr, out := t.out, insts := t.insts }) ∧
  (∀ s l f n p c ext pay z y q i e u v b, RxOpen s l f 2 n p c ext pay → RxNew s l f n p → rxMet s l f n p c = (z, y) → p.kind = .rc → leaving s p.inst = false →
    rqOf s n = some q → recvEntry s q = some (i, e) → pay.length = getBE f.ext 12 4 → recvOwed s p = false →
    targetFail z y 2 (getBE ext 0 8) (getBE ext 8 4) (getBE f.ext 12 4) = (u, none) →
    writeMemAt (some u.pieceClock) (rxAdmitted u n y (rxRequest f (psnCount (qSeg p) (getBE f.ext 12 4)) (getBE f.ext 12 4) (getBE ext 0 8)
      (getBE ext 8 4) (some (q, i)) none)) p.inst (getBE ext 0 8) pay = .ok v b → inflOf s q i = some e →
    Answers (.rxWriteImm l f) s fun t => (∃ y, qpOf t n = some y ∧ y.epsn = psn p.epsn 1 ∧ y.cur = none ∧ y.rqNext = inc32 i) ∧
    DoneAs t q i { status := Status.ok, cflags := 4 + 8 * bit (bitN (parseHdr f.hdr).flags 2) + 16, detail := 0, bytes := 0,
                   aux := (parseHdr f.hdr).aux } ∧ t = { v with infl := t.infl, sys := { v.sys with now := t.sys.now }, qps := t.qps, links := t.links, linkStats := t.linkStats, wr := t.wr, out := t.out, insts := t.insts }) ∧
  (∀ s l f n p c ext pay z y q i e, RxOpen s l f 5 n p c ext pay → RxNew s l f n p → rxMet s l f n p c = (z, y) → p.kind = .rc → leaving s p.inst = false →
    rqOf s n = some q → recvEntry s q = some (i, e) → getBE f.ext 0 4 ≤ entLen e.ent → pay.length = getBE f.ext 0 4 → recvOwed s p = true →
    Answers (.rxSend l f) s fun t => t = holdFrame (rxAdmitted z n y (rxRequest f (psnCount (qSeg p) (getBE f.ext 0 4)) (getBE f.ext 0 4) 0 0
      (some (q, i)) (some (entAddr e.ent)))) l f) ∧
  (∀ s l f n p c ext pay q i e, RxOpen s l f 5 n p c ext pay → RxNew s l f n p → p.kind = .rc → leaving s p.inst = false → rqOf s n = some q →
    recvEntry s q = some (i, e) → entLen e.ent < getBE f.ext 0 4 → recvOwed s p = false → inflOf s q i = some e → e.done = none →
    Answers (.rxSend l f) s fun t => DoneBad t q i Status.bounds ∧ (∃ y, qpOf t n = some y ∧ y.epsn = psn p.epsn 1 ∧ y.cur = none ∧ y.rqNext = inc32 i) ∧
    (sendable s (curLink p) = true → ∃ g, .frame g ∈ t.out ∧ getBE g.hdr 1 1 = 0x10 ∧ g.ext.take 2 = [4, Status.bounds])) ∧
  (∀ s l f n p c ext pay q, RxOpen s l f 5 n p c ext pay → RxNew s l f n p → p.kind = .rc → leaving s p.inst = false → rqOf s n = some q →
    recvEntry s q = none → Answers (.rxSend l f) s fun t => (∃ y, qpOf t n = some y ∧ y.epsn = p.epsn ∧ y.cur = none) ∧
    (sendable s (curLink p) = true → ∃ g, .frame g ∈ t.out ∧ getBE g.hdr 1 1 = 0x10 ∧ g.ext.take 1 = [2]) ∧ t = { rxWake s l with sys := { s.sys with now := t.sys.now }, qps := t.qps, links := t.links, linkStats := t.linkStats, wr := t.wr, out := t.out, insts := t.insts }) ∧
  (∀ s l f n p c ext pay z y u v b, RxOpen s l f 3 n p c ext pay → RxNew s l f n p → rxMet s l f n p c = (z, y) → p.kind = .rc → leaving s p.inst = false →
    targetFail z y 3 (getBE ext 0 8) (getBE ext 8 4) (getBE f.ext 12 4) = (u, none) →
    readMemAt (some u.pieceClock) (rxAdmitted u n y (rxRequest f (psnCount (qSeg p) (getBE f.ext 12 4)) (getBE f.ext 12 4) (getBE ext 0 8)
      (getBE ext 8 4) none none)) p.inst (getBE ext 0 8) (getBE f.ext 12 4) = .ok v b → Answers (.rxReadReq l f) s fun t =>
    (∃ y, qpOf t n = some y ∧ y.epsn = psn p.epsn (psnCount (qSeg p) (getBE f.ext 12 4)) ∧ y.cur = none ∧
      y.rsps.length = p.rsps.length + psnCount (qSeg p) (getBE f.ext 12 4) ∧
      y.rsps[p.rsps.length]? = some { psn := psn p.epsn 0, data := b.take (min (qSeg p) (getBE f.ext 12 4)) }) ∧ t = { v with sys := { v.sys with now := t.sys.now }, qps := t.qps, links := t.links, linkStats := t.linkStats, wr := t.wr, out := t.out, insts := t.insts }) ∧
  (∀ s l f n p c ext pay z y u v a k, RxOpen s l f 7 n p c ext pay → RxNew s l f n p → rxMet s l f n p c = (z, y) → p.kind = .rc → leaving s p.inst = false →
    targetFail z y 7 (getBE ext 0 8) (getBE ext 8 4) 8 = (u, none) →
    translateAt (some u.pieceClock) (rxAdmitted u n y (rxRequest f 1 8 (getBE ext 0 8) (getBE ext 8 4) none none)) p.inst (getBE ext 0 8) 8 true
      = .ok v a k → lineWait v a 8 true = none → Answers (.rxAtomicFadd l f) s fun t =>
    (∃ y j, qpOf t n = some y ∧ y.epsn = psn p.epsn 1 ∧ y.jour.head? = some j ∧ j.psn = p.epsn ∧ j.prior = ofLE (getLoc v a 8)) ∧
    t = { setLoc v a (putLE 8 ((ofLE (getLoc v a 8) + getBE ext 16 8) % 2 ^ 64)) with sys := { v.sys with now := t.sys.now }, qps := t.qps, links := t.links, linkStats := t.linkStats, wr := t.wr, out := t.out, insts := t.insts } ∧
    (sendable s (curLink p) = true → ∃ g, .frame g ∈ t.out ∧ getBE g.hdr 1 1 = 9 ∧ getBE g.hdr 8 3 = p.epsn % 2 ^ 24)) ∧
  (∀ s l f n p c ext pay z y u v a k, RxOpen s l f 8 n p c ext pay → RxNew s l f n p → rxMet s l f n p c = (z, y) → p.kind = .rc → leaving s p.inst = false →
    targetFail z y 8 (getBE ext 0 8) (getBE ext 8 4) 8 = (u, none) →
    translateAt (some u.pieceClock) (rxAdmitted u n y (rxRequest f 1 8 (getBE ext 0 8) (getBE ext 8 4) none none)) p.inst (getBE ext 0 8) 8 true
      = .ok v a k → lineWait v a 8 true = none → Answers (.rxAtomicCswap l f) s fun t =>
    (∃ y j, qpOf t n = some y ∧ y.epsn = psn p.epsn 1 ∧ y.jour.head? = some j ∧ j.psn = p.epsn ∧ j.prior = ofLE (getLoc v a 8)) ∧
    t = { setLoc v a (putLE 8 (if ofLE (getLoc v a 8) = getBE ext 16 8 then getBE ext 24 8 else ofLE (getLoc v a 8))) with sys := { v.sys with now := t.sys.now }, qps := t.qps, links := t.links, linkStats := t.linkStats, wr := t.wr, out := t.out, insts := t.insts } ∧
    (sendable s (curLink p) = true → ∃ g, .frame g ∈ t.out ∧ getBE g.hdr 1 1 = 9 ∧ getBE g.hdr 8 3 = p.epsn % 2 ^ 24)) ∧
  (∀ s l f n p c ext pay, RxOpen s l f 0x15 n p c ext pay → RxNew s l f n p → p.kind = .mirror → getBE ext 11 1 = 0 → Answers (.rxMark l f) s fun t =>
    (∃ x, Tab.find t.shadows (getBE ext 0 1 * 2 ^ 18 + getBE ext 2 3) = some x ∧ x.epoch = getBE ext 1 1 ∧ x.epsn = getBE ext 5 3) ∧
    (∃ y, qpOf t n = some y ∧ y.epsn = psn p.epsn 1) ∧ t = { rxWake s l with shadows := t.shadows, sys := { s.sys with now := t.sys.now }, qps := t.qps, links := t.links, linkStats := t.linkStats, wr := t.wr, out := t.out, insts := t.insts }) ∧
  (∀ s l f, (link s l).up = true → f.eth = 0x8808 → Answers (.rxWrite l f) s fun t =>
    t = putLink s l { link s l with pauses := (link s l).pauses + 1 }) ∧
  (∀ s l f, (link s l).up = true → getBE f.hdr 1 1 = 1 → f.eth ≠ 0x8808 → (link s l).cal = .running → Answers (.rxWrite l f) s fun t =>
    t = putLink s l { link s l with dropped := (link s l).dropped + 1 }) ∧
  (∀ s l f, (link s l).up = true → getBE f.hdr 1 1 = 1 → f.eth ≠ 0x8808 → (link s l).cal ≠ .running → rxAsleep (rxWake s l) l = true →
    Answers (.rxWrite l f) s fun t => t = { rxWake s l with rxHeld := s.rxHeld ++ [(l, f)] })

/-- Answers, acknowledgements and resynchronisation at the sender (R235, R239, R240, R241, R242, R245). For a frame of an
open queue pair: READ_RESP, ATOMIC_RESP, ACK, the NAKs, RESYNC, RESYNC_ACK and ABORT, and a duplicate (logs 26, 28, 94, 103
and 105). -/
def Obligations.AnswersArriveAtTheSender : Prop :=
  (∀ s l f n p c ext pay r rest q i k a e v b, RxOpen s l f 4 n p c ext pay → f.ext = [] → p.reqs = r :: rest → r.op = 3 → r.count = 1 →
    r.first = (parseHdr f.hdr).psn → r.first < 2 ^ 24 → r.got = [] → pay.length = r.len → r.who = .entry q i → r.buf = .mem k a →
    (∀ x ∈ rest, reqDone p x = false) → r ∉ rest → inflOf s q i = some e → e.done = none →
    writeMemAt e.adm (rxMet s l f n p c).1 k (a + r.operand) pay = .ok v b → Answers (.rxReadResp l f) s fun t => DoneOk t q i (r.operand + r.len) ∧
    (∃ y, qpOf t n = some y ∧ y.epsn = p.epsn ∧ y.sndUna = p.sndUna) ∧ t = { v with infl := t.infl, sys := { v.sys with now := t.sys.now }, qps := t.qps, links := t.links, linkStats := t.linkStats, wr := t.wr, out := t.out, insts := t.insts }) ∧
  (∀ s l f n p c ext pay r rest q i k a e v b, RxOpen s l f 9 n p c ext pay → f.ext.length = 8 → p.reqs = r :: rest → (r.op = 7 ∨ r.op = 8) →
    r.count = 1 → r.len = 8 → r.first = (parseHdr f.hdr).psn → r.first < 2 ^ 24 → r.result = none → r.who = .entry q i → r.buf = .mem k a →
    (∀ x ∈ rest, reqDone p x = false) → r ∉ rest → inflOf s q i = some e → e.done = none →
    writeMemAt e.adm (rxMet s l f n p c).1 k a (putLE 8 (getBE ext 0 8)) = .ok v b → Answers (.rxAtomicResp l f) s fun t => DoneOk t q i 8 ∧
    (∃ y, qpOf t n = some y ∧ y.epsn = p.epsn ∧ y.sndUna = p.sndUna) ∧ t = { v with infl := t.infl, qps := t.qps }) ∧
  (∀ s l f n p c ext pay r rest q i e, RxOpen s l f 0x10 n p c ext pay → f.ext.length = 16 → getBE f.ext 0 1 = 0 → getBE ext 0 1 = 0 → p.reqs = r :: rest →
    r.op = 1 → r.who = .entry q i → r.count ≤ d24 (parseHdr f.hdr).psn r.first → d24 (parseHdr f.hdr).psn r.first < 2 ^ 23 →
    (∀ x ∈ rest, x.op = 1 ∧ (d24 (parseHdr f.hdr).psn x.first < x.count ∨ 2 ^ 23 ≤ d24 (parseHdr f.hdr).psn x.first)) →
    d24 (parseHdr f.hdr).psn p.sndUna ≠ 0 → d24 (parseHdr f.hdr).psn p.sndUna ≤ d24 p.sndNxt p.sndUna → inflOf s q i = some e → e.done = none →
    Answers (.rxAck l f) s fun t => DoneOk t q i r.len ∧
    (∃ y, qpOf t n = some y ∧ y.sndUna = (parseHdr f.hdr).psn ∧ y.reqs = rest ∧ y.rtoNow = qRtoMin p ∧ y.rnrCount = 0 ∧ y.st = .connected) ∧
    t = { rxWake s l with infl := t.infl, qps := t.qps, links := t.links, linkStats := t.linkStats, wr := t.wr }) ∧
  (∀ s l f n p c ext pay, RxOpen s l f 0x10 n p c ext pay → f.ext.length = 16 → getBE f.ext 0 1 = 1 → getBE ext 0 1 = 1 → p.reqs = [] →
    (parseHdr f.hdr).psn = p.sndUna → Answers (.rxNakSeq l f) s fun t =>
    (∃ y, qpOf t n = some y ∧ y.retx = missing y ∧ y.sndUna = p.sndUna ∧ y.sndNxt = p.sndNxt ∧ y.sack = sackList p.sndUna (getBE ext 8 8) ∧
      y.rate.loss = true) ∧ t = { rxWake s l with qps := t.qps, links := t.links, linkStats := t.linkStats, wr := t.wr }) ∧
  (∀ s l f n p c ext pay, RxOpen s l f 0x10 n p c ext pay → f.ext.length = 16 → getBE f.ext 0 1 = 2 → getBE ext 0 1 = 2 → p.reqs = [] →
    (parseHdr f.hdr).psn = p.sndUna → (fld p.retry 15 13 = 7 ∨ p.rnrCount + 1 < fld p.retry 15 13) → Answers (.rxNakRnr l f) s fun t =>
    (∃ y, qpOf t n = some y ∧ y.rnrUntil = some (s.sys.now + fld p.ack 23 16 * 1000) ∧ y.rnrCount = p.rnrCount + 1 ∧ y.st = .connected) ∧
    t = { rxWake s l with qps := t.qps, links := t.links, linkStats := t.linkStats, wr := t.wr }) ∧
  (∀ s l f n p c ext pay q i e r, RxOpen s l f 0x10 n p c ext pay → f.ext.length = 16 → getBE f.ext 0 1 = 2 → getBE ext 0 1 = 2 → p.reqs = [r] →
    reqDone p r = false → r.who = .entry q i → inflOf s q i = some e → e.done = none → (parseHdr f.hdr).psn = p.sndUna → fld p.retry 15 13 ≠ 7 →
    fld p.retry 15 13 ≤ p.rnrCount + 1 → Answers (.rxNakRnr l f) s fun t => DoneBad t q i Status.retryExceeded ∧
    (∃ y, qpOf t n = some y ∧ y.st = .error ∧ y.errStatus = Status.retryExceeded ∧ y.reqs = [])) ∧
  (∀ s l f n p c ext pay r, RxOpen s l f 0x10 n p c ext pay → f.ext.length = 16 → getBE f.ext 0 1 = 3 → getBE ext 0 1 = 3 → p.reqs = [r] → r.op = 3 →
    r.got = [] → 0 < r.count → reqAcked p r = true → (parseHdr f.hdr).psn = p.sndUna → Answers (.rxNakReread l f) s fun t =>
    (∃ y z, qpOf t n = some y ∧ y.reqs = [z] ∧ z.op = 3 ∧ z.first = p.sndEnd ∧ z.len = r.len ∧ z.raddr = r.raddr ∧ z.rkey = r.rkey ∧ z.who = r.who ∧
      y.sndEnd = psn p.sndEnd (psnCount (qSeg p) r.len)) ∧
    t = { rxWake s l with qps := t.qps, links := t.links, linkStats := t.linkStats, wr := t.wr, out := t.out }) ∧
  (∀ s l f n p c ext pay r rest q i e, RxOpen s l f 0x10 n p c ext pay → f.ext.length = 16 → getBE f.ext 0 1 = 4 → getBE ext 0 1 = 4 →
    ext.getD 1 0 ≠ Status.epochMismatch → ext.getD 1 0 ≠ Status.remoteAbort → reqAt p (((parseHdr f.hdr).psn + 2 ^ 24 - 1) % 2 ^ 24) = some (r, rest) →
    r.who = .entry q i → inflOf s q i = some e → e.done = none → Answers (.rxNakStatus l f) s fun t =>
    (∃ d, DoneAs t q i d ∧ d.status = ext.getD 1 0 ∧ d.cflags = 2) ∧ (∃ y, qpOf t n = some y ∧ y.st = .connected)) ∧
  (∀ s l f n p c ext pay, RxOpen s l f 0x10 n p c ext pay → f.ext.length = 16 → getBE f.ext 0 1 = 4 → getBE ext 0 1 = 4 →
    (ext.getD 1 0 = Status.epochMismatch ∨ ext.getD 1 0 = Status.remoteAbort) → Answers (.rxNakStatus l f) s fun t =>
    (∃ y, qpOf t n = some y ∧ y.st = .error ∧ y.errStatus = ext.getD 1 0 ∧ y.reqs = [])) ∧
  (∀ s l f n p c ext pay, RxOpen s l f 0x12 n p c ext pay → f.ext.length = 16 → p.reqs = [] → sendable s (curLink p) = true → Answers (.rxResync l f) s fun t =>
    (∃ y, qpOf t n = some y ∧ y.st = .connected ∧ y.epoch = (p.epoch + 1) % 256 ∧ y.epsn = p.epsn) ∧
    (∃ g, .frame g ∈ t.out ∧ getBE g.hdr 1 1 = 0x13 ∧ getBE g.hdr 8 3 = p.epsn % 2 ^ 24 ∧ getBE g.hdr 3 1 = (p.epoch + 1) % 256) ∧ t = { rxWake s l with sys := { s.sys with now := t.sys.now }, qps := t.qps, links := t.links, linkStats := t.linkStats, wr := t.wr, out := t.out, insts := t.insts }) ∧
  (∀ s l f n p c ext pay, RxReaches s l f → getBE f.hdr 1 1 = 0x13 → frameFail s l f = none → (parseHdr f.hdr).dqpn = n → qpOf s n = some p →
    p.st = .resyncing → openPkt p f (parseHdr f.hdr) = some (c, ext, pay) → f.ext.length = 16 → (parseHdr f.hdr).epoch = (p.epoch + 1) % 256 → p.reqs = [] →
    d24 p.sndNxt (getBE ext 0 3) < 2 ^ 23 → Answers (.rxResyncAck l f) s fun t =>
    (∃ y, qpOf t n = some y ∧ y.st = .connected ∧ y.epoch = (p.epoch + 1) % 256 ∧ y.sndUna = getBE ext 0 3 ∧
      y.retx = (List.range (d24 p.sndNxt (getBE ext 0 3))).map (psn (getBE ext 0 3))) ∧
    t = { rxWake s l with qps := t.qps, links := t.links, linkStats := t.linkStats, wr := t.wr }) ∧
  (∀ s l f n p c ext pay r q i e, RxOpen s l f 0x14 n p c ext pay → f.ext.length = 16 → OldestIs s p r q i e → Answers (.rxAbort l f) s fun t =>
    (∃ d, DoneAs t q i d ∧ d.status = ext.getD 3 0 ∧ d.cflags = 2) ∧
    (∃ y, qpOf t n = some y ∧ y.st = .error ∧ y.errStatus = ext.getD 3 0 ∧ y.reqs = [])) ∧
  (∀ s l f k, RxReaches s l f → getBE f.hdr 1 1 = 1 → frameFail s l f = some k → Answers (.rxWrite l f) s fun t => t = linkStat (rxWake s l) l k 1) ∧
  (∀ s l f, RxReaches s l f → getBE f.hdr 1 1 = 1 → frameFail s l f = none → qpOf s (parseHdr f.hdr).dqpn = none → Answers (.rxWrite l f) s fun t =>
    (∃ g, .frame g ∈ t.out ∧ g.link = l ∧ (f.routed = false → g.l2.take 6 = putBE 6 f.src) ∧
      (f.routed = true → slice g.l3 24 16 = putBE 16 f.src) ∧ getBE g.hdr 1 1 = 0x10 ∧ g.ext.take 2 = [4, Status.epochMismatch]) ∧
    t = { rxWake s l with links := t.links, linkStats := t.linkStats, wr := t.wr, out := t.out }) ∧
  (∀ s l f n p, RxReaches s l f → f.routed = qRouted p → getBE f.hdr 1 1 = 1 → frameFail s l f = none → (parseHdr f.hdr).dqpn = n → qpOf s n = some p → p.st = .connected →
    f.src = p.peer → (parseHdr f.hdr).sqpn = p.dqpn → (parseHdr f.hdr).epoch = p.epoch → openPkt p f (parseHdr f.hdr) = none →
    2 ^ 24 - 8192 ≤ d24 (parseHdr f.hdr).psn p.epsn → Answers (.rxWrite l f) s fun t =>
    t.decryptFails = (s.decryptFails + 1) % 2 ^ 64 ∧ t.qps = s.qps ∧
    t = { rxWake s l with decryptFails := t.decryptFails, links := t.links, linkStats := t.linkStats, wr := t.wr })

/-- Weir: intervals, rates, snapshots, maps and the query (R254, R255, R258, R259, R260, R261, R262, R265, R268). Model
choices: logs 27 and 117. -/
def Obligations.WeirRatesAndMapsFollowTheirPeriods : Prop :=
  (∀ s n p a, qpOf s n = some p → p.rate.startAt = some a → p.st = .connected → Runs s .weir → Answers (.weirIntervalEnd n) s fun t =>
    t.sys.now = max s.sys.now (a + fld p.rate.prof.1 23 16 * 1000) ∧ (∃ y, qpOf t n = some y ∧ y.rate.r = (nextRate p.rate (linkRate s (curLink p))).1 ∧
      y.rate.clean = (nextRate p.rate (linkRate s (curLink p))).2 ∧ y.rate.acks = 0 ∧ y.rate.eces = 0 ∧ y.rate.loss = false ∧ y.rate.qmin = none ∧
      y.rate.startAt = some t.sys.now ∧ y.rate.lastS = severity p.rate ∧ y.rate.snap.1 = y.rate.r ∧ y.rate.prof = profile s (qTc p) ∧
      y.sndUna = p.sndUna ∧ y.reqs = p.reqs ∧ y.st = .connected) ∧
    (∀ m, m ≠ n → qpOf t m = qpOf s m) ∧ t = { wakeBlk s .weir with qps := t.qps, wr := t.wr, sys := { s.sys with now := t.sys.now }, insts := t.insts, out := t.out }) ∧
  (∀ s n p a, qpOf s n = some p → p.rate.startAt = some a → p.st = .connected → Runs s .weir → bitN p.rate.prof.1 31 = false → bitN p.rate.prof.1 30 = false →
    bitN p.rate.prof.1 29 = false → p.rate.loss = true → Answers (.weirIntervalEnd n) s fun t => ∃ y, qpOf t n = some y ∧ y.rate.clean = 0 ∧
      y.rate.r = min (max (fld p.rate.prof.2.2.1 9 0 * 100) (p.rate.r - p.rate.r * 256 * fld p.rate.prof.1 15 8 / 65536)) (linkRate s (curLink p))) ∧
  (∀ s n p a, qpOf s n = some p → p.rate.startAt = some a → p.st = .connected → Runs s .weir → bitN p.rate.prof.1 31 = false → bitN p.rate.prof.1 30 = false →
    bitN p.rate.prof.1 29 = false → p.rate.loss = false → p.rate.acks ≠ 0 → Answers (.weirIntervalEnd n) s fun t => ∃ y, qpOf t n = some y ∧
      y.rate.clean = p.rate.clean + 1 ∧ y.rate.r = min (p.rate.r + fld p.rate.prof.1 7 0 * 100 *
        (if p.rate.clean + 1 < fld p.rate.prof.2.2.1 19 14 then 1 else fld p.rate.prof.2.2.1 23 20)) (linkRate s (curLink p))) ∧
  (∀ s n p, qpOf s n = some p → p.st = .connected → p.sndUna = p.sndNxt → Runs s .weir → Answers (.rateIdleReset n) s fun t =>
    t.sys.now = max s.sys.now (p.rate.idleAt + 1000000) ∧ (∃ y, qpOf t n = some y ∧
      y.rate.r = fld (getReg s 0x03 (0x100 + 16 * qTc p + 8)) 31 27 * linkRate s (curLink p) / 16 ∧ y.rate.clean = 0 ∧ y.rate.startAt = none ∧
      y.rate.creditCap = 0 ∧ y.rate.samples = p.rate.samples ∧ y.rate.cuts = p.rate.cuts) ∧ (∀ m, m ≠ n → qpOf t m = qpOf s m) ∧
    t = { wakeBlk s .weir with qps := t.qps, sys := { s.sys with now := t.sys.now }, wr := t.wr, insts := t.insts, out := t.out }) ∧
  (∀ s n p a, qpOf s n = some p → p.rate.startAt = some a → p.st = .connected → gated (wakeBlk s .weir) .weir = true →
    Answers (.weirIntervalEnd n) s fun t => t = wakeBlk s .weir) ∧
  (∀ s w, windowLive s = true → Taken s w → devOwner s w = true → noRsv w 0x7F00FFFE = true → bitN w.data.toNat 0 = true →
    Answers (.wrSnapGo w) s fun t => t.wr.snap = linkBlocks s ∧ t.wr.snapTime = s.sys.now ∧ t.wr.snapTag = fld w.data.toNat 23 16 ∧
    t.wr.snapDone = true ∧ t.wr.counters = s.wr.counters ∧ t.wr.maps = s.wr.maps ∧ t = { s with wr := t.wr }) ∧
  (∀ s w, windowLive s = true → Taken s w → devOwner s w = false → s.vp.werrValid = false → Answers (.wrSnapGo w) s fun t =>
    t.vp.werrStatus = Status.notPermitted ∧ t = { s with vp := t.vp, intr := t.intr, out := t.out }) ∧
  (∀ s l, windowLive s = true → linkExists s l = true → Answers (.qdepthMaxRead l) s fun t =>
    t.rd = BitVec.ofNat 64 (Tab.getD s.wr.qmax l 0) ∧ Tab.getD t.wr.qmax l 0 = Tab.getD s.wr.qdepth l 0 ∧
    (∀ k, k ≠ l → Tab.getD t.wr.qmax k 0 = Tab.getD s.wr.qmax k 0) ∧ t = { s with rd := t.rd, wr := { s.wr with qmax := t.wr.qmax } }) ∧
  (∀ s, windowLive s = true → bitN (getReg s 0x03 0x300) 31 = true → s.basin.role = .worker → s.basin.mgrMissing = false → s.basin.mgrSlot ≠ 0 → Runs s .weir → ∀ n p,
    basinQp s s.basin.mgrSlot = some n → qpOf s n = some p → Answers .mapPeriodEnd s fun t =>
    t.sys.now = max s.sys.now (s.wr.mapFrom + s.wr.mapPeriod * 100000) ∧ t.wr.mapSeq = (s.wr.mapSeq + 1) % 2 ^ 32 ∧ t.wr.mapFrom = t.sys.now ∧
    t.wr.acc = freshAcc t ∧ (∃ y r, qpOf t n = some y ∧ y.reqs = p.reqs ++ [r] ∧ r.op = 1 ∧ r.raddr = 0xFFFFFFFFFFFF0000 ∧ r.rkey = 0 ∧
      r.buf = .bytes (mapBytes (advanceTo (wakeBlk s .weir) (s.wr.mapFrom + s.wr.mapPeriod * 100000)))) ∧ (∀ m, m ≠ n → qpOf t m = qpOf s m) ∧
    t = { wakeBlk s .weir with qps := t.qps, wr := t.wr, links := t.links, out := t.out, sys := { s.sys with now := t.sys.now }, insts := t.insts }) ∧
  (∀ s, windowLive s = true → bitN (getReg s 0x03 0x300) 31 = true → s.basin.role = .active → Runs s .weir → Answers .mapPeriodEnd s fun t =>
    t.wr.mapSeq = (s.wr.mapSeq + 1) % 2 ^ 32 ∧ t.wr.mapFrom = t.sys.now ∧ t.wr.acc = freshAcc t ∧ t.wr.mapPeriod = fld (getReg s 0x03 0x300) 9 0 ∧
    t = { wakeBlk s .weir with wr := t.wr, sys := { s.sys with now := t.sys.now }, insts := t.insts, out := t.out }) ∧
  (∀ s, bitN (getReg s 0x03 0x300) 31 = false → Answers .mapPeriodEnd s fun t => t = s) ∧
  (∀ s slot b, Tab.find s.wr.maps slot = some b → mapCurrent s slot = true → Answers (.mapSlotExpiry slot) s fun t =>
    mapCurrent t slot = false ∧ (∀ k, k ≠ slot → mapCurrent t k = mapCurrent s k) ∧
    t.sys.now = max s.sys.now (Tab.getD s.wr.mapAt slot 0 + 4 * getBE b 20 2 * 100000) ∧
    t = { s with wr := { s.wr with mapValid := t.wr.mapValid }, sys := { s.sys with now := t.sys.now }, insts := t.insts, out := t.out }) ∧
  (∀ s i w p, CmdOpenAt 0xFFFFFFFE s i 0x188 1 w → getPage s i 0x180 < qpMax s → mayUse s.own.qp (getPage s i 0x180) i = true →
    instHas s i 25 = true → qpOf s (getPage s i 0x180) = some p → p.st ≠ .free → Answers (.wrQuery i w) s fun t =>
    getPage t i 0x18C = (p.rate.snap.1 / 100 * 2 ^ 16 + p.rate.snap.2.1 * 256 + min 63 p.rate.snap.2.2.1) % 2 ^ 32 ∧
    getPage t i 0x190 = min 65535 (p.rate.snap.2.2.2.1 / 10) * 2 ^ 16 + min 255 p.rate.snap.2.2.2.2.1 * 256 ∧
    getPage t i 0x194 = p.rate.snap.2.2.2.2.2 % 2 ^ 32 ∧ t = { s with pages := t.pages, insts := t.insts }) ∧
  (∀ s i w, CmdOpenAt 0xFFFFFFFE s i 0x188 1 w → getPage s i 0x180 < qpMax s → mayUse s.own.qp (getPage s i 0x180) i = true →
    instHas s i 25 = true → qpOf s (getPage s i 0x180) = none → Answers (.wrQuery i w) s fun t =>
    fld (getPage t i 0x188) 15 8 = Status.queueDisabled.toNat ∧ t = { s with pages := t.pages, vp := t.vp, intr := t.intr, out := t.out })

/-- SPDM requests and the IDE key programming (R137, R269, R270, R271, R272, R273). Model choices: logs 29 and 110. -/
def Obligations.SpdmRequestsAreAnswered : Prop :=
  (∀ s tr, trUp s tr = true → Answers (.getVersion tr) s fun t => tr ∈ t.spdm.version ∧ t.spdm.algs = s.spdm.algs.erase tr ∧
    t.spdm.sess = s.spdm.sess ∧ t = { s with spdm := t.spdm, out := .spdm tr (.version 0x12) :: s.out }) ∧
  (∀ s tr, trUp s tr = false → Answers (.getVersion tr) s fun t => t = s) ∧
  (∀ s tr, trUp s tr = true → s.spdm.version.contains tr = true → Answers (.getCapabilities tr) s fun t => tr ∈ t.spdm.caps ∧
    t = { s with spdm := { s.spdm with caps := t.spdm.caps }, out := .spdm tr (.capabilities spdmCaps) :: s.out }) ∧
  (∀ s tr, trUp s tr = true → s.spdm.version.contains tr = false → Answers (.getCapabilities tr) s fun t =>
    t = { s with out := .spdm tr (.error 4) :: s.out }) ∧
  (∀ s tr a, trUp s tr = true → s.spdm.caps.contains tr = true → a.p384 = true → a.sha384 = true → a.secp384r1 = true → a.aes256gcm = true →
    a.schedule = true → Answers (.negotiateAlgorithms tr a) s fun t => tr ∈ t.spdm.algs ∧
    t = { s with spdm := { s.spdm with algs := t.spdm.algs }, out := .spdm tr (.algorithms spdmAlgs) :: s.out }) ∧
  (∀ s tr a, trUp s tr = true → s.spdm.caps.contains tr = true →
    (a.p384 = false ∨ a.sha384 = false ∨ a.secp384r1 = false ∨ a.aes256gcm = false ∨ a.schedule = false) →
    Answers (.negotiateAlgorithms tr a) s fun t => t = { s with out := .spdm tr (.error 1) :: s.out }) ∧
  (∀ s tr, trUp s tr = true → s.spdm.algs.contains tr = true → Answers (.getDigests tr) s fun t =>
    t = { s with out := .spdm tr (.digests (Sha.sha384 (Config.certChain s.sys.fuses.serial))) :: s.out }) ∧
  (∀ s tr, trUp s tr = true → s.spdm.algs.contains tr = false → Answers (.getDigests tr) s fun t =>
    t = { s with out := .spdm tr (.error 4) :: s.out }) ∧
  (∀ s tr off len, trUp s tr = true → s.spdm.algs.contains tr = true → len ≤ 4088 → Answers (.getCertificate tr 0 off len) s fun t =>
    ∃ o, t = { s with out := o :: s.out } ∧ ((Config.certChain s.sys.fuses.serial).length ≤ off → o = .spdm tr (.error 1)) ∧
      (off < (Config.certChain s.sys.fuses.serial).length → ∃ n, o = .spdm tr (.certificate (slice (Config.certChain s.sys.fuses.serial) off len) n))) ∧
  (∀ s tr slot off len, trUp s tr = true → s.spdm.algs.contains tr = true → slot ≠ 0 → Answers (.getCertificate tr slot off len) s fun t =>
    t = { s with out := .spdm tr (.error 1) :: s.out }) ∧
  (∀ s tr nonce, trUp s tr = true → s.spdm.algs.contains tr = true → Answers (.challenge tr 0 nonce) s fun t => ∃ d m,
    d = Sha.sha384 (Config.certChain s.sys.fuses.serial) ∧ m = measSummary s ∧
    t = { s with out := .spdm tr (.challengeAuth d m (Config.sign (nonce ++ d ++ m))) :: s.out }) ∧
  (∀ s tr i nonce, trUp s tr = true → s.spdm.algs.contains tr = true → 1 ≤ i → i ≤ 7 → Answers (.getMeasurements tr i nonce) s fun t =>
    ∃ b, b = measBlock s i ∧ b.take 1 = [BitVec.ofNat 8 i] ∧ t = { s with out := .spdm tr (.measurements b (Config.sign (nonce ++ b))) :: s.out }) ∧
  (∀ s tr nonce, trUp s tr = true → s.spdm.algs.contains tr = true → Answers (.getMeasurements tr 0xFF nonce) s fun t =>
    t = { s with out := .spdm tr (.measurements (measBlock s 1 ++ measBlock s 2 ++ measBlock s 3 ++ measBlock s 4 ++ measBlock s 5 ++
      measBlock s 6 ++ measBlock s 7) (Config.sign (nonce ++ measAll s))) :: s.out }) ∧
  (∀ s tr v, trUp s tr = true → s.spdm.algs.contains tr = true → sessCount s (trHost tr) < (if trHost tr = true then 8 else 66) →
    Answers (.keyExchange tr v) s fun t => t.spdm.nextSess = s.spdm.nextSess + 1 ∧ (∃ x, Tab.find t.spdm.sess s.spdm.nextSess = some x ∧
      x.tr = tr ∧ x.finished = false ∧ x.qual = decide (v = 0xFF)) ∧
    (∀ k, k ≠ s.spdm.nextSess → Tab.find t.spdm.sess k = Tab.find s.spdm.sess k) ∧
    (∃ m g, t.out = .spdm tr (.keyExchange s.spdm.nextSess m g) :: s.out ∧ (v = 0xFF → m = measSummary s)) ∧
    t = { s with spdm := t.spdm, out := t.out }) ∧
  (∀ s tr v, trUp s tr = true → s.spdm.algs.contains tr = true → (if trHost tr = true then 8 else 66) ≤ sessCount s (trHost tr) →
    Answers (.keyExchange tr v) s fun t => t = { s with out := .spdm tr (.error 3) :: s.out }) ∧
  (∀ s n x, Tab.find s.spdm.sess n = some x → trUp s x.tr = true → Answers (.finish n true) s fun t =>
    Tab.find t.spdm.sess n = some { x with finished := true } ∧ (∀ k, k ≠ n → Tab.find t.spdm.sess k = Tab.find s.spdm.sess k) ∧
    t = { s with spdm := { s.spdm with sess := t.spdm.sess }, out := .spdm x.tr (.finish n) :: s.out }) ∧
  (∀ s n x, Tab.find s.spdm.sess n = some x → trUp s x.tr = true → Answers (.finish n false) s fun t => Tab.find t.spdm.sess n = none ∧
    t = { s with spdm := { s.spdm with sess := t.spdm.sess }, out := .spdm x.tr (.error 6) :: s.out }) ∧
  (∀ s n x, Tab.find s.spdm.sess n = some x → trUp s x.tr = true → x.finished = true → Answers (.keyUpdate ⟨n, true⟩) s fun t =>
    Tab.find t.spdm.sess n = some { x with phase := x.phase + 1 } ∧
    t = { s with spdm := { s.spdm with sess := t.spdm.sess }, out := .spdm x.tr (.keyUpdateAck n) :: s.out }) ∧
  (∀ s n x, Tab.find s.spdm.sess n = some x → trUp s x.tr = true → Answers (.endSession ⟨n, true⟩) s fun t => Tab.find t.spdm.sess n = none ∧
    (∀ k, k ≠ n → Tab.find t.spdm.sess k = Tab.find s.spdm.sess k) ∧
    t = { s with spdm := { s.spdm with sess := t.spdm.sess }, out := .spdm x.tr (.endSessionAck n) :: s.out }) ∧
  (∀ s n x, Tab.find s.spdm.sess n = some x → trUp s x.tr = true → (Answers (.keyUpdate ⟨n, false⟩) s fun t =>
      t = { s with spdm := { s.spdm with sess := Tab.del s.spdm.sess n }, out := .spdm x.tr (.error 6) :: s.out }) ∧
    (Answers (.endSession ⟨n, false⟩) s fun t =>
      t = { s with spdm := { s.spdm with sess := Tab.del s.spdm.sess n }, out := .spdm x.tr (.error 6) :: s.out })) ∧
  (∀ s n stream key x, trUp s .doe = true → qualSess s (some n) = some x → x.tr = .doe → committed s 24 = true → stream < 2 →
    Answers (.ideKmKeyProg (some n) stream key) s fun t =>
    Tab.find t.pt.ideKeys stream = some key ∧ (∀ k, k ≠ stream → Tab.find t.pt.ideKeys k = Tab.find s.pt.ideKeys k) ∧
    (stream = 0 → s.pt.trained = true → s.pt.cxl = false → t.pt.ide = true) ∧
    t = { s with pt := { s.pt with ideKeys := t.pt.ideKeys, ide := t.pt.ide }, out := .ideKm Status.ok :: s.out }) ∧
  (∀ s n stream key x, trUp s .doe = true → qualSess s (some n) = some x → x.tr = .doe → committed s 24 = true → 2 ≤ stream →
    Answers (.ideKmKeyProg (some n) stream key) s fun t => t = { s with out := .ideKm Status.badField :: s.out }) ∧
  (∀ s n stream key, trUp s .doe = true → (∀ x, qualSess s n = some x → x.tr ≠ .doe) → Answers (.ideKmKeyProg n stream key) s fun t =>
    t = { s with out := .ideKm Status.attestRequired :: s.out }) ∧
  (∀ s n stream key x, trUp s .doe = true → qualSess s (some n) = some x → x.tr = .doe → committed s 24 = false → Answers (.ideKmKeyProg (some n) stream key) s fun t =>
    t = { s with out := .ideKm Status.featureNotNegotiated :: s.out })

/-- KEY_INSTALL, KEY_COMMIT, CRYPT_POLICY, ADMIT_SET, attestation fragments and CRYPT_QUERY (R274, R275, R276, R284, R285,
R286, R291). Model choices: log 31. -/
def Obligations.KeyMessagesActAsStated : Prop :=
  (∀ s n m p, tenderRuns s = true → getBE m 0 1 = 1 → getBE m 14 1 ≠ 2 → kmFail s n m = none → qpOf s (getBE m 8 4) = some p →
    Answers (.keyInstallInitial n m) s fun t => (∃ y, qpOf t (getBE m 8 4) = some y ∧ y.cipher.keyed = true ∧ y.cipher.secret = slice m 16 32 ∧
      y.cipher.role = getBE m 15 1 ∧ y.cipher.txPhase = 0 ∧ y.cipher.pending = none ∧ y = { p with cipher := y.cipher }) ∧
    (∀ k, k ≠ getBE m 8 4 → qpOf t k = qpOf s k) ∧
    (∃ k tr b, t.out = .spdm tr (.vendor k b) :: s.out ∧ b.take 2 = [1, Status.ok]) ∧ t = { s with qps := t.qps, out := t.out }) ∧
  (∀ s n m x p, qualSess s n = some x → trHost x.tr = true → kmFieldsOk s m = true → getBE m 0 1 = 1 → getBE m 14 1 = 1 →
    instHas s (getBE m 12 2) 18 = true → qpOf s (getBE m 8 4) = some p → owns s.own.qp (getBE m 8 4) (getBE m 12 2) = true → p.kind = .rc →
    qEnc p = true → p.st = .init → p.cipher.keyed = false → kmFail s n m = none) ∧
  (∀ s n m p, tenderRuns s = true → getBE m 0 1 = 1 → getBE m 14 1 = 2 → kmFail s n m = none → qpOf s (getBE m 8 4) = some p →
    Answers (.keyInstallRekey n m) s fun t => (∃ y, qpOf t (getBE m 8 4) = some y ∧ y.cipher.pending = some (slice m 16 32) ∧
      y.cipher.committed = false ∧ y.cipher.secret = p.cipher.secret ∧ y.cipher.txPhase = p.cipher.txPhase ∧ y = { p with cipher := y.cipher }) ∧
    (∀ k, k ≠ getBE m 8 4 → qpOf t k = qpOf s k) ∧ t = { s with qps := t.qps, out := t.out }) ∧
  (∀ s n m x p, qualSess s n = some x → trHost x.tr = true → kmFieldsOk s m = true → getBE m 0 1 = 1 → getBE m 14 1 = 2 →
    instHas s (getBE m 12 2) 18 = true → qpOf s (getBE m 8 4) = some p → owns s.own.qp (getBE m 8 4) (getBE m 12 2) = true → p.kind = .rc →
    qEnc p = true → p.st ≠ .free → (getBE m 15 1 ≠ p.cipher.role ∨ slice m 48 16 ≠ rekeyAuth p.cipher.secret (slice m 16 32)) → kmFail s n m = some Status.keyViolation) ∧
  (∀ s n m p, tenderRuns s = true → getBE m 0 1 = 2 → kmFail s n m = none → qpOf s (getBE m 8 4) = some p → Answers (.keyCommit n m) s fun t =>
    qpOf t (getBE m 8 4) = some { p with cipher := { p.cipher with committed := true } } ∧ p.cipher.pending ≠ none ∧
    (∀ k, k ≠ getBE m 8 4 → qpOf t k = qpOf s k) ∧ t = { s with qps := t.qps, out := t.out }) ∧
  (∀ s n m, tenderRuns s = true → getBE m 0 1 = 3 → kmFail s n m = none → Answers (.cryptPolicy n m) s fun t =>
    t.policy.requireEnc = bitN (getBE m 8 1) 0 ∧ t.policy.basinEnc = bitN (getBE m 8 1) 1 ∧ t.policy.lock = bitN (getBE m 8 1) 2 ∧
    t.policy.admission = s.policy.admission ∧ (∃ k tr b, t.out = .spdm tr (.vendor k b) :: s.out ∧ b.take 2 = [3, Status.ok]) ∧
    t = { s with policy := t.policy, out := t.out }) ∧
  (∀ s n m x, qualSess s n = some x → trHost x.tr = true → kmFieldsOk s m = true → (getBE m 0 1 = 3 ∨ getBE m 0 1 = 4) →
    kmFail s n m = if s.policy.lock = true then some Status.notPermitted else none) ∧
  (∀ s m, tenderRuns s = true → getBE m 0 1 = 3 → Answers (.cryptPolicy none m) s fun t => t.policy = s.policy ∧
    (∃ k tr b, t.out = .spdm tr (.vendor k b) :: s.out ∧ b.take 2 = [3, Status.attestRequired]) ∧ t = { s with out := t.out }) ∧
  (∀ s n m, tenderRuns s = true → getBE m 0 1 = 4 → kmFail s n m = none → Answers (.admitSet n m) s fun t =>
    t.policy.admission = summaries (getBE m 8 1) (m.drop 16) ∧ t.policy.lock = s.policy.lock ∧
    t = { s with policy := t.policy, out := t.out }) ∧
  (∀ s n m st, tenderRuns s = true → getBE m 0 1 = 4 → kmFail s n m = some st → Answers (.admitSet n m) s fun t =>
    (∃ k tr b, t.out = .spdm tr (.vendor k b) :: s.out ∧ b.take 2 = [4, st]) ∧ t = { s with out := t.out }) ∧
  (∀ s slot b, tenderRuns s = true → b.length = 32 → getBE b 28 4 = crcN (b.take 28) → getBE b 0 1 = 3 → getBE b 1 1 = 0 → getBE b 2 2 ≠ 0 →
    getBE b 2 2 ≤ 20 → Answers (.basinAttestFragment slot b) s fun t => t.spdm.inbox = s.spdm.inbox ++ [(slot, slice b 8 (getBE b 2 2))] ∧
    Tab.find t.spdm.frags (slot * 2 ^ 32 + getBE b 4 4) = none ∧ t = { s with spdm := { s.spdm with inbox := t.spdm.inbox, frags := t.spdm.frags } }) ∧
  (∀ s slot b a, tenderRuns s = true → b.length = 32 → getBE b 28 4 = crcN (b.take 28) → getBE b 0 1 = 2 → getBE b 1 1 = 1 → getBE b 2 2 ≠ 0 →
    getBE b 2 2 ≤ 20 → Tab.find s.spdm.frags (slot * 2 ^ 32 + getBE b 4 4) = some [(0, a)] → Answers (.basinAttestFragment slot b) s fun t =>
    t.spdm.inbox = s.spdm.inbox ++ [(slot, a ++ slice b 8 (getBE b 2 2))] ∧
    t = { s with spdm := { s.spdm with inbox := t.spdm.inbox, frags := t.spdm.frags } }) ∧
  (∀ s slot b, tenderRuns s = true → b.length = 32 → getBE b 28 4 = crcN (b.take 28) → getBE b 0 1 = 1 → getBE b 1 1 = 0 → getBE b 2 2 ≠ 0 →
    getBE b 2 2 ≤ 20 → Answers (.basinAttestFragment slot b) s fun t => t.spdm.inbox = s.spdm.inbox ∧
    Tab.find t.spdm.frags (slot * 2 ^ 32 + getBE b 4 4) = some [(0, slice b 8 (getBE b 2 2))] ∧
    t = { s with spdm := { s.spdm with frags := t.spdm.frags } }) ∧
  (∀ s slot b, getBE b 28 4 ≠ crcN (b.take 28) → Answers (.basinAttestFragment slot b) s fun t => t = s) ∧
  (∀ s r, mbxIs s 0x50 = some r → Answers .cryptQuery s fun t =>
    t = mbxDone s Status.ok (putLE 4 (attestStat s) ++ zeros 4 ++ measSummary s)) ∧
  (∀ s, mbxIs s 0x50 = none → Answers .cryptQuery s fun t => t = s)

/-- The mailboxes take, hold, start and refuse requests (R129, R130, R131). Model choices: logs 43, 44, 70 and 93. -/
def Obligations.MailboxRequestsRunInOrder : Prop :=
  (∀ s w b r, fixedLive s = true → Taken s w → noRsv w 0xFFFFFFFE = true → bitN w.data.toNat 0 = true → s.mbx.st ≠ .busy →
    b = Mem.read s.mbx.req 0 (16 + min 2032 (getLE (Mem.read s.mbx.req 2 2) 0 2)) → r = mbxReqOf (mbxFrom w.src) b →
    mbxFail s (mbxSrc r) b true = none → (loaderCode r.code = false ∨ ∀ x, s.mbx.running = some x → loaderCode x.code = false) → Answers (.tnMbxGo w) s fun t =>
    t = wakeBlk { s with mbx := { s.mbx with st := .busy, lost := false, rsp := [], waiting := s.mbx.waiting ++ [r] } } (.tender s.pt.core)) ∧
  (∀ s w b r st, fixedLive s = true → Taken s w → noRsv w 0xFFFFFFFE = true → bitN w.data.toNat 0 = true → s.mbx.st ≠ .busy →
    b = Mem.read s.mbx.req 0 (16 + min 2032 (getLE (Mem.read s.mbx.req 2 2) 0 2)) → r = mbxReqOf (mbxFrom w.src) b →
    mbxFail s (mbxSrc r) b true = some st → Answers (.tnMbxGo w) s fun t => t.mbx.st = .done ∧ t.mbx.status = st ∧ t.mbx.rsp = rspBlock r.code r.tag st [] ∧
    t.mbx.waiting = s.mbx.waiting ∧ t.mbx.running = s.mbx.running ∧ t = { s with mbx := t.mbx, intr := t.intr, out := t.out }) ∧
  (∀ s w, fixedLive s = true → Taken s w → noRsv w 0xFFFFFFFE = true → bitN w.data.toNat 0 = true → s.mbx.st = .busy → s.vp.werrValid = false →
    Answers (.tnMbxGo w) s fun t => t.vp.werrStatus = Status.busy ∧ t = { s with vp := t.vp, intr := t.intr, out := t.out }) ∧
  (∀ s smb b, s.sys.coldLow = false → s.sys.straps.test = false → mctpHere s smb = true → 16 ≤ b.length → tenderRuns s = false →
    Answers (.mctpRequest ⟨smb, b⟩) s fun t =>
    t = { s with out := .mctp (rspBlock (getLE b 0 1) (getLE b 4 4) Status.notPermitted []) :: s.out }) ∧
  (∀ s smb b, tenderRuns s = true → s.sys.straps.test = false → mctpHere s smb = true → b.length = 16 + getLE b 2 2 → b.length ≤ 2048 → mbxFail s .mctp b true = none →
    (loaderCode (getLE b 0 1) = false ∨ ∀ x, s.mbx.running = some x → loaderCode x.code = false) → Answers (.mctpRequest ⟨smb, b⟩) s fun t =>
    t = wakeBlk { s with mbx := { s.mbx with waiting := s.mbx.waiting ++ [mbxReqOf .mctp b] } } (.tender s.pt.core)) ∧
  (∀ s smb b x, tenderRuns s = true → s.sys.straps.test = false → mctpHere s smb = true → b.length = 16 + getLE b 2 2 → b.length ≤ 2048 → mbxFail s .mctp b true = none → loaderCode (getLE b 0 1) = true →
    s.mbx.running = some x → loaderCode x.code = true → Answers (.mctpRequest ⟨smb, b⟩) s fun t =>
    .mctp (rspBlock (getLE b 0 1) (getLE b 4 4) Status.busy []) ∈ t.out ∧ t = { s with intr := t.intr, out := t.out }) ∧
  (∀ s smb b, tenderRuns s = true → s.sys.straps.test = false → mctpHere s smb = true → b.length = 16 + getLE b 2 2 → b.length ≤ 2048 → getLE b 12 4 ≠ crcN (b.take 12 ++ slice b 16 (getLE b 2 2)) →
    Answers (.mctpRequest ⟨smb, b⟩) s fun t => .mctp (rspBlock (getLE b 0 1) (getLE b 4 4) Status.descriptorCrc []) ∈ t.out ∧
    t = { s with intr := t.intr, out := t.out }) ∧
  (∀ s r rest, tenderRuns s = true → s.mbx.running = none → gated s (.tender s.pt.core) = false → s.mbx.waiting = r :: rest → stageAllows s.boot.stage r.code = true →
    (r.code < 0x40 ∨ 0x43 < r.code) → Answers .mbxCommandStart s fun t =>
    t = { s with mbx := { s.mbx with waiting := rest, running := some r } }) ∧
  (∀ s r rest, tenderRuns s = true → s.mbx.running = none → gated s (.tender s.pt.core) = false → s.mbx.waiting = r :: rest → stageAllows s.boot.stage r.code = false →
    Answers .mbxCommandStart s fun t => t = mbxRespond { s with mbx := { s.mbx with waiting := rest } } r Status.notPermitted []) ∧
  (∀ s r rest, tenderRuns s = true → s.boot.stage = .ready → s.mbx.running = none → gated s (.tender s.pt.core) = false → s.mbx.waiting = r :: rest → r.code = 0x41 →
    getLE r.params 4 2 < 1024 → zeroIn r.params 6 2 = true → pageOwned s (getLE r.params 4 2) (mbxSrc r) = true → Answers .mbxCommandStart s fun t =>
    t.mbx = { s.mbx with waiting := rest, running := some r } ∧ (∃ h, t.mgr.held = s.mgr.held ++ [h] ∧ h.code = 0x41 ∧ h.since = s.sys.now ∧
      h.reqId = getLE r.params 8 8 ∧ h.params = r.params) ∧
    t.out = (if managerKnown s = true then .mgrReq 0x41 (getLE r.params 8 8) r.params :: s.out else s.out) ∧
    t = { s with mbx := t.mbx, mgr := { s.mgr with held := t.mgr.held }, out := t.out }) ∧
  (∀ s r, s.mbx.running = some r → Answers .mbxCommandStart s fun t => t = s) ∧
  (∀ s, gated s (.tender s.pt.core) = true → Answers .mbxCommandStart s fun t => t = s)

/-- The event log, its acknowledgement, the interrupt registers and ALERT_N (R395, R396, R397, R401, R402). Model choices:
log 65. -/
def Obligations.EventsAndInterruptsFollowTheirRules : Prop :=
  (∀ s e r, s.log.staged = e :: r → (tenderRuns s = true ∨ evTender e = false) → s.log.entries.length < 4096 →
    (2 ≤ e.sev ∨ ∀ x ∈ s.log.entries, evSame x.ev e = false) → Answers .eventLogWrite s fun t =>
    t.log.entries = { seq := s.log.head + 1, rep := 0, ev := e } :: s.log.entries ∧ t.log.head = s.log.head + 1 ∧ t.log.staged = r ∧
    t.log.lost = s.log.lost ∧ t.intr.stat = s.intr.stat ||| (if fld (getReg s 0x0B 0x588) 1 0 ≤ e.sev then 2 else 0) ||| (if e.sev = 3 then 32 else 0) ∧
    t.intr.en = s.intr.en ∧ t = { s with log := t.log, intr := t.intr, out := t.out }) ∧
  (∀ s e r o, s.log.staged = e :: r → (tenderRuns s = true ∨ evTender e = false) → 4096 ≤ s.log.entries.length → 2 ≤ e.sev →
    s.log.entries.getLast? = some o → Answers .eventLogWrite s fun t =>
    t.log.entries = { seq := s.log.head + 1, rep := 0, ev := e } :: s.log.entries.dropLast ∧ t.log.head = s.log.head + 1 ∧
    t.log.lost = (if s.log.ack < o.seq then satInc 32 s.log.lost else s.log.lost)) ∧
  (∀ s e r x es, s.log.staged = e :: r → (tenderRuns s = true ∨ evTender e = false) → e.sev ≤ 1 → s.log.entries = x :: es → evSame x.ev e = true →
    x.ev.time ≤ e.time → e.time ≤ x.ev.time + 1000000 → Answers .eventLogWrite s fun t =>
    t.log.entries = { x with rep := satInc 16 x.rep } :: es ∧ t.log.head = s.log.head ∧ t.log.staged = r ∧ t = { s with log := t.log }) ∧
  (∀ s, s.log.staged = [] → Answers .eventLogWrite s fun t => t = s) ∧
  (∀ s w, windowLive s = true → Taken s w → Answers (.tnLogAckLoWrite w) s fun t => t.log.ack = s.log.ack ∧
    t = { s with log := { s.log with ackLo := w.data } }) ∧
  (∀ s w, windowLive s = true → Taken s w → w.data.toNat * 2 ^ 32 + s.log.ackLo.toNat ≤ s.log.head → Answers (.tnLogAckHiWrite w) s fun t =>
    t = { s with log := { s.log with ack := max s.log.ack (w.data.toNat * 2 ^ 32 + s.log.ackLo.toNat) } }) ∧
  (∀ s w, windowLive s = true → Taken s w → s.log.head < w.data.toNat * 2 ^ 32 + s.log.ackLo.toNat → s.vp.werrValid = false →
    Answers (.tnLogAckHiWrite w) s fun t => t.log = s.log ∧ t.vp.werrStatus = Status.badField) ∧
  (∀ s w v e, windowLive s = true → Taken s w → v = w.data.toNat * 2 ^ 32 + s.log.rselLo.toNat → v ≠ 0 → v ≤ s.log.head →
    s.log.entries.find? (fun x => x.seq = v) = some e → Answers (.tnLogRselHiWrite w) s fun t =>
    t = { s with log := { s.log with rselHi := w.data, rstat := .valid, window := entBytes e } }) ∧
  (∀ s w v, windowLive s = true → Taken s w → v = w.data.toNat * 2 ^ 32 + s.log.rselLo.toNat → s.log.head < v →
    Answers (.tnLogRselHiWrite w) s fun t => t = { s with log := { s.log with rselHi := w.data, rstat := .future, window := zeros 64 } }) ∧
  (∀ s w v, windowLive s = true → Taken s w → v = w.data.toNat * 2 ^ 32 + s.log.rselLo.toNat → v ≠ 0 → v ≤ s.log.head →
    (∀ x ∈ s.log.entries, x.seq ≠ v) → Answers (.tnLogRselHiWrite w) s fun t =>
    t = { s with log := { s.log with rselHi := w.data, rstat := .gone, window := zeros 64 } }) ∧
  (∀ s w, windowLive s = true → Taken s w → noRsv w 0xFFFFFFC0 = true → Answers (.tnIntStatClear w) s fun t =>
    t.intr = { stat := s.intr.stat &&& ~~~(w.data.setWidth 6), en := s.intr.en } ∧ (t.intr.stat &&& t.intr.en = 0 → t.out = s.out) ∧
    (t.intr.stat &&& t.intr.en ≠ 0 → t.out.length = s.out.length + 1) ∧ t = { s with intr := t.intr, out := t.out }) ∧
  (∀ s w, windowLive s = true → Taken s w → noRsv w 0xFFFFFFC0 = true → Answers (.tnIntEnWrite w) s fun t =>
    t.intr = { stat := s.intr.stat, en := w.data.setWidth 6 } ∧
    t.out.length = s.out.length + (if s.intr.stat &&& s.intr.en = 0 ∧ t.intr.stat &&& t.intr.en ≠ 0 then 1 else 0) ∧
    t = { s with intr := t.intr, out := t.out }) ∧
  (∀ s w, windowLive s = true → Taken s w → noRsv w 0xFFFFFFC0 = false → s.vp.werrValid = false → Answers (.tnIntEnWrite w) s fun t =>
    t.intr.en = s.intr.en ∧ t.vp.werrStatus = Status.badField) ∧
  (∀ s e r, s.log.staged = e :: r → (tenderRuns s = true ∨ evTender e = false) → s.log.entries.length < 4096 → e.sev = 3 →
    Answers .eventLogWrite s fun t => alertN t = false) ∧
  (∀ s : State, s.lv.done ≠ [] ∨ s.boot.stage = .halted → alertN s = false)

/-- Self-tests start, run and report (R403, R404). Model choices: log 54. -/
def Obligations.SelfTestsRunAndReport : Prop :=
  (∀ s w, windowLive s = true → Taken s w → noRsv w 0x7F000000 = true → bitN w.data.toNat 31 = true →
    fld w.data.toNat 7 0 < stUnits (fld w.data.toNat 15 8) → stInService s (fld w.data.toNat 15 8) (fld w.data.toNat 7 0) = true →
    s.st.running = false → stBusy s (fld w.data.toNat 15 8) (fld w.data.toNat 7 0) = false → Answers (.selftestStart w) s fun t =>
    t = { s with st := { running := true, done := false, result := false, tag := fld w.data.toNat 23 16, target := fld w.data.toNat 15 8, unit := fld w.data.toNat 7 0, started := s.sys.now, detail := 0 } }) ∧
  (∀ s w, windowLive s = true → Taken s w → noRsv w 0x7F000000 = true → bitN w.data.toNat 31 = true →
    fld w.data.toNat 7 0 < stUnits (fld w.data.toNat 15 8) → stInService s (fld w.data.toNat 15 8) (fld w.data.toNat 7 0) = true →
    (s.st.running = true ∨ stBusy s (fld w.data.toNat 15 8) (fld w.data.toNat 7 0) = true) → s.vp.werrValid = false →
    Answers (.selftestStart w) s fun t => t.st = s.st ∧ t.vp.werrStatus = Status.busy) ∧
  (∀ s w, windowLive s = true → Taken s w → bitN w.data.toNat 31 = true → stUnits (fld w.data.toNat 15 8) ≤ fld w.data.toNat 7 0 →
    s.vp.werrValid = false → Answers (.selftestStart w) s fun t => t.st = s.st ∧ t.vp.werrStatus = Status.badField) ∧
  (∀ s, s.st.running = true → s.st.target ≠ 5 → s.st.target ≠ 7 → s.log.staged.length < 64 → Answers (.selftestDone none) s fun t =>
    t.st = { s.st with running := false, done := true, result := false, detail := 0 } ∧ t.intr.stat = s.intr.stat ||| 16 ∧
    (∃ e ∈ t.log.staged, e.id = 0x0080 ∧ e.sev = 0 ∧ e.unit = 256 * s.st.target + s.st.unit) ∧
    t = { s with st := t.st, log := t.log, intr := t.intr, out := t.out }) ∧
  (∀ s n, s.st.running = true → s.st.target = 3 → Answers (.selftestDone (some n)) s fun t =>
    t.st = { s.st with running := false, done := true, result := true, detail := n % 2 ^ 32 } ∧ (port t s.st.unit).failed = true) ∧
  (∀ s n, s.st.running = true → s.st.target = 2 → coreIn s s.st.unit = true → Answers (.selftestDone (some n)) s fun t =>
    t.st = { s.st with running := false, done := true, result := true, detail := n % 2 ^ 32 } ∧ coreIn t s.st.unit = false ∧
    (∀ k, k ≠ s.st.unit → coreIn t k = coreIn s k)) ∧
  (∀ s n, s.st.running = true → s.st.target = 6 → Answers (.selftestDone (some n)) s fun t =>
    t.st = { s.st with running := false, done := true, result := true, detail := n % 2 ^ 32 } ∧
    (∀ k c, Tab.find s.cbs k = some c → c.st = .loaded → ∃ d, Tab.find t.cbs k = some d ∧ d.st = .poisoned) ∧
    t = { s with st := t.st, cbs := t.cbs, log := t.log, intr := t.intr, out := t.out }) ∧
  (∀ s f, s.st.running = false → Answers (.selftestDone f) s fun t => t = s)

/-- A register write is checked in order, applied whole or captured in VP_WERR; reads of the table, of VP_GEN and of a wrong
size (R97, R118, R120, R127, R128). Model choices: logs 60, 61, 62 and 120. -/
def Obligations.RegisterWritesAreCheckedInOrder : Prop :=
  (∀ (s : State) (w : RegWrite), fixedLive s = true → w.off < 0x10000 → Taken s w.wr → s.vp.werrValid = false → Answers (.registerWrite w) s fun t =>
    t.vp.werrValid = true ∧ t.vp.werrStatus = Status.notPermitted ∧ t.vp.werrAddr = BitVec.ofNat 32 w.off ∧ t.vp.werrData = w.wr.data ∧
    t.vp.werrSrc = w.wr.src ∧ t.intr.stat = s.intr.stat ||| 1 ∧ t = { s with vp := t.vp, intr := t.intr, out := t.out }) ∧
  (∀ (s : State) (w : RegWrite), fixedLive s = true → w.off < 0x10000 → discarded s w.wr.src = false → w.wr.full = false → s.vp.werrValid = true →
    Answers (.registerWrite w) s fun t => t = { s with vp := { s.vp with werrMulti := true, werrCount := satInc 16 s.vp.werrCount } }) ∧
  (∀ (s : State) (w : RegWrite), fixedLive s = true → w.off < 0x20000 → w.off ≠ 0x10120 → w.off ≠ 0x10200 → w.off ≠ 0x10800 →
    discarded s w.wr.src = false → w.wr.full = false → s.vp.werrValid = false → Answers (.registerWrite w) s fun t =>
    t.vp.werrStatus = Status.badField ∧ t = { s with vp := t.vp, intr := t.intr, out := t.out }) ∧
  (∀ (s : State) (w : RegWrite) (i : Nat), fixedLive s = true → i < 4 → w.off = 0x10110 + 4 * i → Taken s w.wr → s.feat.committed = false →
    (i = 0 → noRsv w.wr 0xC0000000 = true) → (i ≠ 0 → w.wr.data = 0) → Answers (.registerWrite w) s fun t =>
    (∀ j, j < 128 → t.feat.ack.getLsbD j = if j / 32 = i then w.wr.data.getLsbD (j % 32) else s.feat.ack.getLsbD j) ∧
    t = { s with feat := { s.feat with ack := t.feat.ack } }) ∧
  (∀ (s : State) (w : RegWrite) (a : Nat), fixedLive s = true → a < 512 → w.off = 0x11000 + 4 * a → Taken s w.wr → s.mbx.st ≠ .busy →
    Answers (.registerWrite w) s fun t => t = { s with mbx := { s.mbx with req := Mem.write s.mbx.req (4 * a) (putLE 4 w.wr.data.toNat) } }) ∧
  (∀ (s : State) (w : RegWrite) (l : Layout) (o : Nat) (rsv : Word), windowLive s = true → s.sys.coldLow = false → 0x20000 ≤ w.off →
    s.vp.layout = some l → blockOf l w.off = some (3, o) → Taken s w.wr → devOwner s w.wr = true → 0x100 ≤ o → o < 0x170 →
    wrRsv (roleCap s = 2) o = some rsv → noRsv w.wr rsv = true → profOk o w.wr.data.toNat = true → Answers (.registerWrite w) s fun t =>
    getReg t 0x03 o = w.wr.data.toNat ∧ (∀ b k, regKey b k ≠ regKey 0x03 o → getReg t b k = getReg s b k) ∧ t = { s with regs := t.regs }) ∧
  (∀ (s : State) (w : RegWrite) (l : Layout) (o : Nat), windowLive s = true → s.sys.coldLow = false → 0x20000 ≤ w.off → s.vp.layout = some l →
    blockOf l w.off = some (3, o) → Taken s w.wr → devOwner s w.wr = true → 0x100 ≤ o → o < 0x170 → profOk o w.wr.data.toNat = false →
    s.vp.werrValid = false → Answers (.registerWrite w) s fun t => t.regs = s.regs ∧ t.vp.werrStatus = Status.badField) ∧
  (∀ (s : State) (w : RegWrite) (l : Layout) (i o : Nat) (r : PageReg), windowLive s = true → s.sys.coldLow = false → 0x20000 ≤ w.off →
    s.vp.layout = some l → placedWrite s l w.off w.wr = pageWrite s i o w.wr → pageCmds.find? (fun c => c.1 = o) = none → o ≠ 0x184 → o ≠ 0x0E0 →
    pageReg o = some r → Taken s w.wr → pageOwned s i w.wr.src = true → noRsv w.wr r.rsv = true → pageBusy s i r.stat = false →
    Answers (.registerWrite w) s fun t =>
      (∀ b < 32, bitN (getPage t i o) b = if r.rw.getLsbD b then w.wr.data.getLsbD b else bitN (getPage s i o) b) ∧ t = { s with pages := t.pages }) ∧
  (∀ s w, fixedLive s = true → Taken s w → noRsv w 0x3F000000 = true → bitN w.data.toNat 31 = true → Answers (.vpWerrClear w) s fun t =>
    t.vp.werrValid = false ∧ t.vp.werrMulti = false ∧ t.vp.werrCount = 0 ∧ t.vp.werrStatus = 0 ∧ t.vp.layout = s.vp.layout ∧
    t.vp.table = s.vp.table ∧ t = { s with vp := t.vp }) ∧
  (∀ s w, fixedLive s = true → Taken s w → noRsv w 0x3F000000 = true → bitN w.data.toNat 31 = false → Answers (.vpWerrClear w) s fun t => t = s) ∧
  (∀ (s : State) (src : Src) (off bits : Nat), off < 0x10000 → tableLive s = false → readReg src off bits s = (s, 0)) ∧
  (∀ (s : State) (src : Src) (off bits : Nat), answers s src = true → off < 0x10000 → tableLive s = true →
    ((bits = 32 ∧ off % 4 = 0) ∨ (bits = 64 ∧ off % 8 = 0)) → readReg src off bits s = (s, getLE s.vp.table off (bits / 8))) ∧
  (∀ (s : State) (src : Src), s.boot.stage ≠ .ready → readReg src 0x10214 32 s = (s, 0)) ∧
  (∀ (s : State) (src : Src) (off bits : Nat), 0x10000 ≤ off → (bits ≠ 32 ∨ off % 4 ≠ 0) → readReg src off bits s = (s, 0))

/-- The debug commands act on their slot (R355, R356, R357, R358). Model choices: log 77. -/
def Obligations.DebugCommandsActOnTheirSlot : Prop :=
  (∀ s r, mbxIs s 0x70 = some r → dbgFail s (dbgSrc r) 0x70 r.params = none → Answers .dbgList s fun t =>
    t = mbxDone s Status.ok (((List.range 16).map fun j => listEntry s (fwKey (getLE r.params 0 1) j)).flatten)) ∧
  (∀ s r g, mbxIs s 0x71 = some r → dbgFail s (dbgSrc r) 0x71 r.params = none → Tab.find s.fw.slots (dpKey r.params) = some g → Answers .dbgHalt s fun t =>
    (∃ h, Tab.find t.fw.slots (dpKey r.params) = some h ∧ h.st = .halted ∧ h.pc = g.pc ∧ h.stepLeft = none ∧ h = { g with st := .halted, ran := h.ran, stepLeft := none }) ∧ (∀ j, j ≠ dpKey r.params → Tab.find t.fw.slots j = Tab.find s.fw.slots j) ∧ t.mbx.running = none ∧
    t = { s with fw := { s.fw with slots := t.fw.slots }, mbx := t.mbx, intr := t.intr, out := t.out }) ∧
  (∀ s r g, mbxIs s 0x72 = some r → dbgFail s (dbgSrc r) 0x72 r.params = none → Tab.find s.fw.slots (dpKey r.params) = some g → g.st = .halted → Answers .dbgResume s fun t =>
    (∃ h, Tab.find t.fw.slots (dpKey r.params) = some h ∧ h = { g with st := .running, ranAt := s.sys.now, skipBreak := true, stepLeft := none }) ∧ (∀ j, j ≠ dpKey r.params → Tab.find t.fw.slots j = Tab.find s.fw.slots j) ∧ t.mbx.running = none ∧
    t = { s with fw := { s.fw with slots := t.fw.slots }, mbx := t.mbx, intr := t.intr, out := t.out }) ∧
  (∀ s r g c a m l, mbxIs s 0x72 = some r → dbgFail s (dbgSrc r) 0x72 r.params = none → Tab.find s.fw.slots (dpKey r.params) = some g → g.st = .dtrap → g.pendTrap = some (c, a, m) →
    launchOf s g.q g.i = some l → l.trapv ≠ 0 → g.inHandler = false → pushOk l g = true → s.fw.dbg.haltTrap = false → Answers .dbgResume s fun t =>
    (∃ h, Tab.find t.fw.slots (dpKey r.params) = some h ∧ h.st = .running ∧ h.pc = l.trapv ∧ h.inHandler = true ∧ h.cause = c ∧ h.pendTrap = none) ∧ (∀ j, j ≠ dpKey r.params → Tab.find t.fw.slots j = Tab.find s.fw.slots j) ∧ t.mbx.running = none ∧
    t = { s with fw := { s.fw with slots := t.fw.slots }, mbx := t.mbx, intr := t.intr, out := t.out }) ∧
  (∀ s r g, mbxIs s 0x73 = some r → dbgFail s (dbgSrc r) 0x73 r.params = none → Tab.find s.fw.slots (dpKey r.params) = some g → Answers .dbgStep s fun t =>
    (∃ h, Tab.find t.fw.slots (dpKey r.params) = some h ∧ h = { g with st := .running, ranAt := s.sys.now, skipBreak := true, stepLeft := some (getLE r.params 2 2) }) ∧ (∀ j, j ≠ dpKey r.params → Tab.find t.fw.slots j = Tab.find s.fw.slots j) ∧ t.mbx.running = none ∧
    t = { s with fw := { s.fw with slots := t.fw.slots }, mbx := t.mbx, intr := t.intr, out := t.out }) ∧
  (∀ s r g, mbxIs s 0x74 = some r → dbgFail s (dbgSrc r) 0x74 r.params = none → Tab.find s.fw.slots (dpKey r.params) = some g → Answers .dbgRead s fun t =>
    t = mbxDone s Status.ok (slice g.save (getLE r.params 12 2) (getLE r.params 14 2))) ∧
  (∀ s r g, mbxIs s 0x75 = some r → dbgFail s (dbgSrc r) 0x75 r.params = none → Tab.find s.fw.slots (dpKey r.params) = some g → Answers .dbgWrite s fun t =>
    (∃ h b, Tab.find t.fw.slots (dpKey r.params) = some h ∧ b = patch g.save (getLE r.params 12 2) (fit (getLE r.params 14 2) (r.params.drop 16)) ∧
      h = g.load (patch b 8 (slice g.save 8 56))) ∧ (∀ j, j ≠ dpKey r.params → Tab.find t.fw.slots j = Tab.find s.fw.slots j) ∧
    t.mbx.running = none ∧ t = { s with fw := { s.fw with slots := t.fw.slots, saved := t.fw.saved }, mbx := t.mbx, intr := t.intr, out := t.out }) ∧
  (∀ s r g l, mbxIs s 0x76 = some r → dbgFail s (dbgSrc r) 0x76 r.params = none → Tab.find s.fw.slots (dpKey r.params) = some g → launchOf s g.q g.i = some l → Answers .dbgKill s fun t =>
    Tab.find t.fw.slots (dpKey r.params) = none ∧ (∀ j, j ≠ dpKey r.params → Tab.find t.fw.slots j = Tab.find s.fw.slots j) ∧
    (∃ m, launchOf t g.q g.i = some m ∧ g.index ∈ m.retired) ∧ t.mbx.running = none) ∧
  (∀ s r g, mbxIs s 0x77 = some r → dbgFail s (dbgSrc r) 0x77 r.params = none → Tab.find s.fw.slots (dpKey r.params) = some g →
    (∀ l, Tab.find s.fw.breaks (dpKey r.params) = some l → l.length = 4) → Answers .dbgBreak s fun t =>
    (∃ l, Tab.find t.fw.breaks (dpKey r.params) = some l ∧ l[getLE r.params 2 2]? = some (if getLE r.params 4 8 = 0 then none else some (getLE r.params 4 8))) ∧
    (∀ j, j ≠ dpKey r.params → Tab.find t.fw.breaks j = Tab.find s.fw.breaks j) ∧
    t = { s with fw := { s.fw with breaks := t.fw.breaks }, mbx := t.mbx, intr := t.intr, out := t.out }) ∧
  (∀ s r, mbxIs s 0x78 = some r → dbgFail s (dbgSrc r) 0x78 r.params = none → Answers .dbgAttach s fun t => t.fw.dbg.src = some (dbgSrc r) ∧
    t.fw.dbg.haltTrap = bitN (getLE r.params 2 2) 0 ∧ t.fw.dbg.haltDtrap = bitN (getLE r.params 2 2) 1 ∧ s.fw.dbg.src = none ∧
    t = { s with fw := { s.fw with dbg := t.fw.dbg }, mbx := t.mbx, intr := t.intr, out := t.out }) ∧
  (∀ s r, mbxIs s 0x79 = some r → dbgFail s (dbgSrc r) 0x79 r.params = none → (∀ p ∈ s.fw.slots, p.2.st = .running) → Answers .dbgDetach s fun t =>
    t.fw.breaks = [] ∧ t.fw.dbg = { s.fw.dbg with src := none, haltTrap := false, haltDtrap := false } ∧
    t = { s with fw := { s.fw with breaks := [], dbg := t.fw.dbg }, mbx := t.mbx, intr := t.intr, out := t.out }) ∧
  (∀ s r k g, mbxIs s 0x79 = some r → dbgFail s (dbgSrc r) 0x79 r.params = none → s.fw.slots = [(k, g)] → g.st = .halted → Answers .dbgDetach s fun t =>
    t.fw.dbg.src = none ∧ t.fw.slots = [(k, { g with st := .running, ranAt := s.sys.now, skipBreak := true, stepLeft := none })]) ∧
  (∀ s r k g l, mbxIs s 0x79 = some r → dbgFail s (dbgSrc r) 0x79 r.params = none → s.fw.slots = [(k, g)] → g.st = .dtrap →
    launchOf s g.q g.i = some l → Answers .dbgDetach s fun t => t.fw.dbg.src = none ∧ t.fw.slots = []) ∧
  (∀ s r st, mbxIs s 0x71 = some r → dbgFail s (dbgSrc r) 0x71 r.params = some st → Answers .dbgHalt s fun t => t = mbxDone s st []) ∧
  (∀ s n c p, offered s 27 = false → dbgFail s n c p = some Status.featureNotNegotiated) ∧
  (∀ s n p, offered s 27 = true → dpRange 0x71 p = true → coreIn s (dpCore p) = true → s.fw.dbg.src ≠ some n →
    dbgFail s n 0x71 p = some Status.notPermitted) ∧
  (∀ s n p, offered s 27 = true → dpRange 0x78 p = true → coreIn s (dpCore p) = true → s.fw.dbg.src.isSome = true →
    dbgFail s n 0x78 p = some Status.busy) ∧
  (∀ s b, tenderRuns s = true → b.length = 1040 → jtagFail s b = none → getLE b 0 1 = 0x78 → dbgFail s 2 0x78 (slice b 16 (getLE b 2 2)) = none →
    Answers (.fwdbgUpdateDr b) s fun t => t.fw.dbg.src = some 2 ∧ t.fw.jtag = rspBlock 0x78 (getLE b 4 4) Status.ok [] ∧
    t = { s with fw := { s.fw with dbg := t.fw.dbg, jtag := t.fw.jtag }, out := .fwdbg t.fw.jtag :: s.out }) ∧
  (∀ s b st, tenderRuns s = true → b.length = 1040 → jtagFail s b = some st → Answers (.fwdbgUpdateDr b) s fun t =>
    t.fw.jtag = rspBlock (getLE b 0 1) (getLE b 4 4) st [] ∧ t = { s with fw := { s.fw with jtag := t.fw.jtag }, out := .fwdbg t.fw.jtag :: s.out })

/-- Instances are created, changed, queried and destroyed (R383, R384, R387, R388). Model choices: logs 52 and 78. -/
def Obligations.InstanceCommandsActAsStated : Prop :=
  (∀ s v src p n i, instCmd s v 0x60 64 = .run src p → firstFail (instCreateChecks s src p) = none → (getLE p 0 2 = 0xFFFF → lowestInst s = some n) →
    (getLE p 0 2 ≠ 0xFFFF → n = getLE p 0 2) → layInst s p (if getLE p 2 1 = 1 then .partner else .manager) = some i → Answers (.instCreate v) s fun t =>
    Tab.find t.insts n = some i ∧ (∀ m, m ≠ n → Tab.find t.insts m = Tab.find s.insts m) ∧
    (∀ b, i.qpBase ≤ b → b < i.qpBase + i.qpBlk → Tab.find t.own.qp b = some n) ∧
    (∀ b, (b < i.qpBase ∨ i.qpBase + i.qpBlk ≤ b) → Tab.find t.own.qp b = Tab.find s.own.qp b) ∧
    t = instReply { s with insts := t.insts, own := t.own } v 0x60 Status.ok (grantRec s n i)) ∧
  (∀ s p c i, layInst s p c = some i → i.cls = c ∧ i.destroying = none ∧ i.weight = getLE p 3 1 ∧ i.pasid = getLE p 4 4 ∧ i.qpBlk = getLE p 8 2 ∧
    i.wqBlk = getLE p 10 2 ∧ i.cqBlk = getLE p 12 2 ∧ i.fwSlots = getLE p 32 2 ∧ i.fwResv = getLE p 34 2 ∧ i.gran.length = getLE p 36 4 ∧
    (∀ g ∈ i.gran, ∀ x ∈ s.insts, g ∉ x.2.gran) ∧ i.txBurst = getLE p 44 2 ∧ i.cmdRate = getLE p 46 2) ∧
  (∀ s v src p n, instCmd s v 0x60 64 = .run src p → firstFail (instCreateChecks s src p) = none → getLE p 0 2 = n → n ≠ 0xFFFF →
    layInst s p (if getLE p 2 1 = 1 then .partner else .manager) = none → Answers (.instCreate v) s fun t => t = instReply s v 0x60 Status.noResource []) ∧
  (∀ s v src p st, instCmd s v 0x60 64 = .run src p → firstFail (instCreateChecks s src p) = some st → Answers (.instCreate v) s fun t =>
    t = instReply s v 0x60 st []) ∧
  (∀ s r, mbxIs s 0x60 = some r → instCmd s .mailbox 0x60 64 = .run (mbxSrc r) r.params) ∧
  (∀ s k tag p x, windowLive s = true → qualSess s (some k) = some x → fromManager s x = true → p.length = 64 → offered s 28 = true →
    instCmd s (.manager k tag p) 0x60 64 = .run .mctp p) ∧
  (∀ s k tag p, windowLive s = true → qualSess s (some k) = none → Answers (.instCreate (.manager k tag p)) s fun t =>
    t = instReply s (.manager k tag p) 0x60 Status.attestRequired []) ∧
  (∀ s v src p n i, instCmd s v 0x61 32 = .run src p → n = getLE p 0 2 → Tab.find s.insts n = some i → modifyFields s p i = true →
    firstFail (modifyChecks s src p n i) = none → Answers (.instModify v) s fun t =>
    (∃ j, Tab.find t.insts n = some j ∧ j.weight = (if bitN (getLE p 2 2) 0 = true then getLE p 4 1 else i.weight) ∧
      j.fwSlots = (if bitN (getLE p 2 2) 5 = true then getLE p 8 2 else i.fwSlots) ∧ j.qpBase = i.qpBase ∧ j.qpBlk = i.qpBlk ∧ j.cls = i.cls ∧
      j.gran.length = (if bitN (getLE p 2 2) 7 = true then getLE p 12 4 else i.gran.length)) ∧
    (∀ m, m ≠ n → Tab.find t.insts m = Tab.find s.insts m) ∧ t = { s with insts := t.insts, mbx := t.mbx, intr := t.intr, out := t.out }) ∧
  (∀ s v src p n i st, instCmd s v 0x61 32 = .run src p → n = getLE p 0 2 → Tab.find s.insts n = some i → modifyFields s p i = true →
    firstFail (modifyChecks s src p n i) = some st → Answers (.instModify v) s fun t => t = instReply s v 0x61 st []) ∧
  (∀ s v src p n, instCmd s v 0x62 16 = .run src p → n = getLE p 0 2 → bitN (getLE p 2 1) 0 = false → firstFail (destroyHead s src p) = none →
    instActive s n = true → instIdle s n = true → Answers (.instDestroyGraceful v) s fun t => Tab.find t.insts n = none ∧
    (∀ m, m ≠ n → (Tab.find t.insts m).isSome = (Tab.find s.insts m).isSome) ∧ (∀ b, Tab.find t.own.qp b ≠ some n) ∧
    (∀ x ∈ t.wqs, x.2.inst ≠ n) ∧ (∀ x ∈ t.cqs, x.2.inst ≠ n) ∧ (∀ x ∈ t.qps, x.2.kind = .rc → x.2.inst = n → x.2.st = .free)) ∧
  (∀ s v src p n, instCmd s v 0x62 16 = .run src p → n = getLE p 0 2 → bitN (getLE p 2 1) 0 = false → firstFail (destroyHead s src p) = none →
    (instActive s n = false ∨ instIdle s n = false) → Answers (.instDestroyGraceful v) s fun t => t = instReply s v 0x62 Status.busy []) ∧
  (∀ s v src p n, instCmd s v 0x62 16 = .run src p → n = getLE p 0 2 → bitN (getLE p 2 1) 0 = true → firstFail (destroyHead s src p) = none →
    instActive s n = true → cvOpen (cvRun (forceStart s v n) (fun k => k = n)) (fun k => k = n) = false →
    (cvRun (forceStart s v n) (fun k => k = n)).rxHeld = [] → Answers (.instDestroyForce v) s fun t => Tab.find t.insts n = none ∧
    (∀ x ∈ t.wqs, x.2.inst ≠ n) ∧ (∀ x ∈ t.cqs, x.2.inst ≠ n) ∧ (∀ x ∈ t.qps, x.2.kind = .rc → x.2.inst = n → x.2.st = .free)) ∧
  (∀ s v src p n, instCmd s v 0x62 16 = .run src p → n = getLE p 0 2 → bitN (getLE p 2 1) 0 = true → firstFail (destroyHead s src p) = none →
    Tab.find s.insts n = none → Answers (.instDestroyForce v) s fun t => t = instReply s v 0x62 Status.busy []) ∧
  (∀ s v src p, instCmd s v 0x63 16 = .run src p → getLE p 0 2 < instMax s → zeroIn p 2 14 = true → mayAct s src (getLE p 0 2) = true →
    Answers (.instQuery v) s fun t => t = instReply s v 0x63 Status.ok (match Tab.find s.insts (getLE p 0 2) with
      | some i => grantRec s (getLE p 0 2) i ++ paramRec (getLE p 0 2) i
      | none => zeros 128)) ∧
  (∀ s v src p, instCmd s v 0x63 16 = .run src p → getLE p 0 2 < instMax s → zeroIn p 2 14 = true → mayAct s src (getLE p 0 2) = false →
    Answers (.instQuery v) s fun t => t = instReply s v 0x63 Status.notPermitted [])

/-- Each completed voltage command places one entry in LV_VDONE (R69). For a running command: settling, timing out, a silent
AVSBus and a superseding command each place one entry with the tag and the status at the end of LV_VDONE; a FIFO of 8 loses
its oldest entry and LOST counts it, up to 127. -/
def Obligations.VoltageCompletionsFillTheFifo : Prop :=
  (∀ s c a b, s.lv.cmd = some c → c.target ≤ a + 3 → a ≤ c.target + 3 → c.target ≤ b + 3 → b ≤ c.target + 3 → Answers (.vcmdSettle a b) s fun t =>
    t.lv.cmd = none ∧ Queued s t c.tag Status.ok) ∧
  (∀ s c, s.lv.cmd = some c → Answers .vcmdTimeout s fun t => t.lv.cmd = none ∧ Queued s t c.tag Status.waitTimeout) ∧
  (∀ s c, s.lv.cmd = some c → Answers .avsbusSilent s fun t => t.lv.cmd = none ∧ Queued s t c.tag Status.retryExceeded) ∧
  (∀ s c w, s.lv.cmd = some c → windowLive s = true → Taken s w → noRsv w 0xFF00F000 = true → 700 ≤ fld w.data.toNat 11 0 →
    fld w.data.toNat 11 0 ≤ 800 → s.sys.fuses.vminMv ≤ fld w.data.toNat 11 0 → s.lv.ready = true → Answers (.lvVcmd w) s fun t =>
    (∃ d, t.lv.cmd = some d ∧ d.target = fld w.data.toNat 11 0 ∧ d.tag = fld w.data.toNat 23 16) ∧ Queued s t c.tag Status.superseded)

/-- HG_CQDB releases completion entries (R171). For an open completion queue and a full write: a value with a above 2^CQ_LOG2
is rejected with BAD_FIELD and nothing of the queue changes; a value ahead of CCI becomes CCI and frees as many reservations;
another value changes nothing. -/
def Obligations.CompletionDoorbellReleasesEntries : Prop :=
  (∀ s c w x, CqOpen s c w x → 2 ^ x.log2 < sub32 x.cpi w.data.toNat → Answers (.hgCqdb c w) s fun t =>
    t = reject s (cqAddr s c 0) none w Status.badField ∧ Tab.find t.cqs c = some x ∧ cqRsv t c = cqRsv s c) ∧
  (∀ s c w x, CqOpen s c w x → sub32 x.cpi w.data.toNat ≤ 2 ^ x.log2 → sub32 x.cpi w.data.toNat < sub32 x.cpi x.cci → Answers (.hgCqdb c w) s fun t =>
    Tab.find t.cqs c = some { x with cci := w.data.toNat } ∧
    cqRsv t c + (sub32 x.cpi x.cci - sub32 x.cpi w.data.toNat) = cqRsv s c ∧ t = { s with cqs := t.cqs }) ∧
  (∀ s c w x, CqOpen s c w x → sub32 x.cpi w.data.toNat ≤ 2 ^ x.log2 → sub32 x.cpi x.cci ≤ sub32 x.cpi w.data.toNat → Answers (.hgCqdb c w) s fun t =>
    t = s)

/-- Frame of the Furrow instructions (R343, R344, R345). What every Furrow instruction may change at all; but for STG, CPY and
ATOMG no memory is among it. -/
def Obligations.FurrowInstructionsKeepTheRestOfTheMachine : Prop :=
  (∀ c s t, (∃ core slot, c = .fwNop core slot ∨ c = .movi core slot ∨ c = .movu core slot ∨ c = .movs core slot ∨ c = .umov
    core slot ∨ c = .iadd core slot ∨ c = .isub core slot ∨ c = .imul core slot ∨ c = .imad core slot ∨ c = .and core slot ∨ c
    = .or core slot ∨ c = .xor core slot ∨ c = .shl core slot ∨ c = .shr core slot ∨ c = .sar core slot ∨ c = .imin core slot
    ∨ c = .imax core slot ∨ c = .icmp core slot ∨ c = .fadd core slot ∨ c = .fmul core slot ∨ c = .ffma core slot ∨ c = .fmin
    core slot ∨ c = .fmax core slot ∨ c = .fcmp core slot ∨ c = .frcp core slot ∨ c = .cvt core slot ∨ c = .mxunpk core slot ∨
    c = .mxpack core slot ∨ c = .vqdec core slot ∨ c = .vqenc core slot ∨ c = .shfl core slot ∨ c = .vote core slot ∨ c = .red
    core slot ∨ c = .ldl core slot ∨ c = .stl core slot ∨ c = .ldg core slot ∨ c = .lda core slot ∨ c = .fence core slot ∨ c =
    .bra core slot ∨ c = .call core slot ∨ c = .ret core slot ∨ c = .exit core slot ∨ c = .trap core slot ∨ c = .rte core slot
    ∨ c = .setres core slot ∨ c = .setstat core slot ∨ c = .sadd core slot ∨ c = .brk core slot) → exec c s = .next t → t = { s with
      sys := t.sys, clk := t.clk, log := t.log, infl := t.infl, spans := t.spans, pieces := t.pieces, pieceClock :=
      t.pieceClock, ats := t.ats, bx := t.bx, nextBx := t.nextBx, fw := t.fw, pt := t.pt, out := t.out }) ∧
  (∀ c s t, (∃ core slot, c = .stg core slot ∨ c = .cpy core slot ∨ c = .atomg core slot) → exec c s = .next t → t = { s with
      sys := t.sys, clk := t.clk, log := t.log, infl := t.infl, spans := t.spans, pieces := t.pieces, pieceClock :=
      t.pieceClock, ats := t.ats, bx := t.bx, nextBx := t.nextBx, fw := t.fw, pt := t.pt, hbm := t.hbm, plot := t.plot, pmem
      := t.pmem, out := t.out })

/-- Frame of the register and mailbox commands (R127, R130). For each command taken through a register or a mailbox: the state
fields it may change; every other field is as before. -/
def Obligations.RegisterCommandsChangeOnlyTheirOwnState : Prop :=
  (∀ c s t, (∃ w, c = .registerWrite w) → exec c s = .next t → t = { s with
      sys := t.sys, feat := t.feat, vp := t.vp, mbx := t.mbx, lv := t.lv, links := t.links, basin := t.basin, log := t.log,
      intr := t.intr, regs := t.regs, pages := t.pages, insts := t.insts, wqs := t.wqs, fw := t.fw, pt := t.pt, cv := t.cv,
      out := t.out }) ∧
  (∀ c s t, (∃ w, c = .vpWerrClear w ∨ c = .tnIntStatClear w ∨ c = .tnIntEnWrite w) → exec c s = .next t → t =
    { s with vp := t.vp, intr := t.intr, out := t.out }) ∧
  (∀ c s t, (∃ lay, c = .vapenBuilt lay) → exec c s = .next t → t = { s with
      boot := t.boot, feat := t.feat, vp := t.vp, mbx := t.mbx, mgr := t.mgr, log := t.log, intr := t.intr, out := t.out }) ∧
  (∀ c s t, (∃ w, c = .lvVcmd w) → exec c s = .next t → t =
    { s with vp := t.vp, lv := t.lv, intr := t.intr, out := t.out }) ∧
  (∀ c s t, c = .lvVdoneRead → exec c s = .next t → t =
    { s with lv := t.lv, rd := t.rd }) ∧
  (∀ c s t, c = .devtimeLoRead → exec c s = .next t → t =
    { s with sys := t.sys, rd := t.rd }) ∧
  (∀ c s t, ((∃ answers, c = .moduleRead answers) ∨ c = .cryptQuery ∨ c = .dbgList ∨ c = .dbgRead ∨ c = .slotQuery ∨ (∃ v, c =
    .instQuery v)) → exec c s = .next t → t =
    { s with mbx := t.mbx, intr := t.intr, out := t.out }) ∧
  (∀ c s t, (∃ m, c = .mctpRequest m) → exec c s = .next t → t =
    { s with mbx := t.mbx, clk := t.clk, intr := t.intr, out := t.out }) ∧
  (∀ c s t, (∃ answers, c = .moduleWrite answers) → exec c s = .next t → t =
    { s with mbx := t.mbx, ports := t.ports, intr := t.intr, out := t.out }) ∧
  (∀ c s t, (∃ link w, c = .slCalStart link w) → exec c s = .next t → t =
    { s with vp := t.vp, links := t.links, intr := t.intr, out := t.out }) ∧
  (∀ c s t, (∃ w, c = .roleCmdYield w) → exec c s = .next t → t =
    { s with vp := t.vp, basin := t.basin, mgr := t.mgr, log := t.log, intr := t.intr, out := t.out }) ∧
  (∀ c s t, (∃ w, c = .roleCmdRequestSwap w) → exec c s = .next t → t =
    { s with vp := t.vp, links := t.links, basin := t.basin, mgr := t.mgr, log := t.log, intr := t.intr, out := t.out }) ∧
  (∀ c s t, (∃ w, c = .roleCmdLeave w ∨ c = .roleCmdResetNotice w) → exec c s = .next t → t =
    { s with vp := t.vp, basin := t.basin, intr := t.intr, out := t.out }) ∧
  (∀ c s t, c = .heldCommandTimeout → exec c s = .next t → t =
    { s with sys := t.sys, mbx := t.mbx, mgr := t.mgr, wr := t.wr, intr := t.intr, insts := t.insts, out := t.out }) ∧
  (∀ c s t, (∃ w, c = .partnerHbArm w ∨ c = .partnerHbBeat w ∨ c = .partnerHbDisarm w) → exec c s = .next t → t =
    { s with vp := t.vp, intr := t.intr, pt := t.pt, out := t.out }) ∧
  (∀ c s t, (∃ k w, c = .culvertDoorbell k w) → exec c s = .next t → t = { s with
      vp := t.vp, clk := t.clk, log := t.log, intr := t.intr, spans := t.spans, pieces := t.pieces, pieceClock :=
      t.pieceClock, ats := t.ats, bx := t.bx, nextBx := t.nextBx, pt := t.pt, cv := t.cv, hbm := t.hbm, plot := t.plot, pmem
      := t.pmem, out := t.out }) ∧
  (∀ c s t, (∃ k w, c = .cvPoolDisable k w) → exec c s = .next t → t =
    { s with vp := t.vp, intr := t.intr, regs := t.regs, out := t.out }) ∧
  (∀ c s t, (∃ w, c = .cvOvfRegister w) → exec c s = .next t → t =
    { s with vp := t.vp, basin := t.basin, intr := t.intr, regs := t.regs, out := t.out }) ∧
  (∀ c s t, (∃ q w, c = .hgDb q w) → exec c s = .next t → t =
    { s with vp := t.vp, clk := t.clk, intr := t.intr, wqs := t.wqs, out := t.out }) ∧
  (∀ c s t, (∃ q w, c = .hgInvRelease q w ∨ c = .hgQctrlEnable q w) → exec c s = .next t → t =
    { s with vp := t.vp, intr := t.intr, wqs := t.wqs, out := t.out }) ∧
  (∀ c s t, ((∃ win p, c = .pushWrite win p) ∨ (∃ q w, c = .hgInvFence q w ∨ c = .hgQctrlDisable q w)) → exec c s = .next t →
    t = { s with
      vp := t.vp, clk := t.clk, log := t.log, intr := t.intr, wqs := t.wqs, spans := t.spans, pieces := t.pieces, pieceClock
      := t.pieceClock, ats := t.ats, bx := t.bx, nextBx := t.nextBx, pt := t.pt, hbm := t.hbm, plot := t.plot, pmem :=
      t.pmem, out := t.out }) ∧
  (∀ c s t, (∃ inst w, c = .hgQcmdCreate inst w ∨ c = .hgQcmdDestroy inst w) → exec c s = .next t → t =
    { s with vp := t.vp, intr := t.intr, pages := t.pages, own := t.own, insts := t.insts, wqs := t.wqs, out := t.out }) ∧
  (∀ c s t, (∃ inst w, c = .hgQcmdReset inst w ∨ c = .hgQcmdModify inst w ∨ c = .gateSet inst w ∨ c = .gateClear inst w) →
    exec c s = .next t → t =
    { s with vp := t.vp, intr := t.intr, pages := t.pages, insts := t.insts, wqs := t.wqs, out := t.out }) ∧
  (∀ c s t, (∃ inst w, c = .hgCcmdCreate inst w ∨ c = .hgCcmdDestroy inst w) → exec c s = .next t → t =
    { s with vp := t.vp, intr := t.intr, pages := t.pages, own := t.own, insts := t.insts, cqs := t.cqs, out := t.out }) ∧
  (∀ c s t, (∃ inst w, c = .hgCcmdReset inst w) → exec c s = .next t → t =
    { s with vp := t.vp, intr := t.intr, pages := t.pages, insts := t.insts, cqs := t.cqs, out := t.out }) ∧
  (∀ c s t, (∃ core w, c = .hgCqdb core w ∨ c = .hgCqarm core w) → exec c s = .next t → t =
    { s with vp := t.vp, intr := t.intr, cqs := t.cqs, out := t.out }) ∧
  (∀ c s t, (∃ inst w, c = .spCreate inst w) → exec c s = .next t → t =
    { s with vp := t.vp, intr := t.intr, pages := t.pages, own := t.own, insts := t.insts, spans := t.spans, out := t.out }) ∧
  (∀ c s t, (∃ inst w, c = .spDestroy inst w) → exec c s = .next t → t = { s with
      vp := t.vp, log := t.log, intr := t.intr, pages := t.pages, own := t.own, insts := t.insts, spans := t.spans, pieces
      := t.pieces, pieceClock := t.pieceClock, out := t.out }) ∧
  (∀ c s t, (∃ inst w, c = .spQuery inst w) → exec c s = .next t → t =
    { s with vp := t.vp, log := t.log, intr := t.intr, pages := t.pages, insts := t.insts, spans := t.spans, out := t.out }) ∧
  (∀ c s t, (∃ inst w, c = .ktQuery inst w ∨ c = .ktInvalidate inst w) → exec c s = .next t → t =
    { s with vp := t.vp, log := t.log, intr := t.intr, pages := t.pages, insts := t.insts, keys := t.keys, out := t.out }) ∧
  (∀ c s t, (∃ inst w, c = .slQpQuery inst w ∨ c = .wrQuery inst w ∨ c = .gateQuery inst w ∨ c = .rnGcmdQuery inst w ∨ c =
    .cbScmdQuery inst w) → exec c s = .next t → t =
    { s with vp := t.vp, intr := t.intr, pages := t.pages, insts := t.insts, out := t.out }) ∧
  (∀ c s t, (∃ inst w, c = .ktCreate inst w) → exec c s = .next t → t =
    { s with vp := t.vp, intr := t.intr, pages := t.pages, own := t.own, insts := t.insts, keys := t.keys, out := t.out }) ∧
  (∀ c s t, (∃ inst w, c = .slQpCreate inst w) → exec c s = .next t → t =
    { s with vp := t.vp, intr := t.intr, pages := t.pages, own := t.own, insts := t.insts, qps := t.qps, out := t.out }) ∧
  (∀ c s t, (∃ inst w, c = .slQpConnect inst w ∨ c = .slQpReset inst w ∨ c = .slQpDestroy inst w) → exec c s = .next t → t =
    { s with vp := t.vp, intr := t.intr, pages := t.pages, insts := t.insts, qps := t.qps, out := t.out }) ∧
  (∀ c s t, (∃ inst w, c = .slQpFailover inst w) → exec c s = .next t → t = { s with
      sys := t.sys, vp := t.vp, links := t.links, wr := t.wr, intr := t.intr, pages := t.pages, insts := t.insts, qps :=
      t.qps, linkStats := t.linkStats, out := t.out }) ∧
  (∀ c s t, (∃ w, c = .wrSnapGo w) → exec c s = .next t → t =
    { s with vp := t.vp, wr := t.wr, intr := t.intr, out := t.out }) ∧
  (∀ c s t, (∃ link, c = .qdepthMaxRead link) → exec c s = .next t → t =
    { s with wr := t.wr, rd := t.rd }) ∧
  (∀ c s t, (∃ inst w, c = .sySet inst w ∨ c = .syAdd inst w) → exec c s = .next t → t = { s with
      vp := t.vp, clk := t.clk, log := t.log, intr := t.intr, pages := t.pages, insts := t.insts, wqs := t.wqs, infl :=
      t.infl, sy := t.sy, out := t.out }) ∧
  (∀ c s t, (∃ inst w, c = .syShare inst w ∨ c = .syUnshare inst w) → exec c s = .next t → t =
    { s with vp := t.vp, intr := t.intr, pages := t.pages, insts := t.insts, sy := t.sy, out := t.out }) ∧
  (∀ c s t, (∃ inst w, c = .rnGcmdCreate inst w) → exec c s = .next t → t = { s with
      vp := t.vp, clk := t.clk, log := t.log, intr := t.intr, pages := t.pages, insts := t.insts, spans := t.spans, keys :=
      t.keys, pieces := t.pieces, pieceClock := t.pieceClock, ats := t.ats, bx := t.bx, nextBx := t.nextBx, qps := t.qps,
      groups := t.groups, pt := t.pt, out := t.out }) ∧
  (∀ c s t, (∃ inst w, c = .rnGcmdDestroy inst w) → exec c s = .next t → t = { s with
      vp := t.vp, intr := t.intr, pages := t.pages, insts := t.insts, qps := t.qps, groups := t.groups, fw := t.fw, out :=
      t.out }) ∧
  (∀ c s t, (∃ inst w, c = .rnGcmdReset inst w) → exec c s = .next t → t =
    { s with vp := t.vp, intr := t.intr, pages := t.pages, insts := t.insts, groups := t.groups, out := t.out }) ∧
  (∀ c s t, (c = .dbgHalt ∨ c = .dbgStep ∨ c = .dbgWrite ∨ c = .dbgBreak ∨ c = .dbgAttach) → exec c s = .next t → t =
    { s with mbx := t.mbx, intr := t.intr, fw := t.fw, out := t.out }) ∧
  (∀ c s t, c = .dbgResume → exec c s = .next t → t =
    { s with mbx := t.mbx, log := t.log, intr := t.intr, infl := t.infl, fw := t.fw, out := t.out }) ∧
  (∀ c s t, (c = .dbgKill ∨ c = .dbgDetach) → exec c s = .next t → t =
    { s with mbx := t.mbx, intr := t.intr, infl := t.infl, fw := t.fw, out := t.out }) ∧
  (∀ c s t, (∃ inst w, c = .cbScmdClear inst w) → exec c s = .next t → t =
    { s with vp := t.vp, intr := t.intr, pages := t.pages, insts := t.insts, cbs := t.cbs, out := t.out }) ∧
  (∀ c s t, (∃ v, c = .instCreate v) → exec c s = .next t → t =
    { s with mbx := t.mbx, intr := t.intr, own := t.own, insts := t.insts, out := t.out }) ∧
  (∀ c s t, (∃ v, c = .instModify v) → exec c s = .next t → t =
    { s with mbx := t.mbx, intr := t.intr, insts := t.insts, out := t.out }) ∧
  (∀ c s t, (∃ v, c = .instDestroyGraceful v) → exec c s = .next t → t = { s with
      mbx := t.mbx, intr := t.intr, regs := t.regs, pages := t.pages, own := t.own, insts := t.insts, wqs := t.wqs, cqs :=
      t.cqs, infl := t.infl, spans := t.spans, keys := t.keys, pieces := t.pieces, pieceClock := t.pieceClock, allocs :=
      t.allocs, qps := t.qps, sy := t.sy, syPend := t.syPend, groups := t.groups, fw := t.fw, cbs := t.cbs, cv := t.cv, out
      := t.out }) ∧
  (∀ c s t, (∃ v, c = .instDestroyForce v) → exec c s = .next t → t = { s with
      sys := t.sys, mbx := t.mbx, clk := t.clk, links := t.links, basin := t.basin, wr := t.wr, log := t.log, intr :=
      t.intr, regs := t.regs, pages := t.pages, own := t.own, insts := t.insts, wqs := t.wqs, cqs := t.cqs, infl := t.infl,
      spans := t.spans, keys := t.keys, pieces := t.pieces, pieceClock := t.pieceClock, ats := t.ats, bx := t.bx, nextBx :=
      t.nextBx, allocs := t.allocs, qps := t.qps, shadows := t.shadows, rxHeld := t.rxHeld, linkStats := t.linkStats,
      decryptFails := t.decryptFails, sy := t.sy, syPend := t.syPend, groups := t.groups, rn := t.rn, fw := t.fw, cbs :=
      t.cbs, pt := t.pt, cv := t.cv, hbm := t.hbm, plot := t.plot, pmem := t.pmem, out := t.out }) ∧
  (∀ c s t, (∃ w, c = .tnMbxGo w) → exec c s = .next t → t =
    { s with vp := t.vp, mbx := t.mbx, clk := t.clk, intr := t.intr, out := t.out }) ∧
  (∀ c s t, c = .mbxCommandStart → exec c s = .next t → t = { s with
      mbx := t.mbx, clk := t.clk, mgr := t.mgr, log := t.log, intr := t.intr, pages := t.pages, insts := t.insts, spans :=
      t.spans, keys := t.keys, pieces := t.pieces, pieceClock := t.pieceClock, ats := t.ats, bx := t.bx, nextBx := t.nextBx,
      pt := t.pt, out := t.out }) ∧
  (∀ c s t, (∃ readBackOk, c = .slotWrite readBackOk) → exec c s = .next t → t =
    { s with sys := t.sys, flash := t.flash, mbx := t.mbx, intr := t.intr, out := t.out }) ∧
  (∀ c s t, (c = .slotSelectActive ∨ c = .slotSelectTry) → exec c s = .next t → t =
    { s with flash := t.flash, mbx := t.mbx, intr := t.intr, out := t.out }) ∧
  (∀ c s t, c = .imageLoad → exec c s = .next t → t =
    { s with boot := t.boot, vp := t.vp, mbx := t.mbx, intr := t.intr, out := t.out }) ∧
  (∀ c s t, c = .stageWrite → exec c s = .next t → t =
    { s with boot := t.boot, mbx := t.mbx, intr := t.intr, out := t.out }) ∧
  (∀ c s t, (∃ w, c = .featCommit w ∨ c = .featUncommit w) → exec c s = .next t → t =
    { s with boot := t.boot, feat := t.feat, vp := t.vp, intr := t.intr, out := t.out }) ∧
  (∀ c s t, (∃ w, c = .tnLogAckLoWrite w ∨ c = .tnLogAckHiWrite w ∨ c = .tnLogRselHiWrite w) → exec c s = .next t → t =
    { s with vp := t.vp, log := t.log, intr := t.intr, out := t.out }) ∧
  (∀ c s t, (∃ w, c = .selftestStart w) → exec c s = .next t → t =
    { s with vp := t.vp, intr := t.intr, st := t.st, out := t.out }) ∧
  (∀ c s t, (∃ reqId status data, c = .managerReply reqId status data) → exec c s = .next t → t = { s with
      mbx := t.mbx, clk := t.clk, mgr := t.mgr, log := t.log, intr := t.intr, spans := t.spans, pieces := t.pieces,
      pieceClock := t.pieceClock, ats := t.ats, bx := t.bx, nextBx := t.nextBx, allocs := t.allocs, pt := t.pt, hbm :=
      t.hbm, plot := t.plot, pmem := t.pmem, out := t.out })

/-- Frame of the events of boot, power, links, Basin, partner and security (spec/95_what_each_step_holds.md). For each event:
the state fields it may change; every other field is as before. -/
def Obligations.EventsChangeOnlyWhatTheyConcern : Prop :=
  (∀ c s t, (∃ straps, c = .coldRstNRise straps) → exec c s = .next t → t =
    { s with sys := t.sys, boot := t.boot, flash := t.flash, clk := t.clk }) ∧
  (∀ c s t, c = .bundleVerify → exec c s = .next t → t =
    { s with boot := t.boot, flash := t.flash, clk := t.clk }) ∧
  (∀ c s t, c = .firmwareRunning → exec c s = .next t → t =
    { s with boot := t.boot, lv := t.lv, out := t.out }) ∧
  (∀ c s t, c = .imageVerify → exec c s = .next t → t =
    { s with boot := t.boot, log := t.log }) ∧
  (∀ c s t, (∃ failed, c = .hbmTrained failed) → exec c s = .next t → t =
    { s with boot := t.boot, clk := t.clk, log := t.log }) ∧
  (∀ c s t, ((∃ tempC, c = .junctionOvertemp tempC) ∨ c = .warmRstNRise) → exec c s = .next t → t =
    { s with sys := t.sys }) ∧
  (∀ c s t, (c = .ppsInEdge ∨ (∃ m, c = .ptpMessage m) ∨ (∃ slot, c = .mapSlotExpiry slot)) → exec c s = .next t → t =
    { s with sys := t.sys, wr := t.wr, insts := t.insts, out := t.out }) ∧
  (∀ c s t, ((∃ region deltaMv, c = .gridExcursion region deltaMv) ∨ (∃ region samples, c = .disagree region samples) ∨ (∃ r1
    r2, c = .vcmdSettle r1 r2) ∨ c = .avsbusSilent) → exec c s = .next t → t =
    { s with lv := t.lv }) ∧
  (∀ c s t, (∃ unit samples, c = .ocThrottleEnter unit samples) → exec c s = .next t → t =
    { s with lv := t.lv, wr := t.wr }) ∧
  (∀ c s t, (∃ unit highest ns, c = .throttleExit unit highest ns) → exec c s = .next t → t =
    { s with lv := t.lv, clk := t.clk }) ∧
  (∀ c s t, (∃ unit, c = .ocPersist unit) → exec c s = .next t → t =
    { s with sys := t.sys, lv := t.lv, wr := t.wr, log := t.log, insts := t.insts, out := t.out }) ∧
  (∀ c s t, ((∃ region pairB readings, c = .senseOpen region pairB readings) ∨ (∃ region samples, c = .drop region samples) ∨
    (∃ faults, c = .pmbusPoll faults)) → exec c s = .next t → t =
    { s with lv := t.lv, log := t.log }) ∧
  (∀ c s t, c = .vcmdTimeout → exec c s = .next t → t =
    { s with sys := t.sys, lv := t.lv, wr := t.wr, insts := t.insts, out := t.out }) ∧
  (∀ c s t, ((∃ g, c = .blockGate g) ∨ (∃ b, c = .wakeEvent b)) → exec c s = .next t → t =
    { s with clk := t.clk }) ∧
  (∀ c s t, c = .furrowPllPowerDown → exec c s = .next t → t =
    { s with sys := t.sys, clk := t.clk, wr := t.wr, insts := t.insts, out := t.out }) ∧
  (∀ c s t, ((∃ port info, c = .moduleInsertion port info) ∨ (∃ port ans, c = .cmisPoll port ans)) → exec c s = .next t → t =
    { s with ports := t.ports, links := t.links, log := t.log }) ∧
  (∀ c s t, ((∃ link ns, c = .calIdleWindow link ns) ∨ (∃ link body, c = .enterAck link body)) → exec c s = .next t → t =
    { s with links := t.links }) ∧
  (∀ c s t, ((∃ link body, c = .enterNak link body ∨ c = .cancel link body ∨ c = .offer link body ∨ c = .enter link body ∨ c =
    .hello link body) ∨ (∃ link merge, c = .linkTrained link merge)) → exec c s = .next t → t =
    { s with links := t.links, out := t.out }) ∧
  (∀ c s t, (∃ link, c = .calComplete link ∨ c = .linkDown link) → exec c s = .next t → t =
    { s with links := t.links, log := t.log }) ∧
  (∀ c s t, (∃ link, c = .calDeferTimeout link ∨ c = .enterAckTimeout link ∨ c = .wakeWindowClose link) → exec c s = .next t →
    t =
    { s with sys := t.sys, links := t.links, wr := t.wr, log := t.log, insts := t.insts, out := t.out }) ∧
  (∀ c s t, (∃ link, c = .offerReplyTimeout link ∨ c = .masterIdleEnter link ∨ c = .wakeWindowOpen link ∨ c = .dormancyHoldEnd
    link) → exec c s = .next t → t =
    { s with sys := t.sys, links := t.links, wr := t.wr, insts := t.insts, out := t.out }) ∧
  (∀ c s t, (∃ link pass, c = .retrainLoopback link pass) → exec c s = .next t → t = { s with
      sys := t.sys, ports := t.ports, links := t.links, basin := t.basin, wr := t.wr, log := t.log, insts := t.insts, out :=
      t.out }) ∧
  (∀ c s t, (∃ link, c = .dormMissLimit link) → exec c s = .next t → t =
    { s with links := t.links, log := t.log, regs := t.regs }) ∧
  (∀ c s t, c = .heartbeatPeriod → exec c s = .next t → t = { s with
      sys := t.sys, links := t.links, basin := t.basin, mgr := t.mgr, wr := t.wr, own := t.own, insts := t.insts, infl :=
      t.infl, bx := t.bx, qps := t.qps, mirBlk := t.mirBlk, linkStats := t.linkStats, cv := t.cv, out := t.out }) ∧
  (∀ c s t, (∃ m, c = .heartbeat m ∨ c = .handover m) → exec c s = .next t → t =
    { s with links := t.links, basin := t.basin, mgr := t.mgr, log := t.log, out := t.out }) ∧
  (∀ c s t, (∃ m, c = .joinAck m) → exec c s = .next t → t = { s with
      links := t.links, basin := t.basin, mgr := t.mgr, log := t.log, spans := t.spans, pieces := t.pieces, plot := t.plot,
      out := t.out }) ∧
  (∀ c s t, (∃ m, c = .hbReply m) → exec c s = .next t → t =
    { s with mgr := t.mgr, out := t.out }) ∧
  (∀ c s t, (c = .managerMissing ∨ c = .unjoinedClaimStart) → exec c s = .next t → t = { s with
      sys := t.sys, links := t.links, basin := t.basin, mgr := t.mgr, wr := t.wr, log := t.log, insts := t.insts, out :=
      t.out }) ∧
  (∀ c s t, (c = .leaseExpiry ∨ c = .claimTimeout ∨ c = .leaveTimeout) → exec c s = .next t → t =
    { s with sys := t.sys, basin := t.basin, mgr := t.mgr, wr := t.wr, log := t.log, insts := t.insts, out := t.out }) ∧
  (∀ c s t, (c = .claimPeriod ∨ c = .heldCommandResend ∨ c = .configurationRequest ∨ c = .handoverPeriod ∨ c = .workerPeriod ∨
    (∃ slot, c = .basinQueryMap slot) ∨ (∃ slot handle, c = .basinQueryAlloc slot handle) ∨ (∃ tm, c = .getDigests tm) ∨ (∃ tm
    slot off len, c = .getCertificate tm slot off len) ∨ (∃ tm slot nonce, c = .challenge tm slot nonce ∨ c = .getMeasurements
    tm slot nonce)) → exec c s = .next t → t =
    { s with out := t.out }) ∧
  (∀ c s t, (∃ m, c = .claim m ∨ c = .revoke m) → exec c s = .next t → t =
    { s with basin := t.basin, mgr := t.mgr, log := t.log, out := t.out }) ∧
  (∀ c s t, (∃ m, c = .withdraw m ∨ c = .joinNak m ∨ c = .noticeAck m) → exec c s = .next t → t =
    { s with basin := t.basin, mgr := t.mgr }) ∧
  (∀ c s t, c = .yieldingTimeout → exec c s = .next t → t =
    { s with sys := t.sys, basin := t.basin, wr := t.wr, log := t.log, insts := t.insts, out := t.out }) ∧
  (∀ c s t, c = .hbParamSwitch → exec c s = .next t → t =
    { s with sys := t.sys, basin := t.basin, mgr := t.mgr, wr := t.wr, insts := t.insts, out := t.out }) ∧
  (∀ c s t, c = .joinRetry → exec c s = .next t → t =
    { s with basin := t.basin, out := t.out }) ∧
  (∀ c s t, (c = .joinTimeout ∨ c = .noticeTimeout ∨ (∃ basinWide, c = .recoveryWindowExpiry basinWide)) → exec c s = .next t
    → t =
    { s with sys := t.sys, basin := t.basin, wr := t.wr, insts := t.insts, out := t.out }) ∧
  (∀ c s t, (∃ m, c = .leaveAck m ∨ c = .lost m) → exec c s = .next t → t =
    { s with basin := t.basin, mgr := t.mgr, log := t.log }) ∧
  (∀ c s t, (∃ seq dir epoch, c = .directoryReplication seq dir epoch) → exec c s = .next t → t =
    { s with basin := t.basin, mgr := t.mgr, out := t.out }) ∧
  (∀ c s t, (c = .partnerHbExpiry ∨ (∃ line, c = .snoopTimeout line)) → exec c s = .next t → t =
    { s with sys := t.sys, basin := t.basin, wr := t.wr, log := t.log, insts := t.insts, pt := t.pt, out := t.out }) ∧
  (∀ c s t, (c = .partnerLinkDown ∨ c = .partnerFatalError ∨ c = .hostReset ∨ (∃ m, c = .ucieModuleLost m ∨ c =
    .tenderCoreFail m)) → exec c s = .next t → t =
    { s with basin := t.basin, log := t.log, pt := t.pt }) ∧
  (∀ c s t, (∃ tm, c = .partnerLinkTrained tm) → exec c s = .next t → t =
    { s with log := t.log, pt := t.pt }) ∧
  (∀ c s t, (∃ line store, c = .partnerSnoop line store) → exec c s = .next t → t =
    { s with pmem := t.pmem, out := t.out }) ∧
  (∀ c s t, (∃ a, c = .hdmAccess a) → exec c s = .next t → t =
    { s with links := t.links, qps := t.qps, pt := t.pt, plot := t.plot, out := t.out }) ∧
  (∀ c s t, (∃ core, c = .cqModTimeExpiry core) → exec c s = .next t → t =
    { s with sys := t.sys, wr := t.wr, insts := t.insts, cqs := t.cqs, out := t.out }) ∧
  (∀ c s t, (∃ index, c = .keyFree index) → exec c s = .next t → t =
    { s with pages := t.pages, insts := t.insts, keys := t.keys, pieceClock := t.pieceClock }) ∧
  (∀ c s t, (∃ qp, c = .ackDelayExpiry qp ∨ c = .resyncRepeat qp ∨ c = .failoverTimeExpiry qp) → exec c s = .next t → t = { s with
      sys := t.sys, links := t.links, wr := t.wr, insts := t.insts, qps := t.qps, linkStats := t.linkStats, out := t.out }) ∧
  (∀ c s t, (∃ qp, c = .rtoExpiry qp) → exec c s = .next t → t =
    { s with sys := t.sys, wr := t.wr, insts := t.insts, qps := t.qps, linkStats := t.linkStats, out := t.out }) ∧
  (∀ c s t, (∃ qp, c = .rnrDelayExpiry qp) → exec c s = .next t → t =
    { s with sys := t.sys, wr := t.wr, insts := t.insts, qps := t.qps, out := t.out }) ∧
  (∀ c s t, (∃ qp, c = .rateIdleReset qp ∨ c = .weirIntervalEnd qp) → exec c s = .next t → t =
    { s with sys := t.sys, clk := t.clk, wr := t.wr, insts := t.insts, qps := t.qps, out := t.out }) ∧
  (∀ c s t, c = .mapPeriodEnd → exec c s = .next t → t =
    { s with sys := t.sys, clk := t.clk, links := t.links, wr := t.wr, insts := t.insts, qps := t.qps, out := t.out }) ∧
  (∀ c s t, ((∃ tm, c = .getVersion tm ∨ c = .getCapabilities tm) ∨ (∃ tm a, c = .negotiateAlgorithms tm a) ∨ (∃ tm summary, c
    = .keyExchange tm summary) ∨ (∃ sess verifies, c = .finish sess verifies) ∨
    (∃ m, c = .keyUpdate m ∨ c = .endSession m)) → exec c s = .next t → t =
    { s with spdm := t.spdm, out := t.out }) ∧
  (∀ c s t, (∃ sess stream key, c = .ideKmKeyProg sess stream key) → exec c s = .next t → t =
    { s with pt := t.pt, out := t.out }) ∧
  (∀ c s t, (∃ sess m, c = .keyInstallInitial sess m ∨ c = .keyInstallRekey sess m ∨ c = .keyCommit sess m) → exec c s = .next
    t → t =
    { s with qps := t.qps, out := t.out }) ∧
  (∀ c s t, (∃ sess m, c = .cryptPolicy sess m ∨ c = .admitSet sess m) → exec c s = .next t → t =
    { s with policy := t.policy, out := t.out }) ∧
  (∀ c s t, (∃ slot b, c = .basinAttestFragment slot b) → exec c s = .next t → t =
    { s with spdm := t.spdm }) ∧
  (∀ c s t, (∃ q, c = .gateTimeoutExpiry q) → exec c s = .next t → t =
    { s with sys := t.sys, wr := t.wr, insts := t.insts, wqs := t.wqs, out := t.out }) ∧
  (∀ c s t, (∃ slot, c = .runnelRtoExpiry slot) → exec c s = .next t → t =
    { s with sys := t.sys, links := t.links, wr := t.wr, insts := t.insts, rn := t.rn, out := t.out }) ∧
  (∀ c s t, (∃ slot, c = .runnelAckDelayExpiry slot) → exec c s = .next t → t =
    { s with sys := t.sys, clk := t.clk, links := t.links, wr := t.wr, insts := t.insts, rn := t.rn, out := t.out }) ∧
  (∀ c s t, (∃ slot, c = .runnelStreamRestart slot) → exec c s = .next t → t =
    { s with sys := t.sys, links := t.links, wr := t.wr, log := t.log, insts := t.insts, rn := t.rn, out := t.out }) ∧
  (∀ c s t, (∃ q i, c = .groupStart q i) → exec c s = .next t → t =
    { s with clk := t.clk, fw := t.fw }) ∧
  (∀ c s t, (∃ core, c = .coreLost core) → exec c s = .next t → t =
    { s with basin := t.basin, log := t.log, insts := t.insts, fw := t.fw }) ∧
  (∀ c s t, (∃ slot, c = .cbSlotError slot) → exec c s = .next t → t =
    { s with log := t.log, cbs := t.cbs }) ∧
  (∀ c s t, c = .eventLogWrite → exec c s = .next t → t =
    { s with log := t.log, intr := t.intr, out := t.out })

/-- Frame of entries, packets, collectives and the manager's turns (spec/95_what_each_step_holds.md). For each of them: the
state fields it may change; every other field is as before; the memories are among them only where the row stores. -/
def Obligations.EntriesAndPacketsChangeOnlyTheDataPath : Prop :=
  (∀ c s t, (∃ serial, c = .workerLost serial ∨ c = .excuseExpiry serial) → exec c s = .next t → t = { s with
      sys := t.sys, links := t.links, basin := t.basin, mgr := t.mgr, wr := t.wr, log := t.log, own := t.own, insts :=
      t.insts, infl := t.infl, bx := t.bx, qps := t.qps, mirBlk := t.mirBlk, linkStats := t.linkStats, cv := t.cv, spdm :=
      t.spdm, out := t.out }) ∧
  (∀ c s t, ((∃ m, c = .grant m) ∨ c = .claimWaitElapsed ∨ (∃ m ev, c = .join m ev) ∨ (∃ plot, c = .promotion plot)) → exec c
    s = .next t → t = { s with
      sys := t.sys, links := t.links, basin := t.basin, mgr := t.mgr, wr := t.wr, log := t.log, own := t.own, insts :=
      t.insts, infl := t.infl, bx := t.bx, qps := t.qps, mirBlk := t.mirBlk, linkStats := t.linkStats, cv := t.cv, out :=
      t.out }) ∧
  (∀ c s t, (∃ m, c = .leave m) → exec c s = .next t → t = { s with
      sys := t.sys, links := t.links, basin := t.basin, mgr := t.mgr, wr := t.wr, own := t.own, insts := t.insts, infl :=
      t.infl, bx := t.bx, qps := t.qps, mirBlk := t.mirBlk, linkStats := t.linkStats, cv := t.cv, spdm := t.spdm, out :=
      t.out }) ∧
  (∀ c s t, ((∃ m, c = .resetNotice m) ∨ (∃ seq serial, c = .replicationAck seq serial ∨ c = .partnerAllocFree seq serial ∨ c
    = .overflowLengthReport seq serial) ∨ (∃ plot, c = .spareCopyDone plot) ∨ (∃ r, c = .basinAlloc r) ∨ (∃ r, c = .basinFree
    r) ∨ (∃ r, c = .basinPairPair r ∨ c = .basinPairMarkSpare r ∨ c = .basinPairUnmarkSpare r)) → exec c s = .next t → t = { s with
      sys := t.sys, links := t.links, basin := t.basin, mgr := t.mgr, wr := t.wr, own := t.own, insts := t.insts, infl :=
      t.infl, bx := t.bx, qps := t.qps, mirBlk := t.mirBlk, linkStats := t.linkStats, cv := t.cv, out := t.out }) ∧
  (∀ c s t, (∃ map, c = .plotMapFetched map) → exec c s = .next t → t = { s with
      sys := t.sys, clk := t.clk, links := t.links, basin := t.basin, wr := t.wr, log := t.log, pages := t.pages, own :=
      t.own, insts := t.insts, infl := t.infl, spans := t.spans, keys := t.keys, pieces := t.pieces, pieceClock :=
      t.pieceClock, ats := t.ats, bx := t.bx, nextBx := t.nextBx, qps := t.qps, shadows := t.shadows, mirBlk := t.mirBlk,
      rxHeld := t.rxHeld, linkStats := t.linkStats, decryptFails := t.decryptFails, groups := t.groups, pt := t.pt, cv :=
      t.cv, hbm := t.hbm, plot := t.plot, pmem := t.pmem, out := t.out }) ∧
  (∀ c s t, ((∃ line dirty, c = .backInvalidateAnswer line dirty) ∨ (∃ inst addr ans, c = .atsCompletion inst addr ans) ∨ (∃
    inst addr, c = .atsTimeout inst addr) ∨ (∃ index, c = .spanMoveDone index) ∨ (∃ link f, c = .rxWrite link f ∨ c =
    .rxWriteImm link f ∨ c = .rxReadReq link f ∨ c = .rxReadResp link f ∨ c = .rxSend link f ∨ c = .rxSendImm link f ∨ c =
    .rxAtomicFadd link f ∨ c = .rxAtomicCswap link f ∨ c = .rxAtomicResp link f ∨ c = .rxAck link f ∨ c = .rxNakSeq link f ∨ c
    = .rxNakRnr link f ∨ c = .rxNakReread link f ∨ c = .rxNakStatus link f ∨ c = .rxResync link f ∨ c = .rxResyncAck link f ∨
    c = .rxAbort link f ∨ c = .rxMark link f)) → exec c s = .next t → t = { s with
      sys := t.sys, clk := t.clk, links := t.links, basin := t.basin, wr := t.wr, log := t.log, pages := t.pages, insts :=
      t.insts, infl := t.infl, spans := t.spans, keys := t.keys, pieces := t.pieces, pieceClock := t.pieceClock, ats :=
      t.ats, bx := t.bx, nextBx := t.nextBx, qps := t.qps, shadows := t.shadows, rxHeld := t.rxHeld, linkStats :=
      t.linkStats, decryptFails := t.decryptFails, groups := t.groups, pt := t.pt, cv := t.cv, hbm := t.hbm, plot := t.plot,
      pmem := t.pmem, out := t.out }) ∧
  (∀ c s t, (∃ pasid addr len, c = .atsInvalidationRequest pasid addr len) → exec c s = .next t → t =
    { s with pieces := t.pieces, out := t.out }) ∧
  (∀ c s t, (∃ k slot, c = .culvertTransferDone k slot) → exec c s = .next t → t = { s with
      clk := t.clk, links := t.links, log := t.log, pages := t.pages, insts := t.insts, spans := t.spans, keys := t.keys,
      pieces := t.pieces, pieceClock := t.pieceClock, ats := t.ats, bx := t.bx, nextBx := t.nextBx, qps := t.qps, syPend :=
      t.syPend, pt := t.pt, cv := t.cv, hbm := t.hbm, plot := t.plot, pmem := t.pmem, out := t.out }) ∧
  (∀ c s t, (∃ stack, c = .stackLost stack) → exec c s = .next t → t = { s with
      clk := t.clk, basin := t.basin, log := t.log, wqs := t.wqs, infl := t.infl, spans := t.spans, keys := t.keys, qps :=
      t.qps, sy := t.sy, cbs := t.cbs, stacksLost := t.stacksLost, out := t.out }) ∧
  (∀ c s t, ((∃ q i, c = .descriptorFetch q i) ∨ (∃ q, c = .descriptorRetry q)) → exec c s = .next t → t = { s with
      clk := t.clk, log := t.log, wqs := t.wqs, spans := t.spans, pieces := t.pieces, pieceClock := t.pieceClock, ats :=
      t.ats, bx := t.bx, nextBx := t.nextBx, pt := t.pt, out := t.out }) ∧
  (∀ c s t, (∃ q, c = .entryAccept q) → exec c s = .next t → t =
    { s with clk := t.clk, insts := t.insts, wqs := t.wqs, infl := t.infl, accSeq := t.accSeq, sy := t.sy }) ∧
  (∀ c s t, (∃ q, c = .wqeComplete q) → exec c s = .next t → t = { s with
      clk := t.clk, log := t.log, insts := t.insts, wqs := t.wqs, cqs := t.cqs, infl := t.infl, spans := t.spans, pieces :=
      t.pieces, pieceClock := t.pieceClock, ats := t.ats, bx := t.bx, nextBx := t.nextBx, syPend := t.syPend, fw := t.fw, pt
      := t.pt, hbm := t.hbm, plot := t.plot, pmem := t.pmem, out := t.out }) ∧
  (∀ c s t, (∃ q, c = .queueErrorEntry q) → exec c s = .next t → t = { s with
      clk := t.clk, log := t.log, wqs := t.wqs, cqs := t.cqs, spans := t.spans, pieces := t.pieces, pieceClock :=
      t.pieceClock, ats := t.ats, bx := t.bx, nextBx := t.nextBx, pt := t.pt, hbm := t.hbm, plot := t.plot, pmem := t.pmem,
      out := t.out }) ∧
  (∀ c s t, (∃ q i, c = .nop q i) → exec c s = .next t → t =
    { s with infl := t.infl }) ∧
  (∀ c s t, (∃ q i, c = .write q i ∨ c = .writeImm q i ∨ c = .read q i ∨ c = .send q i ∨ c = .sendImm q i ∨ c = .atomicFadd q
    i ∨ c = .atomicCswap q i) → exec c s = .next t → t = { s with
      clk := t.clk, links := t.links, log := t.log, pages := t.pages, insts := t.insts, infl := t.infl, spans := t.spans,
      keys := t.keys, pieces := t.pieces, pieceClock := t.pieceClock, ats := t.ats, bx := t.bx, nextBx := t.nextBx, qps :=
      t.qps, pt := t.pt, out := t.out }) ∧
  (∀ c s t, (∃ q i, c = .recv q i) → exec c s = .next t → t =
    { s with log := t.log, pages := t.pages, insts := t.insts, infl := t.infl, keys := t.keys, pieceClock := t.pieceClock }) ∧
  (∀ c s t, (∃ q i, c = .prefetch q i) → exec c s = .next t → t = { s with
      clk := t.clk, log := t.log, pages := t.pages, insts := t.insts, infl := t.infl, spans := t.spans, keys := t.keys,
      pieces := t.pieces, pieceClock := t.pieceClock, ats := t.ats, out := t.out }) ∧
  (∀ c s t, (∃ q i, c = .adviseWillNeed q i) → exec c s = .next t → t = { s with
      log := t.log, pages := t.pages, insts := t.insts, infl := t.infl, spans := t.spans, keys := t.keys, pieces :=
      t.pieces, pieceClock := t.pieceClock, ats := t.ats, out := t.out }) ∧
  (∀ c s t, (∃ q i, c = .adviseDontNeed q i) → exec c s = .next t → t = { s with
      log := t.log, pages := t.pages, insts := t.insts, infl := t.infl, spans := t.spans, keys := t.keys, pieces := t.pieces }) ∧
  (∀ c s t, (∃ q i, c = .adviseReadMostly q i ∨ c = .advisePreferHbm q i ∨ c = .advisePreferPartner q i) → exec c s = .next t
    → t =
    { s with log := t.log, pages := t.pages, insts := t.insts, infl := t.infl, spans := t.spans, keys := t.keys }) ∧
  (∀ c s t, (∃ q i, c = .basinLoad q i ∨ c = .basinStore q i) → exec c s = .next t → t = { s with
      clk := t.clk, links := t.links, log := t.log, pages := t.pages, insts := t.insts, infl := t.infl, spans := t.spans,
      keys := t.keys, pieces := t.pieces, pieceClock := t.pieceClock, ats := t.ats, bx := t.bx, nextBx := t.nextBx, qps :=
      t.qps, pt := t.pt, hbm := t.hbm, plot := t.plot, pmem := t.pmem, out := t.out }) ∧
  (∀ c s t, (∃ q i, c = .allReduce q i ∨ c = .reduceScatter q i ∨ c = .allGather q i ∨ c = .broadcast q i ∨ c = .reduce q i ∨
    c = .allToAll q i ∨ c = .allToAllV q i ∨ c = .barrier q i) → exec c s = .next t → t = { s with
      sys := t.sys, clk := t.clk, links := t.links, wr := t.wr, log := t.log, pages := t.pages, insts := t.insts, infl :=
      t.infl, spans := t.spans, keys := t.keys, pieces := t.pieces, pieceClock := t.pieceClock, ats := t.ats, bx := t.bx,
      nextBx := t.nextBx, qps := t.qps, groups := t.groups, rn := t.rn, fw := t.fw, pt := t.pt, hbm := t.hbm, plot :=
      t.plot, pmem := t.pmem, out := t.out }) ∧
  (∀ c s t, (∃ q i, c = .kernelLaunch q i) → exec c s = .next t → t = { s with
      clk := t.clk, log := t.log, pages := t.pages, insts := t.insts, infl := t.infl, spans := t.spans, keys := t.keys,
      pieces := t.pieces, pieceClock := t.pieceClock, ats := t.ats, bx := t.bx, nextBx := t.nextBx, fw := t.fw, pt := t.pt,
      out := t.out }) ∧
  (∀ c s t, (∃ q i, c = .synkoAdd q i ∨ c = .synkoSet q i) → exec c s = .next t → t =
    { s with infl := t.infl, syPend := t.syPend }) ∧
  (∀ c s t, (∃ q i, c = .waitGe q i ∨ c = .armFire q i) → exec c s = .next t → t =
    { s with clk := t.clk, wqs := t.wqs, infl := t.infl }) ∧
  (∀ c s t, (∃ q i, c = .cbLoad q i) → exec c s = .next t → t = { s with
      clk := t.clk, log := t.log, pages := t.pages, insts := t.insts, infl := t.infl, spans := t.spans, keys := t.keys,
      pieces := t.pieces, pieceClock := t.pieceClock, ats := t.ats, bx := t.bx, nextBx := t.nextBx, cbs := t.cbs, pt :=
      t.pt, out := t.out }) ∧
  (∀ c s t, (∃ qp, c = .packetTransmit qp) → exec c s = .next t → t = { s with
      sys := t.sys, clk := t.clk, links := t.links, basin := t.basin, wr := t.wr, insts := t.insts, bx := t.bx, qps :=
      t.qps, linkStats := t.linkStats, pt := t.pt, out := t.out }) ∧
  (∀ c s t, (∃ qp, c = .retryTimeExpiry qp) → exec c s = .next t → t = { s with
      sys := t.sys, links := t.links, basin := t.basin, wr := t.wr, insts := t.insts, infl := t.infl, bx := t.bx, qps :=
      t.qps, linkStats := t.linkStats, groups := t.groups, cv := t.cv, out := t.out }) ∧
  (∀ c s t, (∃ n, c = .synkoApply n) → exec c s = .next t → t =
    { s with clk := t.clk, log := t.log, wqs := t.wqs, infl := t.infl, sy := t.sy, syPend := t.syPend, cv := t.cv }) ∧
  (∀ c s t, (∃ q i, c = .synkoDeadline q i) → exec c s = .next t → t =
    { s with sys := t.sys, wr := t.wr, insts := t.insts, infl := t.infl, out := t.out }) ∧
  (∀ c s t, (∃ g, c = .collData g ∨ c = .collAbort g ∨ c = .collTimeout g) → exec c s = .next t → t = { s with
      sys := t.sys, clk := t.clk, links := t.links, wr := t.wr, insts := t.insts, infl := t.infl, qps := t.qps, groups :=
      t.groups, rn := t.rn, fw := t.fw, out := t.out }) ∧
  (∀ c s t, ((∃ g, c = .collCredit g ∨ c = .collVote g ∨ c = .collCombineDone g) ∨ (∃ m, c = .runnelColl m ∨ c =
    .runnelCollAbort m ∨ c = .runnelAck m)) → exec c s = .next t → t = { s with
      sys := t.sys, clk := t.clk, links := t.links, wr := t.wr, log := t.log, insts := t.insts, infl := t.infl, spans :=
      t.spans, pieces := t.pieces, pieceClock := t.pieceClock, ats := t.ats, bx := t.bx, nextBx := t.nextBx, qps := t.qps,
      groups := t.groups, rn := t.rn, fw := t.fw, pt := t.pt, hbm := t.hbm, plot := t.plot, pmem := t.pmem, out := t.out }) ∧
  (∀ c s t, (∃ core slot, c = .watchdogExpiry core slot) → exec c s = .next t → t =
    { s with sys := t.sys, wr := t.wr, log := t.log, insts := t.insts, infl := t.infl, fw := t.fw, out := t.out }) ∧
  (∀ c s t, (∃ block, c = .fwdbgUpdateDr block) → exec c s = .next t → t =
    { s with log := t.log, infl := t.infl, fw := t.fw, out := t.out }) ∧
  (∀ c s t, (∃ failed, c = .selftestDone failed) → exec c s = .next t → t = { s with
      sys := t.sys, clk := t.clk, ports := t.ports, links := t.links, basin := t.basin, wr := t.wr, log := t.log, intr :=
      t.intr, st := t.st, pages := t.pages, insts := t.insts, infl := t.infl, spans := t.spans, keys := t.keys, pieces :=
      t.pieces, pieceClock := t.pieceClock, ats := t.ats, bx := t.bx, nextBx := t.nextBx, qps := t.qps, shadows :=
      t.shadows, rxHeld := t.rxHeld, linkStats := t.linkStats, decryptFails := t.decryptFails, groups := t.groups, rn :=
      t.rn, fw := t.fw, cbs := t.cbs, pt := t.pt, cv := t.cv, hbm := t.hbm, plot := t.plot, pmem := t.pmem, out := t.out })
end

