-- ==== Sys2Proof/Laws/State.lean ====
section
/-!
SUPPORT. One lemma per field for each shared update of State (Machine/Ops.lean): an update leaves every field it does not
write. Each is true by unfolding the record update, so that no later proof unfolds one.
-/
namespace Sys2Proof.Machine

/-! ### emit -/

/-- `emit` writes only this. -/
theorem emit_frame (s : State) (o : Out) : emit s o = { s with out := (emit s o).out } := rfl

@[simp] theorem emit_sys (s : State) (o : Out) : (emit s o).sys = s.sys := rfl
@[simp] theorem emit_boot (s : State) (o : Out) : (emit s o).boot = s.boot := rfl
@[simp] theorem emit_asleep (s : State) (o : Out) : (emit s o).asleep = s.asleep := rfl
@[simp] theorem emit_flash (s : State) (o : Out) : (emit s o).flash = s.flash := rfl
@[simp] theorem emit_feat (s : State) (o : Out) : (emit s o).feat = s.feat := rfl
@[simp] theorem emit_vp (s : State) (o : Out) : (emit s o).vp = s.vp := rfl
@[simp] theorem emit_mbx (s : State) (o : Out) : (emit s o).mbx = s.mbx := rfl
@[simp] theorem emit_lv (s : State) (o : Out) : (emit s o).lv = s.lv := rfl
@[simp] theorem emit_clk (s : State) (o : Out) : (emit s o).clk = s.clk := rfl
@[simp] theorem emit_ports (s : State) (o : Out) : (emit s o).ports = s.ports := rfl
@[simp] theorem emit_links (s : State) (o : Out) : (emit s o).links = s.links := rfl
@[simp] theorem emit_basin (s : State) (o : Out) : (emit s o).basin = s.basin := rfl
@[simp] theorem emit_mgr (s : State) (o : Out) : (emit s o).mgr = s.mgr := rfl
@[simp] theorem emit_policy (s : State) (o : Out) : (emit s o).policy = s.policy := rfl
@[simp] theorem emit_wr (s : State) (o : Out) : (emit s o).wr = s.wr := rfl
@[simp] theorem emit_log (s : State) (o : Out) : (emit s o).log = s.log := rfl
@[simp] theorem emit_intr (s : State) (o : Out) : (emit s o).intr = s.intr := rfl
@[simp] theorem emit_st (s : State) (o : Out) : (emit s o).st = s.st := rfl
@[simp] theorem emit_regs (s : State) (o : Out) : (emit s o).regs = s.regs := rfl
@[simp] theorem emit_pages (s : State) (o : Out) : (emit s o).pages = s.pages := rfl
@[simp] theorem emit_own (s : State) (o : Out) : (emit s o).own = s.own := rfl
@[simp] theorem emit_insts (s : State) (o : Out) : (emit s o).insts = s.insts := rfl
@[simp] theorem emit_wqs (s : State) (o : Out) : (emit s o).wqs = s.wqs := rfl
@[simp] theorem emit_cqs (s : State) (o : Out) : (emit s o).cqs = s.cqs := rfl
@[simp] theorem emit_infl (s : State) (o : Out) : (emit s o).infl = s.infl := rfl
@[simp] theorem emit_accSeq (s : State) (o : Out) : (emit s o).accSeq = s.accSeq := rfl
@[simp] theorem emit_spans (s : State) (o : Out) : (emit s o).spans = s.spans := rfl
@[simp] theorem emit_keys (s : State) (o : Out) : (emit s o).keys = s.keys := rfl
@[simp] theorem emit_pieces (s : State) (o : Out) : (emit s o).pieces = s.pieces := rfl
@[simp] theorem emit_pieceClock (s : State) (o : Out) : (emit s o).pieceClock = s.pieceClock := rfl
@[simp] theorem emit_ats (s : State) (o : Out) : (emit s o).ats = s.ats := rfl
@[simp] theorem emit_bx (s : State) (o : Out) : (emit s o).bx = s.bx := rfl
@[simp] theorem emit_nextBx (s : State) (o : Out) : (emit s o).nextBx = s.nextBx := rfl
@[simp] theorem emit_allocs (s : State) (o : Out) : (emit s o).allocs = s.allocs := rfl
@[simp] theorem emit_qps (s : State) (o : Out) : (emit s o).qps = s.qps := rfl
@[simp] theorem emit_shadows (s : State) (o : Out) : (emit s o).shadows = s.shadows := rfl
@[simp] theorem emit_mirBlk (s : State) (o : Out) : (emit s o).mirBlk = s.mirBlk := rfl
@[simp] theorem emit_rxHeld (s : State) (o : Out) : (emit s o).rxHeld = s.rxHeld := rfl
@[simp] theorem emit_linkStats (s : State) (o : Out) : (emit s o).linkStats = s.linkStats := rfl
@[simp] theorem emit_decryptFails (s : State) (o : Out) : (emit s o).decryptFails = s.decryptFails := rfl
@[simp] theorem emit_decryptHi (s : State) (o : Out) : (emit s o).decryptHi = s.decryptHi := rfl
@[simp] theorem emit_rdHi (s : State) (o : Out) : (emit s o).rdHi = s.rdHi := rfl
@[simp] theorem emit_sy (s : State) (o : Out) : (emit s o).sy = s.sy := rfl
@[simp] theorem emit_syPend (s : State) (o : Out) : (emit s o).syPend = s.syPend := rfl
@[simp] theorem emit_groups (s : State) (o : Out) : (emit s o).groups = s.groups := rfl
@[simp] theorem emit_rn (s : State) (o : Out) : (emit s o).rn = s.rn := rfl
@[simp] theorem emit_fw (s : State) (o : Out) : (emit s o).fw = s.fw := rfl
@[simp] theorem emit_cbs (s : State) (o : Out) : (emit s o).cbs = s.cbs := rfl
@[simp] theorem emit_pt (s : State) (o : Out) : (emit s o).pt = s.pt := rfl
@[simp] theorem emit_cv (s : State) (o : Out) : (emit s o).cv = s.cv := rfl
@[simp] theorem emit_spdm (s : State) (o : Out) : (emit s o).spdm = s.spdm := rfl
@[simp] theorem emit_hbm (s : State) (o : Out) : (emit s o).hbm = s.hbm := rfl
@[simp] theorem emit_plot (s : State) (o : Out) : (emit s o).plot = s.plot := rfl
@[simp] theorem emit_pmem (s : State) (o : Out) : (emit s o).pmem = s.pmem := rfl
@[simp] theorem emit_stacksLost (s : State) (o : Out) : (emit s o).stacksLost = s.stacksLost := rfl
@[simp] theorem emit_rd (s : State) (o : Out) : (emit s o).rd = s.rd := rfl
@[simp] theorem emit_pending (s : State) (o : Out) : (emit s o).pending = s.pending := rfl

/-! ### setNow -/

/-- `setNow` writes only this. -/
theorem setNow_frame (s : State) (t : Nat) : setNow s t =
    { s with sys := (setNow s t).sys, wr := (setNow s t).wr, insts := (setNow s t).insts, out := (setNow s t).out } := rfl

@[simp] theorem setNow_boot (s : State) (t : Nat) : (setNow s t).boot = s.boot := rfl
@[simp] theorem setNow_asleep (s : State) (t : Nat) : (setNow s t).asleep = s.asleep := rfl
@[simp] theorem setNow_flash (s : State) (t : Nat) : (setNow s t).flash = s.flash := rfl
@[simp] theorem setNow_feat (s : State) (t : Nat) : (setNow s t).feat = s.feat := rfl
@[simp] theorem setNow_vp (s : State) (t : Nat) : (setNow s t).vp = s.vp := rfl
@[simp] theorem setNow_mbx (s : State) (t : Nat) : (setNow s t).mbx = s.mbx := rfl
@[simp] theorem setNow_lv (s : State) (t : Nat) : (setNow s t).lv = s.lv := rfl
@[simp] theorem setNow_clk (s : State) (t : Nat) : (setNow s t).clk = s.clk := rfl
@[simp] theorem setNow_ports (s : State) (t : Nat) : (setNow s t).ports = s.ports := rfl
@[simp] theorem setNow_links (s : State) (t : Nat) : (setNow s t).links = s.links := rfl
@[simp] theorem setNow_basin (s : State) (t : Nat) : (setNow s t).basin = s.basin := rfl
@[simp] theorem setNow_mgr (s : State) (t : Nat) : (setNow s t).mgr = s.mgr := rfl
@[simp] theorem setNow_policy (s : State) (t : Nat) : (setNow s t).policy = s.policy := rfl
@[simp] theorem setNow_log (s : State) (t : Nat) : (setNow s t).log = s.log := rfl
@[simp] theorem setNow_intr (s : State) (t : Nat) : (setNow s t).intr = s.intr := rfl
@[simp] theorem setNow_st (s : State) (t : Nat) : (setNow s t).st = s.st := rfl
@[simp] theorem setNow_regs (s : State) (t : Nat) : (setNow s t).regs = s.regs := rfl
@[simp] theorem setNow_pages (s : State) (t : Nat) : (setNow s t).pages = s.pages := rfl
@[simp] theorem setNow_own (s : State) (t : Nat) : (setNow s t).own = s.own := rfl
@[simp] theorem setNow_wqs (s : State) (t : Nat) : (setNow s t).wqs = s.wqs := rfl
@[simp] theorem setNow_cqs (s : State) (t : Nat) : (setNow s t).cqs = s.cqs := rfl
@[simp] theorem setNow_infl (s : State) (t : Nat) : (setNow s t).infl = s.infl := rfl
@[simp] theorem setNow_accSeq (s : State) (t : Nat) : (setNow s t).accSeq = s.accSeq := rfl
@[simp] theorem setNow_spans (s : State) (t : Nat) : (setNow s t).spans = s.spans := rfl
@[simp] theorem setNow_keys (s : State) (t : Nat) : (setNow s t).keys = s.keys := rfl
@[simp] theorem setNow_pieces (s : State) (t : Nat) : (setNow s t).pieces = s.pieces := rfl
@[simp] theorem setNow_pieceClock (s : State) (t : Nat) : (setNow s t).pieceClock = s.pieceClock := rfl
@[simp] theorem setNow_ats (s : State) (t : Nat) : (setNow s t).ats = s.ats := rfl
@[simp] theorem setNow_bx (s : State) (t : Nat) : (setNow s t).bx = s.bx := rfl
@[simp] theorem setNow_nextBx (s : State) (t : Nat) : (setNow s t).nextBx = s.nextBx := rfl
@[simp] theorem setNow_allocs (s : State) (t : Nat) : (setNow s t).allocs = s.allocs := rfl
@[simp] theorem setNow_qps (s : State) (t : Nat) : (setNow s t).qps = s.qps := rfl
@[simp] theorem setNow_shadows (s : State) (t : Nat) : (setNow s t).shadows = s.shadows := rfl
@[simp] theorem setNow_mirBlk (s : State) (t : Nat) : (setNow s t).mirBlk = s.mirBlk := rfl
@[simp] theorem setNow_rxHeld (s : State) (t : Nat) : (setNow s t).rxHeld = s.rxHeld := rfl
@[simp] theorem setNow_linkStats (s : State) (t : Nat) : (setNow s t).linkStats = s.linkStats := rfl
@[simp] theorem setNow_decryptFails (s : State) (t : Nat) : (setNow s t).decryptFails = s.decryptFails := rfl
@[simp] theorem setNow_decryptHi (s : State) (t : Nat) : (setNow s t).decryptHi = s.decryptHi := rfl
@[simp] theorem setNow_rdHi (s : State) (t : Nat) : (setNow s t).rdHi = s.rdHi := rfl
@[simp] theorem setNow_sy (s : State) (t : Nat) : (setNow s t).sy = s.sy := rfl
@[simp] theorem setNow_syPend (s : State) (t : Nat) : (setNow s t).syPend = s.syPend := rfl
@[simp] theorem setNow_groups (s : State) (t : Nat) : (setNow s t).groups = s.groups := rfl
@[simp] theorem setNow_rn (s : State) (t : Nat) : (setNow s t).rn = s.rn := rfl
@[simp] theorem setNow_fw (s : State) (t : Nat) : (setNow s t).fw = s.fw := rfl
@[simp] theorem setNow_cbs (s : State) (t : Nat) : (setNow s t).cbs = s.cbs := rfl
@[simp] theorem setNow_pt (s : State) (t : Nat) : (setNow s t).pt = s.pt := rfl
@[simp] theorem setNow_cv (s : State) (t : Nat) : (setNow s t).cv = s.cv := rfl
@[simp] theorem setNow_spdm (s : State) (t : Nat) : (setNow s t).spdm = s.spdm := rfl
@[simp] theorem setNow_hbm (s : State) (t : Nat) : (setNow s t).hbm = s.hbm := rfl
@[simp] theorem setNow_plot (s : State) (t : Nat) : (setNow s t).plot = s.plot := rfl
@[simp] theorem setNow_pmem (s : State) (t : Nat) : (setNow s t).pmem = s.pmem := rfl
@[simp] theorem setNow_stacksLost (s : State) (t : Nat) : (setNow s t).stacksLost = s.stacksLost := rfl
@[simp] theorem setNow_rd (s : State) (t : Nat) : (setNow s t).rd = s.rd := rfl
@[simp] theorem setNow_pending (s : State) (t : Nat) : (setNow s t).pending = s.pending := rfl

/-! ### advanceTo -/

/-- `advanceTo` writes only this. -/
theorem advanceTo_frame (s : State) (t : Nat) : advanceTo s t =
    { s with sys := (advanceTo s t).sys, wr := (advanceTo s t).wr, insts := (advanceTo s t).insts, out := (advanceTo s t).out } := rfl

@[simp] theorem advanceTo_boot (s : State) (t : Nat) : (advanceTo s t).boot = s.boot := rfl
@[simp] theorem advanceTo_asleep (s : State) (t : Nat) : (advanceTo s t).asleep = s.asleep := rfl
@[simp] theorem advanceTo_flash (s : State) (t : Nat) : (advanceTo s t).flash = s.flash := rfl
@[simp] theorem advanceTo_feat (s : State) (t : Nat) : (advanceTo s t).feat = s.feat := rfl
@[simp] theorem advanceTo_vp (s : State) (t : Nat) : (advanceTo s t).vp = s.vp := rfl
@[simp] theorem advanceTo_mbx (s : State) (t : Nat) : (advanceTo s t).mbx = s.mbx := rfl
@[simp] theorem advanceTo_lv (s : State) (t : Nat) : (advanceTo s t).lv = s.lv := rfl
@[simp] theorem advanceTo_clk (s : State) (t : Nat) : (advanceTo s t).clk = s.clk := rfl
@[simp] theorem advanceTo_ports (s : State) (t : Nat) : (advanceTo s t).ports = s.ports := rfl
@[simp] theorem advanceTo_links (s : State) (t : Nat) : (advanceTo s t).links = s.links := rfl
@[simp] theorem advanceTo_basin (s : State) (t : Nat) : (advanceTo s t).basin = s.basin := rfl
@[simp] theorem advanceTo_mgr (s : State) (t : Nat) : (advanceTo s t).mgr = s.mgr := rfl
@[simp] theorem advanceTo_policy (s : State) (t : Nat) : (advanceTo s t).policy = s.policy := rfl
@[simp] theorem advanceTo_log (s : State) (t : Nat) : (advanceTo s t).log = s.log := rfl
@[simp] theorem advanceTo_intr (s : State) (t : Nat) : (advanceTo s t).intr = s.intr := rfl
@[simp] theorem advanceTo_st (s : State) (t : Nat) : (advanceTo s t).st = s.st := rfl
@[simp] theorem advanceTo_regs (s : State) (t : Nat) : (advanceTo s t).regs = s.regs := rfl
@[simp] theorem advanceTo_pages (s : State) (t : Nat) : (advanceTo s t).pages = s.pages := rfl
@[simp] theorem advanceTo_own (s : State) (t : Nat) : (advanceTo s t).own = s.own := rfl
@[simp] theorem advanceTo_wqs (s : State) (t : Nat) : (advanceTo s t).wqs = s.wqs := rfl
@[simp] theorem advanceTo_cqs (s : State) (t : Nat) : (advanceTo s t).cqs = s.cqs := rfl
@[simp] theorem advanceTo_infl (s : State) (t : Nat) : (advanceTo s t).infl = s.infl := rfl
@[simp] theorem advanceTo_accSeq (s : State) (t : Nat) : (advanceTo s t).accSeq = s.accSeq := rfl
@[simp] theorem advanceTo_spans (s : State) (t : Nat) : (advanceTo s t).spans = s.spans := rfl
@[simp] theorem advanceTo_keys (s : State) (t : Nat) : (advanceTo s t).keys = s.keys := rfl
@[simp] theorem advanceTo_pieces (s : State) (t : Nat) : (advanceTo s t).pieces = s.pieces := rfl
@[simp] theorem advanceTo_pieceClock (s : State) (t : Nat) : (advanceTo s t).pieceClock = s.pieceClock := rfl
@[simp] theorem advanceTo_ats (s : State) (t : Nat) : (advanceTo s t).ats = s.ats := rfl
@[simp] theorem advanceTo_bx (s : State) (t : Nat) : (advanceTo s t).bx = s.bx := rfl
@[simp] theorem advanceTo_nextBx (s : State) (t : Nat) : (advanceTo s t).nextBx = s.nextBx := rfl
@[simp] theorem advanceTo_allocs (s : State) (t : Nat) : (advanceTo s t).allocs = s.allocs := rfl
@[simp] theorem advanceTo_qps (s : State) (t : Nat) : (advanceTo s t).qps = s.qps := rfl
@[simp] theorem advanceTo_shadows (s : State) (t : Nat) : (advanceTo s t).shadows = s.shadows := rfl
@[simp] theorem advanceTo_mirBlk (s : State) (t : Nat) : (advanceTo s t).mirBlk = s.mirBlk := rfl
@[simp] theorem advanceTo_rxHeld (s : State) (t : Nat) : (advanceTo s t).rxHeld = s.rxHeld := rfl
@[simp] theorem advanceTo_linkStats (s : State) (t : Nat) : (advanceTo s t).linkStats = s.linkStats := rfl
@[simp] theorem advanceTo_decryptFails (s : State) (t : Nat) : (advanceTo s t).decryptFails = s.decryptFails := rfl
@[simp] theorem advanceTo_decryptHi (s : State) (t : Nat) : (advanceTo s t).decryptHi = s.decryptHi := rfl
@[simp] theorem advanceTo_rdHi (s : State) (t : Nat) : (advanceTo s t).rdHi = s.rdHi := rfl
@[simp] theorem advanceTo_sy (s : State) (t : Nat) : (advanceTo s t).sy = s.sy := rfl
@[simp] theorem advanceTo_syPend (s : State) (t : Nat) : (advanceTo s t).syPend = s.syPend := rfl
@[simp] theorem advanceTo_groups (s : State) (t : Nat) : (advanceTo s t).groups = s.groups := rfl
@[simp] theorem advanceTo_rn (s : State) (t : Nat) : (advanceTo s t).rn = s.rn := rfl
@[simp] theorem advanceTo_fw (s : State) (t : Nat) : (advanceTo s t).fw = s.fw := rfl
@[simp] theorem advanceTo_cbs (s : State) (t : Nat) : (advanceTo s t).cbs = s.cbs := rfl
@[simp] theorem advanceTo_pt (s : State) (t : Nat) : (advanceTo s t).pt = s.pt := rfl
@[simp] theorem advanceTo_cv (s : State) (t : Nat) : (advanceTo s t).cv = s.cv := rfl
@[simp] theorem advanceTo_spdm (s : State) (t : Nat) : (advanceTo s t).spdm = s.spdm := rfl
@[simp] theorem advanceTo_hbm (s : State) (t : Nat) : (advanceTo s t).hbm = s.hbm := rfl
@[simp] theorem advanceTo_plot (s : State) (t : Nat) : (advanceTo s t).plot = s.plot := rfl
@[simp] theorem advanceTo_pmem (s : State) (t : Nat) : (advanceTo s t).pmem = s.pmem := rfl
@[simp] theorem advanceTo_stacksLost (s : State) (t : Nat) : (advanceTo s t).stacksLost = s.stacksLost := rfl
@[simp] theorem advanceTo_rd (s : State) (t : Nat) : (advanceTo s t).rd = s.rd := rfl
@[simp] theorem advanceTo_pending (s : State) (t : Nat) : (advanceTo s t).pending = s.pending := rfl

/-! ### freeStep -/

/-- `freeStep` writes only this. -/
theorem freeStep_frame (s : State) : freeStep s = { s with sys := (freeStep s).sys } := rfl

@[simp] theorem freeStep_boot (s : State) : (freeStep s).boot = s.boot := rfl
@[simp] theorem freeStep_asleep (s : State) : (freeStep s).asleep = s.asleep := rfl
@[simp] theorem freeStep_flash (s : State) : (freeStep s).flash = s.flash := rfl
@[simp] theorem freeStep_feat (s : State) : (freeStep s).feat = s.feat := rfl
@[simp] theorem freeStep_vp (s : State) : (freeStep s).vp = s.vp := rfl
@[simp] theorem freeStep_mbx (s : State) : (freeStep s).mbx = s.mbx := rfl
@[simp] theorem freeStep_lv (s : State) : (freeStep s).lv = s.lv := rfl
@[simp] theorem freeStep_clk (s : State) : (freeStep s).clk = s.clk := rfl
@[simp] theorem freeStep_ports (s : State) : (freeStep s).ports = s.ports := rfl
@[simp] theorem freeStep_links (s : State) : (freeStep s).links = s.links := rfl
@[simp] theorem freeStep_basin (s : State) : (freeStep s).basin = s.basin := rfl
@[simp] theorem freeStep_mgr (s : State) : (freeStep s).mgr = s.mgr := rfl
@[simp] theorem freeStep_policy (s : State) : (freeStep s).policy = s.policy := rfl
@[simp] theorem freeStep_wr (s : State) : (freeStep s).wr = s.wr := rfl
@[simp] theorem freeStep_log (s : State) : (freeStep s).log = s.log := rfl
@[simp] theorem freeStep_intr (s : State) : (freeStep s).intr = s.intr := rfl
@[simp] theorem freeStep_st (s : State) : (freeStep s).st = s.st := rfl
@[simp] theorem freeStep_regs (s : State) : (freeStep s).regs = s.regs := rfl
@[simp] theorem freeStep_pages (s : State) : (freeStep s).pages = s.pages := rfl
@[simp] theorem freeStep_own (s : State) : (freeStep s).own = s.own := rfl
@[simp] theorem freeStep_insts (s : State) : (freeStep s).insts = s.insts := rfl
@[simp] theorem freeStep_wqs (s : State) : (freeStep s).wqs = s.wqs := rfl
@[simp] theorem freeStep_cqs (s : State) : (freeStep s).cqs = s.cqs := rfl
@[simp] theorem freeStep_infl (s : State) : (freeStep s).infl = s.infl := rfl
@[simp] theorem freeStep_accSeq (s : State) : (freeStep s).accSeq = s.accSeq := rfl
@[simp] theorem freeStep_spans (s : State) : (freeStep s).spans = s.spans := rfl
@[simp] theorem freeStep_keys (s : State) : (freeStep s).keys = s.keys := rfl
@[simp] theorem freeStep_pieces (s : State) : (freeStep s).pieces = s.pieces := rfl
@[simp] theorem freeStep_pieceClock (s : State) : (freeStep s).pieceClock = s.pieceClock := rfl
@[simp] theorem freeStep_ats (s : State) : (freeStep s).ats = s.ats := rfl
@[simp] theorem freeStep_bx (s : State) : (freeStep s).bx = s.bx := rfl
@[simp] theorem freeStep_nextBx (s : State) : (freeStep s).nextBx = s.nextBx := rfl
@[simp] theorem freeStep_allocs (s : State) : (freeStep s).allocs = s.allocs := rfl
@[simp] theorem freeStep_qps (s : State) : (freeStep s).qps = s.qps := rfl
@[simp] theorem freeStep_shadows (s : State) : (freeStep s).shadows = s.shadows := rfl
@[simp] theorem freeStep_mirBlk (s : State) : (freeStep s).mirBlk = s.mirBlk := rfl
@[simp] theorem freeStep_rxHeld (s : State) : (freeStep s).rxHeld = s.rxHeld := rfl
@[simp] theorem freeStep_linkStats (s : State) : (freeStep s).linkStats = s.linkStats := rfl
@[simp] theorem freeStep_decryptFails (s : State) : (freeStep s).decryptFails = s.decryptFails := rfl
@[simp] theorem freeStep_decryptHi (s : State) : (freeStep s).decryptHi = s.decryptHi := rfl
@[simp] theorem freeStep_rdHi (s : State) : (freeStep s).rdHi = s.rdHi := rfl
@[simp] theorem freeStep_sy (s : State) : (freeStep s).sy = s.sy := rfl
@[simp] theorem freeStep_syPend (s : State) : (freeStep s).syPend = s.syPend := rfl
@[simp] theorem freeStep_groups (s : State) : (freeStep s).groups = s.groups := rfl
@[simp] theorem freeStep_rn (s : State) : (freeStep s).rn = s.rn := rfl
@[simp] theorem freeStep_fw (s : State) : (freeStep s).fw = s.fw := rfl
@[simp] theorem freeStep_cbs (s : State) : (freeStep s).cbs = s.cbs := rfl
@[simp] theorem freeStep_pt (s : State) : (freeStep s).pt = s.pt := rfl
@[simp] theorem freeStep_cv (s : State) : (freeStep s).cv = s.cv := rfl
@[simp] theorem freeStep_spdm (s : State) : (freeStep s).spdm = s.spdm := rfl
@[simp] theorem freeStep_hbm (s : State) : (freeStep s).hbm = s.hbm := rfl
@[simp] theorem freeStep_plot (s : State) : (freeStep s).plot = s.plot := rfl
@[simp] theorem freeStep_pmem (s : State) : (freeStep s).pmem = s.pmem := rfl
@[simp] theorem freeStep_stacksLost (s : State) : (freeStep s).stacksLost = s.stacksLost := rfl
@[simp] theorem freeStep_out (s : State) : (freeStep s).out = s.out := rfl
@[simp] theorem freeStep_rd (s : State) : (freeStep s).rd = s.rd := rfl
@[simp] theorem freeStep_pending (s : State) : (freeStep s).pending = s.pending := rfl

/-! ### setRd -/

/-- `setRd` writes only this. -/
theorem setRd_frame (s : State) (v : Nat) : setRd s v = { s with rd := (setRd s v).rd } := rfl

@[simp] theorem setRd_sys (s : State) (v : Nat) : (setRd s v).sys = s.sys := rfl
@[simp] theorem setRd_boot (s : State) (v : Nat) : (setRd s v).boot = s.boot := rfl
@[simp] theorem setRd_asleep (s : State) (v : Nat) : (setRd s v).asleep = s.asleep := rfl
@[simp] theorem setRd_flash (s : State) (v : Nat) : (setRd s v).flash = s.flash := rfl
@[simp] theorem setRd_feat (s : State) (v : Nat) : (setRd s v).feat = s.feat := rfl
@[simp] theorem setRd_vp (s : State) (v : Nat) : (setRd s v).vp = s.vp := rfl
@[simp] theorem setRd_mbx (s : State) (v : Nat) : (setRd s v).mbx = s.mbx := rfl
@[simp] theorem setRd_lv (s : State) (v : Nat) : (setRd s v).lv = s.lv := rfl
@[simp] theorem setRd_clk (s : State) (v : Nat) : (setRd s v).clk = s.clk := rfl
@[simp] theorem setRd_ports (s : State) (v : Nat) : (setRd s v).ports = s.ports := rfl
@[simp] theorem setRd_links (s : State) (v : Nat) : (setRd s v).links = s.links := rfl
@[simp] theorem setRd_basin (s : State) (v : Nat) : (setRd s v).basin = s.basin := rfl
@[simp] theorem setRd_mgr (s : State) (v : Nat) : (setRd s v).mgr = s.mgr := rfl
@[simp] theorem setRd_policy (s : State) (v : Nat) : (setRd s v).policy = s.policy := rfl
@[simp] theorem setRd_wr (s : State) (v : Nat) : (setRd s v).wr = s.wr := rfl
@[simp] theorem setRd_log (s : State) (v : Nat) : (setRd s v).log = s.log := rfl
@[simp] theorem setRd_intr (s : State) (v : Nat) : (setRd s v).intr = s.intr := rfl
@[simp] theorem setRd_st (s : State) (v : Nat) : (setRd s v).st = s.st := rfl
@[simp] theorem setRd_regs (s : State) (v : Nat) : (setRd s v).regs = s.regs := rfl
@[simp] theorem setRd_pages (s : State) (v : Nat) : (setRd s v).pages = s.pages := rfl
@[simp] theorem setRd_own (s : State) (v : Nat) : (setRd s v).own = s.own := rfl
@[simp] theorem setRd_insts (s : State) (v : Nat) : (setRd s v).insts = s.insts := rfl
@[simp] theorem setRd_wqs (s : State) (v : Nat) : (setRd s v).wqs = s.wqs := rfl
@[simp] theorem setRd_cqs (s : State) (v : Nat) : (setRd s v).cqs = s.cqs := rfl
@[simp] theorem setRd_infl (s : State) (v : Nat) : (setRd s v).infl = s.infl := rfl
@[simp] theorem setRd_accSeq (s : State) (v : Nat) : (setRd s v).accSeq = s.accSeq := rfl
@[simp] theorem setRd_spans (s : State) (v : Nat) : (setRd s v).spans = s.spans := rfl
@[simp] theorem setRd_keys (s : State) (v : Nat) : (setRd s v).keys = s.keys := rfl
@[simp] theorem setRd_pieces (s : State) (v : Nat) : (setRd s v).pieces = s.pieces := rfl
@[simp] theorem setRd_pieceClock (s : State) (v : Nat) : (setRd s v).pieceClock = s.pieceClock := rfl
@[simp] theorem setRd_ats (s : State) (v : Nat) : (setRd s v).ats = s.ats := rfl
@[simp] theorem setRd_bx (s : State) (v : Nat) : (setRd s v).bx = s.bx := rfl
@[simp] theorem setRd_nextBx (s : State) (v : Nat) : (setRd s v).nextBx = s.nextBx := rfl
@[simp] theorem setRd_allocs (s : State) (v : Nat) : (setRd s v).allocs = s.allocs := rfl
@[simp] theorem setRd_qps (s : State) (v : Nat) : (setRd s v).qps = s.qps := rfl
@[simp] theorem setRd_shadows (s : State) (v : Nat) : (setRd s v).shadows = s.shadows := rfl
@[simp] theorem setRd_mirBlk (s : State) (v : Nat) : (setRd s v).mirBlk = s.mirBlk := rfl
@[simp] theorem setRd_rxHeld (s : State) (v : Nat) : (setRd s v).rxHeld = s.rxHeld := rfl
@[simp] theorem setRd_linkStats (s : State) (v : Nat) : (setRd s v).linkStats = s.linkStats := rfl
@[simp] theorem setRd_decryptFails (s : State) (v : Nat) : (setRd s v).decryptFails = s.decryptFails := rfl
@[simp] theorem setRd_decryptHi (s : State) (v : Nat) : (setRd s v).decryptHi = s.decryptHi := rfl
@[simp] theorem setRd_rdHi (s : State) (v : Nat) : (setRd s v).rdHi = s.rdHi := rfl
@[simp] theorem setRd_sy (s : State) (v : Nat) : (setRd s v).sy = s.sy := rfl
@[simp] theorem setRd_syPend (s : State) (v : Nat) : (setRd s v).syPend = s.syPend := rfl
@[simp] theorem setRd_groups (s : State) (v : Nat) : (setRd s v).groups = s.groups := rfl
@[simp] theorem setRd_rn (s : State) (v : Nat) : (setRd s v).rn = s.rn := rfl
@[simp] theorem setRd_fw (s : State) (v : Nat) : (setRd s v).fw = s.fw := rfl
@[simp] theorem setRd_cbs (s : State) (v : Nat) : (setRd s v).cbs = s.cbs := rfl
@[simp] theorem setRd_pt (s : State) (v : Nat) : (setRd s v).pt = s.pt := rfl
@[simp] theorem setRd_cv (s : State) (v : Nat) : (setRd s v).cv = s.cv := rfl
@[simp] theorem setRd_spdm (s : State) (v : Nat) : (setRd s v).spdm = s.spdm := rfl
@[simp] theorem setRd_hbm (s : State) (v : Nat) : (setRd s v).hbm = s.hbm := rfl
@[simp] theorem setRd_plot (s : State) (v : Nat) : (setRd s v).plot = s.plot := rfl
@[simp] theorem setRd_pmem (s : State) (v : Nat) : (setRd s v).pmem = s.pmem := rfl
@[simp] theorem setRd_stacksLost (s : State) (v : Nat) : (setRd s v).stacksLost = s.stacksLost := rfl
@[simp] theorem setRd_out (s : State) (v : Nat) : (setRd s v).out = s.out := rfl
@[simp] theorem setRd_pending (s : State) (v : Nat) : (setRd s v).pending = s.pending := rfl

/-! ### putReg -/

/-- `putReg` writes only this. -/
theorem putReg_frame (s : State) (blk off w : Nat) : putReg s blk off w = { s with regs := (putReg s blk off w).regs } := rfl

@[simp] theorem putReg_sys (s : State) (blk off w : Nat) : (putReg s blk off w).sys = s.sys := rfl
@[simp] theorem putReg_boot (s : State) (blk off w : Nat) : (putReg s blk off w).boot = s.boot := rfl
@[simp] theorem putReg_asleep (s : State) (blk off w : Nat) : (putReg s blk off w).asleep = s.asleep := rfl
@[simp] theorem putReg_flash (s : State) (blk off w : Nat) : (putReg s blk off w).flash = s.flash := rfl
@[simp] theorem putReg_feat (s : State) (blk off w : Nat) : (putReg s blk off w).feat = s.feat := rfl
@[simp] theorem putReg_vp (s : State) (blk off w : Nat) : (putReg s blk off w).vp = s.vp := rfl
@[simp] theorem putReg_mbx (s : State) (blk off w : Nat) : (putReg s blk off w).mbx = s.mbx := rfl
@[simp] theorem putReg_lv (s : State) (blk off w : Nat) : (putReg s blk off w).lv = s.lv := rfl
@[simp] theorem putReg_clk (s : State) (blk off w : Nat) : (putReg s blk off w).clk = s.clk := rfl
@[simp] theorem putReg_ports (s : State) (blk off w : Nat) : (putReg s blk off w).ports = s.ports := rfl
@[simp] theorem putReg_links (s : State) (blk off w : Nat) : (putReg s blk off w).links = s.links := rfl
@[simp] theorem putReg_basin (s : State) (blk off w : Nat) : (putReg s blk off w).basin = s.basin := rfl
@[simp] theorem putReg_mgr (s : State) (blk off w : Nat) : (putReg s blk off w).mgr = s.mgr := rfl
@[simp] theorem putReg_policy (s : State) (blk off w : Nat) : (putReg s blk off w).policy = s.policy := rfl
@[simp] theorem putReg_wr (s : State) (blk off w : Nat) : (putReg s blk off w).wr = s.wr := rfl
@[simp] theorem putReg_log (s : State) (blk off w : Nat) : (putReg s blk off w).log = s.log := rfl
@[simp] theorem putReg_intr (s : State) (blk off w : Nat) : (putReg s blk off w).intr = s.intr := rfl
@[simp] theorem putReg_st (s : State) (blk off w : Nat) : (putReg s blk off w).st = s.st := rfl
@[simp] theorem putReg_pages (s : State) (blk off w : Nat) : (putReg s blk off w).pages = s.pages := rfl
@[simp] theorem putReg_own (s : State) (blk off w : Nat) : (putReg s blk off w).own = s.own := rfl
@[simp] theorem putReg_insts (s : State) (blk off w : Nat) : (putReg s blk off w).insts = s.insts := rfl
@[simp] theorem putReg_wqs (s : State) (blk off w : Nat) : (putReg s blk off w).wqs = s.wqs := rfl
@[simp] theorem putReg_cqs (s : State) (blk off w : Nat) : (putReg s blk off w).cqs = s.cqs := rfl
@[simp] theorem putReg_infl (s : State) (blk off w : Nat) : (putReg s blk off w).infl = s.infl := rfl
@[simp] theorem putReg_accSeq (s : State) (blk off w : Nat) : (putReg s blk off w).accSeq = s.accSeq := rfl
@[simp] theorem putReg_spans (s : State) (blk off w : Nat) : (putReg s blk off w).spans = s.spans := rfl
@[simp] theorem putReg_keys (s : State) (blk off w : Nat) : (putReg s blk off w).keys = s.keys := rfl
@[simp] theorem putReg_pieces (s : State) (blk off w : Nat) : (putReg s blk off w).pieces = s.pieces := rfl
@[simp] theorem putReg_pieceClock (s : State) (blk off w : Nat) : (putReg s blk off w).pieceClock = s.pieceClock := rfl
@[simp] theorem putReg_ats (s : State) (blk off w : Nat) : (putReg s blk off w).ats = s.ats := rfl
@[simp] theorem putReg_bx (s : State) (blk off w : Nat) : (putReg s blk off w).bx = s.bx := rfl
@[simp] theorem putReg_nextBx (s : State) (blk off w : Nat) : (putReg s blk off w).nextBx = s.nextBx := rfl
@[simp] theorem putReg_allocs (s : State) (blk off w : Nat) : (putReg s blk off w).allocs = s.allocs := rfl
@[simp] theorem putReg_qps (s : State) (blk off w : Nat) : (putReg s blk off w).qps = s.qps := rfl
@[simp] theorem putReg_shadows (s : State) (blk off w : Nat) : (putReg s blk off w).shadows = s.shadows := rfl
@[simp] theorem putReg_mirBlk (s : State) (blk off w : Nat) : (putReg s blk off w).mirBlk = s.mirBlk := rfl
@[simp] theorem putReg_rxHeld (s : State) (blk off w : Nat) : (putReg s blk off w).rxHeld = s.rxHeld := rfl
@[simp] theorem putReg_linkStats (s : State) (blk off w : Nat) : (putReg s blk off w).linkStats = s.linkStats := rfl
@[simp] theorem putReg_decryptFails (s : State) (blk off w : Nat) : (putReg s blk off w).decryptFails = s.decryptFails := rfl
@[simp] theorem putReg_decryptHi (s : State) (blk off w : Nat) : (putReg s blk off w).decryptHi = s.decryptHi := rfl
@[simp] theorem putReg_rdHi (s : State) (blk off w : Nat) : (putReg s blk off w).rdHi = s.rdHi := rfl
@[simp] theorem putReg_sy (s : State) (blk off w : Nat) : (putReg s blk off w).sy = s.sy := rfl
@[simp] theorem putReg_syPend (s : State) (blk off w : Nat) : (putReg s blk off w).syPend = s.syPend := rfl
@[simp] theorem putReg_groups (s : State) (blk off w : Nat) : (putReg s blk off w).groups = s.groups := rfl
@[simp] theorem putReg_rn (s : State) (blk off w : Nat) : (putReg s blk off w).rn = s.rn := rfl
@[simp] theorem putReg_fw (s : State) (blk off w : Nat) : (putReg s blk off w).fw = s.fw := rfl
@[simp] theorem putReg_cbs (s : State) (blk off w : Nat) : (putReg s blk off w).cbs = s.cbs := rfl
@[simp] theorem putReg_pt (s : State) (blk off w : Nat) : (putReg s blk off w).pt = s.pt := rfl
@[simp] theorem putReg_cv (s : State) (blk off w : Nat) : (putReg s blk off w).cv = s.cv := rfl
@[simp] theorem putReg_spdm (s : State) (blk off w : Nat) : (putReg s blk off w).spdm = s.spdm := rfl
@[simp] theorem putReg_hbm (s : State) (blk off w : Nat) : (putReg s blk off w).hbm = s.hbm := rfl
@[simp] theorem putReg_plot (s : State) (blk off w : Nat) : (putReg s blk off w).plot = s.plot := rfl
@[simp] theorem putReg_pmem (s : State) (blk off w : Nat) : (putReg s blk off w).pmem = s.pmem := rfl
@[simp] theorem putReg_stacksLost (s : State) (blk off w : Nat) : (putReg s blk off w).stacksLost = s.stacksLost := rfl
@[simp] theorem putReg_out (s : State) (blk off w : Nat) : (putReg s blk off w).out = s.out := rfl
@[simp] theorem putReg_rd (s : State) (blk off w : Nat) : (putReg s blk off w).rd = s.rd := rfl
@[simp] theorem putReg_pending (s : State) (blk off w : Nat) : (putReg s blk off w).pending = s.pending := rfl

/-! ### resetRegs -/

/-- `resetRegs` writes only this. -/
theorem resetRegs_frame (s : State) (f : Nat → Bool) : resetRegs s f = { s with regs := (resetRegs s f).regs } := rfl

@[simp] theorem resetRegs_sys (s : State) (f : Nat → Bool) : (resetRegs s f).sys = s.sys := rfl
@[simp] theorem resetRegs_boot (s : State) (f : Nat → Bool) : (resetRegs s f).boot = s.boot := rfl
@[simp] theorem resetRegs_asleep (s : State) (f : Nat → Bool) : (resetRegs s f).asleep = s.asleep := rfl
@[simp] theorem resetRegs_flash (s : State) (f : Nat → Bool) : (resetRegs s f).flash = s.flash := rfl
@[simp] theorem resetRegs_feat (s : State) (f : Nat → Bool) : (resetRegs s f).feat = s.feat := rfl
@[simp] theorem resetRegs_vp (s : State) (f : Nat → Bool) : (resetRegs s f).vp = s.vp := rfl
@[simp] theorem resetRegs_mbx (s : State) (f : Nat → Bool) : (resetRegs s f).mbx = s.mbx := rfl
@[simp] theorem resetRegs_lv (s : State) (f : Nat → Bool) : (resetRegs s f).lv = s.lv := rfl
@[simp] theorem resetRegs_clk (s : State) (f : Nat → Bool) : (resetRegs s f).clk = s.clk := rfl
@[simp] theorem resetRegs_ports (s : State) (f : Nat → Bool) : (resetRegs s f).ports = s.ports := rfl
@[simp] theorem resetRegs_links (s : State) (f : Nat → Bool) : (resetRegs s f).links = s.links := rfl
@[simp] theorem resetRegs_basin (s : State) (f : Nat → Bool) : (resetRegs s f).basin = s.basin := rfl
@[simp] theorem resetRegs_mgr (s : State) (f : Nat → Bool) : (resetRegs s f).mgr = s.mgr := rfl
@[simp] theorem resetRegs_policy (s : State) (f : Nat → Bool) : (resetRegs s f).policy = s.policy := rfl
@[simp] theorem resetRegs_wr (s : State) (f : Nat → Bool) : (resetRegs s f).wr = s.wr := rfl
@[simp] theorem resetRegs_log (s : State) (f : Nat → Bool) : (resetRegs s f).log = s.log := rfl
@[simp] theorem resetRegs_intr (s : State) (f : Nat → Bool) : (resetRegs s f).intr = s.intr := rfl
@[simp] theorem resetRegs_st (s : State) (f : Nat → Bool) : (resetRegs s f).st = s.st := rfl
@[simp] theorem resetRegs_pages (s : State) (f : Nat → Bool) : (resetRegs s f).pages = s.pages := rfl
@[simp] theorem resetRegs_own (s : State) (f : Nat → Bool) : (resetRegs s f).own = s.own := rfl
@[simp] theorem resetRegs_insts (s : State) (f : Nat → Bool) : (resetRegs s f).insts = s.insts := rfl
@[simp] theorem resetRegs_wqs (s : State) (f : Nat → Bool) : (resetRegs s f).wqs = s.wqs := rfl
@[simp] theorem resetRegs_cqs (s : State) (f : Nat → Bool) : (resetRegs s f).cqs = s.cqs := rfl
@[simp] theorem resetRegs_infl (s : State) (f : Nat → Bool) : (resetRegs s f).infl = s.infl := rfl
@[simp] theorem resetRegs_accSeq (s : State) (f : Nat → Bool) : (resetRegs s f).accSeq = s.accSeq := rfl
@[simp] theorem resetRegs_spans (s : State) (f : Nat → Bool) : (resetRegs s f).spans = s.spans := rfl
@[simp] theorem resetRegs_keys (s : State) (f : Nat → Bool) : (resetRegs s f).keys = s.keys := rfl
@[simp] theorem resetRegs_pieces (s : State) (f : Nat → Bool) : (resetRegs s f).pieces = s.pieces := rfl
@[simp] theorem resetRegs_pieceClock (s : State) (f : Nat → Bool) : (resetRegs s f).pieceClock = s.pieceClock := rfl
@[simp] theorem resetRegs_ats (s : State) (f : Nat → Bool) : (resetRegs s f).ats = s.ats := rfl
@[simp] theorem resetRegs_bx (s : State) (f : Nat → Bool) : (resetRegs s f).bx = s.bx := rfl
@[simp] theorem resetRegs_nextBx (s : State) (f : Nat → Bool) : (resetRegs s f).nextBx = s.nextBx := rfl
@[simp] theorem resetRegs_allocs (s : State) (f : Nat → Bool) : (resetRegs s f).allocs = s.allocs := rfl
@[simp] theorem resetRegs_qps (s : State) (f : Nat → Bool) : (resetRegs s f).qps = s.qps := rfl
@[simp] theorem resetRegs_shadows (s : State) (f : Nat → Bool) : (resetRegs s f).shadows = s.shadows := rfl
@[simp] theorem resetRegs_mirBlk (s : State) (f : Nat → Bool) : (resetRegs s f).mirBlk = s.mirBlk := rfl
@[simp] theorem resetRegs_rxHeld (s : State) (f : Nat → Bool) : (resetRegs s f).rxHeld = s.rxHeld := rfl
@[simp] theorem resetRegs_linkStats (s : State) (f : Nat → Bool) : (resetRegs s f).linkStats = s.linkStats := rfl
@[simp] theorem resetRegs_decryptFails (s : State) (f : Nat → Bool) : (resetRegs s f).decryptFails = s.decryptFails := rfl
@[simp] theorem resetRegs_decryptHi (s : State) (f : Nat → Bool) : (resetRegs s f).decryptHi = s.decryptHi := rfl
@[simp] theorem resetRegs_rdHi (s : State) (f : Nat → Bool) : (resetRegs s f).rdHi = s.rdHi := rfl
@[simp] theorem resetRegs_sy (s : State) (f : Nat → Bool) : (resetRegs s f).sy = s.sy := rfl
@[simp] theorem resetRegs_syPend (s : State) (f : Nat → Bool) : (resetRegs s f).syPend = s.syPend := rfl
@[simp] theorem resetRegs_groups (s : State) (f : Nat → Bool) : (resetRegs s f).groups = s.groups := rfl
@[simp] theorem resetRegs_rn (s : State) (f : Nat → Bool) : (resetRegs s f).rn = s.rn := rfl
@[simp] theorem resetRegs_fw (s : State) (f : Nat → Bool) : (resetRegs s f).fw = s.fw := rfl
@[simp] theorem resetRegs_cbs (s : State) (f : Nat → Bool) : (resetRegs s f).cbs = s.cbs := rfl
@[simp] theorem resetRegs_pt (s : State) (f : Nat → Bool) : (resetRegs s f).pt = s.pt := rfl
@[simp] theorem resetRegs_cv (s : State) (f : Nat → Bool) : (resetRegs s f).cv = s.cv := rfl
@[simp] theorem resetRegs_spdm (s : State) (f : Nat → Bool) : (resetRegs s f).spdm = s.spdm := rfl
@[simp] theorem resetRegs_hbm (s : State) (f : Nat → Bool) : (resetRegs s f).hbm = s.hbm := rfl
@[simp] theorem resetRegs_plot (s : State) (f : Nat → Bool) : (resetRegs s f).plot = s.plot := rfl
@[simp] theorem resetRegs_pmem (s : State) (f : Nat → Bool) : (resetRegs s f).pmem = s.pmem := rfl
@[simp] theorem resetRegs_stacksLost (s : State) (f : Nat → Bool) : (resetRegs s f).stacksLost = s.stacksLost := rfl
@[simp] theorem resetRegs_out (s : State) (f : Nat → Bool) : (resetRegs s f).out = s.out := rfl
@[simp] theorem resetRegs_rd (s : State) (f : Nat → Bool) : (resetRegs s f).rd = s.rd := rfl
@[simp] theorem resetRegs_pending (s : State) (f : Nat → Bool) : (resetRegs s f).pending = s.pending := rfl

/-! ### sendInt -/

/-- `sendInt` writes only this. -/
theorem sendInt_frame (s : State) : sendInt s = { s with out := (sendInt s).out } := rfl

@[simp] theorem sendInt_sys (s : State) : (sendInt s).sys = s.sys := rfl
@[simp] theorem sendInt_boot (s : State) : (sendInt s).boot = s.boot := rfl
@[simp] theorem sendInt_asleep (s : State) : (sendInt s).asleep = s.asleep := rfl
@[simp] theorem sendInt_flash (s : State) : (sendInt s).flash = s.flash := rfl
@[simp] theorem sendInt_feat (s : State) : (sendInt s).feat = s.feat := rfl
@[simp] theorem sendInt_vp (s : State) : (sendInt s).vp = s.vp := rfl
@[simp] theorem sendInt_mbx (s : State) : (sendInt s).mbx = s.mbx := rfl
@[simp] theorem sendInt_lv (s : State) : (sendInt s).lv = s.lv := rfl
@[simp] theorem sendInt_clk (s : State) : (sendInt s).clk = s.clk := rfl
@[simp] theorem sendInt_ports (s : State) : (sendInt s).ports = s.ports := rfl
@[simp] theorem sendInt_links (s : State) : (sendInt s).links = s.links := rfl
@[simp] theorem sendInt_basin (s : State) : (sendInt s).basin = s.basin := rfl
@[simp] theorem sendInt_mgr (s : State) : (sendInt s).mgr = s.mgr := rfl
@[simp] theorem sendInt_policy (s : State) : (sendInt s).policy = s.policy := rfl
@[simp] theorem sendInt_wr (s : State) : (sendInt s).wr = s.wr := rfl
@[simp] theorem sendInt_log (s : State) : (sendInt s).log = s.log := rfl
@[simp] theorem sendInt_intr (s : State) : (sendInt s).intr = s.intr := rfl
@[simp] theorem sendInt_st (s : State) : (sendInt s).st = s.st := rfl
@[simp] theorem sendInt_regs (s : State) : (sendInt s).regs = s.regs := rfl
@[simp] theorem sendInt_pages (s : State) : (sendInt s).pages = s.pages := rfl
@[simp] theorem sendInt_own (s : State) : (sendInt s).own = s.own := rfl
@[simp] theorem sendInt_insts (s : State) : (sendInt s).insts = s.insts := rfl
@[simp] theorem sendInt_wqs (s : State) : (sendInt s).wqs = s.wqs := rfl
@[simp] theorem sendInt_cqs (s : State) : (sendInt s).cqs = s.cqs := rfl
@[simp] theorem sendInt_infl (s : State) : (sendInt s).infl = s.infl := rfl
@[simp] theorem sendInt_accSeq (s : State) : (sendInt s).accSeq = s.accSeq := rfl
@[simp] theorem sendInt_spans (s : State) : (sendInt s).spans = s.spans := rfl
@[simp] theorem sendInt_keys (s : State) : (sendInt s).keys = s.keys := rfl
@[simp] theorem sendInt_pieces (s : State) : (sendInt s).pieces = s.pieces := rfl
@[simp] theorem sendInt_pieceClock (s : State) : (sendInt s).pieceClock = s.pieceClock := rfl
@[simp] theorem sendInt_ats (s : State) : (sendInt s).ats = s.ats := rfl
@[simp] theorem sendInt_bx (s : State) : (sendInt s).bx = s.bx := rfl
@[simp] theorem sendInt_nextBx (s : State) : (sendInt s).nextBx = s.nextBx := rfl
@[simp] theorem sendInt_allocs (s : State) : (sendInt s).allocs = s.allocs := rfl
@[simp] theorem sendInt_qps (s : State) : (sendInt s).qps = s.qps := rfl
@[simp] theorem sendInt_shadows (s : State) : (sendInt s).shadows = s.shadows := rfl
@[simp] theorem sendInt_mirBlk (s : State) : (sendInt s).mirBlk = s.mirBlk := rfl
@[simp] theorem sendInt_rxHeld (s : State) : (sendInt s).rxHeld = s.rxHeld := rfl
@[simp] theorem sendInt_linkStats (s : State) : (sendInt s).linkStats = s.linkStats := rfl
@[simp] theorem sendInt_decryptFails (s : State) : (sendInt s).decryptFails = s.decryptFails := rfl
@[simp] theorem sendInt_decryptHi (s : State) : (sendInt s).decryptHi = s.decryptHi := rfl
@[simp] theorem sendInt_rdHi (s : State) : (sendInt s).rdHi = s.rdHi := rfl
@[simp] theorem sendInt_sy (s : State) : (sendInt s).sy = s.sy := rfl
@[simp] theorem sendInt_syPend (s : State) : (sendInt s).syPend = s.syPend := rfl
@[simp] theorem sendInt_groups (s : State) : (sendInt s).groups = s.groups := rfl
@[simp] theorem sendInt_rn (s : State) : (sendInt s).rn = s.rn := rfl
@[simp] theorem sendInt_fw (s : State) : (sendInt s).fw = s.fw := rfl
@[simp] theorem sendInt_cbs (s : State) : (sendInt s).cbs = s.cbs := rfl
@[simp] theorem sendInt_pt (s : State) : (sendInt s).pt = s.pt := rfl
@[simp] theorem sendInt_cv (s : State) : (sendInt s).cv = s.cv := rfl
@[simp] theorem sendInt_spdm (s : State) : (sendInt s).spdm = s.spdm := rfl
@[simp] theorem sendInt_hbm (s : State) : (sendInt s).hbm = s.hbm := rfl
@[simp] theorem sendInt_plot (s : State) : (sendInt s).plot = s.plot := rfl
@[simp] theorem sendInt_pmem (s : State) : (sendInt s).pmem = s.pmem := rfl
@[simp] theorem sendInt_stacksLost (s : State) : (sendInt s).stacksLost = s.stacksLost := rfl
@[simp] theorem sendInt_rd (s : State) : (sendInt s).rd = s.rd := rfl
@[simp] theorem sendInt_pending (s : State) : (sendInt s).pending = s.pending := rfl

/-! ### sendVector -/

/-- `sendVector` writes only this. -/
theorem sendVector_frame (s : State) (v : Nat) : sendVector s v = { s with out := (sendVector s v).out } := rfl

@[simp] theorem sendVector_sys (s : State) (v : Nat) : (sendVector s v).sys = s.sys := rfl
@[simp] theorem sendVector_boot (s : State) (v : Nat) : (sendVector s v).boot = s.boot := rfl
@[simp] theorem sendVector_asleep (s : State) (v : Nat) : (sendVector s v).asleep = s.asleep := rfl
@[simp] theorem sendVector_flash (s : State) (v : Nat) : (sendVector s v).flash = s.flash := rfl
@[simp] theorem sendVector_feat (s : State) (v : Nat) : (sendVector s v).feat = s.feat := rfl
@[simp] theorem sendVector_vp (s : State) (v : Nat) : (sendVector s v).vp = s.vp := rfl
@[simp] theorem sendVector_mbx (s : State) (v : Nat) : (sendVector s v).mbx = s.mbx := rfl
@[simp] theorem sendVector_lv (s : State) (v : Nat) : (sendVector s v).lv = s.lv := rfl
@[simp] theorem sendVector_clk (s : State) (v : Nat) : (sendVector s v).clk = s.clk := rfl
@[simp] theorem sendVector_ports (s : State) (v : Nat) : (sendVector s v).ports = s.ports := rfl
@[simp] theorem sendVector_links (s : State) (v : Nat) : (sendVector s v).links = s.links := rfl
@[simp] theorem sendVector_basin (s : State) (v : Nat) : (sendVector s v).basin = s.basin := rfl
@[simp] theorem sendVector_mgr (s : State) (v : Nat) : (sendVector s v).mgr = s.mgr := rfl
@[simp] theorem sendVector_policy (s : State) (v : Nat) : (sendVector s v).policy = s.policy := rfl
@[simp] theorem sendVector_wr (s : State) (v : Nat) : (sendVector s v).wr = s.wr := rfl
@[simp] theorem sendVector_log (s : State) (v : Nat) : (sendVector s v).log = s.log := rfl
@[simp] theorem sendVector_intr (s : State) (v : Nat) : (sendVector s v).intr = s.intr := rfl
@[simp] theorem sendVector_st (s : State) (v : Nat) : (sendVector s v).st = s.st := rfl
@[simp] theorem sendVector_regs (s : State) (v : Nat) : (sendVector s v).regs = s.regs := rfl
@[simp] theorem sendVector_pages (s : State) (v : Nat) : (sendVector s v).pages = s.pages := rfl
@[simp] theorem sendVector_own (s : State) (v : Nat) : (sendVector s v).own = s.own := rfl
@[simp] theorem sendVector_insts (s : State) (v : Nat) : (sendVector s v).insts = s.insts := rfl
@[simp] theorem sendVector_wqs (s : State) (v : Nat) : (sendVector s v).wqs = s.wqs := rfl
@[simp] theorem sendVector_cqs (s : State) (v : Nat) : (sendVector s v).cqs = s.cqs := rfl
@[simp] theorem sendVector_infl (s : State) (v : Nat) : (sendVector s v).infl = s.infl := rfl
@[simp] theorem sendVector_accSeq (s : State) (v : Nat) : (sendVector s v).accSeq = s.accSeq := rfl
@[simp] theorem sendVector_spans (s : State) (v : Nat) : (sendVector s v).spans = s.spans := rfl
@[simp] theorem sendVector_keys (s : State) (v : Nat) : (sendVector s v).keys = s.keys := rfl
@[simp] theorem sendVector_pieces (s : State) (v : Nat) : (sendVector s v).pieces = s.pieces := rfl
@[simp] theorem sendVector_pieceClock (s : State) (v : Nat) : (sendVector s v).pieceClock = s.pieceClock := rfl
@[simp] theorem sendVector_ats (s : State) (v : Nat) : (sendVector s v).ats = s.ats := rfl
@[simp] theorem sendVector_bx (s : State) (v : Nat) : (sendVector s v).bx = s.bx := rfl
@[simp] theorem sendVector_nextBx (s : State) (v : Nat) : (sendVector s v).nextBx = s.nextBx := rfl
@[simp] theorem sendVector_allocs (s : State) (v : Nat) : (sendVector s v).allocs = s.allocs := rfl
@[simp] theorem sendVector_qps (s : State) (v : Nat) : (sendVector s v).qps = s.qps := rfl
@[simp] theorem sendVector_shadows (s : State) (v : Nat) : (sendVector s v).shadows = s.shadows := rfl
@[simp] theorem sendVector_mirBlk (s : State) (v : Nat) : (sendVector s v).mirBlk = s.mirBlk := rfl
@[simp] theorem sendVector_rxHeld (s : State) (v : Nat) : (sendVector s v).rxHeld = s.rxHeld := rfl
@[simp] theorem sendVector_linkStats (s : State) (v : Nat) : (sendVector s v).linkStats = s.linkStats := rfl
@[simp] theorem sendVector_decryptFails (s : State) (v : Nat) : (sendVector s v).decryptFails = s.decryptFails := rfl
@[simp] theorem sendVector_decryptHi (s : State) (v : Nat) : (sendVector s v).decryptHi = s.decryptHi := rfl
@[simp] theorem sendVector_rdHi (s : State) (v : Nat) : (sendVector s v).rdHi = s.rdHi := rfl
@[simp] theorem sendVector_sy (s : State) (v : Nat) : (sendVector s v).sy = s.sy := rfl
@[simp] theorem sendVector_syPend (s : State) (v : Nat) : (sendVector s v).syPend = s.syPend := rfl
@[simp] theorem sendVector_groups (s : State) (v : Nat) : (sendVector s v).groups = s.groups := rfl
@[simp] theorem sendVector_rn (s : State) (v : Nat) : (sendVector s v).rn = s.rn := rfl
@[simp] theorem sendVector_fw (s : State) (v : Nat) : (sendVector s v).fw = s.fw := rfl
@[simp] theorem sendVector_cbs (s : State) (v : Nat) : (sendVector s v).cbs = s.cbs := rfl
@[simp] theorem sendVector_pt (s : State) (v : Nat) : (sendVector s v).pt = s.pt := rfl
@[simp] theorem sendVector_cv (s : State) (v : Nat) : (sendVector s v).cv = s.cv := rfl
@[simp] theorem sendVector_spdm (s : State) (v : Nat) : (sendVector s v).spdm = s.spdm := rfl
@[simp] theorem sendVector_hbm (s : State) (v : Nat) : (sendVector s v).hbm = s.hbm := rfl
@[simp] theorem sendVector_plot (s : State) (v : Nat) : (sendVector s v).plot = s.plot := rfl
@[simp] theorem sendVector_pmem (s : State) (v : Nat) : (sendVector s v).pmem = s.pmem := rfl
@[simp] theorem sendVector_stacksLost (s : State) (v : Nat) : (sendVector s v).stacksLost = s.stacksLost := rfl
@[simp] theorem sendVector_rd (s : State) (v : Nat) : (sendVector s v).rd = s.rd := rfl
@[simp] theorem sendVector_pending (s : State) (v : Nat) : (sendVector s v).pending = s.pending := rfl

/-! ### setInt -/

/-- `setInt` writes only this. -/
theorem setInt_frame (s : State) (st en : BitVec 6) : setInt s st en = { s with intr := (setInt s st en).intr, out := (setInt s st en).out } := by unfold setInt; dsimp only; split <;> simp [sendInt, emit]

@[simp] theorem setInt_sys (s : State) (st en : BitVec 6) : (setInt s st en).sys = s.sys := by rw [setInt_frame]
@[simp] theorem setInt_boot (s : State) (st en : BitVec 6) : (setInt s st en).boot = s.boot := by rw [setInt_frame]
@[simp] theorem setInt_asleep (s : State) (st en : BitVec 6) : (setInt s st en).asleep = s.asleep := by rw [setInt_frame]
@[simp] theorem setInt_flash (s : State) (st en : BitVec 6) : (setInt s st en).flash = s.flash := by rw [setInt_frame]
@[simp] theorem setInt_feat (s : State) (st en : BitVec 6) : (setInt s st en).feat = s.feat := by rw [setInt_frame]
@[simp] theorem setInt_vp (s : State) (st en : BitVec 6) : (setInt s st en).vp = s.vp := by rw [setInt_frame]
@[simp] theorem setInt_mbx (s : State) (st en : BitVec 6) : (setInt s st en).mbx = s.mbx := by rw [setInt_frame]
@[simp] theorem setInt_lv (s : State) (st en : BitVec 6) : (setInt s st en).lv = s.lv := by rw [setInt_frame]
@[simp] theorem setInt_clk (s : State) (st en : BitVec 6) : (setInt s st en).clk = s.clk := by rw [setInt_frame]
@[simp] theorem setInt_ports (s : State) (st en : BitVec 6) : (setInt s st en).ports = s.ports := by rw [setInt_frame]
@[simp] theorem setInt_links (s : State) (st en : BitVec 6) : (setInt s st en).links = s.links := by rw [setInt_frame]
@[simp] theorem setInt_basin (s : State) (st en : BitVec 6) : (setInt s st en).basin = s.basin := by rw [setInt_frame]
@[simp] theorem setInt_mgr (s : State) (st en : BitVec 6) : (setInt s st en).mgr = s.mgr := by rw [setInt_frame]
@[simp] theorem setInt_policy (s : State) (st en : BitVec 6) : (setInt s st en).policy = s.policy := by rw [setInt_frame]
@[simp] theorem setInt_wr (s : State) (st en : BitVec 6) : (setInt s st en).wr = s.wr := by rw [setInt_frame]
@[simp] theorem setInt_log (s : State) (st en : BitVec 6) : (setInt s st en).log = s.log := by rw [setInt_frame]
@[simp] theorem setInt_st (s : State) (st en : BitVec 6) : (setInt s st en).st = s.st := by rw [setInt_frame]
@[simp] theorem setInt_regs (s : State) (st en : BitVec 6) : (setInt s st en).regs = s.regs := by rw [setInt_frame]
@[simp] theorem setInt_pages (s : State) (st en : BitVec 6) : (setInt s st en).pages = s.pages := by rw [setInt_frame]
@[simp] theorem setInt_own (s : State) (st en : BitVec 6) : (setInt s st en).own = s.own := by rw [setInt_frame]
@[simp] theorem setInt_insts (s : State) (st en : BitVec 6) : (setInt s st en).insts = s.insts := by rw [setInt_frame]
@[simp] theorem setInt_wqs (s : State) (st en : BitVec 6) : (setInt s st en).wqs = s.wqs := by rw [setInt_frame]
@[simp] theorem setInt_cqs (s : State) (st en : BitVec 6) : (setInt s st en).cqs = s.cqs := by rw [setInt_frame]
@[simp] theorem setInt_infl (s : State) (st en : BitVec 6) : (setInt s st en).infl = s.infl := by rw [setInt_frame]
@[simp] theorem setInt_accSeq (s : State) (st en : BitVec 6) : (setInt s st en).accSeq = s.accSeq := by rw [setInt_frame]
@[simp] theorem setInt_spans (s : State) (st en : BitVec 6) : (setInt s st en).spans = s.spans := by rw [setInt_frame]
@[simp] theorem setInt_keys (s : State) (st en : BitVec 6) : (setInt s st en).keys = s.keys := by rw [setInt_frame]
@[simp] theorem setInt_pieces (s : State) (st en : BitVec 6) : (setInt s st en).pieces = s.pieces := by rw [setInt_frame]
@[simp] theorem setInt_pieceClock (s : State) (st en : BitVec 6) : (setInt s st en).pieceClock = s.pieceClock := by rw [setInt_frame]
@[simp] theorem setInt_ats (s : State) (st en : BitVec 6) : (setInt s st en).ats = s.ats := by rw [setInt_frame]
@[simp] theorem setInt_bx (s : State) (st en : BitVec 6) : (setInt s st en).bx = s.bx := by rw [setInt_frame]
@[simp] theorem setInt_nextBx (s : State) (st en : BitVec 6) : (setInt s st en).nextBx = s.nextBx := by rw [setInt_frame]
@[simp] theorem setInt_allocs (s : State) (st en : BitVec 6) : (setInt s st en).allocs = s.allocs := by rw [setInt_frame]
@[simp] theorem setInt_qps (s : State) (st en : BitVec 6) : (setInt s st en).qps = s.qps := by rw [setInt_frame]
@[simp] theorem setInt_shadows (s : State) (st en : BitVec 6) : (setInt s st en).shadows = s.shadows := by rw [setInt_frame]
@[simp] theorem setInt_mirBlk (s : State) (st en : BitVec 6) : (setInt s st en).mirBlk = s.mirBlk := by rw [setInt_frame]
@[simp] theorem setInt_rxHeld (s : State) (st en : BitVec 6) : (setInt s st en).rxHeld = s.rxHeld := by rw [setInt_frame]
@[simp] theorem setInt_linkStats (s : State) (st en : BitVec 6) : (setInt s st en).linkStats = s.linkStats := by rw [setInt_frame]
@[simp] theorem setInt_decryptFails (s : State) (st en : BitVec 6) : (setInt s st en).decryptFails = s.decryptFails := by rw [setInt_frame]
@[simp] theorem setInt_decryptHi (s : State) (st en : BitVec 6) : (setInt s st en).decryptHi = s.decryptHi := by rw [setInt_frame]
@[simp] theorem setInt_rdHi (s : State) (st en : BitVec 6) : (setInt s st en).rdHi = s.rdHi := by rw [setInt_frame]
@[simp] theorem setInt_sy (s : State) (st en : BitVec 6) : (setInt s st en).sy = s.sy := by rw [setInt_frame]
@[simp] theorem setInt_syPend (s : State) (st en : BitVec 6) : (setInt s st en).syPend = s.syPend := by rw [setInt_frame]
@[simp] theorem setInt_groups (s : State) (st en : BitVec 6) : (setInt s st en).groups = s.groups := by rw [setInt_frame]
@[simp] theorem setInt_rn (s : State) (st en : BitVec 6) : (setInt s st en).rn = s.rn := by rw [setInt_frame]
@[simp] theorem setInt_fw (s : State) (st en : BitVec 6) : (setInt s st en).fw = s.fw := by rw [setInt_frame]
@[simp] theorem setInt_cbs (s : State) (st en : BitVec 6) : (setInt s st en).cbs = s.cbs := by rw [setInt_frame]
@[simp] theorem setInt_pt (s : State) (st en : BitVec 6) : (setInt s st en).pt = s.pt := by rw [setInt_frame]
@[simp] theorem setInt_cv (s : State) (st en : BitVec 6) : (setInt s st en).cv = s.cv := by rw [setInt_frame]
@[simp] theorem setInt_spdm (s : State) (st en : BitVec 6) : (setInt s st en).spdm = s.spdm := by rw [setInt_frame]
@[simp] theorem setInt_hbm (s : State) (st en : BitVec 6) : (setInt s st en).hbm = s.hbm := by rw [setInt_frame]
@[simp] theorem setInt_plot (s : State) (st en : BitVec 6) : (setInt s st en).plot = s.plot := by rw [setInt_frame]
@[simp] theorem setInt_pmem (s : State) (st en : BitVec 6) : (setInt s st en).pmem = s.pmem := by rw [setInt_frame]
@[simp] theorem setInt_stacksLost (s : State) (st en : BitVec 6) : (setInt s st en).stacksLost = s.stacksLost := by rw [setInt_frame]
@[simp] theorem setInt_rd (s : State) (st en : BitVec 6) : (setInt s st en).rd = s.rd := by rw [setInt_frame]
@[simp] theorem setInt_pending (s : State) (st en : BitVec 6) : (setInt s st en).pending = s.pending := by rw [setInt_frame]

/-! ### raise -/

/-- `raise` writes only this. -/
theorem raise_frame (s : State) (n : Nat) : raise s n = { s with intr := (raise s n).intr, out := (raise s n).out } := setInt_frame _ _ _

@[simp] theorem raise_sys (s : State) (n : Nat) : (raise s n).sys = s.sys := by rw [raise_frame]
@[simp] theorem raise_boot (s : State) (n : Nat) : (raise s n).boot = s.boot := by rw [raise_frame]
@[simp] theorem raise_asleep (s : State) (n : Nat) : (raise s n).asleep = s.asleep := by rw [raise_frame]
@[simp] theorem raise_flash (s : State) (n : Nat) : (raise s n).flash = s.flash := by rw [raise_frame]
@[simp] theorem raise_feat (s : State) (n : Nat) : (raise s n).feat = s.feat := by rw [raise_frame]
@[simp] theorem raise_vp (s : State) (n : Nat) : (raise s n).vp = s.vp := by rw [raise_frame]
@[simp] theorem raise_mbx (s : State) (n : Nat) : (raise s n).mbx = s.mbx := by rw [raise_frame]
@[simp] theorem raise_lv (s : State) (n : Nat) : (raise s n).lv = s.lv := by rw [raise_frame]
@[simp] theorem raise_clk (s : State) (n : Nat) : (raise s n).clk = s.clk := by rw [raise_frame]
@[simp] theorem raise_ports (s : State) (n : Nat) : (raise s n).ports = s.ports := by rw [raise_frame]
@[simp] theorem raise_links (s : State) (n : Nat) : (raise s n).links = s.links := by rw [raise_frame]
@[simp] theorem raise_basin (s : State) (n : Nat) : (raise s n).basin = s.basin := by rw [raise_frame]
@[simp] theorem raise_mgr (s : State) (n : Nat) : (raise s n).mgr = s.mgr := by rw [raise_frame]
@[simp] theorem raise_policy (s : State) (n : Nat) : (raise s n).policy = s.policy := by rw [raise_frame]
@[simp] theorem raise_wr (s : State) (n : Nat) : (raise s n).wr = s.wr := by rw [raise_frame]
@[simp] theorem raise_log (s : State) (n : Nat) : (raise s n).log = s.log := by rw [raise_frame]
@[simp] theorem raise_st (s : State) (n : Nat) : (raise s n).st = s.st := by rw [raise_frame]
@[simp] theorem raise_regs (s : State) (n : Nat) : (raise s n).regs = s.regs := by rw [raise_frame]
@[simp] theorem raise_pages (s : State) (n : Nat) : (raise s n).pages = s.pages := by rw [raise_frame]
@[simp] theorem raise_own (s : State) (n : Nat) : (raise s n).own = s.own := by rw [raise_frame]
@[simp] theorem raise_insts (s : State) (n : Nat) : (raise s n).insts = s.insts := by rw [raise_frame]
@[simp] theorem raise_wqs (s : State) (n : Nat) : (raise s n).wqs = s.wqs := by rw [raise_frame]
@[simp] theorem raise_cqs (s : State) (n : Nat) : (raise s n).cqs = s.cqs := by rw [raise_frame]
@[simp] theorem raise_infl (s : State) (n : Nat) : (raise s n).infl = s.infl := by rw [raise_frame]
@[simp] theorem raise_accSeq (s : State) (n : Nat) : (raise s n).accSeq = s.accSeq := by rw [raise_frame]
@[simp] theorem raise_spans (s : State) (n : Nat) : (raise s n).spans = s.spans := by rw [raise_frame]
@[simp] theorem raise_keys (s : State) (n : Nat) : (raise s n).keys = s.keys := by rw [raise_frame]
@[simp] theorem raise_pieces (s : State) (n : Nat) : (raise s n).pieces = s.pieces := by rw [raise_frame]
@[simp] theorem raise_pieceClock (s : State) (n : Nat) : (raise s n).pieceClock = s.pieceClock := by rw [raise_frame]
@[simp] theorem raise_ats (s : State) (n : Nat) : (raise s n).ats = s.ats := by rw [raise_frame]
@[simp] theorem raise_bx (s : State) (n : Nat) : (raise s n).bx = s.bx := by rw [raise_frame]
@[simp] theorem raise_nextBx (s : State) (n : Nat) : (raise s n).nextBx = s.nextBx := by rw [raise_frame]
@[simp] theorem raise_allocs (s : State) (n : Nat) : (raise s n).allocs = s.allocs := by rw [raise_frame]
@[simp] theorem raise_qps (s : State) (n : Nat) : (raise s n).qps = s.qps := by rw [raise_frame]
@[simp] theorem raise_shadows (s : State) (n : Nat) : (raise s n).shadows = s.shadows := by rw [raise_frame]
@[simp] theorem raise_mirBlk (s : State) (n : Nat) : (raise s n).mirBlk = s.mirBlk := by rw [raise_frame]
@[simp] theorem raise_rxHeld (s : State) (n : Nat) : (raise s n).rxHeld = s.rxHeld := by rw [raise_frame]
@[simp] theorem raise_linkStats (s : State) (n : Nat) : (raise s n).linkStats = s.linkStats := by rw [raise_frame]
@[simp] theorem raise_decryptFails (s : State) (n : Nat) : (raise s n).decryptFails = s.decryptFails := by rw [raise_frame]
@[simp] theorem raise_decryptHi (s : State) (n : Nat) : (raise s n).decryptHi = s.decryptHi := by rw [raise_frame]
@[simp] theorem raise_rdHi (s : State) (n : Nat) : (raise s n).rdHi = s.rdHi := by rw [raise_frame]
@[simp] theorem raise_sy (s : State) (n : Nat) : (raise s n).sy = s.sy := by rw [raise_frame]
@[simp] theorem raise_syPend (s : State) (n : Nat) : (raise s n).syPend = s.syPend := by rw [raise_frame]
@[simp] theorem raise_groups (s : State) (n : Nat) : (raise s n).groups = s.groups := by rw [raise_frame]
@[simp] theorem raise_rn (s : State) (n : Nat) : (raise s n).rn = s.rn := by rw [raise_frame]
@[simp] theorem raise_fw (s : State) (n : Nat) : (raise s n).fw = s.fw := by rw [raise_frame]
@[simp] theorem raise_cbs (s : State) (n : Nat) : (raise s n).cbs = s.cbs := by rw [raise_frame]
@[simp] theorem raise_pt (s : State) (n : Nat) : (raise s n).pt = s.pt := by rw [raise_frame]
@[simp] theorem raise_cv (s : State) (n : Nat) : (raise s n).cv = s.cv := by rw [raise_frame]
@[simp] theorem raise_spdm (s : State) (n : Nat) : (raise s n).spdm = s.spdm := by rw [raise_frame]
@[simp] theorem raise_hbm (s : State) (n : Nat) : (raise s n).hbm = s.hbm := by rw [raise_frame]
@[simp] theorem raise_plot (s : State) (n : Nat) : (raise s n).plot = s.plot := by rw [raise_frame]
@[simp] theorem raise_pmem (s : State) (n : Nat) : (raise s n).pmem = s.pmem := by rw [raise_frame]
@[simp] theorem raise_stacksLost (s : State) (n : Nat) : (raise s n).stacksLost = s.stacksLost := by rw [raise_frame]
@[simp] theorem raise_rd (s : State) (n : Nat) : (raise s n).rd = s.rd := by rw [raise_frame]
@[simp] theorem raise_pending (s : State) (n : Nat) : (raise s n).pending = s.pending := by rw [raise_frame]

/-! ### logSev -/

/-- `logSev` writes only this. -/
theorem logSev_frame (s : State) (id : Nat) (st : Byte) (source sev unit : Nat) (d : Bytes) : logSev s id st source sev unit d = { s with log := (logSev s id st source sev unit d).log } := by unfold logSev; dsimp only; split <;> rfl

@[simp] theorem logSev_sys (s : State) (id : Nat) (st : Byte) (source sev unit : Nat) (d : Bytes) : (logSev s id st source sev unit d).sys = s.sys := by rw [logSev_frame]
@[simp] theorem logSev_boot (s : State) (id : Nat) (st : Byte) (source sev unit : Nat) (d : Bytes) : (logSev s id st source sev unit d).boot = s.boot := by rw [logSev_frame]
@[simp] theorem logSev_asleep (s : State) (id : Nat) (st : Byte) (source sev unit : Nat) (d : Bytes) : (logSev s id st source sev unit d).asleep = s.asleep := by rw [logSev_frame]
@[simp] theorem logSev_flash (s : State) (id : Nat) (st : Byte) (source sev unit : Nat) (d : Bytes) : (logSev s id st source sev unit d).flash = s.flash := by rw [logSev_frame]
@[simp] theorem logSev_feat (s : State) (id : Nat) (st : Byte) (source sev unit : Nat) (d : Bytes) : (logSev s id st source sev unit d).feat = s.feat := by rw [logSev_frame]
@[simp] theorem logSev_vp (s : State) (id : Nat) (st : Byte) (source sev unit : Nat) (d : Bytes) : (logSev s id st source sev unit d).vp = s.vp := by rw [logSev_frame]
@[simp] theorem logSev_mbx (s : State) (id : Nat) (st : Byte) (source sev unit : Nat) (d : Bytes) : (logSev s id st source sev unit d).mbx = s.mbx := by rw [logSev_frame]
@[simp] theorem logSev_lv (s : State) (id : Nat) (st : Byte) (source sev unit : Nat) (d : Bytes) : (logSev s id st source sev unit d).lv = s.lv := by rw [logSev_frame]
@[simp] theorem logSev_clk (s : State) (id : Nat) (st : Byte) (source sev unit : Nat) (d : Bytes) : (logSev s id st source sev unit d).clk = s.clk := by rw [logSev_frame]
@[simp] theorem logSev_ports (s : State) (id : Nat) (st : Byte) (source sev unit : Nat) (d : Bytes) : (logSev s id st source sev unit d).ports = s.ports := by rw [logSev_frame]
@[simp] theorem logSev_links (s : State) (id : Nat) (st : Byte) (source sev unit : Nat) (d : Bytes) : (logSev s id st source sev unit d).links = s.links := by rw [logSev_frame]
@[simp] theorem logSev_basin (s : State) (id : Nat) (st : Byte) (source sev unit : Nat) (d : Bytes) : (logSev s id st source sev unit d).basin = s.basin := by rw [logSev_frame]
@[simp] theorem logSev_mgr (s : State) (id : Nat) (st : Byte) (source sev unit : Nat) (d : Bytes) : (logSev s id st source sev unit d).mgr = s.mgr := by rw [logSev_frame]
@[simp] theorem logSev_policy (s : State) (id : Nat) (st : Byte) (source sev unit : Nat) (d : Bytes) : (logSev s id st source sev unit d).policy = s.policy := by rw [logSev_frame]
@[simp] theorem logSev_wr (s : State) (id : Nat) (st : Byte) (source sev unit : Nat) (d : Bytes) : (logSev s id st source sev unit d).wr = s.wr := by rw [logSev_frame]
@[simp] theorem logSev_intr (s : State) (id : Nat) (st : Byte) (source sev unit : Nat) (d : Bytes) : (logSev s id st source sev unit d).intr = s.intr := by rw [logSev_frame]
@[simp] theorem logSev_st (s : State) (id : Nat) (st : Byte) (source sev unit : Nat) (d : Bytes) : (logSev s id st source sev unit d).st = s.st := by rw [logSev_frame]
@[simp] theorem logSev_regs (s : State) (id : Nat) (st : Byte) (source sev unit : Nat) (d : Bytes) : (logSev s id st source sev unit d).regs = s.regs := by rw [logSev_frame]
@[simp] theorem logSev_pages (s : State) (id : Nat) (st : Byte) (source sev unit : Nat) (d : Bytes) : (logSev s id st source sev unit d).pages = s.pages := by rw [logSev_frame]
@[simp] theorem logSev_own (s : State) (id : Nat) (st : Byte) (source sev unit : Nat) (d : Bytes) : (logSev s id st source sev unit d).own = s.own := by rw [logSev_frame]
@[simp] theorem logSev_insts (s : State) (id : Nat) (st : Byte) (source sev unit : Nat) (d : Bytes) : (logSev s id st source sev unit d).insts = s.insts := by rw [logSev_frame]
@[simp] theorem logSev_wqs (s : State) (id : Nat) (st : Byte) (source sev unit : Nat) (d : Bytes) : (logSev s id st source sev unit d).wqs = s.wqs := by rw [logSev_frame]
@[simp] theorem logSev_cqs (s : State) (id : Nat) (st : Byte) (source sev unit : Nat) (d : Bytes) : (logSev s id st source sev unit d).cqs = s.cqs := by rw [logSev_frame]
@[simp] theorem logSev_infl (s : State) (id : Nat) (st : Byte) (source sev unit : Nat) (d : Bytes) : (logSev s id st source sev unit d).infl = s.infl := by rw [logSev_frame]
@[simp] theorem logSev_accSeq (s : State) (id : Nat) (st : Byte) (source sev unit : Nat) (d : Bytes) : (logSev s id st source sev unit d).accSeq = s.accSeq := by rw [logSev_frame]
@[simp] theorem logSev_spans (s : State) (id : Nat) (st : Byte) (source sev unit : Nat) (d : Bytes) : (logSev s id st source sev unit d).spans = s.spans := by rw [logSev_frame]
@[simp] theorem logSev_keys (s : State) (id : Nat) (st : Byte) (source sev unit : Nat) (d : Bytes) : (logSev s id st source sev unit d).keys = s.keys := by rw [logSev_frame]
@[simp] theorem logSev_pieces (s : State) (id : Nat) (st : Byte) (source sev unit : Nat) (d : Bytes) : (logSev s id st source sev unit d).pieces = s.pieces := by rw [logSev_frame]
@[simp] theorem logSev_pieceClock (s : State) (id : Nat) (st : Byte) (source sev unit : Nat) (d : Bytes) : (logSev s id st source sev unit d).pieceClock = s.pieceClock := by rw [logSev_frame]
@[simp] theorem logSev_ats (s : State) (id : Nat) (st : Byte) (source sev unit : Nat) (d : Bytes) : (logSev s id st source sev unit d).ats = s.ats := by rw [logSev_frame]
@[simp] theorem logSev_bx (s : State) (id : Nat) (st : Byte) (source sev unit : Nat) (d : Bytes) : (logSev s id st source sev unit d).bx = s.bx := by rw [logSev_frame]
@[simp] theorem logSev_nextBx (s : State) (id : Nat) (st : Byte) (source sev unit : Nat) (d : Bytes) : (logSev s id st source sev unit d).nextBx = s.nextBx := by rw [logSev_frame]
@[simp] theorem logSev_allocs (s : State) (id : Nat) (st : Byte) (source sev unit : Nat) (d : Bytes) : (logSev s id st source sev unit d).allocs = s.allocs := by rw [logSev_frame]
@[simp] theorem logSev_qps (s : State) (id : Nat) (st : Byte) (source sev unit : Nat) (d : Bytes) : (logSev s id st source sev unit d).qps = s.qps := by rw [logSev_frame]
@[simp] theorem logSev_shadows (s : State) (id : Nat) (st : Byte) (source sev unit : Nat) (d : Bytes) : (logSev s id st source sev unit d).shadows = s.shadows := by rw [logSev_frame]
@[simp] theorem logSev_mirBlk (s : State) (id : Nat) (st : Byte) (source sev unit : Nat) (d : Bytes) : (logSev s id st source sev unit d).mirBlk = s.mirBlk := by rw [logSev_frame]
@[simp] theorem logSev_rxHeld (s : State) (id : Nat) (st : Byte) (source sev unit : Nat) (d : Bytes) : (logSev s id st source sev unit d).rxHeld = s.rxHeld := by rw [logSev_frame]
@[simp] theorem logSev_linkStats (s : State) (id : Nat) (st : Byte) (source sev unit : Nat) (d : Bytes) : (logSev s id st source sev unit d).linkStats = s.linkStats := by rw [logSev_frame]
@[simp] theorem logSev_decryptFails (s : State) (id : Nat) (st : Byte) (source sev unit : Nat) (d : Bytes) : (logSev s id st source sev unit d).decryptFails = s.decryptFails := by rw [logSev_frame]
@[simp] theorem logSev_decryptHi (s : State) (id : Nat) (st : Byte) (source sev unit : Nat) (d : Bytes) : (logSev s id st source sev unit d).decryptHi = s.decryptHi := by rw [logSev_frame]
@[simp] theorem logSev_rdHi (s : State) (id : Nat) (st : Byte) (source sev unit : Nat) (d : Bytes) : (logSev s id st source sev unit d).rdHi = s.rdHi := by rw [logSev_frame]
@[simp] theorem logSev_sy (s : State) (id : Nat) (st : Byte) (source sev unit : Nat) (d : Bytes) : (logSev s id st source sev unit d).sy = s.sy := by rw [logSev_frame]
@[simp] theorem logSev_syPend (s : State) (id : Nat) (st : Byte) (source sev unit : Nat) (d : Bytes) : (logSev s id st source sev unit d).syPend = s.syPend := by rw [logSev_frame]
@[simp] theorem logSev_groups (s : State) (id : Nat) (st : Byte) (source sev unit : Nat) (d : Bytes) : (logSev s id st source sev unit d).groups = s.groups := by rw [logSev_frame]
@[simp] theorem logSev_rn (s : State) (id : Nat) (st : Byte) (source sev unit : Nat) (d : Bytes) : (logSev s id st source sev unit d).rn = s.rn := by rw [logSev_frame]
@[simp] theorem logSev_fw (s : State) (id : Nat) (st : Byte) (source sev unit : Nat) (d : Bytes) : (logSev s id st source sev unit d).fw = s.fw := by rw [logSev_frame]
@[simp] theorem logSev_cbs (s : State) (id : Nat) (st : Byte) (source sev unit : Nat) (d : Bytes) : (logSev s id st source sev unit d).cbs = s.cbs := by rw [logSev_frame]
@[simp] theorem logSev_pt (s : State) (id : Nat) (st : Byte) (source sev unit : Nat) (d : Bytes) : (logSev s id st source sev unit d).pt = s.pt := by rw [logSev_frame]
@[simp] theorem logSev_cv (s : State) (id : Nat) (st : Byte) (source sev unit : Nat) (d : Bytes) : (logSev s id st source sev unit d).cv = s.cv := by rw [logSev_frame]
@[simp] theorem logSev_spdm (s : State) (id : Nat) (st : Byte) (source sev unit : Nat) (d : Bytes) : (logSev s id st source sev unit d).spdm = s.spdm := by rw [logSev_frame]
@[simp] theorem logSev_hbm (s : State) (id : Nat) (st : Byte) (source sev unit : Nat) (d : Bytes) : (logSev s id st source sev unit d).hbm = s.hbm := by rw [logSev_frame]
@[simp] theorem logSev_plot (s : State) (id : Nat) (st : Byte) (source sev unit : Nat) (d : Bytes) : (logSev s id st source sev unit d).plot = s.plot := by rw [logSev_frame]
@[simp] theorem logSev_pmem (s : State) (id : Nat) (st : Byte) (source sev unit : Nat) (d : Bytes) : (logSev s id st source sev unit d).pmem = s.pmem := by rw [logSev_frame]
@[simp] theorem logSev_stacksLost (s : State) (id : Nat) (st : Byte) (source sev unit : Nat) (d : Bytes) : (logSev s id st source sev unit d).stacksLost = s.stacksLost := by rw [logSev_frame]
@[simp] theorem logSev_out (s : State) (id : Nat) (st : Byte) (source sev unit : Nat) (d : Bytes) : (logSev s id st source sev unit d).out = s.out := by rw [logSev_frame]
@[simp] theorem logSev_rd (s : State) (id : Nat) (st : Byte) (source sev unit : Nat) (d : Bytes) : (logSev s id st source sev unit d).rd = s.rd := by rw [logSev_frame]
@[simp] theorem logSev_pending (s : State) (id : Nat) (st : Byte) (source sev unit : Nat) (d : Bytes) : (logSev s id st source sev unit d).pending = s.pending := by rw [logSev_frame]

/-! ### logEv -/

/-- `logEv` writes only this. -/
theorem logEv_frame (s : State) (id : Nat) (st : Byte) (source unit : Nat) (d : Bytes) : logEv s id st source unit d = { s with log := (logEv s id st source unit d).log } := logSev_frame _ _ _ _ _ _ _

@[simp] theorem logEv_sys (s : State) (id : Nat) (st : Byte) (source unit : Nat) (d : Bytes) : (logEv s id st source unit d).sys = s.sys := by rw [logEv_frame]
@[simp] theorem logEv_boot (s : State) (id : Nat) (st : Byte) (source unit : Nat) (d : Bytes) : (logEv s id st source unit d).boot = s.boot := by rw [logEv_frame]
@[simp] theorem logEv_asleep (s : State) (id : Nat) (st : Byte) (source unit : Nat) (d : Bytes) : (logEv s id st source unit d).asleep = s.asleep := by rw [logEv_frame]
@[simp] theorem logEv_flash (s : State) (id : Nat) (st : Byte) (source unit : Nat) (d : Bytes) : (logEv s id st source unit d).flash = s.flash := by rw [logEv_frame]
@[simp] theorem logEv_feat (s : State) (id : Nat) (st : Byte) (source unit : Nat) (d : Bytes) : (logEv s id st source unit d).feat = s.feat := by rw [logEv_frame]
@[simp] theorem logEv_vp (s : State) (id : Nat) (st : Byte) (source unit : Nat) (d : Bytes) : (logEv s id st source unit d).vp = s.vp := by rw [logEv_frame]
@[simp] theorem logEv_mbx (s : State) (id : Nat) (st : Byte) (source unit : Nat) (d : Bytes) : (logEv s id st source unit d).mbx = s.mbx := by rw [logEv_frame]
@[simp] theorem logEv_lv (s : State) (id : Nat) (st : Byte) (source unit : Nat) (d : Bytes) : (logEv s id st source unit d).lv = s.lv := by rw [logEv_frame]
@[simp] theorem logEv_clk (s : State) (id : Nat) (st : Byte) (source unit : Nat) (d : Bytes) : (logEv s id st source unit d).clk = s.clk := by rw [logEv_frame]
@[simp] theorem logEv_ports (s : State) (id : Nat) (st : Byte) (source unit : Nat) (d : Bytes) : (logEv s id st source unit d).ports = s.ports := by rw [logEv_frame]
@[simp] theorem logEv_links (s : State) (id : Nat) (st : Byte) (source unit : Nat) (d : Bytes) : (logEv s id st source unit d).links = s.links := by rw [logEv_frame]
@[simp] theorem logEv_basin (s : State) (id : Nat) (st : Byte) (source unit : Nat) (d : Bytes) : (logEv s id st source unit d).basin = s.basin := by rw [logEv_frame]
@[simp] theorem logEv_mgr (s : State) (id : Nat) (st : Byte) (source unit : Nat) (d : Bytes) : (logEv s id st source unit d).mgr = s.mgr := by rw [logEv_frame]
@[simp] theorem logEv_policy (s : State) (id : Nat) (st : Byte) (source unit : Nat) (d : Bytes) : (logEv s id st source unit d).policy = s.policy := by rw [logEv_frame]
@[simp] theorem logEv_wr (s : State) (id : Nat) (st : Byte) (source unit : Nat) (d : Bytes) : (logEv s id st source unit d).wr = s.wr := by rw [logEv_frame]
@[simp] theorem logEv_intr (s : State) (id : Nat) (st : Byte) (source unit : Nat) (d : Bytes) : (logEv s id st source unit d).intr = s.intr := by rw [logEv_frame]
@[simp] theorem logEv_st (s : State) (id : Nat) (st : Byte) (source unit : Nat) (d : Bytes) : (logEv s id st source unit d).st = s.st := by rw [logEv_frame]
@[simp] theorem logEv_regs (s : State) (id : Nat) (st : Byte) (source unit : Nat) (d : Bytes) : (logEv s id st source unit d).regs = s.regs := by rw [logEv_frame]
@[simp] theorem logEv_pages (s : State) (id : Nat) (st : Byte) (source unit : Nat) (d : Bytes) : (logEv s id st source unit d).pages = s.pages := by rw [logEv_frame]
@[simp] theorem logEv_own (s : State) (id : Nat) (st : Byte) (source unit : Nat) (d : Bytes) : (logEv s id st source unit d).own = s.own := by rw [logEv_frame]
@[simp] theorem logEv_insts (s : State) (id : Nat) (st : Byte) (source unit : Nat) (d : Bytes) : (logEv s id st source unit d).insts = s.insts := by rw [logEv_frame]
@[simp] theorem logEv_wqs (s : State) (id : Nat) (st : Byte) (source unit : Nat) (d : Bytes) : (logEv s id st source unit d).wqs = s.wqs := by rw [logEv_frame]
@[simp] theorem logEv_cqs (s : State) (id : Nat) (st : Byte) (source unit : Nat) (d : Bytes) : (logEv s id st source unit d).cqs = s.cqs := by rw [logEv_frame]
@[simp] theorem logEv_infl (s : State) (id : Nat) (st : Byte) (source unit : Nat) (d : Bytes) : (logEv s id st source unit d).infl = s.infl := by rw [logEv_frame]
@[simp] theorem logEv_accSeq (s : State) (id : Nat) (st : Byte) (source unit : Nat) (d : Bytes) : (logEv s id st source unit d).accSeq = s.accSeq := by rw [logEv_frame]
@[simp] theorem logEv_spans (s : State) (id : Nat) (st : Byte) (source unit : Nat) (d : Bytes) : (logEv s id st source unit d).spans = s.spans := by rw [logEv_frame]
@[simp] theorem logEv_keys (s : State) (id : Nat) (st : Byte) (source unit : Nat) (d : Bytes) : (logEv s id st source unit d).keys = s.keys := by rw [logEv_frame]
@[simp] theorem logEv_pieces (s : State) (id : Nat) (st : Byte) (source unit : Nat) (d : Bytes) : (logEv s id st source unit d).pieces = s.pieces := by rw [logEv_frame]
@[simp] theorem logEv_pieceClock (s : State) (id : Nat) (st : Byte) (source unit : Nat) (d : Bytes) : (logEv s id st source unit d).pieceClock = s.pieceClock := by rw [logEv_frame]
@[simp] theorem logEv_ats (s : State) (id : Nat) (st : Byte) (source unit : Nat) (d : Bytes) : (logEv s id st source unit d).ats = s.ats := by rw [logEv_frame]
@[simp] theorem logEv_bx (s : State) (id : Nat) (st : Byte) (source unit : Nat) (d : Bytes) : (logEv s id st source unit d).bx = s.bx := by rw [logEv_frame]
@[simp] theorem logEv_nextBx (s : State) (id : Nat) (st : Byte) (source unit : Nat) (d : Bytes) : (logEv s id st source unit d).nextBx = s.nextBx := by rw [logEv_frame]
@[simp] theorem logEv_allocs (s : State) (id : Nat) (st : Byte) (source unit : Nat) (d : Bytes) : (logEv s id st source unit d).allocs = s.allocs := by rw [logEv_frame]
@[simp] theorem logEv_qps (s : State) (id : Nat) (st : Byte) (source unit : Nat) (d : Bytes) : (logEv s id st source unit d).qps = s.qps := by rw [logEv_frame]
@[simp] theorem logEv_shadows (s : State) (id : Nat) (st : Byte) (source unit : Nat) (d : Bytes) : (logEv s id st source unit d).shadows = s.shadows := by rw [logEv_frame]
@[simp] theorem logEv_mirBlk (s : State) (id : Nat) (st : Byte) (source unit : Nat) (d : Bytes) : (logEv s id st source unit d).mirBlk = s.mirBlk := by rw [logEv_frame]
@[simp] theorem logEv_rxHeld (s : State) (id : Nat) (st : Byte) (source unit : Nat) (d : Bytes) : (logEv s id st source unit d).rxHeld = s.rxHeld := by rw [logEv_frame]
@[simp] theorem logEv_linkStats (s : State) (id : Nat) (st : Byte) (source unit : Nat) (d : Bytes) : (logEv s id st source unit d).linkStats = s.linkStats := by rw [logEv_frame]
@[simp] theorem logEv_decryptFails (s : State) (id : Nat) (st : Byte) (source unit : Nat) (d : Bytes) : (logEv s id st source unit d).decryptFails = s.decryptFails := by rw [logEv_frame]
@[simp] theorem logEv_decryptHi (s : State) (id : Nat) (st : Byte) (source unit : Nat) (d : Bytes) : (logEv s id st source unit d).decryptHi = s.decryptHi := by rw [logEv_frame]
@[simp] theorem logEv_rdHi (s : State) (id : Nat) (st : Byte) (source unit : Nat) (d : Bytes) : (logEv s id st source unit d).rdHi = s.rdHi := by rw [logEv_frame]
@[simp] theorem logEv_sy (s : State) (id : Nat) (st : Byte) (source unit : Nat) (d : Bytes) : (logEv s id st source unit d).sy = s.sy := by rw [logEv_frame]
@[simp] theorem logEv_syPend (s : State) (id : Nat) (st : Byte) (source unit : Nat) (d : Bytes) : (logEv s id st source unit d).syPend = s.syPend := by rw [logEv_frame]
@[simp] theorem logEv_groups (s : State) (id : Nat) (st : Byte) (source unit : Nat) (d : Bytes) : (logEv s id st source unit d).groups = s.groups := by rw [logEv_frame]
@[simp] theorem logEv_rn (s : State) (id : Nat) (st : Byte) (source unit : Nat) (d : Bytes) : (logEv s id st source unit d).rn = s.rn := by rw [logEv_frame]
@[simp] theorem logEv_fw (s : State) (id : Nat) (st : Byte) (source unit : Nat) (d : Bytes) : (logEv s id st source unit d).fw = s.fw := by rw [logEv_frame]
@[simp] theorem logEv_cbs (s : State) (id : Nat) (st : Byte) (source unit : Nat) (d : Bytes) : (logEv s id st source unit d).cbs = s.cbs := by rw [logEv_frame]
@[simp] theorem logEv_pt (s : State) (id : Nat) (st : Byte) (source unit : Nat) (d : Bytes) : (logEv s id st source unit d).pt = s.pt := by rw [logEv_frame]
@[simp] theorem logEv_cv (s : State) (id : Nat) (st : Byte) (source unit : Nat) (d : Bytes) : (logEv s id st source unit d).cv = s.cv := by rw [logEv_frame]
@[simp] theorem logEv_spdm (s : State) (id : Nat) (st : Byte) (source unit : Nat) (d : Bytes) : (logEv s id st source unit d).spdm = s.spdm := by rw [logEv_frame]
@[simp] theorem logEv_hbm (s : State) (id : Nat) (st : Byte) (source unit : Nat) (d : Bytes) : (logEv s id st source unit d).hbm = s.hbm := by rw [logEv_frame]
@[simp] theorem logEv_plot (s : State) (id : Nat) (st : Byte) (source unit : Nat) (d : Bytes) : (logEv s id st source unit d).plot = s.plot := by rw [logEv_frame]
@[simp] theorem logEv_pmem (s : State) (id : Nat) (st : Byte) (source unit : Nat) (d : Bytes) : (logEv s id st source unit d).pmem = s.pmem := by rw [logEv_frame]
@[simp] theorem logEv_stacksLost (s : State) (id : Nat) (st : Byte) (source unit : Nat) (d : Bytes) : (logEv s id st source unit d).stacksLost = s.stacksLost := by rw [logEv_frame]
@[simp] theorem logEv_out (s : State) (id : Nat) (st : Byte) (source unit : Nat) (d : Bytes) : (logEv s id st source unit d).out = s.out := by rw [logEv_frame]
@[simp] theorem logEv_rd (s : State) (id : Nat) (st : Byte) (source unit : Nat) (d : Bytes) : (logEv s id st source unit d).rd = s.rd := by rw [logEv_frame]
@[simp] theorem logEv_pending (s : State) (id : Nat) (st : Byte) (source unit : Nat) (d : Bytes) : (logEv s id st source unit d).pending = s.pending := by rw [logEv_frame]

/-! ### voidGuarantee -/

/-- `voidGuarantee` writes only this. -/
theorem voidGuarantee_frame (s : State) (why : Nat) : voidGuarantee s why = { s with basin := (voidGuarantee s why).basin, log := (voidGuarantee s why).log } := by unfold voidGuarantee; rw [logEv_frame]

@[simp] theorem voidGuarantee_sys (s : State) (why : Nat) : (voidGuarantee s why).sys = s.sys := by rw [voidGuarantee_frame]
@[simp] theorem voidGuarantee_boot (s : State) (why : Nat) : (voidGuarantee s why).boot = s.boot := by rw [voidGuarantee_frame]
@[simp] theorem voidGuarantee_asleep (s : State) (why : Nat) : (voidGuarantee s why).asleep = s.asleep := by rw [voidGuarantee_frame]
@[simp] theorem voidGuarantee_flash (s : State) (why : Nat) : (voidGuarantee s why).flash = s.flash := by rw [voidGuarantee_frame]
@[simp] theorem voidGuarantee_feat (s : State) (why : Nat) : (voidGuarantee s why).feat = s.feat := by rw [voidGuarantee_frame]
@[simp] theorem voidGuarantee_vp (s : State) (why : Nat) : (voidGuarantee s why).vp = s.vp := by rw [voidGuarantee_frame]
@[simp] theorem voidGuarantee_mbx (s : State) (why : Nat) : (voidGuarantee s why).mbx = s.mbx := by rw [voidGuarantee_frame]
@[simp] theorem voidGuarantee_lv (s : State) (why : Nat) : (voidGuarantee s why).lv = s.lv := by rw [voidGuarantee_frame]
@[simp] theorem voidGuarantee_clk (s : State) (why : Nat) : (voidGuarantee s why).clk = s.clk := by rw [voidGuarantee_frame]
@[simp] theorem voidGuarantee_ports (s : State) (why : Nat) : (voidGuarantee s why).ports = s.ports := by rw [voidGuarantee_frame]
@[simp] theorem voidGuarantee_links (s : State) (why : Nat) : (voidGuarantee s why).links = s.links := by rw [voidGuarantee_frame]
@[simp] theorem voidGuarantee_mgr (s : State) (why : Nat) : (voidGuarantee s why).mgr = s.mgr := by rw [voidGuarantee_frame]
@[simp] theorem voidGuarantee_policy (s : State) (why : Nat) : (voidGuarantee s why).policy = s.policy := by rw [voidGuarantee_frame]
@[simp] theorem voidGuarantee_wr (s : State) (why : Nat) : (voidGuarantee s why).wr = s.wr := by rw [voidGuarantee_frame]
@[simp] theorem voidGuarantee_intr (s : State) (why : Nat) : (voidGuarantee s why).intr = s.intr := by rw [voidGuarantee_frame]
@[simp] theorem voidGuarantee_st (s : State) (why : Nat) : (voidGuarantee s why).st = s.st := by rw [voidGuarantee_frame]
@[simp] theorem voidGuarantee_regs (s : State) (why : Nat) : (voidGuarantee s why).regs = s.regs := by rw [voidGuarantee_frame]
@[simp] theorem voidGuarantee_pages (s : State) (why : Nat) : (voidGuarantee s why).pages = s.pages := by rw [voidGuarantee_frame]
@[simp] theorem voidGuarantee_own (s : State) (why : Nat) : (voidGuarantee s why).own = s.own := by rw [voidGuarantee_frame]
@[simp] theorem voidGuarantee_insts (s : State) (why : Nat) : (voidGuarantee s why).insts = s.insts := by rw [voidGuarantee_frame]
@[simp] theorem voidGuarantee_wqs (s : State) (why : Nat) : (voidGuarantee s why).wqs = s.wqs := by rw [voidGuarantee_frame]
@[simp] theorem voidGuarantee_cqs (s : State) (why : Nat) : (voidGuarantee s why).cqs = s.cqs := by rw [voidGuarantee_frame]
@[simp] theorem voidGuarantee_infl (s : State) (why : Nat) : (voidGuarantee s why).infl = s.infl := by rw [voidGuarantee_frame]
@[simp] theorem voidGuarantee_accSeq (s : State) (why : Nat) : (voidGuarantee s why).accSeq = s.accSeq := by rw [voidGuarantee_frame]
@[simp] theorem voidGuarantee_spans (s : State) (why : Nat) : (voidGuarantee s why).spans = s.spans := by rw [voidGuarantee_frame]
@[simp] theorem voidGuarantee_keys (s : State) (why : Nat) : (voidGuarantee s why).keys = s.keys := by rw [voidGuarantee_frame]
@[simp] theorem voidGuarantee_pieces (s : State) (why : Nat) : (voidGuarantee s why).pieces = s.pieces := by rw [voidGuarantee_frame]
@[simp] theorem voidGuarantee_pieceClock (s : State) (why : Nat) : (voidGuarantee s why).pieceClock = s.pieceClock := by rw [voidGuarantee_frame]
@[simp] theorem voidGuarantee_ats (s : State) (why : Nat) : (voidGuarantee s why).ats = s.ats := by rw [voidGuarantee_frame]
@[simp] theorem voidGuarantee_bx (s : State) (why : Nat) : (voidGuarantee s why).bx = s.bx := by rw [voidGuarantee_frame]
@[simp] theorem voidGuarantee_nextBx (s : State) (why : Nat) : (voidGuarantee s why).nextBx = s.nextBx := by rw [voidGuarantee_frame]
@[simp] theorem voidGuarantee_allocs (s : State) (why : Nat) : (voidGuarantee s why).allocs = s.allocs := by rw [voidGuarantee_frame]
@[simp] theorem voidGuarantee_qps (s : State) (why : Nat) : (voidGuarantee s why).qps = s.qps := by rw [voidGuarantee_frame]
@[simp] theorem voidGuarantee_shadows (s : State) (why : Nat) : (voidGuarantee s why).shadows = s.shadows := by rw [voidGuarantee_frame]
@[simp] theorem voidGuarantee_mirBlk (s : State) (why : Nat) : (voidGuarantee s why).mirBlk = s.mirBlk := by rw [voidGuarantee_frame]
@[simp] theorem voidGuarantee_rxHeld (s : State) (why : Nat) : (voidGuarantee s why).rxHeld = s.rxHeld := by rw [voidGuarantee_frame]
@[simp] theorem voidGuarantee_linkStats (s : State) (why : Nat) : (voidGuarantee s why).linkStats = s.linkStats := by rw [voidGuarantee_frame]
@[simp] theorem voidGuarantee_decryptFails (s : State) (why : Nat) : (voidGuarantee s why).decryptFails = s.decryptFails := by rw [voidGuarantee_frame]
@[simp] theorem voidGuarantee_decryptHi (s : State) (why : Nat) : (voidGuarantee s why).decryptHi = s.decryptHi := by rw [voidGuarantee_frame]
@[simp] theorem voidGuarantee_rdHi (s : State) (why : Nat) : (voidGuarantee s why).rdHi = s.rdHi := by rw [voidGuarantee_frame]
@[simp] theorem voidGuarantee_sy (s : State) (why : Nat) : (voidGuarantee s why).sy = s.sy := by rw [voidGuarantee_frame]
@[simp] theorem voidGuarantee_syPend (s : State) (why : Nat) : (voidGuarantee s why).syPend = s.syPend := by rw [voidGuarantee_frame]
@[simp] theorem voidGuarantee_groups (s : State) (why : Nat) : (voidGuarantee s why).groups = s.groups := by rw [voidGuarantee_frame]
@[simp] theorem voidGuarantee_rn (s : State) (why : Nat) : (voidGuarantee s why).rn = s.rn := by rw [voidGuarantee_frame]
@[simp] theorem voidGuarantee_fw (s : State) (why : Nat) : (voidGuarantee s why).fw = s.fw := by rw [voidGuarantee_frame]
@[simp] theorem voidGuarantee_cbs (s : State) (why : Nat) : (voidGuarantee s why).cbs = s.cbs := by rw [voidGuarantee_frame]
@[simp] theorem voidGuarantee_pt (s : State) (why : Nat) : (voidGuarantee s why).pt = s.pt := by rw [voidGuarantee_frame]
@[simp] theorem voidGuarantee_cv (s : State) (why : Nat) : (voidGuarantee s why).cv = s.cv := by rw [voidGuarantee_frame]
@[simp] theorem voidGuarantee_spdm (s : State) (why : Nat) : (voidGuarantee s why).spdm = s.spdm := by rw [voidGuarantee_frame]
@[simp] theorem voidGuarantee_hbm (s : State) (why : Nat) : (voidGuarantee s why).hbm = s.hbm := by rw [voidGuarantee_frame]
@[simp] theorem voidGuarantee_plot (s : State) (why : Nat) : (voidGuarantee s why).plot = s.plot := by rw [voidGuarantee_frame]
@[simp] theorem voidGuarantee_pmem (s : State) (why : Nat) : (voidGuarantee s why).pmem = s.pmem := by rw [voidGuarantee_frame]
@[simp] theorem voidGuarantee_stacksLost (s : State) (why : Nat) : (voidGuarantee s why).stacksLost = s.stacksLost := by rw [voidGuarantee_frame]
@[simp] theorem voidGuarantee_out (s : State) (why : Nat) : (voidGuarantee s why).out = s.out := by rw [voidGuarantee_frame]
@[simp] theorem voidGuarantee_rd (s : State) (why : Nat) : (voidGuarantee s why).rd = s.rd := by rw [voidGuarantee_frame]
@[simp] theorem voidGuarantee_pending (s : State) (why : Nat) : (voidGuarantee s why).pending = s.pending := by rw [voidGuarantee_frame]

/-! ### openOwnWin -/

/-- `openOwnWin` writes only this. -/
theorem openOwnWin_frame (s : State) : openOwnWin s = { s with basin := (openOwnWin s).basin, log := (openOwnWin s).log } := by unfold openOwnWin; dsimp only; split <;> first | rfl | (rw [voidGuarantee_frame])

@[simp] theorem openOwnWin_sys (s : State) : (openOwnWin s).sys = s.sys := by rw [openOwnWin_frame]
@[simp] theorem openOwnWin_boot (s : State) : (openOwnWin s).boot = s.boot := by rw [openOwnWin_frame]
@[simp] theorem openOwnWin_asleep (s : State) : (openOwnWin s).asleep = s.asleep := by rw [openOwnWin_frame]
@[simp] theorem openOwnWin_flash (s : State) : (openOwnWin s).flash = s.flash := by rw [openOwnWin_frame]
@[simp] theorem openOwnWin_feat (s : State) : (openOwnWin s).feat = s.feat := by rw [openOwnWin_frame]
@[simp] theorem openOwnWin_vp (s : State) : (openOwnWin s).vp = s.vp := by rw [openOwnWin_frame]
@[simp] theorem openOwnWin_mbx (s : State) : (openOwnWin s).mbx = s.mbx := by rw [openOwnWin_frame]
@[simp] theorem openOwnWin_lv (s : State) : (openOwnWin s).lv = s.lv := by rw [openOwnWin_frame]
@[simp] theorem openOwnWin_clk (s : State) : (openOwnWin s).clk = s.clk := by rw [openOwnWin_frame]
@[simp] theorem openOwnWin_ports (s : State) : (openOwnWin s).ports = s.ports := by rw [openOwnWin_frame]
@[simp] theorem openOwnWin_links (s : State) : (openOwnWin s).links = s.links := by rw [openOwnWin_frame]
@[simp] theorem openOwnWin_mgr (s : State) : (openOwnWin s).mgr = s.mgr := by rw [openOwnWin_frame]
@[simp] theorem openOwnWin_policy (s : State) : (openOwnWin s).policy = s.policy := by rw [openOwnWin_frame]
@[simp] theorem openOwnWin_wr (s : State) : (openOwnWin s).wr = s.wr := by rw [openOwnWin_frame]
@[simp] theorem openOwnWin_intr (s : State) : (openOwnWin s).intr = s.intr := by rw [openOwnWin_frame]
@[simp] theorem openOwnWin_st (s : State) : (openOwnWin s).st = s.st := by rw [openOwnWin_frame]
@[simp] theorem openOwnWin_regs (s : State) : (openOwnWin s).regs = s.regs := by rw [openOwnWin_frame]
@[simp] theorem openOwnWin_pages (s : State) : (openOwnWin s).pages = s.pages := by rw [openOwnWin_frame]
@[simp] theorem openOwnWin_own (s : State) : (openOwnWin s).own = s.own := by rw [openOwnWin_frame]
@[simp] theorem openOwnWin_insts (s : State) : (openOwnWin s).insts = s.insts := by rw [openOwnWin_frame]
@[simp] theorem openOwnWin_wqs (s : State) : (openOwnWin s).wqs = s.wqs := by rw [openOwnWin_frame]
@[simp] theorem openOwnWin_cqs (s : State) : (openOwnWin s).cqs = s.cqs := by rw [openOwnWin_frame]
@[simp] theorem openOwnWin_infl (s : State) : (openOwnWin s).infl = s.infl := by rw [openOwnWin_frame]
@[simp] theorem openOwnWin_accSeq (s : State) : (openOwnWin s).accSeq = s.accSeq := by rw [openOwnWin_frame]
@[simp] theorem openOwnWin_spans (s : State) : (openOwnWin s).spans = s.spans := by rw [openOwnWin_frame]
@[simp] theorem openOwnWin_keys (s : State) : (openOwnWin s).keys = s.keys := by rw [openOwnWin_frame]
@[simp] theorem openOwnWin_pieces (s : State) : (openOwnWin s).pieces = s.pieces := by rw [openOwnWin_frame]
@[simp] theorem openOwnWin_pieceClock (s : State) : (openOwnWin s).pieceClock = s.pieceClock := by rw [openOwnWin_frame]
@[simp] theorem openOwnWin_ats (s : State) : (openOwnWin s).ats = s.ats := by rw [openOwnWin_frame]
@[simp] theorem openOwnWin_bx (s : State) : (openOwnWin s).bx = s.bx := by rw [openOwnWin_frame]
@[simp] theorem openOwnWin_nextBx (s : State) : (openOwnWin s).nextBx = s.nextBx := by rw [openOwnWin_frame]
@[simp] theorem openOwnWin_allocs (s : State) : (openOwnWin s).allocs = s.allocs := by rw [openOwnWin_frame]
@[simp] theorem openOwnWin_qps (s : State) : (openOwnWin s).qps = s.qps := by rw [openOwnWin_frame]
@[simp] theorem openOwnWin_shadows (s : State) : (openOwnWin s).shadows = s.shadows := by rw [openOwnWin_frame]
@[simp] theorem openOwnWin_mirBlk (s : State) : (openOwnWin s).mirBlk = s.mirBlk := by rw [openOwnWin_frame]
@[simp] theorem openOwnWin_rxHeld (s : State) : (openOwnWin s).rxHeld = s.rxHeld := by rw [openOwnWin_frame]
@[simp] theorem openOwnWin_linkStats (s : State) : (openOwnWin s).linkStats = s.linkStats := by rw [openOwnWin_frame]
@[simp] theorem openOwnWin_decryptFails (s : State) : (openOwnWin s).decryptFails = s.decryptFails := by rw [openOwnWin_frame]
@[simp] theorem openOwnWin_decryptHi (s : State) : (openOwnWin s).decryptHi = s.decryptHi := by rw [openOwnWin_frame]
@[simp] theorem openOwnWin_rdHi (s : State) : (openOwnWin s).rdHi = s.rdHi := by rw [openOwnWin_frame]
@[simp] theorem openOwnWin_sy (s : State) : (openOwnWin s).sy = s.sy := by rw [openOwnWin_frame]
@[simp] theorem openOwnWin_syPend (s : State) : (openOwnWin s).syPend = s.syPend := by rw [openOwnWin_frame]
@[simp] theorem openOwnWin_groups (s : State) : (openOwnWin s).groups = s.groups := by rw [openOwnWin_frame]
@[simp] theorem openOwnWin_rn (s : State) : (openOwnWin s).rn = s.rn := by rw [openOwnWin_frame]
@[simp] theorem openOwnWin_fw (s : State) : (openOwnWin s).fw = s.fw := by rw [openOwnWin_frame]
@[simp] theorem openOwnWin_cbs (s : State) : (openOwnWin s).cbs = s.cbs := by rw [openOwnWin_frame]
@[simp] theorem openOwnWin_pt (s : State) : (openOwnWin s).pt = s.pt := by rw [openOwnWin_frame]
@[simp] theorem openOwnWin_cv (s : State) : (openOwnWin s).cv = s.cv := by rw [openOwnWin_frame]
@[simp] theorem openOwnWin_spdm (s : State) : (openOwnWin s).spdm = s.spdm := by rw [openOwnWin_frame]
@[simp] theorem openOwnWin_hbm (s : State) : (openOwnWin s).hbm = s.hbm := by rw [openOwnWin_frame]
@[simp] theorem openOwnWin_plot (s : State) : (openOwnWin s).plot = s.plot := by rw [openOwnWin_frame]
@[simp] theorem openOwnWin_pmem (s : State) : (openOwnWin s).pmem = s.pmem := by rw [openOwnWin_frame]
@[simp] theorem openOwnWin_stacksLost (s : State) : (openOwnWin s).stacksLost = s.stacksLost := by rw [openOwnWin_frame]
@[simp] theorem openOwnWin_out (s : State) : (openOwnWin s).out = s.out := by rw [openOwnWin_frame]
@[simp] theorem openOwnWin_rd (s : State) : (openOwnWin s).rd = s.rd := by rw [openOwnWin_frame]
@[simp] theorem openOwnWin_pending (s : State) : (openOwnWin s).pending = s.pending := by rw [openOwnWin_frame]

/-! ### reject -/

/-- `reject` writes only this. -/
theorem reject_frame (s : State) (addr : Nat) (inst : Option Nat) (w : RegWr) (st : Byte) : reject s addr inst w st = { s with vp := (reject s addr inst w st).vp, intr := (reject s addr inst w st).intr, out := (reject s addr inst w st).out } := by unfold reject; split <;> first | rfl | (rw [raise_frame]; try rfl)

@[simp] theorem reject_sys (s : State) (addr : Nat) (inst : Option Nat) (w : RegWr) (st : Byte) : (reject s addr inst w st).sys = s.sys := by rw [reject_frame]
@[simp] theorem reject_boot (s : State) (addr : Nat) (inst : Option Nat) (w : RegWr) (st : Byte) : (reject s addr inst w st).boot = s.boot := by rw [reject_frame]
@[simp] theorem reject_asleep (s : State) (addr : Nat) (inst : Option Nat) (w : RegWr) (st : Byte) : (reject s addr inst w st).asleep = s.asleep := by rw [reject_frame]
@[simp] theorem reject_flash (s : State) (addr : Nat) (inst : Option Nat) (w : RegWr) (st : Byte) : (reject s addr inst w st).flash = s.flash := by rw [reject_frame]
@[simp] theorem reject_feat (s : State) (addr : Nat) (inst : Option Nat) (w : RegWr) (st : Byte) : (reject s addr inst w st).feat = s.feat := by rw [reject_frame]
@[simp] theorem reject_mbx (s : State) (addr : Nat) (inst : Option Nat) (w : RegWr) (st : Byte) : (reject s addr inst w st).mbx = s.mbx := by rw [reject_frame]
@[simp] theorem reject_lv (s : State) (addr : Nat) (inst : Option Nat) (w : RegWr) (st : Byte) : (reject s addr inst w st).lv = s.lv := by rw [reject_frame]
@[simp] theorem reject_clk (s : State) (addr : Nat) (inst : Option Nat) (w : RegWr) (st : Byte) : (reject s addr inst w st).clk = s.clk := by rw [reject_frame]
@[simp] theorem reject_ports (s : State) (addr : Nat) (inst : Option Nat) (w : RegWr) (st : Byte) : (reject s addr inst w st).ports = s.ports := by rw [reject_frame]
@[simp] theorem reject_links (s : State) (addr : Nat) (inst : Option Nat) (w : RegWr) (st : Byte) : (reject s addr inst w st).links = s.links := by rw [reject_frame]
@[simp] theorem reject_basin (s : State) (addr : Nat) (inst : Option Nat) (w : RegWr) (st : Byte) : (reject s addr inst w st).basin = s.basin := by rw [reject_frame]
@[simp] theorem reject_mgr (s : State) (addr : Nat) (inst : Option Nat) (w : RegWr) (st : Byte) : (reject s addr inst w st).mgr = s.mgr := by rw [reject_frame]
@[simp] theorem reject_policy (s : State) (addr : Nat) (inst : Option Nat) (w : RegWr) (st : Byte) : (reject s addr inst w st).policy = s.policy := by rw [reject_frame]
@[simp] theorem reject_wr (s : State) (addr : Nat) (inst : Option Nat) (w : RegWr) (st : Byte) : (reject s addr inst w st).wr = s.wr := by rw [reject_frame]
@[simp] theorem reject_log (s : State) (addr : Nat) (inst : Option Nat) (w : RegWr) (st : Byte) : (reject s addr inst w st).log = s.log := by rw [reject_frame]
@[simp] theorem reject_st (s : State) (addr : Nat) (inst : Option Nat) (w : RegWr) (st : Byte) : (reject s addr inst w st).st = s.st := by rw [reject_frame]
@[simp] theorem reject_regs (s : State) (addr : Nat) (inst : Option Nat) (w : RegWr) (st : Byte) : (reject s addr inst w st).regs = s.regs := by rw [reject_frame]
@[simp] theorem reject_pages (s : State) (addr : Nat) (inst : Option Nat) (w : RegWr) (st : Byte) : (reject s addr inst w st).pages = s.pages := by rw [reject_frame]
@[simp] theorem reject_own (s : State) (addr : Nat) (inst : Option Nat) (w : RegWr) (st : Byte) : (reject s addr inst w st).own = s.own := by rw [reject_frame]
@[simp] theorem reject_insts (s : State) (addr : Nat) (inst : Option Nat) (w : RegWr) (st : Byte) : (reject s addr inst w st).insts = s.insts := by rw [reject_frame]
@[simp] theorem reject_wqs (s : State) (addr : Nat) (inst : Option Nat) (w : RegWr) (st : Byte) : (reject s addr inst w st).wqs = s.wqs := by rw [reject_frame]
@[simp] theorem reject_cqs (s : State) (addr : Nat) (inst : Option Nat) (w : RegWr) (st : Byte) : (reject s addr inst w st).cqs = s.cqs := by rw [reject_frame]
@[simp] theorem reject_infl (s : State) (addr : Nat) (inst : Option Nat) (w : RegWr) (st : Byte) : (reject s addr inst w st).infl = s.infl := by rw [reject_frame]
@[simp] theorem reject_accSeq (s : State) (addr : Nat) (inst : Option Nat) (w : RegWr) (st : Byte) : (reject s addr inst w st).accSeq = s.accSeq := by rw [reject_frame]
@[simp] theorem reject_spans (s : State) (addr : Nat) (inst : Option Nat) (w : RegWr) (st : Byte) : (reject s addr inst w st).spans = s.spans := by rw [reject_frame]
@[simp] theorem reject_keys (s : State) (addr : Nat) (inst : Option Nat) (w : RegWr) (st : Byte) : (reject s addr inst w st).keys = s.keys := by rw [reject_frame]
@[simp] theorem reject_pieces (s : State) (addr : Nat) (inst : Option Nat) (w : RegWr) (st : Byte) : (reject s addr inst w st).pieces = s.pieces := by rw [reject_frame]
@[simp] theorem reject_pieceClock (s : State) (addr : Nat) (inst : Option Nat) (w : RegWr) (st : Byte) : (reject s addr inst w st).pieceClock = s.pieceClock := by rw [reject_frame]
@[simp] theorem reject_ats (s : State) (addr : Nat) (inst : Option Nat) (w : RegWr) (st : Byte) : (reject s addr inst w st).ats = s.ats := by rw [reject_frame]
@[simp] theorem reject_bx (s : State) (addr : Nat) (inst : Option Nat) (w : RegWr) (st : Byte) : (reject s addr inst w st).bx = s.bx := by rw [reject_frame]
@[simp] theorem reject_nextBx (s : State) (addr : Nat) (inst : Option Nat) (w : RegWr) (st : Byte) : (reject s addr inst w st).nextBx = s.nextBx := by rw [reject_frame]
@[simp] theorem reject_allocs (s : State) (addr : Nat) (inst : Option Nat) (w : RegWr) (st : Byte) : (reject s addr inst w st).allocs = s.allocs := by rw [reject_frame]
@[simp] theorem reject_qps (s : State) (addr : Nat) (inst : Option Nat) (w : RegWr) (st : Byte) : (reject s addr inst w st).qps = s.qps := by rw [reject_frame]
@[simp] theorem reject_shadows (s : State) (addr : Nat) (inst : Option Nat) (w : RegWr) (st : Byte) : (reject s addr inst w st).shadows = s.shadows := by rw [reject_frame]
@[simp] theorem reject_mirBlk (s : State) (addr : Nat) (inst : Option Nat) (w : RegWr) (st : Byte) : (reject s addr inst w st).mirBlk = s.mirBlk := by rw [reject_frame]
@[simp] theorem reject_rxHeld (s : State) (addr : Nat) (inst : Option Nat) (w : RegWr) (st : Byte) : (reject s addr inst w st).rxHeld = s.rxHeld := by rw [reject_frame]
@[simp] theorem reject_linkStats (s : State) (addr : Nat) (inst : Option Nat) (w : RegWr) (st : Byte) : (reject s addr inst w st).linkStats = s.linkStats := by rw [reject_frame]
@[simp] theorem reject_decryptFails (s : State) (addr : Nat) (inst : Option Nat) (w : RegWr) (st : Byte) : (reject s addr inst w st).decryptFails = s.decryptFails := by rw [reject_frame]
@[simp] theorem reject_decryptHi (s : State) (addr : Nat) (inst : Option Nat) (w : RegWr) (st : Byte) : (reject s addr inst w st).decryptHi = s.decryptHi := by rw [reject_frame]
@[simp] theorem reject_rdHi (s : State) (addr : Nat) (inst : Option Nat) (w : RegWr) (st : Byte) : (reject s addr inst w st).rdHi = s.rdHi := by rw [reject_frame]
@[simp] theorem reject_sy (s : State) (addr : Nat) (inst : Option Nat) (w : RegWr) (st : Byte) : (reject s addr inst w st).sy = s.sy := by rw [reject_frame]
@[simp] theorem reject_syPend (s : State) (addr : Nat) (inst : Option Nat) (w : RegWr) (st : Byte) : (reject s addr inst w st).syPend = s.syPend := by rw [reject_frame]
@[simp] theorem reject_groups (s : State) (addr : Nat) (inst : Option Nat) (w : RegWr) (st : Byte) : (reject s addr inst w st).groups = s.groups := by rw [reject_frame]
@[simp] theorem reject_rn (s : State) (addr : Nat) (inst : Option Nat) (w : RegWr) (st : Byte) : (reject s addr inst w st).rn = s.rn := by rw [reject_frame]
@[simp] theorem reject_fw (s : State) (addr : Nat) (inst : Option Nat) (w : RegWr) (st : Byte) : (reject s addr inst w st).fw = s.fw := by rw [reject_frame]
@[simp] theorem reject_cbs (s : State) (addr : Nat) (inst : Option Nat) (w : RegWr) (st : Byte) : (reject s addr inst w st).cbs = s.cbs := by rw [reject_frame]
@[simp] theorem reject_pt (s : State) (addr : Nat) (inst : Option Nat) (w : RegWr) (st : Byte) : (reject s addr inst w st).pt = s.pt := by rw [reject_frame]
@[simp] theorem reject_cv (s : State) (addr : Nat) (inst : Option Nat) (w : RegWr) (st : Byte) : (reject s addr inst w st).cv = s.cv := by rw [reject_frame]
@[simp] theorem reject_spdm (s : State) (addr : Nat) (inst : Option Nat) (w : RegWr) (st : Byte) : (reject s addr inst w st).spdm = s.spdm := by rw [reject_frame]
@[simp] theorem reject_hbm (s : State) (addr : Nat) (inst : Option Nat) (w : RegWr) (st : Byte) : (reject s addr inst w st).hbm = s.hbm := by rw [reject_frame]
@[simp] theorem reject_plot (s : State) (addr : Nat) (inst : Option Nat) (w : RegWr) (st : Byte) : (reject s addr inst w st).plot = s.plot := by rw [reject_frame]
@[simp] theorem reject_pmem (s : State) (addr : Nat) (inst : Option Nat) (w : RegWr) (st : Byte) : (reject s addr inst w st).pmem = s.pmem := by rw [reject_frame]
@[simp] theorem reject_stacksLost (s : State) (addr : Nat) (inst : Option Nat) (w : RegWr) (st : Byte) : (reject s addr inst w st).stacksLost = s.stacksLost := by rw [reject_frame]
@[simp] theorem reject_rd (s : State) (addr : Nat) (inst : Option Nat) (w : RegWr) (st : Byte) : (reject s addr inst w st).rd = s.rd := by rw [reject_frame]
@[simp] theorem reject_pending (s : State) (addr : Nat) (inst : Option Nat) (w : RegWr) (st : Byte) : (reject s addr inst w st).pending = s.pending := by rw [reject_frame]

/-! ### mbxRespond -/

/-- `mbxRespond` writes only this. -/
theorem mbxRespond_frame (s : State) (r : MbxReq) (st : Byte) (d : Bytes) : mbxRespond s r st d = { s with mbx := (mbxRespond s r st d).mbx, intr := (mbxRespond s r st d).intr, out := (mbxRespond s r st d).out } := by
  unfold mbxRespond
  cases r.discard <;> cases r.origin <;> cases r.intr <;> first | rfl | (simp only [Bool.not_false, Bool.and_true, if_true, if_false, Bool.false_eq_true]; rw [raise_frame]; try rfl)

@[simp] theorem mbxRespond_sys (s : State) (r : MbxReq) (st : Byte) (d : Bytes) : (mbxRespond s r st d).sys = s.sys := by rw [mbxRespond_frame]
@[simp] theorem mbxRespond_boot (s : State) (r : MbxReq) (st : Byte) (d : Bytes) : (mbxRespond s r st d).boot = s.boot := by rw [mbxRespond_frame]
@[simp] theorem mbxRespond_asleep (s : State) (r : MbxReq) (st : Byte) (d : Bytes) : (mbxRespond s r st d).asleep = s.asleep := by rw [mbxRespond_frame]
@[simp] theorem mbxRespond_flash (s : State) (r : MbxReq) (st : Byte) (d : Bytes) : (mbxRespond s r st d).flash = s.flash := by rw [mbxRespond_frame]
@[simp] theorem mbxRespond_feat (s : State) (r : MbxReq) (st : Byte) (d : Bytes) : (mbxRespond s r st d).feat = s.feat := by rw [mbxRespond_frame]
@[simp] theorem mbxRespond_vp (s : State) (r : MbxReq) (st : Byte) (d : Bytes) : (mbxRespond s r st d).vp = s.vp := by rw [mbxRespond_frame]
@[simp] theorem mbxRespond_lv (s : State) (r : MbxReq) (st : Byte) (d : Bytes) : (mbxRespond s r st d).lv = s.lv := by rw [mbxRespond_frame]
@[simp] theorem mbxRespond_clk (s : State) (r : MbxReq) (st : Byte) (d : Bytes) : (mbxRespond s r st d).clk = s.clk := by rw [mbxRespond_frame]
@[simp] theorem mbxRespond_ports (s : State) (r : MbxReq) (st : Byte) (d : Bytes) : (mbxRespond s r st d).ports = s.ports := by rw [mbxRespond_frame]
@[simp] theorem mbxRespond_links (s : State) (r : MbxReq) (st : Byte) (d : Bytes) : (mbxRespond s r st d).links = s.links := by rw [mbxRespond_frame]
@[simp] theorem mbxRespond_basin (s : State) (r : MbxReq) (st : Byte) (d : Bytes) : (mbxRespond s r st d).basin = s.basin := by rw [mbxRespond_frame]
@[simp] theorem mbxRespond_mgr (s : State) (r : MbxReq) (st : Byte) (d : Bytes) : (mbxRespond s r st d).mgr = s.mgr := by rw [mbxRespond_frame]
@[simp] theorem mbxRespond_policy (s : State) (r : MbxReq) (st : Byte) (d : Bytes) : (mbxRespond s r st d).policy = s.policy := by rw [mbxRespond_frame]
@[simp] theorem mbxRespond_wr (s : State) (r : MbxReq) (st : Byte) (d : Bytes) : (mbxRespond s r st d).wr = s.wr := by rw [mbxRespond_frame]
@[simp] theorem mbxRespond_log (s : State) (r : MbxReq) (st : Byte) (d : Bytes) : (mbxRespond s r st d).log = s.log := by rw [mbxRespond_frame]
@[simp] theorem mbxRespond_st (s : State) (r : MbxReq) (st : Byte) (d : Bytes) : (mbxRespond s r st d).st = s.st := by rw [mbxRespond_frame]
@[simp] theorem mbxRespond_regs (s : State) (r : MbxReq) (st : Byte) (d : Bytes) : (mbxRespond s r st d).regs = s.regs := by rw [mbxRespond_frame]
@[simp] theorem mbxRespond_pages (s : State) (r : MbxReq) (st : Byte) (d : Bytes) : (mbxRespond s r st d).pages = s.pages := by rw [mbxRespond_frame]
@[simp] theorem mbxRespond_own (s : State) (r : MbxReq) (st : Byte) (d : Bytes) : (mbxRespond s r st d).own = s.own := by rw [mbxRespond_frame]
@[simp] theorem mbxRespond_insts (s : State) (r : MbxReq) (st : Byte) (d : Bytes) : (mbxRespond s r st d).insts = s.insts := by rw [mbxRespond_frame]
@[simp] theorem mbxRespond_wqs (s : State) (r : MbxReq) (st : Byte) (d : Bytes) : (mbxRespond s r st d).wqs = s.wqs := by rw [mbxRespond_frame]
@[simp] theorem mbxRespond_cqs (s : State) (r : MbxReq) (st : Byte) (d : Bytes) : (mbxRespond s r st d).cqs = s.cqs := by rw [mbxRespond_frame]
@[simp] theorem mbxRespond_infl (s : State) (r : MbxReq) (st : Byte) (d : Bytes) : (mbxRespond s r st d).infl = s.infl := by rw [mbxRespond_frame]
@[simp] theorem mbxRespond_accSeq (s : State) (r : MbxReq) (st : Byte) (d : Bytes) : (mbxRespond s r st d).accSeq = s.accSeq := by rw [mbxRespond_frame]
@[simp] theorem mbxRespond_spans (s : State) (r : MbxReq) (st : Byte) (d : Bytes) : (mbxRespond s r st d).spans = s.spans := by rw [mbxRespond_frame]
@[simp] theorem mbxRespond_keys (s : State) (r : MbxReq) (st : Byte) (d : Bytes) : (mbxRespond s r st d).keys = s.keys := by rw [mbxRespond_frame]
@[simp] theorem mbxRespond_pieces (s : State) (r : MbxReq) (st : Byte) (d : Bytes) : (mbxRespond s r st d).pieces = s.pieces := by rw [mbxRespond_frame]
@[simp] theorem mbxRespond_pieceClock (s : State) (r : MbxReq) (st : Byte) (d : Bytes) : (mbxRespond s r st d).pieceClock = s.pieceClock := by rw [mbxRespond_frame]
@[simp] theorem mbxRespond_ats (s : State) (r : MbxReq) (st : Byte) (d : Bytes) : (mbxRespond s r st d).ats = s.ats := by rw [mbxRespond_frame]
@[simp] theorem mbxRespond_bx (s : State) (r : MbxReq) (st : Byte) (d : Bytes) : (mbxRespond s r st d).bx = s.bx := by rw [mbxRespond_frame]
@[simp] theorem mbxRespond_nextBx (s : State) (r : MbxReq) (st : Byte) (d : Bytes) : (mbxRespond s r st d).nextBx = s.nextBx := by rw [mbxRespond_frame]
@[simp] theorem mbxRespond_allocs (s : State) (r : MbxReq) (st : Byte) (d : Bytes) : (mbxRespond s r st d).allocs = s.allocs := by rw [mbxRespond_frame]
@[simp] theorem mbxRespond_qps (s : State) (r : MbxReq) (st : Byte) (d : Bytes) : (mbxRespond s r st d).qps = s.qps := by rw [mbxRespond_frame]
@[simp] theorem mbxRespond_shadows (s : State) (r : MbxReq) (st : Byte) (d : Bytes) : (mbxRespond s r st d).shadows = s.shadows := by rw [mbxRespond_frame]
@[simp] theorem mbxRespond_mirBlk (s : State) (r : MbxReq) (st : Byte) (d : Bytes) : (mbxRespond s r st d).mirBlk = s.mirBlk := by rw [mbxRespond_frame]
@[simp] theorem mbxRespond_rxHeld (s : State) (r : MbxReq) (st : Byte) (d : Bytes) : (mbxRespond s r st d).rxHeld = s.rxHeld := by rw [mbxRespond_frame]
@[simp] theorem mbxRespond_linkStats (s : State) (r : MbxReq) (st : Byte) (d : Bytes) : (mbxRespond s r st d).linkStats = s.linkStats := by rw [mbxRespond_frame]
@[simp] theorem mbxRespond_decryptFails (s : State) (r : MbxReq) (st : Byte) (d : Bytes) : (mbxRespond s r st d).decryptFails = s.decryptFails := by rw [mbxRespond_frame]
@[simp] theorem mbxRespond_decryptHi (s : State) (r : MbxReq) (st : Byte) (d : Bytes) : (mbxRespond s r st d).decryptHi = s.decryptHi := by rw [mbxRespond_frame]
@[simp] theorem mbxRespond_rdHi (s : State) (r : MbxReq) (st : Byte) (d : Bytes) : (mbxRespond s r st d).rdHi = s.rdHi := by rw [mbxRespond_frame]
@[simp] theorem mbxRespond_sy (s : State) (r : MbxReq) (st : Byte) (d : Bytes) : (mbxRespond s r st d).sy = s.sy := by rw [mbxRespond_frame]
@[simp] theorem mbxRespond_syPend (s : State) (r : MbxReq) (st : Byte) (d : Bytes) : (mbxRespond s r st d).syPend = s.syPend := by rw [mbxRespond_frame]
@[simp] theorem mbxRespond_groups (s : State) (r : MbxReq) (st : Byte) (d : Bytes) : (mbxRespond s r st d).groups = s.groups := by rw [mbxRespond_frame]
@[simp] theorem mbxRespond_rn (s : State) (r : MbxReq) (st : Byte) (d : Bytes) : (mbxRespond s r st d).rn = s.rn := by rw [mbxRespond_frame]
@[simp] theorem mbxRespond_fw (s : State) (r : MbxReq) (st : Byte) (d : Bytes) : (mbxRespond s r st d).fw = s.fw := by rw [mbxRespond_frame]
@[simp] theorem mbxRespond_cbs (s : State) (r : MbxReq) (st : Byte) (d : Bytes) : (mbxRespond s r st d).cbs = s.cbs := by rw [mbxRespond_frame]
@[simp] theorem mbxRespond_pt (s : State) (r : MbxReq) (st : Byte) (d : Bytes) : (mbxRespond s r st d).pt = s.pt := by rw [mbxRespond_frame]
@[simp] theorem mbxRespond_cv (s : State) (r : MbxReq) (st : Byte) (d : Bytes) : (mbxRespond s r st d).cv = s.cv := by rw [mbxRespond_frame]
@[simp] theorem mbxRespond_spdm (s : State) (r : MbxReq) (st : Byte) (d : Bytes) : (mbxRespond s r st d).spdm = s.spdm := by rw [mbxRespond_frame]
@[simp] theorem mbxRespond_hbm (s : State) (r : MbxReq) (st : Byte) (d : Bytes) : (mbxRespond s r st d).hbm = s.hbm := by rw [mbxRespond_frame]
@[simp] theorem mbxRespond_plot (s : State) (r : MbxReq) (st : Byte) (d : Bytes) : (mbxRespond s r st d).plot = s.plot := by rw [mbxRespond_frame]
@[simp] theorem mbxRespond_pmem (s : State) (r : MbxReq) (st : Byte) (d : Bytes) : (mbxRespond s r st d).pmem = s.pmem := by rw [mbxRespond_frame]
@[simp] theorem mbxRespond_stacksLost (s : State) (r : MbxReq) (st : Byte) (d : Bytes) : (mbxRespond s r st d).stacksLost = s.stacksLost := by rw [mbxRespond_frame]
@[simp] theorem mbxRespond_rd (s : State) (r : MbxReq) (st : Byte) (d : Bytes) : (mbxRespond s r st d).rd = s.rd := by rw [mbxRespond_frame]
@[simp] theorem mbxRespond_pending (s : State) (r : MbxReq) (st : Byte) (d : Bytes) : (mbxRespond s r st d).pending = s.pending := by rw [mbxRespond_frame]

/-! ### mbxDone -/

/-- `mbxDone` writes only this. -/
theorem mbxDone_frame (s : State) (st : Byte) (d : Bytes) : mbxDone s st d = { s with mbx := (mbxDone s st d).mbx, intr := (mbxDone s st d).intr, out := (mbxDone s st d).out } := by unfold mbxDone; split <;> first | rfl | (rw [mbxRespond_frame])

@[simp] theorem mbxDone_sys (s : State) (st : Byte) (d : Bytes) : (mbxDone s st d).sys = s.sys := by rw [mbxDone_frame]
@[simp] theorem mbxDone_boot (s : State) (st : Byte) (d : Bytes) : (mbxDone s st d).boot = s.boot := by rw [mbxDone_frame]
@[simp] theorem mbxDone_asleep (s : State) (st : Byte) (d : Bytes) : (mbxDone s st d).asleep = s.asleep := by rw [mbxDone_frame]
@[simp] theorem mbxDone_flash (s : State) (st : Byte) (d : Bytes) : (mbxDone s st d).flash = s.flash := by rw [mbxDone_frame]
@[simp] theorem mbxDone_feat (s : State) (st : Byte) (d : Bytes) : (mbxDone s st d).feat = s.feat := by rw [mbxDone_frame]
@[simp] theorem mbxDone_vp (s : State) (st : Byte) (d : Bytes) : (mbxDone s st d).vp = s.vp := by rw [mbxDone_frame]
@[simp] theorem mbxDone_lv (s : State) (st : Byte) (d : Bytes) : (mbxDone s st d).lv = s.lv := by rw [mbxDone_frame]
@[simp] theorem mbxDone_clk (s : State) (st : Byte) (d : Bytes) : (mbxDone s st d).clk = s.clk := by rw [mbxDone_frame]
@[simp] theorem mbxDone_ports (s : State) (st : Byte) (d : Bytes) : (mbxDone s st d).ports = s.ports := by rw [mbxDone_frame]
@[simp] theorem mbxDone_links (s : State) (st : Byte) (d : Bytes) : (mbxDone s st d).links = s.links := by rw [mbxDone_frame]
@[simp] theorem mbxDone_basin (s : State) (st : Byte) (d : Bytes) : (mbxDone s st d).basin = s.basin := by rw [mbxDone_frame]
@[simp] theorem mbxDone_mgr (s : State) (st : Byte) (d : Bytes) : (mbxDone s st d).mgr = s.mgr := by rw [mbxDone_frame]
@[simp] theorem mbxDone_policy (s : State) (st : Byte) (d : Bytes) : (mbxDone s st d).policy = s.policy := by rw [mbxDone_frame]
@[simp] theorem mbxDone_wr (s : State) (st : Byte) (d : Bytes) : (mbxDone s st d).wr = s.wr := by rw [mbxDone_frame]
@[simp] theorem mbxDone_log (s : State) (st : Byte) (d : Bytes) : (mbxDone s st d).log = s.log := by rw [mbxDone_frame]
@[simp] theorem mbxDone_st (s : State) (st : Byte) (d : Bytes) : (mbxDone s st d).st = s.st := by rw [mbxDone_frame]
@[simp] theorem mbxDone_regs (s : State) (st : Byte) (d : Bytes) : (mbxDone s st d).regs = s.regs := by rw [mbxDone_frame]
@[simp] theorem mbxDone_pages (s : State) (st : Byte) (d : Bytes) : (mbxDone s st d).pages = s.pages := by rw [mbxDone_frame]
@[simp] theorem mbxDone_own (s : State) (st : Byte) (d : Bytes) : (mbxDone s st d).own = s.own := by rw [mbxDone_frame]
@[simp] theorem mbxDone_insts (s : State) (st : Byte) (d : Bytes) : (mbxDone s st d).insts = s.insts := by rw [mbxDone_frame]
@[simp] theorem mbxDone_wqs (s : State) (st : Byte) (d : Bytes) : (mbxDone s st d).wqs = s.wqs := by rw [mbxDone_frame]
@[simp] theorem mbxDone_cqs (s : State) (st : Byte) (d : Bytes) : (mbxDone s st d).cqs = s.cqs := by rw [mbxDone_frame]
@[simp] theorem mbxDone_infl (s : State) (st : Byte) (d : Bytes) : (mbxDone s st d).infl = s.infl := by rw [mbxDone_frame]
@[simp] theorem mbxDone_accSeq (s : State) (st : Byte) (d : Bytes) : (mbxDone s st d).accSeq = s.accSeq := by rw [mbxDone_frame]
@[simp] theorem mbxDone_spans (s : State) (st : Byte) (d : Bytes) : (mbxDone s st d).spans = s.spans := by rw [mbxDone_frame]
@[simp] theorem mbxDone_keys (s : State) (st : Byte) (d : Bytes) : (mbxDone s st d).keys = s.keys := by rw [mbxDone_frame]
@[simp] theorem mbxDone_pieces (s : State) (st : Byte) (d : Bytes) : (mbxDone s st d).pieces = s.pieces := by rw [mbxDone_frame]
@[simp] theorem mbxDone_pieceClock (s : State) (st : Byte) (d : Bytes) : (mbxDone s st d).pieceClock = s.pieceClock := by rw [mbxDone_frame]
@[simp] theorem mbxDone_ats (s : State) (st : Byte) (d : Bytes) : (mbxDone s st d).ats = s.ats := by rw [mbxDone_frame]
@[simp] theorem mbxDone_bx (s : State) (st : Byte) (d : Bytes) : (mbxDone s st d).bx = s.bx := by rw [mbxDone_frame]
@[simp] theorem mbxDone_nextBx (s : State) (st : Byte) (d : Bytes) : (mbxDone s st d).nextBx = s.nextBx := by rw [mbxDone_frame]
@[simp] theorem mbxDone_allocs (s : State) (st : Byte) (d : Bytes) : (mbxDone s st d).allocs = s.allocs := by rw [mbxDone_frame]
@[simp] theorem mbxDone_qps (s : State) (st : Byte) (d : Bytes) : (mbxDone s st d).qps = s.qps := by rw [mbxDone_frame]
@[simp] theorem mbxDone_shadows (s : State) (st : Byte) (d : Bytes) : (mbxDone s st d).shadows = s.shadows := by rw [mbxDone_frame]
@[simp] theorem mbxDone_mirBlk (s : State) (st : Byte) (d : Bytes) : (mbxDone s st d).mirBlk = s.mirBlk := by rw [mbxDone_frame]
@[simp] theorem mbxDone_rxHeld (s : State) (st : Byte) (d : Bytes) : (mbxDone s st d).rxHeld = s.rxHeld := by rw [mbxDone_frame]
@[simp] theorem mbxDone_linkStats (s : State) (st : Byte) (d : Bytes) : (mbxDone s st d).linkStats = s.linkStats := by rw [mbxDone_frame]
@[simp] theorem mbxDone_decryptFails (s : State) (st : Byte) (d : Bytes) : (mbxDone s st d).decryptFails = s.decryptFails := by rw [mbxDone_frame]
@[simp] theorem mbxDone_decryptHi (s : State) (st : Byte) (d : Bytes) : (mbxDone s st d).decryptHi = s.decryptHi := by rw [mbxDone_frame]
@[simp] theorem mbxDone_rdHi (s : State) (st : Byte) (d : Bytes) : (mbxDone s st d).rdHi = s.rdHi := by rw [mbxDone_frame]
@[simp] theorem mbxDone_sy (s : State) (st : Byte) (d : Bytes) : (mbxDone s st d).sy = s.sy := by rw [mbxDone_frame]
@[simp] theorem mbxDone_syPend (s : State) (st : Byte) (d : Bytes) : (mbxDone s st d).syPend = s.syPend := by rw [mbxDone_frame]
@[simp] theorem mbxDone_groups (s : State) (st : Byte) (d : Bytes) : (mbxDone s st d).groups = s.groups := by rw [mbxDone_frame]
@[simp] theorem mbxDone_rn (s : State) (st : Byte) (d : Bytes) : (mbxDone s st d).rn = s.rn := by rw [mbxDone_frame]
@[simp] theorem mbxDone_fw (s : State) (st : Byte) (d : Bytes) : (mbxDone s st d).fw = s.fw := by rw [mbxDone_frame]
@[simp] theorem mbxDone_cbs (s : State) (st : Byte) (d : Bytes) : (mbxDone s st d).cbs = s.cbs := by rw [mbxDone_frame]
@[simp] theorem mbxDone_pt (s : State) (st : Byte) (d : Bytes) : (mbxDone s st d).pt = s.pt := by rw [mbxDone_frame]
@[simp] theorem mbxDone_cv (s : State) (st : Byte) (d : Bytes) : (mbxDone s st d).cv = s.cv := by rw [mbxDone_frame]
@[simp] theorem mbxDone_spdm (s : State) (st : Byte) (d : Bytes) : (mbxDone s st d).spdm = s.spdm := by rw [mbxDone_frame]
@[simp] theorem mbxDone_hbm (s : State) (st : Byte) (d : Bytes) : (mbxDone s st d).hbm = s.hbm := by rw [mbxDone_frame]
@[simp] theorem mbxDone_plot (s : State) (st : Byte) (d : Bytes) : (mbxDone s st d).plot = s.plot := by rw [mbxDone_frame]
@[simp] theorem mbxDone_pmem (s : State) (st : Byte) (d : Bytes) : (mbxDone s st d).pmem = s.pmem := by rw [mbxDone_frame]
@[simp] theorem mbxDone_stacksLost (s : State) (st : Byte) (d : Bytes) : (mbxDone s st d).stacksLost = s.stacksLost := by rw [mbxDone_frame]
@[simp] theorem mbxDone_rd (s : State) (st : Byte) (d : Bytes) : (mbxDone s st d).rd = s.rd := by rw [mbxDone_frame]
@[simp] theorem mbxDone_pending (s : State) (st : Byte) (d : Bytes) : (mbxDone s st d).pending = s.pending := by rw [mbxDone_frame]

/-! ### What the updates say of the fields they write -/

@[simp] theorem advanceTo_sys_fuses (s : State) (t : Nat) : (advanceTo s t).sys.fuses = s.sys.fuses := rfl
@[simp] theorem setNow_sys_fuses (s : State) (t : Nat) : (setNow s t).sys.fuses = s.sys.fuses := rfl
@[simp] theorem freeStep_sys_fuses (s : State) : (freeStep s).sys.fuses = s.sys.fuses := rfl
@[simp] theorem advanceTo_sys_straps (s : State) (t : Nat) : (advanceTo s t).sys.straps = s.sys.straps := rfl
@[simp] theorem setNow_sys_straps (s : State) (t : Nat) : (setNow s t).sys.straps = s.sys.straps := rfl
@[simp] theorem freeStep_sys_straps (s : State) : (freeStep s).sys.straps = s.sys.straps := rfl
@[simp] theorem advanceTo_sys_coldLow (s : State) (t : Nat) : (advanceTo s t).sys.coldLow = s.sys.coldLow := rfl
@[simp] theorem setNow_sys_coldLow (s : State) (t : Nat) : (setNow s t).sys.coldLow = s.sys.coldLow := rfl
@[simp] theorem freeStep_sys_coldLow (s : State) : (freeStep s).sys.coldLow = s.sys.coldLow := rfl
@[simp] theorem advanceTo_sys_warmLow (s : State) (t : Nat) : (advanceTo s t).sys.warmLow = s.sys.warmLow := rfl
@[simp] theorem setNow_sys_warmLow (s : State) (t : Nat) : (setNow s t).sys.warmLow = s.sys.warmLow := rfl
@[simp] theorem freeStep_sys_warmLow (s : State) : (freeStep s).sys.warmLow = s.sys.warmLow := rfl
@[simp] theorem advanceTo_sys_thermTrip (s : State) (t : Nat) : (advanceTo s t).sys.thermTrip = s.sys.thermTrip := rfl
@[simp] theorem setNow_sys_thermTrip (s : State) (t : Nat) : (setNow s t).sys.thermTrip = s.sys.thermTrip := rfl
@[simp] theorem freeStep_sys_thermTrip (s : State) : (freeStep s).sys.thermTrip = s.sys.thermTrip := rfl
@[simp] theorem freeStep_sys_now (s : State) : (freeStep s).sys.now = s.sys.now := rfl
@[simp] theorem advanceTo_sys_devtimeHi (s : State) (t : Nat) : (advanceTo s t).sys.devtimeHi = s.sys.devtimeHi := rfl
@[simp] theorem setNow_sys_devtimeHi (s : State) (t : Nat) : (setNow s t).sys.devtimeHi = s.sys.devtimeHi := rfl
@[simp] theorem freeStep_sys_devtimeHi (s : State) : (freeStep s).sys.devtimeHi = s.sys.devtimeHi := rfl
@[simp] theorem advanceTo_sys_ptpT1 (s : State) (t : Nat) : (advanceTo s t).sys.ptpT1 = s.sys.ptpT1 := rfl
@[simp] theorem setNow_sys_ptpT1 (s : State) (t : Nat) : (setNow s t).sys.ptpT1 = s.sys.ptpT1 := rfl
@[simp] theorem freeStep_sys_ptpT1 (s : State) : (freeStep s).sys.ptpT1 = s.sys.ptpT1 := rfl
@[simp] theorem advanceTo_sys_ptpT2 (s : State) (t : Nat) : (advanceTo s t).sys.ptpT2 = s.sys.ptpT2 := rfl
@[simp] theorem setNow_sys_ptpT2 (s : State) (t : Nat) : (setNow s t).sys.ptpT2 = s.sys.ptpT2 := rfl
@[simp] theorem freeStep_sys_ptpT2 (s : State) : (freeStep s).sys.ptpT2 = s.sys.ptpT2 := rfl
@[simp] theorem advanceTo_sys_ptpT3 (s : State) (t : Nat) : (advanceTo s t).sys.ptpT3 = s.sys.ptpT3 := rfl
@[simp] theorem setNow_sys_ptpT3 (s : State) (t : Nat) : (setNow s t).sys.ptpT3 = s.sys.ptpT3 := rfl
@[simp] theorem freeStep_sys_ptpT3 (s : State) : (freeStep s).sys.ptpT3 = s.sys.ptpT3 := rfl
@[simp] theorem advanceTo_sys_servo (s : State) (t : Nat) : (advanceTo s t).sys.servo = s.sys.servo := rfl
@[simp] theorem setNow_sys_servo (s : State) (t : Nat) : (setNow s t).sys.servo = s.sys.servo := rfl
@[simp] theorem freeStep_sys_servo (s : State) : (freeStep s).sys.servo = s.sys.servo := rfl
@[simp] theorem advanceTo_sys_locked (s : State) (t : Nat) : (advanceTo s t).sys.locked = s.sys.locked := rfl
@[simp] theorem setNow_sys_locked (s : State) (t : Nat) : (setNow s t).sys.locked = s.sys.locked := rfl
@[simp] theorem freeStep_sys_locked (s : State) : (freeStep s).sys.locked = s.sys.locked := rfl
@[simp] theorem advanceTo_sys_subTick (s : State) (t : Nat) : (advanceTo s t).sys.subTick = s.sys.subTick := rfl
@[simp] theorem setNow_sys_subTick (s : State) (t : Nat) : (setNow s t).sys.subTick = s.sys.subTick := rfl
@[simp] theorem freeStep_sys_subTick (s : State) : (freeStep s).sys.subTick = s.sys.subTick := rfl
@[simp] theorem advanceTo_sys_freeCtr (s : State) (t : Nat) : (advanceTo s t).sys.freeCtr = s.sys.freeCtr := rfl
@[simp] theorem setNow_sys_freeCtr (s : State) (t : Nat) : (setNow s t).sys.freeCtr = s.sys.freeCtr := rfl
@[simp] theorem setNow_now (s : State) (t : Nat) : (setNow s t).sys.now = t := rfl
@[simp] theorem advanceTo_now (s : State) (t : Nat) : (advanceTo s t).sys.now = max s.sys.now t := rfl
@[simp] theorem freeStep_freeCtr (s : State) : (freeStep s).sys.freeCtr = s.sys.freeCtr + 1 := rfl
@[simp] theorem emit_out (s : State) (o : Out) : (emit s o).out = o :: s.out := rfl
@[simp] theorem setRd_rd (s : State) (v : Nat) : (setRd s v).rd = BitVec.ofNat 64 v := rfl
@[simp] theorem raise_stat (s : State) (n : Nat) : (raise s n).intr.stat = s.intr.stat ||| BitVec.ofNat 6 (2 ^ n) := by
  unfold raise setInt; dsimp only; split <;> rfl
@[simp] theorem raise_en (s : State) (n : Nat) : (raise s n).intr.en = s.intr.en := by
  unfold raise setInt; dsimp only; split <;> rfl
@[simp] theorem setInt_stat (s : State) (a b : BitVec 6) : (setInt s a b).intr = { stat := a, en := b } := by
  unfold setInt; dsimp only; split <;> rfl
@[simp] theorem mbxRespond_running (s : State) (r : MbxReq) (st : Byte) (d : Bytes) :
    (mbxRespond s r st d).mbx.running = s.mbx.running := by
  unfold mbxRespond; dsimp only
  repeat' split
  all_goals simp
@[simp] theorem mbxDone_running (s : State) (st : Byte) (d : Bytes) : (mbxDone s st d).mbx.running = none := by
  unfold mbxDone; split <;> simp_all
/-- A completed command of the host link or JTAG stands in TN_MBX_RSP with its status. -/
theorem mbxDone_at (s : State) (st : Byte) (d : Bytes) (r : MbxReq) (h : s.mbx.running = some r) (ho : r.origin ≠ .mctp)
    (hd : r.discard = false) :
    (mbxDone s st d).mbx = { s.mbx with running := none, st := .done, status := st, rsp := rspBlock r.code r.tag st d } := by
  unfold mbxDone; rw [h]; dsimp only; unfold mbxRespond; rw [hd]; dsimp only
  cases ho' : r.origin <;> cases r.intr <;> simp_all

end Sys2Proof.Machine
end

