-- ==== Sys2Proof/Laws/Access.lean ====
section
/-!
SUPPORT. What an access to local memory can change: keys, translations, reads and writes (R203 to R216).
-/
namespace Sys2Proof.Machine

/-- What a translation or a read can change: spans' copies, pieces, requests to the partner, the log, the Span unit's gating. -/
def ReadFrame (s t : State) : Prop :=
  t = { s with spans := t.spans, pieces := t.pieces, pieceClock := t.pieceClock, ats := t.ats, log := t.log, out := t.out,
               pt := t.pt, bx := t.bx, nextBx := t.nextBx, clk := t.clk }

/-- What a write can change: that, and the memories. -/
def WriteFrame (s t : State) : Prop :=
  t = { s with spans := t.spans, pieces := t.pieces, pieceClock := t.pieceClock, ats := t.ats, log := t.log, out := t.out,
               pt := t.pt, bx := t.bx, nextBx := t.nextBx, clk := t.clk, hbm := t.hbm, plot := t.plot, pmem := t.pmem }

theorem ReadFrame.refl (s : State) : ReadFrame s s := rfl

theorem ReadFrame.trans {s t u : State} (h : ReadFrame s t) (k : ReadFrame t u) : ReadFrame s u := by
  unfold ReadFrame at *
  rw [k, h]

theorem WriteFrame.refl (s : State) : WriteFrame s s := rfl

theorem WriteFrame.trans {s t u : State} (h : WriteFrame s t) (k : WriteFrame t u) : WriteFrame s u := by
  unfold WriteFrame at *
  rw [k, h]

theorem ReadFrame.write {s t : State} (h : ReadFrame s t) : WriteFrame s t := by
  unfold ReadFrame at h
  rw [h]
  rfl

/-- The state an access leaves. -/
def Acc.state : Acc → State
  | .ok s _ => s
  | .fault s _ _ => s
  | .wait s => s

/-- The state a translation leaves. -/
def Tr.state : Tr → State
  | .ok s _ _ => s
  | .basin s _ _ _ => s
  | .fault s _ => s
  | .wait s => s

theorem setLoc_frame (s : State) (l : Loc) (b : Bytes) : WriteFrame s (setLoc s l b) := by
  unfold setLoc WriteFrame
  cases l.space <;> rfl

theorem foldl_backInval (l : List Nat) (s : State) :
    ReadFrame s (l.foldl (fun s x => emit { s with pt.held := Tab.put s.pt.held x s.sys.now } (.backInval x)) s) := by
  induction l generalizing s with
  | nil => exact .refl s
  | cons x r ih => exact ReadFrame.trans (t := emit { s with pt.held := Tab.put s.pt.held x s.sys.now } (.backInval x)) rfl (ih _)

theorem lineWait_frame {s t : State} {l : Loc} {n : Nat} {w : Bool} (h : lineWait s l n w = some t) : ReadFrame s t := by
  unfold lineWait at h
  split at h
  · cases h
  · dsimp only at h
    split at h
    · cases h
      exact .refl s
    · generalize (if w = true then _ else _ : List Nat) = own at h
      split at h
      · cases h
      · cases h
        exact foldl_backInval own s

theorem wakeBlk_frame (s : State) (b : Blk) : ReadFrame s (wakeBlk s b) := by
  unfold wakeBlk ungate
  repeat' split
  all_goals rfl

theorem touch_frame (s : State) (p : Piece) : ReadFrame s (touch s p) := rfl

theorem installPiece_frame {s t : State} {p : Piece} (h : installPiece s p = some t) : ReadFrame s t := by
  unfold installPiece at h
  obtain ⟨_, _, rfl⟩ := Option.map_eq_some_iff.1 h
  rfl

theorem usePiece_frame {s t : State} {k a : Nat} {p : Piece} (h : usePiece s k a p = some t) : ReadFrame s t := by
  unfold usePiece at h
  split at h
  · cases h
    exact touch_frame ..
  · exact installPiece_frame h

theorem spanRepair_frame (s : State) (n : Nat) : ReadFrame s (spanRepair s n) := by
  unfold spanRepair
  split
  · split
    · rfl
    · rfl
  · rfl

theorem logCorrupt_frame (s : State) (a b c : Nat) : ReadFrame s (logCorrupt s a b c) := by
  unfold ReadFrame logCorrupt
  rw [logEv_frame]

theorem atsStep_frame (o : Option Nat) (s : State) (i a n : Nat) (w : Bool) (p : Nat) : ReadFrame s (atsStep o s i a n w p).state := by
  unfold atsStep
  dsimp only
  repeat' split
  all_goals first | rfl | (dsimp only [Tr.state]; split <;> rfl)

/-- A translation changes no register, no memory, no entry, no queue pair (R203 to R207). -/
theorem translateAt_frame (o : Option Nat) (s : State) (i a n : Nat) (w : Bool) : ReadFrame s (translateAt o s i a n w).state := by
  unfold translateAt
  refine .trans (wakeBlk_frame s .spanUnit) ?_
  generalize wakeBlk s .spanUnit = s
  dsimp only
  split
  · rfl
  · split
    · rfl
    · split
      · exact logCorrupt_frame ..
      · rename_i idx _ _ _
        refine .trans (spanRepair_frame s idx) ?_
        generalize spanRepair s idx = s
        split
        · rfl
        · repeat' split
          all_goals first
            | rfl
            | exact atsStep_frame ..
            | exact usePiece_frame ‹_›

theorem bxStep_frame (s : State) (i a n h : Nat) (w : Bool) (d : Bytes) : ReadFrame s (bxStep s i a n h w d).state := by
  unfold bxStep
  dsimp only
  repeat' split
  all_goals rfl

theorem ownStore_frame (s : State) (i a n h : Nat) (l : Loc) (d : Bytes) : WriteFrame s (ownStore s i a n h l d).state := by
  unfold ownStore
  split
  · rename_i x _
    have k : WriteFrame s (if x.redo = true then setLoc s l d else s) := by
      split
      · exact setLoc_frame ..
      · rfl
    dsimp only
    refine .trans k ?_
    generalize (if x.redo = true then setLoc s l d else s) = u
    split
    · exact (bxStep_frame ..).write
    · rfl
  · split
    · exact .trans (setLoc_frame ..) (bxStep_frame ..).write
    · exact setLoc_frame ..

theorem basinPiece_frame (s : State) (i a n h : Nat) (w : Bool) (d : Bytes) : WriteFrame s (basinPiece s i a n h w d).state := by
  unfold basinPiece
  split
  · rfl
  · split
    · rfl
    · split
      · split
        · rfl
        · dsimp only
          split
          · exact (lineWait_frame ‹_›).write
          · split
            · exact ownStore_frame ..
            · rfl
      · exact (bxStep_frame ..).write

theorem basinPiece_read (s : State) (i a n h : Nat) (d : Bytes) : ReadFrame s (basinPiece s i a n h false d).state := by
  unfold basinPiece
  split
  · rfl
  · split
    · rfl
    · split
      · split
        · rfl
        · dsimp only
          split
          · exact lineWait_frame ‹_›
          · rfl
      · exact bxStep_frame ..

theorem accPiece_frame (o : Option Nat) (s : State) (i a n : Nat) (w : Bool) (d : Bytes) :
    WriteFrame s (accPiece o s i a n w d).1.state := by
  have t := translateAt_frame o s i a n w
  unfold accPiece
  split <;> rename_i h <;> rw [h] at t
  · exact t.write
  · exact t.write
  · exact .trans t.write (basinPiece_frame ..)
  · refine .trans t.write ?_
    split
    · exact (lineWait_frame ‹_›).write
    · split
      · exact setLoc_frame ..
      · rfl

theorem accPiece_read (o : Option Nat) (s : State) (i a n : Nat) (d : Bytes) : ReadFrame s (accPiece o s i a n false d).1.state := by
  have t := translateAt_frame o s i a n false
  unfold accPiece
  split <;> rename_i h <;> rw [h] at t
  · exact t
  · exact t
  · exact .trans t (basinPiece_read ..)
  · refine .trans t ?_
    split
    · exact lineWait_frame ‹_›
    · rfl

theorem readAcc_frame (o : Option Nat) (f : Nat) (s : State) (i a n : Nat) : ReadFrame s (readAcc o f s i a n).state := by
  induction f generalizing s a n with
  | zero => rfl
  | succ f ih =>
    unfold readAcc
    split
    · rfl
    · have t := accPiece_read o s i a n []
      split <;> rename_i h <;> rw [h] at t
      · have k := ih ‹_› (a + ‹Nat›) (n - ‹Nat›)
        split
        · rename_i g
          rw [g] at k
          exact .trans t k
        · exact .trans t k
      · exact t

theorem writeAcc_frame (o : Option Nat) (f : Nat) (s : State) (i a : Nat) (d : Bytes) : WriteFrame s (writeAcc o f s i a d).state := by
  induction f generalizing s a d with
  | zero => rfl
  | succ f ih =>
    unfold writeAcc
    split
    · rfl
    · have t := accPiece_frame o s i a d.length true d
      split <;> rename_i h <;> rw [h] at t
      · exact .trans t (ih ..)
      · exact t

/-- A probe of a range changes what a read changes (R212). -/
theorem probe_frame (w : Bool) (o : Option Nat) (f : Nat) (s : State) (i a n : Nat) : ReadFrame s (probe w o f s i a n).state := by
  induction f generalizing s a n with
  | zero => rfl
  | succ f ih =>
    unfold probe
    split
    · rfl
    · have t := translateAt_frame o s i a n w
      split <;> rename_i h <;> rw [h] at t
      · exact t
      · exact t
      · refine .trans t ?_
        split
        · rfl
        · split
          · rfl
          · exact ih ..
      · refine .trans t ?_
        split
        · exact lineWait_frame ‹_›
        · exact ih ..

/-- A read changes no memory and no register (R203, R204). -/
theorem readMemAt_frame (o : Option Nat) (s : State) (i a n : Nat) : ReadFrame s (readMemAt o s i a n).state := readAcc_frame ..

theorem readMemAt_ok {o : Option Nat} {s t : State} {i a n : Nat} {b : Bytes} (h : readMemAt o s i a n = .ok t b) : ReadFrame s t := by
  have k := readMemAt_frame o s i a n
  rw [h] at k
  exact k

theorem readMem_frame (s : State) (i a n : Nat) : ReadFrame s (readMem s i a n).state := readMemAt_frame ..

theorem readMem_ok {s t : State} {i a n : Nat} {b : Bytes} (h : readMem s i a n = .ok t b) : ReadFrame s t := readMemAt_ok h

/-- A write changes the memories and the caches of translations, nothing else (R203, R204). -/
theorem writeMemAt_frame (o : Option Nat) (s : State) (i a : Nat) (b : Bytes) : WriteFrame s (writeMemAt o s i a b).state :=
  writeAcc_frame ..

theorem writeMemAt_ok {o : Option Nat} {s t : State} {i a : Nat} {b c : Bytes} (h : writeMemAt o s i a b = .ok t c) : WriteFrame s t := by
  have k := writeMemAt_frame o s i a b
  rw [h] at k
  exact k

theorem writeMem_frame (s : State) (i a : Nat) (b : Bytes) : WriteFrame s (writeMem s i a b).state := writeMemAt_frame ..

theorem writeMem_ok {s t : State} {i a : Nat} {b c : Bytes} (h : writeMem s i a b = .ok t c) : WriteFrame s t := writeMemAt_ok h

theorem putPage_frame (s : State) (i o v : Nat) : ∃ p, putPage s i o v = { s with pages := p } := ⟨_, rfl⟩

theorem instStat_frame (s : State) (i k d : Nat) : ∃ p, instStat s i k d = { s with insts := p } := ⟨_, rfl⟩

theorem captureKey_frame (s : State) (i k n : Nat) (r : Bool) :
    ∃ pages insts, captureKey s i k n r = { s with pages := pages, insts := insts } := by
  unfold captureKey
  obtain ⟨x, h⟩ := instStat_frame s i 9 1
  rw [h]
  dsimp only
  split
  · obtain ⟨p, h⟩ := putPage_frame { s with insts := x } i 0x0E0 (getPage { s with insts := x } i 0x0E0 ||| 2 ^ 30)
    exact ⟨p, x, h⟩
  · obtain ⟨p, h⟩ := putPage_frame { s with insts := x } i 0x0E0 (2 ^ 31 + bit r * 2 ^ 29 + n * 2 ^ 24)
    obtain ⟨y, g⟩ := putPage_frame { s with insts := x, pages := p } i 0x0E4 k
    exact ⟨y, x, by rw [h, g]⟩

/-- Admission repairs a record's copy, logs a lost record or captures a violation (R202, R213, R223). -/
theorem admitKey_frame (s : State) (i k need a n : Nat) (b r : Bool) :
    ∃ keys log pages insts, (admitKey s i k need a n b r).1 = { s with keys := keys, log := log, pages := pages, insts := insts } := by
  unfold admitKey
  split
  · exact ⟨_, _, _, _, rfl⟩
  · exact ⟨_, _, _, _, logEv_frame ..⟩
  · obtain ⟨p, x, h⟩ := captureKey_frame s i k ‹_› r
    exact ⟨s.keys, s.log, p, x, h⟩

/-- An admitted request leaves every key but its failing copy as it was (R202). -/
theorem admitKey_ok {s t : State} {i k need a n : Nat} {b r : Bool} (h : admitKey s i k need a n b r = (t, none)) :
    t = { s with keys := t.keys } ∧ keyFail s i k need a n b = none := by
  unfold admitKey at h
  split at h
  · cases h
    exact ⟨rfl, ‹_›⟩
  · cases h
  · cases h

end Sys2Proof.Machine
end

