-- ==== Sys2Proof/Laws/Memory.lean ====
section
/-!
SUPPORT. The laws of tables and of byte memory: what a read gives after a write, and that every memory operation keeps the
canonical form.
-/
namespace Sys2Proof.Machine

/-! ### Tables -/

@[simp] theorem Tab.find_nil {α : Type} (n : Nat) : Tab.find ([] : Tab α) n = none := rfl

theorem Tab.find_none_of_wfFrom {α : Type} {t : Tab α} {m n : Nat} (h : Tab.wfFrom m t = true) (hn : n < m) :
    Tab.find t n = none := by
  induction t generalizing m with
  | nil => rfl
  | cons p t ih =>
    obtain ⟨k, v⟩ := p
    simp only [Tab.wfFrom, Bool.and_eq_true, decide_eq_true_eq] at h
    simp only [Tab.find, if_neg (by omega : ¬ n = k)]
    exact ih h.2 (by omega)

theorem Tab.wfFrom_mono {α : Type} {t : Tab α} {m n : Nat} (h : Tab.wfFrom m t = true) (hn : n ≤ m) : Tab.wfFrom n t = true := by
  cases t with
  | nil => rfl
  | cons p t =>
    obtain ⟨k, v⟩ := p
    simp only [Tab.wfFrom, Bool.and_eq_true, decide_eq_true_eq] at h ⊢
    exact ⟨by omega, h.2⟩

/-- The key just listed, in any table. -/
@[simp] theorem Tab.find_put_self {α : Type} (t : Tab α) (n : Nat) (x : α) : Tab.find (Tab.put t n x) n = Option.some x := by
  induction t with
  | nil => simp [Tab.put, Tab.find]
  | cons p t ih =>
    obtain ⟨k, v⟩ := p
    unfold Tab.put
    split
    · simp [Tab.find]
    · split
      · simp [Tab.find]
      · simp [Tab.find, *]

/-- Another key, in any table. -/
theorem Tab.find_put_ne {α : Type} (t : Tab α) (n m : Nat) (x : α) (h : m ≠ n) : Tab.find (Tab.put t n x) m = Tab.find t m := by
  induction t with
  | nil => simp [Tab.put, Tab.find, h]
  | cons p t ih =>
    obtain ⟨k, v⟩ := p
    unfold Tab.put
    split
    · simp [Tab.find, h]
    · split
      · rename_i _ h2; subst h2; simp [Tab.find, h]
      · simp [Tab.find, ih]

/-- A table answers the value just listed for a key, and every other key as before. -/
theorem Tab.find_put {α : Type} (t : Tab α) (n m : Nat) (x : α) :
    Tab.find (Tab.put t n x) m = if m = n then Option.some x else Tab.find t m := by
  by_cases h : m = n
  · rw [if_pos h, h, Tab.find_put_self]
  · rw [if_neg h, Tab.find_put_ne t n m x h]

@[simp] theorem Tab.find_del_self {α : Type} (t : Tab α) (n : Nat) : Tab.find (Tab.del t n) n = none := by
  induction t with
  | nil => rfl
  | cons p t ih =>
    obtain ⟨k, v⟩ := p
    unfold Tab.del
    split
    · exact ih
    · simp [Tab.find, *]

/-- A modified record holds the change. -/
theorem Tab.find_modify_self {α : Type} {t : Tab α} {n : Nat} {x : α} (f : α → α) (h : Tab.find t n = Option.some x) :
    Tab.find (Tab.modify t n f) n = Option.some (f x) := by
  unfold Tab.modify
  rw [h]
  simp only [Tab.find_put_self]

/-- Modifying one record leaves every other. -/
theorem Tab.find_modify_ne {α : Type} (t : Tab α) (n m : Nat) (f : α → α) (h : m ≠ n) :
    Tab.find (Tab.modify t n f) m = Tab.find t m := by
  unfold Tab.modify
  split
  · rfl
  · rw [Tab.find_put_ne _ _ _ _ h]

theorem Tab.find_del_ne {α : Type} (t : Tab α) (n m : Nat) (h : m ≠ n) : Tab.find (Tab.del t n) m = Tab.find t m := by
  induction t with
  | nil => rfl
  | cons p t ih =>
    obtain ⟨k, v⟩ := p
    unfold Tab.del
    split
    · rename_i h2; subst h2; simp [Tab.find, ih, h]
    · simp [Tab.find, ih]

theorem Tab.wfFrom_put {α : Type} (t : Tab α) (b n : Nat) (x : α) (h : Tab.wfFrom b t = true) (hb : b ≤ n) :
    Tab.wfFrom b (Tab.put t n x) = true := by
  induction t generalizing b with
  | nil => simp [Tab.put, Tab.wfFrom, hb]
  | cons p t ih =>
    obtain ⟨k, v⟩ := p
    simp only [Tab.wfFrom, Bool.and_eq_true, decide_eq_true_eq] at h
    unfold Tab.put
    split
    · simp only [Tab.wfFrom, Bool.and_eq_true, decide_eq_true_eq]
      exact ⟨hb, by omega, h.2⟩
    · split
      · simp only [Tab.wfFrom, Bool.and_eq_true, decide_eq_true_eq]
        exact ⟨hb, by subst_vars; exact h.2⟩
      · simp only [Tab.wfFrom, Bool.and_eq_true, decide_eq_true_eq]
        exact ⟨h.1, ih (k + 1) h.2 (by omega)⟩

theorem Tab.wf_put {α : Type} {t : Tab α} (n : Nat) (x : α) (h : Tab.wf t = true) : Tab.wf (Tab.put t n x) = true :=
  Tab.wfFrom_put t 0 n x h (Nat.zero_le _)

theorem Tab.wfFrom_del {α : Type} (t : Tab α) (b n : Nat) (h : Tab.wfFrom b t = true) : Tab.wfFrom b (Tab.del t n) = true := by
  induction t generalizing b with
  | nil => rfl
  | cons p t ih =>
    obtain ⟨k, v⟩ := p
    simp only [Tab.wfFrom, Bool.and_eq_true, decide_eq_true_eq] at h
    unfold Tab.del
    split
    · exact ih b (Tab.wfFrom_mono h.2 (by omega))
    · simp only [Tab.wfFrom, Bool.and_eq_true, decide_eq_true_eq]
      exact ⟨h.1, ih (k + 1) h.2⟩

theorem Tab.wf_del {α : Type} {t : Tab α} (n : Nat) (h : Tab.wf t = true) : Tab.wf (Tab.del t n) = true := Tab.wfFrom_del t 0 n h

theorem Tab.every_put {α : Type} (t : Tab α) (n : Nat) (x : α) (f : Nat → α → Bool) (h : Tab.every f t = true) (hx : f n x = true) :
    Tab.every f (Tab.put t n x) = true := by
  induction t with
  | nil => simp [Tab.put, Tab.every, hx]
  | cons p t ih =>
    obtain ⟨k, v⟩ := p
    simp only [Tab.every, List.all_cons, Bool.and_eq_true] at h ih ⊢
    unfold Tab.put
    repeat' split
    all_goals simp_all

theorem Tab.every_del {α : Type} (t : Tab α) (n : Nat) (f : Nat → α → Bool) (h : Tab.every f t = true) :
    Tab.every f (Tab.del t n) = true := by
  induction t with
  | nil => rfl
  | cons p t ih =>
    obtain ⟨k, v⟩ := p
    simp only [Tab.every, List.all_cons, Bool.and_eq_true] at h ih ⊢
    unfold Tab.del
    split <;> simp_all

/-! ### Byte memory -/

/-- Writing one byte keeps the canonical form. -/
theorem Memory.wf_set {m : Mem} (a : Nat) (b : Byte) (h : Memory.wf m = true) : Memory.wf (Mem.set m a b) = true := by
  unfold Memory.wf at h ⊢
  rw [Bool.and_eq_true] at h ⊢
  unfold Mem.set
  split
  · exact ⟨Tab.wf_del a h.1, Tab.every_del m a _ h.2⟩
  · exact ⟨Tab.wf_put a b h.1, Tab.every_put m a b _ h.2 (by simp_all)⟩

/-- Writing bytes keeps the canonical form. -/
theorem Memory.wf_write {m : Mem} (a : Nat) (b : Bytes) (h : Memory.wf m = true) : Memory.wf (Mem.write m a b) = true := by
  induction b generalizing m a with
  | nil => exact h
  | cons x r ih => exact ih (a + 1) (Memory.wf_set a x h)

@[simp] theorem Memory.wf_nil : Memory.wf [] = true := rfl

/-- Keeping some of a memory's bytes keeps the canonical form. -/
theorem Memory.wf_keep {m : Mem} (f : Nat → Byte → Bool) (h : Memory.wf m = true) : Memory.wf (Tab.keep f m) = true := by
  unfold Memory.wf at h ⊢
  rw [Bool.and_eq_true] at h ⊢
  refine ⟨?_, ?_⟩
  · have key : ∀ (t : Mem) (b : Nat), Tab.wfFrom b t = true → Tab.wfFrom b (Tab.keep f t) = true := by
      intro t
      induction t with
      | nil => intro b _; rfl
      | cons p t ih =>
        intro b hb
        obtain ⟨k, v⟩ := p
        simp only [Tab.wfFrom, Bool.and_eq_true, decide_eq_true_eq] at hb
        simp only [Tab.keep, List.filter_cons]
        split
        · simp only [Tab.wfFrom, Bool.and_eq_true, decide_eq_true_eq]
          exact ⟨hb.1, ih (k + 1) hb.2⟩
        · exact ih b (Tab.wfFrom_mono hb.2 (by omega))
    exact key m 0 h.1
  · simp only [Tab.every, Tab.keep, List.all_eq_true, List.mem_filter] at h ⊢
    exact fun p hp => h.2 p hp.1

/-- A byte just written reads back; every other byte reads as before. -/
theorem Mem.get_set (m : Mem) (a x : Nat) (b : Byte) : Mem.get (Mem.set m a b) x = if x = a then b else Mem.get m x := by
  unfold Mem.get Mem.set Tab.getD
  by_cases hb : b = 0
  · rw [if_pos hb]
    by_cases hx : x = a
    · subst hx; simp [hb]
    · rw [if_neg hx, Tab.find_del_ne m a x hx]
  · rw [if_neg hb]
    by_cases hx : x = a
    · subst hx; simp
    · rw [if_neg hx, Tab.find_put_ne m a x b hx]

/-- Bytes outside those written read as before. -/
theorem Mem.get_write_other (m : Mem) (a x : Nat) (b : Bytes) (h : x < a ∨ a + b.length ≤ x) :
    Mem.get (Mem.write m a b) x = Mem.get m x := by
  induction b generalizing m a with
  | nil => rfl
  | cons y r ih =>
    rw [List.length_cons] at h
    show Mem.get (Mem.write (Mem.set m a y) (a + 1) r) x = _
    rw [ih (Mem.set m a y) (a + 1) (by omega), Mem.get_set, if_neg (by omega)]

/-- A read of exactly what was written gives it back. -/
theorem Mem.read_write (m : Mem) (a : Nat) (b : Bytes) : Mem.read (Mem.write m a b) a b.length = b := by
  induction b generalizing m a with
  | nil => rfl
  | cons y r ih =>
    show Mem.get (Mem.write (Mem.set m a y) (a + 1) r) a :: Mem.read (Mem.write (Mem.set m a y) (a + 1) r) (a + 1) r.length = _
    rw [ih, Mem.get_write_other _ _ _ _ (by omega), Mem.get_set, if_pos rfl]

@[simp] theorem Mem.read_length (m : Mem) (a n : Nat) : (Mem.read m a n).length = n := by
  induction n generalizing a with
  | zero => rfl
  | succ n ih => simp [Mem.read, ih]

end Sys2Proof.Machine
end

