-- ==== Sys2Proof/Laws/Engines.lean ====
section
/-!
SUPPORT. What the shared operations of the engines can do: dispatch, completion, requests of a queue pair.
-/
namespace Sys2Proof.Machine

/-- An entry that may be dispatched stands accepted, neither dispatched nor finished (R191, R192). -/
theorem mayDispatch_some {s : State} {q i op : Nat} {x : Wq} {r : Infl} (h : mayDispatch s q i op = some (x, r)) :
    Tab.find s.wqs q = some x ∧ inflOf s q i = some r ∧ r.done = none ∧ r.disp = false ∧ entOp r.ent = op := by
  unfold mayDispatch at h
  split at h
  · rename_i x' r' hx hr
    obtain ⟨c, e⟩ := Option.ite_none_right_eq_some.1 h
    cases e
    exact ⟨hx, hr, c.2.2.1, by simpa using c.2.1, c.1⟩
  · cases h

theorem finish_frame (s : State) (q i : Nat) (d : Done) : finish s q i d = { s with infl := (finish s q i d).infl } := by
  unfold finish
  split
  · rfl
  · dsimp only
    split <;> rfl

theorem finishSt_frame (s : State) (q i : Nat) (st : Byte) : finishSt s q i st = { s with infl := (finishSt s q i st).infl } :=
  finish_frame ..

/-- An unfinished entry is finished with an OK completion as given (R197). -/
theorem finish_ok {s : State} {q i : Nat} {r : Infl} {d : Done} (h : inflOf s q i = some r) (n : r.done = none)
    (o : d.status = Status.ok) : DoneAs (finish s q i d) q i d := by
  unfold finish
  rw [h]
  simp only [o, true_or, if_true, n, Option.isSome_none, Bool.false_eq_true, if_false]
  exact ⟨_, Tab.find_put_self .., rfl⟩

/-- An unfinished entry is finished with any status, nothing moved (R197). -/
theorem finishSt_done {s : State} {q i : Nat} {r : Infl} (st : Byte) (h : inflOf s q i = some r) (n : r.done = none) :
    DoneBad (finishSt s q i st) q i st := by
  unfold finishSt finish
  rw [h]
  simp only [n, Option.isSome_none, Bool.false_eq_true, if_false]
  exact ⟨_, Tab.find_put_self .., by simp⟩

/-- A finished entry stays as it is. -/
theorem finish_again {s : State} {q i : Nat} {r : Infl} {d : Done} (h : inflOf s q i = some r) (n : r.done.isSome = true) :
    finish s q i d = s := by
  unfold finish
  rw [h]
  simp [n]

/-- Dispatching keeps an entry and the keys it was admitted under (R192, R212). -/
theorem dispatched_underway {s : State} {q i : Nat} {r : Infl} (h : inflOf s q i = some r) (n : r.done = none) :
    Underway (dispatched s q i) q i r.keys := by
  refine ⟨{ r with disp := true }, ?_, rfl, n, rfl⟩
  unfold inflOf at *
  unfold dispatched
  simp only
  exact Tab.find_modify_self _ h

theorem beginOffer_frame (s : State) (l : Nat) :
    beginOffer s l = { s with links := (beginOffer s l).links, out := (beginOffer s l).out } := rfl

theorem wakeUp_frame (s : State) (l : Nat) : wakeUp s l = { s with links := (wakeUp s l).links, out := (wakeUp s l).out } := by
  unfold wakeUp
  dsimp only
  repeat' split
  all_goals rfl

theorem workArrives_frame (s : State) (l : Nat) :
    workArrives s l = { s with links := (workArrives s l).links, out := (workArrives s l).out } := by
  unfold workArrives
  dsimp only
  split
  · rw [wakeUp_frame]
    rfl
  · rfl

theorem queueReq_frame (s : State) (n op len raddr rkey imm : Nat) (so : Bool) (a b : Nat) (m : Bytes) (buf : Buf) (who : Waiter) :
    ∃ qps links out, queueReq s n op len raddr rkey imm so a b m buf who = { s with qps := qps, links := links, out := out } := by
  unfold queueReq
  split
  · exact ⟨_, _, _, rfl⟩
  · exact ⟨_, _, _, workArrives_frame ..⟩

/-- A queued request takes the next PSNs of its queue pair (R234, R236). -/
theorem queueReq_qp {s : State} {n op len raddr rkey imm : Nat} {so : Bool} {a b : Nat} {m : Bytes} {buf : Buf} {who : Waiter}
    {p : Qp} (h : qpOf s n = some p) :
    qpOf (queueReq s n op len raddr rkey imm so a b m buf who) n = some { p with
      reqs := p.reqs ++ [{ op := op, first := p.sndEnd, count := if op = 7 ∨ op = 8 ∨ op = 0x15 then 1 else psnCount (qSeg p) len,
                           len := len, raddr := raddr, rkey := rkey, imm := imm, solicit := so, operand := a, swap := b, mark := m,
                           buf := buf, who := who, got := [], sent := 0, result := none }],
      sndEnd := psn p.sndEnd (if op = 7 ∨ op = 8 ∨ op = 0x15 then 1 else psnCount (qSeg p) len) } := by
  unfold queueReq
  rw [h]
  dsimp only
  rw [workArrives_frame]
  simp only [qpOf, putQp, Tab.find_put_self]

end Sys2Proof.Machine
end

