-- ==== Sys2Proof/Laws/Exec.lean ====
section
/-!
SUPPORT. One lemma per command: exec is that command's own meaning.
-/
namespace Sys2Proof.Machine

@[simp] theorem exec_registerWrite (w : RegWrite) (s : State) : exec (.registerWrite w) s = execRegisterWrite w s := rfl
@[simp] theorem exec_vpWerrClear (w : RegWr) (s : State) : exec (.vpWerrClear w) s = execVpWerrClear w s := rfl
@[simp] theorem exec_coldRstNRise (straps : Straps) (s : State) : exec (.coldRstNRise straps) s = execColdRstNRise straps s := rfl
@[simp] theorem exec_coldRstNFall (s : State) : exec (.coldRstNFall) s = execColdRstNFall s := rfl
@[simp] theorem exec_bundleVerify (s : State) : exec (.bundleVerify) s = execBundleVerify s := rfl
@[simp] theorem exec_firmwareRunning (s : State) : exec (.firmwareRunning) s = execFirmwareRunning s := rfl
@[simp] theorem exec_imageVerify (s : State) : exec (.imageVerify) s = execImageVerify s := rfl
@[simp] theorem exec_hbmTrained (failed : BitVec 8) (s : State) : exec (.hbmTrained failed) s = execHbmTrained failed s := rfl
@[simp] theorem exec_structureApplied (s : State) : exec (.structureApplied) s = execStructureApplied s := rfl
@[simp] theorem exec_vapenBuilt (lay : Layout) (s : State) : exec (.vapenBuilt lay) s = execVapenBuilt lay s := rfl
@[simp] theorem exec_warmRstNFall (lowNs : Nat) (s : State) : exec (.warmRstNFall lowNs) s = execWarmRstNFall lowNs s := rfl
@[simp] theorem exec_warmResume (stacksOk : Bool) (s : State) : exec (.warmResume stacksOk) s = execWarmResume stacksOk s := rfl
@[simp] theorem exec_junctionOvertemp (tempC : Nat) (s : State) : exec (.junctionOvertemp tempC) s = execJunctionOvertemp tempC s := rfl
@[simp] theorem exec_gridExcursion (region : Nat) (deltaMv : Int) (s : State) : exec (.gridExcursion region deltaMv) s = execGridExcursion region deltaMv s := rfl
@[simp] theorem exec_ocThrottleEnter (unit : PowerUnit) (samples : List Nat) (s : State) : exec (.ocThrottleEnter unit samples) s = execOcThrottleEnter unit samples s := rfl
@[simp] theorem exec_throttleExit (unit : PowerUnit) (highest : Nat) (ns : Nat) (s : State) : exec (.throttleExit unit highest ns) s = execThrottleExit unit highest ns s := rfl
@[simp] theorem exec_ocPersist (unit : PowerUnit) (s : State) : exec (.ocPersist unit) s = execOcPersist unit s := rfl
@[simp] theorem exec_senseOpen (region : Nat) (pairB : Bool) (readings : List Nat) (s : State) : exec (.senseOpen region pairB readings) s = execSenseOpen region pairB readings s := rfl
@[simp] theorem exec_drop (region : Nat) (samples : List DropSample) (s : State) : exec (.drop region samples) s = execDrop region samples s := rfl
@[simp] theorem exec_disagree (region : Nat) (samples : List DropSample) (s : State) : exec (.disagree region samples) s = execDisagree region samples s := rfl
@[simp] theorem exec_pmbusPoll (faults : List (Nat × BitVec 16)) (s : State) : exec (.pmbusPoll faults) s = execPmbusPoll faults s := rfl
@[simp] theorem exec_lvVcmd (w : RegWr) (s : State) : exec (.lvVcmd w) s = execLvVcmd w s := rfl
@[simp] theorem exec_vcmdSettle (r1 : Nat) (r2 : Nat) (s : State) : exec (.vcmdSettle r1 r2) s = execVcmdSettle r1 r2 s := rfl
@[simp] theorem exec_vcmdTimeout (s : State) : exec (.vcmdTimeout) s = execVcmdTimeout s := rfl
@[simp] theorem exec_avsbusSilent (s : State) : exec (.avsbusSilent) s = execAvsbusSilent s := rfl
@[simp] theorem exec_lvVdoneRead (s : State) : exec (.lvVdoneRead) s = execLvVdoneRead s := rfl
@[simp] theorem exec_devtimeLoRead (s : State) : exec (.devtimeLoRead) s = execDevtimeLoRead s := rfl
@[simp] theorem exec_blockGate (b : GateReq) (s : State) : exec (.blockGate b) s = execBlockGate b s := rfl
@[simp] theorem exec_wakeEvent (b : Blk) (s : State) : exec (.wakeEvent b) s = execWakeEvent b s := rfl
@[simp] theorem exec_furrowPllPowerDown (s : State) : exec (.furrowPllPowerDown) s = execFurrowPllPowerDown s := rfl
@[simp] theorem exec_ptpMessage (m : PtpMsg) (s : State) : exec (.ptpMessage m) s = execPtpMessage m s := rfl
@[simp] theorem exec_ppsInEdge (s : State) : exec (.ppsInEdge) s = execPpsInEdge s := rfl
@[simp] theorem exec_moduleInsertion (port : Nat) (info : ModuleInfo) (s : State) : exec (.moduleInsertion port info) s = execModuleInsertion port info s := rfl
@[simp] theorem exec_cmisPoll (port : Nat) (ans : CmisAnswer) (s : State) : exec (.cmisPoll port ans) s = execCmisPoll port ans s := rfl
@[simp] theorem exec_moduleRead (answers : Bool) (s : State) : exec (.moduleRead answers) s = execModuleRead answers s := rfl
@[simp] theorem exec_moduleWrite (answers : Bool) (s : State) : exec (.moduleWrite answers) s = execModuleWrite answers s := rfl
@[simp] theorem exec_slCalStart (link : Nat) (w : RegWr) (s : State) : exec (.slCalStart link w) s = execSlCalStart link w s := rfl
@[simp] theorem exec_calIdleWindow (link : Nat) (ns : Nat) (s : State) : exec (.calIdleWindow link ns) s = execCalIdleWindow link ns s := rfl
@[simp] theorem exec_calComplete (link : Nat) (s : State) : exec (.calComplete link) s = execCalComplete link s := rfl
@[simp] theorem exec_calDeferTimeout (link : Nat) (s : State) : exec (.calDeferTimeout link) s = execCalDeferTimeout link s := rfl
@[simp] theorem exec_linkTrained (link : Nat) (merge : Bool) (s : State) : exec (.linkTrained link merge) s = execLinkTrained link merge s := rfl
@[simp] theorem exec_linkDown (link : Nat) (s : State) : exec (.linkDown link) s = execLinkDown link s := rfl
@[simp] theorem exec_offer (link : Nat) (body : Bytes) (s : State) : exec (.offer link body) s = execOffer link body s := rfl
@[simp] theorem exec_offerReplyTimeout (link : Nat) (s : State) : exec (.offerReplyTimeout link) s = execOfferReplyTimeout link s := rfl
@[simp] theorem exec_masterIdleEnter (link : Nat) (s : State) : exec (.masterIdleEnter link) s = execMasterIdleEnter link s := rfl
@[simp] theorem exec_enter (link : Nat) (body : Bytes) (s : State) : exec (.enter link body) s = execEnter link body s := rfl
@[simp] theorem exec_enterAck (link : Nat) (body : Bytes) (s : State) : exec (.enterAck link body) s = execEnterAck link body s := rfl
@[simp] theorem exec_enterNak (link : Nat) (body : Bytes) (s : State) : exec (.enterNak link body) s = execEnterNak link body s := rfl
@[simp] theorem exec_cancel (link : Nat) (body : Bytes) (s : State) : exec (.cancel link body) s = execCancel link body s := rfl
@[simp] theorem exec_dormancyHoldEnd (link : Nat) (s : State) : exec (.dormancyHoldEnd link) s = execDormancyHoldEnd link s := rfl
@[simp] theorem exec_enterAckTimeout (link : Nat) (s : State) : exec (.enterAckTimeout link) s = execEnterAckTimeout link s := rfl
@[simp] theorem exec_wakeWindowOpen (link : Nat) (s : State) : exec (.wakeWindowOpen link) s = execWakeWindowOpen link s := rfl
@[simp] theorem exec_hello (link : Nat) (body : Bytes) (s : State) : exec (.hello link body) s = execHello link body s := rfl
@[simp] theorem exec_wakeWindowClose (link : Nat) (s : State) : exec (.wakeWindowClose link) s = execWakeWindowClose link s := rfl
@[simp] theorem exec_retrainLoopback (link : Nat) (pass : Bool) (s : State) : exec (.retrainLoopback link pass) s = execRetrainLoopback link pass s := rfl
@[simp] theorem exec_dormMissLimit (link : Nat) (s : State) : exec (.dormMissLimit link) s = execDormMissLimit link s := rfl
@[simp] theorem exec_heartbeatPeriod (s : State) : exec (.heartbeatPeriod) s = execHeartbeatPeriod s := rfl
@[simp] theorem exec_heartbeat (m : Bytes) (s : State) : exec (.heartbeat m) s = execHeartbeat m s := rfl
@[simp] theorem exec_hbReply (m : Bytes) (s : State) : exec (.hbReply m) s = execHbReply m s := rfl
@[simp] theorem exec_managerMissing (s : State) : exec (.managerMissing) s = execManagerMissing s := rfl
@[simp] theorem exec_workerLost (serial : Nat) (s : State) : exec (.workerLost serial) s = execWorkerLost serial s := rfl
@[simp] theorem exec_leaseExpiry (s : State) : exec (.leaseExpiry) s = execLeaseExpiry s := rfl
@[simp] theorem exec_unjoinedClaimStart (s : State) : exec (.unjoinedClaimStart) s = execUnjoinedClaimStart s := rfl
@[simp] theorem exec_claimPeriod (s : State) : exec (.claimPeriod) s = execClaimPeriod s := rfl
@[simp] theorem exec_claim (m : Bytes) (s : State) : exec (.claim m) s = execClaim m s := rfl
@[simp] theorem exec_grant (m : Bytes) (s : State) : exec (.grant m) s = execGrant m s := rfl
@[simp] theorem exec_revoke (m : Bytes) (s : State) : exec (.revoke m) s = execRevoke m s := rfl
@[simp] theorem exec_withdraw (m : Bytes) (s : State) : exec (.withdraw m) s = execWithdraw m s := rfl
@[simp] theorem exec_handover (m : Bytes) (s : State) : exec (.handover m) s = execHandover m s := rfl
@[simp] theorem exec_claimWaitElapsed (s : State) : exec (.claimWaitElapsed) s = execClaimWaitElapsed s := rfl
@[simp] theorem exec_claimTimeout (s : State) : exec (.claimTimeout) s = execClaimTimeout s := rfl
@[simp] theorem exec_yieldingTimeout (s : State) : exec (.yieldingTimeout) s = execYieldingTimeout s := rfl
@[simp] theorem exec_hbParamSwitch (s : State) : exec (.hbParamSwitch) s = execHbParamSwitch s := rfl
@[simp] theorem exec_joinRetry (s : State) : exec (.joinRetry) s = execJoinRetry s := rfl
@[simp] theorem exec_joinTimeout (s : State) : exec (.joinTimeout) s = execJoinTimeout s := rfl
@[simp] theorem exec_join (m : Bytes) (ev : AttestEv) (s : State) : exec (.join m ev) s = execJoin m ev s := rfl
@[simp] theorem exec_joinAck (m : Bytes) (s : State) : exec (.joinAck m) s = execJoinAck m s := rfl
@[simp] theorem exec_joinNak (m : Bytes) (s : State) : exec (.joinNak m) s = execJoinNak m s := rfl
@[simp] theorem exec_roleCmdYield (w : RegWr) (s : State) : exec (.roleCmdYield w) s = execRoleCmdYield w s := rfl
@[simp] theorem exec_roleCmdRequestSwap (w : RegWr) (s : State) : exec (.roleCmdRequestSwap w) s = execRoleCmdRequestSwap w s := rfl
@[simp] theorem exec_roleCmdLeave (w : RegWr) (s : State) : exec (.roleCmdLeave w) s = execRoleCmdLeave w s := rfl
@[simp] theorem exec_roleCmdResetNotice (w : RegWr) (s : State) : exec (.roleCmdResetNotice w) s = execRoleCmdResetNotice w s := rfl
@[simp] theorem exec_leave (m : Bytes) (s : State) : exec (.leave m) s = execLeave m s := rfl
@[simp] theorem exec_leaveAck (m : Bytes) (s : State) : exec (.leaveAck m) s = execLeaveAck m s := rfl
@[simp] theorem exec_leaveTimeout (s : State) : exec (.leaveTimeout) s = execLeaveTimeout s := rfl
@[simp] theorem exec_lost (m : Bytes) (s : State) : exec (.lost m) s = execLost m s := rfl
@[simp] theorem exec_resetNotice (m : Bytes) (s : State) : exec (.resetNotice m) s = execResetNotice m s := rfl
@[simp] theorem exec_noticeAck (m : Bytes) (s : State) : exec (.noticeAck m) s = execNoticeAck m s := rfl
@[simp] theorem exec_noticeTimeout (s : State) : exec (.noticeTimeout) s = execNoticeTimeout s := rfl
@[simp] theorem exec_excuseExpiry (serial : Nat) (s : State) : exec (.excuseExpiry serial) s = execExcuseExpiry serial s := rfl
@[simp] theorem exec_plotMapFetched (map : PlotMap) (s : State) : exec (.plotMapFetched map) s = execPlotMapFetched map s := rfl
@[simp] theorem exec_directoryReplication (seq : Nat) (dir : Directory) (epoch : Nat) (s : State) : exec (.directoryReplication seq dir epoch) s = execDirectoryReplication seq dir epoch s := rfl
@[simp] theorem exec_replicationAck (seq : Nat) (serial : Nat) (s : State) : exec (.replicationAck seq serial) s = execReplicationAck seq serial s := rfl
@[simp] theorem exec_promotion (plot : Nat) (s : State) : exec (.promotion plot) s = execPromotion plot s := rfl
@[simp] theorem exec_spareCopyDone (plot : Nat) (s : State) : exec (.spareCopyDone plot) s = execSpareCopyDone plot s := rfl
@[simp] theorem exec_recoveryWindowExpiry (basinWide : Bool) (s : State) : exec (.recoveryWindowExpiry basinWide) s = execRecoveryWindowExpiry basinWide s := rfl
@[simp] theorem exec_heldCommandTimeout (s : State) : exec (.heldCommandTimeout) s = execHeldCommandTimeout s := rfl
@[simp] theorem exec_heldCommandResend (s : State) : exec (.heldCommandResend) s = execHeldCommandResend s := rfl
@[simp] theorem exec_basinAlloc (r : AllocReq) (s : State) : exec (.basinAlloc r) s = execBasinAlloc r s := rfl
@[simp] theorem exec_basinFree (r : FreeReq) (s : State) : exec (.basinFree r) s = execBasinFree r s := rfl
@[simp] theorem exec_basinPairPair (r : PairReq) (s : State) : exec (.basinPairPair r) s = execBasinPairPair r s := rfl
@[simp] theorem exec_basinPairMarkSpare (r : PairReq) (s : State) : exec (.basinPairMarkSpare r) s = execBasinPairMarkSpare r s := rfl
@[simp] theorem exec_basinPairUnmarkSpare (r : PairReq) (s : State) : exec (.basinPairUnmarkSpare r) s = execBasinPairUnmarkSpare r s := rfl
@[simp] theorem exec_basinQueryMap (slot : Nat) (s : State) : exec (.basinQueryMap slot) s = execBasinQueryMap slot s := rfl
@[simp] theorem exec_basinQueryAlloc (slot : Nat) (handle : Nat) (s : State) : exec (.basinQueryAlloc slot handle) s = execBasinQueryAlloc slot handle s := rfl
@[simp] theorem exec_partnerAllocFree (slot : Nat) (inst : Nat) (s : State) : exec (.partnerAllocFree slot inst) s = execPartnerAllocFree slot inst s := rfl
@[simp] theorem exec_partnerHbArm (w : RegWr) (s : State) : exec (.partnerHbArm w) s = execPartnerHbArm w s := rfl
@[simp] theorem exec_partnerHbBeat (w : RegWr) (s : State) : exec (.partnerHbBeat w) s = execPartnerHbBeat w s := rfl
@[simp] theorem exec_partnerHbDisarm (w : RegWr) (s : State) : exec (.partnerHbDisarm w) s = execPartnerHbDisarm w s := rfl
@[simp] theorem exec_partnerHbExpiry (s : State) : exec (.partnerHbExpiry) s = execPartnerHbExpiry s := rfl
@[simp] theorem exec_partnerLinkDown (s : State) : exec (.partnerLinkDown) s = execPartnerLinkDown s := rfl
@[simp] theorem exec_partnerFatalError (s : State) : exec (.partnerFatalError) s = execPartnerFatalError s := rfl
@[simp] theorem exec_hostReset (s : State) : exec (.hostReset) s = execHostReset s := rfl
@[simp] theorem exec_snoopTimeout (line : Nat) (s : State) : exec (.snoopTimeout line) s = execSnoopTimeout line s := rfl
@[simp] theorem exec_partnerLinkTrained (t : LinkTrain) (s : State) : exec (.partnerLinkTrained t) s = execPartnerLinkTrained t s := rfl
@[simp] theorem exec_ucieModuleLost (m : Nat) (s : State) : exec (.ucieModuleLost m) s = execUcieModuleLost m s := rfl
@[simp] theorem exec_partnerSnoop (line : Nat) (store : Option Bytes) (s : State) : exec (.partnerSnoop line store) s = execPartnerSnoop line store s := rfl
@[simp] theorem exec_backInvalidateAnswer (line : Nat) (dirty : Option Bytes) (s : State) : exec (.backInvalidateAnswer line dirty) s = execBackInvalidateAnswer line dirty s := rfl
@[simp] theorem exec_hdmAccess (a : HdmAcc) (s : State) : exec (.hdmAccess a) s = execHdmAccess a s := rfl
@[simp] theorem exec_atsCompletion (inst : Nat) (addr : Nat) (ans : AtsAns) (s : State) : exec (.atsCompletion inst addr ans) s = execAtsCompletion inst addr ans s := rfl
@[simp] theorem exec_atsTimeout (inst : Nat) (addr : Nat) (s : State) : exec (.atsTimeout inst addr) s = execAtsTimeout inst addr s := rfl
@[simp] theorem exec_atsInvalidationRequest (pasid : Nat) (addr : Nat) (len : Nat) (s : State) : exec (.atsInvalidationRequest pasid addr len) s = execAtsInvalidationRequest pasid addr len s := rfl
@[simp] theorem exec_culvertDoorbell (k : Nat) (w : RegWr) (s : State) : exec (.culvertDoorbell k w) s = execCulvertDoorbell k w s := rfl
@[simp] theorem exec_culvertTransferDone (k : Nat) (slot : Nat) (s : State) : exec (.culvertTransferDone k slot) s = execCulvertTransferDone k slot s := rfl
@[simp] theorem exec_cvPoolDisable (k : Nat) (w : RegWr) (s : State) : exec (.cvPoolDisable k w) s = execCvPoolDisable k w s := rfl
@[simp] theorem exec_cvOvfRegister (w : RegWrite) (s : State) : exec (.cvOvfRegister w) s = execCvOvfRegister w s := rfl
@[simp] theorem exec_tenderCoreFail (core : Nat) (s : State) : exec (.tenderCoreFail core) s = execTenderCoreFail core s := rfl
@[simp] theorem exec_stackLost (stack : Nat) (s : State) : exec (.stackLost stack) s = execStackLost stack s := rfl
@[simp] theorem exec_hgDb (q : Nat) (w : RegWr) (s : State) : exec (.hgDb q w) s = execHgDb q w s := rfl
@[simp] theorem exec_pushWrite (win : Nat) (p : PushWr) (s : State) : exec (.pushWrite win p) s = execPushWrite win p s := rfl
@[simp] theorem exec_descriptorFetch (q : Nat) (idx : Nat) (s : State) : exec (.descriptorFetch q idx) s = execDescriptorFetch q idx s := rfl
@[simp] theorem exec_descriptorRetry (q : Nat) (s : State) : exec (.descriptorRetry q) s = execDescriptorRetry q s := rfl
@[simp] theorem exec_entryAccept (q : Nat) (s : State) : exec (.entryAccept q) s = execEntryAccept q s := rfl
@[simp] theorem exec_hgInvFence (q : Nat) (w : RegWr) (s : State) : exec (.hgInvFence q w) s = execHgInvFence q w s := rfl
@[simp] theorem exec_hgInvRelease (q : Nat) (w : RegWr) (s : State) : exec (.hgInvRelease q w) s = execHgInvRelease q w s := rfl
@[simp] theorem exec_hgQctrlEnable (q : Nat) (w : RegWr) (s : State) : exec (.hgQctrlEnable q w) s = execHgQctrlEnable q w s := rfl
@[simp] theorem exec_hgQctrlDisable (q : Nat) (w : RegWr) (s : State) : exec (.hgQctrlDisable q w) s = execHgQctrlDisable q w s := rfl
@[simp] theorem exec_hgQcmdCreate (inst : Nat) (w : RegWr) (s : State) : exec (.hgQcmdCreate inst w) s = execHgQcmdCreate inst w s := rfl
@[simp] theorem exec_hgQcmdDestroy (inst : Nat) (w : RegWr) (s : State) : exec (.hgQcmdDestroy inst w) s = execHgQcmdDestroy inst w s := rfl
@[simp] theorem exec_hgQcmdReset (inst : Nat) (w : RegWr) (s : State) : exec (.hgQcmdReset inst w) s = execHgQcmdReset inst w s := rfl
@[simp] theorem exec_hgQcmdModify (inst : Nat) (w : RegWr) (s : State) : exec (.hgQcmdModify inst w) s = execHgQcmdModify inst w s := rfl
@[simp] theorem exec_hgCcmdCreate (inst : Nat) (w : RegWr) (s : State) : exec (.hgCcmdCreate inst w) s = execHgCcmdCreate inst w s := rfl
@[simp] theorem exec_hgCcmdDestroy (inst : Nat) (w : RegWr) (s : State) : exec (.hgCcmdDestroy inst w) s = execHgCcmdDestroy inst w s := rfl
@[simp] theorem exec_hgCcmdReset (inst : Nat) (w : RegWr) (s : State) : exec (.hgCcmdReset inst w) s = execHgCcmdReset inst w s := rfl
@[simp] theorem exec_hgCqdb (c : Nat) (w : RegWr) (s : State) : exec (.hgCqdb c w) s = execHgCqdb c w s := rfl
@[simp] theorem exec_hgCqarm (c : Nat) (w : RegWr) (s : State) : exec (.hgCqarm c w) s = execHgCqarm c w s := rfl
@[simp] theorem exec_cqModTimeExpiry (c : Nat) (s : State) : exec (.cqModTimeExpiry c) s = execCqModTimeExpiry c s := rfl
@[simp] theorem exec_wqeComplete (q : Nat) (s : State) : exec (.wqeComplete q) s = execWqeComplete q s := rfl
@[simp] theorem exec_queueErrorEntry (q : Nat) (s : State) : exec (.queueErrorEntry q) s = execQueueErrorEntry q s := rfl
@[simp] theorem exec_nop (q : Nat) (idx : Nat) (s : State) : exec (.nop q idx) s = execNop q idx s := rfl
@[simp] theorem exec_write (q : Nat) (idx : Nat) (s : State) : exec (.write q idx) s = execWrite q idx s := rfl
@[simp] theorem exec_writeImm (q : Nat) (idx : Nat) (s : State) : exec (.writeImm q idx) s = execWriteImm q idx s := rfl
@[simp] theorem exec_read (q : Nat) (idx : Nat) (s : State) : exec (.read q idx) s = execRead q idx s := rfl
@[simp] theorem exec_send (q : Nat) (idx : Nat) (s : State) : exec (.send q idx) s = execSend q idx s := rfl
@[simp] theorem exec_sendImm (q : Nat) (idx : Nat) (s : State) : exec (.sendImm q idx) s = execSendImm q idx s := rfl
@[simp] theorem exec_atomicFadd (q : Nat) (idx : Nat) (s : State) : exec (.atomicFadd q idx) s = execAtomicFadd q idx s := rfl
@[simp] theorem exec_atomicCswap (q : Nat) (idx : Nat) (s : State) : exec (.atomicCswap q idx) s = execAtomicCswap q idx s := rfl
@[simp] theorem exec_recv (q : Nat) (idx : Nat) (s : State) : exec (.recv q idx) s = execRecv q idx s := rfl
@[simp] theorem exec_basinLoad (q : Nat) (idx : Nat) (s : State) : exec (.basinLoad q idx) s = execBasinLoad q idx s := rfl
@[simp] theorem exec_basinStore (q : Nat) (idx : Nat) (s : State) : exec (.basinStore q idx) s = execBasinStore q idx s := rfl
@[simp] theorem exec_prefetch (q : Nat) (idx : Nat) (s : State) : exec (.prefetch q idx) s = execPrefetch q idx s := rfl
@[simp] theorem exec_adviseWillNeed (q : Nat) (idx : Nat) (s : State) : exec (.adviseWillNeed q idx) s = execAdviseWillNeed q idx s := rfl
@[simp] theorem exec_adviseDontNeed (q : Nat) (idx : Nat) (s : State) : exec (.adviseDontNeed q idx) s = execAdviseDontNeed q idx s := rfl
@[simp] theorem exec_adviseReadMostly (q : Nat) (idx : Nat) (s : State) : exec (.adviseReadMostly q idx) s = execAdviseReadMostly q idx s := rfl
@[simp] theorem exec_advisePreferHbm (q : Nat) (idx : Nat) (s : State) : exec (.advisePreferHbm q idx) s = execAdvisePreferHbm q idx s := rfl
@[simp] theorem exec_advisePreferPartner (q : Nat) (idx : Nat) (s : State) : exec (.advisePreferPartner q idx) s = execAdvisePreferPartner q idx s := rfl
@[simp] theorem exec_allReduce (q : Nat) (idx : Nat) (s : State) : exec (.allReduce q idx) s = execAllReduce q idx s := rfl
@[simp] theorem exec_reduceScatter (q : Nat) (idx : Nat) (s : State) : exec (.reduceScatter q idx) s = execReduceScatter q idx s := rfl
@[simp] theorem exec_allGather (q : Nat) (idx : Nat) (s : State) : exec (.allGather q idx) s = execAllGather q idx s := rfl
@[simp] theorem exec_broadcast (q : Nat) (idx : Nat) (s : State) : exec (.broadcast q idx) s = execBroadcast q idx s := rfl
@[simp] theorem exec_reduce (q : Nat) (idx : Nat) (s : State) : exec (.reduce q idx) s = execReduce q idx s := rfl
@[simp] theorem exec_allToAll (q : Nat) (idx : Nat) (s : State) : exec (.allToAll q idx) s = execAllToAll q idx s := rfl
@[simp] theorem exec_allToAllV (q : Nat) (idx : Nat) (s : State) : exec (.allToAllV q idx) s = execAllToAllV q idx s := rfl
@[simp] theorem exec_barrier (q : Nat) (idx : Nat) (s : State) : exec (.barrier q idx) s = execBarrier q idx s := rfl
@[simp] theorem exec_kernelLaunch (q : Nat) (idx : Nat) (s : State) : exec (.kernelLaunch q idx) s = execKernelLaunch q idx s := rfl
@[simp] theorem exec_synkoAdd (q : Nat) (idx : Nat) (s : State) : exec (.synkoAdd q idx) s = execSynkoAdd q idx s := rfl
@[simp] theorem exec_synkoSet (q : Nat) (idx : Nat) (s : State) : exec (.synkoSet q idx) s = execSynkoSet q idx s := rfl
@[simp] theorem exec_waitGe (q : Nat) (idx : Nat) (s : State) : exec (.waitGe q idx) s = execWaitGe q idx s := rfl
@[simp] theorem exec_armFire (q : Nat) (idx : Nat) (s : State) : exec (.armFire q idx) s = execArmFire q idx s := rfl
@[simp] theorem exec_cbLoad (q : Nat) (idx : Nat) (s : State) : exec (.cbLoad q idx) s = execCbLoad q idx s := rfl
@[simp] theorem exec_spCreate (inst : Nat) (w : RegWr) (s : State) : exec (.spCreate inst w) s = execSpCreate inst w s := rfl
@[simp] theorem exec_spDestroy (inst : Nat) (w : RegWr) (s : State) : exec (.spDestroy inst w) s = execSpDestroy inst w s := rfl
@[simp] theorem exec_spQuery (inst : Nat) (w : RegWr) (s : State) : exec (.spQuery inst w) s = execSpQuery inst w s := rfl
@[simp] theorem exec_ktCreate (inst : Nat) (w : RegWr) (s : State) : exec (.ktCreate inst w) s = execKtCreate inst w s := rfl
@[simp] theorem exec_ktInvalidate (inst : Nat) (w : RegWr) (s : State) : exec (.ktInvalidate inst w) s = execKtInvalidate inst w s := rfl
@[simp] theorem exec_ktQuery (inst : Nat) (w : RegWr) (s : State) : exec (.ktQuery inst w) s = execKtQuery inst w s := rfl
@[simp] theorem exec_keyFree (index : Nat) (s : State) : exec (.keyFree index) s = execKeyFree index s := rfl
@[simp] theorem exec_spanMoveDone (index : Nat) (s : State) : exec (.spanMoveDone index) s = execSpanMoveDone index s := rfl
@[simp] theorem exec_slQpCreate (inst : Nat) (w : RegWr) (s : State) : exec (.slQpCreate inst w) s = execSlQpCreate inst w s := rfl
@[simp] theorem exec_slQpConnect (inst : Nat) (w : RegWr) (s : State) : exec (.slQpConnect inst w) s = execSlQpConnect inst w s := rfl
@[simp] theorem exec_slQpReset (inst : Nat) (w : RegWr) (s : State) : exec (.slQpReset inst w) s = execSlQpReset inst w s := rfl
@[simp] theorem exec_slQpDestroy (inst : Nat) (w : RegWr) (s : State) : exec (.slQpDestroy inst w) s = execSlQpDestroy inst w s := rfl
@[simp] theorem exec_slQpQuery (inst : Nat) (w : RegWr) (s : State) : exec (.slQpQuery inst w) s = execSlQpQuery inst w s := rfl
@[simp] theorem exec_slQpFailover (inst : Nat) (w : RegWr) (s : State) : exec (.slQpFailover inst w) s = execSlQpFailover inst w s := rfl
@[simp] theorem exec_packetTransmit (qp : Nat) (s : State) : exec (.packetTransmit qp) s = execPacketTransmit qp s := rfl
@[simp] theorem exec_rxWrite (link : Nat) (f : Frame) (s : State) : exec (.rxWrite link f) s = execRxWrite link f s := rfl
@[simp] theorem exec_rxWriteImm (link : Nat) (f : Frame) (s : State) : exec (.rxWriteImm link f) s = execRxWriteImm link f s := rfl
@[simp] theorem exec_rxReadReq (link : Nat) (f : Frame) (s : State) : exec (.rxReadReq link f) s = execRxReadReq link f s := rfl
@[simp] theorem exec_rxReadResp (link : Nat) (f : Frame) (s : State) : exec (.rxReadResp link f) s = execRxReadResp link f s := rfl
@[simp] theorem exec_rxSend (link : Nat) (f : Frame) (s : State) : exec (.rxSend link f) s = execRxSend link f s := rfl
@[simp] theorem exec_rxSendImm (link : Nat) (f : Frame) (s : State) : exec (.rxSendImm link f) s = execRxSendImm link f s := rfl
@[simp] theorem exec_rxAtomicFadd (link : Nat) (f : Frame) (s : State) : exec (.rxAtomicFadd link f) s = execRxAtomicFadd link f s := rfl
@[simp] theorem exec_rxAtomicCswap (link : Nat) (f : Frame) (s : State) : exec (.rxAtomicCswap link f) s = execRxAtomicCswap link f s := rfl
@[simp] theorem exec_rxAtomicResp (link : Nat) (f : Frame) (s : State) : exec (.rxAtomicResp link f) s = execRxAtomicResp link f s := rfl
@[simp] theorem exec_rxAck (link : Nat) (f : Frame) (s : State) : exec (.rxAck link f) s = execRxAck link f s := rfl
@[simp] theorem exec_rxNakSeq (link : Nat) (f : Frame) (s : State) : exec (.rxNakSeq link f) s = execRxNakSeq link f s := rfl
@[simp] theorem exec_rxNakRnr (link : Nat) (f : Frame) (s : State) : exec (.rxNakRnr link f) s = execRxNakRnr link f s := rfl
@[simp] theorem exec_rxNakReread (link : Nat) (f : Frame) (s : State) : exec (.rxNakReread link f) s = execRxNakReread link f s := rfl
@[simp] theorem exec_rxNakStatus (link : Nat) (f : Frame) (s : State) : exec (.rxNakStatus link f) s = execRxNakStatus link f s := rfl
@[simp] theorem exec_rxResync (link : Nat) (f : Frame) (s : State) : exec (.rxResync link f) s = execRxResync link f s := rfl
@[simp] theorem exec_rxResyncAck (link : Nat) (f : Frame) (s : State) : exec (.rxResyncAck link f) s = execRxResyncAck link f s := rfl
@[simp] theorem exec_rxAbort (link : Nat) (f : Frame) (s : State) : exec (.rxAbort link f) s = execRxAbort link f s := rfl
@[simp] theorem exec_rxMark (link : Nat) (f : Frame) (s : State) : exec (.rxMark link f) s = execRxMark link f s := rfl
@[simp] theorem exec_ackDelayExpiry (qp : Nat) (s : State) : exec (.ackDelayExpiry qp) s = execAckDelayExpiry qp s := rfl
@[simp] theorem exec_rtoExpiry (qp : Nat) (s : State) : exec (.rtoExpiry qp) s = execRtoExpiry qp s := rfl
@[simp] theorem exec_rnrDelayExpiry (qp : Nat) (s : State) : exec (.rnrDelayExpiry qp) s = execRnrDelayExpiry qp s := rfl
@[simp] theorem exec_retryTimeExpiry (qp : Nat) (s : State) : exec (.retryTimeExpiry qp) s = execRetryTimeExpiry qp s := rfl
@[simp] theorem exec_failoverTimeExpiry (link : Nat) (s : State) : exec (.failoverTimeExpiry link) s = execFailoverTimeExpiry link s := rfl
@[simp] theorem exec_resyncRepeat (qp : Nat) (s : State) : exec (.resyncRepeat qp) s = execResyncRepeat qp s := rfl
@[simp] theorem exec_weirIntervalEnd (qp : Nat) (s : State) : exec (.weirIntervalEnd qp) s = execWeirIntervalEnd qp s := rfl
@[simp] theorem exec_rateIdleReset (qp : Nat) (s : State) : exec (.rateIdleReset qp) s = execRateIdleReset qp s := rfl
@[simp] theorem exec_wrSnapGo (w : RegWr) (s : State) : exec (.wrSnapGo w) s = execWrSnapGo w s := rfl
@[simp] theorem exec_qdepthMaxRead (link : Nat) (s : State) : exec (.qdepthMaxRead link) s = execQdepthMaxRead link s := rfl
@[simp] theorem exec_mapPeriodEnd (s : State) : exec (.mapPeriodEnd) s = execMapPeriodEnd s := rfl
@[simp] theorem exec_mapSlotExpiry (slot : Nat) (s : State) : exec (.mapSlotExpiry slot) s = execMapSlotExpiry slot s := rfl
@[simp] theorem exec_wrQuery (inst : Nat) (w : RegWr) (s : State) : exec (.wrQuery inst w) s = execWrQuery inst w s := rfl
@[simp] theorem exec_getVersion (t : Transp) (s : State) : exec (.getVersion t) s = execGetVersion t s := rfl
@[simp] theorem exec_getCapabilities (t : Transp) (s : State) : exec (.getCapabilities t) s = execGetCapabilities t s := rfl
@[simp] theorem exec_negotiateAlgorithms (t : Transp) (a : SpdmAlgs) (s : State) : exec (.negotiateAlgorithms t a) s = execNegotiateAlgorithms t a s := rfl
@[simp] theorem exec_getDigests (t : Transp) (s : State) : exec (.getDigests t) s = execGetDigests t s := rfl
@[simp] theorem exec_getCertificate (t : Transp) (slot : Nat) (off : Nat) (len : Nat) (s : State) : exec (.getCertificate t slot off len) s = execGetCertificate t slot off len s := rfl
@[simp] theorem exec_challenge (t : Transp) (slot : Nat) (nonce : Bytes) (s : State) : exec (.challenge t slot nonce) s = execChallenge t slot nonce s := rfl
@[simp] theorem exec_getMeasurements (t : Transp) (index : Nat) (nonce : Bytes) (s : State) : exec (.getMeasurements t index nonce) s = execGetMeasurements t index nonce s := rfl
@[simp] theorem exec_keyExchange (t : Transp) (summary : Nat) (s : State) : exec (.keyExchange t summary) s = execKeyExchange t summary s := rfl
@[simp] theorem exec_finish (sess : Nat) (verifies : Bool) (s : State) : exec (.finish sess verifies) s = execFinish sess verifies s := rfl
@[simp] theorem exec_keyUpdate (sess : SecuredReq) (s : State) : exec (.keyUpdate sess) s = execKeyUpdate sess s := rfl
@[simp] theorem exec_endSession (sess : SecuredReq) (s : State) : exec (.endSession sess) s = execEndSession sess s := rfl
@[simp] theorem exec_ideKmKeyProg (sess : Option Nat) (stream : Nat) (key : Bytes) (s : State) : exec (.ideKmKeyProg sess stream key) s = execIdeKmKeyProg sess stream key s := rfl
@[simp] theorem exec_keyInstallInitial (sess : Option Nat) (m : Bytes) (s : State) : exec (.keyInstallInitial sess m) s = execKeyInstallInitial sess m s := rfl
@[simp] theorem exec_keyInstallRekey (sess : Option Nat) (m : Bytes) (s : State) : exec (.keyInstallRekey sess m) s = execKeyInstallRekey sess m s := rfl
@[simp] theorem exec_keyCommit (sess : Option Nat) (m : Bytes) (s : State) : exec (.keyCommit sess m) s = execKeyCommit sess m s := rfl
@[simp] theorem exec_cryptPolicy (sess : Option Nat) (m : Bytes) (s : State) : exec (.cryptPolicy sess m) s = execCryptPolicy sess m s := rfl
@[simp] theorem exec_admitSet (sess : Option Nat) (m : Bytes) (s : State) : exec (.admitSet sess m) s = execAdmitSet sess m s := rfl
@[simp] theorem exec_basinAttestFragment (slot : Nat) (b : Bytes) (s : State) : exec (.basinAttestFragment slot b) s = execBasinAttestFragment slot b s := rfl
@[simp] theorem exec_cryptQuery (s : State) : exec (.cryptQuery) s = execCryptQuery s := rfl
@[simp] theorem exec_synkoApply (n : Nat) (s : State) : exec (.synkoApply n) s = execSynkoApply n s := rfl
@[simp] theorem exec_synkoDeadline (q : Nat) (idx : Nat) (s : State) : exec (.synkoDeadline q idx) s = execSynkoDeadline q idx s := rfl
@[simp] theorem exec_gateTimeoutExpiry (q : Nat) (s : State) : exec (.gateTimeoutExpiry q) s = execGateTimeoutExpiry q s := rfl
@[simp] theorem exec_sySet (inst : Nat) (w : RegWr) (s : State) : exec (.sySet inst w) s = execSySet inst w s := rfl
@[simp] theorem exec_syAdd (inst : Nat) (w : RegWr) (s : State) : exec (.syAdd inst w) s = execSyAdd inst w s := rfl
@[simp] theorem exec_syShare (inst : Nat) (w : RegWr) (s : State) : exec (.syShare inst w) s = execSyShare inst w s := rfl
@[simp] theorem exec_syUnshare (inst : Nat) (w : RegWr) (s : State) : exec (.syUnshare inst w) s = execSyUnshare inst w s := rfl
@[simp] theorem exec_gateSet (inst : Nat) (w : RegWr) (s : State) : exec (.gateSet inst w) s = execGateSet inst w s := rfl
@[simp] theorem exec_gateClear (inst : Nat) (w : RegWr) (s : State) : exec (.gateClear inst w) s = execGateClear inst w s := rfl
@[simp] theorem exec_gateQuery (inst : Nat) (w : RegWr) (s : State) : exec (.gateQuery inst w) s = execGateQuery inst w s := rfl
@[simp] theorem exec_rnGcmdCreate (inst : Nat) (w : RegWr) (s : State) : exec (.rnGcmdCreate inst w) s = execRnGcmdCreate inst w s := rfl
@[simp] theorem exec_rnGcmdDestroy (inst : Nat) (w : RegWr) (s : State) : exec (.rnGcmdDestroy inst w) s = execRnGcmdDestroy inst w s := rfl
@[simp] theorem exec_rnGcmdReset (inst : Nat) (w : RegWr) (s : State) : exec (.rnGcmdReset inst w) s = execRnGcmdReset inst w s := rfl
@[simp] theorem exec_rnGcmdQuery (inst : Nat) (w : RegWr) (s : State) : exec (.rnGcmdQuery inst w) s = execRnGcmdQuery inst w s := rfl
@[simp] theorem exec_collData (g : Nat) (s : State) : exec (.collData g) s = execCollData g s := rfl
@[simp] theorem exec_collCredit (g : Nat) (s : State) : exec (.collCredit g) s = execCollCredit g s := rfl
@[simp] theorem exec_collAbort (g : Nat) (s : State) : exec (.collAbort g) s = execCollAbort g s := rfl
@[simp] theorem exec_collVote (g : Nat) (s : State) : exec (.collVote g) s = execCollVote g s := rfl
@[simp] theorem exec_collCombineDone (g : Nat) (s : State) : exec (.collCombineDone g) s = execCollCombineDone g s := rfl
@[simp] theorem exec_collTimeout (g : Nat) (s : State) : exec (.collTimeout g) s = execCollTimeout g s := rfl
@[simp] theorem exec_runnelColl (m : Bytes) (s : State) : exec (.runnelColl m) s = execRunnelColl m s := rfl
@[simp] theorem exec_runnelCollAbort (m : Bytes) (s : State) : exec (.runnelCollAbort m) s = execRunnelCollAbort m s := rfl
@[simp] theorem exec_runnelAck (m : Bytes) (s : State) : exec (.runnelAck m) s = execRunnelAck m s := rfl
@[simp] theorem exec_runnelRtoExpiry (slot : Nat) (s : State) : exec (.runnelRtoExpiry slot) s = execRunnelRtoExpiry slot s := rfl
@[simp] theorem exec_runnelAckDelayExpiry (slot : Nat) (s : State) : exec (.runnelAckDelayExpiry slot) s = execRunnelAckDelayExpiry slot s := rfl
@[simp] theorem exec_runnelStreamRestart (slot : Nat) (s : State) : exec (.runnelStreamRestart slot) s = execRunnelStreamRestart slot s := rfl
@[simp] theorem exec_groupStart (q : Nat) (idx : Nat) (s : State) : exec (.groupStart q idx) s = execGroupStart q idx s := rfl
@[simp] theorem exec_fwNop (core : Nat) (slot : Nat) (s : State) : exec (.fwNop core slot) s = execFwNop core slot s := rfl
@[simp] theorem exec_movi (core : Nat) (slot : Nat) (s : State) : exec (.movi core slot) s = execMovi core slot s := rfl
@[simp] theorem exec_movu (core : Nat) (slot : Nat) (s : State) : exec (.movu core slot) s = execMovu core slot s := rfl
@[simp] theorem exec_movs (core : Nat) (slot : Nat) (s : State) : exec (.movs core slot) s = execMovs core slot s := rfl
@[simp] theorem exec_umov (core : Nat) (slot : Nat) (s : State) : exec (.umov core slot) s = execUmov core slot s := rfl
@[simp] theorem exec_iadd (core : Nat) (slot : Nat) (s : State) : exec (.iadd core slot) s = execIadd core slot s := rfl
@[simp] theorem exec_isub (core : Nat) (slot : Nat) (s : State) : exec (.isub core slot) s = execIsub core slot s := rfl
@[simp] theorem exec_imul (core : Nat) (slot : Nat) (s : State) : exec (.imul core slot) s = execImul core slot s := rfl
@[simp] theorem exec_imad (core : Nat) (slot : Nat) (s : State) : exec (.imad core slot) s = execImad core slot s := rfl
@[simp] theorem exec_and (core : Nat) (slot : Nat) (s : State) : exec (.and core slot) s = execAnd core slot s := rfl
@[simp] theorem exec_or (core : Nat) (slot : Nat) (s : State) : exec (.or core slot) s = execOr core slot s := rfl
@[simp] theorem exec_xor (core : Nat) (slot : Nat) (s : State) : exec (.xor core slot) s = execXor core slot s := rfl
@[simp] theorem exec_shl (core : Nat) (slot : Nat) (s : State) : exec (.shl core slot) s = execShl core slot s := rfl
@[simp] theorem exec_shr (core : Nat) (slot : Nat) (s : State) : exec (.shr core slot) s = execShr core slot s := rfl
@[simp] theorem exec_sar (core : Nat) (slot : Nat) (s : State) : exec (.sar core slot) s = execSar core slot s := rfl
@[simp] theorem exec_imin (core : Nat) (slot : Nat) (s : State) : exec (.imin core slot) s = execImin core slot s := rfl
@[simp] theorem exec_imax (core : Nat) (slot : Nat) (s : State) : exec (.imax core slot) s = execImax core slot s := rfl
@[simp] theorem exec_icmp (core : Nat) (slot : Nat) (s : State) : exec (.icmp core slot) s = execIcmp core slot s := rfl
@[simp] theorem exec_fadd (core : Nat) (slot : Nat) (s : State) : exec (.fadd core slot) s = execFadd core slot s := rfl
@[simp] theorem exec_fmul (core : Nat) (slot : Nat) (s : State) : exec (.fmul core slot) s = execFmul core slot s := rfl
@[simp] theorem exec_ffma (core : Nat) (slot : Nat) (s : State) : exec (.ffma core slot) s = execFfma core slot s := rfl
@[simp] theorem exec_fmin (core : Nat) (slot : Nat) (s : State) : exec (.fmin core slot) s = execFmin core slot s := rfl
@[simp] theorem exec_fmax (core : Nat) (slot : Nat) (s : State) : exec (.fmax core slot) s = execFmax core slot s := rfl
@[simp] theorem exec_fcmp (core : Nat) (slot : Nat) (s : State) : exec (.fcmp core slot) s = execFcmp core slot s := rfl
@[simp] theorem exec_frcp (core : Nat) (slot : Nat) (s : State) : exec (.frcp core slot) s = execFrcp core slot s := rfl
@[simp] theorem exec_cvt (core : Nat) (slot : Nat) (s : State) : exec (.cvt core slot) s = execCvt core slot s := rfl
@[simp] theorem exec_mxunpk (core : Nat) (slot : Nat) (s : State) : exec (.mxunpk core slot) s = execMxunpk core slot s := rfl
@[simp] theorem exec_mxpack (core : Nat) (slot : Nat) (s : State) : exec (.mxpack core slot) s = execMxpack core slot s := rfl
@[simp] theorem exec_vqdec (core : Nat) (slot : Nat) (s : State) : exec (.vqdec core slot) s = execVqdec core slot s := rfl
@[simp] theorem exec_vqenc (core : Nat) (slot : Nat) (s : State) : exec (.vqenc core slot) s = execVqenc core slot s := rfl
@[simp] theorem exec_shfl (core : Nat) (slot : Nat) (s : State) : exec (.shfl core slot) s = execShfl core slot s := rfl
@[simp] theorem exec_vote (core : Nat) (slot : Nat) (s : State) : exec (.vote core slot) s = execVote core slot s := rfl
@[simp] theorem exec_red (core : Nat) (slot : Nat) (s : State) : exec (.red core slot) s = execRed core slot s := rfl
@[simp] theorem exec_ldl (core : Nat) (slot : Nat) (s : State) : exec (.ldl core slot) s = execLdl core slot s := rfl
@[simp] theorem exec_stl (core : Nat) (slot : Nat) (s : State) : exec (.stl core slot) s = execStl core slot s := rfl
@[simp] theorem exec_ldg (core : Nat) (slot : Nat) (s : State) : exec (.ldg core slot) s = execLdg core slot s := rfl
@[simp] theorem exec_stg (core : Nat) (slot : Nat) (s : State) : exec (.stg core slot) s = execStg core slot s := rfl
@[simp] theorem exec_cpy (core : Nat) (slot : Nat) (s : State) : exec (.cpy core slot) s = execCpy core slot s := rfl
@[simp] theorem exec_atomg (core : Nat) (slot : Nat) (s : State) : exec (.atomg core slot) s = execAtomg core slot s := rfl
@[simp] theorem exec_lda (core : Nat) (slot : Nat) (s : State) : exec (.lda core slot) s = execLda core slot s := rfl
@[simp] theorem exec_fence (core : Nat) (slot : Nat) (s : State) : exec (.fence core slot) s = execFence core slot s := rfl
@[simp] theorem exec_bra (core : Nat) (slot : Nat) (s : State) : exec (.bra core slot) s = execBra core slot s := rfl
@[simp] theorem exec_call (core : Nat) (slot : Nat) (s : State) : exec (.call core slot) s = execCall core slot s := rfl
@[simp] theorem exec_ret (core : Nat) (slot : Nat) (s : State) : exec (.ret core slot) s = execRet core slot s := rfl
@[simp] theorem exec_exit (core : Nat) (slot : Nat) (s : State) : exec (.exit core slot) s = execExit core slot s := rfl
@[simp] theorem exec_trap (core : Nat) (slot : Nat) (s : State) : exec (.trap core slot) s = execTrap core slot s := rfl
@[simp] theorem exec_rte (core : Nat) (slot : Nat) (s : State) : exec (.rte core slot) s = execRte core slot s := rfl
@[simp] theorem exec_setres (core : Nat) (slot : Nat) (s : State) : exec (.setres core slot) s = execSetres core slot s := rfl
@[simp] theorem exec_setstat (core : Nat) (slot : Nat) (s : State) : exec (.setstat core slot) s = execSetstat core slot s := rfl
@[simp] theorem exec_sadd (core : Nat) (slot : Nat) (s : State) : exec (.sadd core slot) s = execSadd core slot s := rfl
@[simp] theorem exec_brk (core : Nat) (slot : Nat) (s : State) : exec (.brk core slot) s = execBrk core slot s := rfl
@[simp] theorem exec_watchdogExpiry (core : Nat) (slot : Nat) (s : State) : exec (.watchdogExpiry core slot) s = execWatchdogExpiry core slot s := rfl
@[simp] theorem exec_coreLost (core : Nat) (s : State) : exec (.coreLost core) s = execCoreLost core s := rfl
@[simp] theorem exec_dbgList (s : State) : exec (.dbgList) s = execDbgList s := rfl
@[simp] theorem exec_dbgHalt (s : State) : exec (.dbgHalt) s = execDbgHalt s := rfl
@[simp] theorem exec_dbgResume (s : State) : exec (.dbgResume) s = execDbgResume s := rfl
@[simp] theorem exec_dbgStep (s : State) : exec (.dbgStep) s = execDbgStep s := rfl
@[simp] theorem exec_dbgRead (s : State) : exec (.dbgRead) s = execDbgRead s := rfl
@[simp] theorem exec_dbgWrite (s : State) : exec (.dbgWrite) s = execDbgWrite s := rfl
@[simp] theorem exec_dbgKill (s : State) : exec (.dbgKill) s = execDbgKill s := rfl
@[simp] theorem exec_dbgBreak (s : State) : exec (.dbgBreak) s = execDbgBreak s := rfl
@[simp] theorem exec_dbgAttach (s : State) : exec (.dbgAttach) s = execDbgAttach s := rfl
@[simp] theorem exec_dbgDetach (s : State) : exec (.dbgDetach) s = execDbgDetach s := rfl
@[simp] theorem exec_fwdbgUpdateDr (block : Bytes) (s : State) : exec (.fwdbgUpdateDr block) s = execFwdbgUpdateDr block s := rfl
@[simp] theorem exec_cbScmdQuery (inst : Nat) (w : RegWr) (s : State) : exec (.cbScmdQuery inst w) s = execCbScmdQuery inst w s := rfl
@[simp] theorem exec_cbScmdClear (inst : Nat) (w : RegWr) (s : State) : exec (.cbScmdClear inst w) s = execCbScmdClear inst w s := rfl
@[simp] theorem exec_cbSlotError (slot : Nat) (s : State) : exec (.cbSlotError slot) s = execCbSlotError slot s := rfl
@[simp] theorem exec_instCreate (v : InstVia) (s : State) : exec (.instCreate v) s = execInstCreate v s := rfl
@[simp] theorem exec_instModify (v : InstVia) (s : State) : exec (.instModify v) s = execInstModify v s := rfl
@[simp] theorem exec_instDestroyGraceful (v : InstVia) (s : State) : exec (.instDestroyGraceful v) s = execInstDestroyGraceful v s := rfl
@[simp] theorem exec_instDestroyForce (v : InstVia) (s : State) : exec (.instDestroyForce v) s = execInstDestroyForce v s := rfl
@[simp] theorem exec_instQuery (v : InstVia) (s : State) : exec (.instQuery v) s = execInstQuery v s := rfl
@[simp] theorem exec_tnMbxGo (w : RegWr) (s : State) : exec (.tnMbxGo w) s = execTnMbxGo w s := rfl
@[simp] theorem exec_mctpRequest (block : MctpReq) (s : State) :
    exec (.mctpRequest block) s = execMctpRequest block s := rfl
@[simp] theorem exec_mbxCommandStart (s : State) : exec (.mbxCommandStart) s = execMbxCommandStart s := rfl
@[simp] theorem exec_slotWrite (readBackOk : Bool) (s : State) : exec (.slotWrite readBackOk) s = execSlotWrite readBackOk s := rfl
@[simp] theorem exec_slotSelectActive (s : State) : exec (.slotSelectActive) s = execSlotSelectActive s := rfl
@[simp] theorem exec_slotSelectTry (s : State) : exec (.slotSelectTry) s = execSlotSelectTry s := rfl
@[simp] theorem exec_slotQuery (s : State) : exec (.slotQuery) s = execSlotQuery s := rfl
@[simp] theorem exec_imageLoad (s : State) : exec (.imageLoad) s = execImageLoad s := rfl
@[simp] theorem exec_stageWrite (s : State) : exec (.stageWrite) s = execStageWrite s := rfl
@[simp] theorem exec_featCommit (w : RegWr) (s : State) : exec (.featCommit w) s = execFeatCommit w s := rfl
@[simp] theorem exec_featUncommit (w : RegWr) (s : State) : exec (.featUncommit w) s = execFeatUncommit w s := rfl
@[simp] theorem exec_eventLogWrite (s : State) : exec (.eventLogWrite) s = execEventLogWrite s := rfl
@[simp] theorem exec_tnLogAckLoWrite (w : RegWr) (s : State) : exec (.tnLogAckLoWrite w) s = execTnLogAckLoWrite w s := rfl
@[simp] theorem exec_tnLogAckHiWrite (w : RegWr) (s : State) : exec (.tnLogAckHiWrite w) s = execTnLogAckHiWrite w s := rfl
@[simp] theorem exec_tnLogRselHiWrite (w : RegWr) (s : State) : exec (.tnLogRselHiWrite w) s = execTnLogRselHiWrite w s := rfl
@[simp] theorem exec_tnIntStatClear (w : RegWr) (s : State) : exec (.tnIntStatClear w) s = execTnIntStatClear w s := rfl
@[simp] theorem exec_tnIntEnWrite (w : RegWr) (s : State) : exec (.tnIntEnWrite w) s = execTnIntEnWrite w s := rfl
@[simp] theorem exec_selftestStart (w : RegWr) (s : State) : exec (.selftestStart w) s = execSelftestStart w s := rfl
@[simp] theorem exec_selftestDone (failed : Option Nat) (s : State) : exec (.selftestDone failed) s = execSelftestDone failed s := rfl
@[simp] theorem exec_warmRstNRise (s : State) : exec (.warmRstNRise) s = execWarmRstNRise s := rfl
@[simp] theorem exec_configurationRequest (s : State) : exec (.configurationRequest) s = execConfigurationRequest s := rfl
@[simp] theorem exec_managerReply (reqId : Nat) (status : Byte) (data : Bytes) (s : State) : exec (.managerReply reqId status data) s = execManagerReply reqId status data s := rfl
@[simp] theorem exec_handoverPeriod (s : State) : exec (.handoverPeriod) s = execHandoverPeriod s := rfl
@[simp] theorem exec_workerPeriod (s : State) : exec (.workerPeriod) s = execWorkerPeriod s := rfl
@[simp] theorem exec_overflowLengthReport (slot : Nat) (granules : Nat) (s : State) : exec (.overflowLengthReport slot granules) s = execOverflowLengthReport slot granules s := rfl

end Sys2Proof.Machine
end

