-- ==== Sys2Proof/Laws/Furrow.lean ====
section
/-!
SUPPORT. What issuing a Furrow instruction does (R343), and what the register files read after a write.
-/
namespace Sys2Proof.Machine

/-- What a slot's instruction leaves (R343, R349, R350, R356). -/
def issued (k : Nat) (s : State) (t : Tg) : Fx → Result
  | .go s t => .next (putTg s k (stepped s.sys.now t))
  | .trap s c a m => .next (deliver s k t c a m)
  | .wait s => .next s
  | .retire s t st tr => .next (retireTg s k t st tr)
  | .halt s t => .next (putTg s k ((stepped s.sys.now t).pause .halted s.sys.now))

/-- A running group's legal instruction has its effect. -/
theorem issue_eq {s u : State} {core slot op : Nat} {t : Tg} {l : Launch} {x : Ins} (h : Issues s core slot op t l x u)
    (eff : FwCtx → State → Tg → Fx) :
    issue core slot op s eff = issued (fwKey core slot) u t
      (eff { k := fwKey core slot, l := l, x := x, mask := predMask t x } u { t with pc := (t.pc + 8) % 2 ^ 64 }) := by
  obtain ⟨h1, h2, h3, h4, h5, h6, h7, h8, ⟨b, h9, h10⟩, h11, h12⟩ := h
  unfold issue
  simp only [h2, h3, h4, h5, ne_eq, not_true_eq_false, Nat.not_le.2 h1, or_self, if_false, Bool.false_eq_true]
  simp only [fetch, h6, h7, h8, and_self, if_true, h9, h10, h11, h12, not_true_eq_false, false_and, if_false, Bool.not_true,
    Bool.false_eq_true]
  cases eff { k := fwKey core slot, l := l, x := x, mask := predMask t x } u { t with pc := (t.pc + 8) % 2 ^ 64 } <;> rfl

theorem foldl_setV (t : Tg) (r mask : Nat) (f : Nat → Nat) (n : Nat) (hn : n ≤ 32) (q lane : Nat) (hl : lane < 32) :
    Tab.getD ((List.range n).foldl (fun v k => if bitN mask k then Tab.put v (32 * r + k) (BitVec.ofNat 32 (f k)) else v) t.v)
      (32 * q + lane) 0 =
    if q = r ∧ lane < n ∧ bitN mask lane = true then BitVec.ofNat 32 (f lane) else Tab.getD t.v (32 * q + lane) 0 := by
  induction n with
  | zero => simp
  | succ n ih =>
    have ih := ih (by omega)
    rw [List.range_succ, List.foldl_append]
    simp only [List.foldl_cons, List.foldl_nil]
    by_cases b : bitN mask n = true
    · rw [if_pos b]
      by_cases e : q = r ∧ lane = n
      · obtain ⟨rfl, rfl⟩ := e
        simp [Tab.getD, b]
      · have ne : 32 * q + lane ≠ 32 * r + n := by omega
        unfold Tab.getD at ih ⊢
        rw [Tab.find_put_ne _ _ _ _ ne, ih]
        by_cases c : q = r
        · subst c
          have l : lane ≠ n := fun k => e ⟨rfl, k⟩
          have : (lane < n + 1) = (lane < n) := by
            apply propext
            omega
          simp [this]
        · simp [c]
    · rw [if_neg b, ih]
      by_cases c : lane = n
      · subst c
        simp [b]
      · have : (lane < n + 1) = (lane < n) := by
          apply propext
          omega
        simp [this]

/-- After a write under a mask, the lanes of the mask hold the new words and every other word stands. -/
theorem Tg.vr_setV (t : Tg) (r mask : Nat) (f : Nat → Nat) (q lane : Nat) (hl : lane < 32) :
    (t.setV r mask f).vr q lane = if q = r ∧ bitN mask lane = true then f lane % 2 ^ 32 else t.vr q lane := by
  have h := foldl_setV t r mask f 32 (Nat.le_refl _) q lane hl
  unfold Tg.vr Tg.setV
  simp only [h, hl, true_and]
  split <;> simp

/-- A uniform register reads what was written to it, in 64 bits. -/
theorem Tg.ur_setU (t : Tg) (j v k : Nat) : (t.setU j v).ur k = if k = j then v % 2 ^ 64 else t.ur k := by
  unfold Tg.ur Tg.setU Tab.getD
  simp only [Tab.find_put]
  split <;> simp

/-- Counting a step changes whether the group runs, and no register (R356). -/
theorem stepped_eq (now : Nat) (t : Tg) :
    ∃ st ran left, stepped now t = { t with st := st, ran := ran, stepLeft := left, skipBreak := false } := by
  unfold stepped
  dsimp only
  split
  · exact ⟨_, _, _, rfl⟩
  · split
    · exact ⟨_, _, _, rfl⟩
    · exact ⟨_, _, _, rfl⟩

/-- A lane instruction writes its lanes (R343). -/
theorem laneOp_writes {s u : State} {core slot op : Nat} {t : Tg} {l : Launch} {x : Ins} (h : Issues s core slot op t l x u)
    (f : FwCtx → Tg → Nat → Nat) :
    ∃ v, laneOp core slot op s f = .next v ∧
      LaneWrites u v core slot t x
        (f { k := fwKey core slot, l := l, x := x, mask := predMask t x } { t with pc := (t.pc + 8) % 2 ^ 64 }) := by
  refine ⟨_, issue_eq h _, _, rfl, ?_, ?_⟩
  · intro r lane hl
    obtain ⟨a, b, c, e⟩ := stepped_eq u.sys.now (Tg.setV { t with pc := (t.pc + 8) % 2 ^ 64 } x.d (predMask t x)
      (f { k := fwKey core slot, l := l, x := x, mask := predMask t x } { t with pc := (t.pc + 8) % 2 ^ 64 }))
    rw [e]
    exact Tg.vr_setV { t with pc := (t.pc + 8) % 2 ^ 64 } x.d (predMask t x) _ r lane hl
  · obtain ⟨a, b, c, e⟩ := stepped_eq u.sys.now (Tg.setV { t with pc := (t.pc + 8) % 2 ^ 64 } x.d (predMask t x)
      (f { k := fwKey core slot, l := l, x := x, mask := predMask t x } { t with pc := (t.pc + 8) % 2 ^ 64 }))
    dsimp only
    rw [e]
    rfl

end Sys2Proof.Machine
end

