-- ==== Sys2Proof/Laws/Ops.lean ====
section
/-!
SUPPORT. What each shared operation can do, said once.
-/
namespace Sys2Proof.Machine

/-- A command whose meaning is a next state of which `P` holds. -/
theorem Answers.of {c : Instr} {s : State} {P : State → Prop} (t : State) (h : exec c s = .next t) (p : P t) : Answers c s P :=
  ⟨t, h, p⟩

theorem firstFail_cons (ok : Bool) (st : Byte) (r : List (Bool × Byte)) :
    firstFail ((ok, st) :: r) = if ok then firstFail r else some st := rfl

@[simp] theorem firstFail_nil : firstFail [] = none := rfl

@[simp] theorem firstFail_true (st : Byte) (r : List (Bool × Byte)) : firstFail ((true, st) :: r) = firstFail r := rfl

@[simp] theorem firstFail_false (st : Byte) (r : List (Bool × Byte)) : firstFail ((false, st) :: r) = some st := rfl

/-- A write that passes every check has its effect (R127). -/
theorem checked_ok {s : State} {a : Nat} {i : Option Nat} {w : RegWr} {cs : List (Bool × Byte)} {e : State}
    (h : Taken s w) (hc : firstFail cs = none) : checked s a i w cs e = e := by
  simp [checked, h.1, h.2, hc]

/-- A write that fails a check is rejected whole with the first failing check's status (R127). -/
theorem checked_fail {s : State} {a : Nat} {i : Option Nat} {w : RegWr} {cs : List (Bool × Byte)} {e : State} {st : Byte}
    (h : Taken s w) (hc : firstFail cs = some st) : checked s a i w cs e = reject s a i w st := by
  simp [checked, h.1, h.2, hc]

/-- Everything a register write can do: nothing, its effect, or a rejection. -/
theorem checked_cases (s : State) (a : Nat) (i : Option Nat) (w : RegWr) (cs : List (Bool × Byte)) (e : State) :
    checked s a i w cs e = s ∨ checked s a i w cs e = e ∨ ∃ st, checked s a i w cs e = reject s a i w st := by
  unfold checked
  split
  · exact .inl rfl
  · split
    · exact .inr (.inr ⟨_, rfl⟩)
    · exact .inr (.inl rfl)

theorem isCmd {rsv : Word} {s : State} {inst stat code : Nat} {w : RegWr} (h : CmdOpenAt rsv s inst stat code w) {r : Result} :
    onCmd w code s r = r := if_pos (.inl h.2.2.2.2.2.2.2)

/-- A command register's write that passes every check has its effect, BUSY 0 and STATUS OK (R127). -/
theorem pageCmd_ok {rsv : Word} {s : State} {inst off stat code : Nat} {w : RegWr} {cs : List (Bool × Byte)} {eff : State → State}
    (h : CmdOpenAt rsv s inst stat code w) (hc : firstFail cs = none) :
    pageCmd s inst off stat w cs eff = .next (eff (cmdTaken s inst stat)) := by
  obtain ⟨h1, ⟨h2, h3⟩, h4, h5, h6, h7, _, _⟩ := h
  simp [pageCmd, h1, h2, h3, Nat.not_le.2 h4, h5, h6, h7, hc, cmdTaken]

/-- A command register's write that fails a check is rejected whole, its status mirrored (R127). -/
theorem pageCmd_fail {rsv : Word} {s : State} {inst off stat code : Nat} {w : RegWr} {cs : List (Bool × Byte)} {eff : State → State} {st : Byte}
    (h : CmdOpenAt rsv s inst stat code w) (hc : firstFail cs = some st) :
    pageCmd s inst off stat w cs eff = .next (rejectCmd s inst off stat w st) := by
  obtain ⟨h1, ⟨h2, h3⟩, h4, h5, h6, h7, _, _⟩ := h
  simp [pageCmd, h1, h2, h3, Nat.not_le.2 h4, h5, h6, hc]

/-- A queue register's write that reaches its checks has the register's effect (R127). -/
theorem queueReg_open {s : State} {q off : Nat} {w : RegWr} {x : Wq} {k : Wq → State} (h : QueueOpen s q w x) :
    queueReg s q off w k = .next (k x) := by
  obtain ⟨h1, ⟨h2, h3⟩, h4, h5, h6⟩ := h
  simp [queueReg, h1, h2, h3, Nat.not_le.2 h4, h5, h6]

/-- A completion queue register's write that reaches its checks has the register's effect (R127). -/
theorem cqReg_open {s : State} {c off : Nat} {w : RegWr} {x : Cq} {k : Cq → State} (h : CqOpen s c w x) :
    cqReg s c off w k = .next (k x) := by
  obtain ⟨h1, ⟨h2, h3⟩, h4, h5, h6⟩ := h
  simp [cqReg, h1, h2, h3, Nat.not_le.2 h4, h5, h6]

/-- Every outcome of a command register's write is a next state. -/
theorem pageCmd_next (s : State) (inst off stat : Nat) (w : RegWr) (cs : List (Bool × Byte)) (eff : State → State) :
    ∃ t, pageCmd s inst off stat w cs eff = .next t := by
  unfold pageCmd
  repeat' split
  all_goals exact ⟨_, rfl⟩

theorem cmdTaken_frame (s : State) (inst stat : Nat) :
    cmdTaken s inst stat = { s with pages := (cmdTaken s inst stat).pages, insts := (cmdTaken s inst stat).insts } := rfl

end Sys2Proof.Machine
end

