-- ==== Sys2Proof/Machine/Records.lean ====
section
/-!
DEFINITION. The byte layouts of the records that the engines keep in device-private HBM, beside those of spans and keys (R222) and of
instances (R390): transport records (R249), cipher records (R290), counter records (R308), launch records and atomic-log entries
(R353, R359). State holds what they say as structures; of the two copies of a record it holds which are lost.
-/
namespace Sys2Proof.Machine

/-- An entry of the atomic journal. -/
def jourBytes (j : Jour) : Bytes :=
  putLE 3 j.psn ++ putLE 1 (1 + 2 * bit j.applied) ++ zeros 4 ++ putLE 8 j.target.addr ++ putLE 8 j.prior ++ putLE 8 j.new

/-- The receive-entry fields of a transport record, while its completion is owed or after it. -/
def recvBytes (r : Option RecvRec) (owed : Bool) : Bytes :=
  match r with
  | none => zeros 9
  | some x => putLE 4 x.bytes ++ putLE 4 (x.imm.getD 0) ++ putLE 1 (bit owed + 2 * bit x.imm.isSome + 4 * bit x.solicited + 8 * bit x.fromWrite)

/-- A transport record's 256 bytes (R249). -/
def transportBytes (s : State) (p : Qp) : Bytes :=
  let b := putLE 3 p.recEpsn ++ putLE 1 p.epoch ++ putLE 3 p.sndUna ++ putLE 1 p.st.code ++ putLE 4 p.rqNext ++ recvBytes p.recv (recvOwed s p)
    ++ putLE 1 p.lastEpoch ++ putLE 1 (bit p.prst + 2 * bit p.onAlt) ++ zeros 1 ++ putLE 4 p.dqpn ++ putLE 4 p.cfg ++ putLE 16 p.peer
    ++ putLE 4 p.retry ++ putLE 4 p.inst ++ zeros 8 ++ fit 128 ((p.jour.map jourBytes).flatten) ++ zeros 60
  b ++ putLE 4 (crcN b)

/-- A cipher record's 128 bytes (R290). -/
def cipherBytes (c : Cipher) : Bytes :=
  let b := fit 32 c.secret ++ fit 32 (c.pending.getD []) ++ putLE 4 c.txPhase ++ putLE 4 c.rxPhase ++ putLE 8 c.txStart
    ++ putLE 1 (bit c.keyed + 2 * bit c.pending.isSome + 4 * bit c.committed + 8 * bit c.txOnP + 16 * bit c.rxOnP + 32 * c.role) ++ zeros 3
    ++ putLE 4 c.txPPhase ++ putLE 4 c.rxPPhase ++ zeros 32
  b ++ putLE 4 (crcN b)

/-- A journal tag of a counter record: KIND 1 a work-queue entry, KIND 2 Culvert (R304). -/
def tagBytes (t : Nat × Nat × Nat) : Bytes :=
  putLE 8 (t.1 * 2 ^ 62 + t.2.1 * 2 ^ 32 + t.2.2)

/-- A counter record's 64 bytes (R308). -/
def counterBytes (s : State) (n : Nat) : Bytes :=
  let c := cnt s n
  let owner := Tab.find s.own.sy (n / 64)
  let b := putLE 6 c.value ++ putLE 1 (bit c.sat + 2 * bit owner.isSome + 4 * bit c.share.isSome) ++ zeros 1 ++ putLE 2 (owner.getD 0)
    ++ putLE 2 (c.share.getD 0) ++ zeros 4 ++ fit 40 ((c.journal.map tagBytes).flatten) ++ zeros 4
  b ++ putLE 4 (crcN b)

/-- A launch record's 256 bytes (R359). -/
def launchBytes (l : Launch) : Bytes :=
  let sums := (l.sums ++ List.replicate (4 - l.sums.length) (0xFFFF, 0)).take 4
  let b := putLE 96 ((l.retired.map (2 ^ ·)).sum) ++ putLE 4 l.sum.toNat ++ [l.status] ++ putLE 1 (bit l.trapStatus + 2 * bit l.stopped)
    ++ putLE 2 l.statusGroup ++ (sums.map (fun x => putLE 2 x.1 ++ putLE 6 x.2)).flatten ++ zeros 116
  b ++ putLE 4 (crcN b)

/-- An atomic-log entry's 144 bytes (R359), `seq` its sequence number. -/
def alogBytes (seq : Nat) (a : ALog) : Bytes :=
  putLE 4 seq ++ putLE 4 a.crc.toNat ++ fit 128 ((a.priors.map (fun w => putLE 4 w.toNat)).flatten) ++ zeros 8

end Sys2Proof.Machine
end

