-- ==== Sys2Proof/WellFormed.lean ====
section
/-!
DEFINITION. The well-formed commands: every operand lies in the range the spec gives the thing it names. The meanings
are total: a command that names a link, queue or record that does not exist has no effect.
-/
namespace Sys2Proof

/-- A write at a 32-bit offset of the control window (R117, R118). -/
def RegWrite.ok (w : RegWrite) : Bool := decide (w.off < 2 ^ 32)

/-- One of the 16 regions (R61). -/
def PowerUnit.ok : PowerUnit → Bool
  | .region n => decide (n < 16)
  | .package => true

/-- A block of R71: 16 Sluice engines, 48 Furrow cores, 4 Tender cores, 8 HBM stacks. -/
def Blk.ok : Blk → Bool
  | .sluice n => decide (n < 16)
  | .furrow n => decide (n < 48)
  | .tender n => decide (n < 4)
  | .hbm n => decide (n < 8)
  | .headgate | .weir | .runnel | .synko | .spanUnit | .keyTable | .codebook | .culvert => true

/-- A message on one of the 32 links. -/
def PtpMsg.ok (m : PtpMsg) : Bool := decide (m.link < 32)

/-- Placements lie inside the window. -/
def Layout.ok (l : Layout) : Bool :=
  decide (l.windowLog2 ≤ 32) && l.blocks.all (fun b => decide (b.base + b.span ≤ 2 ^ l.windowLog2))

/-- A device slot: workers 1 to 64, manager-capable devices 65 and 66. -/
def slotOk (n : Nat) : Bool := decide (1 ≤ n) && decide (n ≤ 66)

/-- The slot and instance of a BASIN_ALLOC. -/
def AllocReq.ok (r : AllocReq) : Bool := slotOk r.slot && decide (r.inst < 1024)

/-- The slot and instance of a BASIN_FREE. -/
def FreeReq.ok (r : FreeReq) : Bool := slotOk r.slot && decide (r.inst < 1024)

/-- The slot of a BASIN_PAIR; plot numbers are bytes. -/
def PairReq.ok (r : PairReq) : Bool := slotOk r.slot && decide (r.primary < 256) && decide (r.mirror < 256)

/-- A write of at most one 64-byte slot of a 4 KiB push window (R161). -/
def PushWr.ok (p : PushWr) : Bool := decide (p.off < 4096) && decide (p.data.length ≤ 64)

/-- The lane width and rate fit TN_PARTNER_STAT. -/
def LinkTrain.ok (t : LinkTrain) : Bool := [1, 2, 4].contains t.width && [5, 10, 16, 32, 64, 128].contains t.rate

/-- A CXL.mem access of at most one line. -/
def HdmAcc.ok : HdmAcc → Bool
  | .read _ len => decide (len ≤ 64)
  | .write _ data => decide (data.length ≤ 64)

/-- A translation covers at least one byte. -/
def AtsAns.ok : AtsAns → Bool
  | .unsupported => true
  | .piece _ len _ _ _ => decide (0 < len)

/-- A frame carries the Sluice header of 24 bytes (R229), or what of it a cut frame left. -/
def Frame.ok (f : Frame) : Bool := decide (f.hdr.length ≤ 24) && (f.eth = 0x88B5 || f.eth = 0x86DD || f.eth = 0x8808)

/-- A transport of R271. -/
def Transp.ok : Transp → Bool
  | .mctpPcie | .mctpSmbus _ | .doe => true
  | .basin slot => slotOk slot

/-- A message of an SPDM session holds at most 4,096 bytes (R269). -/
def InstVia.ok : InstVia → Bool
  | .mailbox => true
  | .manager _ tag params => decide (tag < 2 ^ 32) && decide (params.length ≤ 4096)

/-- A command whose operands lie in their ranges. -/
def Instr.wf : Instr → Bool
  | .registerWrite w => w.ok
  | .vpWerrClear _ => true
  | .coldRstNRise _ => true
  | .coldRstNFall => true
  | .bundleVerify => true
  | .firmwareRunning => true
  | .imageVerify => true
  | .hbmTrained _ => true
  | .structureApplied => true
  | .vapenBuilt lay => lay.ok
  | .warmRstNFall _ => true
  | .warmResume _ => true
  | .junctionOvertemp _ => true
  | .gridExcursion region _ => decide (region < 16)
  | .ocThrottleEnter unit _ => unit.ok
  | .throttleExit unit _ _ => unit.ok
  | .ocPersist unit => unit.ok
  | .senseOpen region _ _ => decide (region < 16)
  | .drop region _ => decide (region < 16)
  | .disagree region _ => decide (region < 16)
  | .pmbusPoll _ => true
  | .lvVcmd _ => true
  | .vcmdSettle _ _ => true
  | .vcmdTimeout => true
  | .avsbusSilent => true
  | .lvVdoneRead => true
  | .devtimeLoRead => true
  | .blockGate b => b.blk.ok
  | .wakeEvent b => b.ok
  | .furrowPllPowerDown => true
  | .ptpMessage m => m.ok
  | .ppsInEdge => true
  | .moduleInsertion port _ => decide (port < 8)
  | .cmisPoll port _ => decide (port < 8)
  | .moduleRead _ => true
  | .moduleWrite _ => true
  | .slCalStart link _ => decide (link < 32)
  | .calIdleWindow link _ => decide (link < 32)
  | .calComplete link => decide (link < 32)
  | .calDeferTimeout link => decide (link < 32)
  | .linkTrained link _ => decide (link < 32)
  | .linkDown link => decide (link < 32)
  | .offer link _ => decide (link < 32)
  | .offerReplyTimeout link => decide (link < 32)
  | .masterIdleEnter link => decide (link < 32)
  | .enter link _ => decide (link < 32)
  | .enterAck link _ => decide (link < 32)
  | .enterNak link _ => decide (link < 32)
  | .cancel link _ => decide (link < 32)
  | .dormancyHoldEnd link => decide (link < 32)
  | .enterAckTimeout link => decide (link < 32)
  | .wakeWindowOpen link => decide (link < 32)
  | .hello link _ => decide (link < 32)
  | .wakeWindowClose link => decide (link < 32)
  | .retrainLoopback link _ => decide (link < 32)
  | .dormMissLimit link => decide (link < 32)
  | .heartbeatPeriod => true
  | .heartbeat _ => true
  | .hbReply _ => true
  | .managerMissing => true
  | .workerLost _ => true
  | .leaseExpiry => true
  | .unjoinedClaimStart => true
  | .claimPeriod => true
  | .claim _ => true
  | .grant _ => true
  | .revoke _ => true
  | .withdraw _ => true
  | .handover _ => true
  | .claimWaitElapsed => true
  | .claimTimeout => true
  | .yieldingTimeout => true
  | .hbParamSwitch => true
  | .joinRetry => true
  | .joinTimeout => true
  | .join _ _ => true
  | .joinAck _ => true
  | .joinNak _ => true
  | .roleCmdYield _ => true
  | .roleCmdRequestSwap _ => true
  | .roleCmdLeave _ => true
  | .roleCmdResetNotice _ => true
  | .leave _ => true
  | .leaveAck _ => true
  | .leaveTimeout => true
  | .lost _ => true
  | .resetNotice _ => true
  | .noticeAck _ => true
  | .noticeTimeout => true
  | .excuseExpiry _ => true
  | .plotMapFetched _ => true
  | .directoryReplication _ _ _ => true
  | .replicationAck _ _ => true
  | .promotion plot => decide (plot < 128)
  | .spareCopyDone plot => decide (plot < 128)
  | .recoveryWindowExpiry _ => true
  | .heldCommandTimeout => true
  | .heldCommandResend => true
  | .basinAlloc r => r.ok
  | .basinFree r => r.ok
  | .basinPairPair r => r.ok
  | .basinPairMarkSpare r => r.ok
  | .basinPairUnmarkSpare r => r.ok
  | .basinQueryMap slot => slotOk slot
  | .basinQueryAlloc slot _ => slotOk slot
  | .partnerAllocFree slot inst => slotOk slot && decide (inst < 1024)
  | .partnerHbArm _ => true
  | .partnerHbBeat _ => true
  | .partnerHbDisarm _ => true
  | .partnerHbExpiry => true
  | .partnerLinkDown => true
  | .partnerFatalError => true
  | .hostReset => true
  | .snoopTimeout _ => true
  | .partnerLinkTrained t => t.ok
  | .ucieModuleLost m => decide (m < 4)
  | .partnerSnoop _ _ => true
  | .backInvalidateAnswer _ _ => true
  | .hdmAccess a => a.ok
  | .atsCompletion inst _ ans => decide (inst < 1024) && ans.ok
  | .atsTimeout inst _ => decide (inst < 1024)
  | .atsInvalidationRequest pasid _ _ => decide (pasid < 2 ^ 20)
  | .culvertDoorbell k _ => decide (k < 64)
  | .culvertTransferDone k slot => decide (k < 64) && decide (slot < 4096)
  | .cvPoolDisable k _ => decide (k < 64)
  | .cvOvfRegister w => w.ok
  | .tenderCoreFail core => decide (core < 4)
  | .stackLost stack => decide (stack < 8)
  | .hgDb q _ => decide (q < 2 ^ 19)
  | .pushWrite win p => decide (win < 2 ^ 16) && p.ok
  | .descriptorFetch q idx => decide (q < 2 ^ 19) && decide (idx < 2 ^ 32)
  | .descriptorRetry q => decide (q < 2 ^ 19)
  | .entryAccept q => decide (q < 2 ^ 19)
  | .hgInvFence q _ => decide (q < 2 ^ 19)
  | .hgInvRelease q _ => decide (q < 2 ^ 19)
  | .hgQctrlEnable q _ => decide (q < 2 ^ 19)
  | .hgQctrlDisable q _ => decide (q < 2 ^ 19)
  | .hgQcmdCreate inst _ => decide (inst < 1024)
  | .hgQcmdDestroy inst _ => decide (inst < 1024)
  | .hgQcmdReset inst _ => decide (inst < 1024)
  | .hgQcmdModify inst _ => decide (inst < 1024)
  | .hgCcmdCreate inst _ => decide (inst < 1024)
  | .hgCcmdDestroy inst _ => decide (inst < 1024)
  | .hgCcmdReset inst _ => decide (inst < 1024)
  | .hgCqdb c _ => decide (c < 2 ^ 16)
  | .hgCqarm c _ => decide (c < 2 ^ 16)
  | .cqModTimeExpiry c => decide (c < 2 ^ 16)
  | .wqeComplete q => decide (q < 2 ^ 19)
  | .queueErrorEntry q => decide (q < 2 ^ 19)
  | .nop q idx => decide (q < 2 ^ 19) && decide (idx < 2 ^ 32)
  | .write q idx => decide (q < 2 ^ 19) && decide (idx < 2 ^ 32)
  | .writeImm q idx => decide (q < 2 ^ 19) && decide (idx < 2 ^ 32)
  | .read q idx => decide (q < 2 ^ 19) && decide (idx < 2 ^ 32)
  | .send q idx => decide (q < 2 ^ 19) && decide (idx < 2 ^ 32)
  | .sendImm q idx => decide (q < 2 ^ 19) && decide (idx < 2 ^ 32)
  | .atomicFadd q idx => decide (q < 2 ^ 19) && decide (idx < 2 ^ 32)
  | .atomicCswap q idx => decide (q < 2 ^ 19) && decide (idx < 2 ^ 32)
  | .recv q idx => decide (q < 2 ^ 19) && decide (idx < 2 ^ 32)
  | .basinLoad q idx => decide (q < 2 ^ 19) && decide (idx < 2 ^ 32)
  | .basinStore q idx => decide (q < 2 ^ 19) && decide (idx < 2 ^ 32)
  | .prefetch q idx => decide (q < 2 ^ 19) && decide (idx < 2 ^ 32)
  | .adviseWillNeed q idx => decide (q < 2 ^ 19) && decide (idx < 2 ^ 32)
  | .adviseDontNeed q idx => decide (q < 2 ^ 19) && decide (idx < 2 ^ 32)
  | .adviseReadMostly q idx => decide (q < 2 ^ 19) && decide (idx < 2 ^ 32)
  | .advisePreferHbm q idx => decide (q < 2 ^ 19) && decide (idx < 2 ^ 32)
  | .advisePreferPartner q idx => decide (q < 2 ^ 19) && decide (idx < 2 ^ 32)
  | .allReduce q idx => decide (q < 2 ^ 19) && decide (idx < 2 ^ 32)
  | .reduceScatter q idx => decide (q < 2 ^ 19) && decide (idx < 2 ^ 32)
  | .allGather q idx => decide (q < 2 ^ 19) && decide (idx < 2 ^ 32)
  | .broadcast q idx => decide (q < 2 ^ 19) && decide (idx < 2 ^ 32)
  | .reduce q idx => decide (q < 2 ^ 19) && decide (idx < 2 ^ 32)
  | .allToAll q idx => decide (q < 2 ^ 19) && decide (idx < 2 ^ 32)
  | .allToAllV q idx => decide (q < 2 ^ 19) && decide (idx < 2 ^ 32)
  | .barrier q idx => decide (q < 2 ^ 19) && decide (idx < 2 ^ 32)
  | .kernelLaunch q idx => decide (q < 2 ^ 19) && decide (idx < 2 ^ 32)
  | .synkoAdd q idx => decide (q < 2 ^ 19) && decide (idx < 2 ^ 32)
  | .synkoSet q idx => decide (q < 2 ^ 19) && decide (idx < 2 ^ 32)
  | .waitGe q idx => decide (q < 2 ^ 19) && decide (idx < 2 ^ 32)
  | .armFire q idx => decide (q < 2 ^ 19) && decide (idx < 2 ^ 32)
  | .cbLoad q idx => decide (q < 2 ^ 19) && decide (idx < 2 ^ 32)
  | .spCreate inst _ => decide (inst < 1024)
  | .spDestroy inst _ => decide (inst < 1024)
  | .spQuery inst _ => decide (inst < 1024)
  | .ktCreate inst _ => decide (inst < 1024)
  | .ktInvalidate inst _ => decide (inst < 1024)
  | .ktQuery inst _ => decide (inst < 1024)
  | .keyFree index => decide (index < 2 ^ 22)
  | .spanMoveDone index => decide (index < 2 ^ 20)
  | .slQpCreate inst _ => decide (inst < 1024)
  | .slQpConnect inst _ => decide (inst < 1024)
  | .slQpReset inst _ => decide (inst < 1024)
  | .slQpDestroy inst _ => decide (inst < 1024)
  | .slQpQuery inst _ => decide (inst < 1024)
  | .slQpFailover inst _ => decide (inst < 1024)
  | .packetTransmit qp => decide (qp < 2 ^ 18)
  | .rxWrite link f => decide (link < 32) && f.ok
  | .rxWriteImm link f => decide (link < 32) && f.ok
  | .rxReadReq link f => decide (link < 32) && f.ok
  | .rxReadResp link f => decide (link < 32) && f.ok
  | .rxSend link f => decide (link < 32) && f.ok
  | .rxSendImm link f => decide (link < 32) && f.ok
  | .rxAtomicFadd link f => decide (link < 32) && f.ok
  | .rxAtomicCswap link f => decide (link < 32) && f.ok
  | .rxAtomicResp link f => decide (link < 32) && f.ok
  | .rxAck link f => decide (link < 32) && f.ok
  | .rxNakSeq link f => decide (link < 32) && f.ok
  | .rxNakRnr link f => decide (link < 32) && f.ok
  | .rxNakReread link f => decide (link < 32) && f.ok
  | .rxNakStatus link f => decide (link < 32) && f.ok
  | .rxResync link f => decide (link < 32) && f.ok
  | .rxResyncAck link f => decide (link < 32) && f.ok
  | .rxAbort link f => decide (link < 32) && f.ok
  | .rxMark link f => decide (link < 32) && f.ok
  | .ackDelayExpiry qp => decide (qp < 2 ^ 18)
  | .rtoExpiry qp => decide (qp < 2 ^ 18)
  | .rnrDelayExpiry qp => decide (qp < 2 ^ 18)
  | .retryTimeExpiry qp => decide (qp < 2 ^ 18)
  | .failoverTimeExpiry link => decide (link < 32)
  | .resyncRepeat qp => decide (qp < 2 ^ 18)
  | .weirIntervalEnd qp => decide (qp < 2 ^ 18)
  | .rateIdleReset qp => decide (qp < 2 ^ 18)
  | .wrSnapGo _ => true
  | .qdepthMaxRead link => decide (link < 32)
  | .mapPeriodEnd => true
  | .mapSlotExpiry slot => slotOk slot
  | .wrQuery inst _ => decide (inst < 1024)
  | .getVersion t => t.ok
  | .getCapabilities t => t.ok
  | .negotiateAlgorithms t _ => t.ok
  | .getDigests t => t.ok
  | .getCertificate t slot _ _ => t.ok && decide (slot < 16)
  | .challenge t slot _ => t.ok && decide (slot < 16)
  | .getMeasurements t index _ => t.ok && decide (index < 256)
  | .keyExchange t _ => t.ok
  | .finish _ _ => true
  | .keyUpdate _ => true
  | .endSession _ => true
  | .ideKmKeyProg _ stream _ => decide (stream < 256)
  | .keyInstallInitial _ _ => true
  | .keyInstallRekey _ _ => true
  | .keyCommit _ _ => true
  | .cryptPolicy _ _ => true
  | .admitSet _ _ => true
  | .basinAttestFragment slot _ => slotOk slot
  | .cryptQuery => true
  | .synkoApply _ => true
  | .synkoDeadline q idx => decide (q < 2 ^ 19) && decide (idx < 2 ^ 32)
  | .gateTimeoutExpiry q => decide (q < 2 ^ 19)
  | .sySet inst _ => decide (inst < 1024)
  | .syAdd inst _ => decide (inst < 1024)
  | .syShare inst _ => decide (inst < 1024)
  | .syUnshare inst _ => decide (inst < 1024)
  | .gateSet inst _ => decide (inst < 1024)
  | .gateClear inst _ => decide (inst < 1024)
  | .gateQuery inst _ => decide (inst < 1024)
  | .rnGcmdCreate inst _ => decide (inst < 1024)
  | .rnGcmdDestroy inst _ => decide (inst < 1024)
  | .rnGcmdReset inst _ => decide (inst < 1024)
  | .rnGcmdQuery inst _ => decide (inst < 1024)
  | .collData g => decide (g < 4096)
  | .collCredit g => decide (g < 4096)
  | .collAbort g => decide (g < 4096)
  | .collVote g => decide (g < 4096)
  | .collCombineDone g => decide (g < 4096)
  | .collTimeout g => decide (g < 4096)
  | .runnelColl _ => true
  | .runnelCollAbort _ => true
  | .runnelAck _ => true
  | .runnelRtoExpiry slot => slotOk slot
  | .runnelAckDelayExpiry slot => slotOk slot
  | .runnelStreamRestart slot => slotOk slot
  | .groupStart q idx => decide (q < 2 ^ 19) && decide (idx < 2 ^ 32)
  | .fwNop core slot => decide (core < 48) && decide (slot < 16)
  | .movi core slot => decide (core < 48) && decide (slot < 16)
  | .movu core slot => decide (core < 48) && decide (slot < 16)
  | .movs core slot => decide (core < 48) && decide (slot < 16)
  | .umov core slot => decide (core < 48) && decide (slot < 16)
  | .iadd core slot => decide (core < 48) && decide (slot < 16)
  | .isub core slot => decide (core < 48) && decide (slot < 16)
  | .imul core slot => decide (core < 48) && decide (slot < 16)
  | .imad core slot => decide (core < 48) && decide (slot < 16)
  | .and core slot => decide (core < 48) && decide (slot < 16)
  | .or core slot => decide (core < 48) && decide (slot < 16)
  | .xor core slot => decide (core < 48) && decide (slot < 16)
  | .shl core slot => decide (core < 48) && decide (slot < 16)
  | .shr core slot => decide (core < 48) && decide (slot < 16)
  | .sar core slot => decide (core < 48) && decide (slot < 16)
  | .imin core slot => decide (core < 48) && decide (slot < 16)
  | .imax core slot => decide (core < 48) && decide (slot < 16)
  | .icmp core slot => decide (core < 48) && decide (slot < 16)
  | .fadd core slot => decide (core < 48) && decide (slot < 16)
  | .fmul core slot => decide (core < 48) && decide (slot < 16)
  | .ffma core slot => decide (core < 48) && decide (slot < 16)
  | .fmin core slot => decide (core < 48) && decide (slot < 16)
  | .fmax core slot => decide (core < 48) && decide (slot < 16)
  | .fcmp core slot => decide (core < 48) && decide (slot < 16)
  | .frcp core slot => decide (core < 48) && decide (slot < 16)
  | .cvt core slot => decide (core < 48) && decide (slot < 16)
  | .mxunpk core slot => decide (core < 48) && decide (slot < 16)
  | .mxpack core slot => decide (core < 48) && decide (slot < 16)
  | .vqdec core slot => decide (core < 48) && decide (slot < 16)
  | .vqenc core slot => decide (core < 48) && decide (slot < 16)
  | .shfl core slot => decide (core < 48) && decide (slot < 16)
  | .vote core slot => decide (core < 48) && decide (slot < 16)
  | .red core slot => decide (core < 48) && decide (slot < 16)
  | .ldl core slot => decide (core < 48) && decide (slot < 16)
  | .stl core slot => decide (core < 48) && decide (slot < 16)
  | .ldg core slot => decide (core < 48) && decide (slot < 16)
  | .stg core slot => decide (core < 48) && decide (slot < 16)
  | .cpy core slot => decide (core < 48) && decide (slot < 16)
  | .atomg core slot => decide (core < 48) && decide (slot < 16)
  | .lda core slot => decide (core < 48) && decide (slot < 16)
  | .fence core slot => decide (core < 48) && decide (slot < 16)
  | .bra core slot => decide (core < 48) && decide (slot < 16)
  | .call core slot => decide (core < 48) && decide (slot < 16)
  | .ret core slot => decide (core < 48) && decide (slot < 16)
  | .exit core slot => decide (core < 48) && decide (slot < 16)
  | .trap core slot => decide (core < 48) && decide (slot < 16)
  | .rte core slot => decide (core < 48) && decide (slot < 16)
  | .setres core slot => decide (core < 48) && decide (slot < 16)
  | .setstat core slot => decide (core < 48) && decide (slot < 16)
  | .sadd core slot => decide (core < 48) && decide (slot < 16)
  | .brk core slot => decide (core < 48) && decide (slot < 16)
  | .watchdogExpiry core slot => decide (core < 48) && decide (slot < 16)
  | .coreLost core => decide (core < 48)
  | .dbgList => true
  | .dbgHalt => true
  | .dbgResume => true
  | .dbgStep => true
  | .dbgRead => true
  | .dbgWrite => true
  | .dbgKill => true
  | .dbgBreak => true
  | .dbgAttach => true
  | .dbgDetach => true
  | .fwdbgUpdateDr _ => true
  | .cbScmdQuery inst _ => decide (inst < 1024)
  | .cbScmdClear inst _ => decide (inst < 1024)
  | .cbSlotError slot => decide (slot < 256)
  | .instCreate v => v.ok
  | .instModify v => v.ok
  | .instDestroyGraceful v => v.ok
  | .instDestroyForce v => v.ok
  | .instQuery v => v.ok
  | .tnMbxGo _ => true
  | .mctpRequest _ => true
  | .mbxCommandStart => true
  | .slotWrite _ => true
  | .slotSelectActive => true
  | .slotSelectTry => true
  | .slotQuery => true
  | .imageLoad => true
  | .stageWrite => true
  | .featCommit _ => true
  | .featUncommit _ => true
  | .eventLogWrite => true
  | .tnLogAckLoWrite _ => true
  | .tnLogAckHiWrite _ => true
  | .tnLogRselHiWrite _ => true
  | .tnIntStatClear _ => true
  | .tnIntEnWrite _ => true
  | .selftestStart _ => true
  | .selftestDone _ => true
  | .warmRstNRise => true
  | .configurationRequest => true
  | .managerReply _ _ _ => true
  | .handoverPeriod => true
  | .workerPeriod => true
  | .overflowLengthReport slot _ => slotOk slot

end Sys2Proof
end

