-- ==== Sys2Proof/Tests/Slice0.lean ====
section
/-!
SUPPORT. The model's own tests: ill-formed commands that `Instr.wf` refuses, values that the spec's worked cases and
tables state, and for every statement with hypotheses a state and operands that meet them together (`wit_<statement>`,
one conjunct for each clause).
-/
namespace Sys2Proof.Tests
open Sys2Proof Sys2Proof.Machine

set_option maxRecDepth 100000
set_option Elab.async false

/-! ### States and operands -/

/-- A small image with every unit present. -/
def img : Image :=
  { minLevel := 0, mode := .p, roleCap := 2, imageId := 1, qpc := 4, spanc := 4, cb := 4, fls := 48, brk := 0, udpPort := 4791,
    framing := 0, qpMax := 128, cqMax := 128, spanMax := 128, keyMax := 128, synkoMax := 128, instMax := 4, cbSlots := 4,
    basin := some { mac0 := 1, mac1 := 2, ip0 := 3, ip1 := 4, hbPeriod := 100, hbMiss := 3, plotGranules := 4 },
    partner := some { ovf := 0, push := 64 }, featmask := 0 }

/-- A partner-side instance that holds the first block of everything. -/
def inst1 : Inst :=
  { inst0 with cls := .partner, pasid := 1, qpBlk := 1, wqBlk := 1, cqBlk := 1, syBlk := 1, push := 8, spanBlk := 1, keyBlk := 1,
               cb := 4, groups := 4, fwSlots := 8, gran := [0], txRate := 0 }

/-- A READY device with its features committed and instance 1 on it. -/
def dev : State :=
  { State.reset with
    sys.coldLow := false, boot.stage := .ready, boot.trained := true, boot.image := some img, boot.hbmInService := 0xFF,
    boot.coreMask := 0xFFFFFFFFFFFF, feat.offer := BitVec.allOnes 128, feat.ack := 3, feat.committed := true,
    feat.subset := BitVec.allOnes 128, vp.tvalid := true, lv.ready := true, pt.st := .up, pt.trained := true, pt.cxl := true,
    insts := [(0, inst0), (1, inst1)], fw.cores := 0xFFFFFFFFFFFF,
    own := { qp := [(0, 1)], wq := [(0, 1)], cq := [(0, 1)], sy := [(0, 1)], span := [(0, 1)], key := [(0, 1)],
             push := [(0, 1)], cb := [(0, 1), (1, 1), (2, 1), (3, 1)], grp := [(0, 1), (1, 1), (2, 1), (3, 1)] } }

/-- A whole write of the host link. -/
def hw (d : Word) : RegWr := ⟨.host, true, d⟩

/-- A whole write of Tender. -/
def tw (d : Word) : RegWr := ⟨.tender, true, d⟩

/-- A layout of the control window for `img`. -/
def lay : Layout :=
  { windowLog2 := 26,
    blocks := (List.range 15).map (fun k => if k = 12 ∨ k = 13 then ⟨0x10000, 0x10000⟩ else ⟨0x20000 + k * 0x10000, 0x10000⟩),
    dbBase := 0x200000, pushBase := 0x300000, cqdbBase := 0x400000, synkoBase := 0x410000, linkBase := 0x420000,
    instBase := 0x430000, pageBase := 0x440000, pageStride := 4096 }

/-- A mailbox request of the host link. -/
def req (code : Nat) (p : Bytes) : MbxReq := ⟨.host, code, false, 1, p, false⟩

/-- `dev` while a mailbox command runs. -/
def mdev (code : Nat) (p : Bytes) : State := { dev with mbx.st := .busy, mbx.running := some (req code p) }

/-- `dev` with one register of a block set. -/
def rdev (blk off : Nat) (v : Word) : State := { dev with regs := [(blk * 2 ^ 20 + off, v)] }

/-- A link that is up. -/
def lnk : LinkSt := { LinkSt.reset with up := true, dorm := .active, peer := some 9 }

/-- `dev` with link 0 as given, its port ready, admin-up and enabled for dormancy. -/
def kdev (x : LinkSt) : State :=
  { dev with links := [(0, x)], ports := [(0, { Port.reset with modState := .ready, media := 1 })],
             regs := [(0x02 * 2 ^ 20 + 0x8000, 0x1000), (0x02 * 2 ^ 20 + 0x8108, 0x80000400)] }

/-- `dev` with link 0 up. -/
def ldev : State := kdev lnk

/-- `dev` with a ready module in port 2. -/
def pdev (missed : Nat) : State := { dev with ports := [(2, { Port.reset with modState := .ready, missed := missed })] }

/-- A link frame of the peer. -/
def lf (op : Nat) : LinkFrame :=
  { op := op, haveWork := false, capable := true, disable := false, reply := false, token := 0, serial := 9, interval := 64,
    turnaround := 0 }

/-- A control record of device 9. -/
def cr (type subject : Nat) : CtlRec :=
  { type := type, flags := 0, role := 0, slot := 2, serial := 9, epoch := 5, subject := subject, seq := 1 }

/-- `dev` in a role. -/
def bdev (r : Role) : State := { dev with basin.role := r, basin.epoch := 4, sys.fuses.serial := 7 }

/-- A worker's account. -/
def wkr : Worker := { slot := 2, plotLen := 4, missed := 3, replied := false, ackAt := some 0, joinEpoch := 1, excuse := some 5 }

/-- A span of instance 1 over the first granule of its HBM. -/
def span1 : Span :=
  { inst := 1, kind := .hbm, start := 0x100000, len := 0x100000, target := 0, migr := false, migOff := 0, resHbm := false,
    readMostly := false, prefer := 0, moving := none, movingAt := 0, destroying := none, handle := 0, bad1 := false, bad2 := false }

/-- `dev` with that span. -/
def sdev : State := { dev with spans := [(0, span1)] }

/-- The state and the bytes of an access that is done. -/
def accOf (a : Acc) : State × Bytes := match a with | .ok s b => (s, b) | _ => (State.reset, [])

/-- A free plot of four granules on a slot. -/
def plt (slot : Nat) : MapEnt :=
  { slot := slot, paired := false, spare := false, copying := false, mirrorSlot := 0, free := 4, len := 4, mirrorFor := 0 }

/-- An active manager with its standby, worker 9 and the plots given. -/
def adev (ps : Tab MapEnt) : State :=
  { bdev .active with basin.stby := true, mgr.dir.workers := [(9, wkr)], mgr.dir.plots := ps, mgr.firstHb := some 4 }

/-- A Culvert slot record: 64 bytes at plot address 0, no counter. -/
def rec0 : Bytes :=
  let b : Bytes := zeros 8 ++ putLE 8 64 ++ [1, 1, 5, 0, 0xFF, 0xFF] ++ zeros 6
  b ++ putLE 4 (crcN b)

/-- `sdev` with pool 0 of instance 1 on, 8 slots of 4096 bytes at the span's start, and that record in slot 2. -/
def cdev : State :=
  { sdev with
    regs := [(0x0A * 2 ^ 20 + 0x100, 0x100000), (0x0A * 2 ^ 20 + 0x108, 0x80118008)],
    hbm := Mem.write [] 64 rec0 }

/-- An entry of one opcode: length, local address, key and the bytes from 28 on. -/
def ent (op len addr key : Nat) (tail : Bytes) : Bytes :=
  let b : Bytes := putLE 1 (op + 128) ++ [0] ++ putLE 2 0xFFFF ++ zeros 8 ++ putLE 4 len ++ putLE 8 addr ++ putLE 4 key
    ++ fit 32 tail
  b ++ putLE 4 (crcN b)

/-- An accepted entry. -/
def inf (e : Bytes) : Infl :=
  { ent := e, seq := 0, disp := false, done := none, written := false, retired := false, deadline := none, adm := none, keys := [], spans := [],
    args := none }

/-- A work queue of instance 1 with one entry posted. -/
def wq1 : Wq :=
  { inst := 1, kind := .lq, pushEn := false, weight := 1, turn := 0, pfDepth := 16, ringLog2 := 4, ring := 0x100000, qp := 0, cq := 0,
    pushIdx := 0, limit := 256, st := .enabled, pi := 1, ci := 0, errStatus := 0, errOwed := false, fence := none, pushHeld := [], invStart := 0,
    invDone := false, invTag := 0, invCi := 0, cache := [], gate := none, holdSince := none, fireTag := none }

/-- A completion queue of instance 1. -/
def cq1 : Cq :=
  { inst := 1, vector := 3, modCount := 0, log2 := 4, ring := 0x101000, modTime := 0, error := false, errStatus := 0, cpi := 0, cci := 0,
    armed := false, armCount := 0, armFrom := none, lost := 0 }

/-- A key of instance 1 over its span, with every right. -/
def key1 : Key :=
  { inst := 1, base := 0x100000, len := 0x100000, rights := 31, gen := 0, basin := false, st := 1, handle := 0, freedAt := 0, bad1 := false, bad2 := false }

/-- `sdev` with that key, a completion queue and a work queue. -/
def qdev (x : Wq) : State := { sdev with wqs := [(0, x)], cqs := [(0, cq1)], keys := [(1, key1)] }

/-- The queue once its entry is accepted. -/
def wqA : Wq := { wq1 with ci := 1 }

/-- `qdev` with an accepted entry. -/
def edev (e : Bytes) : State := { qdev wqA with infl := [(0, inf e)] }

/-- A queue pair of instance 1, connected to pair 5 of device 9 over link 0. -/
def qp1 : Qp :=
  { Qp.fresh 1 .rc 0x300000 9 5 0 (pageReset 0x128) (pageReset 0x12C) (pageReset 0x130) 0 0 false with st := .connected, epoch := 1 }

/-- The send queue of that pair, its entry accepted. -/
def wqS : Wq := { wqA with kind := .sq }

/-- A device with that pair, its link up, and an accepted entry of its send queue. -/
def fdev (p : Qp) (e : Bytes) : State :=
  { edev e with wqs := [(0, wqS)], qps := [(0, p)], links := ldev.links, ports := ldev.ports, regs := ldev.regs }

/-- `qp1` after an error. -/
def qpE : Qp := { qp1 with st := .error, errStatus := Status.flushed }

/-- An instruction word by its fields; predicate 1 governs it. -/
def iw (op md d a b c imm : Nat) : Nat :=
  op * 2 ^ 56 + 1 * 2 ^ 53 + md * 2 ^ 48 + d * 2 ^ 43 + a * 2 ^ 38 + b * 2 ^ 33 + c * 2 ^ 28 + imm

/-- A running group: its vector registers 1 to 3 hold `f`, predicate 1 the lanes of `m`. -/
def tgOf (m : Nat) (f : Nat → Nat → Nat) (u : Tab Dword) : Tg :=
  { st := .running, q := 0, i := 0, index := 2, age := 1,
    v := (List.range 96).map (fun k => (32 + k, BitVec.ofNat 32 (f (1 + k / 32) (k % 32)))), p := [(1, BitVec.ofNat 32 m)], u := u,
    pc := 72, inHandler := false, result := 0, status := 0, cause := 0, dbl := false, faultAddr := 0, lanes := 0, pendTrap := none,
    atomg := 0, staged := [], skipBreak := false, stepLeft := none, started := 0, ran := 0, ranAt := 0, watchdog := 0,
    dogBarked := false, localMem := [(1, 7), (64, 5), (72, 9)] }

/-- Its launch: code at 0x100000, one binding for every use at 0x110000, codebook 0, 2048 bytes of local memory. -/
def lau : Launch :=
  { inst := 1, order := 0, groups := 4, next := 3, codeAddr := 0x100000, codeLen := 128, entry := 64, trapv := 96, stack := 256,
    localBytes := 2048, args := zeros 128 ++ [1, 2, 3, 4], binds := [{ addr := 0x110000, len := 4096, key := 0x100, use := 7 }],
    cbs := [0], stopOnTrap := true, stopped := false, retired := [], rerun := [], sum := 1, status := 0, trapStatus := false,
    statusGroup := 0, sums := [] }

/-- A loaded codebook of four FP32 pairs. -/
def cbk : CbSlot :=
  { st := .loaded, data := (List.range 32).map fun n => BitVec.ofNat 8 (n * 0x25), crc := 0, cbmax := 0,
    vlen := 2, entries := 4, elem := 1, bad1 := false, bad2 := false }

/-- `qdev` with that group in slot 3 of core 2, the word at its program counter. -/
def xdev (t : Tg) (l : Launch) (w : Nat) : State :=
  { edev (ent 0x21 64 0x100000 0x100 []) with
    hbm := Mem.write [] t.pc (putLE 8 w), fw.slots := [(35, t)], fw.launches := [(0, l)],
    cbs := [(0, cbk)] }

/-- Data in every lane, signs mixed. -/
def tgI : Tg := tgOf 0xFFFF00FF (fun r k => (r * 0x9E3779B1 + k * 0x3C6EF372) % 2 ^ 32) [(1, 0x123456789), (15, 2048)]

/-- `xdev` with no group yet: the launch waits to start one. -/
def ydev (l : Launch) : State :=
  { xdev tgI l 0 with
    infl := [(0, { inf (ent 0x21 64 0x100000 0x100 []) with disp := true })], fw.slots := [],
    insts := [(0, inst0), (1, { inst1 with fwSlots := 8 })] }

/-- A code image of 128 bytes: header and eight instructions. -/
def cimg : Bytes :=
  let h := putLE 4 0x46574B31 ++ putLE 4 1 ++ putLE 4 64 ++ putLE 4 96 ++ putLE 4 256 ++ zeros 40
  h ++ putLE 4 (crcN (h ++ zeros 64)) ++ zeros 64

/-- An argument block that binds one range, at 0x110000. -/
def cargs : Bytes := [1, 0, 0, 0] ++ zeros 12 ++ putLE 8 0x110000 ++ putLE 8 4096 ++ putLE 4 0x100 ++ [3, 0, 0, 0]

/-- A KERNEL_LAUNCH of `n` groups: code at 0x100000, arguments at 0x100200. -/
def kent (n : Nat) : Bytes :=
  let b : Bytes := putLE 1 (0x21 + 128) ++ [0] ++ putLE 2 0xFFFF ++ zeros 8 ++ putLE 4 n ++ putLE 8 0x100000 ++ putLE 4 0x100
    ++ putLE 4 128 ++ putLE 8 0x100200 ++ putLE 4 0x100 ++ putLE 4 40 ++ putLE 4 2048 ++ zeros 8
  b ++ putLE 4 (crcN b)

/-- `edev` with that image, that block and that entry. -/
def ldevK (n : Nat) : State :=
  { edev (kent n) with hbm := Mem.write (Mem.write [] 0 cimg) 0x200 cargs }

/-- A COLLECTIVE entry of one operation over group 0: FP32 SUM, four elements, root 0. -/
def coent (op : Nat) : Bytes :=
  let b : Bytes := putLE 1 (0x20 + 128) ++ [0] ++ putLE 2 0xFFFF ++ zeros 8 ++ putLE 1 op ++ [1, 1, 8] ++ putLE 4 (if op = 8 then 0 else 4)
    ++ putLE 4 0 ++ putLE 8 0x100000 ++ putLE 8 0x110000 ++ putLE 4 0x100 ++ putLE 4 0x100 ++ [0, 0, 0, 0] ++ zeros 8
  b ++ putLE 4 (crcN b)

/-- A group of two members: this one of rank 0, the other over queue pair 0. -/
def grp0 : Group :=
  { inst := 1, size := 2, rank := 0, wide := false, runnelOk := false, chunkLog2 := 16, gen := 3, timeout := 5,
    members := [⟨2 ^ 18 - 1, 0, 1⟩, ⟨0, 7, 2⟩], error := none, seq := 4, coll := none, scratch := 0x40000, inbox := [], credits := [],
    given := [], full := [], sigs := [], early := [], kept := [] }

/-- A device with that group, its queue pair up, and an accepted entry of its work queue. -/
def gdev (g : Group) (e : Bytes) : State :=
  { edev e with qps := [(0, { qp1 with group := some 0 })], links := ldev.links, ports := ldev.ports, regs := ldev.regs, groups := [(0, g)] }

/-- A collective of entry 0 that runs in group 0. -/
def col0 : Coll :=
  { q := 0, i := 0, seq := 4, sig := 0x55, since := 0, order := 0, runnel := false, src := zeros 16, raw := [], hits := [], sent := [],
    votes := [], voted := false, credited := [] }

/-- That device while the collective runs, one message of the peer in front. -/
def gmdev (kind sig arg : Nat) (full : List (Nat × Nat × Bytes)) : State :=
  let s := gdev { grp0 with coll := some col0, full := full,
                            inbox := [{ rank := 1, kind := kind, slot := 0, arg := arg, sig := sig, data := zeros 8 }] } (coent 1)
  { s with infl := [(0, { inf (coent 1) with disp := true })] }

/-- A Runnel stream with device slot 2. -/
def str0 : Stream :=
  { sepoch := 3, sync := false, next := 6, unacked := [⟨4, zeros 8⟩, ⟨5, [1]⟩], waiting := [], rto := 20000, rtoAt := 100, expiries := 2,
    peerEpoch := 9, expect := 17, ackOwed := some 50 }

/-- `dev` with that stream. -/
def rndev (x : Stream) : State := { dev with rn.streams := [(2, x)], basin.slot := 1 }

/-- A Runnel message from slot 2 to slot 1. -/
def rmsg (type flags epoch seq ack : Nat) : Bytes :=
  let b : Bytes := putBE 1 0x52 ++ putBE 1 type ++ putBE 1 flags ++ putBE 1 epoch ++ putBE 1 2 ++ putBE 1 1 ++ putBE 2 seq ++ putBE 2 ack
    ++ zeros 50
  b ++ putBE 4 (crcN b)

/-- `gdev` with instance 1's page written for a group command. -/
def pgdev (g : Tab Group) (p : Tab Word) : State :=
  { gdev grp0 (coent 1) with groups := g, qps := [(0, qp1)], wqs := [], own.grp := (List.range 16).map (fun k => (k, 1)), pages := p }

/-- A SYNKO_OP entry. -/
def syent (op n v ms q : Nat) : Bytes :=
  let b : Bytes := putLE 1 (0x22 + 128) ++ [0] ++ putLE 2 0xFFFF ++ zeros 8 ++ putLE 4 op ++ putLE 4 n ++ putLE 8 v ++ putLE 4 ms
    ++ putLE 4 q ++ zeros 24
  b ++ putLE 4 (crcN b)

/-- A counter. -/
def cn0 (v : Nat) : SyCnt := { value := v, sat := false, poison := false, share := none, journal := [], bad1 := false, bad2 := false }

/-- `edev` of that entry with counter 3 as given and queue 1 beside it. -/
def cndev (e : Bytes) (c : SyCnt) (x : Wq) : State := { edev e with sy := [(3, c)], wqs := [(0, wqA), (1, x)] }

/-- Page registers of instance 1, one counter and one queue. -/
def cpdev (p : Tab Word) (c : SyCnt) (x : Wq) : State := { qdev x with pages := p, sy := [(3, c)] }

/-- A request of `n` packets of 4096 bytes from PSN `x` on, for the entry of `edev`. -/
def rq0 (op x n : Nat) : SReq :=
  { op := op, first := x, count := n, len := 4096 * n, raddr := 0x5000, rkey := 0x100, imm := 0, solicit := false, operand := 1, swap := 0,
    mark := [], buf := .bytes (zeros 64), who := .entry 0 0, got := [], sent := 0, result := none }

/-- `qp1` in full flow: tokens to spend, PSNs 10 to 12 sent of 10 to 15. -/
def qpF : Qp :=
  { qp1 with sndUna := 10, sndNxt := 13, sndEnd := 16, reqs := [rq0 1 10 3, rq0 1 13 3], rtoNow := 100000, rtoAt := 50, progAt := 40,
             rate := { Rate.empty with r := 400000, tokens := 10 ^ 9, prof := (64, 64, 64, 64) } }

/-- `fdev` of a queue pair with the entry under way, the page registers given. -/
def tdev (p : Qp) (pg : Tab Word) : State :=
  let e := ent 1 64 0x100000 0x100 []
  { fdev p e with infl := [(0, { inf e with disp := true })], pages := pg }

/-- A good frame of device 9's queue pair 5 to queue pair 0, epoch 1. -/
def frm (op flags psn aux : Nat) (ext pay : Bytes) : Frame :=
  { fcsOk := true, eth := 0x88B5, vid := none, ipExt := false, dst := 0, nh := 0, dport := 0, ce := false, src := 9, hdr := hdrBytes op flags 1 0 0 psn 5 aux ext, ext := ext,
    payload := pay, tag := [] }

/-- A remote address, its key and a length. -/
def xt (addr len : Nat) : Bytes := putBE 8 addr ++ putBE 4 0x100 ++ putBE 4 len

/-- `qp1` that expects PSN 20. -/
def qpR : Qp := { qp1 with epsn := 20, recEpsn := 20 }

/-- `fdev` of a queue pair, its one queue of the kind given, the entry under way. -/
def adevQ (p : Qp) (k : QKind) (op : Nat) : State :=
  let e := ent op 64 0x101000 0x100 []
  { fdev p e with wqs := [(0, { wqS with kind := k })], infl := [(0, { inf e with disp := true })] }

/-- `xdev` with the host debugger attached, while a debug command runs. -/
def bgdev (t : Tg) (d : Dbg) (code : Nat) (p : Bytes) : State :=
  { xdev t lau 0 with mbx.st := .busy, mbx.running := some (req code p), fw.dbg := d }

/-- The debugger, attached from a source. -/
def dbg0 (src : Option Nat) : Dbg := { src := src, haltTrap := true, haltDtrap := false, pending := false, dtraps := 1 }

/-- Debug parameters: slot 3 of core 2. -/
def dpar (count value off len : Nat) : Bytes := [2, 3] ++ putLE 2 count ++ putLE 8 value ++ putLE 2 off ++ putLE 2 len

/-- INST_CREATE parameters of a partner-side instance. -/
def ipar (n : Nat) : Bytes :=
  putLE 2 n ++ [1, 4] ++ putLE 4 9 ++ putLE 2 1 ++ putLE 2 1 ++ putLE 2 1 ++ putLE 2 1 ++ putLE 4 8 ++ putLE 4 1 ++ putLE 4 1 ++ putLE 2 0
    ++ putLE 2 1 ++ putLE 2 4 ++ putLE 2 2 ++ putLE 4 3 ++ putLE 2 0 ++ putLE 2 100 ++ putLE 2 16 ++ putLE 2 0 ++ zeros 16

/-- `dev` with a transport negotiated and session 4 open on it, finished and qualifying. -/
def sdevS (tr : Transp) (fin qual : Bool) : State :=
  { tdev { qp1 with cfg := qp1.cfg + 2 ^ 29, st := .init } [] with
    spdm.version := [tr], spdm.caps := [tr], spdm.algs := [tr], spdm.nextSess := 5,
    spdm.sess := [(4, { tr := tr, finished := fin, qual := qual, phase := 2 })] }

/-- A key message of the Key Manager: KCMD, the fields from byte 8 on. -/
def kmsg (kcmd : Nat) (b : Bytes) : Bytes := [BitVec.ofNat 8 kcmd, 0] ++ putBE 2 (8 + b.length) ++ putBE 4 77 ++ b

/-- A Basin attestation fragment: TYPE, index, tag 9, its bytes. -/
def frg (type i : Nat) (b : Bytes) : Bytes :=
  let h : Bytes := putBE 1 type ++ putBE 1 i ++ putBE 2 b.length ++ putBE 4 9 ++ fit 20 b
  h ++ putBE 4 (crcN h)

/-- A board out of both resets, in a stage. -/
def boot (st : Stage) : State := { State.reset with sys.coldLow := false, boot.stage := st }

/-- A voltage command to 760 mV. -/
def vc : VCmd := ⟨760, 7, 7500000, 0, 1⟩

/-- `dev` with a voltage command to 760 mV under way. -/
def vdev : State := { dev with lv.vnow := 750, lv.cmd := some vc }

/-- A group for the branch commands. -/
def tgB (m : Nat) : Tg := tgOf m (fun r k => r + k) [(1, 128), (15, 2048)]

/-- That group in its trap handler, the pushed frame in its local memory. -/
def tgR : Tg :=
  { tgB 15 with u := [(1, 128), (15, 1984)], inHandler := true, cause := 0x11, localMem := [(1984, 80), (1985, 0)] }

/-- A group whose lanes hold floating-point bit patterns. -/
def tgF : Tg := tgOf 0xFFFF00FF (fun r k => (k * 0x1234567 + r * 0x3F812345) % 2 ^ 32) [(2, 0x40), (3, 68), (15, 2048)]

/-- A group whose lanes hold codebook codes. -/
def tgC : Tg := tgOf 0xFFFF00FF (fun _ k => k % 4) [(2, 0x40), (3, 68), (15, 2048)]

/-- A group with two predicates. -/
def tgU : Tg := { tgI with u := [(1, 0x123456789), (2, 9), (15, 2048)], p := [(1, 0xFFFF00FF), (2, 0x12345)] }

/-- The same with four counter changes staged. -/
def tgS : Tg := { tgU with staged := [(1, 1), (2, 1), (3, 1), (4, 1)] }

/-- A group whose lanes address consecutive words. -/
def tgA : Tg := tgOf 0xFFFF00FF (fun r k => if r = 2 then 4 * k else k) [(1, 128), (2, 64), (3, 128), (4, 2048), (15, 2048)]

/-- A group whose lanes address consecutive bytes, most of them misaligned. -/
def tgM : Tg := tgOf 0xFFFF00FF (fun _ k => k) [(1, 128), (15, 2048)]

/-- The same beyond the end of the binding. -/
def tgZ : Tg := tgOf 0xFFFF00FF (fun _ k => k) [(1, 8192), (15, 2048)]

/-- Two lanes on one word. -/
def tgQ : Tg := tgOf 3 (fun r _ => r - 1) [(1, 127), (15, 2048)]

/-- A group that has its 64 atomics out. -/
def tg64 : Tg := { tgA with atomg := 64 }

/-- The state and the accesses of a pass that is done. -/
def pasOf (a : Pass) : State × List (Nat × Nat) := match a with | .ok s l => (s, l) | _ => (State.reset, [])

/-- The state, the place and the length of a translation that is done. -/
def trOf (a : Tr) : State × Loc × Nat := match a with | .ok s l n => (s, l, n) | _ => (State.reset, ⟨.hbm, 0⟩, 0)

/-- A group with a watchdog. -/
def tgD : Tg := { tgI with watchdog := 5 }

/-- The command goes on. -/
def goes (r : Result) : Bool := match r with | .next _ => true | _ => false

theorem goes_next {r : Result} (h : goes r = true) : ∃ t, r = .next t := by
  cases r with
  | next t => exact ⟨t, rfl⟩
  | fault f => cases h
  | refused f => cases h

/-- What a frame on link 0 meets at queue pair 0. -/
def met (s : State) (p : Qp) (f : Frame) : State × Qp := rxMet s 0 f 0 p p.cipher

/-- The state after the target of a request is checked, under key 0x100. -/
def tgt (s : State) (p : Qp) (f : Frame) (op addr len : Nat) : State :=
  (targetFail (met s p f).1 (met s p f).2 op addr 0x100 len).1

/-- That request admitted in a state. -/
def admd (u s : State) (p : Qp) (f : Frame) (n len addr key : Nat) (rq : Option (Nat × Nat)) (target : Option Nat) : State :=
  rxAdmitted u 0 (met s p f).2 (rxRequest f n len addr key rq target)

/-- The 32 bytes that the test packets carry. -/
def pay32 : Bytes := List.replicate 32 7

/-- A WRITE, one to an address outside the key, a SEND, a SEND with immediate, a WRITE with immediate, a READ_REQ, the two atomics. -/
def fWr : Frame := frm 1 0xC0 20 0 (xt 0x100040 32) pay32
def fBad : Frame := frm 1 0xC0 20 0 (xt 0x300000 32) pay32
def fSend : Frame := frm 5 0xC4 20 0 (putBE 4 32 ++ zeros 4) pay32
def fSendI : Frame := frm 6 0xC4 20 4660 (putBE 4 32 ++ zeros 4) pay32
def fWrI : Frame := frm 2 0xC0 20 9 (xt 0x100040 32) pay32
def fRd : Frame := frm 3 0xC0 20 0 (xt 0x100040 20000) []
def fAt (op : Nat) : Frame := frm op 0xC0 20 0 (putBE 8 0x100040 ++ putBE 4 0x100 ++ zeros 4 ++ putBE 8 5 ++ putBE 8 6) []

/-- The device whose send queue, and whose receive queue, belongs to the queue pair that expects PSN 20. -/
def sqR : State := adevQ qpR .sq 1
def rqR : State := adevQ qpR .rq 8

/-- The receive entry of `rqR`. -/
def recv0 : Infl := { inf (ent 8 64 0x101000 0x100 []) with disp := true }

/-- The write of `fWr`, of a SEND, of `fWrI`, the read of `fRd` and the translation of an atomic, once each is admitted. -/
def accWr : Acc :=
  let u := tgt sqR qpR fWr 1 0x100040 32
  writeMemAt (some u.pieceClock) (admd u sqR qpR fWr 1 32 0x100040 0x100 none none) 1 0x100040 pay32
def accSend (f : Frame) : Acc :=
  let z := (met rqR qpR f).1
  writeMemAt (some z.pieceClock) (admd z rqR qpR f 1 32 0 0 (some (0, 0)) (some 0x101000)) 1 0x101000 pay32
def accWrI : Acc :=
  let u := tgt rqR qpR fWrI 2 0x100040 32
  writeMemAt (some u.pieceClock) (admd u rqR qpR fWrI 1 32 0x100040 0x100 (some (0, 0)) none) 1 0x100040 pay32
def accRd : Acc :=
  let u := tgt sqR qpR fRd 3 0x100040 20000
  readMemAt (some u.pieceClock) (admd u sqR qpR fRd (psnCount (qSeg qpR) 20000) 20000 0x100040 0x100 none none) 1 0x100040 20000
def trAt (op : Nat) : Tr :=
  let u := tgt sqR qpR (fAt op) op 0x100040 8
  translateAt (some u.pieceClock) (admd u sqR qpR (fAt op) 1 8 0x100040 0x100 none none) 1 0x100040 8 true

/-- A Runnel stream and the link of its member's queue pair. -/
def rnkdev (x : LinkSt) : State :=
  { rndev str0 with
    qps := [(0, { qpF with kind := .basin, inst := 0, member := 2, cfg := 0x40300000 })], links := [(0, x)],
    ports := ldev.ports, regs := ldev.regs }

/-- The state once the one operand of an entry is admitted, and the read of that operand. -/
def opU (s : State) (e : Bytes) (need : Nat) : State := (admitOnce s 0 0 1 (inf e) [opdOf e need]).1
def opR (s : State) (e : Bytes) : State × Bytes :=
  accOf (readMemAt (admOf (opU s e rRead) 0 0) (opU s e rRead) 1 (entAddr e) (entLen e))

/-- A PREFETCH of a length to a destination, a device with one span under it, and the state once it is admitted. -/
def pfent (len dst : Nat) : Bytes := ent 0x12 len 0x100000 0x100 [BitVec.ofNat 8 dst]
def pfdev (len dst : Nat) (sp : Span) : State := { edev (pfent len dst) with spans := [(0, sp)] }
def pfU (s : State) (len dst : Nat) : State := (pfAdmit s 0 0 wqA (inf (pfent len dst))).1

/-- A migratable span of one page, resident or not in the HBM. -/
def spanM (res : Bool) : Span := { span1 with kind := .phys, migr := true, len := 4096, resHbm := res }

/-- A work queue whose front entry waits at a closed gate. -/
def wqG : Wq :=
  { wq1 with
    gate := some { counter := 3, base := 50, step := 1, every := 1, origin := 0, timeout := 4 }, holdSince := some 100,
    cache := [(0, ⟨ent 0 0 0 0 [], false, 0⟩)] }

/-- A BASIN_STORE of 8 inline bytes to the first bytes of plot 1, which stands on this device. -/
def bsent : Bytes :=
  let b : Bytes := [0x91, 4] ++ putLE 2 0xFFFF ++ zeros 8 ++ putLE 4 8 ++ zeros 12 ++ putLE 4 0x200 ++ putLE 8 (2 ^ 48) ++ zeros 20
  b ++ putLE 4 (crcN b)

/-- A device of slot 2 whose plot 1 holds a span of allocation 6, with a Basin key over it. -/
def bsdev : State :=
  { edev bsent with
    keys := [(1, key1), (2, { key1 with base := 2 ^ 48, len := 4096, basin := true, handle := 6 })], basin.slot := 2,
    basin.role := .worker, basin.map := ⟨5, [(1, plt 2)], [], false⟩,
    spans := [(0, span1), (1, { span1 with kind := .plot, inst := 0, start := 0, handle := 6 })] }

/-- A CB_LOAD of 64 bytes into slot 2, and what its steps leave. -/
def cbent : Bytes :=
  let b : Bytes := [0xA3, 0] ++ putLE 2 0xFFFF ++ zeros 8 ++ putLE 2 2 ++ putLE 1 4 ++ putLE 1 1 ++ putLE 2 16 ++ putLE 2 0
    ++ putLE 8 0x100000 ++ putLE 4 0x100 ++ putLE 4 64 ++ zeros 24
  b ++ putLE 4 (crcN b)
def cbAdm : State :=
  (admitOnce (edev cbent) 0 0 1 (inf cbent) [{ key := 0x100, need := rRead, addr := 0x100000, len := 64 }]).1
def cbProbe : State := (accOf (probe false (admOf cbAdm 0 0) 65 cbAdm 1 0x100000 64)).1
def cbOpen : State := { cbProbe with cbs := Tab.put cbProbe.cbs 2 loadingSlot }
def cbRead : State × Bytes := accOf (readMemAt (admOf cbOpen 0 0) cbOpen 1 0x100000 64)

/-- A BASIN_ALLOC of two granules over two plots. -/
def areq : AllocReq :=
  { slot := 2, reqId := 1, inst := 1, length := 2 ^ 27, stripe := 2, overflow := false, pairedOnly := false, explicit := false,
    mask := 0, resultCap := 4, spans := [11, 12] }

/-- How that request is dealt at a manager. -/
def dealt (s : State) : Nat × List Share := dealStripe 2 2 (eligible (dirLatest s) areq)

/-- A worker whose partner reaches four granules of its plot. -/
def hdev : State := { dev with pt.cxl := true, boot.plotGranules := 4, boot.image := some { img with roleCap := 1 } }

/-- A device that awaits the translation of a page. -/
def areqT : AtsReq := ⟨1, 0x200040, false, 3, false, 0, false⟩
def atdev : State :=
  { dev with ats := [areqT], spans := [(3, { span1 with kind := .ats, start := 0x200000, len := 0x1000 })], pt.cxl := true }

/-- A BASIN_LOAD or BASIN_STORE of 64 bytes at the first bytes of plot 1, and a device of slot 2 that runs it: plot 1 stands on `slot`. -/
def bent (op : Nat) : Bytes := ent op 64 0x100000 0x100 (putLE 4 0x200 ++ putLE 8 (2 ^ 48))
def bodev (op slot : Nat) (st : QpState) : State :=
  { bsdev with
    infl := [(0, inf (bent op))], basin.map := ⟨5, [(1, plt slot)], [], false⟩,
    qps := [(64, { Qp.fresh 0 .basin 0x40300000 9 5 0 (pageReset 0x128) (pageReset 0x12C) (pageReset 0x130) 3 0 false with st := st, epoch := 1 })] }
def badm (op slot : Nat) (st : QpState) : State := (basinAdmit (bodev op slot st) 0 0 wqA (inf (bent op)) (op = 0x11)).1

/-- A send queue pair whose oldest request awaits its one answer. -/
def qpA (r : SReq) : Qp := { qpF with reqs := [r, { rq0 1 11 2 with len := 8192 }], epsn := 20 }

/-- A READ of 32 bytes and a FADD that await their answers, and the frames that answer. -/
def rqRd : SReq := { rq0 3 10 1 with len := 32, buf := .mem 1 0x101000, operand := 0 }
def rqFa : SReq := { rq0 7 10 1 with len := 8, buf := .mem 1 0x101000 }
def fRdA : Frame := frm 4 0 10 0 [] pay32
def fFaA : Frame := frm 9 0 10 0 (putBE 8 99) []

/-- The device whose receive entry 1 is next while the completion of entry 0 is owed. -/
def qpO : Qp := { qpR with recv := some { q := 0, i := 0, bytes := 4, imm := none, solicited := false, fromWrite := false } }
def rqO : State :=
  { adevQ qpO .rq 8 with
    wqs := [(0, { wqS with kind := .rq, pi := 2, ci := 2 })],
    infl := [(0, { recv0 with done := some { status := Status.ok, cflags := 0, detail := 0, bytes := 4, aux := 0 } }), (1, { recv0 with seq := 1 })] }

/-- A receive entry of 16 bytes. -/
def recvS : Infl := { inf (ent 8 16 0x101000 0x100 []) with disp := true }

/-- The same block, gated while its region's throttle holds every wake. -/
def asleep (s : State) (b : Blk) : State :=
  { s with clk.gated := [b], lv.regions := [(blkRegion b, { Region.reset with thrOwn := true })] }

/-! ### Ill-formed commands -/

/-- An offset of 33 bits. -/
theorem test_wf_registerWrite : Instr.wf (.registerWrite ⟨2 ^ 32, hw 0⟩) = false := by decide

/-- A block that leaves the window. -/
theorem test_wf_vapenBuilt : Instr.wf (.vapenBuilt { lay with windowLog2 := 16 }) = false := by decide

/-- Region 16. -/
theorem test_wf_gridExcursion : Instr.wf (.gridExcursion 16 0) = false := by decide

/-- Region 16. -/
theorem test_wf_ocThrottleEnter : Instr.wf (.ocThrottleEnter (.region 16) []) = false := by decide

/-- Furrow core 48. -/
theorem test_wf_blockGate : Instr.wf (.blockGate ⟨.furrow 48, 0⟩) = false := by decide

/-- HBM stack 8. -/
theorem test_wf_wakeEvent : Instr.wf (.wakeEvent (.hbm 8)) = false := by decide

/-- Link 32. -/
theorem test_wf_ptpMessage : Instr.wf (.ptpMessage ⟨32, .sync⟩) = false := by decide

/-- Port 8. -/
theorem test_wf_cmisPoll : Instr.wf (.cmisPoll 8 .ok) = false := by decide

/-- Link 32. -/
theorem test_wf_calComplete : Instr.wf (.calComplete 32) = false := by decide

/-- Plot 128. -/
theorem test_wf_promotion : Instr.wf (.promotion 128) = false := by decide

/-- Slot 0, which no device has. -/
theorem test_wf_basinAlloc : Instr.wf (.basinAlloc ⟨0, 1, 1, 1, 1, false, false, false, 0, 0, []⟩) = false := by decide

/-- Instance 1024. -/
theorem test_wf_basinFree : Instr.wf (.basinFree ⟨1, 1, 1024, 0, true⟩) = false := by decide

/-- Plot 256. -/
theorem test_wf_basinPairPair : Instr.wf (.basinPairPair ⟨1, 1, 256, 0⟩) = false := by decide

/-- Slot 67. -/
theorem test_wf_basinQueryMap : Instr.wf (.basinQueryMap 67) = false := by decide

/-- Instance 1024. -/
theorem test_wf_partnerAllocFree : Instr.wf (.partnerAllocFree 1 1024) = false := by decide

/-- Width 256. -/
theorem test_wf_partnerLinkTrained : Instr.wf (.partnerLinkTrained ⟨true, 15, true, 256, 64⟩) = false := by decide

/-- Module 4. -/
theorem test_wf_ucieModuleLost : Instr.wf (.ucieModuleLost 4) = false := by decide

/-- 65 bytes. -/
theorem test_wf_hdmAccess : Instr.wf (.hdmAccess (.read 0 65)) = false := by decide

/-- A translation of no byte. -/
theorem test_wf_atsCompletion : Instr.wf (.atsCompletion 1 0 (.piece 0 0 0 true true)) = false := by decide

/-- A PASID of 21 bits. -/
theorem test_wf_atsInvalidationRequest : Instr.wf (.atsInvalidationRequest (2 ^ 20) 0 0) = false := by decide

/-- Pool 64. -/
theorem test_wf_culvertDoorbell : Instr.wf (.culvertDoorbell 64 (hw 0)) = false := by decide

/-- Pool slot 4096. -/
theorem test_wf_culvertTransferDone : Instr.wf (.culvertTransferDone 0 4096) = false := by decide

/-- Tender core 4. -/
theorem test_wf_tenderCoreFail : Instr.wf (.tenderCoreFail 4) = false := by decide

/-- Stack 8. -/
theorem test_wf_stackLost : Instr.wf (.stackLost 8) = false := by decide

/-- A queue of 20 bits. -/
theorem test_wf_hgDb : Instr.wf (.hgDb (2 ^ 19) (hw 0)) = false := by decide

/-- A slot of 65 bytes. -/
theorem test_wf_pushWrite : Instr.wf (.pushWrite 0 ⟨.host, true, 0, zeros 65⟩) = false := by decide

/-- An index of 33 bits. -/
theorem test_wf_entry : Instr.wf (.write 0 (2 ^ 32)) = false := by decide

/-- Completion queue 65536. -/
theorem test_wf_hgCqdb : Instr.wf (.hgCqdb 65536 (hw 0)) = false := by decide

/-- Instance 1024. -/
theorem test_wf_spCreate : Instr.wf (.spCreate 1024 (hw 0)) = false := by decide

/-- A key index of 23 bits. -/
theorem test_wf_keyFree : Instr.wf (.keyFree (2 ^ 22)) = false := by decide

/-- A span index of 21 bits. -/
theorem test_wf_spanMoveDone : Instr.wf (.spanMoveDone (2 ^ 20)) = false := by decide

/-- Queue pair 2^18. -/
theorem test_wf_packetTransmit : Instr.wf (.packetTransmit (2 ^ 18)) = false := by decide

/-- A header of 25 bytes. -/
theorem test_wf_rxWrite : Instr.wf (.rxWrite 0 ⟨true, 0x88B5, none, false, 0, 0, 0, false, 9, zeros 25, [], [], []⟩) = false := by decide

/-- A transport over slot 0. -/
theorem test_wf_getVersion : Instr.wf (.getVersion (.basin 0)) = false := by decide

/-- Certificate slot 16. -/
theorem test_wf_challenge : Instr.wf (.challenge .doe 16 []) = false := by decide

/-- Stream 256. -/
theorem test_wf_ideKmKeyProg : Instr.wf (.ideKmKeyProg none 256 []) = false := by decide

/-- Group 4096. -/
theorem test_wf_collData : Instr.wf (.collData 4096) = false := by decide

/-- Slot 0. -/
theorem test_wf_runnelRtoExpiry : Instr.wf (.runnelRtoExpiry 0) = false := by decide

/-- Warp slot 16. -/
theorem test_wf_iadd : Instr.wf (.iadd 0 16) = false := by decide

/-- Core 48. -/
theorem test_wf_coreLost : Instr.wf (.coreLost 48) = false := by decide

/-- Codebook slot 256. -/
theorem test_wf_cbSlotError : Instr.wf (.cbSlotError 256) = false := by decide

/-- A tag of 33 bits. -/
theorem test_wf_instCreate : Instr.wf (.instCreate (.manager 0 (2 ^ 32) [])) = false := by decide

/-- A command whose operands lie in their ranges. -/
theorem test_wf_accepts : Instr.wf (.registerWrite ⟨0x40, hw 9⟩) = true ∧ Instr.wf (.vapenBuilt lay) = true := by decide

/-! ### Values the spec states -/

/-- The check value of the CRC-32C of R101 over the digits 1 to 9. -/
theorem test_crc32c : crcN ("123456789".toList.map fun c => BitVec.ofNat 8 c.toNat) = 0xE3069283 := by decide +kernel

/-- The machine after reset: both resets low, no work, no log, no output. -/
theorem test_reset : State.reset.sys.coldLow = true ∧ State.reset.pending = [] ∧ State.reset.boot.image = none ∧ State.reset.out = [] := by
  decide

/-- Bytes 0 to 15 of the first packet of the worked case of Sluice Transport, step 1 (R229, R230). -/
theorem test_header_first : (hdrBytes 1 0x80 0x11 0x1F4C2 0 0x4000 0x3A07 0 (zeros 16)).take 16 =
    [0x62, 0x01, 0x80, 0x11, 0x01, 0xF4, 0xC2, 0x00, 0x00, 0x40, 0x00, 0x00, 0x00, 0x3A, 0x07, 0x00] := by decide

/-- Bytes 0 to 15 of the retransmitted packet of step 5. -/
theorem test_header_resent : (hdrBytes 1 2 0x12 0x1F4C2 0 0x448B 0x3A07 0 []).take 16 =
    [0x60, 0x01, 0x02, 0x12, 0x01, 0xF4, 0xC2, 0x00, 0x00, 0x44, 0x8B, 0x00, 0x00, 0x3A, 0x07, 0x00] := by decide

/-- The worked case of the Vapen table, step 2: 30 records, 864 bytes (R122 to R124). -/
theorem test_table_length : (tableRecords dev img lay).length = 30 ∧ (tableBytes dev img lay 1).length = 864 := by decide +kernel

/-- The worked case of bring-up, step 3: the golden offer, no framing bit, then bit 20 (R113). -/
theorem test_features : featConflict (BitVec.allOnes 128 &&& ~~~(0xC000 : BitVec 128)) 0x00000A0F = some 20 ∧
    featConflict (BitVec.allOnes 128 &&& ~~~(0xC000 : BitVec 128)) 0x00100A0F = none := by decide +kernel

/-- The worked case of the Basin, step 4: 9,500 granules over 11 plots of 863 free leave 7 (R49). -/
theorem test_deal : (dealStripe 9500 11 ((List.range 11).map fun n => ⟨n + 1, 863, 0⟩)).1 = 7 := by decide +kernel

/-- The worked case of Synko chaining, step 6: for step 999 the compute pair waits for 8,000 and the collective for 2,000 (R299). -/
theorem test_gate : gateT ⟨0x200, 8, 8, 2, 0, 50⟩ 1998 = 8000 ∧ gateT ⟨0x200, 8, 8, 2, 0, 50⟩ 1999 = 8000 ∧
    gateT ⟨0x201, 2, 2, 1, 0, 0⟩ 999 = 2000 := by decide

/-- The worked case of work queues, step 1: a doorbell of 534 over 510 is accepted (R160). -/
theorem test_doorbell : (match exec (.hgDb 0 (hw 534)) (qdev { wq1 with ringLog2 := 8, pi := 510, ci := 510 }) with
    | .next t => (Tab.find t.wqs 0).map (·.pi) | _ => none) = some 534 := by decide +kernel

/-- The worked case of the Vapen table, step 4: a MAX_INTERVAL of 2,000 is refused with BAD_FIELD (R127, R128). -/
theorem test_dormancy_range : (match exec (.registerWrite ⟨0x38108, hw 0x800327D0⟩) { dev with vp.layout := some lay } with
    | .next t => some (t.vp.werrValid, t.vp.werrStatus, t.vp.werrAddr) | _ => none) = some (true, 2, 0x38108) := by decide +kernel

/-! ### Witnesses of the statements' hypotheses -/

/-- Reset, and a board that ticks on an empty queue. -/
theorem wit_StepOnAnEmptyQueueIdles :
    (∃ s : State, s.pending = [] ∧ s.sys.coldLow = true) ∧
    (∃ s : State, s.pending = [] ∧ s.sys.coldLow = false ∧ s.pt.st ≠ .teardown ∧ s.sys.subTick < 4999 ∧ s.insts = [] ∧ s.wqs = [] ∧
      s.qps = [] ∧ s.spans = [] ∧ s.rxHeld = [] ∧ s.pt.hdmHeld = [] ∧ s.cv.bells = [] ∧ s.rn.held = [] ∧ s.rn.streams = []) :=
  ⟨⟨State.reset, by decide⟩, ⟨{ State.reset with sys.coldLow := false }, by decide⟩⟩

/-- A device with bytes in its HBM and a command in front. -/
theorem wit_EveryStepKeepsTheMemoriesCanonical : ∃ s t : State, memoriesWf s ∧ step s = .next t :=
  have h : ∃ t, step { cdev with pending := [.hgDb 0 (hw 1)] } = .next t := goes_next (by decide +kernel)
  h.elim fun t e => ⟨_, t, by unfold memoriesWf; decide +kernel, e⟩

theorem wit_EveryStepKeepsTheGoldenBundleTheFusesAndTheQueue : ∃ s t : State, step s = .next t :=
  have h : ∃ t, step { cdev with pending := [.hgDb 0 (hw 1)] } = .next t := goes_next (by decide +kernel)
  h.elim fun t e => ⟨_, t, e⟩

/-- The signature check is a free value (assumption 8), so these premises are met by every bundle that it accepts. -/
theorem wit_BootWalksItsStages_bundle (b : Bytes) (lv : Nat) (h : bundleStatus 0 b = Status.ok) (hl : bundleLevel 0 b = some lv) :
    ∃ (s : State) (x : SlotId) (rest : List (SlotId × Bool)), Awake s ∧ s.sys.straps.test = false ∧ s.boot.warmBoot = false ∧
      s.boot.cur = none ∧ (s.boot.stage = .rom ∨ s.boot.stage = .firmware) ∧ s.boot.cands = (x, false) :: rest ∧
      bundleStatus s.sys.fuses.siliconRev (slotOf s.flash x) = Status.ok ∧
      bundleLevel s.sys.fuses.siliconRev (slotOf s.flash x) = some lv :=
  ⟨{ boot .rom with boot.cands := [(.a, false)], flash.a := b }, .a, [], ⟨rfl, rfl⟩, rfl, rfl, rfl, .inl rfl, rfl, h, hl⟩

/-- The same of an image whose digests and signature pass. -/
theorem wit_BootWalksItsStages_image (b : Bytes)
    (h : imageStatus State.reset.sys.fuses.variant State.reset.sys.straps.pen 0 (trainedMask (boot .image)) (bundleImage b) = Status.ok) :
    ∃ (s : State) (x : SlotId), Awake s ∧ s.boot.stage = .image ∧ s.boot.cur = some x ∧ x ≠ .golden ∧ s.boot.accepted = none ∧
      imageFor s s.boot.runLevel (bundleImage (slotOf s.flash x)) = Status.ok :=
  ⟨{ boot .image with boot.cur := some .a, flash.a := b }, .a, ⟨rfl, rfl⟩, rfl, rfl, by simp, rfl, h⟩

/-- A warm resume whose record is the slot's bundle, its signature accepted. -/
theorem wit_ResetPinsAndTheWarmResumeActAsStated_resume (b : Bytes) (hb : holdsBundle b = true) (h : bundleStatus 0 b = Status.ok) :
    ∃ (s : State) (r : BootRec) (a : Asleep), Awake s ∧ s.boot.warmBoot = true ∧ s.boot.bootRec = some r ∧ s.asleep = some a ∧
      mayResume s r true = true ∧ r.prstPending = none ∧ (∀ p ∈ a.insts, p.2.destroying = none) ∧
      (∀ p ∈ a.qps, p.2.st ≠ .connected ∧ p.2.st ≠ .resyncing ∧ (p.2.bad1 && p.2.bad2) = false) ∧ (∀ p ∈ a.groups, p.2.coll = none) ∧ a.rn.streams = [] ∧
      (∀ p ∈ a.cbs, p.2.st ≠ .loaded) :=
  ⟨{ boot .rom with
       boot.warmBoot := true, boot.resumable := true, boot.bootRec := some (sealRec ⟨.a, .builtin, imageDigest (bundleImage b), 0, 0, true, none, 0⟩),
       asleep := some (sleepOf dev), flash.a := b }, _, _, ⟨rfl, rfl⟩, rfl, rfl, rfl, by
     have h' : bundleStatus (boot .rom).sys.fuses.siliconRev b = Status.ok := h
     simp [mayResume, slotDigest, sealRec, recCrc, slotOf, hb, h'], rfl,
   by decide +kernel, by decide +kernel, by decide +kernel, by decide +kernel, by decide +kernel⟩

/-- SLOT_SELECT on a slot that holds a bundle that verifies. -/
theorem wit_LoaderAndFeatureCommandsActAsStated_select (b : Bytes) (h : bundleStatus 0 b = Status.ok) :
    (∃ (s : State) (r : MbxReq), mbxIs s 0x21 = some r ∧ getLE r.params 0 1 ≤ 1 ∧ getLE r.params 1 1 = 0 ∧ zeroIn r.params 2 2 = true ∧
      bundleStatus s.sys.fuses.siliconRev (slotOf s.flash (slotNum (getLE r.params 0 1))) = Status.ok) ∧
    (∃ (s : State) (r : MbxReq), mbxIs s 0x21 = some r ∧ getLE r.params 0 1 ≤ 1 ∧ getLE r.params 1 1 = 1 ∧ zeroIn r.params 2 2 = true ∧
      bundleStatus s.sys.fuses.siliconRev (slotOf s.flash (slotNum (getLE r.params 0 1))) = Status.ok) :=
  ⟨⟨{ mdev 0x21 [0, 0, 0, 0] with flash.a := b }, _, rfl, by decide, by decide, by decide, h⟩,
   ⟨{ mdev 0x21 [0, 1, 0, 0] with flash.a := b }, _, rfl, by decide, by decide, by decide, h⟩⟩

/-- SLOT_WRITE of a staged bundle that verifies and whose image is good for the device. -/
theorem wit_LoaderAndFeatureCommandsActAsStated_write (m : Mem) (h : bundleStatus 0 (Mem.read m 0 4096) = Status.ok)
    (hi : imageStatus dev.sys.fuses.variant dev.sys.straps.pen ((bundleLevel 0 (Mem.read m 0 4096)).getD 0)
      (some (dev.boot.hbmInService &&& ~~~dev.stacksLost)) (bundleImage (Mem.read m 0 4096)) = Status.ok) :
    ∃ (s : State) (r : MbxReq) (b : Bool), mbxIs s 0x20 = some r ∧ slotFields r.params = true ∧ getLE r.params 0 1 = b.toNat ∧
      slotWriteFail s r (slotSource s (getLE r.params 1 1) (getLE r.params 8 8) (getLE r.params 4 4)) = none := by
  let s : State := { mdev 0x20 ([1, 1, 0, 0, 0, 16, 0, 0] ++ zeros 8) with boot.staged := m, boot.slot := .a }
  let r := req 0x20 ([1, 1, 0, 0, 0, 16, 0, 0] ++ zeros 8)
  have hs : slotSource s (getLE r.params 1 1) (getLE r.params 8 8) (getLE r.params 4 4) = Mem.read m 0 4096 := rfl
  have e0 : decide (slotCount dev.flash 1 < 10000) = true := by decide +kernel
  have e1 : slotFields r.params = true := by decide +kernel
  have e2 : (!isRunning s (getLE r.params 0 1) && (decide (getLE r.params 1 1 = 1) || (decide (r.origin = .host) && !noHost s))) = true := by rfl
  have e3 : decide (slotCount s.flash (getLE r.params 0 1) < 10000) = true := e0
  have e4 : (decide (getLE r.params 1 1 = 1) || (decide (s.pt.st = .up) && s.pt.cxl)) = true := rfl
  have h' : bundleStatus s.sys.fuses.siliconRev (Mem.read m 0 4096) = Status.ok := h
  have hi' : imageStatus s.sys.fuses.variant s.sys.straps.pen ((bundleLevel s.sys.fuses.siliconRev (Mem.read m 0 4096)).getD 0)
      (some (s.boot.hbmInService &&& ~~~s.stacksLost)) (bundleImage (Mem.read m 0 4096)) = Status.ok := hi
  refine ⟨s, r, true, rfl, e1, by decide +kernel, ?_⟩
  rw [hs]
  simp only [slotWriteFail, firstFail, e1, e2, e3, e4, h', hi', decide_true, if_true]

/-- A re-key the checks let pass. -/
theorem kmFail_none {s : State} {n : Option Nat} {m : Bytes} {x : Sess} {p : Qp} (hq : qualSess s n = some x) (ht : trHost x.tr = true)
    (hf : kmFieldsOk s m = true) (h1 : getBE m 0 1 = 1) (h2 : getBE m 14 1 = 2) (hm : kmInst m = 1) (hi : instHas s 1 18 = true)
    (hz : kmQpn m = 0) (ho : owns s.own.qp 0 1 = true) (hd : p.kind = .rc) (he : qEnc p = true) (hp : qpOf s 0 = some p) (hr : getBE m 15 1 = p.cipher.role)
    (ha : slice m 48 16 = rekeyAuth p.cipher.secret (kmSecret m)) (hs : p.st = .connected) (hk : p.cipher.keyed = true)
    (hn : p.cipher.pending = none) : kmFail s n m = none := by
  simp [kmFail, firstFail, kmGranted, hq, ht, hf, h1, h2, hm, hi, hz, ho, hd, he, hp, hr, ha, hs, hk, hn]

/-- A device whose queue pair 0 is connected and keyed with zeros. -/
def rkdev : State :=
  { sdevS (.mctpSmbus 0x60) true true with
    qps := [(0, { qp1 with cfg := qp1.cfg + 2 ^ 29, cipher := { Cipher.empty with keyed := true, secret := zeros 32 } })] }

/-- A KEY_INSTALL of a new key that carries the authenticator the present key gives. -/
theorem wit_KeyMessagesActAsStated_rekey : ∃ (s : State) (n : Option Nat) (m : Bytes) (p : Qp),
    tenderRuns s = true ∧ getBE m 0 1 = 1 ∧ getBE m 14 1 = 2 ∧ kmFail s n m = none ∧ qpOf s (getBE m 8 4) = some p := by
  obtain ⟨a, ha⟩ : ∃ a, a = rekeyAuth (zeros 32) (List.replicate 32 0x5A) := ⟨_, rfl⟩
  have hl : a.length = 16 := by rw [ha]; simp [rekeyAuth, fit, zeros]; omega
  match a, hl with
  | [a0, a1, a2, a3, a4, a5, a6, a7, a8, a9, a10, a11, a12, a13, a14, a15], _ =>
    have he : qEnc ((qpOf rkdev 0).getD qp1) = true := by decide +kernel
    have hi : instHas rkdev 1 18 = true := by decide +kernel
    exact ⟨rkdev, some 4,
      kmsg 1 (putBE 4 0 ++ putBE 2 1 ++ [2, 0] ++ List.replicate 32 0x5A ++
        [a0, a1, a2, a3, a4, a5, a6, a7, a8, a9, a10, a11, a12, a13, a14, a15]),
      _, by decide +kernel, rfl, rfl,
      kmFail_none (x := { tr := (.mctpSmbus 0x60), finished := true, qual := true, phase := 2 }) rfl rfl (by with_unfolding_all rfl) rfl rfl rfl hi rfl (by decide +kernel) rfl he rfl rfl
        (Eq.trans (b := [a0, a1, a2, a3, a4, a5, a6, a7, a8, a9, a10, a11, a12, a13, a14, a15]) rfl (ha.trans rfl)) rfl rfl rfl, rfl⟩

/-- Witnesses of `Obligations.AnswersArriveAtTheSender`. -/
theorem wit_AnswersArriveAtTheSender :
    (∃ (s : State) (l : Nat) (f : Frame) (n : Nat) (p : Qp) (c : Cipher) (ext pay : Bytes) (r : SReq) (rest : List SReq) (q i k a
      : Nat) (e : Infl) (v : State) (b : Bytes), RxOpen s l f 4 n p c ext pay ∧ f.ext = [] ∧ p.reqs = r :: rest ∧ r.op = 3 ∧
      r.count = 1 ∧ r.first = (parseHdr f.hdr).psn ∧ r.first < 2 ^ 24 ∧ r.got = [] ∧ pay.length = r.len ∧ r.who = .entry q i ∧
      r.buf = .mem k a ∧ (∀ x ∈ rest, reqDone p x = false) ∧ r ∉ rest ∧ inflOf s q i = some e ∧ e.done = none ∧ writeMemAt e.adm
      (rxMet s l f n p c).1 k (a + r.operand) pay = .ok v b) ∧
    (∃ (s : State) (l : Nat) (f : Frame) (n : Nat) (p : Qp) (c : Cipher) (ext pay : Bytes) (r : SReq) (rest : List SReq) (q i k a
      : Nat) (e : Infl) (v : State) (b : Bytes), RxOpen s l f 9 n p c ext pay ∧ f.ext.length = 8 ∧ p.reqs = r :: rest ∧ (r.op = 7
      ∨ r.op = 8) ∧ r.count = 1 ∧ r.len = 8 ∧ r.first = (parseHdr f.hdr).psn ∧ r.first < 2 ^ 24 ∧ r.result = none ∧ r.who = .entry
      q i ∧ r.buf = .mem k a ∧ (∀ x ∈ rest, reqDone p x = false) ∧ r ∉ rest ∧ inflOf s q i = some e ∧ e.done = none ∧ writeMemAt
      e.adm (rxMet s l f n p c).1 k a (putLE 8 (getBE ext 0 8)) = .ok v b) ∧
    (∃ (s : State) (l : Nat) (f : Frame) (n : Nat) (p : Qp) (c : Cipher) (ext pay : Bytes) (r : SReq) (rest : List SReq) (q i :
      Nat) (e : Infl), RxOpen s l f 0x10 n p c ext pay ∧ f.ext.length = 16 ∧ getBE f.ext 0 1 = 0 ∧ getBE ext 0 1 = 0 ∧ p.reqs = r
      :: rest ∧ r.op = 1 ∧ r.who = .entry q i ∧ r.count ≤ d24 (parseHdr f.hdr).psn r.first ∧ d24 (parseHdr f.hdr).psn r.first < 2
      ^ 23 ∧ (∀ x ∈ rest, x.op = 1 ∧ (d24 (parseHdr f.hdr).psn x.first < x.count ∨ 2 ^ 23 ≤ d24 (parseHdr f.hdr).psn x.first)) ∧
      d24 (parseHdr f.hdr).psn p.sndUna ≠ 0 ∧ d24 (parseHdr f.hdr).psn p.sndUna ≤ d24 p.sndNxt p.sndUna ∧ inflOf s q i = some e ∧
      e.done = none) ∧
    (∃ (s : State) (l : Nat) (f : Frame) (n : Nat) (p : Qp) (c : Cipher) (ext pay : Bytes), RxOpen s l f 0x10 n p c ext pay ∧
      f.ext.length = 16 ∧ getBE f.ext 0 1 = 1 ∧ getBE ext 0 1 = 1 ∧ p.reqs = [] ∧ (parseHdr f.hdr).psn = p.sndUna) ∧
    (∃ (s : State) (l : Nat) (f : Frame) (n : Nat) (p : Qp) (c : Cipher) (ext pay : Bytes), RxOpen s l f 0x10 n p c ext pay ∧
      f.ext.length = 16 ∧ getBE f.ext 0 1 = 2 ∧ getBE ext 0 1 = 2 ∧ p.reqs = [] ∧ (parseHdr f.hdr).psn = p.sndUna ∧ (fld p.retry
      15 13 = 7 ∨ p.rnrCount + 1 < fld p.retry 15 13)) ∧
    (∃ (s : State) (l : Nat) (f : Frame) (n : Nat) (p : Qp) (c : Cipher) (ext pay : Bytes) (q i : Nat) (e : Infl) (r : SReq),
      RxOpen s l f 0x10 n p c ext pay ∧ f.ext.length = 16 ∧ getBE f.ext 0 1 = 2 ∧ getBE ext 0 1 = 2 ∧ p.reqs = [r] ∧ reqDone p r =
      false ∧ r.who = .entry q i ∧ inflOf s q i = some e ∧ e.done = none ∧ (parseHdr f.hdr).psn = p.sndUna ∧ fld p.retry 15 13 ≠ 7
      ∧ fld p.retry 15 13 ≤ p.rnrCount + 1) ∧
    (∃ (s : State) (l : Nat) (f : Frame) (n : Nat) (p : Qp) (c : Cipher) (ext pay : Bytes) (r : SReq), RxOpen s l f 0x10 n p c ext
      pay ∧ f.ext.length = 16 ∧ getBE f.ext 0 1 = 3 ∧ getBE ext 0 1 = 3 ∧ p.reqs = [r] ∧ r.op = 3 ∧ r.got = [] ∧ 0 < r.count ∧
      reqAcked p r = true ∧ (parseHdr f.hdr).psn = p.sndUna) ∧
    (∃ (s : State) (l : Nat) (f : Frame) (n : Nat) (p : Qp) (c : Cipher) (ext pay : Bytes) (r : SReq) (rest q i : Nat) (e : Infl),
      RxOpen s l f 0x10 n p c ext pay ∧ f.ext.length = 16 ∧ getBE f.ext 0 1 = 4 ∧ getBE ext 0 1 = 4 ∧ ext.getD 1 0 ≠
      Status.epochMismatch ∧ ext.getD 1 0 ≠ Status.remoteAbort ∧ reqAt p (((parseHdr f.hdr).psn + 2 ^ 24 - 1) % 2 ^ 24) = some (r,
      rest) ∧ r.who = .entry q i ∧ inflOf s q i = some e ∧ e.done = none) ∧
    (∃ (s : State) (l : Nat) (f : Frame) (n : Nat) (p : Qp) (c : Cipher) (ext pay : Bytes), RxOpen s l f 0x10 n p c ext pay ∧
      f.ext.length = 16 ∧ getBE f.ext 0 1 = 4 ∧ getBE ext 0 1 = 4 ∧ (ext.getD 1 0 = Status.epochMismatch ∨ ext.getD 1 0 =
      Status.remoteAbort)) ∧
    (∃ (s : State) (l : Nat) (f : Frame) (n : Nat) (p : Qp) (c : Cipher) (ext pay : Bytes), RxOpen s l f 0x12 n p c ext pay ∧
      f.ext.length = 16 ∧ p.reqs = [] ∧ sendable s (curLink p) = true) ∧
    (∃ (s : State) (l : Nat) (f : Frame) (n : Nat) (p : Qp) (c : Cipher) (ext pay : Bytes), RxReaches s l f ∧ getBE f.hdr 1 1 =
      0x13 ∧ frameFail s l f = none ∧ (parseHdr f.hdr).dqpn = n ∧ qpOf s n = some p ∧ p.st = .resyncing ∧ openPkt p f (parseHdr
      f.hdr) = some (c, ext, pay) ∧ f.ext.length = 16 ∧ (parseHdr f.hdr).epoch = (p.epoch + 1) % 256 ∧ p.reqs = [] ∧ d24 p.sndNxt
      (getBE ext 0 3) < 2 ^ 23) ∧
    (∃ (s : State) (l : Nat) (f : Frame) (n : Nat) (p : Qp) (c : Cipher) (ext pay : Bytes) (r : SReq) (q i : Nat) (e : Infl),
      RxOpen s l f 0x14 n p c ext pay ∧ f.ext.length = 16 ∧ OldestIs s p r q i e) ∧
    (∃ (s : State) (l : Nat) (f : Frame) (k : Nat), RxReaches s l f ∧ getBE f.hdr 1 1 = 1 ∧ frameFail s l f = some k) ∧
    (∃ (s : State) (l : Nat) (f : Frame), RxReaches s l f ∧ getBE f.hdr 1 1 = 1 ∧ frameFail s l f = none ∧ qpOf s (parseHdr
      f.hdr).dqpn = none) ∧
    (∃ (s : State) (l : Nat) (f : Frame) (n : Nat) (p : Qp), RxReaches s l f ∧ f.routed = qRouted p ∧ getBE f.hdr 1 1 = 1 ∧
      frameFail s l f = none ∧ (parseHdr f.hdr).dqpn = n ∧ qpOf s n = some p ∧ p.st = .connected ∧ f.src = p.peer ∧ (parseHdr
      f.hdr).sqpn = p.dqpn ∧ (parseHdr f.hdr).epoch = p.epoch ∧ openPkt p f (parseHdr f.hdr) = none ∧ 2 ^ 24 - 8192 ≤ d24
      (parseHdr f.hdr).psn p.epsn) :=
  ⟨⟨adevQ (qpA rqRd) .sq 1, 0, fRdA, 0, qpA rqRd, (qpA rqRd).cipher, fRdA.ext, fRdA.payload, rqRd, [{ rq0 1 11 2 with len := 8192 }], 0, 0, 1, 0x101000, { inf (ent 1 64 0x101000 0x100 []) with disp := true }, (accOf (writeMemAt none (met (adevQ (qpA rqRd) .sq 1) (qpA rqRd) fRdA).1 1 0x101000 pay32)).1, (accOf (writeMemAt none (met (adevQ (qpA rqRd) .sq 1) (qpA rqRd) fRdA).1 1 0x101000 pay32)).2, by decide +kernel⟩,
   ⟨adevQ (qpA rqFa) .sq 1, 0, fFaA, 0, qpA rqFa, (qpA rqFa).cipher, fFaA.ext, fFaA.payload, rqFa, [{ rq0 1 11 2 with len := 8192 }], 0, 0, 1, 0x101000, { inf (ent 1 64 0x101000 0x100 []) with disp := true }, (accOf (writeMemAt none (met (adevQ (qpA rqFa) .sq 1) (qpA rqFa) fFaA).1 1 0x101000 (putLE 8 99))).1, (accOf (writeMemAt none (met (adevQ (qpA rqFa) .sq 1) (qpA rqFa) fFaA).1 1 0x101000 (putLE 8 99))).2, by decide +kernel⟩,
   ⟨adevQ ({ qpF with reqs := [({ rq0 1 10 2 with len := 8192 } : SReq), ({ rq0 1 12 1 with len := 4096 } : SReq)], epsn := 20 } : Qp) .sq 1,
     0, frm 0x10 0 12 0 ([0, 0] ++ zeros 6 ++ putBE 8 0) [], 0,
     ({ qpF with reqs := [({ rq0 1 10 2 with len := 8192 } : SReq), ({ rq0 1 12 1 with len := 4096 } : SReq)], epsn := 20 } : Qp),
     ({ qpF with reqs := [({ rq0 1 10 2 with len := 8192 } : SReq), ({ rq0 1 12 1 with len := 4096 } : SReq)], epsn := 20 } : Qp).cipher,
     (frm 0x10 0 12 0 ([0, 0] ++ zeros 6 ++ putBE 8 0) []).ext, [], ({ rq0 1 10 2 with len := 8192 } : SReq),
     [({ rq0 1 12 1 with len := 4096 } : SReq)], 0, 0, ({ inf (ent 1 64 0x101000 0x100 []) with disp := true } : Infl), by decide +kernel⟩,
   ⟨adevQ ({ qpF with reqs := [], epsn := 20 } : Qp) .sq 1, 0, frm 0x10 0 10 0 ([1, 0] ++ zeros 6 ++ putBE 8 5) [], 0,
     ({ qpF with reqs := [], epsn := 20 } : Qp), ({ qpF with reqs := [], epsn := 20 } : Qp).cipher,
     (frm 0x10 0 10 0 ([1, 0] ++ zeros 6 ++ putBE 8 5) []).ext, [], by decide +kernel⟩,
   ⟨adevQ ({ qpF with reqs := [], epsn := 20, rnrCount := 1, retry := 0x0000E064 } : Qp) .sq 1, 0,
     frm 0x10 0 10 0 ([2, 0] ++ zeros 6 ++ putBE 8 0) [], 0, ({ qpF with reqs := [], epsn := 20, rnrCount := 1, retry := 0x0000E064 } : Qp),
     ({ qpF with reqs := [], epsn := 20, rnrCount := 1, retry := 0x0000E064 } : Qp).cipher,
     (frm 0x10 0 10 0 ([2, 0] ++ zeros 6 ++ putBE 8 0) []).ext, [], by decide +kernel⟩,
   ⟨adevQ ({ qpF with reqs := [({ rq0 1 10 2 with len := 8192 } : SReq)], epsn := 20, rnrCount := 3, retry := 0x00004064 } : Qp) .sq 1, 0,
     frm 0x10 0 10 0 ([2, 0] ++ zeros 6 ++ putBE 8 0) [], 0,
     ({ qpF with reqs := [({ rq0 1 10 2 with len := 8192 } : SReq)], epsn := 20, rnrCount := 3, retry := 0x00004064 } : Qp),
     ({ qpF with reqs := [({ rq0 1 10 2 with len := 8192 } : SReq)], epsn := 20, rnrCount := 3, retry := 0x00004064 } : Qp).cipher,
     (frm 0x10 0 10 0 ([2, 0] ++ zeros 6 ++ putBE 8 0) []).ext, [], 0, 0, ({ inf (ent 1 64 0x101000 0x100 []) with disp := true } : Infl),
     ({ rq0 1 10 2 with len := 8192 } : SReq), by decide +kernel⟩,
   ⟨adevQ ({ qpF with reqs := [({ rq0 3 10 1 with len := 4096, buf := .mem 1 0x101000 } : SReq)], epsn := 20, sndUna := 11 } : Qp) .sq 1, 0,
     frm 0x10 0 11 0 ([3, 0] ++ zeros 6 ++ putBE 8 0) [], 0,
     ({ qpF with reqs := [({ rq0 3 10 1 with len := 4096, buf := .mem 1 0x101000 } : SReq)], epsn := 20, sndUna := 11 } : Qp),
     ({ qpF with reqs := [({ rq0 3 10 1 with len := 4096, buf := .mem 1 0x101000 } : SReq)], epsn := 20, sndUna := 11 } : Qp).cipher,
     (frm 0x10 0 11 0 ([3, 0] ++ zeros 6 ++ putBE 8 0) []).ext, [], ({ rq0 3 10 1 with len := 4096, buf := .mem 1 0x101000 } : SReq),
     by decide +kernel⟩,
   ⟨adevQ ({ qpF with reqs := [({ rq0 1 10 2 with len := 8192 } : SReq), ({ rq0 1 12 1 with len := 4096 } : SReq)], epsn := 20 } : Qp) .sq 1,
     0, frm 0x10 0 12 0 ([4, 9] ++ zeros 6 ++ putBE 8 0) [], 0,
     ({ qpF with reqs := [({ rq0 1 10 2 with len := 8192 } : SReq), ({ rq0 1 12 1 with len := 4096 } : SReq)], epsn := 20 } : Qp),
     ({ qpF with reqs := [({ rq0 1 10 2 with len := 8192 } : SReq), ({ rq0 1 12 1 with len := 4096 } : SReq)], epsn := 20 } : Qp).cipher,
     (frm 0x10 0 12 0 ([4, 9] ++ zeros 6 ++ putBE 8 0) []).ext, [], ({ rq0 1 10 2 with len := 8192 } : SReq), 1, 0, 0,
     ({ inf (ent 1 64 0x101000 0x100 []) with disp := true } : Infl), by decide +kernel⟩,
   ⟨adevQ ({ qpF with reqs := [({ rq0 1 10 2 with len := 8192 } : SReq), ({ rq0 1 12 1 with len := 4096 } : SReq)], epsn := 20 } : Qp) .sq 1,
     0, frm 0x10 0 12 0 ([4, Status.remoteAbort] ++ zeros 6 ++ putBE 8 0) [], 0,
     ({ qpF with reqs := [({ rq0 1 10 2 with len := 8192 } : SReq), ({ rq0 1 12 1 with len := 4096 } : SReq)], epsn := 20 } : Qp),
     ({ qpF with reqs := [({ rq0 1 10 2 with len := 8192 } : SReq), ({ rq0 1 12 1 with len := 4096 } : SReq)], epsn := 20 } : Qp).cipher,
     (frm 0x10 0 12 0 ([4, Status.remoteAbort] ++ zeros 6 ++ putBE 8 0) []).ext, [], by decide +kernel⟩,
   ⟨adevQ ({ qpF with reqs := [], epsn := 20 } : Qp) .sq 1, 0, frm 0x12 0 20 0 (zeros 16) [], 0, ({ qpF with reqs := [], epsn := 20 } : Qp),
     ({ qpF with reqs := [], epsn := 20 } : Qp).cipher, (frm 0x12 0 20 0 (zeros 16) []).ext, [], by decide +kernel⟩,
   ⟨adevQ ({ qpF with reqs := [], epsn := 20, st := .resyncing, epoch := 1 } : Qp) .sq 1, 0, ({ frm 0x13 0 20 0 (putBE 3 11 ++ zeros 13) [] with hdr := hdrBytes 0x13 0 2 0 0 20 5 0 (putBE 3 11 ++ zeros 13) } : Frame), 0, ({ qpF with reqs := [], epsn := 20, st := .resyncing, epoch := 1 } : Qp), ({ qpF with reqs := [], epsn := 20, st := .resyncing, epoch := 1 } : Qp).cipher, (({ frm 0x13 0 20 0 (putBE 3 11 ++ zeros 13) [] with hdr := hdrBytes 0x13 0 2 0 0 20 5 0 (putBE 3 11 ++ zeros 13) } : Frame)).ext, [], by decide +kernel⟩,
   ⟨adevQ ({ qpF with reqs := [({ rq0 1 10 2 with len := 8192 } : SReq), ({ rq0 1 12 1 with len := 4096, who := .entry 0 1 } : SReq)], epsn := 20 } : Qp) .sq 1, 0, frm 0x14 0 12 0 ([0, 0, 0, 0x21] ++ zeros 12) [], 0, ({ qpF with reqs := [({ rq0 1 10 2 with len := 8192 } : SReq), ({ rq0 1 12 1 with len := 4096, who := .entry 0 1 } : SReq)], epsn := 20 } : Qp), ({ qpF with reqs := [({ rq0 1 10 2 with len := 8192 } : SReq), ({ rq0 1 12 1 with len := 4096, who := .entry 0 1 } : SReq)], epsn := 20 } : Qp).cipher, (frm 0x14 0 12 0 ([0, 0, 0, 0x21] ++ zeros 12) []).ext, [], ({ rq0 1 10 2 with len := 8192 } : SReq), 0, 0, ({ inf (ent 1 64 0x101000 0x100 []) with disp := true } : Infl), by decide +kernel⟩,
   ⟨adevQ qpR .sq 1, 0, ({ frm 1 0xC0 20 0 (xt 0x100040 32) [] with fcsOk := false } : Frame), 12, by decide +kernel⟩,
   ⟨{ adevQ qpR .sq 1 with qps := [] }, 0, frm 1 0xC0 20 0 (xt 0x100040 32) (zeros 32), by decide +kernel⟩,
   ⟨adevQ qpR .sq 1, 0, ({ frm 1 0xC0 19 0 (xt 0x100040 32) (zeros 32) with tag := zeros 16 } : Frame), 0, qpR, by decide +kernel⟩⟩

/-- Witnesses of `Obligations.BasinEntriesGoToThePlotOwner`. -/
theorem wit_BasinEntriesGoToThePlotOwner :
    (∃ (s : State) (q i : Nat) (x : Wq) (r : Infl) (u : State) (a h : Nat) (w : State) (c : Bytes), mayDispatch s q i 0x10 = some
      (x, r) ∧ a = getLE r.ent 32 8 ∧ basinHeld s a = false ∧ basinAdmit s q i x r false = (u, none) ∧ h =
      (match Tab.find u.keys (getLE r.ent 28 4 / 256) with | some k => k.handle | none => 0) ∧ plotSlot u a = u.basin.slot ∧
      homeFail u x.inst a (entLen r.ent) h = none ∧ lineWait u (basinLoc u .basin a) (entLen r.ent) false = none ∧ writeMemAt
      (admOf u q i) u x.inst (entAddr r.ent) (getLoc u (basinLoc u .basin a) (entLen r.ent)) = .ok w c) ∧
    (∃ (s : State) (q i : Nat) (x : Wq) (r : Infl) (u : State) (a h : Nat) (p : Qp) (n : Nat), mayDispatch s q i 0x10 = some (x,
      r) ∧ a = getLE r.ent 32 8 ∧ basinHeld s a = false ∧ entInline r.ent = false ∧ basinAdmit s q i x r false = (u, none) ∧ h =
      (match Tab.find u.keys (getLE r.ent 28 4 / 256) with | some k => k.handle | none => 0) ∧ plotSlot u a ≠ u.basin.slot ∧
      basinQp u (plotSlot u a) = some n ∧ qpOf u n = some p ∧ p.st = .connected) ∧
    (∃ (s : State) (q i : Nat) (x : Wq) (r : Infl) (u : State) (a h : Nat) (w : State) (b : Bytes) (p : Qp) (n : Nat), mayDispatch
      s q i 0x11 = some (x, r) ∧ a = getLE r.ent 32 8 ∧ basinHeld s a = false ∧ entInline r.ent = false ∧ basinAdmit s q i x r
      true = (u, none) ∧ h = (match Tab.find u.keys (getLE r.ent 28 4 / 256) with | some k => k.handle | none => 0) ∧ plotSlot u a
      ≠ u.basin.slot ∧ basinQp u (plotSlot u a) = some n ∧ storeData u q i x.inst r.ent = .ok w b ∧ qpOf u n = some p ∧ p.st =
      .connected) ∧
    (∃ (s : State) (q i : Nat) (x : Wq) (r : Infl) (u : State) (a h : Nat) (v : State) (b : Bytes) (w : State) (c : Bytes),
      mayDispatch s q i 0x11 = some (x, r) ∧ a = getLE r.ent 32 8 ∧ basinHeld s a = false ∧ basinAdmit s q i x r true = (u, none)
      ∧ h = (match Tab.find u.keys (getLE r.ent 28 4 / 256) with | some k => k.handle | none => 0) ∧ plotSlot u a = u.basin.slot ∧
      homeFail u x.inst a (entLen r.ent) h = none ∧ storeData u q i x.inst r.ent = .ok v b ∧ basinPiece v x.inst a (entLen r.ent)
      h true b = .ok w c) ∧
    (∃ (s : State) (q i : Nat) (x : Wq) (r : Infl) (u : State) (st : Byte), mayDispatch s q i 0x10 = some (x, r) ∧ basinHeld s
      (getLE r.ent 32 8) = false ∧ basinAdmit s q i x r false = (u, some st)) ∧
    (∃ (s : State) (q i : Nat) (x : Wq) (r : Infl) (u : State) (st : Byte), mayDispatch s q i 0x11 = some (x, r) ∧ basinHeld s
      (getLE r.ent 32 8) = false ∧ basinAdmit s q i x r true = (u, some st)) ∧
    (∃ (s : State) (q i : Nat) (x : Wq) (r : Infl) (u : State) (a n : Nat) (p : Qp), mayDispatch s q i 0x10 = some (x, r) ∧ a =
      getLE r.ent 32 8 ∧ basinHeld s a = false ∧ basinAdmit s q i x r false = (u, none) ∧ plotSlot u a ≠ u.basin.slot ∧ basinQp u
      (plotSlot u a) = some n ∧ qpOf u n = some p ∧ p.st = .error) ∧
    (∃ (s : State) (q i : Nat) (x : Wq) (r : Infl), mayDispatch s q i 0x10 = some (x, r) ∧ basinHeld s (getLE r.ent 32 8) = true) ∧
    (∃ (s : State) (q i : Nat) (x : Wq) (r : Infl), mayDispatch s q i 0x11 = some (x, r) ∧ basinHeld s (getLE r.ent 32 8) = true) :=
  ⟨⟨bodev 0x10 2 .connected, 0, 0, wqA, inf (bent 0x10), badm 0x10 2 .connected, 2 ^ 48, 6, (accOf (writeMemAt (admOf (badm 0x10 2 .connected) 0 0) (badm 0x10 2 .connected) 1 0x100000 (getLoc (badm 0x10 2 .connected) (basinLoc (badm 0x10 2 .connected) .basin (2 ^ 48)) 64))).1, (accOf (writeMemAt (admOf (badm 0x10 2 .connected) 0 0) (badm 0x10 2 .connected) 1 0x100000 (getLoc (badm 0x10 2 .connected) (basinLoc (badm 0x10 2 .connected) .basin (2 ^ 48)) 64))).2, by decide +kernel⟩,
   ⟨bodev 0x10 3 .connected, 0, 0, wqA, inf (bent 0x10), badm 0x10 3 .connected, 2 ^ 48, 6, { Qp.fresh 0 .basin 0x40300000 9 5 0 (pageReset 0x128) (pageReset 0x12C) (pageReset 0x130) 3 0 false with st := .connected, epoch := 1 }, 64, by decide +kernel⟩,
   ⟨bodev 0x11 3 .connected, 0, 0, wqA, inf (bent 0x11), badm 0x11 3 .connected, 2 ^ 48, 6, (accOf (storeData (badm 0x11 3 .connected) 0 0 1 (bent 0x11))).1, (accOf (storeData (badm 0x11 3 .connected) 0 0 1 (bent 0x11))).2, { Qp.fresh 0 .basin 0x40300000 9 5 0 (pageReset 0x128) (pageReset 0x12C) (pageReset 0x130) 3 0 false with st := .connected, epoch := 1 }, 64, by decide +kernel⟩,
   ⟨bsdev, 0, 0, wqA, inf bsent, (basinAdmit bsdev 0 0 wqA (inf bsent) true).1, 2 ^ 48, 6, (basinAdmit bsdev 0 0 wqA (inf bsent) true).1, slice bsent 44 8, (accOf (basinPiece (basinAdmit bsdev 0 0 wqA (inf bsent) true).1 1 (2 ^ 48) 8 6 true (slice bsent 44 8))).1, (accOf (basinPiece (basinAdmit bsdev 0 0 wqA (inf bsent) true).1 1 (2 ^ 48) 8 6 true (slice bsent 44 8))).2, by decide +kernel⟩,
   ⟨{ bodev 0x10 3 .connected with basin.map := ⟨5, [], [], false⟩ }, 0, 0, wqA, inf (bent 0x10), { bodev 0x10 3 .connected with basin.map := ⟨5, [], [], false⟩ }, Status.translationFault, by decide +kernel⟩,
   ⟨{ bodev 0x11 3 .connected with basin.map := ⟨5, [], [], false⟩ }, 0, 0, wqA, inf (bent 0x11), { bodev 0x11 3 .connected with basin.map := ⟨5, [], [], false⟩ }, Status.translationFault, by decide +kernel⟩,
   ⟨bodev 0x10 3 .error, 0, 0, wqA, inf (bent 0x10), badm 0x10 3 .error, 2 ^ 48, 64, { Qp.fresh 0 .basin 0x40300000 9 5 0 (pageReset 0x128) (pageReset 0x12C) (pageReset 0x130) 3 0 false with st := .error, epoch := 1 }, by decide +kernel⟩,
   ⟨{ bodev 0x10 3 .connected with basin.holdNew := true }, 0, 0, wqA, inf (bent 0x10), by decide +kernel⟩,
   ⟨{ bodev 0x11 3 .connected with basin.holdNew := true }, 0, 0, wqA, inf (bent 0x11), by decide +kernel⟩⟩

/-- Witnesses of `Obligations.BootWalksItsStages`. -/
theorem wit_BootWalksItsStages :
    (∃ (s : State) (x : SlotId) (rest : List (SlotId × Bool)), Awake s ∧ s.sys.straps.test = false ∧ s.boot.warmBoot = false ∧
      s.boot.cur = none ∧ (s.boot.stage = .rom ∨ s.boot.stage = .firmware) ∧ s.boot.cands = (x, false) :: rest ∧ bundleStatus
      s.sys.fuses.siliconRev (slotOf s.flash x) ≠ Status.ok) ∧
    (∃ (s : State) (x : SlotId), Awake s ∧ s.boot.stage = .firmware ∧ s.boot.cur = some x ∧ s.boot.resumeLost = false) ∧
    (∃ (s : State) (x : SlotId), Awake s ∧ s.boot.stage = .image ∧ s.boot.cur = some x ∧ x ≠ .golden ∧ s.boot.accepted = none ∧
      imageFor s s.boot.runLevel (bundleImage (slotOf s.flash x)) ≠ Status.ok) ∧
    (∃ (s : State), Awake s ∧ s.boot.trained = false ∧ (s.boot.stage = .firmware ∨ s.boot.stage = .image) ∧ s.boot.accepted =
      none) ∧
    (∃ (s : State) (i : Image) (d : Bytes), Awake s ∧ s.boot.accepted = some (i, d) ∧ (s.boot.stage = .apply ∨ s.boot.stage =
      .loading)) ∧
    (∃ (s : State) (i : Image) (lay : Layout), Awake s ∧ s.boot.image = some i ∧ s.boot.stage = .vapen ∧ layoutOk i lay = true ∧
      mbxIs s 0x23 = none) ∧
    (∃ (s : State), s.sys.coldLow = false ∧ s.sys.fuses.variant = .d ∧ s.sys.straps.test = false) ∧
    (∃ (s : State), (s.sys.fuses.variant = .p ∨ s.sys.straps.test = true)) :=
  ⟨⟨{ boot .rom with boot.cands := [(.a, false)] }, (.a : SlotId), ([] : List (SlotId × Bool)), by decide +kernel⟩,
   ⟨{ boot .firmware with boot.cur := some .a }, (.a : SlotId), by decide +kernel⟩,
   ⟨{ boot .image with boot.cur := some .a, flash.a := zeros 64 }, (.a : SlotId), by decide +kernel⟩,
   ⟨boot .firmware, by decide +kernel⟩,
   ⟨{ boot .apply with boot.accepted := some (img, []), boot.trained := true }, img, ([] : Bytes), by decide +kernel⟩,
   ⟨{ boot .vapen with boot.image := some img }, img, lay, by decide +kernel⟩,
   ⟨{ boot .image with sys.fuses.variant := .d }, by decide +kernel⟩,
   ⟨{ boot .image with sys.fuses.variant := .p }, by decide +kernel⟩⟩

/-- Witnesses of `Obligations.CalibrationRunsAndLinksNegotiate`. -/
theorem wit_CalibrationRunsAndLinksNegotiate :
    (∃ (s : State) (l : Nat) (w : RegWr), windowLive s = true ∧ l < 32 ∧ linkExists s l = true ∧ Taken s w ∧ noRsv w 0xFFFF00FE =
      true ∧ bitN w.data.toNat 0 = true ∧ (link s l).cal = .idle) ∧
    (∃ (s : State) (l ns : Nat), linkExists s l = true ∧ (link s l).cal = .pending ∧ 50000 ≤ ns ∧ (link s l).up = true ∧ linkQuiet
      s l = true) ∧
    (∃ (s : State) (l : Nat), (link s l).cal = .running) ∧
    (∃ (s : State) (l : Nat), (link s l).cal = .pending) ∧
    (∃ (s : State) (l : Nat) (m : Bool), linkExists s l = true ∧ adminUp s l = true ∧ (link s l).up = false ∧ (port s (l / 4)).failed =
      false ∧ portTested s (l / 4) = false ∧ hasMedium s l = true ∧ (link s l).cal ≠ .running) ∧
    (∃ (s : State) (l : Nat) (m : Bool), linkExists s l = true ∧ adminUp s l = true ∧ (link s l).up = true ∧ (port s (l /
      4)).failed = false ∧ portTested s (l / 4) = false ∧ hasMedium s l = true ∧ (link s l).cal ≠ .running ∧ (link s l).verify =
      true) ∧
    (∃ (s : State) (l : Nat), linkExists s l = true ∧ (link s l).up = true) ∧
    (∃ (s : State) (l : Nat) (b : Bytes) (f : LinkFrame), FrameIn s l b f ∧ f.op = 1 ∧ f.reply = false ∧ (link s l).up = true ∧
      (link s l).measured = false) ∧
    (∃ (s : State) (l : Nat) (b : Bytes) (f : LinkFrame), FrameIn s l b f ∧ f.op = 1 ∧ f.reply = true ∧ (link s l).up = true ∧
      (link s l).offerSent ≠ 0 ∧ capable s l = true ∧ f.capable = true ∧ (s.sys.now - (link s l).offerAt - f.turnaround) / 2 ≤
      1000) ∧
    (∃ (s : State) (l : Nat), linkExists s l = true ∧ (link s l).up = true ∧ (link s l).offerSent ≠ 0 ∧ (link s l).offerSent < 8 ∧
      (link s l).measured = false) ∧
    (∃ (s : State) (l : Nat), linkExists s l = true ∧ (link s l).up = true ∧ 8 ≤ (link s l).offerSent ∧ (link s l).measured =
      false) ∧
    (∃ (s : State) (l : Nat) (b : Bytes) (c : Instr), linkExists s l = true ∧ ((link s l).cal = .running ∨ frameOf b = none) ∧ c ∈
      [Instr.offer l b, .enter l b, .enterAck l b, .enterNak l b, .cancel l b, .hello l b]) :=
  ⟨⟨dev, 0, hw 0x0101, by decide +kernel⟩,
   ⟨kdev { lnk with cal := .pending }, 0, 50000, by decide +kernel⟩,
   ⟨kdev { lnk with cal := .running }, 0, by decide +kernel⟩,
   ⟨kdev { lnk with cal := .pending }, 0, by decide +kernel⟩,
   ⟨kdev LinkSt.reset, 0, true, by decide +kernel⟩,
   ⟨kdev { lnk with verify := true }, 0, true, by decide +kernel⟩,
   ⟨ldev, 0, by decide +kernel⟩,
   ⟨ldev, 0, frameBytes (lf 1), lf 1, by decide +kernel⟩,
   ⟨kdev { lnk with offerSent := 1 }, 0, frameBytes { lf 1 with reply := true }, ({ lf 1 with reply := true } : LinkFrame), by decide +kernel⟩,
   ⟨kdev { lnk with offerSent := 7 }, 0, by decide +kernel⟩,
   ⟨kdev { lnk with offerSent := 8 }, 0, by decide +kernel⟩,
   ⟨kdev { lnk with cal := .running }, 0, [], .offer 0 [], by decide +kernel⟩⟩

/-- Witnesses of `Obligations.ClaimsEndWithOneManager`. -/
theorem wit_ClaimsEndWithOneManager :
    (∃ (s : State), s.basin.role = .unjoined ∧ roleCap s = 2 ∧ s.boot.stage = .ready) ∧
    (∃ (s : State), s.basin.role = .claiming) ∧
    (∃ (s : State) (m : Bytes) (r : CtlRec), Heard s m r 0x03 ∧ s.basin.role = .worker ∧ bitN r.flags 0 = false ∧
      s.basin.mgrMissing = true ∧ s.basin.grant = none) ∧
    (∃ (s : State) (m : Bytes) (r : CtlRec), Heard s m r 0x03 ∧ s.basin.role = .worker ∧ bitN r.flags 0 = false ∧
      s.basin.mgrMissing = false) ∧
    (∃ (s : State) (m : Bytes) (r : CtlRec) (g : Nat × Nat), Heard s m r 0x03 ∧ s.basin.role = .worker ∧ bitN r.flags 0 = false ∧
      s.basin.mgrMissing = true ∧ s.basin.grant = some g ∧ g.1 ≠ r.serial ∧ ranksAbove r.epoch r.serial g.2 g.1 = true) ∧
    (∃ (s : State) (m : Bytes) (r : CtlRec), Heard s m r 0x03 ∧ s.basin.role = .claiming ∧ ranksAbove r.epoch r.serial
      s.basin.epoch s.sys.fuses.serial = true) ∧
    (∃ (s : State) (m : Bytes) (r : CtlRec), Heard s m r 0x04 ∧ s.basin.role = .claiming ∧ r.subject = s.sys.fuses.serial ∧
      Tab.has s.mgr.dir.workers r.serial = true ∧ r.serial ∉ s.mgr.grants ∧ s.mgr.claimPlanned = false) ∧
    (∃ (s : State) (m : Bytes) (r : CtlRec), Heard s m r 0x05 ∧ s.basin.role = .claiming ∧ r.subject = s.sys.fuses.serial) ∧
    (∃ (s : State) (m : Bytes) (r : CtlRec) (g : Nat × Nat), Heard s m r 0x06 ∧ s.basin.role = .worker ∧ s.basin.grant = some g ∧
      g.1 = r.serial) ∧
    (∃ (s : State) (m : Bytes) (r : CtlRec), Heard s m r 0x07 ∧ s.basin.role = .worker) ∧
    (∃ (s : State) (m : Bytes) (r : CtlRec), Heard s m r 0x07 ∧ s.basin.role = .standby ∧ r.subject = s.sys.fuses.serial) ∧
    (∃ (s : State) (a : Nat), s.basin.role = .claiming ∧ s.mgr.majoritySince = some a ∧ hasMajority s = true ∧ s.mgr.claimPlanned
      = false ∧ ownersKept s s.mgr.dir) ∧
    (∃ (s : State), s.basin.role = .claiming) ∧
    (∃ (s : State), s.basin.role = .yielding) ∧
    (∃ (s : State), s.basin.role = .yielding) :=
  ⟨⟨bdev .unjoined, by decide +kernel⟩,
   ⟨bdev .claiming, by decide +kernel⟩,
   ⟨{ bdev .worker with basin.mgrMissing := true }, ctlBytes (cr 0x03 (7)), cr 0x03 (7), by decide +kernel⟩,
   ⟨bdev .worker, ctlBytes (cr 0x03 (7)), cr 0x03 (7), by decide +kernel⟩,
   ⟨{ bdev .worker with basin.mgrMissing := true, basin.grant := some (8, 4) }, ctlBytes (cr 0x03 (7)), cr 0x03 (7), ((8, 4) : Nat × Nat),
     by decide +kernel⟩,
   ⟨bdev .claiming, ctlBytes (cr 0x03 (7)), cr 0x03 (7), by decide +kernel⟩,
   ⟨{ bdev .claiming with mgr.dir.workers := [(9, wkr)] }, ctlBytes (cr 0x04 (7)), cr 0x04 (7), by decide +kernel⟩,
   ⟨bdev .claiming, ctlBytes (cr 0x05 (7)), cr 0x05 (7), by decide +kernel⟩,
   ⟨{ bdev .worker with basin.grant := some (9, 4) }, ctlBytes (cr 0x06 (7)), cr 0x06 (7), ((9, 4) : Nat × Nat), by decide +kernel⟩,
   ⟨bdev .worker, ctlBytes (cr 0x07 (7)), cr 0x07 (7), by decide +kernel⟩,
   ⟨bdev .standby, ctlBytes (cr 0x07 (7)), cr 0x07 (7), by decide +kernel⟩,
   ⟨{ bdev .claiming with mgr.majoritySince := some 3 }, 3, by decide +kernel⟩,
   ⟨bdev .claiming, by decide +kernel⟩,
   ⟨bdev .yielding, by decide +kernel⟩,
   ⟨bdev .yielding, by decide +kernel⟩⟩

/-- Witnesses of `Obligations.ClocksTimeAndModulesActAsStated`. -/
theorem wit_ClocksTimeAndModulesActAsStated :
    (∃ (s : State) (b : Blk) (ns : Nat), s.sys.coldLow = false ∧ blkIdle s b = true ∧ b ∉ s.clk.gated ∧ gateHoldNs s ≤ ns) ∧
    (∃ (s : State) (b : Blk) (ns : Nat), s.sys.coldLow = false ∧ (blkIdle s b = false ∨ ns < gateHoldNs s)) ∧
    (∃ (s : State) (b : Blk), b ∈ s.clk.gated ∧ (region s (blkRegion b)).throttled = false) ∧
    (∃ (s : State) (b : Blk), b ∈ s.clk.gated ∧ (region s (blkRegion b)).throttled = true) ∧
    (∃ (s : State) (a : Nat), s.sys.coldLow = false ∧ bitN (getReg s 0x0C 0x600) 0 = false ∧ (∀ n < 48, Blk.furrow n ∈
      s.clk.gated) ∧ s.clk.furrowFrom = some a) ∧
    (∃ (s : State), (bitN (getReg s 0x0C 0x600) 0 = true ∨ (∃ n < 48, Blk.furrow n ∉ s.clk.gated) ∨ s.clk.furrowFrom = none)) ∧
    (∃ (s : State), windowLive s = true) ∧
    (∃ (s : State) (l : Nat), windowLive s = true ∧ timeSrc s = 1 ∧ l = fld (getReg s 0x0B 0x108) 12 8 ∧ (link s l).up = true) ∧
    (∃ (s : State) (l a b c d : Nat), windowLive s = true ∧ timeSrc s = 1 ∧ l = fld (getReg s 0x0B 0x108) 12 8 ∧ (link s l).up =
      true ∧ s.sys.ptpT1 = some a ∧ s.sys.ptpT2 = some b ∧ s.sys.ptpT3 = some c ∧ 1000000 < (((a : Int) - b) + ((d : Int) - c)) /
      2) ∧
    (∃ (s : State), windowLive s = true ∧ timeSrc s = 2 ∧ s.sys.now % 1000000000 < 500000000) ∧
    (∃ (s : State), windowLive s = true ∧ timeSrc s = 2 ∧ 500000000 ≤ s.sys.now % 1000000000 ∧ s.sys.now % 1000000000 < 999000000) ∧
    (∃ (s : State) (p : Nat) (info : ModuleInfo), tenderRuns s = true ∧ s.boot.image ≠ none ∧ p < 8 ∧ info.apps.contains (lanesOf
      (brkOf s p)) = true) ∧
    (∃ (s : State) (p : Nat) (info : ModuleInfo), tenderRuns s = true ∧ s.boot.image ≠ none ∧ p < 8 ∧ info.apps.contains (lanesOf
      (brkOf s p)) = false) ∧
    (∃ (s : State) (p : Nat), tenderRuns s = true ∧ p < 8 ∧ (port s p).modState ≠ .none) ∧
    (∃ (s : State) (p : Nat), tenderRuns s = true ∧ p < 8 ∧ (port s p).modState ≠ .none) ∧
    (∃ (s : State) (p : Nat), tenderRuns s = true ∧ p < 8 ∧ (port s p).modState ≠ .none ∧ (port s p).missed < 2) ∧
    (∃ (s : State) (p : Nat), tenderRuns s = true ∧ p < 8 ∧ (port s p).modState ≠ .none ∧ 2 ≤ (port s p).missed) ∧
    (∃ (s : State) (r : MbxReq), mbxIs s 0x30 = some r ∧ r.origin ≠ .mctp ∧ r.discard = false ∧ firstFail (moduleChecks s r.params
      256) = none) ∧
    (∃ (s : State) (r : MbxReq), mbxIs s 0x31 = some r ∧ r.origin ≠ .mctp ∧ r.discard = false ∧ firstFail (moduleChecks s r.params
      8) = none ∧ (∀ i < getLE r.params 4 2, tenderByte (getLE r.params 2 1) (getLE r.params 3 1 + i) = false)) :=
  ⟨⟨dev, (.furrow 7 : Blk), gateHoldNs dev, by decide +kernel⟩,
   ⟨{ dev with fw.colls := [(112, 0)] }, (.furrow 7 : Blk), 0, by decide +kernel⟩,
   ⟨{ dev with clk.gated := [.furrow 7] }, (.furrow 7 : Blk), by decide +kernel⟩,
   ⟨{ dev with clk.gated := [.furrow 7], lv.regions := [(1, { Region.reset with thrOwn := true })] }, (.furrow 7 : Blk), by decide +kernel⟩,
   ⟨{ rdev 0x0C 0x600 0 with clk.gated := (List.range 48).map Blk.furrow, clk.furrowFrom := some 5 }, 5, by decide +kernel⟩,
   ⟨{ rdev 0x0C 0x600 0 with clk.gated := (List.range 48).map Blk.furrow, clk.fwLock := true }, by decide +kernel⟩,
   ⟨dev, by decide +kernel⟩,
   ⟨{ ldev with regs := [(0x0B * 2 ^ 20 + 0x108, 1)] }, 0, by decide +kernel⟩,
   ⟨{ ldev with regs := [(0x0B * 2 ^ 20 + 0x108, 1)], sys.ptpT1 := some 5000000, sys.ptpT2 := some 1000000, sys.ptpT3 := some 1000100 }, 0,
     5000000, 1000000, 1000100, 5000300, by decide +kernel⟩,
   ⟨{ rdev 0x0B 0x108 2 with sys.now := 3000000200 }, by decide +kernel⟩,
   ⟨{ rdev 0x0B 0x108 2 with sys.now := 3600000000 }, by decide +kernel⟩,
   ⟨dev, 2, (⟨false, false, [8, 4], []⟩ : ModuleInfo), by decide +kernel⟩,
   ⟨dev, 2, (⟨false, false, [4], []⟩ : ModuleInfo), by decide +kernel⟩,
   ⟨pdev 0, 2, by decide +kernel⟩,
   ⟨pdev 0, 2, by decide +kernel⟩,
   ⟨pdev 1, 2, by decide +kernel⟩,
   ⟨pdev 2, 2, by decide +kernel⟩,
   ⟨{ pdev 0 with mbx.st := .busy, mbx.running := some (req 0x30 [2, 0, 0, 0, 4, 0, 0, 0]) }, req 0x30 [2, 0, 0, 0, 4, 0, 0, 0],
     by decide +kernel⟩,
   ⟨{ pdev 0 with mbx.st := .busy, mbx.running := some (req 0x31 [2, 0, 0, 0, 4, 0, 0, 0, 1, 2, 3, 4]) },
     req 0x31 [2, 0, 0, 0, 4, 0, 0, 0, 1, 2, 3, 4], by decide +kernel⟩⟩

/-- Witnesses of `Obligations.CodebooksLoadAndClear`. -/
theorem wit_CodebooksLoadAndClear :
    (∃ (s : State) (q i : Nat) (x : Wq) (r : Infl) (u o v w : State) (b : Bytes), mayDispatch s q i 0x23 = some (x, r) ∧ getLE
      r.ent 32 4 ≤ slotBytes s ∧ admitOnce s q i x.inst r
      [{ key := getLE r.ent 28 4, need := rRead, addr := getLE r.ent 20 8, len := getLE r.ent 32 4 }] = (u, none) ∧ (if cbLoading
      u (getLE r.ent 12 2) then v = u else probe false (admOf u q i) (getLE r.ent 32 4 + 1) u x.inst (getLE r.ent 20 8) (getLE
      r.ent 32 4) = .ok o [] ∧ v = { o with cbs := Tab.put o.cbs (getLE r.ent 12 2) loadingSlot }) ∧ readMemAt (admOf v q i) v
      x.inst (getLE r.ent 20 8) (getLE r.ent 32 4) = .ok w b) ∧
    (∃ (s : State) (q i : Nat) (x : Wq) (r : Infl), mayDispatch s q i 0x23 = some (x, r) ∧ slotBytes s < getLE r.ent 32 4) ∧
    (∃ (s : State) (i : Nat) (w : RegWr) (c : CbSlot), CmdOpen s i 0x308 1 w ∧ getPage s i 0x300 < cbSlots s ∧ instHas s i 14 =
      true ∧ owns1 s.own.cb (getPage s i 0x300) i = true ∧ Tab.find s.cbs (getPage s i 0x300) = some c ∧ c.st ≠ .loading ∧ c.elem
      < 16 ∧ c.vlen < 256) ∧
    (∃ (s : State) (i : Nat) (w : RegWr), CmdOpen s i 0x308 1 w ∧ getPage s i 0x300 < cbSlots s ∧ instHas s i 14 = true ∧ owns1
      s.own.cb (getPage s i 0x300) i = true ∧ Tab.find s.cbs (getPage s i 0x300) = none) ∧
    (∃ (s : State) (i : Nat) (w : RegWr), CmdOpen s i 0x308 2 w ∧ getPage s i 0x300 < cbSlots s ∧ instHas s i 14 = true ∧ owns1
      s.own.cb (getPage s i 0x300) i = true ∧ (∀ c, Tab.find s.cbs (getPage s i 0x300) = some c → c.st ≠ .loading) ∧ cbBusy s
      (getPage s i 0x300) = false) ∧
    (∃ (s : State) (i : Nat) (w : RegWr), CmdOpen s i 0x308 2 w ∧ getPage s i 0x300 < cbSlots s ∧ instHas s i 14 = true ∧ owns1
      s.own.cb (getPage s i 0x300) i = true ∧ cbBusy s (getPage s i 0x300) = true) ∧
    (∃ (s : State) (n : Nat) (c : CbSlot), Tab.find s.cbs n = some c ∧ c.st = .loaded ∧ s.log.staged.length < 64) :=
  ⟨⟨edev cbent, 0, 0, wqA, inf cbent, cbAdm, cbProbe, cbOpen, cbRead.1, cbRead.2, by decide +kernel⟩,
   ⟨edev (let b : Bytes := [0xA3, 0] ++ putLE 2 0xFFFF ++ zeros 8 ++ putLE 2 2 ++ putLE 1 4 ++ putLE 1 1 ++ putLE 2 16 ++ putLE 2 0 ++ putLE 8 0x100000 ++ putLE 4 0x100 ++ putLE 4 0xFFFFF000 ++ zeros 24; b ++ putLE 4 (crcN b)),
     0, 0, wqA,
     inf (let b : Bytes := [0xA3, 0] ++ putLE 2 0xFFFF ++ zeros 8 ++ putLE 2 2 ++ putLE 1 4 ++ putLE 1 1 ++ putLE 2 16 ++ putLE 2 0 ++ putLE 8 0x100000 ++ putLE 4 0x100 ++ putLE 4 0xFFFFF000 ++ zeros 24; b ++ putLE 4 (crcN b)),
     by decide +kernel⟩,
   ⟨{ qdev wq1 with cbs := [(2, ({ st := .loaded, data := [], crc := 0, cbmax := 0, vlen := 4, entries := 16, elem := 1, bad1 := false, bad2 := false } : CbSlot))], pages := [(pageKey 1 0x300, 2)] },
     1, hw 1,
     ({ st := .loaded, data := [], crc := 0, cbmax := 0, vlen := 4, entries := 16, elem := 1, bad1 := false, bad2 := false } : CbSlot),
     by decide +kernel⟩,
   ⟨{ qdev wq1 with pages := [(pageKey 1 0x300, 2)] }, 1, hw 1, by decide +kernel⟩,
   ⟨{ qdev wq1 with cbs := [(2, ({ st := .loaded, data := [], crc := 0, cbmax := 0, vlen := 4, entries := 16, elem := 1, bad1 := false, bad2 := false } : CbSlot))], pages := [(pageKey 1 0x300, 2)] },
     1, hw 2, by decide +kernel⟩,
   ⟨{ edev (let b : Bytes := [0xA3, 0] ++ putLE 2 0xFFFF ++ zeros 8 ++ putLE 2 2 ++ putLE 1 4 ++ putLE 1 1 ++ putLE 2 16 ++ putLE 2 0 ++ putLE 8 0x100000 ++ putLE 4 0x100 ++ putLE 4 64 ++ zeros 24; b ++ putLE 4 (crcN b)) with pages := [(pageKey 1 0x300, 2)] },
     1, hw 2, by decide +kernel⟩,
   ⟨{ qdev wq1 with cbs := [(2, ({ st := .loaded, data := [], crc := 0, cbmax := 0, vlen := 4, entries := 16, elem := 1, bad1 := false, bad2 := false } : CbSlot))], pages := [(pageKey 1 0x300, 2)] },
     2, ({ st := .loaded, data := [], crc := 0, cbmax := 0, vlen := 4, entries := 16, elem := 1, bad1 := false, bad2 := false } : CbSlot),
     by decide +kernel⟩⟩

/-- Witnesses of `Obligations.CollectivesJoinTheirGroups`. -/
theorem wit_CollectivesJoinTheirGroups :
    (∃ (s : State) (q i : Nat) (r : Infl) (n : Nat) (g : Group) (u : State) (src : Bytes), CollReady s q i 1 r n g u src) ∧
    (∃ (s : State) (q i : Nat) (r : Infl) (n : Nat) (g : Group) (u : State) (src : Bytes), CollReady s q i 2 r n g u src) ∧
    (∃ (s : State) (q i : Nat) (r : Infl) (n : Nat) (g : Group) (u : State) (src : Bytes), CollReady s q i 3 r n g u src) ∧
    (∃ (s : State) (q i : Nat) (r : Infl) (n : Nat) (g : Group) (u : State) (src : Bytes), CollReady s q i 4 r n g u src) ∧
    (∃ (s : State) (q i : Nat) (r : Infl) (n : Nat) (g : Group) (u : State) (src : Bytes), CollReady s q i 5 r n g u src) ∧
    (∃ (s : State) (q i : Nat) (r : Infl) (n : Nat) (g : Group) (u : State) (src : Bytes), CollReady s q i 6 r n g u src) ∧
    (∃ (s : State) (q i : Nat) (r : Infl) (n : Nat) (g : Group) (u : State) (src : Bytes), CollReady s q i 7 r n g u src) ∧
    (∃ (s : State) (q i : Nat) (r : Infl) (n : Nat) (g : Group) (u : State) (src : Bytes), CollReady s q i 8 r n g u src) ∧
    (∃ (s : State) (q i : Nat) (x : Wq) (r : Infl) (n : Nat) (g : Group), mayDispatch s q i 0x20 = some (x, r) ∧ getLE r.ent 12 1
      = 1 ∧ n = getLE r.ent 20 4 ∧ Tab.find s.groups n = some g ∧ g.error.isSome = true) ∧
    (∃ (s : State) (q i : Nat) (x : Wq) (r : Infl) (n : Nat) (g : Group), mayDispatch s q i 0x20 = some (x, r) ∧ getLE r.ent 12 1
      = 6 ∧ n = getLE r.ent 20 4 ∧ Tab.find s.groups n = some g ∧ g.error = none ∧ g.coll.isSome = true) ∧
    (∃ (s : State) (n : Nat) (g : Group) (x : Nat) (c : Coll), Tab.find s.groups n = some g ∧ g.coll = some c ∧ launchOf s c.q c.i
      = none ∧ s.groups.find? (fun p => match p.2.coll with | some y => y.q = c.q && y.i = c.i && !y.runnel | none => false) =
      some (n, g) ∧ s.fw.colls.any (fun p => p.2 = n) = false ∧ mayTakeSlot s g.inst = true ∧ firstWaiting s g.inst c.order = true
      ∧ pickSlot s = some x ∧ Runs s (.furrow (x / 16))) :=
  ⟨⟨gdev grp0 (coent 1), 0, 0, inf (coent 1), 0, grp0,
    (accOf (collAdmit (gdev grp0 (coent 1)) 0 0 1 (inf (coent 1)) (collLens (gdev grp0 (coent 1)) grp0 (coent 1)) true true)).1,
    (accOf (collAdmit (gdev grp0 (coent 1)) 0 0 1 (inf (coent 1)) (collLens (gdev grp0 (coent 1)) grp0 (coent 1)) true true)).2, ⟨wqA,
    by decide +kernel, by decide +kernel, by decide +kernel, by decide +kernel, by decide +kernel, by decide +kernel, by decide +kernel,
    .inr ⟨inst1, by decide +kernel, by decide +kernel⟩, by decide +kernel, by decide +kernel⟩⟩,
   ⟨gdev grp0 (coent 2), 0, 0, inf (coent 2), 0, grp0,
     (accOf (collAdmit (gdev grp0 (coent 2)) 0 0 1 (inf (coent 2)) (collLens (gdev grp0 (coent 2)) grp0 (coent 2)) true true)).1,
     (accOf (collAdmit (gdev grp0 (coent 2)) 0 0 1 (inf (coent 2)) (collLens (gdev grp0 (coent 2)) grp0 (coent 2)) true true)).2, ⟨wqA,
     by decide +kernel, by decide +kernel, by decide +kernel, by decide +kernel, by decide +kernel, by decide +kernel, by decide +kernel,
     .inr ⟨inst1, by decide +kernel, by decide +kernel⟩, by decide +kernel, by decide +kernel⟩⟩,
   ⟨gdev grp0 (coent 3), 0, 0, inf (coent 3), 0, grp0,
     (accOf (collAdmit (gdev grp0 (coent 3)) 0 0 1 (inf (coent 3)) (collLens (gdev grp0 (coent 3)) grp0 (coent 3)) true true)).1,
     (accOf (collAdmit (gdev grp0 (coent 3)) 0 0 1 (inf (coent 3)) (collLens (gdev grp0 (coent 3)) grp0 (coent 3)) true true)).2, ⟨wqA,
     by decide +kernel, by decide +kernel, by decide +kernel, by decide +kernel, by decide +kernel, by decide +kernel, by decide +kernel,
     .inr ⟨inst1, by decide +kernel, by decide +kernel⟩, by decide +kernel, by decide +kernel⟩⟩,
   ⟨gdev grp0 (coent 4), 0, 0, inf (coent 4), 0, grp0,
     (accOf (collAdmit (gdev grp0 (coent 4)) 0 0 1 (inf (coent 4)) (collLens (gdev grp0 (coent 4)) grp0 (coent 4)) true true)).1,
     (accOf (collAdmit (gdev grp0 (coent 4)) 0 0 1 (inf (coent 4)) (collLens (gdev grp0 (coent 4)) grp0 (coent 4)) true true)).2, ⟨wqA,
     by decide +kernel, by decide +kernel, by decide +kernel, by decide +kernel, by decide +kernel, by decide +kernel, by decide +kernel,
     .inr ⟨inst1, by decide +kernel, by decide +kernel⟩, by decide +kernel, by decide +kernel⟩⟩,
   ⟨gdev grp0 (coent 5), 0, 0, inf (coent 5), 0, grp0,
     (accOf (collAdmit (gdev grp0 (coent 5)) 0 0 1 (inf (coent 5)) (collLens (gdev grp0 (coent 5)) grp0 (coent 5)) true true)).1,
     (accOf (collAdmit (gdev grp0 (coent 5)) 0 0 1 (inf (coent 5)) (collLens (gdev grp0 (coent 5)) grp0 (coent 5)) true true)).2, ⟨wqA,
     by decide +kernel, by decide +kernel, by decide +kernel, by decide +kernel, by decide +kernel, by decide +kernel, by decide +kernel,
     .inr ⟨inst1, by decide +kernel, by decide +kernel⟩, by decide +kernel, by decide +kernel⟩⟩,
   ⟨gdev grp0 (coent 6), 0, 0, inf (coent 6), 0, grp0,
     (accOf (collAdmit (gdev grp0 (coent 6)) 0 0 1 (inf (coent 6)) (collLens (gdev grp0 (coent 6)) grp0 (coent 6)) true true)).1,
     (accOf (collAdmit (gdev grp0 (coent 6)) 0 0 1 (inf (coent 6)) (collLens (gdev grp0 (coent 6)) grp0 (coent 6)) true true)).2, ⟨wqA,
     by decide +kernel, by decide +kernel, by decide +kernel, by decide +kernel, by decide +kernel, by decide +kernel, by decide +kernel,
     .inr ⟨inst1, by decide +kernel, by decide +kernel⟩, by decide +kernel, by decide +kernel⟩⟩,
   ⟨gdev grp0 (coent 7), 0, 0, inf (coent 7), 0, grp0,
     (accOf (collAdmit (gdev grp0 (coent 7)) 0 0 1 (inf (coent 7)) (collLens (gdev grp0 (coent 7)) grp0 (coent 7)) true true)).1,
     (accOf (collAdmit (gdev grp0 (coent 7)) 0 0 1 (inf (coent 7)) (collLens (gdev grp0 (coent 7)) grp0 (coent 7)) true true)).2, ⟨wqA,
     by decide +kernel, by decide +kernel, by decide +kernel, by decide +kernel, by decide +kernel, by decide +kernel, by decide +kernel,
     .inr ⟨inst1, by decide +kernel, by decide +kernel⟩, by decide +kernel, by decide +kernel⟩⟩,
   ⟨gdev grp0 (coent 8), 0, 0, inf (coent 8), 0, grp0,
     (accOf (collAdmit (gdev grp0 (coent 8)) 0 0 1 (inf (coent 8)) (collLens (gdev grp0 (coent 8)) grp0 (coent 8)) false false)).1,
     (accOf (collAdmit (gdev grp0 (coent 8)) 0 0 1 (inf (coent 8)) (collLens (gdev grp0 (coent 8)) grp0 (coent 8)) false false)).2, ⟨wqA,
     by decide +kernel, by decide +kernel, by decide +kernel, by decide +kernel, by decide +kernel, by decide +kernel, by decide +kernel,
     .inr ⟨inst1, by decide +kernel, by decide +kernel⟩, by decide +kernel, by decide +kernel⟩⟩,
   ⟨gdev { grp0 with error := some 5 } (coent 1), 0, 0, wqA, inf (coent 1), 0, { grp0 with error := some 5 }, by decide +kernel⟩,
   ⟨gdev { grp0 with coll := some ({ q := 0, i := 0, seq := 4, sig := 0, since := 0, order := 0, runnel := false, src := [], raw := [], hits := [], sent := [], votes := [], voted := false, credited := [] } : Coll) } (coent 6),
     0, 0, wqA, inf (coent 6), 0,
     { grp0 with coll := some ({ q := 0, i := 0, seq := 4, sig := 0, since := 0, order := 0, runnel := false, src := [], raw := [], hits := [], sent := [], votes := [], voted := false, credited := [] } : Coll) },
     by decide +kernel⟩,
   ⟨{ gdev { grp0 with coll := some ({ q := 0, i := 0, seq := 4, sig := 0, since := 0, order := 0, runnel := false, src := [], raw := [], hits := [], sent := [], votes := [], voted := false, credited := [] } : Coll) } (coent 6) with insts := (ydev lau).insts }, 0, { grp0 with coll := some ({ q := 0, i := 0, seq := 4, sig := 0, since := 0, order := 0, runnel := false, src := [], raw := [], hits := [], sent := [], votes := [], voted := false, credited := [] } : Coll) }, 0, ({ q := 0, i := 0, seq := 4, sig := 0, since := 0, order := 0, runnel := false, src := [], raw := [], hits := [], sent := [], votes := [], voted := false, credited := [] } : Coll), by decide +kernel⟩⟩

/-- Witnesses of `Obligations.CompletionDoorbellReleasesEntries`. -/
theorem wit_CompletionDoorbellReleasesEntries :
    (∃ (s : State) (c : Nat) (w : RegWr) (x : Cq), CqOpen s c w x ∧ 2 ^ x.log2 < sub32 x.cpi w.data.toNat) ∧
    (∃ (s : State) (c : Nat) (w : RegWr) (x : Cq), CqOpen s c w x ∧ sub32 x.cpi w.data.toNat ≤ 2 ^ x.log2 ∧ sub32 x.cpi
      w.data.toNat < sub32 x.cpi x.cci) ∧
    (∃ (s : State) (c : Nat) (w : RegWr) (x : Cq), CqOpen s c w x ∧ sub32 x.cpi w.data.toNat ≤ 2 ^ x.log2 ∧ sub32 x.cpi x.cci ≤
      sub32 x.cpi w.data.toNat) :=
  ⟨⟨{ qdev wq1 with cqs := [(0, { cq1 with cpi := 10, cci := 4 })] }, 0, hw 11, { cq1 with cpi := 10, cci := 4 }, by decide +kernel⟩,
   ⟨{ qdev wq1 with cqs := [(0, { cq1 with cpi := 10, cci := 4 })] }, 0, hw 7, { cq1 with cpi := 10, cci := 4 }, by decide +kernel⟩,
   ⟨{ qdev wq1 with cqs := [(0, { cq1 with cpi := 10, cci := 4 })] }, 0, hw 4, { cq1 with cpi := 10, cci := 4 }, by decide +kernel⟩⟩

/-- Witnesses of `Obligations.CompletionQueuesFollowTheirCommands`. -/
theorem wit_CompletionQueuesFollowTheirCommands :
    (∃ (s : State) (i : Nat) (w : RegWr), CmdOpen s i 0x058 1 w ∧ firstFail (ccmdHead s i w) = none ∧ 4 ≤ fld (getPage s i 0x044)
      4 0 ∧ fld (getPage s i 0x044) 4 0 ≤ 20 ∧ fld (getPage s i 0x044) 26 16 < 2048 ∧ Tab.has s.cqs (cSel s i) = false) ∧
    (∃ (s : State) (i : Nat) (w : RegWr), CmdOpen s i 0x058 2 w ∧ firstFail (ccmdHead s i w) = none ∧ Tab.has s.cqs (cSel s i) =
      true ∧ cqUnbound s (cSel s i) = true) ∧
    (∃ (s : State) (i : Nat) (w : RegWr) (x : Cq), CmdOpen s i 0x058 3 w ∧ firstFail (ccmdHead s i w) = none ∧ Tab.find s.cqs
      (cSel s i) = some x ∧ x.error = false ∧ cqUnbound s (cSel s i) = true ∧ cqRsv s (cSel s i) = 0) ∧
    (∃ (s : State) (c : Nat) (w : RegWr) (x : Cq), CqOpen s c w x ∧ sub32 x.cpi w.data.toNat ≤ 2 ^ x.log2 ∧ sub32 x.cpi
      w.data.toNat < sub32 x.cpi x.cci) ∧
    (∃ (s : State) (c : Nat) (w : RegWr) (x : Cq), CqOpen s c w x ∧ 2 ^ x.log2 < sub32 x.cpi w.data.toNat ∧ s.vp.werrValid =
      false) ∧
    (∃ (s : State) (c : Nat) (w : RegWr) (x : Cq), CqOpen s c w x ∧ noRsv w 0xFFFFFFFE = true ∧ w.data ≠ 0) ∧
    (∃ (s : State) (c : Nat) (x : Cq) (a : Nat), Tab.find s.cqs c = some x ∧ x.armed = true ∧ x.armFrom = some a) ∧
    (∃ (s : State) (q : Nat) (x : Wq) (i : Nat) (r : Infl) (d : Done) (c : Cq) (u : State), Tab.find s.wqs q = some x ∧ oldest s q
      = some (i, r) ∧ r.done = some d ∧ Tab.find s.cqs x.cq = some c ∧ c.error = false ∧ c.armed = false ∧ entSynko r.ent = 0xFFFF
      ∧ Tab.find s.fw.launches (inflKey q i) = none ∧ d.status = Status.ok ∧ writeMem s c.inst (c.ring + 32 * (c.cpi % 2 ^
      c.log2)) (cqeBytes (phaseOf c.cpi c.log2) q i (entOp r.ent) (entWrId r.ent) d) = .ok u [] ∧ u.wqs = s.wqs ∧ u.fw = s.fw ∧
      x.st = .enabled) ∧
    (∃ (s : State) (q : Nat) (x : Wq) (c : Cq) (u : State), Tab.find s.wqs q = some x ∧ x.st = .error ∧ x.errOwed = true ∧ owed s
      q = [] ∧ Tab.find s.cqs x.cq = some c ∧ c.error = false ∧ c.armed = false ∧ cqRsv s x.cq < 2 ^ c.log2 ∧ writeMem s c.inst
      (c.ring + 32 * (c.cpi % 2 ^ c.log2)) (cqeBytes (phaseOf c.cpi c.log2) q x.ci 0 []
      { status := x.errStatus, cflags := 1, detail := 0, bytes := 0, aux := 0 }) = .ok u [] ∧ u.wqs = s.wqs) :=
  ⟨⟨{ qdev wq1 with pages := [(pageKey 1 0x040, 5)] }, 1, hw 1, by decide +kernel⟩,
   ⟨{ qdev wq1 with wqs := [], pages := [(pageKey 1 0x040, 0)] }, 1, hw 2, by decide +kernel⟩,
   ⟨{ qdev wq1 with wqs := [], pages := [(pageKey 1 0x040, 0)] }, 1, hw 3, cq1, by decide +kernel⟩,
   ⟨{ qdev wq1 with cqs := [(0, ({ cq1 with cpi := 5, cci := 2 } : Cq))] }, 0, hw 4, ({ cq1 with cpi := 5, cci := 2 } : Cq),
     by decide +kernel⟩,
   ⟨{ qdev wq1 with cqs := [(0, ({ cq1 with cpi := 5, cci := 2 } : Cq))] }, 0, hw 6, ({ cq1 with cpi := 5, cci := 2 } : Cq),
     by decide +kernel⟩,
   ⟨qdev wq1, 0, hw 1, cq1, by decide +kernel⟩,
   ⟨{ qdev wq1 with cqs := [(0, ({ cq1 with armed := true, armFrom := some 3 } : Cq))] }, 0,
     ({ cq1 with armed := true, armFrom := some 3 } : Cq), 3, by decide +kernel⟩,
   ⟨({ qdev wqA with infl := [(0, ({ inf (ent 0 0 0 0 []) with disp := true, done := some ({ status := Status.ok, cflags := 0, detail := 0, bytes := 7, aux := 0 } : Done) } : Infl))] } : State),
     0, wqA, 0,
     ({ inf (ent 0 0 0 0 []) with disp := true, done := some ({ status := Status.ok, cflags := 0, detail := 0, bytes := 7, aux := 0 } : Done) } : Infl),
     ({ status := Status.ok, cflags := 0, detail := 0, bytes := 7, aux := 0 } : Done), cq1,
     (accOf (writeMem ({ qdev wqA with infl := [(0, ({ inf (ent 0 0 0 0 []) with disp := true, done := some ({ status := Status.ok, cflags := 0, detail := 0, bytes := 7, aux := 0 } : Done) } : Infl))] } : State) 1 0x101000 (cqeBytes 1 0 0 0 (zeros 8) ({ status := Status.ok, cflags := 0, detail := 0, bytes := 7, aux := 0 } : Done)))).1,
     by decide +kernel⟩,
   ⟨qdev ({ wqA with st := .error, errOwed := true, errStatus := Status.descriptorCrc } : Wq), 0,
     ({ wqA with st := .error, errOwed := true, errStatus := Status.descriptorCrc } : Wq), cq1,
     (accOf (writeMem (qdev ({ wqA with st := .error, errOwed := true, errStatus := Status.descriptorCrc } : Wq)) 1 0x101000 (cqeBytes 1 0 1 0 [] { status := Status.descriptorCrc, cflags := 1, detail := 0, bytes := 0, aux := 0 }))).1,
     by decide +kernel⟩⟩

/-- Witnesses of `Obligations.CounterAndGateCommandsActAsStated`. -/
theorem wit_CounterAndGateCommandsActAsStated :
    (∃ (s : State) (i : Nat) (w : RegWr), CmdOpen s i 0x214 1 w ∧ firstFail (syHead s i w) = none ∧ syLeaving s i = false ∧
      waiting s (sySel s i) = []) ∧
    (∃ (s : State) (i : Nat) (w : RegWr), CmdOpen s i 0x214 2 w ∧ firstFail (syHead s i w) = none ∧ syLeaving s i = false ∧ (cnt s
      (sySel s i)).poison = false ∧ (cnt s (sySel s i)).sat = false ∧ (cnt s (sySel s i)).value + syVal s i < 2 ^ 48 ∧ waiting s
      (sySel s i) = []) ∧
    (∃ (s : State) (i : Nat) (w : RegWr), CmdOpen s i 0x214 2 w ∧ firstFail (syHead s i w) = none ∧ syLeaving s i = false ∧ (cnt s
      (sySel s i)).poison = true) ∧
    (∃ (s : State) (i : Nat) (w : RegWr), CmdOpen s i 0x214 3 w ∧ firstFail (syHead s i w) = none ∧ getPage s i 0x20C ≠ i ∧ (cnt s
      (sySel s i)).share = none) ∧
    (∃ (s : State) (i : Nat) (w : RegWr) (j : Nat), CmdOpen s i 0x214 4 w ∧ firstFail (syHead s i w) = none ∧ (cnt s (sySel s
      i)).share = some j ∧ syUsed s (sySel s i) j = false) ∧
    (∃ (s : State) (i : Nat) (w : RegWr) (j : Nat), CmdOpen s i 0x214 4 w ∧ firstFail (syHead s i w) = none ∧ (cnt s (sySel s
      i)).share = some j ∧ syUsed s (sySel s i) j = true) ∧
    (∃ (s : State) (i : Nat) (w : RegWr) (x : Wq), CmdOpen s i 0x240 1 w ∧ firstFail (gateHead s i w true) = none ∧ Tab.find s.wqs
      (gateSel s i) = some x ∧ x.st = .disabled) ∧
    (∃ (s : State) (i : Nat) (w : RegWr) (x : Wq), CmdOpen s i 0x240 1 w ∧ firstFail (gateHead s i w true) = none ∧ Tab.find s.wqs
      (gateSel s i) = some x ∧ x.st ≠ .disabled) ∧
    (∃ (s : State) (i : Nat) (w : RegWr) (x : Wq), CmdOpen s i 0x240 2 w ∧ firstFail (gateHead s i w false) = none ∧ Tab.find
      s.wqs (gateSel s i) = some x ∧ x.st = .disabled) ∧
    (∃ (s : State) (i : Nat) (w : RegWr) (x : Wq) (g : Gate), CmdOpen s i 0x240 3 w ∧ firstFail (gateHead s i w false) = none ∧
      Tab.find s.wqs (gateSel s i) = some x ∧ x.gate = some g ∧ g.counter < 2 ^ 32 ∧ g.timeout < 2 ^ 32) ∧
    (∃ (s : State) (i : Nat) (w : RegWr) (x : Wq), CmdOpen s i 0x240 3 w ∧ firstFail (gateHead s i w false) = none ∧ Tab.find
      s.wqs (gateSel s i) = some x ∧ x.gate = none) :=
  ⟨⟨cpdev [(pageKey 1 0x200, 3), (pageKey 1 0x204, 6)] (cn0 5) wq1, 1, hw 1, by decide +kernel⟩,
   ⟨cpdev [(pageKey 1 0x200, 3), (pageKey 1 0x204, 6)] (cn0 5) wq1, 1, hw 2, by decide +kernel⟩,
   ⟨cpdev [(pageKey 1 0x200, 3), (pageKey 1 0x204, 6)] { cn0 5 with poison := true } wq1, 1, hw 2, by decide +kernel⟩,
   ⟨cpdev [(pageKey 1 0x200, 3), (pageKey 1 0x204, 6)] (cn0 5) wq1, 1, hw 3, by decide +kernel⟩,
   ⟨cpdev [(pageKey 1 0x200, 3), (pageKey 1 0x204, 6)] { cn0 5 with share := some 0 } wq1, 1, hw 4, 0, by decide +kernel⟩,
   ⟨cpdev [(pageKey 1 0x200, 3), (pageKey 1 0x204, 6)] { cn0 5 with share := some 1 } { wq1 with gate := some { counter := 3, base := 50, step := 1, every := 1, origin := 0, timeout := 4 } },
     1, hw 4, 1, by decide +kernel⟩,
   ⟨cpdev [(pageKey 1 0x224, 3), (pageKey 1 0x228, 50), (pageKey 1 0x230, 1), (pageKey 1 0x234, 2), (pageKey 1 0x238, 4)] (cn0 5) { wq1 with st := .disabled },
     1, hw 1, { wq1 with st := .disabled }, by decide +kernel⟩,
   ⟨cpdev [(pageKey 1 0x224, 3), (pageKey 1 0x228, 50), (pageKey 1 0x230, 1), (pageKey 1 0x234, 2), (pageKey 1 0x238, 4)] (cn0 5) wq1, 1,
     hw 1, wq1, by decide +kernel⟩,
   ⟨cpdev [(pageKey 1 0x224, 3), (pageKey 1 0x228, 50), (pageKey 1 0x230, 1), (pageKey 1 0x234, 2), (pageKey 1 0x238, 4)] (cn0 5) { wq1 with st := .disabled },
     1, hw 2, { wq1 with st := .disabled }, by decide +kernel⟩,
   ⟨cpdev [(pageKey 1 0x224, 3), (pageKey 1 0x228, 50), (pageKey 1 0x230, 1), (pageKey 1 0x234, 2), (pageKey 1 0x238, 4)] (cn0 5) { wq1 with gate := some { counter := 3, base := 50, step := 1, every := 1, origin := 0, timeout := 4 } },
     1, hw 3, { wq1 with gate := some { counter := 3, base := 50, step := 1, every := 1, origin := 0, timeout := 4 } },
     { counter := 3, base := 50, step := 1, every := 1, origin := 0, timeout := 4 }, by decide +kernel⟩,
   ⟨cpdev [(pageKey 1 0x224, 3), (pageKey 1 0x228, 50), (pageKey 1 0x230, 1), (pageKey 1 0x234, 2), (pageKey 1 0x238, 4)] (cn0 5) wq1, 1,
     hw 3, wq1, by decide +kernel⟩⟩

/-- Witnesses of `Obligations.CounterOperationsWaitAndApply`. -/
theorem wit_CounterOperationsWaitAndApply :
    (∃ (s : State) (q i : Nat) (x : Wq) (r : Infl), mayDispatch s q i 0x22 = some (x, r) ∧ sopOf r.ent = 1 ∧ underTest s 4 0 =
      false ∧ (cnt s (sopCounter r.ent)).poison = false) ∧
    (∃ (s : State) (q i : Nat) (x : Wq) (r : Infl), mayDispatch s q i 0x22 = some (x, r) ∧ sopOf r.ent = 1 ∧ underTest s 4 0 =
      false ∧ (cnt s (sopCounter r.ent)).poison = true) ∧
    (∃ (s : State) (q i : Nat) (x : Wq) (r : Infl), mayDispatch s q i 0x22 = some (x, r) ∧ sopOf r.ent = 2 ∧ underTest s 4 0 =
      false) ∧
    (∃ (s : State) (q i : Nat) (x : Wq) (r : Infl), mayDispatch s q i 0x22 = some (x, r) ∧ sopOf r.ent = 3 ∧ underTest s 4 0 =
      false ∧ (cnt s (sopCounter r.ent)).poison = false ∧ (cnt s (sopCounter r.ent)).sat = false ∧ sopValue r.ent ≤ (cnt s
      (sopCounter r.ent)).value) ∧
    (∃ (s : State) (q i : Nat) (x : Wq) (r : Infl), mayDispatch s q i 0x22 = some (x, r) ∧ sopOf r.ent = 3 ∧ underTest s 4 0 =
      false ∧ (cnt s (sopCounter r.ent)).poison = false ∧ (cnt s (sopCounter r.ent)).sat = false ∧ (cnt s (sopCounter
      r.ent)).value < sopValue r.ent) ∧
    (∃ (s : State) (q i : Nat) (x : Wq) (r : Infl) (y : Wq), mayDispatch s q i 0x22 = some (x, r) ∧ sopOf r.ent = 4 ∧ underTest s
      4 0 = false ∧ (cnt s (sopCounter r.ent)).poison = false ∧ (cnt s (sopCounter r.ent)).sat = false ∧ sopValue r.ent ≤ (cnt s
      (sopCounter r.ent)).value ∧ Tab.find s.wqs (getLE r.ent 32 4) = some y ∧ y.st = .enabled) ∧
    (∃ (s : State) (q i : Nat) (x : Wq) (r : Infl) (y : Wq), mayDispatch s q i 0x22 = some (x, r) ∧ sopOf r.ent = 4 ∧ underTest s
      4 0 = false ∧ (cnt s (sopCounter r.ent)).poison = false ∧ (cnt s (sopCounter r.ent)).sat = false ∧ sopValue r.ent ≤ (cnt s
      (sopCounter r.ent)).value ∧ Tab.find s.wqs (getLE r.ent 32 4) = some y ∧ y.st = .disabled ∧ enableFail s y = none) ∧
    (∃ (s : State) (q i : Nat) (r : Infl) (d : Nat), inflOf s q i = some r ∧ r.deadline = some d ∧ r.disp = true ∧ r.done = none ∧
      entOp r.ent = 0x22) ∧
    (∃ (s : State) (n v r : Nat), s.syPend[n]? = some { counter := v, set := false, value := r, src := .command } ∧ Runs s .synko
      ∧ underTest s 4 0 = false ∧ ((cnt s v).journal.filter (tagLive s)).length ≤ 5 ∧ (cnt s v).poison = false ∧ (cnt s v).sat =
      false ∧ (cnt s v).value + r < 2 ^ 48 ∧ waiting s v = []) ∧
    (∃ (s : State) (n v r : Nat), s.syPend[n]? = some { counter := v, set := false, value := r, src := .command } ∧ Runs s .synko
      ∧ underTest s 4 0 = false ∧ ((cnt s v).journal.filter (tagLive s)).length ≤ 5 ∧ (cnt s v).poison = false ∧ (cnt s v).sat =
      false ∧ 2 ^ 48 ≤ (cnt s v).value + r ∧ s.log.staged.length < 64 ∧ waiting s v = [] ∧ (∀ x ∈ s.wqs, x.2.gate = none)) ∧
    (∃ (s : State) (n q i v r : Nat) (e : Infl), s.syPend[n]? = some { counter := v, set := false, value := r, src := .op q i } ∧
      Runs s .synko ∧ underTest s 4 0 = false ∧ ((cnt s v).journal.filter (tagLive s)).length < 5 ∧ (cnt s v).poison = false ∧
      (cnt s v).sat = false ∧ (cnt s v).value + r < 2 ^ 48 ∧ waiting s v = [] ∧ inflOf s q i = some e ∧ e.done = none ∧ sopCounter
      e.ent = v) ∧
    (∃ (s : State) (n : Nat) (ch : SyChange), s.syPend[n]? = some ch ∧ gated (wakeBlk s .synko) .synko = true) ∧
    (∃ (s : State) (q : Nat) (x : Wq) (h : Nat) (g : Gate), Tab.find s.wqs q = some x ∧ x.holdSince = some h ∧ x.gate = some g ∧
      g.timeout ≠ 0 ∧ gateHolds s q x = true) :=
  ⟨⟨cndev (syent 1 3 7 0 1) (cn0 5) wq1, 0, 0, wqA, inf (syent 1 3 7 0 1), by decide +kernel⟩,
   ⟨cndev (syent 1 3 7 0 1) { cn0 5 with poison := true } wq1, 0, 0, wqA, inf (syent 1 3 7 0 1), by decide +kernel⟩,
   ⟨cndev (syent 2 3 7 0 1) (cn0 5) wq1, 0, 0, wqA, inf (syent 2 3 7 0 1), by decide +kernel⟩,
   ⟨cndev (syent 3 3 5 0 1) (cn0 5) wq1, 0, 0, wqA, inf (syent 3 3 5 0 1), by decide +kernel⟩,
   ⟨cndev (syent 3 3 6 4 1) (cn0 5) wq1, 0, 0, wqA, inf (syent 3 3 6 4 1), by decide +kernel⟩,
   ⟨cndev (syent 4 3 5 0 1) (cn0 5) wq1, 0, 0, wqA, inf (syent 4 3 5 0 1), wq1, by decide +kernel⟩,
   ⟨cndev (syent 4 3 5 0 1) (cn0 5) ({ wq1 with st := .disabled, pi := 0, pushIdx := 0 }), 0, 0, wqA, inf (syent 4 3 5 0 1),
     ({ wq1 with st := .disabled, pi := 0, pushIdx := 0 }), by decide +kernel⟩,
   ⟨{ cndev (syent 3 3 6 4 1) (cn0 5) wq1 with infl := [(0, { inf (syent 3 3 6 4 1) with disp := true, deadline := some 4000 })] }, 0, 0,
     { inf (syent 3 3 6 4 1) with disp := true, deadline := some 4000 }, 4000, by decide +kernel⟩,
   ⟨{ cndev (syent 1 3 9 0 1) (cn0 5) wq1 with syPend := [{ counter := 4, set := true, value := 1, src := .command }, { counter := 3, set := false, value := 9, src := .command }], infl := [(0, { inf (syent 1 3 9 0 1) with disp := true })] }, 1, 3, 9, by decide +kernel⟩,
   ⟨{ cndev (syent 1 3 9 0 1) (cn0 281474976710652) wq1 with syPend := [{ counter := 4, set := true, value := 1, src := .command }, { counter := 3, set := false, value := 9, src := .command }], infl := [(0, { inf (syent 1 3 9 0 1) with disp := true })] }, 1, 3, 9, by decide +kernel⟩,
   ⟨{ cndev (syent 1 3 9 0 1) (cn0 5) wq1 with syPend := [{ counter := 4, set := true, value := 1, src := .command }, { counter := 3, set := false, value := 9, src := .op 0 0 }], infl := [(0, { inf (syent 1 3 9 0 1) with disp := true })] }, 1, 0, 0, 3, 9, { inf (syent 1 3 9 0 1) with disp := true }, by decide +kernel⟩,
   ⟨asleep { cndev (syent 1 3 9 0 1) (cn0 5) wq1 with syPend := [{ counter := 3, set := false, value := 9, src := .command }] } .synko, 0, { counter := 3, set := false, value := 9, src := .command }, by decide +kernel⟩,
   ⟨cndev (syent 1 3 7 0 1) (cn0 5) wqG, 1, wqG, 100, { counter := 3, base := 50, step := 1, every := 1, origin := 0, timeout := 4 },
     by decide +kernel⟩⟩

/-- Witnesses of `Obligations.CulvertTransfersAndPoolsActAsStated`. -/
theorem wit_CulvertTransfersAndPoolsActAsStated :
    (∃ (s : State) (k : Nat) (w : RegWr) (b : Bytes) (u v : State) (c : Bytes) (d : State), windowLive s = true ∧ k < 64 ∧ Taken s
      w ∧ modeOf s ≠ .h ∧ pageOwned s (poolInst s k) w.src = true ∧ noRsv w 0xFFFFF000 = true ∧ leaving s (poolInst s k) = false ∧
      d = wakeBlk s .culvert ∧ gated d .culvert = false ∧ cvRunning s k (fld w.data.toNat 11 0) = false ∧ poolEn s k = true ∧ fld
      w.data.toNat 11 0 < poolCount s k ∧ readMem d (poolInst s k) (recAddr s k (fld w.data.toNat 11 0)) 32 = .ok u b ∧ recFail u
      k b = none ∧ c = recWith b 2 (BitVec.ofNat 8 (getLE b 18 1)) ∧ writeMem u (poolInst u k) (recAddr u k (fld w.data.toNat 11
      0)) c = .ok v []) ∧
    (∃ (s : State) (k : Nat) (w : RegWr), windowLive s = true ∧ k < 64 ∧ Taken s w ∧ modeOf s ≠ .h ∧ pageOwned s (poolInst s k)
      w.src = true ∧ noRsv w 0xFFFFF000 = true ∧ leaving s (poolInst s k) = false ∧ Runs s .culvert ∧ poolEn s k = false ∧ Tab.has
      s.cv.err k = false) ∧
    (∃ (s : State) (k : Nat) (w : RegWr), windowLive s = true ∧ k < 64 ∧ Taken s w ∧ modeOf s ≠ .h ∧ pageOwned s (poolInst s k)
      w.src = true ∧ noRsv w 0xFFFFF000 = true ∧ leaving s (poolInst s k) = false ∧ ¬ Runs s .culvert) ∧
    (∃ (s : State) (k i : Nat) (x : CvXfer) (st : Byte) (u : State), xferOf s k i = some x ∧ x.rec_ ≠ [] ∧ x.finished = false ∧
      x.result = some (st, []) ∧ cvSynko (recWith x.rec_ 3 st) = 0xFFFF ∧ writeMemAt x.adm s x.inst x.recAt (recWith x.rec_ 3 st)
      = .ok u []) ∧
    (∃ (s : State) (k : Nat) (w : RegWr), windowLive s = true ∧ k < 64 ∧ Taken s w ∧ bitN w.data.toNat 31 = false ∧ firstFail
      (poolCfgChecks s k w) = none) ∧
    (∃ (s : State) (k : Nat) (w : RegWr), windowLive s = true ∧ k < 64 ∧ Taken s w ∧ bitN w.data.toNat 31 = false ∧ modeOf s ≠ .h
      ∧ srcHas s w.src 5 = true ∧ noRsv w 0x000C0000 = true ∧ poolIdle s k = false ∧ fld w.data.toNat 29 0 ≠ fld (poolReg s k 8)
      29 0 ∧ fld w.data.toNat 29 20 < instMax s ∧ 12 ≤ fld w.data.toNat 17 13 ∧ fld w.data.toNat 17 13 ≤ 24 ∧ 1 ≤ fld w.data.toNat
      12 0 ∧ fld w.data.toNat 12 0 ≤ 4096 ∧ s.vp.werrValid = false) ∧
    (∃ (s : State) (w : RegWrite), windowLive s = true ∧ Taken s w.wr ∧ w.off = regAddr s 0x0A 8 ∧ regAddr s 0x0A 0 ≠ w.off ∧
      regAddr s 0x0A 4 ≠ w.off ∧ modeOf s ≠ .h ∧ devOwner s w.wr = true ∧ srcHas s w.wr.src 7 = true ∧ noRsv w.wr 0xFFFF8000 =
      true ∧ w.wr.data.toNat ≤ ovfMax s ∧ w.wr.data.toNat ≤ 16384 ∧ ovfPlaced s = false ∧ (s.pt.cxl = true ∨ w.wr.data.toNat = 0)
      ∧ w.wr.data.toNat ≠ getReg s 0x0A 8) :=
  ⟨⟨cdev, 0, hw 2, rec0, (accOf (readMem cdev (poolInst cdev 0) (recAddr cdev 0 2) 32)).1, (accOf (writeMem (accOf (readMem cdev (poolInst cdev 0) (recAddr cdev 0 2) 32)).1 (poolInst (accOf (readMem cdev (poolInst cdev 0) (recAddr cdev 0 2) 32)).1 0) (recAddr (accOf (readMem cdev (poolInst cdev 0) (recAddr cdev 0 2) 32)).1 0 2) (recWith rec0 2 (BitVec.ofNat 8 (getLE rec0 18 1))))).1, recWith rec0 2 (BitVec.ofNat 8 (getLE rec0 18 1)), wakeBlk cdev .culvert, by decide +kernel⟩,
   ⟨{ cdev with regs := [(0x0A * 2 ^ 20 + 0x108, 0x00118008)] }, 0, hw 2, by decide +kernel⟩,
   ⟨asleep cdev .culvert, 0, hw 2, by decide +kernel⟩,
   ⟨{ cdev with cv.xfers := [({ pool := 0, slot := 2, inst := 1, recAt := 0x100040, slotAt := 0x101000, rec_ := rec0, result := some (Status.ok, []), sent := true, adm := none, keys := [], spans := [] } : CvXfer)] }, 0, 2, ({ pool := 0, slot := 2, inst := 1, recAt := 0x100040, slotAt := 0x101000, rec_ := rec0, result := some (Status.ok, []), sent := true, adm := none, keys := [], spans := [] } : CvXfer), Status.ok, (accOf (writeMem ({ cdev with cv.xfers := [({ pool := 0, slot := 2, inst := 1, recAt := 0x100040, slotAt := 0x101000, rec_ := rec0, result := some (Status.ok, []), sent := true, adm := none, keys := [], spans := [] } : CvXfer)] }) 1 0x100040 (recWith rec0 3 Status.ok))).1, by decide +kernel⟩,
   ⟨cdev, 0, hw 0x00118008, by decide +kernel⟩,
   ⟨cdev, 0, hw 0x00118009, by decide +kernel⟩,
   ⟨{ dev with vp.layout := some lay, pt.cxl := true, boot.image := some { img with partner := some ⟨64, 64⟩ } }, (⟨0xB0008,
     hw 5⟩ : RegWrite), by decide +kernel⟩⟩

/-- Witnesses of `Obligations.DebugCommandsActOnTheirSlot`. -/
theorem wit_DebugCommandsActOnTheirSlot :
    (∃ (s : State) (r : MbxReq), mbxIs s 0x70 = some r ∧ dbgFail s (dbgSrc r) 0x70 r.params = none) ∧
    (∃ (s : State) (r : MbxReq) (g : Tg), mbxIs s 0x71 = some r ∧ dbgFail s (dbgSrc r) 0x71 r.params = none ∧ Tab.find s.fw.slots
      (dpKey r.params) = some g) ∧
    (∃ (s : State) (r : MbxReq) (g : Tg), mbxIs s 0x72 = some r ∧ dbgFail s (dbgSrc r) 0x72 r.params = none ∧ Tab.find s.fw.slots
      (dpKey r.params) = some g ∧ g.st = .halted) ∧
    (∃ (s : State) (r : MbxReq) (g : Tg) (c : Byte) (a : Dword) (m : Word) (l : Launch), mbxIs s 0x72 = some r ∧ dbgFail s (dbgSrc
      r) 0x72 r.params = none ∧ Tab.find s.fw.slots (dpKey r.params) = some g ∧ g.st = .dtrap ∧ g.pendTrap = some (c, a, m) ∧
      launchOf s g.q g.i = some l ∧ l.trapv ≠ 0 ∧ g.inHandler = false ∧ pushOk l g = true ∧ s.fw.dbg.haltTrap = false) ∧
    (∃ (s : State) (r : MbxReq) (g : Tg), mbxIs s 0x73 = some r ∧ dbgFail s (dbgSrc r) 0x73 r.params = none ∧ Tab.find s.fw.slots
      (dpKey r.params) = some g) ∧
    (∃ (s : State) (r : MbxReq) (g : Tg), mbxIs s 0x74 = some r ∧ dbgFail s (dbgSrc r) 0x74 r.params = none ∧ Tab.find s.fw.slots
      (dpKey r.params) = some g) ∧
    (∃ (s : State) (r : MbxReq) (g : Tg), mbxIs s 0x75 = some r ∧ dbgFail s (dbgSrc r) 0x75 r.params = none ∧ Tab.find s.fw.slots
      (dpKey r.params) = some g) ∧
    (∃ (s : State) (r : MbxReq) (g : Tg) (l : Launch), mbxIs s 0x76 = some r ∧ dbgFail s (dbgSrc r) 0x76 r.params = none ∧
      Tab.find s.fw.slots (dpKey r.params) = some g ∧ launchOf s g.q g.i = some l) ∧
    (∃ (s : State) (r : MbxReq) (g : Tg), mbxIs s 0x77 = some r ∧ dbgFail s (dbgSrc r) 0x77 r.params = none ∧ Tab.find s.fw.slots
      (dpKey r.params) = some g ∧ (∀ l, Tab.find s.fw.breaks (dpKey r.params) = some l → l.length = 4)) ∧
    (∃ (s : State) (r : MbxReq), mbxIs s 0x78 = some r ∧ dbgFail s (dbgSrc r) 0x78 r.params = none) ∧
    (∃ (s : State) (r : MbxReq), mbxIs s 0x79 = some r ∧ dbgFail s (dbgSrc r) 0x79 r.params = none ∧ (∀ p ∈ s.fw.slots, p.2.st =
      .running)) ∧
    (∃ (s : State) (r : MbxReq) (k : Nat) (g : Tg), mbxIs s 0x79 = some r ∧ dbgFail s (dbgSrc r) 0x79 r.params = none ∧ s.fw.slots
      = [(k, g)] ∧ g.st = .halted) ∧
    (∃ (s : State) (r : MbxReq) (k : Nat) (g : Tg) (l : Launch), mbxIs s 0x79 = some r ∧ dbgFail s (dbgSrc r) 0x79 r.params = none
      ∧ s.fw.slots = [(k, g)] ∧ g.st = .dtrap ∧ launchOf s g.q g.i = some l) ∧
    (∃ (s : State) (r : MbxReq) (st : Byte), mbxIs s 0x71 = some r ∧ dbgFail s (dbgSrc r) 0x71 r.params = some st) ∧
    (∃ (s : State), offered s 27 = false) ∧
    (∃ (s : State) (n : Nat) (p : Bytes), offered s 27 = true ∧ dpRange 0x71 p = true ∧ coreIn s (dpCore p) = true ∧ s.fw.dbg.src
      ≠ some n) ∧
    (∃ (s : State) (p : Bytes), offered s 27 = true ∧ dpRange 0x78 p = true ∧ coreIn s (dpCore p) = true ∧ s.fw.dbg.src.isSome =
      true) ∧
    (∃ (s : State) (b : Bytes), tenderRuns s = true ∧ b.length = 1040 ∧ jtagFail s b = none ∧ getLE b 0 1 = 0x78 ∧ dbgFail s 2
      0x78 (slice b 16 (getLE b 2 2)) = none) ∧
    (∃ (s : State) (b : Bytes) (st : Byte), tenderRuns s = true ∧ b.length = 1040 ∧ jtagFail s b = some st) :=
  ⟨⟨bgdev (tgI) ((dbg0 (some 0))) 112 (dpar 0 0 0 0), req 112 (dpar 0 0 0 0), by decide +kernel⟩,
   ⟨bgdev (tgI) ((dbg0 (some 0))) 113 (dpar 0 0 0 0), req 113 (dpar 0 0 0 0), tgI, by decide +kernel⟩,
   ⟨bgdev ({ tgI with st := .halted }) ((dbg0 (some 0))) 114 (dpar 0 0 0 0), req 114 (dpar 0 0 0 0), { tgI with st := .halted },
     by decide +kernel⟩,
   ⟨bgdev ({ tgI with st := .dtrap, pendTrap := some (0x11, 5, 3) }) ({ dbg0 (some 0) with haltTrap := false }) 114 (dpar 0 0 0 0),
     req 114 (dpar 0 0 0 0), { tgI with st := .dtrap, pendTrap := some (0x11, 5, 3) }, 0x11, 5, 3, lau, by decide +kernel⟩,
   ⟨bgdev ({ tgI with st := .halted }) ((dbg0 (some 0))) 115 (dpar 4 0 0 0), req 115 (dpar 4 0 0 0), { tgI with st := .halted },
     by decide +kernel⟩,
   ⟨bgdev ({ tgI with st := .halted }) ((dbg0 (some 0))) 116 (dpar 0 0 8 16), req 116 (dpar 0 0 8 16), { tgI with st := .halted },
     by decide +kernel⟩,
   ⟨bgdev ({ tgI with st := .halted }) ((dbg0 (some 0))) 117 (dpar 0 0 60 8 ++ [1, 2, 3, 4, 5, 6, 7, 8]),
     req 117 (dpar 0 0 60 8 ++ [1, 2, 3, 4, 5, 6, 7, 8]), { tgI with st := .halted }, by decide +kernel⟩,
   ⟨bgdev ({ tgI with st := .halted }) ((dbg0 (some 0))) 118 (dpar 0 0 0 0), req 118 (dpar 0 0 0 0), { tgI with st := .halted }, lau,
     by decide +kernel⟩,
   ⟨bgdev ({ tgI with st := .halted }) ((dbg0 (some 0))) 119 (dpar 2 80 0 0), req 119 (dpar 2 80 0 0), { tgI with st := .halted },
     by decide +kernel⟩,
   ⟨bgdev (tgI) ((dbg0 none)) 120 (dpar 3 0 0 0), req 120 (dpar 3 0 0 0), by decide +kernel⟩,
   ⟨bgdev (tgI) ((dbg0 (some 0))) 121 (dpar 0 0 0 0), req 121 (dpar 0 0 0 0), by decide +kernel⟩,
   ⟨bgdev ({ tgI with st := .halted }) ((dbg0 (some 0))) 121 (dpar 0 0 0 0), req 121 (dpar 0 0 0 0), 35, { tgI with st := .halted },
     by decide +kernel⟩,
   ⟨bgdev ({ tgI with st := .dtrap, pendTrap := some (0x11, 5, 3) }) ((dbg0 (some 0))) 121 (dpar 0 0 0 0), req 121 (dpar 0 0 0 0), 35,
     { tgI with st := .dtrap, pendTrap := some (0x11, 5, 3) }, lau, by decide +kernel⟩,
   ⟨bgdev ({ tgI with st := .halted }) ((dbg0 (some 0))) 113 (dpar 0 0 0 0), req 113 (dpar 0 0 0 0), Status.busy, by decide +kernel⟩,
   ⟨State.reset, by decide +kernel⟩,
   ⟨dev, 1, dpar 0 0 0 0, by decide +kernel⟩,
   ⟨bgdev tgI (dbg0 (some 0)) 0x78 (dpar 0 0 0 0), dpar 0 0 0 0, by decide +kernel⟩,
   ⟨dev,
     (let h : Bytes := putLE 2 0x78 ++ putLE 2 16 ++ putLE 4 5 ++ putLE 4 0; h ++ putLE 4 (crcN (h ++ dpar 3 0 0 0)) ++ dpar 3 0 0 0 ++ zeros 1008),
     by decide +kernel⟩,
   ⟨dev, zeros 1040, Status.descriptorCrc, by decide +kernel⟩⟩

/-- Witnesses of `Obligations.DormancyEntersHoldsAndWakes`. -/
theorem wit_DormancyEntersHoldsAndWakes :
    (∃ (s : State) (l : Nat), linkExists s l = true ∧ (link s l).dorm = .active ∧ (link s l).master = true ∧ (link s l).reneg =
      false ∧ dormEn s l = true ∧ endIdle s l = true) ∧
    (∃ (s : State) (l : Nat) (b : Bytes) (f : LinkFrame), FrameIn s l b f ∧ f.op = 2 ∧ (link s l).dorm = .active ∧ (link s
      l).master = false ∧ (link s l).reneg = false ∧ dormEn s l = true ∧ endIdle s l = true ∧ (link s l).busyAt + idleEnterNs s l
      ≤ s.sys.now) ∧
    (∃ (s : State) (l : Nat) (b : Bytes) (f : LinkFrame), FrameIn s l b f ∧ f.op = 2 ∧ (link s l).dorm = .active ∧ (link s
      l).master = false ∧ (endIdle s l = false ∨ s.sys.now < (link s l).busyAt + idleEnterNs s l ∨ dormEn s l = false ∨ (link s
      l).reneg = true)) ∧
    (∃ (s : State) (l : Nat) (b : Bytes) (f : LinkFrame), FrameIn s l b f ∧ f.op = 3 ∧ (link s l).dorm = .entering ∧ (link s
      l).enterAt ≠ none ∧ f.token = (link s l).token) ∧
    (∃ (s : State) (l : Nat) (b : Bytes) (f : LinkFrame), FrameIn s l b f ∧ f.op = 4 ∧ (link s l).dorm = .entering ∧ (link s
      l).enterAt ≠ none ∧ f.token = (link s l).token) ∧
    (∃ (s : State) (l : Nat) (b : Bytes) (f : LinkFrame), FrameIn s l b f ∧ f.op = 5 ∧ (link s l).dorm = .entering ∧ f.token =
      (link s l).token) ∧
    (∃ (s : State) (l : Nat), (link s l).dorm = .entering ∧ (link s l).ackFixed = true) ∧
    (∃ (s : State) (l a : Nat), (link s l).dorm = .entering ∧ (link s l).enterAt = some a) ∧
    (∃ (s : State) (l : Nat), (link s l).dorm = .dormant) ∧
    (∃ (s : State) (l : Nat) (b : Bytes) (f : LinkFrame), FrameIn s l b f ∧ f.op = 6 ∧ (link s l).dorm = .waking ∧ (link s
      l).helloSent = true ∧ (link s l).peer = some f.serial ∧ (link s l).reneg = false ∧ (f.haveWork = true ∨ f.disable = true ∨
      (link s l).helloFlags ≠ 0)) ∧
    (∃ (s : State) (l : Nat) (b : Bytes) (f : LinkFrame), FrameIn s l b f ∧ f.op = 6 ∧ (link s l).dorm = .waking ∧ (link s
      l).helloSent = true ∧ (link s l).peer = some f.serial ∧ f.haveWork = false ∧ f.disable = false ∧ (link s l).helloFlags = 0) ∧
    (∃ (s : State) (l : Nat), (link s l).dorm = .waking) ∧
    (∃ (s : State) (l t0 : Nat), (link s l).trainSince = some t0 ∧ linkExists s l = true ∧ (link s l).up = false ∧ (link s l).dorm
      = .retrain) ∧
    (∃ (s : State) (l a b c : Nat) (r : List Nat), (link s l).missAt = a :: b :: c :: r ∧ a ≤ c + 1000000000 ∧ dormEn s l = true) :=
  ⟨⟨kdev { lnk with master := true }, 0, by decide +kernel⟩,
   ⟨ldev, 0, frameBytes (lf 2), lf 2, by decide +kernel⟩,
   ⟨kdev { lnk with reneg := true }, 0, frameBytes (lf 2), lf 2, by decide +kernel⟩,
   ⟨kdev { lnk with dorm := .entering, enterAt := some 0 }, 0, frameBytes (lf 3), lf 3, by decide +kernel⟩,
   ⟨kdev { lnk with dorm := .entering, enterAt := some 0 }, 0, frameBytes (lf 4), lf 4, by decide +kernel⟩,
   ⟨kdev { lnk with dorm := .entering }, 0, frameBytes (lf 5), lf 5, by decide +kernel⟩,
   ⟨kdev { lnk with dorm := .entering, ackFixed := true }, 0, by decide +kernel⟩,
   ⟨kdev { lnk with dorm := .entering, enterAt := some 3 }, 0, 3, by decide +kernel⟩,
   ⟨kdev { lnk with dorm := .dormant }, 0, by decide +kernel⟩,
   ⟨kdev { lnk with dorm := .waking, helloSent := true }, 0, frameBytes { lf 6 with haveWork := true }, ({ lf 6 with haveWork := true } : LinkFrame), by decide +kernel⟩,
   ⟨kdev { lnk with dorm := .waking, helloSent := true }, 0, frameBytes (lf 6), lf 6, by decide +kernel⟩,
   ⟨kdev { lnk with dorm := .waking }, 0, by decide +kernel⟩,
   ⟨kdev { LinkSt.reset with dorm := .retrain, trainSince := some 3 }, 0, 3, by decide +kernel⟩,
   ⟨kdev { lnk with missAt := [1, 2, 3] }, 0, 1, 2, 3, ([] : List Nat), by decide +kernel⟩⟩

/-- Witnesses of `Obligations.EntriesArePostedFetchedAndAccepted`. -/
theorem wit_EntriesArePostedFetchedAndAccepted :
    (∃ (s : State) (q : Nat) (w : RegWr) (x : Wq), QueueOpen s q w x ∧ leaving s x.inst = false ∧ x.st ≠ .error ∧ sub32
      w.data.toNat x.ci ≤ 2 ^ x.ringLog2 ∧ sub32 x.pi x.ci < sub32 w.data.toNat x.ci) ∧
    (∃ (s : State) (q : Nat) (w : RegWr) (x : Wq), QueueOpen s q w x ∧ leaving s x.inst = false ∧ x.st ≠ .error ∧ sub32
      w.data.toNat x.ci ≤ sub32 x.pi x.ci ∧ sub32 x.pi x.ci ≤ 2 ^ x.ringLog2) ∧
    (∃ (s : State) (q : Nat) (w : RegWr) (x : Wq), QueueOpen s q w x ∧ leaving s x.inst = false ∧ x.st ≠ .error ∧ 2 ^ x.ringLog2 <
      sub32 w.data.toNat x.ci ∧ s.vp.werrValid = false) ∧
    (∃ (s : State) (win : Nat) (p : PushWr) (i q : Nat) (x : Wq), windowLive s = true ∧ discarded s p.src = false ∧ win <
      pushCount s ∧ p.off < 4096 ∧ p.full = true ∧ p.off % 64 = 0 ∧ p.data.length = 64 ∧ Tab.find s.own.push win = some i ∧
      pageOwned s i p.src = true ∧ s.wqs.find? (fun x => x.2.pushEn && x.2.pushIdx = win) = some (q, x) ∧ leaving s x.inst = false
      ∧ x.st = .enabled ∧ x.pushHeld = [] ∧ p.off / 64 = x.pi % 64 ∧ x.pi < 2 ^ 32 ∧ entCurrent p.data x.pi x.ringLog2 = true ∧
      sub32 x.pi x.ci < 2 ^ x.ringLog2 ∧ cacheUse s < 16384 ∧ Runs s .headgate) ∧
    (∃ (s : State) (win : Nat) (p : PushWr) (i q : Nat) (x : Wq), windowLive s = true ∧ discarded s p.src = false ∧ win <
      pushCount s ∧ p.off < 4096 ∧ p.full = true ∧ p.off % 64 = 0 ∧ p.data.length = 64 ∧ Tab.find s.own.push win = some i ∧
      pageOwned s i p.src = true ∧ s.wqs.find? (fun x => x.2.pushEn && x.2.pushIdx = win) = some (q, x) ∧ leaving s x.inst = false
      ∧ x.st = .enabled ∧ p.off / 64 = (x.pi + x.pushHeld.length) % 2 ^ 32 % 64 ∧ entCurrent p.data ((x.pi + x.pushHeld.length) %
      2 ^ 32) x.ringLog2 = true ∧ sub32 ((x.pi + x.pushHeld.length) % 2 ^ 32) x.ci < 2 ^ x.ringLog2 ∧ ¬ Runs s .headgate) ∧
    (∃ (s : State) (q i : Nat) (x : Wq) (u : State) (b : Bytes), Tab.find s.wqs q = some x ∧ x.st = .enabled ∧ sub32 i x.ci <
      sub32 x.pi x.ci ∧ sub32 i x.ci < x.pfDepth ∧ Tab.has x.cache i = false ∧ inFence x i = false ∧ Runs s .headgate ∧ readMem
      (wakeBlk s .headgate) x.inst (ringAt x i) 64 = .ok u b) ∧
    (∃ (s : State) (q : Nat) (x : Wq) (c : CacheEnt) (u : State) (b : Bytes), Tab.find s.wqs q = some x ∧ x.st = .enabled ∧
      Tab.find x.cache x.ci = some c ∧ c.pushed = false ∧ entGood x x.ci c.bytes = false ∧ Runs s .headgate ∧ readMem (wakeBlk s
      .headgate) x.inst (ringAt x x.ci) 64 = .ok u b ∧ entGood x x.ci b = true) ∧
    (∃ (s : State) (q : Nat) (x : Wq) (c : CacheEnt) (u : State) (b : Bytes), Tab.find s.wqs q = some x ∧ x.st = .enabled ∧
      Tab.find x.cache x.ci = some c ∧ c.pushed = false ∧ entGood x x.ci c.bytes = false ∧ Runs s .headgate ∧ readMem (wakeBlk s
      .headgate) x.inst (ringAt x x.ci) 64 = .ok u b ∧ entGood x x.ci b = false ∧ 7 ≤ c.reads ∧ Tab.find u.wqs q = some x) ∧
    (∃ (s : State) (q : Nat) (x : Wq) (c : CacheEnt), Tab.find s.wqs q = some x ∧ x.st = .enabled ∧ Tab.find x.cache x.ci = some c
      ∧ c.pushed = true ∧ entGood x x.ci c.bytes = false ∧ Runs s .headgate) ∧
    (∃ (s : State) (q i : Nat), ¬ Runs s .headgate) ∧
    (∃ (s : State) (q : Nat), ¬ Runs s .headgate) ∧
    (∃ (s : State) (q : Nat), ¬ Runs s .headgate) ∧
    (∃ (s : State) (q : Nat) (x : Wq) (c : CacheEnt), Tab.find s.wqs q = some x ∧ Tab.find x.cache x.ci = some c ∧ acceptable s q
      x c.bytes = true ∧ gateIs s x = .opened ∧ Runs s .headgate ∧ turnOk s q x = true) ∧
    (∃ (s : State) (q : Nat) (x : Wq) (c : CacheEnt), Tab.find s.wqs q = some x ∧ Tab.find x.cache x.ci = some c ∧ acceptable s q
      x c.bytes = true ∧ gateIs s x = .closed ∧ Runs s .headgate) ∧
    (∃ (s : State) (q : Nat) (x : Wq) (c : CacheEnt) (st : Byte), Tab.find s.wqs q = some x ∧ Tab.find x.cache x.ci = some c ∧
      acceptable s q x c.bytes = true ∧ gateIs s x = .failed st ∧ Runs s .headgate) :=
  ⟨⟨qdev ({ wq1 with pi := 0 }), 0, hw 16, ({ wq1 with pi := 0 } : Wq), by decide +kernel⟩,
   ⟨qdev wq1, 0, hw 1, wq1, by decide +kernel⟩,
   ⟨qdev wq1, 0, hw 17, wq1, by decide +kernel⟩,
   ⟨qdev ({ wq1 with pi := 0, pushEn := true } : Wq), 0, (⟨.host, true, 0, ent 0 0 0 0 []⟩ : PushWr), 1, 0, ({ wq1 with pi := 0, pushEn := true } : Wq), by decide +kernel⟩,
   ⟨asleep (qdev ({ wq1 with pi := 0, pushEn := true } : Wq)) .headgate, 0, (⟨.host, true, 0, ent 0 0 0 0 []⟩ : PushWr), 1, 0, ({ wq1 with pi := 0, pushEn := true } : Wq), by decide +kernel⟩,
   ⟨{ qdev wq1 with hbm := Mem.write [] 0 (ent 0 0 0 0 []) }, 0, 0, wq1, (accOf (readMem ({ qdev wq1 with hbm := Mem.write [] 0 (ent 0 0 0 0 []) }) 1 0x100000 64)).1, (ent 0 0 0 0 []), by decide +kernel⟩,
   ⟨{ qdev ({ wq1 with cache := [(0, (⟨zeros 64, false, 7⟩ : CacheEnt))] } : Wq) with hbm := Mem.write [] 0 (ent 0 0 0 0 []) }, 0, ({ wq1 with cache := [(0, (⟨zeros 64, false, 7⟩ : CacheEnt))] } : Wq), (⟨zeros 64, false, 7⟩ : CacheEnt), (accOf (readMem ({ qdev ({ wq1 with cache := [(0, (⟨zeros 64, false, 7⟩ : CacheEnt))] } : Wq) with hbm := Mem.write [] 0 (ent 0 0 0 0 []) }) 1 0x100000 64)).1, (ent 0 0 0 0 []), by decide +kernel⟩,
   ⟨qdev ({ wq1 with cache := [(0, (⟨zeros 64, false, 7⟩ : CacheEnt))] } : Wq), 0, ({ wq1 with cache := [(0, (⟨zeros 64, false, 7⟩ : CacheEnt))] } : Wq), (⟨zeros 64, false, 7⟩ : CacheEnt), (accOf (readMem (qdev ({ wq1 with cache := [(0, (⟨zeros 64, false, 7⟩ : CacheEnt))] } : Wq)) 1 0x100000 64)).1, zeros 64, by decide +kernel⟩,
   ⟨qdev ({ wq1 with cache := [(0, ⟨zeros 64, true, 7⟩)] } : Wq), 0, ({ wq1 with cache := [(0, ⟨zeros 64, true, 7⟩)] } : Wq), ⟨zeros 64, true, 7⟩, by decide +kernel⟩,
   ⟨asleep (qdev wq1) .headgate, 0, 0, by decide +kernel⟩,
   ⟨asleep (qdev wq1) .headgate, 0, by decide +kernel⟩,
   ⟨asleep (qdev wq1) .headgate, 0, by decide +kernel⟩,
   ⟨qdev ({ wq1 with cache := [(0, (⟨ent 0 0 0 0 [], false, 0⟩ : CacheEnt))] } : Wq), 0, ({ wq1 with cache := [(0, (⟨ent 0 0 0 0 [], false, 0⟩ : CacheEnt))] } : Wq), (⟨ent 0 0 0 0 [], false, 0⟩ : CacheEnt), by decide +kernel⟩,
   ⟨qdev ({ wq1 with cache := [(0, (⟨ent 0 0 0 0 [], false, 0⟩ : CacheEnt))], gate := some (⟨5, 1, 0, 0, 0, 0⟩ : Gate) } : Wq), 0, ({ wq1 with cache := [(0, (⟨ent 0 0 0 0 [], false, 0⟩ : CacheEnt))], gate := some (⟨5, 1, 0, 0, 0, 0⟩ : Gate) } : Wq), (⟨ent 0 0 0 0 [], false, 0⟩ : CacheEnt), by decide +kernel⟩,
   ⟨{ qdev ({ wq1 with cache := [(0, (⟨ent 0 0 0 0 [], false, 0⟩ : CacheEnt))], gate := some (⟨5, 1, 0, 0, 0, 0⟩ : Gate) } : Wq) with sy := [(5, { value := 0, sat := false, poison := true, share := none, journal := [], bad1 := false, bad2 := false })] }, 0, ({ wq1 with cache := [(0, (⟨ent 0 0 0 0 [], false, 0⟩ : CacheEnt))], gate := some (⟨5, 1, 0, 0, 0, 0⟩ : Gate) } : Wq), (⟨ent 0 0 0 0 [], false, 0⟩ : CacheEnt), Status.descriptorCrc, by decide +kernel⟩⟩

/-- Witnesses of `Obligations.EntriesCompleteAtTheSpans`. -/
theorem wit_EntriesCompleteAtTheSpans :
    (∃ (s : State) (q i : Nat) (x : Wq) (r : Infl), mayDispatch s q i 0 = some (x, r)) ∧
    (∃ (s : State) (q i : Nat) (x : Wq) (r : Infl) (u : State), mayDispatch s q i 0x13 = some (x, r) ∧ getLE r.ent 28 1 = 1 ∧
      admitKey s x.inst (entKey r.ent) rRead (entAddr r.ent) (entLen r.ent) false false = (u, none) ∧ spansIn u x.inst (entAddr
      r.ent) (entLen r.ent) ≠ [] ∧ spansGood u (spansIn u x.inst (entAddr r.ent) (entLen r.ent))) ∧
    (∃ (s : State) (q i : Nat) (x : Wq) (r : Infl) (u : State), mayDispatch s q i 0x13 = some (x, r) ∧ getLE r.ent 28 1 = 2 ∧
      admitKey s x.inst (entKey r.ent) rRead (entAddr r.ent) (entLen r.ent) false false = (u, none) ∧ spansIn u x.inst (entAddr
      r.ent) (entLen r.ent) ≠ [] ∧ spansGood u (spansIn u x.inst (entAddr r.ent) (entLen r.ent))) ∧
    (∃ (s : State) (q i : Nat) (x : Wq) (r : Infl) (u : State), mayDispatch s q i 0x13 = some (x, r) ∧ getLE r.ent 28 1 = 3 ∧
      admitKey s x.inst (entKey r.ent) rRead (entAddr r.ent) (entLen r.ent) false false = (u, none) ∧ spansIn u x.inst (entAddr
      r.ent) (entLen r.ent) ≠ [] ∧ spansGood u (spansIn u x.inst (entAddr r.ent) (entLen r.ent))) ∧
    (∃ (s : State) (q i : Nat) (x : Wq) (r : Infl) (u : State), mayDispatch s q i 0x13 = some (x, r) ∧ getLE r.ent 28 1 = 4 ∧
      admitKey s x.inst (entKey r.ent) rRead (entAddr r.ent) (entLen r.ent) false false = (u, none) ∧ spansIn u x.inst (entAddr
      r.ent) (entLen r.ent) ≠ [] ∧ spansGood u (spansIn u x.inst (entAddr r.ent) (entLen r.ent))) ∧
    (∃ (s : State) (q i : Nat) (x : Wq) (r : Infl) (u : State), mayDispatch s q i 0x13 = some (x, r) ∧ getLE r.ent 28 1 = 5 ∧
      admitKey s x.inst (entKey r.ent) rRead (entAddr r.ent) (entLen r.ent) false false = (u, none) ∧ spansIn u x.inst (entAddr
      r.ent) (entLen r.ent) ≠ [] ∧ spansGood u (spansIn u x.inst (entAddr r.ent) (entLen r.ent))) ∧
    (∃ (s : State) (q i : Nat) (x : Wq) (r : Infl) (u : State) (k : Nat) (sp : Span), mayDispatch s q i 0x12 = some (x, r) ∧
      PfAdmitted s q i x r u ∧ spanOver u x.inst (entAddr r.ent) (entLen r.ent) = some (k, sp) ∧ (sp.bad1 && sp.bad2) = false ∧
      sp.moving = none ∧ sp.migr = true ∧ entAddr r.ent = sp.start ∧ entLen r.ent = sp.len ∧ sp.resHbm ≠ decide (getLE r.ent 28 1
      = 1)) ∧
    (∃ (s : State) (q i : Nat) (x : Wq) (r : Infl) (u : State) (k : Nat) (sp : Span), mayDispatch s q i 0x12 = some (x, r) ∧
      PfAdmitted s q i x r u ∧ spanOver u x.inst (entAddr r.ent) (entLen r.ent) = some (k, sp) ∧ (sp.bad1 && sp.bad2) = false ∧
      sp.moving = none ∧ sp.migr = true ∧ entAddr r.ent = sp.start ∧ entLen r.ent = sp.len ∧ sp.resHbm = decide (getLE r.ent 28 1
      = 1)) ∧
    (∃ (s : State) (q i : Nat) (x : Wq) (r : Infl) (u : State) (k : Nat) (sp : Span), mayDispatch s q i 0x12 = some (x, r) ∧
      PfAdmitted s q i x r u ∧ spanOver u x.inst (entAddr r.ent) (entLen r.ent) = some (k, sp) ∧ (sp.bad1 && sp.bad2) = false ∧
      sp.moving = none ∧ sp.migr = true ∧ (entAddr r.ent ≠ sp.start ∨ entLen r.ent ≠ sp.len)) ∧
    (∃ (s : State) (q i : Nat) (x : Wq) (r : Infl) (u : State) (k : Nat) (sp : Span), mayDispatch s q i 0x12 = some (x, r) ∧
      PfAdmitted s q i x r u ∧ spanOver u x.inst (entAddr r.ent) (entLen r.ent) = some (k, sp) ∧ (sp.bad1 && sp.bad2) = false ∧
      sp.moving = none ∧ sp.migr = false ∧ (sp.kind = .phys ∧ getLE r.ent 28 1 = 2 ∨ sp.kind = .hbm ∧ getLE r.ent 28 1 = 1)) ∧
    (∃ (s : State) (q i : Nat) (x : Wq) (r : Infl) (u : State) (k : Nat) (sp : Span) (v : State) (b : Bytes), mayDispatch s q i
      0x12 = some (x, r) ∧ PfAdmitted s q i x r u ∧ spanOver u x.inst (entAddr r.ent) (entLen r.ent) = some (k, sp) ∧ (sp.bad1 &&
      sp.bad2) = false ∧ sp.moving = none ∧ sp.migr = false ∧ sp.kind = .ats ∧ getLE r.ent 28 1 = 2 ∧ loadAts (entLen r.ent + 1) u
      x.inst (entAddr r.ent) (entLen r.ent) = .ok v b) ∧
    (∃ (s : State) (q i : Nat) (x : Wq) (r : Infl) (u : State) (k : Nat) (sp : Span), mayDispatch s q i 0x12 = some (x, r) ∧
      PfAdmitted s q i x r u ∧ spanOver u x.inst (entAddr r.ent) (entLen r.ent) = some (k, sp) ∧ (sp.bad1 && sp.bad2) = false ∧
      sp.moving = none ∧ sp.migr = false ∧ (sp.kind = .hbm ∧ getLE r.ent 28 1 = 2 ∨ (sp.kind = .ats ∨ sp.kind = .phys) ∧ getLE
      r.ent 28 1 = 1 ∨ sp.kind = .basin)) ∧
    (∃ (s : State) (q i : Nat) (x : Wq) (r : Infl) (u : State) (n : Nat) (c : Instr) (k : Nat), mayDispatch s q i 0x13 = some (x,
      r) ∧ getLE r.ent 28 1 = n ∧ (n, c) ∈ [(1, Instr.adviseWillNeed q i), (2, .adviseDontNeed q i), (3, .adviseReadMostly q i),
      (4, .advisePreferHbm q i), (5, .advisePreferPartner q i)] ∧ admitKey s x.inst (entKey r.ent) rRead (entAddr r.ent) (entLen
      r.ent) false false = (u, none) ∧ k ∈ spansIn u x.inst (entAddr r.ent) (entLen r.ent) ∧ spanLost u k = true) ∧
    (∃ (s : State) (q i : Nat) (x : Wq) (r : Infl) (u : State) (k : Nat) (sp : Span), mayDispatch s q i 0x12 = some (x, r) ∧
      PfAdmitted s q i x r u ∧ spanOver u x.inst (entAddr r.ent) (entLen r.ent) = some (k, sp) ∧ (sp.bad1 && sp.bad2) = true) ∧
    (∃ (s : State) (k : Nat) (sp : Span) (q i : Nat), Tab.find s.spans k = some sp ∧ sp.moving = some (q, i) ∧ spanUsed s k
      sp.movingAt = true) ∧
    (∃ (s : State) (k : Nat) (sp : Span) (q i : Nat) (r : Infl) (u : State) (b : Bytes) (v : State) (c : Bytes), Tab.find s.spans
      k = some sp ∧ sp.moving = some (q, i) ∧ spanUsed s k sp.movingAt = false ∧ inflOf s q i = some r ∧ r.done = none ∧ readMem
      { s with spans := Tab.put s.spans k { sp with moving := none } } sp.inst sp.start sp.len = .ok u b ∧ writeMem (dropPieces
      { u with spans := Tab.put u.spans k { sp with moving := none, resHbm := !sp.resHbm } } k) sp.inst sp.start b = .ok v c ∧
      v.rxHeld = []) :=
  ⟨⟨edev (ent 0 0 0 0 []), 0, 0, wqA, inf (ent 0 0 0 0 []), by decide +kernel⟩,
   ⟨edev (ent 0x13 64 0x100000 0x100 [1]), 0, 0, wqA, inf (ent 0x13 64 0x100000 0x100 [1]), (admitKey (edev (ent 0x13 64 0x100000 0x100 [1])) 1 0x100 rRead 0x100000 64 false false).1, by decide +kernel⟩,
   ⟨edev (ent 0x13 64 0x100000 0x100 [2]), 0, 0, wqA, inf (ent 0x13 64 0x100000 0x100 [2]), (admitKey (edev (ent 0x13 64 0x100000 0x100 [2])) 1 0x100 rRead 0x100000 64 false false).1, by decide +kernel⟩,
   ⟨edev (ent 0x13 64 0x100000 0x100 [3]), 0, 0, wqA, inf (ent 0x13 64 0x100000 0x100 [3]), (admitKey (edev (ent 0x13 64 0x100000 0x100 [3])) 1 0x100 rRead 0x100000 64 false false).1, by decide +kernel⟩,
   ⟨edev (ent 0x13 64 0x100000 0x100 [4]), 0, 0, wqA, inf (ent 0x13 64 0x100000 0x100 [4]), (admitKey (edev (ent 0x13 64 0x100000 0x100 [4])) 1 0x100 rRead 0x100000 64 false false).1, by decide +kernel⟩,
   ⟨edev (ent 0x13 64 0x100000 0x100 [5]), 0, 0, wqA, inf (ent 0x13 64 0x100000 0x100 [5]), (admitKey (edev (ent 0x13 64 0x100000 0x100 [5])) 1 0x100 rRead 0x100000 64 false false).1, by decide +kernel⟩,
   ⟨pfdev 4096 1 (spanM false), 0, 0, wqA, inf (pfent 4096 1), pfU (pfdev 4096 1 (spanM false)) 4096 1, 0, spanM false, by decide +kernel⟩,
   ⟨pfdev 4096 1 (spanM true), 0, 0, wqA, inf (pfent 4096 1), pfU (pfdev 4096 1 (spanM true)) 4096 1, 0, spanM true, by decide +kernel⟩,
   ⟨pfdev 64 1 (spanM false), 0, 0, wqA, inf (pfent 64 1), pfU (pfdev 64 1 (spanM false)) 64 1, 0, spanM false, by decide +kernel⟩,
   ⟨pfdev 64 1 (span1), 0, 0, wqA, inf (pfent 64 1), pfU (pfdev 64 1 (span1)) 64 1, 0, span1, by decide +kernel⟩,
   ⟨{ pfdev 64 2 { span1 with kind := .ats } with pieces := [⟨1, 0x100000, 4096, ⟨.partner, 0x5000⟩, true, 0, true, 0⟩] }, 0, 0, wqA, inf (pfent 64 2), pfU { pfdev 64 2 { span1 with kind := .ats } with pieces := [⟨1, 0x100000, 4096, ⟨.partner, 0x5000⟩, true, 0, true, 0⟩] } 64 2, 0, { span1 with kind := .ats }, (accOf (loadAts 65 (pfU { pfdev 64 2 { span1 with kind := .ats } with pieces := [⟨1, 0x100000, 4096, ⟨.partner, 0x5000⟩, true, 0, true, 0⟩] } 64 2) 1 0x100000 64)).1, [], by decide +kernel⟩,
   ⟨pfdev 64 2 (span1), 0, 0, wqA, inf (pfent 64 2), pfU (pfdev 64 2 (span1)) 64 2, 0, span1, by decide +kernel⟩,
   ⟨{ edev (ent 0x13 64 0x100000 0x100 [1]) with spans := [(0, { span1 with bad1 := true, bad2 := true })] }, 0, 0, wqA, inf (ent 0x13 64 0x100000 0x100 [1]), (admitKey { edev (ent 0x13 64 0x100000 0x100 [1]) with spans := [(0, { span1 with bad1 := true, bad2 := true })] } 1 0x100 rRead 0x100000 64 false false).1, 1, .adviseWillNeed 0 0, 0, by decide +kernel⟩,
   ⟨pfdev 64 1 ({ span1 with bad1 := true, bad2 := true }), 0, 0, wqA, inf (pfent 64 1), pfU (pfdev 64 1 ({ span1 with bad1 := true, bad2 := true })) 64 1, 0, { span1 with bad1 := true, bad2 := true }, by decide +kernel⟩,
   ⟨{ edev (ent 0x12 64 0x100000 0x100 [1]) with spans := [(0, { span1 with moving := some (0, 0), movingAt := 4 })], infl := [(0, { inf (ent 0 0 0 0 []) with adm := some 3, spans := [0] })] }, 0, { span1 with moving := some (0, 0), movingAt := 4 }, 0, 0, by decide +kernel⟩,
   ⟨({ edev (ent 0x12 4096 0x100000 0x100 [1]) with spans := [(0, ({ span1 with kind := .phys, migr := true, len := 4096, moving := some (0, 0), migOff := 0 } : Span))] } : State), 0, ({ span1 with kind := .phys, migr := true, len := 4096, moving := some (0, 0), migOff := 0 } : Span), 0, 0, inf (ent 0x12 4096 0x100000 0x100 [1]), (accOf (readMem { ({ edev (ent 0x12 4096 0x100000 0x100 [1]) with spans := [(0, ({ span1 with kind := .phys, migr := true, len := 4096, moving := some (0, 0), migOff := 0 } : Span))] } : State) with spans := Tab.put (({ edev (ent 0x12 4096 0x100000 0x100 [1]) with spans := [(0, ({ span1 with kind := .phys, migr := true, len := 4096, moving := some (0, 0), migOff := 0 } : Span))] } : State)).spans 0 { ({ span1 with kind := .phys, migr := true, len := 4096, moving := some (0, 0), migOff := 0 } : Span) with moving := none } } 1 0x100000 4096)).1, (accOf (readMem { ({ edev (ent 0x12 4096 0x100000 0x100 [1]) with spans := [(0, ({ span1 with kind := .phys, migr := true, len := 4096, moving := some (0, 0), migOff := 0 } : Span))] } : State) with spans := Tab.put (({ edev (ent 0x12 4096 0x100000 0x100 [1]) with spans := [(0, ({ span1 with kind := .phys, migr := true, len := 4096, moving := some (0, 0), migOff := 0 } : Span))] } : State)).spans 0 { ({ span1 with kind := .phys, migr := true, len := 4096, moving := some (0, 0), migOff := 0 } : Span) with moving := none } } 1 0x100000 4096)).2, (accOf (writeMem (dropPieces { (accOf (readMem { ({ edev (ent 0x12 4096 0x100000 0x100 [1]) with spans := [(0, ({ span1 with kind := .phys, migr := true, len := 4096, moving := some (0, 0), migOff := 0 } : Span))] } : State) with spans := Tab.put (({ edev (ent 0x12 4096 0x100000 0x100 [1]) with spans := [(0, ({ span1 with kind := .phys, migr := true, len := 4096, moving := some (0, 0), migOff := 0 } : Span))] } : State)).spans 0 { ({ span1 with kind := .phys, migr := true, len := 4096, moving := some (0, 0), migOff := 0 } : Span) with moving := none } } 1 0x100000 4096)).1 with spans := Tab.put (accOf (readMem { ({ edev (ent 0x12 4096 0x100000 0x100 [1]) with spans := [(0, ({ span1 with kind := .phys, migr := true, len := 4096, moving := some (0, 0), migOff := 0 } : Span))] } : State) with spans := Tab.put (({ edev (ent 0x12 4096 0x100000 0x100 [1]) with spans := [(0, ({ span1 with kind := .phys, migr := true, len := 4096, moving := some (0, 0), migOff := 0 } : Span))] } : State)).spans 0 { ({ span1 with kind := .phys, migr := true, len := 4096, moving := some (0, 0), migOff := 0 } : Span) with moving := none } } 1 0x100000 4096)).1.spans 0 { ({ span1 with kind := .phys, migr := true, len := 4096, moving := some (0, 0), migOff := 0 } : Span) with moving := none, resHbm := true } } 0) 1 0x100000 (accOf (readMem { ({ edev (ent 0x12 4096 0x100000 0x100 [1]) with spans := [(0, ({ span1 with kind := .phys, migr := true, len := 4096, moving := some (0, 0), migOff := 0 } : Span))] } : State) with spans := Tab.put (({ edev (ent 0x12 4096 0x100000 0x100 [1]) with spans := [(0, ({ span1 with kind := .phys, migr := true, len := 4096, moving := some (0, 0), migOff := 0 } : Span))] } : State)).spans 0 { ({ span1 with kind := .phys, migr := true, len := 4096, moving := some (0, 0), migOff := 0 } : Span) with moving := none } } 1 0x100000 4096)).2)).1, (accOf (writeMem (dropPieces { (accOf (readMem { ({ edev (ent 0x12 4096 0x100000 0x100 [1]) with spans := [(0, ({ span1 with kind := .phys, migr := true, len := 4096, moving := some (0, 0), migOff := 0 } : Span))] } : State) with spans := Tab.put (({ edev (ent 0x12 4096 0x100000 0x100 [1]) with spans := [(0, ({ span1 with kind := .phys, migr := true, len := 4096, moving := some (0, 0), migOff := 0 } : Span))] } : State)).spans 0 { ({ span1 with kind := .phys, migr := true, len := 4096, moving := some (0, 0), migOff := 0 } : Span) with moving := none } } 1 0x100000 4096)).1 with spans := Tab.put (accOf (readMem { ({ edev (ent 0x12 4096 0x100000 0x100 [1]) with spans := [(0, ({ span1 with kind := .phys, migr := true, len := 4096, moving := some (0, 0), migOff := 0 } : Span))] } : State) with spans := Tab.put (({ edev (ent 0x12 4096 0x100000 0x100 [1]) with spans := [(0, ({ span1 with kind := .phys, migr := true, len := 4096, moving := some (0, 0), migOff := 0 } : Span))] } : State)).spans 0 { ({ span1 with kind := .phys, migr := true, len := 4096, moving := some (0, 0), migOff := 0 } : Span) with moving := none } } 1 0x100000 4096)).1.spans 0 { ({ span1 with kind := .phys, migr := true, len := 4096, moving := some (0, 0), migOff := 0 } : Span) with moving := none, resHbm := true } } 0) 1 0x100000 (accOf (readMem { ({ edev (ent 0x12 4096 0x100000 0x100 [1]) with spans := [(0, ({ span1 with kind := .phys, migr := true, len := 4096, moving := some (0, 0), migOff := 0 } : Span))] } : State) with spans := Tab.put (({ edev (ent 0x12 4096 0x100000 0x100 [1]) with spans := [(0, ({ span1 with kind := .phys, migr := true, len := 4096, moving := some (0, 0), migOff := 0 } : Span))] } : State)).spans 0 { ({ span1 with kind := .phys, migr := true, len := 4096, moving := some (0, 0), migOff := 0 } : Span) with moving := none } } 1 0x100000 4096)).2)).2, by decide +kernel⟩⟩

/-- Witnesses of `Obligations.EventsAndInterruptsFollowTheirRules`. -/
theorem wit_EventsAndInterruptsFollowTheirRules :
    (∃ (s : State) (e : Ev) (r : List Ev), s.log.staged = e :: r ∧ (tenderRuns s = true ∨ evTender e = false) ∧
      s.log.entries.length < 4096 ∧ (2 ≤ e.sev ∨ ∀ x ∈ s.log.entries, evSame x.ev e = false)) ∧
    (∃ (s : State) (e : Ev) (r : List Ev) (o : LogEnt), s.log.staged = e :: r ∧ (tenderRuns s = true ∨ evTender e = false) ∧ 4096
      ≤ s.log.entries.length ∧ 2 ≤ e.sev ∧ s.log.entries.getLast? = some o) ∧
    (∃ (s : State) (e : Ev) (r : List Ev) (x : LogEnt) (es : List LogEnt), s.log.staged = e :: r ∧ (tenderRuns s = true ∨ evTender
      e = false) ∧ e.sev ≤ 1 ∧ s.log.entries = x :: es ∧ evSame x.ev e = true ∧ x.ev.time ≤ e.time ∧ e.time ≤ x.ev.time + 1000000) ∧
    (∃ (s : State), s.log.staged = []) ∧
    (∃ (s : State) (w : RegWr), windowLive s = true ∧ Taken s w) ∧
    (∃ (s : State) (w : RegWr), windowLive s = true ∧ Taken s w ∧ w.data.toNat * 2 ^ 32 + s.log.ackLo.toNat ≤ s.log.head) ∧
    (∃ (s : State) (w : RegWr), windowLive s = true ∧ Taken s w ∧ s.log.head < w.data.toNat * 2 ^ 32 + s.log.ackLo.toNat ∧
      s.vp.werrValid = false) ∧
    (∃ (s : State) (w : RegWr) (v : Nat) (e : LogEnt), windowLive s = true ∧ Taken s w ∧ v = w.data.toNat * 2 ^ 32 +
      s.log.rselLo.toNat ∧ v ≠ 0 ∧ v ≤ s.log.head ∧ s.log.entries.find? (fun x => x.seq = v) = some e) ∧
    (∃ (s : State) (w : RegWr) (v : Nat), windowLive s = true ∧ Taken s w ∧ v = w.data.toNat * 2 ^ 32 + s.log.rselLo.toNat ∧
      s.log.head < v) ∧
    (∃ (s : State) (w : RegWr) (v : Nat), windowLive s = true ∧ Taken s w ∧ v = w.data.toNat * 2 ^ 32 + s.log.rselLo.toNat ∧ v ≠ 0
      ∧ v ≤ s.log.head ∧ (∀ x ∈ s.log.entries, x.seq ≠ v)) ∧
    (∃ (s : State) (w : RegWr), windowLive s = true ∧ Taken s w ∧ noRsv w 0xFFFFFFC0 = true) ∧
    (∃ (s : State) (w : RegWr), windowLive s = true ∧ Taken s w ∧ noRsv w 0xFFFFFFC0 = true) ∧
    (∃ (s : State) (w : RegWr), windowLive s = true ∧ Taken s w ∧ noRsv w 0xFFFFFFC0 = false ∧ s.vp.werrValid = false) ∧
    (∃ (s : State) (e : Ev) (r : List Ev), s.log.staged = e :: r ∧ (tenderRuns s = true ∨ evTender e = false) ∧
      s.log.entries.length < 4096 ∧ e.sev = 3) ∧
    (∃ (s : State), s.lv.done ≠ [] ∨ s.boot.stage = .halted) :=
  ⟨⟨{ dev with log.staged := [({ id := 0x77, sev := 2, status := 0, source := 6, unit := 3, time := 7, detail := [] } : Ev)], log.head := 9, log.entries := [{ seq := 9, rep := 2, ev := ({ id := 0x77, sev := 1, status := 0, source := 6, unit := 3, time := 7, detail := [] } : Ev) }] },
    ({ id := 0x77, sev := 2, status := 0, source := 6, unit := 3, time := 7, detail := [] } : Ev), [], by decide +kernel⟩,
   ⟨{ dev with log.staged := [({ id := 0x77, sev := 2, status := 0, source := 6, unit := 3, time := 7, detail := [] } : Ev)], log.head := 4100, log.entries := (List.replicate 4096 { seq := 5, rep := 2, ev := ({ id := 0x77, sev := 1, status := 0, source := 6, unit := 3, time := 7, detail := [] } : Ev) }) },
     ({ id := 0x77, sev := 2, status := 0, source := 6, unit := 3, time := 7, detail := [] } : Ev), [],
     { seq := 5, rep := 2, ev := ({ id := 0x77, sev := 1, status := 0, source := 6, unit := 3, time := 7, detail := [] } : Ev) },
     by decide +kernel⟩,
   ⟨{ dev with log.staged := [({ id := 0x77, sev := 1, status := 0, source := 6, unit := 3, time := 900, detail := [] } : Ev)], log.head := 9, log.entries := [{ seq := 9, rep := 2, ev := ({ id := 0x77, sev := 1, status := 0, source := 6, unit := 3, time := 7, detail := [] } : Ev) }] },
     ({ id := 0x77, sev := 1, status := 0, source := 6, unit := 3, time := 900, detail := [] } : Ev), [],
     { seq := 9, rep := 2, ev := ({ id := 0x77, sev := 1, status := 0, source := 6, unit := 3, time := 7, detail := [] } : Ev) }, [],
     by decide +kernel⟩,
   ⟨dev, by decide +kernel⟩,
   ⟨dev, hw 5, by decide +kernel⟩,
   ⟨{ dev with log.head := 9, log.ackLo := 6 }, hw 0, by decide +kernel⟩,
   ⟨{ dev with log.head := 9, log.ackLo := 16 }, hw 0, by decide +kernel⟩,
   ⟨{ dev with log.head := 9, log.entries := [{ seq := 9, rep := 2, ev := ({ id := 0x77, sev := 1, status := 0, source := 6, unit := 3, time := 7, detail := [] } : Ev) }], log.rselLo := 9 },
     hw 0, 9, { seq := 9, rep := 2, ev := ({ id := 0x77, sev := 1, status := 0, source := 6, unit := 3, time := 7, detail := [] } : Ev) },
     by decide +kernel⟩,
   ⟨{ dev with log.rselLo := 9 }, hw 0, 9, by decide +kernel⟩,
   ⟨{ dev with log.head := 9, log.entries := [{ seq := 9, rep := 2, ev := ({ id := 0x77, sev := 1, status := 0, source := 6, unit := 3, time := 7, detail := [] } : Ev) }], log.rselLo := 8 },
     hw 0, 8, by decide +kernel⟩,
   ⟨{ dev with intr := { stat := 6, en := 4 } }, hw 2, by decide +kernel⟩,
   ⟨{ dev with intr := { stat := 6, en := 1 } }, hw 2, by decide +kernel⟩,
   ⟨dev, hw 0x40, by decide +kernel⟩,
   ⟨{ dev with log.staged := [({ id := 0x77, sev := 3, status := 0, source := 6, unit := 3, time := 7, detail := [] } : Ev)] }, ({ id := 0x77, sev := 3, status := 0, source := 6, unit := 3, time := 7, detail := [] } : Ev), [], by decide +kernel⟩,
   ⟨{ dev with boot.stage := .halted }, by decide +kernel⟩⟩

/-- Witnesses of `Obligations.FurrowControlTransfersAndTraps`. -/
theorem wit_FurrowControlTransfersAndTraps :
    (∃ (s : State) (core slot : Nat) (t : Tg) (l : Launch) (x : Ins) (u : State), Issues s core slot 0x60 t l x u ∧ predMask t x =
      allLanes) ∧
    (∃ (s : State) (core slot : Nat) (t : Tg) (l : Launch) (x : Ins) (u : State), Issues s core slot 0x60 t l x u ∧ predMask t x =
      0) ∧
    (∃ (s : State) (core slot : Nat) (t : Tg) (l : Launch) (x : Ins) (u : State), Issues s core slot 0x60 t l x u ∧ predMask t x ≠
      0 ∧ predMask t x ≠ allLanes) ∧
    (∃ (s : State) (core slot : Nat) (t : Tg) (l : Launch) (x : Ins) (u : State), Issues s core slot 0x61 t l x u ∧ pushOk l t =
      true) ∧
    (∃ (s : State) (core slot : Nat) (t : Tg) (l : Launch) (x : Ins) (u : State), Issues s core slot 0x61 t l x u ∧ pushOk l t =
      false) ∧
    (∃ (s : State) (core slot : Nat) (t : Tg) (l : Launch) (x : Ins) (u : State), Issues s core slot 0x62 t l x u ∧ popOk l t =
      true) ∧
    (∃ (s : State) (core slot : Nat) (t : Tg) (l : Launch) (x : Ins) (u : State), Issues s core slot 0x62 t l x u ∧ popOk l t =
      false) ∧
    (∃ (s : State) (core slot : Nat) (t : Tg) (l : Launch) (x : Ins) (u : State), Issues s core slot 0x65 t l x u ∧ t.inHandler =
      true ∧ popOk l t = true) ∧
    (∃ (s : State) (core slot : Nat) (t : Tg) (l : Launch) (x : Ins) (u : State), Issues s core slot 0x65 t l x u ∧ t.inHandler =
      false) ∧
    (∃ (s : State) (core slot : Nat) (t : Tg) (l : Launch) (x : Ins) (u : State), Issues s core slot 0x63 t l x u) ∧
    (∃ (s : State) (core slot : Nat) (t : Tg) (l : Launch) (x : Ins) (u : State), Issues s core slot 0x64 t l x u ∧ 0x80 ≤ fld
      x.imm 7 0) ∧
    (∃ (s : State) (core slot : Nat) (t : Tg) (l : Launch) (x : Ins) (u : State), Issues s core slot 0x64 t l x u ∧ fld x.imm 7 0
      < 0x80) ∧
    (∃ (s : State) (core slot : Nat) (t : Tg) (l : Launch) (b : Bytes) (u : State), slot < 16 ∧ Tab.find s.fw.slots (fwKey core
      slot) = some t ∧ t.st = .running ∧ launchOf s t.q t.i = some l ∧ atBreak s (fwKey core slot) t = false ∧ 64 ≤ t.pc ∧ t.pc %
      8 = 0 ∧ t.pc + 8 ≤ l.codeLen ∧ readMem s l.inst (l.codeAddr + t.pc) 8 = .ok u b ∧ fwOps.contains (insOf (ofLE b)).op =
      false) ∧
    (∃ (s : State) (core slot : Nat) (t : Tg) (l : Launch), Tab.find s.fw.slots (fwKey core slot) = some t ∧ slot < 16 ∧ t.st =
      .running ∧ launchOf s t.q t.i = some l ∧ atBreak s (fwKey core slot) t = true) :=
  ⟨⟨xdev (tgB 0xFFFFFFFF) lau (iw 0x60 0 0 0 0 0 16777214), 2, 3, (tgB 0xFFFFFFFF), lau, insOf (iw 0x60 0 0 0 0 0 16777214),
    (accOf (readMem (xdev (tgB 0xFFFFFFFF) lau (iw 0x60 0 0 0 0 0 16777214)) 1 (0x100000 + ((tgB 0xFFFFFFFF)).pc) 8)).1, ⟨⟨by decide,
    by decide +kernel, rfl, by decide +kernel, by decide +kernel, by decide, by decide, by decide, ⟨_, rfl, by decide +kernel⟩,
    by decide +kernel, by decide +kernel⟩, by decide +kernel⟩⟩,
   ⟨xdev (tgB 0) lau (iw 0x60 0 0 0 0 0 0), 2, 3, (tgB 0), lau, insOf (iw 0x60 0 0 0 0 0 0),
     (accOf (readMem (xdev (tgB 0) lau (iw 0x60 0 0 0 0 0 0)) 1 (0x100000 + ((tgB 0)).pc) 8)).1, ⟨⟨by decide, by decide +kernel, rfl,
     by decide +kernel, by decide +kernel, by decide, by decide, by decide, ⟨_, rfl, by decide +kernel⟩, by decide +kernel,
     by decide +kernel⟩, by decide +kernel⟩⟩,
   ⟨xdev (tgB 5) lau (iw 0x60 0 0 0 0 0 0), 2, 3, (tgB 5), lau, insOf (iw 0x60 0 0 0 0 0 0),
     (accOf (readMem (xdev (tgB 5) lau (iw 0x60 0 0 0 0 0 0)) 1 (0x100000 + ((tgB 5)).pc) 8)).1, ⟨⟨by decide, by decide +kernel, rfl,
     by decide +kernel, by decide +kernel, by decide, by decide, by decide, ⟨_, rfl, by decide +kernel⟩, by decide +kernel,
     by decide +kernel⟩, by decide +kernel, by decide +kernel⟩⟩,
   ⟨xdev (tgB 5) lau (iw 0x61 0 0 0 0 0 2), 2, 3, (tgB 5), lau, insOf (iw 0x61 0 0 0 0 0 2),
     (accOf (readMem (xdev (tgB 5) lau (iw 0x61 0 0 0 0 0 2)) 1 (0x100000 + ((tgB 5)).pc) 8)).1, ⟨⟨by decide, by decide +kernel, rfl,
     by decide +kernel, by decide +kernel, by decide, by decide, by decide, ⟨_, rfl, by decide +kernel⟩, by decide +kernel,
     by decide +kernel⟩, by decide +kernel⟩⟩,
   ⟨xdev ({ tgB 5 with u := [(15, 16)] } : Tg) lau (iw 0x61 0 0 0 0 0 2), 2, 3, ({ tgB 5 with u := [(15, 16)] } : Tg), lau,
     insOf (iw 0x61 0 0 0 0 0 2),
     (accOf (readMem (xdev ({ tgB 5 with u := [(15, 16)] } : Tg) lau (iw 0x61 0 0 0 0 0 2)) 1 (0x100000 + (({ tgB 5 with u := [(15, 16)] } : Tg)).pc) 8)).1,
     ⟨⟨by decide, by decide +kernel, rfl, by decide +kernel, by decide +kernel, by decide, by decide, by decide, ⟨_, rfl,
     by decide +kernel⟩, by decide +kernel, by decide +kernel⟩, by decide +kernel⟩⟩,
   ⟨xdev tgR lau (iw 0x62 0 0 0 0 0 0), 2, 3, tgR, lau, insOf (iw 0x62 0 0 0 0 0 0),
     (accOf (readMem (xdev tgR lau (iw 0x62 0 0 0 0 0 0)) 1 (0x100000 + tgR.pc) 8)).1, ⟨⟨by decide, by decide +kernel, rfl,
     by decide +kernel, by decide +kernel, by decide, by decide, by decide, ⟨_, rfl, by decide +kernel⟩, by decide +kernel,
     by decide +kernel⟩, by decide +kernel⟩⟩,
   ⟨xdev (tgB 5) lau (iw 0x62 0 0 0 0 0 0), 2, 3, (tgB 5), lau, insOf (iw 0x62 0 0 0 0 0 0),
     (accOf (readMem (xdev (tgB 5) lau (iw 0x62 0 0 0 0 0 0)) 1 (0x100000 + ((tgB 5)).pc) 8)).1, ⟨⟨by decide, by decide +kernel, rfl,
     by decide +kernel, by decide +kernel, by decide, by decide, by decide, ⟨_, rfl, by decide +kernel⟩, by decide +kernel,
     by decide +kernel⟩, by decide +kernel⟩⟩,
   ⟨xdev tgR lau (iw 0x65 0 0 0 0 0 0), 2, 3, tgR, lau, insOf (iw 0x65 0 0 0 0 0 0),
     (accOf (readMem (xdev tgR lau (iw 0x65 0 0 0 0 0 0)) 1 (0x100000 + tgR.pc) 8)).1, ⟨⟨by decide, by decide +kernel, rfl,
     by decide +kernel, by decide +kernel, by decide, by decide, by decide, ⟨_, rfl, by decide +kernel⟩, by decide +kernel,
     by decide +kernel⟩, by decide +kernel, by decide +kernel⟩⟩,
   ⟨xdev (tgB 5) lau (iw 0x65 0 0 0 0 0 0), 2, 3, (tgB 5), lau, insOf (iw 0x65 0 0 0 0 0 0),
     (accOf (readMem (xdev (tgB 5) lau (iw 0x65 0 0 0 0 0 0)) 1 (0x100000 + ((tgB 5)).pc) 8)).1, ⟨⟨by decide, by decide +kernel, rfl,
     by decide +kernel, by decide +kernel, by decide, by decide, by decide, ⟨_, rfl, by decide +kernel⟩, by decide +kernel,
     by decide +kernel⟩, by decide +kernel⟩⟩,
   ⟨xdev ({ tgB 5 with result := 7, staged := [(5, 3)] } : Tg) lau (iw 0x63 0 0 0 0 0 0), 2, 3,
     ({ tgB 5 with result := 7, staged := [(5, 3)] } : Tg), lau, insOf (iw 0x63 0 0 0 0 0 0),
     (accOf (readMem (xdev ({ tgB 5 with result := 7, staged := [(5, 3)] } : Tg) lau (iw 0x63 0 0 0 0 0 0)) 1 (0x100000 + (({ tgB 5 with result := 7, staged := [(5, 3)] } : Tg)).pc) 8)).1,
     ⟨by decide, by decide +kernel, rfl, by decide +kernel, by decide +kernel, by decide, by decide, by decide, ⟨_, rfl, by decide +kernel⟩,
     by decide +kernel, by decide +kernel⟩⟩,
   ⟨xdev (tgB 5) lau (iw 0x64 0 0 0 0 0 133), 2, 3, (tgB 5), lau, insOf (iw 0x64 0 0 0 0 0 133),
     (accOf (readMem (xdev (tgB 5) lau (iw 0x64 0 0 0 0 0 133)) 1 (0x100000 + ((tgB 5)).pc) 8)).1, ⟨⟨by decide, by decide +kernel, rfl,
     by decide +kernel, by decide +kernel, by decide, by decide, by decide, ⟨_, rfl, by decide +kernel⟩, by decide +kernel,
     by decide +kernel⟩, by decide +kernel⟩⟩,
   ⟨xdev (tgB 5) lau (iw 0x64 0 0 0 0 0 21), 2, 3, (tgB 5), lau, insOf (iw 0x64 0 0 0 0 0 21),
     (accOf (readMem (xdev (tgB 5) lau (iw 0x64 0 0 0 0 0 21)) 1 (0x100000 + ((tgB 5)).pc) 8)).1, ⟨⟨by decide, by decide +kernel, rfl,
     by decide +kernel, by decide +kernel, by decide, by decide, by decide, ⟨_, rfl, by decide +kernel⟩, by decide +kernel,
     by decide +kernel⟩, by decide +kernel⟩⟩,
   ⟨xdev (tgB 1) lau (iw 0x7f 0 0 0 0 0 0), 2, 3, (tgB 1), lau, (putLE 8 (iw 0x7F 0 0 0 0 0 0)),
     (accOf (readMem (xdev (tgB 1) lau (iw 0x7f 0 0 0 0 0 0)) 1 (0x100000 + ((tgB 1)).pc) 8)).1, by decide +kernel⟩,
   ⟨({ xdev (tgB 1) lau (iw 0x10 0 0 0 0 0 0) with fw.dbg.src := some 0, fw.breaks := [(35, [none, some 72])] } : State), 2, 3, (tgB 1),
     lau, by decide +kernel⟩⟩

/-- Witnesses of `Obligations.FurrowFloatsWriteTheirLanes`. -/
theorem wit_FurrowFloatsWriteTheirLanes :
    (∃ (s : State) (core slot : Nat) (t : Tg) (l : Launch) (x : Ins) (u : State), Issues s core slot 0x20 t l x u) ∧
    (∃ (s : State) (core slot : Nat) (t : Tg) (l : Launch) (x : Ins) (u : State), Issues s core slot 0x21 t l x u) ∧
    (∃ (s : State) (core slot : Nat) (t : Tg) (l : Launch) (x : Ins) (u : State), Issues s core slot 0x22 t l x u) ∧
    (∃ (s : State) (core slot : Nat) (t : Tg) (l : Launch) (x : Ins) (u : State), Issues s core slot 0x23 t l x u) ∧
    (∃ (s : State) (core slot : Nat) (t : Tg) (l : Launch) (x : Ins) (u : State), Issues s core slot 0x24 t l x u) ∧
    (∃ (s : State) (core slot : Nat) (t : Tg) (l : Launch) (x : Ins) (u : State), Issues s core slot 0x26 t l x u) ∧
    (∃ (s : State) (core slot : Nat) (t : Tg) (l : Launch) (x : Ins) (u : State), Issues s core slot 0x25 t l x u) ∧
    (∃ (s : State) (core slot : Nat) (t : Tg) (l : Launch) (x : Ins) (u : State), Issues s core slot 0x30 t l x u ∧ cvtCode (fld
      x.imm 7 0) = true ∧ cvtCode (fld x.imm 15 8) = true ∧ (fld x.imm 7 0 ≠ 4 ∧ fld x.imm 7 0 ≠ 5 ∧ fld x.imm 15 8 ≠ 4 ∧ fld
      x.imm 15 8 ≠ 5 ∨ instHas s l.inst 17 = true)) ∧
    (∃ (s : State) (core slot : Nat) (t : Tg) (l : Launch) (x : Ins) (u : State), Issues s core slot 0x30 t l x u ∧ (cvtCode (fld
      x.imm 7 0) = false ∨ cvtCode (fld x.imm 15 8) = false)) ∧
    (∃ (s : State) (core slot : Nat) (t : Tg) (l : Launch) (x : Ins) (u : State), Issues s core slot 0x30 t l x u ∧ cvtCode (fld
      x.imm 7 0) = true ∧ cvtCode (fld x.imm 15 8) = true ∧ (fld x.imm 7 0 = 4 ∨ fld x.imm 7 0 = 5 ∨ fld x.imm 15 8 = 4 ∨ fld
      x.imm 15 8 = 5) ∧ instHas s l.inst 17 = false) ∧
    (∃ (s : State) (core slot : Nat) (t : Tg) (l : Launch) (x : Ins) (u : State), Issues s core slot 0x31 t l x u ∧ instHas s
      l.inst 16 = true ∧ (predMask t x ≠ 0 → (t.ur x.a + fld x.imm 15 0) % 2 ^ 64 + mxBytes (6 + x.md) ≤ l.localBytes)) ∧
    (∃ (s : State) (core slot : Nat) (t : Tg) (l : Launch) (x : Ins) (u : State), Issues s core slot 0x32 t l x u ∧ instHas s
      l.inst 16 = true ∧ predMask t x ≠ 0 ∧ (t.ur x.a + fld x.imm 15 0) % 2 ^ 64 + mxBytes (6 + x.md) ≤ l.localBytes) ∧
    (∃ (s : State) (core slot : Nat) (t : Tg) (l : Launch) (x : Ins) (u : State) (n : Nat) (c : CbSlot), Issues s core slot 0x38 t
      l x u ∧ l.cbs[x.md]? = some n ∧ Tab.find s.cbs n = some c ∧ c.st = .loaded ∧ fld x.imm 3 0 < c.vlen ∧ (∀ k < 32, bitN
      (predMask t x) k = true → t.vr x.a k < c.entries)) ∧
    (∃ (s : State) (core slot : Nat) (t : Tg) (l : Launch) (x : Ins) (u : State) (n : Nat) (c : CbSlot), Issues s core slot 0x39 t
      l x u ∧ l.cbs[x.md]? = some n ∧ Tab.find s.cbs n = some c ∧ c.st = .loaded ∧ x.a + c.vlen ≤ 32) ∧
    (∃ (s : State) (core slot : Nat) (t : Tg) (l : Launch) (x : Ins) (u : State), Issues s core slot 0x38 t l x u ∧ l.cbs.length ≤
      x.md) :=
  ⟨⟨xdev tgF lau (iw 0x20 0 4 1 2 0 0), 2, 3, tgF, lau, insOf (iw 0x20 0 4 1 2 0 0),
    (accOf (readMem (xdev tgF lau (iw 0x20 0 4 1 2 0 0)) 1 (0x100000 + tgF.pc) 8)).1, ⟨by decide, by decide +kernel, rfl, by decide +kernel,
    by decide +kernel, by decide, by decide, by decide, ⟨_, rfl, by decide +kernel⟩, by decide +kernel, by decide +kernel⟩⟩,
   ⟨xdev tgF lau (iw 0x21 0 4 1 2 0 0), 2, 3, tgF, lau, insOf (iw 0x21 0 4 1 2 0 0),
     (accOf (readMem (xdev tgF lau (iw 0x21 0 4 1 2 0 0)) 1 (0x100000 + tgF.pc) 8)).1, ⟨by decide, by decide +kernel, rfl,
     by decide +kernel, by decide +kernel, by decide, by decide, by decide, ⟨_, rfl, by decide +kernel⟩, by decide +kernel,
     by decide +kernel⟩⟩,
   ⟨xdev tgF lau (iw 0x22 0 4 1 2 3 0), 2, 3, tgF, lau, insOf (iw 0x22 0 4 1 2 3 0),
     (accOf (readMem (xdev tgF lau (iw 0x22 0 4 1 2 3 0)) 1 (0x100000 + tgF.pc) 8)).1, ⟨by decide, by decide +kernel, rfl,
     by decide +kernel, by decide +kernel, by decide, by decide, by decide, ⟨_, rfl, by decide +kernel⟩, by decide +kernel,
     by decide +kernel⟩⟩,
   ⟨xdev tgF lau (iw 0x23 0 4 1 2 0 0), 2, 3, tgF, lau, insOf (iw 0x23 0 4 1 2 0 0),
     (accOf (readMem (xdev tgF lau (iw 0x23 0 4 1 2 0 0)) 1 (0x100000 + tgF.pc) 8)).1, ⟨by decide, by decide +kernel, rfl,
     by decide +kernel, by decide +kernel, by decide, by decide, by decide, ⟨_, rfl, by decide +kernel⟩, by decide +kernel,
     by decide +kernel⟩⟩,
   ⟨xdev tgF lau (iw 0x24 0 4 1 2 0 0), 2, 3, tgF, lau, insOf (iw 0x24 0 4 1 2 0 0),
     (accOf (readMem (xdev tgF lau (iw 0x24 0 4 1 2 0 0)) 1 (0x100000 + tgF.pc) 8)).1, ⟨by decide, by decide +kernel, rfl,
     by decide +kernel, by decide +kernel, by decide, by decide, by decide, ⟨_, rfl, by decide +kernel⟩, by decide +kernel,
     by decide +kernel⟩⟩,
   ⟨xdev tgF lau (iw 0x26 0 4 1 0 0 0), 2, 3, tgF, lau, insOf (iw 0x26 0 4 1 0 0 0),
     (accOf (readMem (xdev tgF lau (iw 0x26 0 4 1 0 0 0)) 1 (0x100000 + tgF.pc) 8)).1, ⟨by decide, by decide +kernel, rfl,
     by decide +kernel, by decide +kernel, by decide, by decide, by decide, ⟨_, rfl, by decide +kernel⟩, by decide +kernel,
     by decide +kernel⟩⟩,
   ⟨xdev tgF lau (iw 0x25 1 1 1 2 0 0), 2, 3, tgF, lau, insOf (iw 0x25 1 1 1 2 0 0),
     (accOf (readMem (xdev tgF lau (iw 0x25 1 1 1 2 0 0)) 1 (0x100000 + tgF.pc) 8)).1, ⟨by decide, by decide +kernel, rfl,
     by decide +kernel, by decide +kernel, by decide, by decide, by decide, ⟨_, rfl, by decide +kernel⟩, by decide +kernel,
     by decide +kernel⟩⟩,
   ⟨xdev tgF lau (iw 0x30 0 4 1 0 0 66561), 2, 3, tgF, lau, insOf (iw 0x30 0 4 1 0 0 66561),
     (accOf (readMem (xdev tgF lau (iw 0x30 0 4 1 0 0 66561)) 1 (0x100000 + tgF.pc) 8)).1, ⟨⟨by decide, by decide +kernel, rfl,
     by decide +kernel, by decide +kernel, by decide, by decide, by decide, ⟨_, rfl, by decide +kernel⟩, by decide +kernel,
     by decide +kernel⟩, by decide +kernel, by decide +kernel, by decide +kernel⟩⟩,
   ⟨xdev tgF lau (iw 0x30 0 4 1 0 0 1536), 2, 3, tgF, lau, insOf (iw 0x30 0 4 1 0 0 1536),
     (accOf (readMem (xdev tgF lau (iw 0x30 0 4 1 0 0 1536)) 1 (0x100000 + tgF.pc) 8)).1, ⟨⟨by decide, by decide +kernel, rfl,
     by decide +kernel, by decide +kernel, by decide, by decide, by decide, ⟨_, rfl, by decide +kernel⟩, by decide +kernel,
     by decide +kernel⟩, by decide +kernel⟩⟩,
   ⟨({ xdev tgF lau (iw 0x30 0 4 1 0 0 66561) with feat.subset := 0 } : State), 2, 3, tgF, lau, insOf (iw 0x30 0 4 1 0 0 66561),
     (accOf (readMem (({ xdev tgF lau (iw 0x30 0 4 1 0 0 66561) with feat.subset := 0 } : State)) 1 (0x100000 + tgF.pc) 8)).1, ⟨⟨by decide,
     by decide +kernel, rfl, by decide +kernel, by decide +kernel, by decide, by decide, by decide, ⟨_, rfl, by decide +kernel⟩,
     by decide +kernel, by decide +kernel⟩, by decide +kernel, by decide +kernel, by decide +kernel, by decide +kernel⟩⟩,
   ⟨xdev tgF lau (iw 0x31 1 4 3 0 0 4), 2, 3, tgF, lau, insOf (iw 0x31 1 4 3 0 0 4),
     (accOf (readMem (xdev tgF lau (iw 0x31 1 4 3 0 0 4)) 1 (0x100000 + tgF.pc) 8)).1, ⟨⟨by decide, by decide +kernel, rfl,
     by decide +kernel, by decide +kernel, by decide, by decide, by decide, ⟨_, rfl, by decide +kernel⟩, by decide +kernel,
     by decide +kernel⟩, by decide +kernel, by decide +kernel⟩⟩,
   ⟨xdev tgF lau (iw 0x32 2 0 3 2 0 4), 2, 3, tgF, lau, insOf (iw 0x32 2 0 3 2 0 4),
     (accOf (readMem (xdev tgF lau (iw 0x32 2 0 3 2 0 4)) 1 (0x100000 + tgF.pc) 8)).1, ⟨⟨by decide, by decide +kernel, rfl,
     by decide +kernel, by decide +kernel, by decide, by decide, by decide, ⟨_, rfl, by decide +kernel⟩, by decide +kernel,
     by decide +kernel⟩, by decide +kernel, by decide +kernel, by decide +kernel⟩⟩,
   ⟨xdev tgC lau (iw 0x38 0 4 1 0 0 1), 2, 3, tgC, lau, insOf (iw 0x38 0 4 1 0 0 1),
     (accOf (readMem (xdev tgC lau (iw 0x38 0 4 1 0 0 1)) 1 (0x100000 + tgC.pc) 8)).1, 0, cbk, ⟨⟨by decide, by decide +kernel, rfl,
     by decide +kernel, by decide +kernel, by decide, by decide, by decide, ⟨_, rfl, by decide +kernel⟩, by decide +kernel,
     by decide +kernel⟩, by decide +kernel, by decide +kernel, by decide +kernel, by decide +kernel, by decide +kernel⟩⟩,
   ⟨xdev tgF lau (iw 0x39 0 4 1 0 0 0), 2, 3, tgF, lau, insOf (iw 0x39 0 4 1 0 0 0),
     (accOf (readMem (xdev tgF lau (iw 0x39 0 4 1 0 0 0)) 1 (0x100000 + tgF.pc) 8)).1, 0, cbk, ⟨⟨by decide, by decide +kernel, rfl,
     by decide +kernel, by decide +kernel, by decide, by decide, by decide, ⟨_, rfl, by decide +kernel⟩, by decide +kernel,
     by decide +kernel⟩, by decide +kernel, by decide +kernel, by decide +kernel, by decide +kernel⟩⟩,
   ⟨xdev tgF lau (iw 0x38 1 4 1 0 0 1), 2, 3, tgF, lau, insOf (iw 0x38 1 4 1 0 0 1),
     (accOf (readMem (xdev tgF lau (iw 0x38 1 4 1 0 0 1)) 1 (0x100000 + tgF.pc) 8)).1, ⟨⟨by decide, by decide +kernel, rfl,
     by decide +kernel, by decide +kernel, by decide, by decide, by decide, ⟨_, rfl, by decide +kernel⟩, by decide +kernel,
     by decide +kernel⟩, by decide +kernel⟩⟩⟩

/-- Witnesses of `Obligations.FurrowGroupInstructionsMoveTheGroup`. -/
theorem wit_FurrowGroupInstructionsMoveTheGroup :
    (∃ (s : State) (core slot : Nat) (t : Tg) (l : Launch) (x : Ins) (u : State), Issues s core slot 0x00 t l x u) ∧
    (∃ (s : State) (core slot : Nat) (t : Tg) (l : Launch) (x : Ins) (u : State), Issues s core slot 0x57 t l x u) ∧
    (∃ (s : State) (core slot : Nat) (t : Tg) (l : Launch) (x : Ins) (u : State), Issues s core slot 0x03 t l x u ∧ x.imm ≤ 4) ∧
    (∃ (s : State) (core slot : Nat) (t : Tg) (l : Launch) (x : Ins) (u : State), Issues s core slot 0x03 t l x u ∧ 4 < x.imm) ∧
    (∃ (s : State) (core slot : Nat) (t : Tg) (l : Launch) (x : Ins) (u : State), Issues s core slot 0x04 t l x u) ∧
    (∃ (s : State) (core slot : Nat) (t : Tg) (l : Launch) (x : Ins) (u : State), Issues s core slot 0x1C t l x u) ∧
    (∃ (s : State) (core slot : Nat) (t : Tg) (l : Launch) (x : Ins) (u : State), Issues s core slot 0x41 t l x u) ∧
    (∃ (s : State) (core slot : Nat) (t : Tg) (l : Launch) (x : Ins) (u : State), Issues s core slot 0x42 t l x u) ∧
    (∃ (s : State) (core slot : Nat) (t : Tg) (l : Launch) (x : Ins) (u : State), Issues s core slot 0x66 t l x u) ∧
    (∃ (s : State) (core slot : Nat) (t : Tg) (l : Launch) (x : Ins) (u : State), Issues s core slot 0x67 t l x u ∧ (fld x.imm 7 0
      = 0 ∨ 0x80 ≤ fld x.imm 7 0)) ∧
    (∃ (s : State) (core slot : Nat) (t : Tg) (l : Launch) (x : Ins) (u : State), Issues s core slot 0x67 t l x u ∧ 1 ≤ fld x.imm
      7 0 ∧ fld x.imm 7 0 < 0x80) ∧
    (∃ (s : State) (core slot : Nat) (t : Tg) (l : Launch) (x : Ins) (u : State), Issues s core slot 0x68 t l x u ∧ fld x.imm 13 0
      < synkoMax s ∧ owns s.own.sy (fld x.imm 13 0) l.inst = true ∧ ((stagedSet s l t).contains (fld x.imm 13 0) = true ∨
      (stagedSet s l t).length < 4) ∧ instHas s l.inst 9 = true) ∧
    (∃ (s : State) (core slot : Nat) (t : Tg) (l : Launch) (x : Ins) (u : State), Issues s core slot 0x68 t l x u ∧ fld x.imm 13 0
      < synkoMax s ∧ owns s.own.sy (fld x.imm 13 0) l.inst = true ∧ (stagedSet s l t).contains (fld x.imm 13 0) = false ∧ 4 ≤
      (stagedSet s l t).length) ∧
    (∃ (s : State) (core slot : Nat) (t : Tg) (l : Launch) (x : Ins) (u : State), Issues s core slot 0x69 t l x u ∧ s.fw.dbg.src =
      none) ∧
    (∃ (s : State) (core slot : Nat) (t : Tg) (l : Launch) (x : Ins) (u : State), Issues s core slot 0x69 t l x u ∧
      s.fw.dbg.src.isSome = true) :=
  ⟨⟨xdev tgI lau (iw 0x0 0 0 0 0 0 0), 2, 3, tgI, lau, insOf (iw 0x0 0 0 0 0 0 0),
    (accOf (readMem (xdev tgI lau (iw 0x0 0 0 0 0 0 0)) 1 (0x100000 + tgI.pc) 8)).1, ⟨by decide, by decide +kernel, rfl, by decide +kernel,
    by decide +kernel, by decide, by decide, by decide, ⟨_, rfl, by decide +kernel⟩, by decide +kernel, by decide +kernel⟩⟩,
   ⟨xdev tgI lau (iw 0x57 0 0 0 0 0 0), 2, 3, tgI, lau, insOf (iw 0x57 0 0 0 0 0 0),
     (accOf (readMem (xdev tgI lau (iw 0x57 0 0 0 0 0 0)) 1 (0x100000 + tgI.pc) 8)).1, ⟨by decide, by decide +kernel, rfl,
     by decide +kernel, by decide +kernel, by decide, by decide, by decide, ⟨_, rfl, by decide +kernel⟩, by decide +kernel,
     by decide +kernel⟩⟩,
   ⟨xdev tgI lau (iw 0x3 0 4 0 0 0 4), 2, 3, tgI, lau, insOf (iw 0x3 0 4 0 0 0 4),
     (accOf (readMem (xdev tgI lau (iw 0x3 0 4 0 0 0 4)) 1 (0x100000 + tgI.pc) 8)).1, ⟨⟨by decide, by decide +kernel, rfl,
     by decide +kernel, by decide +kernel, by decide, by decide, by decide, ⟨_, rfl, by decide +kernel⟩, by decide +kernel,
     by decide +kernel⟩, by decide +kernel⟩⟩,
   ⟨xdev tgI lau (iw 0x3 0 4 0 0 0 5), 2, 3, tgI, lau, insOf (iw 0x3 0 4 0 0 0 5),
     (accOf (readMem (xdev tgI lau (iw 0x3 0 4 0 0 0 5)) 1 (0x100000 + tgI.pc) 8)).1, ⟨⟨by decide, by decide +kernel, rfl,
     by decide +kernel, by decide +kernel, by decide, by decide, by decide, ⟨_, rfl, by decide +kernel⟩, by decide +kernel,
     by decide +kernel⟩, by decide +kernel⟩⟩,
   ⟨xdev tgU lau (iw 0x4 2 1 2 0 0 0), 2, 3, tgU, lau, insOf (iw 0x4 2 1 2 0 0 0),
     (accOf (readMem (xdev tgU lau (iw 0x4 2 1 2 0 0 0)) 1 (0x100000 + tgU.pc) 8)).1, ⟨by decide, by decide +kernel, rfl, by decide +kernel,
     by decide +kernel, by decide, by decide, by decide, ⟨_, rfl, by decide +kernel⟩, by decide +kernel, by decide +kernel⟩⟩,
   ⟨xdev tgI lau (iw 0x1c 12 2 1 2 0 0), 2, 3, tgI, lau, insOf (iw 0x1c 12 2 1 2 0 0),
     (accOf (readMem (xdev tgI lau (iw 0x1c 12 2 1 2 0 0)) 1 (0x100000 + tgI.pc) 8)).1, ⟨by decide, by decide +kernel, rfl,
     by decide +kernel, by decide +kernel, by decide, by decide, by decide, ⟨_, rfl, by decide +kernel⟩, by decide +kernel,
     by decide +kernel⟩⟩,
   ⟨xdev tgU lau (iw 0x41 0 3 2 0 0 0), 2, 3, tgU, lau, insOf (iw 0x41 0 3 2 0 0 0),
     (accOf (readMem (xdev tgU lau (iw 0x41 0 3 2 0 0 0)) 1 (0x100000 + tgU.pc) 8)).1, ⟨by decide, by decide +kernel, rfl,
     by decide +kernel, by decide +kernel, by decide, by decide, by decide, ⟨_, rfl, by decide +kernel⟩, by decide +kernel,
     by decide +kernel⟩⟩,
   ⟨xdev tgI lau (iw 0x42 0 4 1 0 0 0), 2, 3, tgI, lau, insOf (iw 0x42 0 4 1 0 0 0),
     (accOf (readMem (xdev tgI lau (iw 0x42 0 4 1 0 0 0)) 1 (0x100000 + tgI.pc) 8)).1, ⟨by decide, by decide +kernel, rfl,
     by decide +kernel, by decide +kernel, by decide, by decide, by decide, ⟨_, rfl, by decide +kernel⟩, by decide +kernel,
     by decide +kernel⟩⟩,
   ⟨xdev tgU lau (iw 0x66 0 0 1 0 0 0), 2, 3, tgU, lau, insOf (iw 0x66 0 0 1 0 0 0),
     (accOf (readMem (xdev tgU lau (iw 0x66 0 0 1 0 0 0)) 1 (0x100000 + tgU.pc) 8)).1, ⟨by decide, by decide +kernel, rfl,
     by decide +kernel, by decide +kernel, by decide, by decide, by decide, ⟨_, rfl, by decide +kernel⟩, by decide +kernel,
     by decide +kernel⟩⟩,
   ⟨xdev tgI lau (iw 0x67 0 0 0 0 0 129), 2, 3, tgI, lau, insOf (iw 0x67 0 0 0 0 0 129),
     (accOf (readMem (xdev tgI lau (iw 0x67 0 0 0 0 0 129)) 1 (0x100000 + tgI.pc) 8)).1, ⟨⟨by decide, by decide +kernel, rfl,
     by decide +kernel, by decide +kernel, by decide, by decide, by decide, ⟨_, rfl, by decide +kernel⟩, by decide +kernel,
     by decide +kernel⟩, by decide +kernel⟩⟩,
   ⟨xdev tgI lau (iw 0x67 0 0 0 0 0 17), 2, 3, tgI, lau, insOf (iw 0x67 0 0 0 0 0 17),
     (accOf (readMem (xdev tgI lau (iw 0x67 0 0 0 0 0 17)) 1 (0x100000 + tgI.pc) 8)).1, ⟨⟨by decide, by decide +kernel, rfl,
     by decide +kernel, by decide +kernel, by decide, by decide, by decide, ⟨_, rfl, by decide +kernel⟩, by decide +kernel,
     by decide +kernel⟩, by decide +kernel, by decide +kernel⟩⟩,
   ⟨xdev tgU lau (iw 0x68 0 0 2 0 0 5), 2, 3, tgU, lau, insOf (iw 0x68 0 0 2 0 0 5),
     (accOf (readMem (xdev tgU lau (iw 0x68 0 0 2 0 0 5)) 1 (0x100000 + tgU.pc) 8)).1, ⟨⟨by decide, by decide +kernel, rfl,
     by decide +kernel, by decide +kernel, by decide, by decide, by decide, ⟨_, rfl, by decide +kernel⟩, by decide +kernel,
     by decide +kernel⟩, by decide +kernel, by decide +kernel, by decide +kernel, by decide +kernel⟩⟩,
   ⟨xdev tgS lau (iw 0x68 0 0 2 0 0 5), 2, 3, tgS, lau, insOf (iw 0x68 0 0 2 0 0 5),
     (accOf (readMem (xdev tgS lau (iw 0x68 0 0 2 0 0 5)) 1 (0x100000 + tgS.pc) 8)).1, ⟨⟨by decide, by decide +kernel, rfl,
     by decide +kernel, by decide +kernel, by decide, by decide, by decide, ⟨_, rfl, by decide +kernel⟩, by decide +kernel,
     by decide +kernel⟩, by decide +kernel, by decide +kernel, by decide +kernel, by decide +kernel⟩⟩,
   ⟨xdev tgI lau (iw 0x69 0 0 0 0 0 0), 2, 3, tgI, lau, insOf (iw 0x69 0 0 0 0 0 0),
     (accOf (readMem (xdev tgI lau (iw 0x69 0 0 0 0 0 0)) 1 (0x100000 + tgI.pc) 8)).1, ⟨⟨by decide, by decide +kernel, rfl,
     by decide +kernel, by decide +kernel, by decide, by decide, by decide, ⟨_, rfl, by decide +kernel⟩, by decide +kernel,
     by decide +kernel⟩, by decide +kernel⟩⟩,
   ⟨({ xdev tgI lau (iw 0x69 0 0 0 0 0 0) with fw.dbg.src := some 0 } : State), 2, 3, tgI, lau, insOf (iw 0x69 0 0 0 0 0 0),
     (accOf (readMem (({ xdev tgI lau (iw 0x69 0 0 0 0 0 0) with fw.dbg.src := some 0 } : State)) 1 (0x100000 + tgI.pc) 8)).1, ⟨⟨by decide,
     by decide +kernel, rfl, by decide +kernel, by decide +kernel, by decide, by decide, by decide, ⟨_, rfl, by decide +kernel⟩,
     by decide +kernel, by decide +kernel⟩, by decide +kernel⟩⟩⟩

/-- Witnesses of `Obligations.FurrowIntegersWriteTheirLanes`. -/
theorem wit_FurrowIntegersWriteTheirLanes :
    (∃ (s : State) (core slot : Nat) (t : Tg) (l : Launch) (x : Ins) (u : State), Issues s core slot 0x01 t l x u) ∧
    (∃ (s : State) (core slot : Nat) (t : Tg) (l : Launch) (x : Ins) (u : State), Issues s core slot 0x02 t l x u) ∧
    (∃ (s : State) (core slot : Nat) (t : Tg) (l : Launch) (x : Ins) (u : State), Issues s core slot 0x10 t l x u) ∧
    (∃ (s : State) (core slot : Nat) (t : Tg) (l : Launch) (x : Ins) (u : State), Issues s core slot 0x11 t l x u) ∧
    (∃ (s : State) (core slot : Nat) (t : Tg) (l : Launch) (x : Ins) (u : State), Issues s core slot 0x12 t l x u) ∧
    (∃ (s : State) (core slot : Nat) (t : Tg) (l : Launch) (x : Ins) (u : State), Issues s core slot 0x13 t l x u) ∧
    (∃ (s : State) (core slot : Nat) (t : Tg) (l : Launch) (x : Ins) (u : State), Issues s core slot 0x14 t l x u) ∧
    (∃ (s : State) (core slot : Nat) (t : Tg) (l : Launch) (x : Ins) (u : State), Issues s core slot 0x15 t l x u) ∧
    (∃ (s : State) (core slot : Nat) (t : Tg) (l : Launch) (x : Ins) (u : State), Issues s core slot 0x16 t l x u) ∧
    (∃ (s : State) (core slot : Nat) (t : Tg) (l : Launch) (x : Ins) (u : State), Issues s core slot 0x17 t l x u) ∧
    (∃ (s : State) (core slot : Nat) (t : Tg) (l : Launch) (x : Ins) (u : State), Issues s core slot 0x18 t l x u) ∧
    (∃ (s : State) (core slot : Nat) (t : Tg) (l : Launch) (x : Ins) (u : State), Issues s core slot 0x19 t l x u) ∧
    (∃ (s : State) (core slot : Nat) (t : Tg) (l : Launch) (x : Ins) (u : State), Issues s core slot 0x1A t l x u) ∧
    (∃ (s : State) (core slot : Nat) (t : Tg) (l : Launch) (x : Ins) (u : State), Issues s core slot 0x1B t l x u) ∧
    (∃ (s : State) (core slot : Nat) (t : Tg) (l : Launch) (x : Ins) (u : State), Issues s core slot 0x40 t l x u) :=
  ⟨⟨xdev tgI lau (iw 0x1 0 4 0 0 0 8463173), 2, 3, tgI, lau, insOf (iw 0x1 0 4 0 0 0 8463173),
    (accOf (readMem (xdev tgI lau (iw 0x1 0 4 0 0 0 8463173)) 1 (0x100000 + tgI.pc) 8)).1, ⟨by decide, by decide +kernel, rfl,
    by decide +kernel, by decide +kernel, by decide, by decide, by decide, ⟨_, rfl, by decide +kernel⟩, by decide +kernel,
    by decide +kernel⟩⟩,
   ⟨xdev tgI lau (iw 0x2 1 4 1 0 0 0), 2, 3, tgI, lau, insOf (iw 0x2 1 4 1 0 0 0),
     (accOf (readMem (xdev tgI lau (iw 0x2 1 4 1 0 0 0)) 1 (0x100000 + tgI.pc) 8)).1, ⟨by decide, by decide +kernel, rfl, by decide +kernel,
     by decide +kernel, by decide, by decide, by decide, ⟨_, rfl, by decide +kernel⟩, by decide +kernel, by decide +kernel⟩⟩,
   ⟨xdev tgI lau (iw 0x10 0 4 1 2 0 0), 2, 3, tgI, lau, insOf (iw 0x10 0 4 1 2 0 0),
     (accOf (readMem (xdev tgI lau (iw 0x10 0 4 1 2 0 0)) 1 (0x100000 + tgI.pc) 8)).1, ⟨by decide, by decide +kernel, rfl,
     by decide +kernel, by decide +kernel, by decide, by decide, by decide, ⟨_, rfl, by decide +kernel⟩, by decide +kernel,
     by decide +kernel⟩⟩,
   ⟨xdev tgI lau (iw 0x11 0 4 1 2 0 0), 2, 3, tgI, lau, insOf (iw 0x11 0 4 1 2 0 0),
     (accOf (readMem (xdev tgI lau (iw 0x11 0 4 1 2 0 0)) 1 (0x100000 + tgI.pc) 8)).1, ⟨by decide, by decide +kernel, rfl,
     by decide +kernel, by decide +kernel, by decide, by decide, by decide, ⟨_, rfl, by decide +kernel⟩, by decide +kernel,
     by decide +kernel⟩⟩,
   ⟨xdev tgI lau (iw 0x12 0 4 1 2 0 0), 2, 3, tgI, lau, insOf (iw 0x12 0 4 1 2 0 0),
     (accOf (readMem (xdev tgI lau (iw 0x12 0 4 1 2 0 0)) 1 (0x100000 + tgI.pc) 8)).1, ⟨by decide, by decide +kernel, rfl,
     by decide +kernel, by decide +kernel, by decide, by decide, by decide, ⟨_, rfl, by decide +kernel⟩, by decide +kernel,
     by decide +kernel⟩⟩,
   ⟨xdev tgI lau (iw 0x13 0 4 1 2 3 0), 2, 3, tgI, lau, insOf (iw 0x13 0 4 1 2 3 0),
     (accOf (readMem (xdev tgI lau (iw 0x13 0 4 1 2 3 0)) 1 (0x100000 + tgI.pc) 8)).1, ⟨by decide, by decide +kernel, rfl,
     by decide +kernel, by decide +kernel, by decide, by decide, by decide, ⟨_, rfl, by decide +kernel⟩, by decide +kernel,
     by decide +kernel⟩⟩,
   ⟨xdev tgI lau (iw 0x14 0 4 1 2 0 0), 2, 3, tgI, lau, insOf (iw 0x14 0 4 1 2 0 0),
     (accOf (readMem (xdev tgI lau (iw 0x14 0 4 1 2 0 0)) 1 (0x100000 + tgI.pc) 8)).1, ⟨by decide, by decide +kernel, rfl,
     by decide +kernel, by decide +kernel, by decide, by decide, by decide, ⟨_, rfl, by decide +kernel⟩, by decide +kernel,
     by decide +kernel⟩⟩,
   ⟨xdev tgI lau (iw 0x15 0 4 1 2 0 0), 2, 3, tgI, lau, insOf (iw 0x15 0 4 1 2 0 0),
     (accOf (readMem (xdev tgI lau (iw 0x15 0 4 1 2 0 0)) 1 (0x100000 + tgI.pc) 8)).1, ⟨by decide, by decide +kernel, rfl,
     by decide +kernel, by decide +kernel, by decide, by decide, by decide, ⟨_, rfl, by decide +kernel⟩, by decide +kernel,
     by decide +kernel⟩⟩,
   ⟨xdev tgI lau (iw 0x16 0 4 1 2 0 0), 2, 3, tgI, lau, insOf (iw 0x16 0 4 1 2 0 0),
     (accOf (readMem (xdev tgI lau (iw 0x16 0 4 1 2 0 0)) 1 (0x100000 + tgI.pc) 8)).1, ⟨by decide, by decide +kernel, rfl,
     by decide +kernel, by decide +kernel, by decide, by decide, by decide, ⟨_, rfl, by decide +kernel⟩, by decide +kernel,
     by decide +kernel⟩⟩,
   ⟨xdev tgI lau (iw 0x17 0 4 1 2 0 0), 2, 3, tgI, lau, insOf (iw 0x17 0 4 1 2 0 0),
     (accOf (readMem (xdev tgI lau (iw 0x17 0 4 1 2 0 0)) 1 (0x100000 + tgI.pc) 8)).1, ⟨by decide, by decide +kernel, rfl,
     by decide +kernel, by decide +kernel, by decide, by decide, by decide, ⟨_, rfl, by decide +kernel⟩, by decide +kernel,
     by decide +kernel⟩⟩,
   ⟨xdev tgI lau (iw 0x18 0 4 1 2 0 0), 2, 3, tgI, lau, insOf (iw 0x18 0 4 1 2 0 0),
     (accOf (readMem (xdev tgI lau (iw 0x18 0 4 1 2 0 0)) 1 (0x100000 + tgI.pc) 8)).1, ⟨by decide, by decide +kernel, rfl,
     by decide +kernel, by decide +kernel, by decide, by decide, by decide, ⟨_, rfl, by decide +kernel⟩, by decide +kernel,
     by decide +kernel⟩⟩,
   ⟨xdev tgI lau (iw 0x19 0 4 1 2 0 0), 2, 3, tgI, lau, insOf (iw 0x19 0 4 1 2 0 0),
     (accOf (readMem (xdev tgI lau (iw 0x19 0 4 1 2 0 0)) 1 (0x100000 + tgI.pc) 8)).1, ⟨by decide, by decide +kernel, rfl,
     by decide +kernel, by decide +kernel, by decide, by decide, by decide, ⟨_, rfl, by decide +kernel⟩, by decide +kernel,
     by decide +kernel⟩⟩,
   ⟨xdev tgI lau (iw 0x1a 0 4 1 2 0 0), 2, 3, tgI, lau, insOf (iw 0x1a 0 4 1 2 0 0),
     (accOf (readMem (xdev tgI lau (iw 0x1a 0 4 1 2 0 0)) 1 (0x100000 + tgI.pc) 8)).1, ⟨by decide, by decide +kernel, rfl,
     by decide +kernel, by decide +kernel, by decide, by decide, by decide, ⟨_, rfl, by decide +kernel⟩, by decide +kernel,
     by decide +kernel⟩⟩,
   ⟨xdev tgI lau (iw 0x1b 0 4 1 2 0 0), 2, 3, tgI, lau, insOf (iw 0x1b 0 4 1 2 0 0),
     (accOf (readMem (xdev tgI lau (iw 0x1b 0 4 1 2 0 0)) 1 (0x100000 + tgI.pc) 8)).1, ⟨by decide, by decide +kernel, rfl,
     by decide +kernel, by decide +kernel, by decide, by decide, by decide, ⟨_, rfl, by decide +kernel⟩, by decide +kernel,
     by decide +kernel⟩⟩,
   ⟨xdev tgI lau (iw 0x40 0 4 1 2 0 0), 2, 3, tgI, lau, insOf (iw 0x40 0 4 1 2 0 0),
     (accOf (readMem (xdev tgI lau (iw 0x40 0 4 1 2 0 0)) 1 (0x100000 + tgI.pc) 8)).1, ⟨by decide, by decide +kernel, rfl,
     by decide +kernel, by decide +kernel, by decide, by decide, by decide, ⟨_, rfl, by decide +kernel⟩, by decide +kernel,
     by decide +kernel⟩⟩⟩

/-- Witnesses of `Obligations.FurrowMemoryAccessesAreChecked`. -/
theorem wit_FurrowMemoryAccessesAreChecked :
    (∃ (s : State) (core slot : Nat) (t : Tg) (l : Launch) (x : Ins) (u : State), Issues s core slot 0x50 t l x u ∧ (∀ k < 32,
      bitN (predMask t x) k = true → laneAddr t x k + 4 ≤ l.localBytes ∧ laneAddr t x k % 4 = 0)) ∧
    (∃ (s : State) (core slot : Nat) (t : Tg) (l : Launch) (x : Ins) (u : State), Issues s core slot 0x51 t l x u ∧ (∀ k < 32,
      bitN (predMask t x) k = true → laneAddr t x k + 4 ≤ l.localBytes ∧ laneAddr t x k % 4 = 0)) ∧
    (∃ (s : State) (core slot : Nat) (t : Tg) (l : Launch) (x : Ins) (u : State), Issues s core slot 0x50 t l x u ∧ (∃ k < 32,
      bitN (predMask t x) k = true ∧ l.localBytes < laneAddr t x k + 4)) ∧
    (∃ (s : State) (core slot : Nat) (t : Tg) (l : Launch) (x : Ins) (u : State), Issues s core slot 0x51 t l x u ∧ (∀ k < 32,
      bitN (predMask t x) k = true → laneAddr t x k + 4 ≤ l.localBytes) ∧ (∃ k < 32, bitN (predMask t x) k = true ∧ laneAddr t x k
      % 4 ≠ 0)) ∧
    (∃ (s : State) (core slot : Nat) (t : Tg) (l : Launch) (x : Ins) (u : State), Issues s core slot 0x56 t l x u ∧ (∀ k < 32,
      bitN (predMask t x) k = true → laneAddr t x k + 4 ≤ l.args.length)) ∧
    (∃ (s : State) (core slot : Nat) (t : Tg) (l : Launch) (x : Ins) (u : State) (b : Bind) (r : List (Nat × Nat)) (w : State),
      Issues s core slot 0x52 t l x u ∧ l.binds[x.md]? = some b ∧ bitN b.use 0 = true ∧ (∀ k < 32, bitN (predMask t x) k = true →
      laneAddr t x k + 4 ≤ b.len ∧ laneAddr t x k % 4 = 0) ∧ readLanes (admOf u t.q t.i) l.inst (fun k => b.addr + laneAddr t x k)
      u (lanesIn (predMask t x)) = .ok w r) ∧
    (∃ (s : State) (core slot : Nat) (t : Tg) (l : Launch) (x : Ins) (u : State) (b : Bind) (r : List (Nat × Nat)) (w : State),
      Issues s core slot 0x53 t l x u ∧ l.binds[x.md]? = some b ∧ bitN b.use 1 = true ∧ (∀ k < 32, bitN (predMask t x) k = true →
      laneAddr t x k + 4 ≤ b.len ∧ laneAddr t x k % 4 = 0) ∧ writeLanes (admOf u t.q t.i) l.inst u ((lanesIn (predMask t x)).map
      fun k => (k, b.addr + laneAddr t x k, t.vr x.c k)) = .ok w r) ∧
    (∃ (s : State) (core slot : Nat) (t : Tg) (l : Launch) (x : Ins) (u : State) (b : Bind), Issues s core slot 0x53 t l x u ∧
      l.binds[x.md]? = some b ∧ bitN b.use 1 = false) ∧
    (∃ (s : State) (core slot : Nat) (t : Tg) (l : Launch) (x : Ins) (u : State), Issues s core slot 0x52 t l x u ∧ l.binds.length
      ≤ x.md) ∧
    (∃ (s : State) (core slot : Nat) (t : Tg) (l : Launch) (x : Ins) (u : State) (b : Bind) (d : Bytes) (w : State), Issues s core
      slot 0x54 t l x u ∧ l.binds[x.md]? = some b ∧ predMask t x ≠ 0 ∧ bitN x.imm 0 = false ∧ bitN b.use 0 = true ∧ t.ur x.a +
      t.ur x.c ≤ b.len ∧ t.ur x.c % 64 = 0 ∧ 64 ≤ t.ur x.c ∧ t.ur x.c ≤ 65536 ∧ t.ur x.a % 64 = 0 ∧ t.ur x.b % 64 = 0 ∧ t.ur x.b +
      t.ur x.c ≤ l.localBytes ∧ readMemAt (admOf u t.q t.i) u l.inst (b.addr + t.ur x.a) (t.ur x.c) = .ok w d) ∧
    (∃ (s : State) (core slot : Nat) (t : Tg) (l : Launch) (x : Ins) (u : State) (b : Bind) (d : Bytes) (w : State), Issues s core
      slot 0x54 t l x u ∧ l.binds[x.md]? = some b ∧ predMask t x ≠ 0 ∧ bitN x.imm 0 = true ∧ bitN b.use 1 = true ∧ t.ur x.a + t.ur
      x.c ≤ b.len ∧ t.ur x.c % 64 = 0 ∧ 64 ≤ t.ur x.c ∧ t.ur x.c ≤ 65536 ∧ t.ur x.a % 64 = 0 ∧ t.ur x.b % 64 = 0 ∧ t.ur x.b + t.ur
      x.c ≤ l.localBytes ∧ writeMemAt (admOf u t.q t.i) u l.inst (b.addr + t.ur x.a) (Mem.read t.localMem (t.ur x.b) (t.ur x.c)) =
      .ok w d) ∧
    (∃ (s : State) (core slot : Nat) (t : Tg) (l : Launch) (x : Ins) (u : State) (b : Bind) (w : State) (old : List (Nat × Nat))
      (y : State) (r : List (Nat × Nat)), Issues s core slot 0x55 t l x u ∧ x.imm ≤ 3 ∧ t.atomg < 64 ∧ l.binds[x.md]? = some b ∧
      bitN b.use 2 = true ∧ (∀ k < 32, bitN (predMask t x) k = true → laneAddr t x k + 4 ≤ b.len ∧ laneAddr t x k % 4 = 0) ∧
      (Tab.getD s.fw.alogs (alogKey t.q t.i t.index) []).length ≤ t.atomg ∧ readLanes (admOf u t.q t.i) l.inst
      (fun k => b.addr + laneAddr t x k) u (lanesIn (predMask t x)) = .ok w old ∧ writeLanes (admOf u t.q t.i) l.inst w (atomLanes
      { k := fwKey core slot, l := l, x := x, mask := predMask t x } { t with pc := (t.pc + 8) % 2 ^ 64 } b old).2 = .ok y r) ∧
    (∃ (s : State) (core slot : Nat) (t : Tg) (l : Launch) (x : Ins) (u : State), Issues s core slot 0x55 t l x u ∧ x.imm ≤ 3 ∧ 64
      ≤ t.atomg) :=
  ⟨⟨xdev tgA lau (iw 0x50 0 4 1 2 0 4), 2, 3, tgA, lau, insOf (iw 0x50 0 4 1 2 0 4),
    (accOf (readMem (xdev tgA lau (iw 0x50 0 4 1 2 0 4)) 1 (0x100000 + tgA.pc) 8)).1, ⟨⟨by decide, by decide +kernel, rfl,
    by decide +kernel, by decide +kernel, by decide, by decide, by decide, ⟨_, rfl, by decide +kernel⟩, by decide +kernel,
    by decide +kernel⟩, by decide +kernel⟩⟩,
   ⟨xdev tgA lau (iw 0x51 0 0 1 2 3 4), 2, 3, tgA, lau, insOf (iw 0x51 0 0 1 2 3 4),
     (accOf (readMem (xdev tgA lau (iw 0x51 0 0 1 2 3 4)) 1 (0x100000 + tgA.pc) 8)).1, ⟨⟨by decide, by decide +kernel, rfl,
     by decide +kernel, by decide +kernel, by decide, by decide, by decide, ⟨_, rfl, by decide +kernel⟩, by decide +kernel,
     by decide +kernel⟩, by decide +kernel⟩⟩,
   ⟨xdev tgA lau (iw 0x50 0 4 4 2 0 0), 2, 3, tgA, lau, insOf (iw 0x50 0 4 4 2 0 0),
     (accOf (readMem (xdev tgA lau (iw 0x50 0 4 4 2 0 0)) 1 (0x100000 + tgA.pc) 8)).1, ⟨⟨by decide, by decide +kernel, rfl,
     by decide +kernel, by decide +kernel, by decide, by decide, by decide, ⟨_, rfl, by decide +kernel⟩, by decide +kernel,
     by decide +kernel⟩, by decide +kernel⟩⟩,
   ⟨xdev tgM lau (iw 0x51 0 0 1 2 3 0), 2, 3, tgM, lau, insOf (iw 0x51 0 0 1 2 3 0),
     (accOf (readMem (xdev tgM lau (iw 0x51 0 0 1 2 3 0)) 1 (0x100000 + tgM.pc) 8)).1, ⟨⟨by decide, by decide +kernel, rfl,
     by decide +kernel, by decide +kernel, by decide, by decide, by decide, ⟨_, rfl, by decide +kernel⟩, by decide +kernel,
     by decide +kernel⟩, by decide +kernel, by decide +kernel⟩⟩,
   ⟨xdev ({ tgQ with v := [], u := [(1, 128)] } : Tg) lau (iw 0x56 0 4 1 2 0 0), 2, 3, ({ tgQ with v := [], u := [(1, 128)] } : Tg), lau,
     insOf (iw 0x56 0 4 1 2 0 0),
     (accOf (readMem (xdev ({ tgQ with v := [], u := [(1, 128)] } : Tg) lau (iw 0x56 0 4 1 2 0 0)) 1 (0x100000 + (({ tgQ with v := [], u := [(1, 128)] } : Tg)).pc) 8)).1,
     ⟨⟨by decide, by decide +kernel, rfl, by decide +kernel, by decide +kernel, by decide, by decide, by decide, ⟨_, rfl,
     by decide +kernel⟩, by decide +kernel, by decide +kernel⟩, by decide +kernel⟩⟩,
   ⟨xdev tgA lau (iw 0x52 0 4 1 2 0 4), 2, 3, tgA, lau, insOf (iw 0x52 0 4 1 2 0 4),
     (accOf (readMem (xdev tgA lau (iw 0x52 0 4 1 2 0 4)) 1 (0x100000 + tgA.pc) 8)).1,
     ({ addr := 0x110000, len := 4096, key := 0x100, use := 7 } : Bind),
     (pasOf (readLanes none 1 (fun k => 0x110000 + laneAddr tgA (insOf (iw 0x52 0 4 1 2 0 4)) k) ((accOf (readMem (xdev tgA lau (iw 0x52 0 4 1 2 0 4)) 1 (0x100000 + tgA.pc) 8)).1) (lanesIn (predMask tgA (insOf (iw 0x52 0 4 1 2 0 4)))))).2,
     (pasOf (readLanes none 1 (fun k => 0x110000 + laneAddr tgA (insOf (iw 0x52 0 4 1 2 0 4)) k) ((accOf (readMem (xdev tgA lau (iw 0x52 0 4 1 2 0 4)) 1 (0x100000 + tgA.pc) 8)).1) (lanesIn (predMask tgA (insOf (iw 0x52 0 4 1 2 0 4)))))).1,
     ⟨⟨by decide, by decide +kernel, rfl, by decide +kernel, by decide +kernel, by decide, by decide, by decide, ⟨_, rfl,
     by decide +kernel⟩, by decide +kernel, by decide +kernel⟩, by decide +kernel, by decide +kernel, by decide +kernel,
     by decide +kernel⟩⟩,
   ⟨xdev tgA lau (iw 0x53 0 0 1 2 3 4), 2, 3, tgA, lau, insOf (iw 0x53 0 0 1 2 3 4),
     (accOf (readMem (xdev tgA lau (iw 0x53 0 0 1 2 3 4)) 1 (0x100000 + tgA.pc) 8)).1,
     ({ addr := 0x110000, len := 4096, key := 0x100, use := 7 } : Bind),
     (pasOf (writeLanes none 1 ((accOf (readMem (xdev tgA lau (iw 0x53 0 0 1 2 3 4)) 1 (0x100000 + tgA.pc) 8)).1) ((lanesIn (predMask tgA (insOf (iw 0x53 0 0 1 2 3 4)))).map fun k => (k,
     0x110000 + laneAddr tgA (insOf (iw 0x53 0 0 1 2 3 4)) k, tgA.vr (insOf (iw 0x53 0 0 1 2 3 4)).c k)))).2,
     (pasOf (writeLanes none 1 ((accOf (readMem (xdev tgA lau (iw 0x53 0 0 1 2 3 4)) 1 (0x100000 + tgA.pc) 8)).1) ((lanesIn (predMask tgA (insOf (iw 0x53 0 0 1 2 3 4)))).map fun k => (k,
     0x110000 + laneAddr tgA (insOf (iw 0x53 0 0 1 2 3 4)) k, tgA.vr (insOf (iw 0x53 0 0 1 2 3 4)).c k)))).1, ⟨⟨by decide,
     by decide +kernel, rfl, by decide +kernel, by decide +kernel, by decide, by decide, by decide, ⟨_, rfl, by decide +kernel⟩,
     by decide +kernel, by decide +kernel⟩, by decide +kernel, by decide +kernel, by decide +kernel, by decide +kernel⟩⟩,
   ⟨xdev tgA ({ lau with binds := [({ addr := 0x110000, len := 4096, key := 0x100, use := 0 } : Bind)] } : Launch) (iw 0x53 0 0 1 2 3 4), 2,
     3, tgA, ({ lau with binds := [({ addr := 0x110000, len := 4096, key := 0x100, use := 0 } : Bind)] } : Launch),
     insOf (iw 0x53 0 0 1 2 3 4),
     (accOf (readMem (xdev tgA ({ lau with binds := [({ addr := 0x110000, len := 4096, key := 0x100, use := 0 } : Bind)] } : Launch) (iw 0x53 0 0 1 2 3 4)) 1 (0x100000 + tgA.pc) 8)).1,
     ({ addr := 0x110000, len := 4096, key := 0x100, use := 0 } : Bind), ⟨⟨by decide, by decide +kernel, rfl, by decide +kernel,
     by decide +kernel, by decide, by decide, by decide, ⟨_, rfl, by decide +kernel⟩, by decide +kernel, by decide +kernel⟩,
     by decide +kernel, by decide +kernel⟩⟩,
   ⟨xdev tgA lau (iw 0x52 1 4 1 2 0 0), 2, 3, tgA, lau, insOf (iw 0x52 1 4 1 2 0 0),
     (accOf (readMem (xdev tgA lau (iw 0x52 1 4 1 2 0 0)) 1 (0x100000 + tgA.pc) 8)).1, ⟨⟨by decide, by decide +kernel, rfl,
     by decide +kernel, by decide +kernel, by decide, by decide, by decide, ⟨_, rfl, by decide +kernel⟩, by decide +kernel,
     by decide +kernel⟩, by decide +kernel⟩⟩,
   ⟨xdev tgA lau (iw 0x54 0 0 1 2 3 0), 2, 3, tgA, lau, insOf (iw 0x54 0 0 1 2 3 0), (accOf (readMem (xdev tgA lau (iw 0x54 0 0 1 2 3 0)) 1 (0x100000 + tgA.pc) 8)).1, ({ addr := 0x110000, len := 4096, key := 0x100, use := 7 } : Bind), (accOf (readMem ((accOf (readMem (xdev tgA lau (iw 0x54 0 0 1 2 3 0)) 1 (0x100000 + tgA.pc) 8)).1) 1 (0x110000 + 128) 128)).2, (accOf (readMem ((accOf (readMem (xdev tgA lau (iw 0x54 0 0 1 2 3 0)) 1 (0x100000 + tgA.pc) 8)).1) 1 (0x110000 + 128) 128)).1, ⟨⟨by decide, by decide +kernel, rfl, by decide +kernel, by decide +kernel, by decide, by decide, by decide, ⟨_, rfl, by decide +kernel⟩, by decide +kernel, by decide +kernel⟩, by decide +kernel⟩⟩,
   ⟨xdev tgA lau (iw 0x54 0 0 1 2 3 1), 2, 3, tgA, lau, insOf (iw 0x54 0 0 1 2 3 1), (accOf (readMem (xdev tgA lau (iw 0x54 0 0 1 2 3 1)) 1 (0x100000 + tgA.pc) 8)).1, ({ addr := 0x110000, len := 4096, key := 0x100, use := 7 } : Bind), (accOf (writeMem ((accOf (readMem (xdev tgA lau (iw 0x54 0 0 1 2 3 1)) 1 (0x100000 + tgA.pc) 8)).1) 1 (0x110000 + 128) (Mem.read tgA.localMem 64 128))).2, (accOf (writeMem ((accOf (readMem (xdev tgA lau (iw 0x54 0 0 1 2 3 1)) 1 (0x100000 + tgA.pc) 8)).1) 1 (0x110000 + 128) (Mem.read tgA.localMem 64 128))).1, ⟨⟨by decide, by decide +kernel, rfl, by decide +kernel, by decide +kernel, by decide, by decide, by decide, ⟨_, rfl, by decide +kernel⟩, by decide +kernel, by decide +kernel⟩, by decide +kernel⟩⟩,
   ⟨xdev tgA lau (iw 0x55 0 4 1 2 3 0), 2, 3, tgA, lau, insOf (iw 0x55 0 4 1 2 3 0),
     (accOf (readMem (xdev tgA lau (iw 0x55 0 4 1 2 3 0)) 1 (0x100000 + tgA.pc) 8)).1,
     ({ addr := 0x110000, len := 4096, key := 0x100, use := 7 } : Bind),
     (pasOf (readLanes none 1 (fun k => 0x110000 + laneAddr tgA (insOf (iw 0x55 0 4 1 2 3 0)) k) ((accOf (readMem (xdev tgA lau (iw 0x55 0 4 1 2 3 0)) 1 (0x100000 + tgA.pc) 8)).1) (lanesIn (predMask tgA (insOf (iw 0x55 0 4 1 2 3 0)))))).1,
     (pasOf (readLanes none 1 (fun k => 0x110000 + laneAddr tgA (insOf (iw 0x55 0 4 1 2 3 0)) k) ((accOf (readMem (xdev tgA lau (iw 0x55 0 4 1 2 3 0)) 1 (0x100000 + tgA.pc) 8)).1) (lanesIn (predMask tgA (insOf (iw 0x55 0 4 1 2 3 0)))))).2,
     (pasOf (writeLanes none 1 (pasOf (readLanes none 1 (fun k => 0x110000 + laneAddr tgA (insOf (iw 0x55 0 4 1 2 3 0)) k) ((accOf (readMem (xdev tgA lau (iw 0x55 0 4 1 2 3 0)) 1 (0x100000 + tgA.pc) 8)).1) (lanesIn (predMask tgA (insOf (iw 0x55 0 4 1 2 3 0)))))).1 (atomLanes { k := fwKey 2 3, l := lau, x := insOf (iw 0x55 0 4 1 2 3 0), mask := predMask tgA (insOf (iw 0x55 0 4 1 2 3 0)) } { tgA with pc := (tgA.pc + 8) % 2 ^ 64 } ({ addr := 0x110000, len := 4096, key := 0x100, use := 7 } : Bind) (pasOf (readLanes none 1 (fun k => 0x110000 + laneAddr tgA (insOf (iw 0x55 0 4 1 2 3 0)) k) ((accOf (readMem (xdev tgA lau (iw 0x55 0 4 1 2 3 0)) 1 (0x100000 + tgA.pc) 8)).1) (lanesIn (predMask tgA (insOf (iw 0x55 0 4 1 2 3 0)))))).2).2)).1,
     (pasOf (writeLanes none 1 (pasOf (readLanes none 1 (fun k => 0x110000 + laneAddr tgA (insOf (iw 0x55 0 4 1 2 3 0)) k) ((accOf (readMem (xdev tgA lau (iw 0x55 0 4 1 2 3 0)) 1 (0x100000 + tgA.pc) 8)).1) (lanesIn (predMask tgA (insOf (iw 0x55 0 4 1 2 3 0)))))).1 (atomLanes { k := fwKey 2 3, l := lau, x := insOf (iw 0x55 0 4 1 2 3 0), mask := predMask tgA (insOf (iw 0x55 0 4 1 2 3 0)) } { tgA with pc := (tgA.pc + 8) % 2 ^ 64 } ({ addr := 0x110000, len := 4096, key := 0x100, use := 7 } : Bind) (pasOf (readLanes none 1 (fun k => 0x110000 + laneAddr tgA (insOf (iw 0x55 0 4 1 2 3 0)) k) ((accOf (readMem (xdev tgA lau (iw 0x55 0 4 1 2 3 0)) 1 (0x100000 + tgA.pc) 8)).1) (lanesIn (predMask tgA (insOf (iw 0x55 0 4 1 2 3 0)))))).2).2)).2,
     ⟨⟨by decide, by decide +kernel, rfl, by decide +kernel, by decide +kernel, by decide, by decide, by decide, ⟨_, rfl,
     by decide +kernel⟩, by decide +kernel, by decide +kernel⟩, by decide +kernel, by decide +kernel, by decide +kernel, by decide +kernel,
     by decide +kernel, by decide +kernel, by decide +kernel, by decide +kernel⟩⟩,
   ⟨xdev tg64 lau (iw 0x55 0 4 1 2 3 0), 2, 3, tg64, lau, insOf (iw 0x55 0 4 1 2 3 0),
     (accOf (readMem (xdev tg64 lau (iw 0x55 0 4 1 2 3 0)) 1 (0x100000 + tg64.pc) 8)).1, ⟨⟨by decide, by decide +kernel, rfl,
     by decide +kernel, by decide +kernel, by decide, by decide, by decide, ⟨_, rfl, by decide +kernel⟩, by decide +kernel,
     by decide +kernel⟩, by decide +kernel, by decide +kernel⟩⟩⟩

/-- Witnesses of `Obligations.GroupTrafficAndCommandsActAsStated`. -/
theorem wit_GroupTrafficAndCommandsActAsStated :
    (∃ (s : State) (n : Nat) (g : Group) (m : GMsg) (c : Coll) (k : Nat), Tab.find s.groups n = some g ∧ g.coll = some c ∧ msgAt g
      (fun y => y.kind = 0) = some (m, k) ∧ m.sig = c.sig) ∧
    (∃ (s : State) (n : Nat) (g : Group) (m : GMsg) (c : Coll) (k : Nat), Tab.find s.groups n = some g ∧ g.coll = some c ∧ msgAt g
      (fun y => y.kind = 0) = some (m, k) ∧ m.sig ≠ c.sig ∧ (∀ r, inflOf s c.q c.i = some r → r.done = none)) ∧
    (∃ (s : State) (n : Nat) (g : Group) (m : GMsg) (rest : List GMsg) (c : Coll) (r : Infl), collOf s n = some (g, c, r) ∧
      g.inbox = m :: rest ∧ m.kind = 1 ∧ m.sig = c.sig ∧ holdsSlot s n = false) ∧
    (∃ (s : State) (n : Nat) (g : Group) (m : GMsg) (rest : List GMsg) (c : Coll) (r : Infl), collOf s n = some (g, c, r) ∧ r.done
      = none ∧ g.inbox = m :: rest ∧ m.kind = 2 ∧ m.sig = c.sig) ∧
    (∃ (s : State) (n : Nat) (g : Group) (m : GMsg) (c : Coll) (r : Infl) (k : Nat), collOf s n = some (g, c, r) ∧ msgAt g
      (fun y => y.kind = 3) = some (m, k) ∧ m.sig = c.sig ∧ holdsSlot s n = false) ∧
    (∃ (s : State) (n : Nat) (g : Group) (c : Coll) (r : Infl), collOf s n = some (g, c, r) ∧ r.done = none) ∧
    (∃ (s : State) (n : Nat) (g : Group) (c : Coll) (r : Infl) (rank slot : Nat) (b : Bytes) (rest : List (Nat × Nat × Bytes)),
      collOf s n = some (g, c, r) ∧ c.runnel = false ∧ holdsSlot s n = true ∧ g.full = (rank, slot, b) :: rest) ∧
    (∃ (s : State) (i : Nat) (w : RegWr) (u : State) (b : Bytes), CmdOpen s i 0x2A0 1 w ∧ firstFail (gHead s i w true) = none ∧
      readTable s i = .ok u b ∧ firstFail (createChecks u i b) = none) ∧
    (∃ (s : State) (i : Nat) (w : RegWr) (g : Group), CmdOpen s i 0x2A0 2 w ∧ firstFail (gHead s i w false) = none ∧ gMine s i =
      true ∧ Tab.find s.groups (gSel s i) = some g ∧ g.coll = none) ∧
    (∃ (s : State) (i : Nat) (w : RegWr) (g : Group), CmdOpen s i 0x2A0 2 w ∧ firstFail (gHead s i w false) = none ∧ gMine s i =
      true ∧ Tab.find s.groups (gSel s i) = some g ∧ g.coll.isSome = true) ∧
    (∃ (s : State) (i : Nat) (w : RegWr) (g : Group), CmdOpen s i 0x2A0 3 w ∧ firstFail (gHead s i w false) = none ∧ gMine s i =
      true ∧ Tab.find s.groups (gSel s i) = some g ∧ g.coll = none ∧ g.gen ≠ getPage s i 0x288) ∧
    (∃ (s : State) (i : Nat) (w : RegWr) (g : Group), CmdOpen s i 0x2A0 4 w ∧ firstFail (gHead s i w false) = none ∧ gMine s i =
      true ∧ Tab.find s.groups (gSel s i) = some g ∧ g.seq < 2 ^ 32) :=
  ⟨⟨gmdev 0 85 0 [], 0,
    { grp0 with coll := some col0, full := [], inbox := [{ rank := 1, kind := 0, slot := 0, arg := 0, sig := 85, data := zeros 8 }] },
    { rank := 1, kind := 0, slot := 0, arg := 0, sig := 85, data := zeros 8 }, col0, 0, by decide +kernel⟩,
   ⟨gmdev 0 86 0 [], 0,
     { grp0 with coll := some col0, full := [], inbox := [{ rank := 1, kind := 0, slot := 0, arg := 0, sig := 86, data := zeros 8 }] },
     { rank := 1, kind := 0, slot := 0, arg := 0, sig := 86, data := zeros 8 }, col0, 0, by decide +kernel⟩,
   ⟨gmdev 1 85 0 [], 0,
     { grp0 with coll := some col0, full := [], inbox := [{ rank := 1, kind := 1, slot := 0, arg := 0, sig := 85, data := zeros 8 }] },
     { rank := 1, kind := 1, slot := 0, arg := 0, sig := 85, data := zeros 8 }, [], col0, { inf (coent 1) with disp := true },
     by decide +kernel⟩,
   ⟨gmdev 2 85 5 [], 0,
     { grp0 with coll := some col0, full := [], inbox := [{ rank := 1, kind := 2, slot := 0, arg := 5, sig := 85, data := zeros 8 }] },
     { rank := 1, kind := 2, slot := 0, arg := 5, sig := 85, data := zeros 8 }, [], col0, { inf (coent 1) with disp := true },
     by decide +kernel⟩,
   ⟨gmdev 3 85 1 [], 0,
     { grp0 with coll := some col0, full := [], inbox := [{ rank := 1, kind := 3, slot := 0, arg := 1, sig := 85, data := zeros 8 }] },
     { rank := 1, kind := 3, slot := 0, arg := 1, sig := 85, data := zeros 8 }, col0, { inf (coent 1) with disp := true }, 0,
     by decide +kernel⟩,
   ⟨gmdev 0 85 0 [], 0,
     { grp0 with coll := some col0, full := [], inbox := [{ rank := 1, kind := 0, slot := 0, arg := 0, sig := 85, data := zeros 8 }] },
     col0, { inf (coent 1) with disp := true }, by decide +kernel⟩,
   ⟨{ gmdev 7 85 0 [(1, 0, zeros 8)] with fw.colls := [(5, 0)] }, 0,
     { grp0 with coll := some col0, full := [(1, 0, zeros 8)], inbox := [{ rank := 1, kind := 7, slot := 0, arg := 0, sig := 85, data := zeros 8 }] },
     col0, { inf (coent 1) with disp := true }, 1, 0, zeros 8, [], by decide +kernel⟩,
   ⟨{ pgdev [] [(pageKey 1 0x280, 5), (pageKey 1 0x284, 0x40020010), (pageKey 1 0x288, 7), (pageKey 1 0x28C, 0x100000), (pageKey 1 0x294, 0x100), (pageKey 1 0x298, 9)] with hbm := Mem.write [] 0 (putLE 3 (2 ^ 18 - 1) ++ [0] ++ [0, 0, 1, 0] ++ putLE 3 0 ++ [0] ++ [7, 0, 2, 0]), insts := [(0, inst0), (1, { inst1 with gran := [0] })] },
     1, hw 1,
     (accOf (readTable ({ pgdev [] [(pageKey 1 0x280, 5), (pageKey 1 0x284, 0x40020010), (pageKey 1 0x288, 7), (pageKey 1 0x28C, 0x100000), (pageKey 1 0x294, 0x100), (pageKey 1 0x298, 9)] with hbm := Mem.write [] 0 (putLE 3 (2 ^ 18 - 1) ++ [0] ++ [0, 0, 1, 0] ++ putLE 3 0 ++ [0] ++ [7, 0, 2, 0]), insts := [(0, inst0), (1, { inst1 with gran := [0] })] }) 1)).1,
     (accOf (readTable ({ pgdev [] [(pageKey 1 0x280, 5), (pageKey 1 0x284, 0x40020010), (pageKey 1 0x288, 7), (pageKey 1 0x28C, 0x100000), (pageKey 1 0x294, 0x100), (pageKey 1 0x298, 9)] with hbm := Mem.write [] 0 (putLE 3 (2 ^ 18 - 1) ++ [0] ++ [0, 0, 1, 0] ++ putLE 3 0 ++ [0] ++ [7, 0, 2, 0]), insts := [(0, inst0), (1, { inst1 with gran := [0] })] }) 1)).2,
     by decide +kernel⟩,
   ⟨pgdev [(0, grp0)] [(pageKey 1 0x280, 0), (pageKey 1 0x284, 0x40020010), (pageKey 1 0x288, 7), (pageKey 1 0x28C, 0x100000), (pageKey 1 0x294, 0x100), (pageKey 1 0x298, 9)],
     1, hw 2, grp0, by decide +kernel⟩,
   ⟨pgdev [(0, { grp0 with coll := some col0 })] [(pageKey 1 0x280, 0), (pageKey 1 0x284, 0x40020010), (pageKey 1 0x288, 7), (pageKey 1 0x28C, 0x100000), (pageKey 1 0x294, 0x100), (pageKey 1 0x298, 9)],
     1, hw 2, { grp0 with coll := some col0 }, by decide +kernel⟩,
   ⟨pgdev [(0, grp0)] [(pageKey 1 0x280, 0), (pageKey 1 0x284, 0x40020010), (pageKey 1 0x288, 7), (pageKey 1 0x28C, 0x100000), (pageKey 1 0x294, 0x100), (pageKey 1 0x298, 9)],
     1, hw 3, grp0, by decide +kernel⟩,
   ⟨pgdev [(0, grp0)] [(pageKey 1 0x280, 0), (pageKey 1 0x284, 0x40020010), (pageKey 1 0x288, 7), (pageKey 1 0x28C, 0x100000), (pageKey 1 0x294, 0x100), (pageKey 1 0x298, 9)],
     1, hw 4, grp0, by decide +kernel⟩⟩

/-- Witnesses of `Obligations.HeartbeatsHoldTheBasinTogether`. -/
theorem wit_HeartbeatsHoldTheBasinTogether :
    (∃ (s : State), s.basin.role = .active ∧ s.mgr.firstHb = none ∧ StandbyAnswers s) ∧
    (∃ (s : State) (p : PendDir), s.basin.role = .active ∧ s.mgr.firstHb = none ∧ s.basin.stby = true ∧ s.mgr.pend = [p] ∧ p.after
      = .nothing ∧ p.since + leaseNs s ≤ s.sys.now ∧ p.seq ≤ s.mgr.repSeq ∧ ownersKept s p.dir) ∧
    (∃ (s : State) (h : Nat), s.basin.role = .active ∧ s.mgr.firstHb = some h ∧ StandbyAnswers s) ∧
    (∃ (s : State) (m : Bytes) (r : CtlRec), Heard s m r 0x01 ∧ staleHb s r = false ∧ s.basin.role = .standby) ∧
    (∃ (s : State) (m : Bytes) (r : CtlRec), Heard s m r 0x01 ∧ staleHb s r = false ∧ s.basin.role = .worker ∧ s.basin.noticed =
      false ∧ s.basin.grant = none ∧ r.epoch ≤ s.basin.map.epoch ∧ s.basin.period ≤ fld r.subject 63 48 ∧ s.basin.nextPeriod ≤ fld
      r.subject 39 24) ∧
    (∃ (s : State) (m : Bytes) (r : CtlRec), Heard s m r 0x01 ∧ staleHb s r = true) ∧
    (∃ (s : State) (m : Bytes) (r : CtlRec) (w : Worker), Heard s m r 0x02 ∧ s.basin.role = .active ∧ Tab.find s.mgr.dir.workers
      r.serial = some w ∧ r.seq ≠ s.mgr.hbSeq % 2 ^ 32 ∧ seqOld r.seq s.mgr.hbSeq = false) ∧
    (∃ (s : State) (m : Bytes) (r : CtlRec) (w : Worker), Heard s m r 0x02 ∧ s.basin.role = .active ∧ Tab.find s.mgr.dir.workers
      r.serial = some w ∧ (r.seq = s.mgr.hbSeq % 2 ^ 32 ∨ seqOld r.seq s.mgr.hbSeq = true)) ∧
    (∃ (s : State) (m : Bytes) (r : CtlRec), Heard s m r 0x02 ∧ s.basin.role = .active ∧ Tab.find s.mgr.dir.workers r.serial =
      none) ∧
    (∃ (s : State), s.basin.role = .worker ∧ s.basin.mgrMissing = false) ∧
    (∃ (s : State), s.basin.role = .standby) ∧
    (∃ (s : State) (n : Nat) (w : Worker), s.basin.role = .active ∧ s.basin.stby = true ∧ Tab.find s.mgr.dir.workers n = some w ∧
      s.basin.miss ≤ w.missed ∧ Tab.find (dirLatest s).workers n = some w) ∧
    (∃ (s : State) (n : Nat) (w : Worker) (a : Nat), s.basin.role = .active ∧ s.basin.stby = true ∧ Tab.find s.mgr.dir.workers n =
      some w ∧ w.excuse = some a ∧ Tab.find (dirLatest s).workers n = some w) ∧
    (∃ (s : State), s.basin.role = .active) ∧
    (∃ (s : State) (h : Nat), s.basin.role = .active ∧ s.mgr.firstHb = some h ∧ s.mgr.switched = false) :=
  ⟨⟨bdev .active, by decide +kernel⟩,
   ⟨{ adev [] with mgr.firstHb := none, mgr.pend := [{ seq := 0, dir := State.reset.mgr.dir, bump := 1, after := .nothing, since := 0 }], sys.now := 10 ^ 9 }, { seq := 0, dir := State.reset.mgr.dir, bump := 1, after := .nothing, since := 0 }, by decide +kernel⟩,
   ⟨{ bdev .active with basin.stby := true, mgr.dir.workers := [(9, wkr)], mgr.firstHb := some 4 }, 4, by decide +kernel⟩,
   ⟨bdev .standby, ctlBytes (cr 0x01 (7)), cr 0x01 (7), by decide +kernel⟩,
   ⟨bdev .worker, ctlBytes { cr 0x01 (100 * 2 ^ 48 + 100 * 2 ^ 24) with epoch := 0 }, { cr 0x01 (100 * 2 ^ 48 + 100 * 2 ^ 24) with epoch := 0 }, by decide +kernel⟩,
   ⟨{ bdev .standby with basin.mgrSerial := some 9, basin.hbSeen := some 1 }, ctlBytes (cr 0x01 7), cr 0x01 7, by decide +kernel⟩,
   ⟨{ adev [] with mgr.hbSeq := 2 }, ctlBytes { cr 0x02 7 with seq := 3 }, { cr 0x02 7 with seq := 3 }, wkr, by decide +kernel⟩,
   ⟨{ bdev .active with basin.stby := true, mgr.dir.workers := [(9, wkr)], mgr.firstHb := some 4, mgr.hbSeq := 1 }, ctlBytes (cr 0x02 (7)), cr 0x02 (7), wkr, by decide +kernel⟩,
   ⟨bdev .active, ctlBytes (cr 0x02 (7)), cr 0x02 (7), by decide +kernel⟩,
   ⟨bdev .worker, by decide +kernel⟩,
   ⟨bdev .standby, by decide +kernel⟩,
   ⟨{ bdev .active with basin.stby := true, mgr.dir.workers := [(9, wkr)], mgr.firstHb := some 4 }, 9, wkr, by decide +kernel⟩,
   ⟨{ bdev .active with basin.stby := true, mgr.dir.workers := [(9, wkr)], mgr.firstHb := some 4 }, 9, wkr, 5, by decide +kernel⟩,
   ⟨bdev .active, by decide +kernel⟩,
   ⟨{ bdev .active with basin.stby := true, mgr.dir.workers := [(9, wkr)], mgr.firstHb := some 4 }, 4, by decide +kernel⟩⟩

/-- Witnesses of `Obligations.InstanceCommandsActAsStated`. -/
theorem wit_InstanceCommandsActAsStated :
    (∃ (s : State) (v : InstVia) (src : Src) (p : Bytes) (n : Nat) (i : Inst), instCmd s v 0x60 64 = .run src p ∧ firstFail
      (instCreateChecks s src p) = none ∧ (getLE p 0 2 = 0xFFFF → lowestInst s = some n) ∧ (getLE p 0 2 ≠ 0xFFFF → n = getLE p 0
      2) ∧ layInst s p (if getLE p 2 1 = 1 then .partner else .manager) = some i) ∧
    (∃ (s : State) (p : Bytes) (c : IClass) (i : Inst), layInst s p c = some i) ∧
    (∃ (s : State) (v : InstVia) (src : Src) (p : Bytes) (n : Nat), instCmd s v 0x60 64 = .run src p ∧ firstFail (instCreateChecks
      s src p) = none ∧ getLE p 0 2 = n ∧ n ≠ 0xFFFF ∧ layInst s p (if getLE p 2 1 = 1 then .partner else .manager) = none) ∧
    (∃ (s : State) (v : InstVia) (src : Src) (p : Bytes) (st : Byte), instCmd s v 0x60 64 = .run src p ∧ firstFail
      (instCreateChecks s src p) = some st) ∧
    (∃ (s : State) (r : MbxReq), mbxIs s 0x60 = some r) ∧
    (∃ (s : State) (k : Nat) (p : Bytes) (x : Sess), windowLive s = true ∧ qualSess s (some k) = some x ∧ fromManager s x = true ∧
      p.length = 64 ∧ offered s 28 = true) ∧
    (∃ (s : State) (k : Nat), windowLive s = true ∧ qualSess s (some k) = none) ∧
    (∃ (s : State) (v : InstVia) (src : Src) (p : Bytes) (n : Nat) (i : Inst), instCmd s v 0x61 32 = .run src p ∧ n = getLE p 0 2
      ∧ Tab.find s.insts n = some i ∧ modifyFields s p i = true ∧ firstFail (modifyChecks s src p n i) = none) ∧
    (∃ (s : State) (v : InstVia) (src : Src) (p : Bytes) (n : Nat) (i : Inst) (st : Byte), instCmd s v 0x61 32 = .run src p ∧ n =
      getLE p 0 2 ∧ Tab.find s.insts n = some i ∧ modifyFields s p i = true ∧ firstFail (modifyChecks s src p n i) = some st) ∧
    (∃ (s : State) (v : InstVia) (src : Src) (p : Bytes) (n : Nat), instCmd s v 0x62 16 = .run src p ∧ n = getLE p 0 2 ∧ bitN
      (getLE p 2 1) 0 = false ∧ firstFail (destroyHead s src p) = none ∧ instActive s n = true ∧ instIdle s n = true) ∧
    (∃ (s : State) (v : InstVia) (src : Src) (p : Bytes) (n : Nat), instCmd s v 0x62 16 = .run src p ∧ n = getLE p 0 2 ∧ bitN
      (getLE p 2 1) 0 = false ∧ firstFail (destroyHead s src p) = none ∧ (instActive s n = false ∨ instIdle s n = false)) ∧
    (∃ (s : State) (v : InstVia) (src : Src) (p : Bytes) (n : Nat), instCmd s v 0x62 16 = .run src p ∧ n = getLE p 0 2 ∧ bitN
      (getLE p 2 1) 0 = true ∧ firstFail (destroyHead s src p) = none ∧ instActive s n = true ∧ cvOpen (cvRun (forceStart s v n)
      (fun k => k = n)) (fun k => k = n) = false ∧ (cvRun (forceStart s v n) (fun k => k = n)).rxHeld = []) ∧
    (∃ (s : State) (v : InstVia) (src : Src) (p : Bytes) (n : Nat), instCmd s v 0x62 16 = .run src p ∧ n = getLE p 0 2 ∧ bitN
      (getLE p 2 1) 0 = true ∧ firstFail (destroyHead s src p) = none ∧ Tab.find s.insts n = none) ∧
    (∃ (s : State) (v : InstVia) (src : Src) (p : Bytes), instCmd s v 0x63 16 = .run src p ∧ getLE p 0 2 < instMax s ∧ zeroIn p 2
      14 = true ∧ mayAct s src (getLE p 0 2) = true) ∧
    (∃ (s : State) (v : InstVia) (src : Src) (p : Bytes), instCmd s v 0x63 16 = .run src p ∧ getLE p 0 2 < instMax s ∧ zeroIn p 2
      14 = true ∧ mayAct s src (getLE p 0 2) = false) :=
  ⟨⟨{ dev with mbx.st := .busy, mbx.running := some (req 96 (ipar 0xFFFF)) }, .mailbox, .host, ipar 0xFFFF, 2,
    ((layInst ({ dev with mbx.st := .busy, mbx.running := some (req 96 (ipar 0xFFFF)) }) (ipar 0xFFFF) .partner).getD inst0),
    by decide +kernel⟩,
   ⟨{ dev with mbx.st := .busy, mbx.running := some (req 96 (ipar 0xFFFF)) }, ipar 0xFFFF, .partner,
     ((layInst ({ dev with mbx.st := .busy, mbx.running := some (req 96 (ipar 0xFFFF)) }) (ipar 0xFFFF) .partner).getD inst0),
     by decide +kernel⟩,
   ⟨{ dev with mbx.st := .busy, mbx.running := some (req 96 ((ipar 3).take 36 ++ putLE 4 60000 ++ (ipar 3).drop 40)) }, .mailbox, .host,
     (ipar 3).take 36 ++ putLE 4 60000 ++ (ipar 3).drop 40, 3, by decide +kernel⟩,
   ⟨{ dev with mbx.st := .busy, mbx.running := some (req 96 (ipar 1)) }, .mailbox, .host, ipar 1, Status.busy, by decide +kernel⟩,
   ⟨{ dev with mbx.st := .busy, mbx.running := some (req 96 (ipar 0xFFFF)) }, req 0x60 (ipar 0xFFFF), by decide +kernel⟩,
   ⟨{ dev with basin.mgrSlot := 2, spdm.sess := [(4, { tr := .basin 2, finished := true, qual := true, phase := 0 })] }, 4, ipar 0xFFFF,
     { tr := .basin 2, finished := true, qual := true, phase := 0 }, by decide +kernel⟩,
   ⟨dev, 4, by decide +kernel⟩,
   ⟨{ dev with mbx.st := .busy, mbx.running := some (req 97 ([1, 0, 0x21, 0, 9, 0, 0, 0] ++ putLE 2 20 ++ zeros 22)) }, .mailbox, .host,
     [1, 0, 0x21, 0, 9, 0, 0, 0] ++ putLE 2 20 ++ zeros 22, 1, inst1, by decide +kernel⟩,
   ⟨{ dev with mbx.st := .busy, mbx.running := some (req 97 ([1, 0, 0x80, 0] ++ zeros 8 ++ putLE 4 60000 ++ zeros 16)) }, .mailbox, .host,
     [1, 0, 0x80, 0] ++ zeros 8 ++ putLE 4 60000 ++ zeros 16, 1, inst1, Status.noResource, by decide +kernel⟩,
   ⟨{ { dev with spans := [(0, span1)] } with mbx.st := .busy, mbx.running := some (req 98 ([1] ++ zeros 15)) }, .mailbox, .host,
     [1] ++ zeros 15, 1, by decide +kernel⟩,
   ⟨{ qdev wq1 with mbx.st := .busy, mbx.running := some (req 98 ([1] ++ zeros 15)) }, .mailbox, .host, [1] ++ zeros 15, 1,
     by decide +kernel⟩,
   ⟨{ qdev wq1 with mbx.st := .busy, mbx.running := some (req 98 ([1, 0, 1] ++ zeros 13)) }, .mailbox, .host, [1, 0, 1] ++ zeros 13, 1,
     by decide +kernel⟩,
   ⟨{ dev with mbx.st := .busy, mbx.running := some (req 98 ([3, 0, 1] ++ zeros 13)) }, .mailbox, .host, [3, 0, 1] ++ zeros 13, 3,
     by decide +kernel⟩,
   ⟨{ dev with mbx.st := .busy, mbx.running := some (req 99 ([1] ++ zeros 15)) }, .mailbox, .host, [1] ++ zeros 15, by decide +kernel⟩,
   ⟨{ dev with mbx.st := .busy, mbx.running := some (req 99 (zeros 16)) }, .mailbox, .host, zeros 16, by decide +kernel⟩⟩

/-- Witnesses of `Obligations.KeyMessagesActAsStated`. -/
theorem wit_KeyMessagesActAsStated :
    (∃ (s : State) (n : Option Nat) (m : Bytes) (p : Qp), tenderRuns s = true ∧ getBE m 0 1 = 1 ∧ getBE m 14 1 ≠ 2 ∧ kmFail s n m
      = none ∧ qpOf s (getBE m 8 4) = some p) ∧
    (∃ (s : State) (n : Option Nat) (m : Bytes) (x : Sess) (p : Qp), qualSess s n = some x ∧ trHost x.tr = true ∧ kmFieldsOk s m =
      true ∧ getBE m 0 1 = 1 ∧ getBE m 14 1 = 1 ∧ instHas s (getBE m 12 2) 18 = true ∧ qpOf s (getBE m 8 4) = some p ∧ owns
      s.own.qp (getBE m 8 4) (getBE m 12 2) = true ∧ p.kind = .rc ∧ qEnc p = true ∧ p.st = .init ∧ p.cipher.keyed = false) ∧
    (∃ (s : State) (n : Option Nat) (m : Bytes) (x : Sess) (p : Qp), qualSess s n = some x ∧ trHost x.tr = true ∧ kmFieldsOk s m =
      true ∧ getBE m 0 1 = 1 ∧ getBE m 14 1 = 2 ∧ instHas s (getBE m 12 2) 18 = true ∧ qpOf s (getBE m 8 4) = some p ∧ owns
      s.own.qp (getBE m 8 4) (getBE m 12 2) = true ∧ p.kind = .rc ∧ qEnc p = true ∧ p.st ≠ .free ∧ (getBE m 15 1 ≠ p.cipher.role ∨
      slice m 48 16 ≠ rekeyAuth p.cipher.secret (slice m 16 32))) ∧
    (∃ (s : State) (n : Option Nat) (m : Bytes) (p : Qp), tenderRuns s = true ∧ getBE m 0 1 = 2 ∧ kmFail s n m = none ∧ qpOf s
      (getBE m 8 4) = some p) ∧
    (∃ (s : State) (n : Option Nat) (m : Bytes), tenderRuns s = true ∧ getBE m 0 1 = 3 ∧ kmFail s n m = none) ∧
    (∃ (s : State) (n : Option Nat) (m : Bytes) (x : Sess), qualSess s n = some x ∧ trHost x.tr = true ∧ kmFieldsOk s m = true ∧
      (getBE m 0 1 = 3 ∨ getBE m 0 1 = 4)) ∧
    (∃ (s : State) (m : Bytes), tenderRuns s = true ∧ getBE m 0 1 = 3) ∧
    (∃ (s : State) (n : Option Nat) (m : Bytes), tenderRuns s = true ∧ getBE m 0 1 = 4 ∧ kmFail s n m = none) ∧
    (∃ (s : State) (n : Option Nat) (m : Bytes) (st : Byte), tenderRuns s = true ∧ getBE m 0 1 = 4 ∧ kmFail s n m = some st) ∧
    (∃ (s : State) (b : Bytes), tenderRuns s = true ∧ b.length = 32 ∧ getBE b 28 4 = crcN (b.take 28) ∧ getBE b 0 1 = 3 ∧ getBE b
      1 1 = 0 ∧ getBE b 2 2 ≠ 0 ∧ getBE b 2 2 ≤ 20) ∧
    (∃ (s : State) (slot : Nat) (b a : Bytes), tenderRuns s = true ∧ b.length = 32 ∧ getBE b 28 4 = crcN (b.take 28) ∧ getBE b 0 1
      = 2 ∧ getBE b 1 1 = 1 ∧ getBE b 2 2 ≠ 0 ∧ getBE b 2 2 ≤ 20 ∧ Tab.find s.spdm.frags (slot * 2 ^ 32 + getBE b 4 4) = some [(0,
      a)]) ∧
    (∃ (s : State) (b : Bytes), tenderRuns s = true ∧ b.length = 32 ∧ getBE b 28 4 = crcN (b.take 28) ∧ getBE b 0 1 = 1 ∧ getBE b
      1 1 = 0 ∧ getBE b 2 2 ≠ 0 ∧ getBE b 2 2 ≤ 20) ∧
    (∃ (b : Bytes), getBE b 28 4 ≠ crcN (b.take 28)) ∧
    (∃ (s : State) (r : MbxReq), mbxIs s 0x50 = some r) ∧
    (∃ (s : State), mbxIs s 0x50 = none) :=
  ⟨⟨sdevS (.mctpSmbus 0x60) true true, some 4, kmsg 1 (putBE 4 0 ++ putBE 2 1 ++ [1, 0] ++ (List.replicate 32 0x5A) ++ zeros 16),
    { qp1 with cfg := qp1.cfg + 2 ^ 29, st := .init }, by decide +kernel⟩,
   ⟨sdevS (.mctpSmbus 0x60) true true, some 4, kmsg 1 (putBE 4 0 ++ putBE 2 1 ++ [1, 0] ++ (List.replicate 32 0x5A) ++ zeros 16),
     { tr := (.mctpSmbus 0x60), finished := true, qual := true, phase := 2 }, { qp1 with cfg := qp1.cfg + 2 ^ 29, st := .init },
     by decide +kernel⟩,
   ⟨{ sdevS (.mctpSmbus 0x60) true true with qps := [(0, { qp1 with cfg := qp1.cfg + 2 ^ 29, cipher := { Cipher.empty with keyed := true, secret := zeros 32, pending := some (zeros 32) } })] },
     some 4, kmsg 1 (putBE 4 0 ++ putBE 2 1 ++ [2, 1] ++ (List.replicate 32 0x5A) ++ zeros 16),
     { tr := (.mctpSmbus 0x60), finished := true, qual := true, phase := 2 },
     { qp1 with cfg := qp1.cfg + 2 ^ 29, cipher := { Cipher.empty with keyed := true, secret := zeros 32, pending := some (zeros 32) } },
     by decide +kernel⟩,
   ⟨{ sdevS (.mctpSmbus 0x60) true true with qps := [(0, { qp1 with cfg := qp1.cfg + 2 ^ 29, cipher := { Cipher.empty with keyed := true, secret := zeros 32, pending := some (zeros 32) } })] },
     some 4, kmsg 2 (putBE 4 0 ++ putBE 2 1 ++ [0, 0]),
     { qp1 with cfg := qp1.cfg + 2 ^ 29, cipher := { Cipher.empty with keyed := true, secret := zeros 32, pending := some (zeros 32) } },
     by decide +kernel⟩,
   ⟨sdevS (.mctpSmbus 0x60) true true, some 4, kmsg 3 ([5] ++ zeros 7), by decide +kernel⟩,
   ⟨sdevS (.mctpSmbus 0x60) true true, some 4, kmsg 3 ([5] ++ zeros 7), { tr := (.mctpSmbus 0x60), finished := true, qual := true, phase := 2 },
     by decide +kernel⟩,
   ⟨dev, kmsg 3 ([5] ++ zeros 7), by decide +kernel⟩,
   ⟨sdevS (.mctpSmbus 0x60) true true, some 4, kmsg 4 ([1] ++ zeros 7 ++ List.replicate 48 7), by decide +kernel⟩,
   ⟨{ sdevS (.mctpSmbus 0x60) true true with policy.lock := true }, some 4, kmsg 4 ([1] ++ zeros 7 ++ List.replicate 48 7), Status.notPermitted,
     by decide +kernel⟩,
   ⟨dev, frg 3 0 [1, 2, 3], by decide +kernel⟩,
   ⟨{ dev with spdm.frags := [(3 * 2 ^ 32 + 9, [(0, [5, 6])])] }, 3, frg 2 1 [1, 2], [5, 6], by decide +kernel⟩,
   ⟨dev, frg 1 0 [4], by decide +kernel⟩,
   ⟨zeros 31 ++ [1], by decide +kernel⟩,
   ⟨mdev 0x50 [], req 0x50 [], by decide +kernel⟩,
   ⟨dev, by decide +kernel⟩⟩

/-- Witnesses of `Obligations.LeveeSensesThrottlesAndRunsVoltageCommands`. -/
theorem wit_LeveeSensesThrottlesAndRunsVoltageCommands :
    (∃ (s : State) (n : Nat) (d : Int), s.sys.coldLow = false ∧ n < 16 ∧ fastEn s = true ∧ d ≤ -20) ∧
    (∃ (s : State) (n : Nat) (d : Int), s.sys.coldLow = false ∧ n < 16 ∧ fastEn s = true ∧ 20 ≤ d) ∧
    (∃ (s : State) (n : Nat) (d : Int), s.sys.coldLow = false ∧ n < 16 ∧ (fastEn s = false ∨ (-20 < d ∧ d < 20))) ∧
    (∃ (s : State) (n : Nat) (xs : List Nat), s.sys.coldLow = false ∧ n < 16 ∧ ocEn s = true ∧ 4 ≤ xs.length ∧ (∀ x ∈ xs,
      unitLimit s (.region n) < x)) ∧
    (∃ (s : State) (n hi ns : Nat), s.sys.coldLow = false ∧ n < 16 ∧ 10000 ≤ ns ∧ 10 * hi < 9 * unitLimit s (.region n)) ∧
    (∃ (s : State) (n : Nat), s.sys.coldLow = false ∧ n < 16 ∧ persistDue (.region n) (region s n) = true) ∧
    (∃ (s : State) (n : Nat) (b : Bool) (a x y : Nat), s.sys.coldLow = false ∧ n < 16 ∧ 500 < a ∧ x < 10 ∧ y < 10 ∧ (if b then
      (region s n).bOpen else (region s n).aOpen) = false) ∧
    (∃ (s : State) (n : Nat) (xs : List DropSample), s.sys.coldLow = false ∧ n < 16 ∧ bitN (getReg s 0x0C 0x004) 1 = true ∧
      ((region s n).aOpen && (region s n).bOpen) = false ∧ 16 ≤ xs.length ∧ (∀ x ∈ xs, dropSample (region s n) (dropThresh s n) x
      = true)) ∧
    (∃ (s : State) (n : Nat) (xs : List DropSample), s.sys.coldLow = false ∧ n < 16 ∧ 16 ≤ xs.length ∧ (∃ b, ∀ x ∈ xs, alone
      (region s n) (dropThresh s n) b x = true)) ∧
    (∃ (s : State), tenderRuns s = true) ∧
    (∃ (s : State) (w : RegWr), windowLive s = true ∧ Taken s w ∧ noRsv w 0xFF00F000 = true ∧ 700 ≤ fld w.data.toNat 11 0 ∧ fld
      w.data.toNat 11 0 ≤ 800 ∧ s.sys.fuses.vminMv ≤ fld w.data.toNat 11 0 ∧ s.lv.ready = true) ∧
    (∃ (s : State) (w : RegWr), windowLive s = true ∧ Taken s w ∧ (fld w.data.toNat 11 0 < 700 ∨ 800 < fld w.data.toNat 11 0) ∧
      s.vp.werrValid = false) ∧
    (∃ (s : State) (c : VCmd) (a b : Nat), s.lv.cmd = some c ∧ c.target ≤ a + 3 ∧ a ≤ c.target + 3 ∧ c.target ≤ b + 3 ∧ b ≤
      c.target + 3) ∧
    (∃ (s : State) (c : VCmd) (a b : Nat), s.lv.cmd = some c ∧ (c.target + 3 < a ∨ a + 3 < c.target ∨ c.target + 3 < b ∨ b + 3 <
      c.target)) ∧
    (∃ (s : State) (c : VCmd), s.lv.cmd = some c) ∧
    (∃ (s : State) (c : VCmd), s.lv.cmd = some c) ∧
    (∃ (s : State), windowLive s = true) :=
  ⟨⟨dev, (3 : Nat), (-20 : Int), by decide +kernel⟩,
   ⟨dev, (3 : Nat), (20 : Int), by decide +kernel⟩,
   ⟨dev, 3, 0, by decide +kernel⟩,
   ⟨dev, (3 : Nat), List.replicate 4 100000, by decide +kernel⟩,
   ⟨dev, (3 : Nat), 0, 10000, by decide +kernel⟩,
   ⟨{ dev with lv.regions := [(3, { Region.reset with oc := true, thrOwn := true })], sys.now := 2000000 }, (3 : Nat), by decide +kernel⟩,
   ⟨dev, (3 : Nat), false, 501, 9, 9, by decide +kernel⟩,
   ⟨{ dev with regs := [(0x0C * 2 ^ 20 + 0x004, 0x1907)] }, (3 : Nat), List.replicate 16 (⟨4000, 4000, 0, 4000, 0⟩ : DropSample),
     by decide +kernel⟩,
   ⟨dev, (3 : Nat), List.replicate 16 (⟨4000, 0, 0, 0, 0⟩ : DropSample), by decide +kernel⟩,
   ⟨dev, by decide +kernel⟩,
   ⟨dev, hw 0x702BC, by decide +kernel⟩,
   ⟨dev, hw 0x00001, by decide +kernel⟩,
   ⟨vdev, vc, 763, 757, by decide +kernel⟩,
   ⟨vdev, vc, 764, 760, by decide +kernel⟩,
   ⟨vdev, vc, by decide +kernel⟩,
   ⟨vdev, vc, by decide +kernel⟩,
   ⟨dev, by decide +kernel⟩⟩

/-- Witnesses of `Obligations.LoaderAndFeatureCommandsActAsStated`. -/
theorem wit_LoaderAndFeatureCommandsActAsStated :
    (∃ (s : State) (r : MbxReq) (st : Byte), mbxIs s 0x20 = some r ∧ slotFields r.params = true ∧ slotWriteFail s r (slotSource s
      (getLE r.params 1 1) (getLE r.params 8 8) (getLE r.params 4 4)) = some st) ∧
    (∃ (s : State) (r : MbxReq), mbxIs s 0x21 = some r ∧ getLE r.params 0 1 ≤ 1 ∧ getLE r.params 1 1 = 0 ∧ zeroIn r.params 2 2 =
      true ∧ bundleStatus s.sys.fuses.siliconRev (slotOf s.flash (slotNum (getLE r.params 0 1))) ≠ Status.ok) ∧
    (∃ (s : State) (r : MbxReq), mbxIs s 0x22 = some r) ∧
    (∃ (s : State) (r : MbxReq), mbxIs s 0x23 = some r ∧ s.boot.trained = true ∧ (s.boot.stage = .ready ∨ s.boot.stage = .hold) ∧
      s.basin.role = .unjoined ∧ s.insts = [(0, inst0)] ∧ getLE r.params 0 1 ≤ 3 ∧ zeroIn r.params 1 3 = true ∧ imageStatus
      s.sys.fuses.variant s.sys.straps.pen s.boot.runLevel (some (s.boot.hbmInService &&& ~~~s.stacksLost)) (loadSource s (getLE
      r.params 0 1)) = Status.ok) ∧
    (∃ (s : State) (r : MbxReq), mbxIs s 0x23 = some r ∧ s.boot.trained = true ∧ s.boot.stage = .ready ∧ getLE r.params 0 1 ≤ 3 ∧
      zeroIn r.params 1 3 = true ∧ (s.basin.role ≠ .unjoined ∨ ∃ p ∈ s.insts, p.1 ≠ 0)) ∧
    (∃ (s : State) (r : MbxReq), mbxIs s 0x24 = some r ∧ getLE r.params 0 4 % 1024 = 0 ∧ getLE r.params 0 4 < slotSize ∧ zeroIn
      r.params 4 4 = true) ∧
    (∃ (s : State) (w : RegWr), fixedLive s = true ∧ Taken s w ∧ noRsv w 0xFFFFFFFC = true ∧ bitN w.data.toNat 0 = true ∧ bitN
      w.data.toNat 1 = false ∧ featConflict s.feat.offer s.feat.ack = none) ∧
    (∃ (s : State) (w : RegWr) (n : Nat), fixedLive s = true ∧ Taken s w ∧ noRsv w 0xFFFFFFFC = true ∧ bitN w.data.toNat 0 = true
      ∧ bitN w.data.toNat 1 = false ∧ featConflict s.feat.offer s.feat.ack = some n) ∧
    (∃ (s : State) (w : RegWr), fixedLive s = true ∧ Taken s w ∧ noRsv w 0xFFFFFFFC = true ∧ bitN w.data.toNat 1 = true ∧ bitN
      w.data.toNat 0 = false ∧ (∀ p ∈ s.insts, p.2.cls ≠ .partner)) ∧
    (∃ (s : State) (w : RegWr), fixedLive s = true ∧ Taken s w ∧ noRsv w 0xFFFFFFFC = true ∧ bitN w.data.toNat 1 = true ∧ bitN
      w.data.toNat 0 = false ∧ (∃ p ∈ s.insts, p.2.cls = .partner)) :=
  ⟨⟨{ mdev 0x20 ([0,0,0,0,0,16,0,0] ++ zeros 8) with boot.slot := .a, boot.cur := some .a }, req 0x20 ([0,0,0,0,0,16,0,0] ++ zeros 8),
    Status.notPermitted, by decide +kernel⟩,
   ⟨mdev 0x21 ([0,0,0,0]), req 0x21 ([0,0,0,0]), by decide +kernel⟩,
   ⟨mdev 0x22 ([]), req 0x22 ([]), by decide +kernel⟩,
   ⟨{ mdev 0x23 ([2,0,0,0]) with insts := [(0, inst0)], boot.runLevel := 9 }, req 0x23 ([2,0,0,0]), by decide +kernel⟩,
   ⟨mdev 0x23 ([2,0,0,0]), req 0x23 ([2,0,0,0]), by decide +kernel⟩,
   ⟨mdev 0x24 (zeros 8 ++ zeros 1024), req 0x24 (zeros 8 ++ zeros 1024), by decide +kernel⟩,
   ⟨{ dev with feat.ack := 0x8000F }, hw 1, by decide +kernel⟩,
   ⟨{ dev with feat.ack := 0 }, hw 1, 0, by decide +kernel⟩,
   ⟨{ dev with insts := [(0, inst0)] }, hw 2, by decide +kernel⟩,
   ⟨dev, hw 2, by decide +kernel⟩⟩

/-- Witnesses of `Obligations.MailboxRequestsRunInOrder`. -/
theorem wit_MailboxRequestsRunInOrder :
    (∃ (s : State) (w : RegWr) (b : Bytes) (r : MbxReq), fixedLive s = true ∧ Taken s w ∧ noRsv w 0xFFFFFFFE = true ∧ bitN
      w.data.toNat 0 = true ∧ s.mbx.st ≠ .busy ∧ b = Mem.read s.mbx.req 0 (16 + min 2032 (getLE (Mem.read s.mbx.req 2 2) 0 2)) ∧ r
      = mbxReqOf (mbxFrom w.src) b ∧ mbxFail s (mbxSrc r) b true = none ∧ (loaderCode r.code = false ∨ ∀ x, s.mbx.running = some x
      → loaderCode x.code = false)) ∧
    (∃ (s : State) (w : RegWr) (b : Bytes) (r : MbxReq) (st : Byte), fixedLive s = true ∧ Taken s w ∧ noRsv w 0xFFFFFFFE = true ∧
      bitN w.data.toNat 0 = true ∧ s.mbx.st ≠ .busy ∧ b = Mem.read s.mbx.req 0 (16 + min 2032 (getLE (Mem.read s.mbx.req 2 2) 0
      2)) ∧ r = mbxReqOf (mbxFrom w.src) b ∧ mbxFail s (mbxSrc r) b true = some st) ∧
    (∃ (s : State) (w : RegWr), fixedLive s = true ∧ Taken s w ∧ noRsv w 0xFFFFFFFE = true ∧ bitN w.data.toNat 0 = true ∧ s.mbx.st
      = .busy ∧ s.vp.werrValid = false) ∧
    (∃ (s : State) (smb : Option Nat) (b : Bytes), s.sys.coldLow = false ∧ s.sys.straps.test = false ∧ mctpHere s smb = true ∧ 16
      ≤ b.length ∧ tenderRuns s = false) ∧
    (∃ (s : State) (smb : Option Nat) (b : Bytes), tenderRuns s = true ∧ s.sys.straps.test = false ∧ mctpHere s smb = true ∧
      b.length = 16 + getLE b 2 2 ∧ b.length ≤ 2048 ∧ mbxFail s .mctp b true = none ∧ (loaderCode (getLE b 0 1) = false ∨ ∀ x,
      s.mbx.running = some x → loaderCode x.code = false)) ∧
    (∃ (s : State) (smb : Option Nat) (b : Bytes) (x : MbxReq), tenderRuns s = true ∧ s.sys.straps.test = false ∧ mctpHere s smb =
      true ∧ b.length = 16 + getLE b 2 2 ∧ b.length ≤ 2048 ∧ mbxFail s .mctp b true = none ∧ loaderCode (getLE b 0 1) = true ∧
      s.mbx.running = some x ∧ loaderCode x.code = true) ∧
    (∃ (s : State) (smb : Option Nat) (b : Bytes), tenderRuns s = true ∧ s.sys.straps.test = false ∧ mctpHere s smb = true ∧
      b.length = 16 + getLE b 2 2 ∧ b.length ≤ 2048 ∧ getLE b 12 4 ≠ crcN (b.take 12 ++ slice b 16 (getLE b 2 2))) ∧
    (∃ (s : State) (r : MbxReq) (rest : List MbxReq), tenderRuns s = true ∧ s.mbx.running = none ∧ gated s (.tender s.pt.core) =
      false ∧ s.mbx.waiting = r :: rest ∧ stageAllows s.boot.stage r.code = true ∧ (r.code < 0x40 ∨ 0x43 < r.code)) ∧
    (∃ (s : State) (r : MbxReq) (rest : List MbxReq), tenderRuns s = true ∧ s.mbx.running = none ∧ gated s (.tender s.pt.core) =
      false ∧ s.mbx.waiting = r :: rest ∧ stageAllows s.boot.stage r.code = false) ∧
    (∃ (s : State) (r : MbxReq) (rest : List MbxReq), tenderRuns s = true ∧ s.boot.stage = .ready ∧ s.mbx.running = none ∧ gated s
      (.tender s.pt.core) = false ∧ s.mbx.waiting = r :: rest ∧ r.code = 0x41 ∧ getLE r.params 4 2 < 1024 ∧ zeroIn r.params 6 2 =
      true ∧ pageOwned s (getLE r.params 4 2) (mbxSrc r) = true) ∧
    (∃ (s : State) (r : MbxReq), s.mbx.running = some r) ∧
    (∃ (s : State), gated s (.tender s.pt.core) = true) :=
  ⟨⟨{ dev with mbx.req := Mem.write [] 0 (let p : Bytes := []; let h : Bytes := putLE 2 80 ++ putLE 2 p.length ++ putLE 4 5 ++ putLE 4 0; h ++ putLE 4 (crcN (h ++ p)) ++ p), mbx.st := .idle }, hw 1, (let p : Bytes := []; let h : Bytes := putLE 2 80 ++ putLE 2 p.length ++ putLE 4 5 ++ putLE 4 0; h ++ putLE 4 (crcN (h ++ p)) ++ p), mbxReqOf (mbxFrom .host) (let p : Bytes := []; let h : Bytes := putLE 2 80 ++ putLE 2 p.length ++ putLE 4 5 ++ putLE 4 0; h ++ putLE 4 (crcN (h ++ p)) ++ p), by decide +kernel⟩,
   ⟨{ dev with mbx.req := Mem.write [] 0 (let p : Bytes := []; let h : Bytes := putLE 2 5 ++ putLE 2 p.length ++ putLE 4 5 ++ putLE 4 0; h ++ putLE 4 (crcN (h ++ p)) ++ p), mbx.st := .idle },
     hw 1,
     (let p : Bytes := []; let h : Bytes := putLE 2 5 ++ putLE 2 p.length ++ putLE 4 5 ++ putLE 4 0; h ++ putLE 4 (crcN (h ++ p)) ++ p),
     mbxReqOf (mbxFrom .host) (let p : Bytes := []; let h : Bytes := putLE 2 5 ++ putLE 2 p.length ++ putLE 4 5 ++ putLE 4 0; h ++ putLE 4 (crcN (h ++ p)) ++ p),
     Status.badField, by decide +kernel⟩,
   ⟨{ dev with mbx.req := Mem.write [] 0 (let p : Bytes := []; let h : Bytes := putLE 2 80 ++ putLE 2 p.length ++ putLE 4 5 ++ putLE 4 0; h ++ putLE 4 (crcN (h ++ p)) ++ p), mbx.st := .busy },
     hw 1, by decide +kernel⟩,
   ⟨{ dev with boot.stage := .rom }, none, (let p : Bytes := []; let h : Bytes := putLE 2 80 ++ putLE 2 p.length ++ putLE 4 5 ++ putLE 4 0; h ++ putLE 4 (crcN (h ++ p)) ++ p), by decide +kernel⟩,
   ⟨dev, none, (let p : Bytes := []; let h : Bytes := putLE 2 80 ++ putLE 2 p.length ++ putLE 4 5 ++ putLE 4 0; h ++ putLE 4 (crcN (h ++ p)) ++ p), by decide +kernel⟩,
   ⟨{ dev with mbx.running := some (req 0x20 []) }, none, (let p : Bytes := zeros 4; let h : Bytes := putLE 2 33 ++ putLE 2 p.length ++ putLE 4 5 ++ putLE 4 0; h ++ putLE 4 (crcN (h ++ p)) ++ p), req 0x20 [], by decide +kernel⟩,
   ⟨dev, none, (let p : Bytes := [1]; let h : Bytes := putLE 2 1 ++ putLE 2 p.length ++ putLE 4 5 ++ putLE 4 0; h ++ putLE 4 (5) ++ p), by decide +kernel⟩,
   ⟨{ dev with mbx.waiting := [req 1 []] }, req 1 [], [], by decide +kernel⟩,
   ⟨{ dev with boot.stage := .vapen, mbx.waiting := [req 0x41 []] }, req 0x41 [], [], by decide +kernel⟩,
   ⟨{ dev with mbx.waiting := [req 0x41 (zeros 4 ++ [1] ++ zeros 11 ++ zeros 16)] }, req 0x41 (zeros 4 ++ [1] ++ zeros 11 ++ zeros 16), [], by decide +kernel⟩,
   ⟨mdev 1 [], req 1 [], by decide +kernel⟩,
   ⟨{ dev with clk.gated := [.tender dev.pt.core] }, by decide +kernel⟩⟩

/-- Witnesses of `Obligations.ManagerCommandsAnswerAsStated`. -/
theorem wit_ManagerCommandsAnswerAsStated :
    (∃ (s : State) (r : AllocReq) (sh : List Share) (es : List Extent) (left : Nat), s.basin.role = .active ∧ s.basin.stby =
      true ∧ Tab.find s.mgr.dir.results (resultKey r.slot r.reqId) = none ∧ dealStripe ((r.length + granule - 1) / granule)
      r.stripe (eligible (dirLatest s) r) = (left, sh) ∧ left ≤ (if r.overflow then ovfFree (dirLatest s) r.slot else 0) ∧ es =
      plotExtents (dirLatest s) sh ++ (if left = 0 then [] else ovfExtents (dirLatest s) r.slot left) ∧ es.length ≤ r.resultCap) ∧
    (∃ (s : State) (r : AllocReq) (sh : List Share) (left ov : Nat), s.basin.role = .active ∧ Tab.find s.mgr.dir.results
      (resultKey r.slot r.reqId) = none ∧ dealStripe ((r.length + granule - 1) / granule) r.stripe (eligible (dirLatest s) r) =
      (left, sh) ∧ ov = (if r.overflow then ovfFree (dirLatest s) r.slot else 0) ∧ ov < left) ∧
    (∃ (s : State) (r : FreeReq) (a : Alloc), s.basin.role = .active ∧ Tab.find s.mgr.dir.results (resultKey r.slot r.reqId) =
      none ∧ Tab.find (dirLatest s).allocs r.handle = some a ∧ a.inst = r.inst ∧ a.slot = r.slot ∧ r.drained = false) ∧
    (∃ (s : State) (r : FreeReq) (a : Alloc), s.basin.role = .active ∧ s.basin.stby = true ∧ Tab.find s.mgr.dir.results (resultKey
      r.slot r.reqId) = none ∧ Tab.find (dirLatest s).allocs r.handle = some a ∧ a.inst = r.inst ∧ a.slot = r.slot ∧ r.drained =
      true) ∧
    (∃ (s : State) (r : FreeReq) (a : Alloc), s.basin.role = .active ∧ Tab.find s.mgr.dir.results (resultKey r.slot r.reqId) =
      none ∧ Tab.find (dirLatest s).allocs r.handle = some a ∧ (a.inst ≠ r.inst ∨ a.slot ≠ r.slot)) ∧
    (∃ (s : State) (r : FreeReq) (x : MgrResult), s.basin.role = .active ∧ Tab.find s.mgr.dir.results (resultKey r.slot r.reqId) =
      some x) ∧
    (∃ (s : State) (r : PairReq) (a b : MapEnt), s.basin.role = .active ∧ s.basin.stby = true ∧ Tab.find s.mgr.dir.results
      (resultKey r.slot r.reqId) = none ∧ assigned (dirLatest s) r.primary = some a ∧ assigned (dirLatest s) r.mirror = some b ∧
      r.primary ≠ r.mirror ∧ a.slot ≠ b.slot ∧ a.len = b.len ∧ holdsExtents (dirLatest s) r.primary = false ∧ holdsExtents
      (dirLatest s) r.mirror = false ∧ a.paired = false ∧ b.paired = false ∧ a.copying = false ∧ b.copying = false) ∧
    (∃ (s : State) (r : PairReq) (a : MapEnt), s.basin.role = .active ∧ s.basin.stby = true ∧ Tab.find s.mgr.dir.results
      (resultKey r.slot r.reqId) = none ∧ assigned (dirLatest s) r.primary = some a ∧ holdsExtents (dirLatest s) r.primary = false
      ∧ a.paired = false ∧ a.copying = false ∧ a.spare = false) ∧
    (∃ (s : State) (r : PairReq) (a : MapEnt), s.basin.role = .active ∧ s.basin.stby = true ∧ Tab.find s.mgr.dir.results
      (resultKey r.slot r.reqId) = none ∧ assigned (dirLatest s) r.primary = some a ∧ a.spare = true) ∧
    (∃ (s : State) (r : PairReq), s.basin.role = .active ∧ Tab.find s.mgr.dir.results (resultKey r.slot r.reqId) = none ∧ assigned
      (dirLatest s) r.primary = none) ∧
    (∃ (s : State), s.basin.role = .active) ∧
    (∃ (s : State) (h : Nat), s.basin.role = .active ∧ Tab.find s.mgr.dir.allocs h = none) ∧
    (∃ (s : State) (h : Nat) (a : Alloc), s.basin.role = .active ∧ Tab.find s.mgr.dir.allocs h = some a) ∧
    (∃ (s : State), s.basin.role = .active ∧ s.basin.stby = true) ∧
    (∃ (s : State) (h : HeldCmd) (r : List HeldCmd), s.mgr.held = h :: r ∧ managerKnown s = false) ∧
    (∃ (s : State) (h : HeldCmd), s.mgr.held = [h] ∧ managerKnown s = true) ∧
    (∃ (s : State) (h : HeldCmd) (n : Nat) (st : Byte), s.mgr.held = [h] ∧ h.reqId = n ∧ (st ≠ Status.ok ∨ (h.code ≠ 0x40 ∧ h.code
      ≠ 0x41))) :=
  ⟨⟨adev [(1, plt 2), (2, plt 3)], areq, (dealt (adev [(1, plt 2), (2, plt 3)])).2, plotExtents (dirLatest (adev [(1, plt 2), (2, plt 3)])) (dealt (adev [(1, plt 2), (2, plt 3)])).2, (dealt (adev [(1, plt 2), (2, plt 3)])).1, by decide +kernel⟩,
   ⟨adev [], areq, (dealt (adev [])).2, (dealt (adev [])).1, 0, by decide +kernel⟩,
   ⟨{ adev [(1, plt 2)] with mgr.dir.allocs := [(6, { inst := 1, slot := 2, extents := [], shared := [] })] }, { slot := 2, reqId := 1, inst := 1, handle := 6, drained := false }, { inst := 1, slot := 2, extents := [], shared := [] }, by decide +kernel⟩,
   ⟨{ adev [(1, plt 2)] with mgr.dir.allocs := [(6, { inst := 1, slot := 2, extents := [], shared := [] })] }, { slot := 2, reqId := 1, inst := 1, handle := 6, drained := true }, { inst := 1, slot := 2, extents := [], shared := [] }, by decide +kernel⟩,
   ⟨{ adev [(1, plt 2)] with mgr.dir.allocs := [(6, { inst := 1, slot := 2, extents := [], shared := [] })] }, { slot := 3, reqId := 1, inst := 1, handle := 6, drained := false }, { inst := 1, slot := 2, extents := [], shared := [] }, by decide +kernel⟩,
   ⟨{ adev [(1, plt 2), (2, plt 3)] with mgr.dir.results := [(resultKey 2 1, (⟨Status.ok, [1]⟩ : MgrResult))] }, (⟨2, 1, 1, 6, true⟩ : FreeReq),
     (⟨Status.ok, [1]⟩ : MgrResult), by decide +kernel⟩,
   ⟨adev [(1, plt 2), (2, plt 3)], (⟨2, 1, 1, 2⟩ : PairReq), plt 2, plt 3, by decide +kernel⟩,
   ⟨adev [(1, plt 2), (2, plt 3)], (⟨2, 1, 1, 2⟩ : PairReq), plt 2, by decide +kernel⟩,
   ⟨adev [(1, { plt 2 with spare := true })], (⟨2, 1, 1, 2⟩ : PairReq), { plt 2 with spare := true }, by decide +kernel⟩,
   ⟨adev [], (⟨2, 1, 1, 2⟩ : PairReq), by decide +kernel⟩,
   ⟨adev [(1, plt 2), (2, plt 3)], by decide +kernel⟩,
   ⟨adev [(1, plt 2), (2, plt 3)], 6, by decide +kernel⟩,
   ⟨{ adev [(1, plt 2), (2, plt 3)] with mgr.dir.allocs := [(6, (⟨1, 2, [], []⟩ : Alloc))] }, 6, (⟨1, 2, [], []⟩ : Alloc), by decide +kernel⟩,
   ⟨{ adev [(1, plt 2), (2, plt 3)] with mgr.dir.allocs := [(6, (⟨1, 2, [], []⟩ : Alloc))] }, by decide +kernel⟩,
   ⟨{ bdev .unjoined with mgr.held := [(⟨5, 0, 0x42, [], 1, 0, 0⟩ : HeldCmd)] }, (⟨5, 0, 0x42, [], 1, 0, 0⟩ : HeldCmd), ([] : List HeldCmd),
     by decide +kernel⟩,
   ⟨{ bdev .worker with mgr.held := [(⟨5, 0, 0x42, [], 1, 0, 0⟩ : HeldCmd)], basin.mgrSerial := some 9 }, (⟨5, 0, 0x42, [], 1, 0,
     0⟩ : HeldCmd), by decide +kernel⟩,
   ⟨{ bdev .worker with mgr.held := [(⟨5, 0, 0x42, [], 1, 0, 0⟩ : HeldCmd)] }, (⟨5, 0, 0x42, [], 1, 0, 0⟩ : HeldCmd), 5, Status.busy,
     by decide +kernel⟩⟩

/-- Witnesses of `Obligations.PartnerMemoryIsReachedAsStated`. -/
theorem wit_PartnerMemoryIsReachedAsStated :
    (∃ (s : State), partnerLive s = true) ∧
    (∃ (s : State), partnerLive s = true) ∧
    (∃ (s : State) (l : Nat), Tab.has s.pt.held l = true ∧ s.rxHeld = [] ∧ s.pt.hdmHeld = []) ∧
    (∃ (s : State) (l : Nat) (b : Bytes), Tab.has s.pt.held l = true ∧ s.rxHeld = [] ∧ s.pt.hdmHeld = [] ∧ s.basin.mirrorOf = 0 ∧
      mirrored s = false) ∧
    (∃ (s : State) (o n : Nat), partnerLive s = true ∧ o + n ≤ hdmLen s ∧ s.pt.held = []) ∧
    (∃ (s : State) (o : Nat) (d : Bytes), partnerLive s = true ∧ o + d.length ≤ hdmLen s ∧ s.pt.held = [] ∧ s.basin.mirrorOf = 0 ∧
      mirrored s = false) ∧
    (∃ (s : State) (o : Nat) (d : Bytes), partnerLive s = true ∧ o + d.length ≤ hdmLen s ∧ s.pt.held = [] ∧ s.basin.mirrorOf ≠ 0) ∧
    (∃ (s : State) (o n l : Nat), partnerLive s = true ∧ Tab.has s.pt.held l = true ∧ l ∈ linesOf o n ∧ o + n ≤ hdmLen s) ∧
    (∃ (s : State) (o : Nat) (d : Bytes) (l : Nat), partnerLive s = true ∧ Tab.has s.pt.held l = true ∧ l ∈ linesOf o d.length ∧ o
      + d.length ≤ hdmLen s) ∧
    (∃ (s : State) (o n l : Nat), s.rxHeld = [] ∧ s.pt.held.map (·.1) = [l] ∧ s.pt.hdmHeld = [(.read o n, false)]) ∧
    (∃ (s : State) (i a : Nat) (r : AtsReq), atsOf s i a = some r ∧ s.rxHeld = []) ∧
    (∃ (s : State) (i a : Nat) (r : AtsReq) (k : Nat) (sp : Span) (st len tg : Nat) (w : Bool), atsOf s i a = some r ∧ s.rxHeld =
      [] ∧ st ≤ a ∧ a < st + len ∧ (r.write = true → w = true) ∧ spanAt s i a = some (k, sp) ∧ s.pieces.length < pieceMax s ∧
      r.advise = false) ∧
    (∃ (s : State) (i a : Nat) (r : AtsReq), atsOf s i a = some r ∧ s.rxHeld = []) ∧
    (∃ (s : State), partnerLive s = true) :=
  ⟨⟨{ dev with pt.cxl := true, boot.plotGranules := 4, boot.image := some { img with roleCap := 1 } }, by decide +kernel⟩,
   ⟨{ dev with pt.cxl := true, boot.plotGranules := 4, boot.image := some { img with roleCap := 1 } }, by decide +kernel⟩,
   ⟨{ dev with pt.held := [(5, 3)], pt.owned := [5] }, 5, by decide +kernel⟩,
   ⟨{ dev with pt.held := [(5, 3)], pt.owned := [5] }, 5, ([1, 2, 3] : Bytes), by decide +kernel⟩,
   ⟨{ dev with pt.cxl := true, boot.plotGranules := 4, boot.image := some { img with roleCap := 1 } }, 0, 64, by decide +kernel⟩,
   ⟨{ dev with pt.cxl := true, boot.plotGranules := 4, boot.image := some { img with roleCap := 1 } }, 64, ([1, 2, 3] : Bytes), by decide +kernel⟩,
   ⟨{ dev with basin.mirrorOf := 2, pt.cxl := true, boot.plotGranules := 4, boot.image := some { img with roleCap := 1 } }, 64, ([1, 2, 3] : Bytes), by decide +kernel⟩,
   ⟨{ hdev with pt.held := [(5, 3)] }, 320, 64, 5, by decide +kernel⟩,
   ⟨{ hdev with pt.held := [(5, 3)] }, 322, ([1, 2, 3] : Bytes), 5, by decide +kernel⟩,
   ⟨{ hdev with pt.held := [(5, 3)], pt.hdmHeld := [(.read 320 64, false)] }, 320, 64, 5, by decide +kernel⟩,
   ⟨atdev, 1, 0x200040, areqT, by decide +kernel⟩,
   ⟨atdev, 1, 0x200040, areqT, 3, { span1 with kind := .ats, start := 0x200000, len := 0x1000 }, 0x200000, 0x1000, 0x5000, true, by decide +kernel⟩,
   ⟨atdev, 1, 0x200040, areqT, by decide +kernel⟩,
   ⟨{ dev with pt.cxl := true, boot.plotGranules := 4, boot.image := some { img with roleCap := 1 } }, by decide +kernel⟩⟩

/-- Witnesses of `Obligations.QueuePairsFollowTheirCommands`. -/
theorem wit_QueuePairsFollowTheirCommands :
    (∃ (s : State) (i : Nat) (w : RegWr), CmdOpen s i 0x138 1 w ∧ firstFail (qpHead s i w false) = none ∧ qpFree s (qpSel s i) =
      true) ∧
    (∃ (s : State) (i : Nat) (w : RegWr), CmdOpen s i 0x138 1 w ∧ firstFail (qpHead s i w false) = none ∧ qpFree s (qpSel s i) =
      false) ∧
    (∃ (s : State) (i : Nat) (w : RegWr) (p : Qp), CmdOpen s i 0x138 2 w ∧ firstFail (qpHead s i w true) = none ∧ qpOf s (qpSel s
      i) = some p ∧ p.st = .init ∧ (bitN (getPage s i 0x104) 29 = true → p.cipher.keyed = true) ∧ (bitN (getPage s i 0x104) 29 =
      false → fld (getPage s i 0x104) 31 30 = 0 → s.policy.requireEnc = false)) ∧
    (∃ (s : State) (i : Nat) (w : RegWr) (p : Qp), CmdOpen s i 0x138 2 w ∧ firstFail (qpHead s i w true) = none ∧ qpOf s (qpSel s
      i) = some p ∧ bitN (getPage s i 0x104) 29 = true ∧ p.cipher.keyed = false) ∧
    (∃ (s : State) (i : Nat) (w : RegWr) (p : Qp), CmdOpen s i 0x138 3 w ∧ firstFail (qpHead s i w false) = none ∧ qpOf s (qpSel s
      i) = some p ∧ (p.st = .init ∨ p.st = .error) ∧ qpDone s (qpSel s i) = true) ∧
    (∃ (s : State) (i : Nat) (w : RegWr) (p : Qp), CmdOpen s i 0x138 4 w ∧ firstFail (qpHead s i w false) = none ∧ qpOf s (qpSel s
      i) = some p ∧ (p.st = .init ∨ p.st = .error) ∧ qpDone s (qpSel s i) = true ∧ (∀ x ∈ s.wqs, x.2.kind = .lq ∨ x.2.qp ≠ qpSel s
      i)) ∧
    (∃ (s : State) (i : Nat) (w : RegWr) (p : Qp), CmdOpen s i 0x138 4 w ∧ firstFail (qpHead s i w false) = none ∧ qpOf s (qpSel s
      i) = some p ∧ p.st = .connected) ∧
    (∃ (s : State) (i : Nat) (w : RegWr) (p : Qp), CmdOpen s i 0x138 5 w ∧ firstFail (qpHead s i w false) = none ∧ qpOf s (qpSel s
      i) = some p ∧ p.epoch < 256 ∧ p.cipher.role ≤ 1 ∧ p.sndUna < 2 ^ 24 ∧ p.epsn < 2 ^ 24) ∧
    (∃ (s : State) (i : Nat) (w : RegWr) (p : Qp), CmdOpen s i 0x138 6 w ∧ firstFail (qpHead s i w false) = none ∧ qpOf s (qpSel s
      i) = some p ∧ p.st = .connected ∧ qAlt p = true) ∧
    (∃ (s : State) (i : Nat) (w : RegWr) (p : Qp), CmdOpen s i 0x138 6 w ∧ firstFail (qpHead s i w false) = none ∧ qpOf s (qpSel s
      i) = some p ∧ qAlt p = false) :=
  ⟨⟨{ tdev qp1 [(pageKey 1 0x104, 3145728), (pageKey 1 0x108, 9), (pageKey 1 0x118, 5), (pageKey 1 0x11c, 117440528), (pageKey 1 0x120, 32)] with qps := [], wqs := [], infl := [] },
    1, hw 1, by decide +kernel⟩,
   ⟨tdev qp1 [(pageKey 1 0x104, 3145728), (pageKey 1 0x108, 9), (pageKey 1 0x118, 5), (pageKey 1 0x11c, 117440528), (pageKey 1 0x120, 32)],
     1, hw 1, by decide +kernel⟩,
   ⟨tdev ({ qp1 with st := .init }) [(pageKey 1 0x104, 3145728), (pageKey 1 0x108, 9), (pageKey 1 0x118, 5), (pageKey 1 0x11c, 117440528), (pageKey 1 0x120, 32)],
     1, hw 2, { qp1 with st := .init }, by decide +kernel⟩,
   ⟨tdev ({ qp1 with st := .init }) [(pageKey 1 0x104, 540016640), (pageKey 1 0x108, 9), (pageKey 1 0x118, 5), (pageKey 1 0x11c, 117440528), (pageKey 1 0x120, 32)],
     1, hw 2, { qp1 with st := .init }, by decide +kernel⟩,
   ⟨{ tdev qpE [(pageKey 1 0x104, 3145728), (pageKey 1 0x108, 9), (pageKey 1 0x118, 5), (pageKey 1 0x11c, 117440528), (pageKey 1 0x120, 32)] with wqs := [], infl := [] },
     1, hw 3, qpE, by decide +kernel⟩,
   ⟨{ tdev qpE [(pageKey 1 0x104, 3145728), (pageKey 1 0x108, 9), (pageKey 1 0x118, 5), (pageKey 1 0x11c, 117440528), (pageKey 1 0x120, 32)] with wqs := [], infl := [] },
     1, hw 4, qpE, by decide +kernel⟩,
   ⟨tdev qp1 [(pageKey 1 0x104, 3145728), (pageKey 1 0x108, 9), (pageKey 1 0x118, 5), (pageKey 1 0x11c, 117440528), (pageKey 1 0x120, 32)],
     1, hw 4, qp1, by decide +kernel⟩,
   ⟨tdev qpF [(pageKey 1 0x104, 3145728), (pageKey 1 0x108, 9), (pageKey 1 0x118, 5), (pageKey 1 0x11c, 117440528), (pageKey 1 0x120, 32)],
     1, hw 5, qpF, by decide +kernel⟩,
   ⟨tdev ({ qpF with cfg := 0x00340000 }) [(pageKey 1 0x104, 3145728), (pageKey 1 0x108, 9), (pageKey 1 0x118, 5), (pageKey 1 0x11c, 117440528), (pageKey 1 0x120, 32)],
     1, hw 6, { qpF with cfg := 0x00340000 }, by decide +kernel⟩,
   ⟨tdev qpF [(pageKey 1 0x104, 3145728), (pageKey 1 0x108, 9), (pageKey 1 0x118, 5), (pageKey 1 0x11c, 117440528), (pageKey 1 0x120, 32)],
     1, hw 6, qpF, by decide +kernel⟩⟩

/-- Witnesses of `Obligations.QueuePairsTransmitAndTimeOut`. -/
theorem wit_QueuePairsTransmitAndTimeOut :
    (∃ (s : State) (n : Nat) (p : Qp) (c : Ctl) (rest : List Ctl), qpOf s n = some p ∧ p.kind = .rc ∧ sendable s (curLink p) =
      true ∧ p.ctl = c :: rest ∧ Runs s (engineOf s (curLink p))) ∧
    (∃ (s : State) (n : Nat) (p : Qp) (r : SReq) (k : Nat), qpOf s n = some p ∧ p.kind = .rc ∧ p.st = .connected ∧ sendable s
      (curLink p) = true ∧ p.ctl = [] ∧ p.rnrUntil = none ∧ p.retx = [] ∧ p.rsps = [] ∧ d24 p.sndEnd p.sndNxt ≠ 0 ∧ d24 p.sndNxt
      p.sndUna < 8192 ∧ reqAt p p.sndNxt = some (r, k) ∧ paceReady s p (frameLen p (reqExt r k).length (reqPay p r k).length) =
      true ∧ txReady s (some p.inst) (reqPay p r k).length = true ∧ Runs s (engineOf s (curLink p)) ∧ txTurnOk (wakeBlk s
      (engineOf s (curLink p))) p (frameLen p (reqExt r k).length (reqPay p r k).length) = true) ∧
    (∃ (s : State) (n : Nat) (p : Qp) (x : Nat) (rest : List Nat) (r : SReq) (k : Nat), qpOf s n = some p ∧ p.kind = .rc ∧ p.st =
      .connected ∧ sendable s (curLink p) = true ∧ p.ctl = [] ∧ p.rnrUntil = none ∧ p.retx = x :: rest ∧ reqAt p x = some (r, k) ∧
      (r.op ≠ 3 ∨ k = 0) ∧ paceReady s p (frameLen p (reqExt r k).length (reqPay p r k).length) = true ∧ txReady s (some p.inst)
      (reqPay p r k).length = true ∧ Runs s (engineOf s (curLink p)) ∧ txTurnOk (wakeBlk s (engineOf s (curLink p))) p (frameLen p
      (reqExt r k).length (reqPay p r k).length) = true) ∧
    (∃ (s : State) (n : Nat) (p : Qp), qpOf s n = some p ∧ p.kind = .rc ∧ p.st = .connected ∧ p.ctl = [] ∧ p.retx = [] ∧ p.rsps =
      [] ∧ 8192 ≤ d24 p.sndNxt p.sndUna) ∧
    (∃ (s : State) (n : Nat) (p : Qp) (len : Nat), qpOf s n = some p ∧ p.kind = .rc ∧ p.ctl = [] ∧ p.retx = [] ∧ txNext (wakeBlk s
      (engineOf s (curLink p))) p = some len ∧ txTurnOk (wakeBlk s (engineOf s (curLink p))) p len = false) ∧
    (∃ (s : State) (n : Nat) (p : Qp), qpOf s n = some p ∧ gated (wakeBlk s (engineOf s (curLink p))) (engineOf s (curLink p)) =
      true) ∧
    (∃ (s : State) (n : Nat) (p : Qp) (d : Nat), qpOf s n = some p ∧ p.kind = .rc ∧ p.st = .connected ∧ p.unackedAt = some d ∧
      sendable s (curLink p) = true) ∧
    (∃ (s : State) (n : Nat) (p : Qp), qpOf s n = some p ∧ p.st = .connected ∧ (p.sndUna ≠ p.sndNxt ∨ unanswered p ≠ []) ∧
      p.rnrUntil = none ∧ ((link s (curLink p)).up = false ∨ sendable s (curLink p) = true)) ∧
    (∃ (s : State) (n : Nat) (p : Qp) (d : Nat), qpOf s n = some p ∧ p.rnrUntil = some d) ∧
    (∃ (s : State) (n : Nat) (p : Qp) (r : SReq) (q i : Nat) (e : Infl), qpOf s n = some p ∧ p.st = .connected ∧ p.sndUna ≠
      p.sndNxt ∧ OldestIs s p r q i e) ∧
    (∃ (s : State) (l n : Nat) (p : Qp), (port s (l / 4)).failed = true ∨ ((link s l).up = false ∧ ((link s l).dorm = .down ∨
      (link s l).dorm = .retrain)) ∧ s.qps = [(n, p)] ∧ curLink p = l ∧ p.onAlt = false ∧ qAlt p = true ∧ p.st = .connected) ∧
    (∃ (s : State) (n : Nat) (p : Qp), qpOf s n = some p ∧ p.st = .resyncing) :=
  ⟨⟨tdev ({ qpF with ctl := [{ op := 0x10, kind := 1, status := 0, psn := 9 }] }) [], 0, { qpF with ctl := [{ op := 0x10, kind := 1, status := 0, psn := 9 }] }, { op := 0x10, kind := 1, status := 0, psn := 9 }, [], by decide +kernel⟩,
   ⟨tdev (qpF) [], 0, qpF, rq0 1 13 3, 0, by decide +kernel⟩,
   ⟨tdev ({ qpF with retx := [11, 12] }) [], 0, { qpF with retx := [11, 12] }, 11, [12], rq0 1 10 3, 1, by decide +kernel⟩,
   ⟨tdev ({ qpF with sndNxt := 8202, sndEnd := 8203 }) [], 0, { qpF with sndNxt := 8202, sndEnd := 8203 }, by decide +kernel⟩,
   ⟨{ tdev qpF [] with qps := [(0, { qpF with served := true }), (1, qpF)] }, 0, { qpF with served := true }, (txNext { tdev qpF [] with qps := [(0, { qpF with served := true }), (1, qpF)] } { qpF with served := true }).getD 0, by decide +kernel⟩,
   ⟨asleep (tdev qpF []) (.sluice 0), 0, qpF, by decide +kernel⟩,
   ⟨tdev ({ qpF with unackedAt := some 70, unacked := 2, epsn := 33 }) [], 0, { qpF with unackedAt := some 70, unacked := 2, epsn := 33 },
     70, by decide +kernel⟩,
   ⟨tdev (qpF) [], 0, qpF, by decide +kernel⟩,
   ⟨tdev ({ qpF with rnrUntil := some 900 }) [], 0, { qpF with rnrUntil := some 900 }, 900, by decide +kernel⟩,
   ⟨tdev { qpF with reqs := [rq0 1 10 3, { rq0 1 13 3 with who := .entry 0 1 }] } [], 0, { qpF with reqs := [rq0 1 10 3, { rq0 1 13 3 with who := .entry 0 1 }] }, rq0 1 10 3, 0, 0, { inf (ent 1 64 0x100000 0x100 []) with disp := true }, by decide +kernel⟩,
   ⟨{ tdev ({ qpF with cfg := 0x00340000 }) [] with links := [(0, { lnk with up := false, dorm := .down })] }, 0, 0,
     { qpF with cfg := 0x00340000 }, by decide +kernel⟩,
   ⟨tdev ({ qpF with st := .resyncing, resyncAt := 10 }) [], 0, { qpF with st := .resyncing, resyncAt := 10 }, by decide +kernel⟩⟩

/-- Witnesses of `Obligations.RegisterWritesAreCheckedInOrder`. -/
theorem wit_RegisterWritesAreCheckedInOrder :
    (∃ (s : State) (w : RegWrite), fixedLive s = true ∧ w.off < 0x10000 ∧ Taken s w.wr ∧ s.vp.werrValid = false) ∧
    (∃ (s : State) (w : RegWrite), fixedLive s = true ∧ w.off < 0x10000 ∧ discarded s w.wr.src = false ∧ w.wr.full = false ∧
      s.vp.werrValid = true) ∧
    (∃ (s : State) (w : RegWrite), fixedLive s = true ∧ w.off < 0x20000 ∧ w.off ≠ 0x10120 ∧ w.off ≠ 0x10200 ∧ w.off ≠ 0x10800 ∧
      discarded s w.wr.src = false ∧ w.wr.full = false ∧ s.vp.werrValid = false) ∧
    (∃ (s : State) (w : RegWrite) (i : Nat), fixedLive s = true ∧ i < 4 ∧ w.off = 0x10110 + 4 * i ∧ Taken s w.wr ∧
      s.feat.committed = false ∧ (i = 0 → noRsv w.wr 0xC0000000 = true) ∧ (i ≠ 0 → w.wr.data = 0)) ∧
    (∃ (s : State) (w : RegWrite) (a : Nat), fixedLive s = true ∧ a < 512 ∧ w.off = 0x11000 + 4 * a ∧ Taken s w.wr ∧ s.mbx.st ≠
      .busy) ∧
    (∃ (s : State) (w : RegWrite) (l : Layout) (o : Nat) (rsv : Word), windowLive s = true ∧ s.sys.coldLow = false ∧ 0x20000 ≤
      w.off ∧ s.vp.layout = some l ∧ blockOf l w.off = some (3, o) ∧ Taken s w.wr ∧ devOwner s w.wr = true ∧ 0x100 ≤ o ∧ o < 0x170
      ∧ wrRsv (roleCap s = 2) o = some rsv ∧ noRsv w.wr rsv = true ∧ profOk o w.wr.data.toNat = true) ∧
    (∃ (s : State) (w : RegWrite) (l : Layout) (o : Nat), windowLive s = true ∧ s.sys.coldLow = false ∧ 0x20000 ≤ w.off ∧
      s.vp.layout = some l ∧ blockOf l w.off = some (3, o) ∧ Taken s w.wr ∧ devOwner s w.wr = true ∧ 0x100 ≤ o ∧ o < 0x170 ∧
      profOk o w.wr.data.toNat = false ∧ s.vp.werrValid = false) ∧
    (∃ (s : State) (w : RegWrite) (l : Layout) (i o : Nat) (r : PageReg), windowLive s = true ∧ s.sys.coldLow = false ∧ 0x20000 ≤
      w.off ∧ s.vp.layout = some l ∧ placedWrite s l w.off w.wr = pageWrite s i o w.wr ∧ pageCmds.find? (fun c => c.1 = o) = none
      ∧ o ≠ 0x184 ∧ o ≠ 0x0E0 ∧ pageReg o = some r ∧ Taken s w.wr ∧ pageOwned s i w.wr.src = true ∧ noRsv w.wr r.rsv = true ∧
      pageBusy s i r.stat = false) ∧
    (∃ (s : State) (w : RegWr), fixedLive s = true ∧ Taken s w ∧ noRsv w 0x3F000000 = true ∧ bitN w.data.toNat 31 = true) ∧
    (∃ (s : State) (w : RegWr), fixedLive s = true ∧ Taken s w ∧ noRsv w 0x3F000000 = true ∧ bitN w.data.toNat 31 = false) ∧
    (∃ (s : State) (src : Src) (off bits : Nat), off < 0x10000 ∧ tableLive s = false) ∧
    (∃ (s : State) (src : Src) (off bits : Nat), answers s src = true ∧ off < 0x10000 ∧ tableLive s = true ∧ ((bits = 32 ∧ off % 4
      = 0) ∨ (bits = 64 ∧ off % 8 = 0))) ∧
    (∃ (s : State) (src : Src), s.boot.stage ≠ .ready) ∧
    (∃ (s : State) (src : Src) (off bits : Nat), 0x10000 ≤ off ∧ (bits ≠ 32 ∨ off % 4 ≠ 0)) :=
  ⟨⟨dev, ⟨64, hw 9⟩, by decide +kernel⟩,
   ⟨{ dev with vp.werrValid := true }, ⟨64, ⟨.host, false, 5⟩⟩, by decide +kernel⟩,
   ⟨dev, ⟨65816, ⟨.host, false, 5⟩⟩, by decide +kernel⟩,
   ⟨{ dev with feat.committed := false, feat.ack := 0 }, ⟨0x10110, hw 0x2000000F⟩, 0, by decide +kernel⟩,
   ⟨dev, ⟨0x11008, hw 0x12345678⟩, 2, by decide +kernel⟩,
   ⟨{ dev with vp.layout := some lay }, ⟨0x40100, hw 0x00142040⟩, lay, 0x100, 0x1F000000, by decide +kernel⟩,
   ⟨{ dev with vp.layout := some lay }, ⟨0x40104, hw 0x00320064⟩, lay, 0x104, by decide +kernel⟩,
   ⟨{ dev with vp.layout := some lay }, ⟨0x441084, hw 0x7000⟩, lay, 1, 0x84, ((pageReg 0x84).getD ⟨0, 0, 0, 0⟩), ⟨by decide +kernel,
     by decide +kernel, by decide +kernel, by decide +kernel, rfl, by decide +kernel, by decide +kernel, by decide +kernel, rfl,
     by decide +kernel, by decide +kernel, by decide +kernel, by decide +kernel⟩⟩,
   ⟨{ dev with vp.werrValid := true, vp.werrCount := 4 }, hw 0x80000000, by decide +kernel⟩,
   ⟨dev, hw 0, by decide +kernel⟩,
   ⟨State.reset, .host, 0x40, 32, by decide +kernel⟩,
   ⟨dev, .host, 0x40, 64, by decide +kernel⟩,
   ⟨boot .image, .host, by decide +kernel⟩,
   ⟨dev, .host, 0x10002, 32, by decide +kernel⟩⟩

/-- Witnesses of `Obligations.RequestsArriveAndArePlaced`. -/
theorem wit_RequestsArriveAndArePlaced :
    (∃ (s : State) (l : Nat) (f : Frame) (n : Nat) (p : Qp) (c : Cipher) (ext pay : Bytes) (z : State) (y : Qp) (u v : State) (b :
      Bytes), RxOpen s l f 1 n p c ext pay ∧ RxNew s l f n p ∧ rxMet s l f n p c = (z, y) ∧ p.kind = .rc ∧ leaving s p.inst =
      false ∧ isGroup 1 (getBE ext 0 8) = false ∧ getBE ext 0 8 ≠ mapAddr ∧ pay.length = getBE f.ext 12 4 ∧ targetFail z y 1
      (getBE ext 0 8) (getBE ext 8 4) (getBE f.ext 12 4) = (u, none) ∧ writeMemAt (some u.pieceClock) (rxAdmitted u n y (rxRequest
      f (psnCount (qSeg p) (getBE f.ext 12 4)) (getBE f.ext 12 4) (getBE ext 0 8) (getBE ext 8 4) none none)) p.inst (getBE ext 0
      8) pay = .ok v b) ∧
    (∃ (s : State) (l : Nat) (f : Frame) (n : Nat) (p : Qp) (c : Cipher) (ext pay : Bytes) (z : State) (y : Qp) (u : State) (st :
      Byte), RxOpen s l f 1 n p c ext pay ∧ RxNew s l f n p ∧ rxMet s l f n p c = (z, y) ∧ p.kind = .rc ∧ leaving s p.inst = false
      ∧ targetFail z y 1 (getBE ext 0 8) (getBE ext 8 4) (getBE f.ext 12 4) = (u, some st)) ∧
    (∃ (s : State) (l : Nat) (f : Frame) (n : Nat) (p : Qp) (c : Cipher) (ext pay : Bytes) (z : State) (y : Qp) (q i : Nat) (e :
      Infl) (v : State) (b : Bytes), RxOpen s l f 5 n p c ext pay ∧ RxNew s l f n p ∧ rxMet s l f n p c = (z, y) ∧ p.kind = .rc ∧
      leaving s p.inst = false ∧ rqOf s n = some q ∧ recvEntry s q = some (i, e) ∧ getBE f.ext 0 4 ≤ entLen e.ent ∧ pay.length =
      getBE f.ext 0 4 ∧ recvOwed s p = false ∧ writeMemAt (some (e.adm.getD z.pieceClock)) (rxAdmitted z n y (rxRequest f
      (psnCount (qSeg p) (getBE f.ext 0 4)) (getBE f.ext 0 4) 0 0 (some (q, i)) (some (entAddr e.ent)))) p.inst (entAddr e.ent)
      pay = .ok v b ∧ inflOf s q i = some e) ∧
    (∃ (s : State) (l : Nat) (f : Frame) (n : Nat) (p : Qp) (c : Cipher) (ext pay : Bytes) (z : State) (y : Qp) (q i : Nat) (e :
      Infl) (v : State) (b : Bytes), RxOpen s l f 6 n p c ext pay ∧ RxNew s l f n p ∧ rxMet s l f n p c = (z, y) ∧ p.kind = .rc ∧
      leaving s p.inst = false ∧ rqOf s n = some q ∧ recvEntry s q = some (i, e) ∧ getBE f.ext 0 4 ≤ entLen e.ent ∧ pay.length =
      getBE f.ext 0 4 ∧ recvOwed s p = false ∧ writeMemAt (some (e.adm.getD z.pieceClock)) (rxAdmitted z n y (rxRequest f
      (psnCount (qSeg p) (getBE f.ext 0 4)) (getBE f.ext 0 4) 0 0 (some (q, i)) (some (entAddr e.ent)))) p.inst (entAddr e.ent)
      pay = .ok v b ∧ inflOf s q i = some e) ∧
    (∃ (s : State) (l : Nat) (f : Frame) (n : Nat) (p : Qp) (c : Cipher) (ext pay : Bytes) (z : State) (y : Qp) (q i : Nat) (e :
      Infl) (u v : State) (b : Bytes), RxOpen s l f 2 n p c ext pay ∧ RxNew s l f n p ∧ rxMet s l f n p c = (z, y) ∧ p.kind = .rc
      ∧ leaving s p.inst = false ∧ rqOf s n = some q ∧ recvEntry s q = some (i, e) ∧ pay.length = getBE f.ext 12 4 ∧ recvOwed s p
      = false ∧ targetFail z y 2 (getBE ext 0 8) (getBE ext 8 4) (getBE f.ext 12 4) = (u, none) ∧ writeMemAt (some u.pieceClock)
      (rxAdmitted u n y (rxRequest f (psnCount (qSeg p) (getBE f.ext 12 4)) (getBE f.ext 12 4) (getBE ext 0 8) (getBE ext 8 4)
      (some (q, i)) none)) p.inst (getBE ext 0 8) pay = .ok v b ∧ inflOf s q i = some e) ∧
    (∃ (s : State) (l : Nat) (f : Frame) (n : Nat) (p : Qp) (c : Cipher) (ext pay : Bytes) (z : State) (y : Qp) (q i : Nat) (e :
      Infl), RxOpen s l f 5 n p c ext pay ∧ RxNew s l f n p ∧ rxMet s l f n p c = (z, y) ∧ p.kind = .rc ∧ leaving s p.inst = false
      ∧ rqOf s n = some q ∧ recvEntry s q = some (i, e) ∧ getBE f.ext 0 4 ≤ entLen e.ent ∧ pay.length = getBE f.ext 0 4 ∧ recvOwed
      s p = true) ∧
    (∃ (s : State) (l : Nat) (f : Frame) (n : Nat) (p : Qp) (c : Cipher) (ext pay : Bytes) (q i : Nat) (e : Infl), RxOpen s l f 5
      n p c ext pay ∧ RxNew s l f n p ∧ p.kind = .rc ∧ leaving s p.inst = false ∧ rqOf s n = some q ∧ recvEntry s q = some (i, e)
      ∧ entLen e.ent < getBE f.ext 0 4 ∧ recvOwed s p = false ∧ inflOf s q i = some e ∧ e.done = none) ∧
    (∃ (s : State) (l : Nat) (f : Frame) (n : Nat) (p : Qp) (c : Cipher) (ext pay : Bytes) (q : Nat), RxOpen s l f 5 n p c ext pay
      ∧ RxNew s l f n p ∧ p.kind = .rc ∧ leaving s p.inst = false ∧ rqOf s n = some q ∧ recvEntry s q = none) ∧
    (∃ (s : State) (l : Nat) (f : Frame) (n : Nat) (p : Qp) (c : Cipher) (ext pay : Bytes) (z : State) (y : Qp) (u v : State) (b :
      Bytes), RxOpen s l f 3 n p c ext pay ∧ RxNew s l f n p ∧ rxMet s l f n p c = (z, y) ∧ p.kind = .rc ∧ leaving s p.inst =
      false ∧ targetFail z y 3 (getBE ext 0 8) (getBE ext 8 4) (getBE f.ext 12 4) = (u, none) ∧ readMemAt (some u.pieceClock)
      (rxAdmitted u n y (rxRequest f (psnCount (qSeg p) (getBE f.ext 12 4)) (getBE f.ext 12 4) (getBE ext 0 8) (getBE ext 8 4)
      none none)) p.inst (getBE ext 0 8) (getBE f.ext 12 4) = .ok v b) ∧
    (∃ (s : State) (l : Nat) (f : Frame) (n : Nat) (p : Qp) (c : Cipher) (ext pay : Bytes) (z : State) (y : Qp) (u v : State) (a :
      Loc) (k : Nat), RxOpen s l f 7 n p c ext pay ∧ RxNew s l f n p ∧ rxMet s l f n p c = (z, y) ∧ p.kind = .rc ∧ leaving s
      p.inst = false ∧ targetFail z y 7 (getBE ext 0 8) (getBE ext 8 4) 8 = (u, none) ∧ translateAt (some u.pieceClock)
      (rxAdmitted u n y (rxRequest f 1 8 (getBE ext 0 8) (getBE ext 8 4) none none)) p.inst (getBE ext 0 8) 8 true = .ok v a k ∧
      lineWait v a 8 true = none) ∧
    (∃ (s : State) (l : Nat) (f : Frame) (n : Nat) (p : Qp) (c : Cipher) (ext pay : Bytes) (z : State) (y : Qp) (u v : State) (a :
      Loc) (k : Nat), RxOpen s l f 8 n p c ext pay ∧ RxNew s l f n p ∧ rxMet s l f n p c = (z, y) ∧ p.kind = .rc ∧ leaving s
      p.inst = false ∧ targetFail z y 8 (getBE ext 0 8) (getBE ext 8 4) 8 = (u, none) ∧ translateAt (some u.pieceClock)
      (rxAdmitted u n y (rxRequest f 1 8 (getBE ext 0 8) (getBE ext 8 4) none none)) p.inst (getBE ext 0 8) 8 true = .ok v a k ∧
      lineWait v a 8 true = none) ∧
    (∃ (s : State) (l : Nat) (f : Frame) (n : Nat) (p : Qp) (c : Cipher) (ext pay : Bytes), RxOpen s l f 0x15 n p c ext pay ∧
      RxNew s l f n p ∧ p.kind = .mirror ∧ getBE ext 11 1 = 0) ∧
    (∃ (s : State) (l : Nat) (f : Frame), (link s l).up = true ∧ f.eth = 0x8808) ∧
    (∃ (s : State) (l : Nat) (f : Frame), (link s l).up = true ∧ getBE f.hdr 1 1 = 1 ∧ f.eth ≠ 0x8808 ∧ (link s l).cal = .running) ∧
    (∃ (s : State) (l : Nat) (f : Frame), (link s l).up = true ∧ getBE f.hdr 1 1 = 1 ∧ f.eth ≠ 0x8808 ∧ (link s l).cal ≠ .running
      ∧ rxAsleep (rxWake s l) l = true) :=
  ⟨⟨sqR, 0, fWr, 0, qpR, qpR.cipher, (fWr).ext, (fWr).payload, (met sqR qpR (fWr)).1, (met sqR qpR (fWr)).2, tgt sqR qpR fWr 1 0x100040 32, (accOf accWr).1, (accOf accWr).2, by decide +kernel⟩,
   ⟨sqR, 0, fBad, 0, qpR, qpR.cipher, (fBad).ext, (fBad).payload, (met sqR qpR (fBad)).1, (met sqR qpR (fBad)).2, tgt sqR qpR fBad 1 0x300000 32, Status.bounds, by decide +kernel⟩,
   ⟨rqR, 0, fSend, 0, qpR, qpR.cipher, (fSend).ext, (fSend).payload, (met rqR qpR (fSend)).1, (met rqR qpR (fSend)).2, 0, 0, recv0, (accOf (accSend fSend)).1, (accOf (accSend fSend)).2, by decide +kernel⟩,
   ⟨rqR, 0, fSendI, 0, qpR, qpR.cipher, (fSendI).ext, (fSendI).payload, (met rqR qpR (fSendI)).1, (met rqR qpR (fSendI)).2, 0, 0, recv0, (accOf (accSend fSendI)).1, (accOf (accSend fSendI)).2, by decide +kernel⟩,
   ⟨rqR, 0, fWrI, 0, qpR, qpR.cipher, (fWrI).ext, (fWrI).payload, (met rqR qpR (fWrI)).1, (met rqR qpR (fWrI)).2, 0, 0, recv0, tgt rqR qpR fWrI 2 0x100040 32, (accOf accWrI).1, (accOf accWrI).2, by decide +kernel⟩,
   ⟨rqO, 0, fSend, 0, qpO, qpO.cipher, (fSend).ext, (fSend).payload, (met rqO qpO (fSend)).1, (met rqO qpO (fSend)).2, 0, 1, { recv0 with seq := 1 }, by decide +kernel⟩,
   ⟨{ rqR with infl := [(0, recvS)] }, 0, fSend, 0, qpR, qpR.cipher, (fSend).ext, (fSend).payload, 0, 0, recvS, by decide +kernel⟩,
   ⟨{ adevQ qpR .rq 8 with infl := [] }, 0, frm 5 0xC0 20 0 (putBE 4 32 ++ zeros 4) (List.replicate 32 7), 0, qpR, qpR.cipher,
     (frm 5 0xC0 20 0 (putBE 4 32 ++ zeros 4) (List.replicate 32 7)).ext, (List.replicate 32 7), 0, by decide +kernel⟩,
   ⟨sqR, 0, fRd, 0, qpR, qpR.cipher, (fRd).ext, (fRd).payload, (met sqR qpR (fRd)).1, (met sqR qpR (fRd)).2, tgt sqR qpR fRd 3 0x100040 20000, (accOf accRd).1, (accOf accRd).2, by decide +kernel⟩,
   ⟨sqR, 0, fAt 7, 0, qpR, qpR.cipher, (fAt 7).ext, (fAt 7).payload, (met sqR qpR (fAt 7)).1, (met sqR qpR (fAt 7)).2, tgt sqR qpR (fAt 7) 7 0x100040 8, (trOf (trAt 7)).1, (trOf (trAt 7)).2.1, (trOf (trAt 7)).2.2, by decide +kernel⟩,
   ⟨sqR, 0, fAt 8, 0, qpR, qpR.cipher, (fAt 8).ext, (fAt 8).payload, (met sqR qpR (fAt 8)).1, (met sqR qpR (fAt 8)).2, tgt sqR qpR (fAt 8) 8 0x100040 8, (trOf (trAt 8)).1, (trOf (trAt 8)).2.1, (trOf (trAt 8)).2.2, by decide +kernel⟩,
   ⟨adevQ ({ qpR with kind := .mirror, cfg := qpR.cfg + 2 ^ 31 } : Qp) .sq 1, 0,
     frm 0x15 0xC0 20 0 (putBE 1 3 ++ [4] ++ putBE 3 6 ++ putBE 3 77 ++ zeros 24) [], 0,
     ({ qpR with kind := .mirror, cfg := qpR.cfg + 2 ^ 31 } : Qp), ({ qpR with kind := .mirror, cfg := qpR.cfg + 2 ^ 31 } : Qp).cipher,
     (frm 0x15 0xC0 20 0 (putBE 1 3 ++ [4] ++ putBE 3 6 ++ putBE 3 77 ++ zeros 24) []).ext, [], by decide +kernel⟩,
   ⟨sqR, 0, { fWr with eth := 0x8808 }, by decide +kernel⟩,
   ⟨{ sqR with links := [(0, { lnk with cal := .running })] }, 0, fWr, by decide +kernel⟩,
   ⟨asleep sqR (.sluice 0), 0, fWr, by decide +kernel⟩⟩

/-- Witnesses of `Obligations.ResetPinsAndTheWarmResumeActAsStated`. -/
theorem wit_ResetPinsAndTheWarmResumeActAsStated :
    (∃ (s : State) (straps : Straps), s.sys.coldLow = true ∧ straps.test = false) ∧
    (∃ (s : State) (straps : Straps), s.sys.coldLow = true ∧ straps.test = true) ∧
    (∃ (s : State) (ns : Nat), s.sys.coldLow = false ∧ 1000 ≤ ns ∧ s.boot.stage ≠ .halted ∧ s.sys.straps.test = false ∧
      s.boot.warmBoot = false ∧ s.mbx.running = none) ∧
    (∃ (ns : Nat), ns < 1000) ∧
    (∃ (s : State) (c : Nat), s.sys.coldLow = false ∧ 115 ≤ c) ∧
    (∃ (c : Nat), c < 115) ∧
    (∃ (s : State) (ok : Bool), Awake s ∧ s.boot.warmBoot = true ∧ (s.boot.bootRec = none ∨ s.asleep = none ∨ ok = false ∨ ∃ r,
      s.boot.bootRec = some r ∧ slotDigest s r ≠ r.digest)) :=
  ⟨⟨{ dev with sys.coldLow := true }, Straps.reset, by decide +kernel⟩,
   ⟨{ dev with sys.coldLow := true }, { Straps.reset with test := true }, by decide +kernel⟩,
   ⟨{ dev with boot.bootRec := some ⟨.a, .builtin, [], 0, 0, true, none, 0⟩ }, 1000, by decide +kernel⟩,
   ⟨999, by decide +kernel⟩,
   ⟨dev, 115, by decide +kernel⟩,
   ⟨114, by decide +kernel⟩,
   ⟨{ dev with boot.warmBoot := true }, true, by decide +kernel⟩⟩

/-- Witnesses of `Obligations.RoleCommandsAndNoticesActAsStated`. -/
theorem wit_RoleCommandsAndNoticesActAsStated :
    (∃ (s : State) (w : RegWr), windowLive s = true ∧ Taken s w ∧ noRsv w 0xFFFFFFF0 = true ∧ fld w.data.toNat 3 0 = 1 ∧
      s.basin.role = .active ∧ s.basin.stby = true) ∧
    (∃ (s : State) (w : RegWr), windowLive s = true ∧ Taken s w ∧ noRsv w 0xFFFFFFF0 = true ∧ fld w.data.toNat 3 0 = 1 ∧
      s.basin.role ≠ .active ∧ s.vp.werrValid = false) ∧
    (∃ (s : State) (w : RegWr), windowLive s = true ∧ Taken s w ∧ noRsv w 0xFFFFFFF0 = true ∧ fld w.data.toNat 3 0 = 2 ∧
      s.basin.role = .standby) ∧
    (∃ (s : State) (w : RegWr), windowLive s = true ∧ Taken s w ∧ noRsv w 0xFFFFFFF0 = true ∧ fld w.data.toNat 3 0 = 3 ∧
      s.basin.role = .worker ∧ plotInUse s = false ∧ s.basin.paired = false ∧ s.basin.mirrorOf = 0) ∧
    (∃ (s : State) (w : RegWr), windowLive s = true ∧ Taken s w ∧ noRsv w 0xFFFFFFF0 = true ∧ fld w.data.toNat 3 0 = 4 ∧
      s.basin.role = .worker ∧ s.basin.noticed = false ∧ s.basin.leaveSince = none) ∧
    (∃ (s : State) (m : Bytes) (r : CtlRec) (w : Worker), Heard s m r 0x0B ∧ s.basin.role = .active ∧ s.basin.stby = true ∧
      Tab.find (dirLatest s).workers r.serial = some w) ∧
    (∃ (s : State) (m : Bytes) (r : CtlRec), Heard s m r 0x0B ∧ s.basin.role = .active ∧ Tab.find (dirLatest s).workers r.serial =
      none ∧ Tab.has s.mgr.dir.workers r.serial = false) ∧
    (∃ (s : State) (m : Bytes) (r : CtlRec) (a : Nat), Heard s m r 0x0C ∧ s.basin.role = .worker ∧ s.basin.leaveSince = some a ∧
      r.subject = s.sys.fuses.serial) ∧
    (∃ (s : State) (a : Nat), s.basin.role = .worker ∧ s.basin.leaveSince = some a) ∧
    (∃ (s : State) (m : Bytes) (r : CtlRec), Heard s m r 0x0D ∧ s.basin.role = .worker ∧ r.subject = s.sys.fuses.serial) ∧
    (∃ (s : State) (m : Bytes) (r : CtlRec), Heard s m r 0x0D ∧ (s.basin.role = .worker ∨ s.basin.role = .standby) ∧ r.subject ≠
      s.sys.fuses.serial ∧ lostAgain s r.subject = false) ∧
    (∃ (s : State) (m : Bytes) (r : CtlRec), Heard s m r 0x0D ∧ s.basin.role = .worker ∧ r.subject ≠ s.sys.fuses.serial ∧
      lostAgain s r.subject = true) ∧
    (∃ (s : State) (m : Bytes) (r : CtlRec), Heard s m r 0x0E ∧ s.basin.role = .active ∧ s.basin.stby = true ∧ Tab.has (dirLatest
      s).workers r.serial = true) ∧
    (∃ (s : State) (m : Bytes) (r : CtlRec) (a : Nat), Heard s m r 0x0F ∧ s.basin.role = .worker ∧ s.basin.noticeSince = some a ∧
      r.subject = s.sys.fuses.serial) ∧
    (∃ (s : State), s.basin.noticed = true ∧ s.basin.answerNoticed = false ∧ s.sys.warmLow = false) ∧
    (∃ (s : State), s.basin.role = .worker ∧ s.basin.leaveSince ≠ none ∧ s.basin.noticeSince = none) :=
  ⟨⟨{ bdev .active with basin.stby := true }, hw 1, by decide +kernel⟩,
   ⟨bdev .worker, hw 1, by decide +kernel⟩,
   ⟨bdev .standby, hw 2, by decide +kernel⟩,
   ⟨bdev .worker, hw 3, by decide +kernel⟩,
   ⟨bdev .worker, hw 4, by decide +kernel⟩,
   ⟨adev [], ctlBytes (cr 0x0B (7)), cr 0x0B (7), wkr, by decide +kernel⟩,
   ⟨bdev .active, ctlBytes (cr 0x0B (7)), cr 0x0B (7), by decide +kernel⟩,
   ⟨{ bdev .worker with basin.leaveSince := some 3 }, ctlBytes (cr 0x0C (7)), cr 0x0C (7), 3, by decide +kernel⟩,
   ⟨{ bdev .worker with basin.leaveSince := some 3 }, 3, by decide +kernel⟩,
   ⟨bdev .worker, ctlBytes (cr 0x0D (7)), cr 0x0D (7), by decide +kernel⟩,
   ⟨bdev .standby, ctlBytes (cr 0x0D 8), cr 0x0D 8, by decide +kernel⟩,
   ⟨{ bdev .worker with basin.lostSeen := [(8, 0)], sys.now := 10 }, ctlBytes (cr 0x0D 8), cr 0x0D 8, by decide +kernel⟩,
   ⟨adev [], ctlBytes (cr 0x0E (7)), cr 0x0E (7), by decide +kernel⟩,
   ⟨{ bdev .worker with basin.noticeSince := some 3 }, ctlBytes (cr 0x0F (7)), cr 0x0F (7), 3, by decide +kernel⟩,
   ⟨{ bdev .worker with basin.noticed := true }, by decide +kernel⟩,
   ⟨{ bdev .worker with basin.leaveSince := some 3 }, by decide +kernel⟩⟩

/-- Witnesses of `Obligations.RunnelStreamsDeliverInOrder`. -/
theorem wit_RunnelStreamsDeliverInOrder :
    (∃ (s : State) (k : Nat) (x : Stream), Tab.find s.rn.streams k = some x ∧ x.unacked ≠ [] ∧ x.expiries < 16 ∧ rnHeld s k =
      false) ∧
    (∃ (s : State) (k : Nat) (x : Stream), Tab.find s.rn.streams k = some x ∧ rnHeld s k = true) ∧
    (∃ (s : State) (k : Nat) (x : Stream), Tab.find s.rn.streams k = some x ∧ 16 ≤ x.expiries ∧ s.log.staged.length < 64) ∧
    (∃ (s : State) (k : Nat) (x : Stream) (d : Nat), Tab.find s.rn.streams k = some x ∧ x.ackOwed = some d ∧ rnHeld s k = false) ∧
    (∃ (s : State) (k : Nat) (x : Stream) (d : Nat), Tab.find s.rn.streams k = some x ∧ x.ackOwed = some d ∧ rnHeld s k = true) ∧
    (∃ (s : State) (m : Bytes), rnGood m = false ∧ RnServes s m ∧ (∀ p ∈ s.groups, p.2.coll = none)) ∧
    (∃ (s : State) (m : Bytes) (l : Nat), getBE m 1 1 = 1 ∧ rnLink s (getBE m 4 1) = some l ∧ (link s l).cal = .running) ∧
    (∃ (s : State) (m : Bytes), getBE m 1 1 = 1 ∧ (∀ l, rnLink s (getBE m 4 1) = some l → (link s l).cal ≠ .running) ∧ rnStopped
      (wakeBlk s .runnel) = true) ∧
    (∃ (s : State) (m : Bytes) (x : Stream), rnGood m = true ∧ RnServes s m ∧ getBE m 1 1 = 1 ∧ getBE m 5 1 = s.basin.slot ∧
      Tab.find s.rn.streams (getBE m 4 1) = some x ∧ (∀ p ∈ s.groups, p.2.coll = none) ∧ Tab.find s.groups (getBE m 10 2) = none ∧
      bitN (getBE m 2 1) 0 = false ∧ bitN (getBE m 2 1) 3 = false ∧ getBE m 3 1 = x.peerEpoch ∧ getBE m 6 2 = x.expect) ∧
    (∃ (s : State) (m : Bytes) (x : Stream), rnGood m = true ∧ RnServes s m ∧ getBE m 1 1 = 2 ∧ getBE m 5 1 = s.basin.slot ∧
      Tab.find s.rn.streams (getBE m 4 1) = some x ∧ (∀ p ∈ s.groups, p.2.coll = none) ∧ Tab.find s.groups (getBE m 10 2) = none ∧
      bitN (getBE m 2 1) 0 = false ∧ bitN (getBE m 2 1) 3 = false ∧ getBE m 3 1 = x.peerEpoch ∧ getBE m 6 2 = x.expect) ∧
    (∃ (s : State) (m : Bytes) (x : Stream), rnGood m = true ∧ RnServes s m ∧ getBE m 1 1 = 3 ∧ getBE m 5 1 = s.basin.slot ∧
      Tab.find s.rn.streams (getBE m 4 1) = some x ∧ (∀ p ∈ s.groups, p.2.coll = none) ∧ Tab.find s.groups (getBE m 10 2) = none ∧
      bitN (getBE m 2 1) 0 = false ∧ bitN (getBE m 2 1) 3 = true ∧ getBE m 3 1 = x.peerEpoch ∧ x.waiting = []) ∧
    (∃ (s : State) (m : Bytes) (x : Stream), rnGood m = true ∧ RnServes s m ∧ getBE m 1 1 = 1 ∧ getBE m 5 1 = s.basin.slot ∧
      Tab.find s.rn.streams (getBE m 4 1) = some x ∧ (∀ p ∈ s.groups, p.2.coll = none) ∧ Tab.find s.groups (getBE m 10 2) = none ∧
      bitN (getBE m 2 1) 0 = false ∧ getBE m 3 1 ≠ x.peerEpoch) :=
  ⟨⟨rndev str0, 2, str0, by decide +kernel⟩,
   ⟨rnkdev { lnk with held := true }, 2, str0, by decide +kernel⟩,
   ⟨rndev { str0 with expiries := 16 }, 2, { str0 with expiries := 16 }, by decide +kernel⟩,
   ⟨rndev str0, 2, str0, 50, by decide +kernel⟩,
   ⟨rnkdev { lnk with held := true }, 2, str0, 50, by decide +kernel⟩,
   ⟨dev, [1, 2], by decide +kernel⟩,
   ⟨rnkdev { lnk with cal := .running }, rmsg 1 0 9 17 0, 0, by decide +kernel⟩,
   ⟨asleep (rndev str0) .runnel, rmsg 1 0 9 17 0, by decide +kernel⟩,
   ⟨rndev str0, rmsg 1 0 9 17 0, str0, by decide +kernel⟩,
   ⟨rndev str0, rmsg 2 0 9 17 0, str0, by decide +kernel⟩,
   ⟨rndev str0, rmsg 3 8 9 0 4, str0, by decide +kernel⟩,
   ⟨rndev str0, rmsg 1 0 8 17 0, str0, by decide +kernel⟩⟩

/-- Witnesses of `Obligations.SelfTestsRunAndReport`. -/
theorem wit_SelfTestsRunAndReport :
    (∃ (s : State) (w : RegWr), windowLive s = true ∧ Taken s w ∧ noRsv w 0x7F000000 = true ∧ bitN w.data.toNat 31 = true ∧ fld
      w.data.toNat 7 0 < stUnits (fld w.data.toNat 15 8) ∧ stInService s (fld w.data.toNat 15 8) (fld w.data.toNat 7 0) = true ∧
      s.st.running = false ∧ stBusy s (fld w.data.toNat 15 8) (fld w.data.toNat 7 0) = false) ∧
    (∃ (s : State) (w : RegWr), windowLive s = true ∧ Taken s w ∧ noRsv w 0x7F000000 = true ∧ bitN w.data.toNat 31 = true ∧ fld
      w.data.toNat 7 0 < stUnits (fld w.data.toNat 15 8) ∧ stInService s (fld w.data.toNat 15 8) (fld w.data.toNat 7 0) = true ∧
      (s.st.running = true ∨ stBusy s (fld w.data.toNat 15 8) (fld w.data.toNat 7 0) = true) ∧ s.vp.werrValid = false) ∧
    (∃ (s : State) (w : RegWr), windowLive s = true ∧ Taken s w ∧ bitN w.data.toNat 31 = true ∧ stUnits (fld w.data.toNat 15 8) ≤
      fld w.data.toNat 7 0 ∧ s.vp.werrValid = false) ∧
    (∃ (s : State), s.st.running = true ∧ s.st.target ≠ 5 ∧ s.st.target ≠ 7 ∧ s.log.staged.length < 64) ∧
    (∃ (s : State), s.st.running = true ∧ s.st.target = 3) ∧
    (∃ (s : State), s.st.running = true ∧ s.st.target = 2 ∧ coreIn s s.st.unit = true) ∧
    (∃ (s : State), s.st.running = true ∧ s.st.target = 6) ∧
    (∃ (s : State), s.st.running = false) :=
  ⟨⟨dev, hw 0x80050201, by decide +kernel⟩,
   ⟨{ dev with st := { running := true, done := false, result := false, tag := 3, target := 1, unit := 0, started := 0, detail := 0 } },
     hw 0x80050201, by decide +kernel⟩,
   ⟨dev, hw 0x80050230, by decide +kernel⟩,
   ⟨{ dev with st := { running := true, done := false, result := false, tag := 3, target := 1, unit := 0, started := 0, detail := 0 } },
     by decide +kernel⟩,
   ⟨{ dev with st := { running := true, done := false, result := false, tag := 3, target := 3, unit := 2, started := 0, detail := 0 } },
     by decide +kernel⟩,
   ⟨{ dev with st := { running := true, done := false, result := false, tag := 3, target := 2, unit := 4, started := 0, detail := 0 } },
     by decide +kernel⟩,
   ⟨{ xdev tgI lau 0 with st := { running := true, done := false, result := false, tag := 3, target := 6, unit := 0, started := 0, detail := 0 } },
     by decide +kernel⟩,
   ⟨dev, by decide +kernel⟩⟩

/-- Witnesses of `Obligations.SendEntriesBecomeRequests`. -/
theorem wit_SendEntriesBecomeRequests :
    (∃ (s : State) (q i : Nat) (x : Wq) (r : Infl) (p : Qp) (u v : State) (b : Bytes), mayDispatch s q i 1 = some (x, r) ∧ qpOf s
      x.qp = some p ∧ p.st = .connected ∧ entInline r.ent = false ∧ entLen r.ent ≠ 0 ∧ admitOnce s q i x.inst r [opdOf r.ent
      rRead] = (u, none) ∧ readMemAt (admOf u q i) u x.inst (entAddr r.ent) (entLen r.ent) = .ok v b) ∧
    (∃ (s : State) (q i : Nat) (x : Wq) (r : Infl) (p : Qp) (u v : State) (b : Bytes), mayDispatch s q i 2 = some (x, r) ∧ qpOf s
      x.qp = some p ∧ p.st = .connected ∧ entInline r.ent = false ∧ entLen r.ent ≠ 0 ∧ admitOnce s q i x.inst r [opdOf r.ent
      rRead] = (u, none) ∧ readMemAt (admOf u q i) u x.inst (entAddr r.ent) (entLen r.ent) = .ok v b) ∧
    (∃ (s : State) (q i : Nat) (x : Wq) (r : Infl) (p : Qp) (u v : State) (b : Bytes), mayDispatch s q i 4 = some (x, r) ∧ qpOf s
      x.qp = some p ∧ p.st = .connected ∧ entInline r.ent = false ∧ entLen r.ent ≠ 0 ∧ admitOnce s q i x.inst r [opdOf r.ent
      rRead] = (u, none) ∧ readMemAt (admOf u q i) u x.inst (entAddr r.ent) (entLen r.ent) = .ok v b) ∧
    (∃ (s : State) (q i : Nat) (x : Wq) (r : Infl) (p : Qp) (u v : State) (b : Bytes), mayDispatch s q i 5 = some (x, r) ∧ qpOf s
      x.qp = some p ∧ p.st = .connected ∧ entInline r.ent = false ∧ entLen r.ent ≠ 0 ∧ admitOnce s q i x.inst r [opdOf r.ent
      rRead] = (u, none) ∧ readMemAt (admOf u q i) u x.inst (entAddr r.ent) (entLen r.ent) = .ok v b) ∧
    (∃ (s : State) (q i : Nat) (x : Wq) (r : Infl) (p : Qp), mayDispatch s q i 1 = some (x, r) ∧ qpOf s x.qp = some p ∧ p.st =
      .connected ∧ (entInline r.ent = true ∨ entLen r.ent = 0)) ∧
    (∃ (s : State) (q i : Nat) (x : Wq) (r : Infl) (p : Qp) (u : State), mayDispatch s q i 3 = some (x, r) ∧ qpOf s x.qp = some p
      ∧ p.st = .connected ∧ entInline r.ent = false ∧ entLen r.ent ≠ 0 ∧ admitOnce s q i x.inst r [opdOf r.ent rWrite] = (u,
      none)) ∧
    (∃ (s : State) (q i : Nat) (x : Wq) (r : Infl) (p : Qp) (u : State), mayDispatch s q i 6 = some (x, r) ∧ qpOf s x.qp = some p
      ∧ p.st = .connected ∧ (p.reqs.filter (fun y => y.op = 7 || y.op = 8)).length < 4 ∧ entInline r.ent = false ∧ entLen r.ent ≠
      0 ∧ admitOnce s q i x.inst r [opdOf r.ent rWrite] = (u, none)) ∧
    (∃ (s : State) (q i : Nat) (x : Wq) (r : Infl) (p : Qp) (u : State), mayDispatch s q i 7 = some (x, r) ∧ qpOf s x.qp = some p
      ∧ p.st = .connected ∧ (p.reqs.filter (fun y => y.op = 7 || y.op = 8)).length < 4 ∧ entInline r.ent = false ∧ entLen r.ent ≠
      0 ∧ admitOnce s q i x.inst r [opdOf r.ent rWrite] = (u, none)) ∧
    (∃ (s : State) (q i : Nat) (x : Wq) (r : Infl) (p : Qp) (u : State), mayDispatch s q i 8 = some (x, r) ∧ qpOf s x.qp = some p
      ∧ p.st ≠ .error ∧ admitOnce s q i x.inst r [opdOf r.ent rWrite] = (u, none)) ∧
    (∃ (s : State) (q i : Nat) (x : Wq) (r : Infl) (p : Qp), mayDispatch s q i 8 = some (x, r) ∧ qpOf s x.qp = some p ∧ p.st =
      .error) ∧
    (∃ (s : State) (q i : Nat) (x : Wq) (r : Infl) (p : Qp), mayDispatch s q i 1 = some (x, r) ∧ qpOf s x.qp = some p ∧ p.st =
      .error) ∧
    (∃ (s : State) (q i : Nat) (x : Wq) (r : Infl) (p : Qp) (u : State) (st : Byte), mayDispatch s q i 1 = some (x, r) ∧ qpOf s
      x.qp = some p ∧ p.st = .connected ∧ entInline r.ent = false ∧ entLen r.ent ≠ 0 ∧ admitOnce s q i x.inst r [opdOf r.ent
      rRead] = (u, some st)) :=
  ⟨⟨fdev qp1 (ent 1 64 0x100000 0x100 []), 0, 0, wqS, inf (ent 1 64 0x100000 0x100 []), qp1, opU (fdev qp1 (ent 1 64 0x100000 0x100 [])) (ent 1 64 0x100000 0x100 []) rRead, (opR (fdev qp1 (ent 1 64 0x100000 0x100 [])) (ent 1 64 0x100000 0x100 [])).1, (opR (fdev qp1 (ent 1 64 0x100000 0x100 [])) (ent 1 64 0x100000 0x100 [])).2, by decide +kernel⟩,
   ⟨fdev qp1 (ent 2 64 0x100000 0x100 []), 0, 0, wqS, inf (ent 2 64 0x100000 0x100 []), qp1, opU (fdev qp1 (ent 2 64 0x100000 0x100 [])) (ent 2 64 0x100000 0x100 []) rRead, (opR (fdev qp1 (ent 2 64 0x100000 0x100 [])) (ent 2 64 0x100000 0x100 [])).1, (opR (fdev qp1 (ent 2 64 0x100000 0x100 [])) (ent 2 64 0x100000 0x100 [])).2, by decide +kernel⟩,
   ⟨fdev qp1 (ent 4 64 0x100000 0x100 []), 0, 0, wqS, inf (ent 4 64 0x100000 0x100 []), qp1, opU (fdev qp1 (ent 4 64 0x100000 0x100 [])) (ent 4 64 0x100000 0x100 []) rRead, (opR (fdev qp1 (ent 4 64 0x100000 0x100 [])) (ent 4 64 0x100000 0x100 [])).1, (opR (fdev qp1 (ent 4 64 0x100000 0x100 [])) (ent 4 64 0x100000 0x100 [])).2, by decide +kernel⟩,
   ⟨fdev qp1 (ent 5 64 0x100000 0x100 []), 0, 0, wqS, inf (ent 5 64 0x100000 0x100 []), qp1, opU (fdev qp1 (ent 5 64 0x100000 0x100 [])) (ent 5 64 0x100000 0x100 []) rRead, (opR (fdev qp1 (ent 5 64 0x100000 0x100 [])) (ent 5 64 0x100000 0x100 [])).1, (opR (fdev qp1 (ent 5 64 0x100000 0x100 [])) (ent 5 64 0x100000 0x100 [])).2, by decide +kernel⟩,
   ⟨fdev qp1 (ent 1 0 0x100000 0x100 []), 0, 0, wqS, inf (ent 1 0 0x100000 0x100 []), qp1, by decide +kernel⟩,
   ⟨fdev qp1 (ent 3 64 0x100000 0x100 []), 0, 0, wqS, inf (ent 3 64 0x100000 0x100 []), qp1, opU (fdev qp1 (ent 3 64 0x100000 0x100 [])) (ent 3 64 0x100000 0x100 []) rWrite, by decide +kernel⟩,
   ⟨fdev qp1 (ent 6 8 0x100000 0x100 []), 0, 0, wqS, inf (ent 6 8 0x100000 0x100 []), qp1, opU (fdev qp1 (ent 6 8 0x100000 0x100 [])) (ent 6 8 0x100000 0x100 []) rWrite, by decide +kernel⟩,
   ⟨fdev qp1 (ent 7 8 0x100000 0x100 []), 0, 0, wqS, inf (ent 7 8 0x100000 0x100 []), qp1, opU (fdev qp1 (ent 7 8 0x100000 0x100 [])) (ent 7 8 0x100000 0x100 []) rWrite, by decide +kernel⟩,
   ⟨{ fdev qp1 (ent 8 64 0x100000 0x100 []) with wqs := [(0, { wqA with kind := .rq })] }, 0, 0, { wqA with kind := .rq }, inf (ent 8 64 0x100000 0x100 []), qp1, opU { fdev qp1 (ent 8 64 0x100000 0x100 []) with wqs := [(0, { wqA with kind := .rq })] } (ent 8 64 0x100000 0x100 []) rWrite, by decide +kernel⟩,
   ⟨{ fdev qpE (ent 8 64 0x100000 0x100 []) with wqs := [(0, { wqA with kind := .rq })] }, 0, 0, ({ wqA with kind := .rq } : Wq),
     inf (ent 8 64 0x100000 0x100 []), qpE, by decide +kernel⟩,
   ⟨fdev qpE (ent 1 64 0x100000 0x100 []), 0, 0, wqS, inf (ent 1 64 0x100000 0x100 []), qpE, by decide +kernel⟩,
   ⟨fdev qp1 (ent 1 64 0x100000 0x200 []), 0, 0, wqS, inf (ent 1 64 0x100000 0x200 []), qp1, (admitKey (fdev qp1 (ent 1 64 0x100000 0x200 [])) 1 0x200 rRead 0x100000 64 false false).1, Status.keyViolation, by decide +kernel⟩⟩

/-- Witnesses of `Obligations.SpansAndKeysFollowTheirCommands`. -/
theorem wit_SpansAndKeysFollowTheirCommands :
    (∃ (s : State) (i : Nat) (w : RegWr) (k : SKind) (n : Nat), CmdOpen s i 0x0A8 1 w ∧ firstFail (spChecks s i w) = none ∧
      skindOf (fld (getPage s i 0x09C) 2 0) = some k ∧ nextSpan s i = some n) ∧
    (∃ (s : State) (i : Nat) (w : RegWr), CmdOpen s i 0x0A8 1 w ∧ fld (getPage s i 0x09C) 2 0 = 3 ∧ bitN (getPage s i 0x09C) 3 =
      false ∧ instHas s i 2 = true ∧ page64 s i 0x084 % 4096 = 0 ∧ page64 s i 0x08C % 4096 = 0 ∧ page64 s i 0x094 % 4096 = 0 ∧
      4096 ≤ page64 s i 0x08C ∧ page64 s i 0x08C ≤ 2 ^ 48 ∧ page64 s i 0x084 + page64 s i 0x08C ≤ 2 ^ 57 ∧ page64 s i 0x094 +
      page64 s i 0x08C ≤ hbmSize s i ∧ (∃ x, Tab.find s.insts i = some x ∧ ∀ u ∈ x.resv, disjointR (page64 s i 0x094) (page64 s i
      0x08C) u.1 u.2 = true) ∧ (∀ p ∈ s.spans, p.2.inst = i → p.2.kind ≠ .plot → disjointR p.2.start p.2.len (page64 s i 0x084)
      (page64 s i 0x08C) = true) ∧ (nextSpan s i).isSome = true) ∧
    (∃ (s : State) (i : Nat) (w : RegWr), CmdOpen s i 0x0A8 1 w ∧ skindOf (fld (getPage s i 0x09C) 2 0) = none ∧ bitN (getPage s i
      0x09C) 3 = false) ∧
    (∃ (s : State) (i : Nat) (w : RegWr) (k : Nat) (sp : Span), CmdOpenAt 0xFFFFFEF0 s i 0x0A8 2 w ∧ k = fld (getPage s i 0x080)
      19 0 ∧ k < spanMax s ∧ Tab.find s.spans k = some sp ∧ sp.inst = i ∧ (sp.kind ≠ .plot ∨ w.src = .tender) ∧ sp.moving = none ∧
      (sp.resHbm = false ∨ bitN w.data.toNat 8 = true) ∧ spanLost s k = false ∧ spanUsed s k s.pieceClock = false) ∧
    (∃ (s : State) (i : Nat) (w : RegWr) (k : Nat) (sp : Span), CmdOpenAt 0xFFFFFEF0 s i 0x0A8 2 w ∧ k = fld (getPage s i 0x080)
      19 0 ∧ k < spanMax s ∧ Tab.find s.spans k = some sp ∧ sp.inst = i ∧ (sp.kind ≠ .plot ∨ w.src = .tender) ∧ sp.moving = none ∧
      (sp.resHbm = false ∨ bitN w.data.toNat 8 = true) ∧ spanLost s k = false ∧ spanUsed s k s.pieceClock = true) ∧
    (∃ (s : State) (i : Nat) (w : RegWr) (k : Nat) (sp : Span), CmdOpenAt 0xFFFFFEF0 s i 0x0A8 2 w ∧ k = fld (getPage s i 0x080)
      19 0 ∧ k < spanMax s ∧ Tab.find s.spans k = some sp ∧ sp.inst = i ∧ (sp.kind ≠ .plot ∨ w.src = .tender) ∧ sp.resHbm = true ∧
      bitN w.data.toNat 8 = false) ∧
    (∃ (s : State) (i : Nat) (w : RegWr) (k : Nat) (sp : Span), CmdOpen s i 0x0A8 3 w ∧ k = fld (getPage s i 0x080) 19 0 ∧ k <
      spanMax s ∧ Tab.find s.spans k = some sp ∧ sp.inst = i ∧ sp.prefer < 4 ∧ spanLost s k = false) ∧
    (∃ (s : State) (i : Nat) (w : RegWr) (k : Nat), CmdOpen s i 0x0A8 3 w ∧ k = fld (getPage s i 0x080) 19 0 ∧ k < spanMax s ∧
      spanOwned s i k = true ∧ spanLost s k = true ∧ s.log.staged.length < 64) ∧
    (∃ (s : State) (i : Nat) (w : RegWr) (n : Nat), CmdOpen s i 0x0DC 1 w ∧ firstFail (ktChecks s i w) = none ∧ nextKey s i = some
      n) ∧
    (∃ (s : State) (i : Nat) (w : RegWr), CmdOpen s i 0x0DC 1 w ∧ fld (getPage s i 0x0D4) 1 0 = 1 ∧ 1 ≤ page64 s i 0x0CC ∧ page64
      s i 0x0CC ≤ 2 ^ 48 ∧ page64 s i 0x0C4 + page64 s i 0x0CC ≤ 2 ^ 64 ∧ fld (getPage s i 0x0D4) 12 8 ≠ 0) ∧
    (∃ (s : State) (i : Nat) (w : RegWr), CmdOpen s i 0x0DC 1 w ∧ firstFail (ktChecks s i w) = some Status.noResource) ∧
    (∃ (s : State) (i : Nat) (w : RegWr) (k : Key), CmdOpen s i 0x0DC 2 w ∧ getPage s i 0x0C0 / 256 ≠ 0 ∧ getPage s i 0x0C0 / 256
      < keyMax s ∧ Tab.find s.keys (getPage s i 0x0C0 / 256) = some k ∧ k.gen = getPage s i 0x0C0 % 256 ∧ k.inst = i ∧ k.st = 1 ∧
      keyLost s (getPage s i 0x0C0 / 256) = false) ∧
    (∃ (s : State) (k : Nat) (x : Key), Tab.find s.keys k = some x ∧ x.st = 2 ∧ keyUsed s k = false) ∧
    (∃ (s : State) (k : Nat) (x : Key), Tab.find s.keys k = some x ∧ x.st = 2 ∧ keyUsed s k = true) ∧
    (∃ (s : State) (i : Nat) (w : RegWr) (k : Key), CmdOpen s i 0x0DC 3 w ∧ getPage s i 0x0C0 / 256 ≠ 0 ∧ getPage s i 0x0C0 / 256
      < keyMax s ∧ Tab.find s.keys (getPage s i 0x0C0 / 256) = some k ∧ k.gen = getPage s i 0x0C0 % 256 ∧ k.inst = i ∧ k.st ≠ 0 ∧
      k.st < 4 ∧ keyLost s (getPage s i 0x0C0 / 256) = false) ∧
    (∃ (s : State) (i k need a n : Nat) (b : Bool) (reason : Nat) (st : Byte), keyFail s i k need a n b = some (reason, st) ∧
      reason ≠ 8 ∧ bitN (getPage s i 0x0E0) 31 = false ∧ k < 2 ^ 32) :=
  ⟨⟨{ sdev with pages := [(pageKey 1 0x84, 2097152), (pageKey 1 0x8c, 8192), (pageKey 1 0x94, 524288), (pageKey 1 0x9c, 3)], insts := [(0, inst0), (1, { inst1 with freeKeys := [2, 3] })] },
    1, hw 1, .hbm, 1, by decide +kernel⟩,
   ⟨{ sdev with pages := [(pageKey 1 0x84, 2097152), (pageKey 1 0x8c, 8192), (pageKey 1 0x94, 524288), (pageKey 1 0x9c, 3)], insts := [(0, inst0), (1, { inst1 with freeKeys := [2, 3] })] },
     1, hw 1, by decide +kernel⟩,
   ⟨{ sdev with pages := [(pageKey 1 0x84, 2097152), (pageKey 1 0x8c, 8192), (pageKey 1 0x94, 524288), (pageKey 1 0x9c, 7)], insts := [(0, inst0), (1, { inst1 with freeKeys := [2, 3] })] },
     1, hw 1, by decide +kernel⟩,
   ⟨{ sdev with pages := [], insts := [(0, inst0), (1, { inst1 with freeKeys := [2, 3] })] }, 1, hw 2, 0, span1, by decide +kernel⟩,
   ⟨{ sdev with pages := [], infl := [(0, { inf [] with adm := some 0, spans := [0] })], pieceClock := 1 }, 1, hw 2, 0, span1, by decide +kernel⟩,
   ⟨{ { sdev with spans := [(0, { span1 with resHbm := true })] } with pages := [], insts := [(0, inst0), (1, { inst1 with freeKeys := [2, 3] })] },
     1, hw 2, 0, { span1 with resHbm := true }, by decide +kernel⟩,
   ⟨{ sdev with pages := [], insts := [(0, inst0), (1, { inst1 with freeKeys := [2, 3] })] }, 1, hw 3, 0, span1, by decide +kernel⟩,
   ⟨{ sdev with pages := [], spans := [(0, { span1 with bad1 := true, bad2 := true })] }, 1, hw 3, 0, by decide +kernel⟩,
   ⟨{ sdev with pages := [(pageKey 1 0xc4, 1048576), (pageKey 1 0xcc, 4096), (pageKey 1 0xd4, 769)], insts := [(0, inst0), (1, { inst1 with freeKeys := [2, 3] })], keys := [(1, key1)] },
     1, hw 1, 2, by decide +kernel⟩,
   ⟨{ sdev with pages := [(pageKey 1 0xc4, 1048576), (pageKey 1 0xcc, 4096), (pageKey 1 0xd4, 769)], insts := [(0, inst0), (1, { inst1 with freeKeys := [2, 3] })], keys := [(1, key1)] },
     1, hw 1, by decide +kernel⟩,
   ⟨{ { sdev with pages := [(pageKey 1 0xc4, 1048576), (pageKey 1 0xcc, 4096), (pageKey 1 0xd4, 769)], insts := [(0, inst0), (1, { inst1 with freeKeys := [2, 3] })] } with insts := [(0, inst0), (1, inst1)], own.key := [] },
     1, hw 1, by decide +kernel⟩,
   ⟨{ sdev with pages := [(pageKey 1 0xc0, 256)], insts := [(0, inst0), (1, { inst1 with freeKeys := [2, 3] })], keys := [(1, key1)] }, 1, hw 2, key1, by decide +kernel⟩,
   ⟨{ sdev with pages := [(pageKey 1 0xdc, 2147483648)], insts := [(0, inst0), (1, { inst1 with freeKeys := [2, 3] })], keys := [(1, { key1 with st := 2 })] },
     1, { key1 with st := 2 }, by decide +kernel⟩,
   ⟨{ edev (ent 1 64 0x100000 0x100 []) with keys := [(1, { key1 with st := 2 })], infl := [(0, { inf (ent 1 64 0x100000 0x100 []) with disp := true, keys := [0x100] })] },
     1, { key1 with st := 2 }, by decide +kernel⟩,
   ⟨{ sdev with pages := [(pageKey 1 0xc0, 256)], insts := [(0, inst0), (1, { inst1 with freeKeys := [2, 3] })], keys := [(1, key1)] }, 1, hw 3, key1, by decide +kernel⟩,
   ⟨{ sdev with pages := [(pageKey 1 0xc0, 256)], insts := [(0, inst0), (1, { inst1 with freeKeys := [2, 3] })], keys := [(1, key1)] }, 1,
     0x100, rRead, 0x100000, 0x100001, false, 7, Status.bounds, by decide +kernel⟩⟩

/-- Witnesses of `Obligations.SpdmRequestsAreAnswered`. -/
theorem wit_SpdmRequestsAreAnswered :
    (∃ (s : State) (tr : Transp), trUp s tr = true) ∧
    (∃ (s : State) (tr : Transp), trUp s tr = false) ∧
    (∃ (s : State) (tr : Transp), trUp s tr = true ∧ s.spdm.version.contains tr = true) ∧
    (∃ (s : State) (tr : Transp), trUp s tr = true ∧ s.spdm.version.contains tr = false) ∧
    (∃ (s : State) (tr : Transp) (a : SpdmAlgs), trUp s tr = true ∧ s.spdm.caps.contains tr = true ∧ a.p384 = true ∧ a.sha384 =
      true ∧ a.secp384r1 = true ∧ a.aes256gcm = true ∧ a.schedule = true) ∧
    (∃ (s : State) (tr : Transp) (a : SpdmAlgs), trUp s tr = true ∧ s.spdm.caps.contains tr = true ∧ (a.p384 = false ∨ a.sha384 =
      false ∨ a.secp384r1 = false ∨ a.aes256gcm = false ∨ a.schedule = false)) ∧
    (∃ (s : State) (tr : Transp), trUp s tr = true ∧ s.spdm.algs.contains tr = true) ∧
    (∃ (s : State) (tr : Transp), trUp s tr = true ∧ s.spdm.algs.contains tr = false) ∧
    (∃ (s : State) (tr : Transp) (len : Nat), trUp s tr = true ∧ s.spdm.algs.contains tr = true ∧ len ≤ 4088) ∧
    (∃ (s : State) (tr : Transp) (slot : Nat), trUp s tr = true ∧ s.spdm.algs.contains tr = true ∧ slot ≠ 0) ∧
    (∃ (s : State) (tr : Transp), trUp s tr = true ∧ s.spdm.algs.contains tr = true) ∧
    (∃ (s : State) (tr : Transp) (i : Nat), trUp s tr = true ∧ s.spdm.algs.contains tr = true ∧ 1 ≤ i ∧ i ≤ 7) ∧
    (∃ (s : State) (tr : Transp), trUp s tr = true ∧ s.spdm.algs.contains tr = true) ∧
    (∃ (s : State) (tr : Transp), trUp s tr = true ∧ s.spdm.algs.contains tr = true ∧ sessCount s (trHost tr) < (if trHost tr =
      true then 8 else 66)) ∧
    (∃ (s : State) (tr : Transp), trUp s tr = true ∧ s.spdm.algs.contains tr = true ∧ (if trHost tr = true then 8 else 66) ≤
      sessCount s (trHost tr)) ∧
    (∃ (s : State) (n : Nat) (x : Sess), Tab.find s.spdm.sess n = some x ∧ trUp s x.tr = true) ∧
    (∃ (s : State) (n : Nat) (x : Sess), Tab.find s.spdm.sess n = some x ∧ trUp s x.tr = true) ∧
    (∃ (s : State) (n : Nat) (x : Sess), Tab.find s.spdm.sess n = some x ∧ trUp s x.tr = true ∧ x.finished = true) ∧
    (∃ (s : State) (n : Nat) (x : Sess), Tab.find s.spdm.sess n = some x ∧ trUp s x.tr = true) ∧
    (∃ (s : State) (n : Nat) (x : Sess), Tab.find s.spdm.sess n = some x ∧ trUp s x.tr = true) ∧
    (∃ (s : State) (n stream : Nat) (_key : Bytes) (x : Sess), trUp s .doe = true ∧ qualSess s (some n) = some x ∧ x.tr = .doe ∧
      committed s 24 = true ∧ stream < 2) ∧
    (∃ (s : State) (n stream : Nat) (_key : Bytes) (x : Sess), trUp s .doe = true ∧ qualSess s (some n) = some x ∧ x.tr = .doe ∧
      committed s 24 = true ∧ 2 ≤ stream) ∧
    (∃ (s : State) (n : Option Nat) (_stream : Nat) (_key : Bytes), trUp s .doe = true ∧ (∀ x, qualSess s n = some x → x.tr ≠
      .doe)) ∧
    (∃ (s : State) (n _stream : Nat) (_key : Bytes) (x : Sess), trUp s .doe = true ∧ qualSess s (some n) = some x ∧ x.tr = .doe ∧
      committed s 24 = false) :=
  ⟨⟨sdevS (.mctpSmbus 0x60) true true, (.mctpSmbus 0x60), by decide +kernel⟩,
   ⟨State.reset, (.mctpSmbus 0x60), by decide +kernel⟩,
   ⟨sdevS (.mctpSmbus 0x60) true true, (.mctpSmbus 0x60), by decide +kernel⟩,
   ⟨dev, (.mctpSmbus 0x60), by decide +kernel⟩,
   ⟨sdevS (.mctpSmbus 0x60) true true, (.mctpSmbus 0x60), ⟨true, true, true, true, true⟩, by decide +kernel⟩,
   ⟨sdevS (.mctpSmbus 0x60) true true, (.mctpSmbus 0x60), ⟨true, true, false, true, true⟩, by decide +kernel⟩,
   ⟨sdevS (.mctpSmbus 0x60) true true, (.mctpSmbus 0x60), by decide +kernel⟩,
   ⟨dev, (.mctpSmbus 0x60), by decide +kernel⟩,
   ⟨sdevS (.mctpSmbus 0x60) true true, (.mctpSmbus 0x60), 8, by decide +kernel⟩,
   ⟨sdevS (.mctpSmbus 0x60) true true, (.mctpSmbus 0x60), 1, by decide +kernel⟩,
   ⟨sdevS (.mctpSmbus 0x60) true true, (.mctpSmbus 0x60), by decide +kernel⟩,
   ⟨sdevS (.mctpSmbus 0x60) true true, (.mctpSmbus 0x60), 1, by decide +kernel⟩,
   ⟨sdevS (.mctpSmbus 0x60) true true, (.mctpSmbus 0x60), by decide +kernel⟩,
   ⟨sdevS (.mctpSmbus 0x60) true true, (.mctpSmbus 0x60), by decide +kernel⟩,
   ⟨{ sdevS (.mctpSmbus 0x60) true true with spdm.sess := (List.range 8).map fun k => (k, { tr := (.mctpSmbus 0x60), finished := true, qual := true, phase := 2 }) },
     (.mctpSmbus 0x60), by decide +kernel⟩,
   ⟨sdevS (.mctpSmbus 0x60) true true, 4, { tr := (.mctpSmbus 0x60), finished := true, qual := true, phase := 2 }, by decide +kernel⟩,
   ⟨sdevS (.mctpSmbus 0x60) true true, 4, { tr := (.mctpSmbus 0x60), finished := true, qual := true, phase := 2 }, by decide +kernel⟩,
   ⟨sdevS (.mctpSmbus 0x60) true true, 4, { tr := (.mctpSmbus 0x60), finished := true, qual := true, phase := 2 }, by decide +kernel⟩,
   ⟨sdevS (.mctpSmbus 0x60) true true, 4, { tr := (.mctpSmbus 0x60), finished := true, qual := true, phase := 2 }, by decide +kernel⟩,
   ⟨sdevS (.mctpSmbus 0x60) true true, 4, { tr := (.mctpSmbus 0x60), finished := true, qual := true, phase := 2 }, by decide +kernel⟩,
   ⟨{ sdevS .doe true true with boot.image := some { img with mode := .c } }, 4, 0, [], { tr := .doe, finished := true, qual := true, phase := 2 }, by decide +kernel⟩,
   ⟨{ sdevS .doe true true with boot.image := some { img with mode := .c } }, 4, 2, [], { tr := .doe, finished := true, qual := true, phase := 2 }, by decide +kernel⟩,
   ⟨{ sdevS .doe true true with boot.image := some { img with mode := .c } }, none, 0, [], by decide +kernel, fun x h => by cases h⟩,
   ⟨{ { sdevS .doe true true with boot.image := some { img with mode := .c } } with feat.subset := 0 }, 4, 0, [], { tr := .doe, finished := true, qual := true, phase := 2 }, by decide +kernel⟩⟩

/-- Witnesses of `Obligations.TheDirectoryChangesOnlyByCommit`. -/
theorem wit_TheDirectoryChangesOnlyByCommit :
    (∃ (s : State) (m : PlotMap), s.rxHeld = [] ∧ s.basin.map.epoch ≤ m.epoch ∧ s.basin.epoch ≤ m.epoch ∧ (∀ x ∈
      s.basin.map.plots, (Tab.find m.plots x.1).map (·.slot) = some x.2.slot)) ∧
    (∃ (s : State) (m : PlotMap), (m.epoch < s.basin.map.epoch ∨ m.epoch < s.basin.epoch)) ∧
    (∃ (s : State), s.basin.role = .standby) ∧
    (∃ (s : State) (q : Nat) (p : PendDir), s.basin.role = .active ∧ s.mgr.pend = [p] ∧ p.seq ≤ q ∧ p.after = .nothing ∧
      ownersKept s p.dir) ∧
    (∃ (s : State) (p : Nat) (e : MapEnt), s.basin.role = .active ∧ s.basin.stby = true ∧ Tab.find (dirLatest s).plots p = some e
      ∧ e.paired = true ∧ e.mirrorFor = 0 ∧ p ≠ 0 ∧ Tab.some (fun _ w => w.slot = e.slot) (dirLatest s).workers = false ∧ spareFor
      (dirLatest s) e.mirrorSlot e.len = none) ∧
    (∃ (s : State) (p : Nat) (e : MapEnt), s.basin.role = .active ∧ s.basin.stby = true ∧ Tab.find (dirLatest s).plots p = some e
      ∧ e.copying = true) ∧
    (∃ (s : State) (a : Nat), s.basin.basinWin = some a) ∧
    (∃ (s : State) (a : Nat), s.basin.ownWin = some a) ∧
    (∃ (s : State), s.basin.role = .active ∧ s.basin.stby = true) :=
  ⟨⟨bdev .worker, (⟨5, [(1, plt 2)], [], false⟩ : PlotMap), by decide +kernel⟩,
   ⟨bdev .worker, PlotMap.reset, by decide +kernel⟩,
   ⟨bdev .standby, by decide +kernel⟩,
   ⟨{ bdev .active with mgr.pend := [(⟨1, Directory.reset, 1, .nothing, 0⟩ : PendDir)] }, 1, (⟨1, Directory.reset, 1, .nothing, 0⟩ : PendDir),
     by decide +kernel⟩,
   ⟨adev [(1, ({ plt 0 with paired := true, mirrorSlot := 3 } : MapEnt))], 1, ({ plt 0 with paired := true, mirrorSlot := 3 } : MapEnt), by decide +kernel⟩,
   ⟨adev [(1, { plt 2 with copying := true })], 1, { plt 2 with copying := true }, by decide +kernel⟩,
   ⟨{ bdev .worker with basin.basinWin := some 3 }, 3, by decide +kernel⟩,
   ⟨{ bdev .worker with basin.ownWin := some 3 }, 3, by decide +kernel⟩,
   ⟨adev [], by decide +kernel⟩⟩

/-- Witnesses of `Obligations.ThePartnerLinkRunsAndTearsDown`. -/
theorem wit_ThePartnerLinkRunsAndTearsDown :
    (∃ (s : State) (w : RegWr), windowLive s = true ∧ Taken s w ∧ noRsv w 0xFFFFFFFC = true ∧ modeOf s = .p ∧ bitN w.data.toNat 1
      = true) ∧
    (∃ (s : State) (w : RegWr), windowLive s = true ∧ Taken s w ∧ noRsv w 0xFFFFFFFC = true ∧ modeOf s = .p ∧ bitN w.data.toNat 1
      = false ∧ bitN w.data.toNat 0 = true ∧ s.pt.hbArmed = true) ∧
    (∃ (s : State) (w : RegWr), windowLive s = true ∧ Taken s w ∧ noRsv w 0xFFFFFFFC = true ∧ modeOf s = .p ∧ bitN w.data.toNat 1
      = false ∧ bitN w.data.toNat 0 = false) ∧
    (∃ (s : State), s.pt.hbArmed = true ∧ s.pt.st = .up) ∧
    (∃ (s : State), s.pt.trained = true ∧ s.pt.st = .up ∧ s.pt.sideband = none) ∧
    (∃ (s : State) (tr : LinkTrain), s.pt.sideband = some tr ∧ s.sys.fuses.variant = .p) ∧
    (∃ (s : State), s.pt.trained = true ∧ s.pt.st = .up) ∧
    (∃ (s : State), s.sys.coldLow = false ∧ s.pt.st = .up) ∧
    (∃ (s : State), s.sys.coldLow = false ∧ s.pt.st = .teardown) ∧
    (∃ (s : State) (l a : Nat), Tab.find s.pt.held l = some a ∧ s.pt.st = .up) ∧
    (∃ (s : State) (tr : LinkTrain), Awake s ∧ canTrain s tr = true ∧ s.pt.st = .down ∧ s.boot.image ≠ none ∧ s.boot.stage =
      .ready) ∧
    (∃ (s : State) (tr : LinkTrain), Awake s ∧ canTrain s tr = true ∧ s.pt.st = .teardown ∧ s.pt.trained = false) ∧
    (∃ (s : State) (tr : LinkTrain), canTrain s tr = false) ∧
    (∃ (s : State) (m : Nat) (n : BitVec 4), s.pt.trained = true ∧ s.sys.fuses.variant = .p ∧ m < 4 ∧ s.pt.modules.getLsbD m =
      true ∧ n = s.pt.modules &&& ~~~(BitVec.ofNat 4 (2 ^ m)) ∧ n ≠ 0) ∧
    (∃ (s : State) (m : Nat), s.pt.trained = true ∧ s.sys.fuses.variant = .p ∧ m < 4 ∧ s.pt.modules = BitVec.ofNat 4 (2 ^ m) ∧
      s.pt.st = .up) ∧
    (∃ (s : State) (c : Nat), s.sys.coldLow = false ∧ s.pt.cores.getLsbD c = true ∧ modeOf s ≠ .h) ∧
    (∃ (s : State) (n : Nat), s.sys.coldLow = false ∧ (s.boot.hbmInService &&& ~~~s.stacksLost).getLsbD n = true ∧ (∀ p ∈ s.sy,
      p.2.bad1 = false ∧ p.2.bad2 = false)) :=
  ⟨⟨dev, hw 2, by decide +kernel⟩,
   ⟨{ dev with pt.hbArmed := true }, hw 1, by decide +kernel⟩,
   ⟨dev, hw 0, by decide +kernel⟩,
   ⟨{ dev with pt.hbArmed := true }, by decide +kernel⟩,
   ⟨dev, by decide +kernel⟩,
   ⟨{ dev with pt.sideband := some ⟨true, 15, true, 4, 96⟩ }, ⟨true, 15, true, 4, 96⟩, by decide +kernel⟩,
   ⟨dev, by decide +kernel⟩,
   ⟨dev, by decide +kernel⟩,
   ⟨{ dev with pt.st := .teardown }, by decide +kernel⟩,
   ⟨{ dev with pt.held := [(5, 3)] }, 5, 3, by decide +kernel⟩,
   ⟨{ dev with pt.st := .down, pt.trained := false }, ⟨true, 15, true, 4, 96⟩, by decide +kernel⟩,
   ⟨{ dev with pt.st := .teardown, pt.trained := false }, ⟨true, 15, true, 4, 96⟩, by decide +kernel⟩,
   ⟨dev, ⟨true, 0, true, 4, 96⟩, by decide +kernel⟩,
   ⟨{ dev with pt.modules := 15 }, 3, 7, by decide +kernel⟩,
   ⟨{ dev with pt.modules := 8 }, 3, by decide +kernel⟩,
   ⟨dev, 2, by decide +kernel⟩,
   ⟨dev, 7, by decide +kernel⟩⟩

/-- A launch's steps on `ldevK`: admission, code, arguments, the last checks. -/
def kl1 : State := (admitOnce (ldevK 4) 0 0 1 (inf (kent 4)) (launchOpds (kent 4))).1
/-- The code. -/
def kl2 : Acc := readMemAt (admOf kl1 0 0) kl1 1 0x100000 128
/-- The arguments. -/
def kl3 : Acc := launchArgs (accOf kl2).1 0 0 1 (inf (kent 4))
/-- The checks. -/
def kl4 : State :=
  (launchFail { (accOf kl3).1 with infl := Tab.modify (accOf kl3).1.infl (inflKey 0 0) (fun r => { r with args := some (accOf kl3).2 }) } 1
    (accOf kl2).2 (accOf kl3).2 2048).1

/-- Witnesses of `Obligations.TrapsEnterTheHandlerOrRetire`. -/
theorem wit_TrapsEnterTheHandlerOrRetire :
    (∃ (s : State) (t : Tg) (l : Launch), launchOf s t.q t.i = some l ∧ l.trapv ≠ 0 ∧ t.inHandler = false ∧ pushOk l t = true ∧
      (s.fw.dbg.src = none ∨ s.fw.dbg.haltTrap = false) ∧ t.stepLeft = none) ∧
    (∃ (s : State) (k : Nat) (t : Tg) (l : Launch) (c : Byte) (a m : Nat) (v : State), launchOf s t.q t.i = some l ∧ l.trapv = 0 ∧
      v = deliver s k t c a m) ∧
    (∃ (s : State) (k : Nat) (t : Tg) (l : Launch) (c : Byte) (a m : Nat) (v : State), launchOf s t.q t.i = some l ∧ l.trapv ≠ 0 ∧
      (t.inHandler = true ∨ pushOk l t = false) ∧ (s.fw.dbg.src = none ∨ s.fw.dbg.haltDtrap = false) ∧ v = deliver s k t c a m) ∧
    (∃ (s : State) (core slot : Nat) (t : Tg) (l : Launch), Tab.find s.fw.slots (fwKey core slot) = some t ∧ slot < 16 ∧ t.st =
      .running ∧ t.watchdog ≠ 0 ∧ t.dogBarked = false ∧ launchOf s t.q t.i = some l) ∧
    (∃ (s : State) (core : Nat), coreIn s core = true ∧ s.log.staged.length < 64 ∧ (∀ p ∈ s.fw.slots, p.1 / 16 = core → launchOf s
      p.2.q p.2.i ≠ none)) ∧
    (∃ (s : State) (q i : Nat) (l : Launch) (r : Infl) (k : Nat), launchOf s q i = some l ∧ inflOf s q i = some r ∧ r.disp = true
      ∧ r.done = none ∧ launchWaits l = true ∧ mayTakeSlot s l.inst = true ∧ firstWaiting s l.inst l.order = true ∧ pickSlot s =
      some k ∧ Runs s (.furrow (k / 16))) ∧
    (∃ (s : State) (q i : Nat) (l : Launch) (r : Infl) (k : Nat), launchOf s q i = some l ∧ inflOf s q i = some r ∧ r.disp = true
      ∧ r.done = none ∧ launchWaits l = true ∧ mayTakeSlot s l.inst = true ∧ firstWaiting s l.inst l.order = true ∧ pickSlot s =
      some k ∧ gated (wakeBlk s (.furrow (k / 16))) (.furrow (k / 16)) = true) ∧
    (∃ (s : State) (q i : Nat) (x : Wq) (r : Infl) (u z : State) (code : Bytes) (w : State) (args : Bytes) (y : State),
      mayDispatch s q i 0x21 = some (x, r) ∧ (∃ n, Tab.find s.insts x.inst = some n ∧ getLE r.ent 12 2 ≤ n.fwSlots) ∧ admitOnce s
      q i x.inst r (launchOpds r.ent) = (u, none) ∧ readMemAt (admOf u q i) u x.inst (getLE r.ent 16 8) (getLE r.ent 28 4) = .ok z
      code ∧ launchArgs z q i x.inst r = .ok w args ∧ cbOrdered w { r with args := some args } = true ∧ underTest w 6 0 = false ∧
      launchFail { w with infl := Tab.modify w.infl (inflKey q i) (fun r => { r with args := some args }) } x.inst code args
      (getLE r.ent 48 4) = (y, none)) ∧
    (∃ (s : State) (q i : Nat) (x : Wq) (r : Infl) (n : Inst), mayDispatch s q i 0x21 = some (x, r) ∧ Tab.find s.insts x.inst =
      some n ∧ n.fwSlots < getLE r.ent 12 2) :=
  ⟨⟨xdev tgI lau 0, tgI, lau, by decide +kernel⟩,
   ⟨xdev tgI { lau with trapv := 0 } 0, 35, tgI, { lau with trapv := 0 }, 0x11, 5, 3,
     deliver (xdev tgI { lau with trapv := 0 } 0) 35 tgI 0x11 5 3, ⟨by decide +kernel, by decide +kernel, rfl⟩⟩,
   ⟨xdev { tgI with inHandler := true } lau 0, 35, { tgI with inHandler := true }, lau, 0x11, 5, 3,
     deliver (xdev { tgI with inHandler := true } lau 0) 35 { tgI with inHandler := true } 0x11 5 3, ⟨by decide +kernel, by decide +kernel,
     by decide +kernel, by decide +kernel, rfl⟩⟩,
   ⟨xdev tgD lau 0, 2, 3, tgD, lau, by decide +kernel⟩,
   ⟨xdev tgI lau 0, 2, by decide +kernel⟩,
   ⟨ydev lau, 0, 0, lau, { inf (ent 0x21 64 0x100000 0x100 []) with disp := true }, 0, by decide +kernel⟩,
   ⟨asleep (ydev lau) (.furrow 0), 0, 0, lau, { inf (ent 0x21 64 0x100000 0x100 []) with disp := true }, 0, by decide +kernel⟩,
   ⟨ldevK 4, 0, 0, wqA, inf (kent 4), kl1, (accOf kl2).1, (accOf kl2).2, (accOf kl3).1, (accOf kl3).2, kl4, by decide +kernel⟩,
   ⟨ldevK 9, 0, 0, wqA, inf (kent 9), inst1, by decide +kernel⟩⟩

/-- Witnesses of `Obligations.VoltageCompletionsFillTheFifo`. -/
theorem wit_VoltageCompletionsFillTheFifo :
    (∃ (s : State) (c : VCmd) (a b : Nat), s.lv.cmd = some c ∧ c.target ≤ a + 3 ∧ a ≤ c.target + 3 ∧ c.target ≤ b + 3 ∧ b ≤
      c.target + 3) ∧
    (∃ (s : State) (c : VCmd), s.lv.cmd = some c) ∧
    (∃ (s : State) (c : VCmd), s.lv.cmd = some c) ∧
    (∃ (s : State) (c : VCmd) (w : RegWr), s.lv.cmd = some c ∧ windowLive s = true ∧ Taken s w ∧ noRsv w 0xFF00F000 = true ∧ 700 ≤
      fld w.data.toNat 11 0 ∧ fld w.data.toNat 11 0 ≤ 800 ∧ s.sys.fuses.vminMv ≤ fld w.data.toNat 11 0 ∧ s.lv.ready = true) :=
  ⟨⟨{ dev with lv.cmd := some { target := 750, tag := 9, atV := 7400000, since := 3, slew := 1 }, lv.done := [(1, 0), (2, 0), (3, 0), (4, 0), (5, 0), (6, 0), (7, 0), (8, 0)], lv.lost := 3 },
    { target := 750, tag := 9, atV := 7400000, since := 3, slew := 1 }, 752, 747, by decide +kernel⟩,
   ⟨{ dev with lv.cmd := some { target := 750, tag := 9, atV := 7400000, since := 3, slew := 1 }, lv.done := [(1, 0), (2, 0), (3, 0), (4, 0), (5, 0), (6, 0), (7, 0), (8, 0)], lv.lost := 3 },
     { target := 750, tag := 9, atV := 7400000, since := 3, slew := 1 }, by decide +kernel⟩,
   ⟨{ dev with lv.cmd := some { target := 750, tag := 9, atV := 7400000, since := 3, slew := 1 } }, { target := 750, tag := 9, atV := 7400000, since := 3, slew := 1 },
     by decide +kernel⟩,
   ⟨{ dev with lv.cmd := some { target := 750, tag := 9, atV := 7400000, since := 3, slew := 1 } }, { target := 750, tag := 9, atV := 7400000, since := 3, slew := 1 },
     hw (0x00050000 + 760), by decide +kernel⟩⟩

/-- Witnesses of `Obligations.WeirRatesAndMapsFollowTheirPeriods`. -/
theorem wit_WeirRatesAndMapsFollowTheirPeriods :
    (∃ (s : State) (n : Nat) (p : Qp) (a : Nat), qpOf s n = some p ∧ p.rate.startAt = some a ∧ p.st = .connected ∧ Runs s .weir) ∧
    (∃ (s : State) (n : Nat) (p : Qp) (a : Nat), qpOf s n = some p ∧ p.rate.startAt = some a ∧ p.st = .connected ∧ Runs s .weir ∧
      bitN p.rate.prof.1 31 = false ∧ bitN p.rate.prof.1 30 = false ∧ bitN p.rate.prof.1 29 = false ∧ p.rate.loss = true) ∧
    (∃ (s : State) (n : Nat) (p : Qp) (a : Nat), qpOf s n = some p ∧ p.rate.startAt = some a ∧ p.st = .connected ∧ Runs s .weir ∧
      bitN p.rate.prof.1 31 = false ∧ bitN p.rate.prof.1 30 = false ∧ bitN p.rate.prof.1 29 = false ∧ p.rate.loss = false ∧
      p.rate.acks ≠ 0) ∧
    (∃ (s : State) (n : Nat) (p : Qp), qpOf s n = some p ∧ p.st = .connected ∧ p.sndUna = p.sndNxt ∧ Runs s .weir) ∧
    (∃ (s : State) (n : Nat) (p : Qp) (a : Nat), qpOf s n = some p ∧ p.rate.startAt = some a ∧ p.st = .connected ∧ gated (wakeBlk
      s .weir) .weir = true) ∧
    (∃ (s : State) (w : RegWr), windowLive s = true ∧ Taken s w ∧ devOwner s w = true ∧ noRsv w 0x7F00FFFE = true ∧ bitN
      w.data.toNat 0 = true) ∧
    (∃ (s : State) (w : RegWr), windowLive s = true ∧ Taken s w ∧ devOwner s w = false ∧ s.vp.werrValid = false) ∧
    (∃ (s : State) (l : Nat), windowLive s = true ∧ linkExists s l = true) ∧
    (∃ (s : State) (n : Nat) (p : Qp), windowLive s = true ∧ bitN (getReg s 0x03 0x300) 31 = true ∧ s.basin.role = .worker ∧
      s.basin.mgrMissing = false ∧ s.basin.mgrSlot ≠ 0 ∧ Runs s .weir ∧ basinQp s s.basin.mgrSlot = some n ∧ qpOf s n = some p) ∧
    (∃ (s : State), windowLive s = true ∧ bitN (getReg s 0x03 0x300) 31 = true ∧ s.basin.role = .active ∧ Runs s .weir) ∧
    (∃ (s : State), bitN (getReg s 0x03 0x300) 31 = false) ∧
    (∃ (s : State) (slot : Nat) (b : Bytes), Tab.find s.wr.maps slot = some b ∧ mapCurrent s slot = true) ∧
    (∃ (s : State) (i : Nat) (w : RegWr) (p : Qp), CmdOpenAt 0xFFFFFFFE s i 0x188 1 w ∧ getPage s i 0x180 < qpMax s ∧ mayUse
      s.own.qp (getPage s i 0x180) i = true ∧ instHas s i 25 = true ∧ qpOf s (getPage s i 0x180) = some p ∧ p.st ≠ .free) ∧
    (∃ (s : State) (i : Nat) (w : RegWr), CmdOpenAt 0xFFFFFFFE s i 0x188 1 w ∧ getPage s i 0x180 < qpMax s ∧ mayUse s.own.qp
      (getPage s i 0x180) i = true ∧ instHas s i 25 = true ∧ qpOf s (getPage s i 0x180) = none) :=
  ⟨⟨tdev ({ qpF with rate := { Rate.empty with r := 400000, prof := (0xE0142040, 0x00640032, 0xF8420FA0, 0x10), startAt := some 90, acks := 8, eces := 3, qmin := some 700, clean := 4 } }) [], 0, { qpF with rate := { Rate.empty with r := 400000, prof := (0xE0142040, 0x00640032, 0xF8420FA0, 0x10), startAt := some 90, acks := 8, eces := 3, qmin := some 700, clean := 4 } }, 90, by decide +kernel⟩,
   ⟨tdev ({ qpF with sndUna := 10, sndNxt := 10, retx := [], reqs := [], rate := { Rate.empty with r := 400000, tokens := 10 ^ 9, prof := (0x00142040, 0x00640032, 0xF8420FA0, 0x10), startAt := some 90, loss := true } }) [], 0, { qpF with sndUna := 10, sndNxt := 10, retx := [], reqs := [], rate := { Rate.empty with r := 400000, tokens := 10 ^ 9, prof := (0x00142040, 0x00640032, 0xF8420FA0, 0x10), startAt := some 90, loss := true } }, 90, by decide +kernel⟩,
   ⟨tdev ({ qpF with sndUna := 10, sndNxt := 10, retx := [], reqs := [], rate := { Rate.empty with r := 400000, tokens := 10 ^ 9, prof := (0x00142040, 0x00640032, 0xF8420FA0, 0x10), startAt := some 90, acks := 1, clean := 7 } }) [], 0, { qpF with sndUna := 10, sndNxt := 10, retx := [], reqs := [], rate := { Rate.empty with r := 400000, tokens := 10 ^ 9, prof := (0x00142040, 0x00640032, 0xF8420FA0, 0x10), startAt := some 90, acks := 1, clean := 7 } }, 90, by decide +kernel⟩,
   ⟨tdev ({ qpF with sndUna := 10, sndNxt := 10, retx := [], reqs := [], rate := { Rate.empty with r := 400000, tokens := 10 ^ 9, prof := (0x00142040, 0x00640032, 0xF8420FA0, 0x10) } }) [], 0, { qpF with sndUna := 10, sndNxt := 10, retx := [], reqs := [], rate := { Rate.empty with r := 400000, tokens := 10 ^ 9, prof := (0x00142040, 0x00640032, 0xF8420FA0, 0x10) } }, by decide +kernel⟩,
   ⟨asleep (tdev ({ qpF with rate := { Rate.empty with startAt := some 90 } } : Qp) []) .weir, 0, ({ qpF with rate := { Rate.empty with startAt := some 90 } } : Qp), 90, by decide +kernel⟩,
   ⟨{ dev with wr.counters := [(0, 5), (7, 9)], wr.qdepth := [(0, 77)], wr.qmax := [(0, 99)] }, hw 0x00120001, by decide +kernel⟩,
   ⟨{ dev with sys.coldLow := false }, tw 1, by decide +kernel⟩,
   ⟨{ dev with wr.counters := [(0, 5), (7, 9)], wr.qdepth := [(0, 77)], wr.qmax := [(0, 99)] }, 0, by decide +kernel⟩,
   ⟨{ tdev { qpF with kind := .basin, inst := 0, member := 2, cfg := 0x40300000 } [] with basin.role := .worker, basin.mgrMissing := false, basin.mgrSlot := 2, wr.mapPeriod := 6, regs := ldev.regs ++ [(0x03 * 2 ^ 20 + 0x300, 0x80000007)] }, 0, { qpF with kind := .basin, inst := 0, member := 2, cfg := 0x40300000 }, by decide +kernel⟩,
   ⟨{ dev with basin.role := .active, wr.mapPeriod := 6, wr.mapSeq := 5, regs := [(0x03 * 2 ^ 20 + 0x300, 0x80000007)] }, by decide +kernel⟩,
   ⟨{ dev with regs := [(0x03 * 2 ^ 20 + 0x300, 7)] }, by decide +kernel⟩,
   ⟨{ dev with wr.maps := [(2, (zeros 20 ++ [0, 6] ++ zeros 40)), (3, (zeros 20 ++ [0, 6] ++ zeros 40))], wr.mapAt := [(2, 100), (3, 200)], wr.mapValid := 12 },
     2, (zeros 20 ++ [0, 6] ++ zeros 40), by decide +kernel⟩,
   ⟨tdev { qpF with rate := { Rate.empty with snap := (450000, 13, 90, 12000, 300, 4) } } [(pageKey 1 0x180, 0)], 1, hw 1,
     { qpF with rate := { Rate.empty with snap := (450000, 13, 90, 12000, 300, 4) } }, by decide +kernel⟩,
   ⟨qdev wq1, 1, hw 1, by decide +kernel⟩⟩

/-- Witnesses of `Obligations.WorkQueuesFollowTheirCommands`. -/
theorem wit_WorkQueuesFollowTheirCommands :
    (∃ (s : State) (q : Nat) (w : RegWr) (x : Wq), QueueOpen s q w x ∧ bitN w.data.toNat 31 = true ∧ bitN w.data.toNat 30 = false
      ∧ firstFail (fenceChecks x w) = none ∧ x.cache = [] ∧ sub32 x.ci x.invStart.toNat = 0) ∧
    (∃ (s : State) (q : Nat) (w : RegWr) (x : Wq), QueueOpen s q w x ∧ bitN w.data.toNat 31 = false ∧ bitN w.data.toNat 30 = true
      ∧ firstFail (fenceChecks x w) = none) ∧
    (∃ (s : State) (q : Nat) (w : RegWr) (x : Wq), QueueOpen s q w x ∧ bitN w.data.toNat 0 = true ∧ noRsv w 0xFFFFFFFE = true ∧
      x.st = .disabled ∧ (isPartner s x.inst = true → s.feat.committed = true ∧ s.pt.cxl = true)) ∧
    (∃ (s : State) (q : Nat) (w : RegWr) (x : Wq), QueueOpen s q w x ∧ bitN w.data.toNat 0 = true ∧ noRsv w 0xFFFFFFFE = true ∧
      x.st = .draining ∧ (isPartner s x.inst = true → s.feat.committed = true) ∧ s.vp.werrValid = false) ∧
    (∃ (s : State) (q : Nat) (w : RegWr) (x : Wq), QueueOpen s q w x ∧ bitN w.data.toNat 0 = false ∧ noRsv w 0xFFFFFFFE = true ∧
      x.st = .enabled ∧ owed s q ≠ []) ∧
    (∃ (s : State) (q : Nat) (w : RegWr) (x : Wq), QueueOpen s q w x ∧ bitN w.data.toNat 0 = false ∧ noRsv w 0xFFFFFFFE = true ∧
      x.st = .enabled ∧ owed s q = [] ∧ x.errOwed = false ∧ x.cache = []) ∧
    (∃ (s : State) (i : Nat) (w : RegWr) (k : QKind), CmdOpen s i 0x024 1 w ∧ qSel s i < dbCount s ∧ fld (getPage s i 0x014) 15 0
      < cqMax s ∧ owns s.own.wq (qSel s i) i = true ∧ owns s.own.cq (fld (getPage s i 0x014) 15 0) i = true ∧ bitN (getPage s i
      0x004) 24 = false ∧ kindOf (getPage s i 0x004) = some k ∧ k = .lq ∧ fld (getPage s i 0x010) 17 0 = 0 ∧ 4 ≤ fld (getPage s i
      0x004) 4 0 ∧ fld (getPage s i 0x004) 4 0 ≤ 16 ∧ qTuneOk (getPage s i 0x004) (getPage s i 0x01C) = true ∧ Tab.has s.wqs (qSel
      s i) = false ∧ (∃ c, Tab.find s.cqs (fld (getPage s i 0x014) 15 0) = some c ∧ c.error = false)) ∧
    (∃ (s : State) (i : Nat) (w : RegWr), CmdOpen s i 0x024 2 w ∧ firstFail (qcmdHead s i w) = none ∧ qQuiet s (qSel s i) = true) ∧
    (∃ (s : State) (i : Nat) (w : RegWr) (x : Wq), CmdOpen s i 0x024 3 w ∧ firstFail (qcmdHead s i w) = none ∧ qQuiet s (qSel s i)
      = true ∧ Tab.find s.wqs (qSel s i) = some x) ∧
    (∃ (s : State) (i : Nat) (w : RegWr) (x : Wq), CmdOpen s i 0x024 4 w ∧ firstFail (qcmdHead s i w) = none ∧ qTuneOk (getPage s
      i 0x004) (getPage s i 0x01C) = true ∧ Tab.find s.wqs (qSel s i) = some x) ∧
    (∃ (s : State) (i : Nat) (w : RegWr), CmdOpen s i 0x024 2 w ∧ firstFail (qcmdHead s i w) = none ∧ qQuiet s (qSel s i) = false
      ∧ s.vp.werrValid = false) :=
  ⟨⟨qdev wq1, 0, hw 0x80000001, wq1, by decide +kernel⟩,
   ⟨qdev ({ wq1 with fence := some (0, 1) } : Wq), 0, hw 0x40000000, ({ wq1 with fence := some (0, 1) } : Wq), by decide +kernel⟩,
   ⟨{ qdev ({ wq1 with st := .disabled } : Wq) with pt.cxl := true }, 0, hw 1, ({ wq1 with st := .disabled } : Wq), by decide +kernel⟩,
   ⟨qdev ({ wq1 with st := .draining } : Wq), 0, hw 1, ({ wq1 with st := .draining } : Wq), by decide +kernel⟩,
   ⟨edev (ent 0 0 0 0 []), 0, hw 0, wqA, by decide +kernel⟩,
   ⟨qdev wq1, 0, hw 0, wq1, by decide +kernel⟩,
   ⟨{ qdev wq1 with pages := [(pageKey 1 0x000, 5), (pageKey 1 0x004, 0x80011004), (pageKey 1 0x014, 0)] }, 1, hw 1, (.lq : QKind),
     by decide +kernel⟩,
   ⟨{ qdev ({ wq1 with st := .disabled } : Wq) with pages := [(pageKey 1 0x000, 0)] }, 1, hw 2, by decide +kernel⟩,
   ⟨{ qdev ({ wq1 with st := .disabled } : Wq) with pages := [(pageKey 1 0x000, 0)] }, 1, hw 3, ({ wq1 with st := .disabled } : Wq),
     by decide +kernel⟩,
   ⟨{ qdev wq1 with pages := [(pageKey 1 0x000, 0)] }, 1, hw 4, wq1, by decide +kernel⟩,
   ⟨{ qdev wq1 with pages := [(pageKey 1 0x000, 0)] }, 1, hw 2, by decide +kernel⟩⟩

/-- Witnesses of `Obligations.WorkersJoinThroughAttestation`. -/
theorem wit_WorkersJoinThroughAttestation :
    (∃ (s : State) (n : Nat), s.basin.role = .unjoined ∧ roleCap s = 1 ∧ s.boot.stage = .ready ∧ s.basin.attested = [n]) ∧
    (∃ (s : State) (a : Nat), s.basin.role = .unjoined ∧ s.basin.firstJoin = some a) ∧
    (∃ (s : State) (m : Bytes) (r : CtlRec) (ev : AttestEv) (n : Nat), Heard s m r 0x08 ∧ s.basin.role = .active ∧ s.basin.stby =
      true ∧ s.mgr.pend = [] ∧ Tab.find s.mgr.dir.workers r.serial = none ∧ attestCheck s r.serial ev = 0 ∧ freeSlot s.mgr.dir =
      some n) ∧
    (∃ (s : State) (m : Bytes) (r : CtlRec) (ev : AttestEv) (w : Worker), Heard s m r 0x08 ∧ s.basin.role = .active ∧ Tab.find
      (dirLatest s).workers r.serial = some w ∧ Tab.has s.mgr.dir.workers r.serial = true) ∧
    (∃ (s : State) (m : Bytes) (r : CtlRec) (ev : AttestEv), Heard s m r 0x08 ∧ s.basin.role = .active ∧ Tab.find (dirLatest
      s).workers r.serial = none ∧ attestCheck s r.serial ev ≠ 0) ∧
    (∃ (s : State) (m : Bytes) (r : CtlRec) (ev : AttestEv), Heard s m r 0x08 ∧ s.basin.role = .active ∧ Tab.find (dirLatest
      s).workers r.serial = none ∧ attestCheck s r.serial ev = 0 ∧ freeSlot (dirLatest s) = none) ∧
    (∃ (s : State) (m : Bytes) (r : CtlRec), Heard s m r 0x09 ∧ s.basin.role = .unjoined ∧ roleCap s = 1 ∧ r.serial ∈
      s.basin.attested) ∧
    (∃ (s : State) (m : Bytes) (r : CtlRec), Heard s m r 0x0A ∧ s.basin.role = .unjoined ∧ r.serial ∈ s.basin.attested) :=
  ⟨⟨{ bdev .unjoined with boot.image := some { img with roleCap := 1 }, basin.attested := [9], basin.firstJoin := some 3 }, 9,
    by decide +kernel⟩,
   ⟨{ bdev .unjoined with boot.image := some { img with roleCap := 1 }, basin.attested := [9], basin.firstJoin := some 3 }, 3,
     by decide +kernel⟩,
   ⟨{ bdev .active with basin.stby := true }, ctlBytes (cr 0x08 (7)), cr 0x08 (7), (⟨true, 9, []⟩ : AttestEv), 1, by decide +kernel⟩,
   ⟨adev [], ctlBytes (cr 0x08 7), cr 0x08 7, ⟨true, 9, []⟩, wkr, by decide +kernel⟩,
   ⟨bdev .active, ctlBytes (cr 0x08 (7)), cr 0x08 (7), (⟨false, 9, []⟩ : AttestEv), by decide +kernel⟩,
   ⟨{ bdev .active with basin.stby := true, mgr.dir.plots := (List.range 64).map (fun k => (k + 1, plt 1)) }, ctlBytes (cr 0x08 (7)),
     cr 0x08 (7), (⟨true, 9, []⟩ : AttestEv), by decide +kernel⟩,
   ⟨{ bdev .unjoined with boot.image := some { img with roleCap := 1 }, basin.attested := [9], basin.firstJoin := some 3 },
     ctlBytes (cr 0x09 (7)), cr 0x09 (7), by decide +kernel⟩,
   ⟨{ bdev .unjoined with boot.image := some { img with roleCap := 1 }, basin.attested := [9], basin.firstJoin := some 3 },
     ctlBytes (cr 0x0A (7)), cr 0x0A (7), by decide +kernel⟩⟩

/-- Witnesses of `Obligations.FurrowInstructionsKeepTheRestOfTheMachine`. -/
theorem wit_FurrowInstructionsKeepTheRestOfTheMachine :
    (∃ c s, (∃ core slot, c = .fwNop core slot ∨ c = .movi core slot ∨ c = .movu core slot ∨ c = .movs core slot ∨ c = .umov core
      slot ∨ c = .iadd core slot ∨ c = .isub core slot ∨ c = .imul core slot ∨ c = .imad core slot ∨ c = .and core slot ∨ c = .or
      core slot ∨ c = .xor core slot ∨ c = .shl core slot ∨ c = .shr core slot ∨ c = .sar core slot ∨ c = .imin core slot ∨ c =
      .imax core slot ∨ c = .icmp core slot ∨ c = .fadd core slot ∨ c = .fmul core slot ∨ c = .ffma core slot ∨ c = .fmin core
      slot ∨ c = .fmax core slot ∨ c = .fcmp core slot ∨ c = .frcp core slot ∨ c = .cvt core slot ∨ c = .mxunpk core slot ∨ c =
      .mxpack core slot ∨ c = .vqdec core slot ∨ c = .vqenc core slot ∨ c = .shfl core slot ∨ c = .vote core slot ∨ c = .red core
      slot ∨ c = .ldl core slot ∨ c = .stl core slot ∨ c = .ldg core slot ∨ c = .lda core slot ∨ c = .fence core slot ∨ c = .bra
      core slot ∨ c = .call core slot ∨ c = .ret core slot ∨ c = .exit core slot ∨ c = .trap core slot ∨ c = .rte core slot ∨ c =
      .setres core slot ∨ c = .setstat core slot ∨ c = .sadd core slot ∨ c = .brk core slot) ∧ ∃ t, exec c s = .next t) ∧
    (∃ c s, (∃ core slot, c = .stg core slot ∨ c = .cpy core slot ∨ c = .atomg core slot) ∧ ∃ t, exec c s = .next t) :=
  ⟨⟨.fwNop 0 0, dev, by simp, goes_next (by decide +kernel)⟩,
   ⟨.stg 0 0, dev, by simp, goes_next (by decide +kernel)⟩⟩

/-- Witnesses of `Obligations.RegisterCommandsChangeOnlyTheirOwnState`. -/
theorem wit_RegisterCommandsChangeOnlyTheirOwnState :
    (∃ c s, (∃ w, c = .registerWrite w) ∧ ∃ t, exec c s = .next t) ∧
    (∃ c s, (∃ w, c = .vpWerrClear w ∨ c = .tnIntStatClear w ∨ c = .tnIntEnWrite w) ∧ ∃ t, exec c s = .next t) ∧
    (∃ c s, (∃ lay, c = .vapenBuilt lay) ∧ ∃ t, exec c s = .next t) ∧
    (∃ c s, (∃ w, c = .lvVcmd w) ∧ ∃ t, exec c s = .next t) ∧
    (∃ c s, c = .lvVdoneRead ∧ ∃ t, exec c s = .next t) ∧
    (∃ c s, c = .devtimeLoRead ∧ ∃ t, exec c s = .next t) ∧
    (∃ c s, ((∃ answers, c = .moduleRead answers) ∨ c = .cryptQuery ∨ c = .dbgList ∨ c = .dbgRead ∨ c = .slotQuery ∨ (∃ v, c =
      .instQuery v)) ∧ ∃ t, exec c s = .next t) ∧
    (∃ c s, (∃ m, c = .mctpRequest m) ∧ ∃ t, exec c s = .next t) ∧
    (∃ c s, (∃ answers, c = .moduleWrite answers) ∧ ∃ t, exec c s = .next t) ∧
    (∃ c s, (∃ link w, c = .slCalStart link w) ∧ ∃ t, exec c s = .next t) ∧
    (∃ c s, (∃ w, c = .roleCmdYield w) ∧ ∃ t, exec c s = .next t) ∧
    (∃ c s, (∃ w, c = .roleCmdRequestSwap w) ∧ ∃ t, exec c s = .next t) ∧
    (∃ c s, (∃ w, c = .roleCmdLeave w ∨ c = .roleCmdResetNotice w) ∧ ∃ t, exec c s = .next t) ∧
    (∃ c s, c = .heldCommandTimeout ∧ ∃ t, exec c s = .next t) ∧
    (∃ c s, (∃ w, c = .partnerHbArm w ∨ c = .partnerHbBeat w ∨ c = .partnerHbDisarm w) ∧ ∃ t, exec c s = .next t) ∧
    (∃ c s, (∃ k w, c = .culvertDoorbell k w) ∧ ∃ t, exec c s = .next t) ∧
    (∃ c s, (∃ k w, c = .cvPoolDisable k w) ∧ ∃ t, exec c s = .next t) ∧
    (∃ c s, (∃ w, c = .cvOvfRegister w) ∧ ∃ t, exec c s = .next t) ∧
    (∃ c s, (∃ q w, c = .hgDb q w) ∧ ∃ t, exec c s = .next t) ∧
    (∃ c s, (∃ q w, c = .hgInvRelease q w ∨ c = .hgQctrlEnable q w) ∧ ∃ t, exec c s = .next t) ∧
    (∃ c s, ((∃ win p, c = .pushWrite win p) ∨ (∃ q w, c = .hgInvFence q w ∨ c = .hgQctrlDisable q w)) ∧ ∃ t, exec c s = .next t) ∧
    (∃ c s, (∃ inst w, c = .hgQcmdCreate inst w ∨ c = .hgQcmdDestroy inst w) ∧ ∃ t, exec c s = .next t) ∧
    (∃ c s, (∃ inst w, c = .hgQcmdReset inst w ∨ c = .hgQcmdModify inst w ∨ c = .gateSet inst w ∨ c = .gateClear inst w) ∧ ∃ t,
      exec c s = .next t) ∧
    (∃ c s, (∃ inst w, c = .hgCcmdCreate inst w ∨ c = .hgCcmdDestroy inst w) ∧ ∃ t, exec c s = .next t) ∧
    (∃ c s, (∃ inst w, c = .hgCcmdReset inst w) ∧ ∃ t, exec c s = .next t) ∧
    (∃ c s, (∃ core w, c = .hgCqdb core w ∨ c = .hgCqarm core w) ∧ ∃ t, exec c s = .next t) ∧
    (∃ c s, (∃ inst w, c = .spCreate inst w) ∧ ∃ t, exec c s = .next t) ∧
    (∃ c s, (∃ inst w, c = .spDestroy inst w) ∧ ∃ t, exec c s = .next t) ∧
    (∃ c s, (∃ inst w, c = .spQuery inst w) ∧ ∃ t, exec c s = .next t) ∧
    (∃ c s, (∃ inst w, c = .ktQuery inst w ∨ c = .ktInvalidate inst w) ∧ ∃ t, exec c s = .next t) ∧
    (∃ c s, (∃ inst w, c = .slQpQuery inst w ∨ c = .wrQuery inst w ∨ c = .gateQuery inst w ∨ c = .rnGcmdQuery inst w ∨ c =
      .cbScmdQuery inst w) ∧ ∃ t, exec c s = .next t) ∧
    (∃ c s, (∃ inst w, c = .ktCreate inst w) ∧ ∃ t, exec c s = .next t) ∧
    (∃ c s, (∃ inst w, c = .slQpCreate inst w) ∧ ∃ t, exec c s = .next t) ∧
    (∃ c s, (∃ inst w, c = .slQpConnect inst w ∨ c = .slQpReset inst w ∨ c = .slQpDestroy inst w) ∧ ∃ t, exec c s = .next t) ∧
    (∃ c s, (∃ inst w, c = .slQpFailover inst w) ∧ ∃ t, exec c s = .next t) ∧
    (∃ c s, (∃ w, c = .wrSnapGo w) ∧ ∃ t, exec c s = .next t) ∧
    (∃ c s, (∃ link, c = .qdepthMaxRead link) ∧ ∃ t, exec c s = .next t) ∧
    (∃ c s, (∃ inst w, c = .sySet inst w ∨ c = .syAdd inst w) ∧ ∃ t, exec c s = .next t) ∧
    (∃ c s, (∃ inst w, c = .syShare inst w ∨ c = .syUnshare inst w) ∧ ∃ t, exec c s = .next t) ∧
    (∃ c s, (∃ inst w, c = .rnGcmdCreate inst w) ∧ ∃ t, exec c s = .next t) ∧
    (∃ c s, (∃ inst w, c = .rnGcmdDestroy inst w) ∧ ∃ t, exec c s = .next t) ∧
    (∃ c s, (∃ inst w, c = .rnGcmdReset inst w) ∧ ∃ t, exec c s = .next t) ∧
    (∃ c s, (c = .dbgHalt ∨ c = .dbgStep ∨ c = .dbgWrite ∨ c = .dbgBreak ∨ c = .dbgAttach) ∧ ∃ t, exec c s = .next t) ∧
    (∃ c s, c = .dbgResume ∧ ∃ t, exec c s = .next t) ∧
    (∃ c s, (c = .dbgKill ∨ c = .dbgDetach) ∧ ∃ t, exec c s = .next t) ∧
    (∃ c s, (∃ inst w, c = .cbScmdClear inst w) ∧ ∃ t, exec c s = .next t) ∧
    (∃ c s, (∃ v, c = .instCreate v) ∧ ∃ t, exec c s = .next t) ∧
    (∃ c s, (∃ v, c = .instModify v) ∧ ∃ t, exec c s = .next t) ∧
    (∃ c s, (∃ v, c = .instDestroyGraceful v) ∧ ∃ t, exec c s = .next t) ∧
    (∃ c s, (∃ v, c = .instDestroyForce v) ∧ ∃ t, exec c s = .next t) ∧
    (∃ c s, (∃ w, c = .tnMbxGo w) ∧ ∃ t, exec c s = .next t) ∧
    (∃ c s, c = .mbxCommandStart ∧ ∃ t, exec c s = .next t) ∧
    (∃ c s, (∃ readBackOk, c = .slotWrite readBackOk) ∧ ∃ t, exec c s = .next t) ∧
    (∃ c s, (c = .slotSelectActive ∨ c = .slotSelectTry) ∧ ∃ t, exec c s = .next t) ∧
    (∃ c s, c = .imageLoad ∧ ∃ t, exec c s = .next t) ∧
    (∃ c s, c = .stageWrite ∧ ∃ t, exec c s = .next t) ∧
    (∃ c s, (∃ w, c = .featCommit w ∨ c = .featUncommit w) ∧ ∃ t, exec c s = .next t) ∧
    (∃ c s, (∃ w, c = .tnLogAckLoWrite w ∨ c = .tnLogAckHiWrite w ∨ c = .tnLogRselHiWrite w) ∧ ∃ t, exec c s = .next t) ∧
    (∃ c s, (∃ w, c = .selftestStart w) ∧ ∃ t, exec c s = .next t) ∧
    (∃ c s, (∃ reqId status data, c = .managerReply reqId status data) ∧ ∃ t, exec c s = .next t) :=
  ⟨⟨.registerWrite ⟨0x40, hw 9⟩, dev, by simp, goes_next (by decide +kernel)⟩,
   ⟨.vpWerrClear (hw 1), dev, by simp, goes_next (by decide +kernel)⟩,
   ⟨.vapenBuilt lay, dev, by simp, goes_next (by decide +kernel)⟩,
   ⟨.lvVcmd (hw 1), dev, by simp, goes_next (by decide +kernel)⟩,
   ⟨.lvVdoneRead, dev, by simp, goes_next (by decide +kernel)⟩,
   ⟨.devtimeLoRead, dev, by simp, goes_next (by decide +kernel)⟩,
   ⟨.moduleRead true, dev, by simp, goes_next (by decide +kernel)⟩,
   ⟨.mctpRequest ⟨none, []⟩, dev, by simp, goes_next (by decide +kernel)⟩,
   ⟨.moduleWrite true, dev, by simp, goes_next (by decide +kernel)⟩,
   ⟨.slCalStart 0 (hw 1), dev, by simp, goes_next (by decide +kernel)⟩,
   ⟨.roleCmdYield (hw 1), dev, by simp, goes_next (by decide +kernel)⟩,
   ⟨.roleCmdRequestSwap (hw 1), dev, by simp, goes_next (by decide +kernel)⟩,
   ⟨.roleCmdLeave (hw 1), dev, by simp, goes_next (by decide +kernel)⟩,
   ⟨.heldCommandTimeout, dev, by simp, goes_next (by decide +kernel)⟩,
   ⟨.partnerHbArm (hw 1), dev, by simp, goes_next (by decide +kernel)⟩,
   ⟨.culvertDoorbell 0 (hw 1), dev, by simp, goes_next (by decide +kernel)⟩,
   ⟨.cvPoolDisable 0 (hw 1), dev, by simp, goes_next (by decide +kernel)⟩,
   ⟨.cvOvfRegister ⟨0x10, hw 1⟩, dev, by simp, goes_next (by decide +kernel)⟩,
   ⟨.hgDb 0 (hw 1), dev, by simp, goes_next (by decide +kernel)⟩,
   ⟨.hgInvRelease 0 (hw 1), dev, by simp, goes_next (by decide +kernel)⟩,
   ⟨.hgInvFence 0 (hw 1), dev, by simp, goes_next (by decide +kernel)⟩,
   ⟨.hgQcmdCreate 0 (hw 1), dev, by simp, goes_next (by decide +kernel)⟩,
   ⟨.hgQcmdReset 0 (hw 1), dev, by simp, goes_next (by decide +kernel)⟩,
   ⟨.hgCcmdCreate 0 (hw 1), dev, by simp, goes_next (by decide +kernel)⟩,
   ⟨.hgCcmdReset 0 (hw 1), dev, by simp, goes_next (by decide +kernel)⟩,
   ⟨.hgCqdb 0 (hw 1), dev, by simp, goes_next (by decide +kernel)⟩,
   ⟨.spCreate 0 (hw 1), dev, by simp, goes_next (by decide +kernel)⟩,
   ⟨.spDestroy 0 (hw 1), dev, by simp, goes_next (by decide +kernel)⟩,
   ⟨.spQuery 0 (hw 1), dev, by simp, goes_next (by decide +kernel)⟩,
   ⟨.ktQuery 0 (hw 1), dev, by simp, goes_next (by decide +kernel)⟩,
   ⟨.slQpQuery 0 (hw 1), dev, by simp, goes_next (by decide +kernel)⟩,
   ⟨.ktCreate 0 (hw 1), dev, by simp, goes_next (by decide +kernel)⟩,
   ⟨.slQpCreate 0 (hw 1), dev, by simp, goes_next (by decide +kernel)⟩,
   ⟨.slQpConnect 0 (hw 1), dev, by simp, goes_next (by decide +kernel)⟩,
   ⟨.slQpFailover 0 (hw 1), dev, by simp, goes_next (by decide +kernel)⟩,
   ⟨.wrSnapGo (hw 1), dev, by simp, goes_next (by decide +kernel)⟩,
   ⟨.qdepthMaxRead 0, dev, by simp, goes_next (by decide +kernel)⟩,
   ⟨.sySet 0 (hw 1), dev, by simp, goes_next (by decide +kernel)⟩,
   ⟨.syShare 0 (hw 1), dev, by simp, goes_next (by decide +kernel)⟩,
   ⟨.rnGcmdCreate 0 (hw 1), dev, by simp, goes_next (by decide +kernel)⟩,
   ⟨.rnGcmdDestroy 0 (hw 1), dev, by simp, goes_next (by decide +kernel)⟩,
   ⟨.rnGcmdReset 0 (hw 1), dev, by simp, goes_next (by decide +kernel)⟩,
   ⟨.dbgHalt, dev, by simp, goes_next (by decide +kernel)⟩,
   ⟨.dbgResume, dev, by simp, goes_next (by decide +kernel)⟩,
   ⟨.dbgKill, dev, by simp, goes_next (by decide +kernel)⟩,
   ⟨.cbScmdClear 0 (hw 1), dev, by simp, goes_next (by decide +kernel)⟩,
   ⟨.instCreate .mailbox, dev, by simp, goes_next (by decide +kernel)⟩,
   ⟨.instModify .mailbox, dev, by simp, goes_next (by decide +kernel)⟩,
   ⟨.instDestroyGraceful .mailbox, dev, by simp, goes_next (by decide +kernel)⟩,
   ⟨.instDestroyForce .mailbox, dev, by simp, goes_next (by decide +kernel)⟩,
   ⟨.tnMbxGo (hw 1), dev, by simp, goes_next (by decide +kernel)⟩,
   ⟨.mbxCommandStart, dev, by simp, goes_next (by decide +kernel)⟩,
   ⟨.slotWrite true, dev, by simp, goes_next (by decide +kernel)⟩,
   ⟨.slotSelectActive, dev, by simp, goes_next (by decide +kernel)⟩,
   ⟨.imageLoad, dev, by simp, goes_next (by decide +kernel)⟩,
   ⟨.stageWrite, dev, by simp, goes_next (by decide +kernel)⟩,
   ⟨.featCommit (hw 1), dev, by simp, goes_next (by decide +kernel)⟩,
   ⟨.tnLogAckLoWrite (hw 1), dev, by simp, goes_next (by decide +kernel)⟩,
   ⟨.selftestStart (hw 1), dev, by simp, goes_next (by decide +kernel)⟩,
   ⟨.managerReply 0 0 [], dev, by simp, goes_next (by decide +kernel)⟩⟩

/-- Witnesses of `Obligations.EventsChangeOnlyWhatTheyConcern`. -/
theorem wit_EventsChangeOnlyWhatTheyConcern :
    (∃ c s, (∃ straps, c = .coldRstNRise straps) ∧ ∃ t, exec c s = .next t) ∧
    (∃ c s, c = .bundleVerify ∧ ∃ t, exec c s = .next t) ∧
    (∃ c s, c = .firmwareRunning ∧ ∃ t, exec c s = .next t) ∧
    (∃ c s, c = .imageVerify ∧ ∃ t, exec c s = .next t) ∧
    (∃ c s, (∃ failed, c = .hbmTrained failed) ∧ ∃ t, exec c s = .next t) ∧
    (∃ c s, ((∃ tempC, c = .junctionOvertemp tempC) ∨ c = .warmRstNRise) ∧ ∃ t, exec c s = .next t) ∧
    (∃ c s, (c = .ppsInEdge ∨ (∃ m, c = .ptpMessage m) ∨ (∃ slot, c = .mapSlotExpiry slot)) ∧ ∃ t, exec c s = .next t) ∧
    (∃ c s, ((∃ region deltaMv, c = .gridExcursion region deltaMv) ∨ (∃ region samples, c = .disagree region samples) ∨ (∃ r1 r2,
      c = .vcmdSettle r1 r2) ∨ c = .avsbusSilent) ∧ ∃ t, exec c s = .next t) ∧
    (∃ c s, (∃ unit samples, c = .ocThrottleEnter unit samples) ∧ ∃ t, exec c s = .next t) ∧
    (∃ c s, (∃ unit highest ns, c = .throttleExit unit highest ns) ∧ ∃ t, exec c s = .next t) ∧
    (∃ c s, (∃ unit, c = .ocPersist unit) ∧ ∃ t, exec c s = .next t) ∧
    (∃ c s, ((∃ region pairB readings, c = .senseOpen region pairB readings) ∨ (∃ region samples, c = .drop region samples) ∨ (∃
      faults, c = .pmbusPoll faults)) ∧ ∃ t, exec c s = .next t) ∧
    (∃ c s, c = .vcmdTimeout ∧ ∃ t, exec c s = .next t) ∧
    (∃ c s, ((∃ g, c = .blockGate g) ∨ (∃ b, c = .wakeEvent b)) ∧ ∃ t, exec c s = .next t) ∧
    (∃ c s, c = .furrowPllPowerDown ∧ ∃ t, exec c s = .next t) ∧
    (∃ c s, ((∃ port info, c = .moduleInsertion port info) ∨ (∃ port ans, c = .cmisPoll port ans)) ∧ ∃ t, exec c s = .next t) ∧
    (∃ c s, ((∃ link ns, c = .calIdleWindow link ns) ∨ (∃ link body, c = .enterAck link body)) ∧ ∃ t, exec c s = .next t) ∧
    (∃ c s, ((∃ link body, c = .enterNak link body ∨ c = .cancel link body ∨ c = .offer link body ∨ c = .enter link body ∨ c =
      .hello link body) ∨ (∃ link merge, c = .linkTrained link merge)) ∧ ∃ t, exec c s = .next t) ∧
    (∃ c s, (∃ link, c = .calComplete link ∨ c = .linkDown link) ∧ ∃ t, exec c s = .next t) ∧
    (∃ c s, (∃ link, c = .calDeferTimeout link ∨ c = .enterAckTimeout link ∨ c = .wakeWindowClose link) ∧ ∃ t, exec c s = .next t) ∧
    (∃ c s, (∃ link, c = .offerReplyTimeout link ∨ c = .masterIdleEnter link ∨ c = .wakeWindowOpen link ∨ c = .dormancyHoldEnd
      link) ∧ ∃ t, exec c s = .next t) ∧
    (∃ c s, (∃ link pass, c = .retrainLoopback link pass) ∧ ∃ t, exec c s = .next t) ∧
    (∃ c s, (∃ link, c = .dormMissLimit link) ∧ ∃ t, exec c s = .next t) ∧
    (∃ c s, c = .heartbeatPeriod ∧ ∃ t, exec c s = .next t) ∧
    (∃ c s, (∃ m, c = .heartbeat m ∨ c = .handover m) ∧ ∃ t, exec c s = .next t) ∧
    (∃ c s, (∃ m, c = .joinAck m) ∧ ∃ t, exec c s = .next t) ∧
    (∃ c s, (∃ m, c = .hbReply m) ∧ ∃ t, exec c s = .next t) ∧
    (∃ c s, (c = .managerMissing ∨ c = .unjoinedClaimStart) ∧ ∃ t, exec c s = .next t) ∧
    (∃ c s, (c = .leaseExpiry ∨ c = .claimTimeout ∨ c = .leaveTimeout) ∧ ∃ t, exec c s = .next t) ∧
    (∃ c s, (c = .claimPeriod ∨ c = .heldCommandResend ∨ c = .configurationRequest ∨ c = .handoverPeriod ∨ c = .workerPeriod ∨ (∃
      slot, c = .basinQueryMap slot) ∨ (∃ slot handle, c = .basinQueryAlloc slot handle) ∨ (∃ tm, c = .getDigests tm) ∨ (∃ tm slot
      off len, c = .getCertificate tm slot off len) ∨ (∃ tm slot nonce, c = .challenge tm slot nonce ∨ c = .getMeasurements tm
      slot nonce)) ∧ ∃ t, exec c s = .next t) ∧
    (∃ c s, (∃ m, c = .claim m ∨ c = .revoke m) ∧ ∃ t, exec c s = .next t) ∧
    (∃ c s, (∃ m, c = .withdraw m ∨ c = .joinNak m ∨ c = .noticeAck m) ∧ ∃ t, exec c s = .next t) ∧
    (∃ c s, c = .yieldingTimeout ∧ ∃ t, exec c s = .next t) ∧
    (∃ c s, c = .hbParamSwitch ∧ ∃ t, exec c s = .next t) ∧
    (∃ c s, c = .joinRetry ∧ ∃ t, exec c s = .next t) ∧
    (∃ c s, (c = .joinTimeout ∨ c = .noticeTimeout ∨ (∃ basinWide, c = .recoveryWindowExpiry basinWide)) ∧ ∃ t, exec c s = .next
      t) ∧
    (∃ c s, (∃ m, c = .leaveAck m ∨ c = .lost m) ∧ ∃ t, exec c s = .next t) ∧
    (∃ c s, (∃ seq dir epoch, c = .directoryReplication seq dir epoch) ∧ ∃ t, exec c s = .next t) ∧
    (∃ c s, (c = .partnerHbExpiry ∨ (∃ line, c = .snoopTimeout line)) ∧ ∃ t, exec c s = .next t) ∧
    (∃ c s, (c = .partnerLinkDown ∨ c = .partnerFatalError ∨ c = .hostReset ∨ (∃ m, c = .ucieModuleLost m ∨ c = .tenderCoreFail
      m)) ∧ ∃ t, exec c s = .next t) ∧
    (∃ c s, (∃ tm, c = .partnerLinkTrained tm) ∧ ∃ t, exec c s = .next t) ∧
    (∃ c s, (∃ line store, c = .partnerSnoop line store) ∧ ∃ t, exec c s = .next t) ∧
    (∃ c s, (∃ a, c = .hdmAccess a) ∧ ∃ t, exec c s = .next t) ∧
    (∃ c s, (∃ core, c = .cqModTimeExpiry core) ∧ ∃ t, exec c s = .next t) ∧
    (∃ c s, (∃ index, c = .keyFree index) ∧ ∃ t, exec c s = .next t) ∧
    (∃ c s, (∃ qp, c = .ackDelayExpiry qp ∨ c = .resyncRepeat qp ∨ c = .failoverTimeExpiry qp) ∧ ∃ t, exec c s = .next t) ∧
    (∃ c s, (∃ qp, c = .rtoExpiry qp) ∧ ∃ t, exec c s = .next t) ∧
    (∃ c s, (∃ qp, c = .rnrDelayExpiry qp) ∧ ∃ t, exec c s = .next t) ∧
    (∃ c s, (∃ qp, c = .rateIdleReset qp ∨ c = .weirIntervalEnd qp) ∧ ∃ t, exec c s = .next t) ∧
    (∃ c s, c = .mapPeriodEnd ∧ ∃ t, exec c s = .next t) ∧
    (∃ c s, ((∃ tm, c = .getVersion tm ∨ c = .getCapabilities tm) ∨ (∃ tm a, c = .negotiateAlgorithms tm a) ∨ (∃ tm summary, c =
      .keyExchange tm summary) ∨ (∃ sess verifies, c = .finish sess verifies) ∨
      (∃ m, c = .keyUpdate m ∨ c = .endSession m)) ∧ ∃ t, exec c s = .next t) ∧
    (∃ c s, (∃ sess stream key, c = .ideKmKeyProg sess stream key) ∧ ∃ t, exec c s = .next t) ∧
    (∃ c s, (∃ sess m, c = .keyInstallInitial sess m ∨ c = .keyInstallRekey sess m ∨ c = .keyCommit sess m) ∧ ∃ t, exec c s =
      .next t) ∧
    (∃ c s, (∃ sess m, c = .cryptPolicy sess m ∨ c = .admitSet sess m) ∧ ∃ t, exec c s = .next t) ∧
    (∃ c s, (∃ slot b, c = .basinAttestFragment slot b) ∧ ∃ t, exec c s = .next t) ∧
    (∃ c s, (∃ q, c = .gateTimeoutExpiry q) ∧ ∃ t, exec c s = .next t) ∧
    (∃ c s, (∃ slot, c = .runnelRtoExpiry slot) ∧ ∃ t, exec c s = .next t) ∧
    (∃ c s, (∃ slot, c = .runnelAckDelayExpiry slot) ∧ ∃ t, exec c s = .next t) ∧
    (∃ c s, (∃ slot, c = .runnelStreamRestart slot) ∧ ∃ t, exec c s = .next t) ∧
    (∃ c s, (∃ q i, c = .groupStart q i) ∧ ∃ t, exec c s = .next t) ∧
    (∃ c s, (∃ core, c = .coreLost core) ∧ ∃ t, exec c s = .next t) ∧
    (∃ c s, (∃ slot, c = .cbSlotError slot) ∧ ∃ t, exec c s = .next t) ∧
    (∃ c s, c = .eventLogWrite ∧ ∃ t, exec c s = .next t) :=
  ⟨⟨.coldRstNRise ⟨false, 0, 0, false⟩, dev, by simp, goes_next (by decide +kernel)⟩,
   ⟨.bundleVerify, dev, by simp, goes_next (by decide +kernel)⟩,
   ⟨.firmwareRunning, dev, by simp, goes_next (by decide +kernel)⟩,
   ⟨.imageVerify, dev, by simp, goes_next (by decide +kernel)⟩,
   ⟨.hbmTrained 0xFF, dev, by simp, goes_next (by decide +kernel)⟩,
   ⟨.junctionOvertemp 0, dev, by simp, goes_next (by decide +kernel)⟩,
   ⟨.ptpMessage ⟨0, .delayResp 0⟩, dev, by simp, goes_next (by decide +kernel)⟩,
   ⟨.vcmdSettle 0 0, dev, by simp, goes_next (by decide +kernel)⟩,
   ⟨.ocThrottleEnter (.region 0) [], dev, by simp, goes_next (by decide +kernel)⟩,
   ⟨.throttleExit .package 0 0, dev, by simp, goes_next (by decide +kernel)⟩,
   ⟨.ocPersist .package, dev, by simp, goes_next (by decide +kernel)⟩,
   ⟨.senseOpen 0 true [], dev, by simp, goes_next (by decide +kernel)⟩,
   ⟨.vcmdTimeout, dev, by simp, goes_next (by decide +kernel)⟩,
   ⟨.blockGate ⟨.tender 0, 0⟩, dev, by simp, goes_next (by decide +kernel)⟩,
   ⟨.furrowPllPowerDown, dev, by simp, goes_next (by decide +kernel)⟩,
   ⟨.moduleInsertion 0 ⟨false, false, [8, 4], []⟩, dev, by simp, goes_next (by decide +kernel)⟩,
   ⟨.calIdleWindow 0 0, dev, by simp, goes_next (by decide +kernel)⟩,
   ⟨.linkTrained 0 true, dev, by simp, goes_next (by decide +kernel)⟩,
   ⟨.calComplete 0, dev, by simp, goes_next (by decide +kernel)⟩,
   ⟨.calDeferTimeout 0, dev, by simp, goes_next (by decide +kernel)⟩,
   ⟨.offerReplyTimeout 0, dev, by simp, goes_next (by decide +kernel)⟩,
   ⟨.retrainLoopback 0 true, dev, by simp, goes_next (by decide +kernel)⟩,
   ⟨.dormMissLimit 0, dev, by simp, goes_next (by decide +kernel)⟩,
   ⟨.heartbeatPeriod, dev, by simp, goes_next (by decide +kernel)⟩,
   ⟨.heartbeat [], dev, by simp, goes_next (by decide +kernel)⟩,
   ⟨.joinAck [], dev, by simp, goes_next (by decide +kernel)⟩,
   ⟨.hbReply [], dev, by simp, goes_next (by decide +kernel)⟩,
   ⟨.managerMissing, dev, by simp, goes_next (by decide +kernel)⟩,
   ⟨.leaseExpiry, dev, by simp, goes_next (by decide +kernel)⟩,
   ⟨.claimPeriod, dev, by simp, goes_next (by decide +kernel)⟩,
   ⟨.claim [], dev, by simp, goes_next (by decide +kernel)⟩,
   ⟨.withdraw [], dev, by simp, goes_next (by decide +kernel)⟩,
   ⟨.yieldingTimeout, dev, by simp, goes_next (by decide +kernel)⟩,
   ⟨.hbParamSwitch, dev, by simp, goes_next (by decide +kernel)⟩,
   ⟨.joinRetry, dev, by simp, goes_next (by decide +kernel)⟩,
   ⟨.joinTimeout, dev, by simp, goes_next (by decide +kernel)⟩,
   ⟨.leaveAck [], dev, by simp, goes_next (by decide +kernel)⟩,
   ⟨.directoryReplication 0 dev.mgr.dir 0, dev, by simp, goes_next (by decide +kernel)⟩,
   ⟨.partnerHbExpiry, dev, by simp, goes_next (by decide +kernel)⟩,
   ⟨.partnerLinkDown, dev, by simp, goes_next (by decide +kernel)⟩,
   ⟨.partnerLinkTrained ⟨true, 15, true, 4, 64⟩, dev, by simp, goes_next (by decide +kernel)⟩,
   ⟨.partnerSnoop 0 none, dev, by simp, goes_next (by decide +kernel)⟩,
   ⟨.hdmAccess (.read 0 64), dev, by simp, goes_next (by decide +kernel)⟩,
   ⟨.cqModTimeExpiry 0, dev, by simp, goes_next (by decide +kernel)⟩,
   ⟨.keyFree 0, dev, by simp, goes_next (by decide +kernel)⟩,
   ⟨.ackDelayExpiry 0, dev, by simp, goes_next (by decide +kernel)⟩,
   ⟨.rtoExpiry 0, dev, by simp, goes_next (by decide +kernel)⟩,
   ⟨.rnrDelayExpiry 0, dev, by simp, goes_next (by decide +kernel)⟩,
   ⟨.weirIntervalEnd 0, dev, by simp, goes_next (by decide +kernel)⟩,
   ⟨.mapPeriodEnd, dev, by simp, goes_next (by decide +kernel)⟩,
   ⟨.finish 0 true, dev, by simp, goes_next (by decide +kernel)⟩,
   ⟨.ideKmKeyProg none 0 [], dev, by simp, goes_next (by decide +kernel)⟩,
   ⟨.keyInstallInitial none [], dev, by simp, goes_next (by decide +kernel)⟩,
   ⟨.cryptPolicy none [], dev, by simp, goes_next (by decide +kernel)⟩,
   ⟨.basinAttestFragment 0 [], dev, by simp, goes_next (by decide +kernel)⟩,
   ⟨.gateTimeoutExpiry 0, dev, by simp, goes_next (by decide +kernel)⟩,
   ⟨.runnelRtoExpiry 0, dev, by simp, goes_next (by decide +kernel)⟩,
   ⟨.runnelAckDelayExpiry 0, dev, by simp, goes_next (by decide +kernel)⟩,
   ⟨.runnelStreamRestart 0, dev, by simp, goes_next (by decide +kernel)⟩,
   ⟨.groupStart 0 0, dev, by simp, goes_next (by decide +kernel)⟩,
   ⟨.coreLost 0, dev, by simp, goes_next (by decide +kernel)⟩,
   ⟨.cbSlotError 0, dev, by simp, goes_next (by decide +kernel)⟩,
   ⟨.eventLogWrite, dev, by simp, goes_next (by decide +kernel)⟩⟩

/-- Witnesses of `Obligations.EntriesAndPacketsChangeOnlyTheDataPath`. -/
theorem wit_EntriesAndPacketsChangeOnlyTheDataPath :
    (∃ c s, (∃ serial, c = .workerLost serial ∨ c = .excuseExpiry serial) ∧ ∃ t, exec c s = .next t) ∧
    (∃ c s, ((∃ m, c = .grant m) ∨ c = .claimWaitElapsed ∨ (∃ m ev, c = .join m ev) ∨ (∃ plot, c = .promotion plot)) ∧ ∃ t, exec c
      s = .next t) ∧
    (∃ c s, (∃ m, c = .leave m) ∧ ∃ t, exec c s = .next t) ∧
    (∃ c s, ((∃ m, c = .resetNotice m) ∨ (∃ seq serial, c = .replicationAck seq serial ∨ c = .partnerAllocFree seq serial ∨ c =
      .overflowLengthReport seq serial) ∨ (∃ plot, c = .spareCopyDone plot) ∨ (∃ r, c = .basinAlloc r) ∨ (∃ r, c = .basinFree r) ∨
      (∃ r, c = .basinPairPair r ∨ c = .basinPairMarkSpare r ∨ c = .basinPairUnmarkSpare r)) ∧ ∃ t, exec c s = .next t) ∧
    (∃ c s, (∃ map, c = .plotMapFetched map) ∧ ∃ t, exec c s = .next t) ∧
    (∃ c s, ((∃ line dirty, c = .backInvalidateAnswer line dirty) ∨ (∃ inst addr ans, c = .atsCompletion inst addr ans) ∨ (∃ inst
      addr, c = .atsTimeout inst addr) ∨ (∃ index, c = .spanMoveDone index) ∨ (∃ link f, c = .rxWrite link f ∨ c = .rxWriteImm
      link f ∨ c = .rxReadReq link f ∨ c = .rxReadResp link f ∨ c = .rxSend link f ∨ c = .rxSendImm link f ∨ c = .rxAtomicFadd
      link f ∨ c = .rxAtomicCswap link f ∨ c = .rxAtomicResp link f ∨ c = .rxAck link f ∨ c = .rxNakSeq link f ∨ c = .rxNakRnr
      link f ∨ c = .rxNakReread link f ∨ c = .rxNakStatus link f ∨ c = .rxResync link f ∨ c = .rxResyncAck link f ∨ c = .rxAbort
      link f ∨ c = .rxMark link f)) ∧ ∃ t, exec c s = .next t) ∧
    (∃ c s, (∃ pasid addr len, c = .atsInvalidationRequest pasid addr len) ∧ ∃ t, exec c s = .next t) ∧
    (∃ c s, (∃ k slot, c = .culvertTransferDone k slot) ∧ ∃ t, exec c s = .next t) ∧
    (∃ c s, (∃ stack, c = .stackLost stack) ∧ ∃ t, exec c s = .next t) ∧
    (∃ c s, ((∃ q i, c = .descriptorFetch q i) ∨ (∃ q, c = .descriptorRetry q)) ∧ ∃ t, exec c s = .next t) ∧
    (∃ c s, (∃ q, c = .entryAccept q) ∧ ∃ t, exec c s = .next t) ∧
    (∃ c s, (∃ q, c = .wqeComplete q) ∧ ∃ t, exec c s = .next t) ∧
    (∃ c s, (∃ q, c = .queueErrorEntry q) ∧ ∃ t, exec c s = .next t) ∧
    (∃ c s, (∃ q i, c = .nop q i) ∧ ∃ t, exec c s = .next t) ∧
    (∃ c s, (∃ q i, c = .write q i ∨ c = .writeImm q i ∨ c = .read q i ∨ c = .send q i ∨ c = .sendImm q i ∨ c = .atomicFadd q i ∨
      c = .atomicCswap q i) ∧ ∃ t, exec c s = .next t) ∧
    (∃ c s, (∃ q i, c = .recv q i) ∧ ∃ t, exec c s = .next t) ∧
    (∃ c s, (∃ q i, c = .prefetch q i) ∧ ∃ t, exec c s = .next t) ∧
    (∃ c s, (∃ q i, c = .adviseWillNeed q i) ∧ ∃ t, exec c s = .next t) ∧
    (∃ c s, (∃ q i, c = .adviseDontNeed q i) ∧ ∃ t, exec c s = .next t) ∧
    (∃ c s, (∃ q i, c = .adviseReadMostly q i ∨ c = .advisePreferHbm q i ∨ c = .advisePreferPartner q i) ∧ ∃ t, exec c s = .next
      t) ∧
    (∃ c s, (∃ q i, c = .basinLoad q i ∨ c = .basinStore q i) ∧ ∃ t, exec c s = .next t) ∧
    (∃ c s, (∃ q i, c = .allReduce q i ∨ c = .reduceScatter q i ∨ c = .allGather q i ∨ c = .broadcast q i ∨ c = .reduce q i ∨ c =
      .allToAll q i ∨ c = .allToAllV q i ∨ c = .barrier q i) ∧ ∃ t, exec c s = .next t) ∧
    (∃ c s, (∃ q i, c = .kernelLaunch q i) ∧ ∃ t, exec c s = .next t) ∧
    (∃ c s, (∃ q i, c = .synkoAdd q i ∨ c = .synkoSet q i) ∧ ∃ t, exec c s = .next t) ∧
    (∃ c s, (∃ q i, c = .waitGe q i ∨ c = .armFire q i) ∧ ∃ t, exec c s = .next t) ∧
    (∃ c s, (∃ q i, c = .cbLoad q i) ∧ ∃ t, exec c s = .next t) ∧
    (∃ c s, (∃ qp, c = .packetTransmit qp) ∧ ∃ t, exec c s = .next t) ∧
    (∃ c s, (∃ qp, c = .retryTimeExpiry qp) ∧ ∃ t, exec c s = .next t) ∧
    (∃ c s, (∃ n, c = .synkoApply n) ∧ ∃ t, exec c s = .next t) ∧
    (∃ c s, (∃ q i, c = .synkoDeadline q i) ∧ ∃ t, exec c s = .next t) ∧
    (∃ c s, (∃ g, c = .collData g ∨ c = .collAbort g ∨ c = .collTimeout g) ∧ ∃ t, exec c s = .next t) ∧
    (∃ c s, ((∃ g, c = .collCredit g ∨ c = .collVote g ∨ c = .collCombineDone g) ∨ (∃ m, c = .runnelColl m ∨ c = .runnelCollAbort
      m ∨ c = .runnelAck m)) ∧ ∃ t, exec c s = .next t) ∧
    (∃ c s, (∃ core slot, c = .watchdogExpiry core slot) ∧ ∃ t, exec c s = .next t) ∧
    (∃ c s, (∃ block, c = .fwdbgUpdateDr block) ∧ ∃ t, exec c s = .next t) ∧
    (∃ c s, (∃ failed, c = .selftestDone failed) ∧ ∃ t, exec c s = .next t) :=
  ⟨⟨.workerLost 0, dev, by simp, goes_next (by decide +kernel)⟩,
   ⟨.grant [], dev, by simp, goes_next (by decide +kernel)⟩,
   ⟨.leave [], dev, by simp, goes_next (by decide +kernel)⟩,
   ⟨.resetNotice [], dev, by simp, goes_next (by decide +kernel)⟩,
   ⟨.plotMapFetched ⟨4, [], [], false⟩, dev, by simp, goes_next (by decide +kernel)⟩,
   ⟨.atsTimeout 0 0, dev, by simp, goes_next (by decide +kernel)⟩,
   ⟨.atsInvalidationRequest 0 0 0, dev, by simp, goes_next (by decide +kernel)⟩,
   ⟨.culvertTransferDone 0 0, dev, by simp, goes_next (by decide +kernel)⟩,
   ⟨.stackLost 0, dev, by simp, goes_next (by decide +kernel)⟩,
   ⟨.descriptorFetch 0 0, dev, by simp, goes_next (by decide +kernel)⟩,
   ⟨.entryAccept 0, dev, by simp, goes_next (by decide +kernel)⟩,
   ⟨.wqeComplete 0, dev, by simp, goes_next (by decide +kernel)⟩,
   ⟨.queueErrorEntry 0, dev, by simp, goes_next (by decide +kernel)⟩,
   ⟨.nop 0 0, dev, by simp, goes_next (by decide +kernel)⟩,
   ⟨.write 0 0, dev, by simp, goes_next (by decide +kernel)⟩,
   ⟨.recv 0 0, dev, by simp, goes_next (by decide +kernel)⟩,
   ⟨.prefetch 0 0, dev, by simp, goes_next (by decide +kernel)⟩,
   ⟨.adviseWillNeed 0 0, dev, by simp, goes_next (by decide +kernel)⟩,
   ⟨.adviseDontNeed 0 0, dev, by simp, goes_next (by decide +kernel)⟩,
   ⟨.adviseReadMostly 0 0, dev, by simp, goes_next (by decide +kernel)⟩,
   ⟨.basinLoad 0 0, dev, by simp, goes_next (by decide +kernel)⟩,
   ⟨.allReduce 0 0, dev, by simp, goes_next (by decide +kernel)⟩,
   ⟨.kernelLaunch 0 0, dev, by simp, goes_next (by decide +kernel)⟩,
   ⟨.synkoAdd 0 0, dev, by simp, goes_next (by decide +kernel)⟩,
   ⟨.waitGe 0 0, dev, by simp, goes_next (by decide +kernel)⟩,
   ⟨.cbLoad 0 0, dev, by simp, goes_next (by decide +kernel)⟩,
   ⟨.packetTransmit 0, dev, by simp, goes_next (by decide +kernel)⟩,
   ⟨.retryTimeExpiry 0, dev, by simp, goes_next (by decide +kernel)⟩,
   ⟨.synkoApply 0, dev, by simp, goes_next (by decide +kernel)⟩,
   ⟨.synkoDeadline 0 0, dev, by simp, goes_next (by decide +kernel)⟩,
   ⟨.collData 0, dev, by simp, goes_next (by decide +kernel)⟩,
   ⟨.collCredit 0, dev, by simp, goes_next (by decide +kernel)⟩,
   ⟨.watchdogExpiry 0 0, dev, by simp, goes_next (by decide +kernel)⟩,
   ⟨.fwdbgUpdateDr [], dev, by simp, goes_next (by decide +kernel)⟩,
   ⟨.selftestDone none, dev, by simp, goes_next (by decide +kernel)⟩⟩

end Sys2Proof.Tests
end

section
/-!
PROOFS. What the device holds at reset (State.reset): a register that no write has listed reads as its reset value.
-/
namespace Sys2Proof.Machine

/-! ### The register file at reset -/

/-- A key that a table does not list has the default. -/
theorem Tab.getD_of_find_none {α : Type} {t : Tab α} {n : Nat} (d : α) (h : Tab.find t n = none) : Tab.getD t n d = d := by
  simp [Tab.getD, h]

/-- A register that no write has listed reads as its reset value (R127). -/
theorem getReg_of_unlisted {s : State} {blk off : Nat} (h : Tab.find s.regs (regKey blk off) = none) :
    getReg s blk off = (regReset (regKey blk off)).toNat := by
  unfold getReg
  rw [Tab.getD_of_find_none _ h]

/-- State.reset lists no register. -/
@[simp] theorem getReg_reset (blk off : Nat) : getReg State.reset blk off = (regReset (regKey blk off)).toNat :=
  getReg_of_unlisted (Tab.find_nil _)

end Sys2Proof.Machine

namespace Sys2Proof
open Sys2Proof.Machine

/-- Settles O3: the fields stand so in the record that State.reset is, and the four registers, which it does not list, read as
`regReset` gives them. -/
theorem resetLeavesWhatTheSpecStates : Obligations.ResetLeavesWhatTheSpecStates := by
  unfold Obligations.ResetLeavesWhatTheSpecStates
  have lvCtrl : getReg State.reset 0x0C 0x004 = 0x1907 := by
    rw [getReg_reset]; decide
  have lvPkgCap : getReg State.reset 0x0C 0x00C = 760 := by
    rw [getReg_reset]; decide
  have tnBasinHb : getReg State.reset 0x0B 0x208 = 0x30064 := by
    rw [getReg_reset]; decide
  have wrMapCfg : getReg State.reset 0x03 0x300 = 0x8000000A := by
    rw [getReg_reset]; decide
  exact ⟨rfl, rfl, rfl, rfl, rfl, rfl, rfl, rfl, rfl, rfl, rfl, rfl, rfl, rfl, rfl,
    lvCtrl, lvPkgCap, tnBasinHb, wrMapCfg, rfl, rfl, rfl⟩

end Sys2Proof
end

section
/-!
PROOFS. The rules of the Basin's shared operations: control records, roles, directory changes sent to a standby, key pairs, dormancy
renegotiation (spec file 01).
-/
namespace Sys2Proof.Machine

/-! ### Records and outputs -/

@[simp] theorem sendBasin_eq (s : State) (dst : Nat) (r : CtlRec) : sendBasin s dst r = emit s (.basin dst (ctlBytes r)) := rfl

/-- A heard record of a row's type has that row's effect (R27, R48). -/
theorem onCtl_heard {s : State} {m : Bytes} {r : CtlRec} {type : Nat} (h : Heard s m r type) (k : CtlRec → State) :
    onCtl s type m k = .next (k r) := by
  obtain ⟨hcold, hready, hrec, htype⟩ := h
  simp [onCtl, hcold, hready, hrec, htype]

/-- A command that answers a heard record of its type with a next state of which `P` holds. -/
theorem Answers.of_heard {c : Instr} {s t : State} {m : Bytes} {r : CtlRec} {type : Nat} {k : CtlRec → State} {P : State → Prop}
    (h : Heard s m r type) (hc : exec c s = onCtl s type m k) (hk : k r = t) (p : P t) : Answers c s P :=
  .of t (by rw [hc, onCtl_heard h, hk]) p

/-- Outputs sent one after another, newest first. -/
theorem foldl_emit {α : Type} (f : α → Out) (l : List α) (s : State) :
    l.foldl (fun s x => emit s (f x)) s = { s with out := (l.map f).reverse ++ s.out } := by
  induction l generalizing s with
  | nil => rfl
  | cons x r ih =>
    rw [List.foldl_cons, ih]
    simp [emit]

theorem tellOwners_eq (plot : Nat) (d : Directory) (s : State) :
    tellOwners plot d s = { s with out := (tellOwners plot d s).out } := by
  unfold tellOwners
  rw [foldl_emit (fun x : Nat × Alloc => .ownerLost x.2.slot x.2.inst x.1)]

/-! ### Roles and dormancy -/

@[simp] theorem setRole_basin (s : State) (r : Role) : (setRole s r).basin = { s.basin with role := r } := by
  unfold setRole
  split
  · simp [← ‹s.basin.role = r›]
  · simp

theorem setRole_frame (s : State) (r : Role) :
    setRole s r = { s with basin := (setRole s r).basin, log := (setRole s r).log } := by
  unfold setRole
  split
  · rfl
  · rw [logEv_frame]

/-- Renegotiation writes links and sends frames (R86). -/
theorem renegotiate_frame (s : State) : renegotiate s = { s with links := (renegotiate s).links, out := (renegotiate s).out } := by
  unfold renegotiate
  generalize List.range 32 = ls
  induction ls generalizing s with
  | nil => rfl
  | cons l ls ih =>
    rw [List.foldl_cons, ih]
    dsimp only
    split
    · split <;> rfl
    · rfl

/-- Taking a newer epoch writes `basin`, and asks for the map (R18). -/
theorem noteEpoch_frame (s : State) (e : Nat) : noteEpoch s e = { s with basin := (noteEpoch s e).basin, out := (noteEpoch s e).out } := by
  unfold noteEpoch
  dsimp only
  split <;> rfl

theorem noteEpoch_basin (s : State) (e : Nat) :
    ∃ hold, (noteEpoch s e).basin = { s.basin with epoch := max s.basin.epoch e, holdNew := hold } := by
  unfold noteEpoch
  dsimp only
  split
  · exact ⟨true, rfl⟩
  · exact ⟨s.basin.holdNew, rfl⟩

/-! ### Directory changes (R29) -/

@[simp] theorem noteCommit_plots (d : Directory) (e now : Nat) (a : AfterCommit) : (noteCommit d e now a).plots = d.plots := by
  unfold noteCommit
  split <;> rfl

@[simp] theorem noteCommit_allocs (d : Directory) (e now : Nat) (a : AfterCommit) : (noteCommit d e now a).allocs = d.allocs := by
  unfold noteCommit
  split <;> rfl

@[simp] theorem noteCommit_nextHandle (d : Directory) (e now : Nat) (a : AfterCommit) :
    (noteCommit d e now a).nextHandle = d.nextHandle := by
  unfold noteCommit
  split <;> rfl

/-- The change that `commitDir` sends to a standby. -/
def changeOf (s : State) (dir : Directory) (bump : Nat) (after : AfterCommit) : PendDir :=
  let e := epochLatest s + bump
  { seq := s.mgr.repSeq + 1, dir := noteCommit dir e s.sys.now (resolveAfter e after), bump := bump, after := resolveAfter e after,
    since := s.sys.now }

/-- With a standby a change waits for its acknowledgement: it is sent, and nothing else happens (R29). -/
theorem commitDir_stby {s : State} (h : s.basin.stby = true) (dir : Directory) (bump : Nat) (after : AfterCommit) :
    commitDir s dir bump after =
      { s with
        mgr := { s.mgr with repSeq := s.mgr.repSeq + 1, pend := s.mgr.pend ++ [changeOf s dir bump after] },
        out := .replicate (s.mgr.repSeq + 1) (changeOf s dir bump after).dir :: s.out } := by
  unfold commitDir
  exact if_pos h

@[simp] theorem changeOf_plots (s : State) (dir : Directory) (bump : Nat) (after : AfterCommit) :
    (changeOf s dir bump after).dir.plots = dir.plots := noteCommit_plots ..

@[simp] theorem changeOf_allocs (s : State) (dir : Directory) (bump : Nat) (after : AfterCommit) :
    (changeOf s dir bump after).dir.allocs = dir.allocs := noteCommit_allocs ..

@[simp] theorem changeOf_nextHandle (s : State) (dir : Directory) (bump : Nat) (after : AfterCommit) :
    (changeOf s dir bump after).dir.nextHandle = dir.nextHandle := noteCommit_nextHandle ..

/-- What a change leaves that a manager with a standby sends after outputs and free values alone: the directory in force stands, the
newest one is that of the change, every output is kept, and nothing but `mgr` and `out` is written. -/
theorem commitDir_sends {s u : State} (frame : u = { s with sys := u.sys, out := u.out }) (stby : s.basin.stby = true)
    (dir : Directory) (bump : Nat) (after : AfterCommit) :
    (commitDir u dir bump after).mgr.dir = s.mgr.dir ∧
    dirLatest (commitDir u dir bump after) = (changeOf u dir bump after).dir ∧
    (∀ o ∈ u.out, o ∈ (commitDir u dir bump after).out) ∧
    (commitDir u dir bump after).sys = u.sys ∧
    commitDir u dir bump after =
      { s with mgr := (commitDir u dir bump after).mgr, out := (commitDir u dir bump after).out, sys := u.sys } := by
  have stby : u.basin.stby = true := by rwa [frame]
  have mgr : u.mgr.dir = s.mgr.dir := by rw [frame]
  rw [commitDir_stby stby]
  refine ⟨mgr, by simp [dirLatest], fun o ho => List.mem_cons_of_mem _ ho, rfl, ?_⟩
  rw [frame]

/-! ### Key pairs (R288) -/

/-- Keying a pair uses 32 free values and installs one secret at both ends. -/
theorem keyPair_eq (mirror : Bool) (a : Nat) (s : State) (b : Nat) :
    keyPair mirror a s b = { s with
      sys := { s.sys with freeCtr := s.sys.freeCtr + 32 },
      out := .keyInstall b a mirror (1 - bit (decide (b < a))) (freeBytes s 32)
        :: .keyInstall a b mirror (bit (decide (b < a))) (freeBytes s 32) :: s.out } := rfl

@[simp] theorem freeBytes_length (s : State) (n : Nat) : (freeBytes s n).length = n := by simp [freeBytes]

/-- Both ends of a pair hold one secret of 32 bytes, ROLE 0 at the lower slot. -/
def Keyed (t : State) (mirror : Bool) (a b : Nat) : Prop :=
  ∃ sec, sec.length = 32 ∧ Out.keyInstall a b mirror (bit (decide (b < a))) sec ∈ t.out ∧
    Out.keyInstall b a mirror (1 - bit (decide (b < a))) sec ∈ t.out

theorem Keyed.of_out {t u : State} {mirror : Bool} {a b : Nat} (h : Keyed t mirror a b) (ho : ∀ o ∈ t.out, o ∈ u.out) :
    Keyed u mirror a b := by
  obtain ⟨sec, hlen, hlow, hhigh⟩ := h
  exact ⟨sec, hlen, ho _ hlow, ho _ hhigh⟩

theorem keyPair_keyed (mirror : Bool) (a : Nat) (s : State) (b : Nat) : Keyed (keyPair mirror a s b) mirror a b := by
  rw [keyPair_eq]
  exact ⟨freeBytes s 32, by simp, by simp, by simp⟩

theorem keyPair_out (mirror : Bool) (a : Nat) (s : State) (b : Nat) : ∀ o ∈ s.out, o ∈ (keyPair mirror a s b).out := by
  intro o ho
  rw [keyPair_eq]
  simp [ho]

theorem foldl_keyPair_out (mirror : Bool) (a : Nat) (bs : List Nat) (s : State) :
    ∀ o ∈ s.out, o ∈ (bs.foldl (keyPair mirror a) s).out := by
  induction bs generalizing s with
  | nil => exact fun _ ho => ho
  | cons b bs ih => exact fun o ho => ih _ o (keyPair_out mirror a s b o ho)

/-- Keying a device with a list of others writes the free counter and the outputs. -/
theorem foldl_keyPair_frame (mirror : Bool) (a : Nat) (bs : List Nat) (s : State) :
    bs.foldl (keyPair mirror a) s =
      { s with sys := (bs.foldl (keyPair mirror a) s).sys, out := (bs.foldl (keyPair mirror a) s).out } := by
  induction bs generalizing s with
  | nil => rfl
  | cons b bs ih =>
    rw [List.foldl_cons, ih]
    rfl

theorem foldl_keyPair_keyed (mirror : Bool) (a : Nat) (bs : List Nat) (s : State) :
    ∀ b ∈ bs, Keyed (bs.foldl (keyPair mirror a) s) mirror a b := by
  induction bs generalizing s with
  | nil => simp
  | cons b bs ih =>
    intro c hc
    rcases List.mem_cons.1 hc with rfl | hc
    · exact (keyPair_keyed mirror a s c).of_out (foldl_keyPair_out mirror a bs _)
    · exact ih _ c hc

end Sys2Proof.Machine
end

section
/-!
PROOFS. Joining a Basin: JOIN at the manager, its answers at the worker (spec file 01, R22, R23, R41, R286, R288).
-/
namespace Sys2Proof.Machine

/-! ### JOIN at the manager -/

/-- The owners told when a device joins at a slot: of the slot's plot number, and of the plot the device once lost (R41). -/
def ownersTold (s : State) (d : Directory) (serial n : Nat) : State :=
  match Tab.find d.lost serial with
  | some p => if p = n then tellOwners n d s else tellOwners p d (tellOwners n d s)
  | none => tellOwners n d s

/-- The directory once the device's lost plot has been told (R41). -/
def withoutLost (d : Directory) (serial : Nat) : Directory :=
  match Tab.find d.lost serial with
  | some p => { dropStale p d with lost := Tab.del d.lost serial }
  | none => d

/-- With BASIN_ENC the device at a slot is keyed with every worker of a directory (R288). -/
def joinKeyed (s : State) (d : Directory) (n : Nat) : State :=
  if s.policy.basinEnc then (d.workers.map fun w => w.2.slot).foldl (keyPair false n) s else s

/-- The state in which an accepted JOIN sends its directory change. -/
def joinReady (s : State) (d : Directory) (serial n : Nat) : State := joinKeyed (ownersTold s d serial n) (withoutLost d serial) n

/-- An accepted JOIN tells the owners, keys the device, and sends the directory that lists it. -/
theorem acceptJoin_eq (s : State) (d : Directory) (serial n len : Nat) :
    acceptJoin s d serial n len =
      commitDir (joinReady s d serial n) (dirJoin (withoutLost d serial) serial n len) 1
        (.record 0x09 serial (ackSubject (joinReady s d serial n) n)) := by
  unfold acceptJoin joinReady ownersTold withoutLost
  cases Tab.find d.lost serial <;> rfl

theorem ownersTold_frame (s : State) (d : Directory) (serial n : Nat) :
    ownersTold s d serial n = { s with out := (ownersTold s d serial n).out } := by
  unfold ownersTold
  split
  · split
    · rw [tellOwners_eq]
    · rw [tellOwners_eq, tellOwners_eq n]
  · rw [tellOwners_eq]

theorem ownersTold_policy (s : State) (d : Directory) (serial n : Nat) : (ownersTold s d serial n).policy = s.policy := by
  rw [ownersTold_frame]

@[simp] theorem withoutLost_workers (d : Directory) (serial : Nat) : (withoutLost d serial).workers = d.workers := by
  unfold withoutLost
  split <;> rfl

theorem joinReady_frame (s : State) (d : Directory) (serial n : Nat) :
    joinReady s d serial n = { s with sys := (joinReady s d serial n).sys, out := (joinReady s d serial n).out } := by
  unfold joinReady joinKeyed
  split
  · rw [foldl_keyPair_frame, ownersTold_frame]
  · rw [ownersTold_frame]

theorem joinReady_sys_plain {s : State} (h : s.policy.basinEnc = false) (d : Directory) (serial n : Nat) :
    (joinReady s d serial n).sys = s.sys := by
  have plain : (ownersTold s d serial n).policy.basinEnc = false := by rwa [ownersTold_policy]
  rw [joinReady, joinKeyed, if_neg (by simp [plain]), ownersTold_frame]

theorem joinReady_keyed {s : State} (h : s.policy.basinEnc = true) (d : Directory) (serial n : Nat) :
    ∀ p ∈ d.workers, Keyed (joinReady s d serial n) false n p.2.slot := by
  intro p hp
  rw [joinReady, joinKeyed, ownersTold_policy, if_pos h, withoutLost_workers]
  exact foldl_keyPair_keyed false n _ _ p.2.slot (List.mem_map_of_mem hp)

/-- The change of a JOIN lists the device at its slot. -/
theorem changeOf_join_worker (s : State) (d : Directory) (serial slot len sub : Nat) :
    ∃ w, Tab.find (changeOf s (dirJoin d serial slot len) 1 (.record 0x09 serial sub)).dir.workers serial = some w ∧
      w.slot = slot :=
  ⟨_, Tab.find_modify_self _ (Tab.find_put_self ..), rfl⟩

/-- Its plot has the slot's number, the length it brought and no mirror. -/
theorem changeOf_join_plot (s : State) (d : Directory) (serial slot len bump : Nat) (a : AfterCommit) :
    ∃ e, Tab.find (changeOf s (dirJoin d serial slot len) bump a).dir.plots slot = some e ∧ e.slot = slot ∧ e.len = len ∧
      e.paired = false :=
  ⟨_, by rw [changeOf_plots]; exact Tab.find_put_self .., rfl, rfl, rfl⟩

/-- With a standby an accepted JOIN sends the directory that lists the device and its plot, and keys the device with every worker where
the policy asks for it (R29, R288). -/
theorem acceptJoin_stby {s t : State} {d : Directory} {serial n len : Nat} (stby : s.basin.stby = true)
    (h : acceptJoin s d serial n len = t) :
    t.mgr.dir = s.mgr.dir ∧
    (∃ w e, Tab.find (dirLatest t).workers serial = some w ∧ w.slot = n ∧ Tab.find (dirLatest t).plots n = some e ∧ e.slot = n ∧
      e.len = len ∧ e.paired = false) ∧
    t = { s with mgr := t.mgr, out := t.out, sys := t.sys } ∧
    (s.policy.basinEnc = false → t.sys = s.sys) ∧
    (s.policy.basinEnc = true → ∀ p ∈ d.workers, Keyed t false n p.2.slot) := by
  subst h
  rw [acceptJoin_eq]
  obtain ⟨dir, latest, out, sys, sent⟩ := commitDir_sends (joinReady_frame s d serial n) stby
    (dirJoin (withoutLost d serial) serial n len) 1 (.record 0x09 serial (ackSubject (joinReady s d serial n) n))
  refine ⟨dir, ?_, by rw [sys]; exact sent, fun plain => ?_, fun enc p hp => (joinReady_keyed enc d serial n p hp).of_out out⟩
  · obtain ⟨w, worker, wslot⟩ := changeOf_join_worker (joinReady s d serial n) (withoutLost d serial) serial n len _
    obtain ⟨e, plot, rest⟩ := changeOf_join_plot (joinReady s d serial n) (withoutLost d serial) serial n len 1 _
    rw [latest]
    exact ⟨w, e, worker, wslot, plot, rest⟩
  · rw [sys, joinReady_sys_plain plain]

/-- A JOIN of a device that is not listed, attested and placed, is accepted (R22, R286). -/
theorem execJoin_accepts {s : State} {m : Bytes} {r : CtlRec} {ev : AttestEv} {n : Nat} (h : Heard s m r 0x08)
    (active : s.basin.role = .active) (unlisted : Tab.find (dirLatest s).workers r.serial = none)
    (attested : attestCheck s r.serial ev = 0) (free : freeSlot (dirLatest s) = some n) :
    execJoin m ev s = .next (acceptJoin s (dirLatest s) r.serial n (fld r.subject 63 32)) := by
  unfold execJoin
  simp [onCtl_heard h, active, unlisted, attested, free]

/-- A device that fails attestation is logged and refused (R286). -/
theorem execJoin_refuses {s : State} {m : Bytes} {r : CtlRec} {ev : AttestEv} (h : Heard s m r 0x08) (active : s.basin.role = .active)
    (unlisted : Tab.find (dirLatest s).workers r.serial = none) (failed : attestCheck s r.serial ev ≠ 0) :
    execJoin m ev s =
      .next (sendBasin (logAttest s 0 (attestCheck s r.serial ev) r.serial) r.serial (ownCtl s 0x0A (0x04 * 2 ^ 56))) := by
  unfold execJoin
  simp [onCtl_heard h, active, unlisted, failed]

theorem logAttest_frame (s : State) (slot chk serial : Nat) :
    logAttest s slot chk serial = { s with log := (logAttest s slot chk serial).log } := logEv_frame ..

/-! ### JOIN_ACK at the worker -/

/-- The device that a JOIN_ACK makes a worker, before its role, epoch and dormancy follow (R23, R26, R41). -/
def ackedBasin (s : State) (r : CtlRec) : Basin :=
  { s.basin with slot := fld r.subject 39 32, plot := fld r.subject 31 24, hbSeen := none,
                 period := fld r.subject 63 48, miss := fld r.subject 47 40,
                 nextPeriod := fld r.subject 63 48, nextMiss := fld r.subject 47 40,
                 adopted := true, mgrSerial := some r.serial, mgrSlot := r.slot, lastHb := s.sys.now,
                 mgrMissing := false, grant := none, handoverTo := none,
                 firstJoin := none, map := { s.basin.map with epoch := 0 } }

theorem execJoinAck_accepts {s : State} {m : Bytes} {r : CtlRec} (h : Heard s m r 0x09) (unjoined : s.basin.role = .unjoined)
    (cap : roleCap s = 1) (sender : r.serial ∈ s.basin.attested) :
    execJoinAck m s =
      .next (renegotiate (noteEpoch (setRole { emptyPlot s with basin := ackedBasin s r } .worker) r.epoch)) :=
  (onCtl_heard h _).trans (congrArg _ (if_neg (by simp [unjoined, cap, sender])))

/-- No span of the plot is left (R41). -/
theorem emptyPlot_spans (s : State) : ∀ p ∈ (emptyPlot s).spans, p.2.kind ≠ .plot := by
  intro p hp
  have kept := (List.mem_filter.1 hp).2
  simpa using kept

end Sys2Proof.Machine

namespace Sys2Proof
open Sys2Proof.Machine

/-- Settles O16, one case per clause. An accepted JOIN is `acceptJoin_stby`; a JOIN_ACK is followed through role, epoch and dormancy by
what each of them writes. -/
theorem workersJoinThroughAttestation : Obligations.WorkersJoinThroughAttestation := by
  unfold Obligations.WorkersJoinThroughAttestation
  refine ⟨?retry, ?timeout, ?accept, ?again, ?refuse, ?full, ?ack, ?nak⟩
  case retry =>
    intro s n unjoined cap ready attested
    refine .of _ (if_neg (by simp [unjoined, cap, ready, attested])) ?_
    rw [attested]
    exact ⟨rfl, rfl, rfl⟩
  case timeout =>
    intro s a unjoined first
    exact .of _ (by simp [execJoinTimeout, unjoined, first]; rfl) ⟨rfl, rfl, rfl, rfl⟩
  case accept =>
    intro s m r ev n heard active stby none unlisted attested free
    have latest : dirLatest s = s.mgr.dir := by simp [dirLatest, none]
    have accepts := execJoin_accepts heard active (by rwa [latest]) attested (by rwa [latest])
    rw [latest] at accepts
    exact .of _ accepts (acceptJoin_stby stby rfl)
  case again =>
    intro s m r ev w heard active listed known
    exact .of _ (by simp [execJoin, onCtl_heard heard, active, listed, known]; rfl) rfl
  case refuse =>
    intro s m r ev heard active unlisted failed
    refine .of _ (execJoin_refuses heard active unlisted failed) ?_
    rw [logAttest_frame]
    exact ⟨rfl, rfl, rfl⟩
  case full =>
    intro s m r ev heard active unlisted attested full
    exact .of _ (by simp [execJoin, onCtl_heard heard, active, unlisted, attested, full]; rfl) rfl
  case ack =>
    intro s m r heard unjoined cap sender
    refine .of _ (execJoinAck_accepts heard unjoined cap sender) ?_
    set acked := setRole { emptyPlot s with basin := ackedBasin s r } .worker with hacked
    have ackedFrame : acked = { emptyPlot s with basin := acked.basin, log := acked.log } := by rw [hacked, setRole_frame]
    have basin : acked.basin = { ackedBasin s r with role := .worker } := setRole_basin ..
    obtain ⟨hold, noted⟩ := noteEpoch_basin acked r.epoch
    rw [renegotiate_frame]
    dsimp only
    rw [noteEpoch_frame, noted, basin, ackedFrame]
    exact ⟨rfl, rfl, rfl, rfl, rfl, rfl, rfl, rfl, rfl, rfl, emptyPlot_spans s⟩
  case nak =>
    intro s m r heard unjoined sender
    exact .of_heard heard rfl (if_neg (by simp [unjoined, sender])) ⟨unjoined, rfl⟩

end Sys2Proof
end

section
/-!
PROOFS. The manager-bound commands at the active manager and at their issuer (spec file 01, R36, R43 to R51).
-/
namespace Sys2Proof.Machine

/-! ### Requests at the manager -/

/-- A request that has no committed result is carried out on the newest directory (R36). -/
theorem onMgr_new {s : State} {slot reqId : Nat} (active : s.basin.role = .active)
    (new : Tab.find s.mgr.dir.results (resultKey slot reqId) = none) (k : Directory → State) :
    onMgr s slot reqId k = .next (k (dirLatest s)) := by
  simp [onMgr, active, new]

/-- A new request that answers with a next state of which `P` holds. -/
theorem Answers.of_new {c : Instr} {s t : State} {slot reqId : Nat} {k : Directory → State} {P : State → Prop}
    (active : s.basin.role = .active) (new : Tab.find s.mgr.dir.results (resultKey slot reqId) = none)
    (hc : exec c s = onMgr s slot reqId k) (hk : k (dirLatest s) = t) (p : P t) : Answers c s P :=
  .of t (by rw [hc, onMgr_new active new, hk]) p

/-! ### Allocation (R43, R44, R50) -/

@[simp] theorem numberSpans_length (es : List Extent) (ns : List Nat) : (numberSpans es ns).length = es.length := by
  induction es generalizing ns with
  | nil => rfl
  | cons e r ih => simp [numberSpans, ih]

/-- Numbering keeps every extent but for its span. -/
theorem mem_numberSpans {es : List Extent} (ns : List Nat) {x : Extent} (h : x ∈ es) :
    ∃ span, { x with span := span } ∈ numberSpans es ns := by
  induction es generalizing ns with
  | nil => cases h
  | cons e r ih =>
    rcases List.mem_cons.1 h with rfl | h
    · exact ⟨_, List.mem_cons_self ..⟩
    · obtain ⟨span, hspan⟩ := ih (ns.drop 1) h
      exact ⟨span, List.mem_cons_of_mem _ hspan⟩

theorem askSpans_eq (d : Directory) (h : Nat) (s : State) (es : List Extent) :
    askSpans d h s es =
      { s with out := (es.map fun e => Out.createSpan (extentOwner d e) h e.plot e.off e.len).reverse ++ s.out } :=
  foldl_emit (fun e : Extent => .createSpan (extentOwner d e) h e.plot e.off e.len) es s

theorem askSpans_frame (d : Directory) (h : Nat) (s : State) (es : List Extent) :
    askSpans d h s es = { s with sys := (askSpans d h s es).sys, out := (askSpans d h s es).out } := by
  rw [askSpans_eq]

@[simp] theorem askSpans_sys (d : Directory) (h : Nat) (s : State) (es : List Extent) : (askSpans d h s es).sys = s.sys := by
  rw [askSpans_eq]

/-- Each owner is asked for a span over its extent. -/
theorem askSpans_asks (d : Directory) (h : Nat) (s : State) {es : List Extent} (ns : List Nat) {x : Extent} (hx : x ∈ es) :
    Out.createSpan (extentOwner d x) h x.plot x.off x.len ∈ (askSpans d h s (numberSpans es ns)).out := by
  obtain ⟨span, hspan⟩ := mem_numberSpans ns hx
  rw [askSpans_eq]
  exact List.mem_append_left _ (List.mem_reverse.2 (List.mem_map.2 ⟨_, hspan, rfl⟩))

/-- The directory with a new allocation under the next handle. -/
def allocated (d : Directory) (r : AllocReq) (x : List Extent) : Directory :=
  refreshFree { d with
    allocs := Tab.put d.allocs d.nextHandle { inst := r.inst, slot := r.slot, extents := x, shared := [] }
    nextHandle := d.nextHandle + 1 }

/-- A request that fits asks the owners for spans and sends the directory with the allocation (R43, R44, R50). -/
theorem execBasinAlloc_fits {s : State} {r : AllocReq} {sh : List Share} {es : List Extent} {left : Nat}
    (active : s.basin.role = .active) (new : Tab.find s.mgr.dir.results (resultKey r.slot r.reqId) = none)
    (dealt : dealStripe ((r.length + granule - 1) / granule) r.stripe (eligible (dirLatest s) r) = (left, sh))
    (fits : left ≤ if r.overflow then ovfFree (dirLatest s) r.slot else 0)
    (hes : es = plotExtents (dirLatest s) sh ++ (if left = 0 then [] else ovfExtents (dirLatest s) r.slot left))
    (room : es.length ≤ r.resultCap) :
    ∃ data, execBasinAlloc r s = .next (commitDir
      (askSpans (dirLatest s) (dirLatest s).nextHandle s (numberSpans es r.spans))
      (allocated (dirLatest s) r (numberSpans es r.spans)) 0 (.reply r.slot r.reqId data)) := by
  unfold execBasinAlloc
  rw [onMgr_new active new]
  simp only [dealt, ← hes, Nat.not_lt.2 fits, Nat.not_lt.2 room, if_false]
  exact ⟨_, rfl⟩

/-! ### Freeing (R47, R51) -/

/-- The owners of one requester's extents are asked to destroy their spans. -/
def spansDestroyed (s : State) (slot inst : Nat) : State :=
  ((dirLatest s).allocs.filter fun x => x.2.inst = inst ∧ x.2.slot = slot).foldl (fun s x => emit s (.destroySpans x.1)) s

theorem spansDestroyed_frame (s : State) (slot inst : Nat) :
    spansDestroyed s slot inst =
      { s with sys := (spansDestroyed s slot inst).sys, out := (spansDestroyed s slot inst).out } := by
  unfold spansDestroyed
  rw [foldl_emit (fun x : Nat × Alloc => .destroySpans x.1)]

@[simp] theorem spansDestroyed_sys (s : State) (slot inst : Nat) : (spansDestroyed s slot inst).sys = s.sys := by
  unfold spansDestroyed
  rw [foldl_emit (fun x : Nat × Alloc => .destroySpans x.1)]

/-- The directory without one requester's allocations. -/
def withoutAllocs (d : Directory) (slot inst : Nat) : Directory :=
  refreshFree { d with allocs := Tab.keep (fun _ x => !(x.inst = inst && x.slot = slot)) d.allocs }

theorem withoutAllocs_allocs (d : Directory) (slot inst : Nat) :
    ∀ p ∈ (withoutAllocs d slot inst).allocs, ¬ (p.2.inst = inst ∧ p.2.slot = slot) := by
  intro p hp
  have kept := (List.mem_filter.1 hp).2
  simpa [imp_iff_not_or] using kept

/-- The manager frees what a torn-down requester held (R47). -/
theorem execPartnerAllocFree_frees {s : State} (active : s.basin.role = .active) (slot inst : Nat) :
    execPartnerAllocFree slot inst s =
      .next (commitDir (spansDestroyed s slot inst) (withoutAllocs (dirLatest s) slot inst) 0 .nothing) :=
  if_neg (by simp [active])

/-! ### Pairing (R19, R51, R288) -/

/-- The devices of a primary and its mirror are keyed with each other where the policy asks for it. -/
def pairKeyed (s : State) (a b : MapEnt) : State := if s.policy.basinEnc then keyPair true a.slot s b.slot else s

theorem pairKeyed_frame (s : State) (a b : MapEnt) :
    pairKeyed s a b = { s with sys := (pairKeyed s a b).sys, out := (pairKeyed s a b).out } := by
  unfold pairKeyed
  split <;> rfl

theorem pairKeyed_sys_plain {s : State} (h : s.policy.basinEnc = false) (a b : MapEnt) : (pairKeyed s a b).sys = s.sys := by
  simp [pairKeyed, h]

theorem pairKeyed_keyed {s : State} (h : s.policy.basinEnc = true) (a b : MapEnt) : Keyed (pairKeyed s a b) true a.slot b.slot := by
  rw [pairKeyed, if_pos h]
  exact keyPair_keyed ..

/-- The directory in which plot `m` mirrors plot `p`. -/
def pairDir (d : Directory) (p m : Nat) (a b : MapEnt) : Directory :=
  { d with plots := Tab.put (Tab.put d.plots p { a with paired := true, mirrorSlot := b.slot }) m
                      { b with mirrorFor := p, spare := false } }

theorem pairDir_primary {p m : Nat} (h : p ≠ m) (d : Directory) (a b : MapEnt) :
    Tab.find (pairDir d p m a b).plots p = some { a with paired := true, mirrorSlot := b.slot } := by
  rw [pairDir, Tab.find_put_ne _ _ _ _ h, Tab.find_put_self]

theorem pairDir_mirror (d : Directory) (p m : Nat) (a b : MapEnt) :
    Tab.find (pairDir d p m a b).plots m = some { b with mirrorFor := p, spare := false } :=
  Tab.find_put_self ..

/-- Two assigned plots of one length on two devices, without extents, neither paired nor being copied, are paired (R19, R51). -/
theorem execBasinPairPair_pairs {s : State} {r : PairReq} {a b : MapEnt} (active : s.basin.role = .active)
    (new : Tab.find s.mgr.dir.results (resultKey r.slot r.reqId) = none) (primary : assigned (dirLatest s) r.primary = some a)
    (mirror : assigned (dirLatest s) r.mirror = some b) (plots : r.primary ≠ r.mirror) (slots : a.slot ≠ b.slot) (len : a.len = b.len)
    (empty : holdsExtents (dirLatest s) r.primary = false) (empty' : holdsExtents (dirLatest s) r.mirror = false)
    (single : a.paired = false) (single' : b.paired = false) (still : a.copying = false) (still' : b.copying = false) :
    execBasinPairPair r s =
      .next (commitDir (pairKeyed s a b) (pairDir (dirLatest s) r.primary r.mirror a b) 1 (.replyEpoch r.slot r.reqId)) := by
  unfold execBasinPairPair
  rw [onMgr_new active new]
  simp only [primary, mirror]
  rw [if_neg (by simp [plots, slots, len]), if_neg (by simp [empty, empty', single, single', still, still'])]
  rfl

/-! ### The issuer's side (R36, R51) -/

/-- A reply that brings no placement records and frees nothing completes the held command with its status and data (R51). -/
theorem execManagerReply_plain {s : State} {h : HeldCmd} {n : Nat} {st : Byte} {d : Bytes}
    (found : s.mgr.held.find? (fun h => h.reqId = n) = some h) (plain : st ≠ Status.ok ∨ (h.code ≠ 0x40 ∧ h.code ≠ 0x41)) :
    execManagerReply n st d s = .next (mbxDone { s with mgr := { s.mgr with held := s.mgr.held.erase h } } st d) := by
  unfold execManagerReply
  simp only [found]
  by_cases failed : st = Status.ok
  · obtain ⟨alloc, free⟩ := plain.resolve_left (not_not_intro failed)
    simp [failed, alloc, free]
  · simp [failed]

end Sys2Proof.Machine

namespace Sys2Proof
open Sys2Proof.Machine

/-- Settles O19, one case per clause. What changes the directory does so by one change sent to the standby (`commitDir_sends`); every other
command answers at once. -/
theorem managerCommandsAnswerAsStated : Obligations.ManagerCommandsAnswerAsStated := by
  unfold Obligations.ManagerCommandsAnswerAsStated
  refine ⟨?alloc, ?shortfall, ?askOwners, ?free, ?notOwner, ?repeated, ?pair, ?markSpare, ?unmarkSpare, ?markUnassigned, ?queryMap,
    ?queryUnknown, ?queryAlloc, ?partnerFree, ?timeout, ?resend, ?reply⟩
  case alloc =>
    intro s r sh es left active stby new dealt fits hes room
    obtain ⟨data, sends⟩ := execBasinAlloc_fits active new dealt fits hes room
    obtain ⟨dir, latest, out, -, sent⟩ := commitDir_sends
      (askSpans_frame (dirLatest s) (dirLatest s).nextHandle s (numberSpans es r.spans)) stby
      (allocated (dirLatest s) r (numberSpans es r.spans)) 0 (.reply r.slot r.reqId data)
    rw [askSpans_sys] at sent
    refine .of _ sends ⟨dir, ?_, ?_, fun x hx => out _ (askSpans_asks _ _ s r.spans hx), sent⟩
    · rw [latest, changeOf_allocs]
      exact ⟨_, Tab.find_put_self .., rfl, rfl, numberSpans_length ..⟩
    · rw [latest, changeOf_nextHandle]
      rfl
  case shortfall =>
    intro s r sh left ov active new dealt hov short
    refine .of_new active new (exec_basinAlloc r s) ?_ rfl
    simp only [dealt, ← hov, short, if_true]
    rfl
  case askOwners =>
    intro s r a active new found inst slot undrained
    refine .of_new active new (exec_basinFree r s) ?_ rfl
    simp only [found]
    rw [if_neg (by simp [inst, slot]), if_pos (by simp [undrained])]
    rfl
  case free =>
    intro s r a active stby new found inst slot drained
    obtain ⟨dir, latest, -, -, sent⟩ := commitDir_sends (u := s) rfl stby
      (refreshFree { dirLatest s with allocs := Tab.del (dirLatest s).allocs r.handle }) 0
      (.reply r.slot r.reqId (putLE 8 (extentBytes a.extents fun _ => true)))
    refine .of_new active new (exec_basinFree r s) ?_ ⟨dir, ?_, sent⟩
    · simp only [found]
      rw [if_neg (by simp [inst, slot]), if_neg (by simp [drained])]
    · rw [latest, changeOf_allocs]
      exact Tab.find_del_self ..
  case notOwner =>
    intro s r a active new found other
    refine .of_new active new (exec_basinFree r s) ?_ rfl
    simp only [found, other, if_true]
    rfl
  case repeated =>
    intro s r x active found
    exact .of _ (by simp [execBasinFree, onMgr, active, found]; rfl) rfl
  case pair =>
    intro s r a b active stby new primary mirror plots slots len empty empty' single single' still still'
    obtain ⟨dir, latest, out, sys, sent⟩ := commitDir_sends (pairKeyed_frame s a b) stby
      (pairDir (dirLatest s) r.primary r.mirror a b) 1 (.replyEpoch r.slot r.reqId)
    refine .of _ (execBasinPairPair_pairs active new primary mirror plots slots len empty empty' single single' still still')
      ⟨dir, ?_, ?_, by rw [sys]; exact sent, fun plain => ?_, fun enc => (pairKeyed_keyed enc a b).of_out out⟩
    · rw [latest, changeOf_plots]
      exact pairDir_primary plots ..
    · rw [latest, changeOf_plots]
      exact pairDir_mirror ..
    · rw [sys, pairKeyed_sys_plain plain]
  case markSpare =>
    intro s r a active stby new found empty single still unmarked
    obtain ⟨-, latest, -, -, sent⟩ := commitDir_sends (u := s) rfl stby
      { dirLatest s with plots := Tab.put (dirLatest s).plots r.primary { a with spare := true } } 1 (.replyEpoch r.slot r.reqId)
    refine .of_new active new (exec_basinPairMarkSpare r s) ?_ ⟨?_, sent⟩
    · simp only [found]
      rw [if_neg (by simp [empty, single, still, unmarked])]
    · rw [latest, changeOf_plots]
      exact Tab.find_put_self ..
  case unmarkSpare =>
    intro s r a active stby new found marked
    obtain ⟨-, latest, -, -, sent⟩ := commitDir_sends (u := s) rfl stby
      { dirLatest s with plots := Tab.put (dirLatest s).plots r.primary { a with spare := false } } 1 (.replyEpoch r.slot r.reqId)
    refine .of_new active new (exec_basinPairUnmarkSpare r s) ?_ ⟨?_, sent⟩
    · simp only [found]
      rw [if_neg (by simp [marked])]
    · rw [latest, changeOf_plots]
      exact Tab.find_put_self ..
  case markUnassigned =>
    intro s r active new unassigned
    refine .of_new active new (exec_basinPairMarkSpare r s) ?_ rfl
    simp only [unassigned]
    rfl
  case queryMap =>
    intro s n active
    exact .of _ (if_neg (by simp [active])) ⟨⟨_, rfl, rfl, rfl⟩, rfl⟩
  case queryUnknown =>
    intro s n h active unknown
    exact .of _ (by simp [execBasinQueryAlloc, active, unknown]; rfl) rfl
  case queryAlloc =>
    intro s n h a active found
    exact .of _ (by simp [execBasinQueryAlloc, active, found]; rfl) ⟨⟨_, rfl, rfl⟩, rfl⟩
  case partnerFree =>
    intro s n i active stby
    obtain ⟨dir, latest, -, -, sent⟩ := commitDir_sends (spansDestroyed_frame s n i) stby (withoutAllocs (dirLatest s) n i) 0 .nothing
    rw [spansDestroyed_sys] at sent
    refine .of _ (execPartnerAllocFree_frees active n i) ⟨dir, ?_, sent⟩
    rw [latest, changeOf_allocs]
    exact withoutAllocs_allocs _ _ _
  case timeout =>
    intro s h r held unknown
    refine .of _ (by rw [exec_heldCommandTimeout, execHeldCommandTimeout, held]; simp only [unknown]; rfl) 
      ⟨by simp, by simp, by simp, ?_⟩
    rw [mbxDone_frame]
    rfl
  case resend =>
    intro s h held known
    exact .of _ (by simp [execHeldCommandResend, known, held]; rfl) rfl
  case reply =>
    intro s h n st d held id plain
    have found : s.mgr.held.find? (fun h => h.reqId = n) = some h := by simp [held, id]
    have left : s.mgr.held.erase h = [] := by simp [held]
    refine .of _ (execManagerReply_plain found plain) ?_
    rw [left]

end Sys2Proof
end

section
/-!
PROOFS. States that the statements about the Basin do not exclude and in which one of their clauses fails, each run through the model.
-/
namespace Sys2Proof.Machine

/-- What a command's next state reads, where it has one. -/
def readAfter {α : Type} (c : Instr) (s : State) (f : State → α) : Option α :=
  match exec c s with
  | .next t => some (f t)
  | _ => none

theorem readAfter_of_next {α : Type} {c : Instr} {s t : State} (f : State → α) (h : exec c s = .next t) :
    readAfter c s f = some (f t) := by
  simp [readAfter, h]

/-- A READY device at slot 2 in a role. -/
def inRole (r : Role) : State :=
  { State.reset with sys.coldLow := false, boot.stage := .ready, basin.role := r, basin.slot := 2 }

/-- The same with a link whose agreed interval, 51 units of 10 µs, exceeds half the period in force and is not marked for a new
agreement (R85, R86). -/
def overCap (r : Role) : State := { inRole r with links := [(0, { LinkSt.reset with agreed := 51 })] }

/-- A HEARTBEAT of the device 9 with the periods of `overCap`, 100 and 100. -/
def steadyHeartbeat : CtlRec :=
  { type := 0x01, flags := 0, role := 3, slot := 65, serial := 9, epoch := 0, subject := 100 * 2 ^ 48 + 100 * 2 ^ 24, seq := 1 }

theorem heard_steadyHeartbeat (r : Role) : Heard (overCap r) (ctlBytes steadyHeartbeat) steadyHeartbeat 0x01 :=
  ⟨rfl, rfl, by decide +kernel, rfl⟩

/-- A write of REQUEST_SWAP to TN_ROLE_CMD by Tender. -/
def swapWrite : RegWr := ⟨.tender, true, 2⟩

/-- A BASIN queue pair that owes an acknowledgement since its plot had a mirror, and sent its last control packet at 1 s. -/
def owingQp : Qp :=
  { Qp.fresh 0 .basin 0 0 0 0 0 0 0 1 0 false with st := .connected, mirAck := 1, ctlAt := 1000000000 }

/-- A claimant at 1 s with its majority of no workers since 0, the link of `owingQp` up. -/
def owingClaimant : State :=
  { inRole .claiming with
    sys.now := 1000000000, mgr.majoritySince := some 0, qps := [(1, owingQp)], links := [(0, { LinkSt.reset with up := true })] }

/-- An image with 128 queue pairs. -/
def smallImage : Image :=
  { minLevel := 0, mode := .h, roleCap := 1, imageId := 1, qpc := 4, spanc := 4, cb := 4, fls := 48, brk := 0, udpPort := 4791,
    framing := 0, qpMax := 128, cqMax := 128, spanMax := 128, keyMax := 128, synkoMax := 128, instMax := 4, cbSlots := 4,
    basin := none, partner := none, featmask := 0 }

/-- A worker that has no queue pair yet. -/
def newWorker : State := { inRole .worker with boot.image := some smallImage }

/-- A plot map that names the device at slot 1. -/
def neighbourMap : PlotMap :=
  { PlotMap.reset with
    plots := [(1, { slot := 1, paired := false, spare := false, copying := false, mirrorSlot := 0, free := 4, len := 4, mirrorFor := 0 })] }

end Sys2Proof.Machine

namespace Sys2Proof
open Sys2Proof.Machine

/-- Refutes O14: the clause of a worker's HEARTBEAT lets nothing but `basin` and `out` change where the heartbeat does not shorten the
periods. Adopting the parameters renegotiates dormancy all the same (R86), and a link whose agreement was over the cap before, which
the clause's conditions do not exclude, is marked. -/
theorem not_heartbeatsHoldTheBasinTogether : ¬ Obligations.HeartbeatsHoldTheBasinTogether := by
  unfold Obligations.HeartbeatsHoldTheBasinTogether
  rintro ⟨-, -, -, -, workerHeartbeat, -⟩
  obtain ⟨t, ht, -, -, -, -, frame⟩ := workerHeartbeat (overCap .worker) _ _ (heard_steadyHeartbeat .worker) rfl rfl rfl rfl
    (by decide) (by decide) (by decide)
  have marked : readAfter (.heartbeat (ctlBytes steadyHeartbeat)) (overCap .worker) (fun t => (link t 0).reneg) = some true := by
    decide +kernel
  have kept : (link t 0).reneg = false := by rw [frame]; rfl
  rw [readAfter_of_next _ ht, kept] at marked
  exact absurd marked (by decide)

/-- Refutes O15: the clause of the elapsed claim wait fixes device time at the later of now and the wait's end. Adopting the directory's
map releases the acknowledgements that waited for a mirror (R20, R246), and a control packet leaves at an instant of its own on its
queue pair (R278): after one sent at this instant, 1 ns later. -/
theorem not_claimsEndWithOneManager : ¬ Obligations.ClaimsEndWithOneManager := by
  unfold Obligations.ClaimsEndWithOneManager
  rintro ⟨-, -, -, -, -, -, -, -, -, -, -, waitElapsed, -⟩
  obtain ⟨t, ht, -, -, now, -⟩ := waitElapsed owingClaimant 0 rfl rfl (by decide) rfl (by decide)
  have later : readAfter .claimWaitElapsed owingClaimant (·.sys.now) = some 1000000001 := by decide +kernel
  rw [readAfter_of_next _ ht, now] at later
  exact absurd later (by decide)

/-- Refutes O17: the clause of REQUEST_SWAP lets no link change. Beginning a claim renegotiates dormancy (R86), and a link whose agreed
interval is over the cap, which the clause's conditions do not exclude, is marked. -/
theorem not_roleCommandsAndNoticesActAsStated : ¬ Obligations.RoleCommandsAndNoticesActAsStated := by
  unfold Obligations.RoleCommandsAndNoticesActAsStated
  rintro ⟨-, -, requestSwap, -⟩
  obtain ⟨t, ht, -, -, frame⟩ := requestSwap (overCap .standby) swapWrite (by decide) (by decide) (by decide) (by decide) rfl
  have marked : readAfter (.roleCmdRequestSwap swapWrite) (overCap .standby) (fun t => (link t 0).reneg) = some true := by
    decide +kernel
  have kept : (link t 0).reneg = false := by rw [frame]; rfl
  rw [readAfter_of_next _ ht, kept] at marked
  exact absurd marked (by decide)

/-- Refutes O18: the clause of a fetched map lets nothing but `basin` change. Adopting a map creates the BASIN queue pairs it asks for
(R231): here the one toward slot 1. -/
theorem not_theDirectoryChangesOnlyByCommit : ¬ Obligations.TheDirectoryChangesOnlyByCommit := by
  unfold Obligations.TheDirectoryChangesOnlyByCommit
  rintro ⟨mapFetched, -⟩
  obtain ⟨t, ht, -, -, frame⟩ := mapFetched newWorker neighbourMap rfl (by decide) (by decide) (by decide)
  have created : readAfter (.plotMapFetched neighbourMap) newWorker (fun t => t.qps.map (·.1)) = some [1] := by decide +kernel
  have kept : t.qps = [] := by rw [frame]; rfl
  rw [readAfter_of_next _ ht, kept] at created
  exact absurd created (by decide)

end Sys2Proof
end

section
/-!
PROOFS. Levee: what its operations do, and the statements about its voltage commands, its sensing and its throttling (spec file 02, R59
to R69).
-/
namespace Sys2Proof.Machine

/-! ### One region -/

@[simp] theorem region_putRegion_self (s : State) (n : Nat) (r : Region) : region (putRegion s n r) n = r := by
  simp [region, putRegion, Tab.getD]

@[simp] theorem region_logEv (s : State) (id : Nat) (st : Byte) (source unit : Nat) (d : Bytes) (n : Nat) :
    region (logEv s id st source unit d) n = region s n := by
  simp [region]

theorem gridSample_low {s : State} {d : Int} (fast : fastEn s = true) (low : d ≤ -20) (r : Region) :
    gridSample s d r = { r with vdie := (4 * ((s.lv.target : Int) + d)).toNat % 4096, boost := some s.sys.now, shunt := none } := by
  simp [gridSample, fast, low]

theorem gridSample_high {s : State} {d : Int} (fast : fastEn s = true) (high : 20 ≤ d) (r : Region) :
    gridSample s d r = { r with vdie := (4 * ((s.lv.target : Int) + d)).toNat % 4096, shunt := some s.sys.now, boost := none } := by
  have notLow : ¬ d ≤ -20 := by omega
  simp [gridSample, fast, notLow, high]

theorem gridSample_inBand {s : State} {d : Int} (fast : fastEn s = true) (above : -20 < d) (below : d < 20) (r : Region) :
    gridSample s d r = { r with vdie := (4 * ((s.lv.target : Int) + d)).toNat % 4096, boost := none, shunt := none } := by
  simp [gridSample, fast, Int.not_le.2 above, Int.not_le.2 below]

theorem gridSample_slow {s : State} {d : Int} (slow : fastEn s = false) (r : Region) :
    gridSample s d r = { r with vdie := (4 * ((s.lv.target : Int) + d)).toNat % 4096 } := by
  simp [gridSample, slow]

/-- A bank that engages now acts now (R62). -/
@[simp] theorem bankOn_now (now : Nat) : bankOn (some now) now = true := by simp [bankOn]

theorem exec_gridExcursion_live {s : State} {n : Nat} (cold : s.sys.coldLow = false) (hn : n < 16) (d : Int) :
    exec (.gridExcursion n d) s = .next (putRegion s n (gridSample s d (region s n))) := by
  simp [execGridExcursion, cold, Nat.not_le.2 hn]

@[simp] theorem throttleOn_own_throttled (now : Nat) (r : Region) : (throttleOn now false r).throttled = true := by
  unfold throttleOn
  cases r.throttled <;> simp [Region.throttled]

theorem throttleOn_entry {now : Nat} {r : Region} (entry : r.throttled = false) :
    (throttleOn now false r).oc = true ∧ (throttleOn now false r).since = now := by
  simp [throttleOn, entry]

@[simp] theorem seenSample_drop (r : Region) (xs : List DropSample) : (seenSample r xs).drop = r.drop := by
  unfold seenSample
  split <;> rfl

@[simp] theorem seenSample_disagree (r : Region) (xs : List DropSample) : (seenSample r xs).disagree = r.disagree := by
  unfold seenSample
  split <;> rfl

theorem foldl_ungate_frame (stays : Blk → Prop) [DecidablePred stays] (held : List Blk) (s : State) :
    held.foldl (fun t b => if stays b then t else ungate t b) s =
      { s with clk := (held.foldl (fun t b => if stays b then t else ungate t b) s).clk } := by
  induction held generalizing s with
  | nil => rfl
  | cons b held ih =>
    rw [List.foldl_cons]
    split
    · exact ih s
    · rw [ih (ungate s b)]
      rfl

/-- Wakes that a throttle held go on by the blocks' clocks alone (R63, R72). -/
theorem releaseWakes_frame (s : State) : releaseWakes s = { s with clk := (releaseWakes s).clk } :=
  foldl_ungate_frame (fun b => (region s (blkRegion b)).throttled = true) ..

/-! ### Voltage commands (R66 to R69) -/

theorem satInc_eq_min (n v : Nat) : satInc n v = min (2 ^ n - 1) (v + 1) := by
  unfold satInc
  split <;> omega

theorem vdone_frame (s : State) (tag : Nat) (st : Byte) :
    vdone s tag st = { s with lv.done := (vdone s tag st).lv.done, lv.lost := (vdone s tag st).lv.lost } := by
  unfold vdone
  split <;> rfl

/-- A completion stands at the end of LV_VDONE; a full FIFO gives up its oldest entry to it (R69). -/
theorem queued_vdone (s : State) (tag : Nat) (st : Byte) : Queued s (vdone s tag st) tag st := by
  unfold vdone
  refine ⟨fun room => ?_, fun full => ?_⟩
  · simp [room]
  · simp [full, satInc_eq_min]

theorem endV_eq {s : State} {c : VCmd} (running : s.lv.cmd = some c) (st : Byte) :
    endV s st = vdone { s with lv.cmd := none } c.tag st := by
  simp [endV, running]

@[simp] theorem endV_cmd (s : State) (st : Byte) : (endV s st).lv.cmd = none := by
  cases running : s.lv.cmd with
  | none => simp [endV, running]
  | some c => rw [endV_eq running, vdone_frame]

@[simp] theorem endV_vnow (s : State) (st : Byte) : (endV s st).lv.vnow = s.lv.vnow := by
  cases running : s.lv.cmd with
  | none => simp [endV, running]
  | some c => rw [endV_eq running, vdone_frame]

theorem endV_frame (s : State) (st : Byte) : endV s st = { s with lv := (endV s st).lv } := by
  cases running : s.lv.cmd with
  | none => simp [endV, running]
  | some c =>
    rw [endV_eq running, vdone_frame]

theorem queued_endV {s : State} {c : VCmd} (running : s.lv.cmd = some c) (st : Byte) : Queued s (endV s st) c.tag st := by
  rw [endV_eq running]
  exact queued_vdone { s with lv.cmd := none } c.tag st

/-- The device when the two read-backs of a running command have been taken (R68). -/
def readBack (s : State) (r : Nat) : State := { s with lv.vnow := r % 4096, lv.outV := 10000 * r, lv.outAt := s.sys.now }

theorem exec_vcmdSettle_near {s : State} {c : VCmd} {a b : Nat} (running : s.lv.cmd = some c) (ha : c.target ≤ a + 3)
    (ha' : a ≤ c.target + 3) (hb : c.target ≤ b + 3) (hb' : b ≤ c.target + 3) :
    exec (.vcmdSettle a b) s = .next (endV (readBack s b) Status.ok) := by
  simp [execVcmdSettle, running, ha, ha', hb, hb', readBack]

theorem exec_vcmdSettle_off {s : State} {c : VCmd} {a b : Nat} (running : s.lv.cmd = some c)
    (off : c.target + 3 < a ∨ a + 3 < c.target ∨ c.target + 3 < b ∨ b + 3 < c.target) :
    exec (.vcmdSettle a b) s = .next (readBack s b) := by
  have notNear : ¬ ((c.target ≤ a + 3 ∧ a ≤ c.target + 3) ∧ c.target ≤ b + 3 ∧ b ≤ c.target + 3) := by omega
  simp only [exec_vcmdSettle, execVcmdSettle, readBack, running, if_neg notNear]

theorem exec_vcmdTimeout_running {s : State} {c : VCmd} (running : s.lv.cmd = some c) :
    exec .vcmdTimeout s = .next (endV (advanceTo s (c.since + settleNs c)) Status.waitTimeout) := by
  simp [execVcmdTimeout, running]

theorem exec_avsbusSilent_running {s : State} {c : VCmd} (running : s.lv.cmd = some c) :
    exec .avsbusSilent s = .next (endV s Status.retryExceeded) := by
  simp [execAvsbusSilent, running]

/-- The command that a write of LV_VCMD starts (R67, R68). -/
def startedCmd (s : State) (target tag : Nat) : VCmd :=
  { target := target, tag := tag, atV := regOut s.lv s.sys.now, since := s.sys.now, slew := slew s }

theorem acceptV_idle {s : State} (idle : s.lv.cmd = none) (target tag : Nat) :
    acceptV s target tag = sendV { s with lv.cmd := some (startedCmd s target tag), lv.curTag := tag } target := by
  simp only [acceptV, idle]
  rfl

theorem acceptV_running {s : State} {c : VCmd} (running : s.lv.cmd = some c) (target tag : Nat) :
    acceptV s target tag =
      sendV { vdone s c.tag Status.superseded with lv.cmd := some (startedCmd s target tag), lv.curTag := tag } target := by
  simp only [acceptV, running]
  rw [vdone_frame]
  rfl

/-- What an accepted voltage command is, whether or not it supersedes another (R67). -/
theorem acceptV_starts (s : State) (target tag : Nat) :
    (acceptV s target tag).lv.cmd = some (startedCmd s target tag) ∧ (acceptV s target tag).lv.curTag = tag ∧
    (acceptV s target tag).out = .avs (slew s) target :: s.out ∧
    acceptV s target tag = { s with lv := (acceptV s target tag).lv, out := (acceptV s target tag).out } := by
  cases running : s.lv.cmd with
  | none =>
    rw [acceptV_idle running]
    exact ⟨rfl, rfl, rfl, rfl⟩
  | some c =>
    rw [acceptV_running running, vdone_frame]
    exact ⟨rfl, rfl, rfl, rfl⟩

theorem acceptV_done_idle {s : State} (idle : s.lv.cmd = none) (target tag : Nat) : (acceptV s target tag).lv.done = s.lv.done := by
  rw [acceptV_idle idle]
  rfl

theorem queued_acceptV {s : State} {c : VCmd} (running : s.lv.cmd = some c) (target tag : Nat) :
    Queued s (acceptV s target tag) c.tag Status.superseded := by
  rw [acceptV_running running]
  exact queued_vdone s c.tag Status.superseded

theorem exec_lvVcmd_accepted {s : State} {w : RegWr} (live : windowLive s = true) (taken : Taken s w) (rsv : noRsv w 0xFF00F000 = true)
    (low : 700 ≤ fld w.data.toNat 11 0) (high : fld w.data.toNat 11 0 ≤ 800) (vmin : s.sys.fuses.vminMv ≤ fld w.data.toNat 11 0)
    (ready : s.lv.ready = true) :
    exec (.lvVcmd w) s = .next (acceptV s (fld w.data.toNat 11 0) (fld w.data.toNat 23 16)) := by
  have pass : firstFail [(noRsv w 0xFF00F000, Status.badField),
      (decide (700 ≤ fld w.data.toNat 11 0 ∧ fld w.data.toNat 11 0 ≤ 800), Status.badField),
      (decide (s.sys.fuses.vminMv ≤ fld w.data.toNat 11 0), Status.notPermitted), (s.lv.ready, Status.notPermitted)] = none := by
    rw [rsv, decide_eq_true (And.intro low high), decide_eq_true vmin, ready]
    rfl
  simp only [exec_lvVcmd, execLvVcmd, live, checked_ok taken pass]
  rfl

theorem exec_lvVcmd_outOfRange {s : State} {w : RegWr} (live : windowLive s = true) (taken : Taken s w)
    (range : fld w.data.toNat 11 0 < 700 ∨ 800 < fld w.data.toNat 11 0) :
    exec (.lvVcmd w) s = .next (reject s (regAddr s 0x0C 0x010) none w Status.badField) := by
  have off : ¬ (700 ≤ fld w.data.toNat 11 0 ∧ fld w.data.toNat 11 0 ≤ 800) := by omega
  have fail : firstFail [(noRsv w 0xFF00F000, Status.badField),
      (decide (700 ≤ fld w.data.toNat 11 0 ∧ fld w.data.toNat 11 0 ≤ 800), Status.badField),
      (decide (s.sys.fuses.vminMv ≤ fld w.data.toNat 11 0), Status.notPermitted), (s.lv.ready, Status.notPermitted)]
        = some Status.badField := by
    rw [decide_eq_false off]
    cases noRsv w 0xFF00F000 <;> rfl
  simp only [exec_lvVcmd, execLvVcmd, live, checked_fail taken fail]
  rfl

/-- VP_WERR, free, captures the status of a rejected write (R128). -/
theorem reject_captures {s : State} (free : s.vp.werrValid = false) (addr : Nat) (inst : Option Nat) (w : RegWr) (st : Byte) :
    (reject s addr inst w st).vp.werrValid = true ∧ (reject s addr inst w st).vp.werrStatus = st := by
  simp [reject, free]

/-! ### Sensing and throttling (R59 to R65) -/

theorem unitRegions_region {n : Nat} (hn : n < 16) : unitRegions (.region n) = [n] := if_pos hn

/-- The region after four samples over its limit: its estimate is the last of them, and it throttles (R63). -/
def overLimit (s : State) (n i : Nat) : Region := throttleOn s.sys.now false { region s n with iEst := i % 4096 }

theorem exec_ocThrottleEnter_region {s : State} {n : Nat} {xs : List Nat} (cold : s.sys.coldLow = false) (hn : n < 16)
    (oc : ocEn s = true) (four : 4 ≤ xs.length) (exceeds : ∀ x ∈ xs, unitLimit s (.region n) < x) :
    exec (.ocThrottleEnter (.region n) xs) s =
      .next { putRegion (putRegion s n { region s n with iEst := xs.getLastD 0 % 4096 }) n (overLimit s n (xs.getLastD 0)) with
        wr.thrSeen := true } := by
  have all : xs.all (fun x => decide (unitLimit s (.region n) < x)) = true := by simpa using exceeds
  simp only [exec_ocThrottleEnter, execOcThrottleEnter]
  rw [if_neg (by simp [cold, oc, Nat.not_lt.2 four, all]), unitRegions_region hn]
  simp only [onRegions, seenCurrent, if_pos hn, List.foldl_cons, List.foldl_nil, region_putRegion_self, List.isEmpty_cons,
    Bool.not_false, Bool.or_true]
  rfl

theorem exec_throttleExit_region {s : State} {n hi ns : Nat} (cold : s.sys.coldLow = false) (hn : n < 16) (long : 10000 ≤ ns)
    (below : 10 * hi < 9 * unitLimit s (.region n)) :
    exec (.throttleExit (.region n) hi ns) s = .next (releaseWakes (putRegion s n { region s n with thrOwn := false })) := by
  simp only [exec_throttleExit, execThrottleExit]
  rw [if_neg (by simp [cold, Nat.not_lt.2 long, Nat.not_le.2 below]), unitRegions_region hn]
  rfl

theorem exec_ocPersist_region {s : State} {n : Nat} (cold : s.sys.coldLow = false) (hn : n < 16)
    (due : persistDue (.region n) (region s n) = true) :
    exec (.ocPersist (.region n)) s = .next (persistOne false (advanceTo s ((region s n).since + 1000000)) n) := by
  simp only [exec_ocPersist, execOcPersist, unitRegions_region hn, List.filter_cons, due]
  rw [if_neg (by simp [cold])]
  simp

/-- The region once a pair of its sense wires is found open (R64). -/
def openedPair (r : Region) (pairB : Bool) (v : Nat) : Region :=
  if pairB then { r with bOpen := true, senseEvt := true, vb := v } else { r with aOpen := true, senseEvt := true, va := v }

theorem openedPair_open (r : Region) (pairB : Bool) (v : Nat) :
    (if pairB then (openedPair r pairB v).bOpen else (openedPair r pairB v).aOpen) = true ∧
    (openedPair r pairB v).senseEvt = true := by
  cases pairB <;> exact ⟨rfl, rfl⟩

theorem exec_senseOpen_opens {s : State} {n a x y : Nat} {pairB : Bool} (cold : s.sys.coldLow = false) (hn : n < 16) (ha : 500 < a)
    (hx : x < 10) (hy : y < 10) (closed : (if pairB then (region s n).bOpen else (region s n).aOpen) = false) :
    exec (.senseOpen n pairB [a, x, y]) s =
      .next (logEv (putRegion s n (openedPair (region s n) pairB (4 * y))) 0x0010 Status.senseOpen 0x0C n
        [BitVec.ofNat 8 (bit pairB)]) := by
  have opens : opensPair [a, x, y] = true := by simp [opensPair, ha, hx, hy]
  simp only [exec_senseOpen, execSenseOpen]
  rw [if_neg (by simp [cold, Nat.not_le.2 hn, opens, closed])]
  rfl

theorem exec_drop_declared {s : State} {n : Nat} {xs : List DropSample} (cold : s.sys.coldLow = false) (hn : n < 16)
    (en : bitN (getReg s 0x0C 0x004) 1 = true) (pairs : ((region s n).aOpen && (region s n).bOpen) = false) (many : 16 ≤ xs.length)
    (all : ∀ x ∈ xs, dropSample (region s n) (dropThresh s n) x = true) :
    ∃ d, exec (.drop n xs) s =
      .next (logEv (putRegion s n (seenSample { region s n with drop := true } xs)) 0x0011 Status.ok 0x0C n d) := by
  have all' : xs.all (dropSample (region s n) (dropThresh s n)) = true := List.all_eq_true.2 all
  simp only [exec_drop, execDrop]
  rw [if_neg (by simp [cold, Nat.not_le.2 hn, en, pairs, Nat.not_lt.2 many, all'])]
  exact ⟨_, rfl⟩

theorem exec_disagree_declared {s : State} {n : Nat} {xs : List DropSample} {pairB : Bool} (cold : s.sys.coldLow = false) (hn : n < 16)
    (many : 16 ≤ xs.length) (all : ∀ x ∈ xs, alone (region s n) (dropThresh s n) pairB x = true) :
    exec (.disagree n xs) s = .next (putRegion s n (seenSample { region s n with disagree := true } xs)) := by
  have one : (xs.all (alone (region s n) (dropThresh s n) false) || xs.all (alone (region s n) (dropThresh s n) true)) = true := by
    rw [Bool.or_eq_true, List.all_eq_true, List.all_eq_true]
    cases pairB with
    | false => exact .inl all
    | true => exact .inr all
  simp only [exec_disagree, execDisagree]
  rw [if_neg (by simp [cold, Nat.not_le.2 hn, Nat.not_lt.2 many, one])]

theorem exec_pmbusPoll_one {s : State} (runs : tenderRuns s = true) (n : Nat) (w : BitVec 16) :
    exec (.pmbusPoll [(n, w)]) s =
      .next (logEv { s with lv.pmbus := Tab.put s.lv.pmbus n w.toNat } 0x0013 Status.ok 0x0C n (putLE 2 w.toNat)) := by
  simp [execPmbusPoll, runs]

theorem exec_lvVdoneRead_live {s : State} (live : windowLive s = true) :
    exec .lvVdoneRead s = .next { setRd s (vdoneWord s) with lv.done := s.lv.done.drop 1, lv.lost := 0 } := by
  simp [execLvVdoneRead, live]

end Sys2Proof.Machine

namespace Sys2Proof
open Sys2Proof.Machine

/-- Settles O55: each of the four ends of a command is one `vdone`. -/
theorem voltageCompletionsFillTheFifo : Obligations.VoltageCompletionsFillTheFifo := by
  unfold Obligations.VoltageCompletionsFillTheFifo
  refine ⟨?settle, ?timeout, ?silent, ?supersede⟩
  case settle =>
    intro s c a b running ha ha' hb hb'
    exact .of _ (exec_vcmdSettle_near running ha ha' hb hb') ⟨endV_cmd .., queued_endV (s := readBack s b) running _⟩
  case timeout =>
    intro s c running
    exact .of _ (exec_vcmdTimeout_running running) ⟨endV_cmd .., queued_endV (s := advanceTo s _) running _⟩
  case silent =>
    intro s c running
    exact .of _ (exec_avsbusSilent_running running) ⟨endV_cmd .., queued_endV running _⟩
  case supersede =>
    intro s c w running live taken rsv low high vmin ready
    obtain ⟨cmd, -⟩ := acceptV_starts s (fld w.data.toNat 11 0) (fld w.data.toNat 23 16)
    exact .of _ (exec_lvVcmd_accepted live taken rsv low high vmin ready) ⟨⟨_, cmd, rfl, rfl⟩, queued_acceptV running _ _⟩

/-- Settles O10, one case per clause. A clause about a region is one `putRegion`; a clause about a voltage command is `acceptV` or
`endV`. -/
theorem leveeSensesThrottlesAndRunsVoltageCommands : Obligations.LeveeSensesThrottlesAndRunsVoltageCommands := by
  unfold Obligations.LeveeSensesThrottlesAndRunsVoltageCommands
  refine ⟨?gridLow, ?gridHigh, ?gridElse, ?throttle, ?throttleExit, ?persist, ?senseOpen, ?drop, ?disagree, ?pmbus, ?command,
    ?outOfRange, ?settle, ?unsettled, ?timeout, ?silent, ?read⟩
  case gridLow =>
    intro s n d cold hn fast low
    refine .of _ (exec_gridExcursion_live cold hn d) ?_
    rw [boosted, region_putRegion_self, gridSample_low fast low]
    exact ⟨rfl, rfl, bankOn_now _, rfl, rfl⟩
  case gridHigh =>
    intro s n d cold hn fast high
    refine .of _ (exec_gridExcursion_live cold hn d) ?_
    rw [shunted, region_putRegion_self, gridSample_high fast high]
    exact ⟨rfl, rfl, bankOn_now _, rfl, rfl⟩
  case gridElse =>
    intro s n d cold hn quiet
    refine .of _ (exec_gridExcursion_live cold hn d) ?_
    rw [region_putRegion_self]
    cases fast : fastEn s with
    | false =>
      rw [gridSample_slow fast]
      exact ⟨nofun, fun _ => ⟨rfl, rfl⟩, rfl, rfl⟩
    | true =>
      obtain ⟨above, below⟩ := quiet.resolve_left (by simp [fast])
      rw [gridSample_inBand fast above below]
      exact ⟨fun _ => ⟨rfl, rfl⟩, nofun, rfl, rfl⟩
  case throttle =>
    intro s n xs cold hn oc four exceeds
    refine .of _ (exec_ocThrottleEnter_region cold hn oc four exceeds) ?_
    have reads : ∀ u : State, region { u with wr.thrSeen := true } n = region u n := fun _ => rfl
    rw [reads, region_putRegion_self]
    exact ⟨throttleOn_own_throttled .., fun entry => throttleOn_entry entry, rfl, rfl⟩
  case throttleExit =>
    intro s n hi ns cold hn long below
    refine .of _ (exec_throttleExit_region cold hn long below) ?_
    rw [releaseWakes_frame]
    exact ⟨congrArg Region.thrOwn (region_putRegion_self s n _), rfl⟩
  case persist =>
    intro s n cold hn due
    refine .of _ (exec_ocPersist_region cold hn due) ?_
    rw [persistOne, region_logEv, region_putRegion_self, logEv_frame]
    exact ⟨rfl, rfl, rfl⟩
  case senseOpen =>
    intro s n b a x y cold hn ha hx hy closed
    refine .of _ (exec_senseOpen_opens cold hn ha hx hy closed) ?_
    obtain ⟨opened, event⟩ := openedPair_open (region s n) b (4 * y)
    rw [region_logEv, region_putRegion_self, logEv_lv]
    exact ⟨opened, event, rfl⟩
  case drop =>
    intro s n xs cold hn en pairs many all
    obtain ⟨d, next⟩ := exec_drop_declared cold hn en pairs many all
    refine .of _ next ?_
    rw [region_logEv, region_putRegion_self, seenSample_drop, logEv_frame]
    exact ⟨rfl, rfl⟩
  case disagree =>
    intro s n xs cold hn many ⟨b, all⟩
    refine .of _ (exec_disagree_declared cold hn many all) ⟨?_, rfl⟩
    rw [region_putRegion_self, seenSample_disagree]
  case pmbus =>
    intro s n w runs
    refine .of _ (exec_pmbusPoll_one runs n w) ?_
    rw [logEv_lv]
    exact ⟨Tab.find_put_self .., rfl⟩
  case command =>
    intro s w live taken rsv low high vmin ready
    obtain ⟨cmd, tag, out, frame⟩ := acceptV_starts s (fld w.data.toNat 11 0) (fld w.data.toNat 23 16)
    refine .of _ (exec_lvVcmd_accepted live taken rsv low high vmin ready) ⟨cmd, tag, out, ?_, ?_, frame⟩
    · exact fun idle => acceptV_done_idle idle _ _
    · exact fun c running room => ((queued_acceptV running _ _).1 room).1
  case outOfRange =>
    intro s w live taken range free
    exact .of _ (exec_lvVcmd_outOfRange live taken range) ⟨reject_lv .., reject_captures free ..⟩
  case settle =>
    intro s c a b running ha ha' hb hb'
    refine .of _ (exec_vcmdSettle_near running ha ha' hb hb') ⟨endV_cmd .., endV_vnow .., fun room => ?_, endV_frame ..⟩
    exact ((queued_endV (s := readBack s b) running Status.ok).1 room).1
  case unsettled =>
    intro s c a b running off
    exact .of _ (exec_vcmdSettle_off running off) rfl
  case timeout =>
    intro s c running
    refine .of _ (exec_vcmdTimeout_running running) ⟨endV_cmd .., ?_, fun room => ?_, endV_frame ..⟩
    · rw [endV_frame]
      rfl
    · exact ((queued_endV (s := advanceTo s (c.since + settleNs c)) running Status.waitTimeout).1 room).1
  case silent =>
    intro s c running
    exact .of _ (exec_avsbusSilent_running running)
      ⟨endV_cmd .., fun room => ((queued_endV running Status.retryExceeded).1 room).1, endV_frame ..⟩
  case read =>
    intro s live
    exact .of _ (exec_lvVdoneRead_live live) ⟨rfl, rfl⟩

end Sys2Proof
end

section
/-!
PROOFS. A state that the statement about clocks, time and modules does not exclude and in which one of its clauses fails, run through the
model (R79).
-/
namespace Sys2Proof.Machine

/-- A backplane that lists the application of a port with one link of eight lanes (R79; log 86). -/
def backplaneInfo : ModuleInfo := { passive := false, backplane := true, apps := [8], mem := [] }

end Sys2Proof.Machine

namespace Sys2Proof
open Sys2Proof.Machine

/-- Refutes O11: the clause of an inserted module whose applications match the breakout has the port READY, and its conditions do not
exclude a backplane. A backplane has no module (log 86): the port's medium is found and MOD_STATE stays as it was, here none. -/
theorem not_clocksTimeAndModulesActAsStated : ¬ Obligations.ClocksTimeAndModulesActAsStated := by
  unfold Obligations.ClocksTimeAndModulesActAsStated
  rintro ⟨-, -, -, -, -, -, -, -, -, -, -, insertion, -⟩
  obtain ⟨t, ht, ready, -⟩ := insertion newWorker 0 backplaneInfo (by decide) (by decide) (by decide) (by decide)
  have absent : readAfter (.moduleInsertion 0 backplaneInfo) newWorker (fun t => (port t 0).modState) = some .none := by decide
  rw [readAfter_of_next _ ht, ready] at absent
  exact absurd absent (by decide)

end Sys2Proof
end

section
/-!
PROOFS. The reset pins and the resume (spec files 02 and 04, R52, R56 to R58, R111, R112), and why the statement about them is not
settled: its clause of a resume asks for a bundle whose signature verifies, and verification is a constant without a body (log 3).
-/
namespace Sys2Proof.Machine

/-! ### Cold reset (R52, R56) -/

/-- A cold reset cuts a SLOT_WRITE off, or finds none that passed its checks (R406). -/
theorem cutSlotWrite_cases (s : State) : cutSlotWrite s = s ∨ ∃ n, cutSlotWrite s = putSlot (countUp s n) n [] := by
  unfold cutSlotWrite
  split
  · exact .inl rfl
  · dsimp only
    split
    · exact .inl rfl
    · exact .inr ⟨_, rfl⟩

theorem putSlot_countUp_frame (s : State) (n : Nat) (b : Bytes) :
    putSlot (countUp s n) n b = { s with flash := (putSlot (countUp s n) n b).flash } := by
  unfold putSlot
  split <;> rfl

@[simp] theorem putSlot_countUp_golden (s : State) (n : Nat) (b : Bytes) :
    (putSlot (countUp s n) n b).flash.golden = s.flash.golden := by
  unfold putSlot
  split <;> rfl

theorem cutSlotWrite_frame (s : State) : cutSlotWrite s = { s with flash := (cutSlotWrite s).flash } := by
  obtain same | ⟨n, cut⟩ := cutSlotWrite_cases s
  · rw [same]
  · rw [cut]
    exact putSlot_countUp_frame s n []

@[simp] theorem cutSlotWrite_golden (s : State) : (cutSlotWrite s).flash.golden = s.flash.golden := by
  obtain same | ⟨n, cut⟩ := cutSlotWrite_cases s
  · rw [same]
  · rw [cut, putSlot_countUp_golden]

/-- With no mailbox command running there is no SLOT_WRITE to cut off. -/
theorem cutSlotWrite_idle {s : State} (idle : s.mbx.running = none) : cutSlotWrite s = s := by
  simp [cutSlotWrite, mbxIs, idle]

theorem startCands_stage (s : State) (useTry : Bool) :
    (startCands s useTry).boot.stage = if (startCands s useTry).boot.cands = [] then .halted else .rom := rfl

/-- Off the normal path the golden bundle is the only candidate (R53, R96). -/
theorem startCands_straps {s : State} (straps : s.sys.straps.boot ≠ 0) (useTry : Bool) :
    (startCands s useTry).boot.cands = if holdsBundle s.flash.golden then [(.golden, false)] else [] := by
  simp only [startCands, candidates, straps, and_false, if_false]
  exact List.filter_cons

theorem dropEmptyTry_sys (s : State) : (dropEmptyTry s).sys = s.sys := by
  unfold dropEmptyTry
  repeat' split
  all_goals rfl

theorem startCands_sys (s : State) (useTry : Bool) : (startCands s useTry).sys = s.sys := by
  unfold startCands
  dsimp only
  split
  · exact dropEmptyTry_sys s
  · rfl

/-- The device as the rise of COLD_RST_N finds it, its straps sampled and device time 0 (R52, R74). -/
def sampled (s : State) (straps : Straps) : State :=
  { s with sys.coldLow := false, sys.straps := straps, sys.now := 0, clk.aonLock := true, clk.tnLock := true }

theorem exec_coldRstNRise_boots {s : State} {straps : Straps} (low : s.sys.coldLow = true) (run : straps.test = false) :
    exec (.coldRstNRise straps) s = .next (startCands (sampled s straps) true) := by
  simp [execColdRstNRise, low, run, sampled]

theorem exec_coldRstNRise_test {s : State} {straps : Straps} (low : s.sys.coldLow = true) (test : straps.test = true) :
    exec (.coldRstNRise straps) s = .next (sampled s straps) := by
  simp [execColdRstNRise, low, test, sampled]

/-! ### What a resume finds (R111, R112) -/

theorem bundleStatus_ok_header {rev : Nat} {b : Bytes} (ok : bundleStatus rev b = Status.ok) : bundleHeaderOk b = true := by
  by_contra bad
  rw [bundleStatus, Bool.eq_false_iff.2 bad, firstFail_false] at ok
  exact absurd ok (by decide)

theorem holdsBundle_of_status {rev : Nat} {b : Bytes} (ok : bundleStatus rev b = Status.ok) : holdsBundle b = true := by
  have header := bundleStatus_ok_header ok
  simp only [bundleHeaderOk, Bool.and_eq_true] at header
  obtain ⟨⟨⟨⟨⟨⟨holds, -⟩, -⟩, -⟩, -⟩, -⟩, -⟩ := header
  exact holds

theorem bundleStatus_of_mayResume {s : State} {r : BootRec} {ok : Bool} (h : mayResume s r ok = true) :
    bundleStatus s.sys.fuses.siliconRev (slotOf s.flash r.slot) = Status.ok := by
  simp only [mayResume, Bool.and_eq_true, decide_eq_true_eq] at h
  obtain ⟨⟨-, status⟩, -⟩ := h
  exact status

theorem exec_warmResume_lost {s : State} {ok : Bool} (awake : Awake s) (warm : s.boot.warmBoot = true)
    (lost : s.boot.bootRec = none ∨ s.asleep = none ∨ ok = false ∨ ∃ r, s.boot.bootRec = some r ∧ slotDigest s r ≠ r.digest) :
    exec (.warmResume ok) s = .next (resumeLost s) := by
  simp only [exec_warmResume, execWarmResume]
  rw [if_neg (by simp [awake.1, awake.2, warm])]
  split
  next r a hr ha =>
    have refused : mayResume s r ok = false := by
      rcases lost with unrecorded | gone | bad | ⟨r', recorded, other⟩
      · simp [hr] at unrecorded
      · simp [ha] at gone
      · simp [mayResume, bad]
      · obtain rfl : r = r' := by simpa [hr] using recorded
        simp [mayResume, other]
    rw [refused]
    rfl
  · rfl

theorem exec_warmResume_resumes {s : State} {r : BootRec} {a : Asleep} (awake : Awake s) (warm : s.boot.warmBoot = true)
    (recorded : s.boot.bootRec = some r) (asleep : s.asleep = some a) (may : mayResume s r true = true) :
    exec (.warmResume true) s = .next (resumed s r a) := by
  simp [execWarmResume, awake.1, awake.2, warm, recorded, asleep, may]

/-- A queue pair in INIT whose journal holds one atomic that is not applied: 1 at HBM address 0 (R238, R249). -/
def owingJournal : Qp :=
  { Qp.fresh 0 .rc 0 0 0 0 0 0 0 0 0 false with
    jour := [{ psn := 0, applied := false, target := { space := .hbm, addr := 0 }, prior := 0, new := 1 }] }

/-- What sleeps: nothing but that queue pair. -/
def sleepingJournal : Asleep := { sleepOf State.reset with qps := [(1, owingJournal)] }

/-- The boot record of slot A with a bundle. -/
def slotARec (b : Bytes) : BootRec := sealRec ⟨.a, .builtin, imageDigest (bundleImage b), 0, 0, true, none, 0⟩

/-- The device after a warm reset, slot A with a bundle. -/
def warmDevice (rev : Nat) (b : Bytes) : State :=
  { State.reset with
    sys.coldLow := false, sys.fuses.siliconRev := rev, boot.warmBoot := true, boot.resumable := true,
    boot.bootRec := some (slotARec b), asleep := some sleepingJournal, flash.a := b }

theorem mayResume_warmDevice {rev : Nat} {b : Bytes} (ok : bundleStatus rev b = Status.ok) :
    mayResume (warmDevice rev b) (slotARec b) true = true := by
  have holds := holdsBundle_of_status ok
  simp [mayResume, warmDevice, slotARec, sealRec, recCrc, slotOf, slotDigest, holds, ok]

/-- The resume replays the journal into HBM (R243). -/
theorem resumed_warmDevice_hbm (rev : Nat) (b : Bytes) :
    (resumed (warmDevice rev b) (slotARec b) sleepingJournal).hbm = [(0, 1)] := rfl

end Sys2Proof.Machine

namespace Sys2Proof
open Sys2Proof.Machine

/-- Why O8 is not settled. It holds exactly if no bundle whatever passes its checks. Where one does, a device may resume with a queue
pair in INIT whose journal is replayed into HBM (R243), which the clause of the resume does not exclude. Every other clause holds. No
proof can tell which it is: `Config.sigVerifies` has no body. -/
theorem resetPinsAndTheWarmResumeActAsStated_iff :
    Obligations.ResetPinsAndTheWarmResumeActAsStated ↔ ∀ rev b, bundleStatus rev b ≠ Status.ok := by
  unfold Obligations.ResetPinsAndTheWarmResumeActAsStated
  constructor
  · rintro ⟨-, -, -, -, -, -, -, -, resume, -⟩ rev b ok
    have may := mayResume_warmDevice ok
    obtain ⟨t, ht, -, -, -, -, hbm, -⟩ := resume (warmDevice rev b) (slotARec b) sleepingJournal ⟨rfl, rfl⟩ rfl rfl rfl may rfl
      (by decide) (by decide) (by decide) rfl (by decide)
    rw [exec_warmResume_resumes ⟨rfl, rfl⟩ rfl rfl rfl may] at ht
    obtain rfl := Host.Outcome.next.inj ht
    rw [resumed_warmDevice_hbm] at hbm
    exact absurd hbm (by decide)
  · intro unverified
    refine ⟨?fall, ?rise, ?test, ?warm, ?glitch, ?warmRise, ?trip, ?cool, ?resume, ?lost⟩
    case fall =>
      intro s
      refine .of _ rfl ⟨rfl, rfl, rfl, rfl, rfl, rfl, ?_, cutSlotWrite_golden s, ?_, fun idle => ?_⟩
      · rw [cutSlotWrite_frame]
        rfl
      · rw [cutSlotWrite_frame]
        rfl
      · rw [cutSlotWrite_idle idle]
        rfl
    case rise =>
      intro s straps low run
      refine .of _ (exec_coldRstNRise_boots low run) ?_
      rw [startCands_sys]
      exact ⟨rfl, rfl, rfl, startCands_stage .., fun path => startCands_straps (s := sampled s straps) path true⟩
    case test =>
      intro s straps low test
      exact .of _ (exec_coldRstNRise_test low test) ⟨rfl, rfl, rfl⟩
    case warm =>
      intro s ns cold long stage run first idle
      refine .of (warmState s) ?_
        ⟨rfl, rfl, rfl, rfl, rfl, rfl, rfl, rfl, fun ⟨ready, recorded⟩ => ⟨sleepOf s, ?_, rfl, rfl, rfl, rfl, rfl⟩⟩
      · simp [execWarmRstNFall, cold, Nat.not_lt.2 long, stage, run, first, cutSlotWrite_idle idle]
      · simp [warmState, warmBootState, ready, Option.isSome_iff_ne_none.2 recorded]
    case glitch =>
      intro s ns short
      exact .of s (by simp [execWarmRstNFall, short]) rfl
    case warmRise =>
      intro s
      exact .of _ rfl rfl
    case trip =>
      intro s c cold hot
      exact .of { s with sys.thermTrip := true } (by simp [execJunctionOvertemp, cold, Nat.not_lt.2 hot]) rfl
    case cool =>
      intro s c cool
      exact .of s (by simp [execJunctionOvertemp, cool]) rfl
    case resume =>
      intro s r a _ _ _ _ may
      exact absurd (bundleStatus_of_mayResume may) (unverified _ _)
    case lost =>
      intro s ok awake warm lost
      refine .of _ (exec_warmResume_lost awake warm lost) ?_
      rw [resumeLost, logEv_frame]
      exact ⟨rfl, rfl, rfl, rfl, rfl, rfl, rfl, rfl, startCands_stage .., rfl, rfl, rfl⟩

end Sys2Proof
end

section
/-!
PROOFS. The signature check alone decides the statement about the reset pins and the resume: one answer of `Config.sigVerifies` (log 3)
makes it true, another makes it false.
-/
namespace Sys2Proof.Machine

/-- The first 60 header bytes of a small bundle: its sections empty but for a compatibility table of one row (R101). -/
def smallHeader : Bytes :=
  putBE 4 0x4B51534C ++ putBE 2 1 ++ zeros 2 ++ putBE 4 8192 ++ putBE 4 0 ++ putBE 4 12288 ++ putBE 4 0 ++ putBE 4 4096 ++ putBE 4 20
    ++ putBE 4 16384 ++ putBE 4 0 ++ putBE 4 0 ++ putBE 4 0 ++ putBE 4 20480 ++ zeros 8

/-- The bundle: the header with its CRC, and at 4096 the table, whose row gives level 0 to revision 0 and tags 0 (R101, R105). -/
def smallBundle : Bytes := smallHeader ++ putBE 4 (crcN smallHeader) ++ zeros 4032 ++ putBE 2 1 ++ zeros 18

theorem smallBundle_header : bundleHeaderOk smallBundle = true := by decide +kernel

theorem smallBundle_level : (bundleLevel 0 smallBundle).isSome = true := by decide +kernel

/-- The small bundle passes every check of R102 but for the signature, and that one too where it is accepted. -/
theorem bundleStatus_smallBundle (signed : bundleSigned smallBundle = true) : bundleStatus 0 smallBundle = Status.ok := by
  simp [bundleStatus, smallBundle_header, signed, smallBundle_level]

theorem bundleStatus_unsigned {b : Bytes} (unsigned : bundleSigned b = false) (rev : Nat) : bundleStatus rev b ≠ Status.ok := by
  rw [bundleStatus, unsigned]
  cases bundleHeaderOk b
  · rw [firstFail_false]
    decide
  · rw [firstFail_true, firstFail_false]
    decide

end Sys2Proof.Machine

namespace Sys2Proof
open Sys2Proof.Machine

/-- O8 holds if no signature is accepted: then no device resumes. -/
theorem resetPinsAndTheWarmResumeActAsStated_of_rejects (rejects : ∀ m g, Config.sigVerifies m g = false) :
    Obligations.ResetPinsAndTheWarmResumeActAsStated :=
  resetPinsAndTheWarmResumeActAsStated_iff.2 fun rev _ => bundleStatus_unsigned (rejects _ _) rev

/-- O8 fails if every signature is accepted: then the device of `warmDevice` resumes from the small bundle, and its HBM changes. -/
theorem not_resetPinsAndTheWarmResumeActAsStated_of_accepts (accepts : ∀ m g, Config.sigVerifies m g = true) :
    ¬ Obligations.ResetPinsAndTheWarmResumeActAsStated := fun h =>
  resetPinsAndTheWarmResumeActAsStated_iff.1 h 0 smallBundle (bundleStatus_smallBundle (accepts _ _))

end Sys2Proof
end

section
/-!
PROOFS. A step on an empty queue (log 7): the nanosecond that passes, and the held work that is there to be tried again.
-/
namespace Sys2Proof.Machine

/-- The device one nanosecond later, the servo at rest. -/
def ticked (s : State) : State := { setNow s (s.sys.now + 1) with sys.subTick := s.sys.subTick + 1 }

/-- Below the end of the sub-nanosecond count a tick is one nanosecond, and the servo rests (R74). -/
theorem tickTime_early {s : State} (early : s.sys.subTick < 4999) : tickTime s = ticked s := by
  have notDue : ¬ 5000 ≤ s.sys.subTick + 1 := by omega
  simp [tickTime, ticked, notDue, setNow]

/-- With no queue pair no link stalls as time passes (R259). -/
theorem stallsTo_of_no_qps {s : State} (qps : s.qps = []) (t : Nat) : stallsTo s t = s.wr := by
  simp [stallsTo, qps]

/-- Where `insts` is empty no cycle counter runs (R391). -/
theorem instsTo_of_no_insts {s : State} (insts : s.insts = []) (t : Nat) : instsTo s t = s.insts := by
  simp [instsTo, insts]

/-- With neither, a tick writes device time and the outputs (R74, R75). -/
theorem ticked_frame {s : State} (qps : s.qps = []) (insts : s.insts = []) :
    ticked s = { s with sys := (ticked s).sys, out := (ticked s).out } := by
  rw [ticked, setNow, stallsTo_of_no_qps qps, instsTo_of_no_insts insts]

theorem teardownStep_idle {s : State} (idle : s.pt.st ≠ .teardown) : teardownStep s = s := if_pos idle

/-- Nothing waits to be tried again: `insts`, queues and spans empty, no frame, partner access, doorbell or Runnel message held, and no
Runnel stream. -/
structure NothingHeld (s : State) : Prop where
  insts : s.insts = []
  wqs : s.wqs = []
  spans : s.spans = []
  frames : s.rxHeld = []
  accesses : s.pt.hdmHeld = []
  bells : s.cv.bells = []
  messages : s.rn.held = []
  streams : s.rn.streams = []

namespace NothingHeld
variable {s : State} (h : NothingHeld s)
include h

theorem queueWork_eq : queueWork s = s := by rw [queueWork, h.wqs]; rfl

theorem hdmRetry_eq : hdmRetry s = s := by
  have cleared : { s with pt.hdmHeld := [] } = s := by rw [← h.accesses]
  rw [hdmRetry, cleared, h.accesses]
  rfl

theorem rxRelease_eq : rxRelease s = s := by
  have cleared : { s with rxHeld := [] } = s := by rw [← h.frames]
  rw [rxRelease, cleared, h.frames]
  rfl

theorem cvRetry_eq : cvRetry s = s := by
  have cleared : { s with cv.bells := [] } = s := by rw [← h.bells]
  rw [cvRetry, cleared, h.bells]
  exact ite_self _

theorem reapSpans_eq : reapSpans s = s := by rw [reapSpans, h.spans]; rfl

theorem rnRelease_eq : rnRelease s = s := by
  have cleared : { s with rn.held := [] } = s := by rw [← h.messages]
  rw [rnRelease, cleared, h.messages]
  dsimp only [List.foldl_nil]
  rw [h.streams]
  exact ite_self _

theorem retryCreates_eq : retryCreates s = s := by rw [retryCreates, h.insts]; rfl

/-- With nothing held, trying the held work again does nothing. -/
theorem heldWork_eq : heldWork s = s := by
  rw [heldWork, h.queueWork_eq, h.hdmRetry_eq, h.rxRelease_eq, h.cvRetry_eq, h.reapSpans_eq, h.rnRelease_eq, h.retryCreates_eq]

theorem after_tick : NothingHeld (ticked s) where
  insts := (instsTo_of_no_insts h.insts _).trans h.insts
  wqs := h.wqs
  spans := h.spans
  frames := h.frames
  accesses := h.accesses
  bells := h.bells
  messages := h.messages
  streams := h.streams

end NothingHeld

theorem step_idle {s : State} (empty : s.pending = []) : step s = .next (idle s) := by rw [step, empty]

theorem idle_cold {s : State} (cold : s.sys.coldLow = true) : idle s = s := if_pos cold

/-- Out of cold reset, with no teardown and nothing held, an idle step is one tick. -/
theorem idle_ticks {s : State} (awake : s.sys.coldLow = false) (running : s.pt.st ≠ .teardown) (early : s.sys.subTick < 4999)
    (held : NothingHeld s) : idle s = ticked s := by
  have still : (ticked s).pt.st ≠ .teardown := running
  rw [idle, if_neg (by simp [awake]), idleWork, tickTime_early early, teardownStep_idle still, held.after_tick.heldWork_eq]

end Sys2Proof.Machine

namespace Sys2Proof
open Sys2Proof.Machine

/-- Settles O2: an idle step is one tick, and a tick counts nothing where `qps` and `insts` are empty. -/
theorem stepOnAnEmptyQueueIdles : Obligations.StepOnAnEmptyQueueIdles := by
  unfold Obligations.StepOnAnEmptyQueueIdles
  refine ⟨?cold, ?awake⟩
  case cold =>
    intro s empty cold
    rw [step_idle empty, idle_cold cold]
  case awake =>
    intro s empty awake running early insts wqs qps spans frames accesses bells messages streams
    have held : NothingHeld s := ⟨insts, wqs, spans, frames, accesses, bells, messages, streams⟩
    refine ⟨ticked s, ?_, rfl, ticked_frame qps insts⟩
    rw [step_idle empty, idle_ticks awake running early held]

end Sys2Proof
end

section
/-!
PROOFS. Link dormancy (spec file 03, R85 to R94): what the operations on a link do to it, and what the commands of dormancy answer.
-/
namespace Sys2Proof.Machine

/-! ### Links and ports after an update -/

@[simp] theorem link_putLink_self (s : State) (l : Nat) (x : LinkSt) : link (putLink s l x) l = x := by
  simp [link, putLink, Tab.getD]

@[simp] theorem link_sendFrame (s : State) (l : Nat) (f : LinkFrame) (k : Nat) : link (sendFrame s l f) k = link s k := rfl

@[simp] theorem link_logEv (s : State) (id : Nat) (st : Byte) (source unit : Nat) (d : Bytes) (l : Nat) :
    link (logEv s id st source unit d) l = link s l := by simp [link]

@[simp] theorem port_putPort_self (s : State) (p : Nat) (x : Port) : port (putPort s p x) p = x := by
  simp [port, putPort, Tab.getD]

/-- A state with the ports of another has its every port. -/
theorem port_congr {s t : State} (h : t.ports = s.ports) (p : Nat) : port t p = port s p := by rw [port, h, port]

/-- A stored register reads as the low 32 bits of what was written. -/
@[simp] theorem getReg_putReg_self (s : State) (blk off w : Nat) : getReg (putReg s blk off w) blk off = w % 2 ^ 32 := by
  simp [getReg, putReg, Tab.getD]

/-! ### Frames received (R88) -/

/-- A link control frame of the OP a row names has that row's effect. -/
theorem onFrame_in {s : State} {l op : Nat} {b : Bytes} {f : LinkFrame} (h : FrameIn s l b f) (hop : f.op = op)
    (k : LinkFrame → State) : onFrame s l op b k = .next (k f) := by
  obtain ⟨ex, cal, frame⟩ := h
  simp [onFrame, ex, cal, frame, hop]

/-! ### Back to ACTIVE (R85, R86, R89) -/

theorem link_beginOffer (s : State) (l : Nat) :
    link (beginOffer s l) l = { link s l with offerSent := 1, offerAt := s.sys.now, measured := false, peerCap := none } :=
  link_putLink_self ..

/-- A link back at ACTIVE, its packets no longer held. -/
def woken (now : Nat) (x : LinkSt) : LinkSt :=
  { x with dorm := .active, held := false, enterAt := none, ackFixed := false, busyAt := now }

theorem wakeUp_ptp {s : State} {l : Nat} (ptp : isPtpLink s l = true) :
    wakeUp s l = putLink s l { woken s.sys.now (link s l) with dorm := .ineligible, agreed := 0, reneg := false } := if_pos ptp

theorem wakeUp_offers {s : State} {l : Nat} (ptp : isPtpLink s l = false) (reneg : (link s l).reneg = true) :
    wakeUp s l = beginOffer (putLink s l (woken s.sys.now (link s l))) l := by
  simp [wakeUp, woken, ptp, reneg]

theorem wakeUp_plain {s : State} {l : Nat} (ptp : isPtpLink s l = false) (reneg : (link s l).reneg = false) :
    wakeUp s l = putLink s l (woken s.sys.now (link s l)) := by
  simp [wakeUp, woken, ptp, reneg]

/-- Whichever way a link comes back: it is ACTIVE, or INELIGIBLE as the PTP link, holds nothing and is up as before. -/
theorem link_wakeUp (s : State) (l : Nat) :
    (link (wakeUp s l) l).dorm = (if isPtpLink s l then .ineligible else .active) ∧ (link (wakeUp s l) l).held = false ∧
    (link (wakeUp s l) l).up = (link s l).up := by
  cases ptp : isPtpLink s l with
  | true =>
    rw [wakeUp_ptp ptp, link_putLink_self]
    exact ⟨rfl, rfl, rfl⟩
  | false =>
    cases reneg : (link s l).reneg with
    | true =>
      rw [wakeUp_offers ptp reneg, link_beginOffer, link_putLink_self]
      exact ⟨rfl, rfl, rfl⟩
    | false =>
      rw [wakeUp_plain ptp reneg, link_putLink_self]
      exact ⟨rfl, rfl, rfl⟩

/-- With an agreement to be sought anew the link sends its first OFFER (R86). -/
theorem wakeUp_offerSent {s : State} {l : Nat} (reneg : (link s l).reneg = true) (ptp : isPtpLink s l = false) :
    (link (wakeUp s l) l).offerSent = 1 := by
  rw [wakeUp_offers ptp reneg, link_beginOffer]

/-- With none, nothing is sent. -/
theorem wakeUp_silent {s : State} {l : Nat} (reneg : (link s l).reneg = false) : wakeUp s l = { s with links := (wakeUp s l).links } := by
  cases ptp : isPtpLink s l with
  | true =>
    rw [wakeUp_ptp ptp]
    rfl
  | false =>
    rw [wakeUp_plain ptp reneg]
    rfl

/-- What ENTER_NAK and CANCEL leave of the state: a link come back, with an OFFER where R86 asks for one, silent elsewhere. -/
theorem wakeUp_ends_entering (s : State) (l : Nat) :
    (link (wakeUp s l) l).dorm = (if isPtpLink s l then .ineligible else .active) ∧ (link (wakeUp s l) l).held = false ∧
    ((link s l).reneg = true → isPtpLink s l = false → (link (wakeUp s l) l).offerSent = 1) ∧
    ((link s l).reneg = false → (wakeUp s l).out = s.out) ∧
    wakeUp s l = { s with links := (wakeUp s l).links, out := (wakeUp s l).out } := by
  obtain ⟨dorm, held, -⟩ := link_wakeUp s l
  exact ⟨dorm, held, wakeUp_offerSent, fun reneg => by rw [wakeUp_silent reneg], wakeUp_frame ..⟩

/-! ### A missed window (R93), a link or a port that goes down -/

theorem retrain_dorm (s : State) (l : Nat) : (link (retrain s l) l).dorm = .retrain ∧ (link (retrain s l) l).up = false := by
  rw [retrain, link_logEv, link_putLink_self]
  exact ⟨rfl, rfl⟩

theorem retrain_frame (s : State) (l : Nat) : retrain s l = { s with links := (retrain s l).links, log := (retrain s l).log } := by
  rw [retrain, logEv_frame]
  rfl

theorem calStart_frame (s : State) (l : Nat) : calStart s l = { s with links := (calStart s l).links } := by
  unfold calStart
  split <;> rfl

theorem goDown_frame (s : State) (l : Nat) : goDown s l = { s with links := (goDown s l).links, log := (goDown s l).log } := by
  rw [goDown, calStart_frame]
  dsimp only
  split
  · rw [retrain_frame]
  · rw [retrain_frame]
  · rw [retrain_frame]
  · rfl

theorem portDown_frame (s : State) (p : Nat) : portDown s p = { s with links := (portDown s p).links, log := (portDown s p).log } := by
  unfold portDown
  generalize portLinks s p = ls
  induction ls generalizing s with
  | nil => rfl
  | cons l ls ih =>
    rw [List.foldl_cons, ih]
    split
    · rw [goDown_frame]
    · rw [calStart_frame]

/-! ### Entering dormancy (R89) -/

/-- The master's end of a link once ENTER has left with its TOKEN. -/
def entering (tok : Byte) (now : Nat) (x : LinkSt) : LinkSt :=
  { x with dorm := .entering, token := tok, enterAt := some now, ackFixed := false, held := true }

/-- The device when an idle master's ENTER is due, its TOKEN drawn. -/
def enterDue (s : State) (l : Nat) : State := freeStep (advanceTo s ((link s l).busyAt + idleEnterNs s l))

theorem exec_masterIdleEnter_idle {s : State} {l : Nat} (ex : linkExists s l = true) (active : (link s l).dorm = .active)
    (master : (link s l).master = true) (reneg : (link s l).reneg = false) (en : dormEn s l = true) (idle : endIdle s l = true) :
    exec (.masterIdleEnter l) s = .next
      (sendFrame (putLink (enterDue s l) l (entering ((freeVal s).setWidth 8) (enterDue s l).sys.now (link s l))) l
        { ownFrame (enterDue s l) 2 with token := (freeVal s).setWidth 8, interval := (link s l).agreed }) := by
  simp only [exec_masterIdleEnter, execMasterIdleEnter]
  rw [if_neg (by simp [ex, active, master, reneg, en, idle])]
  rfl

/-- The slave answers ENTER with ENTER_ACK where it has been idle for IDLE_ENTER: its reference is fixed (R89). -/
def enterAcked (s : State) (l : Nat) (f : LinkFrame) : State :=
  sendFrame (putLink s l (fixRef { link s l with token := f.token } (s.sys.now + (link s l).delay))) l
    { ownFrame s 3 with token := f.token, interval := (link s l).agreed }

theorem exec_enter_idle {s : State} {l : Nat} {b : Bytes} {f : LinkFrame} (h : FrameIn s l b f) (op : f.op = 2)
    (active : (link s l).dorm = .active) (slave : (link s l).master = false) (reneg : (link s l).reneg = false)
    (en : dormEn s l = true) (idle : endIdle s l = true) (long : (link s l).busyAt + idleEnterNs s l ≤ s.sys.now) :
    exec (.enter l b) s = .next (enterAcked s l f) := by
  rw [exec_enter, execEnter, onFrame_in h op]
  dsimp only
  rw [if_neg (by simp [active, slave]), if_neg (by simp [active, reneg, en, idle, long])]
  rfl

/-- It answers ENTER_NAK where it is not idle for long enough, has dormancy off or seeks a new agreement. -/
theorem exec_enter_busy {s : State} {l : Nat} {b : Bytes} {f : LinkFrame} (h : FrameIn s l b f) (op : f.op = 2)
    (active : (link s l).dorm = .active) (slave : (link s l).master = false)
    (busy : endIdle s l = false ∨ s.sys.now < (link s l).busyAt + idleEnterNs s l ∨ dormEn s l = false ∨ (link s l).reneg = true) :
    exec (.enter l b) s = .next (sendFrame s l { ownFrame s 4 with token := f.token }) := by
  rw [exec_enter, execEnter, onFrame_in h op]
  dsimp only
  rw [if_neg (by simp [active, slave]), if_pos]
  simp only [Bool.not_eq_true']
  tauto

theorem exec_enterAck_own {s : State} {l : Nat} {b : Bytes} {f : LinkFrame} (h : FrameIn s l b f) (op : f.op = 3)
    (sent : (link s l).dorm = .entering) (waits : (link s l).enterAt ≠ none) (token : f.token = (link s l).token) :
    exec (.enterAck l b) s = .next (putLink s l (fixRef (link s l) s.sys.now)) := by
  rw [exec_enterAck, execEnterAck, onFrame_in h op]
  dsimp only
  rw [if_pos ⟨sent, waits, token⟩]

theorem exec_enterNak_own {s : State} {l : Nat} {b : Bytes} {f : LinkFrame} (h : FrameIn s l b f) (op : f.op = 4)
    (sent : (link s l).dorm = .entering) (waits : (link s l).enterAt ≠ none) (token : f.token = (link s l).token) :
    exec (.enterNak l b) s = .next (wakeUp s l) := by
  rw [exec_enterNak, execEnterNak, onFrame_in h op]
  dsimp only
  rw [if_pos ⟨sent, waits, token⟩]

theorem exec_cancel_own {s : State} {l : Nat} {b : Bytes} {f : LinkFrame} (h : FrameIn s l b f) (op : f.op = 5)
    (sent : (link s l).dorm = .entering) (token : f.token = (link s l).token) :
    exec (.cancel l b) s = .next (wakeUp s l) := by
  rw [exec_cancel, execCancel, onFrame_in h op]
  dsimp only
  rw [if_pos ⟨sent, token⟩]

theorem exec_dormancyHoldEnd_fixed {s : State} {l : Nat} (sent : (link s l).dorm = .entering) (fixed : (link s l).ackFixed = true) :
    exec (.dormancyHoldEnd l) s =
      .next (putLink (advanceTo s ((link s l).reference + 4000)) l { link s l with dorm := .dormant, up := false }) := by
  simp only [exec_dormancyHoldEnd, execDormancyHoldEnd]
  rw [if_neg (by simp [sent, fixed])]

theorem exec_enterAckTimeout_unanswered {s : State} {l a : Nat} (sent : (link s l).dorm = .entering)
    (left : (link s l).enterAt = some a) : exec (.enterAckTimeout l) s = .next (retrain (advanceTo s (a + 10000)) l) := by
  simp only [exec_enterAckTimeout, execEnterAckTimeout, left]
  rw [if_neg (by simp [sent])]

/-! ### Wake windows (R90) -/

/-- HAVE_WORK of the HELLO that an end sends, and DISABLE (R86, R90, R94). -/
def helloFrame (s : State) (l : Nat) : LinkFrame :=
  { ownFrame s 6 with haveWork := !linkQuiet s l, disable := !dormEn s l || (link s l).reneg || isPtpLink s l }

/-- An end of a link once its HELLO has left. -/
def waking (s : State) (l now : Nat) : LinkSt :=
  { link s l with
    dorm := .waking, helloSent := true,
    helloFlags := BitVec.ofNat 8 (bit (helloFrame s l).haveWork + 4 * bit (helloFrame s l).disable),
    reference := if (link s l).master then (link s l).reference else now + (link s l).delay }

theorem exec_wakeWindowOpen_dormant {s : State} {l : Nat} (dormant : (link s l).dorm = .dormant) :
    exec (.wakeWindowOpen l) s = .next
      (sendFrame (putLink (advanceTo s ((link s l).wakeAt - 1000)) l (waking s l (max s.sys.now ((link s l).wakeAt - 1000)))) l
        (helloFrame s l)) := by
  simp only [exec_wakeWindowOpen, execWakeWindowOpen]
  rw [if_neg (by simp [dormant])]
  rfl

/-- A HELLO that tells of work, or meets work here, ends the window with traffic. -/
theorem exec_hello_work {s : State} {l : Nat} {b : Bytes} {f : LinkFrame} (h : FrameIn s l b f) (op : f.op = 6)
    (wakes : (link s l).dorm = .waking) (sent : (link s l).helloSent = true) (peer : (link s l).peer = some f.serial)
    (work : f.haveWork = true ∨ f.disable = true ∨ (link s l).helloFlags ≠ 0) :
    exec (.hello l b) s = .next (wakeUp (putLink s l { link s l with up := true }) l) := by
  rw [exec_hello, execHello, onFrame_in h op]
  dsimp only
  rw [if_neg (by simp [wakes, sent, peer]), if_pos (by simpa [or_assoc] using work)]

/-- With no work at either end a new hold begins: from the HELLO's receipt at the master, from the slave's own reference. -/
theorem exec_hello_idle {s : State} {l : Nat} {b : Bytes} {f : LinkFrame} (h : FrameIn s l b f) (op : f.op = 6)
    (wakes : (link s l).dorm = .waking) (sent : (link s l).helloSent = true) (peer : (link s l).peer = some f.serial)
    (work : f.haveWork = false) (dis : f.disable = false) (own : (link s l).helloFlags = 0) :
    exec (.hello l b) s = .next (putLink s l (fixRef { link s l with up := true }
      (if (link s l).master then s.sys.now else (link s l).reference))) := by
  rw [exec_hello, execHello, onFrame_in h op]
  dsimp only
  rw [if_neg (by simp [wakes, sent, peer]), if_neg (by simp [work, dis, own])]

theorem exec_wakeWindowClose_waking {s : State} {l : Nat} (wakes : (link s l).dorm = .waking) :
    exec (.wakeWindowClose l) s = .next (retrain (advanceTo s ((link s l).wakeAt + 1600 + (link s l).delay)) l) := by
  simp only [exec_wakeWindowClose, execWakeWindowClose]
  rw [if_neg (by simp [wakes])]

/-! ### The loopback test and the third miss (R93, R94) -/

/-- The device when the loopback test of a link's port ends, 1 s after the miss at `t0`. -/
def looped (s : State) (l t0 : Nat) : State := putLink (advanceTo s (t0 + 1000000000)) l { link s l with trainSince := none }

theorem exec_retrainLoopback_passes {s : State} {l t0 : Nat} (since : (link s l).trainSince = some t0) (ex : linkExists s l = true)
    (down : (link s l).up = false) (dorm : (link s l).dorm = .retrain) :
    exec (.retrainLoopback l true) s = .next (looped s l t0) := by
  simp only [exec_retrainLoopback, execRetrainLoopback, since]
  rw [if_neg (by simp [ex, down, dorm])]
  rfl

/-- A failure takes the port and its links down, and is a single-part fault (R39, R93). -/
def portFails (s : State) (l : Nat) : State :=
  openOwnWin (logEv (portDown (putPort s (l / 4) { port s (l / 4) with failed := true }) (l / 4)) 0x0023 Status.ok 0x02 (l / 4) [0])

theorem exec_retrainLoopback_fails {s : State} {l t0 : Nat} (since : (link s l).trainSince = some t0) (ex : linkExists s l = true)
    (down : (link s l).up = false) (dorm : (link s l).dorm = .retrain) :
    exec (.retrainLoopback l false) s = .next (portFails (looped s l t0) l) := by
  simp only [exec_retrainLoopback, execRetrainLoopback, since]
  rw [if_neg (by simp [ex, down, dorm])]
  rfl

@[simp] theorem portFails_sys (s : State) (l : Nat) : (portFails s l).sys = s.sys := by
  rw [portFails, openOwnWin_sys, logEv_sys, portDown_frame]
  rfl

theorem portFails_failed (s : State) (l : Nat) : (port (portFails s l) (l / 4)).failed = true := by
  have ports : (portFails s l).ports = (putPort s (l / 4) { port s (l / 4) with failed := true }).ports := by
    rw [portFails, openOwnWin_ports, logEv_ports, portDown_frame]
  rw [port_congr ports, port_putPort_self]

/-- The device with DORM_EN of a link cleared and its misses forgotten. -/
def dormCleared (s : State) (l : Nat) : State :=
  putLink (putReg s 0x02 (linkReg l + 8) (dormCfg s l % 2 ^ 31)) l { link s l with missAt := [] }

theorem exec_dormMissLimit_third {s : State} {l a b c : Nat} {r : List Nat} (misses : (link s l).missAt = a :: b :: c :: r)
    (within : a ≤ c + 1000000000) (en : dormEn s l = true) :
    exec (.dormMissLimit l) s = .next (logEv (dormCleared s l) 0x0022 Status.ok 0x02 l []) := by
  simp only [exec_dormMissLimit, execDormMissLimit, misses]
  rw [if_pos ⟨within, en⟩]
  rfl

theorem dormCleared_dormEn (s : State) (l : Nat) : dormEn (dormCleared s l) l = false := by
  have cfg : dormCfg (dormCleared s l) l = dormCfg s l % 2 ^ 31 % 2 ^ 32 := getReg_putReg_self ..
  rw [dormEn, cfg, bitN]
  simp only [decide_eq_false_iff_not]
  omega

end Sys2Proof.Machine

namespace Sys2Proof
open Sys2Proof.Machine

/-- Settles O13, one case per clause. ENTER_NAK, CANCEL and a HELLO with work are `wakeUp`; an unanswered ENTER and a window without a
HELLO are `retrain`. -/
theorem dormancyEntersHoldsAndWakes : Obligations.DormancyEntersHoldsAndWakes := by
  unfold Obligations.DormancyEntersHoldsAndWakes
  refine ⟨?masterIdle, ?enterAcked, ?enterRefused, ?ack, ?nak, ?cancel, ?holdEnd, ?unanswered, ?windowOpen, ?helloWork, ?helloIdle,
    ?windowClose, ?loopback, ?missLimit⟩
  case masterIdle =>
    intro s l ex active master reneg en idle
    refine .of _ (exec_masterIdleEnter_idle ex active master reneg en idle) ?_
    rw [link_sendFrame, link_putLink_self]
    exact ⟨rfl, rfl, rfl, rfl, rfl, rfl⟩
  case enterAcked =>
    intro s l b f h op active slave reneg en idle long
    refine .of _ (exec_enter_idle h op active slave reneg en idle long) ?_
    rw [enterAcked, link_sendFrame, link_putLink_self]
    exact ⟨rfl, rfl, rfl, rfl, rfl, rfl⟩
  case enterRefused =>
    intro s l b f h op active slave busy
    exact .of _ (exec_enter_busy h op active slave busy) rfl
  case ack =>
    intro s l b f h op sent waits token
    refine .of _ (exec_enterAck_own h op sent waits token) ?_
    rw [link_putLink_self]
    exact ⟨rfl, rfl, rfl, rfl⟩
  case nak =>
    intro s l b f h op sent waits token
    exact .of _ (exec_enterNak_own h op sent waits token) (wakeUp_ends_entering s l)
  case cancel =>
    intro s l b f h op sent token
    exact .of _ (exec_cancel_own h op sent token) (wakeUp_ends_entering s l)
  case holdEnd =>
    intro s l sent fixed
    refine .of _ (exec_dormancyHoldEnd_fixed sent fixed) ?_
    rw [link_putLink_self]
    exact ⟨rfl, rfl, rfl⟩
  case unanswered =>
    intro s l a sent left
    obtain ⟨dorm, down⟩ := retrain_dorm (advanceTo s (a + 10000)) l
    refine .of _ (exec_enterAckTimeout_unanswered sent left) ⟨dorm, down, ?_, retrain_frame ..⟩
    rw [retrain_frame, advanceTo_now]
  case windowOpen =>
    intro s l dormant
    refine .of _ (exec_wakeWindowOpen_dormant dormant) ?_
    rw [link_sendFrame, link_putLink_self]
    exact ⟨rfl, rfl, rfl, rfl⟩
  case helloWork =>
    intro s l b f h op wakes sent peer reneg work
    obtain ⟨dorm, -, up⟩ := link_wakeUp (putLink s l { link s l with up := true }) l
    refine .of _ (exec_hello_work h op wakes sent peer work) ⟨dorm, by rw [up, link_putLink_self], ?_⟩
    rw [wakeUp_silent (by rwa [link_putLink_self])]
    rfl
  case helloIdle =>
    intro s l b f h op wakes sent peer work dis own
    refine .of _ (exec_hello_idle h op wakes sent peer work dis own) ?_
    rw [link_putLink_self]
    exact ⟨rfl, rfl, rfl⟩
  case windowClose =>
    intro s l wakes
    refine .of _ (exec_wakeWindowClose_waking wakes) ⟨(retrain_dorm _ l).1, ?_, retrain_frame ..⟩
    rw [retrain_frame, advanceTo_now]
  case loopback =>
    intro s l t0 p since ex down dorm
    cases p with
    | true => exact .of _ (exec_retrainLoopback_passes since ex down dorm) ⟨fun _ => ⟨rfl, rfl⟩, nofun, rfl⟩
    | false =>
      refine .of _ (exec_retrainLoopback_fails since ex down dorm) ⟨nofun, fun _ => portFails_failed .., ?_⟩
      rw [portFails_sys]
      rfl
  case missLimit =>
    intro s l a b c r misses within en
    refine .of _ (exec_dormMissLimit_third misses within en) ?_
    rw [link_logEv, dormCleared, link_putLink_self, ← dormCleared, logEv_frame]
    exact ⟨dormCleared_dormEn s l, rfl, rfl⟩

end Sys2Proof
end

section
/-!
PROOFS. A state that the statement about calibration and negotiation does not exclude and in which one of its clauses fails, run through
the model (R75, R87).
-/
namespace Sys2Proof.Machine

/-- A device with PPS_OUT_EN set, 50 ns before device time is 1 s, whose link 0 sent its eighth OFFER 100 µs before that second and has
no reply. -/
def lastOffer : State :=
  { putReg newWorker 0x0B 0x108 8 with
    sys.now := 999999950, links := [(0, { LinkSt.reset with up := true, offerSent := 8, offerAt := 999900000 })] }

end Sys2Proof.Machine

namespace Sys2Proof
open Sys2Proof.Machine

/-- Refutes O12: the clause of the eighth OFFER without a reply has no output follow. Its deadline lies ahead, device time moves there
(log 7), and its conditions do not exclude a whole second on the way, at which PPS_OUT rises (R75). -/
theorem not_calibrationRunsAndLinksNegotiate : ¬ Obligations.CalibrationRunsAndLinksNegotiate := by
  unfold Obligations.CalibrationRunsAndLinksNegotiate
  rintro ⟨-, -, -, -, -, -, -, -, -, -, noReply, -⟩
  obtain ⟨t, ht, -, -, silent⟩ := noReply lastOffer 0 (by decide) (by decide) (by decide) (by decide)
  have rises : readAfter (.offerReplyTimeout 0) lastOffer (·.out) = some [.pps 1000000000] := by decide +kernel
  have quiet : lastOffer.out = [] := rfl
  rw [readAfter_of_next _ ht, silent, quiet] at rises
  exact absurd rises (by decide)

end Sys2Proof
end
section
/-!
PROOFS. The golden bundle, the fuses and the queue: what each shared operation, port command and power command keeps (R1, R99; log 12).
-/
namespace Sys2Proof.Machine

/-! ### The three parts, and the state an outcome ends in -/

/-- What no command writes: the golden slot, the fuses and the queue of commands. -/
def fixed (s : State) : Bytes × Fuses × List Instr := (s.flash.golden, s.sys.fuses, s.pending)

/-- The three parts in a command's next state; nothing where the command answers none. -/
def fixedOf : Result → Option (Bytes × Fuses × List Instr)
  | .next t => some (fixed t)
  | _ => none

/-- The state an instruction's effect ends in. -/
def Fx.state : Fx → State
  | .go s _ => s
  | .trap s _ _ _ => s
  | .wait s => s
  | .retire s _ _ _ => s
  | .halt s _ => s

/-- The state an instruction fetch ends in. -/
def Fetched.state : Fetched → State
  | .ok s _ => s
  | .trap s _ => s
  | .wait s => s

/-- The state a received Runnel message leaves. -/
def RnIn.state : RnIn → State
  | .deliver s => s
  | .done s => s

/-- The state the issue of a manager command ends in. -/
def Issued.state : Issued → State
  | .wait s => s
  | .fail s _ => s
  | .go s _ => s

/-- The state a pass over lanes ends in. -/
def Pass.state : Pass → State
  | .ok s _ => s
  | .fault s _ _ _ => s
  | .wait s => s

/-! ### Records, conditions and folds -/

theorem fixed_mk (sys boot asleep flash feat vp mbx lv clk ports links basin mgr policy wr log intr st regs pages own insts wqs cqs
    infl accSeq spans keys pieces pieceClock ats bx nextBx allocs qps shadows mirBlk rxHeld linkStats decryptFails decryptHi rdHi sy
    syPend groups rn fw cbs pt cv spdm hbm plot pmem stacksLost out rd pending) :
    fixed ⟨sys, boot, asleep, flash, feat, vp, mbx, lv, clk, ports, links, basin, mgr, policy, wr, log, intr, st, regs, pages, own,
      insts, wqs, cqs, infl, accSeq, spans, keys, pieces, pieceClock, ats, bx, nextBx, allocs, qps, shadows, mirBlk, rxHeld,
      linkStats, decryptFails, decryptHi, rdHi, sy, syPend, groups, rn, fw, cbs, pt, cv, spdm, hbm, plot, pmem, stacksLost, out, rd,
      pending⟩ = (flash.golden, sys.fuses, pending) := rfl

theorem fixed_eta (s : State) : (s.flash.golden, s.sys.fuses, s.pending) = fixed s := rfl

theorem fixed_ite (c : Prop) [Decidable c] (a b : State) :
    fixed (if c then a else b) = if c then fixed a else fixed b := apply_ite ..

theorem fixedOf_next (s : State) : fixedOf (.next s) = some (fixed s) := rfl

theorem fixedOf_ite (c : Prop) [Decidable c] (a b : Result) :
    fixedOf (if c then a else b) = if c then fixedOf a else fixedOf b := apply_ite ..

theorem fixed_foldl {α : Type} {f : State → α → State} (h : ∀ s x, fixed (f s x) = fixed s) (l : List α) (s : State) :
    fixed (l.foldl f s) = fixed s := by
  induction l generalizing s with
  | nil => rfl
  | cons x l ih => exact (ih _).trans (h s x)

theorem ReadFrame.fixed {s t : State} (h : ReadFrame s t) : Machine.fixed t = Machine.fixed s := by
  rw [h]
  rfl

theorem WriteFrame.fixed {s t : State} (h : WriteFrame s t) : Machine.fixed t = Machine.fixed s := by
  rw [h]
  rfl

section
variable {s t : State} {c : Prop} [Decidable c]

theorem fixed_if {a b : State} (ha : fixed a = fixed s) (hb : fixed b = fixed s) : fixed (if c then a else b) = fixed s := by
  split
  · exact ha
  · exact hb

theorem fixedOf_if {a b : Result} (ha : fixedOf a = some (fixed s)) (hb : fixedOf b = some (fixed s)) :
    fixedOf (if c then a else b) = some (fixed s) := by
  split
  · exact ha
  · exact hb

theorem RnIn.fixed_if {a b : RnIn} (ha : fixed a.state = fixed s) (hb : fixed b.state = fixed s) :
    fixed (if c then a else b).state = fixed s := by
  split
  · exact ha
  · exact hb

/-! ### From what a function keeps to the state of one of its outcomes -/

theorem Acc.fixed_ok {x : Acc} {b : Bytes} (k : fixed x.state = fixed s) (h : x = .ok t b) : fixed t = fixed s := by
  rwa [h] at k

theorem Acc.fixed_fault {x : Acc} {st : Byte} {r : Bool} (k : fixed x.state = fixed s) (h : x = .fault t st r) :
    fixed t = fixed s := by
  rwa [h] at k

theorem Acc.fixed_wait {x : Acc} (k : fixed x.state = fixed s) (h : x = .wait t) : fixed t = fixed s := by
  rwa [h] at k

theorem Acc.fixed_of_eq {x y : Acc} (k : fixed x.state = fixed s) (h : x = y) : fixed y.state = fixed s := h ▸ k

theorem Tr.fixed_ok {x : Tr} {l : Loc} {n : Nat} (k : fixed x.state = fixed s) (h : x = .ok t l n) : fixed t = fixed s := by
  rwa [h] at k

theorem Tr.fixed_basin {x : Tr} {a n o : Nat} (k : fixed x.state = fixed s) (h : x = .basin t a n o) : fixed t = fixed s := by
  rwa [h] at k

theorem Tr.fixed_fault {x : Tr} {st : Byte} (k : fixed x.state = fixed s) (h : x = .fault t st) : fixed t = fixed s := by
  rwa [h] at k

theorem Tr.fixed_wait {x : Tr} (k : fixed x.state = fixed s) (h : x = .wait t) : fixed t = fixed s := by
  rwa [h] at k

theorem Pass.fixed_ok {x : Pass} {l : List (Nat × Nat)} (k : fixed x.state = fixed s) (h : x = .ok t l) :
    fixed t = fixed s := by
  rwa [h] at k

theorem Pass.fixed_fault {x : Pass} {st : Byte} {a l : Nat} (k : fixed x.state = fixed s) (h : x = .fault t st a l) :
    fixed t = fixed s := by
  rwa [h] at k

theorem Pass.fixed_wait {x : Pass} (k : fixed x.state = fixed s) (h : x = .wait t) : fixed t = fixed s := by
  rwa [h] at k

theorem Pass.fixed_of_eq {x y : Pass} (k : fixed x.state = fixed s) (h : x = y) : fixed y.state = fixed s := h ▸ k

theorem RnIn.fixed_deliver {x : RnIn} (k : fixed x.state = fixed s) (h : x = .deliver t) : fixed t = fixed s := by
  rwa [h] at k

theorem RnIn.fixed_done {x : RnIn} (k : fixed x.state = fixed s) (h : x = .done t) : fixed t = fixed s := by
  rwa [h] at k

theorem Issued.fixed_wait {x : Issued} (k : fixed x.state = fixed s) (h : x = .wait t) : fixed t = fixed s := by
  rwa [h] at k

theorem Issued.fixed_fail {x : Issued} {st : Byte} (k : fixed x.state = fixed s) (h : x = .fail t st) :
    fixed t = fixed s := by
  rwa [h] at k

theorem Issued.fixed_go {x : Issued} {d : HeldCmd} (k : fixed x.state = fixed s) (h : x = .go t d) : fixed t = fixed s := by
  rwa [h] at k

theorem Fetched.fixed_ok {x : Fetched} {w : Nat} (k : fixed x.state = fixed s) (h : x = .ok t w) : fixed t = fixed s := by
  rwa [h] at k

theorem Fetched.fixed_trap {x : Fetched} {d : Byte} (k : fixed x.state = fixed s) (h : x = .trap t d) :
    fixed t = fixed s := by
  rwa [h] at k

theorem Fetched.fixed_wait {x : Fetched} (k : fixed x.state = fixed s) (h : x = .wait t) : fixed t = fixed s := by
  rwa [h] at k

theorem Fx.fixed_go {x : Fx} {g : Tg} (k : fixed x.state = fixed s) (h : x = .go t g) : fixed t = fixed s := by
  rwa [h] at k

theorem Fx.fixed_trap {x : Fx} {d : Byte} {a l : Nat} (k : fixed x.state = fixed s) (h : x = .trap t d a l) :
    fixed t = fixed s := by
  rwa [h] at k

theorem Fx.fixed_wait {x : Fx} (k : fixed x.state = fixed s) (h : x = .wait t) : fixed t = fixed s := by
  rwa [h] at k

theorem Fx.fixed_retire {x : Fx} {g : Tg} {st : Byte} {r : Bool} (k : fixed x.state = fixed s) (h : x = .retire t g st r) :
    fixed t = fixed s := by
  rwa [h] at k

theorem Fx.fixed_halt {x : Fx} {g : Tg} (k : fixed x.state = fixed s) (h : x = .halt t g) : fixed t = fixed s := by
  rwa [h] at k

theorem fixed_of_fst {α : Type} {p : State × α} {a : α} (k : fixed p.1 = fixed s) (h : p = (t, a)) : fixed t = fixed s := by
  rwa [h] at k

theorem fixed_of_some {o : Option State} (k : fixed (o.getD s) = fixed s) (h : o = some t) : fixed t = fixed s := by
  rwa [h] at k

theorem fixed_of_next {r : Result} (k : fixedOf r = some (fixed s)) (h : r = .next t) : fixed t = fixed s := by
  rw [h] at k
  exact Option.some.inj k

theorem fixed_of_ite {α : Type} {p q : State × α} {a : α} (hp : fixed p.1 = fixed s) (hq : fixed q.1 = fixed s)
    (h : (if c then p else q) = (t, a)) : fixed t = fixed s := by
  split at h
  · exact fixed_of_fst hp h
  · exact fixed_of_fst hq h

theorem fixed_getD {o : Option State} {d : State} (k : fixed (o.getD s) = fixed s) (h : fixed d = fixed s) :
    fixed (o.getD d) = fixed s := by
  cases o with
  | none => exact h
  | some t => exact k
end

/-! ### Shared operations -/

theorem fixed_emit (s : State) (o : Out) : fixed (emit s o) = fixed s := rfl

theorem fixed_freeStep (s : State) : fixed (freeStep s) = fixed s := rfl

theorem fixed_setRd (s : State) (v : Nat) : fixed (setRd s v) = fixed s := rfl

theorem fixed_setNow (s : State) (t : Nat) : fixed (setNow s t) = fixed s := rfl

theorem fixed_advanceTo (s : State) (t : Nat) : fixed (advanceTo s t) = fixed s := rfl

theorem fixed_putReg (s : State) (blk off : Nat) (w : Nat) : fixed (putReg s blk off w) = fixed s := rfl

theorem fixed_resetRegs (s : State) (f : Nat → Bool) : fixed (resetRegs s f) = fixed s := rfl

theorem fixed_sendInt (s : State) : fixed (sendInt s) = fixed s := rfl

theorem fixed_setInt (s : State) (stat en : BitVec 6) : fixed (setInt s stat en) = fixed s := by
  rw [setInt_frame]
  rfl

theorem fixed_raise (s : State) (n : Nat) : fixed (raise s n) = fixed s := by
  rw [raise_frame]
  rfl

theorem fixed_logSev (s : State) (id : Nat) (status : Byte) (source sev unit : Nat) (detail : Bytes) :
    fixed (logSev s id status source sev unit detail) = fixed s := by
  rw [logSev_frame]
  rfl

theorem fixed_logEv (s : State) (id : Nat) (status : Byte) (source unit : Nat) (detail : Bytes) :
    fixed (logEv s id status source unit detail) = fixed s := by
  rw [logEv_frame]
  rfl

theorem fixed_voidGuarantee (s : State) (why : Nat) : fixed (voidGuarantee s why) = fixed s := by
  rw [voidGuarantee_frame]
  rfl

theorem fixed_openOwnWin (s : State) : fixed (openOwnWin s) = fixed s := by
  rw [openOwnWin_frame]
  rfl

theorem fixed_reject (s : State) (addr : Nat) (inst : Option Nat) (w : RegWr) (st : Byte) :
    fixed (reject s addr inst w st) = fixed s := by
  rw [reject_frame]
  rfl

theorem fixed_checked (s : State) (a : Nat) (i : Option Nat) (w : RegWr) (cs : List (Bool × Byte)) (eff : State)
    (h : fixed eff = fixed s) : fixed (checked s a i w cs eff) = fixed s := by
  obtain e | e | ⟨st, e⟩ := checked_cases s a i w cs eff <;> rw [e]
  · exact h
  · exact fixed_reject ..

theorem fixed_mbxRespond (s : State) (r : MbxReq) (st : Byte) (data : Bytes) :
    fixed (mbxRespond s r st data) = fixed s := by
  rw [mbxRespond_frame]
  rfl

theorem fixed_mbxDone (s : State) (st : Byte) (data : Bytes) : fixed (mbxDone s st data) = fixed s := by
  rw [mbxDone_frame]
  rfl

/-! ### Ports, modules and links -/

theorem fixed_putPort (s : State) (p : Nat) (x : Port) : fixed (putPort s p x) = fixed s := rfl

theorem fixed_putLink (s : State) (l : Nat) (x : LinkSt) : fixed (putLink s l x) = fixed s := rfl

theorem fixed_calStart (s : State) (l : Nat) : fixed (calStart s l) = fixed s := by
  unfold calStart
  exact fixed_if (fixed_putLink ..) rfl

theorem fixed_calAccept (s : State) (l tag : Nat) : fixed (calAccept s l tag) = fixed s := by
  unfold calAccept
  exact fixed_calStart ..

@[simp] theorem fixed_execSlCalStart (l : Nat) (w : RegWr) (s : State) : fixedOf (execSlCalStart l w s) = some (fixed s) := by
  unfold execSlCalStart
  exact fixedOf_if rfl (congrArg some (fixed_checked (h := (fixed_if (fixed_calAccept ..) rfl)) ..))

@[simp] theorem fixed_execCalIdleWindow (l ns : Nat) (s : State) : fixedOf (execCalIdleWindow l ns s) = some (fixed s) := by
  unfold execCalIdleWindow
  exact fixedOf_if rfl (congrArg some (fixed_putLink ..))

theorem fixed_calEnd (s : State) (l : Nat) (st : Byte) : fixed (calEnd s l st) = fixed s := by
  unfold calEnd
  exact fixed_logSev ..

@[simp] theorem fixed_execCalComplete (l : Nat) (s : State) : fixedOf (execCalComplete l s) = some (fixed s) := by
  unfold execCalComplete
  exact fixedOf_if rfl (congrArg some (fixed_calEnd ..))

@[simp] theorem fixed_execCalDeferTimeout (l : Nat) (s : State) : fixedOf (execCalDeferTimeout l s) = some (fixed s) := by
  unfold execCalDeferTimeout
  exact fixedOf_if rfl (congrArg some (fixed_calEnd ..))

theorem fixed_logModule (s : State) (p : Nat) (m : ModState) : fixed (logModule s p m) = fixed s := by
  unfold logModule
  exact fixed_logEv ..

theorem fixed_retrain (s : State) (l : Nat) : fixed (retrain s l) = fixed s := by
  unfold retrain
  exact fixed_logEv ..

theorem fixed_goDown (s : State) (l : Nat) : fixed (goDown s l) = fixed s := by
  unfold goDown
  refine (fixed_calStart ..).trans ?_
  split
  · exact fixed_retrain ..
  · exact fixed_retrain ..
  · exact fixed_retrain ..
  · exact fixed_putLink ..

theorem fixed_portDown (s : State) (p : Nat) : fixed (portDown s p) = fixed s := by
  unfold portDown
  exact fixed_foldl (fun s p => fixed_if (fixed_goDown ..) (fixed_calStart ..)) _ _

@[simp] theorem fixed_execModuleInsertion (p : Nat) (info : ModuleInfo) (s : State) :
    fixedOf (execModuleInsertion p info s) = some (fixed s) := by
  unfold execModuleInsertion
  exact fixedOf_if rfl (fixedOf_if (congrArg some (fixed_putPort ..)) (fixedOf_if (congrArg some (fixed_putPort ..))
      (congrArg some ((fixed_logModule ..).trans (fixed_portDown ..)))))

theorem fixed_moduleFault (s : State) (p : Nat) : fixed (moduleFault s p) = fixed s := by
  unfold moduleFault
  exact fixed_if rfl ((fixed_logModule ..).trans (fixed_portDown ..))

@[simp] theorem fixed_execCmisPoll (p : Nat) (ans : CmisAnswer) (s : State) :
    fixedOf (execCmisPoll p ans s) = some (fixed s) := by
  unfold execCmisPoll
  refine fixedOf_if rfl ?_
  split
  · exact congrArg some (fixed_putPort ..)
  · exact congrArg some (fixed_moduleFault ..)
  · exact fixedOf_if (congrArg some (fixed_moduleFault ..)) (congrArg some (fixed_putPort ..))

@[simp] theorem fixed_execModuleRead (answers : Bool) (s : State) : fixedOf (execModuleRead answers s) = some (fixed s) := by
  unfold execModuleRead
  split
  · rfl
  · dsimp only
    split
    · exact congrArg some (fixed_mbxDone ..)
    · exact congrArg some (fixed_mbxDone ..)

@[simp] theorem fixed_execModuleWrite (answers : Bool) (s : State) : fixedOf (execModuleWrite answers s) = some (fixed s) := by
  unfold execModuleWrite
  split
  · rfl
  · dsimp only
    split
    · exact congrArg some (fixed_mbxDone ..)
    · exact congrArg some (fixed_mbxDone ..)

theorem fixed_sendFrame (s : State) (l : Nat) (f : LinkFrame) : fixed (sendFrame s l f) = fixed s := rfl

theorem fixed_onFrame (s : State) (l : Nat) (op : Nat) (b : Bytes) (k : LinkFrame → State)
    (hk : ∀ f : LinkFrame, fixed (k f) = fixed s) :
    fixedOf (onFrame s l op b k) = some (fixed s) := by
  unfold onFrame
  refine fixedOf_if rfl ?_
  refine fixedOf_if (congrArg some (fixed_putLink ..)) ?_
  split
  · exact congrArg some (fixed_putLink ..)
  · exact fixedOf_if (congrArg some (hk _)) rfl

theorem fixed_sendOffer (s : State) (l : Nat) (reply : Bool) (turn : Nat) :
    fixed (sendOffer s l reply turn) = fixed s := rfl

theorem fixed_beginOffer (s : State) (l : Nat) : fixed (beginOffer s l) = fixed s := rfl

theorem fixed_concludeOffer (s : State) (l : Nat) : fixed (concludeOffer s l) = fixed s := by
  unfold concludeOffer
  dsimp only
  split
  · exact fixed_putLink ..
  · rfl

@[simp] theorem fixed_execLinkTrained (l : Nat) (merge : Bool) (s : State) :
    fixedOf (execLinkTrained l merge s) = some (fixed s) := by
  unfold execLinkTrained
  exact fixedOf_if rfl (fixedOf_if (congrArg some (fixed_if (fixed_putLink ..) rfl)) (congrArg some (fixed_beginOffer ..)))

@[simp] theorem fixed_execLinkDown (l : Nat) (s : State) : fixedOf (execLinkDown l s) = some (fixed s) := by
  unfold execLinkDown
  exact fixedOf_if rfl (congrArg some (fixed_goDown ..))

@[simp] theorem fixed_execOffer (l : Nat) (b : Bytes) (s : State) : fixedOf (execOffer l b s) = some (fixed s) := by
  unfold execOffer
  exact fixed_onFrame (hk := fun f => fixed_if rfl (fixed_if (fixed_if rfl (fixed_concludeOffer ..))
      (fixed_concludeOffer ..))) ..

@[simp] theorem fixed_execOfferReplyTimeout (l : Nat) (s : State) : fixedOf (execOfferReplyTimeout l s) = some (fixed s) := by
  unfold execOfferReplyTimeout
  exact fixedOf_if rfl (fixedOf_if (congrArg some (fixed_putLink ..)) (congrArg some (fixed_sendOffer ..)))

theorem fixed_renegotiate (s : State) : fixed (renegotiate s) = fixed s := by
  simp only [renegotiate, fixed_ite, ite_self, fixed_foldl, implies_true, fixed_putLink, fixed_beginOffer]

@[simp] theorem fixed_execMasterIdleEnter (l : Nat) (s : State) : fixedOf (execMasterIdleEnter l s) = some (fixed s) := by
  unfold execMasterIdleEnter
  exact fixedOf_if rfl (congrArg some (fixed_sendFrame ..))

@[simp] theorem fixed_execEnter (l : Nat) (b : Bytes) (s : State) : fixedOf (execEnter l b s) = some (fixed s) := by
  unfold execEnter
  exact fixed_onFrame (hk := fun f => fixed_if rfl (fixed_if (fixed_sendFrame ..) (fixed_sendFrame ..))) ..

@[simp] theorem fixed_execEnterAck (l : Nat) (b : Bytes) (s : State) : fixedOf (execEnterAck l b s) = some (fixed s) := by
  unfold execEnterAck
  exact fixed_onFrame (hk := fun f => fixed_if (fixed_putLink ..) rfl) ..

theorem fixed_wakeUp (s : State) (l : Nat) : fixed (wakeUp s l) = fixed s := by
  rw [wakeUp_frame]
  rfl

@[simp] theorem fixed_execEnterNak (l : Nat) (b : Bytes) (s : State) : fixedOf (execEnterNak l b s) = some (fixed s) := by
  unfold execEnterNak
  exact fixed_onFrame (hk := fun f => fixed_if (fixed_wakeUp ..) rfl) ..

@[simp] theorem fixed_execCancel (l : Nat) (b : Bytes) (s : State) : fixedOf (execCancel l b s) = some (fixed s) := by
  unfold execCancel
  exact fixed_onFrame (hk := fun f => fixed_if (fixed_wakeUp ..) rfl) ..

@[simp] theorem fixed_execDormancyHoldEnd (l : Nat) (s : State) : fixedOf (execDormancyHoldEnd l s) = some (fixed s) := by
  unfold execDormancyHoldEnd
  exact fixedOf_if rfl (congrArg some (fixed_putLink ..))

@[simp] theorem fixed_execEnterAckTimeout (l : Nat) (s : State) : fixedOf (execEnterAckTimeout l s) = some (fixed s) := by
  unfold execEnterAckTimeout
  split
  · rfl
  · exact fixedOf_if rfl (congrArg some (fixed_retrain ..))

@[simp] theorem fixed_execWakeWindowOpen (l : Nat) (s : State) : fixedOf (execWakeWindowOpen l s) = some (fixed s) := by
  unfold execWakeWindowOpen
  exact fixedOf_if rfl (congrArg some (fixed_sendFrame ..))

@[simp] theorem fixed_execHello (l : Nat) (b : Bytes) (s : State) : fixedOf (execHello l b s) = some (fixed s) := by
  unfold execHello
  exact fixed_onFrame (hk := fun f => fixed_if rfl (fixed_if (fixed_wakeUp ..) (fixed_putLink ..))) ..

@[simp] theorem fixed_execWakeWindowClose (l : Nat) (s : State) : fixedOf (execWakeWindowClose l s) = some (fixed s) := by
  unfold execWakeWindowClose
  exact fixedOf_if rfl (congrArg some (fixed_retrain ..))

@[simp] theorem fixed_execDormMissLimit (l : Nat) (s : State) : fixedOf (execDormMissLimit l s) = some (fixed s) := by
  unfold execDormMissLimit
  dsimp only
  split
  · exact fixedOf_if (congrArg some (fixed_logEv ..)) rfl
  · rfl

/-! ### Instances' tables -/

theorem fixed_instStat (s : State) (n k d : Nat) : fixed (instStat s n k d) = fixed s := rfl

theorem fixed_putPage (s : State) (inst off v : Nat) : fixed (putPage s inst off v) = fixed s := rfl

theorem fixed_putStat (s : State) (inst off : Nat) (busy : Bool) (st : Byte) :
    fixed (putStat s inst off busy st) = fixed s := rfl

theorem fixed_rejectCmd (s : State) (inst off stat : Nat) (w : RegWr) (st : Byte) :
    fixed (rejectCmd s inst off stat w st) = fixed s := by
  unfold rejectCmd
  exact (fixed_putStat ..).trans (fixed_reject ..)

theorem fixed_pageCmd (s : State) (inst off stat : Nat) (w : RegWr) (cs : List (Bool × Byte)) (eff : State → State)
    (heff : ∀ u : State, fixed (eff u) = fixed u) :
    fixedOf (pageCmd s inst off stat w cs eff) = some (fixed s) := by
  unfold pageCmd
  refine fixedOf_if rfl ?_
  refine fixedOf_if (congrArg some (fixed_reject ..)) ?_
  refine fixedOf_if (congrArg some (fixed_reject ..)) ?_
  refine fixedOf_if (congrArg some (fixed_reject ..)) ?_
  split
  · exact congrArg some (fixed_rejectCmd ..)
  · exact fixedOf_if (congrArg some (heff _)) (congrArg some (fixed_rejectCmd ..))

theorem fixed_onCmd (w : RegWr) (c : Nat) (s : State) (k : Result) (hk : fixedOf k = some (fixed s)) :
    fixedOf (onCmd w c s k) = some (fixed s) := by
  unfold onCmd
  split
  · exact hk
  · rfl

/-! ### Levee and gating -/

theorem fixed_putRegion (s : State) (n : Nat) (r : Region) : fixed (putRegion s n r) = fixed s := rfl

@[simp] theorem fixed_execJunctionOvertemp (tempC : Nat) (s : State) :
    fixedOf (execJunctionOvertemp tempC s) = some (fixed s) := by
  unfold execJunctionOvertemp
  exact fixedOf_if rfl rfl

@[simp] theorem fixed_execGridExcursion (n : Nat) (deltaMv : Int) (s : State) :
    fixedOf (execGridExcursion n deltaMv s) = some (fixed s) := by
  unfold execGridExcursion
  exact fixedOf_if rfl (congrArg some (fixed_putRegion ..))

theorem fixed_onRegions (s : State) (ns : List Nat) (f : Region → Region) : fixed (onRegions s ns f) = fixed s := by
  unfold onRegions
  exact fixed_foldl (fun s p => fixed_putRegion ..) _ _

theorem fixed_seenCurrent (s : State) (u : PowerUnit) (i : Nat) : fixed (seenCurrent s u i) = fixed s := by
  unfold seenCurrent
  split
  · exact fixed_if (fixed_putRegion ..) rfl
  · rfl

@[simp] theorem fixed_execOcThrottleEnter (u : PowerUnit) (samples : List Nat) (s : State) :
    fixedOf (execOcThrottleEnter u samples s) = some (fixed s) := by
  unfold execOcThrottleEnter
  exact fixedOf_if rfl (congrArg some ((fixed_onRegions ..).trans (fixed_seenCurrent ..)))

theorem fixed_ungate (s : State) (b : Blk) : fixed (ungate s b) = fixed s := rfl

theorem fixed_wakeBlk (s : State) (b : Blk) : fixed (wakeBlk s b) = fixed s := (wakeBlk_frame ..).fixed

theorem fixed_onBlk (b : Blk) (s : State) (k : State → Result) (hk : ∀ u : State, fixedOf (k u) = some (fixed u)) :
    fixedOf (onBlk b s k) = some (fixed s) := by
  unfold onBlk
  exact fixedOf_if (congrArg some (fixed_wakeBlk ..)) ((hk _).trans (congrArg some (fixed_wakeBlk ..)))

theorem fixed_releaseWakes (s : State) : fixed (releaseWakes s) = fixed s := by
  unfold releaseWakes
  exact fixed_foldl (fun s p => fixed_if rfl (fixed_ungate ..)) _ _

@[simp] theorem fixed_execThrottleExit (u : PowerUnit) (highest ns : Nat) (s : State) :
    fixedOf (execThrottleExit u highest ns s) = some (fixed s) := by
  unfold execThrottleExit
  exact fixedOf_if rfl (congrArg some ((fixed_releaseWakes ..).trans (fixed_onRegions ..)))

theorem fixed_persistOne (pkg : Bool) (s : State) (n : Nat) : fixed (persistOne pkg s n) = fixed s := by
  unfold persistOne
  exact fixed_logEv ..

@[simp] theorem fixed_execOcPersist (u : PowerUnit) (s : State) : fixedOf (execOcPersist u s) = some (fixed s) := by
  unfold execOcPersist
  exact fixedOf_if rfl (congrArg some (fixed_foldl (fun s p => fixed_persistOne ..) _ _))

@[simp] theorem fixed_execSenseOpen (n : Nat) (pairB : Bool) (readings : List Nat) (s : State) :
    fixedOf (execSenseOpen n pairB readings s) = some (fixed s) := by
  unfold execSenseOpen
  exact fixedOf_if rfl (congrArg some (fixed_logEv ..))

@[simp] theorem fixed_execDrop (n : Nat) (samples : List DropSample) (s : State) :
    fixedOf (execDrop n samples s) = some (fixed s) := by
  unfold execDrop
  exact fixedOf_if rfl (congrArg some (fixed_logEv ..))

@[simp] theorem fixed_execDisagree (n : Nat) (samples : List DropSample) (s : State) :
    fixedOf (execDisagree n samples s) = some (fixed s) := by
  unfold execDisagree
  exact fixedOf_if rfl (congrArg some (fixed_putRegion ..))

@[simp] theorem fixed_execPmbusPoll (faults : List (Nat × BitVec 16)) (s : State) :
    fixedOf (execPmbusPoll faults s) = some (fixed s) := by
  simp only [execPmbusPoll, fixed_mk, fixed_eta, ite_self, fixed_foldl, implies_true, fixedOf_next, fixedOf_ite, fixed_logEv]

theorem fixed_vdone (s : State) (tag : Nat) (st : Byte) : fixed (vdone s tag st) = fixed s := by
  unfold vdone
  exact fixed_if rfl rfl

theorem fixed_sendV (s : State) (target : Nat) : fixed (sendV s target) = fixed s := rfl

theorem fixed_acceptV (s : State) (target tag : Nat) : fixed (acceptV s target tag) = fixed s := by
  unfold acceptV
  refine (fixed_sendV ..).trans ?_
  simp only [fixed_mk, fixed_eta]
  split
  · exact fixed_vdone ..
  · rfl

@[simp] theorem fixed_execLvVcmd (w : RegWr) (s : State) : fixedOf (execLvVcmd w s) = some (fixed s) := by
  unfold execLvVcmd
  exact fixedOf_if rfl (congrArg some (fixed_checked (h := (fixed_acceptV ..)) ..))

theorem fixed_endV (s : State) (st : Byte) : fixed (endV s st) = fixed s := by
  unfold endV
  split
  · rfl
  · exact fixed_vdone ..

@[simp] theorem fixed_execVcmdSettle (r1 r2 : Nat) (s : State) : fixedOf (execVcmdSettle r1 r2 s) = some (fixed s) := by
  unfold execVcmdSettle
  split
  · rfl
  · exact fixedOf_if (congrArg some (fixed_endV ..)) rfl

@[simp] theorem fixed_execVcmdTimeout (s : State) : fixedOf (execVcmdTimeout s) = some (fixed s) := by
  unfold execVcmdTimeout
  split
  · rfl
  · exact congrArg some (fixed_endV ..)

@[simp] theorem fixed_execAvsbusSilent (s : State) : fixedOf (execAvsbusSilent s) = some (fixed s) := by
  unfold execAvsbusSilent
  split
  · rfl
  · exact congrArg some (fixed_endV ..)

@[simp] theorem fixed_execLvVdoneRead (s : State) : fixedOf (execLvVdoneRead s) = some (fixed s) := by
  unfold execLvVdoneRead
  refine fixedOf_if rfl ?_
  refine congrArg some ?_
  simp only [fixed_mk, fixed_eta]
  exact fixed_setRd ..

end Sys2Proof.Machine
end

section
/-!
PROOFS. The golden bundle, the fuses and the queue, kept by translation, the Headgate queues and spans (R1, R99; log 12).
-/
namespace Sys2Proof.Machine

/-! ### Translation and memory access -/

theorem fixed_logCorrupt (s : State) (source kind idx : Nat) :
    fixed (logCorrupt s source kind idx) = fixed s := (logCorrupt_frame ..).fixed

theorem fixed_captureKey (s : State) (inst key reason : Nat) (remote : Bool) :
    fixed (captureKey s inst key reason remote) = fixed s := by
  unfold captureKey
  exact fixed_if (fixed_putPage ..) (fixed_putPage ..)

theorem fixed_keyRepair (s : State) (idx : Nat) : fixed (keyRepair s idx) = fixed s := rfl

theorem fixed_admitKey (s : State) (inst key need addr len : Nat) (basin remote : Bool) :
    fixed (admitKey s inst key need addr len basin remote).1 = fixed s := by
  unfold admitKey
  split
  · exact fixed_keyRepair ..
  · exact fixed_logCorrupt ..
  · exact fixed_captureKey ..

theorem fixed_lineWait (s : State) (l : Loc) (len : Nat) (write : Bool) :
    fixed ((lineWait s l len write).getD s) = fixed s := by
  cases h : lineWait s l len write with
  | none => rfl
  | some t => exact (lineWait_frame h).fixed

theorem fixed_installPiece (s : State) (p : Piece) : fixed ((installPiece s p).getD s) = fixed s := by
  cases h : installPiece s p with
  | none => rfl
  | some t => exact (installPiece_frame h).fixed

theorem fixed_usePiece (s : State) (k addr : Nat) (p : Piece) : fixed ((usePiece s k addr p).getD s) = fixed s := by
  cases h : usePiece s k addr p with
  | none => rfl
  | some t => exact (usePiece_frame h).fixed

theorem fixed_atsAsk (s : State) (inst addr len : Nat) (write advise : Bool) (pasid : Nat) :
    fixed (atsAsk s inst addr len write advise pasid) = fixed s := rfl

theorem fixed_spanRepair (s : State) (idx : Nat) : fixed (spanRepair s idx) = fixed s := (spanRepair_frame ..).fixed

theorem fixed_translateAt (at_ : Option Nat) (s : State) (inst addr len : Nat) (write : Bool) :
    fixed (translateAt at_ s inst addr len write).state = fixed s := (translateAt_frame ..).fixed

theorem fixed_translate (s : State) (inst addr len : Nat) (write : Bool) :
    fixed (translate s inst addr len write).state = fixed s := by
  unfold translate
  exact fixed_translateAt ..

theorem fixed_setLoc (s : State) (l : Loc) (b : Bytes) : fixed (setLoc s l b) = fixed s := (setLoc_frame ..).fixed

theorem fixed_basinPiece (s : State) (inst a n handle : Nat) (write : Bool) (data : Bytes) :
    fixed (basinPiece s inst a n handle write data).state = fixed s := (basinPiece_frame ..).fixed

theorem fixed_readMemAt (at_ : Option Nat) (s : State) (inst addr len : Nat) :
    fixed (readMemAt at_ s inst addr len).state = fixed s := (readMemAt_frame ..).fixed

theorem fixed_writeMemAt (at_ : Option Nat) (s : State) (inst addr : Nat) (b : Bytes) :
    fixed (writeMemAt at_ s inst addr b).state = fixed s := (writeMemAt_frame ..).fixed

theorem fixed_readMem (s : State) (inst addr len : Nat) :
    fixed (readMem s inst addr len).state = fixed s := (readMem_frame ..).fixed

theorem fixed_writeMem (s : State) (inst addr : Nat) (b : Bytes) :
    fixed (writeMem s inst addr b).state = fixed s := (writeMem_frame ..).fixed

theorem fixed_probe (w : Bool) (o : Option Nat) (f : Nat) (s : State) (i a n : Nat) : fixed (probe w o f s i a n).state = fixed
    s :=
  (probe_frame ..).fixed

theorem fixed_dropPieces (s : State) (idx : Nat) : fixed (dropPieces s idx) = fixed s := rfl

theorem fixed_dropFree (s : State) (idx : Nat) : fixed (dropFree s idx) = fixed s := rfl

/-! ### Queues -/

theorem fixed_putWq (s : State) (q : Nat) (x : Wq) : fixed (putWq s q x) = fixed s := rfl

theorem fixed_putCq (s : State) (c : Nat) (x : Cq) : fixed (putCq s c x) = fixed s := rfl

theorem fixed_putInfl (s : State) (q i : Nat) (x : Infl) : fixed (putInfl s q i x) = fixed s := rfl

theorem fixed_enterError (s : State) (q : Nat) (st : Byte) : fixed (enterError s q st) = fixed s := by
  unfold enterError
  split
  · rfl
  · exact fixed_if rfl (fixed_putWq ..)

theorem fixed_spillAll (s : State) (q : Nat) (f : Nat → Bool) : fixed (spillAll s q f) = fixed s := by
  unfold spillAll
  split
  · rfl
  · refine fixed_foldl (fun s p => ?_) _ _
    refine fixed_if ?_ rfl
    split
    · exact (Acc.fixed_wait (fixed_writeMem ..) ‹_› :)
    · exact (fixed_enterError ..).trans (Acc.fixed_fault (fixed_writeMem ..) ‹_› :)
    · exact (Acc.fixed_ok (fixed_writeMem ..) ‹_› :)

theorem fixed_fenceStep (s : State) (q : Nat) : fixed (fenceStep s q) = fixed s := by
  unfold fenceStep
  split
  · rfl
  · exact fixed_if rfl (fixed_spillAll ..)

theorem fixed_settle (s : State) (q : Nat) : fixed (settle s q) = fixed s := by
  unfold settle
  split
  · rfl
  · exact fixed_if (fixed_spillAll ..) rfl

theorem fixed_queueReg (s : State) (q off : Nat) (w : RegWr) (k : Wq → State) (hk : ∀ x : Wq, fixed (k x) = fixed s) :
    fixedOf (queueReg s q off w k) = some (fixed s) := by
  unfold queueReg
  refine fixedOf_if rfl ?_
  refine fixedOf_if (congrArg some (fixed_reject ..)) ?_
  refine fixedOf_if (congrArg some (fixed_reject ..)) ?_
  split
  · exact congrArg some (fixed_reject ..)
  · exact congrArg some (hk _)

@[simp] theorem fixed_execHgDb (q : Nat) (w : RegWr) (s : State) : fixedOf (execHgDb q w s) = some (fixed s) := by
  unfold execHgDb
  exact fixed_queueReg (hk := fun x => fixed_if rfl (fixed_if (fixed_reject ..)
      (fixed_if (fixed_reject ..) (fixed_if (fixed_wakeBlk ..) rfl)))) ..

theorem fixed_cacheLine (s : State) : fixed ((cacheLine s).getD s) = fixed s := by
  unfold cacheLine
  split
  · rfl
  · split
    · rfl
    · rfl

theorem fixed_pushStep (s : State) (q : Nat) : fixed (pushStep s q) = fixed s := by
  unfold pushStep
  split
  · rfl
  · split
    · rfl
    · dsimp only
      split
      · exact (fixed_of_some (fixed_cacheLine ..) ‹_› :)
      · split
        · exact (Acc.fixed_ok (fixed_writeMem ..) ‹_› :)
        · exact (Acc.fixed_wait (fixed_writeMem ..) ‹_› :)
        · exact (fixed_enterError ..).trans (Acc.fixed_fault (fixed_writeMem ..) ‹_› :)

@[simp] theorem fixed_execPushWrite (win : Nat) (p : PushWr) (s : State) :
    fixedOf (execPushWrite win p s) = some (fixed s) := by
  unfold execPushWrite
  refine fixedOf_if rfl ?_
  refine fixedOf_if (congrArg some (fixed_reject ..)) ?_
  refine fixedOf_if (congrArg some (fixed_reject ..)) ?_
  split
  · exact congrArg some (fixed_reject ..)
  · refine fixedOf_if rfl ?_
    dsimp only
    split
    · exact congrArg some (fixed_reject ..)
    · exact congrArg some ((fixed_pushStep ..).trans (fixed_wakeBlk ..))

theorem fixed_fetchSlot (s : State) (q i : Nat) (x : Wq) (reads : Nat) : fixed (fetchSlot s q i x reads) = fixed s := by
  unfold fetchSlot
  split
  · exact (Acc.fixed_wait (fixed_readMem ..) ‹_› :)
  · exact (fixed_enterError ..).trans (Acc.fixed_fault (fixed_readMem ..) ‹_› :)
  · refine Eq.trans ?_ (Acc.fixed_ok (fixed_readMem ..) ‹_› :)
    exact fixed_if (fixed_enterError ..) (fixed_putWq ..)

@[simp] theorem fixed_execDescriptorFetch (q i : Nat) (s : State) : fixedOf (execDescriptorFetch q i s) = some (fixed s) := by
  unfold execDescriptorFetch
  refine fixed_onBlk (hk := fun u => ?_) ..
  split
  · rfl
  · exact fixedOf_if rfl (congrArg some (fixed_fetchSlot ..))

theorem fixed_rereadPush (s : State) (q : Nat) (x : Wq) (c : CacheEnt) : fixed (rereadPush s q x c) = fixed s := by
  unfold rereadPush
  exact fixed_if (fixed_enterError ..) (fixed_putWq ..)

@[simp] theorem fixed_execDescriptorRetry (q : Nat) (s : State) : fixedOf (execDescriptorRetry q s) = some (fixed s) := by
  unfold execDescriptorRetry
  refine fixed_onBlk (hk := fun u => ?_) ..
  split
  · rfl
  · split
    · exact fixedOf_if rfl (fixedOf_if (congrArg some (fixed_rereadPush ..)) (congrArg some (fixed_fetchSlot ..)))
    · rfl

theorem fixed_acceptEnt (s : State) (q : Nat) (x : Wq) (e : Bytes) : fixed (acceptEnt s q x e) = fixed s := by
  unfold acceptEnt
  refine fixed_if (fixed_putInfl ..) ?_
  refine (fixed_foldl (fun s p => ?_) _ _).trans ?_
  · exact fixed_wakeBlk ..
  · exact fixed_putInfl ..

@[simp] theorem fixed_execEntryAccept (q : Nat) (s : State) : fixedOf (execEntryAccept q s) = some (fixed s) := by
  unfold execEntryAccept
  refine fixed_onBlk (hk := fun u => ?_) ..
  split
  · rfl
  · split
    · rfl
    · refine fixedOf_if rfl ?_
      split
      · exact fixedOf_if (congrArg some (fixed_acceptEnt ..)) rfl
      · exact congrArg some (fixed_putWq ..)
      · exact congrArg some (fixed_enterError ..)

@[simp] theorem fixed_execGateTimeoutExpiry (q : Nat) (s : State) : fixedOf (execGateTimeoutExpiry q s) = some (fixed s) := by
  unfold execGateTimeoutExpiry
  split
  · rfl
  · split
    · exact fixedOf_if rfl (congrArg some (fixed_enterError ..))
    · rfl

@[simp] theorem fixed_execHgInvFence (q : Nat) (w : RegWr) (s : State) : fixedOf (execHgInvFence q w s) = some (fixed s) := by
  unfold execHgInvFence
  refine fixedOf_if rfl ?_
  refine fixed_queueReg (hk := fun x => ?_) ..
  split
  · exact fixed_reject ..
  · exact fixed_fenceStep ..

@[simp] theorem fixed_execHgInvRelease (q : Nat) (w : RegWr) (s : State) :
    fixedOf (execHgInvRelease q w s) = some (fixed s) := by
  unfold execHgInvRelease
  refine fixedOf_if rfl ?_
  refine fixed_queueReg (hk := fun x => ?_) ..
  split
  · exact fixed_reject ..
  · exact fixed_putWq ..

@[simp] theorem fixed_execHgQctrlEnable (q : Nat) (w : RegWr) (s : State) :
    fixedOf (execHgQctrlEnable q w s) = some (fixed s) := by
  unfold execHgQctrlEnable
  refine fixedOf_if rfl ?_
  refine fixed_queueReg (hk := fun x => ?_) ..
  dsimp only
  split
  · exact fixed_reject ..
  · split
    · exact fixed_reject ..
    · exact fixed_if (fixed_putWq ..) rfl

@[simp] theorem fixed_execHgQctrlDisable (q : Nat) (w : RegWr) (s : State) :
    fixedOf (execHgQctrlDisable q w s) = some (fixed s) := by
  unfold execHgQctrlDisable
  exact fixedOf_if rfl (fixed_queueReg (hk := fun x => fixed_if (fixed_reject ..) (fixed_if (fixed_settle ..) rfl)) ..)

theorem fixed_finish (s : State) (q i : Nat) (d : Done) : fixed (finish s q i d) = fixed s := by
  rw [finish_frame]
  rfl

theorem fixed_finishR (s : State) (q i : Nat) (st : Byte) (remote : Bool) :
    fixed (finishR s q i st remote) = fixed s := by
  unfold finishR
  exact fixed_finish ..

theorem fixed_finishSt (s : State) (q i : Nat) (st : Byte) : fixed (finishSt s q i st) = fixed s := by
  rw [finishSt_frame]
  rfl

theorem fixed_cqFire (s : State) (c : Nat) (x : Cq) : fixed (cqFire s c x) = fixed s := rfl

theorem fixed_cqFail (s : State) (c : Nat) (x : Cq) (st : Byte) : fixed (cqFail s c x st) = fixed s := by
  unfold cqFail
  exact fixed_foldl (fun s p => fixed_if (fixed_enterError ..) rfl) _ _

theorem fixed_writeCqe (s : State) (c q i op : Nat) (wrId : Bytes) (d : Done) :
    fixed (writeCqe s c q i op wrId d).1 = fixed s := by
  unfold writeCqe
  split
  · rfl
  · split
    · exact fixed_putCq ..
    · split
      · exact (Acc.fixed_wait (fixed_writeMem ..) ‹_› :)
      · exact (fixed_cqFail ..).trans (Acc.fixed_fault (fixed_writeMem ..) ‹_› :)
      · refine Eq.trans ?_ (Acc.fixed_ok (fixed_writeMem ..) ‹_› :)
        dsimp only
        split
        · exact fixed_cqFire ..
        · exact fixed_putCq ..

theorem fixed_syQueue (s : State) (n : Nat) (set : Bool) (v : Nat) (src : SySrc) :
    fixed (syQueue s n set v src) = fixed s := rfl

theorem fixed_afterCqe (s : State) (q i : Nat) (r : Infl) (inst : Nat) : fixed (afterCqe s q i r inst) = fixed s := by
  unfold afterCqe
  exact fixed_if (fixed_foldl (fun s p => fixed_syQueue ..) _ _) ((fixed_putInfl ..).trans
      (fixed_foldl (fun s p => fixed_syQueue ..) _ _))

@[simp] theorem fixed_execWqeComplete (q : Nat) (s : State) : fixedOf (execWqeComplete q s) = some (fixed s) := by
  unfold execWqeComplete
  split
  · split
    · rfl
    · split
      · exact congrArg some (fixed_of_fst (fixed_writeCqe ..) ‹_› :)
      · refine Eq.trans ?_ (congrArg some (fixed_of_fst (fixed_writeCqe ..) ‹_› :))
        exact congrArg some ((fixed_settle ..).trans ((fixed_afterCqe ..).trans (fixed_if rfl (fixed_instStat ..))))
  · rfl

@[simp] theorem fixed_execQueueErrorEntry (q : Nat) (s : State) : fixedOf (execQueueErrorEntry q s) = some (fixed s) := by
  unfold execQueueErrorEntry
  split
  · rfl
  · split
    · rfl
    · refine fixedOf_if rfl ?_
      split
      · exact congrArg some (fixed_of_fst (fixed_writeCqe ..) ‹_› :)
      · exact congrArg some (fixed_of_fst (fixed_writeCqe ..) ‹_› :)

theorem fixed_cqReg (s : State) (c off : Nat) (w : RegWr) (k : Cq → State) (hk : ∀ x : Cq, fixed (k x) = fixed s) :
    fixedOf (cqReg s c off w k) = some (fixed s) := by
  unfold cqReg
  refine fixedOf_if rfl ?_
  refine fixedOf_if (congrArg some (fixed_reject ..)) ?_
  refine fixedOf_if (congrArg some (fixed_reject ..)) ?_
  split
  · exact congrArg some (fixed_reject ..)
  · exact congrArg some (hk _)

@[simp] theorem fixed_execHgCqdb (c : Nat) (w : RegWr) (s : State) : fixedOf (execHgCqdb c w s) = some (fixed s) := by
  unfold execHgCqdb
  exact fixed_cqReg (hk := fun x => fixed_if (fixed_reject ..) (fixed_if (fixed_putCq ..) rfl)) ..

@[simp] theorem fixed_execHgCqarm (c : Nat) (w : RegWr) (s : State) : fixedOf (execHgCqarm c w s) = some (fixed s) := by
  unfold execHgCqarm
  exact fixed_cqReg (hk := fun x => fixed_if (fixed_reject ..) (fixed_if rfl (fixed_putCq ..))) ..

@[simp] theorem fixed_execCqModTimeExpiry (c : Nat) (s : State) : fixedOf (execCqModTimeExpiry c s) = some (fixed s) := by
  unfold execCqModTimeExpiry
  split
  · rfl
  · split
    · exact congrArg some (fixed_cqFire ..)
    · rfl

@[simp] theorem fixed_execHgQcmdCreate (inst : Nat) (w : RegWr) (s : State) :
    fixedOf (execHgQcmdCreate inst w s) = some (fixed s) := by
  unfold execHgQcmdCreate
  exact fixed_onCmd (hk := (fixed_pageCmd (heff := fun u => fixed_putWq ..) ..)) ..

@[simp] theorem fixed_execHgQcmdDestroy (inst : Nat) (w : RegWr) (s : State) :
    fixedOf (execHgQcmdDestroy inst w s) = some (fixed s) := by
  unfold execHgQcmdDestroy
  exact fixed_onCmd (hk := (fixed_pageCmd (heff := fun u => rfl) ..)) ..

@[simp] theorem fixed_execHgQcmdReset (inst : Nat) (w : RegWr) (s : State) :
    fixedOf (execHgQcmdReset inst w s) = some (fixed s) := by
  unfold execHgQcmdReset
  exact fixed_onCmd (hk := (fixed_pageCmd (heff := fun u => rfl) ..)) ..

@[simp] theorem fixed_execHgQcmdModify (inst : Nat) (w : RegWr) (s : State) :
    fixedOf (execHgQcmdModify inst w s) = some (fixed s) := by
  unfold execHgQcmdModify
  exact fixed_onCmd (hk := (fixed_pageCmd (heff := fun u => rfl) ..)) ..

@[simp] theorem fixed_execHgCcmdCreate (inst : Nat) (w : RegWr) (s : State) :
    fixedOf (execHgCcmdCreate inst w s) = some (fixed s) := by
  unfold execHgCcmdCreate
  exact fixed_onCmd (hk := (fixed_pageCmd (heff := fun u => fixed_putCq ..) ..)) ..

@[simp] theorem fixed_execHgCcmdDestroy (inst : Nat) (w : RegWr) (s : State) :
    fixedOf (execHgCcmdDestroy inst w s) = some (fixed s) := by
  unfold execHgCcmdDestroy
  exact fixed_onCmd (hk := (fixed_pageCmd (heff := fun u => rfl) ..)) ..

@[simp] theorem fixed_execHgCcmdReset (inst : Nat) (w : RegWr) (s : State) :
    fixedOf (execHgCcmdReset inst w s) = some (fixed s) := by
  unfold execHgCcmdReset
  exact fixed_onCmd (hk := (fixed_pageCmd (heff := fun u => rfl) ..)) ..

/-! ### Spans and keys -/

theorem fixed_dispatched (s : State) (q i : Nat) : fixed (dispatched s q i) = fixed s := rfl

theorem fixed_admitOpds (s : State) (inst : Nat) (os : List LocOpd) : fixed (admitOpds s inst os).1 = fixed s := by
  induction os generalizing s with
  | nil => rfl
  | cons o os ih =>
    unfold admitOpds
    split
    · exact fixed_of_fst (fixed_admitKey ..) ‹_›
    · exact (ih _).trans (fixed_of_fst (fixed_admitKey ..) ‹_›)

theorem fixed_noteAdmit (s : State) (q i : Nat) (keys spans : List Nat) :
    fixed (noteAdmit s q i keys spans) = fixed s := rfl

theorem fixed_admitOnce (s : State) (q i inst : Nat) (r : Infl) (os : List LocOpd) :
    fixed (admitOnce s q i inst r os).1 = fixed s := by
  unfold admitOnce
  split
  · rfl
  · split
    · exact (fixed_of_fst (fixed_admitOpds ..) ‹_› :)
    · exact (fixed_noteAdmit ..).trans (fixed_of_fst (fixed_admitOpds ..) ‹_› :)

@[simp] theorem fixed_execNop (q i : Nat) (s : State) : fixedOf (execNop q i s) = some (fixed s) := by
  unfold execNop
  split
  · rfl
  · exact congrArg some (fixed_finishSt ..)

theorem fixed_loadAts (f : Nat) (s : State) (inst addr len : Nat) : fixed (loadAts f s inst addr len).state = fixed s := by
  induction f generalizing s addr len with
  | zero => rfl
  | succ f ih =>
    unfold loadAts
    split
    · rfl
    · split
      · exact (ih _ _ _).trans (Tr.fixed_ok (fixed_translate ..) ‹_›)
      · exact Tr.fixed_basin (fixed_translate ..) ‹_›
      · exact Tr.fixed_fault (fixed_translate ..) ‹_›
      · exact Tr.fixed_wait (fixed_translate ..) ‹_›

theorem fixed_beginMove (s : State) (q i k : Nat) (sp : Span) : fixed (beginMove s q i k sp) = fixed s := rfl

@[simp] theorem fixed_execPrefetch (q i : Nat) (s : State) : fixedOf (execPrefetch q i s) = some (fixed s) := by
  unfold execPrefetch
  split
  · rfl
  · dsimp only
    split
    · exact congrArg some ((fixed_finishSt ..).trans (fixed_of_ite rfl (fixed_admitKey ..) ‹_›))
    · rename_i x r _ _ u hu
      have hv : fixed (if r.adm.isSome = true then u else noteAdmit u q i [entKey r.ent] []) = fixed s :=
        (fixed_if rfl (fixed_noteAdmit ..)).trans (fixed_of_ite rfl (fixed_admitKey ..) hu)
      refine Eq.trans ?_ (congrArg some hv)
      generalize (if r.adm.isSome = true then u else noteAdmit u q i [entKey r.ent] []) = v
      split
      · exact congrArg some (fixed_finishSt ..)
      · refine fixedOf_if (congrArg some ((fixed_finishSt ..).trans (fixed_logCorrupt ..))) (fixedOf_if rfl (fixedOf_if ?_ ?_))
        · exact fixedOf_if (congrArg some (fixed_finishSt ..))
            (fixedOf_if (congrArg some (fixed_finish ..)) (congrArg some (fixed_beginMove ..)))
        · split
          · split
            · exact congrArg some ((fixed_finish ..).trans (Acc.fixed_ok (fixed_loadAts ..) ‹_›))
            · exact congrArg some ((fixed_finishSt ..).trans (Acc.fixed_fault (fixed_loadAts ..) ‹_›))
            · exact congrArg some (Acc.fixed_wait (fixed_loadAts ..) ‹_›)
          all_goals exact congrArg some (fixed_finish ..)

theorem fixed_advise (q i advice : Nat) (s : State) (eff : State → List Nat → State)
    (heff : ∀ (u : State) (l : List Nat), fixed (eff u l) = fixed u) :
    fixedOf (advise q i advice s eff) = some (fixed s) := by
  unfold advise
  split
  · rfl
  · split
    · rfl
    · dsimp only
      split
      · exact congrArg some ((fixed_finishSt ..).trans (fixed_of_fst (fixed_admitKey ..) ‹_›))
      · split
        · exact congrArg some ((fixed_finishSt ..).trans (fixed_of_fst (fixed_admitKey ..) ‹_›))
        · split
          · exact congrArg some ((fixed_finishSt ..).trans ((fixed_logCorrupt ..).trans (fixed_of_fst (fixed_admitKey ..) ‹_›)))
          · refine congrArg some ?_
            refine (fixed_finishSt ..).trans ?_
            refine (heff _ _).trans ?_
            refine (fixed_foldl (fun s p => ?_) _ _).trans ?_
            · exact fixed_spanRepair ..
            · exact fixed_of_fst (fixed_admitKey ..) ‹_›

theorem fixed_mapSpans (s : State) (ks : List Nat) (f : Span → Span) : fixed (mapSpans s ks f) = fixed s := rfl

theorem fixed_adviseAts (f : Nat) (s : State) (k : Nat) (sp : Span) (addr : Nat) : fixed (adviseAts f s k sp addr) = fixed s :=
    by
  induction f generalizing addr with
  | zero => rfl
  | succ f ih =>
    unfold adviseAts
    split
    · rfl
    · split
      · exact ih _
      · split
        · rfl
        · exact fixed_atsAsk ..

theorem fixed_loadSpan (s : State) (k : Nat) : fixed (loadSpan s k) = fixed s := by
  unfold loadSpan
  split
  · rfl
  · refine fixed_if rfl ?_
    refine fixed_if (fixed_if (fixed_adviseAts ..) rfl) ?_
    split
    · rfl
    · exact fixed_usePiece ..

@[simp] theorem fixed_execAdviseWillNeed (q i : Nat) (s : State) : fixedOf (execAdviseWillNeed q i s) = some (fixed s) := by
  unfold execAdviseWillNeed
  exact fixed_advise (heff := fun u l => fixed_foldl (fun s p => fixed_loadSpan ..) _ _) ..

@[simp] theorem fixed_execAdviseDontNeed (q i : Nat) (s : State) : fixedOf (execAdviseDontNeed q i s) = some (fixed s) := by
  unfold execAdviseDontNeed
  exact fixed_advise (heff := fun u l => fixed_foldl (fun s p => fixed_dropFree ..) _ _) ..

@[simp] theorem fixed_execAdviseReadMostly (q i : Nat) (s : State) : fixedOf (execAdviseReadMostly q i s) = some (fixed s) := by
  unfold execAdviseReadMostly
  exact fixed_advise (heff := fun u l => fixed_mapSpans ..) ..

@[simp] theorem fixed_execAdvisePreferHbm (q i : Nat) (s : State) : fixedOf (execAdvisePreferHbm q i s) = some (fixed s) := by
  unfold execAdvisePreferHbm
  exact fixed_advise (heff := fun u l => fixed_mapSpans ..) ..

@[simp] theorem fixed_execAdvisePreferPartner (q i : Nat) (s : State) :
    fixedOf (execAdvisePreferPartner q i s) = some (fixed s) := by
  unfold execAdvisePreferPartner
  exact fixed_advise (heff := fun u l => fixed_mapSpans ..) ..

theorem fixed_reserve (s : State) (inst off len : Nat) : fixed (reserve s inst off len) = fixed s := rfl

theorem fixed_release (s : State) (inst off len : Nat) : fixed (release s inst off len) = fixed s := rfl

@[simp] theorem fixed_execSpCreate (inst : Nat) (w : RegWr) (s : State) : fixedOf (execSpCreate inst w s) = some (fixed s) := by
  unfold execSpCreate
  exact fixed_onCmd (hk := (fixed_pageCmd (heff := fun u => (fixed_putPage ..).trans (fixed_if (fixed_reserve ..) rfl)) ..)) ..

theorem fixed_killSpan (s : State) (k : Nat) : fixed (killSpan s k) = fixed s := by
  unfold killSpan
  split
  · rfl
  · refine fixed_if (fixed_release ..) ?_
    simp only [fixed_mk, fixed_eta]
    exact fixed_dropPieces ..

theorem fixed_reapSpan (s : State) (k : Nat) : fixed (reapSpan s k) = fixed s := by
  unfold reapSpan
  split
  · rfl
  · split
    · exact fixed_if rfl ((fixed_putStat ..).trans (fixed_killSpan ..))
    · rfl

theorem fixed_destroySpan (s : State) (k : Nat) : fixed (destroySpan s k) = fixed s := by
  unfold destroySpan
  split
  · rfl
  · exact fixed_reapSpan ..

theorem fixed_reapSpans (s : State) : fixed (reapSpans s) = fixed s := by
  unfold reapSpans
  exact fixed_foldl (fun s p => fixed_if (fixed_reapSpan ..) rfl) _ _

theorem fixed_spanCmd (s : State) (inst k : Nat) (eff : State → State) (heff : ∀ u : State, fixed (eff u) = fixed u) :
    fixed (spanCmd s inst k eff) = fixed s := by
  unfold spanCmd
  exact fixed_if ((fixed_putStat ..).trans (fixed_logCorrupt ..)) ((heff _).trans (fixed_spanRepair ..))

theorem fixed_keyCmd (s : State) (inst k : Nat) (eff : State → State) (heff : ∀ u : State, fixed (eff u) = fixed u) :
    fixed (keyCmd s inst k eff) = fixed s := by
  unfold keyCmd
  exact fixed_if ((fixed_putStat ..).trans (fixed_logCorrupt ..)) (heff _)

@[simp] theorem fixed_execSpDestroy (inst : Nat) (w : RegWr) (s : State) :
    fixedOf (execSpDestroy inst w s) = some (fixed s) := by
  unfold execSpDestroy
  exact fixed_onCmd (hk := (fixed_pageCmd (heff := fun u => fixed_spanCmd (heff := fun u => fixed_destroySpan ..) ..) ..)) ..

@[simp] theorem fixed_execSpQuery (inst : Nat) (w : RegWr) (s : State) : fixedOf (execSpQuery inst w s) = some (fixed s) := by
  unfold execSpQuery
  refine fixed_onCmd (hk := ?_) ..
  refine fixed_pageCmd (heff := fun u => ?_) ..
  refine fixed_spanCmd (heff := fun u => ?_) ..
  dsimp only
  split
  · exact fixed_putPage ..
  · exact fixed_putPage ..

@[simp] theorem fixed_execKtCreate (inst : Nat) (w : RegWr) (s : State) : fixedOf (execKtCreate inst w s) = some (fixed s) := by
  unfold execKtCreate
  exact fixed_onCmd (hk := (fixed_pageCmd (heff := fun u => fixed_putPage ..) ..)) ..

@[simp] theorem fixed_execKtInvalidate (inst : Nat) (w : RegWr) (s : State) :
    fixedOf (execKtInvalidate inst w s) = some (fixed s) := by
  unfold execKtInvalidate
  exact fixed_onCmd (hk := (fixed_pageCmd (heff := fun u => fixed_keyCmd (heff := fun u => fixed_putStat ..) ..) ..)) ..

@[simp] theorem fixed_execKtQuery (inst : Nat) (w : RegWr) (s : State) : fixedOf (execKtQuery inst w s) = some (fixed s) := by
  unfold execKtQuery
  exact fixed_onCmd (hk := (fixed_pageCmd (heff := fun u => fixed_keyCmd (heff := fun u => fixed_putPage ..) ..) ..)) ..

@[simp] theorem fixed_execKeyFree (k : Nat) (s : State) : fixedOf (execKeyFree k s) = some (fixed s) := by
  unfold execKeyFree
  split
  · rfl
  · exact fixedOf_if rfl (congrArg some (fixed_putStat ..))

end Sys2Proof.Machine
end

section
/-!
PROOFS. The golden bundle, the fuses and the queue, kept by Sluice and the Basin (R1, R99; log 12).
-/
namespace Sys2Proof.Machine

/-! ### Sluice: queue pairs, sending and dispatch -/

theorem fixed_putQp (s : State) (n : Nat) (p : Qp) : fixed (putQp s n p) = fixed s := rfl

theorem fixed_linkStat (s : State) (l k d : Nat) : fixed (linkStat s l k d) = fixed s := rfl

theorem fixed_weirStat (s : State) (l k : Nat) : fixed (weirStat s l k) = fixed s := rfl

theorem fixed_accUp (s : State) (l : Nat) (f : MapAcc → MapAcc) : fixed (accUp s l f) = fixed s := rfl

theorem fixed_emitPkt (s : State) (n : Nat) (op flags pn roc aux : Nat) (credit : Nat) (ext payload : Bytes) :
    fixed (emitPkt s n op flags pn roc aux credit ext payload) = fixed s := by
  unfold emitPkt
  split
  · rfl
  · dsimp only
    exact (fixed_linkStat ..).trans (fixed_linkStat ..)

theorem fixed_workArrives (s : State) (l : Nat) : fixed (workArrives s l) = fixed s := by
  rw [workArrives_frame]
  rfl

theorem fixed_sendCtl (s : State) (n : Nat) (c : Ctl) : fixed (sendCtl s n c) = fixed s := by
  unfold sendCtl
  split
  · rfl
  · extract_lets t ack ece pn ext credit rate u v w x y
    have hu : fixed u = fixed s := fixed_putQp ..
    have hv : fixed v = fixed s := fixed_if ((fixed_weirStat ..).trans hu) hu
    have hw : fixed w = fixed s := fixed_if ((fixed_linkStat ..).trans hv) hv
    have hx : fixed x = fixed s := fixed_if ((fixed_linkStat ..).trans hw) hw
    have hy : fixed y = fixed s := fixed_if ((fixed_linkStat ..).trans hx) hx
    exact fixed_if (fixed_if rfl (fixed_workArrives ..)) ((fixed_emitPkt ..).trans hy)

theorem fixed_queueReq (s : State) (n : Nat) (op len raddr rkey imm : Nat) (solicit : Bool) (operand swap : Nat) (mark : Bytes)
    (buf : Buf) (who : Waiter) :
    fixed (queueReq s n op len raddr rkey imm solicit operand swap mark buf who) = fixed s := by
  unfold queueReq
  split
  · rfl
  · exact fixed_workArrives ..

theorem fixed_ackVia (s : State) (n : Nat) (c : Ctl) : fixed (ackVia s n c) = fixed s := by
  unfold ackVia
  split
  · rfl
  · split
    · exact fixed_putQp ..
    · exact fixed_queueReq ..

theorem fixed_sendAck (s : State) (n : Nat) (kind : Nat) (st : Byte) : fixed (sendAck s n kind st) = fixed s := by
  unfold sendAck
  split
  · rfl
  · exact fixed_if (fixed_ackVia ..) (fixed_sendCtl ..)

theorem fixed_copyDone (s : State) (n : Nat) (st : Byte) : fixed (copyDone s n st) = fixed s := by
  unfold copyDone
  exact fixed_if rfl (fixed_if rfl (fixed_if rfl (fixed_emit ..)))

theorem fixed_mirrorAnswer (s : State) (n e kind : Nat) (status st : Byte) :
    fixed (mirrorAnswer s n e kind status st) = fixed s := by
  unfold mirrorAnswer
  split
  · rfl
  · exact fixed_if (fixed_putQp ..) (fixed_sendCtl ..)

theorem fixed_tellWaiter (s : State) (who : Waiter) (st : Byte) (remote : Bool) (bytes : Nat) (data : Bytes) :
    fixed (tellWaiter s who st remote bytes data) = fixed s := by
  unfold tellWaiter
  split
  · exact fixed_finish ..
  · rfl
  · exact fixed_mirrorAnswer ..
  · rfl
  · exact fixed_emit ..
  · exact fixed_copyDone ..
  · rfl

theorem fixed_completeReqs (s : State) (n : Nat) : fixed (completeReqs s n) = fixed s := by
  unfold completeReqs
  split
  · rfl
  · exact fixed_foldl (fun s p => fixed_tellWaiter ..) _ _

theorem fixed_flushQueues (s : State) (n : Nat) (cause : Option (Byte × Bool)) :
    fixed (flushQueues s n cause) = fixed s := by
  unfold flushQueues
  refine fixed_foldl (fun s p => ?_) _ _
  refine fixed_if ?_ rfl
  refine (fixed_foldl (fun s p => ?_) _ _).trans ?_
  · exact fixed_finishSt ..
  · split
    · exact fixed_finishR ..
    · rfl

theorem fixed_qpError (s : State) (n : Nat) (st : Byte) (remote : Bool) : fixed (qpError s n st remote) = fixed s := by
  unfold qpError
  split
  · rfl
  · refine fixed_if rfl ?_
    dsimp only
    split
    · exact (fixed_flushQueues ..).trans (fixed_foldl (fun s p => fixed_tellWaiter ..) _ _)
    · exact (fixed_flushQueues ..).trans (fixed_foldl (fun s p => fixed_tellWaiter ..) _ _)

theorem fixed_startResync (s : State) (n : Nat) : fixed (startResync s n) = fixed s := by
  unfold startResync
  split
  · rfl
  · exact fixed_sendCtl ..

theorem fixed_resumeSend (s : State) (n peerEpsn : Nat) : fixed (resumeSend s n peerEpsn) = fixed s := by
  unfold resumeSend
  split
  · rfl
  · exact fixed_completeReqs ..

theorem fixed_moveLink (s : State) (n : Nat) : fixed (moveLink s n) = fixed s := by
  unfold moveLink
  split
  · rfl
  · exact fixed_startResync ..

theorem fixed_endStream (s : State) (n : Nat) (p : Qp) : fixed (endStream s n p) = fixed s := by
  unfold endStream
  exact fixed_foldl (fun s p => fixed_tellWaiter ..) _ _

theorem fixed_retarget (s : State) (old new : Nat) : fixed (retarget s old new) = fixed s := by
  unfold retarget
  refine fixed_if (fixed_if rfl rfl) ?_
  refine (fixed_foldl (fun s p => ?_) _ _).trans ?_
  · split
    · rfl
    · exact fixed_if rfl (fixed_if (fixed_endStream ..) (fixed_startResync ..))
  · exact fixed_if rfl rfl

theorem fixed_autoQp (kind : QpKind) (enc : Bool) (s : State) (slot : Nat) :
    fixed (autoQp kind enc s slot) = fixed s := by
  unfold autoQp
  refine fixed_if rfl ?_
  split
  · rfl
  · dsimp only
    exact fixed_if (fixed_emit ..) rfl

theorem fixed_autoQps (s : State) (m : PlotMap) (mirror : Nat) : fixed (autoQps s m mirror) = fixed s := by
  unfold autoQps
  exact fixed_if rfl (fixed_if (fixed_foldl (fun s p => fixed_autoQp ..) _ _)
      ((fixed_autoQp ..).trans (fixed_foldl (fun s p => fixed_autoQp ..) _ _)))

theorem fixed_releaseAcks (s : State) : fixed (releaseAcks s) = fixed s := by
  unfold releaseAcks
  refine fixed_if rfl ?_
  refine fixed_foldl (fun s p => ?_) _ _
  refine fixed_if ?_ rfl
  split
  · exact fixed_sendAck ..
  · rfl

theorem fixed_adoptMap (s : State) (m : PlotMap) : fixed (adoptMap s m) = fixed s := by
  unfold adoptMap
  refine (fixed_foldl (fun s p => ?_) _ _).trans ?_
  · exact fixed_retarget ..
  · exact (fixed_releaseAcks ..).trans (fixed_autoQps ..)

theorem fixed_txDraw (s : State) (inst : Option Nat) (bytes : Nat) : fixed (txDraw s inst bytes) = fixed s := by
  unfold txDraw
  split
  · rfl
  · exact fixed_instStat ..

theorem fixed_paceDraw (s : State) (n : Nat) (len : Nat) : fixed (paceDraw s n len) = fixed s := by
  unfold paceDraw
  split
  · rfl
  · exact fixed_putQp ..

theorem fixed_sendReq (s : State) (n : Nat) (p : Qp) (r : SReq) (k : Nat) (again : Bool) :
    fixed ((sendReq s n p r k again).getD s) = fixed s := by
  unfold sendReq
  dsimp only
  split
  · rfl
  · exact (fixed_emitPkt ..).trans (fixed_if ((fixed_accUp ..).trans ((fixed_linkStat ..).trans
        ((fixed_txDraw ..).trans (fixed_paceDraw ..)))) ((fixed_txDraw ..).trans (fixed_paceDraw ..)))

theorem fixed_sendRsp (s : State) (n : Nat) (p : Qp) (x : RdRsp) : fixed ((sendRsp s n p x).getD s) = fixed s := by
  unfold sendRsp
  dsimp only
  split
  · split
    · rfl
    · refine (fixed_emitPkt ..).trans ?_
      split
      · exact (fixed_putQp ..).trans ((fixed_txDraw ..).trans (fixed_paceDraw ..))
      · exact (fixed_txDraw ..).trans (fixed_paceDraw ..)
  · split
    · rfl
    · refine (fixed_emitPkt ..).trans ?_
      split
      · exact (fixed_putQp ..).trans ((fixed_txDraw ..).trans (fixed_paceDraw ..))
      · exact (fixed_txDraw ..).trans (fixed_paceDraw ..)

theorem fixed_pullBasin (s : State) (n : Nat) (p : Qp) : fixed (pullBasin s n p) = fixed s := by
  simp only [pullBasin, fixed_mk, fixed_eta, fixed_ite, ite_self, fixed_foldl, implies_true, fixed_queueReq]

theorem fixed_pullCopy (s : State) (n : Nat) (p : Qp) : fixed (pullCopy s n p) = fixed s := by
  unfold pullCopy
  split
  · rfl
  · exact fixed_if rfl (fixed_queueReq ..)

theorem fixed_onTurn (s : State) (n : Nat) (p : Qp) (send : State → Result)
    (hsend : ∀ u : State, fixedOf (send u) = some (fixed u)) :
    fixedOf (onTurn s n p send) = some (fixed s) := by
  unfold onTurn
  split
  · rfl
  · exact fixedOf_if (hsend _) rfl

theorem fixed_sendAgain (s : State) (n : Nat) (rest : List Nat) (r : SReq) (k : Nat) :
    fixedOf (sendAgain s n rest r k) = some (fixed s) := by
  unfold sendAgain
  split
  · rfl
  · dsimp only
    split
    · exact congrArg some (fixed_of_some (fixed_sendReq ..) ‹_› :)
    · rfl

theorem fixed_sendNew (s : State) (n : Nat) : fixed (sendNew s n) = fixed s := by
  unfold sendNew
  split
  · rfl
  · split
    · exact fixed_sendRsp ..
    · split
      · rfl
      · rename_i h
        obtain ⟨y, -, h⟩ := Option.bind_eq_some_iff.1 h
        obtain ⟨t, sent, h⟩ := Option.map_eq_some_iff.1 h
        cases h
        exact (fixed_of_some (fixed_sendReq ..) sent :)

@[simp] theorem fixed_execPacketTransmit (n : Nat) (s : State) : fixedOf (execPacketTransmit n s) = some (fixed s) := by
  unfold execPacketTransmit
  split
  · rfl
  · refine fixed_onBlk (hk := fun u => ?_) ..
    dsimp only
    split
    · exact congrArg some ((fixed_pullCopy ..).trans (fixed_pullBasin ..))
    · refine fixedOf_if (congrArg some ((fixed_pullCopy ..).trans (fixed_pullBasin ..))) ?_
      split
      · exact congrArg some (fixed_if ((fixed_ackVia ..).trans ((fixed_putQp ..).trans
            ((fixed_pullCopy ..).trans (fixed_pullBasin ..)))) ((fixed_sendCtl ..).trans
            ((fixed_putQp ..).trans ((fixed_pullCopy ..).trans (fixed_pullBasin ..)))))
      · split
        · refine fixedOf_if (congrArg some ((fixed_pullCopy ..).trans (fixed_pullBasin ..))) ?_
          split
          · exact congrArg some ((fixed_putQp ..).trans ((fixed_pullCopy ..).trans (fixed_pullBasin ..)))
          · refine fixedOf_if (congrArg some ((fixed_putQp ..).trans ((fixed_pullCopy ..).trans (fixed_pullBasin ..)))) ?_
            refine (fixed_onTurn (hsend := fun u => ?_) ..).trans ?_
            · exact fixed_sendAgain ..
            · exact congrArg some ((fixed_pullCopy ..).trans (fixed_pullBasin ..))
        · refine (fixed_onTurn (hsend := fun u => ?_) ..).trans ?_
          · exact congrArg some (fixed_sendNew ..)
          · exact congrArg some ((fixed_pullCopy ..).trans (fixed_pullBasin ..))

theorem fixed_sqDispatch (q i op pktOp : Nat) (s : State) : fixedOf (sqDispatch q i op pktOp s) = some (fixed s) := by
  unfold sqDispatch
  split
  · rfl
  · split
    · exact congrArg some (fixed_finishSt ..)
    · refine fixedOf_if (congrArg some (fixed_finishSt ..)) (fixedOf_if rfl ?_)
      dsimp only
      split
      · rfl
      · split
        · exact congrArg some ((fixed_finishSt ..).trans (fixed_of_fst (fixed_admitOnce ..) ‹_›))
        · refine Eq.trans ?_ (congrArg some (fixed_of_fst (fixed_admitOnce ..) ‹_›))
          have hgo (u : State) (n len a h imm : Nat) (f : Bool) (x y : Nat) (b : Buf) :
              fixed (queueReq (dispatched u q i) n pktOp len a h imm f x y [] b (.entry q i)) = fixed u :=
            (fixed_queueReq ..).trans (fixed_dispatched ..)
          split
          · exact congrArg some (hgo ..)
          · split
            · exact congrArg some (hgo ..)
            · refine fixedOf_if ?_ (congrArg some (hgo ..))
              split
              · exact congrArg some ((hgo ..).trans (Acc.fixed_ok (fixed_readMemAt ..) ‹_›))
              · exact congrArg some (Acc.fixed_wait (fixed_readMemAt ..) ‹_›)
              · exact congrArg some ((fixed_finishR ..).trans (Acc.fixed_fault (fixed_readMemAt ..) ‹_›))

@[simp] theorem fixed_execWrite (q i : Nat) (s : State) : fixedOf (execWrite q i s) = some (fixed s) := by
  unfold execWrite
  exact fixed_sqDispatch ..

@[simp] theorem fixed_execWriteImm (q i : Nat) (s : State) : fixedOf (execWriteImm q i s) = some (fixed s) := by
  unfold execWriteImm
  exact fixed_sqDispatch ..

@[simp] theorem fixed_execRead (q i : Nat) (s : State) : fixedOf (execRead q i s) = some (fixed s) := by
  unfold execRead
  exact fixed_sqDispatch ..

@[simp] theorem fixed_execSend (q i : Nat) (s : State) : fixedOf (execSend q i s) = some (fixed s) := by
  unfold execSend
  exact fixed_sqDispatch ..

@[simp] theorem fixed_execSendImm (q i : Nat) (s : State) : fixedOf (execSendImm q i s) = some (fixed s) := by
  unfold execSendImm
  exact fixed_sqDispatch ..

@[simp] theorem fixed_execAtomicFadd (q i : Nat) (s : State) : fixedOf (execAtomicFadd q i s) = some (fixed s) := by
  unfold execAtomicFadd
  exact fixed_sqDispatch ..

@[simp] theorem fixed_execAtomicCswap (q i : Nat) (s : State) : fixedOf (execAtomicCswap q i s) = some (fixed s) := by
  unfold execAtomicCswap
  exact fixed_sqDispatch ..

@[simp] theorem fixed_execRecv (q i : Nat) (s : State) : fixedOf (execRecv q i s) = some (fixed s) := by
  unfold execRecv
  split
  · rfl
  · split
    · split
      · exact congrArg some (fixed_finishSt ..)
      · split
        · exact congrArg some ((fixed_finishSt ..).trans (fixed_of_fst (fixed_admitOnce ..) ‹_›))
        · exact congrArg some ((fixed_dispatched ..).trans (fixed_of_fst (fixed_admitOnce ..) ‹_›))
    · exact congrArg some (fixed_finishSt ..)

theorem fixed_basinAdmit (s : State) (q i : Nat) (x : Wq) (r : Infl) (store : Bool) :
    fixed (basinAdmit s q i x r store).1 = fixed s := by
  unfold basinAdmit
  dsimp only
  split
  · rfl
  · split
    · rfl
    · split
      · exact (fixed_of_fst (fixed_admitOpds ..) ‹_› :)
      · refine Eq.trans ?_ (fixed_of_fst (fixed_admitOpds ..) ‹_› :)
        split
        · exact (fixed_of_fst (fixed_admitKey ..) ‹_› :)
        · exact (fixed_noteAdmit ..).trans (fixed_of_fst (fixed_admitKey ..) ‹_› :)

theorem fixed_storeData (s : State) (q i : Nat) (inst : Nat) (e : Bytes) :
    fixed (storeData s q i inst e).state = fixed s := by
  unfold storeData
  split
  · rfl
  · exact fixed_readMemAt ..

theorem fixed_basinOwn (q i : Nat) (store : Bool) (s : State) (x : Wq) (e : Bytes) (a h : Nat) (ok : State → State)
    (hok : ∀ u : State, fixed (ok u) = fixed u) : fixedOf (basinOwn q i store s x e a h ok) = some (fixed s) := by
  unfold basinOwn
  dsimp only
  cases homeFail s x.inst a (entLen e) h with
  | some p => exact congrArg some (fixed_finishR ..)
  | none =>
    refine fixedOf_if ?_ ?_
    · split
      · exact congrArg some (Acc.fixed_wait (fixed_storeData ..) ‹_›)
      · exact congrArg some ((fixed_finishR ..).trans (Acc.fixed_fault (fixed_storeData ..) ‹_›))
      · refine Eq.trans ?_ (congrArg some (Acc.fixed_ok (fixed_storeData ..) ‹_›))
        split
        · exact congrArg some ((hok _).trans (Acc.fixed_ok (fixed_basinPiece ..) ‹_›))
        · exact congrArg some (Acc.fixed_wait (fixed_basinPiece ..) ‹_›)
        · exact congrArg some ((fixed_finishR ..).trans (Acc.fixed_fault (fixed_basinPiece ..) ‹_›))
    · split
      · exact congrArg some (fixed_of_some (fixed_lineWait ..) ‹_›)
      · split
        · exact congrArg some ((hok _).trans (Acc.fixed_ok (fixed_writeMemAt ..) ‹_›))
        · exact congrArg some (Acc.fixed_wait (fixed_writeMemAt ..) ‹_›)
        · exact congrArg some ((fixed_finishR ..).trans (Acc.fixed_fault (fixed_writeMemAt ..) ‹_›))

theorem fixed_basinDispatch (q i : Nat) (store : Bool) (s : State) :
    fixedOf (basinDispatch q i store s) = some (fixed s) := by
  unfold basinDispatch
  cases mayDispatch s q i (if store then 0x11 else 0x10) with
  | none => rfl
  | some p =>
    refine fixedOf_if rfl ?_
    split
    · exact congrArg some ((fixed_finishSt ..).trans (fixed_of_fst (fixed_basinAdmit ..) ‹_›))
    · refine Eq.trans ?_ (congrArg some (fixed_of_fst (fixed_basinAdmit ..) ‹_›))
      refine fixedOf_if (fixed_basinOwn (hok := fun x => (fixed_instStat ..).trans (fixed_finish ..)) ..) ?_
      split
      · exact congrArg some (fixed_if (fixed_finishSt ..) rfl)
      · refine fixedOf_if (congrArg some (fixed_finishSt ..)) (fixedOf_if rfl (fixedOf_if ?_ ?_))
        · exact congrArg some ((fixed_instStat ..).trans ((fixed_queueReq ..).trans (fixed_dispatched ..)))
        · split
          · exact congrArg some ((fixed_instStat ..).trans ((fixed_queueReq ..).trans ((fixed_dispatched ..).trans
              (Acc.fixed_ok (fixed_storeData ..) ‹_›))))
          · exact congrArg some (Acc.fixed_wait (fixed_storeData ..) ‹_›)
          · exact congrArg some ((fixed_finishR ..).trans (Acc.fixed_fault (fixed_storeData ..) ‹_›))

@[simp] theorem fixed_execBasinLoad (q i : Nat) (s : State) : fixedOf (execBasinLoad q i s) = some (fixed s) := by
  unfold execBasinLoad
  exact fixed_basinDispatch ..

@[simp] theorem fixed_execBasinStore (q i : Nat) (s : State) : fixedOf (execBasinStore q i s) = some (fixed s) := by
  unfold execBasinStore
  exact fixed_basinDispatch ..

/-! ### The Basin -/

theorem fixed_onCtl (s : State) (type : Nat) (m : Bytes) (k : CtlRec → State) (hk : ∀ r : CtlRec, fixed (k r) = fixed s) :
    fixedOf (onCtl s type m k) = some (fixed s) := by
  unfold onCtl
  refine fixedOf_if rfl ?_
  split
  · rfl
  · exact fixedOf_if (congrArg some (hk _)) rfl

theorem fixed_sendBasin (s : State) (dst : Nat) (r : CtlRec) : fixed (sendBasin s dst r) = fixed s := rfl

theorem fixed_setRole (s : State) (r : Role) : fixed (setRole s r) = fixed s := by
  unfold setRole
  exact fixed_if rfl (fixed_logEv ..)

theorem fixed_openBasinWin (s : State) : fixed (openBasinWin s) = fixed s := by
  unfold openBasinWin
  exact fixed_if rfl (fixed_voidGuarantee ..)

@[simp] theorem fixed_execRecoveryWindowExpiry (basinWide : Bool) (s : State) :
    fixedOf (execRecoveryWindowExpiry basinWide s) = some (fixed s) := by
  unfold execRecoveryWindowExpiry
  refine fixedOf_if ?_ ?_
  · split
    · rfl
    · refine congrArg some ?_
      simp only [fixed_mk, fixed_eta]
      exact fixed_advanceTo ..
  · split
    · rfl
    · refine congrArg some ?_
      simp only [fixed_mk, fixed_eta]
      exact fixed_advanceTo ..

theorem fixed_onWorker (s : State) (serial : Nat) (f : Worker → Worker) : fixed (onWorker s serial f) = fixed s := rfl

theorem fixed_stampCommit (s : State) (a : AfterCommit) : fixed (stampCommit s a) = fixed s := by
  unfold stampCommit
  split
  · exact fixed_onWorker ..
  · exact fixed_onWorker ..
  · rfl

theorem fixed_applyDir (s : State) (p : PendDir) : fixed (applyDir s p) = fixed s := by
  unfold applyDir
  dsimp only
  split
  · exact (fixed_adoptMap ..).trans (fixed_stampCommit ..)
  · exact (fixed_sendBasin ..).trans ((fixed_adoptMap ..).trans (fixed_stampCommit ..))
  · exact (fixed_emit ..).trans ((fixed_adoptMap ..).trans (fixed_stampCommit ..))
  · exact (fixed_emit ..).trans ((fixed_adoptMap ..).trans (fixed_stampCommit ..))

theorem fixed_commitDir (s : State) (dir : Directory) (bump : Nat) (after : AfterCommit) :
    fixed (commitDir s dir bump after) = fixed s := by
  unfold commitDir
  exact fixed_if (fixed_emit ..) (fixed_applyDir ..)

theorem fixed_commitN (n seq : Nat) (s : State) : fixed (commitN n seq s) = fixed s := by
  induction n generalizing s with
  | zero => rfl
  | succ n ih =>
    unfold commitN
    split
    · rfl
    · split
      · exact (ih _).trans (fixed_applyDir ..)
      · rfl

theorem fixed_commitUpTo (s : State) (seq : Nat) : fixed (commitUpTo s seq) = fixed s := by
  unfold commitUpTo
  exact fixed_commitN ..

theorem fixed_dropStandby (s : State) : fixed (dropStandby s) = fixed s := by
  unfold dropStandby
  split
  · exact fixed_if (fixed_commitUpTo ..) rfl
  · rfl

@[simp] theorem fixed_execReplicationAck (seq serial : Nat) (s : State) :
    fixedOf (execReplicationAck seq serial s) = some (fixed s) := by
  unfold execReplicationAck
  exact fixedOf_if rfl (congrArg some (fixed_commitUpTo ..))

@[simp] theorem fixed_execDirectoryReplication (seq : Nat) (dir : Directory) (epoch : Nat) (s : State) :
    fixedOf (execDirectoryReplication seq dir epoch s) = some (fixed s) := by
  unfold execDirectoryReplication
  exact fixedOf_if rfl (congrArg some (fixed_emit ..))

theorem fixed_sendLosts (s : State) : fixed (sendLosts s) = fixed s := by
  unfold sendLosts
  exact fixed_foldl (fun s p => fixed_sendBasin ..) _ _

@[simp] theorem fixed_execHeartbeatPeriod (s : State) : fixedOf (execHeartbeatPeriod s) = some (fixed s) := by
  unfold execHeartbeatPeriod
  extract_lets t m u ws carry pend b v c y z w x
  have ht : fixed t = fixed s := (fixed_dropStandby ..).trans (fixed_if rfl (fixed_advanceTo ..))
  have hu : fixed u = fixed s := fixed_if ht ht
  have hw : fixed w = fixed s := (fixed_sendBasin ..).trans hu
  have hx : fixed x = fixed s := fixed_if hw ((fixed_emit ..).trans hw)
  exact fixedOf_if rfl (congrArg some ((fixed_sendLosts ..).trans hx))

theorem fixed_adoptHb (s : State) (subject : Nat) : fixed (adoptHb s subject) = fixed s := by
  unfold adoptHb
  exact fixed_renegotiate ..

theorem fixed_answerHb (s : State) (serial : Nat) : fixed (answerHb s serial) = fixed s := by
  unfold answerHb
  refine fixed_if rfl ?_
  dsimp only
  split
  · exact fixed_if (fixed_sendBasin ..) rfl
  · exact fixed_sendBasin ..

theorem fixed_noteEpoch (s : State) (e : Nat) : fixed (noteEpoch s e) = fixed s := by
  unfold noteEpoch
  exact fixed_if (fixed_emit ..) rfl

@[simp] theorem fixed_execHeartbeat (m : Bytes) (s : State) : fixedOf (execHeartbeat m s) = some (fixed s) := by
  unfold execHeartbeat
  refine fixed_onCtl (hk := fun r => ?_) ..
  refine fixed_if rfl ?_
  dsimp only
  split
  · rfl
  · rfl
  · exact fixed_if ((fixed_noteEpoch ..).trans ((fixed_adoptHb ..).trans (fixed_setRole ..))) rfl
  · exact (fixed_noteEpoch ..).trans (fixed_adoptHb ..)
  · exact fixed_if rfl ((fixed_noteEpoch ..).trans ((fixed_adoptHb ..).trans (fixed_setRole ..)))
  · exact (fixed_answerHb ..).trans ((fixed_noteEpoch ..).trans (fixed_adoptHb ..))

theorem fixed_answerLost (s : State) (serial : Nat) : fixed (answerLost s serial) = fixed s := rfl

@[simp] theorem fixed_execHbReply (m : Bytes) (s : State) : fixedOf (execHbReply m s) = some (fixed s) := by
  unfold execHbReply
  exact fixed_onCtl (hk := fun r => fixed_if rfl (fixed_if (fixed_if rfl (fixed_onWorker ..)) (fixed_answerLost ..))) ..

theorem fixed_startClaim (s : State) (planned : Bool) : fixed (startClaim s planned) = fixed s := by
  unfold startClaim
  refine (fixed_sendBasin ..).trans ?_
  simp only [fixed_mk, fixed_eta]
  exact (fixed_renegotiate ..).trans (fixed_setRole ..)

@[simp] theorem fixed_execManagerMissing (s : State) : fixedOf (execManagerMissing s) = some (fixed s) := by
  unfold execManagerMissing
  split
  · refine fixedOf_if rfl ?_
    refine congrArg some ?_
    simp only [fixed_mk, fixed_eta]
    exact fixed_advanceTo ..
  · exact congrArg some (fixed_startClaim ..)
  · rfl

@[simp] theorem fixed_execUnjoinedClaimStart (s : State) : fixedOf (execUnjoinedClaimStart s) = some (fixed s) := by
  unfold execUnjoinedClaimStart
  exact fixedOf_if rfl (congrArg some (fixed_startClaim ..))

@[simp] theorem fixed_execClaimPeriod (s : State) : fixedOf (execClaimPeriod s) = some (fixed s) := by
  unfold execClaimPeriod
  exact fixedOf_if rfl (congrArg some (fixed_sendBasin ..))

theorem fixed_withdraw (s : State) : fixed (withdraw s) = fixed s := by
  unfold withdraw
  exact fixed_setRole ..

theorem fixed_grantTo (s : State) (r : CtlRec) : fixed (grantTo s r) = fixed s := rfl

@[simp] theorem fixed_execClaim (m : Bytes) (s : State) : fixedOf (execClaim m s) = some (fixed s) := by
  unfold execClaim
  refine fixed_onCtl (hk := fun r => ?_) ..
  dsimp only
  split
  · refine fixed_if rfl ?_
    split
    · exact fixed_grantTo ..
    · exact fixed_if (fixed_grantTo ..) (fixed_if (fixed_grantTo ..) rfl)
  · exact fixed_if (fixed_withdraw ..) rfl
  · exact fixed_if (fixed_setRole ..) rfl
  · rfl

theorem fixed_enterActive (s : State) : fixed (enterActive s) = fixed s := by
  unfold enterActive
  exact (fixed_renegotiate ..).trans ((fixed_adoptMap ..).trans (fixed_setRole ..))

theorem fixed_noteMajority (s : State) : fixed (noteMajority s) = fixed s := by
  unfold noteMajority
  exact fixed_if rfl rfl

@[simp] theorem fixed_execGrant (m : Bytes) (s : State) : fixedOf (execGrant m s) = some (fixed s) := by
  unfold execGrant
  refine fixed_onCtl (hk := fun r => ?_) ..
  split
  · exact fixed_if rfl (fixed_answerLost ..)
  · exact fixed_if (fixed_if ((fixed_enterActive ..).trans (fixed_noteMajority ..)) (fixed_noteMajority ..)) rfl
  · rfl

@[simp] theorem fixed_execRevoke (m : Bytes) (s : State) : fixedOf (execRevoke m s) = some (fixed s) := by
  unfold execRevoke
  exact fixed_onCtl (hk := fun r => fixed_if (fixed_withdraw ..) rfl) ..

@[simp] theorem fixed_execWithdraw (m : Bytes) (s : State) : fixedOf (execWithdraw m s) = some (fixed s) := by
  unfold execWithdraw
  refine fixed_onCtl (hk := fun r => ?_) ..
  split
  · exact fixed_if rfl rfl
  · rfl

@[simp] theorem fixed_execHandover (m : Bytes) (s : State) : fixedOf (execHandover m s) = some (fixed s) := by
  unfold execHandover
  refine fixed_onCtl (hk := fun r => ?_) ..
  split
  · rfl
  · exact fixed_if (fixed_startClaim ..) rfl
  · rfl

@[simp] theorem fixed_execClaimWaitElapsed (s : State) : fixedOf (execClaimWaitElapsed s) = some (fixed s) := by
  unfold execClaimWaitElapsed
  split
  · rfl
  · exact fixedOf_if rfl (congrArg some ((fixed_enterActive ..).trans (fixed_if rfl (fixed_advanceTo ..))))

@[simp] theorem fixed_execClaimTimeout (s : State) : fixedOf (execClaimTimeout s) = some (fixed s) := by
  unfold execClaimTimeout
  exact fixedOf_if rfl (congrArg some (fixed_setRole ..))

@[simp] theorem fixed_execLeaseExpiry (s : State) : fixedOf (execLeaseExpiry s) = some (fixed s) := by
  unfold execLeaseExpiry
  exact fixedOf_if rfl (congrArg some (fixed_setRole ..))

@[simp] theorem fixed_execHandoverPeriod (s : State) : fixedOf (execHandoverPeriod s) = some (fixed s) := by
  unfold execHandoverPeriod
  exact fixedOf_if rfl (congrArg some (fixed_sendBasin ..))

@[simp] theorem fixed_execYieldingTimeout (s : State) : fixedOf (execYieldingTimeout s) = some (fixed s) := by
  unfold execYieldingTimeout
  exact fixedOf_if rfl (congrArg some (fixed_setRole ..))

@[simp] theorem fixed_execHbParamSwitch (s : State) : fixedOf (execHbParamSwitch s) = some (fixed s) := by
  unfold execHbParamSwitch
  split
  · rfl
  · refine fixedOf_if rfl ?_
    refine congrArg some ?_
    simp only [fixed_mk, fixed_eta]
    exact fixed_advanceTo ..

theorem fixed_logAttest (s : State) (slot chk serial : Nat) : fixed (logAttest s slot chk serial) = fixed s := by
  unfold logAttest
  exact fixed_logEv ..

theorem fixed_tellOwners (plot : Nat) (d : Directory) (s : State) : fixed (tellOwners plot d s) = fixed s := by
  unfold tellOwners
  exact fixed_foldl (fun s p => fixed_emit ..) _ _

theorem fixed_keyPair (mirror : Bool) (a : Nat) (s : State) (b : Nat) : fixed (keyPair mirror a s b) = fixed s := rfl

theorem fixed_acceptJoin (s : State) (d : Directory) (serial n len : Nat) :
    fixed (acceptJoin s d serial n len) = fixed s := by
  unfold acceptJoin
  refine (fixed_commitDir ..).trans ?_
  refine fixed_if ?_ ?_
  · refine (fixed_foldl (fun s p => ?_) _ _).trans ?_
    · exact fixed_keyPair ..
    · split
      · exact fixed_if (fixed_tellOwners ..) ((fixed_tellOwners ..).trans (fixed_tellOwners ..))
      · exact fixed_tellOwners ..
  · split
    · exact fixed_if (fixed_tellOwners ..) ((fixed_tellOwners ..).trans (fixed_tellOwners ..))
    · exact fixed_tellOwners ..

@[simp] theorem fixed_execJoin (m : Bytes) (ev : AttestEv) (s : State) : fixedOf (execJoin m ev s) = some (fixed s) := by
  unfold execJoin
  refine fixed_onCtl (hk := fun r => ?_) ..
  refine fixed_if rfl ?_
  dsimp only
  split
  · exact fixed_if (fixed_sendBasin ..) rfl
  · refine fixed_if ((fixed_sendBasin ..).trans (fixed_logAttest ..)) ?_
    split
    · exact fixed_sendBasin ..
    · exact fixed_acceptJoin ..

@[simp] theorem fixed_execJoinRetry (s : State) : fixedOf (execJoinRetry s) = some (fixed s) := by
  unfold execJoinRetry
  exact fixedOf_if rfl (congrArg some (fixed_foldl (fun s p => fixed_sendBasin ..) _ _))

@[simp] theorem fixed_execJoinTimeout (s : State) : fixedOf (execJoinTimeout s) = some (fixed s) := by
  unfold execJoinTimeout
  split
  · rfl
  · refine fixedOf_if rfl ?_
    refine congrArg some ?_
    simp only [fixed_mk, fixed_eta]
    exact fixed_advanceTo ..

@[simp] theorem fixed_execJoinAck (m : Bytes) (s : State) : fixedOf (execJoinAck m s) = some (fixed s) := by
  unfold execJoinAck
  exact fixed_onCtl (hk := fun r => fixed_if rfl ((fixed_renegotiate ..).trans
      ((fixed_noteEpoch ..).trans (fixed_setRole ..)))) ..

@[simp] theorem fixed_execJoinNak (m : Bytes) (s : State) : fixedOf (execJoinNak m s) = some (fixed s) := by
  unfold execJoinNak
  exact fixed_onCtl (hk := fun r => fixed_if rfl rfl) ..

theorem fixed_becomeUnjoined (s : State) : fixed (becomeUnjoined s) = fixed s := by
  unfold becomeUnjoined
  exact fixed_setRole ..

theorem fixed_roleCmd (s : State) (w : RegWr) (cmd : Nat) (cs : List (Bool × Byte)) (eff : State) (heff : fixed eff = fixed s) :
    fixedOf (roleCmd s w cmd cs eff) = some (fixed s) := by
  unfold roleCmd
  exact fixedOf_if rfl (congrArg some (fixed_checked (h := heff) ..))

@[simp] theorem fixed_execRoleCmdYield (w : RegWr) (s : State) : fixedOf (execRoleCmdYield w s) = some (fixed s) := by
  unfold execRoleCmdYield
  exact fixed_roleCmd (heff := (fixed_setRole ..)) ..

@[simp] theorem fixed_execRoleCmdRequestSwap (w : RegWr) (s : State) :
    fixedOf (execRoleCmdRequestSwap w s) = some (fixed s) := by
  unfold execRoleCmdRequestSwap
  exact fixed_roleCmd (heff := (fixed_if (fixed_startClaim ..) rfl)) ..

@[simp] theorem fixed_execRoleCmdLeave (w : RegWr) (s : State) : fixedOf (execRoleCmdLeave w s) = some (fixed s) := by
  unfold execRoleCmdLeave
  exact fixed_roleCmd (heff := (fixed_sendBasin ..)) ..

@[simp] theorem fixed_execRoleCmdResetNotice (w : RegWr) (s : State) :
    fixedOf (execRoleCmdResetNotice w s) = some (fixed s) := by
  unfold execRoleCmdResetNotice
  exact fixed_roleCmd (heff := (fixed_sendBasin ..)) ..

@[simp] theorem fixed_execWorkerPeriod (s : State) : fixedOf (execWorkerPeriod s) = some (fixed s) := by
  unfold execWorkerPeriod
  exact fixedOf_if rfl (congrArg some (fixed_if (fixed_if rfl (fixed_sendBasin ..))
      ((fixed_sendBasin ..).trans (fixed_if rfl (fixed_sendBasin ..)))))

@[simp] theorem fixed_execLeaveAck (m : Bytes) (s : State) : fixedOf (execLeaveAck m s) = some (fixed s) := by
  unfold execLeaveAck
  exact fixed_onCtl (hk := fun r => fixed_if (fixed_becomeUnjoined ..) rfl) ..

@[simp] theorem fixed_execLeaveTimeout (s : State) : fixedOf (execLeaveTimeout s) = some (fixed s) := by
  unfold execLeaveTimeout
  split
  · rfl
  · exact fixedOf_if rfl (congrArg some (fixed_becomeUnjoined ..))

@[simp] theorem fixed_execLost (m : Bytes) (s : State) : fixedOf (execLost m s) = some (fixed s) := by
  unfold execLost
  exact fixed_onCtl (hk := fun r => fixed_if (fixed_if (fixed_becomeUnjoined ..) rfl)
      (fixed_if rfl (fixed_if rfl (fixed_openBasinWin ..)))) ..

@[simp] theorem fixed_execResetNotice (m : Bytes) (s : State) : fixedOf (execResetNotice m s) = some (fixed s) := by
  unfold execResetNotice
  exact fixed_onCtl (hk := fun r => fixed_if rfl (fixed_if (fixed_commitDir ..) (fixed_answerLost ..))) ..

@[simp] theorem fixed_execNoticeAck (m : Bytes) (s : State) : fixedOf (execNoticeAck m s) = some (fixed s) := by
  unfold execNoticeAck
  exact fixed_onCtl (hk := fun r => fixed_if rfl rfl) ..

@[simp] theorem fixed_execNoticeTimeout (s : State) : fixedOf (execNoticeTimeout s) = some (fixed s) := by
  unfold execNoticeTimeout
  refine fixedOf_if rfl ?_
  refine congrArg some ?_
  simp only [fixed_mk, fixed_eta]
  exact fixed_advanceTo ..

theorem fixed_endSessions (s : State) (f : Transp → Bool) : fixed (endSessions s f) = fixed s := rfl

theorem fixed_memberGone (s : State) (slot : Nat) : fixed (memberGone s slot) = fixed s := rfl

theorem fixed_declareLost (s : State) (serial : Nat) : fixed (declareLost s serial) = fixed s := by
  unfold declareLost
  dsimp only
  split
  · rfl
  · exact (fixed_commitDir ..).trans ((fixed_sendBasin ..).trans ((fixed_memberGone ..).trans
        (fixed_if ((fixed_voidGuarantee ..).trans ((fixed_openBasinWin ..).trans (fixed_logEv ..)))
        ((fixed_openBasinWin ..).trans (fixed_logEv ..)))))

@[simp] theorem fixed_execWorkerLost (serial : Nat) (s : State) : fixedOf (execWorkerLost serial s) = some (fixed s) := by
  unfold execWorkerLost
  split
  · rfl
  · exact fixedOf_if rfl (congrArg some (fixed_declareLost ..))

@[simp] theorem fixed_execExcuseExpiry (serial : Nat) (s : State) : fixedOf (execExcuseExpiry serial s) = some (fixed s) := by
  unfold execExcuseExpiry
  split
  · rfl
  · split
    · rfl
    · exact fixedOf_if rfl (congrArg some (fixed_declareLost ..))

@[simp] theorem fixed_execLeave (m : Bytes) (s : State) : fixedOf (execLeave m s) = some (fixed s) := by
  unfold execLeave
  refine fixed_onCtl (hk := fun r => ?_) ..
  refine fixed_if rfl ?_
  split
  · exact fixed_if rfl (fixed_sendBasin ..)
  · exact fixed_commitDir ..

@[simp] theorem fixed_execPromotion (plot : Nat) (s : State) : fixedOf (execPromotion plot s) = some (fixed s) := by
  unfold execPromotion
  dsimp only
  split
  · rfl
  · exact fixedOf_if rfl (congrArg some ((fixed_commitDir ..).trans (fixed_logEv ..)))

@[simp] theorem fixed_execSpareCopyDone (plot : Nat) (s : State) : fixedOf (execSpareCopyDone plot s) = some (fixed s) := by
  unfold execSpareCopyDone
  dsimp only
  split
  · rfl
  · exact fixedOf_if rfl (congrArg some (fixed_commitDir ..))

@[simp] theorem fixed_execOverflowLengthReport (slot granules : Nat) (s : State) :
    fixedOf (execOverflowLengthReport slot granules s) = some (fixed s) := by
  unfold execOverflowLengthReport
  exact fixedOf_if rfl (congrArg some (fixed_commitDir ..))

end Sys2Proof.Machine
end

section
/-!
PROOFS. The golden bundle, the fuses and the queue, kept by the boot, the clock, codebooks, Furrow, Runnel and collectives (R1, R99; log 12).
-/
namespace Sys2Proof.Machine

/-! ### The image -/

theorem fixed_dirAppend (s : State) (r : DirRec) : fixed (dirAppend s r) = fixed s := rfl

/-! ### The boot -/

theorem fixed_dropEmptyTry (s : State) : fixed (dropEmptyTry s) = fixed s := by
  unfold dropEmptyTry
  split
  · exact fixed_if rfl (fixed_dirAppend ..)
  · rfl

theorem fixed_startCands (s : State) (useTry : Bool) : fixed (startCands s useTry) = fixed s := by
  unfold startCands
  exact fixed_if (fixed_dropEmptyTry ..) rfl

theorem fixed_setCand (s : State) (x : SlotId) (c : Cand) : fixed (setCand s x c) = fixed s := by
  unfold setCand
  split
  · rfl
  · rfl
  · rfl

theorem fixed_abandon (s : State) (x : SlotId) (st : Byte) : fixed (abandon s x st) = fixed s := by
  unfold abandon
  exact fixed_setCand ..

theorem fixed_takeBundle (s : State) (x : SlotId) (level : Nat) : fixed (takeBundle s x level) = fixed s := by
  unfold takeBundle
  exact fixed_setCand ..

@[simp] theorem fixed_execBundleVerify (s : State) : fixedOf (execBundleVerify s) = some (fixed s) := by
  unfold execBundleVerify
  refine fixedOf_if rfl ?_
  split
  · rfl
  · split
    · dsimp only
      split
      · exact fixedOf_if (congrArg some (fixed_takeBundle ..)) (congrArg some (fixed_abandon ..))
      · exact congrArg some (fixed_abandon ..)
    · dsimp only
      split
      · exact fixedOf_if (congrArg some (fixed_takeBundle ..)) (congrArg some (fixed_abandon ..))
      · exact congrArg some (fixed_abandon ..)

@[simp] theorem fixed_execFirmwareRunning (s : State) : fixedOf (execFirmwareRunning s) = some (fixed s) := by
  unfold execFirmwareRunning
  refine fixedOf_if rfl ?_
  refine congrArg some ?_
  refine fixed_if rfl ?_
  simp only [fixed_mk, fixed_eta]
  exact fixed_sendV ..

theorem fixed_bootFallback (s : State) : fixed (bootFallback s) = fixed s := by
  unfold bootFallback
  exact fixed_if (fixed_logEv ..) rfl

theorem fixed_judgeImage (s : State) (x : SlotId) : fixed (judgeImage s x) = fixed s := by
  unfold judgeImage
  exact fixed_if (fixed_abandon ..) rfl

@[simp] theorem fixed_execImageVerify (s : State) : fixedOf (execImageVerify s) = some (fixed s) := by
  unfold execImageVerify
  split
  · rfl
  · exact fixedOf_if rfl (congrArg some ((fixed_judgeImage ..).trans (fixed_bootFallback ..)))

theorem fixed_trainStacks (s : State) (failed : BitVec 8) : fixed (trainStacks s failed) = fixed s := by
  unfold trainStacks
  exact fixed_foldl (fun s p => fixed_logEv ..) _ _

@[simp] theorem fixed_execHbmTrained (failed : BitVec 8) (s : State) : fixedOf (execHbmTrained failed s) = some (fixed s) := by
  unfold execHbmTrained
  refine fixedOf_if rfl ?_
  split
  · exact congrArg some ((fixed_judgeImage ..).trans (fixed_trainStacks ..))
  · exact congrArg some (fixed_trainStacks ..)

/-! ### The clock -/

theorem fixed_gate (s : State) (b : Blk) : fixed (gate s b) = fixed s := by
  unfold gate
  exact fixed_if rfl rfl

@[simp] theorem fixed_execBlockGate (g : GateReq) (s : State) : fixedOf (execBlockGate g s) = some (fixed s) := by
  unfold execBlockGate
  exact fixedOf_if rfl (congrArg some (fixed_gate ..))

@[simp] theorem fixed_execWakeEvent (b : Blk) (s : State) : fixedOf (execWakeEvent b s) = some (fixed s) := by
  unfold execWakeEvent
  exact congrArg some (fixed_wakeBlk ..)

@[simp] theorem fixed_execFurrowPllPowerDown (s : State) : fixedOf (execFurrowPllPowerDown s) = some (fixed s) := by
  unfold execFurrowPllPowerDown
  split
  · rfl
  · refine fixedOf_if rfl ?_
    refine congrArg some ?_
    simp only [fixed_mk, fixed_eta]
    exact fixed_advanceTo ..

@[simp] theorem fixed_execDevtimeLoRead (s : State) : fixedOf (execDevtimeLoRead s) = some (fixed s) := by
  unfold execDevtimeLoRead
  exact fixedOf_if rfl (congrArg some (fixed_setRd ..))

theorem fixed_servoOffset (s : State) (off : Int) : fixed (servoOffset s off) = fixed s := by
  unfold servoOffset
  refine fixed_if ?_ rfl
  simp only [fixed_mk, fixed_eta]
  exact fixed_setNow ..

@[simp] theorem fixed_execPtpMessage (m : PtpMsg) (s : State) : fixedOf (execPtpMessage m s) = some (fixed s) := by
  unfold execPtpMessage
  refine fixedOf_if rfl ?_
  split
  · rfl
  · exact fixedOf_if rfl (congrArg some (fixed_emit ..))
  · split
    · exact congrArg some (fixed_servoOffset ..)
    · rfl

@[simp] theorem fixed_execPpsInEdge (s : State) : fixedOf (execPpsInEdge s) = some (fixed s) := by
  unfold execPpsInEdge
  exact fixedOf_if rfl (congrArg some (fixed_servoOffset ..))

@[simp] theorem fixed_execRetrainLoopback (l : Nat) (pass : Bool) (s : State) :
    fixedOf (execRetrainLoopback l pass s) = some (fixed s) := by
  unfold execRetrainLoopback
  split
  · dsimp only
    split
    · rfl
    · exact fixedOf_if rfl (congrArg some (fixed_putLink ..))
  · dsimp only
    split
    · rfl
    · exact fixedOf_if rfl (congrArg some ((fixed_openOwnWin ..).trans ((fixed_logEv ..).trans (fixed_portDown ..))))

/-! ### Codebook slots -/

theorem fixed_cbRead (s : State) (q i inst : Nat) (e : Bytes) : fixedOf (cbRead s q i inst e) = some (fixed s) := by
  unfold cbRead
  split
  · exact congrArg some (Acc.fixed_wait (fixed_readMemAt ..) ‹_›)
  · exact congrArg some ((fixed_finishR ..).trans ((Acc.fixed_fault (fixed_readMemAt ..) ‹_› :)))
  · exact congrArg some ((fixed_finish ..).trans ((Acc.fixed_ok (fixed_readMemAt ..) ‹_› :)))

@[simp] theorem fixed_execCbLoad (q i : Nat) (s : State) : fixedOf (execCbLoad q i s) = some (fixed s) := by
  unfold execCbLoad
  split
  · rfl
  · dsimp only
    split
    · exact congrArg some (fixed_finishSt ..)
    · split
      · exact congrArg some ((fixed_finishSt ..).trans (fixed_of_fst (fixed_admitOnce ..) ‹_›))
      · split
        · exact (fixed_cbRead ..).trans (congrArg some (fixed_of_fst (fixed_admitOnce ..) ‹_›))
        · split
          · exact congrArg some ((Acc.fixed_wait (fixed_probe ..) ‹_›).trans (fixed_of_fst (fixed_admitOnce ..) ‹_›))
          · exact congrArg some ((fixed_finishR ..).trans ((Acc.fixed_fault (fixed_probe ..) ‹_›).trans
                (fixed_of_fst (fixed_admitOnce ..) ‹_›)))
          · exact (fixed_cbRead ..).trans (congrArg some (((Acc.fixed_ok (fixed_probe ..) ‹_› :)).trans
                (fixed_of_fst (fixed_admitOnce ..) ‹_›)))

@[simp] theorem fixed_execCbScmdQuery (inst : Nat) (w : RegWr) (s : State) :
    fixedOf (execCbScmdQuery inst w s) = some (fixed s) := by
  unfold execCbScmdQuery
  refine fixed_onCmd (hk := ?_) ..
  refine fixed_pageCmd (heff := fun u => ?_) ..
  dsimp only
  split
  · exact fixed_putPage ..
  · exact fixed_if (fixed_putPage ..) (fixed_putPage ..)

@[simp] theorem fixed_execCbScmdClear (inst : Nat) (w : RegWr) (s : State) :
    fixedOf (execCbScmdClear inst w s) = some (fixed s) := by
  unfold execCbScmdClear
  exact fixed_onCmd (hk := (fixed_pageCmd (heff := fun u => rfl) ..)) ..

@[simp] theorem fixed_execCbSlotError (n : Nat) (s : State) : fixedOf (execCbSlotError n s) = some (fixed s) := by
  unfold execCbSlotError
  split
  · rfl
  · exact fixedOf_if rfl (congrArg some (fixed_logEv ..))

/-! ### Furrow: launches, groups and issue -/

theorem fixed_putTg (s : State) (k : Nat) (t : Tg) : fixed (putTg s k t) = fixed s := rfl

theorem fixed_putLaunch (s : State) (q i : Nat) (l : Launch) : fixed (putLaunch s q i l) = fixed s := rfl

theorem fixed_startGroup (s : State) (q i k : Nat) (l : Launch) : fixed (startGroup s q i k l) = fixed s := rfl

@[simp] theorem fixed_execGroupStart (q i : Nat) (s : State) : fixedOf (execGroupStart q i s) = some (fixed s) := by
  unfold execGroupStart
  dsimp only
  generalize s.groups.find? _ = coll
  cases launchOf s q i with
  | some l =>
    refine fixedOf_if rfl ?_
    cases pickSlot s with
    | none => rfl
    | some k => exact fixed_onBlk (hk := fun u => congrArg some (fixed_startGroup ..)) ..
  | none =>
    cases coll with
    | none => rfl
    | some p =>
      obtain ⟨g, x⟩ := p
      dsimp only
      cases x.coll with
      | none => rfl
      | some c =>
        refine fixedOf_if rfl ?_
        cases pickSlot s with
        | none => rfl
        | some k => exact fixed_onBlk (hk := fun u => rfl) ..

theorem fixed_launchDone (s : State) (q i : Nat) : fixed (launchDone s q i) = fixed s := by
  unfold launchDone
  split
  · rfl
  · exact fixed_if rfl (fixed_finish ..)

theorem fixed_retireTg (s : State) (k : Nat) (t : Tg) (st : Byte) (trap : Bool) :
    fixed (retireTg s k t st trap) = fixed s := by
  unfold retireTg
  split
  · rfl
  · exact fixed_launchDone ..

theorem fixed_doubleTrap (s : State) (k : Nat) (t : Tg) (cause : Byte) (addr lanes : Nat) :
    fixed (doubleTrap s k t cause addr lanes) = fixed s := by
  unfold doubleTrap
  refine fixed_if ?_ ((fixed_retireTg ..).trans (fixed_logEv ..))
  simp only [fixed_mk, fixed_eta]
  exact (fixed_putTg ..).trans (fixed_logEv ..)

theorem fixed_deliver (s : State) (k : Nat) (t : Tg) (cause : Byte) (addr lanes : Nat) :
    fixed (deliver s k t cause addr lanes) = fixed s := by
  unfold deliver
  split
  · rfl
  · exact fixed_if (fixed_retireTg ..) (fixed_if (fixed_if (fixed_putTg ..) (fixed_putTg ..)) (fixed_doubleTrap ..))

theorem fixed_fetch (s : State) (l : Launch) (t : Tg) : fixed (fetch s l t).state = fixed s := by
  unfold fetch
  split
  · split
    · exact (Acc.fixed_ok (fixed_readMemAt ..) ‹_› :)
    · exact (Acc.fixed_wait (fixed_readMemAt ..) ‹_› :)
    · exact (Acc.fixed_fault (fixed_readMemAt ..) ‹_› :)
  · rfl

theorem fixed_issued (k : Nat) (u s : State) (t : Tg) {x : Fx} (h : fixed x.state = fixed s) :
    fixedOf (issued k u t x) = some (fixed s) := by
  cases x with
  | go v t => exact congrArg some ((fixed_putTg ..).trans h)
  | trap v c a m => exact congrArg some ((fixed_deliver ..).trans h)
  | wait v => exact congrArg some h
  | retire v t st tr => exact congrArg some ((fixed_retireTg ..).trans h)
  | halt v t => exact congrArg some ((fixed_putTg ..).trans h)

theorem fixed_issue (core slot op : Nat) (s : State) (eff : FwCtx → State → Tg → Fx)
    (heff : ∀ (c : FwCtx) (u : State) (t : Tg), fixed (eff c u t).state = fixed u) :
    fixedOf (issue core slot op s eff) = some (fixed s) := by
  unfold issue
  dsimp only
  cases Tab.find s.fw.slots (fwKey core slot) with
  | none => rfl
  | some t =>
    refine (apply_ite fixedOf ..).trans (ite_eq_iff'.2 ⟨fun _ => rfl, fun _ => ?_⟩)
    cases launchOf s t.q t.i with
    | none => rfl
    | some l =>
      refine (apply_ite fixedOf ..).trans (ite_eq_iff'.2 ⟨fun _ => congrArg some (fixed_putTg ..), fun _ => ?_⟩)
      have k := fixed_fetch s l t
      cases h : fetch s l t with
      | wait u =>
        rw [h] at k
        exact congrArg some k
      | trap u st =>
        rw [h] at k
        refine (apply_ite fixedOf ..).trans (ite_eq_iff'.2 ⟨fun _ => congrArg some ((fixed_deliver ..).trans k), fun _ =>
            congrArg some k⟩)
      | ok u w =>
        rw [h] at k
        have w : fixed (if 64 ≤ t.pc ∧ t.pc % 8 = 0 ∧ t.pc + 8 ≤ l.codeLen then u else freeStep u) = fixed s := by
          split
          · exact k
          · exact k
        refine (apply_ite fixedOf ..).trans (ite_eq_iff'.2 ⟨fun _ => congrArg some k, fun _ => ?_⟩)
        refine (apply_ite fixedOf ..).trans (ite_eq_iff'.2 ⟨fun _ => congrArg some ((fixed_deliver ..).trans w), fun _ => ?_⟩)
        exact fixed_issued _ u s t ((heff ..).trans w)

theorem fixed_laneOp (core slot op : Nat) (s : State) (f : FwCtx → Tg → Nat → Nat) :
    fixedOf (laneOp core slot op s f) = some (fixed s) := by
  unfold laneOp
  exact fixed_issue (heff := fun c u t => rfl) ..

theorem fixed_cmpOp (core slot op : Nat) (s : State) (f : FwCtx → Tg → Nat → Bool) :
    fixedOf (cmpOp core slot op s f) = some (fixed s) := by
  unfold cmpOp
  exact fixed_issue (heff := fun c u t => rfl) ..

theorem fixed_bindsFail (s : State) (inst : Nat) (bs : List Bind) : fixed (bindsFail s inst bs).1 = fixed s := by
  induction bs generalizing s with
  | nil => rfl
  | cons b bs ih =>
    unfold bindsFail
    split
    · exact fixed_of_fst (fixed_admitKey ..) ‹_›
    · exact (ih _).trans (fixed_of_fst (fixed_admitKey ..) ‹_›)

theorem fixed_launchFail (s : State) (inst : Nat) (code args : Bytes) (localBytes : Nat) :
    fixed (launchFail s inst code args localBytes).1 = fixed s := by
  unfold launchFail
  dsimp only
  split
  · rfl
  · split
    · exact (fixed_of_fst (fixed_bindsFail ..) ‹_› :)
    · exact (fixed_of_fst (fixed_bindsFail ..) ‹_› :)

theorem fixed_launchArgs (s : State) (q i inst : Nat) (r : Infl) : fixed (launchArgs s q i inst r).state = fixed s := by
  unfold launchArgs
  split
  · rfl
  · split
    · rfl
    · exact fixed_readMemAt ..

theorem fixed_startLaunch (s : State) (q i : Nat) (l : Launch) : fixed (startLaunch s q i l) = fixed s := rfl

@[simp] theorem fixed_execKernelLaunch (q i : Nat) (s : State) : fixedOf (execKernelLaunch q i s) = some (fixed s) := by
  unfold execKernelLaunch
  split
  · rfl
  · refine fixedOf_if (congrArg some (fixed_finishSt ..)) ?_
    split
    · exact congrArg some ((fixed_finishSt ..).trans (fixed_of_fst (fixed_admitOnce ..) ‹_›))
    · rename_i u hu
      refine Eq.trans ?_ (congrArg some (fixed_of_fst (fixed_admitOnce ..) hu))
      split
      · exact congrArg some (Acc.fixed_wait (fixed_readMemAt ..) ‹_›)
      · exact congrArg some ((fixed_finishR ..).trans (Acc.fixed_fault (fixed_readMemAt ..) ‹_›))
      · refine Eq.trans ?_ (congrArg some (Acc.fixed_ok (fixed_readMemAt ..) ‹_›))
        split
        · exact congrArg some (Acc.fixed_wait (fixed_launchArgs ..) ‹_›)
        · exact congrArg some ((fixed_finishR ..).trans (Acc.fixed_fault (fixed_launchArgs ..) ‹_›))
        · refine Eq.trans ?_ (congrArg some (Acc.fixed_ok (fixed_launchArgs ..) ‹_›))
          refine fixedOf_if rfl ?_
          split
          · exact congrArg some ((fixed_finishSt ..).trans (fixed_of_fst (fixed_launchFail ..) ‹_› :))
          · exact congrArg some ((fixed_startLaunch ..).trans (fixed_of_fst (fixed_launchFail ..) ‹_› :))

@[simp] theorem fixed_execWatchdogExpiry (core slot : Nat) (s : State) :
    fixedOf (execWatchdogExpiry core slot s) = some (fixed s) := by
  unfold execWatchdogExpiry
  dsimp only
  split
  · rfl
  · exact fixedOf_if rfl (congrArg some (fixed_deliver ..))

@[simp] theorem fixed_execCoreLost (core : Nat) (s : State) : fixedOf (execCoreLost core s) = some (fixed s) := by
  unfold execCoreLost
  refine fixedOf_if rfl ?_
  refine fixedOf_if ?_ ?_
  · refine congrArg some ?_
    refine (fixed_logEv ..).trans ?_
    refine (fixed_openOwnWin ..).trans ?_
    refine (fixed_logEv ..).trans ?_
    refine fixed_foldl (fun s p => ?_) _ _
    split
    · rfl
    · exact fixed_putLaunch ..
  · refine congrArg some ?_
    refine (fixed_openOwnWin ..).trans ?_
    refine (fixed_logEv ..).trans ?_
    refine fixed_foldl (fun s p => ?_) _ _
    split
    · rfl
    · exact fixed_putLaunch ..

/-! ### Runnel streams -/

theorem fixed_rnCount (s : State) (k : Nat) : fixed (rnCount s k) = fixed s := rfl

theorem fixed_putStream (s : State) (slot : Nat) (x : Stream) : fixed (putStream s slot x) = fixed s := rfl

theorem fixed_streamOf (s : State) (slot : Nat) : fixed (streamOf s slot).1 = fixed s := by
  unfold streamOf
  split
  · rfl
  · exact fixed_freeStep ..

theorem fixed_rnPace (s : State) (l : Nat) (f : TxFrame) : fixed (rnPace s l f) = fixed s := by
  unfold rnPace
  exact fixed_if (fixed_rnCount ..) rfl

theorem fixed_rnEmit (s : State) (slot : Nat) (x : Stream) (body : Bytes) (seq : Nat) (retx : Bool) :
    fixed (rnEmit s slot x body seq retx) = fixed s := by
  unfold rnEmit
  split
  · rfl
  · exact fixed_if rfl ((fixed_rnCount ..).trans ((fixed_emit ..).trans (fixed_rnPace ..)))

theorem fixed_rnFlush (f : Nat) (s : State) (slot : Nat) : fixed (rnFlush f s slot) = fixed s := by
  induction f generalizing s with
  | zero => rfl
  | succ f ih =>
    unfold rnFlush
    split
    · rfl
    · split
      · rfl
      · split
        · rfl
        · exact (ih _).trans (fixed_rnEmit ..)

theorem fixed_rnWork (s : State) (slot : Nat) : fixed (rnWork s slot) = fixed s := by
  unfold rnWork
  dsimp only
  split
  · exact (fixed_workArrives ..).trans (fixed_wakeBlk ..)
  · exact fixed_wakeBlk ..

theorem fixed_rnSend (s : State) (slot : Nat) (body : Bytes) : fixed (rnSend s slot body) = fixed s := by
  unfold rnSend
  split
  · refine Eq.trans ?_ ((fixed_of_fst (fixed_streamOf ..) ‹_›).trans (fixed_rnWork ..))
    exact fixed_rnFlush ..

theorem fixed_rnSendAck (s : State) (slot : Nat) : fixed (rnSendAck s slot) = fixed s := by
  unfold rnSendAck
  split
  · rfl
  · exact fixed_rnEmit ..

theorem fixed_rnResend (s : State) (slot : Nat) (retx : Bool) : fixed (rnResend s slot retx) = fixed s := by
  unfold rnResend
  split
  · rfl
  · exact fixed_foldl (fun s p => (fixed_rnEmit ..).trans (fixed_if (fixed_rnCount ..) rfl)) _ _

theorem fixed_rnRestart (s : State) (slot : Nat) : fixed (rnRestart s slot) = fixed s := by
  unfold rnRestart
  split
  · rfl
  · exact (fixed_rnCount ..).trans (fixed_rnResend ..)

@[simp] theorem fixed_execRunnelRtoExpiry (slot : Nat) (s : State) : fixedOf (execRunnelRtoExpiry slot s) = some (fixed s) := by
  unfold execRunnelRtoExpiry
  split
  · rfl
  · exact fixedOf_if rfl (congrArg some (fixed_rnResend ..))

@[simp] theorem fixed_execRunnelStreamRestart (slot : Nat) (s : State) :
    fixedOf (execRunnelStreamRestart slot s) = some (fixed s) := by
  unfold execRunnelStreamRestart
  split
  · rfl
  · exact fixedOf_if rfl (congrArg some ((fixed_rnRestart ..).trans (fixed_logEv ..)))

@[simp] theorem fixed_execRunnelAckDelayExpiry (slot : Nat) (s : State) :
    fixedOf (execRunnelAckDelayExpiry slot s) = some (fixed s) := by
  unfold execRunnelAckDelayExpiry
  split
  · rfl
  · split
    · rfl
    · exact fixedOf_if (congrArg some (fixed_rnWork ..)) (congrArg some (fixed_rnSendAck ..))

theorem fixed_rnTakeAck (s : State) (slot a : Nat) : fixed (rnTakeAck s slot a) = fixed s := by
  unfold rnTakeAck
  split
  · rfl
  · exact fixed_if rfl (fixed_rnFlush ..)

theorem fixed_rnArrive (s : State) (m : Bytes) (accept : Bool) : fixed (rnArrive s m accept).state = fixed s := by
  unfold rnArrive
  have hx (x : Stream) : fixed (putStream (streamOf (rnCount s 1) (getBE m 4 1)).1 (getBE m 4 1) x) = fixed s :=
    (fixed_putStream ..).trans ((fixed_streamOf ..).trans (fixed_rnCount ..))
  refine RnIn.fixed_if (fixed_rnCount ..) (RnIn.fixed_if rfl (RnIn.fixed_if ((fixed_rnCount ..).trans (hx _)) ?_))
  have hack (x : Stream) (c : Bool) (a : Nat) : fixed (if c then
      rnTakeAck (putStream (streamOf (rnCount s 1) (getBE m 4 1)).1 (getBE m 4 1) x) (getBE m 4 1) a
      else putStream (streamOf (rnCount s 1) (getBE m 4 1)).1 (getBE m 4 1) x) = fixed s :=
    fixed_if ((fixed_rnTakeAck ..).trans (hx _)) (hx _)
  exact RnIn.fixed_if (hack ..) (RnIn.fixed_if (RnIn.fixed_if ((fixed_putStream ..).trans (hack ..)) (hack ..))
    (RnIn.fixed_if ((fixed_putStream ..).trans ((fixed_rnCount ..).trans (hack ..))) ((fixed_rnCount ..).trans (hack ..))))

/-! ### Collectives -/

theorem fixed_groupSend (s : State) (g : Group) (rank kind slot arg sig : Nat) (data : Bytes) :
    fixed (groupSend s g rank kind slot arg sig data) = fixed s := by
  unfold groupSend
  split
  · rfl
  · exact fixed_queueReq ..

theorem fixed_putGroup (s : State) (n : Nat) (g : Group) : fixed (putGroup s n g) = fixed s := rfl

theorem fixed_giveCredit (s : State) (n rank slot sig : Nat) : fixed (giveCredit s n rank slot sig) = fixed s := by
  unfold giveCredit
  split
  · rfl
  · exact fixed_groupSend ..

theorem fixed_collEnd (s : State) (n : Nat) (d : Done) (err : Option Byte) : fixed (collEnd s n d err) = fixed s := by
  unfold collEnd
  split
  · rfl
  · split
    · rfl
    · exact fixed_finish ..

theorem fixed_sendAborts (s : State) (g : Group) (c : Coll) (st : Byte) : fixed (sendAborts s g c st) = fixed s := by
  unfold sendAborts
  refine fixed_foldl (fun s p => ?_) _ _
  split
  · rfl
  · exact fixed_if ((fixed_rnSend ..).trans (fixed_if (fixed_groupSend ..) rfl)) (fixed_if (fixed_groupSend ..) rfl)

theorem fixed_collFail (s : State) (n : Nat) (st : Byte) : fixed (collFail s n st) = fixed s := by
  unfold collFail
  split
  · rfl
  · split
    · rfl
    · exact (fixed_collEnd ..).trans (fixed_sendAborts ..)

theorem fixed_collAborted (s : State) (n : Nat) (st : Byte) : fixed (collAborted s n st) = fixed s := by
  unfold collAborted
  exact fixed_collEnd ..

theorem fixed_writePieces (at_ : Option Nat) (s : State) (inst base : Nat) (ps : List (Nat × Bytes)) :
    fixed (writePieces at_ s inst base ps).state = fixed s := by
  induction ps generalizing s with
  | nil => rfl
  | cons p ps ih =>
    unfold writePieces
    split
    · exact (ih _).trans (Acc.fixed_ok (fixed_writeMemAt ..) ‹_›)
    · exact fixed_writeMemAt ..

theorem fixed_collFinish (s : State) (n : Nat) (inst dst : Nat) (out : List (Nat × Bytes)) (d : Done) :
    fixed (collFinish s n inst dst out d) = fixed s := by
  unfold collFinish
  split
  · exact (Acc.fixed_wait (fixed_writePieces ..) ‹_› :)
  · exact (fixed_collFail ..).trans (Acc.fixed_fault (fixed_writePieces ..) ‹_› :)
  · exact (fixed_collEnd ..).trans (Acc.fixed_ok (fixed_writePieces ..) ‹_› :)

theorem fixed_sendOne (s : State) (n : Nat) (v : Env) (p : Plan) (items : Tab Item) :
    fixed ((sendOne s n v p items).getD s) = fixed s := by
  unfold sendOne
  split
  · rfl
  · split
    · rfl
    · dsimp only
      split
      · rfl
      · split
        · rfl
        · exact fixed_groupSend ..

theorem fixed_sendMany (f : Nat) (s : State) (n : Nat) (v : Env) (p : Plan) (items : Tab Item) :
    fixed (sendMany f s n v p items) = fixed s := by
  induction f generalizing s with
  | zero => rfl
  | succ f ih =>
    unfold sendMany
    split
    · rfl
    · exact (ih _).trans (fixed_of_some (fixed_sendOne ..) ‹_›)

theorem fixed_collVote (s : State) (n : Nat) (v : Env) : fixed (collVote s n v) = fixed s := by
  unfold collVote
  split
  · rfl
  · split
    · rfl
    · refine fixed_if rfl ?_
      split
      · rfl
      · exact fixed_foldl (fun s p => fixed_groupSend ..) _ _

theorem fixed_collStep (s : State) (n : Nat) : fixed (collStep s n) = fixed s := by
  unfold collStep
  split
  · rfl
  · refine fixed_if rfl ?_
    dsimp only
    split
    · exact (fixed_sendMany ..).trans (fixed_collVote ..)
    · exact fixed_if ((fixed_collFinish ..).trans ((fixed_sendMany ..).trans (fixed_collVote ..)))
          ((fixed_sendMany ..).trans (fixed_collVote ..))

theorem fixed_sendContrib (s : State) (g : Group) (replay : Bool) (seq sig dt : Nat) (data : Bytes) :
    fixed (sendContrib s g replay seq sig dt data) = fixed s := by
  unfold sendContrib
  refine fixed_foldl (fun s p => ?_) _ _
  split
  · rfl
  · exact fixed_rnSend ..

theorem fixed_runnelStep (s : State) (n : Nat) : fixed (runnelStep s n) = fixed s := by
  unfold runnelStep
  split
  · rfl
  · refine fixed_if rfl ?_
    refine fixed_if (fixed_collFail ..) ?_
    refine fixed_if ?_ ?_
    · refine fixed_if (fixed_if rfl (fixed_collFinish ..)) ?_
      split
      · rfl
      · exact fixed_collFinish ..
    · dsimp only
      split
      · rfl
      · exact fixed_collFinish ..

theorem fixed_collAdmit (s : State) (q i inst : Nat) (r : Infl) (l : Nat × Nat) (src dst : Bool) :
    fixed (collAdmit s q i inst r l src dst).state = fixed s := by
  unfold collAdmit
  dsimp only
  split
  · exact fixed_of_fst (fixed_admitOnce ..) ‹_›
  · rename_i u h
    refine Eq.trans ?_ (fixed_of_fst (fixed_admitOnce ..) h)
    have k : fixed (if src = true ∧ l.1 ≠ 0 then readMemAt (admOf u q i) u inst (getLE r.ent 24 8) l.1 else .ok u []).state =
        fixed u := by
      split
      · exact fixed_readMemAt ..
      · rfl
    split
    · split
      · exact Acc.fixed_ok k ‹_›
      · split
        · exact (Acc.fixed_ok (fixed_probe ..) ‹_›).trans (Acc.fixed_ok k ‹_›)
        · exact (fixed_probe ..).trans (Acc.fixed_ok k ‹_›)
    · exact k

theorem fixed_collBegin (s : State) (q i n : Nat) (g : Group) (e : Bytes) (runnel : Bool) (src : Bytes) :
    fixed (collBegin s q i n g e runnel src) = fixed s := rfl

theorem fixed_collSlot (s : State) (n inst order : Nat) : fixed (collSlot s n inst order) = fixed s := by
  unfold collSlot
  refine fixed_if ?_ rfl
  split
  · rfl
  · rfl

theorem fixed_collStart (s : State) (n : Nat) : fixed (collStart s n) = fixed s := by
  unfold collStart
  split
  · rfl
  · exact fixed_if ((fixed_runnelStep ..).trans (fixed_if (fixed_sendContrib ..) (fixed_putGroup ..)))
        ((fixed_collStep ..).trans ((fixed_collSlot ..).trans (fixed_foldl
        (fun s p => (fixed_giveCredit ..).trans (fixed_giveCredit ..)) _ _)))

theorem fixed_collDispatch (q i op : Nat) (s : State) : fixedOf (collDispatch q i op s) = some (fixed s) := by
  unfold collDispatch
  cases mayDispatch s q i 0x20 with
  | none => rfl
  | some p =>
    refine fixedOf_if rfl ?_
    dsimp only
    cases Tab.find s.groups (getLE p.2.ent 20 4) with
    | none => exact congrArg some (fixed_finishSt ..)
    | some g =>
      refine fixedOf_if (congrArg some (fixed_finishSt ..)) (fixedOf_if rfl ?_)
      cases vqFail s g p.2.ent with
      | some st => exact congrArg some (fixed_collFail ..)
      | none =>
        refine fixedOf_if (congrArg some (fixed_collFail ..)) ?_
        split
        · exact congrArg some (Acc.fixed_wait (fixed_collAdmit ..) ‹_›)
        · exact congrArg some ((fixed_collFail ..).trans ((fixed_collBegin ..).trans
              (Acc.fixed_fault (fixed_collAdmit ..) ‹_›)))
        · refine Eq.trans ?_ (congrArg some (Acc.fixed_ok (fixed_collAdmit ..) ‹_›))
          exact fixedOf_if (congrArg some (fixed_collFail ..)) (congrArg some (fixed_collStart ..))

@[simp] theorem fixed_execAllReduce (q i : Nat) (s : State) : fixedOf (execAllReduce q i s) = some (fixed s) := by
  unfold execAllReduce
  exact fixed_collDispatch ..

@[simp] theorem fixed_execReduceScatter (q i : Nat) (s : State) : fixedOf (execReduceScatter q i s) = some (fixed s) := by
  unfold execReduceScatter
  exact fixed_collDispatch ..

@[simp] theorem fixed_execAllGather (q i : Nat) (s : State) : fixedOf (execAllGather q i s) = some (fixed s) := by
  unfold execAllGather
  exact fixed_collDispatch ..

@[simp] theorem fixed_execBroadcast (q i : Nat) (s : State) : fixedOf (execBroadcast q i s) = some (fixed s) := by
  unfold execBroadcast
  exact fixed_collDispatch ..

@[simp] theorem fixed_execReduce (q i : Nat) (s : State) : fixedOf (execReduce q i s) = some (fixed s) := by
  unfold execReduce
  exact fixed_collDispatch ..

@[simp] theorem fixed_execAllToAll (q i : Nat) (s : State) : fixedOf (execAllToAll q i s) = some (fixed s) := by
  unfold execAllToAll
  exact fixed_collDispatch ..

@[simp] theorem fixed_execAllToAllV (q i : Nat) (s : State) : fixedOf (execAllToAllV q i s) = some (fixed s) := by
  unfold execAllToAllV
  exact fixed_collDispatch ..

@[simp] theorem fixed_execBarrier (q i : Nat) (s : State) : fixedOf (execBarrier q i s) = some (fixed s) := by
  unfold execBarrier
  exact fixed_collDispatch ..

theorem fixed_dropMsg (s : State) (n k : Nat) : fixed (dropMsg s n k) = fixed s := rfl

@[simp] theorem fixed_execCollData (n : Nat) (s : State) : fixedOf (execCollData n s) = some (fixed s) := by
  unfold execCollData
  split
  · rfl
  · split
    · rfl
    · split
      · exact congrArg some (fixed_dropMsg ..)
      · refine fixedOf_if (congrArg some (fixed_collFail ..)) ?_
        refine congrArg some ?_
        simp only [fixed_mk, fixed_eta]
        exact fixed_dropMsg ..

@[simp] theorem fixed_execCollCombineDone (n : Nat) (s : State) : fixedOf (execCollCombineDone n s) = some (fixed s) := by
  unfold execCollCombineDone
  split
  · rfl
  · refine fixedOf_if (congrArg some (fixed_runnelStep ..)) ?_
    refine fixedOf_if rfl ?_
    split
    · exact congrArg some (fixed_collStep ..)
    · exact congrArg some ((fixed_collStep ..).trans (fixed_giveCredit ..))

@[simp] theorem fixed_execCollCredit (n : Nat) (s : State) : fixedOf (execCollCredit n s) = some (fixed s) := by
  unfold execCollCredit
  split
  · rfl
  · dsimp only
    split
    · rfl
    · exact fixedOf_if (congrArg some (fixed_collStep ..)) (fixedOf_if (congrArg some (fixed_dropMsg ..))
          (congrArg some (fixed_collFail ..)))

@[simp] theorem fixed_execCollAbort (n : Nat) (s : State) : fixedOf (execCollAbort n s) = some (fixed s) := by
  unfold execCollAbort
  cases Tab.find s.groups n with
  | none => rfl
  | some g =>
    dsimp only
    split
    · rfl
    · exact fixedOf_if (congrArg some (fixed_collFail ..))
        (fixedOf_if (congrArg some (fixed_collAborted ..)) (congrArg some (fixed_dropMsg ..)))

@[simp] theorem fixed_execCollVote (n : Nat) (s : State) : fixedOf (execCollVote n s) = some (fixed s) := by
  unfold execCollVote
  split
  · rfl
  · split
    · rfl
    · split
      · exact congrArg some (fixed_dropMsg ..)
      · exact fixedOf_if (congrArg some (fixed_if (fixed_dropMsg ..) (fixed_collFail ..))) (congrArg some (fixed_collStep ..))

@[simp] theorem fixed_execCollTimeout (n : Nat) (s : State) : fixedOf (execCollTimeout n s) = some (fixed s) := by
  unfold execCollTimeout
  split
  · rfl
  · split
    · rfl
    · exact congrArg some (fixed_collFail ..)

theorem fixed_takeContrib (s : State) (m : Bytes) : fixed (takeContrib s m) = fixed s := by
  unfold takeContrib
  dsimp only
  split
  · rfl
  · refine fixed_if rfl ?_
    refine fixed_if ?_ (fixed_if rfl (fixed_runnelStep ..))
    split
    · exact fixed_rnSend ..
    · rfl

theorem fixed_takeRunnelAbort (s : State) (m : Bytes) : fixed (takeRunnelAbort s m) = fixed s := by
  unfold takeRunnelAbort
  dsimp only
  split
  · rfl
  · exact fixed_if rfl (fixed_if (fixed_collAborted ..) (fixed_putGroup ..))

theorem fixed_runnelRoots (s : State) : fixed (runnelRoots s) = fixed s := by
  unfold runnelRoots
  exact fixed_foldl (fun s p => fixed_runnelStep ..) _ _

theorem fixed_rnServe (s : State) (m : Bytes) : fixed (rnServe s m) = fixed s := by
  unfold rnServe
  dsimp only
  split
  · exact (fixed_runnelRoots ..).trans (RnIn.fixed_done (fixed_rnArrive ..) ‹_› :)
  · refine Eq.trans ?_ (RnIn.fixed_deliver (fixed_rnArrive ..) ‹_› :)
    exact (fixed_runnelRoots ..).trans (fixed_if (fixed_takeContrib ..) (fixed_takeRunnelAbort ..))

theorem fixed_rnRow (m : Bytes) (type : Nat) (s : State) : fixedOf (rnRow m type s) = some (fixed s) := by
  unfold rnRow
  refine fixedOf_if rfl ?_
  split
  · exact congrArg some (fixed_putLink ..)
  · exact congrArg some (fixed_if (fixed_wakeBlk ..) ((fixed_rnServe ..).trans (fixed_wakeBlk ..)))

theorem fixed_rnRelease (s : State) : fixed (rnRelease s) = fixed s := by
  unfold rnRelease
  refine fixed_if rfl ?_
  refine (fixed_foldl (fun s p => ?_) _ _).trans ?_
  · exact fixed_rnFlush ..
  · exact fixed_foldl (fun s p => fixed_rnServe ..) _ _

@[simp] theorem fixed_execRunnelColl (m : Bytes) (s : State) : fixedOf (execRunnelColl m s) = some (fixed s) := by
  unfold execRunnelColl
  exact fixed_rnRow ..

@[simp] theorem fixed_execRunnelCollAbort (m : Bytes) (s : State) : fixedOf (execRunnelCollAbort m s) = some (fixed s) := by
  unfold execRunnelCollAbort
  exact fixed_rnRow ..

@[simp] theorem fixed_execRunnelAck (m : Bytes) (s : State) : fixedOf (execRunnelAck m s) = some (fixed s) := by
  unfold execRunnelAck
  exact fixed_rnRow ..

theorem fixed_createGroup (s : State) (inst : Nat) (b : Bytes) : fixed (createGroup s inst b) = fixed s := by
  simp only [createGroup, fixed_mk, fixed_eta, fixed_ite, ite_self, fixed_foldl, implies_true, fixed_reserve, fixed_putGroup]

theorem fixed_readTable (s : State) (inst : Nat) : fixed (readTable s inst).state = fixed s := by
  unfold readTable
  dsimp only
  split
  · exact (fixed_of_fst (fixed_admitKey ..) ‹_› :)
  · exact (fixed_readMem ..).trans (fixed_of_fst (fixed_admitKey ..) ‹_› :)

@[simp] theorem fixed_execRnGcmdCreate (inst : Nat) (w : RegWr) (s : State) :
    fixedOf (execRnGcmdCreate inst w s) = some (fixed s) := by
  unfold execRnGcmdCreate
  refine fixed_onCmd (hk := ?_) ..
  refine fixedOf_if (fixed_pageCmd (heff := fun u => rfl) ..) ?_
  split
  · refine Eq.trans ?_ (congrArg some (Acc.fixed_fault (fixed_readTable ..) ‹_› :))
    exact fixed_pageCmd (heff := fun u => rfl) ..
  · refine Eq.trans ?_ (congrArg some (Acc.fixed_wait (fixed_readTable ..) ‹_› :))
    exact fixed_pageCmd (heff := fun u => fixed_putStat ..) ..
  · refine Eq.trans ?_ (congrArg some (Acc.fixed_ok (fixed_readTable ..) ‹_› :))
    exact fixed_pageCmd (heff := fun u => fixed_createGroup ..) ..

theorem fixed_retryCreate (s : State) (inst : Nat) : fixed (retryCreate s inst) = fixed s := by
  unfold retryCreate
  dsimp only
  split
  · rfl
  · split
    · exact Acc.fixed_wait (fixed_readTable ..) ‹_›
    · exact (fixed_rejectCmd ..).trans ((fixed_putStat ..).trans (Acc.fixed_fault (fixed_readTable ..) ‹_›))
    · split
      · exact (fixed_rejectCmd ..).trans ((fixed_putStat ..).trans (Acc.fixed_ok (fixed_readTable ..) ‹_›))
      · exact (fixed_createGroup ..).trans ((fixed_putStat ..).trans (Acc.fixed_ok (fixed_readTable ..) ‹_›))

theorem fixed_retryCreates (s : State) : fixed (retryCreates s) = fixed s := by
  unfold retryCreates
  exact fixed_foldl (fun s p => fixed_retryCreate ..) _ _

theorem fixed_dropGroup (s : State) (k : Nat) : fixed (dropGroup s k) = fixed s := by
  unfold dropGroup
  split
  · rfl
  · simp only [fixed_mk, fixed_eta]
    exact fixed_release ..

@[simp] theorem fixed_execRnGcmdDestroy (inst : Nat) (w : RegWr) (s : State) :
    fixedOf (execRnGcmdDestroy inst w s) = some (fixed s) := by
  unfold execRnGcmdDestroy
  exact fixed_onCmd (hk := (fixed_pageCmd (heff := fun u => fixed_dropGroup ..) ..)) ..

@[simp] theorem fixed_execRnGcmdReset (inst : Nat) (w : RegWr) (s : State) :
    fixedOf (execRnGcmdReset inst w s) = some (fixed s) := by
  unfold execRnGcmdReset
  exact fixed_onCmd (hk := (fixed_pageCmd (heff := fun u => rfl) ..)) ..

@[simp] theorem fixed_execRnGcmdQuery (inst : Nat) (w : RegWr) (s : State) :
    fixedOf (execRnGcmdQuery inst w s) = some (fixed s) := by
  unfold execRnGcmdQuery
  refine fixed_onCmd (hk := ?_) ..
  refine fixed_pageCmd (heff := fun u => ?_) ..
  split
  · exact fixed_putPage ..
  · exact fixed_putPage ..

end Sys2Proof.Machine
end

section
/-!
PROOFS. The golden bundle, the fuses and the queue, kept by reception, encryption and the debugger (R1, R99; log 12).
-/
namespace Sys2Proof.Machine

/-! ### Reception -/

theorem fixed_answerStatus (s : State) (l : Nat) (f : Frame) (h : PktHdr) (st : Byte) :
    fixed (answerStatus s l f h st) = fixed s := rfl

theorem fixed_decryptFail (s : State) : fixed (decryptFail s) = fixed s := rfl

theorem fixed_ackPoint (s : State) (n : Nat) : fixed (ackPoint s n) = fixed s := by
  unfold ackPoint
  exact fixed_sendAck ..

theorem fixed_consumeReq (s : State) (n cnt : Nat) (st : Byte) : fixed (consumeReq s n cnt st) = fixed s := by
  unfold consumeReq
  split
  · rfl
  · exact fixed_sendAck ..

theorem fixed_targetFail (s : State) (p : Qp) (op raddr rkey len : Nat) :
    fixed (targetFail s p op raddr rkey len).1 = fixed s := by
  unfold targetFail
  split
  · rfl
  · split
    · rfl
    · split
      · rfl
      · split
        · rfl
        · rfl
      · split
        · rfl
        · exact fixed_admitKey ..

theorem fixed_placeMap (s : State) (sender : Nat) (b : Bytes) : fixed (placeMap s sender b) = fixed s := by
  unfold placeMap
  exact fixed_if rfl rfl

theorem fixed_requestDone (s : State) (p : Qp) (c : RReq) : fixed (requestDone s p c) = fixed s := by
  unfold requestDone
  refine fixed_if ?_ ?_
  · split
    · rfl
    · rfl
  · refine fixed_if (fixed_placeMap ..) ?_
    split
    · exact fixed_finish ..
    · rfl

theorem fixed_putPayload (s : State) (p : Qp) (c : RReq) (off : Nat) (b : Bytes) :
    fixed (putPayload s p c off b).state = fixed s := by
  unfold putPayload
  split
  · exact fixed_writeMemAt ..
  · dsimp only
    split
    · rfl
    · exact (fixed_of_some (fixed_lineWait ..) ‹_› :)
    · split
      · split
        · exact (fixed_queueReq ..).trans (fixed_setLoc ..)
        · rfl
      · exact fixed_setLoc ..

theorem fixed_rxCount (s : State) (p : Qp) (bytes : Nat) : fixed (rxCount s p bytes) = fixed s := by
  unfold rxCount
  exact fixed_if rfl (fixed_instStat ..)

theorem fixed_placed (s : State) (n : Nat) (p : Qp) (c : RReq) (k : Nat) (h : PktHdr) (bytes : Nat) :
    fixed (placed s n p c k h bytes) = fixed s := by
  unfold placed
  extract_lets late d lead stamped fin x y t nak u
  have hu : fixed u = fixed s := (fixed_putQp ..).trans (fixed_rxCount ..)
  exact fixed_if ((fixed_ackPoint ..).trans ((fixed_requestDone ..).trans hu))
    (fixed_if ((fixed_sendAck ..).trans hu) (fixed_if ((fixed_ackPoint ..).trans hu) hu))

theorem fixed_holdFrame (s : State) (l : Nat) (f : Frame) : fixed (holdFrame s l f) = fixed s := rfl

theorem fixed_placePkt (s : State) (l n : Nat) (p : Qp) (c : RReq) (k : Nat) (f : Frame) (h : PktHdr) (pay : Bytes) :
    fixed (placePkt s l n p c k f h pay) = fixed s := by
  unfold placePkt
  refine fixed_if (fixed_consumeReq ..) ?_
  refine fixed_if (fixed_holdFrame ..) ?_
  refine fixed_if (fixed_placed ..) ?_
  refine fixed_if (fixed_placed ..) ?_
  split
  · exact (fixed_placed ..).trans (Acc.fixed_ok (fixed_putPayload ..) ‹_› :)
  · exact (fixed_holdFrame ..).trans (Acc.fixed_wait (fixed_putPayload ..) ‹_› :)
  · refine Eq.trans ?_ (Acc.fixed_fault (fixed_putPayload ..) ‹_› :)
    refine (fixed_consumeReq ..).trans ?_
    split
    · exact fixed_finishSt ..
    · rfl

theorem fixed_readTarget (s : State) (p : Qp) (c : RReq) : fixed (readTarget s p c).state = fixed s := by
  unfold readTarget
  split
  · exact fixed_readMemAt ..
  · dsimp only
    split
    · exact (fixed_of_some (fixed_lineWait ..) ‹_› :)
    · rfl

theorem fixed_serveRead (s : State) (l n : Nat) (p : Qp) (c : RReq) (f : Frame) (h : PktHdr) :
    fixed (serveRead s l n p c f h) = fixed s := by
  unfold serveRead
  split
  · exact (fixed_holdFrame ..).trans (Acc.fixed_wait (fixed_readTarget ..) ‹_›)
  · exact (fixed_consumeReq ..).trans (Acc.fixed_fault (fixed_readTarget ..) ‹_›)
  · exact (fixed_ackPoint ..).trans ((fixed_putQp ..).trans (Acc.fixed_ok (fixed_readTarget ..) ‹_›))

theorem fixed_sendAtomicRsp (s : State) (n : Nat) (p : Qp) (x prior : Nat) :
    fixed (sendAtomicRsp s n p x prior) = fixed s := by
  unfold sendAtomicRsp
  exact fixed_if (fixed_emitPkt ..) (fixed_workArrives ..)

theorem fixed_applyJour (s : State) (j : Jour) : fixed (applyJour s j) = fixed s := by
  unfold applyJour
  exact fixed_setLoc ..

theorem fixed_serveAtomic (s : State) (l n : Nat) (p : Qp) (c : RReq) (f : Frame) (h : PktHdr) (ext : Bytes) :
    fixed (serveAtomic s l n p c f h ext) = fixed s := by
  unfold serveAtomic
  dsimp only
  split
  · exact (fixed_consumeReq ..).trans (Tr.fixed_fault (fixed_translateAt ..) ‹_› :)
  · exact (fixed_holdFrame ..).trans (Tr.fixed_wait (fixed_translateAt ..) ‹_› :)
  · exact (fixed_consumeReq ..).trans (Tr.fixed_basin (fixed_translateAt ..) ‹_› :)
  · refine Eq.trans ?_ (Tr.fixed_ok (fixed_translateAt ..) ‹_› :)
    split
    · exact (fixed_holdFrame ..).trans (fixed_of_some (fixed_lineWait ..) ‹_› :)
    · exact (fixed_ackPoint ..).trans ((fixed_sendAtomicRsp ..).trans ((fixed_putQp ..).trans (fixed_applyJour ..)))

theorem fixed_replayJour (s : State) (n : Nat) : fixed (replayJour s n) = fixed s := by
  unfold replayJour
  split
  · rfl
  · exact (fixed_putQp ..).trans (fixed_foldl (fun s p => fixed_applyJour ..) _ _)

theorem fixed_applyMark (s : State) (n : Nat) (p : Qp) (h : PktHdr) (ext : Bytes) :
    fixed (applyMark s n p h ext) = fixed s := by
  unfold applyMark
  exact fixed_sendAck ..

theorem fixed_applyFirst (s : State) (l n : Nat) (p : Qp) (c : RReq) (f : Frame) (h : PktHdr) (ext pay : Bytes) :
    fixed (applyFirst s l n p c f h ext pay) = fixed s := by
  unfold applyFirst
  exact fixed_if (fixed_serveRead ..) (fixed_if (fixed_serveAtomic ..) (fixed_placePkt ..))

theorem fixed_admitReq (s : State) (n : Nat) (p : Qp) (c : RReq) : fixed (admitReq s n p c).1 = fixed s := rfl

theorem fixed_takeSlot (s : State) (p : Qp) (c : RReq) : fixed (takeSlot s p c) = fixed s := by
  unfold takeSlot
  split
  · exact fixed_if rfl rfl
  · rfl

theorem fixed_firstPkt (s : State) (l n : Nat) (p : Qp) (f : Frame) (h : PktHdr) (o : Option (Cipher × Bytes × Bytes)) :
    fixed (firstPkt s l n p f h o) = fixed s := by
  unfold firstPkt
  refine fixed_if (fixed_consumeReq ..) ?_
  cases o with
  | none => exact fixed_consumeReq ..
  | some x =>
    obtain ⟨c, ext, pay⟩ := x
    dsimp only
    refine fixed_if (fixed_sendCtl ..) ?_
    split
    · exact (fixed_consumeReq ..).trans (fixed_of_ite (fixed_putQp ..) ((fixed_targetFail ..).trans (fixed_putQp ..)) ‹_›)
    · rename_i u hu
      refine Eq.trans ?_ (fixed_of_ite (fixed_putQp ..) ((fixed_targetFail ..).trans (fixed_putQp ..)) hu)
      refine fixed_if (fixed_sendCtl ..) (fixed_if (fixed_applyMark ..) (fixed_if ?_ ?_))
      · exact (fixed_applyFirst ..).trans ((fixed_admitReq ..).trans (fixed_takeSlot ..))
      · split
        · exact fixed_sendAck ..
        · refine fixed_if (fixed_holdFrame ..) (fixed_if ?_ ?_)
          · exact (fixed_consumeReq ..).trans ((fixed_putQp ..).trans (fixed_finishSt ..))
          · exact (fixed_applyFirst ..).trans (fixed_admitReq ..)

theorem fixed_duplicate (s : State) (l n : Nat) (p : Qp) (h : PktHdr) : fixed (duplicate s l n p h) = fixed s := by
  unfold duplicate
  refine fixed_if (fixed_if (fixed_sendCtl ..) (fixed_sendAck ..)) ?_
  refine fixed_if ?_ (fixed_if (fixed_sendCtl ..) (fixed_sendAck ..))
  split
  · exact fixed_if ((fixed_sendCtl ..).trans (fixed_sendAtomicRsp ..)) ((fixed_sendAck ..).trans (fixed_sendAtomicRsp ..))
  · exact fixed_if (fixed_sendCtl ..) (fixed_sendAck ..)

theorem fixed_requestPkt (s : State) (l n : Nat) (p : Qp) (f : Frame) (h : PktHdr) :
    fixed (requestPkt s l n p f h) = fixed s := by
  unfold requestPkt
  refine fixed_if ((fixed_linkStat ..).trans (fixed_if (fixed_decryptFail ..) rfl)) ?_
  refine fixed_if ?_ ?_
  · split
    · exact fixed_if (fixed_decryptFail ..) rfl
    · exact fixed_duplicate ..
  · split
    · exact fixed_if ((fixed_firstPkt ..).trans (fixed_if (fixed_decryptFail ..) rfl))
          ((fixed_linkStat ..).trans (fixed_if (fixed_decryptFail ..) rfl))
    · refine fixed_if ((fixed_linkStat ..).trans (fixed_if (fixed_decryptFail ..) rfl)) ?_
      split
      · exact fixed_if (fixed_decryptFail ..) rfl
      · exact fixed_if (fixed_linkStat ..) (fixed_if (fixed_applyFirst ..) (fixed_placePkt ..))

theorem fixed_failReq (s : State) (n : Nat) (r : SReq) (st : Byte) (remote : Bool) :
    fixed (failReq s n r st remote) = fixed s := by
  unfold failReq
  exact fixed_tellWaiter ..

theorem fixed_respAck (s : State) (n : Nat) (h : PktHdr) : fixed (respAck s n h) = fixed s := by
  unfold respAck
  split
  · rfl
  · exact fixed_if (fixed_sendAck ..) (fixed_putQp ..)

theorem fixed_readResp (s : State) (l n : Nat) (p : Qp) (f : Frame) (h : PktHdr) (pay : Bytes) :
    fixed (readResp s l n p f h pay) = fixed s := by
  unfold readResp
  split
  · rfl
  · dsimp only
    split
    · split
      · rfl
      · split
        · exact (fixed_respAck ..).trans ((fixed_completeReqs ..).trans (fixed_rxCount ..))
        · exact (fixed_respAck ..).trans ((fixed_completeReqs ..).trans (fixed_rxCount ..))
        · split
          · exact (fixed_respAck ..).trans ((fixed_completeReqs ..).trans
                ((fixed_rxCount ..).trans ((Acc.fixed_ok (fixed_writeMemAt ..) ‹_› :))))
          · exact (fixed_holdFrame ..).trans (Acc.fixed_wait (fixed_writeMemAt ..) ‹_›)
          · exact (fixed_failReq ..).trans (Acc.fixed_fault (fixed_writeMemAt ..) ‹_›)
    · split
      · rfl
      · split
        · exact (fixed_respAck ..).trans ((fixed_completeReqs ..).trans (fixed_rxCount ..))
        · exact (fixed_respAck ..).trans ((fixed_completeReqs ..).trans (fixed_rxCount ..))
        · split
          · exact (fixed_respAck ..).trans ((fixed_completeReqs ..).trans
                ((fixed_rxCount ..).trans ((Acc.fixed_ok (fixed_writeMemAt ..) ‹_› :))))
          · exact (fixed_holdFrame ..).trans (Acc.fixed_wait (fixed_writeMemAt ..) ‹_›)
          · exact (fixed_failReq ..).trans (Acc.fixed_fault (fixed_writeMemAt ..) ‹_›)

theorem fixed_atomicResp (s : State) (l n : Nat) (p : Qp) (f : Frame) (h : PktHdr) (ext : Bytes) :
    fixed (atomicResp s l n p f h ext) = fixed s := by
  unfold atomicResp
  split
  · rfl
  · refine fixed_if rfl ?_
    dsimp only
    split
    · split
      · exact (fixed_completeReqs ..).trans (Acc.fixed_ok (fixed_writeMemAt ..) ‹_› :)
      · exact (fixed_holdFrame ..).trans (Acc.fixed_wait (fixed_writeMemAt ..) ‹_› :)
      · exact (fixed_failReq ..).trans (Acc.fixed_fault (fixed_writeMemAt ..) ‹_› :)
    · exact fixed_completeReqs ..

theorem fixed_takeAck (s : State) (l n : Nat) (h : PktHdr) (ext : Bytes) : fixed (takeAck s l n h ext) = fixed s := by
  unfold takeAck
  split
  · rfl
  · dsimp only
    refine (fixed_completeReqs ..).trans ?_
    refine (fixed_putQp ..).trans ?_
    split
    · exact (fixed_accUp ..).trans (fixed_if (fixed_weirStat ..) rfl)
    · exact fixed_if (fixed_weirStat ..) rfl

theorem fixed_retransmit (s : State) (n : Nat) (loss : Bool) : fixed (retransmit s n loss) = fixed s := rfl

theorem fixed_takeRnr (s : State) (l n : Nat) : fixed (takeRnr s l n) = fixed s := by
  unfold takeRnr
  split
  · rfl
  · exact fixed_if (fixed_qpError ..) (fixed_putQp ..)

theorem fixed_takeReread (s : State) (n : Nat) : fixed (takeReread s n) = fixed s := by
  unfold takeReread
  split
  · rfl
  · split
    · rfl
    · exact fixed_queueReq ..

theorem fixed_takeStatus (s : State) (l n : Nat) (h : PktHdr) (ext : Bytes) :
    fixed (takeStatus s l n h ext) = fixed s := by
  unfold takeStatus
  refine fixed_if (fixed_qpError ..) ?_
  split
  · rfl
  · refine (fixed_takeAck ..).trans ?_
    split
    · exact fixed_failReq ..
    · rfl

theorem fixed_takeResync (s : State) (n : Nat) (p : Qp) (h : PktHdr) (ext : Bytes) :
    fixed (takeResync s n p h ext) = fixed s := by
  unfold takeResync
  refine fixed_if ?_ ?_
  · refine (fixed_resumeSend ..).trans ?_
    dsimp only
    split
    · exact fixed_sendCtl ..
    · exact fixed_putQp ..
  · refine fixed_if ?_ ((fixed_qpError ..).trans (fixed_sendAck ..))
    dsimp only
    split
    · exact fixed_sendCtl ..
    · rfl

theorem fixed_takeResyncAck (s : State) (n : Nat) (p : Qp) (h : PktHdr) (ext : Bytes) :
    fixed (takeResyncAck s n p h ext) = fixed s := by
  unfold takeResyncAck
  exact fixed_if (fixed_resumeSend ..) rfl

theorem fixed_adoptStream (s : State) (l : Nat) (f : Frame) (h : PktHdr) : fixed (adoptStream s l f h) = fixed s := by
  unfold adoptStream
  dsimp only
  exact fixed_takeResync ..

theorem fixed_ackPkt (s : State) (l n : Nat) (h : PktHdr) (ext : Bytes) : fixed (ackPkt s l n h ext) = fixed s := by
  unfold ackPkt
  exact fixed_if (fixed_takeStatus ..) (fixed_if ((fixed_retransmit ..).trans (fixed_takeAck ..))
      (fixed_if ((fixed_takeRnr ..).trans (fixed_takeAck ..)) (fixed_if ((fixed_takeReread ..).trans (fixed_takeAck ..))
      (fixed_takeAck ..))))

theorem fixed_otherEpoch (s : State) (l n : Nat) (p : Qp) (h : PktHdr) : fixed (otherEpoch s l n p h) = fixed s := by
  unfold otherEpoch
  refine fixed_if (fixed_linkStat ..) ?_
  dsimp only
  split
  · exact fixed_if (fixed_linkStat ..) (fixed_sendAck ..)
  · exact fixed_sendAck ..

theorem fixed_ctlPkt (s : State) (l n : Nat) (p : Qp) (f : Frame) (h : PktHdr) :
    fixed (ctlPkt s l n p f h) = fixed s := by
  unfold ctlPkt
  split
  · exact fixed_decryptFail ..
  · exact fixed_if (fixed_linkStat ..) (fixed_if (fixed_takeResync ..) (fixed_if (fixed_takeResyncAck ..)
        (fixed_if (fixed_if (fixed_otherEpoch ..) (fixed_qpError ..)) (fixed_if
        (fixed_if (fixed_takeStatus ..) (fixed_putQp ..)) (fixed_if (fixed_if (fixed_takeStatus ..) (fixed_otherEpoch ..))
        (fixed_ackPkt ..))))))

theorem fixed_noteCe (s : State) (l n : Nat) (p : Qp) (f : Frame) (h : PktHdr) :
    fixed (noteCe s l n p f h).1 = fixed s := by
  unfold noteCe
  split
  · exact fixed_accUp ..
  · rfl

theorem fixed_dataPkt (s : State) (l n : Nat) (p : Qp) (f : Frame) (h : PktHdr) :
    fixed (dataPkt s l n p f h) = fixed s := by
  unfold dataPkt
  split
  · refine Eq.trans ?_ (fixed_of_fst (fixed_noteCe ..) ‹_› :)
    refine fixed_if ?_ ?_
    · split
      · exact fixed_otherEpoch ..
      · exact fixed_linkStat ..
    · refine fixed_if ?_ (fixed_requestPkt ..)
      split
      · exact fixed_decryptFail ..
      · exact fixed_if (fixed_if (fixed_readResp ..) (fixed_linkStat ..)) (fixed_if (fixed_atomicResp ..) (fixed_linkStat ..))

theorem fixed_arrive (s : State) (l : Nat) (f : Frame) : fixed (arrive s l f) = fixed s := by
  unfold arrive
  dsimp only
  split
  · exact fixed_linkStat ..
  · split
    · exact fixed_if (fixed_adoptStream ..) (fixed_answerStatus ..)
    · split
      · exact fixed_if (fixed_adoptStream ..) (fixed_answerStatus ..)
      · exact fixed_if (fixed_linkStat ..) (fixed_answerStatus ..)
      · exact fixed_accUp ..
      · exact fixed_if (fixed_ctlPkt ..) (fixed_accUp ..)
      · exact fixed_if (fixed_linkStat ..) (fixed_if (fixed_ctlPkt ..) (fixed_dataPkt ..))

theorem fixed_rxWake (s : State) (l : Nat) : fixed (rxWake s l) = fixed s := by
  unfold rxWake
  exact (fixed_wakeBlk ..).trans (fixed_wakeBlk ..)

theorem fixed_reach (s : State) (l : Nat) (f : Frame) : fixed (reach s l f) = fixed s := by
  unfold reach
  exact fixed_if (fixed_putLink ..) (fixed_if (fixed_putLink ..) (fixed_if ((fixed_holdFrame ..).trans (fixed_rxWake ..))
      ((fixed_arrive ..).trans (fixed_rxWake ..))))

theorem fixed_rxRow (l : Nat) (f : Frame) (op : Nat) (kind : Option Nat) (s : State) :
    fixedOf (rxRow l f op kind s) = some (fixed s) := by
  unfold rxRow
  exact fixedOf_if (congrArg some (fixed_reach ..)) rfl

@[simp] theorem fixed_execRxWrite (l : Nat) (f : Frame) (s : State) : fixedOf (execRxWrite l f s) = some (fixed s) := by
  unfold execRxWrite
  exact fixed_rxRow ..

@[simp] theorem fixed_execRxWriteImm (l : Nat) (f : Frame) (s : State) : fixedOf (execRxWriteImm l f s) = some (fixed s) := by
  unfold execRxWriteImm
  exact fixed_rxRow ..

@[simp] theorem fixed_execRxReadReq (l : Nat) (f : Frame) (s : State) : fixedOf (execRxReadReq l f s) = some (fixed s) := by
  unfold execRxReadReq
  exact fixed_rxRow ..

@[simp] theorem fixed_execRxReadResp (l : Nat) (f : Frame) (s : State) : fixedOf (execRxReadResp l f s) = some (fixed s) := by
  unfold execRxReadResp
  exact fixed_rxRow ..

@[simp] theorem fixed_execRxSend (l : Nat) (f : Frame) (s : State) : fixedOf (execRxSend l f s) = some (fixed s) := by
  unfold execRxSend
  exact fixed_rxRow ..

@[simp] theorem fixed_execRxSendImm (l : Nat) (f : Frame) (s : State) : fixedOf (execRxSendImm l f s) = some (fixed s) := by
  unfold execRxSendImm
  exact fixed_rxRow ..

@[simp] theorem fixed_execRxAtomicFadd (l : Nat) (f : Frame) (s : State) :
    fixedOf (execRxAtomicFadd l f s) = some (fixed s) := by
  unfold execRxAtomicFadd
  exact fixed_rxRow ..

@[simp] theorem fixed_execRxAtomicCswap (l : Nat) (f : Frame) (s : State) :
    fixedOf (execRxAtomicCswap l f s) = some (fixed s) := by
  unfold execRxAtomicCswap
  exact fixed_rxRow ..

@[simp] theorem fixed_execRxAtomicResp (l : Nat) (f : Frame) (s : State) :
    fixedOf (execRxAtomicResp l f s) = some (fixed s) := by
  unfold execRxAtomicResp
  exact fixed_rxRow ..

@[simp] theorem fixed_execRxAck (l : Nat) (f : Frame) (s : State) : fixedOf (execRxAck l f s) = some (fixed s) := by
  unfold execRxAck
  exact fixed_rxRow ..

@[simp] theorem fixed_execRxNakSeq (l : Nat) (f : Frame) (s : State) : fixedOf (execRxNakSeq l f s) = some (fixed s) := by
  unfold execRxNakSeq
  exact fixed_rxRow ..

@[simp] theorem fixed_execRxNakRnr (l : Nat) (f : Frame) (s : State) : fixedOf (execRxNakRnr l f s) = some (fixed s) := by
  unfold execRxNakRnr
  exact fixed_rxRow ..

@[simp] theorem fixed_execRxNakReread (l : Nat) (f : Frame) (s : State) : fixedOf (execRxNakReread l f s) = some (fixed s) := by
  unfold execRxNakReread
  exact fixed_rxRow ..

@[simp] theorem fixed_execRxNakStatus (l : Nat) (f : Frame) (s : State) : fixedOf (execRxNakStatus l f s) = some (fixed s) := by
  unfold execRxNakStatus
  exact fixed_rxRow ..

@[simp] theorem fixed_execRxResync (l : Nat) (f : Frame) (s : State) : fixedOf (execRxResync l f s) = some (fixed s) := by
  unfold execRxResync
  exact fixed_rxRow ..

@[simp] theorem fixed_execRxResyncAck (l : Nat) (f : Frame) (s : State) : fixedOf (execRxResyncAck l f s) = some (fixed s) := by
  unfold execRxResyncAck
  exact fixed_rxRow ..

@[simp] theorem fixed_execRxAbort (l : Nat) (f : Frame) (s : State) : fixedOf (execRxAbort l f s) = some (fixed s) := by
  unfold execRxAbort
  exact fixed_rxRow ..

@[simp] theorem fixed_execRxMark (l : Nat) (f : Frame) (s : State) : fixedOf (execRxMark l f s) = some (fixed s) := by
  unfold execRxMark
  exact fixed_rxRow ..

theorem fixed_rxRelease (s : State) : fixed (rxRelease s) = fixed s := by
  unfold rxRelease
  exact fixed_foldl (fun s p => fixed_if (fixed_holdFrame ..) (fixed_arrive ..)) _ _

@[simp] theorem fixed_execAckDelayExpiry (n : Nat) (s : State) : fixedOf (execAckDelayExpiry n s) = some (fixed s) := by
  unfold execAckDelayExpiry
  split
  · split
    · exact fixedOf_if rfl (congrArg some (fixed_ackPoint ..))
    · rfl
  · rfl

@[simp] theorem fixed_execRtoExpiry (n : Nat) (s : State) : fixedOf (execRtoExpiry n s) = some (fixed s) := by
  unfold execRtoExpiry
  split
  · rfl
  · exact fixedOf_if rfl (congrArg some (fixed_putQp ..))

@[simp] theorem fixed_execRnrDelayExpiry (n : Nat) (s : State) : fixedOf (execRnrDelayExpiry n s) = some (fixed s) := by
  unfold execRnrDelayExpiry
  split
  · rfl
  · split
    · rfl
    · exact congrArg some (fixed_putQp ..)

@[simp] theorem fixed_execRetryTimeExpiry (n : Nat) (s : State) : fixedOf (execRetryTimeExpiry n s) = some (fixed s) := by
  unfold execRetryTimeExpiry
  split
  · rfl
  · exact fixedOf_if (congrArg some (fixed_qpError ..)) (fixedOf_if (congrArg some (fixed_qpError ..)) rfl)

@[simp] theorem fixed_execFailoverTimeExpiry (l : Nat) (s : State) : fixedOf (execFailoverTimeExpiry l s) = some (fixed s) := by
  unfold execFailoverTimeExpiry
  refine fixedOf_if rfl ?_
  refine congrArg some ?_
  refine fixed_foldl (fun s p => ?_) _ _
  split
  · rfl
  · exact fixed_if rfl ((fixed_moveLink ..).trans (fixed_if rfl (fixed_advanceTo ..)))

@[simp] theorem fixed_execResyncRepeat (n : Nat) (s : State) : fixedOf (execResyncRepeat n s) = some (fixed s) := by
  unfold execResyncRepeat
  split
  · rfl
  · exact fixedOf_if rfl (congrArg some (fixed_sendCtl ..))

@[simp] theorem fixed_execSlQpCreate (inst : Nat) (w : RegWr) (s : State) :
    fixedOf (execSlQpCreate inst w s) = some (fixed s) := by
  unfold execSlQpCreate
  refine fixed_onCmd (hk := ?_) ..
  refine fixed_pageCmd (heff := fun u => ?_) ..
  dsimp only
  exact fixed_putQp ..

@[simp] theorem fixed_execSlQpConnect (inst : Nat) (w : RegWr) (s : State) :
    fixedOf (execSlQpConnect inst w s) = some (fixed s) := by
  unfold execSlQpConnect
  refine fixed_onCmd (hk := ?_) ..
  refine fixed_pageCmd (heff := fun u => ?_) ..
  split
  · rfl
  · exact fixed_putQp ..

@[simp] theorem fixed_execSlQpReset (inst : Nat) (w : RegWr) (s : State) :
    fixedOf (execSlQpReset inst w s) = some (fixed s) := by
  unfold execSlQpReset
  refine fixed_onCmd (hk := ?_) ..
  refine fixed_pageCmd (heff := fun u => ?_) ..
  split
  · rfl
  · exact fixed_putQp ..

@[simp] theorem fixed_execSlQpDestroy (inst : Nat) (w : RegWr) (s : State) :
    fixedOf (execSlQpDestroy inst w s) = some (fixed s) := by
  unfold execSlQpDestroy
  refine fixed_onCmd (hk := ?_) ..
  refine fixed_pageCmd (heff := fun u => ?_) ..
  split
  · rfl
  · exact fixed_putQp ..

@[simp] theorem fixed_execSlQpQuery (inst : Nat) (w : RegWr) (s : State) :
    fixedOf (execSlQpQuery inst w s) = some (fixed s) := by
  unfold execSlQpQuery
  refine fixed_onCmd (hk := ?_) ..
  refine fixed_pageCmd (heff := fun u => ?_) ..
  dsimp only
  split
  · exact fixed_putPage ..
  · exact fixed_putPage ..

@[simp] theorem fixed_execSlQpFailover (inst : Nat) (w : RegWr) (s : State) :
    fixedOf (execSlQpFailover inst w s) = some (fixed s) := by
  unfold execSlQpFailover
  exact fixed_onCmd (hk := (fixed_pageCmd (heff := fun u => fixed_moveLink ..) ..)) ..

/-! ### Sessions and keys -/

theorem fixed_spdmSay (s : State) (t : Transp) (r : SpdmRsp) : fixed (spdmSay s t r) = fixed s := rfl

theorem fixed_onSpdm (t : Transp) (s : State) (k : State) (hk : fixed k = fixed s) :
    fixedOf (onSpdm t s k) = some (fixed s) := by
  unfold onSpdm
  exact fixedOf_if (congrArg some hk) rfl

@[simp] theorem fixed_execGetVersion (t : Transp) (s : State) : fixedOf (execGetVersion t s) = some (fixed s) := by
  unfold execGetVersion
  exact fixed_onSpdm (hk := (fixed_spdmSay ..)) ..

@[simp] theorem fixed_execGetCapabilities (t : Transp) (s : State) : fixedOf (execGetCapabilities t s) = some (fixed s) := by
  unfold execGetCapabilities
  exact fixed_onSpdm (hk := (fixed_if (fixed_spdmSay ..) (fixed_spdmSay ..))) ..

@[simp] theorem fixed_execNegotiateAlgorithms (t : Transp) (a : SpdmAlgs) (s : State) :
    fixedOf (execNegotiateAlgorithms t a s) = some (fixed s) := by
  unfold execNegotiateAlgorithms
  exact fixed_onSpdm (hk := (fixed_if (fixed_spdmSay ..) (fixed_if (fixed_spdmSay ..) (fixed_spdmSay ..)))) ..

theorem fixed_onNegotiated (t : Transp) (s : State) (k : State) (hk : fixed k = fixed s) :
    fixedOf (onNegotiated t s k) = some (fixed s) := by
  unfold onNegotiated
  exact fixed_onSpdm (hk := (fixed_if hk (fixed_spdmSay ..))) ..

@[simp] theorem fixed_execGetDigests (t : Transp) (s : State) : fixedOf (execGetDigests t s) = some (fixed s) := by
  unfold execGetDigests
  exact fixed_onNegotiated (hk := (fixed_spdmSay ..)) ..

@[simp] theorem fixed_execGetCertificate (t : Transp) (slot off len : Nat) (s : State) :
    fixedOf (execGetCertificate t slot off len s) = some (fixed s) := by
  unfold execGetCertificate
  exact fixed_onNegotiated (hk := (fixed_if (fixed_spdmSay ..) (fixed_spdmSay ..))) ..

@[simp] theorem fixed_execChallenge (t : Transp) (slot : Nat) (nonce : Bytes) (s : State) :
    fixedOf (execChallenge t slot nonce s) = some (fixed s) := by
  unfold execChallenge
  exact fixed_onNegotiated (hk := (fixed_if (fixed_spdmSay ..) (fixed_spdmSay ..))) ..

@[simp] theorem fixed_execGetMeasurements (t : Transp) (index : Nat) (nonce : Bytes) (s : State) :
    fixedOf (execGetMeasurements t index nonce s) = some (fixed s) := by
  unfold execGetMeasurements
  exact fixed_onNegotiated (hk := (fixed_if (fixed_spdmSay ..) (fixed_spdmSay ..))) ..

@[simp] theorem fixed_execKeyExchange (t : Transp) (summary : Nat) (s : State) :
    fixedOf (execKeyExchange t summary s) = some (fixed s) := by
  unfold execKeyExchange
  exact fixed_onNegotiated (hk := (fixed_if (fixed_spdmSay ..) (fixed_spdmSay ..))) ..

theorem fixed_onSess (n : Nat) (s : State) (k : Sess → State) (hk : ∀ e : Sess, fixed (k e) = fixed s) :
    fixedOf (onSess n s k) = some (fixed s) := by
  unfold onSess
  split
  · exact congrArg some (fixed_if (fixed_spdmSay ..) rfl)
  · exact fixed_onSpdm (hk := (hk _)) ..

theorem fixed_onVerified (n : Nat) (ok : Bool) (s : State) (k : Sess → State) (hk : ∀ e : Sess, fixed (k e) = fixed s) :
    fixedOf (onVerified n ok s k) = some (fixed s) := by
  unfold onVerified
  exact fixed_onSess (hk := fun e => fixed_if (fixed_spdmSay ..) (hk _)) ..

@[simp] theorem fixed_execFinish (n : Nat) (ok : Bool) (s : State) : fixedOf (execFinish n ok s) = some (fixed s) := by
  unfold execFinish
  exact fixed_onVerified (hk := fun e => fixed_spdmSay ..) ..

@[simp] theorem fixed_execKeyUpdate (m : SecuredReq) (s : State) : fixedOf (execKeyUpdate m s) = some (fixed s) := by
  unfold execKeyUpdate
  exact fixed_onVerified (hk := fun e => fixed_if (fixed_spdmSay ..) (fixed_spdmSay ..)) ..

@[simp] theorem fixed_execEndSession (m : SecuredReq) (s : State) : fixedOf (execEndSession m s) = some (fixed s) := by
  unfold execEndSession
  exact fixed_onVerified (hk := fun e => fixed_spdmSay ..) ..

@[simp] theorem fixed_execIdeKmKeyProg (n : Option Nat) (stream : Nat) (key : Bytes) (s : State) :
    fixedOf (execIdeKmKeyProg n stream key s) = some (fixed s) := by
  unfold execIdeKmKeyProg
  refine fixedOf_if rfl ?_
  split
  · exact congrArg some (fixed_emit ..)
  · exact fixedOf_if (congrArg some (fixed_emit ..)) (fixedOf_if (congrArg some (fixed_emit ..))
        (congrArg some (fixed_emit ..)))

theorem fixed_keyRsp (s : State) (n : Option Nat) (m : Bytes) (st : Byte) : fixed (keyRsp s n m st) = fixed s := rfl

theorem fixed_keyMessage (n : Option Nat) (m : Bytes) (row : Bool) (s : State) (eff : State → State)
    (heff : ∀ u : State, fixed (eff u) = fixed u) :
    fixedOf (keyMessage n m row s eff) = some (fixed s) := by
  unfold keyMessage
  refine fixedOf_if rfl ?_
  split
  · exact congrArg some (fixed_keyRsp ..)
  · exact congrArg some ((fixed_keyRsp ..).trans (heff _))

theorem fixed_onCipher (s : State) (m : Bytes) (f : Cipher → Cipher) : fixed (onCipher s m f) = fixed s := rfl

@[simp] theorem fixed_execKeyInstallInitial (n : Option Nat) (m : Bytes) (s : State) :
    fixedOf (execKeyInstallInitial n m s) = some (fixed s) := by
  unfold execKeyInstallInitial
  exact fixed_keyMessage (heff := fun u => fixed_onCipher ..) ..

@[simp] theorem fixed_execKeyInstallRekey (n : Option Nat) (m : Bytes) (s : State) :
    fixedOf (execKeyInstallRekey n m s) = some (fixed s) := by
  unfold execKeyInstallRekey
  exact fixed_keyMessage (heff := fun u => fixed_onCipher ..) ..

@[simp] theorem fixed_execKeyCommit (n : Option Nat) (m : Bytes) (s : State) :
    fixedOf (execKeyCommit n m s) = some (fixed s) := by
  unfold execKeyCommit
  exact fixed_keyMessage (heff := fun u => fixed_onCipher ..) ..

@[simp] theorem fixed_execCryptPolicy (n : Option Nat) (m : Bytes) (s : State) :
    fixedOf (execCryptPolicy n m s) = some (fixed s) := by
  unfold execCryptPolicy
  exact fixed_keyMessage (heff := fun u => rfl) ..

@[simp] theorem fixed_execAdmitSet (n : Option Nat) (m : Bytes) (s : State) :
    fixedOf (execAdmitSet n m s) = some (fixed s) := by
  unfold execAdmitSet
  exact fixed_keyMessage (heff := fun u => rfl) ..

@[simp] theorem fixed_execBasinAttestFragment (slot : Nat) (b : Bytes) (s : State) :
    fixedOf (execBasinAttestFragment slot b s) = some (fixed s) := by
  unfold execBasinAttestFragment
  refine fixedOf_if rfl ?_
  refine fixedOf_if rfl ?_
  split
  · rfl
  · rfl

@[simp] theorem fixed_execCryptQuery (s : State) : fixedOf (execCryptQuery s) = some (fixed s) := by
  unfold execCryptQuery
  split
  · rfl
  · exact congrArg some (fixed_mbxDone ..)

/-! ### The debugger -/

theorem fixed_redeliver (s : State) (k : Nat) (t : Tg) : fixed (redeliver s k t) = fixed s := by
  unfold redeliver
  split
  · exact fixed_putTg ..
  · exact fixed_deliver ..

theorem fixed_killTg (s : State) (k : Nat) (t : Tg) : fixed (killTg s k t) = fixed s := by
  unfold killTg
  exact fixed_retireTg ..

theorem fixed_detach (s : State) : fixed (detach s) = fixed s := by
  unfold detach
  refine fixed_foldl (fun s p => ?_) _ _
  split
  · rfl
  · exact fixed_putTg ..
  · exact fixed_killTg ..

theorem fixed_onSlot (s : State) (p : Bytes) (f : Tg → State) (hf : ∀ t : Tg, fixed (f t) = fixed s) :
    fixed (onSlot s p f).1 = fixed s := by
  unfold onSlot
  split
  · rfl
  · exact hf _

theorem fixed_dbgList (p : Bytes) (s : State) : fixed (dbgList p s).1 = fixed s := rfl

theorem fixed_dbgHalt (p : Bytes) (s : State) : fixed (dbgHalt p s).1 = fixed s := by
  unfold dbgHalt
  exact fixed_onSlot (hf := fun t => fixed_putTg ..) ..

theorem fixed_dbgResume (p : Bytes) (s : State) : fixed (dbgResume p s).1 = fixed s := by
  unfold dbgResume
  exact fixed_onSlot (hf := fun t => fixed_if (fixed_redeliver ..) (fixed_putTg ..)) ..

theorem fixed_dbgStep (p : Bytes) (s : State) : fixed (dbgStep p s).1 = fixed s := by
  unfold dbgStep
  exact fixed_onSlot (hf := fun t => fixed_putTg ..) ..

theorem fixed_dbgRead (p : Bytes) (s : State) : fixed (dbgRead p s).1 = fixed s := by
  unfold dbgRead
  split
  · rfl
  · rfl

theorem fixed_dbgWrite (p : Bytes) (s : State) : fixed (dbgWrite p s).1 = fixed s := by
  unfold dbgWrite
  refine fixed_onSlot (hf := fun t => ?_) ..
  refine fixed_if ?_ (fixed_putTg ..)
  simp only [fixed_mk, fixed_eta]
  exact fixed_putTg ..

theorem fixed_dbgKill (p : Bytes) (s : State) : fixed (dbgKill p s).1 = fixed s := by
  unfold dbgKill
  exact fixed_onSlot (hf := fun t => fixed_killTg ..) ..

theorem fixed_dbgBreak (p : Bytes) (s : State) : fixed (dbgBreak p s).1 = fixed s := by
  unfold dbgBreak
  exact fixed_onSlot (hf := fun t => rfl) ..

theorem fixed_dbgAttach (src : Nat) (p : Bytes) (s : State) : fixed (dbgAttach src p s).1 = fixed s := rfl

theorem fixed_dbgDetach (s : State) : fixed (dbgDetach s).1 = fixed s := by
  unfold dbgDetach
  exact fixed_detach ..

theorem fixed_dbgCmd (code : Nat) (s : State) (eff : Nat → Bytes → State → DbgRes)
    (heff : ∀ (n : Nat) (b : Bytes) (u : State), fixed (eff n b u).1 = fixed u) :
    fixedOf (dbgCmd code s eff) = some (fixed s) := by
  unfold dbgCmd
  split
  · rfl
  · split
    · exact congrArg some (fixed_mbxDone ..)
    · exact congrArg some ((fixed_mbxDone ..).trans (heff _ _ _))

@[simp] theorem fixed_execDbgList (s : State) : fixedOf (execDbgList s) = some (fixed s) := by
  unfold execDbgList
  exact fixed_dbgCmd (heff := fun n b u => fixed_dbgList ..) ..

@[simp] theorem fixed_execDbgHalt (s : State) : fixedOf (execDbgHalt s) = some (fixed s) := by
  unfold execDbgHalt
  exact fixed_dbgCmd (heff := fun n b u => fixed_dbgHalt ..) ..

@[simp] theorem fixed_execDbgResume (s : State) : fixedOf (execDbgResume s) = some (fixed s) := by
  unfold execDbgResume
  exact fixed_dbgCmd (heff := fun n b u => fixed_dbgResume ..) ..

@[simp] theorem fixed_execDbgStep (s : State) : fixedOf (execDbgStep s) = some (fixed s) := by
  unfold execDbgStep
  exact fixed_dbgCmd (heff := fun n b u => fixed_dbgStep ..) ..

@[simp] theorem fixed_execDbgRead (s : State) : fixedOf (execDbgRead s) = some (fixed s) := by
  unfold execDbgRead
  exact fixed_dbgCmd (heff := fun n b u => fixed_dbgRead ..) ..

@[simp] theorem fixed_execDbgWrite (s : State) : fixedOf (execDbgWrite s) = some (fixed s) := by
  unfold execDbgWrite
  exact fixed_dbgCmd (heff := fun n b u => fixed_dbgWrite ..) ..

@[simp] theorem fixed_execDbgKill (s : State) : fixedOf (execDbgKill s) = some (fixed s) := by
  unfold execDbgKill
  exact fixed_dbgCmd (heff := fun n b u => fixed_dbgKill ..) ..

@[simp] theorem fixed_execDbgBreak (s : State) : fixedOf (execDbgBreak s) = some (fixed s) := by
  unfold execDbgBreak
  exact fixed_dbgCmd (heff := fun n b u => fixed_dbgBreak ..) ..

@[simp] theorem fixed_execDbgAttach (s : State) : fixedOf (execDbgAttach s) = some (fixed s) := by
  unfold execDbgAttach
  exact fixed_dbgCmd (heff := fun n b u => fixed_dbgAttach ..) ..

@[simp] theorem fixed_execDbgDetach (s : State) : fixedOf (execDbgDetach s) = some (fixed s) := by
  unfold execDbgDetach
  exact fixed_dbgCmd (heff := fun n b u => fixed_dbgDetach ..) ..

theorem fixed_dbgEff (code src : Nat) (p : Bytes) (s : State) : fixed (dbgEff code src p s).1 = fixed s := by
  unfold dbgEff
  split
  · exact fixed_dbgList ..
  · split
    · exact fixed_dbgHalt ..
    · split
      · exact fixed_dbgResume ..
      · split
        · exact fixed_dbgStep ..
        · split
          · exact fixed_dbgRead ..
          · split
            · exact fixed_dbgWrite ..
            · split
              · exact fixed_dbgKill ..
              · split
                · exact fixed_dbgBreak ..
                · split
                  · exact fixed_dbgAttach ..
                  · exact fixed_dbgDetach ..

@[simp] theorem fixed_execFwdbgUpdateDr (b : Bytes) (s : State) : fixedOf (execFwdbgUpdateDr b s) = some (fixed s) := by
  unfold execFwdbgUpdateDr
  refine fixedOf_if rfl ?_
  dsimp only
  split
  · exact congrArg some (fixed_emit ..)
  · split
    · exact congrArg some (fixed_emit ..)
    · exact congrArg some ((fixed_emit ..).trans (fixed_dbgEff ..))

end Sys2Proof.Machine
end

section
/-!
PROOFS. The golden bundle, the fuses and the queue, kept by the loader, the manager, the mailboxes, Synko, teardowns, Culvert, the event log
and the partner (R1, R99; log 12).
-/
namespace Sys2Proof.Machine

/-! ### The loader and features -/

theorem fixed_discardAll (s : State) : fixed (discardAll s) = fixed s := rfl

theorem fixed_applyImage (s : State) (i : Image) (digest : Bytes) : fixed (applyImage s i digest) = fixed s := by
  unfold applyImage
  exact fixed_if (fixed_putReg ..) (fixed_discardAll ..)

@[simp] theorem fixed_execStructureApplied (s : State) : fixedOf (execStructureApplied s) = some (fixed s) := by
  unfold execStructureApplied
  split
  · rfl
  · exact fixedOf_if rfl (congrArg some (fixed_applyImage ..))

theorem fixed_featTender (s : State) : fixed (featTender s) = fixed s := by
  simp only [featTender, fixed_mk, fixed_eta, fixed_ite, ite_self]

theorem fixed_featCtrl (s : State) (w : RegWr) (eff : State) (heff : fixed eff = fixed s) :
    fixedOf (featCtrl s w eff) = some (fixed s) := by
  unfold featCtrl
  exact fixedOf_if rfl (congrArg some (fixed_checked (h := heff) ..))

theorem fixed_featCommit (s : State) : fixed (featCommit s) = fixed s := by
  unfold featCommit
  split
  · rfl
  · rfl

theorem fixed_recordFeat (s : State) : fixed (recordFeat s) = fixed s := rfl

@[simp] theorem fixed_execFeatCommit (w : RegWr) (s : State) : fixedOf (execFeatCommit w s) = some (fixed s) := by
  unfold execFeatCommit
  exact fixedOf_if rfl (fixed_featCtrl (heff := (fixed_if ((fixed_recordFeat ..).trans (fixed_featCommit ..)) rfl)) ..)

@[simp] theorem fixed_execFeatUncommit (w : RegWr) (s : State) : fixedOf (execFeatUncommit w s) = some (fixed s) := by
  unfold execFeatUncommit
  exact fixedOf_if rfl (fixed_featCtrl (heff := ((fixed_recordFeat ..).trans (fixed_if rfl rfl))) ..)

theorem fixed_enterReady (s : State) : fixed (enterReady s) = fixed s := by
  unfold enterReady
  dsimp only
  split
  · exact fixed_mbxDone ..
  · rfl

@[simp] theorem fixed_execVapenBuilt (lay : Layout) (s : State) : fixedOf (execVapenBuilt lay s) = some (fixed s) := by
  unfold execVapenBuilt
  split
  · rfl
  · exact fixedOf_if rfl (congrArg some ((fixed_enterReady ..).trans ((fixed_logEv ..).trans (fixed_featTender ..))))

@[simp] theorem fixed_execConfigurationRequest (s : State) : fixedOf (execConfigurationRequest s) = some (fixed s) := by
  unfold execConfigurationRequest
  exact fixedOf_if rfl (congrArg some (fixed_emit ..))

theorem fixed_putSlot (s : State) (n : Nat) (b : Bytes) : fixed (putSlot s n b) = fixed s := by
  unfold putSlot
  exact fixed_if rfl rfl

@[simp] theorem fixed_execSlotWrite (readBackOk : Bool) (s : State) :
    fixedOf (execSlotWrite readBackOk s) = some (fixed s) := by
  unfold execSlotWrite
  split
  · rfl
  · split
    · dsimp only
      split
      · exact congrArg some (fixed_mbxDone ..)
      · exact congrArg some ((fixed_mbxDone ..).trans (fixed_putSlot ..))
    · dsimp only
      split
      · exact congrArg some (fixed_mbxDone ..)
      · exact congrArg some ((fixed_mbxDone ..).trans (fixed_putSlot ..))

theorem fixed_slotSelect (s : State) (try_ : Bool) (f : Nat → DirRec → DirRec) :
    fixedOf (slotSelect s try_ f) = some (fixed s) := by
  unfold slotSelect
  split
  · rfl
  · refine fixedOf_if rfl ?_
    dsimp only
    split
    · exact congrArg some (fixed_mbxDone ..)
    · exact congrArg some (fixed_mbxDone ..)

@[simp] theorem fixed_execSlotSelectActive (s : State) : fixedOf (execSlotSelectActive s) = some (fixed s) := by
  unfold execSlotSelectActive
  exact fixed_slotSelect ..

@[simp] theorem fixed_execSlotSelectTry (s : State) : fixedOf (execSlotSelectTry s) = some (fixed s) := by
  unfold execSlotSelectTry
  exact fixed_slotSelect ..

@[simp] theorem fixed_execSlotQuery (s : State) : fixedOf (execSlotQuery s) = some (fixed s) := by
  unfold execSlotQuery
  split
  · rfl
  · exact congrArg some (fixed_mbxDone ..)

@[simp] theorem fixed_execImageLoad (s : State) : fixedOf (execImageLoad s) = some (fixed s) := by
  unfold execImageLoad
  split
  · rfl
  · refine fixedOf_if rfl ?_
    dsimp only
    split
    · exact congrArg some (fixed_mbxDone ..)
    · rfl

@[simp] theorem fixed_execStageWrite (s : State) : fixedOf (execStageWrite s) = some (fixed s) := by
  unfold execStageWrite
  split
  · rfl
  · dsimp only
    split
    · exact congrArg some (fixed_mbxDone ..)
    · exact congrArg some (fixed_mbxDone ..)

/-! ### The manager -/

theorem fixed_mgrRefuse (s : State) (slot reqId : Nat) (st : Byte) (data : Bytes) :
    fixed (mgrRefuse s slot reqId st data) = fixed s := rfl

theorem fixed_onMgr (s : State) (slot reqId : Nat) (k : Directory → State) (hk : ∀ d : Directory, fixed (k d) = fixed s) :
    fixedOf (onMgr s slot reqId k) = some (fixed s) := by
  unfold onMgr
  refine fixedOf_if rfl ?_
  split
  · exact congrArg some (fixed_mgrRefuse ..)
  · exact congrArg some (hk _)

theorem fixed_askSpans (d : Directory) (h : Nat) (s : State) (es : List Extent) :
    fixed (askSpans d h s es) = fixed s := by
  unfold askSpans
  exact fixed_foldl (fun s p => fixed_emit ..) _ _

@[simp] theorem fixed_execBasinAlloc (r : AllocReq) (s : State) : fixedOf (execBasinAlloc r s) = some (fixed s) := by
  unfold execBasinAlloc
  exact fixed_onMgr (hk := fun d => fixed_if (fixed_mgrRefuse ..) (fixed_if (fixed_mgrRefuse ..)
      ((fixed_commitDir ..).trans (fixed_askSpans ..)))) ..

@[simp] theorem fixed_execBasinFree (r : FreeReq) (s : State) : fixedOf (execBasinFree r s) = some (fixed s) := by
  unfold execBasinFree
  refine fixed_onMgr (hk := fun d => ?_) ..
  split
  · exact fixed_mgrRefuse ..
  · exact fixed_if (fixed_mgrRefuse ..) (fixed_if (fixed_emit ..) (fixed_commitDir ..))

@[simp] theorem fixed_execPartnerAllocFree (slot inst : Nat) (s : State) :
    fixedOf (execPartnerAllocFree slot inst s) = some (fixed s) := by
  unfold execPartnerAllocFree
  exact fixedOf_if rfl (congrArg some ((fixed_commitDir ..).trans (fixed_foldl (fun s p => fixed_emit ..) _ _)))

@[simp] theorem fixed_execBasinPairPair (r : PairReq) (s : State) : fixedOf (execBasinPairPair r s) = some (fixed s) := by
  unfold execBasinPairPair
  refine fixed_onMgr (hk := fun d => ?_) ..
  split
  · exact fixed_if (fixed_mgrRefuse ..) (fixed_if (fixed_mgrRefuse ..) ((fixed_commitDir ..).trans
        (fixed_if (fixed_keyPair ..) rfl)))
  · exact fixed_mgrRefuse ..

@[simp] theorem fixed_execBasinPairMarkSpare (r : PairReq) (s : State) :
    fixedOf (execBasinPairMarkSpare r s) = some (fixed s) := by
  unfold execBasinPairMarkSpare
  refine fixed_onMgr (hk := fun d => ?_) ..
  split
  · exact fixed_mgrRefuse ..
  · exact fixed_if (fixed_mgrRefuse ..) (fixed_commitDir ..)

@[simp] theorem fixed_execBasinPairUnmarkSpare (r : PairReq) (s : State) :
    fixedOf (execBasinPairUnmarkSpare r s) = some (fixed s) := by
  unfold execBasinPairUnmarkSpare
  refine fixed_onMgr (hk := fun d => ?_) ..
  split
  · exact fixed_mgrRefuse ..
  · exact fixed_if (fixed_mgrRefuse ..) (fixed_commitDir ..)

@[simp] theorem fixed_execBasinQueryMap (slot : Nat) (s : State) : fixedOf (execBasinQueryMap slot s) = some (fixed s) := by
  unfold execBasinQueryMap
  exact fixedOf_if rfl (congrArg some (fixed_emit ..))

@[simp] theorem fixed_execBasinQueryAlloc (slot handle : Nat) (s : State) :
    fixedOf (execBasinQueryAlloc slot handle s) = some (fixed s) := by
  unfold execBasinQueryAlloc
  refine fixedOf_if rfl ?_
  dsimp only
  split
  · exact congrArg some (fixed_emit ..)
  · exact congrArg some (fixed_emit ..)

/-! ### Mailboxes -/

theorem fixed_mbxTake (s : State) (o : MbxFrom) (b : Bytes) (lenOk : Bool) : fixed (mbxTake s o b lenOk) = fixed s := by
  unfold mbxTake
  dsimp only
  split
  · exact fixed_mbxRespond ..
  · exact fixed_if (fixed_mbxRespond ..) (fixed_wakeBlk ..)

theorem fixed_mbxGo (s : State) (src : Src) : fixed (mbxGo s src) = fixed s := by
  unfold mbxGo
  exact fixed_mbxTake ..

@[simp] theorem fixed_execTnMbxGo (w : RegWr) (s : State) : fixedOf (execTnMbxGo w s) = some (fixed s) := by
  unfold execTnMbxGo
  exact fixedOf_if rfl (congrArg some (fixed_checked (h := (fixed_if (fixed_mbxGo ..) rfl)) ..))

@[simp] theorem fixed_execMctpRequest (m : MctpReq) (s : State) : fixedOf (execMctpRequest m s) = some (fixed s) := by
  unfold execMctpRequest
  exact fixedOf_if rfl (fixedOf_if (congrArg some (fixed_emit ..)) (congrArg some (fixed_mbxTake ..)))

theorem fixed_issueAlloc (s : State) (r : MbxReq) : fixed (issueAlloc s r).state = fixed s := by
  unfold issueAlloc
  dsimp only
  split
  · rfl
  · split
    · exact (fixed_of_fst (fixed_admitKey ..) ‹_› :)
    · refine Eq.trans ?_ (fixed_of_fst (fixed_admitKey ..) ‹_› :)
      split
      · exact (Acc.fixed_wait (fixed_readMem ..) ‹_› :)
      · exact (Acc.fixed_fault (fixed_readMem ..) ‹_› :)
      · refine Eq.trans ?_ (Acc.fixed_ok (fixed_readMem ..) ‹_› :)
        split
        · rfl
        · split
          · exact (fixed_of_fst (fixed_admitKey ..) ‹_› :)
          · exact (fixed_of_fst (fixed_admitKey ..) ‹_› :)

theorem fixed_issueMgr (s : State) (r : MbxReq) : fixed (issueMgr s r).state = fixed s := by
  unfold issueMgr
  dsimp only
  split
  · exact fixed_issueAlloc ..
  · split
    · split
      · rfl
      · rfl
    · split
      · split
        · split
          · rfl
          · rfl
        · split
          · rfl
          · rfl
      · split
        · rfl
        · rfl

theorem fixed_forward (s : State) (h : HeldCmd) : fixed (forward s h) = fixed s := rfl

@[simp] theorem fixed_execHeldCommandResend (s : State) : fixedOf (execHeldCommandResend s) = some (fixed s) := by
  unfold execHeldCommandResend
  exact fixedOf_if rfl (congrArg some (fixed_foldl (fun s p => fixed_forward ..) _ _))

@[simp] theorem fixed_execHeldCommandTimeout (s : State) : fixedOf (execHeldCommandTimeout s) = some (fixed s) := by
  unfold execHeldCommandTimeout
  split
  · rfl
  · exact fixedOf_if rfl (congrArg some (fixed_mbxDone ..))

@[simp] theorem fixed_execManagerReply (reqId : Nat) (status : Byte) (data : Bytes) (s : State) :
    fixedOf (execManagerReply reqId status data s) = some (fixed s) := by
  unfold execManagerReply
  split
  · rfl
  · split
    · exact congrArg some (fixed_mbxDone ..)
    · split
      · dsimp only
        split
        · exact congrArg some ((Acc.fixed_wait (fixed_writeMem ..) ‹_› :))
        · exact congrArg some ((fixed_mbxDone ..).trans ((Acc.fixed_fault (fixed_writeMem ..) ‹_› :)))
        · exact congrArg some ((fixed_mbxDone ..).trans ((Acc.fixed_ok (fixed_writeMem ..) ‹_› :)))
      · split
        · exact congrArg some (fixed_mbxDone ..)
        · exact congrArg some (fixed_mbxDone ..)

theorem fixed_startBasin (s : State) (r : MbxReq) (rest : List MbxReq) : fixed (startBasin s r rest) = fixed s := by
  unfold startBasin
  split
  · exact (Issued.fixed_wait (fixed_issueMgr ..) ‹_› :)
  · exact (fixed_mbxRespond ..).trans (Issued.fixed_fail (fixed_issueMgr ..) ‹_› :)
  · refine Eq.trans ?_ (Issued.fixed_go (fixed_issueMgr ..) ‹_› :)
    exact fixed_if (fixed_forward ..) rfl

@[simp] theorem fixed_execMbxCommandStart (s : State) : fixedOf (execMbxCommandStart s) = some (fixed s) := by
  unfold execMbxCommandStart
  refine fixedOf_if rfl ?_
  split
  · rfl
  · exact fixedOf_if (congrArg some (fixed_mbxRespond ..)) (fixedOf_if (congrArg some (fixed_startBasin ..)) rfl)

/-! ### Moves of spans and ATS -/

@[simp] theorem fixed_execSpanMoveDone (k : Nat) (s : State) : fixedOf (execSpanMoveDone k s) = some (fixed s) := by
  unfold execSpanMoveDone
  split
  · rfl
  · split
    · rfl
    · rename_i sp _ _ q i _
      refine fixedOf_if rfl ?_
      have hfail (t : State) (b : Bool) (st : Byte) : fixed (rxRelease (finishSt (dropPieces
          { t with spans := Tab.put t.spans k { sp with moving := none, resHbm := b } } k) q i st)) = fixed t :=
        (fixed_rxRelease ..).trans ((fixed_finishSt ..).trans (fixed_dropPieces ..))
      split
      · exact congrArg some ((Acc.fixed_wait (fixed_readMem ..) ‹_› :))
      · exact congrArg some ((hfail ..).trans (Acc.fixed_fault (fixed_readMem ..) ‹_› :))
      · rename_i u _ hu
        refine Eq.trans ?_ (congrArg some (Acc.fixed_ok (fixed_readMem ..) hu :))
        have hw (b : List Byte) : fixed (writeMem (dropPieces
            { u with spans := Tab.put u.spans k { sp with moving := none, resHbm := !sp.resHbm } } k)
            sp.inst sp.start b).state = fixed u :=
          (fixed_writeMem ..).trans (fixed_dropPieces ..)
        split
        · exact congrArg some (Acc.fixed_wait (hw _) ‹_› :)
        · exact congrArg some ((hfail ..).trans (Acc.fixed_fault (hw _) ‹_› :))
        · exact congrArg some ((fixed_rxRelease ..).trans ((fixed_finish ..).trans (Acc.fixed_ok (hw _) ‹_› :)))

theorem fixed_atsRefuse (s : State) (r : AtsReq) : fixed (atsRefuse s r) = fixed s := by
  unfold atsRefuse
  exact fixed_if rfl rfl

theorem fixed_adviseRest (s : State) (r : AtsReq) (k : Nat) (sp : Span) : fixed (adviseRest s r k sp) = fixed s := by
  unfold adviseRest
  exact fixed_if (fixed_adviseAts ..) rfl

@[simp] theorem fixed_execAtsCompletion (inst addr : Nat) (a : AtsAns) (s : State) :
    fixedOf (execAtsCompletion inst addr a s) = some (fixed s) := by
  unfold execAtsCompletion
  split
  · rfl
  · split
    · exact congrArg some ((fixed_rxRelease ..).trans (fixed_atsRefuse ..))
    · refine fixedOf_if rfl ?_
      refine fixedOf_if (congrArg some ((fixed_rxRelease ..).trans (fixed_atsRefuse ..))) ?_
      split
      · exact congrArg some ((fixed_rxRelease ..).trans (fixed_atsRefuse ..))
      · refine congrArg some ?_
        refine (fixed_rxRelease ..).trans ?_
        split
        · exact (fixed_adviseRest ..).trans (fixed_of_some (fixed_installPiece ..) ‹_› :)
        · rfl

@[simp] theorem fixed_execAtsTimeout (inst addr : Nat) (s : State) : fixedOf (execAtsTimeout inst addr s) = some (fixed s) := by
  unfold execAtsTimeout
  split
  · rfl
  · exact congrArg some ((fixed_rxRelease ..).trans ((fixed_logEv ..).trans (fixed_atsRefuse ..)))

@[simp] theorem fixed_execAtsInvalidationRequest (pasid addr len : Nat) (s : State) :
    fixedOf (execAtsInvalidationRequest pasid addr len s) = some (fixed s) := by
  unfold execAtsInvalidationRequest
  exact fixedOf_if rfl (congrArg some (fixed_emit ..))

/-! ### Synko -/

theorem fixed_putCnt (s : State) (n : Nat) (c : SyCnt) : fixed (putCnt s n c) = fixed s := rfl

theorem fixed_sopFinish (s : State) (q i : Nat) (st : Byte) : fixed (sopFinish s q i st) = fixed s := by
  unfold sopFinish
  exact fixed_finish ..

theorem fixed_fire (s : State) (t q i : Nat) : fixed (fire s t q i).1 = fixed s := by
  unfold fire
  split
  · rfl
  · split
    · rfl
    · rfl
    · exact fixed_wakeBlk ..
    · split
      · exact fixed_putWq ..
      · exact fixed_wakeBlk ..

theorem fixed_wake (s : State) (q i : Nat) (r : Infl) : fixed (wake s q i r) = fixed s := by
  unfold wake
  exact fixed_if (fixed_sopFinish ..) (fixed_if (fixed_sopFinish ..) (fixed_if (fixed_sopFinish ..)
      (fixed_if rfl (fixed_if (fixed_sopFinish ..) ((fixed_sopFinish ..).trans (fixed_fire ..))))))

theorem fixed_releaseWaiters (s : State) (n before : Nat) : fixed (releaseWaiters s n before) = fixed s := by
  unfold releaseWaiters
  refine fixed_if (fixed_foldl (fun s p => fixed_wake ..) _ _) ?_
  refine (fixed_foldl (fun s p => ?_) _ _).trans ?_
  · split
    · rfl
    · exact fixed_if (fixed_enterError ..) rfl
  · exact fixed_foldl (fun s p => fixed_wake ..) _ _

theorem fixed_applyCnt (s : State) (n : Nat) (set : Bool) (v : Nat) (journal : List (Nat × Nat × Nat)) :
    fixed (applyCnt s n set v journal) = fixed s := by
  unfold applyCnt
  exact (fixed_releaseWaiters ..).trans (fixed_if (fixed_logEv ..) (fixed_putCnt ..))

theorem fixed_retire (s : State) (src : SySrc) : fixed (retire s src) = fixed s := by
  unfold retire
  split
  · rfl
  · exact fixed_sopFinish ..
  · rfl
  · rfl
  · exact fixed_if rfl rfl

@[simp] theorem fixed_execSynkoApply (n : Nat) (s : State) : fixedOf (execSynkoApply n s) = some (fixed s) := by
  unfold execSynkoApply
  split
  · rfl
  · exact fixed_onBlk (hk := fun u => fixedOf_if rfl (congrArg some ((fixed_retire ..).trans (fixed_applyCnt ..)))) ..

theorem fixed_sopDispatch (q i sop : Nat) (s : State) (k : Infl → State → State)
    (hk : ∀ (r : Infl) (u : State), fixed (k r u) = fixed u) :
    fixedOf (sopDispatch q i sop s k) = some (fixed s) := by
  unfold sopDispatch
  split
  · rfl
  · exact fixedOf_if rfl (congrArg some (hk _ _))

@[simp] theorem fixed_execSynkoAdd (q i : Nat) (s : State) : fixedOf (execSynkoAdd q i s) = some (fixed s) := by
  unfold execSynkoAdd
  exact fixed_sopDispatch (hk := fun r u => fixed_if (fixed_sopFinish ..) (fixed_syQueue ..)) ..

@[simp] theorem fixed_execSynkoSet (q i : Nat) (s : State) : fixedOf (execSynkoSet q i s) = some (fixed s) := by
  unfold execSynkoSet
  exact fixed_sopDispatch (hk := fun r u => fixed_syQueue ..) ..

theorem fixed_startWait (q i : Nat) (r : Infl) (s : State) : fixed (startWait q i r s) = fixed s := by
  unfold startWait
  exact fixed_wake ..

@[simp] theorem fixed_execWaitGe (q i : Nat) (s : State) : fixedOf (execWaitGe q i s) = some (fixed s) := by
  unfold execWaitGe
  exact fixed_sopDispatch (hk := fun r u => fixed_startWait ..) ..

@[simp] theorem fixed_execArmFire (q i : Nat) (s : State) : fixedOf (execArmFire q i s) = some (fixed s) := by
  unfold execArmFire
  exact fixed_sopDispatch (hk := fun r u => fixed_startWait ..) ..

@[simp] theorem fixed_execSynkoDeadline (q i : Nat) (s : State) : fixedOf (execSynkoDeadline q i s) = some (fixed s) := by
  unfold execSynkoDeadline
  split
  · rfl
  · split
    · rfl
    · exact fixedOf_if rfl (congrArg some (fixed_sopFinish ..))

@[simp] theorem fixed_execSySet (inst : Nat) (w : RegWr) (s : State) : fixedOf (execSySet inst w s) = some (fixed s) := by
  unfold execSySet
  exact fixed_onCmd (hk := (fixed_pageCmd (heff := fun u => fixed_applyCnt ..) ..)) ..

@[simp] theorem fixed_execSyAdd (inst : Nat) (w : RegWr) (s : State) : fixedOf (execSyAdd inst w s) = some (fixed s) := by
  unfold execSyAdd
  exact fixed_onCmd (hk := (fixed_pageCmd (heff := fun u => fixed_applyCnt ..) ..)) ..

@[simp] theorem fixed_execSyShare (inst : Nat) (w : RegWr) (s : State) : fixedOf (execSyShare inst w s) = some (fixed s) := by
  unfold execSyShare
  exact fixed_onCmd (hk := (fixed_pageCmd (heff := fun u => fixed_putCnt ..) ..)) ..

@[simp] theorem fixed_execSyUnshare (inst : Nat) (w : RegWr) (s : State) :
    fixedOf (execSyUnshare inst w s) = some (fixed s) := by
  unfold execSyUnshare
  exact fixed_onCmd (hk := (fixed_pageCmd (heff := fun u => fixed_putCnt ..) ..)) ..

@[simp] theorem fixed_execGateSet (inst : Nat) (w : RegWr) (s : State) : fixedOf (execGateSet inst w s) = some (fixed s) := by
  unfold execGateSet
  exact fixed_onCmd (hk := (fixed_pageCmd (heff := fun u => rfl) ..)) ..

@[simp] theorem fixed_execGateClear (inst : Nat) (w : RegWr) (s : State) :
    fixedOf (execGateClear inst w s) = some (fixed s) := by
  unfold execGateClear
  exact fixed_onCmd (hk := (fixed_pageCmd (heff := fun u => rfl) ..)) ..

@[simp] theorem fixed_execGateQuery (inst : Nat) (w : RegWr) (s : State) :
    fixedOf (execGateQuery inst w s) = some (fixed s) := by
  unfold execGateQuery
  refine fixed_onCmd (hk := ?_) ..
  refine fixed_pageCmd (heff := fun u => ?_) ..
  dsimp only
  split
  · exact fixed_foldl (fun s p => fixed_putPage ..) _ _
  · split
    · exact fixed_foldl (fun s p => fixed_putPage ..) _ _
    · exact fixed_foldl (fun s p => fixed_putPage ..) _ _

/-! ### Teardowns and lost parts -/

theorem fixed_hushAll (s : State) (f : Nat → Bool) : fixed (hushAll s f) = fixed s := rfl

theorem fixed_endColls (s : State) (f : Nat → Bool) (st : Byte) : fixed (endColls s f st) = fixed s := by
  unfold endColls
  refine fixed_foldl (fun s p => ?_) _ _
  refine fixed_if rfl ?_
  dsimp only
  split
  · rfl
  · refine (fixed_foldl (fun s p => ?_) _ _).trans ?_
    · split
      · exact (fixed_of_next (fixed_execPacketTransmit ..) ‹_› :)
      · rfl
    · exact (fixed_collEnd ..).trans (fixed_sendAborts ..)

theorem fixed_sendAbortsQp (s : State) (f : Nat → Bool) (resyncing : Bool) :
    fixed (sendAbortsQp s f resyncing) = fixed s := by
  unfold sendAbortsQp
  exact fixed_foldl (fun s p => fixed_if (fixed_sendCtl ..) rfl) _ _

theorem fixed_endEntries (s : State) (f : Nat → Bool) (st : Byte) (spare : Nat → Infl → Bool) :
    fixed (endEntries s f st spare) = fixed s := by
  unfold endEntries
  exact fixed_foldl (fun s p => fixed_if (fixed_finishSt ..) rfl) _ _

theorem fixed_tdEntry (s : State) (q i : Nat) (x : Wq) (r : Infl) (d : Done) (prst : Bool) :
    fixed (tdEntry s q i x r d prst).1 = fixed s := by
  unfold tdEntry
  dsimp only
  split
  · exact fixed_of_ite rfl (fixed_writeCqe ..) ‹_›
  · refine (fixed_afterCqe ..).trans ?_
    split
    · exact fixed_of_ite rfl (fixed_writeCqe ..) ‹_›
    · exact (fixed_instStat ..).trans (fixed_of_ite rfl (fixed_writeCqe ..) ‹_›)

theorem fixed_tdQueue (n : Nat) (s : State) (q : Nat) (x : Wq) (prst : Bool) : fixed (tdQueue n s q x prst) = fixed s := by
  induction n generalizing s with
  | zero => rfl
  | succ n ih =>
    unfold tdQueue
    split
    · split
      · split
        · exact (ih _).trans (fixed_of_fst (fixed_tdEntry ..) ‹_›)
        · exact fixed_of_fst (fixed_tdEntry ..) ‹_›
      · rfl
    · rfl

theorem fixed_tdEntries (s : State) (f : Nat → Bool) (prst : Bool) : fixed (tdEntries s f prst) = fixed s := by
  unfold tdEntries
  exact fixed_foldl (fun s p => fixed_if (fixed_tdQueue ..) rfl) _ _

theorem fixed_dropWaits (s : State) (f : Nat → Bool) : fixed (dropWaits s f) = fixed s := rfl

theorem fixed_endWork (s : State) (f : Nat → Bool) (st : Byte) (prst : Bool) :
    fixed (endWork s f st prst) = fixed s := by
  unfold endWork
  exact (fixed_tdEntries ..).trans ((fixed_dropWaits ..).trans ((fixed_endEntries ..).trans
      ((fixed_sendAbortsQp ..).trans ((fixed_hushAll ..).trans (fixed_endColls ..)))))

theorem fixed_freeGroups (s : State) (f : Nat → Bool) : fixed (freeGroups s f) = fixed s := rfl

theorem fixed_applyOwed (s : State) (f : Nat → Bool) : fixed (applyOwed s f) = fixed s := by
  simp only [applyOwed, fixed_mk, fixed_eta, fixed_foldl, implies_true, fixed_applyCnt, fixed_retire]

theorem fixed_freeCounters (s : State) (f : Nat → Bool) (st : Byte) : fixed (freeCounters s f st) = fixed s := by
  unfold freeCounters
  refine (fixed_foldl (fun s p => ?_) _ _).trans ?_
  · split
    · rfl
    · exact fixed_if (fixed_enterError ..) rfl
  · exact fixed_foldl (fun s p => fixed_if (fixed_sopFinish ..) rfl) _ _

theorem fixed_dropGrants (s : State) (f : Nat → Bool) : fixed (dropGrants s f) = fixed s := by
  unfold dropGrants
  refine (fixed_foldl (fun s p => ?_) _ _).trans ?_
  · exact fixed_if (fixed_dropGroup ..) rfl
  · exact fixed_foldl (fun s p => fixed_if (fixed_killSpan ..) rfl) _ _

theorem fixed_destroyInsts (s : State) (f : Nat → Bool) (prst tell : Bool) :
    fixed (destroyInsts s f prst tell) = fixed s := by
  simp only [destroyInsts, fixed_mk, fixed_eta, fixed_ite, ite_self, fixed_foldl, implies_true, fixed_emit]

/-! ### Culvert -/

theorem fixed_cvReject (s : State) (k i : Nat) (st : Byte) : fixed (cvReject s k i st) = fixed s := by
  unfold cvReject
  exact fixed_if rfl rfl

theorem fixed_dropXfer (s : State) (k i : Nat) : fixed (dropXfer s k i) = fixed s := rfl

theorem fixed_putXfer (s : State) (x : CvXfer) : fixed (putXfer s x) = fixed s := rfl

theorem fixed_cvHold (s : State) (k i : Nat) : fixed (cvHold s k i) = fixed s := rfl

theorem fixed_cvAccept (s : State) (k i : Nat) : fixed (cvAccept s k i) = fixed s := by
  unfold cvAccept
  refine fixed_if (fixed_cvReject ..) ?_
  refine fixed_if (fixed_cvReject ..) ?_
  split
  · exact (fixed_cvHold ..).trans (Acc.fixed_wait (fixed_readMem ..) ‹_› :)
  · exact (fixed_cvReject ..).trans (Acc.fixed_fault (fixed_readMem ..) ‹_› :)
  · refine Eq.trans ?_ (Acc.fixed_ok (fixed_readMem ..) ‹_› :)
    split
    · exact fixed_cvReject ..
    · dsimp only
      split
      · exact (fixed_cvHold ..).trans (Acc.fixed_wait (fixed_writeMem ..) ‹_› :)
      · exact (fixed_cvReject ..).trans (Acc.fixed_fault (fixed_writeMem ..) ‹_› :)
      · simp only [fixed_mk, fixed_eta]
        exact (fixed_putXfer ..).trans (Acc.fixed_ok (fixed_writeMem ..) ‹_› :)

theorem fixed_cvRetry (s : State) : fixed (cvRetry s) = fixed s := by
  unfold cvRetry
  exact fixed_if rfl (fixed_foldl (fun s p => fixed_if rfl (fixed_cvAccept ..)) _ _)

theorem fixed_cvRing (s : State) (k i : Nat) : fixed (cvRing s k i) = fixed s := by
  unfold cvRing
  exact fixed_if ((fixed_cvHold ..).trans (fixed_wakeBlk ..)) ((fixed_cvAccept ..).trans (fixed_wakeBlk ..))

@[simp] theorem fixed_execCulvertDoorbell (k : Nat) (w : RegWr) (s : State) :
    fixedOf (execCulvertDoorbell k w s) = some (fixed s) := by
  unfold execCulvertDoorbell
  exact fixedOf_if rfl (congrArg some (fixed_checked (h := (fixed_if rfl (fixed_cvRing ..))) ..))

theorem fixed_cvFinish (s : State) (x : CvXfer) (st : Byte) : fixed (cvFinish s x st) = fixed s := by
  unfold cvFinish
  dsimp only
  split
  · exact (fixed_putXfer ..).trans (Acc.fixed_wait (fixed_writeMemAt ..) ‹_› :)
  · refine Eq.trans ?_ (Acc.fixed_fault (fixed_writeMemAt ..) ‹_› :)
    exact fixed_if (fixed_dropXfer ..) (fixed_syQueue ..)
  · refine Eq.trans ?_ (Acc.fixed_ok (fixed_writeMemAt ..) ‹_› :)
    exact fixed_if (fixed_dropXfer ..) (fixed_syQueue ..)

theorem fixed_cvOut (s : State) (x : CvXfer) (b : Bytes) : fixed (cvOut s x b) = fixed s := by
  unfold cvOut
  split
  · exact (Acc.fixed_wait (fixed_writeMemAt ..) ‹_› :)
  · exact (fixed_cvFinish ..).trans (Acc.fixed_fault (fixed_writeMemAt ..) ‹_› :)
  · exact (fixed_cvFinish ..).trans (Acc.fixed_ok (fixed_writeMemAt ..) ‹_› :)

theorem fixed_cvSend (s : State) (x : CvXfer) (a len h : Nat) (into : Bool) :
    fixed (cvSend s x a len h into) = fixed s := by
  unfold cvSend
  split
  · split
    · exact fixed_cvFinish ..
    · rfl
  · dsimp only
    split
    · exact fixed_cvFinish ..
    · split
      · rfl
      · split
        · exact fixed_queueReq ..
        · split
          · exact Acc.fixed_wait (fixed_readMemAt ..) ‹_›
          · exact (fixed_cvFinish ..).trans (Acc.fixed_fault (fixed_readMemAt ..) ‹_›)
          · exact (fixed_queueReq ..).trans ((fixed_putXfer ..).trans (Acc.fixed_ok (fixed_readMemAt ..) ‹_›))

theorem fixed_cvAdmit (s : State) (x : CvXfer) : fixed (cvAdmit s x).1 = fixed s := by
  unfold cvAdmit
  dsimp only
  split
  · rfl
  · split
    · rfl
    · split
      · exact (fixed_of_fst (fixed_admitKey ..) ‹_› :)
      · exact (fixed_putXfer ..).trans (fixed_of_fst (fixed_admitKey ..) ‹_› :)

theorem fixed_cvMove (s : State) (x : CvXfer) : fixed (cvMove s x) = fixed s := by
  unfold cvMove
  refine fixed_if rfl ?_
  split
  · exact (fixed_cvFinish ..).trans (fixed_of_fst (fixed_cvAdmit ..) ‹_› :)
  · refine Eq.trans ?_ (fixed_of_fst (fixed_cvAdmit ..) ‹_› :)
    refine fixed_if (fixed_cvSend ..) ?_
    split
    · exact fixed_cvFinish ..
    · refine fixed_if (fixed_if rfl (fixed_cvOut ..)) ?_
      split
      · exact (Acc.fixed_wait (fixed_readMemAt ..) ‹_› :)
      · exact (fixed_cvFinish ..).trans (Acc.fixed_fault (fixed_readMemAt ..) ‹_› :)
      · refine Eq.trans ?_ (Acc.fixed_ok (fixed_readMemAt ..) ‹_› :)
        split
        · exact (fixed_cvFinish ..).trans (Acc.fixed_ok (fixed_basinPiece ..) ‹_› :)
        · exact (Acc.fixed_wait (fixed_basinPiece ..) ‹_› :)
        · exact (fixed_cvFinish ..).trans (Acc.fixed_fault (fixed_basinPiece ..) ‹_› :)

theorem fixed_cvStep (s : State) (x : CvXfer) : fixed (cvStep s x) = fixed s := by
  unfold cvStep
  refine fixed_if rfl ?_
  split
  · exact fixed_if (fixed_cvOut ..) (fixed_cvFinish ..)
  · exact fixed_if rfl (fixed_cvMove ..)

@[simp] theorem fixed_execCulvertTransferDone (k i : Nat) (s : State) :
    fixedOf (execCulvertTransferDone k i s) = some (fixed s) := by
  unfold execCulvertTransferDone
  split
  · rfl
  · exact congrArg some (fixed_cvStep ..)

theorem fixed_cvRun (s : State) (f : Nat → Bool) : fixed (cvRun s f) = fixed s := by
  unfold cvRun
  exact fixed_foldl (fun s p => fixed_if (fixed_cvStep ..) rfl) _ _

theorem fixed_cvCut (s : State) (x : CvXfer) : fixed (cvCut s x) = fixed s := by
  unfold cvCut
  refine fixed_if rfl ?_
  split
  · exact fixed_freeStep ..
  · rfl

theorem fixed_cvForget (s : State) (f : Nat → Bool) : fixed (cvForget s f) = fixed s := rfl

theorem fixed_cvAbort (s : State) (x : CvXfer) (st : Byte) : fixed (cvAbort s x st) = fixed s := by
  unfold cvAbort
  dsimp only
  split
  · exact (fixed_dropXfer ..).trans (fixed_cvCut ..)
  · exact (fixed_cvFinish ..).trans (fixed_cvCut ..)

theorem fixed_cvEnd (s : State) (f : Nat → Bool) (st : Byte) : fixed (cvEnd s f st) = fixed s := by
  unfold cvEnd
  refine (fixed_foldl (fun s p => ?_) _ _).trans ?_
  · exact fixed_if (fixed_cvAbort ..) rfl
  · exact (fixed_cvForget ..).trans (fixed_cvRun ..)

theorem fixed_cvClear (s : State) (f : Nat → Bool) : fixed (cvClear s f) = fixed s := rfl

theorem fixed_poolCfg (s : State) (k : Nat) (w : RegWr) : fixed (poolCfg s k w) = fixed s := by
  unfold poolCfg
  exact fixed_checked (h := (fixed_putReg ..)) ..

@[simp] theorem fixed_execCvPoolDisable (k : Nat) (w : RegWr) (s : State) :
    fixedOf (execCvPoolDisable k w s) = some (fixed s) := by
  unfold execCvPoolDisable
  exact fixedOf_if rfl (congrArg some (fixed_poolCfg ..))

theorem fixed_ovfWrite (s : State) (off : Nat) (w : RegWr) : fixed (ovfWrite s off w) = fixed s := by
  unfold ovfWrite
  exact fixed_checked (h := (fixed_if (fixed_emit ..) (fixed_putReg ..))) ..

@[simp] theorem fixed_execCvOvfRegister (w : RegWrite) (s : State) : fixedOf (execCvOvfRegister w s) = some (fixed s) := by
  unfold execCvOvfRegister
  refine fixedOf_if rfl ?_
  split
  · exact congrArg some (fixed_ovfWrite ..)
  · rfl

/-! ### Events and interrupts -/

theorem fixed_eventInts (s : State) (sev : Nat) : fixed (eventInts s sev) = fixed s := by
  unfold eventInts
  exact fixed_if ((fixed_raise ..).trans (fixed_if (fixed_raise ..) rfl)) (fixed_if (fixed_raise ..) rfl)

@[simp] theorem fixed_execEventLogWrite (s : State) : fixedOf (execEventLogWrite s) = some (fixed s) := by
  unfold execEventLogWrite
  split
  · rfl
  · split
    · dsimp only
      split
      · rfl
      · exact congrArg some (fixed_eventInts ..)
    · split
      · rfl
      · exact congrArg some (fixed_eventInts ..)

@[simp] theorem fixed_execTnLogAckLoWrite (w : RegWr) (s : State) : fixedOf (execTnLogAckLoWrite w s) = some (fixed s) := by
  unfold execTnLogAckLoWrite
  exact fixedOf_if rfl (congrArg some (fixed_checked (h := rfl) ..))

@[simp] theorem fixed_execTnLogAckHiWrite (w : RegWr) (s : State) : fixedOf (execTnLogAckHiWrite w s) = some (fixed s) := by
  unfold execTnLogAckHiWrite
  exact fixedOf_if rfl (congrArg some (fixed_checked (h := rfl) ..))

@[simp] theorem fixed_execTnLogRselHiWrite (w : RegWr) (s : State) : fixedOf (execTnLogRselHiWrite w s) = some (fixed s) := by
  unfold execTnLogRselHiWrite
  exact fixedOf_if rfl (congrArg some (fixed_checked (h := rfl) ..))

theorem fixed_clearInt (s : State) (bits : BitVec 6) : fixed (clearInt s bits) = fixed s := by
  unfold clearInt
  exact fixed_if rfl (fixed_sendInt ..)

@[simp] theorem fixed_execTnIntStatClear (w : RegWr) (s : State) : fixedOf (execTnIntStatClear w s) = some (fixed s) := by
  unfold execTnIntStatClear
  exact fixedOf_if rfl (congrArg some (fixed_checked (h := (fixed_clearInt ..)) ..))

@[simp] theorem fixed_execTnIntEnWrite (w : RegWr) (s : State) : fixedOf (execTnIntEnWrite w s) = some (fixed s) := by
  unfold execTnIntEnWrite
  exact fixedOf_if rfl (congrArg some (fixed_checked (h := (fixed_setInt ..)) ..))

/-! ### The partner link -/

theorem fixed_prstTrigger (s : State) (cause : Nat) : fixed (prstTrigger s cause) = fixed s := by
  unfold prstTrigger
  split
  · exact (fixed_openOwnWin ..).trans (fixed_logEv ..)
  · rfl
  · rfl

theorem fixed_linkTrigger (s : State) (cause : Nat) : fixed (linkTrigger s cause) = fixed s := by
  unfold linkTrigger
  exact fixed_prstTrigger ..

@[simp] theorem fixed_execPartnerLinkDown (s : State) : fixedOf (execPartnerLinkDown s) = some (fixed s) := by
  unfold execPartnerLinkDown
  exact fixedOf_if (congrArg some (fixed_if rfl (fixed_prstTrigger ..))) (fixedOf_if rfl (congrArg some (fixed_linkTrigger ..)))

@[simp] theorem fixed_execPartnerFatalError (s : State) : fixedOf (execPartnerFatalError s) = some (fixed s) := by
  unfold execPartnerFatalError
  exact fixedOf_if rfl (congrArg some (fixed_linkTrigger ..))

@[simp] theorem fixed_execHostReset (s : State) : fixedOf (execHostReset s) = some (fixed s) := by
  unfold execHostReset
  exact fixedOf_if rfl (congrArg some (fixed_prstTrigger ..))

@[simp] theorem fixed_execSnoopTimeout (line : Nat) (s : State) : fixedOf (execSnoopTimeout line s) = some (fixed s) := by
  unfold execSnoopTimeout
  split
  · rfl
  · exact congrArg some (fixed_prstTrigger ..)

theorem fixed_linkUp (s : State) (t : LinkTrain) : fixed (linkUp s t) = fixed s := by
  unfold linkUp
  exact fixed_foldl (fun s p => fixed_logEv ..) _ _

@[simp] theorem fixed_execPartnerLinkTrained (t : LinkTrain) (s : State) :
    fixedOf (execPartnerLinkTrained t s) = some (fixed s) := by
  unfold execPartnerLinkTrained
  exact fixedOf_if rfl (fixedOf_if rfl (congrArg some (fixed_if (fixed_linkUp ..) (fixed_linkUp ..))))

@[simp] theorem fixed_execUcieModuleLost (m : Nat) (s : State) : fixedOf (execUcieModuleLost m s) = some (fixed s) := by
  unfold execUcieModuleLost
  exact fixedOf_if rfl (fixedOf_if (congrArg some ((fixed_linkTrigger ..).trans (fixed_logEv ..)))
      (congrArg some (fixed_logEv ..)))

theorem fixed_hbWrite (s : State) (w : RegWr) (eff : State) (heff : fixed eff = fixed s) :
    fixedOf (hbWrite s w eff) = some (fixed s) := by
  unfold hbWrite
  exact fixedOf_if rfl (congrArg some (fixed_checked (h := heff) ..))

@[simp] theorem fixed_execPartnerHbArm (w : RegWr) (s : State) : fixedOf (execPartnerHbArm w s) = some (fixed s) := by
  unfold execPartnerHbArm
  exact fixedOf_if rfl (fixed_hbWrite (heff := rfl) ..)

@[simp] theorem fixed_execPartnerHbBeat (w : RegWr) (s : State) : fixedOf (execPartnerHbBeat w s) = some (fixed s) := by
  unfold execPartnerHbBeat
  exact fixedOf_if rfl (fixed_hbWrite (heff := (fixed_if rfl rfl)) ..)

@[simp] theorem fixed_execPartnerHbDisarm (w : RegWr) (s : State) : fixedOf (execPartnerHbDisarm w s) = some (fixed s) := by
  unfold execPartnerHbDisarm
  exact fixedOf_if rfl (fixed_hbWrite (heff := rfl) ..)

@[simp] theorem fixed_execPartnerHbExpiry (s : State) : fixedOf (execPartnerHbExpiry s) = some (fixed s) := by
  unfold execPartnerHbExpiry
  exact fixedOf_if rfl (congrArg some (fixed_prstTrigger ..))

theorem fixed_ovfTeardown (s : State) : fixed (ovfTeardown s) = fixed s := by
  unfold ovfTeardown
  refine fixed_if ?_ (fixed_emit ..)
  simp only [fixed_mk, fixed_eta]
  exact fixed_resetRegs ..

theorem fixed_dbgTeardown (s : State) : fixed (dbgTeardown s) = fixed s := by
  unfold dbgTeardown
  exact fixed_if (fixed_detach ..) rfl

@[simp] theorem fixed_execPartnerSnoop (line : Nat) (store : Option Bytes) (s : State) :
    fixedOf (execPartnerSnoop line store s) = some (fixed s) := by
  unfold execPartnerSnoop
  refine fixedOf_if rfl ?_
  refine congrArg some ?_
  refine (fixed_emit ..).trans ?_
  split
  · rfl
  · rfl

theorem fixed_hdmForward (s : State) (off : Nat) (b : Bytes) (who : Waiter) :
    fixed ((hdmForward s off b who).getD s) = fixed s := by
  unfold hdmForward
  cases mirrorQp s with
  | none => rfl
  | some m => exact fixed_queueReq ..

theorem fixed_hdmServe (s : State) (a : HdmAcc) (stored : Bool) : fixed (hdmServe s a stored) = fixed s := by
  unfold hdmServe
  dsimp only
  split
  · split
    · rfl
    · exact fixed_emit ..
  · split
    · split
      · exact fixed_getD (fixed_hdmForward ..) rfl
      · rfl
    · split
      · rfl
      · split
        · exact fixed_emit ..
        · split
          · exact fixed_emit ..
          · rename_i o d _ _ _ _
            exact fixed_getD (s := { s with plot := Mem.write s.plot o d }) (fixed_hdmForward ..) rfl

theorem fixed_hdmRetry (s : State) : fixed (hdmRetry s) = fixed s := by
  unfold hdmRetry
  exact fixed_foldl (fun s p => fixed_hdmServe ..) _ _

theorem fixed_writeBack (s : State) (line : Nat) (b : Bytes) : fixed (writeBack s line b) = fixed s := by
  unfold writeBack
  exact fixed_if rfl (fixed_hdmServe ..)

@[simp] theorem fixed_execBackInvalidateAnswer (line : Nat) (dirty : Option Bytes) (s : State) :
    fixedOf (execBackInvalidateAnswer line dirty s) = some (fixed s) := by
  unfold execBackInvalidateAnswer
  refine fixedOf_if rfl ?_
  refine congrArg some ?_
  refine (fixed_rxRelease ..).trans ?_
  refine (fixed_hdmRetry ..).trans ?_
  simp only [fixed_mk, fixed_eta]
  split
  · exact fixed_writeBack ..
  · rfl

@[simp] theorem fixed_execHdmAccess (a : HdmAcc) (s : State) : fixedOf (execHdmAccess a s) = some (fixed s) := by
  unfold execHdmAccess
  exact fixedOf_if rfl (congrArg some (fixed_hdmServe ..))

theorem fixed_endHeld (s : State) (f : Nat → Bool) : fixed (endHeld s f) = fixed s := by
  unfold endHeld
  exact (fixed_tdEntries ..).trans (fixed_endEntries ..)

theorem fixed_tdStepOf (s : State) (n : Nat) : fixed (tdStepOf s n) = fixed s := by
  unfold tdStepOf
  exact fixed_if (fixed_endWork ..) (fixed_if ((fixed_cvEnd ..).trans (fixed_dbgTeardown ..))
      (fixed_if ((fixed_freeCounters ..).trans (fixed_applyOwed ..)) (fixed_if (fixed_dropGrants ..)
      (fixed_if ((fixed_rxRelease ..).trans ((fixed_hdmRetry ..).trans (fixed_endHeld ..)))
      (fixed_if (fixed_ovfTeardown ..) (fixed_if (fixed_recordFeat ..) (fixed_if (fixed_destroyInsts ..) rfl)))))))

theorem fixed_teardownOver (s : State) : fixed (teardownOver s) = fixed s := by
  unfold teardownOver
  dsimp only
  split
  · exact fixed_linkUp ..
  · rfl

theorem fixed_teardownStep (s : State) : fixed (teardownStep s) = fixed s := by
  unfold teardownStep
  extract_lets n u v
  have hu : fixed u = fixed s := fixed_if (fixed_endSessions ..) rfl
  have hv : fixed v = fixed s := fixed_if ((fixed_tdEntries ..).trans hu) ((fixed_tdStepOf ..).trans hu)
  exact fixed_if rfl (fixed_if hv (fixed_if hv ((fixed_teardownOver ..).trans hv)))

@[simp] theorem fixed_execPlotMapFetched (m : PlotMap) (s : State) : fixedOf (execPlotMapFetched m s) = some (fixed s) := by
  unfold execPlotMapFetched
  exact fixedOf_if rfl (congrArg some ((fixed_rxRelease ..).trans (fixed_adoptMap ..)))

@[simp] theorem fixed_execTenderCoreFail (core : Nat) (s : State) : fixedOf (execTenderCoreFail core s) = some (fixed s) := by
  unfold execTenderCoreFail
  refine fixedOf_if rfl ?_
  dsimp only
  split
  · exact fixedOf_if (congrArg some ((fixed_logEv ..).trans ((fixed_openOwnWin ..).trans (fixed_logEv ..))))
        (congrArg some ((fixed_openOwnWin ..).trans (fixed_logEv ..)))
  · exact congrArg some ((fixed_openOwnWin ..).trans (fixed_logEv ..))

theorem fixed_loseCopies (s : State) (n : Nat) : fixed (loseCopies s n) = fixed s := by
  simp only [loseCopies, fixed_mk, fixed_eta, fixed_ite, ite_self, fixed_foldl, implies_true, fixed_logCorrupt, fixed_putCnt,
      fixed_releaseWaiters]

@[simp] theorem fixed_execStackLost (n : Nat) (s : State) : fixedOf (execStackLost n s) = some (fixed s) := by
  unfold execStackLost
  extract_lets u v
  have hv : fixed v = fixed s := (fixed_loseCopies ..).trans ((fixed_openOwnWin ..).trans (fixed_logEv ..))
  exact fixedOf_if rfl (fixedOf_if (congrArg some hv)
    (fixedOf_if (congrArg some hv) (congrArg some ((fixed_voidGuarantee ..).trans hv))))

/-! ### Instance commands -/

theorem fixed_instReply (s : State) (v : InstVia) (code : Nat) (st : Byte) (data : Bytes) :
    fixed (instReply s v code st data) = fixed s := by
  unfold instReply
  split
  · exact fixed_mbxDone ..
  · split
    · rfl
    · exact fixed_spdmSay ..

theorem fixed_instRun (v : InstVia) (code len : Nat) (s : State) (k : Src → Bytes → State → State)
    (hk : ∀ (src : Src) (b : Bytes) (u : State), fixed (k src b u) = fixed u) :
    fixedOf (instRun v code len s k) = some (fixed s) := by
  unfold instRun
  split
  · rfl
  · exact congrArg some (fixed_instReply ..)
  · exact congrArg some (hk _ _ _)

@[simp] theorem fixed_execInstCreate (v : InstVia) (s : State) : fixedOf (execInstCreate v s) = some (fixed s) := by
  unfold execInstCreate
  refine fixed_instRun (hk := fun src b u => ?_) ..
  dsimp only
  split
  · exact fixed_instReply ..
  · split
    · exact fixed_instReply ..
    · exact fixed_instReply ..

@[simp] theorem fixed_execInstModify (v : InstVia) (s : State) : fixedOf (execInstModify v s) = some (fixed s) := by
  unfold execInstModify
  refine fixed_instRun (hk := fun src b u => ?_) ..
  dsimp only
  split
  · exact fixed_instReply ..
  · exact fixed_instReply ..

@[simp] theorem fixed_execInstDestroyGraceful (v : InstVia) (s : State) :
    fixedOf (execInstDestroyGraceful v s) = some (fixed s) := by
  unfold execInstDestroyGraceful
  refine fixed_instRun (hk := fun src b u => ?_) ..
  refine fixed_if rfl ?_
  split
  · exact fixed_instReply ..
  · exact (fixed_instReply ..).trans ((fixed_destroyInsts ..).trans ((fixed_dropGrants ..).trans (fixed_freeCounters ..)))

theorem fixed_forceRest (s : State) (v : InstVia) (n : Nat) : fixed (forceRest s v n) = fixed s := by
  unfold forceRest
  extract_lets f t u
  have ht : fixed t = fixed s := (fixed_tdEntries ..).trans (fixed_cvRun ..)
  have hu : fixed u = fixed s := (fixed_cvClear ..).trans ((fixed_applyOwed ..).trans ht)
  exact fixed_if ht ((fixed_rxRelease ..).trans ((fixed_instReply ..).trans ((fixed_destroyInsts ..).trans
    ((fixed_dropGrants ..).trans ((fixed_freeCounters ..).trans hu)))))

theorem fixed_forceStart (s : State) (v : InstVia) (n : Nat) : fixed (forceStart s v n) = fixed s := by
  unfold forceStart
  exact (fixed_freeGroups ..).trans (fixed_endWork ..)

@[simp] theorem fixed_execInstDestroyForce (v : InstVia) (s : State) : fixedOf (execInstDestroyForce v s) = some (fixed s) := by
  unfold execInstDestroyForce
  refine fixed_instRun (hk := fun src b u => ?_) ..
  refine fixed_if rfl ?_
  refine fixed_if (fixed_forceRest ..) ?_
  split
  · exact fixed_instReply ..
  · exact (fixed_forceRest ..).trans (fixed_forceStart ..)

@[simp] theorem fixed_execInstQuery (v : InstVia) (s : State) : fixedOf (execInstQuery v s) = some (fixed s) := by
  unfold execInstQuery
  refine fixed_instRun (hk := fun src b u => ?_) ..
  dsimp only
  split
  · exact fixed_instReply ..
  · exact fixed_instReply ..

end Sys2Proof.Machine
end

section
/-!
PROOFS. The golden bundle, the fuses and the queue, kept by Furrow's instructions, registers, resets, self-tests, Weir, every command and
the step (R1, R99; log 12).
-/
namespace Sys2Proof.Machine

/-! ### Furrow's instructions -/

@[simp] theorem fixed_execFwNop (core slot : Nat) (s : State) : fixedOf (execFwNop core slot s) = some (fixed s) := by
  unfold execFwNop
  exact fixed_issue (heff := fun c u t => rfl) ..

@[simp] theorem fixed_execMovi (core slot : Nat) (s : State) : fixedOf (execMovi core slot s) = some (fixed s) := by
  unfold execMovi
  exact fixed_laneOp ..

@[simp] theorem fixed_execMovu (core slot : Nat) (s : State) : fixedOf (execMovu core slot s) = some (fixed s) := by
  unfold execMovu
  exact fixed_laneOp ..

@[simp] theorem fixed_execMovs (core slot : Nat) (s : State) : fixedOf (execMovs core slot s) = some (fixed s) := by
  unfold execMovs
  refine fixed_issue (heff := fun c u t => ?_) ..
  split
  · rfl
  · rfl

@[simp] theorem fixed_execUmov (core slot : Nat) (s : State) : fixedOf (execUmov core slot s) = some (fixed s) := by
  unfold execUmov
  exact fixed_issue (heff := fun c u t => rfl) ..

theorem fixed_lane2 (core slot op : Nat) (s : State) (f : Ins → Nat → Nat → Nat) :
    fixedOf (lane2 core slot op s f) = some (fixed s) := by
  unfold lane2
  exact fixed_laneOp ..

@[simp] theorem fixed_execIadd (core slot : Nat) (s : State) : fixedOf (execIadd core slot s) = some (fixed s) := by
  unfold execIadd
  exact fixed_lane2 ..

@[simp] theorem fixed_execIsub (core slot : Nat) (s : State) : fixedOf (execIsub core slot s) = some (fixed s) := by
  unfold execIsub
  exact fixed_lane2 ..

@[simp] theorem fixed_execImul (core slot : Nat) (s : State) : fixedOf (execImul core slot s) = some (fixed s) := by
  unfold execImul
  exact fixed_lane2 ..

@[simp] theorem fixed_execImad (core slot : Nat) (s : State) : fixedOf (execImad core slot s) = some (fixed s) := by
  unfold execImad
  exact fixed_laneOp ..

@[simp] theorem fixed_execAnd (core slot : Nat) (s : State) : fixedOf (execAnd core slot s) = some (fixed s) := by
  unfold execAnd
  exact fixed_lane2 ..

@[simp] theorem fixed_execOr (core slot : Nat) (s : State) : fixedOf (execOr core slot s) = some (fixed s) := by
  unfold execOr
  exact fixed_lane2 ..

@[simp] theorem fixed_execXor (core slot : Nat) (s : State) : fixedOf (execXor core slot s) = some (fixed s) := by
  unfold execXor
  exact fixed_lane2 ..

@[simp] theorem fixed_execShl (core slot : Nat) (s : State) : fixedOf (execShl core slot s) = some (fixed s) := by
  unfold execShl
  exact fixed_lane2 ..

@[simp] theorem fixed_execShr (core slot : Nat) (s : State) : fixedOf (execShr core slot s) = some (fixed s) := by
  unfold execShr
  exact fixed_lane2 ..

@[simp] theorem fixed_execSar (core slot : Nat) (s : State) : fixedOf (execSar core slot s) = some (fixed s) := by
  unfold execSar
  exact fixed_lane2 ..

@[simp] theorem fixed_execImin (core slot : Nat) (s : State) : fixedOf (execImin core slot s) = some (fixed s) := by
  unfold execImin
  exact fixed_lane2 ..

@[simp] theorem fixed_execImax (core slot : Nat) (s : State) : fixedOf (execImax core slot s) = some (fixed s) := by
  unfold execImax
  exact fixed_lane2 ..

@[simp] theorem fixed_execIcmp (core slot : Nat) (s : State) : fixedOf (execIcmp core slot s) = some (fixed s) := by
  unfold execIcmp
  exact fixed_cmpOp ..

@[simp] theorem fixed_execFadd (core slot : Nat) (s : State) : fixedOf (execFadd core slot s) = some (fixed s) := by
  unfold execFadd
  exact fixed_lane2 ..

@[simp] theorem fixed_execFmul (core slot : Nat) (s : State) : fixedOf (execFmul core slot s) = some (fixed s) := by
  unfold execFmul
  exact fixed_lane2 ..

@[simp] theorem fixed_execFfma (core slot : Nat) (s : State) : fixedOf (execFfma core slot s) = some (fixed s) := by
  unfold execFfma
  exact fixed_laneOp ..

@[simp] theorem fixed_execFmin (core slot : Nat) (s : State) : fixedOf (execFmin core slot s) = some (fixed s) := by
  unfold execFmin
  exact fixed_lane2 ..

@[simp] theorem fixed_execFmax (core slot : Nat) (s : State) : fixedOf (execFmax core slot s) = some (fixed s) := by
  unfold execFmax
  exact fixed_lane2 ..

@[simp] theorem fixed_execFcmp (core slot : Nat) (s : State) : fixedOf (execFcmp core slot s) = some (fixed s) := by
  unfold execFcmp
  exact fixed_cmpOp ..

@[simp] theorem fixed_execFrcp (core slot : Nat) (s : State) : fixedOf (execFrcp core slot s) = some (fixed s) := by
  unfold execFrcp
  exact fixed_laneOp ..

@[simp] theorem fixed_execCvt (core slot : Nat) (s : State) : fixedOf (execCvt core slot s) = some (fixed s) := by
  unfold execCvt
  refine fixed_issue (heff := fun c u t => ?_) ..
  dsimp only
  split
  · rfl
  · split
    · rfl
    · rfl

theorem fixed_onBlock (c : FwCtx) (s : State) (t : Tg) (k : Nat → Nat → Fx) (hk : ∀ n m : Nat, fixed (k n m).state = fixed s) :
    fixed (onBlock c s t k).state = fixed s := by
  unfold onBlock
  dsimp only
  split
  · rfl
  · split
    · rfl
    · split
      · rfl
      · exact hk _ _

@[simp] theorem fixed_execMxunpk (core slot : Nat) (s : State) : fixedOf (execMxunpk core slot s) = some (fixed s) := by
  unfold execMxunpk
  exact fixed_issue (heff := fun c u t => fixed_onBlock (hk := fun n m => rfl) ..) ..

@[simp] theorem fixed_execMxpack (core slot : Nat) (s : State) : fixedOf (execMxpack core slot s) = some (fixed s) := by
  unfold execMxpack
  exact fixed_issue (heff := fun c u t => fixed_onBlock (hk := fun n m => rfl) ..) ..

@[simp] theorem fixed_execVqdec (core slot : Nat) (s : State) : fixedOf (execVqdec core slot s) = some (fixed s) := by
  unfold execVqdec
  refine fixed_issue (heff := fun c u t => ?_) ..
  split
  · rfl
  · dsimp only
    split
    · rfl
    · split
      · rfl
      · split
        · rfl
        · rfl

@[simp] theorem fixed_execVqenc (core slot : Nat) (s : State) : fixedOf (execVqenc core slot s) = some (fixed s) := by
  unfold execVqenc
  refine fixed_issue (heff := fun c u t => ?_) ..
  split
  · rfl
  · split
    · rfl
    · split
      · rfl
      · rfl

@[simp] theorem fixed_execShfl (core slot : Nat) (s : State) : fixedOf (execShfl core slot s) = some (fixed s) := by
  unfold execShfl
  exact fixed_laneOp ..

@[simp] theorem fixed_execVote (core slot : Nat) (s : State) : fixedOf (execVote core slot s) = some (fixed s) := by
  unfold execVote
  exact fixed_issue (heff := fun c u t => rfl) ..

@[simp] theorem fixed_execRed (core slot : Nat) (s : State) : fixedOf (execRed core slot s) = some (fixed s) := by
  unfold execRed
  exact fixed_issue (heff := fun c u t => rfl) ..

@[simp] theorem fixed_execLdl (core slot : Nat) (s : State) : fixedOf (execLdl core slot s) = some (fixed s) := by
  unfold execLdl
  refine fixed_issue (heff := fun c u t => ?_) ..
  split
  · rfl
  · rfl

@[simp] theorem fixed_execStl (core slot : Nat) (s : State) : fixedOf (execStl core slot s) = some (fixed s) := by
  unfold execStl
  refine fixed_issue (heff := fun c u t => ?_) ..
  split
  · rfl
  · rfl

@[simp] theorem fixed_execLda (core slot : Nat) (s : State) : fixedOf (execLda core slot s) = some (fixed s) := by
  unfold execLda
  refine fixed_issue (heff := fun c u t => ?_) ..
  split
  · rfl
  · rfl

theorem fixed_rollback (s s' : State) (hs' : fixed s' = fixed s) : fixed (rollback s s') = fixed s := by
  unfold rollback
  assumption

theorem fixed_undo (s s' : State) (hs' : fixed s' = fixed s) : fixed (undo s s') = fixed s := by
  unfold undo
  assumption

theorem fixed_readLanes (at_ : Option Nat) (inst : Nat) (f : Nat → Nat) (s : State) (ks : List Nat) :
    fixed (readLanes at_ inst f s ks).state = fixed s := by
  induction ks generalizing s with
  | nil => rfl
  | cons k ks ih =>
    unfold readLanes
    split
    · exact Acc.fixed_wait (fixed_readMemAt ..) ‹_›
    · exact Acc.fixed_fault (fixed_readMemAt ..) ‹_›
    · rename_i u b h
      refine Eq.trans ?_ (Acc.fixed_ok (fixed_readMemAt ..) h)
      split
      · exact Pass.fixed_ok (ih u) ‹_›
      · exact ih u

theorem fixed_writeLanes (at_ : Option Nat) (inst : Nat) (s : State) (ws : List (Nat × Nat × Nat)) :
    fixed (writeLanes at_ inst s ws).state = fixed s := by
  induction ws generalizing s with
  | nil => rfl
  | cons w ws ih =>
    unfold writeLanes
    split
    · exact Acc.fixed_wait (fixed_writeMemAt ..) ‹_›
    · exact Acc.fixed_fault (fixed_writeMemAt ..) ‹_›
    · exact (ih _).trans (Acc.fixed_ok (fixed_writeMemAt ..) ‹_›)

@[simp] theorem fixed_execLdg (core slot : Nat) (s : State) : fixedOf (execLdg core slot s) = some (fixed s) := by
  unfold execLdg
  refine fixed_issue (heff := fun c u t => ?_) ..
  split
  · rfl
  · split
    · exact fixed_rollback (hs' := (Pass.fixed_wait (fixed_readLanes ..) ‹_› :)) ..
    · exact fixed_undo (hs' := (Pass.fixed_fault (fixed_readLanes ..) ‹_› :)) ..
    · exact (Pass.fixed_ok (fixed_readLanes ..) ‹_› :)

@[simp] theorem fixed_execStg (core slot : Nat) (s : State) : fixedOf (execStg core slot s) = some (fixed s) := by
  unfold execStg
  refine fixed_issue (heff := fun c u t => ?_) ..
  split
  · rfl
  · split
    · exact fixed_rollback (hs' := (Pass.fixed_wait (fixed_writeLanes ..) ‹_› :)) ..
    · exact fixed_undo (hs' := (Pass.fixed_fault (fixed_writeLanes ..) ‹_› :)) ..
    · exact (Pass.fixed_ok (fixed_writeLanes ..) ‹_› :)

@[simp] theorem fixed_execCpy (core slot : Nat) (s : State) : fixedOf (execCpy core slot s) = some (fixed s) := by
  unfold execCpy
  refine fixed_issue (heff := fun c u t => ?_) ..
  split
  · rfl
  · split
    · rfl
    · dsimp only
      split
      · split
        · exact fixed_rollback (hs' := (Acc.fixed_wait (fixed_writeMemAt ..) ‹_› :)) ..
        · exact (Acc.fixed_fault (fixed_writeMemAt ..) ‹_› :)
        · exact (Acc.fixed_ok (fixed_writeMemAt ..) ‹_› :)
      · split
        · exact fixed_rollback (hs' := (Acc.fixed_wait (fixed_readMemAt ..) ‹_› :)) ..
        · exact fixed_undo (hs' := (Acc.fixed_fault (fixed_readMemAt ..) ‹_› :)) ..
        · exact (Acc.fixed_ok (fixed_readMemAt ..) ‹_› :)

@[simp] theorem fixed_execAtomg (core slot : Nat) (s : State) : fixedOf (execAtomg core slot s) = some (fixed s) := by
  unfold execAtomg
  refine fixed_issue (heff := fun c u t => ?_) ..
  dsimp only
  split
  · rfl
  · split
    · rfl
    · split
      · rfl
      · split
        · split
          · rfl
          · exact fixed_logEv ..
        · split
          · exact fixed_rollback (hs' := Pass.fixed_wait (fixed_readLanes ..) ‹_›) ..
          · exact fixed_undo (hs' := Pass.fixed_fault (fixed_readLanes ..) ‹_›) ..
          · rename_i h
            have k := Pass.fixed_ok (fixed_readLanes ..) h
            split
            · exact fixed_rollback (hs' := (Pass.fixed_wait (fixed_writeLanes ..) ‹_›).trans k) ..
            · exact fixed_undo (hs' := (Pass.fixed_fault (fixed_writeLanes ..) ‹_›).trans k) ..
            · exact (Pass.fixed_ok (fixed_writeLanes ..) ‹_› :).trans k

@[simp] theorem fixed_execFence (core slot : Nat) (s : State) : fixedOf (execFence core slot s) = some (fixed s) := by
  unfold execFence
  exact fixed_issue (heff := fun c u t => rfl) ..

@[simp] theorem fixed_execBra (core slot : Nat) (s : State) : fixedOf (execBra core slot s) = some (fixed s) := by
  unfold execBra
  refine fixed_issue (heff := fun c u t => ?_) ..
  split
  · rfl
  · split
    · rfl
    · rfl

@[simp] theorem fixed_execCall (core slot : Nat) (s : State) : fixedOf (execCall core slot s) = some (fixed s) := by
  unfold execCall
  refine fixed_issue (heff := fun c u t => ?_) ..
  split
  · rfl
  · rfl

@[simp] theorem fixed_execRet (core slot : Nat) (s : State) : fixedOf (execRet core slot s) = some (fixed s) := by
  unfold execRet
  refine fixed_issue (heff := fun c u t => ?_) ..
  split
  · rfl
  · rfl

@[simp] theorem fixed_execExit (core slot : Nat) (s : State) : fixedOf (execExit core slot s) = some (fixed s) := by
  unfold execExit
  exact fixed_issue (heff := fun c u t => rfl) ..

@[simp] theorem fixed_execTrap (core slot : Nat) (s : State) : fixedOf (execTrap core slot s) = some (fixed s) := by
  unfold execTrap
  refine fixed_issue (heff := fun c u t => ?_) ..
  dsimp only
  split
  · rfl
  · rfl

@[simp] theorem fixed_execRte (core slot : Nat) (s : State) : fixedOf (execRte core slot s) = some (fixed s) := by
  unfold execRte
  refine fixed_issue (heff := fun c u t => ?_) ..
  split
  · rfl
  · split
    · rfl
    · rfl

@[simp] theorem fixed_execSetres (core slot : Nat) (s : State) : fixedOf (execSetres core slot s) = some (fixed s) := by
  unfold execSetres
  exact fixed_issue (heff := fun c u t => rfl) ..

@[simp] theorem fixed_execSetstat (core slot : Nat) (s : State) : fixedOf (execSetstat core slot s) = some (fixed s) := by
  unfold execSetstat
  refine fixed_issue (heff := fun c u t => ?_) ..
  dsimp only
  split
  · rfl
  · rfl

@[simp] theorem fixed_execSadd (core slot : Nat) (s : State) : fixedOf (execSadd core slot s) = some (fixed s) := by
  unfold execSadd
  refine fixed_issue (heff := fun c u t => ?_) ..
  dsimp only
  split
  · rfl
  · rfl

@[simp] theorem fixed_execBrk (core slot : Nat) (s : State) : fixedOf (execBrk core slot s) = some (fixed s) := by
  unfold execBrk
  refine fixed_issue (heff := fun c u t => ?_) ..
  split
  · rfl
  · rfl

/-! ### Registers -/

theorem fixed_adminOff (s : State) (l : Nat) : fixed (adminOff s l) = fixed s := rfl

theorem fixed_mergeCfg (on : Bool) (s : State) (l : Nat) : fixed (mergeCfg on s l) = fixed s := by
  unfold mergeCfg
  exact fixed_if (fixed_putLink ..) rfl

theorem fixed_portCfg (s : State) (off v : Nat) : fixed (portCfg s off v) = fixed s := by
  unfold portCfg
  refine fixed_if (fixed_foldl (fun s p => fixed_if (fixed_adminOff ..) rfl) _ _) ?_
  refine (fixed_foldl (fun s p => ?_) _ _).trans ?_
  · exact fixed_mergeCfg ..
  · exact fixed_foldl (fun s p => fixed_if (fixed_adminOff ..) rfl) _ _

theorem fixed_lvCtrl (s : State) (v : Nat) : fixed (lvCtrl s v) = fixed s := by
  unfold lvCtrl
  exact fixed_if (fixed_putReg ..) (fixed_onRegions ..)

theorem fixed_ptpLinkOff (s : State) : fixed (ptpLinkOff s) = fixed s := by
  unfold ptpLinkOff
  exact fixed_if (fixed_putLink ..) rfl

theorem fixed_timeCtrl (s : State) (v : Nat) : fixed (timeCtrl s v) = fixed s := by
  unfold timeCtrl
  exact fixed_if (fixed_ptpLinkOff ..) (fixed_ptpLinkOff ..)

theorem fixed_devEffect (s : State) (blk off v : Nat) : fixed (devEffect s blk off v) = fixed s := by
  unfold devEffect
  exact fixed_if (fixed_if (fixed_portCfg ..) (fixed_if (fixed_putReg ..) rfl))
      (fixed_if (fixed_if (fixed_putReg ..) rfl) (fixed_if (fixed_if (fixed_putReg ..) rfl)
      (fixed_if (fixed_if (fixed_putReg ..) (fixed_if rfl rfl)) (fixed_if (fixed_if (fixed_putReg ..) (fixed_if rfl rfl))
      (fixed_if (fixed_if (fixed_timeCtrl ..) (fixed_if rfl (fixed_if (fixed_putReg ..) (fixed_if rfl (fixed_if rfl rfl)))))
      (fixed_if (fixed_if (fixed_lvCtrl ..) (fixed_if (fixed_putReg ..) (fixed_if (fixed_putRegion ..) rfl))) rfl))))))

theorem fixed_devWrite (s : State) (blk off : Nat) (w : RegWr) : fixed (devWrite s blk off w) = fixed s := by
  unfold devWrite
  refine fixed_if rfl ?_
  split
  · exact fixed_checked (h := rfl) ..
  · exact fixed_if (fixed_poolCfg ..) (fixed_checked (h := (fixed_devEffect ..)) ..)

theorem fixed_featAck (s : State) (i v : Nat) : fixed (featAck s i v) = fixed s := rfl

theorem fixed_fixedWrite (s : State) (off : Nat) (w : RegWr) : fixed (fixedWrite s off w) = fixed s := by
  unfold fixedWrite
  refine fixed_if rfl ?_
  refine fixed_if (fixed_checked (h := rfl) ..) ?_
  refine fixed_if (fixed_checked (h := rfl) ..) ?_
  split
  · exact fixed_checked (h := rfl) ..
  · exact fixed_if (fixed_checked (h := (fixed_featAck ..)) ..) (fixed_checked (h := rfl) ..)

theorem fixed_vstatClear (s : State) (inst v : Nat) : fixed (vstatClear s inst v) = fixed s := by
  unfold vstatClear
  exact fixed_if (fixed_putPage ..) rfl

theorem fixed_pageWrite (s : State) (inst off : Nat) (w : RegWr) :
    fixedOf (pageWrite s inst off w) = some (fixed s) := by
  unfold pageWrite
  split
  · exact fixedOf_if rfl (fixed_pageCmd (heff := fun u => rfl) ..)
  · refine fixedOf_if rfl ?_
    refine fixedOf_if (congrArg some (fixed_checked (h := (fixed_vstatClear ..)) ..)) ?_
    split
    · exact congrArg some (fixed_checked (h := rfl) ..)
    · exact congrArg some (fixed_checked (h := (fixed_if rfl (fixed_putPage ..))) ..)

theorem fixed_queueWrite (s : State) (q off : Nat) (w : RegWr) : fixedOf (queueWrite s q off w) = some (fixed s) := by
  unfold queueWrite
  refine fixedOf_if rfl ?_
  split
  · exact congrArg some (fixed_checked (h := rfl) ..)
  · exact fixed_queueReg (hk := fun x => fixed_if (fixed_reject ..) (fixed_if (fixed_putWq ..) rfl)) ..

theorem fixed_cqWrite (s : State) (c off : Nat) (w : RegWr) : fixedOf (cqWrite s c off w) = some (fixed s) := by
  unfold cqWrite
  refine fixedOf_if rfl ?_
  split
  · exact congrArg some (fixed_checked (h := rfl) ..)
  · exact fixed_cqReg (hk := fun x => fixed_if (fixed_reject ..) rfl) ..

theorem fixed_placedWrite (s : State) (l : Layout) (off : Nat) (w : RegWr) :
    fixedOf (placedWrite s l off w) = some (fixed s) := by
  unfold placedWrite
  split
  · exact congrArg some (fixed_devWrite ..)
  · exact fixedOf_if (fixed_queueWrite ..) (fixedOf_if (fixed_cqWrite ..)
        (fixedOf_if rfl (fixedOf_if (congrArg some (fixed_checked (h := rfl) ..))
        (fixedOf_if (fixed_pageWrite ..) (congrArg some (fixed_checked (h := rfl) ..))))))

@[simp] theorem fixed_execRegisterWrite (w : RegWrite) (s : State) : fixedOf (execRegisterWrite w s) = some (fixed s) := by
  unfold execRegisterWrite
  refine fixedOf_if rfl ?_
  refine fixedOf_if (congrArg some (fixed_checked (h := rfl) ..)) ?_
  refine fixedOf_if (congrArg some (fixed_fixedWrite ..)) ?_
  split
  · exact fixed_placedWrite ..
  · rfl

@[simp] theorem fixed_execVpWerrClear (w : RegWr) (s : State) : fixedOf (execVpWerrClear w s) = some (fixed s) := by
  unfold execVpWerrClear
  exact fixedOf_if rfl (congrArg some (fixed_checked (h := (fixed_if rfl rfl)) ..))

/-! ### Resets -/

theorem fixed_cutSlotWrite (s : State) : fixed (cutSlotWrite s) = fixed s := by
  unfold cutSlotWrite
  split
  · rfl
  · dsimp only
    split
    · rfl
    · exact fixed_putSlot ..

theorem fixed_coldState (s : State) : fixed (coldState s) = fixed s := rfl

@[simp] theorem fixed_execColdRstNFall (s : State) : fixedOf (execColdRstNFall s) = some (fixed s) := by
  unfold execColdRstNFall
  exact congrArg some ((fixed_coldState ..).trans (fixed_cutSlotWrite ..))

@[simp] theorem fixed_execColdRstNRise (straps : Straps) (s : State) :
    fixedOf (execColdRstNRise straps s) = some (fixed s) := by
  unfold execColdRstNRise
  exact fixedOf_if rfl (congrArg some (fixed_if rfl (fixed_startCands ..)))

theorem fixed_warmState (s : State) : fixed (warmState s) = fixed s := rfl

@[simp] theorem fixed_execWarmRstNFall (lowNs : Nat) (s : State) : fixedOf (execWarmRstNFall lowNs s) = some (fixed s) := by
  unfold execWarmRstNFall
  exact fixedOf_if rfl (fixedOf_if rfl (congrArg some ((fixed_warmState ..).trans (fixed_cutSlotWrite ..))))

@[simp] theorem fixed_execWarmRstNRise (s : State) : fixedOf (execWarmRstNRise s) = some (fixed s) := rfl

theorem fixed_wakeAll (s : State) (r : BootRec) (a : Asleep) : fixed (wakeAll s r a) = fixed s := by
  unfold wakeAll
  dsimp only
  split
  · rfl
  · refine fixed_if ?_ rfl
    simp only [fixed_mk, fixed_eta]
    exact fixed_putReg ..

theorem fixed_reloadCbs (s : State) : fixed (reloadCbs s) = fixed s := by
  simp only [reloadCbs, fixed_mk, fixed_eta, fixed_ite, ite_self, fixed_foldl, implies_true, fixed_logEv]

theorem fixed_resumeTeardown (s : State) (r : BootRec) : fixed (resumeTeardown s r) = fixed s := by
  unfold resumeTeardown
  exact fixed_if rfl ((fixed_teardownStep ..).trans ((fixed_teardownStep ..).trans
      ((fixed_teardownStep ..).trans ((fixed_teardownStep ..).trans ((fixed_teardownStep ..).trans
      ((fixed_teardownStep ..).trans ((fixed_teardownStep ..).trans ((fixed_teardownStep ..).trans
      ((fixed_teardownStep ..).trans (fixed_teardownStep ..))))))))))

theorem fixed_resumeDestroys (s : State) : fixed (resumeDestroys s) = fixed s := by
  unfold resumeDestroys
  refine fixed_foldl (fun s p => ?_) _ _
  split
  · exact (fixed_forceRest ..).trans (fixed_forceStart ..)
  · rfl

theorem fixed_resumeQp (s : State) (n : Nat) (p : Qp) : fixed (resumeQp s n p) = fixed s := by
  unfold resumeQp
  exact fixed_if rfl (fixed_if ((fixed_qpError ..).trans (fixed_logCorrupt ..))
      (fixed_if ((fixed_startResync ..).trans (fixed_replayJour ..)) (fixed_replayJour ..)))

theorem fixed_resumeQps (s : State) : fixed (resumeQps s) = fixed s := by
  unfold resumeQps
  exact fixed_foldl (fun s p => fixed_resumeQp ..) _ _

theorem fixed_replayColl (s : State) (n : Nat) (g : Group) : fixed (replayColl s n g) = fixed s := by
  unfold replayColl
  split
  · rfl
  · split
    · exact (fixed_runnelStep ..).trans (fixed_sendContrib ..)
    · rfl

theorem fixed_resumeRunnel (s : State) : fixed (resumeRunnel s) = fixed s := by
  unfold resumeRunnel
  refine (fixed_foldl (fun s p => ?_) _ _).trans ?_
  · exact fixed_replayColl ..
  · exact fixed_foldl (fun s p => fixed_rnRestart ..) _ _

theorem fixed_resumed (s : State) (r : BootRec) (a : Asleep) : fixed (resumed s r a) = fixed s := by
  unfold resumed
  exact (fixed_resumeRunnel ..).trans ((fixed_resumeQps ..).trans ((fixed_resumeDestroys ..).trans
      ((fixed_resumeTeardown ..).trans ((fixed_reloadCbs ..).trans (fixed_wakeAll ..)))))

theorem fixed_resumeLost (s : State) : fixed (resumeLost s) = fixed s := by
  unfold resumeLost
  exact (fixed_startCands ..).trans ((fixed_discardAll ..).trans ((fixed_discardAll ..).trans (fixed_logEv ..)))

@[simp] theorem fixed_execWarmResume (stacksOk : Bool) (s : State) : fixedOf (execWarmResume stacksOk s) = some (fixed s) := by
  unfold execWarmResume
  refine fixedOf_if rfl ?_
  split
  · exact fixedOf_if (congrArg some (fixed_resumed ..)) (congrArg some (fixed_resumeLost ..))
  · exact congrArg some (fixed_resumeLost ..)

/-! ### Self-tests -/

@[simp] theorem fixed_execSelftestStart (w : RegWr) (s : State) : fixedOf (execSelftestStart w s) = some (fixed s) := by
  unfold execSelftestStart
  exact fixedOf_if rfl (congrArg some (fixed_checked (h := (fixed_if rfl rfl)) ..))

theorem fixed_stFail (s : State) (target unit : Nat) : fixed (stFail s target unit) = fixed s := by
  unfold stFail
  dsimp only
  split
  · exact (fixed_openOwnWin ..).trans ((fixed_logEv ..).trans (fixed_portDown ..))
  · split
    · exact (fixed_openOwnWin ..).trans ((fixed_logEv ..).trans (fixed_portDown ..))
    · split
      · split
        · exact fixed_of_next (fixed_execCoreLost ..) ‹_›
        · rfl
      · split
        · refine fixed_foldl (fun s p => ?_) _ _
          split
          · exact fixed_logEv ..
          · rfl
        · rfl

@[simp] theorem fixed_execSelftestDone (failed : Option Nat) (s : State) :
    fixedOf (execSelftestDone failed s) = some (fixed s) := by
  unfold execSelftestDone
  extract_lets t d u v w x
  have hv : fixed v = fixed s := fixed_if (fixed_stFail ..) rfl
  have hw : fixed w = fixed s := (fixed_logSev ..).trans hv
  have hx : fixed x = fixed s :=
    fixed_if ((fixed_rnRelease ..).trans hw) (fixed_if ((fixed_rxRelease ..).trans hw) hw)
  exact fixedOf_if rfl (congrArg some ((fixed_raise ..).trans hx))

/-! ### Weir -/

@[simp] theorem fixed_execWeirIntervalEnd (n : Nat) (s : State) : fixedOf (execWeirIntervalEnd n s) = some (fixed s) := by
  unfold execWeirIntervalEnd
  split
  · rfl
  · split
    · rfl
    · refine fixedOf_if rfl ?_
      refine fixed_onBlk (hk := fun u => ?_) ..
      dsimp only
      exact congrArg some ((fixed_putQp ..).trans (fixed_if (fixed_accUp ..) (fixed_advanceTo ..)))

@[simp] theorem fixed_execRateIdleReset (n : Nat) (s : State) : fixedOf (execRateIdleReset n s) = some (fixed s) := by
  unfold execRateIdleReset
  split
  · rfl
  · exact fixedOf_if rfl (fixed_onBlk (hk := fun u => congrArg some (fixed_putQp ..)) ..)

@[simp] theorem fixed_execWrSnapGo (w : RegWr) (s : State) : fixedOf (execWrSnapGo w s) = some (fixed s) := by
  unfold execWrSnapGo
  exact fixedOf_if rfl (congrArg some (fixed_checked (h := (fixed_if rfl rfl)) ..))

@[simp] theorem fixed_execQdepthMaxRead (l : Nat) (s : State) : fixedOf (execQdepthMaxRead l s) = some (fixed s) := by
  unfold execQdepthMaxRead
  exact fixedOf_if rfl (fixedOf_if (congrArg some (fixed_setRd ..)) (congrArg some (fixed_setRd ..)))

@[simp] theorem fixed_execMapPeriodEnd (s : State) : fixedOf (execMapPeriodEnd s) = some (fixed s) := by
  unfold execMapPeriodEnd
  refine fixedOf_if rfl ?_
  refine fixed_onBlk (hk := fun u => ?_) ..
  refine congrArg some ?_
  refine fixed_if (fixed_placeMap ..) ?_
  split
  · exact fixed_queueReq ..
  · exact fixed_advanceTo ..

@[simp] theorem fixed_execMapSlotExpiry (slot : Nat) (s : State) : fixedOf (execMapSlotExpiry slot s) = some (fixed s) := by
  unfold execMapSlotExpiry
  split
  · rfl
  · refine fixedOf_if rfl ?_
    refine congrArg some ?_
    simp only [fixed_mk, fixed_eta]
    exact fixed_advanceTo ..

@[simp] theorem fixed_execWrQuery (inst : Nat) (w : RegWr) (s : State) : fixedOf (execWrQuery inst w s) = some (fixed s) := by
  unfold execWrQuery
  refine fixedOf_if rfl ?_
  refine fixed_pageCmd (heff := fun u => ?_) ..
  split
  · rfl
  · split
    · exact fixed_putPage ..

/-! ### Idle work -/

theorem fixed_queueWork (s : State) : fixed (queueWork s) = fixed s := by
  unfold queueWork
  exact fixed_foldl (fun s p => (fixed_settle ..).trans ((fixed_fenceStep ..).trans (fixed_pushStep ..))) _ _

theorem fixed_heldWork (s : State) : fixed (heldWork s) = fixed s := by
  unfold heldWork
  exact (fixed_retryCreates ..).trans ((fixed_rnRelease ..).trans ((fixed_reapSpans ..).trans
      ((fixed_cvRetry ..).trans ((fixed_rxRelease ..).trans ((fixed_hdmRetry ..).trans (fixed_queueWork ..))))))

theorem fixed_idleWork (s : State) : fixed (idleWork s) = fixed s := by
  unfold idleWork
  exact (fixed_heldWork ..).trans (fixed_teardownStep ..)

theorem fixed_idle (s : State) : fixed (idle s) = fixed s := by
  unfold idle
  exact fixed_if rfl (fixed_idleWork ..)

/-! ### Every command, and the step -/

/-- Every command keeps the golden bundle, the fuses and the queue it finds: one lemma per command, above. -/
theorem fixed_exec (c : Instr) (s : State) : fixedOf (exec c s) = some (fixed s) := by
  cases c <;> simp

/-- A step keeps the golden bundle and the fuses, and takes the front of the queue before the command runs (log 12). -/
theorem fixed_step {s t : State} (h : step s = .next t) :
    fixed t = (s.flash.golden, s.sys.fuses, s.pending.drop 1) := by
  unfold step at h
  split at h
  · rename_i hp
    injection h with h
    rw [← h, fixed_idle, hp, ← fixed_eta, hp]
    rfl
  · rename_i hp
    rw [fixed_of_next (fixed_exec ..) h, hp]
    rfl

end Sys2Proof.Machine

namespace Sys2Proof
open Sys2Proof.Machine

/-- Settles O6: every command's own lemma `fixed_exec…` says that it keeps the three parts, and the step runs the command on the
queue's rest. -/
theorem everyStepKeepsTheGoldenBundleTheFusesAndTheQueue :
    Obligations.EveryStepKeepsTheGoldenBundleTheFusesAndTheQueue := by
  unfold Obligations.EveryStepKeepsTheGoldenBundleTheFusesAndTheQueue
  intro s t h
  obtain ⟨hg, hf, hq⟩ := Prod.ext_iff.1 (fixed_step h) |>.imp_right Prod.ext_iff.1
  exact ⟨hg, hf, hq⟩

end Sys2Proof
end
section
/-!
PROOFS. The boot from a candidate's bundle to READY (spec file 04, R96 to R109; spec file 05, R120; log 66), and its answer to a
Configuration Request (R98, R144; log 88).
-/
namespace Sys2Proof.Machine

/-! ### Bundles (R102, R104, R105) -/

theorem takeBundle_frame (s : State) (x : SlotId) (lv : Nat) :
    takeBundle s x lv = { s with boot := (takeBundle s x lv).boot, clk := (takeBundle s x lv).clk } := by
  cases x <;> rfl

theorem takeBundle_cands (s : State) (x : SlotId) (lv : Nat) : (takeBundle s x lv).boot.cands = s.boot.cands := by
  cases x <;> rfl

theorem abandon_frame (s : State) (x : SlotId) (st : Byte) : abandon s x st = { s with boot := (abandon s x st).boot } := by
  cases x <;> rfl

theorem abandon_abandoned (s : State) (x : SlotId) (st : Byte) : (abandon s x st).boot.abandoned = s.boot.abandoned + 1 := by
  cases x <;> rfl

theorem abandon_image (s : State) (x : SlotId) (st : Byte) : (abandon s x st).boot.image = s.boot.image := by
  cases x <;> rfl

/-- After a candidate is given up the next one is tried at the stage of its kind, or the device halts (R96, R97). -/
theorem abandon_stage (s : State) (x : SlotId) (st : Byte) :
    (abandon s x st).boot.stage = if s.boot.cands = [] then .halted else if s.boot.stage = .rom then .rom else .firmware := by
  cases x <;> rfl

/-- The bundle of the first candidate is judged: the boot ROM or the firmware stage, no candidate yet taken. -/
structure Verifies (s : State) (x : SlotId) (rest : List (SlotId × Bool)) : Prop where
  awake : Awake s
  normal : s.sys.straps.test = false
  cold : s.boot.warmBoot = false
  free : s.boot.cur = none
  stage : s.boot.stage = .rom ∨ s.boot.stage = .firmware
  cands : s.boot.cands = (x, false) :: rest

theorem Verifies.open_ {s : State} {x : SlotId} {rest : List (SlotId × Bool)} (h : Verifies s x rest) :
    ¬(s.sys.coldLow = true ∨ s.sys.warmLow = true ∨ s.sys.straps.test = true ∨ s.boot.warmBoot = true ∨ s.boot.cur ≠ none
      ∨ (s.boot.stage ≠ .rom ∧ s.boot.stage ≠ .firmware)) := by
  have stage := h.stage
  simp only [h.awake.1, h.awake.2, h.normal, h.cold, h.free]
  tauto

theorem exec_bundleVerify_good {s : State} {x : SlotId} {rest : List (SlotId × Bool)} {lv : Nat} (h : Verifies s x rest)
    (ok : bundleStatus s.sys.fuses.siliconRev (slotOf s.flash x) = Status.ok)
    (level : bundleLevel s.sys.fuses.siliconRev (slotOf s.flash x) = some lv) :
    exec .bundleVerify s = .next (takeBundle { s with boot.cands := rest } x lv) := by
  simp only [exec_bundleVerify, execBundleVerify]
  rw [if_neg h.open_, h.cands]
  simp [level, ok]

theorem exec_bundleVerify_bad {s : State} {x : SlotId} {rest : List (SlotId × Bool)} (h : Verifies s x rest)
    (bad : bundleStatus s.sys.fuses.siliconRev (slotOf s.flash x) ≠ Status.ok) :
    exec .bundleVerify s = .next (abandon { s with boot.cands := rest } x (bundleStatus s.sys.fuses.siliconRev (slotOf s.flash x))) := by
  simp only [exec_bundleVerify, execBundleVerify]
  rw [if_neg h.open_, h.cands]
  cases level : bundleLevel s.sys.fuses.siliconRev (slotOf s.flash x) with
  | none => simp [level]
  | some lv => simp [level, bad]

/-! ### Tender's firmware and the image (R97, R106, R108) -/

theorem exec_firmwareRunning_cold {s : State} {x : SlotId} (awake : Awake s) (stage : s.boot.stage = .firmware)
    (cur : s.boot.cur = some x) (kept : s.boot.resumeLost = false) :
    exec .firmwareRunning s = .next { sendV s s.sys.fuses.vnomMv with
      lv := { (sendV s s.sys.fuses.vnomMv).lv with vnow := s.sys.fuses.vnomMv, ready := true },
      boot.stage := if s.sys.straps.boot = 2 then .hold else .image } := by
  simp only [exec_firmwareRunning, execFirmwareRunning]
  rw [if_neg (by simp [awake.1, awake.2, stage, cur]), kept]
  rfl

/-- The image of the present candidate, a slot's own, is judged. -/
structure Judges (s : State) (x : SlotId) : Prop where
  awake : Awake s
  stage : s.boot.stage = .image
  cur : s.boot.cur = some x
  slot : x ≠ .golden
  fresh : s.boot.accepted = none

theorem chooseImage_slot {s : State} {x : SlotId} (slot : x ≠ .golden) :
    chooseImage s x = (bundleImage (slotOf s.flash x), .slot x) := by
  cases x with
  | golden => exact absurd rfl slot
  | a => rfl
  | b => rfl

theorem exec_imageVerify_slot {s : State} {x : SlotId} (h : Judges s x) : exec .imageVerify s = .next (judgeImage s x) := by
  have own : bootFallback s = s := if_neg fun ⟨golden, _⟩ => h.slot (by simpa [h.cur] using golden)
  simp only [exec_imageVerify, execImageVerify, h.cur]
  rw [if_neg (by simp [h.awake.1, h.awake.2, h.stage, h.fresh]), own]

theorem judgeImage_slot_good {s : State} {x : SlotId} (slot : x ≠ .golden)
    (ok : imageFor s s.boot.runLevel (bundleImage (slotOf s.flash x)) = Status.ok) :
    judgeImage s x = { s with
      boot.accepted := some (parseImage (imageBytes (bundleImage (slotOf s.flash x))), imageDigest (bundleImage (slotOf s.flash x))),
      boot.src := .slot x, boot.stage := if s.boot.trained then .apply else .image } := by
  simp only [judgeImage, chooseImage_slot slot]
  rw [if_neg (not_not_intro ok)]

theorem judgeImage_slot_bad {s : State} {x : SlotId} (slot : x ≠ .golden)
    (bad : imageFor s s.boot.runLevel (bundleImage (slotOf s.flash x)) ≠ Status.ok) :
    judgeImage s x = abandon s x (imageFor s s.boot.runLevel (bundleImage (slotOf s.flash x))) := by
  simp only [judgeImage, chooseImage_slot slot]
  rw [if_pos bad]

/-! ### Training (R97) -/

/-- Events staged one after the other change the log alone. -/
theorem foldl_logEv_frame {α : Type} {f : α → State → State} (h : ∀ x s, f x s = { s with log := (f x s).log }) (l : List α)
    (s : State) : l.foldl (fun s x => f x s) s = { s with log := (l.foldl (fun s x => f x s) s).log } := by
  induction l generalizing s with
  | nil => rfl
  | cons x l ih =>
    rw [List.foldl_cons, ih, h x s]

theorem trainStacks_frame (s : State) (failed : BitVec 8) :
    trainStacks s failed = { s with
      boot := { s.boot with trained := true, hbmFail := failed, hbmInService := ~~~failed },
      clk := { s.clk with hbmLock := ~~~failed }, log := (trainStacks s failed).log } :=
  foldl_logEv_frame (fun _ _ => logEv_frame ..) ..

theorem exec_hbmTrained_noImage {s : State} {failed : BitVec 8} (awake : Awake s) (first : s.boot.trained = false)
    (stage : s.boot.stage = .firmware ∨ s.boot.stage = .image) (fresh : s.boot.accepted = none) :
    exec (.hbmTrained failed) s = .next (trainStacks s failed) := by
  simp only [exec_hbmTrained, execHbmTrained]
  rw [if_neg (by simp only [awake.1, awake.2, first]; tauto), fresh]
  cases s.boot.cur with
  | none => rfl
  | some x => rfl

/-! ### The structure applied (R109) and the table built (R120) -/

theorem exec_structureApplied_accepted {s : State} {i : Image} {d : Bytes} (awake : Awake s) (acc : s.boot.accepted = some (i, d))
    (stage : s.boot.stage = .apply ∨ s.boot.stage = .loading) :
    exec .structureApplied s = .next { applyImage s i d with boot.stage := .vapen } := by
  simp only [exec_structureApplied, execStructureApplied, acc]
  rw [if_neg (by simp only [awake.1, awake.2]; tauto)]

/-- The device with the table of an image's layout written. -/
def tabled (s : State) (i : Image) (lay : Layout) : State :=
  { s with vp.layout := some lay, vp.gen := s.vp.gen + 1, vp.table := tableBytes s i lay (s.vp.gen + 1), mgr.loadAt := s.sys.now }

theorem exec_vapenBuilt_fits {s : State} {i : Image} {lay : Layout} (awake : Awake s) (img : s.boot.image = some i)
    (stage : s.boot.stage = .vapen) (fits : layoutOk i lay = true) :
    exec (.vapenBuilt lay) s = .next (enterReady (logEv (featTender (tabled s i lay)) 0x0004 Status.ok 0x0E 0
      (putLE 8 i.imageId ++ putLE 4 (s.vp.gen + 1)))) := by
  simp only [exec_vapenBuilt, execVapenBuilt, img]
  rw [if_neg (by simp [awake.1, awake.2, stage, fits])]
  rfl

theorem enterReady_quiet {s : State} (noLoad : mbxIs s 0x23 = none) :
    enterReady s = { s with boot.stage := .ready, boot.bootRec := some (bootRecOf s), vp.tvalid := true } := by
  have : mbxIs { s with boot.stage := .ready, boot.bootRec := some (bootRecOf s), vp.tvalid := true } 0x23 = none := noLoad
  simp only [enterReady, this]

/-- In H-mode Tender commits the offer made consistent (R114); in the other modes it does nothing. -/
theorem featTender_cases (s : State) : ∃ f, featTender s = { s with feat := f } ∧ f.offer = s.feat.offer ∧
    (modeOf s = .h → f.committed = true) ∧ (modeOf s ≠ .h → f = s.feat) := by
  by_cases mode : modeOf s = .h
  · rw [featTender, if_neg (not_not_intro mode)]
    exact ⟨_, rfl, rfl, fun _ => rfl, fun other => absurd mode other⟩
  · rw [featTender, if_pos mode]
    exact ⟨_, rfl, rfl, fun hosted => absurd hosted mode, fun _ => rfl⟩

/-! ### A Configuration Request (R98, R144) -/

theorem exec_configurationRequest_d {s : State} (up : s.sys.coldLow = false) (variant : s.sys.fuses.variant = .d)
    (normal : s.sys.straps.test = false) :
    exec .configurationRequest s = .next (emit s (.config (configRetry s || s.pt.st = .teardown))) := by
  simp only [exec_configurationRequest, execConfigurationRequest]
  rw [if_neg (by simp [up, variant, normal])]

theorem exec_configurationRequest_none {s : State} (h : s.sys.fuses.variant = .p ∨ s.sys.straps.test = true) :
    exec .configurationRequest s = .next s := by
  simp only [exec_configurationRequest, execConfigurationRequest]
  rw [if_pos]
  cases h with
  | inl variant => simp [variant]
  | inr test => simp [test]

end Sys2Proof.Machine

namespace Sys2Proof
open Sys2Proof.Machine

/-- Settles O7, one case per clause. A bundle or an image is taken (`takeBundle`, `judgeImage`) or given up (`abandon`); the other
stages each have one outcome. -/
theorem bootWalksItsStages : Obligations.BootWalksItsStages := by
  unfold Obligations.BootWalksItsStages
  refine ⟨?bundleGood, ?bundleBad, ?firmware, ?imageGood, ?imageBad, ?trained, ?applied, ?built, ?config, ?configNone⟩
  case bundleGood =>
    intro s x lv rest awake normal cold free stage cands ok level
    exact .of _ (exec_bundleVerify_good ⟨awake, normal, cold, free, stage, cands⟩ ok level)
      ⟨rfl, rfl, rfl, rfl, takeBundle_cands .., takeBundle_frame ..⟩
  case bundleBad =>
    intro s x rest awake normal cold free stage cands bad
    refine .of _ (exec_bundleVerify_bad ⟨awake, normal, cold, free, stage, cands⟩ bad)
      ⟨?_, abandon_abandoned .., abandon_image .., abandon_frame ..⟩
    rw [abandon_stage]
    rcases stage with rom | firmware
    · simp [rom]
    · simp [firmware]
  case firmware =>
    intro s x awake stage cur kept
    exact .of _ (exec_firmwareRunning_cold awake stage cur kept) ⟨rfl, rfl, rfl, rfl⟩
  case imageGood =>
    intro s x awake stage cur slot fresh ok
    refine .of _ (exec_imageVerify_slot ⟨awake, stage, cur, slot, fresh⟩) ?_
    rw [judgeImage_slot_good slot ok]
    exact ⟨rfl, rfl, rfl⟩
  case imageBad =>
    intro s x awake stage cur slot fresh bad
    refine .of _ (exec_imageVerify_slot ⟨awake, stage, cur, slot, fresh⟩) ?_
    rw [judgeImage_slot_bad slot bad, abandon_stage, stage]
    exact ⟨abandon_image .., rfl, rfl, rfl, abandon_frame ..⟩
  case trained =>
    intro s failed awake first stage fresh
    refine .of _ (exec_hbmTrained_noImage awake first stage fresh) ?_
    rw [trainStacks_frame]
    exact ⟨rfl, rfl, rfl, rfl, rfl⟩
  case applied =>
    intro s i d awake acc stage
    refine .of _ (exec_structureApplied_accepted awake acc stage) ?_
    have reset : State.reset.feat.committed = false ∧ State.reset.basin.role = .unjoined ∧ State.reset.hbm = [] ∧
        State.reset.spans = [] ∧ State.reset.keys = [] ∧ State.reset.qps = [] := ⟨rfl, rfl, rfl, rfl, rfl, rfl⟩
    by_cases manager : i.roleCap = 2
    · simp [applyImage, discardAll, manager, reset]
    · simp [applyImage, discardAll, manager, reset]
  case built =>
    intro s i lay awake img stage fits noLoad
    refine .of _ (exec_vapenBuilt_fits awake img stage fits) ?_
    obtain ⟨f, eq, offer, hosted, other⟩ := featTender_cases (tabled s i lay)
    rw [eq, enterReady_quiet (by rw [mbxIs, logEv_mbx]; exact noLoad), logEv_frame]
    exact ⟨rfl, rfl, rfl, rfl, rfl, offer, hosted, other, rfl⟩
  case config =>
    intro s up variant normal
    exact .of _ (exec_configurationRequest_d up variant normal) rfl
  case configNone =>
    intro s h
    exact .of _ (exec_configurationRequest_none h) rfl

end Sys2Proof
end
section
/-!
PROOFS. The loader's mailbox commands and feature negotiation (spec file 04, R103, R104, R110; spec file 05, R113 to R116; logs 16, 42,
43, 47, 90 and 91).
-/
namespace Sys2Proof.Machine

/-! ### Directory records (R100) -/

theorem dirBest_valid {l : List Bytes} {b : Bytes} (h : dirBest l = some b) : dirValid b = true := by
  induction l generalizing b with
  | nil => simp [dirBest] at h
  | cons x l ih =>
    unfold dirBest at h
    cases best : dirBest l with
    | none =>
      rw [best] at h
      simp only [Option.ite_none_right_eq_some, Option.some.injEq] at h
      exact h.2 ▸ h.1
    | some y =>
      simp only [best] at h
      split at h
      · rename_i newer
        exact Option.some.inj h ▸ (Bool.and_eq_true_iff.1 newer).1
      · exact Option.some.inj h ▸ ih best

/-- The directory record in force has its 64 bytes. -/
theorem dirStored_length (f : Flash) : ((dirStored f).getD (zeros 64)).length = 64 := by
  cases h : dirStored f with
  | none => rfl
  | some b =>
    have valid := dirBest_valid h
    simp only [dirValid, decide_eq_true_eq] at valid
    exact valid.1

/-! ### SLOT_WRITE (R103, R115) -/

theorem putSlot_frame (s : State) (n : Nat) (b : Bytes) : putSlot s n b = { s with flash := (putSlot s n b).flash } := by
  rw [putSlot]
  split
  · rfl
  · rfl

theorem countUp_eq (s : State) (n : Nat) : ∃ r, countUp s n = dirAppend s r := ⟨_, rfl⟩

theorem exec_slotWrite_ok {s : State} {r : MbxReq} (run : mbxIs s 0x20 = some r) (fields : slotFields r.params = true)
    (pass : slotWriteFail s r (slotSource s (getLE r.params 1 1) (getLE r.params 8 8) (getLE r.params 4 4)) = none) :
    ∃ d u, exec (.slotWrite true) s = .next (mbxDone (putSlot (dirAppend s u) (getLE r.params 0 1)
      (slotSource s (getLE r.params 1 1) (getLE r.params 8 8) (getLE r.params 4 4))) Status.ok d) := by
  obtain ⟨u, counted⟩ := countUp_eq s (getLE r.params 0 1)
  refine ⟨putLE 4 (slotCount (dirAppend s u).flash (getLE r.params 0 1)) ++ zeros 4, u, ?_⟩
  simp only [exec_slotWrite, execSlotWrite, run, fields, if_true, pass, counted]

theorem exec_slotWrite_fails {s : State} {r : MbxReq} {st : Byte} (ok : Bool) (run : mbxIs s 0x20 = some r)
    (fields : slotFields r.params = true)
    (fails : slotWriteFail s r (slotSource s (getLE r.params 1 1) (getLE r.params 8 8) (getLE r.params 4 4)) = some st) :
    exec (.slotWrite ok) s = .next (mbxDone s st []) := by
  simp only [exec_slotWrite, execSlotWrite, run, fields, if_true, fails]

/-! ### SLOT_SELECT and SLOT_QUERY (R104, R115, R116) -/

/-- A SLOT_SELECT of a kind runs, with its fields in their ranges. -/
structure Selects (s : State) (r : MbxReq) (try_ : Bool) : Prop where
  run : mbxIs s 0x21 = some r
  slot : getLE r.params 0 1 ≤ 1
  kind : getLE r.params 1 1 = bit try_
  rsv : zeroIn r.params 2 2 = true

theorem slotSelect_ok {s : State} {r : MbxReq} {try_ : Bool} {f : Nat → DirRec → DirRec} (h : Selects s r try_)
    (ok : bundleStatus s.sys.fuses.siliconRev (slotOf s.flash (slotNum (getLE r.params 0 1))) = Status.ok) :
    slotSelect s try_ f = .next (mbxDone (dirAppend s (f (getLE r.params 0 1) (dirNow s.flash))) Status.ok []) := by
  cases try_ <;> simp [slotSelect, h.run, h.kind, h.slot, h.rsv, ok, bit]

theorem slotSelect_bad {s : State} {r : MbxReq} {try_ : Bool} {f : Nat → DirRec → DirRec} (h : Selects s r try_)
    (bad : bundleStatus s.sys.fuses.siliconRev (slotOf s.flash (slotNum (getLE r.params 0 1))) ≠ Status.ok) :
    slotSelect s try_ f = .next (mbxDone s Status.notPermitted []) := by
  cases try_ <;> simp [slotSelect, h.run, h.kind, h.slot, h.rsv, bad, bit]

theorem exec_slotSelectActive_eq (s : State) : exec .slotSelectActive s = slotSelect s false fun n r => { r with active := n } := rfl

theorem exec_slotSelectTry_eq (s : State) : exec .slotSelectTry s = slotSelect s true fun n r => { r with try_ := n + 1 } := rfl

theorem exec_slotQuery_running {s : State} {r : MbxReq} (run : mbxIs s 0x22 = some r) :
    exec .slotQuery s = .next (mbxDone s Status.ok ((dirStored s.flash).getD (zeros 64)
      ++ slotDesc s s.flash.a (slotImage s.flash.a) (dirNow s.flash).countA
      ++ slotDesc s s.flash.b (slotImage s.flash.b) (dirNow s.flash).countB ++ slotDesc s s.flash.golden (builtinFor s) 0)) := by
  simp only [exec_slotQuery, execSlotQuery, run]

/-! ### IMAGE_LOAD and STAGE_WRITE (R110, R115) -/

/-- An IMAGE_LOAD runs once the stacks have trained, with its fields in their ranges. -/
structure Loads (s : State) (r : MbxReq) : Prop where
  run : mbxIs s 0x23 = some r
  trained : s.boot.trained = true
  stage : s.boot.stage = .ready ∨ s.boot.stage = .hold
  src : getLE r.params 0 1 ≤ 3
  rsv : zeroIn r.params 1 3 = true

theorem Loads.open_ {s : State} {r : MbxReq} (h : Loads s r) :
    ¬((!s.boot.trained) = true ∨ s.boot.stage = .loading ∨ s.boot.stage = .vapen) := by
  rcases h.stage with ready | hold
  · simp [h.trained, ready]
  · simp [h.trained, hold]

theorem exec_imageLoad_ok {s : State} {r : MbxReq} (h : Loads s r) (role : s.basin.role = .unjoined)
    (insts : s.insts = [(0, inst0)])
    (fits : imageStatus s.sys.fuses.variant s.sys.straps.pen s.boot.runLevel (some (s.boot.hbmInService &&& ~~~s.stacksLost))
      (loadSource s (getLE r.params 0 1)) = Status.ok) :
    exec .imageLoad s = .next { s with
      boot.stage := .loading, boot.bootRec := none, vp.tvalid := false, boot.hbmInService := s.boot.hbmInService &&& ~~~s.stacksLost,
      boot.accepted := some (parseImage (imageBytes (loadSource s (getLE r.params 0 1))),
        imageDigest (loadSource s (getLE r.params 0 1))) } := by
  simp only [exec_imageLoad, execImageLoad, h.run]
  rw [if_neg h.open_]
  simp [h.src, h.rsv, h.stage, role, insts, fits]

theorem exec_imageLoad_busy {s : State} {r : MbxReq} (h : Loads s r) (busy : s.basin.role ≠ .unjoined ∨ ∃ p ∈ s.insts, p.1 ≠ 0) :
    exec .imageLoad s = .next (mbxDone s Status.busy []) := by
  have idle : ¬((s.boot.stage = .ready ∨ s.boot.stage = .hold) ∧ s.insts.all (fun x => x.1 = 0) = true ∧
      s.basin.role = .unjoined) := by
    rintro ⟨-, insts, role⟩
    rcases busy with other | ⟨p, mem, id⟩
    · exact other role
    · exact id (by simpa using List.all_eq_true.1 insts p mem)
  simp only [exec_imageLoad, execImageLoad, h.run]
  rw [if_neg h.open_]
  simp only [decide_eq_true (And.intro h.src h.rsv), decide_eq_false idle, firstFail_true, firstFail_false]

theorem exec_stageWrite_ok {s : State} {r : MbxReq} (run : mbxIs s 0x24 = some r) (line : getLE r.params 0 4 % 1024 = 0)
    (inside : getLE r.params 0 4 < slotSize) (rsv : zeroIn r.params 4 4 = true) :
    exec .stageWrite s = .next (mbxDone
      { s with boot.staged := Mem.write s.boot.staged (getLE r.params 0 4) (slice r.params 8 1024) } Status.ok []) := by
  simp only [exec_stageWrite, execStageWrite, run]
  simp [line, inside, rsv]

/-! ### Features (R113, R114) -/

/-- A write of VP_FEATCTRL that asks for one of its two commands, bit `n`, and passes the checks. -/
structure FeatAsks (s : State) (w : RegWr) (n : Nat) : Prop where
  live : fixedLive s = true
  taken : Taken s w
  rsv : noRsv w 0xFFFFFFFC = true
  asked : bitN w.data.toNat n = true
  alone : bitN w.data.toNat (1 - n) = false

theorem featCtrl_asked {s : State} {w : RegWr} {n : Nat} (le : n ≤ 1) (h : FeatAsks s w n) (eff : State) :
    featCtrl s w eff = .next eff := by
  have one : fld w.data.toNat 1 0 ≠ 3 := by
    have asked := h.asked
    have alone := h.alone
    simp only [bitN, decide_eq_true_eq, decide_eq_false_iff_not] at asked alone
    simp only [fld]
    interval_cases n <;> omega
  rw [featCtrl, if_neg (by simp [h.live]), checked_ok h.taken (by rw [h.rsv]; simp [one])]

theorem exec_featCommit_asked {s : State} {w : RegWr} (h : FeatAsks s w 0) :
    exec (.featCommit w) s = .next (recordFeat (featCommit s)) := by
  have commit := h.asked
  have alone : bitN w.data.toNat 1 = false := h.alone
  simp only [exec_featCommit, execFeatCommit]
  rw [if_neg (by simp [commit]), featCtrl_asked (Nat.zero_le 1) h, if_pos commit]

theorem exec_featUncommit_asked {s : State} {w : RegWr} (h : FeatAsks s w 1) :
    exec (.featUncommit w) s = .next (recordFeat (if anyPartnerInst s then { s with feat.status := Status.busy }
      else { s with feat := { s.feat with committed := false, subset := 0, status := Status.ok } })) := by
  simp only [exec_featUncommit, execFeatUncommit]
  rw [if_neg (by simp [h.asked]), featCtrl_asked le_rfl h]

theorem anyPartnerInst_iff (s : State) : anyPartnerInst s = true ↔ ∃ p ∈ s.insts, p.2.cls = .partner := by
  simp [anyPartnerInst]

end Sys2Proof.Machine

namespace Sys2Proof
open Sys2Proof.Machine

/-- Settles O9, one case per clause. A command completes by one `mbxDone`; a feature command is `featCommit` or its undoing, then
`recordFeat`. -/
theorem loaderAndFeatureCommandsActAsStated : Obligations.LoaderAndFeatureCommandsActAsStated := by
  unfold Obligations.LoaderAndFeatureCommandsActAsStated
  refine ⟨?slotWrite, ?slotWriteFails, ?selectActive, ?selectTry, ?selectBad, ?slotQuery, ?imageLoad, ?imageLoadBusy, ?stageWrite,
    ?commit, ?commitConflict, ?uncommit, ?uncommitBusy⟩
  case slotWrite =>
    intro s r b run fields slot pass
    obtain ⟨d, u, eq⟩ := exec_slotWrite_ok run fields pass
    refine .of _ eq ?_
    rw [mbxDone_flash, mbxDone_running, mbxDone_frame, putSlot_frame]
    cases b with
    | false => simp [putSlot, slot, dirAppend]
    | true => simp [putSlot, slot, dirAppend]
  case slotWriteFails =>
    intro s r st ok run fields fails
    exact .of _ (exec_slotWrite_fails ok run fields fails) ⟨mbxDone_flash .., rfl⟩
  case selectActive =>
    intro s r run slot kind rsv ok
    exact .of _ ((exec_slotSelectActive_eq s).trans (slotSelect_ok ⟨run, slot, kind, rsv⟩ ok)) rfl
  case selectTry =>
    intro s r run slot kind rsv ok
    exact .of _ ((exec_slotSelectTry_eq s).trans (slotSelect_ok ⟨run, slot, kind, rsv⟩ ok)) rfl
  case selectBad =>
    intro s r run slot kind rsv bad
    exact .of _ ((exec_slotSelectActive_eq s).trans (slotSelect_bad ⟨run, slot, kind, rsv⟩ bad)) ⟨mbxDone_flash .., rfl⟩
  case slotQuery =>
    intro s r run
    refine .of _ (exec_slotQuery_running run) ⟨mbxDone_flash .., _, rfl, ?_⟩
    rw [List.append_assoc, List.append_assoc, List.take_append_of_le_length (dirStored_length _).ge]
  case imageLoad =>
    intro s r run trained stage role insts src rsv fits
    exact .of _ (exec_imageLoad_ok ⟨run, trained, stage, src, rsv⟩ role insts fits) ⟨rfl, rfl, rfl, rfl, rfl⟩
  case imageLoadBusy =>
    intro s r run trained ready src rsv busy
    exact .of _ (exec_imageLoad_busy ⟨run, trained, .inl ready, src, rsv⟩ busy) rfl
  case stageWrite =>
    intro s r run line inside rsv
    refine .of _ (exec_stageWrite_ok run line inside rsv) ⟨?_, mbxDone_running .., ?_⟩
    · rw [mbxDone_boot]
    · rw [mbxDone_frame]
  case commit =>
    intro s w live taken rsv commit alone fits
    refine .of _ (exec_featCommit_asked ⟨live, taken, rsv, commit, alone⟩) ?_
    rw [featCommit, fits]
    exact ⟨rfl, rfl, rfl, rfl, rfl⟩
  case commitConflict =>
    intro s w n live taken rsv commit alone conflict
    refine .of _ (exec_featCommit_asked ⟨live, taken, rsv, commit, alone⟩) ?_
    rw [featCommit, conflict]
    exact ⟨rfl, rfl, rfl, rfl, rfl, rfl⟩
  case uncommit =>
    intro s w live taken rsv uncommit alone none
    refine .of _ (exec_featUncommit_asked ⟨live, taken, rsv, uncommit, alone⟩) ?_
    rw [if_neg fun any => let ⟨p, mem, partner⟩ := (anyPartnerInst_iff s).1 any; none p mem partner]
    exact ⟨rfl, rfl, rfl, rfl⟩
  case uncommitBusy =>
    intro s w live taken rsv uncommit alone any
    refine .of _ (exec_featUncommit_asked ⟨live, taken, rsv, uncommit, alone⟩) ?_
    rw [if_pos ((anyPartnerInst_iff s).2 any)]
    exact ⟨rfl, rfl, rfl, rfl⟩

end Sys2Proof
end
section
/-!
PROOFS. Writes and reads of registers (spec file 05, R118, R120, R127, R128; logs 60, 61, 62 and 120).
-/
namespace Sys2Proof.Machine

/-! ### Rejected writes (R127, R128) -/

/-- VP_WERR, free, captures all of a rejected write, and the write raises WERR. -/
theorem reject_captures_all {s : State} (free : s.vp.werrValid = false) (a : Nat) (i : Option Nat) (w : RegWr) (st : Byte) :
    (reject s a i w st).vp = { s.vp with
      werrValid := true, werrStatus := st, werrAddr := BitVec.ofNat 32 a, werrData := w.data, werrInst := i, werrSrc := w.src } ∧
    (reject s a i w st).intr.stat = s.intr.stat ||| 1 := by
  simp [reject, free]

/-- VP_WERR, taken, counts a further rejected write and keeps what it holds. -/
theorem reject_again {s : State} (held : s.vp.werrValid = true) (a : Nat) (i : Option Nat) (w : RegWr) (st : Byte) :
    reject s a i w st = { s with vp := { s.vp with werrMulti := true, werrCount := satInc 16 s.vp.werrCount } } := by
  rw [reject, if_pos held]

/-- A write of less than a word is rejected by the first check. -/
theorem checked_partial {s : State} {a : Nat} {i : Option Nat} {w : RegWr} {cs : List (Bool × Byte)} {e : State}
    (heard : discarded s w.src = false) (part : w.full = false) : checked s a i w cs e = reject s a i w Status.badField := by
  simp [checked, heard, part]

/-! ### REGISTER_WRITE below the placed regions (R97, R117, R118) -/

theorem exec_registerWrite_table {s : State} {w : RegWrite} (live : fixedLive s = true) (low : w.off < 0x10000) :
    exec (.registerWrite w) s = .next (checked s w.off none w.wr [(false, Status.notPermitted)] s) := by
  simp only [exec_registerWrite, execRegisterWrite]
  rw [if_neg (by simp [live]), if_pos low]

theorem exec_registerWrite_fixed {s : State} {w : RegWrite} (live : fixedLive s = true) (low : 0x10000 ≤ w.off)
    (high : w.off < 0x20000) : exec (.registerWrite w) s = .next (fixedWrite s w.off w.wr) := by
  simp only [exec_registerWrite, execRegisterWrite]
  rw [if_neg (by simp [live]), if_neg (Nat.not_lt.2 low), if_pos high]

theorem exec_registerWrite_placed {s : State} {w : RegWrite} {l : Layout} (live : windowLive s = true)
    (up : s.sys.coldLow = false) (high : 0x20000 ≤ w.off) (lay : s.vp.layout = some l) :
    exec (.registerWrite w) s = placedWrite s l w.off w.wr := by
  have fixed : fixedLive s = true := by
    have ready : s.boot.stage = .ready := by simpa [windowLive] using live
    simp [fixedLive, ready, up]
  simp only [exec_registerWrite, execRegisterWrite]
  rw [if_neg (by simp [fixed]), if_neg (by omega), if_neg (by omega), live, lay]

theorem fixedWrite_partial {s : State} {off : Nat} {w : RegWr} (h1 : off ≠ 0x10120) (h2 : off ≠ 0x10200) (h3 : off ≠ 0x10800)
    (heard : discarded s w.src = false) (part : w.full = false) : fixedWrite s off w = reject s off none w Status.badField := by
  unfold fixedWrite
  rw [if_neg (by simp [h1, h2, h3])]
  split
  · exact checked_partial heard part
  · split
    · exact checked_partial heard part
    · split
      · exact checked_partial heard part
      · dsimp only
        split
        · exact checked_partial heard part
        · exact checked_partial heard part

/-! ### VP_FEATACK and the request buffer (R114, R131) -/

theorem fixedWrite_featAck {s : State} {i : Nat} {w : RegWr} (hi : i < 4) (taken : Taken s w) (open_ : s.feat.committed = false)
    (first : i = 0 → noRsv w 0xC0000000 = true) (other : i ≠ 0 → w.data = 0) :
    fixedWrite s (0x10110 + 4 * i) w = featAck s i w.data.toNat := by
  have rsv (r : Word) (h : fixedRsv (0x10110 + 4 * i) = some r) : noRsv w r = true := by
    by_cases zero : i = 0
    · subst zero
      exact Option.some.inj h ▸ first rfl
    · simp [noRsv, other zero]
  obtain ⟨r, mapped⟩ : ∃ r, fixedRsv (0x10110 + 4 * i) = some r := by
    interval_cases i <;> exact ⟨_, rfl⟩
  have idx : (0x10110 + 4 * i - 0x10110) / 4 = i := by omega
  unfold fixedWrite
  rw [if_neg (by omega), if_neg (by omega), if_neg (by omega), mapped]
  simp only [idx]
  rw [if_pos (by omega)]
  exact checked_ok taken (by rw [rsv r mapped, open_]; rfl)

/-- VP_FEATACK_i holds bits 32 i to 32 i + 31 of the acknowledged features, and its write leaves the others. -/
theorem featAck_getLsbD {s : State} {i j : Nat} (hj : j < 128) (v : Word) :
    (featAck s i v.toNat).feat.ack.getLsbD j = if j / 32 = i then v.getLsbD (j % 32) else s.feat.ack.getLsbD j := by
  have mask (k : Nat) : Nat.testBit 0xFFFFFFFF k = decide (k < 32) := Nat.testBit_two_pow_sub_one 32 k
  simp only [featAck, BitVec.getLsbD_or, BitVec.getLsbD_and, BitVec.getLsbD_not, BitVec.getLsbD_ofNat, hj, decide_true,
    Bool.true_and, Nat.testBit_mul_two_pow, mask, BitVec.testBit_toNat]
  by_cases part : j / 32 = i
  · have low : 32 * i ≤ j := by omega
    have bit : j - 32 * i = j % 32 := by omega
    have small : j % 32 < 32 := Nat.mod_lt _ (by decide)
    simp [part, low, bit, small]
  · by_cases low : 32 * i ≤ j
    · have large : 32 ≤ j - 32 * i := by omega
      simp [part, large, Nat.not_lt.2 large]
    · simp [part, low]

theorem fixedWrite_request {s : State} {a : Nat} {w : RegWr} (ha : a < 512) (taken : Taken s w) (idle : s.mbx.st ≠ .busy) :
    fixedWrite s (0x11000 + 4 * a) w = { s with mbx := { s.mbx with req := Mem.write s.mbx.req (4 * a) (putLE 4 w.data.toNat) } } := by
  have idx : 0x11000 + 4 * a - 0x11000 = 4 * a := by omega
  unfold fixedWrite
  rw [if_neg (by omega), if_pos (by omega), idx]
  refine checked_ok taken ?_
  have aligned : (0x11000 + 4 * a) % 4 = 0 := by omega
  simp [aligned, idle]

/-! ### WR_PROF (R127 checks 2, 4 and 5) -/

theorem devWrite_prof {s : State} {o : Nat} {w : RegWr} (low : 0x100 ≤ o) (high : o < 0x170) {rsv : Word}
    (mapped : wrRsv (roleCap s = 2) o = some rsv) :
    devWrite s 3 o w = checked s (regAddr s 3 o) none w
      [(devOwner s w, Status.notPermitted), (true, Status.featureNotNegotiated), (noRsv w rsv, Status.badField),
        (profOk o w.data.toNat, Status.badField), (true, Status.busy), (true, Status.notPermitted)]
      (putReg s 3 o w.data.toNat) := by
  have own : o ≠ 0x200 := by omega
  simp [devWrite, ownRow, devRsv, devOwned, devOk, devQuiet, devState, devEffect, mapped, own, low, high]

theorem devWrite_prof_unmapped {s : State} {o : Nat} {w : RegWr} (low : 0x100 ≤ o) (high : o < 0x170)
    (unmapped : wrRsv (roleCap s = 2) o = none) :
    devWrite s 3 o w = checked s (regAddr s 3 o) none w [(false, Status.badField)] s := by
  have own : o ≠ 0x200 := by omega
  simp [devWrite, ownRow, devRsv, unmapped, own]

theorem getReg_putReg_ne (s : State) {b o b' o' : Nat} (v : Nat) (h : regKey b' o' ≠ regKey b o) :
    getReg (putReg s b o v) b' o' = getReg s b' o' := by
  simp only [getReg, putReg, Tab.getD, Tab.find_put_ne _ _ _ _ h]

/-! ### Staging registers of the pages (R127) -/

theorem pageReg_off {o : Nat} {r : PageReg} (h : pageReg o = some r) : r.off = o := by
  have found {l : List PageReg} (h : l.find? (fun r => r.off = o) = some r) : r.off = o := by
    simpa using List.find?_some h
  simp only [pageReg, Option.or_eq_some_iff] at h
  rcases h with h | ⟨-, h | ⟨-, h | ⟨-, h⟩⟩⟩
  all_goals exact found h

theorem pageWrite_staged {s : State} {i o : Nat} {w : RegWr} {r : PageReg} (noCmd : pageCmds.find? (fun c => c.1 = o) = none)
    (h1 : o ≠ 0x184) (h2 : o ≠ 0x0E0) (reg : pageReg o = some r) (taken : Taken s w) (own : pageOwned s i w.src = true)
    (rsv : noRsv w r.rsv = true) (free : pageBusy s i r.stat = false) :
    pageWrite s i o w = .next (if r.rw = 0 then s else putPage s i o (staged s i r w)) := by
  unfold pageWrite
  simp only [noCmd, if_neg h1, if_neg h2, reg]
  rw [checked_ok taken (by simp [own, rsv, free])]

theorem getPage_putPage_self (s : State) (i o v : Nat) : getPage (putPage s i o v) i o = v % 2 ^ 32 := by
  simp [getPage, putPage, Tab.getD]

theorem bitN_eq_testBit (n b : Nat) : bitN n b = n.testBit b := by
  rw [bitN, Nat.testBit_eq_decide_div_mod_eq]

theorem staged_lt (s : State) (i : Nat) (r : PageReg) (w : RegWr) : staged s i r w < 2 ^ 32 := BitVec.isLt _

/-- A staged write takes the register's RW bits and leaves the others. -/
theorem bitN_staged {s : State} {i : Nat} {r : PageReg} {w : RegWr} {b : Nat} (hb : b < 32) :
    bitN (staged s i r w) b = if r.rw.getLsbD b then w.data.getLsbD b else bitN (getPage s i r.off) b := by
  rw [bitN_eq_testBit, bitN_eq_testBit, staged, BitVec.testBit_toNat]
  simp only [BitVec.getLsbD_or, BitVec.getLsbD_and, BitVec.getLsbD_not, BitVec.getLsbD_ofNat, hb, decide_true, Bool.true_and]
  cases r.rw.getLsbD b <;> simp

/-! ### VP_WERR_CLEAR (R128) -/

theorem exec_vpWerrClear_open {s : State} {w : RegWr} (live : fixedLive s = true) (taken : Taken s w)
    (rsv : noRsv w 0x3F000000 = true) :
    exec (.vpWerrClear w) s = .next (if bitN w.data.toNat 31 then
      { s with vp := { Vapen.reset with tvalid := s.vp.tvalid, gen := s.vp.gen, layout := s.vp.layout, table := s.vp.table } }
      else s) := by
  simp only [exec_vpWerrClear, execVpWerrClear]
  rw [if_neg (by simp [live]), checked_ok taken (by rw [rsv]; rfl)]

/-! ### Reads (R97, R118, R120) -/

theorem readReg_table_dead {s : State} {off : Nat} (src : Src) (bits : Nat) (low : off < 0x10000) (dead : tableLive s = false) :
    readReg src off bits s = (s, 0) := by
  unfold readReg
  rw [if_pos low, dead]
  split
  · rfl
  · rfl

theorem readReg_table_live {s : State} {src : Src} {off bits : Nat} (ans : answers s src = true) (low : off < 0x10000)
    (live : tableLive s = true) (size : (bits = 32 ∧ off % 4 = 0) ∨ (bits = 64 ∧ off % 8 = 0)) :
    readReg src off bits s = (s, getLE s.vp.table off (bits / 8)) := by
  unfold readReg
  rw [if_neg (by simp [ans]), if_pos low, if_pos (by simpa [live] using size)]
  rfl

theorem readReg_gen_dead {s : State} (src : Src) (notReady : s.boot.stage ≠ .ready) : readReg src 0x10214 32 s = (s, 0) := by
  have dead : tableLive s = false := by simp [tableLive, windowLive, notReady]
  have word : readFixed s 0x10214 = (s, 0) := by
    simp [readFixed, dead, plainRead]
  unfold readReg
  split
  · rfl
  · simp [word]

theorem readReg_size {s : State} {off bits : Nat} (src : Src) (high : 0x10000 ≤ off) (size : bits ≠ 32 ∨ off % 4 ≠ 0) :
    readReg src off bits s = (s, 0) := by
  unfold readReg
  rw [if_neg (Nat.not_lt.2 high), if_pos size]
  split
  · rfl
  · rfl

end Sys2Proof.Machine

namespace Sys2Proof
open Sys2Proof.Machine

/-- Settles O52, one case per clause. A rejected write is one `reject`, an accepted one its register's effect. -/
theorem registerWritesAreCheckedInOrder : Obligations.RegisterWritesAreCheckedInOrder := by
  unfold Obligations.RegisterWritesAreCheckedInOrder
  refine ⟨?table, ?again, ?narrow, ?featAck, ?request, ?prof, ?profRange, ?page, ?clear, ?clearNone, ?readDead, ?readLive,
    ?readGen, ?readSize⟩
  case table =>
    intro s w live low taken free
    obtain ⟨vp, stat⟩ := reject_captures_all free w.off none w.wr Status.notPermitted
    refine .of _ (exec_registerWrite_table live low) ?_
    rw [checked_fail taken rfl, vp, stat]
    exact ⟨rfl, rfl, rfl, rfl, rfl, rfl, vp ▸ reject_frame ..⟩
  case again =>
    intro s w live low heard part held
    refine .of _ (exec_registerWrite_table live low) ?_
    rw [checked_partial heard part, reject_again held]
  case narrow =>
    intro s w live high h1 h2 h3 heard part free
    have rejected : (reject s w.off none w.wr Status.badField).vp.werrStatus = Status.badField := (reject_captures free ..).2
    by_cases low : w.off < 0x10000
    · refine .of _ (exec_registerWrite_table live low) ?_
      rw [checked_partial heard part]
      exact ⟨rejected, reject_frame ..⟩
    · refine .of _ (exec_registerWrite_fixed live (Nat.not_lt.1 low) high) ?_
      rw [fixedWrite_partial h1 h2 h3 heard part]
      exact ⟨rejected, reject_frame ..⟩
  case featAck =>
    intro s w i live hi off taken open_ first other
    refine .of _ (exec_registerWrite_fixed live (by omega) (by omega)) ?_
    rw [off, fixedWrite_featAck hi taken open_ first other]
    exact ⟨fun j hj => featAck_getLsbD hj _, rfl⟩
  case request =>
    intro s w a live ha off taken idle
    refine .of _ (exec_registerWrite_fixed live (by omega) (by omega)) ?_
    rw [off, fixedWrite_request ha taken idle]
  case prof =>
    intro s w l o rsv live up high lay block taken own low top mapped clean range
    refine .of (putReg s 3 o w.wr.data.toNat) ?_ ⟨?_, fun b k other => getReg_putReg_ne s _ other, rfl⟩
    · rw [exec_registerWrite_placed live up high lay, placedWrite, block]
      simp only
      rw [devWrite_prof low top mapped, checked_ok taken (by rw [own, clean, range]; rfl)]
    · rw [getReg_putReg_self, Nat.mod_eq_of_lt w.wr.data.isLt]
  case profRange =>
    intro s w l o live up high lay block taken own low top range free
    refine .of (reject s (regAddr s 3 o) none w.wr Status.badField) ?_ ⟨reject_regs .., (reject_captures free ..).2⟩
    rw [exec_registerWrite_placed live up high lay, placedWrite, block]
    simp only
    cases mapped : wrRsv (roleCap s = 2) o with
    | none => rw [devWrite_prof_unmapped low top mapped, checked_fail taken rfl]
    | some rsv =>
      rw [devWrite_prof low top mapped, checked_fail taken (st := Status.badField)]
      rw [own, range]
      cases noRsv w.wr rsv <;> rfl
  case page =>
    intro s w l i o r live up high lay placed noCmd h1 h2 reg taken own rsv free
    refine .of _ ((exec_registerWrite_placed live up high lay).trans
      (placed.trans (pageWrite_staged noCmd h1 h2 reg taken own rsv free))) ?_
    split
    · rename_i ro
      exact ⟨fun b _ => by simp [ro], rfl⟩
    · refine ⟨fun b hb => ?_, rfl⟩
      rw [getPage_putPage_self, Nat.mod_eq_of_lt (staged_lt ..), bitN_staged hb, pageReg_off reg]
  case clear =>
    intro s w live taken rsv valid
    refine .of _ (exec_vpWerrClear_open live taken rsv) ?_
    rw [if_pos valid]
    exact ⟨rfl, rfl, rfl, rfl, rfl, rfl, rfl⟩
  case clearNone =>
    intro s w live taken rsv valid
    refine .of _ (exec_vpWerrClear_open live taken rsv) ?_
    rw [if_neg (by simp [valid])]
  case readDead =>
    intro s src off bits low dead
    exact readReg_table_dead src bits low dead
  case readLive =>
    intro s src off bits ans low live size
    exact readReg_table_live ans low live size
  case readGen =>
    intro s src notReady
    exact readReg_gen_dead src notReady
  case readSize =>
    intro s src off bits high size
    exact readReg_size src high size

end Sys2Proof
end
section
/-!
PROOFS. The mailboxes: requests taken, refused, held and started (spec file 05, R115, R129, R130, R131; logs 43, 44, 70 and 93).
-/
namespace Sys2Proof.Machine

/-! ### Where a response goes (R129, R131) -/

theorem mbxFrom_ne_mctp (src : Src) : mbxFrom src ≠ .mctp := by
  cases src <;> decide

/-- A response of the host-link mailbox stands in TN_MBX_RSP with its status, and STATE reads DONE. -/
theorem mbxRespond_host {s : State} {r : MbxReq} (host : r.origin ≠ .mctp) (kept : r.discard = false) (st : Byte) (d : Bytes) :
    (mbxRespond s r st d).mbx = { s.mbx with st := .done, status := st, rsp := rspBlock r.code r.tag st d } := by
  unfold mbxRespond
  rw [kept]
  cases origin : r.origin with
  | mctp => exact absurd origin host
  | host | jtag | tender => cases r.intr <;> simp

theorem mem_raise_out {s : State} {o : Out} (n : Nat) (h : o ∈ s.out) : o ∈ (raise s n).out := by
  unfold raise setInt
  dsimp only
  split
  · exact List.mem_cons_of_mem _ h
  · exact h

/-- A response of the MCTP mailbox is sent to its requester, and the host-link mailbox keeps its state. -/
theorem mbxRespond_mctp {s : State} {r : MbxReq} (mctp : r.origin = .mctp) (kept : r.discard = false) (st : Byte) (d : Bytes) :
    .mctp (rspBlock r.code r.tag st d) ∈ (mbxRespond s r st d).out ∧
    mbxRespond s r st d = { s with intr := (mbxRespond s r st d).intr, out := (mbxRespond s r st d).out } := by
  have sent : mbxRespond s r st d =
      if r.intr then raise (emit s (.mctp (rspBlock r.code r.tag st d))) 2 else emit s (.mctp (rspBlock r.code r.tag st d)) := by
    simp [mbxRespond, mctp, kept]
  rw [sent]
  split
  · exact ⟨mem_raise_out 2 List.mem_cons_self, raise_frame ..⟩
  · exact ⟨List.mem_cons_self, rfl⟩

/-! ### The checks on arrival (R130 checks 1 to 3, R115) -/

/-- The checks read the request and the features, nothing of the mailboxes. -/
theorem mbxFail_mbx (s : State) (m : Mbx) : mbxFail { s with mbx := m } = mbxFail s := rfl

theorem mbxFail_crc {b : Bytes} (bad : getLE b 12 4 ≠ crcN (b.take 12 ++ slice b 16 (getLE b 2 2))) (s : State) (src : Src)
    (lenOk : Bool) : mbxFail s src b lenOk = some Status.descriptorCrc := by
  simp [mbxFail, bad, firstFail]

theorem mbxTake_failed {s : State} {o : MbxFrom} {b : Bytes} {lenOk : Bool} {st : Byte}
    (fail : mbxFail s (mbxSrc (mbxReqOf o b)) b lenOk = some st) : mbxTake s o b lenOk = mbxRespond s (mbxReqOf o b) st [] := by
  simp only [mbxTake, fail]

/-- A request that passes waits its turn, unless it is a loader command and another runs. -/
theorem mbxTake_waits {s : State} {o : MbxFrom} {b : Bytes} {lenOk : Bool} (pass : mbxFail s (mbxSrc (mbxReqOf o b)) b lenOk = none)
    (alone : loaderCode (mbxReqOf o b).code = false ∨ ∀ x, s.mbx.running = some x → loaderCode x.code = false) :
    mbxTake s o b lenOk =
      wakeBlk { s with mbx := { s.mbx with waiting := s.mbx.waiting ++ [mbxReqOf o b] } } (.tender s.pt.core) := by
  have free : ¬(loaderCode (mbxReqOf o b).code && (s.mbx.running.map fun x => loaderCode x.code) = some true) = true := by
    rcases alone with other | idle
    · simp [other]
    · cases running : s.mbx.running with
      | none => simp
      | some x => simp [idle x running]
  simp only [mbxTake, pass]
  exact if_neg free

/-- A loader command that passes while another runs completes with BUSY. -/
theorem mbxTake_busy {s : State} {o : MbxFrom} {b : Bytes} {lenOk : Bool} {x : MbxReq}
    (pass : mbxFail s (mbxSrc (mbxReqOf o b)) b lenOk = none) (loader : loaderCode (mbxReqOf o b).code = true)
    (running : s.mbx.running = some x) (other : loaderCode x.code = true) :
    mbxTake s o b lenOk = mbxRespond s (mbxReqOf o b) Status.busy [] := by
  simp [mbxTake, pass, loader, running, other]

/-! ### TN_MBX_GO (R131) -/

/-- The request block a GO submits. -/
def mbxBlock (s : State) : Bytes := Mem.read s.mbx.req 0 (16 + min 2032 (getLE (Mem.read s.mbx.req 2 2) 0 2))

theorem exec_tnMbxGo_open {s : State} {w : RegWr} (live : fixedLive s = true) (taken : Taken s w)
    (rsv : noRsv w 0xFFFFFFFE = true) (go : bitN w.data.toNat 0 = true) (idle : s.mbx.st ≠ .busy) :
    exec (.tnMbxGo w) s = .next
      (mbxTake { s with mbx := { s.mbx with st := .busy, lost := false, rsp := [] } } (mbxFrom w.src) (mbxBlock s) true) := by
  simp only [exec_tnMbxGo, execTnMbxGo]
  rw [if_neg (by simp [live]), checked_ok taken (by rw [rsv]; simp [idle]), if_pos go]
  rfl

theorem exec_tnMbxGo_busy {s : State} {w : RegWr} (live : fixedLive s = true) (taken : Taken s w)
    (rsv : noRsv w 0xFFFFFFFE = true) (go : bitN w.data.toNat 0 = true) (busy : s.mbx.st = .busy) :
    exec (.tnMbxGo w) s = .next (reject s 0x10800 none w Status.busy) := by
  simp only [exec_tnMbxGo, execTnMbxGo]
  rw [if_neg (by simp [live]), checked_fail taken (st := Status.busy) (by rw [rsv]; simp [go, busy])]

/-! ### MCTP_REQUEST (R129, R130) -/

theorem exec_mctpRequest_rom {s : State} {smb : Option Nat} {b : Bytes} (up : s.sys.coldLow = false)
    (board : s.sys.straps.test = false) (here : mctpHere s smb = true) (len : 16 ≤ b.length) (rom : tenderRuns s = false) :
    exec (.mctpRequest ⟨smb, b⟩) s =
      .next (emit s (.mctp (rspBlock (getLE b 0 1) (getLE b 4 4) Status.notPermitted []))) := by
  simp only [exec_mctpRequest, execMctpRequest]
  rw [if_neg (by simp [up, board, here, len]), if_pos (by simp [rom])]

theorem exec_mctpRequest_taken {s : State} {smb : Option Nat} {b : Bytes} (runs : tenderRuns s = true)
    (board : s.sys.straps.test = false) (here : mctpHere s smb = true) (len : b.length = 16 + getLE b 2 2)
    (fits : b.length ≤ 2048) : exec (.mctpRequest ⟨smb, b⟩) s = .next (mbxTake s .mctp b true) := by
  have up : s.sys.coldLow = false := by
    simp only [tenderRuns, decide_eq_true_eq] at runs
    simpa using runs.2.2
  have header : 16 ≤ b.length := len ▸ Nat.le_add_right ..
  have whole : (b.length = 16 + getLE b 2 2 && b.length ≤ 2048) = true := by
    rw [decide_eq_true len, decide_eq_true fits]; rfl
  simp only [exec_mctpRequest, execMctpRequest]
  rw [if_neg (by simp [up, board, here, header]), if_neg (by simp [runs]), whole]

/-! ### MBX_COMMAND_START (R130 check 4) -/

theorem exec_mbxCommandStart_none {s : State} (h : s.mbx.running.isSome = true ∨ gated s (.tender s.pt.core) = true) :
    exec .mbxCommandStart s = .next s := by
  simp only [exec_mbxCommandStart, execMbxCommandStart]
  exact if_pos (.inr h)

/-- With no command running, Tender takes up the oldest request that waits. -/
theorem exec_mbxCommandStart_oldest {s : State} {r : MbxReq} {rest : List MbxReq} (runs : tenderRuns s = true)
    (free : s.mbx.running = none) (awake : gated s (.tender s.pt.core) = false) (oldest : s.mbx.waiting = r :: rest) :
    exec .mbxCommandStart s =
      if !stageAllows s.boot.stage r.code then
        .next (mbxRespond { s with mbx := { s.mbx with waiting := rest } } r Status.notPermitted [])
      else if 0x40 ≤ r.code ∧ r.code ≤ 0x43 then .next (startBasin s r rest)
      else .next { s with mbx := { s.mbx with waiting := rest, running := some r } } := by
  simp only [exec_mbxCommandStart, execMbxCommandStart]
  rw [if_neg (by simp [runs, free, awake]), oldest]

/-- BASIN_FREE at the issuing device: its fields and the page's owner are checked before it goes to the manager (R51). -/
theorem issueMgr_basinFree {s : State} {r : MbxReq} (code : r.code = 0x41) (inst : getLE r.params 4 2 < 1024)
    (rsv : zeroIn r.params 6 2 = true) (own : pageOwned s (getLE r.params 4 2) (mbxSrc r) = true) :
    issueMgr s r = .go s (heldOf s r (getLE r.params 8 8) (getLE r.params 4 2) 0 0 r.params) := by
  simp [issueMgr, code, inst, rsv, own]

/-- A manager-bound command that passes the issuing device's checks runs and is held; a manager that is known is asked (R36). -/
theorem startBasin_held {s : State} {r : MbxReq} {h : HeldCmd} (issued : issueMgr s r = .go s h) (rest : List MbxReq) :
    startBasin s r rest = { s with
      mbx := { s.mbx with waiting := rest, running := some r }, mgr := { s.mgr with held := s.mgr.held ++ [h] },
      out := if managerKnown s then .mgrReq h.code h.reqId h.params :: s.out else s.out } := by
  have known (m : Mbx) (l : List HeldCmd) : managerKnown { s with mbx := m, mgr := { s.mgr with held := l } } = managerKnown s := rfl
  simp only [startBasin, issued, known]
  split
  · rfl
  · rfl

end Sys2Proof.Machine

namespace Sys2Proof
open Sys2Proof.Machine

/-- Settles O49, one case per clause. What a mailbox does with a request is `mbxTake`: the checks' response, BUSY, or a place
in the queue; what Tender does with the oldest one is `exec_mbxCommandStart_oldest`. -/
theorem mailboxRequestsRunInOrder : Obligations.MailboxRequestsRunInOrder := by
  unfold Obligations.MailboxRequestsRunInOrder
  refine ⟨?go, ?goFails, ?goBusy, ?rom, ?mctp, ?mctpBusy, ?mctpCrc, ?start, ?startStage, ?basinFree, ?running, ?gated⟩
  case go =>
    rintro s w _ _ live taken rsv go idle rfl rfl pass alone
    exact .of _ ((exec_tnMbxGo_open live taken rsv go idle).trans (congrArg _ (mbxTake_waits pass alone))) rfl
  case goFails =>
    rintro s w _ _ st live taken rsv go idle rfl rfl fail
    refine .of _ ((exec_tnMbxGo_open live taken rsv go idle).trans (congrArg _ (mbxTake_failed fail))) ?_
    have done := mbxRespond_host (s := { s with mbx := { s.mbx with st := .busy, lost := false, rsp := [] } })
      (r := mbxReqOf (mbxFrom w.src) (mbxBlock s)) (mbxFrom_ne_mctp w.src) rfl st []
    refine ⟨?_, ?_, ?_, ?_, ?_, mbxRespond_frame ..⟩
    all_goals exact done ▸ rfl
  case goBusy =>
    intro s w live taken rsv go busy free
    exact .of _ (exec_tnMbxGo_busy live taken rsv go busy) ⟨(reject_captures free ..).2, reject_frame ..⟩
  case rom =>
    intro s smb b up board here len rom
    exact .of _ (exec_mctpRequest_rom up board here len rom) rfl
  case mctp =>
    intro s smb b runs board here len fits pass alone
    exact .of _ ((exec_mctpRequest_taken runs board here len fits).trans (congrArg _ (mbxTake_waits pass alone))) rfl
  case mctpBusy =>
    intro s smb b x runs board here len fits pass loader running other
    exact .of _ ((exec_mctpRequest_taken runs board here len fits).trans (congrArg _ (mbxTake_busy pass loader running other)))
      (mbxRespond_mctp rfl rfl ..)
  case mctpCrc =>
    intro s smb b runs board here len fits bad
    exact .of _ ((exec_mctpRequest_taken runs board here len fits).trans (congrArg _ (mbxTake_failed (mbxFail_crc bad ..))))
      (mbxRespond_mctp rfl rfl ..)
  case start =>
    intro s r rest runs free awake oldest stage other
    refine .of _ ((exec_mbxCommandStart_oldest runs free awake oldest).trans ?_) rfl
    rw [if_neg (by simp [stage]), if_neg (by omega)]
  case startStage =>
    intro s r rest runs free awake oldest stage
    refine .of _ ((exec_mbxCommandStart_oldest runs free awake oldest).trans ?_) rfl
    rw [if_pos (by simp [stage])]
  case basinFree =>
    intro s r rest runs ready free awake oldest code inst rsv own
    have stage : stageAllows s.boot.stage r.code = true := by rw [ready]; rfl
    have held := startBasin_held (issueMgr_basinFree code inst rsv own) rest
    refine .of (startBasin s r rest) ((exec_mbxCommandStart_oldest runs free awake oldest).trans ?_) ?_
    · rw [if_neg (by simp [stage]), if_pos (by omega)]
    · rw [held]
      exact ⟨rfl, ⟨_, rfl, code, rfl, rfl, rfl⟩, by simp [heldOf, code], rfl⟩
  case running =>
    intro s r running
    exact .of _ (exec_mbxCommandStart_none (.inl (by simp [running]))) rfl
  case gated =>
    intro s gated
    exact .of _ (exec_mbxCommandStart_none (.inr gated)) rfl

end Sys2Proof
end

section
/-!
PROOFS. The partner heartbeat, the partner link and what loses it (spec file 06, R134, R139, R142, R143, R146, R154; R202, R244; logs 48,
49, 53, 111 and 121).
-/
namespace Sys2Proof.Machine

/-! ### The own parts' recovery window (R39) -/

theorem openOwnWin_ownWin (s : State) : (openOwnWin s).basin.ownWin = some s.sys.now := by
  unfold openOwnWin
  split
  · rfl
  · simp

/-! ### Triggers (R143) -/

/-- The partner link as a trigger with a cause leaves it where it was UP. -/
def tearingDown (p : Partner) (cause : Nat) : Partner :=
  { p with st := .teardown, causeValid := true, total := satInc 4 p.total, cause := cause, merged := 0, cqeLost := 0, hbArmed := false,
           tdStep := 1, tdWait := false }

section
variable {s : State}

theorem prstTrigger_eq (up : s.pt.st = .up) (cause : Nat) :
    prstTrigger s cause = openOwnWin (logEv { s with pt := tearingDown s.pt cause } 0x0030 Status.partnerReset 0x0B 0
      [BitVec.ofNat 8 cause]) := by
  rw [prstTrigger, up]
  rfl

theorem prstTrigger_pt (up : s.pt.st = .up) (cause : Nat) : (prstTrigger s cause).pt = tearingDown s.pt cause := by
  rw [prstTrigger_eq up, openOwnWin_pt, logEv_pt]

theorem prstTrigger_ownWin (up : s.pt.st = .up) (cause : Nat) : (prstTrigger s cause).basin.ownWin = some s.sys.now := by
  rw [prstTrigger_eq up, openOwnWin_ownWin, logEv_sys]

/-- A trigger leaves device time and the memories. -/
theorem prstTrigger_frame (up : s.pt.st = .up) (cause : Nat) :
    prstTrigger s cause = { s with pt := (prstTrigger s cause).pt, basin := (prstTrigger s cause).basin,
                                   log := (prstTrigger s cause).log } := by
  rw [prstTrigger_eq up, openOwnWin_frame, logEv_frame]

theorem prstTrigger_sys (up : s.pt.st = .up) (cause : Nat) : (prstTrigger s cause).sys = s.sys := by rw [prstTrigger_frame up]

theorem linkTrigger_pt (up : s.pt.st = .up) (cause : Nat) :
    (linkTrigger s cause).pt = tearingDown (linkLost s.pt) cause := prstTrigger_pt (s := { s with pt := linkLost s.pt }) up cause

theorem exec_partnerLinkDown_trained (trained : s.pt.trained = true) (noneHeld : s.pt.sideband = none) :
    exec .partnerLinkDown s = .next (linkTrigger s 1) := by
  simp [execPartnerLinkDown, trained, noneHeld]

theorem exec_partnerFatalError_trained (trained : s.pt.trained = true) : exec .partnerFatalError s = .next (linkTrigger s 2) := by
  simp [execPartnerFatalError, trained]

theorem exec_hostReset_warm (warm : s.sys.coldLow = false) : exec .hostReset s = .next (prstTrigger s 5) := by
  simp [execHostReset, warm]

theorem exec_snoopTimeout_held {l a : Nat} (held : Tab.find s.pt.held l = some a) :
    exec (.snoopTimeout l) s = .next (prstTrigger (advanceTo s (a + 2000000)) 4) := by
  simp [execSnoopTimeout, held]

/-! ### The heartbeat (R142) -/

theorem hbWrite_passes {w : RegWr} (live : windowLive s = true) (taken : Taken s w) (clean : noRsv w 0xFFFFFFFC = true)
    (mode : modeOf s = .p) (eff : State) : hbWrite s w eff = .next eff := by
  rw [hbWrite, if_neg (by simp [live]), checked_ok taken (by rw [clean]; simp [mode])]

theorem exec_partnerHbArm_arms {w : RegWr} (arm : bitN w.data.toNat 1 = true) :
    exec (.partnerHbArm w) s = hbWrite s w { s with pt.hbArmed := true, pt.hbAt := s.sys.now } := if_neg (by simp [arm])

theorem exec_partnerHbBeat_beats {w : RegWr} (noArm : bitN w.data.toNat 1 = false) (beat : bitN w.data.toNat 0 = true) :
    exec (.partnerHbBeat w) s = hbWrite s w (if s.pt.hbArmed then { s with pt.hbAt := s.sys.now } else s) :=
  if_neg (by simp [noArm, beat])

theorem exec_partnerHbDisarm_disarms {w : RegWr} (noArm : bitN w.data.toNat 1 = false) (noBeat : bitN w.data.toNat 0 = false) :
    exec (.partnerHbDisarm w) s = hbWrite s w { s with pt.hbArmed := false } := if_neg (by simp [noArm, noBeat])

/-- The device at the heartbeat's deadline, the timer disarmed. -/
def hbDue (s : State) : State := { advanceTo s (s.pt.hbAt + 10000000) with pt.hbArmed := false }

theorem exec_partnerHbExpiry_armed (armed : s.pt.hbArmed = true) :
    exec .partnerHbExpiry s = .next (prstTrigger (hbDue s) 3) := if_neg (by simp [armed])

/-! ### Training (R134, R146) -/

/-- The partner link as a training leaves it. -/
def linked (s : State) (tr : LinkTrain) : Partner :=
  let onP : Bool := s.sys.fuses.variant = .p
  { s.pt with trained := true, cxl := cxlUp s tr, ide := ideOn s (cxlUp s tr),
              width := if onP then modCount tr.modules else tr.width, rate := trainRate s tr,
              modules := if onP then tr.modules else 0, sideband := none }

/-- A training writes the partner link and logs the modules that failed. -/
theorem linkUp_frame (s : State) (tr : LinkTrain) : linkUp s tr = { s with pt := linked s tr, log := (linkUp s tr).log } := by
  have logged (l : List Nat) (b : Bytes) (u : State) : l.foldl (fun s k => logEv s 0x0031 Status.ok 0x0B k b) u =
      { u with log := (l.foldl (fun s k => logEv s 0x0031 Status.ok 0x0B k b) u).log } :=
    foldl_logEv_frame (f := fun k s => logEv s 0x0031 Status.ok 0x0B k b) (fun _ _ => logEv_frame ..) l u
  exact logged ..

/-- An HV6-D logs no module. -/
theorem linkUp_log_d (d : s.sys.fuses.variant = .d) (tr : LinkTrain) : (linkUp s tr).log = s.log := by
  simp [linkUp, d]

theorem exec_partnerLinkTrained_up {tr : LinkTrain} (awake : Awake s) (can : canTrain s tr = true) (down : s.pt.st = .down)
    (img : s.boot.image ≠ none) (ready : s.boot.stage = .ready) :
    exec (.partnerLinkTrained tr) s = .next { linkUp s tr with pt.st := .up } := by
  have some_ : s.boot.image.isSome = true := Option.isSome_iff_ne_none.2 img
  simp [execPartnerLinkTrained, awake.1, awake.2, can, down, some_, ready]

theorem exec_partnerLinkTrained_waits {tr : LinkTrain} (awake : Awake s) (can : canTrain s tr = true)
    (teardown : s.pt.st = .teardown) (lost : s.pt.trained = false) :
    exec (.partnerLinkTrained tr) s = .next { s with pt.sideband := some tr } := by
  simp [execPartnerLinkTrained, awake.1, awake.2, can, teardown, lost]

theorem exec_partnerLinkTrained_cannot {tr : LinkTrain} (cannot : canTrain s tr = false) :
    exec (.partnerLinkTrained tr) s = .next s := if_pos (by simp [cannot])

/-! ### A lost module (R134) -/

/-- No module is left where the count is 0. -/
theorem modCount_eq_zero (m : BitVec 4) : modCount m = 0 ↔ m = 0 := by
  revert m
  decide

/-- The device with the modules of a set in service, module `m` logged as lost. -/
def modulesLeft (s : State) (m : Nat) (left : BitVec 4) : State :=
  logEv { s with pt := { s.pt with width := modCount left, modules := left } } 0x0031 Status.ok 0x0B m [BitVec.ofNat 8 (modCount left)]

theorem exec_ucieModuleLost_inService {m : Nat} (trained : s.pt.trained = true) (variant : s.sys.fuses.variant = .p) (hm : m < 4)
    (on : s.pt.modules.getLsbD m = true) {left : BitVec 4} (rest : left = s.pt.modules &&& ~~~(BitVec.ofNat 4 (2 ^ m))) :
    exec (.ucieModuleLost m) s = .next (if left = 0 then linkTrigger (modulesLeft s m left) 1 else modulesLeft s m left) := by
  subst rest
  simp only [exec_ucieModuleLost, execUcieModuleLost]
  rw [if_neg (by simp [trained, variant, hm, on])]
  simp only [modCount_eq_zero]
  rw [apply_ite Host.Outcome.next]
  rfl

/-- A module's bit is in service where the modules are it alone, and none is left without it. -/
theorem onlyModule {m : Nat} (hm : m < 4) :
    (BitVec.ofNat 4 (2 ^ m)).getLsbD m = true ∧ 0 = BitVec.ofNat 4 (2 ^ m) &&& ~~~(BitVec.ofNat 4 (2 ^ m)) := by
  interval_cases m <;> decide

/-! ### Lost parts (R154, R244) -/

/-- The device with a Tender core failed, its own recovery window open. -/
def coreFailed (s : State) (c : Nat) : State :=
  openOwnWin (logEv { s with pt.cores := s.pt.cores &&& ~~~(BitVec.ofNat 4 (2 ^ c)) } 0x0003 Status.ok 0x0B c [])

theorem exec_tenderCoreFail_partner {c : Nat} (warm : s.sys.coldLow = false) (on : s.pt.cores.getLsbD c = true)
    (mode : modeOf s ≠ .h) : exec (.tenderCoreFail c) s = .next (coreFailed s c) := by
  have same : modeOf (coreFailed s c) = modeOf s := by simp [coreFailed, modeOf]
  simp only [exec_tenderCoreFail, execTenderCoreFail]
  rw [if_neg (by simp [warm, on])]
  split
  · exact if_neg (fun h => mode (same ▸ h.1))
  · rfl

theorem coreFailed_frame (s : State) (c : Nat) :
    coreFailed s c = { s with pt.cores := s.pt.cores &&& ~~~(BitVec.ofNat 4 (2 ^ c)), basin := (coreFailed s c).basin,
                              log := (coreFailed s c).log } := by
  rw [coreFailed, openOwnWin_frame, logEv_frame]

/-- The two copies of a record lie on different stacks (R202). -/
theorem copyOn_apart (stack kind idx : Nat) : ((copyOn stack kind idx).1 && (copyOn stack kind idx).2) = false := by
  simp only [copyOn, Bool.and_eq_false_iff, decide_eq_false_iff_not]
  omega

/-- The device with the copies that a stack held marked lost. -/
def copiesLost (s : State) (n : Nat) : State :=
  { s with
    spans := Tab.map (fun k (x : Span) => { x with bad1 := x.bad1 || (copyOn n 1 k).1, bad2 := x.bad2 || (copyOn n 1 k).2 }) s.spans,
    keys := Tab.map (fun k (x : Key) => { x with bad1 := x.bad1 || (copyOn n 2 k).1, bad2 := x.bad2 || (copyOn n 2 k).2 }) s.keys,
    sy := Tab.map (fun k (x : SyCnt) => { x with bad1 := x.bad1 || (copyOn n 5 k).1, bad2 := x.bad2 || (copyOn n 5 k).2 }) s.sy,
    cbs := Tab.map (fun k (x : CbSlot) => { x with bad1 := x.bad1 || (copyOn n 9 k).1, bad2 := x.bad2 || (copyOn n 9 k).2 }) s.cbs,
    qps := Tab.map (fun k (x : Qp) => { x with bad1 := x.bad1 || (copyOn n 3 k).1, bad2 := x.bad2 || (copyOn n 3 k).2 }) s.qps }

/-- A counter whose copies are both lost fails, if it has not failed before (R202, R305). -/
def counterFails (s : State) (p : Nat × SyCnt) : State :=
  if p.2.bad1 && p.2.bad2 && !p.2.poison then
    releaseWaiters (logCorrupt (putCnt s p.1 { p.2 with poison := true }) 0x06 5 p.1) p.1 p.2.value
  else s

theorem loseCopies_eq (s : State) (n : Nat) : loseCopies s n = (copiesLost s n).sy.foldl counterFails (copiesLost s n) := rfl

/-- One stack takes both copies of no counter that had both, so no counter fails. -/
theorem loseCopies_whole (whole : ∀ p ∈ s.sy, p.2.bad1 = false ∧ p.2.bad2 = false) (n : Nat) : loseCopies s n = copiesLost s n := by
  have keeps (u : State) : ∀ p ∈ (copiesLost s n).sy, counterFails u p = u := by
    intro p hp
    obtain ⟨q, hq, rfl⟩ := List.mem_map.1 hp
    obtain ⟨bad1, bad2⟩ := whole q hq
    have single := copyOn_apart n 5 q.1
    simp only [counterFails, bad1, bad2, Bool.false_or, single, Bool.false_and, Bool.false_eq_true, if_false]
  rw [loseCopies_eq, List.foldl_ext counterFails (fun u _ => u) _ keeps, List.foldl_fixed]

theorem Tab.find_map {α β : Type} (f : Nat → α → β) (t : Tab α) (k : Nat) :
    Tab.find (Tab.map f t) k = (Tab.find t k).map (f k) := by
  induction t with
  | nil => rfl
  | cons p t ih =>
    obtain ⟨j, x⟩ := p
    simp only [Tab.map, List.map_cons, Tab.find] at ih ⊢
    by_cases same : k = j
    · simp [same]
    · simpa [same] using ih

/-- The device with a stack lost, before it tells of its plot. -/
def stackGone (s : State) (n : Nat) : State :=
  copiesLost (openOwnWin (logEv { s with stacksLost := s.stacksLost ||| BitVec.ofNat 8 (2 ^ n) } 0x0051 Status.ok 0x0B n [])) n

theorem stackGone_frame (s : State) (n : Nat) :
    stackGone s n = { s with
      stacksLost := s.stacksLost ||| BitVec.ofNat 8 (2 ^ n), basin := (stackGone s n).basin, spans := (stackGone s n).spans,
      keys := (stackGone s n).keys, sy := (stackGone s n).sy, cbs := (stackGone s n).cbs, qps := (stackGone s n).qps,
      log := (stackGone s n).log } := by
  rw [stackGone, openOwnWin_frame, logEv_frame]
  rfl

theorem stackGone_ownWin (s : State) (n : Nat) : (stackGone s n).basin.ownWin = some s.sys.now := by
  refine (openOwnWin_ownWin _).trans ?_
  rw [logEv_sys]

theorem find_stackGone_spans (s : State) (n k : Nat) :
    Tab.find (stackGone s n).spans k = (Tab.find s.spans k).map fun x =>
      { x with bad1 := x.bad1 || (copyOn n 1 k).1, bad2 := x.bad2 || (copyOn n 1 k).2 } := by
  simp only [stackGone, copiesLost, Tab.find_map, openOwnWin_spans, logEv_spans]

/-- After the loss of a stack in service the plot's fate is told: not at all, by an output or by a void guarantee (R244). -/
theorem exec_stackLost_inService {n : Nat} (warm : s.sys.coldLow = false)
    (on : (s.boot.hbmInService &&& ~~~s.stacksLost).getLsbD n = true) (whole : ∀ p ∈ s.sy, p.2.bad1 = false ∧ p.2.bad2 = false) :
    ∃ t, exec (.stackLost n) s = .next t ∧
      t = { stackGone s n with basin.void := t.basin.void, log := t.log, out := t.out } := by
  have gone : loseCopies (openOwnWin (logEv { s with stacksLost := s.stacksLost ||| BitVec.ofNat 8 (2 ^ n) } 0x0051 Status.ok 0x0B n
      [])) n = stackGone s n := loseCopies_whole (by simpa using whole) n
  simp only [exec_stackLost, execStackLost]
  rw [if_neg (by simp [warm, on]), gone]
  split
  · exact ⟨_, rfl, rfl⟩
  · split
    · exact ⟨_, rfl, rfl⟩
    · refine ⟨_, rfl, ?_⟩
      rw [voidGuarantee, logEv_frame]
end

end Sys2Proof.Machine

namespace Sys2Proof
open Sys2Proof.Machine

/-- Settles O20, one case per clause. What loses the link is `prstTrigger`, from UP a teardown with its cause (`prstTrigger_pt`,
`prstTrigger_frame`); a training is `linkUp`; a lost stack takes one copy of a record at most (`copyOn_apart`). -/
theorem thePartnerLinkRunsAndTearsDown : Obligations.ThePartnerLinkRunsAndTearsDown := by
  unfold Obligations.ThePartnerLinkRunsAndTearsDown
  refine ⟨?arm, ?beat, ?disarm, ?expiry, ?linkDown, ?sideband, ?fatal, ?hostReset, ?merged, ?snoop, ?trained, ?waits, ?cannot,
    ?moduleLost, ?lastModule, ?core, ?stack⟩
  case arm =>
    intro s w live taken clean mode arm
    exact .of _ ((exec_partnerHbArm_arms arm).trans (hbWrite_passes live taken clean mode _)) rfl
  case beat =>
    intro s w live taken clean mode noArm beat armed
    exact .of _ ((exec_partnerHbBeat_beats noArm beat).trans (hbWrite_passes live taken clean mode _)) (if_pos armed)
  case disarm =>
    intro s w live taken clean mode noArm noBeat
    exact .of _ ((exec_partnerHbDisarm_disarms noArm noBeat).trans (hbWrite_passes live taken clean mode _)) rfl
  case expiry =>
    intro s armed up
    have due : (hbDue s).pt.st = .up := up
    refine .of _ (exec_partnerHbExpiry_armed armed) ?_
    rw [prstTrigger_pt due, prstTrigger_ownWin due, prstTrigger_sys due]
    exact ⟨rfl, rfl, rfl, rfl, rfl, rfl, rfl⟩
  case linkDown =>
    intro s trained up noneHeld
    refine .of _ (exec_partnerLinkDown_trained trained noneHeld) ?_
    rw [linkTrigger_pt up]
    refine ⟨rfl, rfl, rfl, rfl, rfl, rfl, prstTrigger_ownWin (s := { s with pt := linkLost s.pt }) up 1, ?_⟩
    rw [linkTrigger, prstTrigger_frame (s := { s with pt := linkLost s.pt }) up]
  case sideband =>
    intro s tr held variant
    refine .of { s with pt.sideband := none } ?_ rfl
    simp [execPartnerLinkDown, held, variant]
  case fatal =>
    intro s trained up
    refine .of _ (exec_partnerFatalError_trained trained) ?_
    rw [linkTrigger_pt up]
    exact ⟨rfl, rfl, rfl⟩
  case hostReset =>
    intro s warm up
    refine .of _ (exec_hostReset_warm warm) ?_
    rw [prstTrigger_pt up]
    exact ⟨rfl, rfl, rfl⟩
  case merged =>
    intro s warm teardown
    refine .of _ (exec_hostReset_warm warm) ?_
    rw [prstTrigger, teardown]
  case snoop =>
    intro s l a held up
    have due : (advanceTo s (a + 2000000)).pt.st = .up := up
    refine .of _ (exec_snoopTimeout_held held) ?_
    rw [prstTrigger_pt due, prstTrigger_sys due]
    exact ⟨rfl, rfl, rfl⟩
  case trained =>
    intro s tr awake can down img ready
    refine .of _ (exec_partnerLinkTrained_up awake can down img ready) ?_
    refine ⟨rfl, ?_, ?_, ?_, ?_, ?_⟩
    · rw [linkUp_frame]; rfl
    · rw [linkUp_frame]; rfl
    · intro variant
      rw [linkUp_frame]
      simp [linked, trainRate, variant]
    · intro variant
      refine ⟨?_, ?_, linkUp_log_d variant tr⟩
      · rw [linkUp_frame]; simp [linked, variant]
      · rw [linkUp_frame]; simp [linked, trainRate, variant]
    · rw [linkUp_frame]
  case waits =>
    intro s tr awake can teardown lost
    exact .of _ (exec_partnerLinkTrained_waits awake can teardown lost) rfl
  case cannot =>
    intro s tr cannot
    exact .of _ (exec_partnerLinkTrained_cannot cannot) rfl
  case moduleLost =>
    intro s m n trained variant hm on rest left
    refine .of _ (exec_ucieModuleLost_inService trained variant hm on rest) ?_
    rw [if_neg left, modulesLeft, logEv_frame]
    exact ⟨rfl, rfl, rfl, rfl⟩
  case lastModule =>
    intro s m trained variant hm only up
    obtain ⟨on, left⟩ := onlyModule hm
    have upLeft : (modulesLeft s m 0).pt.st = .up := by rw [modulesLeft, logEv_pt]; exact up
    refine .of _ (exec_ucieModuleLost_inService trained variant hm (only ▸ on) (left := 0) (by rw [only]; exact left)) ?_
    rw [if_pos rfl, linkTrigger_pt upLeft, modulesLeft, logEv_pt]
    exact ⟨rfl, rfl, rfl, rfl⟩
  case core =>
    intro s c warm on mode
    refine .of _ (exec_tenderCoreFail_partner warm on mode) ⟨?_, ?_, ?_⟩
    · rw [coreFailed_frame]
    · rw [coreFailed, openOwnWin_ownWin, logEv_sys]
    · rw [coreFailed_frame]
  case stack =>
    intro s n warm on whole
    obtain ⟨t, runs, told⟩ := exec_stackLost_inService warm on whole
    refine .of t runs ⟨?_, ?_, ?_, ?_⟩
    · rw [told, stackGone_frame]
    · rw [told]
      exact stackGone_ownWin s n
    · intro k x found
      rw [told]
      exact (find_stackGone_spans ..).trans (by rw [found]; rfl)
    · rw [told, stackGone_frame]

end Sys2Proof
end

section
/-!
PROOFS. A state that the statement about partner memory does not exclude and in which one of its clauses fails, run through the model
(R203, R212, R218).
-/
namespace Sys2Proof.Machine

/-- A span of `inst` 1 over one page of partner memory. -/
def atsSpan : Span :=
  { inst := 1, kind := .ats, start := 0x200000, len := 0x1000, target := 0, migr := false, migOff := 0, resHbm := false,
    readMostly := false, prefer := 0, moving := none, movingAt := 0, destroying := none, handle := 0, bad1 := false, bad2 := false }

/-- The request of an access through it. -/
def atsRequest : AtsReq :=
  { inst := 1, addr := 0x200040, write := false, since := 0, refused := false, refusedAt := 0, advise := false }

/-- The request is outstanding while span 1 over the page is being destroyed and span 2, created since, is the one in the range
tree. -/
def respanned : State :=
  { newWorker with spans := [(1, { atsSpan with destroying := some 0 }), (2, atsSpan)], ats := [atsRequest] }

end Sys2Proof.Machine

namespace Sys2Proof
open Sys2Proof.Machine

/-- Refutes O21: the clause of an answered ATS request has the piece cached for the span that the range tree gives (R218). Its conditions
do not exclude a span over the same address that is still being destroyed, for the accesses admitted before (R212); the model takes the
first span that covers the address, here that one, and caches the piece for it alone. -/
theorem not_partnerMemoryIsReachedAsStated : ¬ Obligations.PartnerMemoryIsReachedAsStated := by
  unfold Obligations.PartnerMemoryIsReachedAsStated
  rintro ⟨-, -, -, -, -, -, -, -, -, -, -, answered, -⟩
  obtain ⟨t, ht, -, ⟨p, cached, -, -, inTree, -⟩, -⟩ := answered respanned 1 0x200040 atsRequest 2 atsSpan 0x200000 0x1000 0x5000 true
    (by decide) rfl (by decide) (by decide) (fun _ => rfl) (by decide) (by decide) rfl
  have first : readAfter (.atsCompletion 1 0x200040 (.piece 0x200000 0x1000 0x5000 true true)) respanned
      (fun t => t.pieces.map (·.span)) = some [1] := by decide +kernel
  rw [readAfter_of_next _ ht] at first
  have second : 2 ∈ t.pieces.map (·.span) := inTree ▸ List.mem_map_of_mem cached
  rw [Option.some.inj first] at second
  exact absurd second (by decide)

end Sys2Proof
end

section
/-!
PROOFS. Culvert: doorbells, a transfer's end, the registers of a pool and of the overflow window (spec file 06, R147 to R151; logs 50, 51
and 109).
-/
namespace Sys2Proof.Machine

/-! ### What a pool's operations read -/

theorem ReadFrame.regs_eq {s t : State} (h : ReadFrame s t) : t.regs = s.regs := by rw [h]

theorem ReadFrame.cv_eq {s t : State} (h : ReadFrame s t) : t.cv = s.cv := by rw [h]

section
variable {s t : State} (h : t.regs = s.regs)
include h

theorem poolReg_congr (k off : Nat) : poolReg t k off = poolReg s k off := by simp only [poolReg, getReg, h]

theorem poolEn_congr (k : Nat) : poolEn t k = poolEn s k := by rw [poolEn, poolReg_congr h, poolEn]

theorem poolCount_congr (k : Nat) : poolCount t k = poolCount s k := by rw [poolCount, poolReg_congr h, poolCount]

theorem poolInst_congr (k : Nat) : poolInst t k = poolInst s k := by rw [poolInst, poolReg_congr h, poolInst]

theorem recAddr_congr (k i : Nat) : recAddr t k i = recAddr s k i := by simp only [recAddr, poolBase, poolReg_congr h]
end

theorem cvRunning_congr {s t : State} (h : t.cv = s.cv) (k i : Nat) : cvRunning t k i = cvRunning s k i := by
  simp only [cvRunning, xferOf, h]

/-! ### Doorbells (R148) -/

/-- A doorbell's write that its checks pass, of a pool whose owner is not being torn down. -/
structure Rings (s : State) (k : Nat) (w : RegWr) : Prop where
  live : windowLive s = true
  pool : k < 64
  taken : Taken s w
  mode : modeOf s ≠ .h
  owned : pageOwned s (poolInst s k) w.src = true
  clean : noRsv w 0xFFFFF000 = true
  stays : leaving s (poolInst s k) = false

theorem exec_culvertDoorbell_rings {s : State} {k : Nat} {w : RegWr} (h : Rings s k w) :
    exec (.culvertDoorbell k w) s = .next (cvRing s k (fld w.data.toNat 11 0)) := by
  have pass : firstFail [(decide (modeOf s ≠ .h) && (poolInst s k = 0 || pageOwned s (poolInst s k) w.src), Status.notPermitted),
      (noRsv w 0xFFFFF000, Status.badField)] = none := by
    rw [h.clean]
    simp [h.mode, h.owned]
  simp only [exec_culvertDoorbell, execCulvertDoorbell]
  rw [if_neg (by simp [h.live, h.pool]), checked_ok h.taken pass, if_neg (by simp [h.stays])]

theorem cvRing_runs {s : State} (runs : Runs s .culvert) (k i : Nat) : cvRing s k i = cvAccept (wakeBlk s .culvert) k i :=
  if_neg (by simp [runs])

/-- Behind a held wake the doorbell waits (R72). -/
theorem cvRing_held {s : State} (held : ¬ Runs s .culvert) (k i : Nat) : cvRing s k i = cvHold (wakeBlk s .culvert) k i :=
  if_pos (by simpa using held)

theorem cvAccept_disabled {s : State} {k : Nat} (off : poolEn s k = false) (i : Nat) :
    cvAccept s k i = cvReject s k i Status.queueDisabled := if_pos (by simp [off])

/-- The first rejection is kept (R148). -/
theorem cvReject_first {s : State} {k : Nat} (first : Tab.has s.cv.err k = false) (i : Nat) (st : Byte) :
    cvReject s k i st = { s with cv.err := Tab.put s.cv.err k (st, i) } := if_neg (by simp [first])

/-- A doorbell that passes its checks starts a transfer, its record written BUSY. -/
theorem cvAccept_starts {s u v : State} {k i : Nat} {b : Bytes} (en : poolEn s k = true) (slot : i < poolCount s k)
    (read : readMem s (poolInst s k) (recAddr s k i) 32 = .ok u b) (pass : recFail u k b = none) (idle : cvRunning u k i = false)
    (write : writeMem u (poolInst u k) (recAddr u k i) (recWith b 2 (BitVec.ofNat 8 (getLE b 18 1))) = .ok v []) :
    cvAccept s k i = { putXfer v (newXfer v k i (recWith b 2 (BitVec.ofNat 8 (getLE b 18 1)))) with
      pieceClock := v.pieceClock + 1 } := by
  rw [cvAccept, if_neg (by simp [en]), if_neg (Nat.not_le.2 slot), read]
  simp only [pass, idle, Option.orElse_none, Bool.false_eq_true, if_false, write]

theorem mem_putXfer (s : State) (x : CvXfer) : x ∈ (putXfer s x).cv.xfers := by simp [putXfer]

/-! ### A transfer's end (R148) -/

/-- With its result known and no counter to increment, a transfer writes its record DONE and is over. -/
theorem exec_culvertTransferDone_ends {s u : State} {k i : Nat} {x : CvXfer} {st : Byte} (found : xferOf s k i = some x)
    (open_ : x.finished = false) (result : x.result = some (st, [])) (plain : cvSynko (recWith x.rec_ 3 st) = 0xFFFF)
    (write : writeMemAt x.adm s x.inst x.recAt (recWith x.rec_ 3 st) = .ok u []) :
    exec (.culvertTransferDone k i) s = .next (dropXfer u x.pool x.slot) := by
  have done : cvStep s x = cvFinish s x st := by
    rw [cvStep, if_neg (by simp [open_]), result]
    exact if_neg (fun h => h.2 rfl)
  simp only [exec_culvertTransferDone, execCulvertTransferDone, found, done]
  simp only [cvFinish, write, plain, if_true]

/-! ### CV_POOL_CFG (R150) -/

theorem exec_cvPoolDisable_open {s : State} {k : Nat} {w : RegWr} (live : windowLive s = true) (pool : k < 64)
    (off : bitN w.data.toNat 31 = false) : exec (.cvPoolDisable k w) s = .next (poolCfg s k w) := by
  simp only [exec_cvPoolDisable, execCvPoolDisable]
  rw [if_neg (by simp [live, pool, off])]

/-- EN is bit 31 of the word that CV_POOL_CFG holds. -/
theorem poolEn_putReg (s : State) (k v : Nat) : poolEn (putReg s 0x0A (0x108 + 0x20 * k) v) k = bitN (v % 2 ^ 32) 31 := by
  have off : 0x100 + 0x20 * k + 8 = 0x108 + 0x20 * k := by omega
  rw [poolEn, poolReg, off, getReg_putReg_self]

/-- A word of 30 bits has EN clear. -/
theorem bitN_31_low (v : Nat) : bitN ((v % 2 ^ 30 + bit false * 2 ^ 31) % 2 ^ 32) 31 = false := by
  have low : (v % 2 ^ 30 + bit false * 2 ^ 31) % 2 ^ 32 < 2 ^ 31 := by
    simp only [bit, Bool.false_eq_true, if_false]
    omega
  rw [bitN, Nat.div_eq_of_lt low]
  rfl

/-! ### The overflow window (R151) -/

theorem exec_cvOvfRegister_length {s : State} {w : RegWrite} (live : windowLive s = true) (off : w.off = regAddr s 0x0A 8)
    (baseLo : regAddr s 0x0A 0 ≠ w.off) (baseHi : regAddr s 0x0A 4 ≠ w.off) :
    exec (.cvOvfRegister w) s = .next (ovfWrite s 8 w.wr) := by
  have reg : [0, 4, 8].find? (fun o => regAddr s 0x0A o = w.off) = some 8 := by
    rw [off] at baseLo baseHi ⊢
    simp [baseLo, baseHi]
  simp only [exec_cvOvfRegister, execCvOvfRegister, reg]
  exact if_neg (by simp [live])

/-- The cached map names the own window by its length, and no window of length 0. -/
theorem find_ownOvf (s : State) (v : Nat) :
    Tab.find (ownOvf s v).basin.map.ovf s.basin.slot = if v = 0 then none else some v := by
  by_cases zero : v = 0
  · simp [ownOvf, zero]
  · simp [ownOvf, zero]

end Sys2Proof.Machine

namespace Sys2Proof
open Sys2Proof.Machine

/-- Settles O22, one case per clause. A doorbell that its checks pass is `cvRing`: accepted, rejected or held. -/
theorem culvertTransfersAndPoolsActAsStated : Obligations.CulvertTransfersAndPoolsActAsStated := by
  unfold Obligations.CulvertTransfersAndPoolsActAsStated
  refine ⟨?starts, ?disabled, ?held, ?done, ?disable, ?disableBusy, ?overflow⟩
  case starts =>
    rintro s k w b u v _ _ live pool taken mode own clean stays rfl runs idle en slot read pass rfl write
    have woken := wakeBlk_frame s .culvert
    rw [← poolInst_congr woken.regs_eq, ← recAddr_congr woken.regs_eq] at read
    have accepted := cvAccept_starts ((poolEn_congr woken.regs_eq k).trans en) (by rwa [poolCount_congr woken.regs_eq]) read pass
      ((cvRunning_congr (woken.trans (readMem_ok read)).cv_eq ..).trans idle) write
    exact .of _ ((exec_culvertDoorbell_rings ⟨live, pool, taken, mode, own, clean, stays⟩).trans
      (congrArg _ ((cvRing_runs runs ..).trans accepted))) ⟨⟨_, mem_putXfer .., rfl, rfl, rfl⟩, rfl⟩
  case disabled =>
    intro s k w live pool taken mode own clean stays runs off first
    have woken := wakeBlk_frame s .culvert
    have rejected := (cvAccept_disabled ((poolEn_congr woken.regs_eq k).trans off) (fld w.data.toNat 11 0)).trans
      (cvReject_first (by rwa [woken.cv_eq]) ..)
    refine .of _ ((exec_culvertDoorbell_rings ⟨live, pool, taken, mode, own, clean, stays⟩).trans
      (congrArg _ ((cvRing_runs runs ..).trans rejected))) ?_
    simp only [woken.cv_eq]
  case held =>
    intro s k w live pool taken mode own clean stays held
    refine .of _ ((exec_culvertDoorbell_rings ⟨live, pool, taken, mode, own, clean, stays⟩).trans (congrArg _ (cvRing_held held ..))) ?_
    simp only [cvHold, (wakeBlk_frame s .culvert).cv_eq]
  case done =>
    intro s k i x st u found _ open_ result plain write
    exact .of _ (exec_culvertTransferDone_ends found open_ result plain write) rfl
  case disable =>
    intro s k w live pool taken off pass
    refine .of _ ((exec_cvPoolDisable_open live pool off).trans (congrArg _ (checked_ok taken pass))) ⟨?_, rfl⟩
    rw [poolEn_putReg, off, bitN_31_low]
  case disableBusy =>
    intro s k w live pool taken off mode feat clean busy changed inst logLow logHigh cntLow cntHigh free
    have fail : firstFail (poolCfgChecks s k w) = some Status.busy := by
      rw [poolCfgChecks, clean]
      simp [mode, feat, busy, changed, inst, logLow, logHigh, cntLow, cntHigh]
    refine .of _ ((exec_cvPoolDisable_open live pool off).trans (congrArg _ (checked_fail taken fail))) ?_
    exact ⟨reject_regs .., (reject_captures free ..).2⟩
  case overflow =>
    intro s w live taken off baseLo baseHi mode own feat clean fits small free reach changed
    have clean8 : noRsv w.wr (if 8 = 0 then 0x03FFFFFF else if 8 = 8 then 0xFFFF8000 else 0) = true := clean
    have written : ovfWrite s 8 w.wr =
        emit (ownOvf (putReg s 0x0A 8 w.wr.data.toNat) w.wr.data.toNat) (.ovfLength w.wr.data.toNat) := by
      rw [ovfWrite, checked_ok taken, if_pos ⟨rfl, changed⟩]
      rw [clean8]
      rcases reach with cxl | zero
      · simp [mode, own, feat, fits, small, free, cxl]
      · simp [mode, own, feat, free, zero]
    refine .of _ ((exec_cvOvfRegister_length live off baseLo baseHi).trans (congrArg _ written)) ⟨?_, find_ownOvf .., rfl⟩
    exact (getReg_putReg_self ..).trans (Nat.mod_eq_of_lt w.wr.data.isLt)

end Sys2Proof
end

section
/-!
PROOFS. The SPDM responder (spec file 12, R269 to R273; log 29) and the IDE key programming (spec file 06, R137; log 110).
-/
namespace Sys2Proof.Machine

/-! ### Requests on a transport (R269, R271) -/

section
variable {s : State} {tr : Transp}

theorem onSpdm_up (up : trUp s tr = true) (k : State) : onSpdm tr s k = .next k := if_pos up

theorem onSpdm_down (down : trUp s tr = false) (k : State) : onSpdm tr s k = .next s := if_neg (by simp [down])

theorem onNegotiated_met (up : trUp s tr = true) (algs : s.spdm.algs.contains tr = true) (k : State) :
    onNegotiated tr s k = .next k := by
  rw [onNegotiated, onSpdm_up up, if_pos algs]

theorem onNegotiated_early (up : trUp s tr = true) (algs : s.spdm.algs.contains tr = false) (k : State) :
    onNegotiated tr s k = .next (spdmSay s tr (.error spdmUnexpected)) := by
  rw [onNegotiated, onSpdm_up up, algs]
  rfl

/-! ### Measurements (R272) -/

/-- A measurement block begins with its index. -/
theorem measBlock_take_one (s : State) (i : Nat) : (measBlock s i).take 1 = [BitVec.ofNat 8 i] := rfl

theorem measAll_eq (s : State) :
    measAll s = measBlock s 1 ++ measBlock s 2 ++ measBlock s 3 ++ measBlock s 4 ++ measBlock s 5 ++ measBlock s 6 ++ measBlock s 7 := by
  simp only [measAll, List.map_cons, List.map_nil, List.flatten_cons, List.flatten_nil, List.append_nil, List.append_assoc]

/-! ### Messages in a session (R271, R273) -/

theorem onVerified_verifies {n : Nat} {x : Sess} (found : Tab.find s.spdm.sess n = some x) (up : trUp s x.tr = true)
    (k : Sess → State) : onVerified n true s k = .next (k x) := by
  simp only [onVerified, onSess, found]
  exact onSpdm_up up _

/-- A message that does not verify ends its session (R271). -/
theorem onVerified_fails {n : Nat} {x : Sess} (found : Tab.find s.spdm.sess n = some x) (up : trUp s x.tr = true)
    (k : Sess → State) : onVerified n false s k =
      .next (spdmSay { s with spdm := { s.spdm with sess := Tab.del s.spdm.sess n } } x.tr (.error spdmDecrypt)) := by
  simp only [onVerified, onSess, found]
  exact onSpdm_up up _
end

/-! ### IDE_KM (R137; log 110) -/

section
variable {s : State} {n : Option Nat}

/-- The device with a key installed for a stream: the streams are active, or not, by `ideOn`. -/
def ideKeyed (s : State) (stream : Nat) (key : Bytes) : State :=
  let t := { s with pt.ideKeys := Tab.put s.pt.ideKeys stream key }
  { t with pt.ide := s.pt.trained && ideOn t s.pt.cxl }

/-- Outside a qualifying session on the DOE mailbox a key is refused with ATTEST_REQUIRED (R273). -/
theorem exec_ideKmKeyProg_unattested (up : trUp s .doe = true) (other : ∀ x, qualSess s n = some x → x.tr ≠ .doe) (stream : Nat)
    (key : Bytes) : exec (.ideKmKeyProg n stream key) s = .next (emit s (.ideKm Status.attestRequired)) := by
  have noSess : (qualSess s n).filter (fun x => x.tr = .doe) = none := by
    simpa [Option.filter_eq_none_iff] using other
  simp [execIdeKmKeyProg, up, noSess]

/-- In one, the feature and the stream are checked before the key is installed. -/
theorem exec_ideKmKeyProg_attested {x : Sess} (up : trUp s .doe = true) (qual : qualSess s n = some x) (doe : x.tr = .doe)
    (stream : Nat) (key : Bytes) : exec (.ideKmKeyProg n stream key) s = .next (
      if !committed s 24 then emit s (.ideKm Status.featureNotNegotiated)
      else if 2 ≤ stream then emit s (.ideKm Status.badField)
      else emit (ideKeyed s stream key) (.ideKm Status.ok)) := by
  have inSess : (qualSess s n).filter (fun x => x.tr = .doe) = some x := by simp [qual, Option.filter, doe]
  simp only [exec_ideKmKeyProg, execIdeKmKeyProg, inSess]
  rw [if_neg (by simp [up]), apply_ite Host.Outcome.next, apply_ite Host.Outcome.next]
  rfl

/-- With its key, feature bit 24 and no CXL, the link stream of a trained link is active. -/
theorem ideKeyed_link_ide (trained : s.pt.trained = true) (pcie : s.pt.cxl = false) (com : committed s 24 = true) (key : Bytes) :
    (ideKeyed s 0 key).pt.ide = true := by
  simpa [ideKeyed, ideOn, trained, pcie, Tab.has, committed] using com
end

end Sys2Proof.Machine

namespace Sys2Proof
open Sys2Proof.Machine

/-- Settles O47, one case per clause: what a request is answered with once its transport is up, the algorithms are negotiated, or its
session's message verifies (`onSpdm_up`, `onNegotiated_met`, `onVerified_verifies`), and what it is refused with otherwise. -/
theorem spdmRequestsAreAnswered : Obligations.SpdmRequestsAreAnswered := by
  unfold Obligations.SpdmRequestsAreAnswered
  refine ⟨?version, ?versionDown, ?caps, ?capsEarly, ?algs, ?algsMissing, ?digests, ?digestsEarly, ?certificate, ?certificateSlot,
    ?challenge, ?measurement, ?measurements, ?exchange, ?exchangeBusy, ?finish, ?finishFails, ?update, ?endSession, ?fails,
    ?ideKey, ?ideStream, ?ideUnattested, ?ideFeature⟩
  case version =>
    intro s tr up
    exact .of _ ((exec_getVersion ..).trans (onSpdm_up up _)) ⟨List.mem_cons_self, rfl, rfl, rfl⟩
  case versionDown =>
    intro s tr down
    exact .of _ ((exec_getVersion ..).trans (onSpdm_down down _)) rfl
  case caps =>
    intro s tr up version
    refine .of _ ((exec_getCapabilities ..).trans (onSpdm_up up _)) ?_
    rw [if_pos version]
    exact ⟨List.mem_cons_self, rfl⟩
  case capsEarly =>
    intro s tr up version
    refine .of _ ((exec_getCapabilities ..).trans (onSpdm_up up _)) ?_
    rw [version]
    rfl
  case algs =>
    intro s tr a up caps p384 sha384 secp384r1 aes256gcm schedule
    refine .of _ ((exec_negotiateAlgorithms ..).trans (onSpdm_up up _)) ?_
    rw [caps, if_neg (by decide), if_pos ⟨p384, sha384, secp384r1, aes256gcm, schedule⟩]
    exact ⟨List.mem_cons_self, rfl⟩
  case algsMissing =>
    intro s tr a up caps missing
    refine .of _ ((exec_negotiateAlgorithms ..).trans (onSpdm_up up _)) ?_
    rw [caps, if_neg (by decide), if_neg (by rintro ⟨h1, h2, h3, h4, h5⟩; simp [h1, h2, h3, h4, h5] at missing)]
    rfl
  case digests =>
    intro s tr up algs
    exact .of _ ((exec_getDigests ..).trans (onNegotiated_met up algs _)) rfl
  case digestsEarly =>
    intro s tr up algs
    exact .of _ ((exec_getDigests ..).trans (onNegotiated_early up algs _)) rfl
  case certificate =>
    intro s tr off len up algs short
    refine .of _ ((exec_getCertificate ..).trans (onNegotiated_met up algs _)) ?_
    rw [Nat.min_eq_left short, show chainOf s = Config.certChain s.sys.fuses.serial from rfl]
    by_cases past : (Config.certChain s.sys.fuses.serial).length ≤ off
    · rw [if_pos (.inr past)]
      exact ⟨_, rfl, fun _ => rfl, fun inside => absurd past (Nat.not_le.2 inside)⟩
    · rw [if_neg (by simp [past])]
      exact ⟨_, rfl, fun h => absurd h past, fun _ => ⟨_, rfl⟩⟩
  case certificateSlot =>
    intro s tr slot off len up algs other
    refine .of _ ((exec_getCertificate ..).trans (onNegotiated_met up algs _)) ?_
    rw [if_pos (.inl other)]
    rfl
  case challenge =>
    intro s tr nonce up algs
    exact .of _ ((exec_challenge ..).trans (onNegotiated_met up algs _)) ⟨_, _, rfl, rfl, rfl⟩
  case measurement =>
    intro s tr i nonce up algs low high
    refine .of _ ((exec_getMeasurements ..).trans (onNegotiated_met up algs _)) ⟨_, rfl, measBlock_take_one s i, ?_⟩
    rw [if_neg (by omega), if_neg (by omega), if_neg (by omega)]
    rfl
  case measurements =>
    intro s tr nonce up algs
    refine .of _ ((exec_getMeasurements ..).trans (onNegotiated_met up algs _)) ?_
    rw [← measAll_eq]
    rfl
  case exchange =>
    intro s tr v up algs free
    refine .of _ ((exec_keyExchange ..).trans (onNegotiated_met up algs _)) ?_
    rw [if_neg (Nat.not_le.2 free)]
    exact ⟨rfl, ⟨_, Tab.find_put_self .., rfl, rfl, rfl⟩, fun k other => Tab.find_put_ne _ _ _ _ other,
      ⟨_, _, rfl, fun summary => if_pos summary⟩, rfl⟩
  case exchangeBusy =>
    intro s tr v up algs full
    refine .of _ ((exec_keyExchange ..).trans (onNegotiated_met up algs _)) ?_
    rw [if_pos full]
    rfl
  case finish =>
    intro s n x found up
    exact .of _ ((exec_finish ..).trans (onVerified_verifies found up _))
      ⟨Tab.find_put_self .., fun k other => Tab.find_put_ne _ _ _ _ other, rfl⟩
  case finishFails =>
    intro s n x found up
    exact .of _ ((exec_finish ..).trans (onVerified_fails found up _)) ⟨Tab.find_del_self .., rfl⟩
  case update =>
    intro s n x found up finished
    refine .of _ ((exec_keyUpdate ..).trans (onVerified_verifies found up _)) ?_
    rw [if_neg (by simp [finished])]
    exact ⟨Tab.find_put_self .., rfl⟩
  case endSession =>
    intro s n x found up
    exact .of _ ((exec_endSession ..).trans (onVerified_verifies found up _))
      ⟨Tab.find_del_self .., fun k other => Tab.find_del_ne _ _ _ other, rfl⟩
  case fails =>
    intro s n x found up
    exact ⟨.of _ ((exec_keyUpdate ..).trans (onVerified_fails found up _)) rfl,
      .of _ ((exec_endSession ..).trans (onVerified_fails found up _)) rfl⟩
  case ideKey =>
    intro s n stream key x up qual doe com known
    refine .of _ (exec_ideKmKeyProg_attested up qual doe stream key) ?_
    rw [if_neg (by simp [com]), if_neg (Nat.not_le.2 known)]
    refine ⟨Tab.find_put_self .., fun k other => Tab.find_put_ne _ _ _ _ other, ?_, rfl⟩
    rintro rfl trained pcie
    exact ideKeyed_link_ide trained pcie com key
  case ideStream =>
    intro s n stream key x up qual doe com unknown
    refine .of _ (exec_ideKmKeyProg_attested up qual doe stream key) ?_
    rw [if_neg (by simp [com]), if_pos unknown]
    rfl
  case ideUnattested =>
    intro s n stream key up other
    exact .of _ (exec_ideKmKeyProg_unattested up other stream key) rfl
  case ideFeature =>
    intro s n stream key x up qual doe com
    refine .of _ (exec_ideKmKeyProg_attested up qual doe stream key) ?_
    rw [if_pos (by simp [com])]
    rfl

end Sys2Proof
end

section
/-!
PROOFS. HG_CQDB: what a write of the completion doorbell leaves of its completion queue and of the queue's reservations (spec file 07,
R170, R171).
-/
namespace Sys2Proof.Machine

variable {s : State} {c : Nat} {w : RegWr} {x : Cq}

theorem cqOpen_find (h : CqOpen s c w x) : Tab.find s.cqs c = some x := by
  obtain ⟨-, -, -, -, found⟩ := h
  exact found

/-- The three outcomes of R171, in the order in which the register decides them. -/
theorem exec_hgCqdb_open (h : CqOpen s c w x) : exec (.hgCqdb c w) s = .next (
    if 2 ^ x.log2 < sub32 x.cpi w.data.toNat then reject s (cqAddr s c 0) none w Status.badField
    else if sub32 x.cpi w.data.toNat < sub32 x.cpi x.cci then putCq s c { x with cci := w.data.toNat }
    else s) := by
  rw [exec_hgCqdb, execHgCqdb, cqReg_open h]

/-- Replacing a completion queue's record moves its reservations by the change of CPI - CCI alone: the entries still owed to it stay. -/
theorem cqRsv_putCq (found : Tab.find s.cqs c = some x) (y : Cq) :
    cqRsv (putCq s c y) c + sub32 x.cpi x.cci = cqRsv s c + sub32 y.cpi y.cci := by
  simp only [cqRsv, putCq, found, Tab.find_put_self]
  omega

/-- A rejected register write leaves every reservation. -/
theorem cqRsv_reject (a : Nat) (i : Option Nat) (st : Byte) : cqRsv (reject s a i w st) c = cqRsv s c := by
  simp only [cqRsv, reject_cqs, reject_wqs, reject_infl]

end Sys2Proof.Machine

namespace Sys2Proof
open Sys2Proof.Machine

/-- Settles O56, one case per outcome of the doorbell (`exec_hgCqdb_open`). -/
theorem completionDoorbellReleasesEntries : Obligations.CompletionDoorbellReleasesEntries := by
  unfold Obligations.CompletionDoorbellReleasesEntries
  refine ⟨?above, ?ahead, ?behind⟩
  case above =>
    intro s c w x opened above
    refine .of (reject s (cqAddr s c 0) none w Status.badField) ?_ ⟨rfl, ?_, cqRsv_reject ..⟩
    · rw [exec_hgCqdb_open opened, if_pos above]
    · rw [reject_cqs, cqOpen_find opened]
  case ahead =>
    intro s c w x opened inRing ahead
    refine .of (putCq s c { x with cci := w.data.toNat }) ?_ ⟨Tab.find_put_self .., ?_, rfl⟩
    · rw [exec_hgCqdb_open opened, if_neg (Nat.not_lt.2 inRing), if_pos ahead]
    · have moved := cqRsv_putCq (cqOpen_find opened) { x with cci := w.data.toNat }
      dsimp only at moved
      omega
  case behind =>
    intro s c w x opened inRing behind
    refine .of s ?_ rfl
    rw [exec_hgCqdb_open opened, if_neg (Nat.not_lt.2 inRing), if_neg (Nat.not_lt.2 behind)]

end Sys2Proof
end

section
/-!
PROOFS. States that the statements about the queues do not exclude and in which one of their clauses fails, each run through the model
(R160 to R177).
-/
namespace Sys2Proof.Machine

/-- A READY device with one push window, where only `inst` 0, the manager's, exists. -/
def soleInstance : State :=
  { newWorker with boot.image := some { smallImage with partner := some { ovf := 0, push := 1 } }, insts := [(0, inst0)] }

/-- A write of a word by Tender. -/
def tenderWrite (d : Word) : RegWr := ⟨.tender, true, d⟩

/-- An enabled queue of `inst` 0 with a ring of 128 entries and 64 of them posted. -/
def postedQueue : Wq :=
  { inst := 0, kind := .lq, pushEn := false, weight := 1, turn := 0, pfDepth := 64, ringLog2 := 7, ring := 0, qp := 0, cq := 0,
    pushIdx := 0, limit := 256, st := .enabled, pi := 64, ci := 0, errStatus := 0, errOwed := false, fence := none, pushHeld := [],
    invStart := 0, invDone := false, invTag := 0, invCi := 0, cache := [], gate := none, holdSince := none, fireTag := none }

/-- The same with push window `n` and its posted entries read into the descriptor cache. -/
def cachedQueue (n : Nat) : Wq :=
  { postedQueue with
    pushEn := true, pushIdx := n,
    cache := (List.range 64).map fun i => (i, { bytes := zeros 64, pushed := false, reads := 0 }) }

/-- 255 such queues, which hold 16320 lines of the descriptor cache; the table lists queue 0 last. -/
def unorderedQueues : State :=
  { soleInstance with
    own.push := [(0, 0)], own.wq := [(0, 0), (1, 0), (2, 0), (3, 0)],
    wqs := (List.range' 1 254 ++ [0]).map fun q => (q, cachedQueue q) }

/-- A push of the entry at index 64. -/
def nextPush : PushWr := { src := .tender, full := true, off := 0, data := 0x80 :: zeros 63 }

/-- A queue on which a push waits for the held wake of Headgate (R72, R179). -/
def heldQueue : Wq := { postedQueue with pushHeld := [0x80 :: zeros 63] }

/-- The device of that queue. -/
def pushWaits : State :=
  { soleInstance with
    own.wq := [(0, 0)], wqs := [(0, heldQueue)], clk.gated := [.headgate], clk.heldWakes := [.headgate],
    lv.regions := [(8, { region soleInstance 8 with thrOwn := true })] }

end Sys2Proof.Machine

namespace Sys2Proof
open Sys2Proof.Machine

/-- Refutes O23: the clause of a push taken while Headgate runs asks for a free line of the descriptor cache, and its conditions do not
exclude a queue table whose keys do not rise. There the push lists queue 0 a second time, the lines of both records count, and for want of
a free line a ring copy of queue 0 is evicted (R162, R166): 64 copies are left where the clause has 65. -/
theorem not_entriesArePostedFetchedAndAccepted : ¬ Obligations.EntriesArePostedFetchedAndAccepted := by
  unfold Obligations.EntriesArePostedFetchedAndAccepted
  rintro ⟨-, -, -, push, -⟩
  obtain ⟨t, ht, found, -⟩ := push unorderedQueues 0 nextPush 0 0 (cachedQueue 0) rfl rfl (by decide) (by decide) rfl rfl rfl rfl
    (by decide) (by decide +kernel) (by decide) rfl rfl (by decide) (by decide) (by decide) (by decide) (by decide +kernel) rfl
  have evicted : readAfter (.pushWrite 0 nextPush) unorderedQueues (fun t => (Tab.find t.wqs 0).map (·.cache.length)) =
      some (some 64) := by decide +kernel
  have kept : (Tab.find t.wqs 0).map (·.cache.length) = some 65 := by
    rw [found]
    decide +kernel
  rw [readAfter_of_next _ ht, kept] at evicted
  exact absurd evicted (by decide)

/-- Refutes O24: the clause of EN = 0 on a queue that owes nothing has the queue DISABLED, and its conditions do not exclude a push that
still waits for its line, here behind Headgate's held wake (R72, R162). The queue drains until that push is spilled (R175). -/
theorem not_workQueuesFollowTheirCommands : ¬ Obligations.WorkQueuesFollowTheirCommands := by
  unfold Obligations.WorkQueuesFollowTheirCommands
  rintro ⟨-, -, -, -, -, disable, -⟩
  obtain ⟨t, ht, ⟨y, found, disabled, -⟩, -⟩ := disable pushWaits 0 (tenderWrite 0) heldQueue
    ⟨rfl, ⟨rfl, rfl⟩, by decide, by decide, rfl⟩ (by decide) (by decide) rfl (by decide) rfl rfl
  have drains : readAfter (.hgQctrlDisable 0 (tenderWrite 0)) pushWaits (fun t => (Tab.find t.wqs 0).map (·.st)) =
      some (some .draining) := by decide +kernel
  rw [readAfter_of_next _ ht, found, Option.map_some, disabled] at drains
  exact absurd drains (by decide)

/-- Refutes O25: the clause of CREATE lets no grant change, and its conditions do not exclude the first completion queue that `inst` 0
creates in a free block. It takes the block with it (R375). -/
theorem not_completionQueuesFollowTheirCommands : ¬ Obligations.CompletionQueuesFollowTheirCommands := by
  unfold Obligations.CompletionQueuesFollowTheirCommands
  rintro ⟨create, -⟩
  obtain ⟨t, ht, -, frame⟩ := create soleInstance 0 (tenderWrite 1)
    ⟨rfl, ⟨rfl, rfl⟩, by decide, by decide, by decide, by decide, by decide, by decide⟩
    (by decide) (by decide) (by decide) (by decide) rfl
  have taken : readAfter (.hgCcmdCreate 0 (tenderWrite 1)) soleInstance (fun t => t.own.cq) = some [(0, 0)] := by decide +kernel
  have kept : t.own.cq = [] := by rw [frame]; rfl
  rw [readAfter_of_next _ ht, kept] at taken
  exact absurd taken (by decide)

end Sys2Proof
end

section
/-!
PROOFS. Entries of work queues: what their admission, their dispatch and their completion leave (spec file 08, R186, R192, R197; R212).
-/
namespace Sys2Proof.Machine

/-! ### An entry from its admission to its completion (R192, R197, R212) -/

/-- An entry's record stands in a state as it was accepted, under the keys `ks`. -/
def Stands (u : State) (q i : Nat) (r : Infl) (ks : List Nat) : Prop :=
  ∃ x, inflOf u q i = some x ∧ x.done = r.done ∧ x.seq = r.seq ∧ x.keys = ks

section
variable {s t u : State} {q i : Nat} {r : Infl} {ks : List Nat}

theorem stands_of_found (found : inflOf s q i = some r) : Stands s q i r r.keys := ⟨r, found, rfl, rfl, rfl⟩

theorem Stands.of_infl (h : Stands u q i r ks) (same : t.infl = u.infl) : Stands t q i r ks := by
  obtain ⟨x, found, rest⟩ := h
  exact ⟨x, by rwa [inflOf, same], rest⟩

theorem Stands.underway (h : Stands u q i r ks) (unfinished : r.done = none) : Underway (dispatched u q i) q i ks := by
  obtain ⟨x, found, done, -, rfl⟩ := h
  exact dispatched_underway found (done.trans unfinished)

theorem Stands.doneBad (h : Stands u q i r ks) (unfinished : r.done = none) (st : Byte) : DoneBad (finishSt u q i st) q i st := by
  obtain ⟨x, found, done, -, -⟩ := h
  exact finishSt_done st found (done.trans unfinished)

theorem Stands.doneOk (h : Stands u q i r ks) (unfinished : r.done = none) (n : Nat) :
    DoneOk (finish u q i { status := Status.ok, cflags := 0, detail := 0, bytes := n, aux := 0 }) q i n := by
  obtain ⟨x, found, done, -, -⟩ := h
  exact finish_ok found (done.trans unfinished) rfl

theorem Underway.of_infl {s t : State} (h : Underway s q i ks) (same : t.infl = s.infl) : Underway t q i ks := by
  obtain ⟨x, found, rest⟩ := h
  exact ⟨x, by rwa [inflOf, same], rest⟩

theorem noteAdmit_stands (found : inflOf s q i = some r) (ks spans : List Nat) : Stands (noteAdmit s q i ks spans) q i r ks :=
  ⟨_, Tab.find_modify_self _ found, rfl, rfl, rfl⟩

/-! ### Admission under local operands (R212, R213) -/

variable {inst : Nat} {os : List LocOpd}

theorem admitKey_infl (s : State) (inst key need addr len : Nat) (basin remote : Bool) :
    (admitKey s inst key need addr len basin remote).1.infl = s.infl := by
  obtain ⟨keys, log, pages, insts, h⟩ := admitKey_frame s inst key need addr len basin remote
  rw [h]

theorem admitOpds_infl (s : State) (inst : Nat) (os : List LocOpd) : (admitOpds s inst os).1.infl = s.infl := by
  induction os generalizing s with
  | nil => rfl
  | cons o os ih =>
    have head := admitKey_infl s inst o.key o.need o.addr o.len false false
    unfold admitOpds
    split <;> rename_i admitted <;> rw [admitted] at head
    · exact head
    · exact (ih _).trans head

/-- Operands that pass their checks leave all but the failing copies of their keys' records (R202). -/
theorem admitOpds_ok (h : admitOpds s inst os = (u, none)) : u = { s with keys := u.keys } := by
  induction os generalizing s with
  | nil => cases h; rfl
  | cons o os ih =>
    unfold admitOpds at h
    split at h
    · cases h
    · rename_i w admitted
      rw [ih h, (admitKey_ok admitted).1]

/-- An entry that is admitted, now or before, stands under its keys. -/
theorem admitOnce_ok (found : inflOf s q i = some r) (h : admitOnce s q i inst r os = (u, none)) :
    Stands u q i r (keysIn r (os.map (·.key))) ∧ u = { s with infl := u.infl, keys := u.keys, pieceClock := u.pieceClock } := by
  unfold admitOnce at h
  split at h <;> rename_i before
  · cases h
    exact ⟨by rw [keysIn, if_pos before]; exact stands_of_found found, rfl⟩
  · rw [keysIn, if_neg before]
    split at h
    · cases h
    · rename_i w admitted
      cases h
      have keys := admitOpds_ok admitted
      exact ⟨noteAdmit_stands (by rwa [keys]) .., by rw [noteAdmit, keys]⟩

/-- An entry without operands passes its admission. -/
theorem admitOnce_nil (s : State) (q i inst : Nat) (r : Infl) :
    ∃ u, admitOnce s q i inst r [] = (u, none) ∧ u = { s with infl := u.infl, pieceClock := u.pieceClock } := by
  unfold admitOnce
  split
  · exact ⟨_, rfl, rfl⟩
  · exact ⟨_, rfl, rfl⟩

/-- A refused entry stands as it was. -/
theorem admitOnce_refused {st : Byte} (found : inflOf s q i = some r) (h : admitOnce s q i inst r os = (u, some st)) :
    Stands u q i r r.keys := by
  unfold admitOnce at h
  split at h
  · cases h
  · split at h
    · rename_i w st' refused
      cases h
      have infl := admitOpds_infl s inst os
      rw [refused] at infl
      exact (stands_of_found found).of_infl infl
    · cases h
end

end Sys2Proof.Machine
end

section
/-!
PROOFS. NOP, ADVISE and PREFETCH entries, and the end of a span's move (spec file 08, R186, R197; spec file 09, R206 to R208; logs 22, 107
and 123).
-/
namespace Sys2Proof.Machine

/-! ### ADVISE (R208) -/

/-- The spans of an entry's range are those of R208. -/
theorem spansOver_eq (s : State) (inst addr len : Nat) : spansOver s inst addr len = spansIn s inst addr len := rfl

/-- Good records need no repair. -/
theorem foldl_spanRepair_good {s : State} {ks : List Nat} (good : spansGood s ks) : ks.foldl spanRepair s = s := by
  induction ks with
  | nil => rfl
  | cons k ks ih =>
    have head : spanRepair s k = s := by
      unfold spanRepair
      split
      · rename_i sp found
        obtain ⟨bad1, bad2⟩ := good k List.mem_cons_self sp found
        simp [bad1, bad2]
      · rfl
    rw [List.foldl_cons, head, ih (fun j hj => good j (List.mem_cons_of_mem _ hj))]

/-- Good records are not lost. -/
theorem find_spanLost_good {s : State} {ks : List Nat} (good : spansGood s ks) : ks.find? (spanLost s) = none := by
  rw [List.find?_eq_none]
  intro k hk
  unfold spanLost
  split
  · rename_i sp found
    simp [(good k hk sp found).1]
  · simp

/-- Each of the five advices is an `advise` with an effect of its own. -/
theorem exec_advice {q i n : Nat} {c : Instr} (s : State)
    (h : (n, c) ∈ [(1, Instr.adviseWillNeed q i), (2, .adviseDontNeed q i), (3, .adviseReadMostly q i), (4, .advisePreferHbm q i),
      (5, .advisePreferPartner q i)]) : ∃ eff, exec c s = advise q i n s eff := by
  simp only [List.mem_cons, Prod.mk.injEq, List.not_mem_nil, or_false] at h
  rcases h with ⟨rfl, rfl⟩ | ⟨rfl, rfl⟩ | ⟨rfl, rfl⟩ | ⟨rfl, rfl⟩ | ⟨rfl, rfl⟩
  · exact ⟨_, by rw [exec_adviseWillNeed, execAdviseWillNeed]⟩
  · exact ⟨_, by rw [exec_adviseDontNeed, execAdviseDontNeed]⟩
  · exact ⟨_, by rw [exec_adviseReadMostly, execAdviseReadMostly]⟩
  · exact ⟨_, by rw [exec_advisePreferHbm, execAdvisePreferHbm]⟩
  · exact ⟨_, by rw [exec_advisePreferPartner, execAdvisePreferPartner]⟩

/-- An ADVISE entry that may be dispatched, with the advice `n` and its key admitted. -/
structure Advised (s : State) (q i n : Nat) (x : Wq) (r : Infl) (u : State) : Prop where
  may : mayDispatch s q i 0x13 = some (x, r)
  advice : getLE r.ent 28 1 = n
  admitted : admitKey s x.inst (entKey r.ent) rRead (entAddr r.ent) (entLen r.ent) false false = (u, none)

section
variable {s u : State} {q i n k : Nat} {x : Wq} {r : Infl} {ks : List Nat}

theorem Advised.frame (h : Advised s q i n x r u) : u = { s with keys := u.keys } := (admitKey_ok h.admitted).1

theorem Advised.stands (h : Advised s q i n x r u) : Stands u q i r r.keys := by
  obtain ⟨-, found, -, -, -⟩ := mayDispatch_some h.may
  exact (stands_of_found found).of_infl (by rw [h.frame])

theorem Advised.unfinished (h : Advised s q i n x r u) : r.done = none := by
  obtain ⟨-, -, unfinished, -, -⟩ := mayDispatch_some h.may
  exact unfinished

/-- An ADVISE over good records completes with OK once it has had its effect on the spans it names. -/
theorem Advised.completes (h : Advised s q i n x r u) (names : spansIn u x.inst (entAddr r.ent) (entLen r.ent) = ks) (nonempty : ks ≠ [])
    (good : spansGood u ks) (eff : State → List Nat → State) (kept : (eff u ks).infl = u.infl) :
    ∃ t, advise q i n s eff = .next t ∧ DoneOk t q i 0 ∧ t = { eff u ks with infl := t.infl } := by
  subst names
  refine ⟨finishSt (eff u _) q i Status.ok, ?_, (h.stands.of_infl kept).doneBad h.unfinished _, finishSt_frame ..⟩
  simp only [advise, h.may, h.advice, h.admitted, spansOver_eq, nonempty, find_spanLost_good good, foldl_spanRepair_good good, ne_eq,
    not_true_eq_false, if_false]

/-- An ADVISE that names a lost record ends with DESCRIPTOR_CRC, logged, whatever its effect would have been (R202). -/
theorem Advised.finds_lost (h : Advised s q i n x r u) (named : k ∈ spansIn u x.inst (entAddr r.ent) (entLen r.ent))
    (lost : spanLost u k = true) (eff : State → List Nat → State) :
    ∃ t, advise q i n s eff = .next t ∧ DoneBad t q i Status.descriptorCrc ∧ t = { u with infl := t.infl, log := t.log } := by
  obtain ⟨j, first⟩ := Option.isSome_iff_exists.1 (List.find?_isSome.2 ⟨k, named, lost⟩)
  refine ⟨finishSt (logCorrupt u 0x07 1 j) q i Status.descriptorCrc, ?_,
    (h.stands.of_infl (logEv_infl ..)).doneBad h.unfinished _, ?_⟩
  · simp only [advise, h.may, h.advice, h.admitted, spansOver_eq, List.ne_nil_of_mem named, first, ne_eq, not_true_eq_false, if_false]
  · rw [finishSt_frame, logCorrupt, logEv_frame]

/-! ### The effects of the advices (R208) -/

/-- What loading pieces can change: the span cache and the requests to the partner. -/
def LoadFrame (s t : State) : Prop := t = { s with pieces := t.pieces, pieceClock := t.pieceClock, ats := t.ats, out := t.out }

theorem LoadFrame.trans {s t u : State} (h : LoadFrame s t) (k : LoadFrame t u) : LoadFrame s u := by
  unfold LoadFrame at *
  rw [k, h]

theorem usePiece_load (s : State) (k a : Nat) (p : Piece) : LoadFrame s ((usePiece s k a p).getD s) := by
  unfold usePiece installPiece
  split
  · rfl
  · cases roomFor s <;> rfl

theorem adviseAts_load (f : Nat) (s : State) (k : Nat) (sp : Span) (a : Nat) : LoadFrame s (adviseAts f s k sp a) := by
  induction f generalizing a with
  | zero => rfl
  | succ f ih =>
    unfold adviseAts
    split
    · rfl
    · split
      · exact ih _
      · split <;> rfl

theorem loadSpan_load (s : State) (k : Nat) : LoadFrame s (loadSpan s k) := by
  unfold loadSpan
  split
  · rfl
  · split
    · rfl
    · split
      · split
        · exact adviseAts_load ..
        · rfl
      · split
        · rfl
        · exact usePiece_load ..

theorem foldl_loadSpan_load (ks : List Nat) (s : State) : LoadFrame s (ks.foldl loadSpan s) := by
  induction ks generalizing s with
  | nil => rfl
  | cons k ks ih => exact (loadSpan_load s k).trans (ih _)

theorem foldl_dropFree_frame (ks : List Nat) (s : State) :
    ks.foldl dropFree s = { s with pieces := (ks.foldl dropFree s).pieces } := by
  induction ks generalizing s with
  | nil => rfl
  | cons k ks ih =>
    rw [List.foldl_cons, ih]
    rfl

/-- DONT_NEED leaves the pieces of other spans and those in use. -/
theorem mem_foldl_dropFree (ks : List Nat) (s : State) (p : Piece) :
    p ∈ (ks.foldl dropFree s).pieces ↔ p ∈ s.pieces ∧ (p.span ∉ ks ∨ pieceInUse s p = true) := by
  induction ks generalizing s with
  | nil => simp
  | cons k ks ih =>
    have one : p ∈ (dropFree s k).pieces ↔ p ∈ s.pieces ∧ (p.span ≠ k ∨ pieceInUse s p = true) := by simp [dropFree]
    have use : pieceInUse (dropFree s k) p = pieceInUse s p := rfl
    rw [List.foldl_cons, ih, one, use, List.mem_cons]
    tauto

theorem find_mapSpans (s : State) (ks : List Nat) (f : Span → Span) (k : Nat) :
    Tab.find (mapSpans s ks f).spans k = (Tab.find s.spans k).map fun sp => if ks.contains k then f sp else sp :=
  Tab.find_map (fun k sp => if ks.contains k then f sp else sp) s.spans k

/-- An advice that is kept in the records of the spans it names, one lemma for READ_MOSTLY, PREFER_HBM and PREFER_PARTNER. -/
theorem Advised.maps (h : Advised s q i n x r u) (names : spansIn u x.inst (entAddr r.ent) (entLen r.ent) = ks) (nonempty : ks ≠ [])
    (good : spansGood u ks) (f : Span → Span) :
    ∃ t, advise q i n s (fun s ks => mapSpans s ks f) = .next t ∧ DoneOk t q i 0 ∧
      (∀ k sp, Tab.find u.spans k = some sp → k ∈ ks → Tab.find t.spans k = some (f sp)) ∧
      (∀ k, k ∉ ks → Tab.find t.spans k = Tab.find u.spans k) ∧ t = { u with infl := t.infl, spans := t.spans } := by
  obtain ⟨t, ht, done, frame⟩ := h.completes names nonempty good (fun s ks => mapSpans s ks f) rfl
  have spans : t.spans = (mapSpans u ks f).spans := by rw [frame]
  refine ⟨t, ht, done, ?_, ?_, by rw [spans]; exact frame⟩
  · intro k sp found named
    rw [spans, find_mapSpans, found]
    simp [named]
  · intro k other
    rw [spans, find_mapSpans]
    simp [other]
end

/-! ### PREFETCH (R206, R207) -/

/-- A PREFETCH entry that may be dispatched, admitted, over a range that a span holds whole. -/
structure Prefetches (s : State) (q i : Nat) (x : Wq) (r : Infl) (u : State) (k : Nat) (sp : Span) : Prop where
  may : mayDispatch s q i 0x12 = some (x, r)
  admitted : PfAdmitted s q i x r u
  covered : spanOver u x.inst (entAddr r.ent) (entLen r.ent) = some (k, sp)

/-- A PREFETCH entry ends with OK and the bytes of its range. -/
def prefetched (u : State) (q i : Nat) (r : Infl) : State :=
  finish u q i { status := Status.ok, cflags := 0, detail := 0, bytes := entLen r.ent, aux := 0 }

/-- What a PREFETCH answers over a span that cannot migrate, by the span's kind and the target (R206). -/
def pfFixed (u : State) (q i : Nat) (x : Wq) (r : Infl) (sp : Span) : Result :=
  match sp.kind, decide (getLE r.ent 28 1 = 1) with
  | .ats, false =>
    (match loadAts (entLen r.ent + 1) u x.inst (entAddr r.ent) (entLen r.ent) with
    | .ok v _ => .next (prefetched v q i r)
    | .fault v st _ => .next (finishSt v q i st)
    | .wait v => .next v)
  | .phys, false => .next (prefetched u q i r)
  | .plot, false => .next (prefetched u q i r)
  | .hbm, true => .next (prefetched u q i r)
  | _, _ => .next (finishSt u q i Status.notPermitted)

/-- What an admitted PREFETCH answers, by the span that holds its range (R206, R207). -/
def pfServe (u : State) (q i : Nat) (x : Wq) (r : Infl) (k : Nat) (sp : Span) : Result :=
  if sp.bad1 ∧ sp.bad2 then .next (finishSt (logCorrupt u 0x07 1 k) q i Status.descriptorCrc)
  else if sp.moving.isSome then .next u
  else if sp.migr then
    if entAddr r.ent ≠ sp.start ∨ entLen r.ent ≠ sp.len then .next (finishSt u q i Status.bounds)
    else if sp.resHbm = decide (getLE r.ent 28 1 = 1) then .next (prefetched u q i r)
    else .next (beginMove u q i k sp)
  else pfFixed u q i x r sp

section
variable {s u v : State} {q i k : Nat} {x : Wq} {r : Infl} {sp : Span} {b : Bytes}

theorem pfAdmit_stands (found : inflOf s q i = some r) (admitted : PfAdmitted s q i x r u) :
    Stands u q i r (keysIn r [entKey r.ent]) := by
  unfold PfAdmitted pfAdmit at admitted
  split at admitted <;> rename_i before
  · cases admitted
    rw [keysIn, if_pos before]
    exact stands_of_found found
  · rw [keysIn, if_neg before]
    split at admitted
    · rename_i w key
      cases admitted
      exact noteAdmit_stands (by rwa [(admitKey_ok key).1]) ..
    · rename_i refused
      exact absurd admitted (refused _)

theorem Prefetches.stands (h : Prefetches s q i x r u k sp) : Stands u q i r (keysIn r [entKey r.ent]) := by
  obtain ⟨-, found, -, -, -⟩ := mayDispatch_some h.may
  exact pfAdmit_stands found h.admitted

theorem Prefetches.unfinished (h : Prefetches s q i x r u k sp) : r.done = none := by
  obtain ⟨-, -, unfinished, -, -⟩ := mayDispatch_some h.may
  exact unfinished

theorem Prefetches.serve (h : Prefetches s q i x r u k sp) : exec (.prefetch q i) s = pfServe u q i x r k sp := by
  obtain ⟨may, admitted, covered⟩ := h
  unfold PfAdmitted pfAdmit at admitted
  simp only [exec_prefetch, execPrefetch, may]
  split at admitted <;> rename_i before
  · cases admitted
    simp only [if_pos before, covered]
    rfl
  · simp only [if_neg before]
    split at admitted
    · rename_i w key
      cases admitted
      simp only [key, covered]
      rfl
    · rename_i refused
      exact absurd admitted (refused _)

/-- The record that holds the range is good and its span does not move. -/
structure SpanStill (sp : Span) : Prop where
  good : (sp.bad1 && sp.bad2) = false
  still : sp.moving = none

theorem pfServe_still (h : SpanStill sp) : pfServe u q i x r k sp =
    if sp.migr then
      if entAddr r.ent ≠ sp.start ∨ entLen r.ent ≠ sp.len then .next (finishSt u q i Status.bounds)
      else if sp.resHbm = decide (getLE r.ent 28 1 = 1) then .next (prefetched u q i r)
      else .next (beginMove u q i k sp)
    else pfFixed u q i x r sp := by
  obtain ⟨good, still⟩ := h
  rw [pfServe, if_neg (by simpa using good), if_neg (by simp [still])]

/-- A PREFETCH whose serving ends it with OK, in a state that left the entries alone. -/
theorem Prefetches.ends_ok (h : Prefetches s q i x r u k sp) (kept : v.infl = u.infl)
    (served : pfServe u q i x r k sp = .next (prefetched v q i r)) :
    Answers (.prefetch q i) s fun t => DoneOk t q i (entLen r.ent) ∧ t = { v with infl := t.infl } :=
  .of _ (h.serve.trans served) ⟨(h.stands.of_infl kept).doneOk h.unfinished _, finish_frame ..⟩

/-- A PREFETCH whose serving ends it with a failing status. -/
theorem Prefetches.ends_bad (h : Prefetches s q i x r u k sp) {st : Byte}
    (served : pfServe u q i x r k sp = .next (finishSt u q i st)) :
    Answers (.prefetch q i) s fun t => DoneBad t q i st ∧ t = { u with infl := t.infl } :=
  .of _ (h.serve.trans served) ⟨h.stands.doneBad h.unfinished _, finishSt_frame ..⟩

/-- Fetching the translations of a range changes what a translation changes. -/
theorem loadAts_frame (f : Nat) (s : State) (inst a n : Nat) : ReadFrame s (loadAts f s inst a n).state := by
  induction f generalizing s a n with
  | zero => rfl
  | succ f ih =>
    have step := translateAt_frame none s inst a n false
    unfold loadAts translate
    split
    · rfl
    · split <;> rename_i h <;> rw [h] at step
      · exact step.trans (ih ..)
      · exact step
      · exact step
      · exact step

theorem loadAts_ok {f inst a n : Nat} (h : loadAts f s inst a n = .ok v b) : ReadFrame s v := by
  have frame := loadAts_frame f s inst a n
  rwa [h] at frame
end

/-! ### The end of a span's move (R207) -/

theorem rxRelease_of_none_held {s : State} (noFrames : s.rxHeld = []) : rxRelease s = s := by
  have cleared : { s with rxHeld := [] } = s := by rw [← noFrames]
  rw [rxRelease, cleared, noFrames]
  rfl

section
variable {s u v : State} {k q i : Nat} {sp : Span} {b c : Bytes}

theorem exec_spanMoveDone_waits (found : Tab.find s.spans k = some sp) (moving : sp.moving = some (q, i))
    (used : spanUsed s k sp.movingAt = true) : exec (.spanMoveDone k) s = .next s := by
  simp only [exec_spanMoveDone, execSpanMoveDone, found, moving, used, if_true]

/-- A span whose bytes could all be copied resides on the other side from then on. -/
theorem exec_spanMoveDone_copied (found : Tab.find s.spans k = some sp) (moving : sp.moving = some (q, i))
    (free : spanUsed s k sp.movingAt = false)
    (read : readMem { s with spans := Tab.put s.spans k { sp with moving := none } } sp.inst sp.start sp.len = .ok u b)
    (write : writeMem (dropPieces { u with spans := Tab.put u.spans k { sp with moving := none, resHbm := !sp.resHbm } } k)
      sp.inst sp.start b = .ok v c) :
    exec (.spanMoveDone k) s =
      .next (rxRelease (finish v q i { status := Status.ok, cflags := 0, detail := 0, bytes := sp.len, aux := 0 })) := by
  simp only [exec_spanMoveDone, execSpanMoveDone, found, moving, free, Bool.false_eq_true, if_false, read, write]
end

end Sys2Proof.Machine

namespace Sys2Proof
open Sys2Proof.Machine

/-- Settles O26, one case per clause. The advices go through `Advised.completes`, a PREFETCH through `Prefetches.serve`. -/
theorem entriesCompleteAtTheSpans : Obligations.EntriesCompleteAtTheSpans := by
  unfold Obligations.EntriesCompleteAtTheSpans
  refine ⟨?nop, ?willNeed, ?dontNeed, ?readMostly, ?preferHbm, ?preferPartner, ?moves, ?resident, ?bounds, ?here, ?fetched,
    ?notPermitted, ?lostNamed, ?lostHeld, ?moveWaits, ?moveDone⟩
  case nop =>
    intro s q i x r may
    obtain ⟨-, found, unfinished, -, -⟩ := mayDispatch_some may
    exact .of _ (by simp only [exec_nop, execNop, may]) ⟨finishSt_done _ found unfinished, finishSt_frame ..⟩
  case willNeed =>
    intro s q i x r u may advice admitted nonempty good
    have h : Advised s q i 1 x r u := ⟨may, advice, admitted⟩
    have load := foldl_loadSpan_load (spansIn u x.inst (entAddr r.ent) (entLen r.ent)) u
    obtain ⟨t, ht, done, frame⟩ := h.completes rfl nonempty good (fun s ks => ks.foldl loadSpan s) (by rw [load])
    refine .of t ht ⟨done, ?_, ?_⟩
    · rw [frame, load]
    · rw [frame, load, h.frame]
  case dontNeed =>
    intro s q i x r u may advice admitted nonempty good
    have h : Advised s q i 2 x r u := ⟨may, advice, admitted⟩
    have dropped := foldl_dropFree_frame (spansIn u x.inst (entAddr r.ent) (entLen r.ent)) u
    obtain ⟨t, ht, done, frame⟩ := h.completes rfl nonempty good (fun s ks => ks.foldl dropFree s) (by rw [dropped])
    refine .of t ht ⟨done, fun p => ?_, ?_⟩
    · rw [frame]
      exact mem_foldl_dropFree ..
    · rw [frame, dropped]
  case readMostly =>
    intro s q i x r u may advice admitted nonempty good
    obtain ⟨t, ht, rest⟩ := Advised.maps ⟨may, advice, admitted⟩ rfl nonempty good (fun sp => { sp with readMostly := true })
    exact .of t ht rest
  case preferHbm =>
    intro s q i x r u may advice admitted nonempty good
    obtain ⟨t, ht, rest⟩ := Advised.maps ⟨may, advice, admitted⟩ rfl nonempty good (fun sp => { sp with prefer := 1 })
    exact .of t ht rest
  case preferPartner =>
    intro s q i x r u may advice admitted nonempty good
    obtain ⟨t, ht, rest⟩ := Advised.maps ⟨may, advice, admitted⟩ rfl nonempty good (fun sp => { sp with prefer := 2 })
    exact .of t ht rest
  case moves =>
    intro s q i x r u k sp may admitted covered good still migr start len away
    have h : Prefetches s q i x r u k sp := ⟨may, admitted, covered⟩
    refine .of (beginMove u q i k sp) (h.serve.trans ?_) ⟨(h.stands.of_infl rfl).underway h.unfinished, rfl, rfl⟩
    rw [pfServe_still ⟨good, still⟩, if_pos migr, if_neg (by simp [start, len]), if_neg away]
  case resident =>
    intro s q i x r u k sp may admitted covered good still migr start len there
    refine Prefetches.ends_ok ⟨may, admitted, covered⟩ rfl ?_
    rw [pfServe_still ⟨good, still⟩, if_pos migr, if_neg (by simp [start, len]), if_pos there]
  case bounds =>
    intro s q i x r u k sp may admitted covered good still migr part
    refine Prefetches.ends_bad ⟨may, admitted, covered⟩ ?_
    rw [pfServe_still ⟨good, still⟩, if_pos migr, if_pos part]
  case here =>
    intro s q i x r u k sp may admitted covered good still migr side
    refine Prefetches.ends_ok ⟨may, admitted, covered⟩ rfl ?_
    rw [pfServe_still ⟨good, still⟩, if_neg (by simp [migr])]
    rcases side with ⟨kind, target⟩ | ⟨kind, target⟩
    · simp [pfFixed, kind, target]
    · simp [pfFixed, kind, target]
  case fetched =>
    intro s q i x r u k sp v b may admitted covered good still migr kind target load
    refine Prefetches.ends_ok ⟨may, admitted, covered⟩ (by rw [loadAts_ok load]) ?_
    rw [pfServe_still ⟨good, still⟩, if_neg (by simp [migr])]
    simp [pfFixed, kind, target, load]
  case notPermitted =>
    intro s q i x r u k sp may admitted covered good still migr side
    refine Prefetches.ends_bad ⟨may, admitted, covered⟩ ?_
    rw [pfServe_still ⟨good, still⟩, if_neg (by simp [migr])]
    rcases side with ⟨kind, target⟩ | ⟨kind | kind, target⟩ | kind
    · simp [pfFixed, kind, target]
    · simp [pfFixed, kind, target]
    · simp [pfFixed, kind, target]
    · cases target : decide (getLE r.ent 28 1 = 1) <;> simp [pfFixed, kind, target]
  case lostNamed =>
    intro s q i x r u n c k may advice member admitted named lost
    have h : Advised s q i n x r u := ⟨may, advice, admitted⟩
    obtain ⟨eff, meaning⟩ := exec_advice s member
    obtain ⟨t, ht, rest⟩ := h.finds_lost named lost eff
    exact .of t (meaning.trans ht) rest
  case lostHeld =>
    intro s q i x r u k sp may admitted covered lost
    have h : Prefetches s q i x r u k sp := ⟨may, admitted, covered⟩
    refine .of (finishSt (logCorrupt u 0x07 1 k) q i Status.descriptorCrc) (h.serve.trans ?_)
      ⟨(h.stands.of_infl (logEv_infl ..)).doneBad h.unfinished _, ?_⟩
    · rw [pfServe, if_pos (by simpa using lost)]
    · rw [finishSt_frame, logCorrupt, logEv_frame]
  case moveWaits =>
    intro s k sp q i found moving used
    exact .of s (exec_spanMoveDone_waits found moving used) rfl
  case moveDone =>
    intro s k sp q i r u b v c found moving free entry unfinished read write noneHeld
    have kept : v.infl = s.infl := by rw [writeMem_ok write, dropPieces, readMem_ok read]
    refine .of _ (exec_spanMoveDone_copied found moving free read write) ?_
    rw [rxRelease_of_none_held (by rw [finish_frame]; exact noneHeld)]
    exact ⟨((stands_of_found entry).of_infl kept).doneOk unfinished _, finish_frame ..⟩

end Sys2Proof
end

section
/-!
PROOFS. Send-queue and receive-queue entries become requests of their queue pair (spec file 08, R183, R184; R233, R236, R238; log 76).
-/
namespace Sys2Proof.Machine

/-- A dispatched send-queue entry's request joins its queue pair. -/
def entryQueued (v : State) (q i : Nat) (x : Wq) (r : Infl) (pktOp : Nat) (buf : Buf) : State :=
  queueReq (dispatched v q i) x.qp pktOp (entLen r.ent) (getLE r.ent 32 8) (getLE r.ent 28 4) (getLE r.ent 40 4) (entSolicit r.ent)
    (getLE r.ent 40 8) (getLE r.ent 48 8) [] buf (.entry q i)

/-- The packets of an entry's request (R236, R238). -/
def entryCount (p : Qp) (r : Infl) (pktOp : Nat) : Nat :=
  if pktOp = 7 ∨ pktOp = 8 ∨ pktOp = 0x15 then 1 else psnCount (qSeg p) (entLen r.ent)

/-- An entry's request at the end of its queue pair's list. -/
def entryReq (p : Qp) (q i : Nat) (r : Infl) (pktOp : Nat) (buf : Buf) : SReq :=
  { op := pktOp, first := p.sndEnd, count := entryCount p r pktOp, len := entLen r.ent, raddr := getLE r.ent 32 8,
    rkey := getLE r.ent 28 4, imm := getLE r.ent 40 4, solicit := entSolicit r.ent, operand := getLE r.ent 40 8,
    swap := getLE r.ent 48 8, mark := [], buf := buf, who := .entry q i, got := [], sent := 0, result := none }

/-- A send-queue entry that may be dispatched on a CONNECTED queue pair with room for it (R238). -/
structure SqReady (s : State) (q i op : Nat) (x : Wq) (r : Infl) (p : Qp) : Prop where
  may : mayDispatch s q i op = some (x, r)
  qp : qpOf s x.qp = some p
  connected : p.st = .connected
  room : (op = 6 ∨ op = 7) → (p.reqs.filter (fun y => y.op = 7 || y.op = 8)).length < 4

/-- Only an atomic entry waits for room. -/
theorem SqReady.of_not_atomic {s : State} {q i op : Nat} {x : Wq} {r : Infl} {p : Qp} (may : mayDispatch s q i op = some (x, r))
    (qp : qpOf s x.qp = some p) (connected : p.st = .connected) (plain : ¬ (op = 6 ∨ op = 7)) : SqReady s q i op x r p :=
  ⟨may, qp, connected, fun atomic => absurd atomic plain⟩

section
variable {s u v : State} {q i op pktOp : Nat} {x : Wq} {r : Infl} {p : Qp} {b : Bytes} {ks : List Nat} {buf : Buf}

theorem entryQueued_frame (v : State) (q i : Nat) (x : Wq) (r : Infl) (pktOp : Nat) (buf : Buf) :
    entryQueued v q i x r pktOp buf = { v with
      infl := (dispatched v q i).infl, qps := (entryQueued v q i x r pktOp buf).qps, links := (entryQueued v q i x r pktOp buf).links,
      out := (entryQueued v q i x r pktOp buf).out } := by
  obtain ⟨qps, links, out, h⟩ := queueReq_frame (dispatched v q i) x.qp pktOp (entLen r.ent) (getLE r.ent 32 8) (getLE r.ent 28 4)
    (getLE r.ent 40 4) (entSolicit r.ent) (getLE r.ent 40 8) (getLE r.ent 48 8) [] buf (.entry q i)
  rw [entryQueued, h]
  rfl

theorem entryQueued_infl (v : State) (q i : Nat) (x : Wq) (r : Infl) (pktOp : Nat) (buf : Buf) :
    (entryQueued v q i x r pktOp buf).infl = (dispatched v q i).infl := by rw [entryQueued_frame]

theorem entryQueued_qp (qp : qpOf v x.qp = some p) (pktOp : Nat) (buf : Buf) :
    qpOf (entryQueued v q i x r pktOp buf) x.qp = some { p with
      reqs := p.reqs ++ [entryReq p q i r pktOp buf], sndEnd := psn p.sndEnd (entryCount p r pktOp) } :=
  queueReq_qp (s := dispatched v q i) qp

/-- An admitted entry that joins its queue pair is underway under its keys; its request takes the queue pair's next PSNs. -/
theorem entryQueued_joins (stands : Stands v q i r ks) (unfinished : r.done = none) (qp : qpOf v x.qp = some p) (pktOp : Nat)
    (buf : Buf) :
    Underway (entryQueued v q i x r pktOp buf) q i ks ∧
    qpOf (entryQueued v q i x r pktOp buf) x.qp = some { p with
      reqs := p.reqs ++ [entryReq p q i r pktOp buf], sndEnd := psn p.sndEnd (entryCount p r pktOp) } ∧
    entryQueued v q i x r pktOp buf = { v with
      infl := (entryQueued v q i x r pktOp buf).infl, qps := (entryQueued v q i x r pktOp buf).qps,
      links := (entryQueued v q i x r pktOp buf).links, out := (entryQueued v q i x r pktOp buf).out } :=
  ⟨(stands.underway unfinished).of_infl (entryQueued_infl ..), entryQueued_qp qp .., by
    rw [entryQueued_infl]; exact entryQueued_frame ..⟩

/-! ### The dispatch of a send-queue entry (R183, R213, R233) -/

theorem sqOpds_none (h : entInline r.ent = true ∨ entLen r.ent = 0) (op : Nat) : sqOpds r.ent op = [] := if_pos h.symm

theorem sqOpds_out (inl : entInline r.ent = false) (len : entLen r.ent ≠ 0) (out : op ∈ [1, 2, 4, 5]) :
    sqOpds r.ent op = [opdOf r.ent rRead] := by
  rw [sqOpds, if_neg (by simp [inl, len]), if_pos out]

theorem sqOpds_in (inl : entInline r.ent = false) (len : entLen r.ent ≠ 0) (ret : op ∉ [1, 2, 4, 5]) :
    sqOpds r.ent op = [opdOf r.ent rWrite] := by
  rw [sqOpds, if_neg (by simp [inl, len]), if_neg ret]

theorem sqDispatch_error (may : mayDispatch s q i op = some (x, r)) (qp : qpOf s x.qp = some p) (error : p.st = .error) :
    sqDispatch q i op pktOp s = .next (finishSt s q i Status.flushed) := by
  simp [sqDispatch, may, qp, error]

/-- What a ready entry's dispatch answers once its admission has. -/
def sqServe (q i op pktOp : Nat) (x : Wq) (r : Infl) : State × Option Byte → Result
  | (u, some st) => .next (finishSt u q i st)
  | (u, none) =>
    if entInline r.ent then .next (entryQueued u q i x r pktOp (.bytes (slice r.ent 44 (entLen r.ent))))
    else if entLen r.ent = 0 then .next (entryQueued u q i x r pktOp .none)
    else if op ∈ [1, 2, 4, 5] then
      match readMemAt (admOf u q i) u x.inst (entAddr r.ent) (entLen r.ent) with
      | .ok v b => .next (entryQueued v q i x r pktOp (.bytes b))
      | .wait v => .next v
      | .fault v st f => .next (finishR v q i st f)
    else .next (entryQueued u q i x r pktOp (.mem x.inst (entAddr r.ent)))

theorem sqDispatch_ready (h : SqReady s q i op x r p) (pktOp : Nat) :
    sqDispatch q i op pktOp s = sqServe q i op pktOp x r (admitOnce s q i x.inst r (sqOpds r.ent op)) := by
  obtain ⟨may, qp, connected, room⟩ := h
  have room : ¬ ((op = 6 || op = 7) = true ∧ 4 ≤ (p.reqs.filter (fun y => y.op = 7 || y.op = 8)).length) := by
    simp only [Bool.or_eq_true, decide_eq_true_eq, not_and, Nat.not_le]
    exact room
  simp only [sqDispatch, may, qp, connected, ne_eq, not_true_eq_false, reduceCtorEq, if_false]
  rw [if_neg room]
  rfl

/-- An entry with no local operand joins its queue pair with the payload it carries, if any. -/
theorem sqServe_plain (plain : entInline r.ent = true ∨ entLen r.ent = 0) (u : State) (op pktOp : Nat) :
    sqServe q i op pktOp x r (u, none) =
      .next (entryQueued u q i x r pktOp (if entInline r.ent then .bytes (slice r.ent 44 (entLen r.ent)) else .none)) := by
  by_cases inl : entInline r.ent = true
  · simp only [sqServe, inl, if_true]
  · simp only [sqServe, inl, plain.resolve_left inl, Bool.false_eq_true, if_false, if_true]

/-- An entry that sends memory joins with the bytes it read. -/
theorem sqServe_out (inl : entInline r.ent = false) (len : entLen r.ent ≠ 0) (out : op ∈ [1, 2, 4, 5])
    (read : readMemAt (admOf u q i) u x.inst (entAddr r.ent) (entLen r.ent) = .ok v b) (pktOp : Nat) :
    sqServe q i op pktOp x r (u, none) = .next (entryQueued v q i x r pktOp (.bytes b)) := by
  simp only [sqServe, inl, len, out, read, Bool.false_eq_true, if_false, if_true]

/-- An entry that fills memory joins with the range it fills. -/
theorem sqServe_in (inl : entInline r.ent = false) (len : entLen r.ent ≠ 0) (ret : op ∉ [1, 2, 4, 5]) (u : State) (pktOp : Nat) :
    sqServe q i op pktOp x r (u, none) = .next (entryQueued u q i x r pktOp (.mem x.inst (entAddr r.ent))) := by
  simp only [sqServe, inl, len, ret, Bool.false_eq_true, if_false]
end

/-! ### What the clauses share -/

section
variable {s u v : State} {q i op : Nat} {x : Wq} {r : Infl} {p : Qp} {b : Bytes}

/-- A sending entry's answer, one lemma for WRITE, WRITE_IMM, SEND and SEND_IMM. -/
theorem sqDispatch_sends (h : SqReady s q i op x r p) (inl : entInline r.ent = false) (len : entLen r.ent ≠ 0)
    (out : op ∈ [1, 2, 4, 5]) (admitted : admitOnce s q i x.inst r [opdOf r.ent rRead] = (u, none))
    (read : readMemAt (admOf u q i) u x.inst (entAddr r.ent) (entLen r.ent) = .ok v b) (pktOp : Nat) :
    ∃ t, sqDispatch q i op pktOp s = .next t ∧ Underway t q i (keysIn r [entKey r.ent]) ∧
      qpOf t x.qp = some { p with
        reqs := p.reqs ++ [entryReq p q i r pktOp (.bytes b)], sndEnd := psn p.sndEnd (entryCount p r pktOp) } ∧
      t = { v with infl := t.infl, qps := t.qps, links := t.links, out := t.out } := by
  obtain ⟨-, found, unfinished, -, -⟩ := mayDispatch_some h.may
  obtain ⟨stands, frame⟩ := admitOnce_ok found admitted
  have kept := readMemAt_ok read
  refine ⟨_, ?_, entryQueued_joins (stands.of_infl (by rw [kept])) unfinished ?_ pktOp (.bytes b)⟩
  · rw [sqDispatch_ready h, sqOpds_out inl len out, admitted, sqServe_out inl len out read]
  · rw [qpOf, kept, frame]
    exact h.qp

/-- A filling entry's answer, one lemma for READ and the atomics. -/
theorem sqDispatch_fills (h : SqReady s q i op x r p) (inl : entInline r.ent = false) (len : entLen r.ent ≠ 0)
    (ret : op ∉ [1, 2, 4, 5]) (admitted : admitOnce s q i x.inst r [opdOf r.ent rWrite] = (u, none)) (pktOp : Nat) :
    ∃ t, sqDispatch q i op pktOp s = .next t ∧ Underway t q i (keysIn r [entKey r.ent]) ∧
      qpOf t x.qp = some { p with
        reqs := p.reqs ++ [entryReq p q i r pktOp (.mem x.inst (entAddr r.ent))], sndEnd := psn p.sndEnd (entryCount p r pktOp) } ∧
      t = { u with infl := t.infl, qps := t.qps, links := t.links, out := t.out } := by
  obtain ⟨-, found, unfinished, -, -⟩ := mayDispatch_some h.may
  obtain ⟨stands, frame⟩ := admitOnce_ok found admitted
  refine ⟨_, ?_, entryQueued_joins stands unfinished ?_ pktOp (.mem x.inst (entAddr r.ent))⟩
  · rw [sqDispatch_ready h, sqOpds_in inl len ret, admitted, sqServe_in inl len ret]
  · rw [qpOf, frame]
    exact h.qp

/-- An entry with no local operand needs no admission, and leaves memory and keys alone. -/
theorem sqDispatch_plain (h : SqReady s q i op x r p) (plain : entInline r.ent = true ∨ entLen r.ent = 0) (pktOp : Nat) :
    ∃ t, sqDispatch q i op pktOp s = .next t ∧ Underway t q i (keysIn r []) ∧
      qpOf t x.qp = some { p with
        reqs := p.reqs ++ [entryReq p q i r pktOp (if entInline r.ent then .bytes (slice r.ent 44 (entLen r.ent)) else .none)],
        sndEnd := psn p.sndEnd (entryCount p r pktOp) } ∧
      t = { s with infl := t.infl, qps := t.qps, links := t.links, out := t.out, pieceClock := t.pieceClock } := by
  obtain ⟨-, found, unfinished, -, -⟩ := mayDispatch_some h.may
  obtain ⟨u, admitted, frame⟩ := admitOnce_nil s q i x.inst r
  obtain ⟨stands, -⟩ := admitOnce_ok found admitted
  obtain ⟨underway, qp, joined⟩ := entryQueued_joins stands unfinished (by rw [qpOf, frame]; exact h.qp) pktOp
    (if entInline r.ent then .bytes (slice r.ent 44 (entLen r.ent)) else .none)
  refine ⟨_, ?_, underway, qp, ?_⟩
  · rw [sqDispatch_ready h, sqOpds_none plain, admitted, sqServe_plain plain]
  · rw [joined, frame]

theorem sqDispatch_refused {st : Byte} (h : SqReady s q i op x r p) (inl : entInline r.ent = false) (len : entLen r.ent ≠ 0)
    (out : op ∈ [1, 2, 4, 5]) (refused : admitOnce s q i x.inst r [opdOf r.ent rRead] = (u, some st)) (pktOp : Nat) :
    sqDispatch q i op pktOp s = .next (finishSt u q i st) := by
  rw [sqDispatch_ready h, sqOpds_out inl len out, refused]
  rfl

/-! ### RECV (R183, R184) -/

theorem exec_recv_open (may : mayDispatch s q i 8 = some (x, r)) (qp : qpOf s x.qp = some p) (fine : p.st ≠ .error)
    (admitted : admitOnce s q i x.inst r [opdOf r.ent rWrite] = (u, none)) :
    exec (.recv q i) s = .next (dispatched u q i) := by
  simp only [exec_recv, execRecv, may, qp, fine, if_false, admitted]

theorem exec_recv_error (may : mayDispatch s q i 8 = some (x, r)) (qp : qpOf s x.qp = some p) (error : p.st = .error) :
    exec (.recv q i) s = .next (finishSt s q i Status.flushed) := by
  simp only [exec_recv, execRecv, may, qp, error, if_true]
end

end Sys2Proof.Machine

namespace Sys2Proof
open Sys2Proof.Machine

/-- Settles O27, one case per clause: `sqDispatch_sends` for the entries that send memory, `sqDispatch_fills` for those that fill it. -/
theorem sendEntriesBecomeRequests : Obligations.SendEntriesBecomeRequests := by
  unfold Obligations.SendEntriesBecomeRequests
  refine ⟨?write, ?writeImm, ?send, ?sendImm, ?plain, ?read, ?fadd, ?cswap, ?recv, ?recvError, ?writeError, ?refused⟩
  case write =>
    intro s q i x r p u v b may qp connected inl len admitted read
    have ready : SqReady s q i 1 x r p := .of_not_atomic may qp connected (by decide)
    obtain ⟨t, ht, underway, joined, frame⟩ := sqDispatch_sends ready inl len (by decide) admitted read 1
    exact .of t ht ⟨underway, ⟨_, joined, rfl, rfl, rfl, rfl, rfl, rfl⟩, frame⟩
  case writeImm =>
    intro s q i x r p u v b may qp connected inl len admitted read
    have ready : SqReady s q i 2 x r p := .of_not_atomic may qp connected (by decide)
    obtain ⟨t, ht, underway, joined, frame⟩ := sqDispatch_sends ready inl len (by decide) admitted read 2
    exact .of t ht ⟨underway, ⟨_, joined, rfl, rfl, rfl, rfl, rfl, rfl, rfl⟩, frame⟩
  case send =>
    intro s q i x r p u v b may qp connected inl len admitted read
    have ready : SqReady s q i 4 x r p := .of_not_atomic may qp connected (by decide)
    obtain ⟨t, ht, underway, joined, frame⟩ := sqDispatch_sends ready inl len (by decide) admitted read 5
    exact .of t ht ⟨underway, ⟨_, joined, rfl, rfl, rfl, rfl, rfl⟩, frame⟩
  case sendImm =>
    intro s q i x r p u v b may qp connected inl len admitted read
    have ready : SqReady s q i 5 x r p := .of_not_atomic may qp connected (by decide)
    obtain ⟨t, ht, underway, joined, frame⟩ := sqDispatch_sends ready inl len (by decide) admitted read 6
    exact .of t ht ⟨underway, ⟨_, joined, rfl, rfl, rfl, rfl, rfl, rfl⟩, frame⟩
  case plain =>
    intro s q i x r p may qp connected plain
    have ready : SqReady s q i 1 x r p := .of_not_atomic may qp connected (by decide)
    obtain ⟨t, ht, underway, joined, frame⟩ := sqDispatch_plain ready plain 1
    exact .of t ht ⟨underway, ⟨_, joined, rfl, rfl, rfl, rfl, rfl, rfl⟩, frame⟩
  case read =>
    intro s q i x r p u may qp connected inl len admitted
    have ready : SqReady s q i 3 x r p := .of_not_atomic may qp connected (by decide)
    obtain ⟨t, ht, underway, joined, frame⟩ := sqDispatch_fills ready inl len (by decide) admitted 3
    exact .of t ht ⟨underway, ⟨_, joined, rfl, rfl, rfl, rfl, rfl, rfl, rfl⟩, frame⟩
  case fadd =>
    intro s q i x r p u may qp connected room inl len admitted
    have ready : SqReady s q i 6 x r p := ⟨may, qp, connected, fun _ => room⟩
    obtain ⟨t, ht, underway, joined, frame⟩ := sqDispatch_fills ready inl len (by decide) admitted 7
    exact .of t ht ⟨underway, ⟨_, joined, rfl, rfl, rfl, rfl, rfl, rfl, rfl⟩, frame⟩
  case cswap =>
    intro s q i x r p u may qp connected room inl len admitted
    have ready : SqReady s q i 7 x r p := ⟨may, qp, connected, fun _ => room⟩
    obtain ⟨t, ht, underway, joined, frame⟩ := sqDispatch_fills ready inl len (by decide) admitted 8
    exact .of t ht ⟨underway, ⟨_, joined, rfl, rfl, rfl, rfl, rfl, rfl, rfl, rfl⟩, frame⟩
  case recv =>
    intro s q i x r p u may qp fine admitted
    obtain ⟨-, found, unfinished, -, -⟩ := mayDispatch_some may
    exact .of _ (exec_recv_open may qp fine admitted) ⟨(admitOnce_ok found admitted).1.underway unfinished, rfl⟩
  case recvError =>
    intro s q i x r p may qp error
    obtain ⟨-, found, unfinished, -, -⟩ := mayDispatch_some may
    exact .of _ (exec_recv_error may qp error) ⟨finishSt_done _ found unfinished, finishSt_frame ..⟩
  case writeError =>
    intro s q i x r p may qp error
    obtain ⟨-, found, unfinished, -, -⟩ := mayDispatch_some may
    exact .of _ (sqDispatch_error may qp error) ⟨finishSt_done _ found unfinished, finishSt_frame ..⟩
  case refused =>
    intro s q i x r p u st may qp connected inl len refused
    obtain ⟨-, found, unfinished, -, -⟩ := mayDispatch_some may
    have ready : SqReady s q i 1 x r p := .of_not_atomic may qp connected (by decide)
    exact .of _ (sqDispatch_refused ready inl len (by decide) refused 1)
      ⟨(admitOnce_refused found refused).doneBad unfinished st, finishSt_frame ..⟩

end Sys2Proof
end

section
/-!
PROOFS. Traps, watchdogs, lost cores, group starts and kernel launches (spec file 08, R188; spec file 15, R337, R338, R342, R348 to R354,
R379; logs 35 and 108).
-/
namespace Sys2Proof.Machine

/-! ### Retirement (R348, R349) -/

section
variable {s : State} {q i k : Nat} {l : Launch} {t : Tg}

/-- Completing a launch clears its bindings and finishes its entry, and touches nothing else. -/
theorem launchDone_of (h : launchOf s q i = some l) :
    ∃ b, launchOf (launchDone s q i) q i = some { l with binds := b } ∧
      launchDone s q i = { s with
        fw := { s.fw with launches := (launchDone s q i).fw.launches }, infl := (launchDone s q i).infl } := by
  unfold launchDone
  rw [h]
  dsimp only
  split
  · exact ⟨l.binds, h, rfl⟩
  · refine ⟨[], ?_, ?_⟩
    · rw [finish_frame]
      exact Tab.find_put_self ..
    · rw [finish_frame]
      rfl

/-- The array without a group in its slot, its launch record replaced. -/
def groupGone (s : State) (k : Nat) (t : Tg) (l : Launch) : State :=
  { s with fw := { s.fw with launches := Tab.put s.fw.launches (inflKey t.q t.i) l, slots := Tab.del s.fw.slots k,
                             alogs := Tab.del s.fw.alogs (alogKey t.q t.i t.index) } }

theorem retireTg_eq (h : launchOf s t.q t.i = some l) (k : Nat) (st : Byte) (trap : Bool) :
    retireTg s k t st trap = launchDone (groupGone s k t (l.retire t st trap)) t.q t.i := by
  unfold retireTg
  rw [h]
  rfl

/-- A retiring group leaves its slot and its atomic log, and is noted in its launch. -/
theorem retireTg_of (h : launchOf s t.q t.i = some l) (k : Nat) (st : Byte) (trap : Bool) :
    ∃ b, launchOf (retireTg s k t st trap) t.q t.i = some { l.retire t st trap with binds := b } ∧
      retireTg s k t st trap = { s with
        fw := { s.fw with slots := Tab.del s.fw.slots k, launches := (retireTg s k t st trap).fw.launches,
                          alogs := Tab.del s.fw.alogs (alogKey t.q t.i t.index) },
        infl := (retireTg s k t st trap).infl } := by
  have noted : launchOf (groupGone s k t (l.retire t st trap)) t.q t.i = some (l.retire t st trap) := Tab.find_put_self ..
  rw [retireTg_eq h]
  exact launchDone_of noted

@[simp] theorem Launch.retire_retired (l : Launch) (t : Tg) (st : Byte) (trap : Bool) :
    (l.retire t st trap).retired = t.index :: l.retired := by
  simp only [Launch.retire, apply_ite Launch.retired, ite_self]

@[simp] theorem Launch.retire_stopped (l : Launch) (t : Tg) (st : Byte) (trap : Bool) :
    (l.retire t st trap).stopped = (l.stopped || (trap && l.stopOnTrap)) := by
  simp only [Launch.retire, apply_ite Launch.stopped, ite_self]

/-- The first trap of a launch gives it its status. -/
theorem Launch.retire_first_trap (first : l.trapStatus = false) (t : Tg) (st : Byte) :
    (l.retire t st true).status = st ∧ (l.retire t st true).trapStatus = true := by
  simp [Launch.retire, first]

/-! ### Delivery (R349, R350, R351) -/

/-- A group as it enters its launch's handler. -/
def Tg.trapped (t : Tg) (l : Launch) (c : Byte) (a m : Nat) : Tg :=
  { t.push (trapFrame t.pc c a m) with
    inHandler := true, pc := l.trapv, cause := c, dbl := false, pendTrap := none, skipBreak := false }

/-- A group as a double trap records it. -/
def Tg.doubled (t : Tg) (c : Byte) (a m : Nat) : Tg :=
  { t with cause := c, dbl := true, faultAddr := BitVec.ofNat 64 a, lanes := BitVec.ofNat 32 m,
           pendTrap := some (c, BitVec.ofNat 64 a, BitVec.ofNat 32 m) }

/-- The device with a double trap saved, counted and logged. -/
def doubleLogged (s : State) (k : Nat) (t : Tg) : State :=
  logEv { s with fw := { s.fw with saved := Tab.put s.fw.saved k t.save,
                                   dbg := { s.fw.dbg with dtraps := satInc 16 s.fw.dbg.dtraps } } }
    0x0060 Status.doubleTrap 0x05 k (putLE 4 t.q ++ putLE 4 t.i ++ putLE 2 t.index ++ zeros 6 ++ putLE 8 t.pc)

theorem doubleLogged_frame (s : State) (k : Nat) (t : Tg) : doubleLogged s k t = { s with
    fw := { s.fw with saved := Tab.put s.fw.saved k t.save, dbg := { s.fw.dbg with dtraps := satInc 16 s.fw.dbg.dtraps } },
    log := (doubleLogged s k t).log } := logEv_frame ..

variable (h : launchOf s t.q t.i = some l)
include h

theorem deliver_enters (handler : l.trapv ≠ 0) (outside : t.inHandler = false) (room : pushOk l t = true)
    (quiet : s.fw.dbg.src = none ∨ s.fw.dbg.haltTrap = false) (free : t.stepLeft = none) (k : Nat) (c : Byte) (a m : Nat) :
    deliver s k t c a m = putTg s k (t.trapped l c a m) := by
  have runs : ¬ ((s.fw.dbg.src.isSome = true ∧ s.fw.dbg.haltTrap = true) ∨ t.stepLeft.isSome = true) := by
    rcases quiet with none | off
    · simp [none, free]
    · simp [off, free]
  simp only [deliver, h, handler, outside, room, Bool.not_false, and_self, if_true, if_false]
  rw [if_neg runs]
  rfl

theorem deliver_retires (noHandler : l.trapv = 0) (k : Nat) (c : Byte) (a m : Nat) :
    deliver s k t c a m = retireTg s k t c true := by
  simp only [deliver, h, noHandler, if_true]

theorem deliver_doubles (handler : l.trapv ≠ 0) (bad : t.inHandler = true ∨ pushOk l t = false)
    (quiet : s.fw.dbg.src = none ∨ s.fw.dbg.haltDtrap = false) (k : Nat) (c : Byte) (a m : Nat) :
    deliver s k t c a m = retireTg (doubleLogged s k (t.doubled c a m)) k (t.doubled c a m) Status.doubleTrap true := by
  have noEntry : ¬ ((!t.inHandler) = true ∧ pushOk l t = true) := by
    rcases bad with inside | full
    · simp [inside]
    · simp [full]
  have noHalt : ¬ (s.fw.dbg.src.isSome = true ∧ s.fw.dbg.haltDtrap = true) := by
    rcases quiet with none | off
    · simp [none]
    · simp [off]
  simp only [deliver, h, handler, if_false]
  rw [if_neg noEntry, doubleTrap]
  dsimp only
  rw [if_neg noHalt]
  rfl
end

/-! ### The handler's registers and frame (R350) -/

theorem Tg.ur_lt (t : Tg) (j : Nat) : t.ur j < 2 ^ 64 := BitVec.isLt _

@[simp] theorem putLE_length (n v : Nat) : (putLE n v).length = n := by
  induction n generalizing v with
  | zero => rfl
  | succ n ih => rw [putLE, List.length_cons, ih]

theorem fit_of_length {n : Nat} {b : Bytes} (h : b.length = n) : fit n b = b := by
  simp [fit, zeros, ← h]

theorem trapFrame_length (pc : Nat) (c : Byte) (a m : Nat) : (trapFrame pc c a m).length = 32 := by
  simp [trapFrame, zeros]

section
variable (t : Tg) (l : Launch) (c : Byte) (a m : Nat)

/-- The handler finds the stack pointer 32 bytes lower. -/
theorem Tg.trapped_sp : (t.trapped l c a m).sp = t.sp - 32 := by
  have low : t.sp - 32 < 2 ^ 64 := Nat.lt_of_le_of_lt (Nat.sub_le ..) (t.ur_lt 15)
  calc (t.trapped l c a m).sp = (t.setU 15 (t.sp - 32)).ur 15 := rfl
    _ = t.sp - 32 := by rw [Tg.ur_setU, if_pos rfl, Nat.mod_eq_of_lt low]

theorem Tg.trapped_ur {j : Nat} (other : j ≠ 15) : (t.trapped l c a m).ur j = t.ur j := by
  calc (t.trapped l c a m).ur j = (t.setU 15 (t.sp - 32)).ur j := rfl
    _ = t.ur j := by rw [Tg.ur_setU, if_neg other]

theorem Tg.trapped_localMem :
    (t.trapped l c a m).localMem = Mem.write t.localMem (t.sp - 32) (trapFrame t.pc c a m) := by
  rw [Tg.trapped, Tg.push, fit_of_length (trapFrame_length ..)]
end

/-! ### WATCHDOG_EXPIRY (R352) -/

theorem exec_watchdogExpiry_runs {s : State} {core slot : Nat} {t : Tg} (found : Tab.find s.fw.slots (fwKey core slot) = some t)
    (low : slot < 16) (running : t.st = .running) (armed : t.watchdog ≠ 0) (fresh : t.dogBarked = false) :
    exec (.watchdogExpiry core slot) s =
      .next (deliver (advanceTo s (t.ranAt + (t.watchdog * 1000000 - t.ran))) (fwKey core slot) { t with dogBarked := true }
        Status.waitTimeout 0 allLanes) := by
  simp only [exec_watchdogExpiry, execWatchdogExpiry, found]
  exact if_neg (by simp [running, armed, fresh, low])

/-! ### CORE_LOST (R354, R379) -/

theorem mem_insertBy {α : Type} (le : α → α → Bool) (x y : α) (l : List α) : y ∈ insertBy le x l ↔ y = x ∨ y ∈ l := by
  induction l with
  | nil => simp [insertBy]
  | cons z l ih =>
    unfold insertBy
    split
    · simp
    · rw [List.mem_cons, ih, List.mem_cons]
      tauto

theorem mem_stageEv (l : List Ev) (e f : Ev) : f ∈ stageEv l e ↔ f = e ∨ f ∈ l := by
  induction l with
  | nil => simp [stageEv]
  | cons z l ih =>
    unfold stageEv
    split
    · simp
    · rw [List.mem_cons, ih, List.mem_cons]
      tauto

section
variable {s : State} {e : Ev}

/-- Logging keeps every staged event. -/
theorem logEv_keeps (mem : e ∈ s.log.staged) (id : Nat) (st : Byte) (source unit : Nat) (d : Bytes) :
    e ∈ (logEv s id st source unit d).log.staged := by
  unfold logEv logSev
  dsimp only
  split
  · exact (mem_stageEv ..).2 (.inr mem)
  · exact mem

/-- An event is staged where there is room (R395). -/
theorem logEv_stages (room : s.log.staged.length < 64) (id : Nat) (st : Byte) (source unit : Nat) (d : Bytes) :
    ∃ e ∈ (logEv s id st source unit d).log.staged, e.id = id ∧ e.unit = unit := by
  unfold logEv logSev
  rw [if_pos room]
  exact ⟨_, (mem_stageEv ..).2 (.inl rfl), rfl, rfl⟩

theorem openOwnWin_keeps (mem : e ∈ s.log.staged) : e ∈ (openOwnWin s).log.staged := by
  unfold openOwnWin voidGuarantee
  dsimp only
  split
  · exact mem
  · exact logEv_keeps (s := { s with basin.void := true }) mem ..
end

/-- A lost group is listed to run again from its start. -/
def rerunLost (s : State) (p : Nat × Tg) : State :=
  match launchOf s p.2.q p.2.i with
  | none => s
  | some l => putLaunch s p.2.q p.2.i { l with rerun := insertBy (fun a b => a ≤ b) p.2.index l.rerun }

/-- The launch of a slot's group lists it to run again. -/
def Relisted (s : State) (p : Nat × Tg) : Prop := ∃ l, launchOf s p.2.q p.2.i = some l ∧ p.2.index ∈ l.rerun

section
variable {s : State} {p r : Nat × Tg}

/-- A launch record after one group is listed again: there as before, its list longer. -/
theorem rerunLost_launch {q i : Nat} {l : Launch} (h : launchOf s q i = some l) (p : Nat × Tg) :
    ∃ n, launchOf (rerunLost s p) q i = some n ∧ ∀ j ∈ l.rerun, j ∈ n.rerun := by
  unfold rerunLost
  split
  · exact ⟨l, h, fun _ hj => hj⟩
  · rename_i m hm
    by_cases same : inflKey q i = inflKey p.2.q p.2.i
    · unfold launchOf at *
      rw [same] at h ⊢
      cases h.symm.trans hm
      exact ⟨_, Tab.find_put_self .., fun j hj => (mem_insertBy ..).2 (.inr hj)⟩
    · exact ⟨l, (Tab.find_put_ne _ _ _ _ same).trans h, fun _ hj => hj⟩

theorem rerunLost_relists (h : launchOf s p.2.q p.2.i ≠ none) : Relisted (rerunLost s p) p := by
  unfold rerunLost
  split
  · exact absurd ‹_› h
  · exact ⟨_, Tab.find_put_self .., (mem_insertBy ..).2 (.inl rfl)⟩

theorem Relisted.keeps (h : Relisted s p) (r : Nat × Tg) : Relisted (rerunLost s r) p := by
  obtain ⟨l, launch, mem⟩ := h
  obtain ⟨n, launch', more⟩ := rerunLost_launch launch r
  exact ⟨n, launch', more _ mem⟩

theorem Relisted.foldl (h : Relisted s p) (ps : List (Nat × Tg)) : Relisted (ps.foldl rerunLost s) p := by
  induction ps generalizing s with
  | nil => exact h
  | cons r ps ih => exact ih (h.keeps r)

/-- Every listed group of a launch on record is listed to run again. -/
theorem foldl_rerunLost_relists {ps : List (Nat × Tg)} (known : ∀ p ∈ ps, launchOf s p.2.q p.2.i ≠ none) :
    ∀ p ∈ ps, Relisted (ps.foldl rerunLost s) p := by
  induction ps generalizing s with
  | nil => simp
  | cons r ps ih =>
    intro p hp
    rcases List.mem_cons.1 hp with rfl | hp
    · exact (rerunLost_relists (known p List.mem_cons_self)).foldl ps
    · refine ih (fun p' hp' => ?_) p hp
      obtain ⟨l, launch⟩ := Option.ne_none_iff_exists'.1 (known p' (List.mem_cons_of_mem _ hp'))
      obtain ⟨n, launch', -⟩ := rerunLost_launch launch r
      rw [launch']
      exact Option.some_ne_none n

theorem foldl_rerunLost_frame (ps : List (Nat × Tg)) (s : State) :
    ps.foldl rerunLost s = { s with fw := { s.fw with launches := (ps.foldl rerunLost s).fw.launches } } := by
  induction ps generalizing s with
  | nil => rfl
  | cons r ps ih =>
    rw [List.foldl_cons, ih]
    unfold rerunLost
    split <;> rfl
end

/-- The groups of a core. -/
def coreGroups (s : State) (core : Nat) : List (Nat × Tg) := s.fw.slots.filter (fun p => p.1 / 16 = core)

/-- The array without a core. -/
def withoutCore (f : Furrow) (core : Nat) : Furrow :=
  { f with cores := f.cores &&& ~~~(BitVec.ofNat 48 (2 ^ core)), slots := Tab.keep (fun k _ => k / 16 ≠ core) f.slots,
           colls := Tab.keep (fun k _ => k / 16 ≠ core) f.colls, breaks := Tab.keep (fun k _ => k / 16 ≠ core) f.breaks,
           saved := Tab.keep (fun k _ => k / 16 ≠ core) f.saved }

/-- The device with a core gone, its groups listed to run again. -/
def coreGone (s : State) (core : Nat) : State :=
  { (coreGroups s core).foldl rerunLost s with fw := withoutCore ((coreGroups s core).foldl rerunLost s).fw core }

/-- The device once the loss is logged and its recovery window open (R39). -/
def coreLogged (s : State) (core : Nat) : State := openOwnWin (logEv (coreGone s core) 0x0061 0 0x05 core [])

theorem Tab.find_keep_key {α : Type} {f : Nat → Bool} {k : Nat} (h : f k = true) (t : Tab α) :
    Tab.find (Tab.keep (fun n _ => f n) t) k = Tab.find t k := by
  induction t with
  | nil => rfl
  | cons p t ih =>
    obtain ⟨j, x⟩ := p
    by_cases same : k = j
    · subst same
      simp [Tab.keep, h, Tab.find]
    · by_cases keeps : f j = true
      · simpa [Tab.keep, keeps, Tab.find, same] using ih
      · simpa [Tab.keep, keeps, Tab.find, same] using ih

section
variable {s : State} {core : Nat}

theorem exec_coreLost_in (on : coreIn s core = true) :
    ∃ t, exec (.coreLost core) s = .next t ∧ t = { coreLogged s core with insts := t.insts, log := t.log } ∧
      ∀ e ∈ (coreLogged s core).log.staged, e ∈ t.log.staged := by
  have out : exec (.coreLost core) s =
      if slotsInService (coreLogged s core) < ((coreLogged s core).insts.map (fun p => p.2.fwResv)).sum then
        .next (logEv { coreLogged s core with insts := trimResv (slotsInService (coreLogged s core)) (coreLogged s core).insts }
          0x0063 0 0x0F 0 (putLE 2 (slotsInService (coreLogged s core))))
      else .next (coreLogged s core) := by
    simp only [exec_coreLost, execCoreLost, on, Bool.not_true, Bool.false_eq_true, if_false]
    rfl
  rw [out]
  split
  · exact ⟨_, rfl, by rw [logEv_frame], fun e he => logEv_keeps (by exact he) ..⟩
  · exact ⟨_, rfl, rfl, fun _ he => he⟩

theorem coreGone_frame (s : State) (core : Nat) :
    coreGone s core = { s with fw := withoutCore ((coreGroups s core).foldl rerunLost s).fw core } :=
  congrArg (fun u : State => { u with fw := withoutCore ((coreGroups s core).foldl rerunLost s).fw core })
    (foldl_rerunLost_frame (coreGroups s core) s)

theorem coreLogged_frame (s : State) (core : Nat) :
    coreLogged s core = { s with
      fw := withoutCore ((coreGroups s core).foldl rerunLost s).fw core, basin := (coreLogged s core).basin,
      log := (coreLogged s core).log } := by
  rw [coreLogged, openOwnWin_frame, logEv_frame, coreGone_frame]

theorem coreLogged_fw (s : State) (core : Nat) : (coreLogged s core).fw = withoutCore { s.fw with
    launches := ((coreGroups s core).foldl rerunLost s).fw.launches } core := by
  rw [coreLogged_frame, foldl_rerunLost_frame]

theorem coreLogged_ownWin (s : State) (core : Nat) : (coreLogged s core).basin.ownWin = some s.sys.now := by
  rw [coreLogged, openOwnWin_ownWin, logEv_sys, coreGone_frame]

theorem coreLogged_event (room : s.log.staged.length < 64) (core : Nat) :
    ∃ e ∈ (coreLogged s core).log.staged, e.id = 0x0061 ∧ e.unit = core := by
  have room : (coreGone s core).log.staged.length < 64 := by rwa [coreGone_frame]
  obtain ⟨e, mem, what⟩ := logEv_stages room 0x0061 0 0x05 core []
  exact ⟨e, openOwnWin_keeps mem, what⟩

/-- Clearing a core's bit takes that core alone out of service. -/
theorem getLsbD_without {n : Nat} (cores : BitVec 48) (hn : n < 48) (core : Nat) :
    (cores &&& ~~~(BitVec.ofNat 48 (2 ^ core))).getLsbD n = (cores.getLsbD n && decide (n ≠ core)) := by
  simp only [BitVec.getLsbD_and, BitVec.getLsbD_not, hn, decide_true, Bool.true_and, BitVec.getLsbD_ofNat, Nat.testBit_two_pow]
  by_cases same : core = n
  · simp [same]
  · simp [same, Ne.symm same]

theorem coreIn_withoutCore_self {v : State} (cores : v.fw.cores = s.fw.cores &&& ~~~(BitVec.ofNat 48 (2 ^ core))) :
    coreIn v core = false := by
  unfold coreIn
  by_cases low : core < 48
  · rw [cores, getLsbD_without _ low]
    simp
  · simp [low]

theorem coreIn_withoutCore_ne {v : State} {c : Nat} (cores : v.fw.cores = s.fw.cores &&& ~~~(BitVec.ofNat 48 (2 ^ core)))
    (other : c ≠ core) : coreIn v c = coreIn s c := by
  unfold coreIn
  by_cases low : c < 48
  · rw [cores, getLsbD_without _ low]
    simp [other]
  · simp [low]
end

/-! ### GROUP_START (R337, R338) -/

theorem onBlk_runs {s : State} {b : Blk} (runs : Runs s b) (k : State → Result) : onBlk b s k = k (wakeBlk s b) :=
  if_neg (by simp [runs])

theorem onBlk_held {s : State} {b : Blk} (held : gated (wakeBlk s b) b = true) (k : State → Result) :
    onBlk b s k = .next (wakeBlk s b) := if_pos held

/-- A launch underway whose next group may take the slot `k` now (R337, R379). -/
structure GroupDue (s : State) (q i : Nat) (l : Launch) (r : Infl) (k : Nat) : Prop where
  launch : launchOf s q i = some l
  entry : inflOf s q i = some r
  dispatched : r.disp = true
  unfinished : r.done = none
  waits : launchWaits l = true
  share : mayTakeSlot s l.inst = true
  first : firstWaiting s l.inst l.order = true
  slot : pickSlot s = some k

section
variable {s : State} {q i k : Nat} {l : Launch} {r : Infl}

theorem GroupDue.exec_eq (h : GroupDue s q i l r k) :
    exec (.groupStart q i) s = onBlk (.furrow (k / 16)) s fun u => .next (startGroup u q i k l) := by
  obtain ⟨launch, entry, dispatched, unfinished, waits, share, first, slot⟩ := h
  simp only [exec_groupStart, execGroupStart, launch, entry, dispatched, unfinished, waits, share, first, slot, Option.isNone_none,
    Bool.and_self, Bool.not_true, Bool.false_eq_true, or_self, if_false]

theorem startGroup_frame (s : State) (q i k : Nat) (l : Launch) :
    startGroup s q i k l = { s with fw := (startGroup s q i k l).fw } := by
  unfold startGroup
  cases l.rerun <;> rfl

/-- The group that starts is the lowest one to run again, or the next. -/
theorem startGroup_slots (s : State) (q i k : Nat) (l : Launch) :
    ∃ age now dog, (startGroup s q i k l).fw.slots =
      Tab.put s.fw.slots k (Tg.start q i ((l.rerun.head?).getD l.next) l age now dog) := by
  unfold startGroup
  cases l.rerun with
  | nil => exact ⟨_, _, _, rfl⟩
  | cons g rest => exact ⟨_, _, _, rfl⟩

/-- The uniform registers of a group at its start (R338). -/
theorem Tg.start_ur (q i index : Nat) (l : Launch) (age now dog : Nat) :
    (Tg.start q i index l age now dog).ur 0 = index % 2 ^ 64 ∧ (Tg.start q i index l age now dog).ur 1 = l.groups % 2 ^ 64 ∧
    (Tg.start q i index l age now dog).ur 2 = l.localBytes % 2 ^ 64 ∧ (Tg.start q i index l age now dog).sp = l.localBytes % 2 ^ 64 := by
  simp [Tg.sp, Tg.ur, Tg.start, Tab.getD, Tab.find]
end

/-! ### KERNEL_LAUNCH (R188, R194, R342) -/

section
variable {s u w y z : State} {q i inst : Nat} {r : Infl} {ks : List Nat}

/-- A change of an entry's record that leaves its result and its place keeps it standing, under some keys. -/
theorem Stands.modify (h : Stands u q i r ks) (f : Infl → Infl) (done : ∀ x, (f x).done = x.done) (seq : ∀ x, (f x).seq = x.seq) :
    ∃ ks', Stands { u with infl := Tab.modify u.infl (inflKey q i) f } q i r ks' := by
  obtain ⟨x, found, hdone, hseq, -⟩ := h
  exact ⟨_, f x, Tab.find_modify_self f found, (done x).trans hdone, (seq x).trans hseq, rfl⟩

theorem bindsFail_ok {bs : List Bind} (h : bindsFail s inst bs = (u, none)) : u = { s with keys := u.keys } := by
  induction bs generalizing s with
  | nil => cases h; rfl
  | cons b bs ih =>
    unfold bindsFail at h
    split at h
    · cases h
    · rename_i v admitted
      rw [ih h, (admitKey_ok admitted).1]

/-- A launch that passes its checks leaves all but the failing copies of its bindings' keys (R202, R342). -/
theorem launchFail_ok {code args : Bytes} {n : Nat} (h : launchFail s inst code args n = (u, none)) :
    u = { s with keys := u.keys } := by
  unfold launchFail at h
  dsimp only at h
  split at h
  · cases h
  · split at h
    · cases h
    · rename_i v passed
      obtain ⟨rfl, -⟩ := Prod.mk.inj h
      exact bindsFail_ok passed

/-- An accepted entry does not keep another from its codebook slots: it came later, is done, or shares none with it (R194). -/
def cbLets (r : Infl) (_ : Nat) (x : Infl) : Bool :=
  r.seq ≤ x.seq || x.done.isSome || !(entOp r.ent = 0x23 || entOp x.ent = 0x23) || !cbMeet (cbNamed r) (cbNamed x)

theorem cbOrdered_eq (s : State) (r : Infl) : cbOrdered s r = Tab.every (cbLets r) s.infl := rfl

/-- The entry's own argument block keeps no other entry from going first (R194). -/
theorem cbOrdered_args (h : Stands w q i r ks) (b : Option Bytes) (f : Infl → Infl) (seq : ∀ x, (f x).seq = x.seq)
    (ordered : cbOrdered w { r with args := b } = true) :
    cbOrdered { w with infl := Tab.modify w.infl (inflKey q i) f } { r with args := b } = true := by
  obtain ⟨x, found, -, hseq, -⟩ := h
  have same : Tab.modify w.infl (inflKey q i) f = Tab.put w.infl (inflKey q i) (f x) := by
    unfold inflOf at found
    rw [Tab.modify, found]
  rw [cbOrdered_eq] at ordered ⊢
  rw [same]
  exact Tab.every_put _ _ _ _ ordered (by simp [cbLets, seq, hseq])

theorem launchArgs_ok {b : Bytes} (h : launchArgs z q i inst r = .ok w b) : ReadFrame z w := by
  unfold launchArgs at h
  split at h
  · cases h
    exact .refl _
  · split at h
    · cases h
      exact .refl _
    · exact readMemAt_ok h

/-- The entry's record with its argument block copied (R342). -/
def argsCopied (w : State) (q i : Nat) (args : Bytes) : State :=
  { w with infl := Tab.modify w.infl (inflKey q i) (fun r => { r with args := some args }) }

/-- A KERNEL_LAUNCH that is admitted, its code and arguments read, its checks passed. -/
structure Launches (s : State) (q i : Nat) (x : Wq) (r : Infl) (code args : Bytes) (y : State) : Prop where
  may : mayDispatch s q i 0x21 = some (x, r)
  share : ∃ n, Tab.find s.insts x.inst = some n ∧ getLE r.ent 12 2 ≤ n.fwSlots
  passes : ∃ u z w, admitOnce s q i x.inst r (launchOpds r.ent) = (u, none) ∧
    readMemAt (admOf u q i) u x.inst (getLE r.ent 16 8) (getLE r.ent 28 4) = .ok z code ∧ launchArgs z q i x.inst r = .ok w args ∧
    cbOrdered w { r with args := some args } = true ∧ underTest w 6 0 = false ∧
    launchFail (argsCopied w q i args) x.inst code args (getLE r.ent 48 4) = (y, none)

section
variable {x : Wq} {code args : Bytes} (h : Launches s q i x r code args y)
include h

theorem Launches.exec_eq : exec (.kernelLaunch q i) s = .next (startLaunch y q i (newLaunch x.inst y.fw.ages r.ent code args)) := by
  obtain ⟨may, ⟨n, found, fits⟩, u, z, w, admitted, read, argued, ordered, untested, passed⟩ := h
  obtain ⟨-, entry, -, -, -⟩ := mayDispatch_some may
  obtain ⟨stands, -⟩ := admitOnce_ok entry admitted
  have stands : Stands w q i r _ := stands.of_infl (by rw [launchArgs_ok argued, readMemAt_ok read])
  have ordered := cbOrdered_args stands (some args) (fun r => { r with args := some args }) (fun _ => rfl) ordered
  have goes : ¬ ((!cbOrdered (argsCopied w q i args) { r with args := some args }) = true ∨
      (underTest (argsCopied w q i args) 6 0 = true ∧ cbNamed { r with args := some args } ≠ some [])) := by
    rintro (out | ⟨tested, -⟩)
    · rw [argsCopied, ordered] at out
      exact absurd out (by decide)
    · exact absurd (tested.symm.trans untested) (by decide)
  simp only [exec_kernelLaunch, execKernelLaunch, may, found, Nat.not_lt.2 fits, if_false, admitted, read, argued]
  refine (if_neg goes).trans ?_
  rw [argsCopied] at passed
  simp only [passed]

theorem Launches.stands : ∃ ks, Stands y q i r ks := by
  obtain ⟨may, -, u, z, w, admitted, read, argued, -, -, passed⟩ := h
  obtain ⟨-, entry, -, -, -⟩ := mayDispatch_some may
  obtain ⟨stands, -⟩ := admitOnce_ok entry admitted
  have stands : Stands w q i r _ := stands.of_infl (by rw [launchArgs_ok argued, readMemAt_ok read])
  obtain ⟨ks, stands⟩ := stands.modify (fun r => { r with args := some args }) (fun _ => rfl) (fun _ => rfl)
  exact ⟨ks, stands.of_infl (by rw [launchFail_ok passed]; rfl)⟩

theorem Launches.underway (l : Launch) : ∃ ks, Underway (startLaunch y q i l) q i ks := by
  obtain ⟨-, -, unfinished, -, -⟩ := mayDispatch_some h.may
  obtain ⟨ks, stands⟩ := h.stands
  obtain ⟨ks', stands⟩ := stands.modify (fun r => { r with
    keys := r.keys ++ l.binds.map (·.key), spans := r.spans ++ l.binds.flatMap (fun b => spansOver y l.inst b.addr b.len) })
    (fun _ => rfl) (fun _ => rfl)
  exact ⟨ks', (stands.underway unfinished).of_infl rfl⟩
end

theorem startLaunch_launch (y : State) (q i : Nat) (l : Launch) : launchOf (startLaunch y q i l) q i = some l := Tab.find_put_self ..

theorem startLaunch_frame (y : State) (q i : Nat) (l : Launch) :
    startLaunch y q i l = { y with infl := (startLaunch y q i l).infl, fw := (startLaunch y q i l).fw } := rfl

theorem exec_kernelLaunch_noShare {x : Wq} {n : Inst} (may : mayDispatch s q i 0x21 = some (x, r))
    (found : Tab.find s.insts x.inst = some n) (small : n.fwSlots < getLE r.ent 12 2) :
    exec (.kernelLaunch q i) s = .next (finishSt s q i Status.noResource) := by
  simp only [exec_kernelLaunch, execKernelLaunch, may, found, small, if_true]
end

end Sys2Proof.Machine

namespace Sys2Proof
open Sys2Proof.Machine

/-- Settles O35, one case per clause. A delivered trap enters the handler (`deliver_enters`), retires its group (`deliver_retires`) or
doubles (`deliver_doubles`); a lost core lists its groups to run again (`foldl_rerunLost_relists`). -/
theorem trapsEnterTheHandlerOrRetire : Obligations.TrapsEnterTheHandlerOrRetire := by
  unfold Obligations.TrapsEnterTheHandlerOrRetire
  refine ⟨?enters, ?retires, ?doubles, ?watchdog, ?coreLost, ?starts, ?startHeld, ?launches, ?noShare⟩
  case enters =>
    intro s k t l c a m launch handler outside room quiet free
    exact ⟨t.trapped l c a m, deliver_enters launch handler outside room quiet free k c a m, rfl, rfl, rfl, rfl, rfl, rfl,
      t.trapped_sp l c a m, fun j => t.trapped_ur l c a m, t.trapped_localMem l c a m⟩
  case retires =>
    intro s k t l c a m launch noHandler v hv
    rw [deliver_retires launch noHandler] at hv
    obtain ⟨b, noted, frame⟩ := retireTg_of launch k c true
    rw [← hv] at noted frame
    refine ⟨?_, ⟨_, noted, l.retire_retired .., by simp, fun first => Launch.retire_first_trap first t c⟩, ?_⟩
    · rw [frame]
      exact Tab.find_del_self ..
    · rw [frame]
  case doubles =>
    intro s k t l c a m launch handler bad quiet v hv
    rw [deliver_doubles launch handler bad quiet] at hv
    have logged := doubleLogged_frame s k (t.doubled c a m)
    have launch' : launchOf (doubleLogged s k (t.doubled c a m)) (t.doubled c a m).q (t.doubled c a m).i = some l := by
      rw [logged]
      exact launch
    obtain ⟨b, noted, frame⟩ := retireTg_of launch' k Status.doubleTrap true
    rw [← hv] at noted frame
    refine ⟨?_, ?_, ⟨_, noted, l.retire_retired .., fun first => (Launch.retire_first_trap first _ _).1⟩, ?_⟩
    · rw [frame]
      exact Tab.find_del_self ..
    · rw [frame, logged]
    · rw [frame, logged]
  case watchdog =>
    intro s core slot t l found low running armed fresh _
    exact .of _ (exec_watchdogExpiry_runs found low running armed fresh) rfl
  case coreLost =>
    intro s core on room known
    obtain ⟨v, hv, frame, keeps⟩ := exec_coreLost_in on
    have fw : v.fw = withoutCore { s.fw with launches := ((coreGroups s core).foldl rerunLost s).fw.launches } core := by
      rw [frame]
      exact coreLogged_fw s core
    have relisted := foldl_rerunLost_relists (s := s) (ps := coreGroups s core) (fun p hp => by
      obtain ⟨mem, here⟩ := List.mem_filter.1 hp
      exact known p mem (by simpa using here))
    obtain ⟨e, mem, what⟩ := coreLogged_event room core
    refine .of v hv ⟨?_, ?_, ?_, ?_, ?_, ?_, ⟨e, keeps e mem, what⟩, ?_⟩
    · exact coreIn_withoutCore_self (s := s) (by rw [fw]; rfl)
    · exact fun c other => coreIn_withoutCore_ne (s := s) (by rw [fw]; rfl) other
    · intro p hp
      rw [fw] at hp
      simpa using (List.mem_filter.1 hp).2
    · intro k off
      rw [fw]
      exact Tab.find_keep_key (f := fun k => decide (k / 16 ≠ core)) (by simpa using off) s.fw.slots
    · intro p hp here
      obtain ⟨l, launch, mem⟩ := relisted p (List.mem_filter.2 ⟨hp, by simpa using here⟩)
      exact ⟨l, by rw [launchOf, fw]; exact launch, mem⟩
    · rw [frame]
      exact coreLogged_ownWin s core
    · rw [frame, coreLogged_frame]
  case starts =>
    intro s q i l r k launch entry dispatched unfinished waits share first slot runs
    have due : GroupDue s q i l r k := ⟨launch, entry, dispatched, unfinished, waits, share, first, slot⟩
    have woken : (wakeBlk s (.furrow (k / 16))).fw = s.fw := by rw [wakeBlk_frame s (.furrow (k / 16))]
    obtain ⟨age, now, dog, slots⟩ := startGroup_slots (wakeBlk s (.furrow (k / 16))) q i k l
    obtain ⟨ur0, ur1, ur2, sp⟩ := Tg.start_ur q i ((l.rerun.head?).getD l.next) l age now dog
    refine .of _ (due.exec_eq.trans (onBlk_runs runs _)) ⟨⟨_, by rw [slots, Tab.find_put_self], rfl, rfl, rfl, rfl, rfl, rfl, rfl,
      ur0, ur1, ur2, sp, rfl, rfl⟩, fun j other => ?_, startGroup_frame ..⟩
    rw [slots, Tab.find_put_ne _ _ _ _ other, woken]
  case startHeld =>
    intro s q i l r k launch entry dispatched unfinished waits share first slot held
    have due : GroupDue s q i l r k := ⟨launch, entry, dispatched, unfinished, waits, share, first, slot⟩
    exact .of _ (due.exec_eq.trans (onBlk_held held _)) rfl
  case launches =>
    intro s q i x r u z code w args y may share admitted read argued ordered untested passed
    have h : Launches s q i x r code args y := ⟨may, share, u, z, w, admitted, read, argued, ordered, untested, passed⟩
    exact .of _ h.exec_eq ⟨⟨_, startLaunch_launch .., rfl, rfl, rfl, rfl, rfl, rfl, rfl, rfl, rfl, rfl⟩, h.underway _,
      startLaunch_frame ..⟩
  case noShare =>
    intro s q i x r n may found small
    obtain ⟨-, entry, unfinished, -, -⟩ := mayDispatch_some may
    exact .of _ (exec_kernelLaunch_noShare may found small) ⟨finishSt_done _ entry unfinished, finishSt_frame ..⟩

end Sys2Proof
end

section
/-!
PROOFS. The canonical form of the memories (log 2), kept by each shared operation, port command and power command.
-/
namespace Sys2Proof.Machine

/-! ### The memories of an outcome -/

/-- The state a command answers has its memories in canonical form. -/
def answersWf : Result → Prop
  | .next t => memoriesWf t
  | _ => True

section
variable {α : Type} {s t u : State} {c : Prop} [Decidable c]

theorem wf_if (hs : memoriesWf s) (ht : memoriesWf t) : memoriesWf (if c then s else t) := by
  split
  · exact hs
  · exact ht

theorem answersWf_if {a b : Result} (ha : answersWf a) (hb : answersWf b) : answersWf (if c then a else b) := by
  split
  · exact ha
  · exact hb

theorem wf_foldl {f : State → α → State} {l : List α} (hf : ∀ u x, memoriesWf u → memoriesWf (f u x)) (h : memoriesWf s) :
    memoriesWf (l.foldl f s) := by
  induction l generalizing s with
  | nil => exact h
  | cons x l ih => exact ih (hf s x h)

theorem wf_getD {o : Option State} (ho : ∀ v, o = some v → memoriesWf v) (h : memoriesWf s) : memoriesWf (o.getD s) := by
  cases o with
  | none => exact h
  | some v => exact ho v rfl

theorem wf_of_fst {p : State × α} {a : α} (h : memoriesWf p.1) (e : p = (t, a)) : memoriesWf t := by rwa [e] at h

theorem wf_of_ite {p q : State × α} {a : α} (hp : memoriesWf p.1) (hq : memoriesWf q.1) (e : (if c then p else q) = (t, a)) :
    memoriesWf t := by
  split at e
  · exact wf_of_fst hp e
  · exact wf_of_fst hq e

theorem wf_of_some {o : Option State} (h : memoriesWf (o.getD s)) (e : o = some t) : memoriesWf t := by rwa [e] at h

theorem wf_of_next {r : Result} (h : answersWf r) (e : r = .next t) : memoriesWf t := by rwa [e] at h

theorem Acc.wf_ok {x : Acc} {b : Bytes} (h : memoriesWf x.state) (e : x = .ok t b) : memoriesWf t := by rwa [e] at h

theorem Acc.wf_fault {x : Acc} {st : Byte} {r : Bool} (h : memoriesWf x.state) (e : x = .fault t st r) : memoriesWf t := by
  rwa [e] at h

theorem Acc.wf_wait {x : Acc} (h : memoriesWf x.state) (e : x = .wait t) : memoriesWf t := by rwa [e] at h

theorem Tr.wf_ok {x : Tr} {l : Loc} {n : Nat} (h : memoriesWf x.state) (e : x = .ok t l n) : memoriesWf t := by rwa [e] at h

theorem Tr.wf_basin {x : Tr} {a n o : Nat} (h : memoriesWf x.state) (e : x = .basin t a n o) : memoriesWf t := by rwa [e] at h

theorem Tr.wf_fault {x : Tr} {st : Byte} (h : memoriesWf x.state) (e : x = .fault t st) : memoriesWf t := by rwa [e] at h

theorem Tr.wf_wait {x : Tr} (h : memoriesWf x.state) (e : x = .wait t) : memoriesWf t := by rwa [e] at h

theorem Pass.wf_ok {x : Pass} {l : List (Nat × Nat)} (h : memoriesWf x.state) (e : x = .ok t l) : memoriesWf t := by rwa [e] at h

theorem Pass.wf_fault {x : Pass} {st : Byte} {a l : Nat} (h : memoriesWf x.state) (e : x = .fault t st a l) : memoriesWf t := by
  rwa [e] at h

theorem Pass.wf_wait {x : Pass} (h : memoriesWf x.state) (e : x = .wait t) : memoriesWf t := by rwa [e] at h

theorem RnIn.wf_deliver {x : RnIn} (h : memoriesWf x.state) (e : x = .deliver t) : memoriesWf t := by rwa [e] at h

theorem RnIn.wf_done {x : RnIn} (h : memoriesWf x.state) (e : x = .done t) : memoriesWf t := by rwa [e] at h

theorem RnIn.wf_if {a b : RnIn} (ha : memoriesWf a.state) (hb : memoriesWf b.state) : memoriesWf (if c then a else b).state := by
  split
  · exact ha
  · exact hb

theorem Issued.wf_wait {x : Issued} (h : memoriesWf x.state) (e : x = .wait t) : memoriesWf t := by rwa [e] at h

theorem Issued.wf_fail {x : Issued} {st : Byte} (h : memoriesWf x.state) (e : x = .fail t st) : memoriesWf t := by rwa [e] at h

theorem Issued.wf_go {x : Issued} {d : HeldCmd} (h : memoriesWf x.state) (e : x = .go t d) : memoriesWf t := by rwa [e] at h

theorem Fetched.wf_ok {x : Fetched} {w : Nat} (h : memoriesWf x.state) (e : x = .ok t w) : memoriesWf t := by rwa [e] at h

theorem Fetched.wf_trap {x : Fetched} {d : Byte} (h : memoriesWf x.state) (e : x = .trap t d) : memoriesWf t := by rwa [e] at h

theorem Fetched.wf_wait {x : Fetched} (h : memoriesWf x.state) (e : x = .wait t) : memoriesWf t := by rwa [e] at h

/-- A read or a translation leaves the memories as they are. -/
theorem ReadFrame.wf (e : ReadFrame s t) (h : memoriesWf s) : memoriesWf t := by
  rw [e]
  exact h
end

/-! ### Shared operations -/

theorem wf_emit {s : State} {o : Out} (h : memoriesWf s) : memoriesWf (emit s o) := h

theorem wf_setInt {s : State} {st en : BitVec 6} (h : memoriesWf s) : memoriesWf (setInt s st en) := by
  rw [setInt_frame]
  exact h

theorem wf_raise {s : State} {n : Nat} (h : memoriesWf s) : memoriesWf (raise s n) := wf_setInt h

theorem wf_logSev {s : State} {id source sev unit : Nat} {st : Byte} {d : Bytes} (h : memoriesWf s) :
    memoriesWf (logSev s id st source sev unit d) := by
  rw [logSev_frame]
  exact h

theorem wf_logEv {s : State} {id source unit : Nat} {st : Byte} {d : Bytes} (h : memoriesWf s) :
    memoriesWf (logEv s id st source unit d) := wf_logSev h

theorem wf_voidGuarantee {s : State} {why : Nat} (h : memoriesWf s) : memoriesWf (voidGuarantee s why) := by
  rw [voidGuarantee_frame]
  exact h

theorem wf_openOwnWin {s : State} (h : memoriesWf s) : memoriesWf (openOwnWin s) := by
  rw [openOwnWin_frame]
  exact h

theorem wf_reject {s : State} {addr : Nat} {inst : Option Nat} {w : RegWr} {st : Byte} (h : memoriesWf s) :
    memoriesWf (reject s addr inst w st) := by
  rw [reject_frame]
  exact h

theorem wf_checked {s eff : State} {a : Nat} {i : Option Nat} {w : RegWr} {cs : List (Bool × Byte)} (h : memoriesWf s)
    (he : memoriesWf eff) : memoriesWf (checked s a i w cs eff) := by
  obtain e | e | ⟨st, e⟩ := checked_cases s a i w cs eff <;> rw [e]
  · exact h
  · exact he
  · exact wf_reject h

theorem wf_mbxRespond {s : State} {r : MbxReq} {st : Byte} {d : Bytes} (h : memoriesWf s) : memoriesWf (mbxRespond s r st d) := by
  rw [mbxRespond_frame]
  exact h

theorem wf_mbxDone {s : State} {st : Byte} {d : Bytes} (h : memoriesWf s) : memoriesWf (mbxDone s st d) := by
  rw [mbxDone_frame]
  exact h

variable {s : State} {inst l n ns off p stat tag target : Nat} {answers : Bool} {st : Byte} {b : Bytes}
    {samples : List DropSample} {u : PowerUnit} {w : RegWr}

/-! ### Ports, modules and links -/

theorem wf_calStart (h : memoriesWf s) : memoriesWf (calStart s l) := wf_if h h

theorem wf_calAccept (h : memoriesWf s) : memoriesWf (calAccept s l tag) := wf_calStart h

@[simp] theorem wf_execSlCalStart (h : memoriesWf s) : answersWf (execSlCalStart l w s) :=
  answersWf_if h (wf_checked h (wf_if (wf_calAccept h) h))

@[simp] theorem wf_execCalIdleWindow (h : memoriesWf s) : answersWf (execCalIdleWindow l ns s) := answersWf_if h h

theorem wf_calEnd (h : memoriesWf s) : memoriesWf (calEnd s l st) := wf_logSev h

@[simp] theorem wf_execCalComplete (h : memoriesWf s) : answersWf (execCalComplete l s) := answersWf_if h (wf_calEnd h)

@[simp] theorem wf_execCalDeferTimeout (h : memoriesWf s) : answersWf (execCalDeferTimeout l s) := answersWf_if h (wf_calEnd h)

theorem wf_logModule {m : ModState} (h : memoriesWf s) : memoriesWf (logModule s p m) := wf_logEv h

theorem wf_retrain (h : memoriesWf s) : memoriesWf (retrain s l) := wf_logEv h

theorem wf_goDown (h : memoriesWf s) : memoriesWf (goDown s l) := by
  unfold goDown
  refine wf_calStart ?_
  split
  · exact wf_retrain h
  · exact wf_retrain h
  · exact wf_retrain h
  · exact h

theorem wf_portDown (h : memoriesWf s) : memoriesWf (portDown s p) :=
  wf_foldl (fun _ _ h => wf_if (wf_goDown h) (wf_calStart h)) h

@[simp] theorem wf_execModuleInsertion {info : ModuleInfo} (h : memoriesWf s) : answersWf (execModuleInsertion p info s) :=
  answersWf_if h (answersWf_if h (answersWf_if h (wf_logModule (wf_portDown h))))

theorem wf_moduleFault (h : memoriesWf s) : memoriesWf (moduleFault s p) := wf_if h (wf_logModule (wf_portDown h))

@[simp] theorem wf_execCmisPoll {ans : CmisAnswer} (h : memoriesWf s) : answersWf (execCmisPoll p ans s) := by
  unfold execCmisPoll
  refine answersWf_if h ?_
  split
  · exact h
  · exact wf_moduleFault h
  · exact answersWf_if (wf_moduleFault h) h

@[simp] theorem wf_execModuleRead (h : memoriesWf s) : answersWf (execModuleRead answers s) := by
  unfold execModuleRead
  split
  · exact h
  · dsimp only
    split <;> exact wf_mbxDone h

@[simp] theorem wf_execModuleWrite (h : memoriesWf s) : answersWf (execModuleWrite answers s) := by
  unfold execModuleWrite
  split
  · exact h
  · dsimp only
    split <;> exact wf_mbxDone h

theorem wf_onFrame {op : Nat} {k : LinkFrame → State} (h : memoriesWf s) (hk : ∀ f : LinkFrame, memoriesWf (k f)) :
    answersWf (onFrame s l op b k) := by
  unfold onFrame
  refine answersWf_if h (answersWf_if h ?_)
  split
  · exact h
  · exact answersWf_if (hk _) h

theorem wf_concludeOffer (h : memoriesWf s) : memoriesWf (concludeOffer s l) := by
  unfold concludeOffer
  dsimp only
  split <;> exact h

@[simp] theorem wf_execLinkTrained {merge : Bool} (h : memoriesWf s) : answersWf (execLinkTrained l merge s) :=
  answersWf_if h (answersWf_if (wf_if h h) h)

@[simp] theorem wf_execLinkDown (h : memoriesWf s) : answersWf (execLinkDown l s) := answersWf_if h (wf_goDown h)

@[simp] theorem wf_execOffer (h : memoriesWf s) : answersWf (execOffer l b s) :=
  wf_onFrame h fun _ => wf_if h (wf_if (wf_if h (wf_concludeOffer h)) (wf_concludeOffer h))

@[simp] theorem wf_execOfferReplyTimeout (h : memoriesWf s) : answersWf (execOfferReplyTimeout l s) :=
  answersWf_if h (answersWf_if h h)

theorem wf_renegotiate (h : memoriesWf s) : memoriesWf (renegotiate s) := wf_foldl (fun _ _ h => wf_if (wf_if h h) h) h

@[simp] theorem wf_execMasterIdleEnter (h : memoriesWf s) : answersWf (execMasterIdleEnter l s) := answersWf_if h h

@[simp] theorem wf_execEnter (h : memoriesWf s) : answersWf (execEnter l b s) := wf_onFrame h fun _ => wf_if h (wf_if h h)

@[simp] theorem wf_execEnterAck (h : memoriesWf s) : answersWf (execEnterAck l b s) := wf_onFrame h fun _ => wf_if h h

theorem wf_wakeUp (h : memoriesWf s) : memoriesWf (wakeUp s l) := by
  rw [wakeUp_frame]
  exact h

@[simp] theorem wf_execEnterNak (h : memoriesWf s) : answersWf (execEnterNak l b s) := wf_onFrame h fun _ => wf_if (wf_wakeUp h) h

@[simp] theorem wf_execCancel (h : memoriesWf s) : answersWf (execCancel l b s) := wf_onFrame h fun _ => wf_if (wf_wakeUp h) h

@[simp] theorem wf_execDormancyHoldEnd (h : memoriesWf s) : answersWf (execDormancyHoldEnd l s) := answersWf_if h h

@[simp] theorem wf_execEnterAckTimeout (h : memoriesWf s) : answersWf (execEnterAckTimeout l s) := by
  unfold execEnterAckTimeout
  split
  · exact h
  · exact answersWf_if h (wf_retrain h)

@[simp] theorem wf_execWakeWindowOpen (h : memoriesWf s) : answersWf (execWakeWindowOpen l s) := answersWf_if h h

@[simp] theorem wf_execHello (h : memoriesWf s) : answersWf (execHello l b s) :=
  wf_onFrame h fun _ => wf_if h (wf_if (wf_wakeUp h) h)

@[simp] theorem wf_execWakeWindowClose (h : memoriesWf s) : answersWf (execWakeWindowClose l s) := answersWf_if h (wf_retrain h)

@[simp] theorem wf_execDormMissLimit (h : memoriesWf s) : answersWf (execDormMissLimit l s) := by
  unfold execDormMissLimit
  dsimp only
  split
  · exact answersWf_if (wf_logEv h) h
  · exact h

/-! ### Instances' tables -/

theorem wf_instStat {k d : Nat} (h : memoriesWf s) : memoriesWf (instStat s n k d) := h

theorem wf_putPage {v : Nat} (h : memoriesWf s) : memoriesWf (putPage s inst off v) := h

theorem wf_putStat {busy : Bool} (h : memoriesWf s) : memoriesWf (putStat s inst off busy st) := h

theorem wf_rejectCmd (h : memoriesWf s) : memoriesWf (rejectCmd s inst off stat w st) := wf_putStat (wf_reject h)

theorem wf_pageCmd {cs : List (Bool × Byte)} {eff : State → State} (h : memoriesWf s)
    (heff : ∀ u : State, memoriesWf u → memoriesWf (eff u)) : answersWf (pageCmd s inst off stat w cs eff) := by
  unfold pageCmd
  refine answersWf_if h (answersWf_if (wf_reject h) (answersWf_if (wf_reject h) (answersWf_if (wf_reject h) ?_)))
  split
  · exact wf_rejectCmd h
  · exact answersWf_if (heff _ h) (wf_rejectCmd h)

theorem wf_onCmd {c : Nat} {k : Result} (h : memoriesWf s) (hk : answersWf k) : answersWf (onCmd w c s k) := by
  unfold onCmd
  split
  · exact hk
  · exact h

/-! ### Levee and gating -/

@[simp] theorem wf_execJunctionOvertemp {tempC : Nat} (h : memoriesWf s) : answersWf (execJunctionOvertemp tempC s) :=
  answersWf_if h h

@[simp] theorem wf_execGridExcursion {deltaMv : Int} (h : memoriesWf s) : answersWf (execGridExcursion n deltaMv s) :=
  answersWf_if h h

theorem wf_onRegions {ns : List Nat} {f : Region → Region} (h : memoriesWf s) : memoriesWf (onRegions s ns f) :=
  wf_foldl (fun _ _ h => h) h

theorem wf_seenCurrent {i : Nat} (h : memoriesWf s) : memoriesWf (seenCurrent s u i) := by
  unfold seenCurrent
  split
  · exact wf_if h h
  · exact h

@[simp] theorem wf_execOcThrottleEnter {samples : List Nat} (h : memoriesWf s) : answersWf (execOcThrottleEnter u samples s) :=
  answersWf_if h (wf_onRegions (wf_seenCurrent h))

theorem wf_wakeBlk {b : Blk} (h : memoriesWf s) : memoriesWf (wakeBlk s b) := (wakeBlk_frame ..).wf h

theorem wf_onBlk {b : Blk} {k : State → Result} (h : memoriesWf s) (hk : ∀ u : State, memoriesWf u → answersWf (k u)) :
    answersWf (onBlk b s k) := answersWf_if (wf_wakeBlk h) (hk _ (wf_wakeBlk h))

theorem wf_releaseWakes (h : memoriesWf s) : memoriesWf (releaseWakes s) := wf_foldl (fun _ _ h => wf_if h h) h

@[simp] theorem wf_execThrottleExit {highest : Nat} (h : memoriesWf s) : answersWf (execThrottleExit u highest ns s) :=
  answersWf_if h (wf_releaseWakes (wf_onRegions h))

theorem wf_persistOne {pkg : Bool} (h : memoriesWf s) : memoriesWf (persistOne pkg s n) := wf_logEv h

@[simp] theorem wf_execOcPersist (h : memoriesWf s) : answersWf (execOcPersist u s) :=
  answersWf_if h (wf_foldl (fun _ _ h => wf_persistOne h) h)

@[simp] theorem wf_execSenseOpen {pairB : Bool} {readings : List Nat} (h : memoriesWf s) :
    answersWf (execSenseOpen n pairB readings s) := answersWf_if h (wf_logEv h)

@[simp] theorem wf_execDrop (h : memoriesWf s) : answersWf (execDrop n samples s) := answersWf_if h (wf_logEv h)

@[simp] theorem wf_execDisagree (h : memoriesWf s) : answersWf (execDisagree n samples s) := answersWf_if h h

@[simp] theorem wf_execPmbusPoll {faults : List (Nat × BitVec 16)} (h : memoriesWf s) : answersWf (execPmbusPoll faults s) :=
  answersWf_if h (wf_foldl (fun _ _ h => wf_logEv h) h)

theorem wf_vdone (h : memoriesWf s) : memoriesWf (vdone s tag st) := wf_if h h

theorem wf_sendV (h : memoriesWf s) : memoriesWf (sendV s target) := h

theorem wf_acceptV (h : memoriesWf s) : memoriesWf (acceptV s target tag) := by
  unfold acceptV
  refine wf_sendV ?_
  split
  · exact wf_vdone h
  · exact h

@[simp] theorem wf_execLvVcmd (h : memoriesWf s) : answersWf (execLvVcmd w s) := answersWf_if h (wf_checked h (wf_acceptV h))

theorem wf_endV (h : memoriesWf s) : memoriesWf (endV s st) := by
  unfold endV
  split
  · exact h
  · exact wf_vdone h

@[simp] theorem wf_execVcmdSettle {r1 r2 : Nat} (h : memoriesWf s) : answersWf (execVcmdSettle r1 r2 s) := by
  unfold execVcmdSettle
  split
  · exact h
  · exact answersWf_if (wf_endV h) h

@[simp] theorem wf_execVcmdTimeout (h : memoriesWf s) : answersWf (execVcmdTimeout s) := by
  unfold execVcmdTimeout
  split
  · exact h
  · exact wf_endV h

@[simp] theorem wf_execAvsbusSilent (h : memoriesWf s) : answersWf (execAvsbusSilent s) := by
  unfold execAvsbusSilent
  split
  · exact h
  · exact wf_endV h

@[simp] theorem wf_execLvVdoneRead (h : memoriesWf s) : answersWf (execLvVdoneRead s) := answersWf_if h h

end Sys2Proof.Machine
end

section
/-!
PROOFS. The canonical form of the memories (log 2), kept by translation, memory access, the Headgate queues and spans.
-/
namespace Sys2Proof.Machine

variable {s t : State} {addr c f handle i idx inst k kind len n need off q source : Nat} {basin remote write : Bool} {st : Byte}
    {data : Bytes} {d : Done} {r : Infl} {os : List LocOpd} {l : Loc} {at_ : Option Nat} {p : Piece} {w : RegWr}
    {eff : State → State} {x : Wq}

/-! ### Translation and memory access -/

theorem wf_logCorrupt (h : memoriesWf s) : memoriesWf (logCorrupt s source kind idx) := (logCorrupt_frame ..).wf h

theorem wf_admitKey (h : memoriesWf s) : memoriesWf (admitKey s inst key need addr len basin remote).1 := by
  obtain ⟨_, _, _, _, e⟩ := admitKey_frame s inst key need addr len basin remote
  rw [e]
  exact h

theorem wf_lineWait (h : memoriesWf s) : memoriesWf ((lineWait s l len write).getD s) :=
  wf_getD (fun _ e => (lineWait_frame e).wf h) h

theorem wf_usePiece (h : memoriesWf s) : memoriesWf ((usePiece s k addr p).getD s) :=
  wf_getD (fun _ e => (usePiece_frame e).wf h) h

theorem wf_spanRepair (h : memoriesWf s) : memoriesWf (spanRepair s idx) := (spanRepair_frame ..).wf h

theorem wf_translateAt (h : memoriesWf s) : memoriesWf (translateAt at_ s inst addr len write).state :=
    (translateAt_frame ..).wf h

theorem wf_translate (h : memoriesWf s) : memoriesWf (translate s inst addr len write).state := wf_translateAt h

/-- Bytes are stored in one of the three memories, by `Mem.write`, which keeps the form. -/
theorem wf_setLoc (h : memoriesWf s) : memoriesWf (setLoc s l data) := by
  obtain ⟨hbm, plot, pmem, asleep⟩ := h
  unfold setLoc
  cases l.space with
  | hbm => exact ⟨Memory.wf_write _ _ hbm, plot, pmem, asleep⟩
  | plot => exact ⟨hbm, Memory.wf_write _ _ plot, pmem, asleep⟩
  | partner => exact ⟨hbm, plot, Memory.wf_write _ _ pmem, asleep⟩

theorem wf_bxStep (h : memoriesWf s) : memoriesWf (bxStep s inst addr len handle write data).state := (bxStep_frame ..).wf h

theorem wf_ownStore (h : memoriesWf s) : memoriesWf (ownStore s inst addr len handle l data).state := by
  unfold ownStore
  split
  · rename_i x _
    have hu : memoriesWf (if x.redo = true then setLoc s l data else s) := wf_if (wf_setLoc h) h
    dsimp only
    generalize (if x.redo = true then setLoc s l data else s) = u at hu ⊢
    split
    · exact wf_bxStep hu
    · exact hu
  · split
    · exact wf_bxStep (wf_setLoc h)
    · exact wf_setLoc h

theorem wf_basinPiece (h : memoriesWf s) : memoriesWf (basinPiece s inst addr len handle write data).state := by
  unfold basinPiece
  split
  · exact h
  · split
    · exact h
    · split
      · split
        · exact h
        · dsimp only
          split
          · exact wf_of_some (wf_lineWait h) ‹_›
          · split
            · exact wf_ownStore h
            · exact h
      · exact wf_bxStep h

theorem wf_accPiece (h : memoriesWf s) : memoriesWf (accPiece at_ s inst addr len write data).1.state := by
  unfold accPiece
  split
  · exact Tr.wf_fault (wf_translateAt h) ‹_›
  · exact Tr.wf_wait (wf_translateAt h) ‹_›
  · exact wf_basinPiece (Tr.wf_basin (wf_translateAt h) ‹_›)
  · replace h := Tr.wf_ok (wf_translateAt h) ‹_›
    split
    · exact wf_of_some (wf_lineWait h) ‹_›
    · split
      · exact wf_setLoc h
      · exact h

theorem wf_readMemAt (h : memoriesWf s) : memoriesWf (readMemAt at_ s inst addr len).state := (readMemAt_frame ..).wf h

theorem wf_readMem (h : memoriesWf s) : memoriesWf (readMem s inst addr len).state := wf_readMemAt h

theorem wf_writeAcc (h : memoriesWf s) : memoriesWf (writeAcc at_ n s inst addr data).state := by
  induction n generalizing s addr data with
  | zero => exact h
  | succ n ih =>
    unfold writeAcc
    split
    · exact h
    · have k := wf_accPiece (at_ := at_) (inst := inst) (addr := addr) (len := data.length) (write := true) (data := data) h
      split <;> rename_i e <;> rw [e] at k
      · exact ih k
      · exact k

theorem wf_writeMemAt (h : memoriesWf s) : memoriesWf (writeMemAt at_ s inst addr data).state := wf_writeAcc h

theorem wf_writeMem (h : memoriesWf s) : memoriesWf (writeMem s inst addr data).state := wf_writeMemAt h

theorem wf_probe (h : memoriesWf s) : memoriesWf (probe write at_ n s inst addr len).state := (probe_frame ..).wf h

/-! ### Queues -/

theorem wf_putInfl {x : Infl} (h : memoriesWf s) : memoriesWf (putInfl s q i x) := h

theorem wf_enterError (h : memoriesWf s) : memoriesWf (enterError s q st) := by
  unfold enterError
  split
  · exact h
  · exact wf_if h h

theorem wf_spillAll {f : Nat → Bool} (h : memoriesWf s) : memoriesWf (spillAll s q f) := by
  unfold spillAll
  split
  · exact h
  · refine wf_foldl (fun _ _ h => (wf_if ?_ h)) h
    split
    · exact (Acc.wf_wait (wf_writeMem h) ‹_› :)
    · exact wf_enterError (Acc.wf_fault (wf_writeMem h) ‹_› :)
    · exact (Acc.wf_ok (wf_writeMem h) ‹_› :)

theorem wf_fenceStep (h : memoriesWf s) : memoriesWf (fenceStep s q) := by
  unfold fenceStep
  split
  · exact h
  · exact wf_if h (wf_spillAll h)

theorem wf_settle (h : memoriesWf s) : memoriesWf (settle s q) := by
  unfold settle
  split
  · exact h
  · exact wf_if (wf_spillAll h) h

theorem wf_queueReg {k : Wq → State} (h : memoriesWf s) (hk : ∀ x : Wq, memoriesWf (k x)) : answersWf (queueReg s q off w k) := by
  unfold queueReg
  refine answersWf_if h (answersWf_if (wf_reject h) (answersWf_if (wf_reject h) ?_))
  split
  · exact wf_reject h
  · exact hk _

@[simp] theorem wf_execHgDb (h : memoriesWf s) : answersWf (execHgDb q w s) :=
  wf_queueReg h fun _ => wf_if h (wf_if (wf_reject h) (wf_if (wf_reject h) (wf_if (wf_wakeBlk h) h)))

theorem wf_cacheLine (h : memoriesWf s) : memoriesWf ((cacheLine s).getD s) := by
  unfold cacheLine
  split
  · exact h
  · split <;> exact h

theorem wf_pushStep (h : memoriesWf s) : memoriesWf (pushStep s q) := by
  unfold pushStep
  split
  · exact h
  · split
    · exact h
    · dsimp only
      split
      · exact (wf_of_some (wf_cacheLine h) ‹_› :)
      · split
        · exact (Acc.wf_ok (wf_writeMem h) ‹_› :)
        · exact (Acc.wf_wait (wf_writeMem h) ‹_› :)
        · exact wf_enterError (Acc.wf_fault (wf_writeMem h) ‹_› :)

@[simp] theorem wf_execPushWrite {win : Nat} {p : PushWr} (h : memoriesWf s) : answersWf (execPushWrite win p s) := by
  unfold execPushWrite
  refine answersWf_if h (answersWf_if (wf_reject h) (answersWf_if (wf_reject h) ?_))
  split
  · exact wf_reject h
  · refine answersWf_if h ?_
    dsimp only
    split
    · exact wf_reject h
    · exact wf_pushStep (wf_wakeBlk h)

theorem wf_fetchSlot {reads : Nat} (h : memoriesWf s) : memoriesWf (fetchSlot s q i x reads) := by
  unfold fetchSlot
  split
  · exact (Acc.wf_wait (wf_readMem h) ‹_› :)
  · exact wf_enterError (Acc.wf_fault (wf_readMem h) ‹_› :)
  · replace h := (Acc.wf_ok (wf_readMem h) ‹_› :)
    exact wf_if (wf_enterError h) h

@[simp] theorem wf_execDescriptorFetch (h : memoriesWf s) : answersWf (execDescriptorFetch q i s) := by
  unfold execDescriptorFetch
  refine wf_onBlk h fun _ h => ?_
  split
  · exact h
  · exact answersWf_if h (wf_fetchSlot h)

theorem wf_rereadPush {c : CacheEnt} (h : memoriesWf s) : memoriesWf (rereadPush s q x c) := wf_if (wf_enterError h) h

@[simp] theorem wf_execDescriptorRetry (h : memoriesWf s) : answersWf (execDescriptorRetry q s) := by
  unfold execDescriptorRetry
  refine wf_onBlk h fun _ h => ?_
  split
  · exact h
  · split
    · exact answersWf_if h (answersWf_if (wf_rereadPush h) (wf_fetchSlot h))
    · exact h

theorem wf_accDraw (h : memoriesWf s) : memoriesWf (accDraw s inst) := h

theorem wf_freeTag (h : memoriesWf s) : memoriesWf (freeTag s q i) := h

theorem wf_acceptEnt {e : Bytes} (h : memoriesWf s) : memoriesWf (acceptEnt s q x e) := by
  unfold acceptEnt
  extract_lets done r u v
  have hu : memoriesWf u := wf_putInfl (wf_instStat (wf_accDraw (wf_freeTag h)))
  exact (wf_if hu (wf_foldl (fun _ _ h => wf_wakeBlk h) hu) : memoriesWf v)

@[simp] theorem wf_execEntryAccept (h : memoriesWf s) : answersWf (execEntryAccept q s) := by
  unfold execEntryAccept
  refine wf_onBlk h fun _ h => ?_
  split
  · exact h
  · split
    · exact h
    · refine answersWf_if h ?_
      split
      · exact answersWf_if (wf_acceptEnt h) h
      · exact h
      · exact wf_enterError h

@[simp] theorem wf_execGateTimeoutExpiry (h : memoriesWf s) : answersWf (execGateTimeoutExpiry q s) := by
  unfold execGateTimeoutExpiry
  split
  · exact h
  · split
    · exact answersWf_if h (wf_enterError h)
    · exact h

@[simp] theorem wf_execHgInvFence (h : memoriesWf s) : answersWf (execHgInvFence q w s) := by
  unfold execHgInvFence
  refine answersWf_if h (wf_queueReg h fun _ => ?_)
  split
  · exact wf_reject h
  · exact wf_fenceStep h

@[simp] theorem wf_execHgInvRelease (h : memoriesWf s) : answersWf (execHgInvRelease q w s) := by
  unfold execHgInvRelease
  refine answersWf_if h (wf_queueReg h fun _ => ?_)
  split
  · exact wf_reject h
  · exact h

@[simp] theorem wf_execHgQctrlEnable (h : memoriesWf s) : answersWf (execHgQctrlEnable q w s) := by
  unfold execHgQctrlEnable
  refine answersWf_if h (wf_queueReg h fun _ => ?_)
  dsimp only
  split
  · exact wf_reject h
  · split
    · exact wf_reject h
    · exact wf_if h h

@[simp] theorem wf_execHgQctrlDisable (h : memoriesWf s) : answersWf (execHgQctrlDisable q w s) :=
  answersWf_if h (wf_queueReg h fun _ => wf_if (wf_reject h) (wf_if (wf_settle h) h))

theorem wf_finish (h : memoriesWf s) : memoriesWf (finish s q i d) := by
  rw [finish_frame]
  exact h

theorem wf_finishR (h : memoriesWf s) : memoriesWf (finishR s q i st remote) := wf_finish h

theorem wf_finishSt (h : memoriesWf s) : memoriesWf (finishSt s q i st) := by
  rw [finishSt_frame]
  exact h

theorem wf_cqFail {x : Cq} (h : memoriesWf s) : memoriesWf (cqFail s c x st) :=
  wf_foldl (fun _ _ h => wf_if (wf_enterError h) h) h

theorem wf_writeCqe {op : Nat} {wrId : Bytes} (h : memoriesWf s) : memoriesWf (writeCqe s c q i op wrId d).1 := by
  unfold writeCqe
  split
  · exact h
  · split
    · exact h
    · split
      · exact (Acc.wf_wait (wf_writeMem h) ‹_› :)
      · exact wf_cqFail (Acc.wf_fault (wf_writeMem h) ‹_› :)
      · replace h := (Acc.wf_ok (wf_writeMem h) ‹_› :)
        dsimp only
        split <;> exact h

theorem wf_afterCqe (h : memoriesWf s) : memoriesWf (afterCqe s q i r inst) :=
  wf_if (wf_foldl (fun _ _ h => h) h) (wf_putInfl (wf_foldl (fun _ _ h => h) h))

@[simp] theorem wf_execWqeComplete (h : memoriesWf s) : answersWf (execWqeComplete q s) := by
  unfold execWqeComplete
  split
  · split
    · exact h
    · split
      · exact (wf_of_fst (wf_writeCqe h) ‹_› :)
      · replace h := (wf_of_fst (wf_writeCqe h) ‹_› :)
        exact wf_settle (wf_afterCqe (wf_if h h))
  · exact h

@[simp] theorem wf_execQueueErrorEntry (h : memoriesWf s) : answersWf (execQueueErrorEntry q s) := by
  unfold execQueueErrorEntry
  split
  · exact h
  · split
    · exact h
    · refine answersWf_if h ?_
      split <;> exact (wf_of_fst (wf_writeCqe h) ‹_› :)

theorem wf_cqReg {k : Cq → State} (h : memoriesWf s) (hk : ∀ x : Cq, memoriesWf (k x)) : answersWf (cqReg s c off w k) := by
  unfold cqReg
  refine answersWf_if h (answersWf_if (wf_reject h) (answersWf_if (wf_reject h) ?_))
  split
  · exact wf_reject h
  · exact hk _

@[simp] theorem wf_execHgCqdb (h : memoriesWf s) : answersWf (execHgCqdb c w s) :=
  wf_cqReg h fun _ => wf_if (wf_reject h) (wf_if h h)

@[simp] theorem wf_execHgCqarm (h : memoriesWf s) : answersWf (execHgCqarm c w s) :=
  wf_cqReg h fun _ => wf_if (wf_reject h) (wf_if h h)

@[simp] theorem wf_execCqModTimeExpiry (h : memoriesWf s) : answersWf (execCqModTimeExpiry c s) := by
  unfold execCqModTimeExpiry
  split
  · exact h
  · split <;> exact h

@[simp] theorem wf_execHgQcmdCreate (h : memoriesWf s) : answersWf (execHgQcmdCreate inst w s) :=
  wf_onCmd h (wf_pageCmd h fun _ h => h)

@[simp] theorem wf_execHgQcmdDestroy (h : memoriesWf s) : answersWf (execHgQcmdDestroy inst w s) :=
  wf_onCmd h (wf_pageCmd h fun _ h => h)

@[simp] theorem wf_execHgQcmdReset (h : memoriesWf s) : answersWf (execHgQcmdReset inst w s) :=
  wf_onCmd h (wf_pageCmd h fun _ h => h)

@[simp] theorem wf_execHgQcmdModify (h : memoriesWf s) : answersWf (execHgQcmdModify inst w s) :=
  wf_onCmd h (wf_pageCmd h fun _ h => h)

@[simp] theorem wf_execHgCcmdCreate (h : memoriesWf s) : answersWf (execHgCcmdCreate inst w s) :=
  wf_onCmd h (wf_pageCmd h fun _ h => h)

@[simp] theorem wf_execHgCcmdDestroy (h : memoriesWf s) : answersWf (execHgCcmdDestroy inst w s) :=
  wf_onCmd h (wf_pageCmd h fun _ h => h)

@[simp] theorem wf_execHgCcmdReset (h : memoriesWf s) : answersWf (execHgCcmdReset inst w s) :=
  wf_onCmd h (wf_pageCmd h fun _ h => h)

/-! ### Spans and keys -/

theorem wf_dispatched (h : memoriesWf s) : memoriesWf (dispatched s q i) := h

theorem wf_admitOpds (h : memoriesWf s) : memoriesWf (admitOpds s inst os).1 := by
  induction os generalizing s with
  | nil => exact h
  | cons o os ih =>
    unfold admitOpds
    split
    · exact wf_of_fst (wf_admitKey h) ‹_›
    · exact ih (wf_of_fst (wf_admitKey h) ‹_›)

theorem wf_noteAdmit {keys spans : List Nat} (h : memoriesWf s) : memoriesWf (noteAdmit s q i keys spans) := h

theorem wf_admitOnce (h : memoriesWf s) : memoriesWf (admitOnce s q i inst r os).1 := by
  unfold admitOnce
  split
  · exact h
  · split
    · exact (wf_of_fst (wf_admitOpds h) ‹_› :)
    · exact wf_noteAdmit (wf_of_fst (wf_admitOpds h) ‹_› :)

@[simp] theorem wf_execNop (h : memoriesWf s) : answersWf (execNop q i s) := by
  unfold execNop
  split
  · exact h
  · exact wf_finishSt h

theorem wf_loadAts (h : memoriesWf s) : memoriesWf (loadAts f s inst addr len).state := by
  induction f generalizing s addr len with
  | zero => exact h
  | succ f ih =>
    unfold loadAts
    split
    · exact h
    · split
      · exact ih (Tr.wf_ok (wf_translate h) ‹_›)
      · exact Tr.wf_basin (wf_translate h) ‹_›
      · exact Tr.wf_fault (wf_translate h) ‹_›
      · exact Tr.wf_wait (wf_translate h) ‹_›

@[simp] theorem wf_execPrefetch (h : memoriesWf s) : answersWf (execPrefetch q i s) := by
  unfold execPrefetch
  split
  · exact h
  · dsimp only
    split
    · exact wf_finishSt (wf_of_ite h (wf_admitKey h) ‹_›)
    · rename_i x r _ _ u hu
      have hv : memoriesWf (if r.adm.isSome = true then u else noteAdmit u q i [entKey r.ent] []) := wf_if (wf_of_ite h
          (wf_admitKey h) hu) (wf_noteAdmit (wf_of_ite h (wf_admitKey h) hu))
      replace h := hv
      generalize (if r.adm.isSome = true then u else noteAdmit u q i [entKey r.ent] []) = v at h ⊢
      split
      · exact wf_finishSt h
      · refine answersWf_if (wf_finishSt (wf_logCorrupt h)) (answersWf_if h (answersWf_if ?_ ?_))
        · exact answersWf_if (wf_finishSt h) (answersWf_if (wf_finish h) h)
        · split
          · split
            · exact wf_finish (Acc.wf_ok (wf_loadAts h) ‹_›)
            · exact wf_finishSt (Acc.wf_fault (wf_loadAts h) ‹_›)
            · exact Acc.wf_wait (wf_loadAts h) ‹_›
          all_goals exact wf_finish h

theorem wf_advise {advice : Nat} {eff : State → List Nat → State} (h : memoriesWf s)
    (heff : ∀ (u : State) (l : List Nat), memoriesWf u → memoriesWf (eff u l)) : answersWf (advise q i advice s eff) := by
  unfold advise
  split
  · exact h
  · split
    · exact h
    · dsimp only
      split
      · exact wf_finishSt (wf_of_fst (wf_admitKey h) ‹_›)
      · split
        · exact wf_finishSt (wf_of_fst (wf_admitKey h) ‹_›)
        · split
          · exact wf_finishSt (wf_logCorrupt (wf_of_fst (wf_admitKey h) ‹_›))
          · refine wf_finishSt (heff _ _ (wf_foldl (fun _ _ h => ?_) ?_))
            · exact wf_spanRepair h
            · exact wf_of_fst (wf_admitKey h) ‹_›

theorem wf_adviseAts {sp : Span} (h : memoriesWf s) : memoriesWf (adviseAts f s k sp addr) := by
  induction f generalizing addr with
  | zero => exact h
  | succ f ih =>
    unfold adviseAts
    split
    · exact h
    · split
      · exact ih
      · split <;> exact h

theorem wf_loadSpan (h : memoriesWf s) : memoriesWf (loadSpan s k) := by
  unfold loadSpan
  split
  · exact h
  · refine wf_if h (wf_if (wf_if (wf_adviseAts h) h) ?_)
    split
    · exact h
    · exact wf_usePiece h

@[simp] theorem wf_execAdviseWillNeed (h : memoriesWf s) : answersWf (execAdviseWillNeed q i s) :=
  wf_advise h (fun _ _ h => wf_foldl (fun _ _ h => wf_loadSpan h) h)

@[simp] theorem wf_execAdviseDontNeed (h : memoriesWf s) : answersWf (execAdviseDontNeed q i s) :=
  wf_advise h (fun _ _ h => wf_foldl (fun _ _ h => h) h)

@[simp] theorem wf_execAdviseReadMostly (h : memoriesWf s) : answersWf (execAdviseReadMostly q i s) := wf_advise h fun _ _ h => h

@[simp] theorem wf_execAdvisePreferHbm (h : memoriesWf s) : answersWf (execAdvisePreferHbm q i s) := wf_advise h fun _ _ h => h

@[simp] theorem wf_execAdvisePreferPartner (h : memoriesWf s) : answersWf (execAdvisePreferPartner q i s) :=
  wf_advise h fun _ _ h => h

@[simp] theorem wf_execSpCreate (h : memoriesWf s) : answersWf (execSpCreate inst w s) :=
  wf_onCmd h (wf_pageCmd h fun _ h => wf_putPage (wf_if h h))

theorem wf_killSpan (h : memoriesWf s) : memoriesWf (killSpan s k) := by
  unfold killSpan
  split
  · exact h
  · exact wf_if h h

theorem wf_reapSpan (h : memoriesWf s) : memoriesWf (reapSpan s k) := by
  unfold reapSpan
  split
  · exact h
  · split
    · exact wf_if h (wf_putStat (wf_killSpan h))
    · exact h

theorem wf_destroySpan (h : memoriesWf s) : memoriesWf (destroySpan s k) := by
  unfold destroySpan
  split
  · exact h
  · exact wf_reapSpan h

theorem wf_reapSpans (h : memoriesWf s) : memoriesWf (reapSpans s) := wf_foldl (fun _ _ h => wf_if (wf_reapSpan h) h) h

theorem wf_spanCmd (h : memoriesWf s) (heff : ∀ u : State, memoriesWf u → memoriesWf (eff u)) :
    memoriesWf (spanCmd s inst k eff) := wf_if (wf_putStat (wf_logCorrupt h)) (heff _ (wf_spanRepair h))

theorem wf_keyCmd (h : memoriesWf s) (heff : ∀ u : State, memoriesWf u → memoriesWf (eff u)) :
    memoriesWf (keyCmd s inst k eff) := wf_if (wf_putStat (wf_logCorrupt h)) (heff _ h)

@[simp] theorem wf_execSpDestroy (h : memoriesWf s) : answersWf (execSpDestroy inst w s) :=
  wf_onCmd h (wf_pageCmd h fun _ h => wf_spanCmd h fun _ h => wf_destroySpan h)

@[simp] theorem wf_execSpQuery (h : memoriesWf s) : answersWf (execSpQuery inst w s) := by
  unfold execSpQuery
  refine wf_onCmd h (wf_pageCmd h fun _ h => wf_spanCmd h fun _ h => ?_)
  dsimp only
  split <;> exact h

@[simp] theorem wf_execKtCreate (h : memoriesWf s) : answersWf (execKtCreate inst w s) := wf_onCmd h (wf_pageCmd h fun _ h => h)

@[simp] theorem wf_execKtInvalidate (h : memoriesWf s) : answersWf (execKtInvalidate inst w s) :=
  wf_onCmd h (wf_pageCmd h fun _ h => wf_keyCmd h fun _ h => h)

@[simp] theorem wf_execKtQuery (h : memoriesWf s) : answersWf (execKtQuery inst w s) :=
  wf_onCmd h (wf_pageCmd h fun _ h => wf_keyCmd h fun _ h => h)

@[simp] theorem wf_execKeyFree (h : memoriesWf s) : answersWf (execKeyFree k s) := by
  unfold execKeyFree
  split
  · exact h
  · exact answersWf_if h h

end Sys2Proof.Machine
end

section
/-!
PROOFS. The canonical form of the memories (log 2), kept by Sluice and the Basin.
-/
namespace Sys2Proof.Machine

variable {s : State} {bytes e i k kind l len n op plot q seq serial slot : Nat} {remote store : Bool} {st : Byte} {m : Bytes}
    {c : Ctl} {d dir : Directory} {p : Qp} {w : RegWr} {r : SReq} {who : Waiter} {x : Wq}

/-! ### Sluice: queue pairs, sending and dispatch -/

theorem wf_putQp (h : memoriesWf s) : memoriesWf (putQp s n p) := h

theorem wf_linkStat {d : Nat} (h : memoriesWf s) : memoriesWf (linkStat s l k d) := h

theorem wf_weirStat (h : memoriesWf s) : memoriesWf (weirStat s l k) := h

theorem wf_accUp {f : MapAcc → MapAcc} (h : memoriesWf s) : memoriesWf (accUp s l f) := h

theorem wf_putLink {l : Nat} {x : LinkSt} (h : memoriesWf s) : memoriesWf (putLink s l x) := h

theorem wf_noteTx {l wire pay : Nat} (h : memoriesWf s) : memoriesWf (noteTx s l wire pay) := h

theorem wf_emitPkt {flags pn roc aux credit : Nat} {ext payload : Bytes} (h : memoriesWf s) :
    memoriesWf (emitPkt s n op flags pn roc aux credit ext payload) := by
  unfold emitPkt
  split
  · exact h
  · dsimp only
    exact wf_linkStat (wf_linkStat (wf_emit (wf_noteTx (wf_putLink (wf_putQp h)))))

theorem wf_workArrives (h : memoriesWf s) : memoriesWf (workArrives s l) := by
  rw [workArrives_frame]
  exact h

theorem wf_sendCtl (h : memoriesWf s) : memoriesWf (sendCtl s n c) := by
  unfold sendCtl
  split
  · exact h
  · extract_lets t ack ece pn ext credit rate u v w x y
    have hu : memoriesWf u := h
    have hv : memoriesWf v := wf_if (wf_weirStat hu) hu
    have hw : memoriesWf w := wf_if (wf_linkStat hv) hv
    have hx : memoriesWf x := wf_if (wf_linkStat hw) hw
    have hy : memoriesWf y := wf_if (wf_linkStat hx) hx
    exact wf_if (wf_if h (wf_workArrives h)) (wf_emitPkt hy)

theorem wf_queueReq {raddr rkey imm operand swap : Nat} {solicit : Bool} {mark : Bytes} {buf : Buf} (h : memoriesWf s) :
    memoriesWf (queueReq s n op len raddr rkey imm solicit operand swap mark buf who) := by
  unfold queueReq
  split
  · exact h
  · exact wf_workArrives h

theorem wf_ackVia (h : memoriesWf s) : memoriesWf (ackVia s n c) := by
  unfold ackVia
  split
  · exact h
  · split
    · exact h
    · exact wf_queueReq h

theorem wf_sendAck (h : memoriesWf s) : memoriesWf (sendAck s n kind st) := by
  unfold sendAck
  split
  · exact h
  · exact wf_if (wf_ackVia h) (wf_sendCtl h)

theorem wf_copyDone (h : memoriesWf s) : memoriesWf (copyDone s n st) := wf_if h (wf_if h (wf_if h h))

theorem wf_mirrorAnswer {status : Byte} (h : memoriesWf s) : memoriesWf (mirrorAnswer s n e kind status st) := by
  unfold mirrorAnswer
  split
  · exact h
  · exact wf_if h (wf_sendCtl h)

theorem wf_tellWaiter {data : Bytes} (h : memoriesWf s) : memoriesWf (tellWaiter s who st remote bytes data) := by
  unfold tellWaiter
  split
  · exact wf_finish h
  · exact h
  · exact wf_mirrorAnswer h
  · exact h
  · exact h
  · exact wf_copyDone h
  · exact h

theorem wf_completeReqs (h : memoriesWf s) : memoriesWf (completeReqs s n) := by
  unfold completeReqs
  split
  · exact h
  · exact wf_foldl (fun _ _ h => wf_tellWaiter h) h

theorem wf_flushQueues {cause : Option (Byte × Bool)} (h : memoriesWf s) : memoriesWf (flushQueues s n cause) := by
  unfold flushQueues
  refine wf_foldl (fun _ _ h => (wf_if (wf_foldl (fun _ _ h => ?_) ?_) h)) h
  · exact wf_finishSt h
  · split
    · exact wf_finishR h
    · exact h

theorem wf_qpError (h : memoriesWf s) : memoriesWf (qpError s n st remote) := by
  unfold qpError
  split
  · exact h
  · refine wf_if h ?_
    dsimp only
    split <;> exact wf_flushQueues (wf_foldl (fun _ _ h => wf_tellWaiter h) h)

theorem wf_startResync (h : memoriesWf s) : memoriesWf (startResync s n) := by
  unfold startResync
  split
  · exact h
  · exact wf_sendCtl h

theorem wf_resumeSend {peerEpsn : Nat} (h : memoriesWf s) : memoriesWf (resumeSend s n peerEpsn) := by
  unfold resumeSend
  split
  · exact h
  · exact wf_completeReqs h

theorem wf_moveLink (h : memoriesWf s) : memoriesWf (moveLink s n) := by
  unfold moveLink
  split
  · exact h
  · exact wf_startResync h

theorem wf_endStream (h : memoriesWf s) : memoriesWf (endStream s n p) := wf_foldl (fun _ _ h => wf_tellWaiter h) h

theorem wf_retarget {old new : Nat} (h : memoriesWf s) : memoriesWf (retarget s old new) := by
  unfold retarget
  refine wf_if (wf_if h h) (wf_foldl (fun _ _ h => ?_) ?_)
  · split
    · exact h
    · exact wf_if h (wf_if (wf_endStream h) (wf_startResync h))
  · exact wf_if h h

theorem wf_autoQp {kind : QpKind} {enc : Bool} (h : memoriesWf s) : memoriesWf (autoQp kind enc s slot) := by
  unfold autoQp
  refine wf_if h ?_
  split
  · exact h
  · dsimp only
    exact wf_if h h

theorem wf_autoQps {m : PlotMap} {mirror : Nat} (h : memoriesWf s) : memoriesWf (autoQps s m mirror) :=
  wf_if h (wf_if (wf_foldl (fun _ _ h => wf_autoQp h) h) (wf_autoQp (wf_foldl (fun _ _ h => wf_autoQp h) h)))

theorem wf_releaseAcks (h : memoriesWf s) : memoriesWf (releaseAcks s) := by
  unfold releaseAcks
  refine wf_if h (wf_foldl (fun _ _ h => (wf_if ?_ h)) h)
  split
  · exact wf_sendAck h
  · exact h

theorem wf_adoptMap {m : PlotMap} (h : memoriesWf s) : memoriesWf (adoptMap s m) := by
  unfold adoptMap
  refine wf_foldl (fun _ _ h => ?_) ?_
  · exact wf_retarget h
  · exact wf_releaseAcks (wf_autoQps h)

theorem wf_txDraw {inst : Option Nat} (h : memoriesWf s) : memoriesWf (txDraw s inst bytes) := by
  unfold txDraw
  split <;> exact h

theorem wf_paceDraw (h : memoriesWf s) : memoriesWf (paceDraw s n len) := by
  unfold paceDraw
  split <;> exact h

theorem wf_sendReq {again : Bool} (h : memoriesWf s) : memoriesWf ((sendReq s n p r k again).getD s) := by
  unfold sendReq
  dsimp only
  split
  · exact h
  · exact wf_emitPkt (wf_if (wf_accUp (wf_linkStat (wf_txDraw (wf_paceDraw h)))) (wf_txDraw (wf_paceDraw h)))

theorem wf_sendRsp {x : RdRsp} (h : memoriesWf s) : memoriesWf ((sendRsp s n p x).getD s) := by
  unfold sendRsp
  dsimp only
  split
  · split
    · exact h
    · refine wf_emitPkt ?_
      split
      · exact wf_putQp (wf_txDraw (wf_paceDraw h))
      · exact wf_txDraw (wf_paceDraw h)
  · split
    · exact h
    · refine wf_emitPkt ?_
      split
      · exact wf_putQp (wf_txDraw (wf_paceDraw h))
      · exact wf_txDraw (wf_paceDraw h)

theorem wf_pullBasin (h : memoriesWf s) : memoriesWf (pullBasin s n p) :=
  wf_if h (wf_foldl (fun _ _ h => wf_if h (wf_if (wf_if h h) (wf_queueReq h))) h)

theorem wf_pullCopy (h : memoriesWf s) : memoriesWf (pullCopy s n p) := by
  unfold pullCopy
  split
  · exact h
  · exact wf_if h (wf_queueReq h)

theorem wf_onTurn {send : State → Result} (h : memoriesWf s) (hsend : ∀ u : State, memoriesWf u → answersWf (send u)) :
    answersWf (onTurn s n p send) := by
  unfold onTurn
  split
  · exact h
  · exact answersWf_if (hsend _ h) h

theorem wf_sendAgain {rest : List Nat} (h : memoriesWf s) : answersWf (sendAgain s n rest r k) := by
  unfold sendAgain
  split
  · exact h
  · dsimp only
    split
    · exact wf_of_some (wf_sendReq (wf_putQp h)) ‹_›
    · exact h

theorem wf_sendNew (h : memoriesWf s) : memoriesWf (sendNew s n) := by
  unfold sendNew
  split
  · exact h
  · split
    · exact wf_sendRsp h
    · split
      · exact h
      · rename_i e
        obtain ⟨y, -, e⟩ := Option.bind_eq_some_iff.1 e
        obtain ⟨t, sent, e⟩ := Option.map_eq_some_iff.1 e
        cases e
        exact (wf_of_some (wf_sendReq h) sent :)

@[simp] theorem wf_execPacketTransmit (h : memoriesWf s) : answersWf (execPacketTransmit n s) := by
  unfold execPacketTransmit
  split
  · exact h
  · rename_i p _
    refine wf_onBlk h fun u hu => ?_
    replace h : memoriesWf (pullCopy (pullBasin u n p) n p) := wf_pullCopy (wf_pullBasin hu)
    dsimp only
    generalize pullCopy (pullBasin u n p) n p = v at h ⊢
    split
    · exact h
    · refine answersWf_if h ?_
      split
      · exact wf_if (wf_ackVia (wf_putQp h)) (wf_sendCtl (wf_putQp h))
      · split
        · refine answersWf_if h ?_
          split
          · exact wf_putQp h
          · exact answersWf_if (wf_putQp h) (wf_onTurn h fun _ h => wf_sendAgain h)
        · exact wf_onTurn h fun _ h => wf_sendNew h

theorem wf_sqDispatch {pktOp : Nat} (h : memoriesWf s) : answersWf (sqDispatch q i op pktOp s) := by
  unfold sqDispatch
  split
  · exact h
  · split
    · exact wf_finishSt h
    · refine answersWf_if (wf_finishSt h) (answersWf_if h ?_)
      dsimp only
      split
      · exact h
      · split
        · exact wf_finishSt (wf_of_fst (wf_admitOnce h) ‹_›)
        · replace h := wf_of_fst (wf_admitOnce h) ‹_›
          split
          · exact wf_queueReq (wf_dispatched h)
          · split
            · exact wf_queueReq (wf_dispatched h)
            · refine answersWf_if ?_ (wf_queueReq (wf_dispatched h))
              split
              · exact wf_queueReq (wf_dispatched (Acc.wf_ok (wf_readMemAt h) ‹_›))
              · exact Acc.wf_wait (wf_readMemAt h) ‹_›
              · exact wf_finishR (Acc.wf_fault (wf_readMemAt h) ‹_›)

@[simp] theorem wf_execWrite (h : memoriesWf s) : answersWf (execWrite q i s) := wf_sqDispatch h

@[simp] theorem wf_execWriteImm (h : memoriesWf s) : answersWf (execWriteImm q i s) := wf_sqDispatch h

@[simp] theorem wf_execRead (h : memoriesWf s) : answersWf (execRead q i s) := wf_sqDispatch h

@[simp] theorem wf_execSend (h : memoriesWf s) : answersWf (execSend q i s) := wf_sqDispatch h

@[simp] theorem wf_execSendImm (h : memoriesWf s) : answersWf (execSendImm q i s) := wf_sqDispatch h

@[simp] theorem wf_execAtomicFadd (h : memoriesWf s) : answersWf (execAtomicFadd q i s) := wf_sqDispatch h

@[simp] theorem wf_execAtomicCswap (h : memoriesWf s) : answersWf (execAtomicCswap q i s) := wf_sqDispatch h

@[simp] theorem wf_execRecv (h : memoriesWf s) : answersWf (execRecv q i s) := by
  unfold execRecv
  split
  · exact h
  · split
    · split
      · exact wf_finishSt h
      · split
        · exact wf_finishSt (wf_of_fst (wf_admitOnce h) ‹_›)
        · exact wf_dispatched (wf_of_fst (wf_admitOnce h) ‹_›)
    · exact wf_finishSt h

theorem wf_basinAdmit {r : Infl} (h : memoriesWf s) : memoriesWf (basinAdmit s q i x r store).1 := by
  unfold basinAdmit
  dsimp only
  split
  · exact h
  · split
    · exact h
    · split
      · exact (wf_of_fst (wf_admitOpds h) ‹_› :)
      · replace h := (wf_of_fst (wf_admitOpds h) ‹_› :)
        split
        · exact (wf_of_fst (wf_admitKey h) ‹_› :)
        · exact wf_noteAdmit (wf_of_fst (wf_admitKey h) ‹_› :)

theorem wf_storeData {inst : Nat} {e : Bytes} (h : memoriesWf s) : memoriesWf (storeData s q i inst e).state := by
  unfold storeData
  split
  · exact h
  · exact wf_readMemAt h

theorem wf_basinOwn {e : Bytes} {a n : Nat} {ok : State → State} (h : memoriesWf s)
    (hok : ∀ u : State, memoriesWf u → memoriesWf (ok u)) : answersWf (basinOwn q i store s x e a n ok) := by
  unfold basinOwn
  dsimp only
  cases homeFail s x.inst a (entLen e) n with
  | some p => exact wf_finishR h
  | none =>
    refine answersWf_if ?_ ?_
    · split
      · exact Acc.wf_wait (wf_storeData h) ‹_›
      · exact wf_finishR (Acc.wf_fault (wf_storeData h) ‹_›)
      · replace h := Acc.wf_ok (wf_storeData h) ‹_›
        split
        · exact hok _ (Acc.wf_ok (wf_basinPiece h) ‹_›)
        · exact Acc.wf_wait (wf_basinPiece h) ‹_›
        · exact wf_finishR (Acc.wf_fault (wf_basinPiece h) ‹_›)
    · split
      · exact wf_of_some (wf_lineWait h) ‹_›
      · split
        · exact hok _ (Acc.wf_ok (wf_writeMemAt h) ‹_›)
        · exact Acc.wf_wait (wf_writeMemAt h) ‹_›
        · exact wf_finishR (Acc.wf_fault (wf_writeMemAt h) ‹_›)

theorem wf_basinDispatch (h : memoriesWf s) : answersWf (basinDispatch q i store s) := by
  unfold basinDispatch
  cases mayDispatch s q i (if store then 0x11 else 0x10) with
  | none => exact h
  | some p =>
    refine answersWf_if h ?_
    split
    · exact wf_finishSt (wf_of_fst (wf_basinAdmit h) ‹_›)
    · replace h := wf_of_fst (wf_basinAdmit h) ‹_›
      refine answersWf_if (wf_basinOwn h fun _ h => wf_instStat (wf_finish h)) ?_
      split
      · exact wf_if (wf_finishSt h) h
      · refine answersWf_if (wf_finishSt h) (answersWf_if h (answersWf_if ?_ ?_))
        · exact wf_instStat (wf_queueReq h)
        · split
          · exact wf_instStat (wf_queueReq (wf_dispatched (Acc.wf_ok (wf_storeData h) ‹_›)))
          · exact Acc.wf_wait (wf_storeData h) ‹_›
          · exact wf_finishR (Acc.wf_fault (wf_storeData h) ‹_›)

@[simp] theorem wf_execBasinLoad (h : memoriesWf s) : answersWf (execBasinLoad q i s) := wf_basinDispatch h

@[simp] theorem wf_execBasinStore (h : memoriesWf s) : answersWf (execBasinStore q i s) := wf_basinDispatch h

/-! ### The Basin -/

theorem wf_onCtl {type : Nat} {k : CtlRec → State} (h : memoriesWf s) (hk : ∀ r : CtlRec, memoriesWf (k r)) :
    answersWf (onCtl s type m k) := by
  unfold onCtl
  refine answersWf_if h ?_
  split
  · exact h
  · exact answersWf_if (hk _) h

theorem wf_sendBasin {dst : Nat} {r : CtlRec} (h : memoriesWf s) : memoriesWf (sendBasin s dst r) := h

theorem wf_setRole {r : Role} (h : memoriesWf s) : memoriesWf (setRole s r) := wf_if h (wf_logEv h)

theorem wf_openBasinWin (h : memoriesWf s) : memoriesWf (openBasinWin s) := wf_if h (wf_voidGuarantee h)

@[simp] theorem wf_execRecoveryWindowExpiry {basinWide : Bool} (h : memoriesWf s) :
    answersWf (execRecoveryWindowExpiry basinWide s) := by
  unfold execRecoveryWindowExpiry
  refine answersWf_if ?_ ?_
  · split <;> exact h
  · split <;> exact h

theorem wf_stampCommit {a : AfterCommit} (h : memoriesWf s) : memoriesWf (stampCommit s a) := by
  unfold stampCommit
  split <;> exact h

theorem wf_applyDir {p : PendDir} (h : memoriesWf s) : memoriesWf (applyDir s p) := by
  unfold applyDir
  dsimp only
  split
  · exact wf_adoptMap (wf_stampCommit h)
  · exact wf_sendBasin (wf_adoptMap (wf_stampCommit h))
  · exact wf_emit (wf_adoptMap (wf_stampCommit h))
  · exact wf_emit (wf_adoptMap (wf_stampCommit h))

theorem wf_commitDir {bump : Nat} {after : AfterCommit} (h : memoriesWf s) : memoriesWf (commitDir s dir bump after) :=
  wf_if h (wf_applyDir h)

theorem wf_commitN (h : memoriesWf s) : memoriesWf (commitN n seq s) := by
  induction n generalizing s with
  | zero => exact h
  | succ n ih =>
    unfold commitN
    split
    · exact h
    · split
      · exact ih (wf_applyDir h)
      · exact h

theorem wf_commitUpTo (h : memoriesWf s) : memoriesWf (commitUpTo s seq) := wf_commitN h

theorem wf_dropStandby (h : memoriesWf s) : memoriesWf (dropStandby s) := by
  unfold dropStandby
  split
  · exact wf_if (wf_commitUpTo h) h
  · exact h

@[simp] theorem wf_execReplicationAck (h : memoriesWf s) : answersWf (execReplicationAck seq serial s) :=
  answersWf_if h (wf_commitUpTo h)

@[simp] theorem wf_execDirectoryReplication {epoch : Nat} (h : memoriesWf s) :
    answersWf (execDirectoryReplication seq dir epoch s) := answersWf_if h h

theorem wf_sendLosts (h : memoriesWf s) : memoriesWf (sendLosts s) := wf_foldl (fun _ _ h => h) h

@[simp] theorem wf_execHeartbeatPeriod (h : memoriesWf s) : answersWf (execHeartbeatPeriod s) := by
  unfold execHeartbeatPeriod
  extract_lets t m u ws carry pend b v c y z w x
  have ht : memoriesWf t := wf_dropStandby (wf_if h h)
  have hu : memoriesWf u := wf_if ht ht
  have hw : memoriesWf w := wf_sendBasin hu
  have hx : memoriesWf x := wf_if hw (wf_emit hw)
  exact answersWf_if h (wf_sendLosts hx)

theorem wf_adoptHb {subject : Nat} (h : memoriesWf s) : memoriesWf (adoptHb s subject) := wf_renegotiate h

theorem wf_answerHb (h : memoriesWf s) : memoriesWf (answerHb s serial) := by
  unfold answerHb
  refine wf_if h ?_
  dsimp only
  split
  · exact wf_if h h
  · exact h

theorem wf_noteEpoch (h : memoriesWf s) : memoriesWf (noteEpoch s e) := wf_if h h

@[simp] theorem wf_execHeartbeat (h : memoriesWf s) : answersWf (execHeartbeat m s) := by
  unfold execHeartbeat
  refine wf_onCtl h fun _ => wf_if h ?_
  dsimp only
  split
  · exact h
  · exact h
  · exact wf_if (wf_noteEpoch (wf_adoptHb (wf_setRole h))) h
  · exact wf_noteEpoch (wf_adoptHb h)
  · exact wf_if h (wf_noteEpoch (wf_adoptHb (wf_setRole h)))
  · exact wf_answerHb (wf_noteEpoch (wf_adoptHb h))

@[simp] theorem wf_execHbReply (h : memoriesWf s) : answersWf (execHbReply m s) :=
  wf_onCtl h fun _ => wf_if h (wf_if (wf_if h h) h)

theorem wf_startClaim {planned : Bool} (h : memoriesWf s) : memoriesWf (startClaim s planned) := by
  unfold startClaim
  extract_lets u b m v
  have hu : memoriesWf u := wf_renegotiate (wf_setRole h)
  clear_value u
  exact wf_sendBasin (s := v) hu

@[simp] theorem wf_execManagerMissing (h : memoriesWf s) : answersWf (execManagerMissing s) := by
  unfold execManagerMissing
  split
  · exact answersWf_if h h
  · exact wf_startClaim h
  · exact h

@[simp] theorem wf_execUnjoinedClaimStart (h : memoriesWf s) : answersWf (execUnjoinedClaimStart s) :=
  answersWf_if h (wf_startClaim h)

@[simp] theorem wf_execClaimPeriod (h : memoriesWf s) : answersWf (execClaimPeriod s) := answersWf_if h h

theorem wf_withdraw (h : memoriesWf s) : memoriesWf (withdraw s) := wf_setRole h

@[simp] theorem wf_execClaim (h : memoriesWf s) : answersWf (execClaim m s) := by
  unfold execClaim
  refine wf_onCtl h fun _ => ?_
  dsimp only
  split
  · refine wf_if h ?_
    split
    · exact h
    · exact wf_if h (wf_if h h)
  · exact wf_if (wf_withdraw h) h
  · exact wf_if (wf_setRole h) h
  · exact h

theorem wf_enterActive (h : memoriesWf s) : memoriesWf (enterActive s) := wf_renegotiate (wf_adoptMap (wf_setRole h))

theorem wf_noteMajority (h : memoriesWf s) : memoriesWf (noteMajority s) := wf_if h h

@[simp] theorem wf_execGrant (h : memoriesWf s) : answersWf (execGrant m s) := by
  unfold execGrant
  refine wf_onCtl h fun _ => ?_
  split
  · exact wf_if h h
  · exact wf_if (wf_if (wf_enterActive (wf_noteMajority h)) (wf_noteMajority h)) h
  · exact h

@[simp] theorem wf_execRevoke (h : memoriesWf s) : answersWf (execRevoke m s) := wf_onCtl h fun _ => wf_if (wf_withdraw h) h

@[simp] theorem wf_execWithdraw (h : memoriesWf s) : answersWf (execWithdraw m s) := by
  unfold execWithdraw
  refine wf_onCtl h fun _ => ?_
  split
  · exact wf_if h h
  · exact h

@[simp] theorem wf_execHandover (h : memoriesWf s) : answersWf (execHandover m s) := by
  unfold execHandover
  refine wf_onCtl h fun _ => ?_
  split
  · exact h
  · exact wf_if (wf_startClaim h) h
  · exact h

@[simp] theorem wf_execClaimWaitElapsed (h : memoriesWf s) : answersWf (execClaimWaitElapsed s) := by
  unfold execClaimWaitElapsed
  split
  · exact h
  · exact answersWf_if h (wf_enterActive (wf_if h h))

@[simp] theorem wf_execClaimTimeout (h : memoriesWf s) : answersWf (execClaimTimeout s) := answersWf_if h (wf_setRole h)

@[simp] theorem wf_execLeaseExpiry (h : memoriesWf s) : answersWf (execLeaseExpiry s) := answersWf_if h (wf_setRole h)

@[simp] theorem wf_execHandoverPeriod (h : memoriesWf s) : answersWf (execHandoverPeriod s) := answersWf_if h h

@[simp] theorem wf_execYieldingTimeout (h : memoriesWf s) : answersWf (execYieldingTimeout s) := answersWf_if h (wf_setRole h)

@[simp] theorem wf_execHbParamSwitch (h : memoriesWf s) : answersWf (execHbParamSwitch s) := by
  unfold execHbParamSwitch
  split
  · exact h
  · exact answersWf_if h h

theorem wf_logAttest {chk : Nat} (h : memoriesWf s) : memoriesWf (logAttest s slot chk serial) := wf_logEv h

theorem wf_tellOwners (h : memoriesWf s) : memoriesWf (tellOwners plot d s) := wf_foldl (fun _ _ h => h) h

theorem wf_acceptJoin (h : memoriesWf s) : memoriesWf (acceptJoin s d serial n len) := by
  unfold acceptJoin
  refine wf_commitDir (wf_if ?_ ?_)
  · refine wf_foldl (fun _ _ h => ?_) ?_
    · exact h
    · split
      · exact wf_if (wf_tellOwners h) (wf_tellOwners (wf_tellOwners h))
      · exact wf_tellOwners h
  · split
    · exact wf_if (wf_tellOwners h) (wf_tellOwners (wf_tellOwners h))
    · exact wf_tellOwners h

@[simp] theorem wf_execJoin {ev : AttestEv} (h : memoriesWf s) : answersWf (execJoin m ev s) := by
  unfold execJoin
  refine wf_onCtl h fun _ => wf_if h ?_
  dsimp only
  split
  · exact wf_if h h
  · refine wf_if (wf_sendBasin (wf_logAttest h)) ?_
    split
    · exact h
    · exact wf_acceptJoin h

@[simp] theorem wf_execJoinRetry (h : memoriesWf s) : answersWf (execJoinRetry s) := answersWf_if h (wf_foldl (fun _ _ h => h) h)

@[simp] theorem wf_execJoinTimeout (h : memoriesWf s) : answersWf (execJoinTimeout s) := by
  unfold execJoinTimeout
  split
  · exact h
  · exact answersWf_if h h

/-- The plot of a device that joins is emptied, and the empty memory is canonical. -/
theorem wf_emptyPlot (h : memoriesWf s) : memoriesWf (emptyPlot s) := by
  obtain ⟨hbm, -, pmem, asleep⟩ := h
  exact ⟨hbm, Memory.wf_nil, pmem, asleep⟩

@[simp] theorem wf_execJoinAck (h : memoriesWf s) : answersWf (execJoinAck m s) := by
  unfold execJoinAck
  refine wf_onCtl h fun _ => wf_if h (wf_renegotiate (wf_noteEpoch (wf_setRole ?_)))
  replace h := wf_emptyPlot h
  exact h

@[simp] theorem wf_execJoinNak (h : memoriesWf s) : answersWf (execJoinNak m s) := wf_onCtl h fun _ => wf_if h h

theorem wf_becomeUnjoined (h : memoriesWf s) : memoriesWf (becomeUnjoined s) := wf_setRole h

theorem wf_roleCmd {cmd : Nat} {cs : List (Bool × Byte)} {eff : State} (h : memoriesWf s) (heff : memoriesWf eff) :
    answersWf (roleCmd s w cmd cs eff) := answersWf_if h (wf_checked h heff)

@[simp] theorem wf_execRoleCmdYield (h : memoriesWf s) : answersWf (execRoleCmdYield w s) := wf_roleCmd h (wf_setRole h)

@[simp] theorem wf_execRoleCmdRequestSwap (h : memoriesWf s) : answersWf (execRoleCmdRequestSwap w s) :=
  wf_roleCmd h (wf_if (wf_startClaim h) h)

@[simp] theorem wf_execRoleCmdLeave (h : memoriesWf s) : answersWf (execRoleCmdLeave w s) := wf_roleCmd h h

@[simp] theorem wf_execRoleCmdResetNotice (h : memoriesWf s) : answersWf (execRoleCmdResetNotice w s) := wf_roleCmd h h

@[simp] theorem wf_execWorkerPeriod (h : memoriesWf s) : answersWf (execWorkerPeriod s) :=
  answersWf_if h (wf_if (wf_if h h) (wf_sendBasin (wf_if h h)))

@[simp] theorem wf_execLeaveAck (h : memoriesWf s) : answersWf (execLeaveAck m s) :=
  wf_onCtl h fun _ => wf_if (wf_becomeUnjoined h) h

@[simp] theorem wf_execLeaveTimeout (h : memoriesWf s) : answersWf (execLeaveTimeout s) := by
  unfold execLeaveTimeout
  split
  · exact h
  · exact answersWf_if h (wf_becomeUnjoined h)

@[simp] theorem wf_execLost (h : memoriesWf s) : answersWf (execLost m s) :=
  wf_onCtl h fun _ => wf_if (wf_if (wf_becomeUnjoined h) h) (wf_if h (wf_if h (wf_openBasinWin h)))

@[simp] theorem wf_execResetNotice (h : memoriesWf s) : answersWf (execResetNotice m s) :=
  wf_onCtl h fun _ => wf_if h (wf_if (wf_commitDir h) h)

@[simp] theorem wf_execNoticeAck (h : memoriesWf s) : answersWf (execNoticeAck m s) := wf_onCtl h fun _ => wf_if h h

@[simp] theorem wf_execNoticeTimeout (h : memoriesWf s) : answersWf (execNoticeTimeout s) := answersWf_if h h

theorem wf_memberGone (h : memoriesWf s) : memoriesWf (memberGone s slot) := h

theorem wf_declareLost (h : memoriesWf s) : memoriesWf (declareLost s serial) := by
  unfold declareLost
  dsimp only
  split
  · exact h
  · exact wf_commitDir (wf_sendBasin (wf_memberGone (wf_if (wf_voidGuarantee (wf_openBasinWin (wf_logEv h))) (wf_openBasinWin
      (wf_logEv h)))))

@[simp] theorem wf_execWorkerLost (h : memoriesWf s) : answersWf (execWorkerLost serial s) := by
  unfold execWorkerLost
  split
  · exact h
  · exact answersWf_if h (wf_declareLost h)

@[simp] theorem wf_execExcuseExpiry (h : memoriesWf s) : answersWf (execExcuseExpiry serial s) := by
  unfold execExcuseExpiry
  split
  · exact h
  · split
    · exact h
    · exact answersWf_if h (wf_declareLost h)

@[simp] theorem wf_execLeave (h : memoriesWf s) : answersWf (execLeave m s) := by
  unfold execLeave
  refine wf_onCtl h fun _ => wf_if h ?_
  split
  · exact wf_if h h
  · exact wf_commitDir h

@[simp] theorem wf_execPromotion (h : memoriesWf s) : answersWf (execPromotion plot s) := by
  unfold execPromotion
  dsimp only
  split
  · exact h
  · exact answersWf_if h (wf_commitDir (wf_logEv h))

@[simp] theorem wf_execSpareCopyDone (h : memoriesWf s) : answersWf (execSpareCopyDone plot s) := by
  unfold execSpareCopyDone
  dsimp only
  split
  · exact h
  · exact answersWf_if h (wf_commitDir h)

@[simp] theorem wf_execOverflowLengthReport {granules : Nat} (h : memoriesWf s) :
    answersWf (execOverflowLengthReport slot granules s) := answersWf_if h (wf_commitDir h)

end Sys2Proof.Machine
end

section
/-!
PROOFS. The canonical form of the memories (log 2), kept by the boot, the clock, codebooks, Furrow, Runnel and collectives.
-/
namespace Sys2Proof.Machine

variable {s : State} {addr core f i inst k l lanes n op q rank seq sig slot : Nat} {failed : BitVec 8} {b : Blk} {retx : Bool}
    {cause st : Byte} {body data e m : Bytes} {d : Done} {v : Env} {g : Group} {r : Infl} {p : Plan} {w : RegWr} {x : SlotId}
    {items : Tab Item} {t : Tg}

/-! ### The image -/

/-! ### The boot -/

theorem wf_dropEmptyTry (h : memoriesWf s) : memoriesWf (dropEmptyTry s) := by
  unfold dropEmptyTry
  split
  · exact wf_if h h
  · exact h

theorem wf_startCands {useTry : Bool} (h : memoriesWf s) : memoriesWf (startCands s useTry) := wf_if (wf_dropEmptyTry h) h

theorem wf_setCand {c : Cand} (h : memoriesWf s) : memoriesWf (setCand s x c) := by
  unfold setCand
  split <;> exact h

theorem wf_abandon (h : memoriesWf s) : memoriesWf (abandon s x st) := wf_setCand h

theorem wf_takeBundle {level : Nat} (h : memoriesWf s) : memoriesWf (takeBundle s x level) := wf_setCand h

@[simp] theorem wf_execBundleVerify (h : memoriesWf s) : answersWf (execBundleVerify s) := by
  unfold execBundleVerify
  refine answersWf_if h ?_
  split
  · exact h
  · split
    · dsimp only
      split
      · exact answersWf_if (wf_takeBundle h) (wf_abandon h)
      · exact wf_abandon h
    · dsimp only
      split
      · exact answersWf_if (wf_takeBundle h) (wf_abandon h)
      · exact wf_abandon h

@[simp] theorem wf_execFirmwareRunning (h : memoriesWf s) : answersWf (execFirmwareRunning s) := answersWf_if h (wf_if h h)

theorem wf_bootFallback (h : memoriesWf s) : memoriesWf (bootFallback s) := wf_if (wf_logEv h) h

theorem wf_judgeImage (h : memoriesWf s) : memoriesWf (judgeImage s x) := wf_if (wf_abandon h) h

@[simp] theorem wf_execImageVerify (h : memoriesWf s) : answersWf (execImageVerify s) := by
  unfold execImageVerify
  split
  · exact h
  · exact answersWf_if h (wf_judgeImage (wf_bootFallback h))

theorem wf_trainStacks (h : memoriesWf s) : memoriesWf (trainStacks s failed) := wf_foldl (fun _ _ h => wf_logEv h) h

@[simp] theorem wf_execHbmTrained (h : memoriesWf s) : answersWf (execHbmTrained failed s) := by
  unfold execHbmTrained
  refine answersWf_if h ?_
  split
  · exact wf_judgeImage (wf_trainStacks h)
  · exact wf_trainStacks h

/-! ### The clock -/

theorem wf_gate (h : memoriesWf s) : memoriesWf (gate s b) := wf_if h h

@[simp] theorem wf_execBlockGate {g : GateReq} (h : memoriesWf s) : answersWf (execBlockGate g s) := answersWf_if h (wf_gate h)

@[simp] theorem wf_execWakeEvent (h : memoriesWf s) : answersWf (execWakeEvent b s) := wf_wakeBlk h

@[simp] theorem wf_execFurrowPllPowerDown (h : memoriesWf s) : answersWf (execFurrowPllPowerDown s) := by
  unfold execFurrowPllPowerDown
  split
  · exact h
  · exact answersWf_if h h

@[simp] theorem wf_execDevtimeLoRead (h : memoriesWf s) : answersWf (execDevtimeLoRead s) := answersWf_if h h

theorem wf_servoOffset {off : Int} (h : memoriesWf s) : memoriesWf (servoOffset s off) := wf_if h h

@[simp] theorem wf_execPtpMessage {m : PtpMsg} (h : memoriesWf s) : answersWf (execPtpMessage m s) := by
  unfold execPtpMessage
  refine answersWf_if h ?_
  split
  · exact h
  · exact answersWf_if h h
  · split
    · exact wf_servoOffset h
    · exact h

@[simp] theorem wf_execPpsInEdge (h : memoriesWf s) : answersWf (execPpsInEdge s) := answersWf_if h (wf_servoOffset h)

@[simp] theorem wf_execRetrainLoopback {pass : Bool} (h : memoriesWf s) : answersWf (execRetrainLoopback l pass s) := by
  unfold execRetrainLoopback
  split
  · dsimp only
    split
    · exact h
    · exact answersWf_if h h
  · dsimp only
    split
    · exact h
    · exact answersWf_if h (wf_openOwnWin (wf_logEv (wf_portDown h)))

/-! ### Codebook slots -/

theorem wf_cbRead (h : memoriesWf s) : answersWf (cbRead s q i inst e) := by
  unfold cbRead
  split
  · exact Acc.wf_wait (wf_readMemAt h) ‹_›
  · exact wf_finishR (Acc.wf_fault (wf_readMemAt h) ‹_› :)
  · exact wf_finish (Acc.wf_ok (wf_readMemAt h) ‹_› :)

@[simp] theorem wf_execCbLoad (h : memoriesWf s) : answersWf (execCbLoad q i s) := by
  unfold execCbLoad
  split
  · exact h
  · dsimp only
    split
    · exact wf_finishSt h
    · split
      · exact wf_finishSt (wf_of_fst (wf_admitOnce h) ‹_›)
      · split
        · exact wf_cbRead (wf_of_fst (wf_admitOnce h) ‹_›)
        · split
          · exact Acc.wf_wait (wf_probe (wf_of_fst (wf_admitOnce h) ‹_›)) ‹_›
          · exact wf_finishR (Acc.wf_fault (wf_probe (wf_of_fst (wf_admitOnce h) ‹_›)) ‹_›)
          · exact wf_cbRead (Acc.wf_ok (wf_probe (wf_of_fst (wf_admitOnce h) ‹_›)) ‹_› :)

@[simp] theorem wf_execCbScmdQuery (h : memoriesWf s) : answersWf (execCbScmdQuery inst w s) := by
  unfold execCbScmdQuery
  refine wf_onCmd h (wf_pageCmd h fun _ h => ?_)
  dsimp only
  split
  · exact h
  · exact wf_if h h

@[simp] theorem wf_execCbScmdClear (h : memoriesWf s) : answersWf (execCbScmdClear inst w s) :=
  wf_onCmd h (wf_pageCmd h fun _ h => h)

@[simp] theorem wf_execCbSlotError (h : memoriesWf s) : answersWf (execCbSlotError n s) := by
  unfold execCbSlotError
  split
  · exact h
  · exact answersWf_if h (wf_logEv h)

/-! ### Furrow: launches, groups and issue -/

theorem wf_startGroup {k : Nat} {x : Launch} (h : memoriesWf s) : memoriesWf (startGroup s q i k x) := by
  rw [startGroup_frame]
  exact h

@[simp] theorem wf_execGroupStart (h : memoriesWf s) : answersWf (execGroupStart q i s) := by
  unfold execGroupStart
  dsimp only
  generalize s.groups.find? _ = coll
  cases launchOf s q i with
  | some l =>
    refine answersWf_if h ?_
    cases pickSlot s with
    | none => exact h
    | some k => exact wf_onBlk h fun _ h => wf_startGroup h
  | none =>
    cases coll with
    | none => exact h
    | some p =>
      obtain ⟨g, x⟩ := p
      dsimp only
      cases x.coll with
      | none => exact h
      | some c =>
        refine answersWf_if h ?_
        cases pickSlot s with
        | none => exact h
        | some k => exact wf_onBlk h fun _ h => h

theorem wf_launchDone (h : memoriesWf s) : memoriesWf (launchDone s q i) := by
  unfold launchDone
  split
  · exact h
  · exact wf_if h (wf_finish h)

theorem wf_retireTg {trap : Bool} (h : memoriesWf s) : memoriesWf (retireTg s k t st trap) := by
  unfold retireTg
  split
  · exact h
  · exact wf_launchDone h

theorem wf_doubleTrap (h : memoriesWf s) : memoriesWf (doubleTrap s k t cause addr lanes) := by
  unfold doubleTrap
  extract_lets t d fw u v w
  have hv : memoriesWf v := wf_logEv h
  clear_value v
  exact wf_if (show memoriesWf w from hv) (wf_retireTg hv)

theorem wf_deliver (h : memoriesWf s) : memoriesWf (deliver s k t cause addr lanes) := by
  unfold deliver
  split
  · exact h
  · exact wf_if (wf_retireTg h) (wf_if (wf_if h h) (wf_doubleTrap h))

theorem wf_fetch {l : Launch} (h : memoriesWf s) : memoriesWf (fetch s l t).state := by
  unfold fetch
  split
  · split
    · exact (Acc.wf_ok (wf_readMemAt h) ‹_› :)
    · exact (Acc.wf_wait (wf_readMemAt h) ‹_› :)
    · exact (Acc.wf_fault (wf_readMemAt h) ‹_› :)
  · exact h

theorem wf_issued {x : Fx} (h : memoriesWf x.state) : answersWf (issued k s t x) := by
  cases x with
  | go v t => exact h
  | trap v c a m => exact wf_deliver h
  | wait v => exact h
  | retire v t st tr => exact wf_retireTg h
  | halt v t => exact h

theorem wf_issue {eff : FwCtx → State → Tg → Fx} (h : memoriesWf s)
    (heff : ∀ (c : FwCtx) (u : State) (t : Tg), memoriesWf u → memoriesWf (eff c u t).state) :
    answersWf (issue core slot op s eff) := by
  unfold issue
  dsimp only
  cases Tab.find s.fw.slots (fwKey core slot) with
  | none => exact h
  | some t =>
    refine answersWf_if h ?_
    cases launchOf s t.q t.i with
    | none => exact h
    | some l =>
      refine answersWf_if h ?_
      cases e : fetch s l t with
      | wait u => exact Fetched.wf_wait (wf_fetch h) e
      | trap u st => exact answersWf_if (wf_deliver (Fetched.wf_trap (wf_fetch h) e)) (Fetched.wf_trap (wf_fetch h) e)
      | ok u w =>
        have hu : memoriesWf u := Fetched.wf_ok (wf_fetch h) e
        have hv : memoriesWf (if 64 ≤ t.pc ∧ t.pc % 8 = 0 ∧ t.pc + 8 ≤ l.codeLen then u else freeStep u) := wf_if hu hu
        refine answersWf_if hu (answersWf_if (wf_deliver hv) ?_)
        exact wf_issued (s := u) (heff _ _ _ hv)

theorem wf_laneOp {f : FwCtx → Tg → Nat → Nat} (h : memoriesWf s) : answersWf (laneOp core slot op s f) :=
  wf_issue h fun _ _ _ h => h

theorem wf_cmpOp {f : FwCtx → Tg → Nat → Bool} (h : memoriesWf s) : answersWf (cmpOp core slot op s f) :=
  wf_issue h fun _ _ _ h => h

theorem wf_bindsFail {bs : List Bind} (h : memoriesWf s) : memoriesWf (bindsFail s inst bs).1 := by
  induction bs generalizing s with
  | nil => exact h
  | cons b bs ih =>
    unfold bindsFail
    split
    · exact wf_of_fst (wf_admitKey h) ‹_›
    · exact ih (wf_of_fst (wf_admitKey h) ‹_›)

theorem wf_launchFail {code args : Bytes} {localBytes : Nat} (h : memoriesWf s) :
    memoriesWf (launchFail s inst code args localBytes).1 := by
  unfold launchFail
  dsimp only
  split
  · exact h
  · split <;> exact (wf_of_fst (wf_bindsFail h) ‹_› :)

theorem wf_launchArgs (h : memoriesWf s) : memoriesWf (launchArgs s q i inst r).state := by
  unfold launchArgs
  split
  · exact h
  · split
    · exact h
    · exact wf_readMemAt h

theorem wf_startLaunch {l : Launch} (h : memoriesWf s) : memoriesWf (startLaunch s q i l) := h

@[simp] theorem wf_execKernelLaunch (h : memoriesWf s) : answersWf (execKernelLaunch q i s) := by
  unfold execKernelLaunch
  split
  · exact h
  · refine answersWf_if (wf_finishSt h) ?_
    split
    · exact wf_finishSt (wf_of_fst (wf_admitOnce h) ‹_›)
    · rename_i u hu
      replace h := wf_of_fst (wf_admitOnce h) hu
      split
      · exact Acc.wf_wait (wf_readMemAt h) ‹_›
      · exact wf_finishR (Acc.wf_fault (wf_readMemAt h) ‹_›)
      · replace h := Acc.wf_ok (wf_readMemAt h) ‹_›
        split
        · exact Acc.wf_wait (wf_launchArgs h) ‹_›
        · exact wf_finishR (Acc.wf_fault (wf_launchArgs h) ‹_›)
        · replace h := Acc.wf_ok (wf_launchArgs h) ‹_›
          refine answersWf_if h ?_
          split
          · refine wf_finishSt (wf_of_fst (wf_launchFail ?_) ‹_›)
            exact h
          · refine wf_startLaunch (wf_of_fst (wf_launchFail ?_) ‹_›)
            exact h

@[simp] theorem wf_execWatchdogExpiry (h : memoriesWf s) : answersWf (execWatchdogExpiry core slot s) := by
  unfold execWatchdogExpiry
  dsimp only
  split
  · exact h
  · exact answersWf_if h (wf_deliver h)

@[simp] theorem wf_execCoreLost (h : memoriesWf s) : answersWf (execCoreLost core s) := by
  unfold execCoreLost
  refine answersWf_if h (answersWf_if ?_ ?_)
  · refine wf_logEv (wf_openOwnWin (wf_logEv (wf_foldl (fun _ _ h => ?_) h)))
    split <;> exact h
  · refine wf_openOwnWin (wf_logEv (wf_foldl (fun _ _ h => ?_) h))
    split <;> exact h

/-! ### Runnel streams -/

theorem wf_rnCount (h : memoriesWf s) : memoriesWf (rnCount s k) := h

theorem wf_putStream {x : Stream} (h : memoriesWf s) : memoriesWf (putStream s slot x) := h

theorem wf_streamOf (h : memoriesWf s) : memoriesWf (streamOf s slot).1 := by
  unfold streamOf
  split <;> exact h

theorem wf_rnPace {f : TxFrame} (h : memoriesWf s) : memoriesWf (rnPace s l f) := wf_if h h

theorem wf_rnEmit {x : Stream} (h : memoriesWf s) : memoriesWf (rnEmit s slot x body seq retx) := by
  unfold rnEmit
  split
  · exact h
  · exact wf_if h (wf_rnCount (wf_emit (wf_rnPace h)))

theorem wf_rnFlush (h : memoriesWf s) : memoriesWf (rnFlush f s slot) := by
  induction f generalizing s with
  | zero => exact h
  | succ f ih =>
    unfold rnFlush
    split
    · exact h
    · split
      · exact h
      · split
        · exact h
        · exact ih (wf_rnEmit h)

theorem wf_rnWork (h : memoriesWf s) : memoriesWf (rnWork s slot) := by
  unfold rnWork
  dsimp only
  split
  · exact wf_workArrives (wf_wakeBlk h)
  · exact wf_wakeBlk h

theorem wf_rnSend (h : memoriesWf s) : memoriesWf (rnSend s slot body) := by
  unfold rnSend
  split
  · replace h := wf_of_fst (wf_streamOf (wf_rnWork h)) ‹_›
    exact wf_rnFlush h

theorem wf_rnSendAck (h : memoriesWf s) : memoriesWf (rnSendAck s slot) := by
  unfold rnSendAck
  split
  · exact h
  · exact wf_rnEmit h

theorem wf_rnResend (h : memoriesWf s) : memoriesWf (rnResend s slot retx) := by
  unfold rnResend
  split
  · exact h
  · exact wf_foldl (fun _ _ h => wf_rnEmit (wf_if h h)) h

theorem wf_rnRestart (h : memoriesWf s) : memoriesWf (rnRestart s slot) := by
  unfold rnRestart
  split
  · exact h
  · exact wf_rnCount (wf_rnResend h)

@[simp] theorem wf_execRunnelRtoExpiry (h : memoriesWf s) : answersWf (execRunnelRtoExpiry slot s) := by
  unfold execRunnelRtoExpiry
  split
  · exact h
  · exact answersWf_if h (wf_rnResend h)

@[simp] theorem wf_execRunnelStreamRestart (h : memoriesWf s) : answersWf (execRunnelStreamRestart slot s) := by
  unfold execRunnelStreamRestart
  split
  · exact h
  · exact answersWf_if h (wf_rnRestart (wf_logEv h))

@[simp] theorem wf_execRunnelAckDelayExpiry (h : memoriesWf s) : answersWf (execRunnelAckDelayExpiry slot s) := by
  unfold execRunnelAckDelayExpiry
  split
  · exact h
  · split
    · exact h
    · exact answersWf_if (wf_rnWork h) (wf_rnSendAck h)

theorem wf_rnTakeAck {a : Nat} (h : memoriesWf s) : memoriesWf (rnTakeAck s slot a) := by
  unfold rnTakeAck
  split
  · exact h
  · exact wf_if h (wf_rnFlush h)

theorem wf_rnArrive {accept : Bool} (h : memoriesWf s) : memoriesWf (rnArrive s m accept).state := by
  unfold rnArrive
  have hu : memoriesWf (streamOf (rnCount s 1) (getBE m 4 1)).1 := wf_streamOf (wf_rnCount h)
  have hx (x : Stream) : memoriesWf (putStream (streamOf (rnCount s 1) (getBE m 4 1)).1 (getBE m 4 1) x) := wf_putStream hu
  have hack (x : Stream) (c : Bool) (a : Nat) : memoriesWf (if c then rnTakeAck (putStream (streamOf (rnCount s 1)
      (getBE m 4 1)).1 (getBE m 4 1) x) (getBE m 4 1) a else putStream (streamOf (rnCount s 1) (getBE m 4 1)).1
        (getBE m 4 1) x) :=
    wf_if (wf_rnTakeAck (hx x)) (hx x)
  refine RnIn.wf_if h (RnIn.wf_if h (RnIn.wf_if (wf_rnCount (hx _)) ?_))
  exact RnIn.wf_if (hack ..) (RnIn.wf_if (RnIn.wf_if (wf_putStream (hack ..)) (hack ..)) (RnIn.wf_if (wf_putStream (wf_rnCount
    (hack ..))) (wf_rnCount (hack ..))))

/-! ### Collectives -/

theorem wf_groupSend {kind arg : Nat} (h : memoriesWf s) : memoriesWf (groupSend s g rank kind slot arg sig data) := by
  unfold groupSend
  split
  · exact h
  · exact wf_queueReq h

theorem wf_giveCredit (h : memoriesWf s) : memoriesWf (giveCredit s n rank slot sig) := by
  unfold giveCredit
  split
  · exact h
  · exact wf_groupSend h

theorem wf_collEnd {err : Option Byte} (h : memoriesWf s) : memoriesWf (collEnd s n d err) := by
  unfold collEnd
  split
  · exact h
  · split
    · exact h
    · exact wf_finish h

theorem wf_sendAborts {c : Coll} (h : memoriesWf s) : memoriesWf (sendAborts s g c st) := by
  unfold sendAborts
  refine wf_foldl (fun _ _ h => ?_) h
  split
  · exact h
  · exact wf_if (wf_rnSend (wf_if (wf_groupSend h) h)) (wf_if (wf_groupSend h) h)

theorem wf_collFail (h : memoriesWf s) : memoriesWf (collFail s n st) := by
  unfold collFail
  split
  · exact h
  · split
    · exact h
    · exact wf_collEnd (wf_sendAborts h)

theorem wf_collAborted (h : memoriesWf s) : memoriesWf (collAborted s n st) := wf_collEnd h

/-- An operation taken back leaves the memories as they were before it. -/
theorem wf_undo {u : State} (h : memoriesWf s) (hu : memoriesWf u) : memoriesWf (undo s u) := by
  obtain ⟨hbm, plot, pmem, -⟩ := h
  obtain ⟨-, -, -, asleep⟩ := hu
  exact ⟨hbm, plot, pmem, asleep⟩

theorem wf_writePieces {at_ : Option Nat} {base : Nat} {ps : List (Nat × Bytes)} (h : memoriesWf s) :
    memoriesWf (writePieces at_ s inst base ps).state := by
  induction ps generalizing s with
  | nil => exact h
  | cons p ps ih =>
    unfold writePieces
    split
    · exact ih (Acc.wf_ok (wf_writeMemAt h) ‹_›)
    · exact wf_writeMemAt h

theorem wf_collFinish {dst : Nat} {out : List (Nat × Bytes)} (h : memoriesWf s) : memoriesWf (collFinish s n inst dst out d) := by
  unfold collFinish
  split
  · exact wf_undo h (Acc.wf_wait (wf_writePieces h) ‹_›)
  · exact wf_collFail (Acc.wf_fault (wf_writePieces h) ‹_› :)
  · exact wf_collEnd (Acc.wf_ok (wf_writePieces h) ‹_› :)

theorem wf_sendOne (h : memoriesWf s) : memoriesWf ((sendOne s n v p items).getD s) := by
  unfold sendOne
  split
  · exact h
  · split
    · exact h
    · dsimp only
      split
      · exact h
      · split
        · exact h
        · exact wf_groupSend h

theorem wf_sendMany (h : memoriesWf s) : memoriesWf (sendMany f s n v p items) := by
  induction f generalizing s with
  | zero => exact h
  | succ f ih =>
    unfold sendMany
    split
    · exact h
    · exact ih (wf_of_some (wf_sendOne h) ‹_›)

theorem wf_collVote (h : memoriesWf s) : memoriesWf (collVote s n v) := by
  unfold collVote
  split
  · exact h
  · split
    · exact h
    · refine wf_if h ?_
      split
      · exact h
      · exact wf_foldl (fun _ _ h => wf_groupSend h) h

theorem wf_collStep (h : memoriesWf s) : memoriesWf (collStep s n) := by
  unfold collStep
  split
  · exact h
  · refine wf_if h ?_
    dsimp only
    split
    · exact wf_sendMany (wf_collVote h)
    · exact wf_if (wf_collFinish (wf_sendMany (wf_collVote h))) (wf_sendMany (wf_collVote h))

theorem wf_sendContrib {replay : Bool} {dt : Nat} (h : memoriesWf s) : memoriesWf (sendContrib s g replay seq sig dt data) := by
  unfold sendContrib
  refine wf_foldl (fun _ _ h => ?_) h
  split
  · exact h
  · exact wf_rnSend h

theorem wf_runnelStep (h : memoriesWf s) : memoriesWf (runnelStep s n) := by
  unfold runnelStep
  split
  · exact h
  · refine wf_if h (wf_if (wf_collFail h) (wf_if ?_ ?_))
    · refine wf_if (wf_if h (wf_collFinish h)) ?_
      split
      · exact h
      · exact wf_collFinish h
    · dsimp only
      split
      · exact h
      · exact wf_collFinish h

theorem wf_collAdmit {l : Nat × Nat} {src dst : Bool} (h : memoriesWf s) :
    memoriesWf (collAdmit s q i inst r l src dst).state := by
  unfold collAdmit
  dsimp only
  split
  · exact wf_of_fst (wf_admitOnce h) ‹_›
  · rename_i u e
    replace h := wf_of_fst (wf_admitOnce h) e
    have k : memoriesWf (if src = true ∧ l.1 ≠ 0 then readMemAt (admOf u q i) u inst (getLE r.ent 24 8) l.1 else .ok u []).state
        := by
      split
      · exact wf_readMemAt h
      · exact h
    split
    · split
      · exact Acc.wf_ok k ‹_›
      · split
        · exact Acc.wf_ok (wf_probe (Acc.wf_ok k ‹_›)) ‹_›
        · exact wf_probe (Acc.wf_ok k ‹_›)
    · exact k

theorem wf_collBegin {runnel : Bool} {src : Bytes} (h : memoriesWf s) : memoriesWf (collBegin s q i n g e runnel src) := h

theorem wf_collSlot {order : Nat} (h : memoriesWf s) : memoriesWf (collSlot s n inst order) := by
  unfold collSlot
  refine wf_if ?_ h
  split <;> exact h

theorem wf_collStart (h : memoriesWf s) : memoriesWf (collStart s n) := by
  unfold collStart
  split
  · exact h
  · exact wf_if (wf_runnelStep (wf_if (wf_sendContrib h) h)) (wf_collStep (wf_collSlot (wf_foldl (fun _ _ h => wf_giveCredit
      (wf_giveCredit h)) h)))

theorem wf_collDispatch (h : memoriesWf s) : answersWf (collDispatch q i op s) := by
  unfold collDispatch
  cases mayDispatch s q i 0x20 with
  | none => exact h
  | some p =>
    refine answersWf_if h ?_
    dsimp only
    cases Tab.find s.groups (getLE p.2.ent 20 4) with
    | none => exact wf_finishSt h
    | some g =>
      refine answersWf_if (wf_finishSt h) (answersWf_if h ?_)
      cases vqFail s g p.2.ent with
      | some st => exact wf_collFail h
      | none =>
        refine answersWf_if (wf_collFail h) ?_
        split
        · exact Acc.wf_wait (wf_collAdmit h) ‹_›
        · exact wf_collFail (wf_collBegin (Acc.wf_fault (wf_collAdmit h) ‹_›))
        · replace h := Acc.wf_ok (wf_collAdmit h) ‹_›
          exact answersWf_if (wf_collFail h) (wf_collStart h)

@[simp] theorem wf_execAllReduce (h : memoriesWf s) : answersWf (execAllReduce q i s) := wf_collDispatch h

@[simp] theorem wf_execReduceScatter (h : memoriesWf s) : answersWf (execReduceScatter q i s) := wf_collDispatch h

@[simp] theorem wf_execAllGather (h : memoriesWf s) : answersWf (execAllGather q i s) := wf_collDispatch h

@[simp] theorem wf_execBroadcast (h : memoriesWf s) : answersWf (execBroadcast q i s) := wf_collDispatch h

@[simp] theorem wf_execReduce (h : memoriesWf s) : answersWf (execReduce q i s) := wf_collDispatch h

@[simp] theorem wf_execAllToAll (h : memoriesWf s) : answersWf (execAllToAll q i s) := wf_collDispatch h

@[simp] theorem wf_execAllToAllV (h : memoriesWf s) : answersWf (execAllToAllV q i s) := wf_collDispatch h

@[simp] theorem wf_execBarrier (h : memoriesWf s) : answersWf (execBarrier q i s) := wf_collDispatch h

@[simp] theorem wf_execCollData (h : memoriesWf s) : answersWf (execCollData n s) := by
  unfold execCollData
  split
  · exact h
  · split
    · exact h
    · split
      · exact h
      · exact answersWf_if (wf_collFail h) h

@[simp] theorem wf_execCollCombineDone (h : memoriesWf s) : answersWf (execCollCombineDone n s) := by
  unfold execCollCombineDone
  split
  · exact h
  · refine answersWf_if (wf_runnelStep h) (answersWf_if h ?_)
    split
    · exact wf_collStep h
    · exact wf_collStep (wf_giveCredit h)

@[simp] theorem wf_execCollCredit (h : memoriesWf s) : answersWf (execCollCredit n s) := by
  unfold execCollCredit
  split
  · exact h
  · dsimp only
    split
    · exact h
    · exact answersWf_if (wf_collStep h) (answersWf_if h (wf_collFail h))

@[simp] theorem wf_execCollAbort (h : memoriesWf s) : answersWf (execCollAbort n s) := by
  unfold execCollAbort
  cases Tab.find s.groups n with
  | none => exact h
  | some g =>
    dsimp only
    split
    · exact h
    · exact answersWf_if (wf_collFail h) (answersWf_if (wf_collAborted h) h)

@[simp] theorem wf_execCollVote (h : memoriesWf s) : answersWf (execCollVote n s) := by
  unfold execCollVote
  split
  · exact h
  · split
    · exact h
    · split
      · exact h
      · exact answersWf_if (wf_if h (wf_collFail h)) (wf_collStep h)

@[simp] theorem wf_execCollTimeout (h : memoriesWf s) : answersWf (execCollTimeout n s) := by
  unfold execCollTimeout
  split
  · exact h
  · split
    · exact h
    · exact wf_collFail h

theorem wf_takeContrib (h : memoriesWf s) : memoriesWf (takeContrib s m) := by
  unfold takeContrib
  dsimp only
  split
  · exact h
  · refine wf_if h (wf_if ?_ (wf_if h (wf_runnelStep h)))
    split
    · exact wf_rnSend h
    · exact h

theorem wf_takeRunnelAbort (h : memoriesWf s) : memoriesWf (takeRunnelAbort s m) := by
  unfold takeRunnelAbort
  dsimp only
  split
  · exact h
  · exact wf_if h (wf_if (wf_collAborted h) h)

theorem wf_runnelRoots (h : memoriesWf s) : memoriesWf (runnelRoots s) := wf_foldl (fun _ _ h => wf_runnelStep h) h

theorem wf_rnServe (h : memoriesWf s) : memoriesWf (rnServe s m) := by
  unfold rnServe
  dsimp only
  split
  · exact wf_runnelRoots (RnIn.wf_done (wf_rnArrive h) ‹_› :)
  · replace h := (RnIn.wf_deliver (wf_rnArrive h) ‹_› :)
    exact wf_runnelRoots (wf_if (wf_takeContrib h) (wf_takeRunnelAbort h))

theorem wf_rnRow {type : Nat} (h : memoriesWf s) : answersWf (rnRow m type s) := by
  unfold rnRow
  refine answersWf_if h ?_
  split
  · exact h
  · exact wf_if (wf_wakeBlk h) (wf_rnServe (wf_wakeBlk h))

theorem wf_rnRelease (h : memoriesWf s) : memoriesWf (rnRelease s) := by
  unfold rnRelease
  refine wf_if h (wf_foldl (fun _ _ h => ?_) ?_)
  · exact wf_rnFlush h
  · exact wf_foldl (fun _ _ h => wf_rnServe h) h

@[simp] theorem wf_execRunnelColl (h : memoriesWf s) : answersWf (execRunnelColl m s) := wf_rnRow h

@[simp] theorem wf_execRunnelCollAbort (h : memoriesWf s) : answersWf (execRunnelCollAbort m s) := wf_rnRow h

@[simp] theorem wf_execRunnelAck (h : memoriesWf s) : answersWf (execRunnelAck m s) := wf_rnRow h

theorem wf_createGroup {b : Bytes} (h : memoriesWf s) : memoriesWf (createGroup s inst b) :=
  wf_foldl (fun _ _ h => wf_if h h) h

theorem wf_readTable (h : memoriesWf s) : memoriesWf (readTable s inst).state := by
  unfold readTable
  dsimp only
  split
  · exact (wf_of_fst (wf_admitKey h) ‹_› :)
  · exact wf_readMem (wf_of_fst (wf_admitKey h) ‹_› :)

@[simp] theorem wf_execRnGcmdCreate (h : memoriesWf s) : answersWf (execRnGcmdCreate inst w s) := by
  unfold execRnGcmdCreate
  refine wf_onCmd h (answersWf_if (wf_pageCmd h fun _ h => h) ?_)
  split
  · replace h := (Acc.wf_fault (wf_readTable h) ‹_› :)
    exact wf_pageCmd h fun _ h => h
  · replace h := (Acc.wf_wait (wf_readTable h) ‹_› :)
    exact wf_pageCmd h fun _ h => h
  · replace h := (Acc.wf_ok (wf_readTable h) ‹_› :)
    exact wf_pageCmd h fun _ h => wf_createGroup h

theorem wf_retryCreate (h : memoriesWf s) : memoriesWf (retryCreate s inst) := by
  unfold retryCreate
  dsimp only
  split
  · exact h
  · split
    · exact Acc.wf_wait (wf_readTable h) ‹_›
    · exact wf_rejectCmd (wf_putStat (Acc.wf_fault (wf_readTable h) ‹_›))
    · split
      · exact wf_rejectCmd (wf_putStat (Acc.wf_ok (wf_readTable h) ‹_›))
      · exact wf_createGroup (wf_putStat (Acc.wf_ok (wf_readTable h) ‹_›))

theorem wf_retryCreates (h : memoriesWf s) : memoriesWf (retryCreates s) := wf_foldl (fun _ _ h => wf_retryCreate h) h

theorem wf_dropGroup (h : memoriesWf s) : memoriesWf (dropGroup s k) := by
  unfold dropGroup
  split <;> exact h

@[simp] theorem wf_execRnGcmdDestroy (h : memoriesWf s) : answersWf (execRnGcmdDestroy inst w s) :=
  wf_onCmd h (wf_pageCmd h fun _ h => wf_dropGroup h)

@[simp] theorem wf_execRnGcmdReset (h : memoriesWf s) : answersWf (execRnGcmdReset inst w s) :=
  wf_onCmd h (wf_pageCmd h fun _ h => h)

@[simp] theorem wf_execRnGcmdQuery (h : memoriesWf s) : answersWf (execRnGcmdQuery inst w s) := by
  unfold execRnGcmdQuery
  refine wf_onCmd h (wf_pageCmd h fun _ h => ?_)
  split <;> exact h

end Sys2Proof.Machine
end

section
/-!
PROOFS. The canonical form of the memories (log 2), kept by reception, encryption and the debugger.
-/
namespace Sys2Proof.Machine

variable {s : State} {bytes code inst k l len n off op slot : Nat} {ok : Bool} {st : Byte} {b ext m nonce pay : Bytes} {f : Frame}
    {hdr : PktHdr} {p : Qp} {c : RReq} {w : RegWr} {t : Transp}

/-! ### Reception -/

theorem wf_ackPoint (h : memoriesWf s) : memoriesWf (ackPoint s n) := wf_sendAck h

theorem wf_consumeReq {cnt : Nat} (h : memoriesWf s) : memoriesWf (consumeReq s n cnt st) := by
  unfold consumeReq
  split
  · exact h
  · exact wf_sendAck h

theorem wf_targetFail {raddr rkey : Nat} (h : memoriesWf s) : memoriesWf (targetFail s p op raddr rkey len).1 := by
  unfold targetFail
  split
  · exact h
  · split
    · exact h
    · split
      · exact h
      · split <;> exact h
      · split
        · exact h
        · exact wf_admitKey h

theorem wf_placeMap {sender : Nat} (h : memoriesWf s) : memoriesWf (placeMap s sender b) := wf_if h h

theorem wf_requestDone (h : memoriesWf s) : memoriesWf (requestDone s p c) := by
  unfold requestDone
  refine wf_if ?_ ?_
  · split <;> exact h
  · refine wf_if (wf_placeMap h) ?_
    split
    · exact wf_finish h
    · exact h

theorem wf_putPayload (h : memoriesWf s) : memoriesWf (putPayload s p c off b).state := by
  unfold putPayload
  split
  · exact wf_writeMemAt h
  · dsimp only
    split
    · exact h
    · exact (wf_of_some (wf_lineWait h) ‹_› :)
    · split
      · split
        · exact wf_queueReq (wf_setLoc h)
        · exact h
      · exact wf_setLoc h

theorem wf_rxCount (h : memoriesWf s) : memoriesWf (rxCount s p bytes) := wf_if h h

theorem wf_placed (h : memoriesWf s) : memoriesWf (placed s n p c k hdr bytes) := by
  unfold placed
  extract_lets late d lead stamped fin x y t nak u
  have hu : memoriesWf u := wf_putQp (wf_rxCount h)
  exact wf_if (wf_ackPoint (wf_requestDone hu)) (wf_if (wf_sendAck hu) (wf_if (wf_ackPoint hu) hu))

theorem wf_holdFrame (h : memoriesWf s) : memoriesWf (holdFrame s l f) := h

theorem wf_placePkt (h : memoriesWf s) : memoriesWf (placePkt s l n p c k f hdr pay) := by
  unfold placePkt
  refine wf_if (wf_consumeReq h) (wf_if h (wf_if (wf_placed h) (wf_if (wf_placed h) ?_)))
  split
  · exact wf_placed (Acc.wf_ok (wf_putPayload h) ‹_› :)
  · exact wf_holdFrame (Acc.wf_wait (wf_putPayload h) ‹_› :)
  · replace h := (Acc.wf_fault (wf_putPayload h) ‹_› :)
    refine wf_consumeReq ?_
    split
    · exact wf_finishSt h
    · exact h

theorem wf_readTarget (h : memoriesWf s) : memoriesWf (readTarget s p c).state := by
  unfold readTarget
  split
  · exact wf_readMemAt h
  · dsimp only
    split
    · exact (wf_of_some (wf_lineWait h) ‹_› :)
    · exact h

theorem wf_serveRead (h : memoriesWf s) : memoriesWf (serveRead s l n p c f hdr) := by
  unfold serveRead
  split
  · exact wf_holdFrame (Acc.wf_wait (wf_readTarget h) ‹_›)
  · exact wf_consumeReq (Acc.wf_fault (wf_readTarget h) ‹_›)
  · exact wf_ackPoint (wf_putQp (Acc.wf_ok (wf_readTarget h) ‹_›))

theorem wf_sendAtomicRsp {x prior : Nat} (h : memoriesWf s) : memoriesWf (sendAtomicRsp s n p x prior) :=
  wf_if (wf_emitPkt h) (wf_workArrives h)

theorem wf_applyJour {j : Jour} (h : memoriesWf s) : memoriesWf (applyJour s j) := wf_setLoc h

theorem wf_serveAtomic (h : memoriesWf s) : memoriesWf (serveAtomic s l n p c f hdr ext) := by
  unfold serveAtomic
  dsimp only
  split
  · exact wf_consumeReq (Tr.wf_fault (wf_translateAt h) ‹_› :)
  · exact wf_holdFrame (Tr.wf_wait (wf_translateAt h) ‹_› :)
  · exact wf_consumeReq (Tr.wf_basin (wf_translateAt h) ‹_› :)
  · replace h := (Tr.wf_ok (wf_translateAt h) ‹_› :)
    split
    · exact wf_holdFrame (wf_of_some (wf_lineWait h) ‹_› :)
    · exact wf_ackPoint (wf_sendAtomicRsp (wf_putQp (wf_applyJour h)))

theorem wf_replayJour (h : memoriesWf s) : memoriesWf (replayJour s n) := by
  unfold replayJour
  split
  · exact h
  · exact wf_putQp (wf_foldl (fun _ _ h => wf_applyJour h) h)

theorem wf_applyMark (h : memoriesWf s) : memoriesWf (applyMark s n p hdr ext) := wf_sendAck h

theorem wf_applyFirst (h : memoriesWf s) : memoriesWf (applyFirst s l n p c f hdr ext pay) :=
  wf_if (wf_serveRead h) (wf_if (wf_serveAtomic h) (wf_placePkt h))

theorem wf_admitReq (h : memoriesWf s) : memoriesWf (admitReq s n p c).1 := h

theorem wf_takeSlot (h : memoriesWf s) : memoriesWf (takeSlot s p c) := by
  unfold takeSlot
  split
  · exact wf_if h h
  · exact h

theorem wf_firstPkt {o : Option (Cipher × Bytes × Bytes)} (h : memoriesWf s) : memoriesWf (firstPkt s l n p f hdr o) := by
  unfold firstPkt
  refine wf_if (wf_consumeReq h) ?_
  cases o with
  | none => exact wf_consumeReq h
  | some x =>
    obtain ⟨c, ext, pay⟩ := x
    dsimp only
    refine wf_if (wf_sendCtl h) ?_
    split
    · refine wf_consumeReq (wf_of_ite ?_ (wf_targetFail (wf_putQp h)) ‹_›)
      exact h
    · rename_i u hu
      replace h : memoriesWf u := by
        refine wf_of_ite ?_ (wf_targetFail (wf_putQp h)) hu
        exact h
      refine wf_if (wf_sendCtl h) (wf_if (wf_applyMark h) (wf_if ?_ ?_))
      · exact wf_applyFirst (wf_admitReq (wf_takeSlot h))
      · split
        · exact wf_sendAck h
        · refine wf_if h (wf_if ?_ ?_)
          · exact wf_consumeReq (wf_putQp (wf_finishSt h))
          · exact wf_applyFirst h

theorem wf_duplicate (h : memoriesWf s) : memoriesWf (duplicate s l n p hdr) := by
  unfold duplicate
  refine wf_if (wf_if (wf_sendCtl h) (wf_sendAck h)) (wf_if ?_ (wf_if (wf_sendCtl h) (wf_sendAck h)))
  split
  · exact wf_if (wf_sendCtl (wf_sendAtomicRsp h)) (wf_sendAck (wf_sendAtomicRsp h))
  · exact wf_if (wf_sendCtl h) (wf_sendAck h)

theorem wf_requestPkt (h : memoriesWf s) : memoriesWf (requestPkt s l n p f hdr) := by
  unfold requestPkt
  refine wf_if (wf_linkStat (wf_if h h)) (wf_if ?_ ?_)
  · split
    · exact wf_if h h
    · exact wf_duplicate h
  · split
    · exact wf_if (wf_firstPkt (wf_if h h)) (wf_linkStat (wf_if h h))
    · refine wf_if (wf_linkStat (wf_if h h)) ?_
      split
      · exact wf_if h h
      · exact wf_if h (wf_if (wf_applyFirst h) (wf_placePkt h))

theorem wf_failReq {r : SReq} {remote : Bool} (h : memoriesWf s) : memoriesWf (failReq s n r st remote) := wf_tellWaiter h

theorem wf_respAck (h : memoriesWf s) : memoriesWf (respAck s n hdr) := by
  unfold respAck
  split
  · exact h
  · exact wf_if (wf_sendAck h) h

theorem wf_readResp (h : memoriesWf s) : memoriesWf (readResp s l n p f hdr pay) := by
  unfold readResp
  split
  · exact h
  · dsimp only
    split
    · split
      · exact h
      · split
        · exact wf_respAck (wf_completeReqs (wf_rxCount h))
        · exact wf_respAck (wf_completeReqs (wf_rxCount h))
        · split
          · exact wf_respAck (wf_completeReqs (wf_rxCount (Acc.wf_ok (wf_writeMemAt h) ‹_› :)))
          · exact wf_holdFrame (Acc.wf_wait (wf_writeMemAt h) ‹_›)
          · exact wf_failReq (Acc.wf_fault (wf_writeMemAt h) ‹_›)
    · split
      · exact h
      · split
        · exact wf_respAck (wf_completeReqs (wf_rxCount h))
        · exact wf_respAck (wf_completeReqs (wf_rxCount h))
        · split
          · exact wf_respAck (wf_completeReqs (wf_rxCount (Acc.wf_ok (wf_writeMemAt h) ‹_› :)))
          · exact wf_holdFrame (Acc.wf_wait (wf_writeMemAt h) ‹_›)
          · exact wf_failReq (Acc.wf_fault (wf_writeMemAt h) ‹_›)

theorem wf_atomicResp (h : memoriesWf s) : memoriesWf (atomicResp s l n p f hdr ext) := by
  unfold atomicResp
  split
  · exact h
  · refine wf_if h ?_
    dsimp only
    split
    · split
      · exact wf_completeReqs (Acc.wf_ok (wf_writeMemAt h) ‹_› :)
      · exact wf_holdFrame (Acc.wf_wait (wf_writeMemAt h) ‹_› :)
      · exact wf_failReq (Acc.wf_fault (wf_writeMemAt h) ‹_› :)
    · exact wf_completeReqs h

theorem wf_takeAck (h : memoriesWf s) : memoriesWf (takeAck s l n hdr ext) := by
  unfold takeAck
  split
  · exact h
  · dsimp only
    refine wf_completeReqs (wf_putQp ?_)
    split
    · exact wf_accUp (wf_if h h)
    · exact wf_if h h

theorem wf_retransmit {loss : Bool} (h : memoriesWf s) : memoriesWf (retransmit s n loss) := h

theorem wf_takeRnr (h : memoriesWf s) : memoriesWf (takeRnr s l n) := by
  unfold takeRnr
  split
  · exact h
  · exact wf_if (wf_qpError h) h

theorem wf_takeReread (h : memoriesWf s) : memoriesWf (takeReread s n) := by
  unfold takeReread
  split
  · exact h
  · split
    · exact h
    · exact wf_queueReq h

theorem wf_takeStatus (h : memoriesWf s) : memoriesWf (takeStatus s l n hdr ext) := by
  unfold takeStatus
  refine wf_if (wf_qpError h) ?_
  split
  · exact h
  · refine wf_takeAck ?_
    split
    · exact wf_failReq h
    · exact h

theorem wf_takeResync (h : memoriesWf s) : memoriesWf (takeResync s n p hdr ext) := by
  unfold takeResync
  refine wf_if ?_ ?_
  · refine wf_resumeSend ?_
    dsimp only
    split
    · exact wf_sendCtl h
    · exact h
  · refine wf_if ?_ (wf_qpError (wf_sendAck h))
    dsimp only
    split
    · exact wf_sendCtl h
    · exact h

theorem wf_takeResyncAck (h : memoriesWf s) : memoriesWf (takeResyncAck s n p hdr ext) := wf_if (wf_resumeSend h) h

theorem wf_adoptStream (h : memoriesWf s) : memoriesWf (adoptStream s l f hdr) := wf_takeResync h

theorem wf_ackPkt (h : memoriesWf s) : memoriesWf (ackPkt s l n hdr ext) :=
  wf_if (wf_takeStatus h) (wf_if (wf_retransmit (wf_takeAck h)) (wf_if (wf_takeRnr (wf_takeAck h)) (wf_if (wf_takeReread
    (wf_takeAck h)) (wf_takeAck h))))

theorem wf_otherEpoch (h : memoriesWf s) : memoriesWf (otherEpoch s l n p hdr) := by
  unfold otherEpoch
  refine wf_if h ?_
  dsimp only
  split
  · exact wf_if h (wf_sendAck h)
  · exact wf_sendAck h

theorem wf_ctlPkt (h : memoriesWf s) : memoriesWf (ctlPkt s l n p f hdr) := by
  unfold ctlPkt
  split
  · exact h
  · exact wf_if h (wf_if (wf_takeResync h) (wf_if (wf_takeResyncAck h) (wf_if (wf_if (wf_otherEpoch h) (wf_qpError h)) (wf_if
      (wf_if (wf_takeStatus h) h) (wf_if (wf_if (wf_takeStatus h) (wf_otherEpoch h)) (wf_ackPkt h))))))

theorem wf_noteCe (h : memoriesWf s) : memoriesWf (noteCe s l n p f hdr).1 := by
  unfold noteCe
  split <;> exact h

theorem wf_dataPkt (h : memoriesWf s) : memoriesWf (dataPkt s l n p f hdr) := by
  unfold dataPkt
  split
  · replace h := (wf_of_fst (wf_noteCe h) ‹_› :)
    refine wf_if ?_ ?_
    · split
      · exact wf_otherEpoch h
      · exact h
    · refine wf_if ?_ (wf_requestPkt h)
      split
      · exact h
      · extract_lets q u
        have hu : memoriesWf u := wf_putQp h
        clear_value u
        exact wf_if (wf_if (wf_readResp hu) hu) (wf_if (wf_atomicResp hu) hu)

theorem wf_answerStatus (h : memoriesWf s) : memoriesWf (answerStatus s l f hdr st) := h

theorem wf_arrive (h : memoriesWf s) : memoriesWf (arrive s l f) := by
  unfold arrive
  extract_lets hdr
  split
  · exact h
  · rename_i _ _ v _ _ _
    have hv : memoriesWf v := wf_accUp (wf_linkStat (wf_linkStat (wf_putLink h)))
    clear_value v
    replace h := hv
    split
    · exact wf_if (wf_adoptStream h) (wf_answerStatus h)
    · split
      · exact wf_if (wf_adoptStream h) (wf_answerStatus h)
      · exact wf_if h (wf_answerStatus h)
      · exact h
      · exact wf_if (wf_ctlPkt h) h
      · exact wf_if h (wf_if (wf_ctlPkt h) (wf_dataPkt h))

theorem wf_rxWake (h : memoriesWf s) : memoriesWf (rxWake s l) := wf_wakeBlk (wf_wakeBlk h)

theorem wf_reach (h : memoriesWf s) : memoriesWf (reach s l f) :=
  wf_if h (wf_if h (wf_if (wf_holdFrame (wf_rxWake h)) (wf_arrive (wf_rxWake h))))

theorem wf_rxRow {kind : Option Nat} (h : memoriesWf s) : answersWf (rxRow l f op kind s) := answersWf_if (wf_reach h) h

@[simp] theorem wf_execRxWrite (h : memoriesWf s) : answersWf (execRxWrite l f s) := wf_rxRow h

@[simp] theorem wf_execRxWriteImm (h : memoriesWf s) : answersWf (execRxWriteImm l f s) := wf_rxRow h

@[simp] theorem wf_execRxReadReq (h : memoriesWf s) : answersWf (execRxReadReq l f s) := wf_rxRow h

@[simp] theorem wf_execRxReadResp (h : memoriesWf s) : answersWf (execRxReadResp l f s) := wf_rxRow h

@[simp] theorem wf_execRxSend (h : memoriesWf s) : answersWf (execRxSend l f s) := wf_rxRow h

@[simp] theorem wf_execRxSendImm (h : memoriesWf s) : answersWf (execRxSendImm l f s) := wf_rxRow h

@[simp] theorem wf_execRxAtomicFadd (h : memoriesWf s) : answersWf (execRxAtomicFadd l f s) := wf_rxRow h

@[simp] theorem wf_execRxAtomicCswap (h : memoriesWf s) : answersWf (execRxAtomicCswap l f s) := wf_rxRow h

@[simp] theorem wf_execRxAtomicResp (h : memoriesWf s) : answersWf (execRxAtomicResp l f s) := wf_rxRow h

@[simp] theorem wf_execRxAck (h : memoriesWf s) : answersWf (execRxAck l f s) := wf_rxRow h

@[simp] theorem wf_execRxNakSeq (h : memoriesWf s) : answersWf (execRxNakSeq l f s) := wf_rxRow h

@[simp] theorem wf_execRxNakRnr (h : memoriesWf s) : answersWf (execRxNakRnr l f s) := wf_rxRow h

@[simp] theorem wf_execRxNakReread (h : memoriesWf s) : answersWf (execRxNakReread l f s) := wf_rxRow h

@[simp] theorem wf_execRxNakStatus (h : memoriesWf s) : answersWf (execRxNakStatus l f s) := wf_rxRow h

@[simp] theorem wf_execRxResync (h : memoriesWf s) : answersWf (execRxResync l f s) := wf_rxRow h

@[simp] theorem wf_execRxResyncAck (h : memoriesWf s) : answersWf (execRxResyncAck l f s) := wf_rxRow h

@[simp] theorem wf_execRxAbort (h : memoriesWf s) : answersWf (execRxAbort l f s) := wf_rxRow h

@[simp] theorem wf_execRxMark (h : memoriesWf s) : answersWf (execRxMark l f s) := wf_rxRow h

theorem wf_rxRelease (h : memoriesWf s) : memoriesWf (rxRelease s) := wf_foldl (fun _ _ h => wf_if h (wf_arrive h)) h

@[simp] theorem wf_execAckDelayExpiry (h : memoriesWf s) : answersWf (execAckDelayExpiry n s) := by
  unfold execAckDelayExpiry
  split
  · split
    · exact answersWf_if h (wf_ackPoint h)
    · exact h
  · exact h

@[simp] theorem wf_execRtoExpiry (h : memoriesWf s) : answersWf (execRtoExpiry n s) := by
  unfold execRtoExpiry
  split
  · exact h
  · exact answersWf_if h h

@[simp] theorem wf_execRnrDelayExpiry (h : memoriesWf s) : answersWf (execRnrDelayExpiry n s) := by
  unfold execRnrDelayExpiry
  split
  · exact h
  · split <;> exact h

@[simp] theorem wf_execRetryTimeExpiry (h : memoriesWf s) : answersWf (execRetryTimeExpiry n s) := by
  unfold execRetryTimeExpiry
  split
  · exact h
  · exact answersWf_if (wf_qpError h) (answersWf_if (wf_qpError h) h)

@[simp] theorem wf_execFailoverTimeExpiry (h : memoriesWf s) : answersWf (execFailoverTimeExpiry l s) := by
  unfold execFailoverTimeExpiry
  refine answersWf_if h (wf_foldl (fun _ _ h => ?_) h)
  split
  · exact h
  · exact wf_if h (wf_moveLink (wf_if h h))

@[simp] theorem wf_execResyncRepeat (h : memoriesWf s) : answersWf (execResyncRepeat n s) := by
  unfold execResyncRepeat
  split
  · exact h
  · exact answersWf_if h (wf_sendCtl h)

@[simp] theorem wf_execSlQpCreate (h : memoriesWf s) : answersWf (execSlQpCreate inst w s) := by
  unfold execSlQpCreate
  refine wf_onCmd h (wf_pageCmd h fun _ h => ?_)
  dsimp only
  exact h

@[simp] theorem wf_execSlQpConnect (h : memoriesWf s) : answersWf (execSlQpConnect inst w s) := by
  unfold execSlQpConnect
  refine wf_onCmd h (wf_pageCmd h fun _ h => ?_)
  split <;> exact h

@[simp] theorem wf_execSlQpReset (h : memoriesWf s) : answersWf (execSlQpReset inst w s) := by
  unfold execSlQpReset
  refine wf_onCmd h (wf_pageCmd h fun _ h => ?_)
  split <;> exact h

@[simp] theorem wf_execSlQpDestroy (h : memoriesWf s) : answersWf (execSlQpDestroy inst w s) := by
  unfold execSlQpDestroy
  refine wf_onCmd h (wf_pageCmd h fun _ h => ?_)
  split <;> exact h

@[simp] theorem wf_execSlQpQuery (h : memoriesWf s) : answersWf (execSlQpQuery inst w s) := by
  unfold execSlQpQuery
  refine wf_onCmd h (wf_pageCmd h fun _ h => ?_)
  dsimp only
  split <;> exact wf_putPage (wf_putPage (wf_putPage (wf_putPage h)))

@[simp] theorem wf_execSlQpFailover (h : memoriesWf s) : answersWf (execSlQpFailover inst w s) :=
  wf_onCmd h (wf_pageCmd h fun _ h => wf_moveLink h)

/-! ### Sessions and keys -/

theorem wf_onSpdm {k : State} (h : memoriesWf s) (hk : memoriesWf k) : answersWf (onSpdm t s k) := answersWf_if hk h

@[simp] theorem wf_execGetVersion (h : memoriesWf s) : answersWf (execGetVersion t s) := wf_onSpdm h h

@[simp] theorem wf_execGetCapabilities (h : memoriesWf s) : answersWf (execGetCapabilities t s) := wf_onSpdm h (wf_if h h)

@[simp] theorem wf_execNegotiateAlgorithms {a : SpdmAlgs} (h : memoriesWf s) : answersWf (execNegotiateAlgorithms t a s) :=
  wf_onSpdm h (wf_if h (wf_if h h))

theorem wf_onNegotiated {k : State} (h : memoriesWf s) (hk : memoriesWf k) : answersWf (onNegotiated t s k) :=
  wf_onSpdm h (wf_if hk h)

@[simp] theorem wf_execGetDigests (h : memoriesWf s) : answersWf (execGetDigests t s) := wf_onNegotiated h h

@[simp] theorem wf_execGetCertificate (h : memoriesWf s) : answersWf (execGetCertificate t slot off len s) :=
  wf_onNegotiated h (wf_if h h)

@[simp] theorem wf_execChallenge (h : memoriesWf s) : answersWf (execChallenge t slot nonce s) := wf_onNegotiated h (wf_if h h)

@[simp] theorem wf_execGetMeasurements {index : Nat} (h : memoriesWf s) : answersWf (execGetMeasurements t index nonce s) :=
  wf_onNegotiated h (wf_if h h)

@[simp] theorem wf_execKeyExchange {summary : Nat} (h : memoriesWf s) : answersWf (execKeyExchange t summary s) :=
  wf_onNegotiated h (wf_if h h)

theorem wf_onSess {k : Sess → State} (h : memoriesWf s) (hk : ∀ e : Sess, memoriesWf (k e)) : answersWf (onSess n s k) := by
  unfold onSess
  split
  · exact wf_if h h
  · exact wf_onSpdm h (hk _)

theorem wf_onVerified {k : Sess → State} (h : memoriesWf s) (hk : ∀ e : Sess, memoriesWf (k e)) :
    answersWf (onVerified n ok s k) := wf_onSess h fun _ => wf_if h (hk _)

@[simp] theorem wf_execFinish (h : memoriesWf s) : answersWf (execFinish n ok s) := wf_onVerified h fun _ => h

@[simp] theorem wf_execKeyUpdate {m : SecuredReq} (h : memoriesWf s) : answersWf (execKeyUpdate m s) :=
  wf_onVerified h fun _ => wf_if h h

@[simp] theorem wf_execEndSession {m : SecuredReq} (h : memoriesWf s) : answersWf (execEndSession m s) :=
  wf_onVerified h fun _ => h

@[simp] theorem wf_execIdeKmKeyProg {n : Option Nat} {stream : Nat} {key : Bytes} (h : memoriesWf s) :
    answersWf (execIdeKmKeyProg n stream key s) := by
  unfold execIdeKmKeyProg
  refine answersWf_if h ?_
  split
  · exact h
  · exact answersWf_if h (answersWf_if h h)

theorem wf_keyRsp {n : Option Nat} (h : memoriesWf s) : memoriesWf (keyRsp s n m st) := h

theorem wf_keyMessage {n : Option Nat} {row : Bool} {eff : State → State} (h : memoriesWf s)
    (heff : ∀ u : State, memoriesWf u → memoriesWf (eff u)) : answersWf (keyMessage n m row s eff) := by
  unfold keyMessage
  refine answersWf_if h ?_
  split
  · exact h
  · exact wf_keyRsp (heff _ h)

@[simp] theorem wf_execKeyInstallInitial {n : Option Nat} (h : memoriesWf s) : answersWf (execKeyInstallInitial n m s) :=
  wf_keyMessage h fun _ h => h

@[simp] theorem wf_execKeyInstallRekey {n : Option Nat} (h : memoriesWf s) : answersWf (execKeyInstallRekey n m s) :=
  wf_keyMessage h fun _ h => h

@[simp] theorem wf_execKeyCommit {n : Option Nat} (h : memoriesWf s) : answersWf (execKeyCommit n m s) :=
  wf_keyMessage h fun _ h => h

@[simp] theorem wf_execCryptPolicy {n : Option Nat} (h : memoriesWf s) : answersWf (execCryptPolicy n m s) :=
  wf_keyMessage h fun _ h => h

@[simp] theorem wf_execAdmitSet {n : Option Nat} (h : memoriesWf s) : answersWf (execAdmitSet n m s) :=
  wf_keyMessage h fun _ h => h

@[simp] theorem wf_execBasinAttestFragment (h : memoriesWf s) : answersWf (execBasinAttestFragment slot b s) := by
  unfold execBasinAttestFragment
  refine answersWf_if h (answersWf_if h ?_)
  split <;> exact h

@[simp] theorem wf_execCryptQuery (h : memoriesWf s) : answersWf (execCryptQuery s) := by
  unfold execCryptQuery
  split
  · exact h
  · exact wf_mbxDone h

/-! ### The debugger -/

theorem wf_redeliver {t : Tg} (h : memoriesWf s) : memoriesWf (redeliver s k t) := by
  unfold redeliver
  split
  · exact h
  · exact wf_deliver h

theorem wf_killTg {t : Tg} (h : memoriesWf s) : memoriesWf (killTg s k t) := wf_retireTg h

theorem wf_detach (h : memoriesWf s) : memoriesWf (detach s) := by
  unfold detach
  refine wf_foldl (fun _ _ h => ?_) h
  split
  · exact h
  · exact h
  · exact wf_killTg h

theorem wf_onSlot {p : Bytes} {f : Tg → State} (h : memoriesWf s) (hf : ∀ t : Tg, memoriesWf (f t)) :
    memoriesWf (onSlot s p f).1 := by
  unfold onSlot
  split
  · exact h
  · exact hf _

theorem wf_dbgHalt {p : Bytes} (h : memoriesWf s) : memoriesWf (dbgHalt p s).1 := wf_onSlot h fun _ => h

theorem wf_dbgResume {p : Bytes} (h : memoriesWf s) : memoriesWf (dbgResume p s).1 :=
  wf_onSlot h fun _ => wf_if (wf_redeliver h) h

theorem wf_dbgStep {p : Bytes} (h : memoriesWf s) : memoriesWf (dbgStep p s).1 := wf_onSlot h fun _ => h

theorem wf_dbgRead {p : Bytes} (h : memoriesWf s) : memoriesWf (dbgRead p s).1 := by
  unfold dbgRead
  split <;> exact h

theorem wf_dbgWrite {p : Bytes} (h : memoriesWf s) : memoriesWf (dbgWrite p s).1 := wf_onSlot h fun _ => wf_if h h

theorem wf_dbgKill {p : Bytes} (h : memoriesWf s) : memoriesWf (dbgKill p s).1 := wf_onSlot h fun _ => wf_killTg h

theorem wf_dbgBreak {p : Bytes} (h : memoriesWf s) : memoriesWf (dbgBreak p s).1 := wf_onSlot h fun _ => h

theorem wf_dbgDetach (h : memoriesWf s) : memoriesWf (dbgDetach s).1 := wf_detach h

theorem wf_dbgCmd {eff : Nat → Bytes → State → DbgRes} (h : memoriesWf s)
    (heff : ∀ (n : Nat) (b : Bytes) (u : State), memoriesWf u → memoriesWf (eff n b u).1) : answersWf (dbgCmd code s eff) := by
  unfold dbgCmd
  split
  · exact h
  · split
    · exact wf_mbxDone h
    · exact wf_mbxDone (heff _ _ _ h)

@[simp] theorem wf_execDbgList (h : memoriesWf s) : answersWf (execDbgList s) := wf_dbgCmd h fun _ _ _ h => h

@[simp] theorem wf_execDbgHalt (h : memoriesWf s) : answersWf (execDbgHalt s) := wf_dbgCmd h fun _ _ _ h => wf_dbgHalt h

@[simp] theorem wf_execDbgResume (h : memoriesWf s) : answersWf (execDbgResume s) := wf_dbgCmd h fun _ _ _ h => wf_dbgResume h

@[simp] theorem wf_execDbgStep (h : memoriesWf s) : answersWf (execDbgStep s) := wf_dbgCmd h fun _ _ _ h => wf_dbgStep h

@[simp] theorem wf_execDbgRead (h : memoriesWf s) : answersWf (execDbgRead s) := wf_dbgCmd h fun _ _ _ h => wf_dbgRead h

@[simp] theorem wf_execDbgWrite (h : memoriesWf s) : answersWf (execDbgWrite s) := wf_dbgCmd h fun _ _ _ h => wf_dbgWrite h

@[simp] theorem wf_execDbgKill (h : memoriesWf s) : answersWf (execDbgKill s) := wf_dbgCmd h fun _ _ _ h => wf_dbgKill h

@[simp] theorem wf_execDbgBreak (h : memoriesWf s) : answersWf (execDbgBreak s) := wf_dbgCmd h fun _ _ _ h => wf_dbgBreak h

@[simp] theorem wf_execDbgAttach (h : memoriesWf s) : answersWf (execDbgAttach s) := wf_dbgCmd h fun _ _ _ h => h

@[simp] theorem wf_execDbgDetach (h : memoriesWf s) : answersWf (execDbgDetach s) := wf_dbgCmd h fun _ _ _ h => wf_dbgDetach h

theorem wf_dbgEff {src : Nat} {p : Bytes} (h : memoriesWf s) : memoriesWf (dbgEff code src p s).1 := by
  unfold dbgEff
  split
  · exact h
  · split
    · exact wf_dbgHalt h
    · split
      · exact wf_dbgResume h
      · split
        · exact wf_dbgStep h
        · split
          · exact wf_dbgRead h
          · split
            · exact wf_dbgWrite h
            · split
              · exact wf_dbgKill h
              · split
                · exact wf_dbgBreak h
                · split
                  · exact h
                  · exact wf_dbgDetach h

@[simp] theorem wf_execFwdbgUpdateDr (h : memoriesWf s) : answersWf (execFwdbgUpdateDr b s) := by
  unfold execFwdbgUpdateDr
  refine answersWf_if h ?_
  dsimp only
  split
  · exact h
  · split
    · exact h
    · exact wf_emit (wf_dbgEff h)

end Sys2Proof.Machine
end

section
/-!
PROOFS. The canonical form of the memories (log 2), kept by the loader, the manager, the mailboxes,
Synko, teardowns, Culvert, the event log, the partner link and INST commands.
-/
namespace Sys2Proof.Machine

variable {eff s : State} {addr cause code hdr i inst k len line n off q reqId slot : Nat} {prst : Bool} {st : Byte}
    {b data : Bytes} {x : CvXfer} {a : HdmAcc} {v : InstVia} {t : LinkTrain} {f : Nat → Bool} {r : PairReq} {w : RegWr}

/-! ### The loader and features -/

/-- The contents of HBM and the plot go; partner memory stays (R110). -/
theorem wf_discardAll (h : memoriesWf s) : memoriesWf (discardAll s) := by
  obtain ⟨-, -, pmem, -⟩ := h
  exact ⟨Memory.wf_nil, Memory.wf_nil, pmem, fun _ e => nomatch e⟩

theorem wf_applyImage {i : Image} {digest : Bytes} (h : memoriesWf s) : memoriesWf (applyImage s i digest) := by
  have hd : memoriesWf (discardAll { s with boot.hbmInService := s.boot.hbmInService &&& ~~~s.stacksLost }) := wf_discardAll h
  exact wf_if hd hd

@[simp] theorem wf_execStructureApplied (h : memoriesWf s) : answersWf (execStructureApplied s) := by
  unfold execStructureApplied
  split
  · exact h
  · exact answersWf_if h (wf_applyImage h)

theorem wf_featTender (h : memoriesWf s) : memoriesWf (featTender s) := by
  unfold featTender
  refine wf_if h ?_
  extract_lets ack
  clear_value ack
  exact h

theorem wf_featCtrl (h : memoriesWf s) (heff : memoriesWf eff) : answersWf (featCtrl s w eff) :=
  answersWf_if h (wf_checked h heff)

theorem wf_featCommit (h : memoriesWf s) : memoriesWf (featCommit s) := by
  unfold featCommit
  split <;> exact h

theorem wf_recordFeat (h : memoriesWf s) : memoriesWf (recordFeat s) := h

@[simp] theorem wf_execFeatCommit (h : memoriesWf s) : answersWf (execFeatCommit w s) :=
  answersWf_if h (wf_featCtrl h (wf_if (wf_recordFeat (wf_featCommit h)) h))

@[simp] theorem wf_execFeatUncommit (h : memoriesWf s) : answersWf (execFeatUncommit w s) :=
  answersWf_if h (wf_featCtrl h (wf_recordFeat (wf_if h h)))

theorem wf_enterReady (h : memoriesWf s) : memoriesWf (enterReady s) := by
  unfold enterReady
  dsimp only
  split
  · exact wf_mbxDone h
  · exact h

@[simp] theorem wf_execVapenBuilt {lay : Layout} (h : memoriesWf s) : answersWf (execVapenBuilt lay s) := by
  unfold execVapenBuilt
  split
  · exact h
  · exact answersWf_if h (wf_enterReady (wf_logEv (wf_featTender h)))

@[simp] theorem wf_execConfigurationRequest (h : memoriesWf s) : answersWf (execConfigurationRequest s) := answersWf_if h h

theorem wf_putSlot (h : memoriesWf s) : memoriesWf (putSlot s n b) := wf_if h h

@[simp] theorem wf_execSlotWrite {readBackOk : Bool} (h : memoriesWf s) : answersWf (execSlotWrite readBackOk s) := by
  unfold execSlotWrite
  split
  · exact h
  · split
    · dsimp only
      split
      · exact wf_mbxDone h
      · exact wf_mbxDone (wf_putSlot h)
    · dsimp only
      split
      · exact wf_mbxDone h
      · exact wf_mbxDone (wf_putSlot h)

theorem wf_slotSelect {try_ : Bool} {f : Nat → DirRec → DirRec} (h : memoriesWf s) : answersWf (slotSelect s try_ f) := by
  unfold slotSelect
  split
  · exact h
  · refine answersWf_if h ?_
    dsimp only
    split <;> exact wf_mbxDone h

@[simp] theorem wf_execSlotSelectActive (h : memoriesWf s) : answersWf (execSlotSelectActive s) := wf_slotSelect h

@[simp] theorem wf_execSlotSelectTry (h : memoriesWf s) : answersWf (execSlotSelectTry s) := wf_slotSelect h

@[simp] theorem wf_execSlotQuery (h : memoriesWf s) : answersWf (execSlotQuery s) := by
  unfold execSlotQuery
  split
  · exact h
  · exact wf_mbxDone h

@[simp] theorem wf_execImageLoad (h : memoriesWf s) : answersWf (execImageLoad s) := by
  unfold execImageLoad
  split
  · exact h
  · refine answersWf_if h ?_
    dsimp only
    split
    · exact wf_mbxDone h
    · exact h

@[simp] theorem wf_execStageWrite (h : memoriesWf s) : answersWf (execStageWrite s) := by
  unfold execStageWrite
  split
  · exact h
  · dsimp only
    split <;> exact wf_mbxDone h

/-! ### The manager -/

theorem wf_onMgr {k : Directory → State} (h : memoriesWf s) (hk : ∀ d : Directory, memoriesWf (k d)) :
    answersWf (onMgr s slot reqId k) := by
  unfold onMgr
  refine answersWf_if h ?_
  split
  · exact h
  · exact hk _

theorem wf_askSpans {d : Directory} {es : List Extent} (h : memoriesWf s) : memoriesWf (askSpans d hdr s es) :=
  wf_foldl (fun _ _ h => h) h

@[simp] theorem wf_execBasinAlloc {r : AllocReq} (h : memoriesWf s) : answersWf (execBasinAlloc r s) :=
  wf_onMgr h fun _ => wf_if h (wf_if h (wf_commitDir (wf_askSpans h)))

@[simp] theorem wf_execBasinFree {r : FreeReq} (h : memoriesWf s) : answersWf (execBasinFree r s) := by
  unfold execBasinFree
  refine wf_onMgr h fun _ => ?_
  split
  · exact h
  · exact wf_if h (wf_if h (wf_commitDir h))

@[simp] theorem wf_execPartnerAllocFree (h : memoriesWf s) : answersWf (execPartnerAllocFree slot inst s) :=
  answersWf_if h (wf_commitDir (wf_foldl (fun _ _ h => h) h))

@[simp] theorem wf_execBasinPairPair (h : memoriesWf s) : answersWf (execBasinPairPair r s) := by
  unfold execBasinPairPair
  refine wf_onMgr h fun _ => ?_
  split
  · exact wf_if h (wf_if h (wf_commitDir (wf_if h h)))
  · exact h

@[simp] theorem wf_execBasinPairMarkSpare (h : memoriesWf s) : answersWf (execBasinPairMarkSpare r s) := by
  unfold execBasinPairMarkSpare
  refine wf_onMgr h fun _ => ?_
  split
  · exact h
  · exact wf_if h (wf_commitDir h)

@[simp] theorem wf_execBasinPairUnmarkSpare (h : memoriesWf s) : answersWf (execBasinPairUnmarkSpare r s) := by
  unfold execBasinPairUnmarkSpare
  refine wf_onMgr h fun _ => ?_
  split
  · exact h
  · exact wf_if h (wf_commitDir h)

@[simp] theorem wf_execBasinQueryMap (h : memoriesWf s) : answersWf (execBasinQueryMap slot s) := answersWf_if h h

@[simp] theorem wf_execBasinQueryAlloc {handle : Nat} (h : memoriesWf s) : answersWf (execBasinQueryAlloc slot handle s) := by
  unfold execBasinQueryAlloc
  refine answersWf_if h ?_
  dsimp only
  split <;> exact h

/-! ### Mailboxes -/

theorem wf_mbxTake {o : MbxFrom} {lenOk : Bool} (h : memoriesWf s) : memoriesWf (mbxTake s o b lenOk) := by
  unfold mbxTake
  dsimp only
  split
  · exact wf_mbxRespond h
  · exact wf_if (wf_mbxRespond h) (wf_wakeBlk h)

theorem wf_mbxGo {src : Src} (h : memoriesWf s) : memoriesWf (mbxGo s src) := wf_mbxTake h

@[simp] theorem wf_execTnMbxGo (h : memoriesWf s) : answersWf (execTnMbxGo w s) :=
  answersWf_if h (wf_checked h (wf_if (wf_mbxGo h) h))

@[simp] theorem wf_execMctpRequest {m : MctpReq} (h : memoriesWf s) : answersWf (execMctpRequest m s) :=
  answersWf_if h (answersWf_if h (wf_mbxTake h))

theorem wf_issueAlloc {r : MbxReq} (h : memoriesWf s) : memoriesWf (issueAlloc s r).state := by
  unfold issueAlloc
  dsimp only
  split
  · exact h
  · split
    · exact (wf_of_fst (wf_admitKey h) ‹_› :)
    · replace h := (wf_of_fst (wf_admitKey h) ‹_› :)
      split
      · exact (Acc.wf_wait (wf_readMem h) ‹_› :)
      · exact (Acc.wf_fault (wf_readMem h) ‹_› :)
      · replace h := (Acc.wf_ok (wf_readMem h) ‹_› :)
        split
        · exact h
        · split <;> exact (wf_of_fst (wf_admitKey h) ‹_› :)

theorem wf_issueMgr {r : MbxReq} (h : memoriesWf s) : memoriesWf (issueMgr s r).state := by
  unfold issueMgr
  dsimp only
  split
  · exact wf_issueAlloc h
  · split
    · split <;> exact h
    · split
      · split
        · split <;> exact h
        · split <;> exact h
      · split <;> exact h

@[simp] theorem wf_execHeldCommandResend (h : memoriesWf s) : answersWf (execHeldCommandResend s) :=
  answersWf_if h (wf_foldl (fun _ _ h => h) h)

@[simp] theorem wf_execHeldCommandTimeout (h : memoriesWf s) : answersWf (execHeldCommandTimeout s) := by
  unfold execHeldCommandTimeout
  split
  · exact h
  · exact answersWf_if h (wf_mbxDone h)

@[simp] theorem wf_execManagerReply {status : Byte} (h : memoriesWf s) : answersWf (execManagerReply reqId status data s) := by
  unfold execManagerReply
  split
  · exact h
  · split
    · exact wf_mbxDone h
    · split
      · rename_i d _ _ _
        have ht : memoriesWf { s with mgr.held := s.mgr.held.erase d } := h
        dsimp only
        split
        · exact (Acc.wf_wait (wf_writeMem ht) ‹_› :)
        · exact wf_mbxDone (Acc.wf_fault (wf_writeMem ht) ‹_› :)
        · exact wf_mbxDone (Acc.wf_ok (wf_writeMem ht) ‹_› :)
      · split <;> exact wf_mbxDone h

theorem wf_startBasin {r : MbxReq} {rest : List MbxReq} (h : memoriesWf s) : memoriesWf (startBasin s r rest) := by
  unfold startBasin
  split
  · exact (Issued.wf_wait (wf_issueMgr h) ‹_› :)
  · exact wf_mbxRespond (Issued.wf_fail (wf_issueMgr h) ‹_› :)
  · replace h := (Issued.wf_go (wf_issueMgr h) ‹_› :)
    exact wf_if h h

@[simp] theorem wf_execMbxCommandStart (h : memoriesWf s) : answersWf (execMbxCommandStart s) := by
  unfold execMbxCommandStart
  refine answersWf_if h ?_
  split
  · exact h
  · exact answersWf_if (wf_mbxRespond h) (answersWf_if (wf_startBasin h) h)

/-! ### Moves of spans and ATS -/

@[simp] theorem wf_execSpanMoveDone (h : memoriesWf s) : answersWf (execSpanMoveDone k s) := by
  unfold execSpanMoveDone
  split
  · exact h
  · split
    · exact h
    · rename_i sp _ _ q i _
      refine answersWf_if h ?_
      have hfail {u : State} {b : Bool} {st : Byte} (h : memoriesWf u) : memoriesWf (rxRelease (finishSt (dropPieces
          { u with spans := Tab.put u.spans k { sp with moving := none, resHbm := b } } k) q i st)) :=
        wf_rxRelease (wf_finishSt h)
      split
      · refine (Acc.wf_wait (wf_readMem ?_) ‹_› :)
        exact h
      · refine hfail (Acc.wf_fault (wf_readMem ?_) ‹_›)
        exact h
      · rename_i u _ e
        replace h : memoriesWf u := by
          refine Acc.wf_ok (wf_readMem ?_) e
          exact h
        split
        · refine (Acc.wf_wait (wf_writeMem ?_) ‹_› :)
          exact h
        · refine hfail (Acc.wf_fault (wf_writeMem ?_) ‹_›)
          exact h
        · refine wf_rxRelease (wf_finish (Acc.wf_ok (wf_writeMem ?_) ‹_›))
          exact h

theorem wf_atsRefuse {r : AtsReq} (h : memoriesWf s) : memoriesWf (atsRefuse s r) := wf_if h h

theorem wf_adviseRest {r : AtsReq} {sp : Span} (h : memoriesWf s) : memoriesWf (adviseRest s r k sp) := wf_if (wf_adviseAts h) h

@[simp] theorem wf_execAtsCompletion {a : AtsAns} (h : memoriesWf s) : answersWf (execAtsCompletion inst addr a s) := by
  unfold execAtsCompletion
  split
  · exact h
  · split
    · exact wf_rxRelease (wf_atsRefuse h)
    · refine answersWf_if h (answersWf_if (wf_rxRelease (wf_atsRefuse h)) ?_)
      split
      · exact wf_rxRelease (wf_atsRefuse h)
      · refine wf_rxRelease ?_
        split
        · refine wf_adviseRest ((installPiece_frame ‹_›).wf ?_)
          exact h
        · exact h

@[simp] theorem wf_execAtsTimeout (h : memoriesWf s) : answersWf (execAtsTimeout inst addr s) := by
  unfold execAtsTimeout
  split
  · exact h
  · exact wf_rxRelease (wf_logEv (wf_atsRefuse h))

@[simp] theorem wf_execAtsInvalidationRequest {pasid : Nat} (h : memoriesWf s) :
    answersWf (execAtsInvalidationRequest pasid addr len s) := answersWf_if h h

/-! ### Synko -/

theorem wf_sopFinish (h : memoriesWf s) : memoriesWf (sopFinish s q i st) := wf_finish h

theorem wf_fire {t : Nat} (h : memoriesWf s) : memoriesWf (fire s t q i).1 := by
  unfold fire
  split
  · exact h
  · split
    · exact h
    · exact h
    · exact wf_wakeBlk h
    · split
      · exact h
      · exact wf_wakeBlk h

theorem wf_wake {r : Infl} (h : memoriesWf s) : memoriesWf (wake s q i r) :=
  wf_if (wf_sopFinish h) (wf_if (wf_sopFinish h) (wf_if (wf_sopFinish h) (wf_if h (wf_if (wf_sopFinish h) (wf_sopFinish (wf_fire
    h))))))

theorem wf_releaseWaiters {before : Nat} (h : memoriesWf s) : memoriesWf (releaseWaiters s n before) := by
  unfold releaseWaiters
  refine wf_if (wf_foldl (fun _ _ h => wf_wake h) h) (wf_foldl (fun _ _ h => ?_) ?_)
  · split
    · exact h
    · exact wf_if (wf_enterError h) h
  · exact wf_foldl (fun _ _ h => wf_wake h) h

theorem wf_applyCnt {set : Bool} {v : Nat} {journal : List (Nat × Nat × Nat)} (h : memoriesWf s) :
    memoriesWf (applyCnt s n set v journal) := wf_releaseWaiters (wf_if (wf_logEv h) h)

theorem wf_retire {src : SySrc} (h : memoriesWf s) : memoriesWf (retire s src) := by
  unfold retire
  split
  · exact h
  · exact wf_sopFinish h
  · exact h
  · exact h
  · exact wf_if h h

@[simp] theorem wf_execSynkoApply (h : memoriesWf s) : answersWf (execSynkoApply n s) := by
  unfold execSynkoApply
  split
  · exact h
  · exact wf_onBlk h fun _ h => answersWf_if h (wf_retire (wf_applyCnt h))

theorem wf_sopDispatch {sop : Nat} {k : Infl → State → State} (h : memoriesWf s)
    (hk : ∀ (r : Infl) (u : State), memoriesWf u → memoriesWf (k r u)) : answersWf (sopDispatch q i sop s k) := by
  unfold sopDispatch
  split
  · exact h
  · exact answersWf_if h (hk _ _ h)

@[simp] theorem wf_execSynkoAdd (h : memoriesWf s) : answersWf (execSynkoAdd q i s) :=
  wf_sopDispatch h fun _ _ h => wf_if (wf_sopFinish h) h

@[simp] theorem wf_execSynkoSet (h : memoriesWf s) : answersWf (execSynkoSet q i s) := wf_sopDispatch h fun _ _ h => h

theorem wf_startWait {r : Infl} (h : memoriesWf s) : memoriesWf (startWait q i r s) := wf_wake h

@[simp] theorem wf_execWaitGe (h : memoriesWf s) : answersWf (execWaitGe q i s) := wf_sopDispatch h fun _ _ h => wf_startWait h

@[simp] theorem wf_execArmFire (h : memoriesWf s) : answersWf (execArmFire q i s) := wf_sopDispatch h fun _ _ h => wf_startWait h

@[simp] theorem wf_execSynkoDeadline (h : memoriesWf s) : answersWf (execSynkoDeadline q i s) := by
  unfold execSynkoDeadline
  split
  · exact h
  · split
    · exact h
    · exact answersWf_if h (wf_sopFinish h)

@[simp] theorem wf_execSySet (h : memoriesWf s) : answersWf (execSySet inst w s) :=
  wf_onCmd h (wf_pageCmd h fun _ h => wf_applyCnt h)

@[simp] theorem wf_execSyAdd (h : memoriesWf s) : answersWf (execSyAdd inst w s) :=
  wf_onCmd h (wf_pageCmd h fun _ h => wf_applyCnt h)

@[simp] theorem wf_execSyShare (h : memoriesWf s) : answersWf (execSyShare inst w s) := wf_onCmd h (wf_pageCmd h fun _ h => h)

@[simp] theorem wf_execSyUnshare (h : memoriesWf s) : answersWf (execSyUnshare inst w s) := wf_onCmd h (wf_pageCmd h fun _ h => h)

@[simp] theorem wf_execGateSet (h : memoriesWf s) : answersWf (execGateSet inst w s) := wf_onCmd h (wf_pageCmd h fun _ h => h)

@[simp] theorem wf_execGateClear (h : memoriesWf s) : answersWf (execGateClear inst w s) := wf_onCmd h (wf_pageCmd h fun _ h => h)

@[simp] theorem wf_execGateQuery (h : memoriesWf s) : answersWf (execGateQuery inst w s) := by
  unfold execGateQuery
  refine wf_onCmd h (wf_pageCmd h fun _ h => ?_)
  dsimp only
  split
  · exact wf_foldl (fun _ _ h => h) h
  · split <;> exact wf_foldl (fun _ _ h => h) h

/-! ### Teardowns and lost parts -/

theorem wf_hushAll (h : memoriesWf s) : memoriesWf (hushAll s f) := h

theorem wf_endColls (h : memoriesWf s) : memoriesWf (endColls s f st) := by
  unfold endColls
  refine wf_foldl (fun _ _ h => (wf_if h ?_)) h
  dsimp only
  split
  · exact h
  · refine wf_foldl (fun _ _ h => ?_) ?_
    · split
      · exact (wf_of_next (wf_execPacketTransmit h) ‹_› :)
      · exact h
    · exact wf_collEnd (wf_sendAborts h)

theorem wf_sendAbortsQp {resyncing : Bool} (h : memoriesWf s) : memoriesWf (sendAbortsQp s f resyncing) :=
  wf_foldl (fun _ _ h => wf_if (wf_sendCtl h) h) h

theorem wf_endEntries {spare : Nat → Infl → Bool} (h : memoriesWf s) : memoriesWf (endEntries s f st spare) :=
  wf_foldl (fun _ _ h => wf_if (wf_finishSt h) h) h

theorem wf_tdEntry {x : Wq} {r : Infl} {d : Done} (h : memoriesWf s) : memoriesWf (tdEntry s q i x r d prst).1 := by
  unfold tdEntry
  dsimp only
  split
  · exact wf_of_ite h (wf_writeCqe h) ‹_›
  · refine wf_afterCqe ?_
    split
    · exact wf_of_ite h (wf_writeCqe h) ‹_›
    · exact wf_instStat (wf_of_ite h (wf_writeCqe h) ‹_›)

theorem wf_tdQueue {x : Wq} (h : memoriesWf s) : memoriesWf (tdQueue n s q x prst) := by
  induction n generalizing s with
  | zero => exact h
  | succ n ih =>
    unfold tdQueue
    split
    · split
      · split
        · exact ih (wf_of_fst (wf_tdEntry h) ‹_›)
        · exact wf_of_fst (wf_tdEntry h) ‹_›
      · exact h
    · exact h

theorem wf_tdEntries (h : memoriesWf s) : memoriesWf (tdEntries s f prst) := wf_foldl (fun _ _ h => wf_if (wf_tdQueue h) h) h

theorem wf_dropWaits (h : memoriesWf s) : memoriesWf (dropWaits s f) := h

theorem wf_endWork (h : memoriesWf s) : memoriesWf (endWork s f st prst) :=
  wf_tdEntries (wf_dropWaits (wf_endEntries (wf_sendAbortsQp (wf_hushAll (wf_endColls h)))))

theorem wf_freeGroups (h : memoriesWf s) : memoriesWf (freeGroups s f) := h

theorem wf_applyOwed (h : memoriesWf s) : memoriesWf (applyOwed s f) :=
  wf_foldl (fun _ _ h => wf_retire (wf_applyCnt h)) h

theorem wf_freeCounters (h : memoriesWf s) : memoriesWf (freeCounters s f st) := by
  unfold freeCounters
  refine wf_foldl (fun _ _ h => ?_) ?_
  · split
    · exact h
    · exact wf_if (wf_enterError h) h
  · exact wf_foldl (fun _ _ h => wf_if (wf_sopFinish h) h) h

theorem wf_dropGrants (h : memoriesWf s) : memoriesWf (dropGrants s f) := by
  unfold dropGrants
  refine wf_foldl (fun _ _ h => ?_) ?_
  · exact wf_if (wf_dropGroup h) h
  · exact wf_foldl (fun _ _ h => wf_if (wf_killSpan h) h) h

theorem wf_destroyInsts {tell : Bool} (h : memoriesWf s) : memoriesWf (destroyInsts s f prst tell) := by
  unfold destroyInsts
  extract_lets gone u v
  have hv : memoriesWf v := wf_foldl (fun _ _ h => wf_if h h) h
  exact hv

/-! ### Culvert -/

theorem wf_cvReject (h : memoriesWf s) : memoriesWf (cvReject s k i st) := wf_if h h

theorem wf_dropXfer (h : memoriesWf s) : memoriesWf (dropXfer s k i) := h

theorem wf_putXfer (h : memoriesWf s) : memoriesWf (putXfer s x) := h

theorem wf_cvHold (h : memoriesWf s) : memoriesWf (cvHold s k i) := h

theorem wf_cvAccept (h : memoriesWf s) : memoriesWf (cvAccept s k i) := by
  unfold cvAccept
  refine wf_if (wf_cvReject h) (wf_if (wf_cvReject h) ?_)
  split
  · exact wf_cvHold (Acc.wf_wait (wf_readMem h) ‹_› :)
  · exact wf_cvReject (Acc.wf_fault (wf_readMem h) ‹_› :)
  · replace h := (Acc.wf_ok (wf_readMem h) ‹_› :)
    split
    · exact wf_cvReject h
    · dsimp only
      split
      · exact wf_cvHold (Acc.wf_wait (wf_writeMem h) ‹_› :)
      · exact wf_cvReject (Acc.wf_fault (wf_writeMem h) ‹_› :)
      · exact (Acc.wf_ok (wf_writeMem h) ‹_› :)

theorem wf_cvRetry (h : memoriesWf s) : memoriesWf (cvRetry s) := wf_if h (wf_foldl (fun _ _ h => wf_if h (wf_cvAccept h)) h)

theorem wf_cvRing (h : memoriesWf s) : memoriesWf (cvRing s k i) := wf_if (wf_cvHold (wf_wakeBlk h)) (wf_cvAccept (wf_wakeBlk h))

@[simp] theorem wf_execCulvertDoorbell (h : memoriesWf s) : answersWf (execCulvertDoorbell k w s) :=
  answersWf_if h (wf_checked h (wf_if h (wf_cvRing h)))

theorem wf_cvFinish (h : memoriesWf s) : memoriesWf (cvFinish s x st) := by
  unfold cvFinish
  dsimp only
  split
  · exact wf_putXfer (Acc.wf_wait (wf_writeMemAt h) ‹_› :)
  · replace h := (Acc.wf_fault (wf_writeMemAt h) ‹_› :)
    exact wf_if h h
  · replace h := (Acc.wf_ok (wf_writeMemAt h) ‹_› :)
    exact wf_if h h

theorem wf_cvOut (h : memoriesWf s) : memoriesWf (cvOut s x b) := by
  unfold cvOut
  split
  · exact (Acc.wf_wait (wf_writeMemAt h) ‹_› :)
  · exact wf_cvFinish (Acc.wf_fault (wf_writeMemAt h) ‹_› :)
  · exact wf_cvFinish (Acc.wf_ok (wf_writeMemAt h) ‹_› :)

theorem wf_cvSend {a : Nat} {into : Bool} (h : memoriesWf s) : memoriesWf (cvSend s x a len hdr into) := by
  unfold cvSend
  split
  · split
    · exact wf_cvFinish h
    · exact h
  · dsimp only
    split
    · exact wf_cvFinish h
    · split
      · exact h
      · split
        · exact wf_queueReq h
        · split
          · exact Acc.wf_wait (wf_readMemAt h) ‹_›
          · exact wf_cvFinish (Acc.wf_fault (wf_readMemAt h) ‹_›)
          · exact wf_queueReq (wf_putXfer (Acc.wf_ok (wf_readMemAt h) ‹_›))

theorem wf_cvAdmit (h : memoriesWf s) : memoriesWf (cvAdmit s x).1 := by
  unfold cvAdmit
  dsimp only
  split
  · exact h
  · split
    · exact h
    · split
      · exact (wf_of_fst (wf_admitKey h) ‹_› :)
      · exact wf_putXfer (wf_of_fst (wf_admitKey h) ‹_› :)

theorem wf_cvMove (h : memoriesWf s) : memoriesWf (cvMove s x) := by
  unfold cvMove
  refine wf_if h ?_
  split
  · exact wf_cvFinish (wf_of_fst (wf_cvAdmit h) ‹_› :)
  · replace h := (wf_of_fst (wf_cvAdmit h) ‹_› :)
    refine wf_if (wf_cvSend h) ?_
    split
    · exact wf_cvFinish h
    · refine wf_if (wf_if h (wf_cvOut h)) ?_
      split
      · exact (Acc.wf_wait (wf_readMemAt h) ‹_› :)
      · exact wf_cvFinish (Acc.wf_fault (wf_readMemAt h) ‹_› :)
      · replace h := (Acc.wf_ok (wf_readMemAt h) ‹_› :)
        split
        · exact wf_cvFinish (Acc.wf_ok (wf_basinPiece h) ‹_› :)
        · exact (Acc.wf_wait (wf_basinPiece h) ‹_› :)
        · exact wf_cvFinish (Acc.wf_fault (wf_basinPiece h) ‹_› :)

theorem wf_cvStep (h : memoriesWf s) : memoriesWf (cvStep s x) := by
  unfold cvStep
  refine wf_if h ?_
  split
  · exact wf_if (wf_cvOut h) (wf_cvFinish h)
  · exact wf_if h (wf_cvMove h)

@[simp] theorem wf_execCulvertTransferDone (h : memoriesWf s) : answersWf (execCulvertTransferDone k i s) := by
  unfold execCulvertTransferDone
  split
  · exact h
  · exact wf_cvStep h

theorem wf_cvRun (h : memoriesWf s) : memoriesWf (cvRun s f) := wf_foldl (fun _ _ h => wf_if (wf_cvStep h) h) h

theorem wf_cvCut (h : memoriesWf s) : memoriesWf (cvCut s x) := by
  unfold cvCut
  refine wf_if h ?_
  split
  · exact wf_setLoc h
  · exact h

theorem wf_cvForget (h : memoriesWf s) : memoriesWf (cvForget s f) := h

theorem wf_cvAbort (h : memoriesWf s) : memoriesWf (cvAbort s x st) := by
  unfold cvAbort
  dsimp only
  split
  · exact wf_dropXfer (wf_cvCut h)
  · exact wf_cvFinish (wf_cvCut h)

theorem wf_cvEnd (h : memoriesWf s) : memoriesWf (cvEnd s f st) := by
  unfold cvEnd
  refine wf_foldl (fun _ _ h => ?_) ?_
  · exact wf_if (wf_cvAbort h) h
  · exact wf_cvForget (wf_cvRun h)

theorem wf_cvClear (h : memoriesWf s) : memoriesWf (cvClear s f) := h

theorem wf_poolCfg (h : memoriesWf s) : memoriesWf (poolCfg s k w) := wf_checked h h

@[simp] theorem wf_execCvPoolDisable (h : memoriesWf s) : answersWf (execCvPoolDisable k w s) := answersWf_if h (wf_poolCfg h)

theorem wf_ovfWrite (h : memoriesWf s) : memoriesWf (ovfWrite s off w) := wf_checked h (wf_if h h)

@[simp] theorem wf_execCvOvfRegister {w : RegWrite} (h : memoriesWf s) : answersWf (execCvOvfRegister w s) := by
  unfold execCvOvfRegister
  refine answersWf_if h ?_
  split
  · exact wf_ovfWrite h
  · exact h

/-! ### Events and interrupts -/

theorem wf_eventInts {sev : Nat} (h : memoriesWf s) : memoriesWf (eventInts s sev) :=
  wf_if (wf_raise (wf_if (wf_raise h) h)) (wf_if (wf_raise h) h)

@[simp] theorem wf_execEventLogWrite (h : memoriesWf s) : answersWf (execEventLogWrite s) := by
  unfold execEventLogWrite
  split
  · exact h
  · split
    · dsimp only
      split
      · exact h
      · exact wf_eventInts h
    · split
      · exact h
      · exact wf_eventInts h

@[simp] theorem wf_execTnLogAckLoWrite (h : memoriesWf s) : answersWf (execTnLogAckLoWrite w s) := answersWf_if h (wf_checked h h)

@[simp] theorem wf_execTnLogAckHiWrite (h : memoriesWf s) : answersWf (execTnLogAckHiWrite w s) := answersWf_if h (wf_checked h h)

@[simp] theorem wf_execTnLogRselHiWrite (h : memoriesWf s) : answersWf (execTnLogRselHiWrite w s) :=
  answersWf_if h (wf_checked h h)

theorem wf_clearInt {bits : BitVec 6} (h : memoriesWf s) : memoriesWf (clearInt s bits) := wf_if h h

@[simp] theorem wf_execTnIntStatClear (h : memoriesWf s) : answersWf (execTnIntStatClear w s) :=
  answersWf_if h (wf_checked h (wf_clearInt h))

@[simp] theorem wf_execTnIntEnWrite (h : memoriesWf s) : answersWf (execTnIntEnWrite w s) :=
  answersWf_if h (wf_checked h (wf_setInt h))

/-! ### The partner link -/

theorem wf_prstTrigger (h : memoriesWf s) : memoriesWf (prstTrigger s cause) := by
  unfold prstTrigger
  split
  · exact wf_openOwnWin (wf_logEv h)
  · exact h
  · exact h

theorem wf_linkTrigger (h : memoriesWf s) : memoriesWf (linkTrigger s cause) := wf_prstTrigger h

@[simp] theorem wf_execPartnerLinkDown (h : memoriesWf s) : answersWf (execPartnerLinkDown s) :=
  answersWf_if (wf_if h (wf_prstTrigger h)) (answersWf_if h (wf_linkTrigger h))

@[simp] theorem wf_execPartnerFatalError (h : memoriesWf s) : answersWf (execPartnerFatalError s) :=
  answersWf_if h (wf_linkTrigger h)

@[simp] theorem wf_execHostReset (h : memoriesWf s) : answersWf (execHostReset s) := answersWf_if h (wf_prstTrigger h)

@[simp] theorem wf_execSnoopTimeout (h : memoriesWf s) : answersWf (execSnoopTimeout line s) := by
  unfold execSnoopTimeout
  split
  · exact h
  · exact wf_prstTrigger h

theorem wf_linkUp (h : memoriesWf s) : memoriesWf (linkUp s t) := wf_foldl (fun _ _ h => wf_logEv h) h

@[simp] theorem wf_execPartnerLinkTrained (h : memoriesWf s) : answersWf (execPartnerLinkTrained t s) :=
  answersWf_if h (answersWf_if h (wf_if (wf_linkUp h) (wf_linkUp h)))

@[simp] theorem wf_execUcieModuleLost {m : Nat} (h : memoriesWf s) : answersWf (execUcieModuleLost m s) :=
  answersWf_if h (answersWf_if (wf_linkTrigger (wf_logEv h)) (wf_logEv h))

theorem wf_hbWrite (h : memoriesWf s) (heff : memoriesWf eff) : answersWf (hbWrite s w eff) := answersWf_if h (wf_checked h heff)

@[simp] theorem wf_execPartnerHbArm (h : memoriesWf s) : answersWf (execPartnerHbArm w s) := answersWf_if h (wf_hbWrite h h)

@[simp] theorem wf_execPartnerHbBeat (h : memoriesWf s) : answersWf (execPartnerHbBeat w s) :=
  answersWf_if h (wf_hbWrite h (wf_if h h))

@[simp] theorem wf_execPartnerHbDisarm (h : memoriesWf s) : answersWf (execPartnerHbDisarm w s) := answersWf_if h (wf_hbWrite h h)

@[simp] theorem wf_execPartnerHbExpiry (h : memoriesWf s) : answersWf (execPartnerHbExpiry s) := answersWf_if h (wf_prstTrigger h)

theorem wf_ovfTeardown (h : memoriesWf s) : memoriesWf (ovfTeardown s) := wf_if h h

theorem wf_dbgTeardown (h : memoriesWf s) : memoriesWf (dbgTeardown s) := wf_if (wf_detach h) h

@[simp] theorem wf_execPartnerSnoop {store : Option Bytes} (h : memoriesWf s) : answersWf (execPartnerSnoop line store s) := by
  unfold execPartnerSnoop
  refine answersWf_if h (wf_emit ?_)
  split
  · exact wf_setLoc (l := { space := .partner, addr := 64 * line }) h
  · exact h

theorem wf_hdmForward {t : State} {who : Waiter} (h : memoriesWf s) (e : hdmForward s off b who = some t) : memoriesWf t := by
  obtain ⟨m, -, rfl⟩ := Option.map_eq_some_iff.1 e
  exact wf_queueReq h

/-- A write into a memory of the plot's bytes. -/
theorem wf_plotWrite (h : memoriesWf s) : memoriesWf { s with plot := Mem.write s.plot off b } :=
  wf_setLoc (l := { space := .plot, addr := off }) h

theorem wf_hdmServe {stored : Bool} (h : memoriesWf s) : memoriesWf (hdmServe s a stored) := by
  unfold hdmServe
  dsimp only
  split
  · exact wf_if h h
  · exact wf_if (wf_if (wf_getD (fun _ e => wf_hdmForward h e) h) h) (wf_if h (wf_if h (wf_if (wf_plotWrite h)
      (wf_getD (fun _ e => wf_hdmForward (wf_plotWrite h) e) h))))

theorem wf_hdmRetry (h : memoriesWf s) : memoriesWf (hdmRetry s) := wf_foldl (fun _ _ h => wf_hdmServe h) h

theorem wf_writeBack (h : memoriesWf s) : memoriesWf (writeBack s line b) := wf_if h (wf_hdmServe (wf_plotWrite h))

@[simp] theorem wf_execBackInvalidateAnswer {dirty : Option Bytes} (h : memoriesWf s) :
    answersWf (execBackInvalidateAnswer line dirty s) := by
  unfold execBackInvalidateAnswer
  refine answersWf_if h (wf_rxRelease (wf_hdmRetry ?_))
  split
  · exact wf_writeBack h
  · exact h

@[simp] theorem wf_execHdmAccess (h : memoriesWf s) : answersWf (execHdmAccess a s) := answersWf_if h (wf_hdmServe h)

theorem wf_endHeld (h : memoriesWf s) : memoriesWf (endHeld s f) := wf_tdEntries (wf_endEntries h)

theorem wf_tdStepOf (h : memoriesWf s) : memoriesWf (tdStepOf s n) :=
  wf_if (wf_endWork h) (wf_if (wf_cvEnd (wf_dbgTeardown h)) (wf_if (wf_freeCounters (wf_applyOwed h)) (wf_if (wf_dropGrants h)
    (wf_if (wf_rxRelease (wf_hdmRetry (wf_endHeld h))) (wf_if (wf_ovfTeardown h) (wf_if h (wf_if (wf_destroyInsts h) h)))))))

theorem wf_teardownOver (h : memoriesWf s) : memoriesWf (teardownOver s) := by
  unfold teardownOver
  dsimp only
  split
  · exact wf_linkUp h
  · exact h

theorem wf_teardownStep (h : memoriesWf s) : memoriesWf (teardownStep s) := by
  unfold teardownStep
  extract_lets n u v
  have hu : memoriesWf u := wf_if h h
  have hv : memoriesWf v := wf_if (wf_tdEntries hu) (wf_tdStepOf hu)
  exact wf_if h (wf_if hv (wf_if hv (wf_teardownOver hv)))

@[simp] theorem wf_execPlotMapFetched {m : PlotMap} (h : memoriesWf s) : answersWf (execPlotMapFetched m s) :=
  answersWf_if h (wf_rxRelease (wf_adoptMap h))

@[simp] theorem wf_execTenderCoreFail {core : Nat} (h : memoriesWf s) : answersWf (execTenderCoreFail core s) := by
  unfold execTenderCoreFail
  refine answersWf_if h ?_
  dsimp only
  split
  · exact answersWf_if (wf_logEv (wf_openOwnWin (wf_logEv h))) (wf_openOwnWin (wf_logEv h))
  · exact wf_openOwnWin (wf_logEv h)

theorem wf_loseCopies (h : memoriesWf s) : memoriesWf (loseCopies s n) :=
  wf_foldl (fun _ _ h => wf_if (wf_releaseWaiters (wf_logCorrupt h)) h) h

@[simp] theorem wf_execStackLost (h : memoriesWf s) : answersWf (execStackLost n s) := by
  unfold execStackLost
  extract_lets u v
  have hv : memoriesWf v := wf_loseCopies (wf_openOwnWin (wf_logEv h))
  exact answersWf_if h (answersWf_if hv (answersWf_if hv (wf_voidGuarantee hv)))

/-! ### Instance commands -/

theorem wf_instReply (h : memoriesWf s) : memoriesWf (instReply s v code st data) := by
  unfold instReply
  split
  · exact wf_mbxDone h
  · split <;> exact h

theorem wf_instRun {k : Src → Bytes → State → State} (h : memoriesWf s)
    (hk : ∀ (src : Src) (b : Bytes) (u : State), memoriesWf u → memoriesWf (k src b u)) : answersWf (instRun v code len s k) := by
  unfold instRun
  split
  · exact h
  · exact wf_instReply h
  · exact hk _ _ _ h

@[simp] theorem wf_execInstCreate (h : memoriesWf s) : answersWf (execInstCreate v s) := by
  unfold execInstCreate
  refine wf_instRun h fun _ _ _ h => ?_
  dsimp only
  split
  · exact wf_instReply h
  · split <;> exact wf_instReply h

@[simp] theorem wf_execInstModify (h : memoriesWf s) : answersWf (execInstModify v s) := by
  unfold execInstModify
  refine wf_instRun h fun _ _ _ h => ?_
  dsimp only
  split <;> exact wf_instReply h

@[simp] theorem wf_execInstDestroyGraceful (h : memoriesWf s) : answersWf (execInstDestroyGraceful v s) := by
  unfold execInstDestroyGraceful
  refine wf_instRun h fun _ _ _ h => wf_if h ?_
  split
  · exact wf_instReply h
  · exact wf_instReply (wf_destroyInsts (wf_dropGrants (wf_freeCounters h)))

theorem wf_forceRest (h : memoriesWf s) : memoriesWf (forceRest s v n) := by
  unfold forceRest
  extract_lets f t u
  have ht : memoriesWf t := wf_tdEntries (wf_cvRun h)
  have hu : memoriesWf u := wf_cvClear (wf_applyOwed ht)
  exact wf_if ht (wf_rxRelease (wf_instReply (wf_destroyInsts (wf_dropGrants (wf_freeCounters hu)))))

theorem wf_forceStart (h : memoriesWf s) : memoriesWf (forceStart s v n) := wf_freeGroups (wf_endWork h)

@[simp] theorem wf_execInstDestroyForce (h : memoriesWf s) : answersWf (execInstDestroyForce v s) := by
  unfold execInstDestroyForce
  refine wf_instRun h fun _ _ _ h => wf_if h (wf_if (wf_forceRest h) ?_)
  split
  · exact wf_instReply h
  · exact wf_forceRest (wf_forceStart h)

@[simp] theorem wf_execInstQuery (h : memoriesWf s) : answersWf (execInstQuery v s) := by
  unfold execInstQuery
  refine wf_instRun h fun _ _ _ h => ?_
  dsimp only
  split <;> exact wf_instReply h

end Sys2Proof.Machine
end

section
/-!
PROOFS. The canonical form of the memories (log 2), kept by Furrow's instructions, registers, resets, self-tests, Weir, every
command and every step.
-/
namespace Sys2Proof.Machine

variable {s s' : State} {blk core inst l n off slot v : Nat} {a : Asleep} {r : BootRec} {at_ : Option Nat} {w : RegWr}

/-! ### Furrow's instructions -/

@[simp] theorem wf_execFwNop (h : memoriesWf s) : answersWf (execFwNop core slot s) := wf_issue h fun _ _ _ h => h

@[simp] theorem wf_execMovi (h : memoriesWf s) : answersWf (execMovi core slot s) := wf_laneOp h

@[simp] theorem wf_execMovu (h : memoriesWf s) : answersWf (execMovu core slot s) := wf_laneOp h

@[simp] theorem wf_execMovs (h : memoriesWf s) : answersWf (execMovs core slot s) := by
  unfold execMovs
  refine wf_issue h fun _ _ _ h => ?_
  split <;> exact h

@[simp] theorem wf_execUmov (h : memoriesWf s) : answersWf (execUmov core slot s) := wf_issue h fun _ _ _ h => h

theorem wf_lane2 {op : Nat} {f : Ins → Nat → Nat → Nat} (h : memoriesWf s) : answersWf (lane2 core slot op s f) := wf_laneOp h

@[simp] theorem wf_execIadd (h : memoriesWf s) : answersWf (execIadd core slot s) := wf_lane2 h

@[simp] theorem wf_execIsub (h : memoriesWf s) : answersWf (execIsub core slot s) := wf_lane2 h

@[simp] theorem wf_execImul (h : memoriesWf s) : answersWf (execImul core slot s) := wf_lane2 h

@[simp] theorem wf_execImad (h : memoriesWf s) : answersWf (execImad core slot s) := wf_laneOp h

@[simp] theorem wf_execAnd (h : memoriesWf s) : answersWf (execAnd core slot s) := wf_lane2 h

@[simp] theorem wf_execOr (h : memoriesWf s) : answersWf (execOr core slot s) := wf_lane2 h

@[simp] theorem wf_execXor (h : memoriesWf s) : answersWf (execXor core slot s) := wf_lane2 h

@[simp] theorem wf_execShl (h : memoriesWf s) : answersWf (execShl core slot s) := wf_lane2 h

@[simp] theorem wf_execShr (h : memoriesWf s) : answersWf (execShr core slot s) := wf_lane2 h

@[simp] theorem wf_execSar (h : memoriesWf s) : answersWf (execSar core slot s) := wf_lane2 h

@[simp] theorem wf_execImin (h : memoriesWf s) : answersWf (execImin core slot s) := wf_lane2 h

@[simp] theorem wf_execImax (h : memoriesWf s) : answersWf (execImax core slot s) := wf_lane2 h

@[simp] theorem wf_execIcmp (h : memoriesWf s) : answersWf (execIcmp core slot s) := wf_cmpOp h

@[simp] theorem wf_execFadd (h : memoriesWf s) : answersWf (execFadd core slot s) := wf_lane2 h

@[simp] theorem wf_execFmul (h : memoriesWf s) : answersWf (execFmul core slot s) := wf_lane2 h

@[simp] theorem wf_execFfma (h : memoriesWf s) : answersWf (execFfma core slot s) := wf_laneOp h

@[simp] theorem wf_execFmin (h : memoriesWf s) : answersWf (execFmin core slot s) := wf_lane2 h

@[simp] theorem wf_execFmax (h : memoriesWf s) : answersWf (execFmax core slot s) := wf_lane2 h

@[simp] theorem wf_execFcmp (h : memoriesWf s) : answersWf (execFcmp core slot s) := wf_cmpOp h

@[simp] theorem wf_execFrcp (h : memoriesWf s) : answersWf (execFrcp core slot s) := wf_laneOp h

@[simp] theorem wf_execCvt (h : memoriesWf s) : answersWf (execCvt core slot s) := by
  unfold execCvt
  refine wf_issue h fun _ _ _ h => ?_
  dsimp only
  split
  · exact h
  · split <;> exact h

theorem wf_onBlock {c : FwCtx} {t : Tg} {k : Nat → Nat → Fx} (h : memoriesWf s) (hk : ∀ n m : Nat, memoriesWf (k n m).state) :
    memoriesWf (onBlock c s t k).state := by
  unfold onBlock
  dsimp only
  split
  · exact h
  · split
    · exact h
    · split
      · exact h
      · exact hk _ _

@[simp] theorem wf_execMxunpk (h : memoriesWf s) : answersWf (execMxunpk core slot s) :=
  wf_issue h fun _ _ _ h => wf_onBlock h fun _ _ => h

@[simp] theorem wf_execMxpack (h : memoriesWf s) : answersWf (execMxpack core slot s) :=
  wf_issue h fun _ _ _ h => wf_onBlock h fun _ _ => h

@[simp] theorem wf_execVqdec (h : memoriesWf s) : answersWf (execVqdec core slot s) := by
  unfold execVqdec
  refine wf_issue h fun _ _ _ h => ?_
  split
  · exact h
  · dsimp only
    split
    · exact h
    · split
      · exact h
      · split <;> exact h

@[simp] theorem wf_execVqenc (h : memoriesWf s) : answersWf (execVqenc core slot s) := by
  unfold execVqenc
  refine wf_issue h fun _ _ _ h => ?_
  split
  · exact h
  · split
    · exact h
    · split <;> exact h

@[simp] theorem wf_execShfl (h : memoriesWf s) : answersWf (execShfl core slot s) := wf_laneOp h

@[simp] theorem wf_execVote (h : memoriesWf s) : answersWf (execVote core slot s) := wf_issue h fun _ _ _ h => h

@[simp] theorem wf_execRed (h : memoriesWf s) : answersWf (execRed core slot s) := wf_issue h fun _ _ _ h => h

@[simp] theorem wf_execLdl (h : memoriesWf s) : answersWf (execLdl core slot s) := by
  unfold execLdl
  refine wf_issue h fun _ _ _ h => ?_
  split <;> exact h

@[simp] theorem wf_execStl (h : memoriesWf s) : answersWf (execStl core slot s) := by
  unfold execStl
  refine wf_issue h fun _ _ _ h => ?_
  split <;> exact h

@[simp] theorem wf_execLda (h : memoriesWf s) : answersWf (execLda core slot s) := by
  unfold execLda
  refine wf_issue h fun _ _ _ h => ?_
  split <;> exact h

theorem wf_rollback {u : State} (h : memoriesWf s) (hu : memoriesWf u) : memoriesWf (rollback s u) := wf_undo h hu

theorem wf_readLanes {f : Nat → Nat} {ks : List Nat} (h : memoriesWf s) : memoriesWf (readLanes at_ inst f s ks).state := by
  induction ks generalizing s with
  | nil => exact h
  | cons k ks ih =>
    unfold readLanes
    split
    · exact Acc.wf_wait (wf_readMemAt h) ‹_›
    · exact Acc.wf_fault (wf_readMemAt h) ‹_›
    · replace h := Acc.wf_ok (wf_readMemAt h) ‹_›
      split
      · exact Pass.wf_ok (ih h) ‹_›
      · exact ih h

theorem wf_writeLanes {ws : List (Nat × Nat × Nat)} (h : memoriesWf s) : memoriesWf (writeLanes at_ inst s ws).state := by
  induction ws generalizing s with
  | nil => exact h
  | cons w ws ih =>
    unfold writeLanes
    split
    · exact Acc.wf_wait (wf_writeMemAt h) ‹_›
    · exact Acc.wf_fault (wf_writeMemAt h) ‹_›
    · exact ih (Acc.wf_ok (wf_writeMemAt h) ‹_›)

@[simp] theorem wf_execLdg (h : memoriesWf s) : answersWf (execLdg core slot s) := by
  unfold execLdg
  refine wf_issue h fun _ _ _ h => ?_
  split
  · exact h
  · split
    · exact wf_rollback h (Pass.wf_wait (wf_readLanes h) ‹_› :)
    · exact wf_undo h (Pass.wf_fault (wf_readLanes h) ‹_› :)
    · exact (Pass.wf_ok (wf_readLanes h) ‹_› :)

@[simp] theorem wf_execStg (h : memoriesWf s) : answersWf (execStg core slot s) := by
  unfold execStg
  refine wf_issue h fun _ _ _ h => ?_
  split
  · exact h
  · split
    · exact wf_rollback h (Pass.wf_wait (wf_writeLanes h) ‹_› :)
    · exact wf_undo h (Pass.wf_fault (wf_writeLanes h) ‹_› :)
    · exact (Pass.wf_ok (wf_writeLanes h) ‹_› :)

@[simp] theorem wf_execCpy (h : memoriesWf s) : answersWf (execCpy core slot s) := by
  unfold execCpy
  refine wf_issue h fun _ _ _ h => ?_
  split
  · exact h
  · split
    · exact h
    · dsimp only
      split
      · split
        · exact wf_rollback h (Acc.wf_wait (wf_writeMemAt h) ‹_› :)
        · exact (Acc.wf_fault (wf_writeMemAt h) ‹_› :)
        · exact (Acc.wf_ok (wf_writeMemAt h) ‹_› :)
      · split
        · exact wf_rollback h (Acc.wf_wait (wf_readMemAt h) ‹_› :)
        · exact wf_undo h (Acc.wf_fault (wf_readMemAt h) ‹_› :)
        · exact (Acc.wf_ok (wf_readMemAt h) ‹_› :)

@[simp] theorem wf_execAtomg (h : memoriesWf s) : answersWf (execAtomg core slot s) := by
  unfold execAtomg
  refine wf_issue h fun _ _ _ h => ?_
  dsimp only
  split
  · exact h
  · split
    · exact h
    · split
      · exact h
      · split
        · split
          · exact h
          · exact wf_logEv h
        · split
          · exact wf_rollback h (Pass.wf_wait (wf_readLanes h) ‹_›)
          · exact wf_undo h (Pass.wf_fault (wf_readLanes h) ‹_›)
          · rename_i e
            have k := Pass.wf_ok (wf_readLanes h) e
            split
            · exact wf_rollback h (Pass.wf_wait (wf_writeLanes k) ‹_›)
            · exact wf_undo h (Pass.wf_fault (wf_writeLanes k) ‹_›)
            · exact (Pass.wf_ok (wf_writeLanes k) ‹_› :)

@[simp] theorem wf_execFence (h : memoriesWf s) : answersWf (execFence core slot s) := wf_issue h fun _ _ _ h => h

@[simp] theorem wf_execBra (h : memoriesWf s) : answersWf (execBra core slot s) := by
  unfold execBra
  refine wf_issue h fun _ _ _ h => ?_
  split
  · exact h
  · split <;> exact h

@[simp] theorem wf_execCall (h : memoriesWf s) : answersWf (execCall core slot s) := by
  unfold execCall
  refine wf_issue h fun _ _ _ h => ?_
  split <;> exact h

@[simp] theorem wf_execRet (h : memoriesWf s) : answersWf (execRet core slot s) := by
  unfold execRet
  refine wf_issue h fun _ _ _ h => ?_
  split <;> exact h

@[simp] theorem wf_execExit (h : memoriesWf s) : answersWf (execExit core slot s) := wf_issue h fun _ _ _ h => h

@[simp] theorem wf_execTrap (h : memoriesWf s) : answersWf (execTrap core slot s) := by
  unfold execTrap
  refine wf_issue h fun _ _ _ h => ?_
  dsimp only
  split <;> exact h

@[simp] theorem wf_execRte (h : memoriesWf s) : answersWf (execRte core slot s) := by
  unfold execRte
  refine wf_issue h fun _ _ _ h => ?_
  split
  · exact h
  · split <;> exact h

@[simp] theorem wf_execSetres (h : memoriesWf s) : answersWf (execSetres core slot s) := wf_issue h fun _ _ _ h => h

@[simp] theorem wf_execSetstat (h : memoriesWf s) : answersWf (execSetstat core slot s) := by
  unfold execSetstat
  refine wf_issue h fun _ _ _ h => ?_
  dsimp only
  split <;> exact h

@[simp] theorem wf_execSadd (h : memoriesWf s) : answersWf (execSadd core slot s) := by
  unfold execSadd
  refine wf_issue h fun _ _ _ h => ?_
  dsimp only
  split <;> exact h

@[simp] theorem wf_execBrk (h : memoriesWf s) : answersWf (execBrk core slot s) := by
  unfold execBrk
  refine wf_issue h fun _ _ _ h => ?_
  split <;> exact h

/-! ### Registers -/

theorem wf_mergeCfg {on : Bool} (h : memoriesWf s) : memoriesWf (mergeCfg on s l) := wf_if h h

theorem wf_portCfg (h : memoriesWf s) : memoriesWf (portCfg s off v) := by
  unfold portCfg
  refine wf_if (wf_foldl (fun _ _ h => wf_if h h) h) (wf_foldl (fun _ _ h => ?_) ?_)
  · exact wf_mergeCfg h
  · exact wf_foldl (fun _ _ h => wf_if h h) h

theorem wf_lvCtrl (h : memoriesWf s) : memoriesWf (lvCtrl s v) := wf_if h (wf_onRegions h)

theorem wf_ptpLinkOff (h : memoriesWf s) : memoriesWf (ptpLinkOff s) := wf_if h h

theorem wf_timeCtrl (h : memoriesWf s) : memoriesWf (timeCtrl s v) := wf_if (wf_ptpLinkOff h) (wf_ptpLinkOff h)

theorem wf_devEffect (h : memoriesWf s) : memoriesWf (devEffect s blk off v) :=
  wf_if (wf_if (wf_portCfg h) (wf_if h h)) (wf_if (wf_if h h) (wf_if (wf_if h h) (wf_if (wf_if h (wf_if h h)) (wf_if (wf_if h
    (wf_if h h)) (wf_if (wf_if (wf_timeCtrl h) (wf_if h (wf_if h (wf_if h (wf_if h h))))) (wf_if (wf_if (wf_lvCtrl h) (wf_if h
    (wf_if h h))) h))))))

theorem wf_devWrite (h : memoriesWf s) : memoriesWf (devWrite s blk off w) := by
  unfold devWrite
  refine wf_if h ?_
  split
  · exact wf_checked h h
  · exact wf_if (wf_poolCfg h) (wf_checked h (wf_devEffect h))

theorem wf_fixedWrite (h : memoriesWf s) : memoriesWf (fixedWrite s off w) := by
  unfold fixedWrite
  refine wf_if h (wf_if (wf_checked h h) (wf_if (wf_checked h h) ?_))
  split
  · exact wf_checked h h
  · exact wf_if (wf_checked h h) (wf_checked h h)

theorem wf_vstatClear (h : memoriesWf s) : memoriesWf (vstatClear s inst v) := wf_if h h

theorem wf_pageWrite (h : memoriesWf s) : answersWf (pageWrite s inst off w) := by
  unfold pageWrite
  split
  · exact answersWf_if h (wf_pageCmd h fun _ h => h)
  · refine answersWf_if h (answersWf_if (wf_checked h (wf_vstatClear h)) ?_)
    split
    · exact wf_checked h h
    · exact wf_checked h (wf_if h h)

theorem wf_queueWrite {q : Nat} (h : memoriesWf s) : answersWf (queueWrite s q off w) := by
  unfold queueWrite
  refine answersWf_if h ?_
  split
  · exact wf_checked h h
  · exact wf_queueReg h fun _ => wf_if (wf_reject h) (wf_if h h)

theorem wf_cqWrite {c : Nat} (h : memoriesWf s) : answersWf (cqWrite s c off w) := by
  unfold cqWrite
  refine answersWf_if h ?_
  split
  · exact wf_checked h h
  · exact wf_cqReg h fun _ => wf_if (wf_reject h) h

theorem wf_placedWrite {l : Layout} (h : memoriesWf s) : answersWf (placedWrite s l off w) := by
  unfold placedWrite
  split
  · exact wf_devWrite h
  · exact answersWf_if (wf_queueWrite h) (answersWf_if (wf_cqWrite h) (answersWf_if h (answersWf_if (wf_checked h h) (answersWf_if
      (wf_pageWrite h) (wf_checked h h)))))

@[simp] theorem wf_execRegisterWrite {w : RegWrite} (h : memoriesWf s) : answersWf (execRegisterWrite w s) := by
  unfold execRegisterWrite
  refine answersWf_if h (answersWf_if (wf_checked h h) (answersWf_if (wf_fixedWrite h) ?_))
  split
  · exact wf_placedWrite h
  · exact h

@[simp] theorem wf_execVpWerrClear (h : memoriesWf s) : answersWf (execVpWerrClear w s) :=
  answersWf_if h (wf_checked h (wf_if h h))

/-! ### Resets -/

theorem wf_cutSlotWrite (h : memoriesWf s) : memoriesWf (cutSlotWrite s) := by
  unfold cutSlotWrite
  split
  · exact h
  · dsimp only
    split
    · exact h
    · exact wf_putSlot h

/-- HBM and the plot are empty in cold reset, and nothing sleeps; partner memory stays (R56). -/
theorem wf_coldState (h : memoriesWf s) : memoriesWf (coldState s) := by
  obtain ⟨-, -, pmem, -⟩ := h
  exact ⟨Memory.wf_nil, Memory.wf_nil, pmem, fun _ e => nomatch e⟩

@[simp] theorem wf_execColdRstNFall (h : memoriesWf s) : answersWf (execColdRstNFall s) := wf_coldState (wf_cutSlotWrite h)

@[simp] theorem wf_execColdRstNRise {straps : Straps} (h : memoriesWf s) : answersWf (execColdRstNRise straps s) :=
  answersWf_if h (wf_if h (wf_startCands h))

/-- HBM and the plot sleep as they were (R111). -/
theorem wf_warmState (h : memoriesWf s) : memoriesWf (warmState s) := by
  obtain ⟨hbm, plot, pmem, -⟩ := h
  refine ⟨Memory.wf_nil, Memory.wf_nil, pmem, fun a e => ?_⟩
  obtain ⟨-, e⟩ := Option.ite_none_right_eq_some.1 e
  cases e
  exact ⟨hbm, plot⟩

@[simp] theorem wf_execWarmRstNFall {lowNs : Nat} (h : memoriesWf s) : answersWf (execWarmRstNFall lowNs s) :=
  answersWf_if h (answersWf_if h (wf_warmState (wf_cutSlotWrite h)))

@[simp] theorem wf_execWarmRstNRise (h : memoriesWf s) : answersWf (execWarmRstNRise s) := h

/-- HBM and the plot come back from sleep, and nothing sleeps any more (R111). -/
theorem wf_wakeAll (h : memoriesWf s) (e : s.asleep = some a) : memoriesWf (wakeAll s r a) := by
  obtain ⟨-, -, pmem, asleep⟩ := h
  obtain ⟨hbm, plot⟩ := asleep a e
  have hu {u : State} (hbm' : u.hbm = a.hbm) (plot' : u.plot = a.plot) (pmem' : u.pmem = s.pmem) (none' : u.asleep = none) :
      memoriesWf u := by
    refine ⟨?_, ?_, ?_, ?_⟩ <;> simp_all
  unfold wakeAll
  dsimp only
  split
  · exact hu rfl rfl rfl rfl
  · exact wf_if (hu rfl rfl rfl rfl) (hu rfl rfl rfl rfl)

theorem wf_reloadCbs (h : memoriesWf s) : memoriesWf (reloadCbs s) := wf_foldl (fun _ _ h => wf_if (wf_logEv h) h) h

theorem wf_resumeTeardown (h : memoriesWf s) : memoriesWf (resumeTeardown s r) :=
  wf_if h (wf_teardownStep (wf_teardownStep (wf_teardownStep (wf_teardownStep (wf_teardownStep (wf_teardownStep (wf_teardownStep
    (wf_teardownStep (wf_teardownStep (wf_teardownStep h))))))))))

theorem wf_resumeDestroys (h : memoriesWf s) : memoriesWf (resumeDestroys s) := by
  unfold resumeDestroys
  refine wf_foldl (fun _ _ h => ?_) h
  split
  · exact wf_forceRest (wf_forceStart h)
  · exact h

theorem wf_resumeQp {p : Qp} (h : memoriesWf s) : memoriesWf (resumeQp s n p) :=
  wf_if h (wf_if (wf_qpError (wf_logCorrupt h)) (wf_if (wf_startResync (wf_replayJour h)) (wf_replayJour h)))

theorem wf_resumeQps (h : memoriesWf s) : memoriesWf (resumeQps s) := wf_foldl (fun _ _ h => wf_resumeQp h) h

theorem wf_replayColl {g : Group} (h : memoriesWf s) : memoriesWf (replayColl s n g) := by
  unfold replayColl
  split
  · exact h
  · split
    · exact wf_runnelStep (wf_sendContrib h)
    · exact h

theorem wf_resumeRunnel (h : memoriesWf s) : memoriesWf (resumeRunnel s) := by
  unfold resumeRunnel
  refine wf_foldl (fun _ _ h => ?_) ?_
  · exact wf_replayColl h
  · exact wf_foldl (fun _ _ h => wf_rnRestart h) h

theorem wf_resumed (h : memoriesWf s) (e : s.asleep = some a) : memoriesWf (resumed s r a) :=
  wf_resumeRunnel (wf_resumeQps (wf_resumeDestroys (wf_resumeTeardown (wf_reloadCbs (wf_wakeAll h e)))))

theorem wf_resumeLost (h : memoriesWf s) : memoriesWf (resumeLost s) := by
  unfold resumeLost
  extract_lets u v b d
  have hd : memoriesWf d := wf_discardAll (wf_logEv h)
  obtain ⟨hbm, plot, pmem, -⟩ := hd
  exact wf_startCands ⟨hbm, plot, pmem, fun _ e => nomatch e⟩

@[simp] theorem wf_execWarmResume {stacksOk : Bool} (h : memoriesWf s) : answersWf (execWarmResume stacksOk s) := by
  unfold execWarmResume
  refine answersWf_if h ?_
  split
  · exact answersWf_if (wf_resumed h ‹_›) (wf_resumeLost h)
  · exact wf_resumeLost h

/-! ### Self-tests -/

@[simp] theorem wf_execSelftestStart (h : memoriesWf s) : answersWf (execSelftestStart w s) :=
  answersWf_if h (wf_checked h (wf_if h h))

theorem wf_stFail {target unit : Nat} (h : memoriesWf s) : memoriesWf (stFail s target unit) := by
  unfold stFail
  dsimp only
  split
  · exact wf_openOwnWin (wf_logEv (wf_portDown h))
  · split
    · exact wf_openOwnWin (wf_logEv (wf_portDown h))
    · split
      · split
        · exact wf_of_next (wf_execCoreLost h) ‹_›
        · exact h
      · split
        · refine wf_foldl (fun _ _ h => ?_) h
          split
          · exact wf_logEv h
          · exact h
        · exact h

@[simp] theorem wf_execSelftestDone {failed : Option Nat} (h : memoriesWf s) : answersWf (execSelftestDone failed s) := by
  unfold execSelftestDone
  extract_lets t d u v w x
  have hv : memoriesWf v := wf_if (wf_stFail h) h
  have hw : memoriesWf w := wf_logSev hv
  have hx : memoriesWf x := wf_if (wf_rnRelease hw) (wf_if (wf_rxRelease hw) hw)
  exact answersWf_if h (wf_raise hx)

/-! ### Weir -/

@[simp] theorem wf_execWeirIntervalEnd (h : memoriesWf s) : answersWf (execWeirIntervalEnd n s) := by
  unfold execWeirIntervalEnd
  split
  · exact h
  · split
    · exact h
    · refine answersWf_if h (wf_onBlk h fun _ h => ?_)
      dsimp only
      exact wf_putQp (wf_if h h)

@[simp] theorem wf_execRateIdleReset (h : memoriesWf s) : answersWf (execRateIdleReset n s) := by
  unfold execRateIdleReset
  split
  · exact h
  · exact answersWf_if h (wf_onBlk h fun _ h => h)

@[simp] theorem wf_execWrSnapGo (h : memoriesWf s) : answersWf (execWrSnapGo w s) := answersWf_if h (wf_checked h (wf_if h h))

@[simp] theorem wf_execQdepthMaxRead (h : memoriesWf s) : answersWf (execQdepthMaxRead l s) := answersWf_if h (answersWf_if h h)

@[simp] theorem wf_execMapPeriodEnd (h : memoriesWf s) : answersWf (execMapPeriodEnd s) := by
  unfold execMapPeriodEnd
  refine answersWf_if h (wf_onBlk h fun _ h => wf_if (wf_placeMap h) ?_)
  split
  · exact wf_queueReq h
  · exact h

@[simp] theorem wf_execMapSlotExpiry (h : memoriesWf s) : answersWf (execMapSlotExpiry slot s) := by
  unfold execMapSlotExpiry
  split
  · exact h
  · exact answersWf_if h h

@[simp] theorem wf_execWrQuery (h : memoriesWf s) : answersWf (execWrQuery inst w s) := by
  unfold execWrQuery
  refine answersWf_if h (wf_pageCmd h fun _ h => ?_)
  split
  · exact h
  · split
    · exact h

/-! ### Idle work -/

theorem wf_queueWork (h : memoriesWf s) : memoriesWf (queueWork s) :=
  wf_foldl (fun _ _ h => wf_settle (wf_fenceStep (wf_pushStep h))) h

theorem wf_heldWork (h : memoriesWf s) : memoriesWf (heldWork s) :=
  wf_retryCreates (wf_rnRelease (wf_reapSpans (wf_cvRetry (wf_rxRelease (wf_hdmRetry (wf_queueWork h))))))

theorem wf_idleWork (h : memoriesWf s) : memoriesWf (idleWork s) := wf_heldWork (wf_teardownStep h)

theorem wf_idle (h : memoriesWf s) : memoriesWf (idle s) := wf_if h (wf_idleWork h)

/-! ### Every command, and the step -/

/-- Every command keeps the form: one lemma per command, above. -/
theorem wf_exec (c : Instr) (h : memoriesWf s) : answersWf (exec c s) := by
  cases c <;> simp [h]

theorem wf_step (h : memoriesWf s) : answersWf (step s) := by
  unfold step
  split
  · exact wf_idle h
  · exact wf_exec _ h

end Sys2Proof.Machine

namespace Sys2Proof
open Sys2Proof.Machine

/-- Settles O5: every command's own lemma `wf_exec…` says that it keeps the form, and so does an idle step. Bytes are stored by
`Mem.write`, memories are emptied by the resets and by a JOIN, and a warm reset puts HBM and the plot to sleep as they are. -/
theorem everyStepKeepsTheMemoriesCanonical : Obligations.EveryStepKeepsTheMemoriesCanonical := by
  unfold Obligations.EveryStepKeepsTheMemoriesCanonical
  exact fun s t h e => wf_of_next (wf_step h) e

/-- Settles O4: nothing is listed in a memory of `State.reset`, and nothing sleeps. -/
theorem resetMemoriesStandInCanonicalForm : Obligations.ResetMemoriesStandInCanonicalForm := by
  unfold Obligations.ResetMemoriesStandInCanonicalForm memoriesWf
  exact ⟨Memory.wf_nil, Memory.wf_nil, Memory.wf_nil, fun _ e => nomatch e⟩

end Sys2Proof
end

section
/-!
PROOFS. BASIN_LOAD and BASIN_STORE: served on the own plot, or sent to the owner's BASIN queue pair (spec file 09, R215; R18,
R212, R233; log 75).
-/
namespace Sys2Proof.Machine

/-- The grant handle under which a Basin entry meets the owner: that of its Basin key's record (R215). -/
def basinHandle (s : State) (e : Bytes) : Nat :=
  match Tab.find s.keys (getLE e 28 4 / 256) with
  | some k => k.handle
  | none => 0

/-- The traffic counter of the queue's holder after a Basin entry (R391). -/
def basinMoved (x : Wq) (r : Infl) (store : Bool) (v : State) : State := instStat v x.inst (if store then 5 else 4) (entLen r.ent)

/-- A Basin entry served on the own plot is complete. -/
def basinServed (q i : Nat) (x : Wq) (r : Infl) (store : Bool) (v : State) : State :=
  basinMoved x r store (finish v q i { status := Status.ok, cflags := 0, detail := 0, bytes := entLen r.ent, aux := 0 })

/-- A Basin entry's request joins the BASIN queue pair `n` of the plot's owner. -/
def basinQueued (q i : Nat) (x : Wq) (r : Infl) (store : Bool) (n h : Nat) (buf : Buf) (v : State) : State :=
  basinMoved x r store (queueReq (dispatched v q i) n (if store then 1 else 3) (entLen r.ent) (getLE r.ent 32 8) h 0 false 0 0 []
    buf (.entry q i))

/-- A Basin entry's request at the end of its queue pair's list. -/
def basinReq (p : Qp) (q i : Nat) (r : Infl) (store : Bool) (h : Nat) (buf : Buf) : SReq :=
  { op := if store then 1 else 3, first := p.sndEnd, count := psnCount (qSeg p) (entLen r.ent), len := entLen r.ent,
    raddr := getLE r.ent 32 8, rkey := h, imm := 0, solicit := false, operand := 0, swap := 0, mark := [], buf := buf,
    who := .entry q i, got := [], sent := 0, result := none }

/-- A Basin entry that may be dispatched, is not held (R18) and is admitted, now or before, in `u` (R212). -/
structure BasinReady (s : State) (q i : Nat) (store : Bool) (x : Wq) (r : Infl) (u : State) : Prop where
  may : mayDispatch s q i (if store then 0x11 else 0x10) = some (x, r)
  free : basinHeld s (getLE r.ent 32 8) = false
  admitted : basinAdmit s q i x r store = (u, none)

/-- The owner's BASIN queue pair for the plot of an entry that lies elsewhere. -/
structure BasinAway (u : State) (a n : Nat) (p : Qp) : Prop where
  elsewhere : plotSlot u a ≠ u.basin.slot
  owner : basinQp u (plotSlot u a) = some n
  qp : qpOf u n = some p

section
variable {s u v w : State} {q i n h : Nat} {x : Wq} {r : Infl} {p : Qp} {b c : Bytes} {st : Byte} {ks : List Nat} {store : Bool}

/-! ### Admission (R16, R212, R215) -/

theorem basinOpds_keys (plain : entInline r.ent = false) (store : Bool) :
    (basinOpds r.ent store).map (·.key) = [entKey r.ent] := by
  simp [basinOpds, plain]

/-- An admitted Basin entry stands under its Basin key and its local key. -/
theorem basinAdmit_ok (found : inflOf s q i = some r) (admitted : basinAdmit s q i x r store = (u, none)) :
    Stands u q i r (keysIn r (getLE r.ent 28 4 :: (basinOpds r.ent store).map (·.key))) := by
  unfold basinAdmit at admitted
  dsimp only at admitted
  split at admitted <;> rename_i before
  · cases admitted
    rw [keysIn, if_pos before]
    exact stands_of_found found
  · rw [keysIn, if_neg before]
    split at admitted
    · cases admitted
    · split at admitted
      · cases admitted
      · rename_i locals
        split at admitted
        · cases admitted
        · rename_i key
          cases admitted
          exact noteAdmit_stands (by rwa [(admitKey_ok key).1, admitOpds_ok locals]) ..

/-- A refused Basin entry stands as it was, and a range off the map refuses it before any key is looked at (R16). -/
theorem basinAdmit_refused (found : inflOf s q i = some r) (refused : basinAdmit s q i x r store = (u, some st)) :
    Stands u q i r r.keys ∧ (mapFail s (getLE r.ent 32 8) (entLen r.ent) = some st → u = s) := by
  have standing := stands_of_found found
  unfold basinAdmit at refused
  dsimp only at refused
  split at refused
  · cases refused
  · split at refused
    · cases refused
      exact ⟨standing, fun _ => rfl⟩
    · rename_i onMap
      refine ⟨?_, fun off => absurd (onMap.symm.trans off) nofun⟩
      have locals := admitOpds_infl s x.inst (basinOpds r.ent store)
      split at refused <;> rename_i opds <;> rw [opds] at locals
      · cases refused
        exact standing.of_infl locals
      · have key := admitKey_infl ‹State› x.inst (getLE r.ent 28 4) (if store then rWrite else rRead) (getLE r.ent 32 8)
          (entLen r.ent) true false
        split at refused <;> rename_i admitted <;> rw [admitted] at key
        · cases refused
          exact standing.of_infl (key.trans locals)
        · cases refused

/-! ### The dispatch (R18, R215, R233) -/

theorem basinDispatch_held (may : mayDispatch s q i (if store then 0x11 else 0x10) = some (x, r))
    (held : basinHeld s (getLE r.ent 32 8) = true) : basinDispatch q i store s = .next s := by
  simp only [basinDispatch, may, held, if_true]

theorem basinDispatch_refused (may : mayDispatch s q i (if store then 0x11 else 0x10) = some (x, r))
    (free : basinHeld s (getLE r.ent 32 8) = false) (refused : basinAdmit s q i x r store = (u, some st)) :
    basinDispatch q i store s = .next (finishSt u q i st) := by
  simp only [basinDispatch, may, free, refused, Bool.false_eq_true, if_false]

theorem BasinReady.own (ready : BasinReady s q i store x r u) (own : plotSlot u (getLE r.ent 32 8) = u.basin.slot) :
    basinDispatch q i store s =
      basinOwn q i store u x r.ent (getLE r.ent 32 8) (basinHandle u r.ent) (basinServed q i x r store) := by
  obtain ⟨may, free, admitted⟩ := ready
  simp only [basinDispatch, may, free, admitted, own, Bool.false_eq_true, if_false, if_true]
  rfl

theorem BasinReady.away_error (ready : BasinReady s q i store x r u) (away : BasinAway u (getLE r.ent 32 8) n p)
    (error : p.st = .error) : basinDispatch q i store s = .next (finishSt u q i Status.flushed) := by
  obtain ⟨may, free, admitted⟩ := ready
  obtain ⟨elsewhere, owner, qp⟩ := away
  simp only [basinDispatch, may, free, admitted, elsewhere, owner, qp, error, Option.bind_some, Option.map_some,
    Bool.false_eq_true, if_false, if_true]

theorem BasinReady.load_away (ready : BasinReady s q i false x r u) (away : BasinAway u (getLE r.ent 32 8) n p)
    (connected : p.st = .connected) :
    basinDispatch q i false s =
      .next (basinQueued q i x r false n (basinHandle u r.ent) (.mem x.inst (entAddr r.ent)) u) := by
  obtain ⟨may, free, admitted⟩ := ready
  obtain ⟨elsewhere, owner, qp⟩ := away
  simp only [Bool.false_eq_true, if_false] at may
  simp only [basinDispatch, may, free, admitted, elsewhere, owner, qp, connected, Option.bind_some, Option.map_some,
    Bool.false_eq_true, Bool.not_false, reduceCtorEq, ne_eq, not_true_eq_false, if_false, if_true]
  rfl

theorem BasinReady.store_away (ready : BasinReady s q i true x r u) (away : BasinAway u (getLE r.ent 32 8) n p)
    (connected : p.st = .connected) (data : storeData u q i x.inst r.ent = .ok w b) :
    basinDispatch q i true s = .next (basinQueued q i x r true n (basinHandle u r.ent) (.bytes b) w) := by
  obtain ⟨may, free, admitted⟩ := ready
  obtain ⟨elsewhere, owner, qp⟩ := away
  simp only [if_true] at may
  simp only [basinDispatch, may, free, admitted, elsewhere, owner, qp, connected, data, Option.bind_some, Option.map_some,
    Bool.false_eq_true, Bool.not_true, reduceCtorEq, ne_eq, not_true_eq_false, if_false, if_true]
  rfl

/-- A refused entry ends with the status of its refusal. -/
theorem Answers.basinRefused {cmd : Instr} (meaning : exec cmd s = basinDispatch q i store s)
    (may : mayDispatch s q i (if store then 0x11 else 0x10) = some (x, r)) (free : basinHeld s (getLE r.ent 32 8) = false)
    (refused : basinAdmit s q i x r store = (u, some st)) :
    Answers cmd s fun t => DoneBad t q i st ∧ t = { u with infl := t.infl } ∧
      (mapFail s (getLE r.ent 32 8) (entLen r.ent) = some st → t = { s with infl := t.infl }) := by
  obtain ⟨-, found, unfinished, -, -⟩ := mayDispatch_some may
  obtain ⟨stands, offMap⟩ := basinAdmit_refused found refused
  refine .of _ (meaning.trans (basinDispatch_refused may free refused))
    ⟨stands.doneBad unfinished _, finishSt_frame .., fun off => ?_⟩
  rw [offMap off]
  exact finishSt_frame ..

/-! ### On the own plot (R215) -/

theorem basinOwn_load {ok : State → State} {a : Nat} (mine : homeFail u x.inst a (entLen r.ent) h = none)
    (ready : lineWait u (basinLoc u .basin a) (entLen r.ent) false = none)
    (copied : writeMemAt (admOf u q i) u x.inst (entAddr r.ent) (getLoc u (basinLoc u .basin a) (entLen r.ent)) = .ok w c) :
    basinOwn q i false u x r.ent a h ok = .next (ok w) := by
  simp only [basinOwn, mine, ready, copied, Bool.false_eq_true, if_false]

theorem basinOwn_store {ok : State → State} {a : Nat} (mine : homeFail u x.inst a (entLen r.ent) h = none)
    (data : storeData u q i x.inst r.ent = .ok v b) (stored : basinPiece v x.inst a (entLen r.ent) h true b = .ok w c) :
    basinOwn q i true u x r.ent a h ok = .next (ok w) := by
  simp only [basinOwn, mine, data, stored, if_true]

theorem storeData_ok (data : storeData u q i n r.ent = .ok v b) : ReadFrame u v := by
  unfold storeData at data
  split at data
  · cases data
    exact .refl u
  · exact readMemAt_ok data

theorem basinPiece_ok {inst a len : Nat} {write : Bool} (stored : basinPiece v inst a len h write b = .ok w c) :
    WriteFrame v w := by
  have frame := basinPiece_frame v inst a len h write b
  rwa [stored] at frame

/-- An entry whose bytes are copied ends OK with their number. -/
theorem basinServed_done (stands : Stands v q i r ks) (unfinished : r.done = none) (store : Bool) :
    DoneOk (basinServed q i x r store v) q i (entLen r.ent) ∧
    basinServed q i x r store v =
      { v with infl := (basinServed q i x r store v).infl, insts := (basinServed q i x r store v).insts } := by
  refine ⟨stands.doneOk unfinished _, ?_⟩
  rw [basinServed, basinMoved, finish_frame]
  rfl

/-! ### At another owner (R215, R234) -/

/-- An admitted entry that goes to the plot's owner is underway under its keys; its request takes the queue pair's next PSNs. -/
theorem basinQueued_joins (stands : Stands v q i r ks) (unfinished : r.done = none) (qp : qpOf v n = some p) (store : Bool)
    (h : Nat) (buf : Buf) :
    Underway (basinQueued q i x r store n h buf v) q i ks ∧
    qpOf (basinQueued q i x r store n h buf v) n =
      some { p with
        reqs := p.reqs ++ [basinReq p q i r store h buf], sndEnd := psn p.sndEnd (psnCount (qSeg p) (entLen r.ent)) } ∧
    basinQueued q i x r store n h buf v = { v with
      infl := (basinQueued q i x r store n h buf v).infl, qps := (basinQueued q i x r store n h buf v).qps,
      links := (basinQueued q i x r store n h buf v).links, out := (basinQueued q i x r store n h buf v).out,
      insts := (basinQueued q i x r store n h buf v).insts } := by
  have joined : qpOf (basinQueued q i x r store n h buf v) n = _ := queueReq_qp (s := dispatched v q i) qp
  obtain ⟨qps, links, out, frame⟩ := queueReq_frame (dispatched v q i) n (if store then 1 else 3) (entLen r.ent)
    (getLE r.ent 32 8) h 0 false 0 0 [] buf (.entry q i)
  refine ⟨?_, ?_, ?_⟩
  · exact (stands.underway unfinished).of_infl (by rw [basinQueued, frame]; rfl)
  · rw [joined, basinReq]
    cases store <;> rfl
  · rw [basinQueued, frame]
    rfl
end

end Sys2Proof.Machine

namespace Sys2Proof
open Sys2Proof.Machine

/-- Settles O28, one case per clause. A Basin entry is held, refused, served on the own plot (`BasinReady.own`) or sent to the
owner (`BasinReady.load_away`, `BasinReady.store_away`). -/
theorem basinEntriesGoToThePlotOwner : Obligations.BasinEntriesGoToThePlotOwner := by
  unfold Obligations.BasinEntriesGoToThePlotOwner
  refine ⟨?ownLoad, ?awayLoad, ?awayStore, ?ownStore, ?loadRefused, ?storeRefused, ?flushed, ?loadHeld, ?storeHeld⟩
  case ownLoad =>
    rintro s q i x r u _ _ w c may rfl free admitted rfl own mine ready copied
    obtain ⟨-, found, unfinished, -, -⟩ := mayDispatch_some may
    have entry : BasinReady s q i false x r u := ⟨may, free, admitted⟩
    refine .of (basinServed q i x r false w) ?_ (basinServed_done ((basinAdmit_ok found admitted).of_infl ?_) unfinished _)
    · exact (entry.own own).trans (basinOwn_load mine ready copied)
    · rw [writeMemAt_ok copied]
  case awayLoad =>
    rintro s q i x r u _ _ p n may rfl free plain admitted rfl elsewhere owner qp connected
    obtain ⟨-, found, unfinished, -, -⟩ := mayDispatch_some may
    have entry : BasinReady s q i false x r u := ⟨may, free, admitted⟩
    have stands := basinAdmit_ok found admitted
    rw [basinOpds_keys plain] at stands
    obtain ⟨underway, joined, frame⟩ := basinQueued_joins stands unfinished qp false (basinHandle u r.ent)
      (.mem x.inst (entAddr r.ent))
    exact .of _ (entry.load_away ⟨elsewhere, owner, qp⟩ connected) ⟨underway, ⟨_, joined, rfl, rfl, rfl, rfl, rfl, rfl⟩, frame⟩
  case awayStore =>
    rintro s q i x r u _ _ w b p n may rfl free plain admitted rfl elsewhere owner data qp connected
    obtain ⟨-, found, unfinished, -, -⟩ := mayDispatch_some may
    have entry : BasinReady s q i true x r u := ⟨may, free, admitted⟩
    have kept := storeData_ok data
    have stands := basinAdmit_ok found admitted
    rw [basinOpds_keys plain] at stands
    have standing : Stands w q i r _ := stands.of_infl (by rw [kept])
    have found : qpOf w n = some p := by rwa [kept]
    obtain ⟨underway, joined, frame⟩ := basinQueued_joins standing unfinished found true (basinHandle u r.ent) (.bytes b)
    exact .of _ (entry.store_away ⟨elsewhere, owner, qp⟩ connected data)
      ⟨underway, ⟨_, joined, rfl, rfl, rfl, rfl, rfl, rfl⟩, frame⟩
  case ownStore =>
    rintro s q i x r u _ _ v b w c may rfl free admitted rfl own mine data stored
    obtain ⟨-, found, unfinished, -, -⟩ := mayDispatch_some may
    have entry : BasinReady s q i true x r u := ⟨may, free, admitted⟩
    refine .of (basinServed q i x r true w) ?_ (basinServed_done ((basinAdmit_ok found admitted).of_infl ?_) unfinished _)
    · exact (entry.own own).trans (basinOwn_store mine data stored)
    · rw [basinPiece_ok stored, storeData_ok data]
  case loadRefused =>
    intro s q i x r u st may free refused
    exact .basinRefused (store := false) rfl may free refused
  case storeRefused =>
    intro s q i x r u st may free refused
    exact .basinRefused (store := true) rfl may free refused
  case flushed =>
    rintro s q i x r u _ n p may rfl free admitted elsewhere owner qp error
    obtain ⟨-, found, unfinished, -, -⟩ := mayDispatch_some may
    have entry : BasinReady s q i false x r u := ⟨may, free, admitted⟩
    exact .of _ (entry.away_error ⟨elsewhere, owner, qp⟩ error)
      ⟨(basinAdmit_ok found admitted).doneBad unfinished _, finishSt_frame ..⟩
  case loadHeld =>
    intro s q i x r may held
    exact .of s (basinDispatch_held (store := false) may held) rfl
  case storeHeld =>
    intro s q i x r may held
    exact .of s (basinDispatch_held (store := true) may held) rfl

end Sys2Proof
end

section
/-!
PROOFS. The page registers, and what a command register's write leaves in them (spec file 05, R124, R127).
-/
namespace Sys2Proof.Machine

section
variable {s : State} {i o p stat off code v : Nat} {busy : Bool} {st : Byte} {w : RegWr} {rsv : Word}

/-! ### A register read after a write -/

theorem pageKey_ne (i : Nat) (h : p ≠ o) : pageKey i p ≠ pageKey i o := by
  unfold pageKey
  omega

theorem getPage_putPage_ne (h : p ≠ o) : getPage (putPage s i o v) i p = getPage s i p := by
  simp only [getPage, putPage, Tab.getD, Tab.find_put_ne _ _ _ _ (pageKey_ne i h)]

theorem fld_30_lt (n : Nat) : fld n 30 30 < 2 := Nat.mod_lt _ (by decide)

theorem bit_lt (b : Bool) : bit b < 2 := by cases b <;> decide

/-! ### BUSY and STATUS (R127) -/

theorem getPage_putStat (s : State) (i o : Nat) (busy : Bool) (st : Byte) :
    getPage (putStat s i o busy st) i o = bit busy * 2 ^ 31 + fld (getPage s i o) 30 30 * 2 ^ 30 + st.toNat * 256 := by
  rw [putStat, getPage_putPage_self, Nat.mod_eq_of_lt]
  have := bit_lt busy
  have := fld_30_lt (getPage s i o)
  have := st.isLt
  omega

theorem status_putStat (s : State) (i o : Nat) (busy : Bool) (st : Byte) :
    fld (getPage (putStat s i o busy st) i o) 15 8 = st.toNat := by
  rw [getPage_putStat, fld]
  have := st.isLt
  omega

theorem pageBusy_putStat (s : State) (i o : Nat) (busy : Bool) (st : Byte) : pageBusy (putStat s i o busy st) i o = busy := by
  have keep := fld_30_lt (getPage s i o)
  have := st.isLt
  rw [pageBusy, getPage_putStat, bitN]
  have high : (bit busy * 2 ^ 31 + fld (getPage s i o) 30 30 * 2 ^ 30 + st.toNat * 256) / 2 ^ 31 = bit busy := by omega
  rw [high]
  cases busy <;> rfl

theorem cmdTaken_spans (s : State) (i stat : Nat) : (cmdTaken s i stat).spans = s.spans := rfl

theorem getPage_cmdTaken (h : p ≠ stat) : getPage (cmdTaken s i stat) i p = getPage s i p := getPage_putPage_ne h

/-! ### A command register's write (R127, R380) -/

theorem rejectCmd_frame (s : State) (i off stat : Nat) (w : RegWr) (st : Byte) :
    rejectCmd s i off stat w st = { s with
      pages := (rejectCmd s i off stat w st).pages, vp := (rejectCmd s i off stat w st).vp,
      intr := (rejectCmd s i off stat w st).intr, out := (rejectCmd s i off stat w st).out } := by
  unfold rejectCmd
  rw [reject_frame]
  rfl

theorem rejectCmd_status (s : State) (i off stat : Nat) (w : RegWr) (st : Byte) :
    fld (getPage (rejectCmd s i off stat w st) i stat) 15 8 = st.toNat := status_putStat ..

variable {cs : List (Bool × Byte)} {eff : State → State} {cmd : Instr}

theorem firstFail_pass {ok : Bool} {r : List (Bool × Byte)} (h : ok = true) : firstFail ((ok, st) :: r) = firstFail r := by
  rw [h, firstFail_true]

theorem cmdOpen_noRsv (cmdOpen : CmdOpenAt rsv s i stat code w) : noRsv w rsv = true := by
  obtain ⟨-, -, -, -, -, -, clear, -⟩ := cmdOpen
  exact clear

/-- A command whose write passes its checks has its effect. -/
theorem exec_cmd_ok (cmdOpen : CmdOpenAt rsv s i stat code w)
    (meaning : exec cmd s = onCmd w code s (pageCmd s i off stat w cs eff)) (pass : firstFail cs = none) :
    exec cmd s = .next (eff (cmdTaken s i stat)) := by
  rw [meaning, isCmd cmdOpen, pageCmd_ok cmdOpen pass]

/-- A command whose write fails a check is rejected with that check's status, and changes nothing its checks read. -/
theorem exec_cmd_fail (cmdOpen : CmdOpenAt rsv s i stat code w)
    (meaning : exec cmd s = onCmd w code s (pageCmd s i off stat w cs eff)) (fail : firstFail cs = some st) :
    ∃ t, exec cmd s = .next t ∧ fld (getPage t i stat) 15 8 = st.toNat ∧
      t = { s with pages := t.pages, vp := t.vp, intr := t.intr, out := t.out } :=
  ⟨_, by rw [meaning, isCmd cmdOpen, pageCmd_fail cmdOpen fail], rejectCmd_status .., rejectCmd_frame ..⟩
end

/-! ### Tables -/

/-- Listing a key twice leaves the second value, in any table. -/
theorem Tab.put_put {α : Type} (t : Tab α) (n : Nat) (x y : α) : Tab.put (Tab.put t n x) n y = Tab.put t n y := by
  induction t with
  | nil => simp [Tab.put]
  | cons z t ih =>
    obtain ⟨k, v⟩ := z
    by_cases below : n < k
    · simp [Tab.put, below]
    · by_cases same : n = k
      · simp [Tab.put, same]
      · simp [Tab.put, below, same, ih]

theorem Tab.modify_of_find {α : Type} {t : Tab α} {n : Nat} {x : α} (found : Tab.find t n = Option.some x) (f : α → α) :
    Tab.modify t n f = Tab.put t n (f x) := by
  rw [Tab.modify, found]

end Sys2Proof.Machine
end

section
/-!
PROOFS. Span commands (spec file 09, R201, R207, R218, R224; R202; logs 18, 22, 104 and 107).
-/
namespace Sys2Proof.Machine

/-- The record of a span that a CREATE lists (R224). -/
def newSpan (s : State) (i : Nat) (k : SKind) : Span :=
  { inst := i, kind := k, start := page64 s i 0x084, len := page64 s i 0x08C, target := page64 s i 0x094,
    migr := bitN (getPage s i 0x09C) 3, migOff := (spMig s i).getD 0, resHbm := false, readMostly := false, prefer := 0,
    moving := none, movingAt := 0, destroying := none,
    handle := if k = .plot then getPage s i 0x080
      else if k = .basin then (allocsOver s i (page64 s i 0x094) (page64 s i 0x08C)).getD 0 else 0,
    bad1 := false, bad2 := false }

/-- The HBM copy of a migratable span is reserved at its CREATE (R207, R377). -/
def spanReserved (s : State) (i : Nat) (u : State) : State :=
  if bitN (getPage s i 0x09C) 3 then reserve u i ((spMig s i).getD 0) (page64 s i 0x08C) else u

/-- The state in which a CREATE has listed span `n`. -/
def spanCreated (s : State) (i n : Nat) (k : SKind) : State :=
  let u := spanReserved s i (cmdTaken s i 0x0A8)
  putPage { u with spans := Tab.put u.spans n (newSpan s i k), own.span := takeBlock u.own.span n i } i 0x080 n

/-- The span's record once both its copies are whole again (R202). -/
abbrev mended (sp : Span) : Span := { sp with bad1 := false, bad2 := false }

/-- A span out of the range tree, its holder's page BUSY until no access uses it (R218). -/
def spanLeaves (u : State) (k : Nat) (sp : Span) : State :=
  putStat { u with spans := Tab.put u.spans k { sp with destroying := some u.pieceClock }, pieceClock := u.pieceClock + 1 }
    sp.inst 0x0A8 true Status.ok

section
variable {s u : State} {i k n : Nat} {w : RegWr} {sp : Span} {kind : SKind}

/-! ### CREATE (R201, R224) -/

theorem spanReserved_frame (s : State) (i : Nat) (u : State) :
    spanReserved s i u = { u with insts := (spanReserved s i u).insts } := by
  unfold spanReserved
  split <;> rfl

theorem exec_spCreate_ok (cmdOpen : CmdOpen s i 0x0A8 1 w) (pass : firstFail (spChecks s i w) = none)
    (code : skindOf (fld (getPage s i 0x09C) 2 0) = some kind) (next : nextSpan s i = some n) :
    exec (.spCreate i w) s = .next (spanCreated s i n kind) := by
  rw [exec_cmd_ok cmdOpen rfl pass]
  simp only [code, next, Option.getD_some, Option.some.injEq]
  rfl

/-- The checks of R224 pass for a resident HBM span whose ranges are free. -/
theorem spChecks_hbm (cmdOpen : CmdOpen s i 0x0A8 1 w) (code : fld (getPage s i 0x09C) 2 0 = 3)
    (resident : bitN (getPage s i 0x09C) 3 = false) (offered : instHas s i 2 = true) (start : page64 s i 0x084 % 4096 = 0)
    (len : page64 s i 0x08C % 4096 = 0) (target : page64 s i 0x094 % 4096 = 0) (least : 4096 ≤ page64 s i 0x08C)
    (most : page64 s i 0x08C ≤ 2 ^ 48) (room : page64 s i 0x084 + page64 s i 0x08C ≤ 2 ^ 57)
    (hbm : page64 s i 0x094 + page64 s i 0x08C ≤ hbmSize s i)
    (unreserved : ∃ x, Tab.find s.insts i = some x ∧
      ∀ u ∈ x.resv, disjointR (page64 s i 0x094) (page64 s i 0x08C) u.1 u.2 = true)
    (apart : ∀ p ∈ s.spans, p.2.inst = i → p.2.kind ≠ .plot →
      disjointR p.2.start p.2.len (page64 s i 0x084) (page64 s i 0x08C) = true)
    (next : (nextSpan s i).isSome = true) : firstFail (spChecks s i w) = none := by
  obtain ⟨x, inst, disjoint⟩ := unreserved
  have kind : skindOf (fld (getPage s i 0x09C) 2 0) = some .hbm := by rw [code]; rfl
  have unreserved : x.resv.all (fun u => disjointR (page64 s i 0x094) (page64 s i 0x08C) u.1 u.2) = true :=
    List.all_eq_true.2 disjoint
  have free : s.spans.all (fun p => p.2.inst ≠ i || p.2.destroying.isSome || (p.2.kind = .plot) ≠ (some SKind.hbm = some .plot)
      || disjointR p.2.start p.2.len (page64 s i 0x084) (page64 s i 0x08C)) = true := by
    refine List.all_eq_true.2 fun p mem => ?_
    by_cases mine : p.2.inst = i
    · by_cases plot : p.2.kind = .plot
      · simp [plot]
      · simp [apart p mem mine plot]
    · simp [mine]
  simp only [Nat.reducePow] at most room
  refine (firstFail_pass (cmdOpen_noRsv cmdOpen)).trans ?_
  simp only [kind, inst, free, unreserved, resident, spMig]
  simp [offered, start, len, target, least, most, room, hbm, next]

theorem spChecks_noKind (cmdOpen : CmdOpen s i 0x0A8 1 w) (code : skindOf (fld (getPage s i 0x09C) 2 0) = none)
    (resident : bitN (getPage s i 0x09C) 3 = false) : firstFail (spChecks s i w) = some Status.badField := by
  refine (firstFail_pass (cmdOpen_noRsv cmdOpen)).trans ?_
  simp [code, resident]

theorem spanCreated_spans (s : State) (i n : Nat) (kind : SKind) :
    (spanCreated s i n kind).spans = Tab.put s.spans n (newSpan s i kind) := by
  unfold spanCreated
  rw [spanReserved_frame]
  rfl

theorem spanCreated_frame (s : State) (i n : Nat) (kind : SKind) :
    spanCreated s i n kind = { s with
      spans := (spanCreated s i n kind).spans, pages := (spanCreated s i n kind).pages, insts := (spanCreated s i n kind).insts,
      own := { s.own with span := (spanCreated s i n kind).own.span } } := by
  unfold spanCreated
  rw [spanReserved_frame]
  rfl

/-! ### Records with a failing copy (R202) -/

theorem spanCmd_kept {eff : State → State} (kept : spanLost u k = false) : spanCmd u i k eff = eff (spanRepair u k) := by
  simp [spanCmd, kept]

theorem spanCmd_lost {eff : State → State} (lost : spanLost u k = true) :
    spanCmd u i k eff = putStat (logCorrupt u 0x07 1 k) i 0x0A8 false Status.descriptorCrc := by
  simp [spanCmd, lost]

theorem spanRepair_keeps (u : State) (k : Nat) : spanRepair u k = { u with spans := (spanRepair u k).spans } := by
  unfold spanRepair
  split
  · split <;> rfl
  · rfl

theorem spans_spanRepair {v : State} (same : u.spans = v.spans) (k : Nat) : (spanRepair u k).spans = (spanRepair v k).spans := by
  unfold spanRepair
  rw [same]
  split
  · split
    · rfl
    · exact same
  · exact same

theorem find_spanRepair (found : Tab.find u.spans k = some sp) : Tab.find (spanRepair u k).spans k = some (mended sp) := by
  unfold spanRepair
  rw [found]
  dsimp only
  split
  · exact Tab.find_put_self ..
  · rename_i whole
    obtain ⟨bad1, bad2⟩ : sp.bad1 = false ∧ sp.bad2 = false := by simpa using whole
    rw [found]
    cases sp
    simp_all

/-- A record rewritten anyway needs no repair. -/
theorem put_spanRepair (u : State) (k : Nat) (x : Span) : Tab.put (spanRepair u k).spans k x = Tab.put u.spans k x := by
  unfold spanRepair
  split
  · split
    · exact Tab.put_put ..
    · rfl
  · rfl

/-! ### DESTROY (R218) -/

theorem destroySpan_eq (found : Tab.find u.spans k = some sp) :
    destroySpan u k = if spanUsed u k u.pieceClock then spanLeaves u k sp
      else putStat (killSpan (spanLeaves u k sp) k) sp.inst 0x0A8 false Status.ok := by
  have leaving : Tab.find (spanLeaves u k sp).spans k = some { sp with destroying := some u.pieceClock } := Tab.find_put_self ..
  simp only [destroySpan, found]
  change reapSpan (spanLeaves u k sp) k = _
  simp only [reapSpan, leaving]
  rfl

theorem spanLeaves_frame (u : State) (k : Nat) (sp : Span) :
    spanLeaves u k sp = { u with
      spans := Tab.put u.spans k { sp with destroying := some u.pieceClock }, pages := (spanLeaves u k sp).pages,
      pieceClock := (spanLeaves u k sp).pieceClock } := rfl

theorem spanLeaves_busy (u : State) (k : Nat) (sp : Span) : pageBusy (spanLeaves u k sp) sp.inst 0x0A8 = true :=
  pageBusy_putStat ..

theorem killSpan_frame (found : Tab.find u.spans k = some sp) :
    killSpan u k = { u with
      spans := Tab.del u.spans k, pieces := u.pieces.filter (fun p => p.span ≠ k), insts := (killSpan u k).insts,
      own := { u.own with span := (killSpan u k).own.span } } := by
  simp only [killSpan, found]
  split <;> rfl

/-- The accepted DESTROY of a span whose record is not lost. -/
structure SpanDestroyed (s : State) (i : Nat) (w : RegWr) (k : Nat) (sp : Span) : Prop where
  cmdOpen : CmdOpenAt 0xFFFFFEF0 s i 0x0A8 2 w
  named : k = fld (getPage s i 0x080) 19 0
  below : k < spanMax s
  found : Tab.find s.spans k = some sp
  mine : sp.inst = i
  permitted : sp.kind ≠ .plot ∨ w.src = .tender
  still : sp.moving = none
  dropped : sp.resHbm = false ∨ bitN w.data.toNat 8 = true
  kept : spanLost s k = false

/-- A span whose bytes stand in HBM is BUSY to a DESTROY without DISCARD (R218). -/
theorem exec_spDestroy_fail (cmdOpen : CmdOpenAt 0xFFFFFEF0 s i 0x0A8 2 w) (named : k = fld (getPage s i 0x080) 19 0)
    (below : k < spanMax s) (found : Tab.find s.spans k = some sp) (mine : sp.inst = i)
    (permitted : sp.kind ≠ .plot ∨ w.src = .tender)
    (resident : sp.resHbm = true) (undiscarded : bitN w.data.toNat 8 = false) :
    ∃ t, exec (.spDestroy i w) s = .next t ∧ fld (getPage t i 0x0A8) 15 8 = Status.busy.toNat ∧
      t = { s with pages := t.pages, vp := t.vp, intr := t.intr, out := t.out } := by
  subst named
  have permitted : (!decide (sp.kind = .plot) || decide (w.src = .tender)) = true := by simpa using permitted
  refine exec_cmd_fail cmdOpen rfl ((firstFail_pass (cmdOpen_noRsv cmdOpen)).trans ?_)
  simp [below, spanOwned, found, mine, permitted, resident, undiscarded]

theorem SpanDestroyed.answers (h : SpanDestroyed s i w k sp) :
    exec (.spDestroy i w) s = .next (destroySpan (spanRepair (cmdTaken s i 0x0A8) k) k) := by
  obtain ⟨cmdOpen, named, below, found, mine, permitted, still, dropped, kept⟩ := h
  subst named
  have permitted : (!decide (sp.kind = .plot) || decide (w.src = .tender)) = true := by simpa using permitted
  have dropped : (!sp.resHbm || bitN w.data.toNat 8) = true := by simpa using dropped
  have pass := exec_cmd_ok (cmd := .spDestroy i w) cmdOpen rfl ((firstFail_pass (cmdOpen_noRsv cmdOpen)).trans
    (by simp [below, spanOwned, found, mine, permitted, still, dropped]))
  exact pass.trans (congrArg Host.Outcome.next (spanCmd_kept (u := cmdTaken s i 0x0A8) kept))

/-- A span that no access uses goes at once, with its pieces. -/
theorem SpanDestroyed.free (h : SpanDestroyed s i w k sp) (free : spanUsed s k s.pieceClock = false) :
    ∃ t, exec (.spDestroy i w) s = .next t ∧
      t.spans = Tab.del (Tab.put s.spans k { mended sp with destroying := some s.pieceClock }) k ∧
      t.pieces = s.pieces.filter (fun p => p.span ≠ k) ∧
      t = { s with spans := t.spans, pieces := t.pieces, pages := t.pages, insts := t.insts, pieceClock := t.pieceClock,
                   own := { s.own with span := t.own.span } } := by
  have repaired : Tab.find (spanRepair (cmdTaken s i 0x0A8) k).spans k = some (mended sp) := find_spanRepair h.found
  have unused : spanUsed (spanRepair (cmdTaken s i 0x0A8) k) k (spanRepair (cmdTaken s i 0x0A8) k).pieceClock = false := by
    rw [spanRepair_keeps]
    exact free
  refine ⟨_, h.answers, ?_⟩
  rw [destroySpan_eq repaired, if_neg (by simp [unused]), killSpan_frame (Tab.find_put_self ..), spanLeaves_frame, put_spanRepair,
    spanRepair_keeps]
  exact ⟨rfl, rfl, rfl⟩

/-- A span in use leaves the range tree, and its holder's page is BUSY. -/
theorem SpanDestroyed.used (h : SpanDestroyed s i w k sp) (used : spanUsed s k s.pieceClock = true) :
    ∃ t, exec (.spDestroy i w) s = .next t ∧ pageBusy t i 0x0A8 = true ∧
      t.spans = Tab.put s.spans k { mended sp with destroying := some s.pieceClock } ∧
      t = { s with spans := t.spans, pages := t.pages, insts := t.insts, pieceClock := t.pieceClock } := by
  have repaired : Tab.find (spanRepair (cmdTaken s i 0x0A8) k).spans k = some (mended sp) := find_spanRepair h.found
  have stillUsed : spanUsed (spanRepair (cmdTaken s i 0x0A8) k) k (spanRepair (cmdTaken s i 0x0A8) k).pieceClock = true := by
    rw [spanRepair_keeps]
    exact used
  refine ⟨_, h.answers, ?_⟩
  rw [destroySpan_eq repaired, if_pos stillUsed]
  refine ⟨?_, ?_, ?_⟩
  · rw [← h.mine]
    exact spanLeaves_busy _ k (mended sp)
  · rw [spanLeaves_frame, put_spanRepair, spanRepair_keeps]
    rfl
  · rw [spanLeaves_frame, spanRepair_keeps]
    rfl

/-! ### QUERY (R224) -/

/-- SP_ATTR and SP_QSTATE after the QUERY of a listed span. -/
def spanShown (u : State) (i : Nat) (sp : Span) : State :=
  putPage (putPage u i 0x09C (fld (getPage u i 0x09C) 3 0 + 16 * bit sp.resHbm + 32 * bit sp.readMostly + 64 * sp.prefer)) i 0x0A0
    (spanState sp)

theorem exec_spQuery_ok (cmdOpen : CmdOpen s i 0x0A8 3 w) (named : k = fld (getPage s i 0x080) 19 0) (below : k < spanMax s)
    (mine : spanOwned s i k = true) :
    exec (.spQuery i w) s = .next (spanCmd (cmdTaken s i 0x0A8) i k fun u =>
      match Tab.find u.spans k with
      | none => putPage (putPage u i 0x09C (fld (getPage u i 0x09C) 3 0)) i 0x0A0 0
      | some sp => spanShown u i sp) := by
  subst named
  exact (exec_cmd_ok cmdOpen rfl ((firstFail_pass (cmdOpen_noRsv cmdOpen)).trans (by simp [below, mine]))).trans rfl

theorem spanShown_frame (u : State) (i : Nat) (sp : Span) : spanShown u i sp = { u with pages := (spanShown u i sp).pages } := rfl

theorem spanShown_attr (prefer : sp.prefer < 4) : getPage (spanShown u i sp) i 0x09C =
    fld (getPage u i 0x09C) 3 0 + 16 * bit sp.resHbm + 32 * bit sp.readMostly + 64 * sp.prefer := by
  rw [spanShown, getPage_putPage_ne (by decide), getPage_putPage_self, Nat.mod_eq_of_lt]
  have low : fld (getPage u i 0x09C) 3 0 < 16 := Nat.mod_lt _ (by decide)
  have := bit_lt sp.resHbm
  have := bit_lt sp.readMostly
  omega

theorem spanShown_state (u : State) (i : Nat) (sp : Span) : getPage (spanShown u i sp) i 0x0A0 = spanState sp := by
  rw [spanShown, getPage_putPage_self, Nat.mod_eq_of_lt]
  unfold spanState
  repeat' split
  all_goals decide
end

end Sys2Proof.Machine
end

section
/-!
PROOFS. Key commands, and the capture of key violations (spec file 09, R209, R210, R213, R217, R219, R223, R224; R202; logs 19 and
81).
-/
namespace Sys2Proof.Machine

/-- The record of a key that a CREATE lists at index `n` (R210, R224): the index keeps its generation. -/
def newKey (s : State) (i n : Nat) : Key :=
  { inst := i, base := page64 s i 0x0C4, len := page64 s i 0x0CC, rights := fld (getPage s i 0x0D4) 12 8,
    gen := match Tab.find s.keys n with | some x => x.gen | none => 0,
    basin := decide (fld (getPage s i 0x0D4) 1 0 = 2), st := 1,
    handle := if fld (getPage s i 0x0D4) 1 0 = 2 then (allocOver s i (page64 s i 0x0C4) (page64 s i 0x0CC)).getD 0 else 0,
    freedAt := 0, bad1 := false, bad2 := false }

/-- The state in which a CREATE has listed key `n`. -/
def keyCreated (s : State) (i n : Nat) : State :=
  let u := cmdTaken s i 0x0DC
  putPage { u with keys := Tab.put u.keys n (newKey s i n), own.key := takeBlock u.own.key n i,
                   insts := Tab.modify u.insts i (fun x => { x with freeKeys := x.freeKeys.erase n }) } i 0x0C0
    (n * 256 + (newKey s i n).gen)

/-- A key whose generation moves on while accesses under the old one complete, its holder's page BUSY (R217, R219). -/
def keyInvalidated (u : State) (i n : Nat) : State :=
  putStat { u with keys := Tab.modify u.keys n (fun x => { x with gen := (x.gen + 1) % 256, st := 2 }) } i 0x0DC true Status.ok

/-- KT_ATTR with the STATE of the queried key. -/
def keyShown (u : State) (i st : Nat) : State := putPage u i 0x0D4 (fld (getPage u i 0x0D4) 15 0 + st * 2 ^ 16)

/-- The key's record once both its copies are whole again (R202). -/
abbrev mendedKey (k : Key) : Key := { k with bad1 := false, bad2 := false }

/-- The key that a page selects, as its commands ask: an index in range, the generation, the holder, a record not
lost (R224). -/
structure KeyChosen (s : State) (i : Nat) (k : Key) : Prop where
  named : getPage s i 0x0C0 / 256 ≠ 0
  below : getPage s i 0x0C0 / 256 < keyMax s
  found : Tab.find s.keys (getPage s i 0x0C0 / 256) = some k
  gen : k.gen = getPage s i 0x0C0 % 256
  mine : k.inst = i
  kept : keyLost s (getPage s i 0x0C0 / 256) = false

section
variable {s u : State} {i n : Nat} {w : RegWr} {k : Key}

/-! ### CREATE (R209, R210) -/

theorem exec_ktCreate_ok (cmdOpen : CmdOpen s i 0x0DC 1 w) (pass : firstFail (ktChecks s i w) = none)
    (next : nextKey s i = some n) :
    exec (.ktCreate i w) s = .next (keyCreated s i n) := by
  rw [exec_cmd_ok cmdOpen rfl pass]
  simp only [next, Option.getD_some]
  rfl

/-- The checks of R224 on a local key leave only the index to be found. -/
theorem ktChecks_local (cmdOpen : CmdOpen s i 0x0DC 1 w) (space : fld (getPage s i 0x0D4) 1 0 = 1) (least : 1 ≤ page64 s i 0x0CC)
    (most : page64 s i 0x0CC ≤ 2 ^ 48) (room : page64 s i 0x0C4 + page64 s i 0x0CC ≤ 2 ^ 64)
    (rights : fld (getPage s i 0x0D4) 12 8 ≠ 0) :
    firstFail (ktChecks s i w) = if (nextKey s i).isSome then none else some Status.noResource := by
  simp only [Nat.reducePow] at most room
  refine (firstFail_pass (cmdOpen_noRsv cmdOpen)).trans ?_
  simp only [space]
  simp [least, most, room, rights, firstFail_cons]

theorem keyCreated_frame (s : State) (i n : Nat) :
    keyCreated s i n = { s with
      keys := Tab.put s.keys n (newKey s i n), pages := (keyCreated s i n).pages, insts := (keyCreated s i n).insts,
      own := { s.own with key := (keyCreated s i n).own.key } } := rfl

/-! ### Records with a failing copy (R202) -/

theorem keyCmd_kept {eff : State → State} (kept : keyLost u n = false) : keyCmd u i n eff = eff (keyRepair u n) := by
  simp [keyCmd, kept]

theorem keys_keyRepair (found : Tab.find u.keys n = some k) (kept : keyLost u n = false) :
    (keyRepair u n).keys = Tab.put u.keys n (mendedKey k) := by
  have whole : ¬ (k.bad1 = true ∧ k.bad2 = true) := by
    rw [keyLost, found] at kept
    simpa using kept
  rw [keyRepair, Tab.modify_of_find found, if_neg whole]

/-! ### INVALIDATE and QUERY (R217, R219, R224) -/

theorem KeyChosen.exec_invalidate (h : KeyChosen s i k) (cmdOpen : CmdOpen s i 0x0DC 2 w) (valid : k.st = 1) :
    exec (.ktInvalidate i w) s = .next (keyInvalidated (keyRepair (cmdTaken s i 0x0DC) (getPage s i 0x0C0 / 256)) i
      (getPage s i 0x0C0 / 256)) := by
  obtain ⟨named, below, found, gen, mine, kept⟩ := h
  have pass := exec_cmd_ok (cmd := .ktInvalidate i w) cmdOpen rfl ((firstFail_pass (cmdOpen_noRsv cmdOpen)).trans
    (by simp [named, below, found, gen, mine, valid]))
  exact pass.trans (congrArg Host.Outcome.next (keyCmd_kept (u := cmdTaken s i 0x0DC) kept))

theorem KeyChosen.exec_query (h : KeyChosen s i k) (cmdOpen : CmdOpen s i 0x0DC 3 w) (inUse : k.st ≠ 0) :
    exec (.ktQuery i w) s = .next (keyShown (keyRepair (cmdTaken s i 0x0DC) (getPage s i 0x0C0 / 256)) i k.st) := by
  have repaired := keys_keyRepair (u := cmdTaken s i 0x0DC) h.found h.kept
  obtain ⟨named, below, found, gen, mine, kept⟩ := h
  have pass := exec_cmd_ok (cmd := .ktQuery i w) cmdOpen rfl ((firstFail_pass (cmdOpen_noRsv cmdOpen)).trans
    (by simp [named, below, found, gen, mine, inUse]))
  refine pass.trans (congrArg Host.Outcome.next ((keyCmd_kept (u := cmdTaken s i 0x0DC) kept).trans ?_))
  simp only [repaired, Tab.find_put_self]
  rfl

theorem keyInvalidated_keys (found : Tab.find u.keys n = some k) (kept : keyLost u n = false) :
    (keyInvalidated (keyRepair u n) i n).keys = Tab.put u.keys n { mendedKey k with gen := (k.gen + 1) % 256, st := 2 } := by
  change Tab.modify (keyRepair u n).keys n _ = _
  rw [keys_keyRepair found kept, Tab.modify_of_find (Tab.find_put_self ..), Tab.put_put]

theorem keyRepair_keeps (u : State) (n : Nat) : keyRepair u n = { u with keys := (keyRepair u n).keys } := rfl

theorem keyInvalidated_frame (u : State) (i n : Nat) :
    keyInvalidated u i n = { u with keys := (keyInvalidated u i n).keys, pages := (keyInvalidated u i n).pages } := rfl

theorem keyShown_frame (u : State) (i st : Nat) : keyShown u i st = { u with pages := (keyShown u i st).pages } := rfl

theorem keyShown_attr (u : State) (i : Nat) {st : Nat} (small : st < 4) :
    getPage (keyShown u i st) i 0x0D4 = fld (getPage u i 0x0D4) 15 0 + st * 2 ^ 16 := by
  rw [keyShown, getPage_putPage_self, Nat.mod_eq_of_lt]
  have low : fld (getPage u i 0x0D4) 15 0 < 2 ^ 16 := Nat.mod_lt _ (by decide)
  omega

/-! ### KEY_FREE (R217) -/

theorem exec_keyFree_free (found : Tab.find s.keys n = some k) (invalid : k.st = 2) (free : keyUsed s n = false) :
    exec (.keyFree n) s = .next (putStat { s with
      keys := Tab.put s.keys n { k with st := 0, freedAt := s.pieceClock }, pieceClock := s.pieceClock + 1,
      insts := Tab.modify s.insts k.inst (fun x => { x with freeKeys := x.freeKeys ++ [n] }) } k.inst 0x0DC false Status.ok) := by
  simp [execKeyFree, found, invalid, free]

theorem exec_keyFree_used (found : Tab.find s.keys n = some k) (used : keyUsed s n = true) : exec (.keyFree n) s = .next s := by
  simp [execKeyFree, found, used]

/-! ### The capture of a violation (R213, R223) -/

theorem keyFail_reason_le {key need a len reason : Nat} {basin : Bool} {st : Byte}
    (fails : keyFail s i key need a len basin = some (reason, st)) : reason ≤ 8 := by
  unfold keyFail at fails
  dsimp only at fails
  split at fails
  · cases fails; decide
  · split at fails
    · split at fails <;> cases fails <;> decide
    · repeat' split at fails
      all_goals cases fails
      all_goals decide

theorem admitKey_violates {key need a len reason : Nat} {basin remote : Bool} {st : Byte}
    (fails : keyFail s i key need a len basin = some (reason, st)) (violation : reason ≠ 8) :
    admitKey s i key need a len basin remote = (captureKey s i key reason remote, some st) := by
  unfold admitKey
  rw [fails]
  split
  · rename_i h; cases h
  · rename_i h; cases h; exact absurd rfl violation
  · rename_i h; cases h; rfl

/-- The first violation stands in KT_VSTAT and KT_VKEY. -/
theorem captureKey_first {key reason : Nat} {remote : Bool} (first : bitN (getPage s i 0x0E0) 31 = false) :
    captureKey s i key reason remote =
      putPage (putPage (instStat s i 9 1) i 0x0E0 (2 ^ 31 + bit remote * 2 ^ 29 + reason * 2 ^ 24)) i 0x0E4 key := by
  have first : bitN (getPage (instStat s i 9 1) i 0x0E0) 31 = false := first
  simp only [captureKey, first, Bool.false_eq_true, if_false]

/-- KT_VSTAT of a violation holds V, REMOTE and the check that failed (R223). -/
theorem vstat_fields {reason : Nat} (le : reason ≤ 8) (remote : Bool) :
    bitN (2 ^ 31 + bit remote * 2 ^ 29 + reason * 2 ^ 24) 31 = true ∧
    fld (2 ^ 31 + bit remote * 2 ^ 29 + reason * 2 ^ 24) 28 24 = reason ∧
    bitN (2 ^ 31 + bit remote * 2 ^ 29 + reason * 2 ^ 24) 29 = remote := by
  have flag := bit_lt remote
  refine ⟨?_, ?_, ?_⟩
  · rw [bitN, decide_eq_true_eq]
    omega
  · rw [fld]
    omega
  · have high : (2 ^ 31 + bit remote * 2 ^ 29 + reason * 2 ^ 24) / 2 ^ 29 % 2 = bit remote := by omega
    rw [bitN, high]
    cases remote <;> rfl

theorem captureKey_vstat {key reason : Nat} {remote : Bool} (le : reason ≤ 8) (first : bitN (getPage s i 0x0E0) 31 = false) :
    getPage (captureKey s i key reason remote) i 0x0E0 = 2 ^ 31 + bit remote * 2 ^ 29 + reason * 2 ^ 24 := by
  rw [captureKey_first first, getPage_putPage_ne (by decide), getPage_putPage_self, Nat.mod_eq_of_lt]
  have := bit_lt remote
  omega

theorem captureKey_vkey {key reason : Nat} {remote : Bool} (word : key < 2 ^ 32) (first : bitN (getPage s i 0x0E0) 31 = false) :
    getPage (captureKey s i key reason remote) i 0x0E4 = key := by
  rw [captureKey_first first, getPage_putPage_self, Nat.mod_eq_of_lt word]
end

end Sys2Proof.Machine

namespace Sys2Proof
open Sys2Proof.Machine

/-- Settles O41, one case per clause: `exec_cmd_ok` for the commands whose checks pass, `exec_cmd_fail` for those that are
rejected. -/
theorem spansAndKeysFollowTheirCommands : Obligations.SpansAndKeysFollowTheirCommands := by
  unfold Obligations.SpansAndKeysFollowTheirCommands
  refine ⟨?spCreate, ?spHbm, ?spNoKind, ?spDestroy, ?spLeaves, ?spResident, ?spQuery, ?spLost, ?ktCreate, ?ktLocal, ?ktNone,
    ?ktInvalidate, ?keyFree, ?keyInUse, ?ktQuery, ?violation⟩
  case spCreate =>
    intro s i w kind n cmdOpen pass code next
    refine .of _ (exec_spCreate_ok cmdOpen pass code next) ⟨⟨newSpan s i kind, ?_, rfl, rfl, rfl, rfl, rfl, rfl, rfl, rfl, rfl⟩,
      fun k other => ?_, getPage_putPage_self .., spanCreated_frame ..⟩
    · rw [spanCreated_spans, Tab.find_put_self]
    · rw [spanCreated_spans, Tab.find_put_ne _ _ _ _ other]
  case spHbm =>
    intro s i w cmdOpen code resident offered start len target least most room hbm unreserved apart next
    exact spChecks_hbm cmdOpen code resident offered start len target least most room hbm unreserved apart next
  case spNoKind =>
    intro s i w cmdOpen code resident
    obtain ⟨t, ht, status, frame⟩ := exec_cmd_fail (cmd := .spCreate i w) cmdOpen rfl (spChecks_noKind cmdOpen code resident)
    exact .of t ht ⟨by rw [frame], status, frame⟩
  case spDestroy =>
    intro s i w k sp cmdOpen named below found mine permitted still dropped kept free
    have h : SpanDestroyed s i w k sp := ⟨cmdOpen, named, below, found, mine, permitted, still, dropped, kept⟩
    obtain ⟨t, ht, spans, pieces, frame⟩ := h.free free
    refine .of t ht ⟨?_, fun j other => ?_, fun p => ?_, frame⟩
    · rw [spans, Tab.find_del_self]
    · rw [spans, Tab.find_del_ne _ _ _ other, Tab.find_put_ne _ _ _ _ other]
    · simp [pieces]
  case spLeaves =>
    intro s i w k sp cmdOpen named below found mine permitted still dropped kept used
    have h : SpanDestroyed s i w k sp := ⟨cmdOpen, named, below, found, mine, permitted, still, dropped, kept⟩
    obtain ⟨t, ht, busy, spans, frame⟩ := h.used used
    exact .of t ht ⟨busy, spans, by rw [frame], frame⟩
  case spResident =>
    intro s i w k sp cmdOpen named below found mine permitted resident undiscarded
    obtain ⟨t, ht, status, frame⟩ := exec_spDestroy_fail cmdOpen named below found mine permitted resident undiscarded
    exact .of t ht ⟨by rw [frame], status, frame⟩
  case spQuery =>
    intro s i w k sp cmdOpen named below found mine prefer kept
    have owned : spanOwned s i k = true := by simp [spanOwned, found, mine]
    have repaired : Tab.find (spanRepair (cmdTaken s i 0x0A8) k).spans k = some (mended sp) := find_spanRepair found
    have low : getPage (spanRepair (cmdTaken s i 0x0A8) k) i 0x09C = getPage s i 0x09C := by
      rw [spanRepair_keeps]
      exact getPage_cmdTaken (by decide)
    refine .of (spanShown (spanRepair (cmdTaken s i 0x0A8) k) i (mended sp)) ?_ ⟨?_, spanShown_state .., ?_⟩
    · rw [exec_spQuery_ok cmdOpen named below owned, spanCmd_kept (u := cmdTaken s i 0x0A8) kept]
      simp only [repaired]
    · rw [spanShown_attr (sp := mended sp) prefer, low]
    · rw [spanShown_frame, spanRepair_keeps, spanRepair_keeps s, spans_spanRepair (cmdTaken_spans ..), cmdTaken_frame]
  case spLost =>
    intro s i w k cmdOpen named below mine lost room
    refine .of (putStat (logCorrupt (cmdTaken s i 0x0A8) 0x07 1 k) i 0x0A8 false Status.descriptorCrc) ?_
      ⟨status_putStat .., logEv_stages (s := cmdTaken s i 0x0A8) room .., ?_⟩
    · rw [exec_spQuery_ok cmdOpen named below mine, spanCmd_lost (u := cmdTaken s i 0x0A8) lost]
    · rw [logCorrupt, logEv_frame]
      rfl
  case ktCreate =>
    intro s i w n cmdOpen pass next
    refine .of _ (exec_ktCreate_ok cmdOpen pass next) ⟨⟨newKey s i n, Tab.find_put_self .., rfl, rfl, rfl, rfl, rfl, rfl,
      fun x found => ?_, getPage_putPage_self ..⟩, fun j other => Tab.find_put_ne _ _ _ _ other, keyCreated_frame ..⟩
    simp only [newKey, found]
  case ktLocal =>
    intro s i w cmdOpen space least most room rights
    exact ktChecks_local cmdOpen space least most room rights
  case ktNone =>
    intro s i w cmdOpen fail
    obtain ⟨t, ht, status, frame⟩ := exec_cmd_fail (cmd := .ktCreate i w) cmdOpen rfl fail
    exact .of t ht ⟨by rw [frame], status, frame⟩
  case ktInvalidate =>
    intro s i w k cmdOpen named below found gen mine valid kept
    have h : KeyChosen s i k := ⟨named, below, found, gen, mine, kept⟩
    exact .of _ (h.exec_invalidate cmdOpen valid)
      ⟨keyInvalidated_keys (u := cmdTaken s i 0x0DC) found kept, pageBusy_putStat .., by
        rw [keyInvalidated_frame, keyRepair_keeps, cmdTaken_frame]⟩
  case keyFree =>
    intro s k x found invalid free
    refine .of _ (exec_keyFree_free found invalid free) ⟨rfl, fun y inst => ?_, pageBusy_putStat .., rfl⟩
    exact ⟨_, Tab.find_modify_self _ inst, rfl⟩
  case keyInUse =>
    intro s k x found _ used
    exact .of s (exec_keyFree_used found used) rfl
  case ktQuery =>
    intro s i w k cmdOpen named below found gen mine inUse small kept
    have h : KeyChosen s i k := ⟨named, below, found, gen, mine, kept⟩
    have low : getPage (keyRepair (cmdTaken s i 0x0DC) (getPage s i 0x0C0 / 256)) i 0x0D4 = getPage s i 0x0D4 :=
      getPage_cmdTaken (by decide)
    refine .of _ (h.exec_query cmdOpen inUse) ⟨?_, ?_⟩
    · rw [keyShown_attr _ _ small, low]
    · rw [keyShown_frame, keyRepair_keeps, cmdTaken_frame]
      rfl
  case violation =>
    intro s i key need a len basin remote reason st fails violation first word
    have le := keyFail_reason_le fails
    obtain ⟨v, failed, side⟩ := vstat_fields le remote
    obtain ⟨pages, insts, frame⟩ := captureKey_frame s i key reason remote
    refine ⟨_, admitKey_violates fails violation, captureKey_vkey word first, ?_, ?_, ?_, ?_⟩
    · rw [captureKey_vstat le first, v]
    · rw [captureKey_vstat le first, failed]
    · rw [captureKey_vstat le first, side]
    · rw [frame]

end Sys2Proof
end

section
/-!
PROOFS. What a queue pair sends: the fields of its packets, and what a packet, a control packet or an acknowledgement leaves of the state
(spec file 10, R226 to R230, R237 to R239; spec file 12, R278).
-/
namespace Sys2Proof.Machine

/-! ### Byte strings -/

theorem ofLE_putLE (n v : Nat) : ofLE (putLE n v) = v % 256 ^ n := by
  induction n generalizing v with
  | zero => rw [pow_zero, Nat.mod_one]; rfl
  | succ n ih =>
    have low : (BitVec.ofNat 8 v).toNat = v % 256 := BitVec.toNat_ofNat ..
    rw [putLE, ofLE, ih, low, pow_succ', Nat.mod_mul]

theorem ofBE_putBE (n v : Nat) : ofBE (putBE n v) = v % 256 ^ n := by
  rw [ofBE, putBE, List.reverse_reverse, ofLE_putLE]

@[simp] theorem putBE_length (n v : Nat) : (putBE n v).length = n := by
  rw [putBE, List.length_reverse, putLE_length]

/-- A big-endian field between the bytes before it and those after it. -/
theorem getBE_field (pre post : Bytes) (n v : Nat) : getBE (pre ++ (putBE n v ++ post)) pre.length n = v % 256 ^ n := by
  rw [getBE, slice, List.drop_left, List.take_left' (putBE_length n v), ofBE_putBE]

theorem fit_zero (b : Bytes) : fit 0 b = [] := by simp [fit, zeros]

/-! ### The header of a packet (R229) -/

section
variable (op flags epoch dqpn credit x sqpn aux : Nat) (ext : Bytes)

theorem hdrBytes_op : getBE (hdrBytes op flags epoch dqpn credit x sqpn aux ext) 1 1 = op % 256 := by
  simp only [hdrBytes, List.append_assoc]
  exact getBE_field (putBE 1 _) _ 1 op

theorem hdrBytes_flags : getBE (hdrBytes op flags epoch dqpn credit x sqpn aux ext) 2 1 = flags % 256 := by
  simp only [hdrBytes, List.append_assoc]
  exact getBE_field (putBE 1 _ ++ putBE 1 op) _ 1 flags

theorem hdrBytes_psn : getBE (hdrBytes op flags epoch dqpn credit x sqpn aux ext) 8 3 = x % 2 ^ 24 := by
  simp only [hdrBytes, List.append_assoc]
  exact getBE_field (putBE 1 _ ++ (putBE 1 op ++ (putBE 1 flags ++ (putBE 1 epoch ++ (putBE 3 dqpn ++ putBE 1 credit))))) _ 3 x
end

/-! ### What sending can change -/

/-- What sending a packet can change: device time, queue pairs, links and their counters, the outputs, `insts`; what was sent
before stays sent. -/
structure Sends (s t : State) : Prop where
  frame : t = { s with
    sys := { s.sys with now := t.sys.now }, qps := t.qps, links := t.links, linkStats := t.linkStats, wr := t.wr, out := t.out,
    insts := t.insts }
  out : ∀ o ∈ s.out, o ∈ t.out

theorem Sends.refl (s : State) : Sends s s := ⟨rfl, fun _ h => h⟩

theorem Sends.trans {s t u : State} (h : Sends s t) (k : Sends t u) : Sends s u := by
  refine ⟨?_, fun o mem => k.out o (h.out o mem)⟩
  rw [k.frame, h.frame]

theorem Sends.infl {s t : State} (h : Sends s t) : t.infl = s.infl := by rw [h.frame]

theorem sends_if {s t u : State} {c : Prop} [Decidable c] (h : Sends s t) (k : Sends s u) : Sends s (if c then t else u) := by
  split
  · exact h
  · exact k

section
variable (s : State) (n l k d : Nat)

theorem advanceTo_sends (t : Nat) : Sends s (advanceTo s t) := ⟨rfl, fun _ mem => List.mem_append_right _ mem⟩

theorem putQp_sends (p : Qp) : Sends s (putQp s n p) := ⟨rfl, fun _ h => h⟩

theorem linkStat_sends : Sends s (linkStat s l k d) := ⟨rfl, fun _ h => h⟩

theorem weirStat_sends : Sends s (weirStat s l k) := ⟨rfl, fun _ h => h⟩

theorem accUp_sends (f : MapAcc → MapAcc) : Sends s (accUp s l f) := ⟨rfl, fun _ h => h⟩

theorem putLink_sends (x : LinkSt) : Sends s (putLink s l x) := ⟨rfl, fun _ h => h⟩

theorem instStat_sends : Sends s (instStat s n k d) := ⟨rfl, fun _ h => h⟩

theorem beginOffer_sends : Sends s (beginOffer s l) := ⟨rfl, fun _ h => List.mem_cons_of_mem _ h⟩

theorem wakeUp_sends : Sends s (wakeUp s l) :=
  sends_if (putLink_sends ..) (sends_if ((putLink_sends ..).trans (beginOffer_sends ..)) (putLink_sends ..))

theorem workArrives_sends : Sends s (workArrives s l) := by
  have cancel (f : LinkFrame) : Sends s (sendFrame s l f) := ⟨rfl, fun _ h => List.mem_cons_of_mem _ h⟩
  exact sends_if ((cancel _).trans (wakeUp_sends ..)) (.refl s)
end

/-! ### What counting leaves alone -/

section
variable (s : State) (n l k d : Nat)

@[simp] theorem linkStat_sys : (linkStat s l k d).sys = s.sys := rfl
@[simp] theorem linkStat_qps : (linkStat s l k d).qps = s.qps := rfl
@[simp] theorem linkStat_out : (linkStat s l k d).out = s.out := rfl
@[simp] theorem weirStat_sys : (weirStat s l k).sys = s.sys := rfl
@[simp] theorem weirStat_qps : (weirStat s l k).qps = s.qps := rfl
@[simp] theorem noteTx_sys (wire pay : Nat) : (noteTx s l wire pay).sys = s.sys := rfl
@[simp] theorem noteTx_qps (wire pay : Nat) : (noteTx s l wire pay).qps = s.qps := rfl
@[simp] theorem putLink_sys (x : LinkSt) : (putLink s l x).sys = s.sys := rfl
@[simp] theorem putLink_qps (x : LinkSt) : (putLink s l x).qps = s.qps := rfl
@[simp] theorem putQp_sys (p : Qp) : (putQp s n p).sys = s.sys := rfl

theorem noteTx_sends (wire pay : Nat) : Sends s (noteTx s l wire pay) := ⟨rfl, fun _ h => h⟩

theorem emit_sends (o : Out) : Sends s (emit s o) := ⟨rfl, fun _ h => List.mem_cons_of_mem _ h⟩
end

/-! ### The record of a queue pair -/

section
variable {s : State} {n m : Nat} {p q : Qp}

@[simp] theorem qpOf_putQp_self (s : State) (n : Nat) (p : Qp) : qpOf (putQp s n p) n = some p := Tab.find_put_self ..

theorem qpOf_putQp_ne (other : m ≠ n) : qpOf (putQp s n p) m = qpOf s m := Tab.find_put_ne _ _ _ _ other

@[simp] theorem qpOf_workArrives (s : State) (l m : Nat) : qpOf (workArrives s l) m = qpOf s m := by rw [workArrives_frame]; rfl
end

/-! ### One packet (R226 to R230, R278) -/

/-- The cipher record once a packet has left: of an encrypted queue pair the phase moves where that is due (R280, R284). -/
def sealedCipher (now : Nat) (p : Qp) : Cipher := if qEnc p then secretStep (phaseStep now p.cipher) else p.cipher

/-- The device once a frame of a queue pair is at the MAC, counted with its wire and payload bytes. -/
def handedOver (s : State) (n : Nat) (p : Qp) (f : TxFrame) (wire pay : Nat) : State :=
  let u := putQp s n { p with cipher := sealedCipher s.sys.now p }
  let u := putLink u (curLink p) { link u (curLink p) with busyAt := u.sys.now }
  linkStat (linkStat (emit (noteTx u (curLink p) wire pay) (.frame f)) (curLink p) 0 1) (curLink p) 1 pay

/-- A frame carries a packet of a queue pair: on its link, with the opcode, flags and PSN, and the extension in clear where none of it
is protected (R229, R277). -/
structure Carries (p : Qp) (op flags x : Nat) (ext : Bytes) (f : TxFrame) : Prop where
  onLink : f.link = curLink p
  opcode : getBE f.hdr 1 1 = op % 256
  flagBits : getBE f.hdr 2 1 = (flags + 16 * bit (qEnc p)) % 256
  number : getBE f.hdr 8 3 = x % 2 ^ 24
  clear : protRange op ext = ext.length → f.ext = ext

section
variable {s : State} {n : Nat} {p : Qp} {op flags x roc aux credit : Nat} {ext pay : Bytes}

theorem emitPkt_hands (qp : qpOf s n = some p) :
    ∃ f wire len, emitPkt s n op flags x roc aux credit ext pay = handedOver s n p f wire len ∧ Carries p op flags x ext f := by
  unfold emitPkt
  rw [qp]
  dsimp only
  generalize sealed : (if qEnc p = true then _ else (ext, pay, []) : Bytes × Bytes × Bytes) = z
  obtain ⟨e, y, tag⟩ := z
  dsimp only
  refine ⟨_, _, _, rfl, rfl, hdrBytes_op .., ?_, hdrBytes_psn .., fun clear => ?_⟩
  · have enc : (if qEnc p = true then 16 else 0) = 16 * bit (qEnc p) := by cases qEnc p <;> rfl
    rw [← enc]
    exact hdrBytes_flags ..
  · have plain : e = ext := by
      rw [clear] at sealed
      split at sealed
      · obtain ⟨rfl, -⟩ := Prod.mk.inj sealed
        rw [List.take_length, Nat.sub_self, fit_zero, List.append_nil]
      · exact (Prod.mk.inj sealed).1.symm
    exact plain

theorem handedOver_sends (s : State) (n : Nat) (p : Qp) (f : TxFrame) (wire pay : Nat) : Sends s (handedOver s n p f wire pay) :=
  (putQp_sends ..).trans <| (putLink_sends ..).trans <| (noteTx_sends ..).trans <| (emit_sends ..).trans <|
    (linkStat_sends ..).trans (linkStat_sends ..)

theorem handedOver_qp (s : State) (n : Nat) (p : Qp) (f : TxFrame) (wire pay : Nat) :
    qpOf (handedOver s n p f wire pay) n = some { p with cipher := sealedCipher s.sys.now p } := by
  simp only [handedOver, qpOf, linkStat_qps, emit_qps, noteTx_qps, putLink_qps]
  exact Tab.find_put_self ..

theorem emitPkt_sends (s : State) (n op flags x roc aux credit : Nat) (ext pay : Bytes) :
    Sends s (emitPkt s n op flags x roc aux credit ext pay) := by
  cases qp : qpOf s n with
  | none =>
    rw [emitPkt, qp]
    exact .refl s
  | some p =>
    obtain ⟨f, wire, len, h, -⟩ := emitPkt_hands (op := op) (flags := flags) (x := x) (roc := roc) (aux := aux) (credit := credit)
      (ext := ext) (pay := pay) qp
    rw [h]
    exact handedOver_sends ..

theorem emitPkt_sys (qp : qpOf s n = some p) : (emitPkt s n op flags x roc aux credit ext pay).sys = s.sys := by
  obtain ⟨f, wire, len, h, -⟩ := emitPkt_hands (op := op) (flags := flags) (x := x) (roc := roc) (aux := aux) (credit := credit)
    (ext := ext) (pay := pay) qp
  rw [h]
  simp only [handedOver, linkStat_sys, emit_sys, noteTx_sys, putLink_sys, putQp_sys]

theorem emitPkt_qp (qp : qpOf s n = some p) :
    qpOf (emitPkt s n op flags x roc aux credit ext pay) n = some { p with cipher := sealedCipher s.sys.now p } := by
  obtain ⟨f, wire, len, h, -⟩ := emitPkt_hands (op := op) (flags := flags) (x := x) (roc := roc) (aux := aux) (credit := credit)
    (ext := ext) (pay := pay) qp
  rw [h]
  exact handedOver_qp ..

theorem emitPkt_carries (qp : qpOf s n = some p) :
    ∃ f, .frame f ∈ (emitPkt s n op flags x roc aux credit ext pay).out ∧ Carries p op flags x ext f := by
  obtain ⟨f, wire, len, h, carries⟩ := emitPkt_hands (op := op) (flags := flags) (x := x) (roc := roc) (aux := aux) (credit := credit)
    (ext := ext) (pay := pay) qp
  rw [h]
  refine ⟨f, ?_, carries⟩
  simp only [handedOver, linkStat_out]
  exact List.mem_cons_self ..
end

/-! ### Control packets (R238, R251, R278) -/

/-- Whatever a control packet does to its queue pair: it goes or waits, what it answers is answered. -/
def Spoke (p y : Qp) : Prop :=
  y = { p with ctl := y.ctl, ctlAt := y.ctlAt, ceSeen := y.ceSeen, echoAt := y.echoAt, rate := y.rate, unacked := y.unacked,
               unackedAt := y.unackedAt, cipher := y.cipher }

/-- The CREDIT of a control packet (R253). -/
def ctlCredit (s : State) (p : Qp) (c : Ctl) : Nat := if c.op = 0x10 then creditHint s p else 0

/-- The queue pair of a control packet that leaves. -/
def ctlLeft (s : State) (p : Qp) (c : Ctl) : Qp :=
  { p with ctlAt := s.sys.now, ceSeen := if c.op = 0x10 then false else p.ceSeen, echoAt := if c.op = 0x10 then none else p.echoAt,
           rate.creditTx := if c.op = 0x10 then ctlCredit s p c else p.rate.creditTx,
           unacked := if c.op = 0x10 then 0 else p.unacked, unackedAt := if c.op = 0x10 then none else p.unackedAt }

/-- The extension of a control packet (R230). -/
def ctlExt (s : State) (p : Qp) (c : Ctl) : Bytes :=
  if c.op = 0x10 then ackExt s p c.kind c.status (ctlPsn p c) else resyncExt s p c.status

/-- The device as a control packet leaves it, the packet counted, before the frame. -/
def ctlCounted (s : State) (n : Nat) (p : Qp) (c : Ctl) : State :=
  let u := putQp s n (ctlLeft s p c)
  let u := if ctlCredit s p c ≠ 0 then weirStat u (curLink p) 7 else u
  let u := if c.op = 0x10 ∧ c.kind ≠ 0 then linkStat u (curLink p) 13 1 else u
  let u := if c.op = 0x12 then linkStat u (curLink p) 14 1 else u
  if c.op = 0x14 then linkStat u (curLink p) 15 1 else u

/-- The flags of a control packet: FIRST, LAST and on a ROUTED queue pair the echo of a CE mark (R227, R229). -/
def ctlFlags (p : Qp) (c : Ctl) : Nat := 0xC0 + (if decide (c.op = 0x10) && p.ceSeen && qRouted p then 8 else 0)

/-- A control packet leaves at an instant (R278). -/
def ctlGone (s : State) (n : Nat) (p : Qp) (c : Ctl) : State :=
  emitPkt (ctlCounted s n p c) n c.op (ctlFlags p c) (ctlPsn p c) 0 ((ctlCounted s n p c).sys.now % 2 ^ 32) (ctlCredit s p c)
    (ctlExt s p c) []

section
variable {s : State} {n : Nat} {p : Qp} {c : Ctl}

theorem Spoke.refl (p : Qp) : Spoke p p := rfl

theorem ctlLeft_spoke (s : State) (p : Qp) (c : Ctl) : Spoke p (ctlLeft s p c) := rfl

theorem ctlCounted_sends (s : State) (n : Nat) (p : Qp) (c : Ctl) : Sends s (ctlCounted s n p c) := by
  unfold ctlCounted
  dsimp only
  have count {u : State} (h : Sends s u) (k d : Nat) (b : Prop) [Decidable b] :
      Sends s (if b then linkStat u (curLink p) k d else u) := sends_if (h.trans (linkStat_sends ..)) h
  exact count (count (count (sends_if ((putQp_sends ..).trans (weirStat_sends ..)) (putQp_sends ..)) ..) ..) ..

theorem ctlCounted_qps (s : State) (n : Nat) (p : Qp) (c : Ctl) : (ctlCounted s n p c).qps = (putQp s n (ctlLeft s p c)).qps := by
  simp only [ctlCounted, apply_ite State.qps, linkStat, weirStat, ite_self]

theorem ctlCounted_sys (s : State) (n : Nat) (p : Qp) (c : Ctl) : (ctlCounted s n p c).sys = s.sys := by
  simp only [ctlCounted, apply_ite State.sys, linkStat, weirStat, putQp, ite_self]

theorem ctlCounted_qp (s : State) (n : Nat) (p : Qp) (c : Ctl) : qpOf (ctlCounted s n p c) n = some (ctlLeft s p c) := by
  rw [qpOf, ctlCounted_qps]
  exact qpOf_putQp_self ..

/-- On a link that carries frames a control packet leaves at an instant of its own (R278). -/
theorem sendCtl_open (qp : qpOf s n = some p) (ok : sendable s (curLink p) = true) :
    sendCtl s n c = ctlGone (advanceTo s (p.ctlAt + 1)) n p c := by
  unfold sendCtl
  rw [qp]
  have carried : ¬ (!sendable s (curLink p)) = true := by simp [ok]
  exact if_neg carried

/-- On another it waits, a RESYNC once (R242). -/
theorem sendCtl_held (qp : qpOf s n = some p) (held : sendable s (curLink p) = false) :
    sendCtl s n c = if c.op = 0x12 ∧ p.ctl.any (fun x => x.op = 0x12) then s
      else workArrives (putQp s n { p with ctl := p.ctl ++ [c] }) (curLink p) := by
  unfold sendCtl
  rw [qp]
  have waits : (!sendable s (curLink p)) = true := by simp [held]
  exact if_pos waits

theorem ctlGone_sends (s : State) (n : Nat) (p : Qp) (c : Ctl) : Sends s (ctlGone s n p c) :=
  (ctlCounted_sends ..).trans (emitPkt_sends ..)

theorem ctlGone_sys (s : State) (n : Nat) (p : Qp) (c : Ctl) : (ctlGone s n p c).sys = s.sys :=
  (emitPkt_sys (ctlCounted_qp ..)).trans (ctlCounted_sys ..)

theorem ctlGone_qp (s : State) (n : Nat) (p : Qp) (c : Ctl) :
    qpOf (ctlGone s n p c) n =
      some { ctlLeft s p c with cipher := sealedCipher (ctlCounted s n p c).sys.now (ctlLeft s p c) } :=
  emitPkt_qp (ctlCounted_qp ..)

theorem ctlGone_carries (s : State) (n : Nat) (p : Qp) (c : Ctl) :
    ∃ f, .frame f ∈ (ctlGone s n p c).out ∧ Carries p c.op (ctlFlags p c) (ctlPsn p c) (ctlExt s p c) f := by
  obtain ⟨f, sent, onLink, opcode, flagBits, number, clear⟩ := emitPkt_carries (ctlCounted_qp s n p c)
  exact ⟨f, sent, onLink, opcode, flagBits, number, clear⟩

theorem sendCtl_sends (s : State) (n : Nat) (c : Ctl) : Sends s (sendCtl s n c) := by
  cases qp : qpOf s n with
  | none =>
    rw [sendCtl, qp]
    exact .refl s
  | some p =>
    cases ok : sendable s (curLink p) with
    | true =>
      rw [sendCtl_open qp ok]
      exact (advanceTo_sends ..).trans (ctlGone_sends ..)
    | false =>
      rw [sendCtl_held qp ok]
      exact sends_if (.refl s) ((putQp_sends ..).trans (workArrives_sends ..))

theorem sendCtl_qp (qp : qpOf s n = some p) (c : Ctl) : ∃ y, qpOf (sendCtl s n c) n = some y ∧ Spoke p y := by
  cases ok : sendable s (curLink p) with
  | true =>
    rw [sendCtl_open qp ok]
    exact ⟨_, ctlGone_qp .., rfl⟩
  | false =>
    rw [sendCtl_held qp ok]
    split
    · exact ⟨p, qp, rfl⟩
    · exact ⟨_, (qpOf_workArrives ..).trans (qpOf_putQp_self ..), rfl⟩
end

/-! ### Acknowledgement points (R237, R239) -/

/-- The record of an acknowledgement point where no mirror has to hold it (R237). -/
def ackedQp (p : Qp) : Qp := { recordQp p with ackEpsn := p.epsn }

section
variable {s : State} {n : Nat} {p : Qp}

theorem needsMark_plain (plain : p.kind ≠ .basin) (s : State) (c : Ctl) : needsMark s p c = false := by
  simp [needsMark, plain]

theorem sendAck_plain (qp : qpOf s n = some p) (plain : p.kind ≠ .basin) (kind : Nat) (st : Byte) :
    sendAck s n kind st = sendCtl (putQp s n (ackedQp p)) n { op := 0x10, kind := kind, status := st, psn := p.epsn } := by
  unfold sendAck
  rw [qp]
  have noMark : ¬ needsMark s p { op := 0x10, kind := kind, status := st, psn := p.epsn } = true := by simp [needsMark_plain plain]
  exact if_neg noMark

theorem ackExt_start (s : State) (p : Qp) (kind : Nat) (st : Byte) (e : Nat) :
    (ackExt s p kind st e).take 2 = [BitVec.ofNat 8 kind, st] := rfl

theorem ackExt_take {s : State} {p : Qp} {kind : Nat} {st : Byte} {e : Nat} {b : Bytes} (h : b = ackExt s p kind st e) :
    b.take 2 = [BitVec.ofNat 8 kind, st] := by
  rw [h, ackExt_start]

/-- What an acknowledgement of a KIND and STATUS leaves: the transport record written, the frame where the link carries it. -/
theorem sendAck_leaves (qp : qpOf s n = some p) (plain : p.kind ≠ .basin) (kind : Nat) (st : Byte) :
    Sends s (sendAck s n kind st) ∧ (∃ y, qpOf (sendAck s n kind st) n = some y ∧ Spoke (ackedQp p) y) ∧
    (sendable s (curLink p) = true →
      (∃ y, qpOf (sendAck s n kind st) n = some y ∧ y.unacked = 0 ∧ y.unackedAt = none) ∧
      ∃ f, .frame f ∈ (sendAck s n kind st).out ∧ f.link = curLink p ∧ getBE f.hdr 1 1 = 0x10 ∧
        (kind ≠ 4 → getBE f.hdr 8 3 = p.epsn % 2 ^ 24) ∧ f.ext.take 2 = [BitVec.ofNat 8 kind, st]) := by
  have now : qpOf (putQp s n (ackedQp p)) n = some (ackedQp p) := qpOf_putQp_self ..
  rw [sendAck_plain qp plain]
  refine ⟨(putQp_sends ..).trans (sendCtl_sends ..), sendCtl_qp now _, fun ok => ?_⟩
  rw [sendCtl_open now ok]
  refine ⟨⟨_, ctlGone_qp .., rfl, rfl⟩, ?_⟩
  obtain ⟨f, sent, onLink, opcode, -, number, clear⟩ := ctlGone_carries (advanceTo (putQp s n (ackedQp p)) ((ackedQp p).ctlAt + 1)) n
    (ackedQp p) { op := 0x10, kind := kind, status := st, psn := p.epsn }
  refine ⟨f, sent, onLink, opcode, fun point => ?_, ackExt_take (clear rfl)⟩
  rw [number, ctlPsn, if_pos ⟨rfl, point⟩]
  rfl
end

end Sys2Proof.Machine
end

section
/-!
PROOFS. A queue pair transmits, and its timers expire (spec file 10, R234, R238 to R240, R242, R244; R379, R380; logs 28, 105 and 116).
-/
namespace Sys2Proof.Machine

/-! ### The queue pair on its turn (R71, R379) -/

theorem wakeBlk_clk (s : State) (b : Blk) : wakeBlk s b = { s with clk := (wakeBlk s b).clk } := by
  unfold wakeBlk ungate
  repeat' split
  all_goals rfl

section
variable {s : State} {n : Nat} {p : Qp}

@[simp] theorem qpOf_wakeBlk (s : State) (b : Blk) (n : Nat) : qpOf (wakeBlk s b) n = qpOf s n := by rw [wakeBlk_clk]; rfl

@[simp] theorem sendable_wakeBlk (s : State) (b : Blk) (l : Nat) : sendable (wakeBlk s b) l = sendable s l := by
  rw [wakeBlk_clk]
  rfl

@[simp] theorem paceReady_wakeBlk (s : State) (b : Blk) (p : Qp) (len : Nat) :
    paceReady (wakeBlk s b) p len = paceReady s p len := by
  rw [wakeBlk_clk]
  rfl

@[simp] theorem txReady_wakeBlk (s : State) (b : Blk) (who : Option Nat) (bytes : Nat) :
    txReady (wakeBlk s b) who bytes = txReady s who bytes := by
  rw [wakeBlk_clk]
  rfl

/-- Only BASIN and MIRROR queue pairs pull pieces of Basin accesses. -/
theorem pullBasin_rc (rc : p.kind = .rc) (s : State) (n : Nat) : pullBasin s n p = s := if_pos (.inl rc)

theorem pullCopy_rc (rc : p.kind = .rc) (s : State) (n : Nat) : pullCopy s n p = s := by
  unfold pullCopy
  split
  · rfl
  · exact if_pos (.inl (by simp [rc]))

/-- The packets a queue pair of a running engine may send, in their order: control packets, retransmissions, the rest. -/
def txServe (w : State) (n : Nat) (p : Qp) : Result :=
  match p.ctl with
  | c :: rest =>
    .next (if needsMark (putQp w n { p with ctl := rest }) p c then ackVia (putQp w n { p with ctl := rest }) n c
      else sendCtl (putQp w n { p with ctl := rest }) n c)
  | [] =>
    match p.retx with
    | x :: rest =>
      if p.st ≠ .connected ∨ p.rnrUntil.isSome then .next w
      else
        (match reqAt p x with
        | none => .next (putQp w n { p with retx := rest })
        | some (r, k) =>
          if r.op = 3 ∧ k ≠ 0 then .next (putQp w n { p with retx := rest }) else onTurn w n p fun u => sendAgain u n rest r k)
    | [] => onTurn w n p fun u => .next (sendNew u n)

theorem exec_packetTransmit_runs (qp : qpOf s n = some p) (rc : p.kind = .rc) (runs : Runs s (engineOf s (curLink p))) :
    exec (.packetTransmit n) s = if !sendable s (curLink p) then .next (wakeBlk s (engineOf s (curLink p)))
      else txServe (wakeBlk s (engineOf s (curLink p))) n p := by
  simp only [exec_packetTransmit, execPacketTransmit, qp, onBlk_runs runs, pullBasin_rc rc, pullCopy_rc rc, qpOf_wakeBlk,
    sendable_wakeBlk]
  rfl

theorem exec_packetTransmit_sends (qp : qpOf s n = some p) (rc : p.kind = .rc) (runs : Runs s (engineOf s (curLink p)))
    (ok : sendable s (curLink p) = true) :
    exec (.packetTransmit n) s = txServe (wakeBlk s (engineOf s (curLink p))) n p := by
  rw [exec_packetTransmit_runs qp rc runs]
  exact if_neg (by simp [ok])

theorem exec_packetTransmit_held (qp : qpOf s n = some p)
    (held : gated (wakeBlk s (engineOf s (curLink p))) (engineOf s (curLink p)) = true) :
    exec (.packetTransmit n) s = .next (wakeBlk s (engineOf s (curLink p))) := by
  simp only [exec_packetTransmit, execPacketTransmit, qp, onBlk_held held]

/-! ### The scheduler (R379) -/

theorem onTurn_goes {w : State} {len : Nat} (next : txNext w p = some len) (turn : txTurnOk w p len = true) (send : State → Result) :
    onTurn w n p send = send (drawTx w n p len) := by
  simp [onTurn, next, turn]

theorem onTurn_waits {w : State} (waits : ∀ len, txNext w p = some len → txTurnOk w p len = false) (send : State → Result) :
    onTurn w n p send = .next w := by
  unfold onTurn
  split
  · rfl
  · rename_i len next
    exact if_neg (by simp [waits len next])

theorem drawTx_frame (s : State) (n : Nat) (p : Qp) (len : Nat) :
    drawTx s n p len = { s with insts := (drawTx s n p len).insts, qps := (drawTx s n p len).qps } := rfl

theorem drawTx_sends (s : State) (n : Nat) (p : Qp) (len : Nat) : Sends s (drawTx s n p len) := ⟨rfl, fun _ h => h⟩

theorem drawTx_qp (qp : qpOf s n = some p) (len : Nat) : qpOf (drawTx s n p len) n = some { p with served := true } := by
  unfold drawTx qpOf
  dsimp only
  cases served : p.served with
  | true =>
    have cleared : Tab.find (Tab.map (fun _ y => if curLink y = curLink p ∧ y.inst = p.inst then { y with served := false } else y)
        s.qps) n = some { p with served := false } := by
      rw [Tab.find_map, show Tab.find s.qps n = some p from qp]
      simp
    rw [if_pos rfl, Tab.find_modify_self _ cleared]
  | false =>
    rw [if_neg (by decide), Tab.find_modify_self _ qp]

/-- The scheduler's deficit counters are no transmit bucket (R379, R380). -/
theorem txReady_drawTx (s : State) (n : Nat) (p : Qp) (len : Nat) (who : Option Nat) (bytes : Nat) :
    txReady (drawTx s n p len) who bytes = txReady s who bytes := by
  cases who with
  | none => rfl
  | some k =>
    simp only [txReady, Option.bind_some, drawTx, Tab.find_map]
    cases Tab.find s.insts k with
    | none => rfl
    | some i =>
      dsimp only [Option.map_some]
      split <;> rfl

theorem paceReady_drawTx (s : State) (n : Nat) (q p : Qp) (len k : Nat) : paceReady (drawTx s n q len) p k = paceReady s p k := rfl

/-! ### One packet of a request (R229, R240, R256) -/

/-- The packet is the request's LAST, or a READ_REQ (R236). -/
def reqLast (r : SReq) (k : Nat) : Bool := k + 1 = r.count || r.op = 3

/-- Its flags: FIRST, LAST, SOLICIT and RETRANSMITTED (R229). -/
def reqFlags (r : SReq) (k : Nat) (again : Bool) : Nat :=
  (if k = 0 then 128 else 0) + (if reqLast r k then 64 else 0) + (if r.solicit ∧ reqLast r k then 4 else 0) + (if again then 2 else 0)

theorem ite_bit (c : Prop) [Decidable c] (v : Nat) : (if c then v else 0) = v * bit (decide c) := by
  by_cases h : c <;> simp [bit, h]

theorem decide_bit (b : Bool) : decide (bit b = 1) = b := by cases b <;> rfl

theorem reqFlags_bits (r : SReq) (k : Nat) (again enc : Bool) :
    bitN ((reqFlags r k again + 16 * bit enc) % 256) 7 = decide (k = 0) ∧
    bitN ((reqFlags r k again + 16 * bit enc) % 256) 1 = again := by
  have first := bit_lt (decide (k = 0))
  have last := bit_lt (reqLast r k)
  have solicit := bit_lt (decide (r.solicit = true ∧ reqLast r k = true))
  have resent := bit_lt again
  have sealed := bit_lt enc
  have bit7 : (reqFlags r k again + 16 * bit enc) % 256 / 2 ^ 7 % 2 = bit (decide (k = 0)) := by
    simp only [reqFlags, ite_bit, Bool.decide_eq_true]
    omega
  have bit1 : (reqFlags r k again + 16 * bit enc) % 256 / 2 ^ 1 % 2 = bit again := by
    simp only [reqFlags, ite_bit, Bool.decide_eq_true]
    omega
  rw [bitN, bitN, bit7, bit1, decide_bit, decide_bit]
  exact ⟨rfl, rfl⟩

/-- What drawing tokens and sealing leave of a queue pair. -/
def Drew (p y : Qp) : Prop := y = { p with rate := y.rate, rtoAt := y.rtoAt, progAt := y.progAt, cipher := y.cipher }

theorem txDraw_frame (s : State) (who : Option Nat) (bytes : Nat) : txDraw s who bytes = { s with insts := (txDraw s who bytes).insts } := by
  cases who <;> rfl

theorem paceDraw_leaves (qp : qpOf s n = some p) (len : Nat) :
    Sends s (paceDraw s n len) ∧ (paceDraw s n len).sys = s.sys ∧ ∃ y, qpOf (paceDraw s n len) n = some y ∧ Drew p y := by
  unfold paceDraw
  rw [qp]
  exact ⟨putQp_sends .., rfl, _, qpOf_putQp_self .., rfl⟩

/-- The device as packet `k` of a request leaves it, tokens drawn and a retransmission counted, before the frame. -/
def reqDrawn (s : State) (n : Nat) (p : Qp) (r : SReq) (k : Nat) (again : Bool) : State :=
  let s := txDraw (paceDraw s n (frameLen p (reqExt r k).length (reqPay p r k).length)) (chargeOf s p r.who) (reqPay p r k).length
  if again then accUp (linkStat s (curLink p) 4 1) (curLink p) (fun a => { a with retx := a.retx + 1 }) else s

theorem reqDrawn_leaves (qp : qpOf s n = some p) (r : SReq) (k : Nat) (again : Bool) :
    Sends s (reqDrawn s n p r k again) ∧ (reqDrawn s n p r k again).sys = s.sys ∧
    ∃ y, qpOf (reqDrawn s n p r k again) n = some y ∧ Drew p y := by
  obtain ⟨sends, sys, y, found, drew⟩ := paceDraw_leaves qp (frameLen p (reqExt r k).length (reqPay p r k).length)
  unfold reqDrawn
  generalize paceDraw s n (frameLen p (reqExt r k).length (reqPay p r k).length) = u at *
  have drawn : Sends u (txDraw u (chargeOf s p r.who) (reqPay p r k).length) := by
    rw [txDraw_frame]
    exact ⟨rfl, fun _ h => h⟩
  dsimp only
  cases again with
  | true =>
    rw [if_pos rfl]
    refine ⟨sends.trans (drawn.trans ((linkStat_sends ..).trans (accUp_sends ..))), ?_, y, ?_, drew⟩
    · rw [txDraw_frame]; exact sys
    · rw [txDraw_frame]; exact found
  | false =>
    rw [if_neg (by decide)]
    refine ⟨sends.trans drawn, ?_, y, ?_, drew⟩
    · rw [txDraw_frame]; exact sys
    · rw [txDraw_frame]; exact found

theorem chargeOf_rc (rc : p.kind = .rc) (s : State) (who : Waiter) : chargeOf s p who = some p.inst := if_pos rc

/-- A packet that pacing and the transmit bucket permit leaves. -/
theorem sendReq_goes {r : SReq} {k : Nat} (qp : qpOf s n = some p) (rc : p.kind = .rc)
    (pace : paceReady s p (frameLen p (reqExt r k).length (reqPay p r k).length) = true)
    (ready : txReady s (some p.inst) (reqPay p r k).length = true) (again : Bool) :
    ∃ t, sendReq s n p r k again = some t ∧ Sends s t ∧ t.sys = s.sys ∧ (∃ y, qpOf t n = some y ∧ Drew p y) ∧
      ∃ f, .frame f ∈ t.out ∧ Carries p r.op (reqFlags r k again) (psn r.first k) (reqExt r k) f := by
  obtain ⟨sends, sys, y, found, drew⟩ := reqDrawn_leaves qp r k again
  have goes : ∃ roc aux, sendReq s n p r k again =
      some (emitPkt (reqDrawn s n p r k again) n r.op (reqFlags r k again) (psn r.first k) roc aux 0 (reqExt r k) (reqPay p r k)) := by
    have free : ¬ ((!paceReady s p (frameLen p (reqExt r k).length (reqPay p r k).length)) = true ∨
        (!txReady s (chargeOf s p r.who) (reqPay p r k).length) = true) := by simp [chargeOf_rc rc, pace, ready]
    unfold sendReq
    exact ⟨_, _, if_neg free⟩
  obtain ⟨roc, aux, goes⟩ := goes
  refine ⟨_, goes, sends.trans (emitPkt_sends ..), (emitPkt_sys found).trans sys, ⟨_, emitPkt_qp found, ?_⟩, ?_⟩
  · rw [Drew, drew]
  · obtain ⟨f, sent, onLink, opcode, flagBits, number, clear⟩ := emitPkt_carries found
    refine ⟨f, sent, onLink.trans ?_, opcode, flagBits.trans ?_, number, clear⟩
    · rw [drew]; rfl
    · rw [drew]; rfl
end

end Sys2Proof.Machine
end

section
/-!
PROOFS. PACKET_TRANSMIT, one lemma for each kind of packet (spec file 10, R234, R239, R240, R256; R379).
-/
namespace Sys2Proof.Machine

section
variable {s w : State} {n k x : Nat} {p : Qp} {r : SReq} {rest : List Nat}

/-- A packet's frame length, where pacing and the transmit bucket permit the packet. -/
theorem reqReady_rc (rc : p.kind = .rc) (pace : paceReady w p (frameLen p (reqExt r k).length (reqPay p r k).length) = true)
    (ready : txReady w (some p.inst) (reqPay p r k).length = true) :
    reqReady w p r k = some (frameLen p (reqExt r k).length (reqPay p r k).length) := by
  simp [reqReady, lenReady, chargeOf_rc rc, pace, ready]

/-- The queue pair of the link may send paced packets now: CONNECTED, no control packet in front, no RNR_DELAY (R234, R240). -/
structure Flows (w : State) (p : Qp) : Prop where
  carried : sendable w (curLink p) = true
  connected : p.st = .connected
  noCtl : p.ctl = []
  noRnr : p.rnrUntil = none

theorem txNext_again (h : Flows w p) (again : p.retx = x :: rest) (place : reqAt p x = some (r, k)) (front : r.op ≠ 3 ∨ k = 0) :
    txNext w p = reqReady w p r k := by
  obtain ⟨carried, connected, noCtl, noRnr⟩ := h
  have whole : ¬ (r.op = 3 ∧ k ≠ 0) := by rintro ⟨read, later⟩; exact front.elim (· read) later
  simp [txNext, carried, connected, noCtl, noRnr, again, place, whole]

theorem txNext_new (h : Flows w p) (noRetx : p.retx = []) (noRsps : p.rsps = []) (more : d24 p.sndEnd p.sndNxt ≠ 0)
    (window : d24 p.sndNxt p.sndUna < 8192) (place : reqAt p p.sndNxt = some (r, k)) : txNext w p = reqReady w p r k := by
  obtain ⟨carried, connected, noCtl, noRnr⟩ := h
  simp [txNext, carried, connected, noCtl, noRnr, noRetx, noRsps, more, window, place]

theorem txNext_full (noRetx : p.retx = []) (noRsps : p.rsps = []) (full : 8192 ≤ d24 p.sndNxt p.sndUna) : txNext w p = none := by
  simp [txNext, noRetx, noRsps, full]

theorem txServe_ctl {c : Ctl} {ctl : List Ctl} (rc : p.kind = .rc) (front : p.ctl = c :: ctl) (w : State) (n : Nat) :
    txServe w n p = .next (sendCtl (putQp w n { p with ctl := ctl }) n c) := by
  have plain : p.kind ≠ .basin := by simp [rc]
  simp [txServe, front, needsMark_plain plain]

theorem txServe_again (h : Flows w p) (again : p.retx = x :: rest) (place : reqAt p x = some (r, k)) (front : r.op ≠ 3 ∨ k = 0)
    (n : Nat) : txServe w n p = onTurn w n p fun u => sendAgain u n rest r k := by
  have whole : ¬ (r.op = 3 ∧ k ≠ 0) := by rintro ⟨read, later⟩; exact front.elim (· read) later
  simp only [txServe, h.noCtl, again, place, whole, h.connected, h.noRnr]
  rfl

theorem txServe_rest (noCtl : p.ctl = []) (noRetx : p.retx = []) (w : State) (n : Nat) :
    txServe w n p = onTurn w n p fun u => .next (sendNew u n) := by
  simp only [txServe, noCtl, noRetx]

/-- PACKET_TRANSMIT of a control packet (R278). -/
theorem transmits_ctl {c : Ctl} {ctl : List Ctl} (qp : qpOf s n = some p) (rc : p.kind = .rc)
    (ok : sendable s (curLink p) = true) (front : p.ctl = c :: ctl) (runs : Runs s (engineOf s (curLink p))) :
    exec (.packetTransmit n) s = .next (ctlGone
      (advanceTo (putQp (wakeBlk s (engineOf s (curLink p))) n { p with ctl := ctl }) (p.ctlAt + 1)) n { p with ctl := ctl } c) := by
  have ok' : sendable (putQp (wakeBlk s (engineOf s (curLink p))) n { p with ctl := ctl }) (curLink p) = true :=
    (sendable_wakeBlk ..).trans ok
  rw [exec_packetTransmit_sends qp rc runs ok, txServe_ctl rc front, sendCtl_open (qpOf_putQp_self ..) ok']

/-- PACKET_TRANSMIT of a packet sent again (R240). -/
theorem sendAgain_goes (qp : qpOf w n = some p) (rc : p.kind = .rc)
    (pace : paceReady w p (frameLen p (reqExt r k).length (reqPay p r k).length) = true)
    (ready : txReady w (some p.inst) (reqPay p r k).length = true) (len : Nat) :
    ∃ t, sendAgain (drawTx w n p len) n rest r k = .next t ∧ Sends w t ∧ t.sys = w.sys ∧
      (∃ z, qpOf t n = some z ∧ Drew { p with served := true, retx := rest } z) ∧
      ∃ f, .frame f ∈ t.out ∧ Carries p r.op (reqFlags r k true) (psn r.first k) (reqExt r k) f := by
  have ready' : txReady (drawTx w n p len) (some p.inst) (reqPay p r k).length = true := (txReady_drawTx ..).trans ready
  obtain ⟨t, goes, sends, sys, moved, f, sent, onLink, opcode, flagBits, number, clear⟩ :=
    sendReq_goes (qpOf_putQp_self (drawTx w n p len) n { p with served := true, retx := rest }) (r := r) (k := k) rc pace ready' true
  refine ⟨t, ?_, (drawTx_sends ..).trans ((putQp_sends ..).trans sends), sys, moved, f, sent, onLink, opcode, flagBits, number, clear⟩
  simp only [sendAgain, drawTx_qp qp, goes]

/-- SND_NXT once a request's packet has left: a READ takes the PSNs of its responses (R236). -/
def sentOn (r : SReq) (y : Qp) : Qp :=
  let step := if r.op = 3 then r.count else 1
  { y with sndNxt := psn y.sndNxt step, sndRoc := if psn y.sndNxt step < y.sndNxt then y.sndRoc + 1 else y.sndRoc }

theorem sendNew_eq {u t : State} {y : Qp} (qp : qpOf u n = some y) (noRsps : y.rsps = []) (place : reqAt y y.sndNxt = some (r, k))
    (goes : sendReq u n y r k false = some t) : sendNew u n = { t with qps := Tab.modify t.qps n (sentOn r) } := by
  simp only [sendNew, qp, noRsps, place, Option.bind_some, goes, Option.map_some]
  rfl

/-- PACKET_TRANSMIT of the next new packet (R234). -/
theorem sendNew_goes (qp : qpOf w n = some p) (rc : p.kind = .rc) (noRsps : p.rsps = []) (place : reqAt p p.sndNxt = some (r, k))
    (pace : paceReady w p (frameLen p (reqExt r k).length (reqPay p r k).length) = true)
    (ready : txReady w (some p.inst) (reqPay p r k).length = true) (len : Nat) :
    Sends w (sendNew (drawTx w n p len) n) ∧ (sendNew (drawTx w n p len) n).sys = w.sys ∧
      (∃ z, qpOf (sendNew (drawTx w n p len) n) n = some (sentOn r z) ∧ Drew { p with served := true } z) ∧
      ∃ f, .frame f ∈ (sendNew (drawTx w n p len) n).out ∧ Carries p r.op (reqFlags r k false) (psn r.first k) (reqExt r k) f := by
  have ready' : txReady (drawTx w n p len) (some p.inst) (reqPay p r k).length = true := (txReady_drawTx ..).trans ready
  obtain ⟨t, goes, sends, sys, ⟨z, found, drew⟩, f, sent, onLink, opcode, flagBits, number, clear⟩ :=
    sendReq_goes (drawTx_qp qp len) (r := r) (k := k) rc pace ready' false
  rw [sendNew_eq (drawTx_qp qp len) noRsps place goes]
  exact ⟨(drawTx_sends ..).trans (sends.trans ⟨rfl, fun _ h => h⟩), sys, ⟨z, Tab.find_modify_self _ found, drew⟩,
    f, sent, onLink, opcode, flagBits, number, clear⟩
end

/-! ### A step that does not move device time -/

/-- What a packet without an instant of its own changes. -/
theorem Sends.still {s t : State} (h : Sends s t) (sys : t.sys = s.sys) : t = { s with
    insts := t.insts, qps := t.qps, links := t.links, linkStats := t.linkStats, wr := t.wr, out := t.out } := by
  have same : { s.sys with now := t.sys.now } = s.sys := by rw [sys]
  have frame := h.frame
  rw [same] at frame
  exact frame

end Sys2Proof.Machine
end

section
/-!
PROOFS. What a failing queue pair tells the waiters of its requests (spec file 10, R240; R20, R51, R246; assumption 105).
-/
namespace Sys2Proof.Machine

/-! ### A waiter is told (R240) -/

/-- What failing requests can change: entries finish, pieces and transfers end, queue pairs keep an acknowledgement that waits. -/
structure Tells (s t : State) : Prop where
  sys : t.sys = s.sys
  entry : ∀ {q i r}, inflOf s q i = some r → r.done.isSome = true → inflOf t q i = some r
  pair : ∀ {n p}, qpOf s n = some p → ∃ y, qpOf t n = some y ∧ y = { p with ctl := y.ctl, mirAck := y.mirAck }

theorem Tells.refl (s : State) : Tells s s := ⟨rfl, fun h _ => h, fun {_ p} h => ⟨p, h, rfl⟩⟩

theorem Tells.trans {s t u : State} (h : Tells s t) (k : Tells t u) : Tells s u := by
  refine ⟨k.sys.trans h.sys, fun found done => k.entry (h.entry found done) done, fun found => ?_⟩
  obtain ⟨y, mid, hy⟩ := h.pair found
  obtain ⟨z, last, hz⟩ := k.pair mid
  exact ⟨z, last, by rw [hz, hy]⟩

theorem tells_foldl {α : Type} {f : State → α → State} (h : ∀ s a, Tells s (f s a)) (l : List α) (s : State) :
    Tells s (l.foldl f s) := by
  induction l generalizing s with
  | nil => exact .refl s
  | cons a l ih => exact (h s a).trans (ih _)

/-- A state that differs only where no waiter's record and no queue pair stands. -/
theorem tells_of_eq {s t : State} (sys : t.sys = s.sys) (infl : t.infl = s.infl) (qps : t.qps = s.qps) : Tells s t :=
  ⟨sys, fun found _ => by rwa [inflOf, infl], fun {_ p} found => ⟨p, by rwa [qpOf, qps], rfl⟩⟩

section
variable {s : State} {q i n : Nat} {st : Byte} {r : Infl} {p : Qp}

theorem inflKey_of_found {d : Done} {j k : Nat} (other : inflKey j k ≠ inflKey q i) : inflOf (finish s j k d) q i = inflOf s q i := by
  unfold finish
  split
  · rfl
  · dsimp only
    split
    · rfl
    · exact Tab.find_put_ne _ _ _ _ (Ne.symm other)

theorem finish_tells (s : State) (j k : Nat) (d : Done) : Tells s (finish s j k d) := by
  have frame := finish_frame s j k d
  refine ⟨by rw [frame], fun {q i r} found done => ?_, fun {n p} found => ⟨p, by rw [frame]; exact found, rfl⟩⟩
  by_cases same : inflKey j k = inflKey q i
  · have found' : inflOf s j k = some r := by rwa [inflOf, same]
    rw [finish_again found' done]
    exact found
  · rw [inflKey_of_found same]
    exact found

theorem mirrorAnswer_tells {e kind : Nat} {status : Byte} (bad : st ≠ Status.ok) (s : State) (n : Nat) :
    Tells s (mirrorAnswer s n e kind status st) := by
  unfold mirrorAnswer
  split
  · exact .refl s
  · rename_i p found
    rw [if_pos bad]
    refine ⟨rfl, fun found _ => found, fun {m x} at_m => ?_⟩
    by_cases same : m = n
    · subst same
      obtain rfl : p = x := Option.some.inj (found.symm.trans at_m)
      exact ⟨_, qpOf_putQp_self .., rfl⟩
    · exact ⟨x, (qpOf_putQp_ne same).trans at_m, rfl⟩

theorem copyDone_tells (bad : st ≠ Status.ok) (s : State) (n : Nat) : Tells s (copyDone s n st) := by
  unfold copyDone
  split
  · exact .refl s
  · exact tells_of_eq rfl rfl rfl

theorem tellWaiter_tells {who : Waiter} {remote : Bool} {bytes : Nat} {data : Bytes} (bad : st ≠ Status.ok) (s : State) :
    Tells s (tellWaiter s who st remote bytes data) := by
  cases who with
  | entry q i => exact finish_tells ..
  | mirrorAck n e kind status => exact mirrorAnswer_tells bad s n
  | copy n => exact copyDone_tells bad s n
  | basinX => exact tells_of_eq rfl rfl rfl
  | culvert => exact tells_of_eq rfl rfl rfl
  | hdm => exact tells_of_eq rfl rfl rfl
  | nobody => exact .refl s

/-- A waiter that is not the entry does not touch its record. -/
theorem tellWaiter_infl {who : Waiter} {remote : Bool} {bytes : Nat} {data : Bytes} (bad : st ≠ Status.ok)
    (other : ∀ j k, who = .entry j k → inflKey j k ≠ inflKey q i) :
    inflOf (tellWaiter s who st remote bytes data) q i = inflOf s q i := by
  cases who with
  | entry j k => exact inflKey_of_found (other j k rfl)
  | mirrorAck n e kind status =>
    simp only [tellWaiter, mirrorAnswer]
    split
    · rfl
    · rw [if_pos bad]; rfl
  | copy n =>
    simp only [tellWaiter, copyDone]
    split
    · rfl
    · rfl
  | basinX => rfl
  | culvert => rfl
  | hdm => rfl
  | nobody => rfl

/-! ### The oldest request (R192, R240) -/

theorem reqSeq_entry {r : SReq} {j k : Nat} {e : Infl} (who : r.who = .entry j k) (found : Tab.find s.infl (inflKey j k) = some e) :
    reqSeq s r = e.seq := by
  have found : inflOf s j k = some e := found
  simp only [reqSeq, who, found]

/-- The oldest of some requests stands before every request that was accepted no later. -/
theorem oldest_foldl (s : State) (l : List SReq) (m r : SReq)
    (h : l.foldl (fun m x => if reqSeq s x < reqSeq s m then x else m) m = r) :
    ∃ before after, m :: l = before ++ r :: after ∧ ∀ x ∈ before, reqSeq s r < reqSeq s x := by
  induction l generalizing m with
  | nil =>
    cases h
    exact ⟨[], [], rfl, by simp⟩
  | cons a l ih =>
    rw [List.foldl_cons] at h
    by_cases older : reqSeq s a < reqSeq s m
    · rw [if_pos older] at h
      obtain ⟨before, after, list, younger⟩ := ih a h
      have least : reqSeq s r ≤ reqSeq s a := by
        cases before with
        | nil =>
          obtain ⟨rfl, -⟩ := List.cons.inj list
          exact Nat.le_refl _
        | cons b before =>
          obtain ⟨rfl, -⟩ := List.cons.inj list
          exact Nat.le_of_lt (younger a (List.mem_cons_self ..))
      refine ⟨m :: before, after, by rw [list]; rfl, fun x mem => ?_⟩
      rcases List.mem_cons.1 mem with rfl | mem
      · exact Nat.lt_of_le_of_lt least older
      · exact younger x mem
    · rw [if_neg older] at h
      obtain ⟨before, after, list, younger⟩ := ih m h
      cases before with
      | nil =>
        obtain ⟨rfl, rest⟩ := List.cons.inj list
        exact ⟨[], a :: l, rfl, by simp⟩
      | cons b before =>
        obtain ⟨rfl, rest⟩ := List.cons.inj list
        refine ⟨m :: a :: before, after, by rw [rest]; rfl, fun x mem => ?_⟩
        have ahead := younger m (List.mem_cons_self ..)
        rcases List.mem_cons.1 mem with rfl | mem
        · exact ahead
        · rcases List.mem_cons.1 mem with rfl | mem
          · exact Nat.lt_of_lt_of_le ahead (Nat.le_of_not_lt older)
          · exact younger x (List.mem_cons_of_mem _ mem)

theorem oldestReq_split {l : List SReq} {r : SReq} (h : oldestReq s l = some r) :
    ∃ before after, l = before ++ r :: after ∧ ∀ x ∈ before, reqSeq s r < reqSeq s x := by
  cases l with
  | nil => cases h
  | cons m l => exact oldest_foldl s l m r (Option.some.inj h)
end

/-! ### A queue pair enters ERROR (R240) -/

/-- An outstanding request of a failing queue pair: the oldest carries the cause, or every one. -/
def tellFailed (st : Byte) (all remote : Bool) (first : Option SReq) (s : State) (r : SReq) : State :=
  let c : Bool := all || some r = first
  tellWaiter s r.who (if c then st else Status.flushed) (c && remote) 0 []

/-- The queue pair in ERROR. -/
def failedQp (p : Qp) (st : Byte) : Qp := { p with st := .error, errStatus := st, reqs := [], retx := [], rsps := [], cur := none }

section
variable {s : State} {q i n : Nat} {st : Byte} {p : Qp} {all remote : Bool} {first : Option SReq}

theorem tellFailed_tells (bad : st ≠ Status.ok) (s : State) (r : SReq) : Tells s (tellFailed st all remote first s r) := by
  refine tellWaiter_tells ?_ s
  split
  · exact bad
  · decide

theorem tellFailed_infl {r : SReq} (bad : st ≠ Status.ok) (other : ∀ j k, r.who = .entry j k → inflKey j k ≠ inflKey q i) :
    inflOf (tellFailed st all remote first s r) q i = inflOf s q i := by
  refine tellWaiter_infl ?_ other
  split
  · exact bad
  · decide

theorem flushQueues_tells (s : State) (n : Nat) (cause : Option (Byte × Bool)) : Tells s (flushQueues s n cause) := by
  refine tells_foldl (fun s w => ?_) _ s
  dsimp only
  split
  · refine .trans ?_ (tells_foldl (fun s r => finish_tells ..) _ _)
    split
    · exact finish_tells ..
    · exact .refl s
  · exact .refl s

/-- The requests' waiters are told first. -/
def requestsTold (s : State) (n : Nat) (p : Qp) (st : Byte) (remote : Bool) : State :=
  (p.reqs.filter (fun r => !reqDone p r)).foldl
    (tellFailed st (st = Status.epochMismatch || st = Status.remoteAbort) remote (oldestReq s (p.reqs.filter (fun r => !reqDone p r))))
    (putQp s n (failedQp p st))

/-- A bound group learns of its queue pair's end (R331). -/
def groupLearns (s : State) (p : Qp) (st : Byte) : State :=
  match p.group with
  | none => s
  | some g => { s with groups := Tab.modify s.groups g (fun x =>
      { x with inbox := x.inbox ++ [{ rank := p.member, kind := 4, slot := 0, arg := st.toNat, sig := 0, data := [] }] }) }

theorem groupLearns_tells (s : State) (p : Qp) (st : Byte) : Tells s (groupLearns s p st) := by
  unfold groupLearns
  split
  · exact .refl s
  · exact tells_of_eq rfl rfl rfl

/-- Then the queues are flushed and a bound group learns of it. -/
theorem qpError_eq (qp : qpOf s n = some p) (alive : p.st ≠ .error ∧ p.st ≠ .free) (st : Byte) (remote : Bool) :
    qpError s n st remote = groupLearns (flushQueues (requestsTold s n p st remote) n
      (if p.reqs.filter (fun r => !reqDone p r) = [] then some (st, remote) else none)) p st := by
  unfold qpError
  rw [qp]
  exact if_neg (not_or.2 alive)

theorem qpError_tells (qp : qpOf s n = some p) (alive : p.st ≠ .error ∧ p.st ≠ .free) (st : Byte) (remote : Bool) :
    Tells (requestsTold s n p st remote) (qpError s n st remote) := by
  rw [qpError_eq qp alive]
  exact (flushQueues_tells ..).trans (groupLearns_tells ..)

theorem DoneAs.of_tells {s t : State} {d : Done} (h : Tells s t) (done : DoneAs s q i d) : DoneAs t q i d := by
  obtain ⟨r, found, done⟩ := done
  exact ⟨r, h.entry found (by rw [done]; rfl), done⟩

/-- A waiter told of the cause is finished with it. -/
theorem tellFailed_done {r : SReq} {e : Infl} (who : r.who = .entry q i) (found : inflOf s q i = some e) (unfinished : e.done = none) :
    DoneBad (tellFailed st all false (some r) s r) q i st := by
  have cause : tellFailed st all false (some r) s r = finishSt s q i st := by
    simp only [tellFailed, who, decide_true, Bool.or_true, if_true, Bool.and_false, tellWaiter]
    rfl
  rw [cause]
  exact finishSt_done st found unfinished

/-- The entry of the oldest incomplete request ends with the cause (R240). -/
theorem requestsTold_done {r : SReq} {e : Infl} (bad : st ≠ Status.ok) (oldest : OldestIs s p r q i e) :
    DoneBad (requestsTold s n p st false) q i st := by
  obtain ⟨first, who, only, found, unfinished⟩ := oldest
  obtain ⟨before, after, list, younger⟩ := oldestReq_split first
  have seq : reqSeq s r = e.seq := reqSeq_entry who found
  have apart : ∀ x ∈ before, ∀ j k, x.who = .entry j k → inflKey j k ≠ inflKey q i := by
    intro x mem j k entry same
    have ahead := younger x mem
    rw [seq, reqSeq_entry entry (by rw [same]; exact found)] at ahead
    exact Nat.lt_irrefl _ ahead
  unfold requestsTold
  rw [first, list, List.foldl_append, List.foldl_cons]
  refine DoneAs.of_tells (tells_foldl (tellFailed_tells bad) after _) (tellFailed_done who ?_ unfinished)
  have kept (l : List SReq) (u : State) (sub : ∀ x ∈ l, x ∈ before) (all : Bool) (first : Option SReq) :
      inflOf (l.foldl (tellFailed st all false first) u) q i = inflOf u q i := by
    induction l generalizing u with
    | nil => rfl
    | cons x l ih =>
      rw [List.foldl_cons, ih _ fun y mem => sub y (List.mem_cons_of_mem _ mem)]
      exact tellFailed_infl bad (apart x (sub x (List.mem_cons_self ..)))
  rw [kept before _ fun _ mem => mem]
  exact found

/-- The queue pair itself, and the device time. -/
theorem qpError_leaves (qp : qpOf s n = some p) (alive : p.st ≠ .error ∧ p.st ≠ .free) (bad : st ≠ Status.ok) (remote : Bool) :
    (qpError s n st remote).sys = s.sys ∧
    ∃ y, qpOf (qpError s n st remote) n = some y ∧ y.st = .error ∧ y.errStatus = st ∧ y.reqs = [] := by
  have tells : Tells (putQp s n (failedQp p st)) (qpError s n st remote) :=
    (tells_foldl (tellFailed_tells bad) _ _).trans (qpError_tells qp alive st remote)
  obtain ⟨y, found, rest⟩ := tells.pair (qpOf_putQp_self s n (failedQp p st))
  exact ⟨tells.sys, y, found, by rw [rest]; rfl, by rw [rest]; rfl, by rw [rest]; rfl⟩
end

end Sys2Proof.Machine
end

section
/-!
PROOFS. The timers of a queue pair: acknowledgement delay, RTO, RNR_DELAY, RETRY_TIME, FAILOVER_TIME and the repeat of a RESYNC (spec
file 10, R238, R240, R242, R244).
-/
namespace Sys2Proof.Machine

section
variable {s : State} {n l d : Nat} {p : Qp}

theorem exec_ackDelayExpiry_acks (qp : qpOf s n = some p) (connected : p.st = .connected) (owed : p.unackedAt = some d) :
    exec (.ackDelayExpiry n) s = .next (sendAck (advanceTo s (d + fld p.ack 15 8 * 1000)) n 0 0) := by
  simp [execAckDelayExpiry, qp, owed, connected, ackPoint]

/-- A queue pair whose RTO expired retransmits all that is missing, and doubles its RTO (R240). -/
def timedOut (now : Nat) (p : Qp) : Qp :=
  { p with retx := unanswered p ++ missing p, rtoAt := now, rtoNow := min (qRtoMax p) (2 * p.rtoNow), rate.loss := true }

theorem exec_rtoExpiry_resends (qp : qpOf s n = some p) (connected : p.st = .connected)
    (flight : p.sndUna ≠ p.sndNxt ∨ unanswered p ≠ []) (noRnr : p.rnrUntil = none)
    (carried : (link s (curLink p)).up = false ∨ sendable s (curLink p) = true) :
    exec (.rtoExpiry n) s = .next (putQp (linkStat (advanceTo s (p.rtoAt + p.rtoNow)) (curLink p) 7 1) n
      (timedOut (linkStat (advanceTo s (p.rtoAt + p.rtoNow)) (curLink p) 7 1).sys.now p)) := by
  have due : ¬ (p.st ≠ .connected ∨ (p.sndUna = p.sndNxt ∧ unanswered p = []) ∨ p.rnrUntil.isSome = true ∨
      ((link s (curLink p)).up = true ∧ (!sendable s (curLink p)) = true)) := by
    rintro (other | ⟨none, answered⟩ | rnr | ⟨up, held⟩)
    · exact other connected
    · exact flight.elim (· none) (· answered)
    · simp [noRnr] at rnr
    · rcases carried with down | ok
      · simp [down] at up
      · simp [ok] at held
  simp only [exec_rtoExpiry, execRtoExpiry, qp]
  exact if_neg due

/-- A queue pair whose RNR_DELAY ended begins again at the FIRST packet of its oldest request (R240). -/
def rnrEnded (now : Nat) (p : Qp) : Qp :=
  { p with rnrUntil := none, retx := (List.range (d24 p.sndNxt p.sndUna)).map (psn p.sndUna), rtoAt := now }

theorem exec_rnrDelayExpiry_ends (qp : qpOf s n = some p) (waits : p.rnrUntil = some d) :
    exec (.rnrDelayExpiry n) s = .next (putQp (advanceTo s d) n (rnrEnded (advanceTo s d).sys.now p)) := by
  simp only [exec_rnrDelayExpiry, execRnrDelayExpiry, qp, waits]
  rfl

theorem exec_retryTimeExpiry_fails (qp : qpOf s n = some p) (connected : p.st = .connected) (flight : p.sndUna ≠ p.sndNxt) :
    exec (.retryTimeExpiry n) s = .next (qpError (advanceTo s (p.progAt + qRetryNs p)) n Status.retryExceeded false) := by
  simp only [exec_retryTimeExpiry, execRetryTimeExpiry, qp]
  exact if_pos ⟨connected, flight⟩

/-- The device when a RESYNC is due again. -/
def repeatDue (s : State) (n : Nat) (p : Qp) : State :=
  putQp (advanceTo s (p.resyncAt + qRtoMax p)) n { p with resyncAt := max s.sys.now (p.resyncAt + qRtoMax p) }

theorem exec_resyncRepeat_repeats (qp : qpOf s n = some p) (resyncing : p.st = .resyncing) :
    exec (.resyncRepeat n) s = .next (sendCtl (repeatDue s n p) n { op := 0x12, kind := 0, status := 0, psn := p.epsn }) := by
  simp only [exec_resyncRepeat, execResyncRepeat, qp]
  exact if_neg (not_not.2 resyncing)

/-- A control packet does not move device time back. -/
theorem sendCtl_now (s : State) (n : Nat) (c : Ctl) : s.sys.now ≤ (sendCtl s n c).sys.now := by
  cases qp : qpOf s n with
  | none => simp only [sendCtl, qp, Nat.le_refl]
  | some p =>
    cases ok : sendable s (curLink p) with
    | true =>
      rw [sendCtl_open qp ok, ctlGone_sys, advanceTo_now]
      exact Nat.le_max_left ..
    | false =>
      rw [sendCtl_held qp ok]
      split
      · exact Nat.le_refl _
      · rw [workArrives_frame]
        exact Nat.le_refl _

/-- A queue pair that changes its link resumes there (R242, R244). -/
theorem moveLink_resumes (qp : qpOf s n = some p) :
    ∃ y, qpOf (moveLink s n) n = some y ∧ y.st = .resyncing ∧ y.onAlt = !p.onAlt ∧ y.epoch = p.epoch ∧ y.reqs = p.reqs := by
  have moves : moveLink s n = startResync (putQp s n { p with onAlt := !p.onAlt }) n := by simp only [moveLink, qp]
  rw [moves, startResync, qpOf_putQp_self]
  dsimp only
  obtain ⟨y, found, spoke⟩ := sendCtl_qp (qpOf_putQp_self _ n _) _
  exact ⟨y, found, by rw [spoke], by rw [spoke], by rw [spoke], by rw [spoke]⟩

/-- The only queue pair of a link that is down, or whose port failed, moves (R244). -/
theorem exec_failoverTimeExpiry_moves
    (down : (port s (l / 4)).failed = true ∨ ((link s l).up = false ∧ ((link s l).dorm = .down ∨ (link s l).dorm = .retrain)))
    (sole : s.qps = [(n, p)]) (here : curLink p = l) (first : p.onAlt = false) (alt : qAlt p = true) (connected : p.st = .connected) :
    ∃ u, exec (.failoverTimeExpiry l) s = .next (moveLink u n) ∧ qpOf u n = some p := by
  have qp : qpOf s n = some p := by simp [qpOf, sole, Tab.find]
  have gone : ¬ ((!(port s (l / 4)).failed) = true ∧
      ((link s l).up = true ∨ (!((link s l).dorm = .down || (link s l).dorm = .retrain)) = true)) := by
    rcases down with failed | ⟨off, dorm⟩
    · simp [failed]
    · rcases dorm with dorm | dorm <;> simp [off, dorm]
  have moves : ¬ (curLink p ≠ l ∨ p.onAlt = true ∨ (!qAlt p) = true ∨ (!(p.st = .connected || p.st = .resyncing)) = true) := by
    simp [here, first, alt, connected]
  simp only [exec_failoverTimeExpiry, execFailoverTimeExpiry]
  rw [if_neg gone]
  simp only [sole, List.foldl_cons, List.foldl_nil, qp]
  rw [if_neg moves]
  split
  · exact ⟨s, rfl, qp⟩
  · exact ⟨_, rfl, qp⟩
end

end Sys2Proof.Machine

namespace Sys2Proof
open Sys2Proof.Machine

/-- Settles O43, one case per clause. -/
theorem queuePairsTransmitAndTimeOut : Obligations.QueuePairsTransmitAndTimeOut := by
  unfold Obligations.QueuePairsTransmitAndTimeOut
  refine ⟨?ctl, ?new, ?again, ?full, ?turn, ?asleep, ?ackDelay, ?rto, ?rnr, ?retry, ?failover, ?resync⟩
  case ctl =>
    intro s n p c rest qp rc ok front runs
    have clk := wakeBlk_clk s (engineOf s (curLink p))
    refine .of _ (transmits_ctl qp rc ok front runs) ⟨?_, ⟨_, ctlGone_qp .., rfl, rfl, rfl⟩, ?_, ?_⟩
    · obtain ⟨f, sent, carries⟩ := ctlGone_carries _ n { p with ctl := rest } c
      exact ⟨f, sent, carries.onLink, carries.opcode⟩
    · rw [ctlGone_sys, advanceTo_now, clk]
      rfl
    · have sends : Sends (wakeBlk s (engineOf s (curLink p))) _ := (putQp_sends _ n { p with ctl := rest }).trans <|
        (advanceTo_sends _ (p.ctlAt + 1)).trans (ctlGone_sends _ n { p with ctl := rest } c)
      have sys : (wakeBlk s (engineOf s (curLink p))).sys = s.sys := by rw [clk]
      have frame := sends.frame
      rw [sys] at frame
      exact frame
  case new =>
    intro s n p r k qp rc connected ok noCtl noRnr noRetx noRsps more window place pace ready runs turn
    have flows : Flows (wakeBlk s (engineOf s (curLink p))) p := ⟨(sendable_wakeBlk ..).trans ok, connected, noCtl, noRnr⟩
    have pace' := (paceReady_wakeBlk s (engineOf s (curLink p)) p _).trans pace
    have ready' := (txReady_wakeBlk s (engineOf s (curLink p)) _ _).trans ready
    have next := (txNext_new flows noRetx noRsps more window place).trans (reqReady_rc rc pace' ready')
    obtain ⟨sends, sys, ⟨z, found, drew⟩, f, sent, carries⟩ :=
      sendNew_goes ((qpOf_wakeBlk ..).trans qp) rc noRsps place pace' ready' (frameLen p (reqExt r k).length (reqPay p r k).length)
    obtain ⟨first, resent⟩ := reqFlags_bits r k false (qEnc p)
    refine .of _ ?_ ⟨⟨f, sent, carries.onLink, carries.opcode, ?_, ?_, ?_⟩, ⟨_, found, ?_⟩, sends.still sys⟩
    · rw [exec_packetTransmit_sends qp rc runs ok, txServe_rest noCtl noRetx, onTurn_goes next turn]
    · rw [carries.number, psn, Nat.mod_mod]
    · rw [carries.flagBits, first]
    · rw [carries.flagBits, resent]
    · rw [drew]
      exact ⟨rfl, rfl, rfl, connected⟩
  case again =>
    intro s n p x rest r k qp rc connected ok noCtl noRnr again place front pace ready runs turn
    have flows : Flows (wakeBlk s (engineOf s (curLink p))) p := ⟨(sendable_wakeBlk ..).trans ok, connected, noCtl, noRnr⟩
    have pace' := (paceReady_wakeBlk s (engineOf s (curLink p)) p _).trans pace
    have ready' := (txReady_wakeBlk s (engineOf s (curLink p)) _ _).trans ready
    have next := (txNext_again flows again place front).trans (reqReady_rc rc pace' ready')
    obtain ⟨t, goes, sends, sys, ⟨z, found, drew⟩, f, sent, carries⟩ :=
      sendAgain_goes ((qpOf_wakeBlk ..).trans qp) rc pace' ready' (rest := rest) (frameLen p (reqExt r k).length (reqPay p r k).length)
    obtain ⟨-, resent⟩ := reqFlags_bits r k true (qEnc p)
    refine .of t ?_ ⟨⟨f, sent, carries.opcode, ?_, ?_⟩, ⟨z, found, ?_⟩, sends.still sys⟩
    · rw [exec_packetTransmit_sends qp rc runs ok, txServe_again flows again place front, onTurn_goes next turn, goes]
    · rw [carries.number, psn, Nat.mod_mod]
    · rw [carries.flagBits, resent]
    · rw [drew]
      exact ⟨rfl, rfl, rfl⟩
  case full =>
    intro s n p qp rc connected noCtl noRetx noRsps full
    refine .of _ ?_ rfl
    by_cases runs : Runs s (engineOf s (curLink p))
    · rw [exec_packetTransmit_runs qp rc runs, txServe_rest noCtl noRetx, onTurn_waits fun len next => ?_, ite_self]
      rw [txNext_full noRetx noRsps full] at next
      cases next
    · exact exec_packetTransmit_held qp (Bool.not_eq_false _ ▸ runs)
  case turn =>
    intro s n p len qp rc noCtl noRetx next turn
    refine .of _ ?_ rfl
    by_cases runs : Runs s (engineOf s (curLink p))
    · rw [exec_packetTransmit_runs qp rc runs, txServe_rest noCtl noRetx, onTurn_waits fun other found => ?_, ite_self]
      rw [next] at found
      rwa [← Option.some.inj found]
    · exact exec_packetTransmit_held qp (Bool.not_eq_false _ ▸ runs)
  case asleep =>
    intro s n p qp held
    exact .of _ (exec_packetTransmit_held qp held) rfl
  case ackDelay =>
    intro s n p d qp rc connected owed ok
    have plain : p.kind ≠ .basin := by simp [rc]
    have qp' : qpOf (advanceTo s (d + fld p.ack 15 8 * 1000)) n = some p := qp
    obtain ⟨sends, ⟨y, found, spoke⟩, goes⟩ := sendAck_leaves qp' plain 0 0
    obtain ⟨⟨z, again, unacked, unackedAt⟩, f, sent, onLink, opcode, number, -⟩ := goes ok
    obtain rfl : y = z := Option.some.inj (found.symm.trans again)
    refine .of _ (exec_ackDelayExpiry_acks qp connected owed)
      ⟨⟨f, sent, onLink, opcode, number (by decide)⟩, ⟨y, found, unacked, unackedAt, ?_, ?_⟩, ((advanceTo_sends ..).trans sends).frame⟩
    · rw [spoke]; rfl
    · rw [spoke]; rfl
  case rto =>
    intro s n p qp connected flight noRnr carried
    exact .of _ (exec_rtoExpiry_resends qp connected flight noRnr carried)
      ⟨rfl, ⟨_, qpOf_putQp_self .., rfl, rfl, rfl, rfl, rfl⟩, rfl⟩
  case rnr =>
    intro s n p d qp waits
    exact .of _ (exec_rnrDelayExpiry_ends qp waits) ⟨rfl, ⟨_, qpOf_putQp_self .., rfl, rfl⟩, rfl⟩
  case retry =>
    intro s n p r q i e qp connected flight oldest
    have qp' : qpOf (advanceTo s (p.progAt + qRetryNs p)) n = some p := qp
    have alive : p.st ≠ .error ∧ p.st ≠ .free := by simp [connected]
    obtain ⟨sys, failed⟩ := qpError_leaves qp' alive (st := Status.retryExceeded) (by decide) false
    have oldest' : OldestIs (advanceTo s (p.progAt + qRetryNs p)) p r q i e := oldest
    exact .of _ (exec_retryTimeExpiry_fails qp connected flight)
      ⟨by rw [sys]; rfl, (requestsTold_done (by decide) oldest').of_tells (qpError_tells qp' alive _ _), failed⟩
  case failover =>
    intro s l down n p sole here first alt connected
    obtain ⟨u, moves, qp⟩ := exec_failoverTimeExpiry_moves down sole here first alt connected
    obtain ⟨y, found, resyncing, onAlt, -, reqs⟩ := moveLink_resumes qp
    exact .of _ moves ⟨y, found, by rw [onAlt, first]; rfl, resyncing, reqs⟩
  case resync =>
    intro s n p qp resyncing
    have due : qpOf (repeatDue s n p) n = some { p with resyncAt := max s.sys.now (p.resyncAt + qRtoMax p) } := qpOf_putQp_self ..
    have sends : Sends s (repeatDue s n p) := (advanceTo_sends ..).trans (putQp_sends ..)
    obtain ⟨y, found, spoke⟩ := sendCtl_qp due { op := 0x12, kind := 0, status := 0, psn := p.epsn }
    refine .of _ (exec_resyncRepeat_repeats qp resyncing)
      ⟨sendCtl_now (repeatDue s n p) n _, ⟨y, found, ?_, ?_, ?_, ?_⟩, (sends.trans (sendCtl_sends ..)).frame⟩
    · rw [spoke]; exact resyncing
    · rw [spoke]
    · rw [spoke]
    · rw [spoke]

end Sys2Proof
end

section
/-!
PROOFS. A frame reaches its queue pair: what the device and the queue pair are when an opened packet meets them (spec file 10, R227,
R235, R241, R250, R264, R281).
-/
namespace Sys2Proof.Machine

section
variable {s z : State} {l n op k : Nat} {f : Frame} {h : PktHdr} {p y : Qp} {c : Cipher} {ext pay : Bytes}

/-! ### The link counts the frame (R71, R250, R264) -/

theorem rxWake_clk (s : State) (l : Nat) : rxWake s l = { s with clk := (rxWake s l).clk } := by
  unfold rxWake
  rw [wakeBlk_clk (wakeBlk s (engineOf s l)), wakeBlk_clk s]

theorem frameFail_rxWake (s : State) (l : Nat) (f : Frame) : frameFail (rxWake s l) l f = frameFail s l f := by
  rw [rxWake_clk]
  rfl

theorem sendable_busy (s : State) (l b k : Nat) : sendable (putLink s l { link s l with busyAt := b }) k = sendable s k := by
  by_cases same : k = l
  · subst same
    simp only [sendable, link_putLink_self]
  · have other : link (putLink s l { link s l with busyAt := b }) k = link s k := by
      simp only [link, putLink, Tab.getD, Tab.find_put_ne _ _ _ _ same]
    simp only [sendable, other]

/-- What an arriving frame can change before its packet is looked at: it wakes its blocks and is counted. -/
structure Meets (s : State) (l : Nat) (z : State) : Prop where
  frame : z = { s with clk := (rxWake s l).clk, links := z.links, linkStats := z.linkStats, wr := z.wr, qps := z.qps }
  carries : ∀ k, sendable z k = sendable s k

theorem rxCounted_meets (s : State) (l : Nat) (f : Frame) : Meets s l (rxCounted s l f) ∧ (rxCounted s l f).qps = s.qps := by
  have clk := rxWake_clk s l
  refine ⟨⟨?_, fun k => ?_⟩, ?_⟩
  · unfold rxCounted
    rw [clk]
    rfl
  · refine (sendable_busy (rxWake s l) l (rxWake s l).sys.now k).trans ?_
    rw [clk]
    rfl
  · simp only [rxCounted, accUp, linkStat_qps, putLink_qps]
    rw [clk]

theorem Meets.putQp (m : Meets s l z) (n : Nat) (p : Qp) : Meets s l (putQp z n p) := by
  refine ⟨?_, m.carries⟩
  conv_lhs => rw [m.frame]
  rfl

theorem Meets.counted (m : Meets s l z) (g : MapAcc → MapAcc) : Meets s l (accUp (weirStat z l 0) l g) := by
  refine ⟨?_, m.carries⟩
  conv_lhs => rw [m.frame]
  rfl

/-- A CE mark is noted in the queue pair, and counted (R227). -/
theorem noteCe_meets (m : Meets s l z) (n : Nat) (p : Qp) (f : Frame) (h : PktHdr) :
    Meets s l (noteCe z l n p f h).1 ∧ (noteCe z l n p f h).2 = { p with ceSeen := (noteCe z l n p f h).2.ceSeen } := by
  unfold noteCe
  split
  · exact ⟨((m.putQp n { p with ceSeen := true }).counted fun a => { a with ce := a.ce + 1 } :), rfl⟩
  · exact ⟨m, rfl⟩

/-- The device and the queue pair that an opened packet meets. -/
structure Met (s : State) (l n : Nat) (p : Qp) (c : Cipher) (z : State) (y : Qp) : Prop where
  meets : Meets s l z
  pair : y = { p with ceSeen := y.ceSeen, cipher := c }
  qp : qpOf z n = some y

theorem rxMet_met (met : rxMet s l f n p c = (z, y)) : Met s l n p c z y := by
  obtain ⟨counted, -⟩ := rxCounted_meets s l f
  obtain ⟨meets, pair⟩ := noteCe_meets counted n p f (parseHdr f.hdr)
  obtain ⟨rfl, rfl⟩ := Prod.mk.inj met
  refine ⟨meets.putQp .., ?_, qpOf_putQp_self ..⟩
  conv_lhs => rw [pair]

/-! ### To the FIRST packet of a request (R235, R241) -/

theorem rxRow_reaches (reaches : RxReaches s l f) (row : getBE f.hdr 1 1 = op) :
    rxRow l f op none s = .next (arrive (rxWake s l) l f) := by
  obtain ⟨up, eth, cal, awake⟩ := reaches
  have served : reach s l f = arrive (rxWake s l) l f := by
    simp only [reach, eth, cal, awake, if_false, Bool.false_eq_true]
  rw [← served]
  exact if_pos ⟨.inr ⟨row, rfl⟩, up⟩

theorem arrive_data (rx : RxOpen s l f op n p c ext pay) (data : isCtl op = false) :
    arrive (rxWake s l) l f = dataPkt (rxCounted s l f) l n p f (parseHdr f.hdr) := by
  obtain ⟨-, routed, row, good, dest, qp, connected, src, sqpn, -, -⟩ := rx
  have found : qpOf (rxCounted s l f) n = some p := by
    rw [qpOf, (rxCounted_meets s l f).2]
    exact qp
  have fits : ¬ (f.src ≠ p.peer ∨ (parseHdr f.hdr).sqpn ≠ p.dqpn ∨ f.routed ≠ qRouted p) := by simp [src, sqpn, routed]
  have noCtl : ¬ isCtl (parseHdr f.hdr).op = true := by
    rw [show (parseHdr f.hdr).op = op from row, data]
    decide
  unfold rxCounted at found
  simp only [arrive, frameFail_rxWake, good, found, connected, if_neg fits, if_neg noCtl, dest]
  rfl

theorem d24_self (a : Nat) : d24 a a = 0 := by
  unfold d24
  omega

theorem requestPkt_first (idle : y.cur = none) (inOrder : h.psn = y.epsn) (first : hFirst h = true)
    (opened : openPkt y f h = some (c, ext, pay)) :
    requestPkt s l n y f h = firstPkt s l n y f h (some (c, ext, pay)) := by
  simp [requestPkt, opened, idle, inOrder, d24_self, first]

/-- A request packet that opens, in order and FIRST, meets its checks (R235, R241). -/
theorem rx_first (rx : RxOpen s l f op n p c ext pay) (new : RxNew s l f n p) (data : isCtl op = false) (request : op ≠ 4 ∧ op ≠ 9) :
    rxRow l f op none s = .next (firstPkt (noteCe (rxCounted s l f) l n p f (parseHdr f.hdr)).1 l n
      (noteCe (rxCounted s l f) l n p f (parseHdr f.hdr)).2 f (parseHdr f.hdr) (some (c, ext, pay))) := by
  rw [rxRow_reaches rx.1 rx.2.2.1, arrive_data rx data]
  obtain ⟨-, -, row, -, -, -, -, -, -, epoch, opened⟩ := rx
  obtain ⟨idle, inOrder, first, -, -⟩ := new
  obtain ⟨-, pair⟩ := noteCe_meets (rxCounted_meets s l f).1 n p f (parseHdr f.hdr)
  have row : (parseHdr f.hdr).op = op := row
  have response : ¬ ((parseHdr f.hdr).op = 4 ∨ (parseHdr f.hdr).op = 9) := by rw [row]; exact not_or.2 request
  unfold dataPkt
  generalize noteCe (rxCounted s l f) l n p f (parseHdr f.hdr) = w at pair ⊢
  have epoch' : ¬ (parseHdr f.hdr).epoch ≠ w.2.epoch := by rw [pair]; exact not_not.2 epoch
  simp only [if_neg epoch', if_neg response]
  refine congrArg _ (requestPkt_first ?_ ?_ first ?_)
  · rw [pair]; exact idle
  · rw [pair]; exact inOrder
  · rw [pair]; exact opened
end

end Sys2Proof.Machine
end

section
/-!
PROOFS. The FIRST packet of a request at an RC queue pair: its checks passed or not, its receive entry, its admission (spec file 10, R235,
R238, R241; spec file 8, R191, R212).
-/
namespace Sys2Proof.Machine

/-- The bytes that a FIRST packet of an opcode announces (R230). -/
def announced (op : Nat) (f : Frame) : Nat :=
  if op = 5 ∨ op = 6 then getBE f.ext 0 4 else if op = 7 ∨ op = 8 ∨ op = 0x15 then 8 else getBE f.ext 12 4

/-- The PSNs of the request it opens (R236). -/
def psnsOf (op : Nat) (p : Qp) (f : Frame) : Nat :=
  if op = 7 ∨ op = 8 ∨ op = 0x15 then 1 else psnCount (qSeg p) (announced op f)

section
variable {s u z : State} {l n op q i : Nat} {f : Frame} {p y : Qp} {c : Cipher} {ext pay : Bytes} {r : RReq} {e : Infl} {st : Byte}

/-! ### The device that the packet meets -/

theorem Met.leaving (m : Met s l n p c z y) (k : Nat) : leaving z k = leaving s k := by rw [m.meets.frame]; rfl

theorem Met.infl (m : Met s l n p c z y) : z.infl = s.infl := by rw [m.meets.frame]

theorem Met.recvEntry (m : Met s l n p c z y) (q : Nat) : recvEntry z q = recvEntry s q := by rw [m.meets.frame]; rfl

theorem Met.rqOf (m : Met s l n p c z y) (k : Nat) : rqOf z k = rqOf s k := by rw [m.meets.frame]; rfl

theorem Met.recvOwed (m : Met s l n p c z y) : recvOwed z y = recvOwed s p := by rw [m.meets.frame, m.pair]; rfl

/-- The record of a FIRST packet's checks: the device and queue pair once the packet is opened, and the row's answer. -/
theorem rx_opens (rx : RxOpen s l f op n p c ext pay) (new : RxNew s l f n p) (met : rxMet s l f n p c = (z, y))
    (data : isCtl op = false) (request : op ≠ 4 ∧ op ≠ 9) :
    ∃ Z Y, z = putQp Z n y ∧ y = { Y with cipher := c } ∧ firstOk Z n Y (parseHdr f.hdr) f = true ∧
      rxRow l f op none s = .next (firstPkt Z l n Y f (parseHdr f.hdr) (some (c, ext, pay))) := by
  obtain ⟨rfl, rfl⟩ := Prod.mk.inj met
  exact ⟨_, _, rfl, rfl, new.2.2.2.2, rx_first rx new data request⟩

theorem takeSlot_plain (plain : isGroup r.op r.raddr = false) (s : State) (p : Qp) : takeSlot s p r = s := by
  unfold takeSlot
  split
  · simp [plain]
  · rfl

/-- A SEND names no target (R241, check 3). -/
theorem targetFail_send (kind : y.kind = .rc) (send : op = 5 ∨ op = 6) (s : State) (a k len : Nat) :
    targetFail s y op a k len = (s, none) := by
  obtain rfl | rfl := send <;> simp [targetFail, isGroup, kind]

section
variable {Z : State} {Y : Qp} {h : PktHdr} (hz : z = putQp Z n y) (hy : y = { Y with cipher := c }) (ok : firstOk Z n Y h f = true)
include hz hy ok

/-- A request whose target fails its check is consumed with the status (R241, check 3). -/
theorem firstPkt_refused (stays : leaving z y.inst = false) (write : h.op = 1)
    (bad : targetFail z y 1 (getBE ext 0 8) (getBE ext 8 4) (getBE f.ext 12 4) = (u, some st)) :
    firstPkt Z l n Y f h (some (c, ext, pay)) = consumeReq u n (psnCount (qSeg y) (getBE f.ext 12 4)) st := by
  subst hy hz
  simp [firstPkt, ok, write, stays, bad]
  rfl

/-- A MARK is applied (R246). -/
theorem firstPkt_mark (kind : y.kind = .mirror) (mark : h.op = 0x15) :
    firstPkt Z l n Y f h (some (c, ext, pay)) = applyMark z n y h ext := by
  subst hy hz
  simp [firstPkt, ok, mark, show Y.kind = .mirror from kind]

/-- A WRITE, READ_REQ or atomic whose target passes its check is admitted and takes effect (R212, R241). -/
theorem firstPkt_admitted (stays : leaving z y.inst = false) (row : h.op = op) (plain : op = 1 ∨ op = 3 ∨ op = 7 ∨ op = 8)
    (noGroup : isGroup op (getBE ext 0 8) = false)
    (good : targetFail z y op (getBE ext 0 8) (getBE ext 8 4) (announced op f) = (u, none))
    (req : r = { op := h.op, first := h.psn, count := psnsOf op y f, len := announced op f, raddr := getBE ext 0 8, rkey := getBE ext 8 4,
                 imm := none, solicit := false, placed := [], target := none, rq := none, data := [], adm := 0, spans := [] }) :
    firstPkt Z l n Y f h (some (c, ext, pay)) =
      applyFirst (rxAdmitted u n y r) l n (admitReq u n y r).2.1 (admitReq u n y r).2.2 f h ext pay := by
  have served : firstPkt Z l n Y f h (some (c, ext, pay)) =
      (let x := admitReq (takeSlot u y r) n y r; applyFirst x.1 l n x.2.1 x.2.2 f h ext pay) := by
    subst hy hz req row
    obtain op | op | op | op := plain <;>
      simp [op, announced] at good <;> simp [firstPkt, ok, op, stays, good, announced, psnsOf] <;> rfl
  rw [served, takeSlot_plain (by rw [req, row]; exact noGroup)]
  rfl

/-! ### A request that consumes a receive entry (R191, R241) -/

/-- A WRITE_IMM whose target passes its check takes its receive entry. -/
theorem firstPkt_writeImm (stays : leaving z y.inst = false) (row : h.op = 2) (rq : rqOf z n = some q) (entry : recvEntry z q = some (i, e))
    (good : targetFail z y 2 (getBE ext 0 8) (getBE ext 8 4) (getBE f.ext 12 4) = (u, none))
    (req : r = { op := h.op, first := h.psn, count := psnCount (qSeg y) (getBE f.ext 12 4), len := getBE f.ext 12 4,
                 raddr := getBE ext 0 8, rkey := getBE ext 8 4, imm := none,
                 solicit := false, placed := [], target := none, rq := some (q, i), data := [], adm := 0, spans := [] }) :
    firstPkt Z l n Y f h (some (c, ext, pay)) =
      applyFirst (rxAdmitted u n y r) l n (admitReq u n y r).2.1 (admitReq u n y r).2.2 f h ext pay := by
  subst hy hz req
  simp [firstPkt, ok, row, stays, good, rq, entry]
  rfl

section
variable (kind : y.kind = .rc) (stays : leaving z y.inst = false) (row : h.op = 5 ∨ h.op = 6)
include kind stays row

/-- A SEND takes its receive entry, at whose address it is placed. -/
theorem firstPkt_send (rq : rqOf z n = some q) (entry : recvEntry z q = some (i, e)) (fits : getBE f.ext 0 4 ≤ entLen e.ent)
    (req : r = { op := h.op, first := h.psn, count := psnCount (qSeg y) (getBE f.ext 0 4), len := getBE f.ext 0 4,
                 raddr := 0, rkey := 0, imm := none, solicit := false, placed := [], target := some (entAddr e.ent), rq := some (q, i),
                 data := [], adm := 0, spans := [] }) :
    firstPkt Z l n Y f h (some (c, ext, pay)) = applyFirst (rxAdmitted z n y r) l n (admitReq z n y r).2.1
      { (admitReq z n y r).2.2 with adm := e.adm.getD (admitReq z n y r).2.2.adm } f h ext pay := by
  have good := targetFail_send (op := h.op) kind row z 0 0 (getBE f.ext 0 4)
  subst hy hz req
  obtain row | row := row <;> rw [row] at good <;>
    simp [firstPkt, ok, row, stays, rq, entry, not_lt.2 fits, good] <;> rfl

/-- A SEND longer than its receive entry finishes it with BOUNDS and is consumed. -/
theorem firstPkt_short (rq : rqOf z n = some q) (entry : recvEntry z q = some (i, e)) (short : entLen e.ent < getBE f.ext 0 4)
    (written : recvOwed z y = false) :
    firstPkt Z l n Y f h (some (c, ext, pay)) = consumeReq (putQp (finishSt z q i Status.bounds) n { y with rqNext := inc32 i }) n
      (psnCount (qSeg y) (getBE f.ext 0 4)) Status.bounds := by
  have good := targetFail_send (op := h.op) kind row z 0 0 (getBE f.ext 0 4)
  subst hy hz
  obtain row | row := row <;> rw [row] at good <;>
    simp [firstPkt, ok, row, stays, rq, entry, short, written, good] <;> rfl

/-- A SEND with no receive entry is answered RNR (R240). -/
theorem firstPkt_noEntry (rq : rqOf z n = some q) (none : recvEntry z q = none) :
    firstPkt Z l n Y f h (some (c, ext, pay)) = sendAck z n 2 0 := by
  have good := targetFail_send (op := h.op) kind row z 0 0 (getBE f.ext 0 4)
  subst hy hz
  obtain row | row := row <;> rw [row] at good <;>
    simp [firstPkt, ok, row, stays, rq, none, good]
end
end
end

end Sys2Proof.Machine
end

section
/-!
PROOFS. A request that is one packet is placed and done: its payload, its receive entry, its acknowledgement (spec file 10, R235, R238, R239,
R241; spec file 8, R191).
-/
namespace Sys2Proof.Machine

section
variable {s t u v z : State} {l n q i k cnt : Nat} {f : Frame} {h : PktHdr} {p y : Qp} {r : RReq} {e : Infl} {st : Byte} {pay b : Bytes}

/-! ### The receive entry (R191) -/

/-- The receive entry that a send consumes is not finished. -/
theorem recvEntry_done (entry : recvEntry s q = some (i, e)) : e.done = none := by
  have every : ∀ x ∈ recvEntry s q, x.2.done = none := by
    unfold recvEntry
    refine List.foldlRecOn (motive := fun m : Option (Nat × Infl) => ∀ x ∈ m, x.2.done = none) _ _ (by simp) fun m good a _ => ?_
    split
    · exact good
    · have idle : a.2.done = none := by simp_all
      split
      · split
        · simpa using idle
        · exact good
      · simpa using idle
  exact every (i, e) entry

/-! ### One packet that is a whole request -/

/-- The request once its LAST packet has come (R229, R238). -/
def lastOf (r : RReq) (h : PktHdr) : RReq :=
  { r with imm := if h.op = 2 ∨ h.op = 6 then some h.aux else r.imm, solicit := r.solicit || bitN h.flags 2 }

/-- The queue pair once a request of one packet is placed (R235, R238, R239, R251). -/
def wholeQp (now : Nat) (p : Qp) (r : RReq) (h : PktHdr) : Qp :=
  { moveEpsn { p with cur := none } 1 with
    echoTs := if h.op ≠ 2 ∧ h.op ≠ 6 then h.aux else p.echoTs, echoAt := if h.op ≠ 2 ∧ h.op ≠ 6 then some now else p.echoAt,
    unacked := p.unacked + 1, unackedAt := some (p.unackedAt.getD now), recv := if r.rq.isSome then recvRec r else p.recv,
    rqNext := match r.rq with | some (_, i) => inc32 i | none => p.rqNext }

theorem d24_psn (a : Nat) : d24 (psn a 1) a = 1 := by
  unfold d24 psn
  omega

section
variable (count : r.count = 1) (fresh : r.placed = [])
include count fresh

theorem wouldConsume_whole (first : r.first = p.epsn) : wouldConsume p r 0 = r.rq.isSome := by
  simp [wouldConsume, fresh, count, first, d24_self, leading]

/-- The only packet of a request completes it. -/
theorem placed_whole (first : r.first = p.epsn) (inOrder : h.psn = p.epsn) (last : hLast h = true) (bytes : Nat) :
    placed s n p r 0 h bytes = ackPoint (requestDone (putQp (rxCount (notePlaced s n (pathOf s p r.raddr) bytes) p bytes) n
      (wholeQp s.sys.now p r h)) p { r with placed := [0] }) n := by
  have lead : leading [0] 2 0 = 1 := rfl
  simp [placed, fresh, count, first, inOrder, d24_self, d24_psn, lead, last, moveEpsn]
  rfl
end

/-- The completion of a placed request's receive entry (R197, R238). -/
def completionOf (r : RReq) : Done :=
  { status := Status.ok, cflags := 4 * bit r.imm.isSome + 8 * bit r.solicit + 16 * bit (r.op = 2), detail := 0,
    bytes := if r.op = 2 then 0 else r.len, aux := r.imm.getD 0 }

theorem requestDone_plain (noGroup : isGroup r.op r.raddr = false) (noMap : isMap r.op r.raddr r.rkey = false) (rq : r.rq = none)
    (s : State) (p : Qp) : requestDone s p r = s := by
  simp [requestDone, noGroup, noMap, rq]

theorem requestDone_entry (noGroup : isGroup r.op r.raddr = false) (noMap : isMap r.op r.raddr r.rkey = false) (rq : r.rq = some (q, i))
    (s : State) (p : Qp) : requestDone s p r = finish s q i (completionOf r) := by
  simp [requestDone, noGroup, noMap, rq, completionOf]
  cases r.imm <;> rfl

/-! ### Its payload (R235, R237) -/

section
variable (count : r.count = 1) (fresh : r.placed = []) (first : r.first = p.epsn) (last : hLast h = true) (length : pay.length = r.len)
include count fresh first last length

/-- While the completion of the last receive entry is owed, a packet that would take another waits (R238). -/
theorem placePkt_held (rq : r.rq.isSome = true) (owed : recvOwed s p = true) : placePkt s l n p r 0 f h pay = holdFrame s l f := by
  simp [placePkt, count, length, last, wouldConsume_whole count fresh first, rq, owed]

/-- The payload of the only packet stands at the request's target. -/
theorem placePkt_whole (qp : qpOf s n = some p) (kind : p.kind = .rc) (free : r.rq = none ∨ recvOwed s p = false)
    (noGroup : isGroup r.op r.raddr = false) (noMap : isMap r.op r.raddr r.rkey = false)
    (written : writeMemAt (some r.adm) s p.inst (r.target.getD r.raddr) pay = .ok v b) :
    placePkt s l n p r 0 f h pay = placed v n p (lastOf r h) 0 h pay.length := by
  have passes : ¬ (wouldConsume p r 0 = true ∧ recvOwed s p = true) := by
    rw [wouldConsume_whole count fresh first]
    obtain rq | owed := free
    · simp [rq]
    · simp [owed]
  have kept : qpOf v n = some p := by
    rw [writeMemAt_ok written]
    exact qp
  have stored : putPayload s p (lastOf r h) 0 pay = .ok v b := by
    simp only [putPayload, kind, if_true, Nat.add_zero]
    exact written
  unfold lastOf at stored ⊢
  by_cases imm : h.op = 2 ∨ h.op = 6 <;> simp only [imm, if_true, if_false, count, fresh] at stored <;>
    simp [placePkt, count, length, last, passes, imm, fresh, noGroup, noMap, stored, kept]
end

/-! ### What a placed request leaves -/

/-- What was sent before and after an entry of a queue changed. -/
theorem Sends.around (h : Sends s u) (entry : v = { u with infl := v.infl }) (g : Sends v t) :
    t = { s with infl := t.infl, sys := { s.sys with now := t.sys.now }, qps := t.qps, links := t.links, linkStats := t.linkStats,
                 wr := t.wr, out := t.out, insts := t.insts } := by
  rw [g.frame, entry, h.frame]

theorem rxCount_sends (s : State) (p : Qp) (bytes : Nat) : Sends s (rxCount s p bytes) := sends_if (.refl s) (instStat_sends ..)

theorem notePlaced_sends (s : State) (n k bytes : Nat) : Sends s (notePlaced s n k bytes) := ⟨rfl, fun _ mem => mem⟩

/-- The device as a placement is counted, before its acknowledgement. -/
theorem counted_sends (s : State) (n k bytes : Nat) (p q : Qp) : Sends s (putQp (rxCount (notePlaced s n k bytes) p bytes) n q) :=
  (notePlaced_sends ..).trans <| (rxCount_sends ..).trans (putQp_sends ..)

section
variable (count : r.count = 1) (fresh : r.placed = []) (first : r.first = p.epsn) (inOrder : h.psn = p.epsn) (last : hLast h = true)
  (kind : p.kind = .rc) (noGroup : isGroup r.op r.raddr = false) (noMap : isMap r.op r.raddr r.rkey = false)
include count fresh first inOrder last kind noGroup noMap

/-- A WRITE of one packet is acknowledged (R238). -/
theorem placed_plain (rq : r.rq = none) (bytes : Nat) : Sends s (placed s n p r 0 h bytes) ∧
    ∃ y, qpOf (placed s n p r 0 h bytes) n = some y ∧ Spoke (ackedQp (wholeQp s.sys.now p r h)) y := by
  rw [placed_whole count fresh first inOrder last,
    requestDone_plain (r := { r with placed := [0] }) noGroup noMap rq]
  obtain ⟨sends, qp, -⟩ := sendAck_leaves (qpOf_putQp_self (rxCount (notePlaced s n (pathOf s p r.raddr) bytes) p bytes) n
    (wholeQp s.sys.now p r h)) (by rw [wholeQp, moveEpsn, kind]; decide) 0 0
  exact ⟨(counted_sends ..).trans sends, qp⟩

/-- A request of one packet that takes a receive entry finishes it (R191, R238). -/
theorem placed_entry (rq : r.rq = some (q, i)) (entry : inflOf s q i = some e) (unfinished : e.done = none) (bytes : Nat) :
    let t := placed s n p r 0 h bytes
    DoneAs t q i (completionOf r) ∧
    (∃ y, qpOf t n = some y ∧ Spoke (ackedQp (wholeQp s.sys.now p r h)) y) ∧
    t = { s with infl := t.infl, sys := { s.sys with now := t.sys.now }, qps := t.qps, links := t.links, linkStats := t.linkStats,
                 wr := t.wr, out := t.out, insts := t.insts } := by
  dsimp only
  rw [placed_whole count fresh first inOrder last,
    requestDone_entry (r := { r with placed := [0] }) noGroup noMap rq]
  have counted := counted_sends s n (pathOf s p r.raddr) bytes p (wholeQp s.sys.now p r h)
  have qp : qpOf (putQp (rxCount (notePlaced s n (pathOf s p r.raddr) bytes) p bytes) n (wholeQp s.sys.now p r h)) n =
    some (wholeQp s.sys.now p r h) := qpOf_putQp_self ..
  generalize putQp (rxCount (notePlaced s n (pathOf s p r.raddr) bytes) p bytes) n (wholeQp s.sys.now p r h) = w at counted qp ⊢
  have entry' : inflOf w q i = some e := by rw [inflOf, counted.infl]; exact entry
  have same : completionOf { r with placed := [0] } = completionOf r := rfl
  have done := finish_ok (d := completionOf r) entry' unfinished rfl
  have frame := finish_frame w q i (completionOf r)
  rw [same]
  generalize finish w q i (completionOf r) = x at done frame ⊢
  have kept : qpOf x n = some (wholeQp s.sys.now p r h) := by rw [frame]; exact qp
  obtain ⟨sends, leaves, -⟩ := sendAck_leaves kept (by rw [wholeQp, moveEpsn, kind]; decide) 0 0
  refine ⟨?_, leaves, ?_⟩
  · unfold DoneAs inflOf at done ⊢
    rw [ackPoint, sends.infl]
    exact done
  · exact counted.around frame sends
end
end

end Sys2Proof.Machine
end

section
/-!
PROOFS. WRITE, SEND, SEND_IMM and WRITE_IMM of one packet at their receiver (spec file 10, R235, R238, R240, R241).
-/
namespace Sys2Proof.Machine

section
variable {s t u v z Z : State} {l n q i k now a op : Nat} {f : Frame} {h : PktHdr} {p y x Y : Qp} {c : Cipher} {r : RReq} {e : Infl} {st : Byte}
  {ext pay b : Bytes}

/-! ### The request and its admission (R212, R236) -/

theorem Met.seg (m : Met s l n p c z y) : qSeg y = qSeg p := by rw [m.pair]; rfl

theorem Met.inst (m : Met s l n p c z y) : y.inst = p.inst := by rw [m.pair]

theorem Met.kind (m : Met s l n p c z y) : y.kind = p.kind := by rw [m.pair]

theorem Met.epsn (m : Met s l n p c z y) : y.epsn = p.epsn := by rw [m.pair]

theorem Met.state (m : Met s l n p c z y) : y.st = p.st := by rw [m.pair]

theorem Met.reqs (m : Met s l n p c z y) : y.reqs = p.reqs := by rw [m.pair]

theorem Met.curLink (m : Met s l n p c z y) : curLink y = curLink p := by rw [m.pair]; rfl

/-- A FIRST packet that is LAST too is the only one of its request (R229, R241). -/
theorem psns_one (ok : firstOk Z n Y h f = true) (last : hLast h = true) (data : h.op = 1 ∨ h.op = 2 ∨ h.op = 5 ∨ h.op = 6) :
    psnCount (qSeg Y) (announced h.op f) = 1 := by
  obtain row | row | row | row := data <;> simp [firstOk, row, last] at ok <;> simp [announced, row, ok]

/-- The only packet of a request is opened: the PSNs of the request, and the row's answer. -/
theorem rx_only (rx : RxOpen s l f op n p c ext pay) (new : RxNew s l f n p) (met : rxMet s l f n p c = (z, y))
    (data : op = 1 ∨ op = 2 ∨ op = 5 ∨ op = 6) :
    ∃ Z Y, z = putQp Z n y ∧ y = { Y with cipher := c } ∧ firstOk Z n Y (parseHdr f.hdr) f = true ∧
      rxRow l f op none s = .next (firstPkt Z l n Y f (parseHdr f.hdr) (some (c, ext, pay))) ∧ psnCount (qSeg p) (announced op f) = 1 := by
  have row : (parseHdr f.hdr).op = op := rx.2.2.1
  have request : isCtl op = false ∧ op ≠ 4 ∧ op ≠ 9 := by obtain rfl | rfl | rfl | rfl := data <;> decide
  obtain ⟨Z, Y, hz, hy, ok, answer⟩ := rx_opens rx new met request.1 request.2
  have one := psns_one ok new.2.2.2.1 (row ▸ data)
  rw [row, show qSeg Y = qSeg p by rw [← (rxMet_met met).seg, hy]; rfl] at one
  exact ⟨Z, Y, hz, hy, ok, answer, one⟩

/-- What the check of a target changes on an RC queue pair (R202, R213, R241). -/
theorem targetFail_rc {o : Option Byte} {len key addr : Nat} (kind : y.kind = .rc) (found : targetFail z y op addr key len = (u, o)) :
    ∃ keys log pages insts, u = { z with keys := keys, log := log, pages := pages, insts := insts } := by
  unfold targetFail at found
  rw [kind] at found
  split at found
  · exact ⟨_, _, _, _, (Prod.mk.inj found).1.symm⟩
  · split at found
    · exact ⟨_, _, _, _, (Prod.mk.inj found).1.symm⟩
    · dsimp only at found
      split at found
      · exact ⟨_, _, _, _, (Prod.mk.inj found).1.symm⟩
      · rw [← show (admitKey ..).1 = u from congrArg Prod.fst found]
        exact admitKey_frame ..

/-- An admitted request of one packet is placed. -/
theorem applyFirst_whole (data : r.op = 1 ∨ r.op = 2 ∨ r.op = 5 ∨ r.op = 6) (count : r.count = 1) (fresh : r.placed = [])
    (first : r.first = y.epsn) (last : hLast h = true) (length : pay.length = r.len) (kind : y.kind = .rc)
    (free : r.rq = none ∨ recvOwed u y = false) (noGroup : isGroup r.op r.raddr = false) (noMap : isMap r.op r.raddr r.rkey = false)
    (written : writeMemAt (some a) (rxAdmitted u n y r) y.inst (r.target.getD r.raddr) pay = .ok v b) :
    applyFirst (rxAdmitted u n y r) l n (admitReq u n y r).2.1 { (admitReq u n y r).2.2 with adm := a } f h ext pay =
      placed v n (admitReq u n y r).2.1 (lastOf { (admitReq u n y r).2.2 with adm := a } h) 0 h pay.length := by
  have data' : ¬ r.op = 3 ∧ ¬ (r.op = 7 ∨ r.op = 8) := by omega
  have place : applyFirst (rxAdmitted u n y r) l n (admitReq u n y r).2.1 { (admitReq u n y r).2.2 with adm := a } f h ext pay =
      placePkt (rxAdmitted u n y r) l n (admitReq u n y r).2.1 { (admitReq u n y r).2.2 with adm := a } 0 f h pay :=
    (if_neg data'.1).trans (if_neg data'.2)
  rw [place]
  exact placePkt_whole count fresh first last length (qpOf_putQp_self ..) kind free noGroup noMap written

/-! ### The queue pair of a placed request -/

/-- What the acknowledged record of a placed request holds. -/
theorem whole_record (spoke : Spoke (ackedQp (wholeQp now p r h)) x) :
    x.epsn = psn p.epsn 1 ∧ x.recEpsn = psn p.epsn 1 ∧ x.cur = none ∧ x.st = p.st ∧ x.reqs = p.reqs ∧
    x.rqNext = (wholeQp now p r h).rqNext ∧ x.recv = (wholeQp now p r h).recv := by
  rw [spoke]
  simp [ackedQp, recordQp, wholeQp, moveEpsn]

/-! ### An admitted request of one packet -/

section
variable (data : r.op = 1 ∨ r.op = 2 ∨ r.op = 5 ∨ r.op = 6) (count : r.count = 1) (fresh : r.placed = [])
  (first : r.first = y.epsn) (inOrder : h.psn = y.epsn) (last : hLast h = true) (length : pay.length = r.len) (kind : y.kind = .rc)
  (noGroup : isGroup r.op r.raddr = false) (noMap : isMap r.op r.raddr r.rkey = false)
  (written : writeMemAt (some a) (rxAdmitted u n y r) y.inst (r.target.getD r.raddr) pay = .ok v b)
  (place : t = applyFirst (rxAdmitted u n y r) l n (admitReq u n y r).2.1 { (admitReq u n y r).2.2 with adm := a } f h ext pay)
include data count fresh first inOrder last length kind noGroup noMap written place

theorem applied_plain (rq : r.rq = none) : Sends v t ∧ ∃ x, qpOf t n = some x ∧ x.epsn = psn y.epsn 1 ∧ x.recEpsn = psn y.epsn 1 ∧
    x.cur = none ∧ x.st = y.st ∧ x.reqs = y.reqs := by
  rw [applyFirst_whole data count fresh first last length kind (.inl rq) noGroup noMap written] at place
  subst place
  obtain ⟨sends, x, qp, spoke⟩ := placed_plain (s := v) (n := n) (p := (admitReq u n y r).2.1)
    (r := lastOf { (admitReq u n y r).2.2 with adm := a } h) count fresh first inOrder last kind noGroup noMap rq pay.length
  obtain ⟨epsn, recEpsn, cur, st, reqs, -, -⟩ := whole_record spoke
  exact ⟨sends, x, qp, epsn, recEpsn, cur, st, reqs⟩

theorem applied_entry (rq : r.rq = some (q, i)) (owed : recvOwed u y = false) (entry : inflOf v q i = some e) (unfinished : e.done = none) :
    DoneAs t q i (completionOf (lastOf r h)) ∧
    (∃ x, qpOf t n = some x ∧ x.epsn = psn y.epsn 1 ∧ x.cur = none ∧ x.rqNext = inc32 i ∧ x.recv = recvRec (lastOf r h)) ∧
    t = { v with infl := t.infl, sys := { v.sys with now := t.sys.now }, qps := t.qps, links := t.links, linkStats := t.linkStats,
                 wr := t.wr, out := t.out, insts := t.insts } := by
  rw [applyFirst_whole data count fresh first last length kind (.inr owed) noGroup noMap written] at place
  subst place
  obtain ⟨done, ⟨x, qp, spoke⟩, frame⟩ := placed_entry (s := v) (n := n) (p := (admitReq u n y r).2.1)
    (r := lastOf { (admitReq u n y r).2.2 with adm := a } h) count fresh first inOrder last kind noGroup noMap rq entry unfinished pay.length
  obtain ⟨epsn, -, cur, -, -, rqNext, recv⟩ := whole_record spoke
  refine ⟨done, ⟨x, qp, epsn, cur, rqNext.trans ?_, recv.trans ?_⟩, frame⟩
  · simp [wholeQp, lastOf, admitReq, rq]
  · simp [wholeQp, lastOf, admitReq, rq, recvRec]
end

/-! ### WRITE (R235, R241) -/

/-- A WRITE of one packet is placed at its target and acknowledged. -/
theorem rxWrite_places (rx : RxOpen s l f 1 n p c ext pay) (new : RxNew s l f n p) (met : rxMet s l f n p c = (z, y)) (kind : p.kind = .rc)
    (stays : leaving s p.inst = false) (noGroup : isGroup 1 (getBE ext 0 8) = false) (noMap : getBE ext 0 8 ≠ mapAddr)
    (length : pay.length = getBE f.ext 12 4)
    (good : targetFail z y 1 (getBE ext 0 8) (getBE ext 8 4) (getBE f.ext 12 4) = (u, none))
    (written : writeMemAt (some u.pieceClock) (rxAdmitted u n y (rxRequest f (psnCount (qSeg p) (getBE f.ext 12 4)) (getBE f.ext 12 4)
      (getBE ext 0 8) (getBE ext 8 4) none none)) p.inst (getBE ext 0 8) pay = .ok v b) :
    Answers (.rxWrite l f) s fun t =>
      (∃ y, qpOf t n = some y ∧ y.epsn = psn p.epsn 1 ∧ y.recEpsn = psn p.epsn 1 ∧ y.cur = none ∧ y.st = .connected ∧ y.reqs = p.reqs) ∧
      t = { v with sys := { v.sys with now := t.sys.now }, qps := t.qps, links := t.links, linkStats := t.linkStats, wr := t.wr,
                   out := t.out, insts := t.insts } := by
  have m := rxMet_met met
  obtain ⟨Z, Y, hz, hy, ok, answer, one⟩ := rx_only rx new met (.inl rfl)
  have op : (parseHdr f.hdr).op = 1 := rx.2.2.1
  obtain ⟨-, inOrder, -, last, -⟩ := new
  rw [← m.epsn] at inOrder
  set r := rxRequest f (psnCount (qSeg p) (getBE f.ext 12 4)) (getBE f.ext 12 4) (getBE ext 0 8) (getBE ext 8 4) none none with req
  have admitted := firstPkt_admitted (l := l) (pay := pay) (u := u) (r := r) hz hy ok (by rw [m.leaving, m.inst]; exact stays) op (.inl rfl)
    noGroup good (by rw [req, ← m.seg]; rfl)
  have opr : r.op = 1 := op
  obtain ⟨sends, x, qp, epsn, recEpsn, cur, st, reqs⟩ := applied_plain (.inl opr) one rfl inOrder inOrder last length (m.kind.trans kind)
    (by rw [opr]; exact noGroup) (by simp [isMap, req, rxRequest, noMap]) (by rw [m.inst]; exact written) admitted rfl
  rw [m.epsn] at epsn recEpsn
  exact .of _ answer ⟨⟨x, qp, epsn, recEpsn, cur, st.trans (m.state.trans rx.2.2.2.2.2.2.1), reqs.trans m.reqs⟩, sends.frame⟩

/-! ### SEND and SEND_IMM (R235, R238, R240) -/

section
variable (rx : RxOpen s l f op n p c ext pay) (new : RxNew s l f n p) (send : op = 5 ∨ op = 6) (kind : p.kind = .rc)
  (stays : leaving s p.inst = false) (rq : rqOf s n = some q) (entry : recvEntry s q = some (i, e))
include rx new send kind stays rq

section
variable (fits : getBE f.ext 0 4 ≤ entLen e.ent) (length : pay.length = getBE f.ext 0 4) (met : rxMet s l f n p c = (z, y))
include entry fits length met

omit length in
/-- A SEND of one packet finds its receive entry and is admitted. -/
theorem rxSend_admitted (req : r = rxRequest f (psnCount (qSeg p) (getBE f.ext 0 4)) (getBE f.ext 0 4) 0 0 (some (q, i)) (some (entAddr e.ent))) :
    r.count = 1 ∧ rxRow l f op none s = .next (applyFirst (rxAdmitted z n y r) l n (admitReq z n y r).2.1
      { (admitReq z n y r).2.2 with adm := e.adm.getD z.pieceClock } f (parseHdr f.hdr) ext pay) := by
  have m := rxMet_met met
  have row : (parseHdr f.hdr).op = op := rx.2.2.1
  obtain ⟨Z, Y, hz, hy, ok, answer, one⟩ := rx_only rx new met (by omega)
  have announces : announced op f = getBE f.ext 0 4 := if_pos send
  rw [announces] at one
  rw [firstPkt_send (r := r) hz hy ok (m.kind.trans kind) (by rw [m.leaving, m.inst]; exact stays) (by rw [row]; exact send)
    (by rw [m.rqOf]; exact rq) (by rw [m.recvEntry]; exact entry) fits (by rw [req, ← m.seg]; rfl)] at answer
  exact ⟨by rw [req]; exact one, answer⟩

/-- A SEND of one packet is placed at its receive entry, finishes it and is acknowledged. -/
theorem rxSend_places (free : recvOwed s p = false)
    (written : writeMemAt (some (e.adm.getD z.pieceClock)) (rxAdmitted z n y (rxRequest f (psnCount (qSeg p) (getBE f.ext 0 4))
      (getBE f.ext 0 4) 0 0 (some (q, i)) (some (entAddr e.ent)))) p.inst (entAddr e.ent) pay = .ok v b)
    (inflight : inflOf s q i = some e) (req : r = rxRequest f (psnCount (qSeg p) (getBE f.ext 0 4)) (getBE f.ext 0 4) 0 0 (some (q, i))
      (some (entAddr e.ent))) :
    ∃ t, rxRow l f op none s = .next t ∧ DoneAs t q i (completionOf (lastOf r (parseHdr f.hdr))) ∧
      (∃ x, qpOf t n = some x ∧ x.epsn = psn p.epsn 1 ∧ x.cur = none ∧ x.rqNext = inc32 i ∧
        x.recv = recvRec (lastOf r (parseHdr f.hdr))) ∧
      t = { v with infl := t.infl, sys := { v.sys with now := t.sys.now }, qps := t.qps, links := t.links, linkStats := t.linkStats,
                   wr := t.wr, out := t.out, insts := t.insts } := by
  have m := rxMet_met met
  obtain ⟨count, answer⟩ := rxSend_admitted rx new send kind stays rq entry fits met req
  obtain ⟨-, inOrder, -, last, -⟩ := new
  rw [← m.epsn] at inOrder ⊢
  have opr : r.op = op := by rw [req]; exact rx.2.2.1
  have noGroup : isGroup r.op r.raddr = false := by rw [opr]; obtain rfl | rfl := send <;> rfl
  have noMap : isMap r.op r.raddr r.rkey = false := by rw [opr]; obtain rfl | rfl := send <;> rfl
  have kept : inflOf v q i = some e := by
    rw [inflOf, writeMemAt_ok written]
    exact (congrArg (Tab.find · _) m.infl).trans inflight
  exact ⟨_, answer, applied_entry (by omega) count (by rw [req]; rfl) (by rw [req]; exact inOrder) inOrder last (by rw [req]; exact length)
    (m.kind.trans kind) noGroup noMap (by rw [m.inst, req]; exact written) rfl (by rw [req]; rfl) (by rw [m.recvOwed]; exact free) kept
    (recvEntry_done entry)⟩
end
end
end

end Sys2Proof.Machine
end

section
/-!
PROOFS. Requests that are not placed: refused, held, too long for their receive entry or without one; MARK (spec file 10, R235, R238,
R240, R241, R246).
-/
namespace Sys2Proof.Machine

section
variable {s t u v z Z : State} {l n q i k now a op : Nat} {f : Frame} {h : PktHdr} {p y x Y : Qp} {c : Cipher} {r : RReq} {e : Infl} {st : Byte}
  {ext pay b : Bytes}

/-! ### A request that is consumed (R241) -/

theorem sendable_links (same : t.links = s.links) (k : Nat) : sendable t k = sendable s k := by
  unfold sendable link
  rw [same]

/-- The rest of a request is consumed with a status, which the acknowledgement names. -/
theorem consumeReq_leaves (qp : qpOf s n = some p) (plain : p.kind ≠ .basin) (cnt : Nat) (st : Byte) :
    Sends s (consumeReq s n cnt st) ∧
    (∃ x, qpOf (consumeReq s n cnt st) n = some x ∧ x.epsn = psn p.epsn cnt ∧ x.cur = none ∧ x.rqNext = p.rqNext) ∧
    (sendable s (curLink p) = true → ∃ g, .frame g ∈ (consumeReq s n cnt st).out ∧ getBE g.hdr 1 1 = 0x10 ∧ g.ext.take 2 = [4, st]) := by
  have acks : consumeReq s n cnt st = sendAck (putQp s n (moveEpsn { p with cur := none } cnt)) n 4 st := by
    unfold consumeReq
    rw [qp]
  obtain ⟨sends, ⟨x, held, spoke⟩, sent⟩ :=
    sendAck_leaves (qpOf_putQp_self s n (moveEpsn { p with cur := none } cnt)) plain 4 st
  rw [acks]
  refine ⟨(putQp_sends ..).trans sends, ⟨x, held, ?_⟩, fun ok => ?_⟩
  · rw [spoke]
    simp [ackedQp, recordQp, moveEpsn]
  · obtain ⟨-, g, out, -, opcode, -, start⟩ := sent ok
    exact ⟨g, out, opcode, start⟩

/-- What was sent since the packet was met leaves the device as the frame woke it. -/
theorem Met.heard (m : Met s l n p c z y) (sends : Sends z t) :
    t = { rxWake s l with sys := { s.sys with now := t.sys.now }, qps := t.qps, links := t.links, linkStats := t.linkStats, wr := t.wr,
                          out := t.out, insts := t.insts } := by
  obtain ⟨k, woken⟩ : ∃ k, rxWake s l = { s with clk := k } := ⟨_, rxWake_clk s l⟩
  have met := m.meets.frame
  rw [woken] at met
  rw [sends.frame, met, woken]

/-- A WRITE whose target fails its check is answered with the status, and no memory changes. -/
theorem rxWrite_refused (rx : RxOpen s l f 1 n p c ext pay) (new : RxNew s l f n p) (met : rxMet s l f n p c = (z, y)) (kind : p.kind = .rc)
    (stays : leaving s p.inst = false)
    (bad : targetFail z y 1 (getBE ext 0 8) (getBE ext 8 4) (getBE f.ext 12 4) = (u, some st)) :
    Answers (.rxWrite l f) s fun t =>
      (∃ y, qpOf t n = some y ∧ y.epsn = psn p.epsn 1 ∧ y.cur = none) ∧ t.hbm = s.hbm ∧ t.plot = s.plot ∧ t.pmem = s.pmem ∧
      (sendable s (curLink p) = true → ∃ g, .frame g ∈ t.out ∧ getBE g.hdr 1 1 = 0x10 ∧ g.ext.take 2 = [4, st]) ∧
      t = { u with sys := { u.sys with now := t.sys.now }, qps := t.qps, links := t.links, linkStats := t.linkStats, wr := t.wr,
                   out := t.out, insts := t.insts } := by
  have m := rxMet_met met
  obtain ⟨Z, Y, hz, hy, ok, answer, one⟩ := rx_only rx new met (.inl rfl)
  have single : psnCount (qSeg y) (getBE f.ext 12 4) = 1 := by rw [m.seg]; exact one
  rw [firstPkt_refused hz hy ok (by rw [m.leaving, m.inst]; exact stays) rx.2.2.1 bad, single] at answer
  obtain ⟨keys, log, pages, insts, checked⟩ := targetFail_rc (m.kind.trans kind) bad
  have qp : qpOf u n = some y := by rw [checked]; exact m.qp
  have plain : y.kind ≠ .basin := by rw [m.kind, kind]; decide
  obtain ⟨sends, ⟨x, held, epsn, cur, -⟩, sent⟩ := consumeReq_leaves qp plain 1 st
  rw [m.epsn] at epsn
  have carries : sendable u (curLink y) = sendable s (curLink p) := by
    rw [m.curLink, ← m.meets.carries]
    exact sendable_links (by rw [checked]) _
  rw [carries] at sent
  refine .of _ answer ⟨⟨x, held, epsn, cur⟩, ?_, ?_, ?_, sent, sends.frame⟩ <;>
    rw [sends.frame, checked, m.meets.frame]

/-! ### SEND without room (R238, R240, R241) -/

/-- A SEND whose receive entry is too short finishes it with BOUNDS and is consumed. -/
theorem rxSend_short (rx : RxOpen s l f 5 n p c ext pay) (new : RxNew s l f n p) (kind : p.kind = .rc) (stays : leaving s p.inst = false)
    (rq : rqOf s n = some q) (entry : recvEntry s q = some (i, e)) (short : entLen e.ent < getBE f.ext 0 4) (free : recvOwed s p = false)
    (inflight : inflOf s q i = some e) (unfinished : e.done = none) :
    Answers (.rxSend l f) s fun t => DoneBad t q i Status.bounds ∧
      (∃ y, qpOf t n = some y ∧ y.epsn = psn p.epsn 1 ∧ y.cur = none ∧ y.rqNext = inc32 i) ∧
      (sendable s (curLink p) = true → ∃ g, .frame g ∈ t.out ∧ getBE g.hdr 1 1 = 0x10 ∧ g.ext.take 2 = [4, Status.bounds]) := by
  obtain ⟨z, y, met⟩ : ∃ z y, rxMet s l f n p c = (z, y) := ⟨_, _, rfl⟩
  have m := rxMet_met met
  obtain ⟨Z, Y, hz, hy, ok, answer, one⟩ := rx_only rx new met (.inr (.inr (.inl rfl)))
  have single : psnCount (qSeg y) (getBE f.ext 0 4) = 1 := by rw [m.seg]; exact one
  rw [firstPkt_short hz hy ok (m.kind.trans kind) (by rw [m.leaving, m.inst]; exact stays) (.inl rx.2.2.1) (by rw [m.rqOf]; exact rq)
    (by rw [m.recvEntry]; exact entry) short (by rw [m.recvOwed]; exact free), single] at answer
  have finished := finishSt_frame z q i Status.bounds
  have done := finishSt_done (s := z) Status.bounds ((congrArg (Tab.find · _) m.infl).trans inflight) unfinished
  generalize finishSt z q i Status.bounds = w at finished done answer
  have plain : y.kind ≠ .basin := by rw [m.kind, kind]; decide
  obtain ⟨sends, ⟨x, held, epsn, cur, rqNext⟩, sent⟩ :=
    consumeReq_leaves (qpOf_putQp_self w n { y with rqNext := inc32 i }) plain 1 Status.bounds
  have carries : sendable w (curLink y) = sendable s (curLink p) := by
    rw [m.curLink, ← m.meets.carries]
    exact sendable_links (by rw [finished]) _
  refine .of _ answer ⟨?_, ⟨x, held, epsn.trans (by rw [← m.epsn]), cur, rqNext⟩, fun ok => sent (carries.trans ok)⟩
  unfold DoneBad DoneAs inflOf at done ⊢
  rw [sends.infl]
  exact done

/-- A SEND with no receive entry is answered RNR and stays expected. -/
theorem rxSend_notReady (rx : RxOpen s l f 5 n p c ext pay) (new : RxNew s l f n p) (kind : p.kind = .rc) (stays : leaving s p.inst = false)
    (rq : rqOf s n = some q) (entry : recvEntry s q = none) :
    Answers (.rxSend l f) s fun t => (∃ y, qpOf t n = some y ∧ y.epsn = p.epsn ∧ y.cur = none) ∧
      (sendable s (curLink p) = true → ∃ g, .frame g ∈ t.out ∧ getBE g.hdr 1 1 = 0x10 ∧ g.ext.take 1 = [2]) ∧
      t = { rxWake s l with sys := { s.sys with now := t.sys.now }, qps := t.qps, links := t.links, linkStats := t.linkStats, wr := t.wr,
                            out := t.out, insts := t.insts } := by
  obtain ⟨z, y, met⟩ : ∃ z y, rxMet s l f n p c = (z, y) := ⟨_, _, rfl⟩
  have m := rxMet_met met
  obtain ⟨Z, Y, hz, hy, ok, answer, -⟩ := rx_only rx new met (.inr (.inr (.inl rfl)))
  rw [firstPkt_noEntry hz hy ok (m.kind.trans kind) (by rw [m.leaving, m.inst]; exact stays) (.inl rx.2.2.1) (by rw [m.rqOf]; exact rq)
    (by rw [m.recvEntry]; exact entry)] at answer
  have plain : y.kind ≠ .basin := by rw [m.kind, kind]; decide
  obtain ⟨sends, ⟨x, held, spoke⟩, sent⟩ := sendAck_leaves m.qp plain 2 0
  refine .of _ answer ⟨⟨x, held, ?_, ?_⟩, fun ok => ?_, m.heard sends⟩
  · exact (congrArg Qp.epsn spoke).trans m.epsn
  · rw [spoke, m.pair]
    exact new.1
  · obtain ⟨-, g, out, -, opcode, -, start⟩ := sent (by rw [m.curLink, m.meets.carries]; exact ok)
    refine ⟨g, out, opcode, ?_⟩
    rw [show (1 : Nat) = min 1 2 from rfl, ← List.take_take, start]
    rfl

/-- A SEND that would take another receive entry while the completion of the last is owed waits. -/
theorem rxSend_held (rx : RxOpen s l f 5 n p c ext pay) (new : RxNew s l f n p) (met : rxMet s l f n p c = (z, y)) (kind : p.kind = .rc)
    (stays : leaving s p.inst = false) (rq : rqOf s n = some q) (entry : recvEntry s q = some (i, e)) (fits : getBE f.ext 0 4 ≤ entLen e.ent)
    (length : pay.length = getBE f.ext 0 4) (owed : recvOwed s p = true) :
    Answers (.rxSend l f) s fun t => t = holdFrame (rxAdmitted z n y (rxRequest f (psnCount (qSeg p) (getBE f.ext 0 4)) (getBE f.ext 0 4) 0 0
      (some (q, i)) (some (entAddr e.ent)))) l f := by
  have m := rxMet_met met
  obtain ⟨count, answer⟩ := rxSend_admitted rx new (.inl rfl) kind stays rq entry fits met rfl
  refine .of _ answer ?_
  have op : (parseHdr f.hdr).op = 5 := rx.2.2.1
  refine (if_neg (by simp [admitReq, rxRequest, op])).trans <| (if_neg (by simp [admitReq, rxRequest, op])).trans ?_
  exact placePkt_held count rfl (new.2.1.trans m.epsn.symm) new.2.2.2.1 length rfl (m.recvOwed.trans owed)

/-! ### MARK (R246) -/

/-- The shadow record that a MARK writes, and its acknowledgement. -/
theorem applyMark_leaves (plain : y.kind ≠ .basin) (z : State) (n : Nat) (h : PktHdr) (ext : Bytes) :
    ∃ x w, Sends { z with shadows := Tab.put z.shadows (getBE ext 0 1 * 2 ^ 18 + getBE ext 2 3) x } (applyMark z n y h ext) ∧
      x.epoch = getBE ext 1 1 ∧ x.epsn = getBE ext 5 3 ∧ qpOf (applyMark z n y h ext) n = some w ∧ w.epsn = psn y.epsn 1 := by
  unfold applyMark
  dsimp only
  obtain ⟨sends, ⟨w, held, spoke⟩, -⟩ := sendAck_leaves (qpOf_putQp_self _ n
    (moveEpsn { y with echoTs := h.aux, echoAt := some z.sys.now } 1)) plain 0 0
  exact ⟨_, w, (putQp_sends ..).trans sends, rfl, rfl, held, congrArg Qp.epsn spoke⟩

/-- A MARK without a journal entry writes its originator's shadow record and is acknowledged. -/
theorem rxMark_applies (rx : RxOpen s l f 0x15 n p c ext pay) (new : RxNew s l f n p) (kind : p.kind = .mirror) :
    Answers (.rxMark l f) s fun t =>
      (∃ x, Tab.find t.shadows (getBE ext 0 1 * 2 ^ 18 + getBE ext 2 3) = some x ∧ x.epoch = getBE ext 1 1 ∧ x.epsn = getBE ext 5 3) ∧
      (∃ y, qpOf t n = some y ∧ y.epsn = psn p.epsn 1) ∧
      t = { rxWake s l with shadows := t.shadows, sys := { s.sys with now := t.sys.now }, qps := t.qps, links := t.links,
                            linkStats := t.linkStats, wr := t.wr, out := t.out, insts := t.insts } := by
  obtain ⟨z, y, met⟩ : ∃ z y, rxMet s l f n p c = (z, y) := ⟨_, _, rfl⟩
  have m := rxMet_met met
  obtain ⟨Z, Y, hz, hy, ok, answer⟩ := rx_opens rx new met rfl (by decide)
  rw [firstPkt_mark hz hy ok (m.kind.trans kind) rx.2.2.1] at answer
  refine .of _ answer ?_
  have plain : y.kind ≠ .basin := by rw [m.kind, kind]; decide
  obtain ⟨x, w, sends, epoch, epsn, held, moved⟩ := applyMark_leaves plain z n (parseHdr f.hdr) ext
  generalize applyMark z n y (parseHdr f.hdr) ext = t at sends held ⊢
  refine ⟨⟨x, ?_, epoch, epsn⟩, ⟨w, held, moved.trans (by rw [m.epsn])⟩, ?_⟩
  · rw [sends.frame]
    exact Tab.find_put_self ..
  · obtain ⟨k, woken⟩ : ∃ k, rxWake s l = { s with clk := k } := ⟨_, rxWake_clk s l⟩
    have met := m.meets.frame
    rw [woken] at met
    rw [sends.frame, met, woken]
end

end Sys2Proof.Machine
end

section
/-!
PROOFS. READ_REQ and the atomics at their receiver, and the frames that reach no queue pair (spec file 10, R235, R236, R238; spec file 4, R72,
R77, R83).
-/
namespace Sys2Proof.Machine

section
variable {s t u v z Z : State} {l n q i k now a op len : Nat} {f : Frame} {h : PktHdr} {p y x Y : Qp} {c : Cipher} {r : RReq} {e : Infl}
  {st : Byte} {ext pay b : Bytes} {loc : Loc} {m : Nat}

/-! ### READ_REQ (R236) -/

/-- The responses of a READ_REQ, one PSN each. -/
def responses (p : Qp) (r : RReq) (h : PktHdr) (b : Bytes) : List RdRsp :=
  (List.range r.count).map fun k => { psn := psn h.psn k, data := slice b (k * qSeg p) (min (qSeg p) (r.len - k * qSeg p)) }

theorem responses_first (p : Qp) (h : PktHdr) (b : Bytes) (before : List RdRsp) (any : 0 < r.count) :
    (before ++ responses p r h b)[before.length]? = some { psn := psn h.psn 0, data := b.take (min (qSeg p) r.len) } := by
  rw [List.getElem?_append_right (le_refl _), Nat.sub_self, responses, List.getElem?_map, List.getElem?_range any]
  simp [slice]

/-- A READ_REQ that is read queues its responses and is acknowledged. -/
theorem serveRead_leaves (kind : p.kind = .rc) (read : readMemAt (some r.adm) s p.inst r.raddr r.len = .ok v b) :
    Sends v (serveRead s l n p r f h) ∧ ∃ x, qpOf (serveRead s l n p r f h) n = some x ∧ x.epsn = psn p.epsn r.count ∧ x.cur = none ∧
      x.rsps = p.rsps ++ responses p r h b := by
  have plain : p.kind ≠ .basin := by rw [kind]; decide
  have served : serveRead s l n p r f h = sendAck (putQp v n (moveEpsn { p with
      cur := none, rsps := p.rsps ++ responses p r h b, echoTs := h.aux, echoAt := some v.sys.now } r.count)) n 0 0 := by
    simp only [serveRead, readTarget, kind, if_true, read]
    rfl
  obtain ⟨sends, ⟨x, held, spoke⟩, -⟩ := sendAck_leaves (qpOf_putQp_self v n (moveEpsn { p with
    cur := none, rsps := p.rsps ++ responses p r h b, echoTs := h.aux, echoAt := some v.sys.now } r.count)) plain 0 0
  rw [served]
  refine ⟨(putQp_sends ..).trans sends, x, held, ?_⟩
  rw [spoke]
  simp [ackedQp, recordQp, moveEpsn]

/-! ### Atomics (R183, R238) -/

theorem setLoc_putQp (s : State) (n : Nat) (p : Qp) (loc : Loc) (b : Bytes) :
    setLoc (putQp s n p) loc b = putQp (setLoc s loc b) n p := by
  unfold setLoc
  cases loc.space <;> rfl

theorem setLoc_qps (s : State) (loc : Loc) (b : Bytes) : (setLoc s loc b).qps = s.qps := by rw [setLoc_frame s loc b]

theorem setLoc_links (s : State) (loc : Loc) (b : Bytes) : (setLoc s loc b).links = s.links := by
  unfold setLoc
  cases loc.space <;> rfl

/-- The response of an atomic leaves where its link carries frames. -/
theorem sendAtomicRsp_leaves (qp : qpOf s n = some p) (x prior : Nat) :
    Sends s (sendAtomicRsp s n p x prior) ∧ (∃ w, qpOf (sendAtomicRsp s n p x prior) n = some w ∧ w = { p with cipher := w.cipher }) ∧
    (sendable s (curLink p) = true → ∃ g, .frame g ∈ (sendAtomicRsp s n p x prior).out ∧ getBE g.hdr 1 1 = 9 ∧
      getBE g.hdr 8 3 = x % 2 ^ 24) := by
  unfold sendAtomicRsp
  split
  · refine ⟨emitPkt_sends .., ⟨_, emitPkt_qp qp, rfl⟩, fun _ => ?_⟩
    obtain ⟨g, out, -, opcode, -, number, -⟩ := emitPkt_carries (op := 9) (flags := 0xC0) (x := x) (roc := rxRoc p 7 x)
      (aux := s.sys.now % 2 ^ 32) (credit := 0) (ext := putBE 8 prior) (pay := []) qp
    exact ⟨g, out, opcode, number⟩
  · refine ⟨workArrives_sends .., ⟨p, (qpOf_workArrives ..).trans qp, rfl⟩, fun ok => absurd ok ‹_›⟩

/-- The new value of an atomic (R183). -/
def atomicNew (op prior : Nat) (ext : Bytes) : Nat :=
  if op = 7 then (prior + getBE ext 16 8) % 2 ^ 64 else if prior = getBE ext 16 8 then getBE ext 24 8 else prior

/-- Its journal entry (R238). -/
def atomicJour (h : PktHdr) (loc : Loc) (prior : Nat) (ext : Bytes) : Jour :=
  { psn := h.psn, applied := true, target := loc, prior := prior, new := atomicNew h.op prior ext }

/-- The queue pair once an atomic is applied: its journal starts with it (R238). -/
def atomicQp (now : Nat) (p : Qp) (h : PktHdr) (loc : Loc) (prior : Nat) (ext : Bytes) : Qp :=
  moveEpsn { p with
    cur := none, echoTs := h.aux, echoAt := some now, jour := (atomicJour h loc prior ext :: p.jour).take 4 } 1

/-- An atomic is journalled, written, journalled again, answered and acknowledged. -/
theorem serveAtomic_applies (found : translateAt (some r.adm) s p.inst r.raddr 8 true = .ok v loc m) (atHand : lineWait v loc 8 true = none) :
    ∃ y now, serveAtomic s l n p r f h ext = sendAck (sendAtomicRsp
      (putQp (setLoc (putQp v n y) loc (putLE 8 (atomicNew h.op (ofLE (getLoc v loc 8)) ext))) n
        (atomicQp now p h loc (ofLE (getLoc v loc 8)) ext)) n
      (atomicQp now p h loc (ofLE (getLoc v loc 8)) ext) h.psn (ofLE (getLoc v loc 8))) n 0 0 := by
  unfold serveAtomic
  rw [found]
  dsimp only
  rw [atHand]
  exact ⟨_, _, rfl⟩

/-- An atomic whose line is at hand is written, journalled and answered with the prior value. -/
theorem serveAtomic_leaves (kind : p.kind = .rc)
    (found : translateAt (some r.adm) s p.inst r.raddr 8 true = .ok v loc m) (atHand : lineWait v loc 8 true = none) :
    let t := serveAtomic s l n p r f h ext
    let prior := ofLE (getLoc v loc 8)
    Sends (setLoc v loc (putLE 8 (atomicNew h.op prior ext))) t ∧
    (∃ x j, qpOf t n = some x ∧ x.epsn = psn p.epsn 1 ∧ x.jour.head? = some j ∧ j.psn = h.psn ∧ j.prior = prior) ∧
    (sendable v (curLink p) = true → ∃ g, .frame g ∈ t.out ∧ getBE g.hdr 1 1 = 9 ∧ getBE g.hdr 8 3 = h.psn % 2 ^ 24) := by
  dsimp only
  obtain ⟨y, now, served⟩ := serveAtomic_applies (l := l) (n := n) (f := f) (h := h) (ext := ext) found atHand
  rw [served, setLoc_putQp]
  generalize ofLE (getLoc v loc 8) = prior
  have written : Sends (setLoc v loc (putLE 8 (atomicNew h.op prior ext))) (putQp (putQp (setLoc v loc (putLE 8 (atomicNew h.op prior ext))) n y) n
    (atomicQp now p h loc prior ext)) := (putQp_sends ..).trans (putQp_sends ..)
  have qp := qpOf_putQp_self (putQp (setLoc v loc (putLE 8 (atomicNew h.op prior ext))) n y) n (atomicQp now p h loc prior ext)
  have links : (putQp (putQp (setLoc v loc (putLE 8 (atomicNew h.op prior ext))) n y) n (atomicQp now p h loc prior ext)).links = v.links :=
    setLoc_links ..
  generalize putQp (putQp (setLoc v loc (putLE 8 (atomicNew h.op prior ext))) n y) n (atomicQp now p h loc prior ext) = w
    at written qp links ⊢
  obtain ⟨answered, ⟨a, held, same⟩, sent⟩ := sendAtomicRsp_leaves qp h.psn prior
  have plain : a.kind ≠ .basin := by
    rw [same, show (atomicQp now p h loc prior ext).kind = p.kind from rfl, kind]
    decide
  obtain ⟨acked, ⟨x, kept, spoke⟩, -⟩ := sendAck_leaves held plain 0 0
  refine ⟨written.trans (answered.trans acked), ⟨x, atomicJour h loc prior ext, kept, ?_, ?_, rfl, rfl⟩, fun ok => ?_⟩
  · rw [spoke, same]
    rfl
  · rw [spoke, same]
    rfl
  · obtain ⟨g, out, opcode, number⟩ := sent ((sendable_links links _).trans ok)
    exact ⟨g, acked.out _ out, opcode, number⟩

/-! ### Frames that reach no queue pair (R72, R77, R83) -/

/-- A flow-control frame is counted. -/
theorem rxRow_pause (up : (link s l).up = true) (eth : f.eth = 0x8808) :
    rxRow l f op none s = .next (putLink s l { link s l with pauses := (link s l).pauses + 1 }) := by
  simp [rxRow, reach, up, eth]

/-- A frame on a link that is calibrated is dropped. -/
theorem rxRow_calibrating (up : (link s l).up = true) (row : getBE f.hdr 1 1 = op) (eth : f.eth ≠ 0x8808) (cal : (link s l).cal = .running) :
    rxRow l f op none s = .next (putLink s l { link s l with dropped := (link s l).dropped + 1 }) := by
  simp [rxRow, reach, up, eth, row, cal]

/-- A frame for an engine that does not run waits. -/
theorem rxRow_asleep (up : (link s l).up = true) (row : getBE f.hdr 1 1 = op) (eth : f.eth ≠ 0x8808) (cal : (link s l).cal ≠ .running)
    (asleep : rxAsleep (rxWake s l) l = true) : rxRow l f op none s = .next { rxWake s l with rxHeld := s.rxHeld ++ [(l, f)] } := by
  have held : (rxWake s l).rxHeld = s.rxHeld := by rw [rxWake_clk]
  simp [rxRow, reach, up, eth, row, cal, asleep, holdFrame, held]
end

end Sys2Proof.Machine
end

section
/-!
PROOFS. The requests of RC queue pairs by their rows, and O44 (spec file 10, R235, R236, R238, R246).
-/
namespace Sys2Proof.Machine

section
variable {s t u v z : State} {l n q i k a op : Nat} {f : Frame} {h : PktHdr} {p y : Qp} {c : Cipher} {r : RReq} {e : Infl}
  {ext pay b : Bytes} {loc : Loc}

/-! ### The completion of a receive entry (R197, R238) -/

theorem completionOf_send (row : h.op = 5) (same : r.op = h.op) (imm : r.imm = none) (solicit : r.solicit = false) (length : k = r.len) :
    completionOf (lastOf r h) =
      { status := Status.ok, cflags := 8 * bit (bitN h.flags 2), detail := 0, bytes := k, aux := 0 } := by
  simp [completionOf, lastOf, same, row, imm, solicit, bit, length]

theorem completionOf_sendImm (row : h.op = 6) (same : r.op = h.op) (solicit : r.solicit = false) (length : k = r.len) :
    completionOf (lastOf r h) =
      { status := Status.ok, cflags := 4 + 8 * bit (bitN h.flags 2), detail := 0, bytes := k, aux := h.aux } := by
  simp [completionOf, lastOf, same, row, solicit, bit, length]

theorem completionOf_writeImm (row : h.op = 2) (same : r.op = h.op) (solicit : r.solicit = false) :
    completionOf (lastOf r h) =
      { status := Status.ok, cflags := 4 + 8 * bit (bitN h.flags 2) + 16, detail := 0, bytes := 0, aux := h.aux } := by
  simp [completionOf, lastOf, same, row, solicit, bit]

/-! ### WRITE_IMM (R235, R238) -/

/-- A WRITE_IMM of one packet is placed at its target, finishes its receive entry and is acknowledged. -/
theorem rxWriteImm_places (rx : RxOpen s l f 2 n p c ext pay) (new : RxNew s l f n p) (met : rxMet s l f n p c = (z, y)) (kind : p.kind = .rc)
    (stays : leaving s p.inst = false) (rq : rqOf s n = some q) (entry : recvEntry s q = some (i, e)) (length : pay.length = getBE f.ext 12 4)
    (free : recvOwed s p = false) (good : targetFail z y 2 (getBE ext 0 8) (getBE ext 8 4) (getBE f.ext 12 4) = (u, none))
    (written : writeMemAt (some u.pieceClock) (rxAdmitted u n y (rxRequest f (psnCount (qSeg p) (getBE f.ext 12 4)) (getBE f.ext 12 4)
      (getBE ext 0 8) (getBE ext 8 4) (some (q, i)) none)) p.inst (getBE ext 0 8) pay = .ok v b) (inflight : inflOf s q i = some e) :
    Answers (.rxWriteImm l f) s fun t => (∃ y, qpOf t n = some y ∧ y.epsn = psn p.epsn 1 ∧ y.cur = none ∧ y.rqNext = inc32 i) ∧
      DoneAs t q i { status := Status.ok, cflags := 4 + 8 * bit (bitN (parseHdr f.hdr).flags 2) + 16, detail := 0, bytes := 0,
                     aux := (parseHdr f.hdr).aux } ∧
      t = { v with infl := t.infl, sys := { v.sys with now := t.sys.now }, qps := t.qps, links := t.links, linkStats := t.linkStats,
                   wr := t.wr, out := t.out, insts := t.insts } := by
  have m := rxMet_met met
  have op : (parseHdr f.hdr).op = 2 := rx.2.2.1
  obtain ⟨Z, Y, hz, hy, ok, answer, one⟩ := rx_only rx new met (.inr (.inl rfl))
  obtain ⟨-, inOrder, -, last, -⟩ := new
  rw [← m.epsn] at inOrder
  obtain ⟨keys, log, pages, insts, checked⟩ := targetFail_rc (m.kind.trans kind) good
  set r := rxRequest f (psnCount (qSeg p) (getBE f.ext 12 4)) (getBE f.ext 12 4) (getBE ext 0 8) (getBE ext 8 4) (some (q, i)) none with req
  have admitted := firstPkt_writeImm (l := l) (pay := pay) (u := u) (r := r) hz hy ok (by rw [m.leaving, m.inst]; exact stays) op
    (by rw [m.rqOf]; exact rq) (by rw [m.recvEntry]; exact entry) good (by rw [req, ← m.seg]; rfl)
  have opr : r.op = 2 := op
  have infl : u.infl = s.infl := by rw [checked]; exact m.infl
  have kept : inflOf v q i = some e := by
    rw [inflOf, writeMemAt_ok written]
    exact (congrArg (Tab.find · _) infl).trans inflight
  have free' : recvOwed u y = false := by
    rw [checked]
    exact m.recvOwed.trans free
  obtain ⟨done, ⟨x, qp, epsn, cur, rqNext, -⟩, frame⟩ := applied_entry (.inr (.inl opr)) one rfl inOrder inOrder last length (m.kind.trans kind)
    (by rw [opr]; rfl) (by rw [opr]; rfl) (by rw [m.inst]; exact written) admitted rfl free' kept (recvEntry_done entry)
  rw [completionOf_writeImm op rfl rfl] at done
  exact .of _ answer ⟨⟨x, qp, epsn.trans (by rw [m.epsn]), cur, rqNext⟩, done, frame⟩

/-! ### READ_REQ (R236) -/

/-- A READ_REQ queues its responses and is acknowledged. -/
theorem rxReadReq_serves (rx : RxOpen s l f 3 n p c ext pay) (new : RxNew s l f n p) (met : rxMet s l f n p c = (z, y)) (kind : p.kind = .rc)
    (stays : leaving s p.inst = false) (good : targetFail z y 3 (getBE ext 0 8) (getBE ext 8 4) (getBE f.ext 12 4) = (u, none))
    (read : readMemAt (some u.pieceClock) (rxAdmitted u n y (rxRequest f (psnCount (qSeg p) (getBE f.ext 12 4)) (getBE f.ext 12 4)
      (getBE ext 0 8) (getBE ext 8 4) none none)) p.inst (getBE ext 0 8) (getBE f.ext 12 4) = .ok v b) :
    Answers (.rxReadReq l f) s fun t =>
      (∃ y, qpOf t n = some y ∧ y.epsn = psn p.epsn (psnCount (qSeg p) (getBE f.ext 12 4)) ∧ y.cur = none ∧
        y.rsps.length = p.rsps.length + psnCount (qSeg p) (getBE f.ext 12 4) ∧
        y.rsps[p.rsps.length]? = some { psn := psn p.epsn 0, data := b.take (min (qSeg p) (getBE f.ext 12 4)) }) ∧
      t = { v with sys := { v.sys with now := t.sys.now }, qps := t.qps, links := t.links, linkStats := t.linkStats, wr := t.wr,
                   out := t.out, insts := t.insts } := by
  have m := rxMet_met met
  have op : (parseHdr f.hdr).op = 3 := rx.2.2.1
  obtain ⟨Z, Y, hz, hy, ok, answer⟩ := rx_opens rx new met rfl (by decide)
  set r := rxRequest f (psnCount (qSeg p) (getBE f.ext 12 4)) (getBE f.ext 12 4) (getBE ext 0 8) (getBE ext 8 4) none none with req
  have admitted := firstPkt_admitted (l := l) (pay := pay) (u := u) (r := r) hz hy ok (by rw [m.leaving, m.inst]; exact stays) op
    (.inr (.inl rfl)) rfl good (by rw [req, ← m.seg]; rfl)
  have serves : firstPkt Z l n Y f (parseHdr f.hdr) (some (c, ext, pay)) =
      serveRead (rxAdmitted u n y r) l n (admitReq u n y r).2.1 (admitReq u n y r).2.2 f (parseHdr f.hdr) := admitted.trans (if_pos op)
  obtain ⟨sends, x, qp, epsn, cur, rsps⟩ := serveRead_leaves (l := l) (n := n) (f := f) (h := parseHdr f.hdr)
    (p := (admitReq u n y r).2.1) (r := (admitReq u n y r).2.2) (m.kind.trans kind)
    (show readMemAt (some u.pieceClock) _ y.inst _ _ = _ by rw [m.inst]; exact read)
  have before : (admitReq u n y r).2.1.rsps = p.rsps := by rw [show (admitReq u n y r).2.1.rsps = y.rsps from rfl, m.pair]
  have any : 0 < (admitReq u n y r).2.2.count := lt_of_lt_of_le Nat.zero_lt_one (le_max_left ..)
  rw [before] at rsps
  rw [serves] at answer
  refine .of _ answer ⟨⟨x, qp, epsn.trans ?_, cur, ?_, ?_⟩, sends.frame⟩
  · rw [show (admitReq u n y r).2.1.epsn = y.epsn from rfl, m.epsn]
    rfl
  · rw [rsps, List.length_append, responses, List.length_map, List.length_range]
    rfl
  · rw [rsps, responses_first _ _ _ _ any, new.2.1, ← m.seg]
    rfl

/-! ### Atomics (R183, R238) -/

/-- An atomic is applied, answered with the prior value and acknowledged. -/
theorem rxAtomic_applies (rx : RxOpen s l f op n p c ext pay) (new : RxNew s l f n p) (met : rxMet s l f n p c = (z, y)) (kind : p.kind = .rc)
    (stays : leaving s p.inst = false) (atomic : op = 7 ∨ op = 8) (good : targetFail z y op (getBE ext 0 8) (getBE ext 8 4) 8 = (u, none))
    (found : translateAt (some u.pieceClock) (rxAdmitted u n y (rxRequest f 1 8 (getBE ext 0 8) (getBE ext 8 4) none none)) p.inst
      (getBE ext 0 8) 8 true = .ok v loc k) (atHand : lineWait v loc 8 true = none) :
    ∃ t, rxRow l f op none s = .next t ∧
      (∃ y j, qpOf t n = some y ∧ y.epsn = psn p.epsn 1 ∧ y.jour.head? = some j ∧ j.psn = p.epsn ∧ j.prior = ofLE (getLoc v loc 8)) ∧
      t = { setLoc v loc (putLE 8 (atomicNew op (ofLE (getLoc v loc 8)) ext)) with
            sys := { v.sys with now := t.sys.now }, qps := t.qps, links := t.links, linkStats := t.linkStats, wr := t.wr, out := t.out,
            insts := t.insts } ∧
      (sendable s (curLink p) = true → ∃ g, .frame g ∈ t.out ∧ getBE g.hdr 1 1 = 9 ∧ getBE g.hdr 8 3 = p.epsn % 2 ^ 24) := by
  have m := rxMet_met met
  have row : (parseHdr f.hdr).op = op := rx.2.2.1
  have data : isCtl op = false ∧ op ≠ 4 ∧ op ≠ 9 ∧ announced op f = 8 ∧ psnsOf op y f = 1 ∧ isGroup op (getBE ext 0 8) = false := by
    obtain rfl | rfl := atomic <;> exact ⟨rfl, by decide, by decide, rfl, rfl, rfl⟩
  obtain ⟨noCtl, no4, no9, eight, one, noGroup⟩ := data
  obtain ⟨Z, Y, hz, hy, ok, answer⟩ := rx_opens rx new met noCtl ⟨no4, no9⟩
  set r := rxRequest f 1 8 (getBE ext 0 8) (getBE ext 8 4) none none with req
  have admitted := firstPkt_admitted (l := l) (pay := pay) (u := u) (r := r) hz hy ok (by rw [m.leaving, m.inst]; exact stays) row
    (.inr (.inr atomic)) noGroup (by rw [eight]; exact good) (by rw [req, eight, one]; rfl)
  have opr : r.op = op := row
  have serves : firstPkt Z l n Y f (parseHdr f.hdr) (some (c, ext, pay)) =
      serveAtomic (rxAdmitted u n y r) l n (admitReq u n y r).2.1 (admitReq u n y r).2.2 f (parseHdr f.hdr) ext :=
    admitted.trans <| (if_neg (show ¬ r.op = 3 by omega)).trans (if_pos (show r.op = 7 ∨ r.op = 8 by omega))
  obtain ⟨sends, ⟨x, j, qp, epsn, head, number, prior⟩, sent⟩ := serveAtomic_leaves (l := l) (n := n) (f := f) (h := parseHdr f.hdr)
    (ext := ext) (p := (admitReq u n y r).2.1) (r := (admitReq u n y r).2.2) (m.kind.trans kind)
    (show translateAt (some u.pieceClock) _ y.inst _ 8 true = _ by rw [m.inst]; exact found) atHand
  rw [row] at sends
  rw [new.2.1] at number sent
  obtain ⟨keys, log, pages, insts, checked⟩ := targetFail_rc (m.kind.trans kind) good
  have translated := translateAt_frame (some u.pieceClock) (rxAdmitted u n y r) p.inst (getBE ext 0 8) 8 true
  rw [found] at translated
  have carries : sendable v (curLink y) = sendable s (curLink p) := by
    rw [m.curLink, ← m.meets.carries]
    refine sendable_links (.trans (congrArg State.links translated) ?_) _
    exact (congrArg State.links checked :)
  rw [serves] at answer
  refine ⟨_, answer, ⟨x, j, qp, epsn.trans ?_, head, number, prior⟩, ?_, fun up => sent (carries.trans up)⟩
  · rw [show (admitReq u n y r).2.1.epsn = y.epsn from rfl, m.epsn]
  · rw [show v.sys = (setLoc v loc (putLE 8 (atomicNew op (ofLE (getLoc v loc 8)) ext))).sys by rw [setLoc_frame v loc]]
    exact sends.frame
end

end Sys2Proof.Machine

namespace Sys2Proof
open Sys2Proof.Machine

/-- Settles O44: a request opens, passes its checks, is admitted and placed, read or applied, and its acknowledgement point sends; what is
refused, held or kept from its queue pair is so by the check that says it. -/
theorem requestsArriveAndArePlaced : Obligations.RequestsArriveAndArePlaced := by
  unfold Obligations.RequestsArriveAndArePlaced
  refine ⟨?write, ?refused, ?send, ?sendImm, ?writeImm, ?held, ?short, ?notReady, ?readReq, ?fadd, ?cswap, ?mark, ?pause, ?calibrating, ?asleep⟩
  case write =>
    exact fun s l f n p c ext pay z y u v b rx new met kind stays noGroup noMap length good written =>
      rxWrite_places rx new met kind stays noGroup noMap length good written
  case refused =>
    exact fun s l f n p c ext pay z y u st rx new met kind stays bad => rxWrite_refused rx new met kind stays bad
  case send =>
    intro s l f n p c ext pay z y q i e v b rx new met kind stays rq entry fits length free written inflight
    obtain ⟨t, answer, done, ⟨x, qp, epsn, cur, rqNext, recv⟩, frame⟩ :=
      rxSend_places rx new (.inl rfl) kind stays rq entry fits length met free written inflight rfl
    have op : (parseHdr f.hdr).op = 5 := rx.2.2.1
    rw [completionOf_send op rfl rfl rfl length] at done
    refine .of t answer ⟨⟨x, qp, epsn, cur, rqNext, recv.trans ?_⟩, done, frame⟩
    simp [recvRec, lastOf, rxRequest, op]
  case sendImm =>
    intro s l f n p c ext pay z y q i e v b rx new met kind stays rq entry fits length free written inflight
    obtain ⟨t, answer, done, ⟨x, qp, epsn, cur, rqNext, -⟩, frame⟩ :=
      rxSend_places rx new (.inr rfl) kind stays rq entry fits length met free written inflight rfl
    rw [completionOf_sendImm rx.2.2.1 rfl rfl length] at done
    exact .of t answer ⟨⟨x, qp, epsn, cur, rqNext⟩, done, frame⟩
  case writeImm =>
    exact fun s l f n p c ext pay z y q i e u v b rx new met kind stays rq entry length free good written inflight =>
      rxWriteImm_places rx new met kind stays rq entry length free good written inflight
  case held =>
    exact fun s l f n p c ext pay z y q i e rx new met kind stays rq entry fits length owed =>
      rxSend_held rx new met kind stays rq entry fits length owed
  case short =>
    exact fun s l f n p c ext pay q i e rx new kind stays rq entry short free inflight unfinished =>
      rxSend_short rx new kind stays rq entry short free inflight unfinished
  case notReady =>
    exact fun s l f n p c ext pay q rx new kind stays rq entry => rxSend_notReady rx new kind stays rq entry
  case readReq =>
    exact fun s l f n p c ext pay z y u v b rx new met kind stays good read => rxReadReq_serves rx new met kind stays good read
  case fadd =>
    intro s l f n p c ext pay z y u v a k rx new met kind stays good found atHand
    exact rxAtomic_applies rx new met kind stays (.inl rfl) good found atHand
  case cswap =>
    intro s l f n p c ext pay z y u v a k rx new met kind stays good found atHand
    exact rxAtomic_applies rx new met kind stays (.inr rfl) good found atHand
  case mark =>
    exact fun s l f n p c ext pay rx new kind _ => rxMark_applies rx new kind
  case pause =>
    exact fun s l f up eth => .of _ (rxRow_pause up eth) rfl
  case calibrating =>
    exact fun s l f up row eth cal => .of _ (rxRow_calibrating up row eth cal) rfl
  case asleep =>
    exact fun s l f up row eth cal asleep => .of _ (rxRow_asleep up row eth cal asleep) rfl

end Sys2Proof
end

section
/-!
PROOFS. States that the statements about queue-pair commands and about answers at the sender do not exclude and in which one of their
clauses fails, each run through the model (R242, R246, R288).
-/
namespace Sys2Proof.Machine

/-- A BASIN queue pair in INIT that was made while BASIN_ENC was 1: ENC = 1 stands in its configuration, and it holds no key yet (R288). -/
def unkeyedBasinQp : Qp := Qp.fresh 0 .basin 0x60000000 0 0 0 0 0 0 1 0 false

/-- A READY device with that queue pair; no page register is written, so ENC = 0 is staged for it. -/
def encBasin : State := { soleInstance with feat.offer := BitVec.allOnes 128, qps := [(0, unkeyedBasinQp)] }

/-- A CONNECTED BASIN queue pair whose mirror has not acknowledged the last five PSNs (R246). -/
def aheadOfMirror : Qp := { Qp.fresh 0 .basin 0 0 0 0 0 0 0 1 0 false with st := .connected, epsn := 5 }

/-- A worker with a mirrored plot, that queue pair and its link up. -/
def mirroredWorker : State :=
  { newWorker with basin.paired := true, qps := [(1, aheadOfMirror)], links := [(0, { LinkSt.reset with up := true })] }

/-- A RESYNC of its peer, which shows PSN 0 (R230, R242). -/
def peerResync : Frame :=
  { fcsOk := true, eth := 0x88B5, vid := none, ipExt := false, dst := 0, nh := 0, dport := 0, ce := false, src := 0,
    hdr := hdrBytes 0x12 0xC0 0 1 0 0 0 0 (zeros 16), ext := zeros 16, payload := [], tag := [] }

/-- The PSN of a frame that left. -/
def sentPsn : Out → Option Nat
  | .frame f => some (getBE f.hdr 8 3)
  | _ => none

end Sys2Proof.Machine

namespace Sys2Proof
open Sys2Proof.Machine

/-- Refutes O42: the clause of a CONNECT that succeeds asks for a key where the staged ENC is 1, and its conditions do not exclude a BASIN
queue pair made while BASIN_ENC was 1. That one connects with ENC = 1 whatever is staged (R288), and without a key the command is refused
with NOT_PERMITTED (R276). -/
theorem not_queuePairsFollowTheirCommands : ¬ Obligations.QueuePairsFollowTheirCommands := by
  unfold Obligations.QueuePairsFollowTheirCommands
  rintro ⟨-, -, connect, -⟩
  obtain ⟨t, ht, ⟨y, found, connected, -⟩, -⟩ := connect encBasin 0 (tenderWrite 2) unkeyedBasinQp
    ⟨rfl, ⟨rfl, rfl⟩, by decide, by decide, by decide, by decide, by decide, by decide⟩
    (by decide +kernel) rfl rfl (by decide) (fun _ _ => rfl)
  have refused : readAfter (.slQpConnect 0 (tenderWrite 2)) encBasin (fun t => (qpOf t 0).map (·.st)) = some (some .init) := by
    decide +kernel
  have found : qpOf t 0 = some y := found
  rw [readAfter_of_next _ ht, found, Option.map_some, connected] at refused
  exact absurd refused (by decide)

/-- Refutes O45: the clause of RESYNC has the RESYNC_ACK name the EPSN, and its conditions do not exclude a BASIN queue pair of a mirrored
plot. There the answer names the PSN up to which the mirror has acknowledged (R246): here 0 where EPSN is 5. -/
theorem not_answersArriveAtTheSender : ¬ Obligations.AnswersArriveAtTheSender := by
  unfold Obligations.AnswersArriveAtTheSender
  rintro ⟨-, -, -, -, -, -, -, -, -, resync, -⟩
  obtain ⟨t, ht, -, ⟨g, sent, -, psn, -⟩, -⟩ := resync mirroredWorker 0 peerResync 1 aheadOfMirror Cipher.empty (zeros 16) []
    (by decide +kernel) rfl rfl (by decide +kernel)
  have answered : readAfter (.rxResync 0 peerResync) mirroredWorker (fun t => t.out.filterMap sentPsn) = some [0] := by decide +kernel
  have named : 5 ∈ t.out.filterMap sentPsn := List.mem_filterMap.2 ⟨_, sent, congrArg some psn⟩
  rw [readAfter_of_next _ ht] at answered
  rw [Option.some.inj answered] at named
  exact absurd named (by decide)

end Sys2Proof
end

section
/-!
PROOFS. A step with a command at the front of the queue (log 12).
-/
namespace Sys2Proof
open Sys2Proof.Machine

/-- Settles O1: `step` takes the command off the queue and executes it on the state with the queue's rest. -/
theorem stepRunsTheFrontCommand : Obligations.StepRunsTheFrontCommand := by
  intro c r s
  rfl

end Sys2Proof
end

section
/-!
PROOFS. What a Furrow instruction that is issued answers (spec file 15, R343): one rule for each outcome of its effect.
-/
namespace Sys2Proof.Machine

/-- What an issued instruction sees. -/
abbrev ctxOf (core slot : Nat) (t : Tg) (l : Launch) (x : Ins) : FwCtx := { k := fwKey core slot, l := l, x := x, mask := predMask t x }

/-- The group as an instruction finds it: PC past the instruction. -/
abbrev Tg.past (t : Tg) : Tg := { t with pc := (t.pc + 8) % 2 ^ 64 }

section
variable {s u : State} {core slot op : Nat} {t : Tg} {l : Launch} {x : Ins} (h : Issues s core slot op t l x u)
include h

/-- Reading an instruction changes only what a read of memory changes. -/
theorem Issues.frame : ReadFrame s u := by
  obtain ⟨-, -, -, -, -, -, -, -, ⟨b, read, -⟩, -, -⟩ := h
  exact readMemAt_ok read

theorem Issues.launch : launchOf u t.q t.i = some l := by
  obtain ⟨-, -, -, launch, -⟩ := id h
  rw [launchOf, h.frame]
  exact launch

theorem Issues.slot_lt : slot < 16 := h.1

theorem Issues.found : Tab.find u.fw.slots (fwKey core slot) = some t := by
  obtain ⟨-, found, -⟩ := id h
  rw [h.frame]
  exact found

/-- An instruction that goes on leaves its group in its slot, a step counted. -/
theorem Issues.goes {c : Instr} {eff : FwCtx → State → Tg → Fx} {w : State} {g : Tg} {P : State → Prop}
    (run : exec c s = issue core slot op s eff) (fx : eff (ctxOf core slot t l x) u t.past = .go w g)
    (post : P (putTg w (fwKey core slot) (stepped w.sys.now g))) : Answers c s P :=
  .of _ (by rw [run, issue_eq h, fx]; rfl) post

/-- An instruction whose effect is `f` on its group and nothing else of the machine. -/
theorem Issues.moves {c : Instr} {eff : FwCtx → State → Tg → Fx} {w : State} (f : Tg → Tg)
    (run : exec c s = issue core slot op s eff) (fx : eff (ctxOf core slot t l x) u t.past = .go w (f t.past)) :
    Answers c s fun v => Moves w v core slot t f :=
  h.goes run fx rfl

/-- An instruction whose checks find a trap. -/
theorem Issues.traps {c : Instr} {eff : FwCtx → State → Tg → Fx} {st : Byte} {a m : Nat}
    (run : exec c s = issue core slot op s eff) (fx : eff (ctxOf core slot t l x) u t.past = .trap u st a m) :
    Answers c s fun v => v = deliver u (fwKey core slot) t st a m :=
  .of _ (by rw [run, issue_eq h, fx]; rfl) rfl

omit h in
/-- Writing a register on the lanes of the predicate, modulo the width of a lane. -/
theorem laneWrites_setV {w : State} {f g : Nat → Nat} (same : ∀ k < 32, f k % 2 ^ 32 = g k % 2 ^ 32) :
    LaneWrites w (putTg w (fwKey core slot) (stepped w.sys.now (t.past.setV x.d (predMask t x) f))) core slot t x g := by
  obtain ⟨st, ran, left, step⟩ := stepped_eq w.sys.now (t.past.setV x.d (predMask t x) f)
  rw [step]
  refine ⟨_, rfl, fun r lane low => ?_, rfl⟩
  rw [← same lane low]
  exact Tg.vr_setV t.past x.d (predMask t x) f r lane low

/-- An instruction that writes register D on the lanes of its predicate. -/
theorem Issues.writes {c : Instr} {eff : FwCtx → State → Tg → Fx} {w : State} {f g : Nat → Nat}
    (run : exec c s = issue core slot op s eff)
    (fx : eff (ctxOf core slot t l x) u t.past = .go w (t.past.setV x.d (predMask t x) f))
    (same : ∀ k < 32, f k % 2 ^ 32 = g k % 2 ^ 32) :
    Answers c s fun v => LaneWrites w v core slot t x g :=
  h.goes run fx (laneWrites_setV same)

/-- A lane instruction, by the function of its lanes. -/
theorem Issues.lanes {c : Instr} {g : Nat → Nat} (f : FwCtx → Tg → Nat → Nat) (run : exec c s = laneOp core slot op s f)
    (same : ∀ k < 32, f (ctxOf core slot t l x) t.past k % 2 ^ 32 = g k % 2 ^ 32) :
    Answers c s fun v => LaneWrites u v core slot t x g :=
  h.writes run rfl same
end

@[simp] theorem Tg.past_vr (t : Tg) : t.past.vr = t.vr := rfl

@[simp] theorem Tg.past_ur (t : Tg) : t.past.ur = t.ur := rfl

theorem Tg.vr_lt (t : Tg) (r k : Nat) : t.vr r k < 2 ^ 32 := BitVec.isLt _

/-- The smaller of two words is chosen by comparing them. -/
theorem ltW_unsigned (a b : Nat) : ltW true a b = decide (a < b) := rfl

theorem ltW_signed (a b : Nat) : ltW false a b = decide (sInt a < sInt b) := rfl

/-- IMIN as R344 gives it. -/
theorem imin_word (md a b : Nat) :
    (if ltW (md = 1) b a then b else a) = if md = 1 then min a b else if sInt b < sInt a then b else a := by
  by_cases unsigned : md = 1
  · simp only [unsigned, decide_true, ltW_unsigned, decide_eq_true_eq, if_true]
    split <;> omega
  · simp only [unsigned, decide_false, ltW_signed, decide_eq_true_eq, if_false]

/-- IMAX as R344 gives it. -/
theorem imax_word (md a b : Nat) :
    (if ltW (md = 1) a b then b else a) = if md = 1 then max a b else if sInt a < sInt b then b else a := by
  by_cases unsigned : md = 1
  · simp only [unsigned, decide_true, ltW_unsigned, decide_eq_true_eq, if_true]
    split <;> omega
  · simp only [unsigned, decide_false, ltW_signed, decide_eq_true_eq, if_false]

end Sys2Proof.Machine

namespace Sys2Proof
open Sys2Proof.Machine

/-- Settles O30: each instruction is one write of register D on the lanes of its predicate (`Issues.writes`), its value that of the
table modulo 2 ^ 32. -/
theorem furrowIntegersWriteTheirLanes : Obligations.FurrowIntegersWriteTheirLanes := by
  unfold Obligations.FurrowIntegersWriteTheirLanes
  refine ⟨?movi, ?movu, ?iadd, ?isub, ?imul, ?imad, ?and, ?or, ?xor, ?shl, ?shr, ?sar, ?imin, ?imax, ?shfl⟩ <;>
    intro s core slot t l x u h
  case movi => exact h.lanes (fun c _ _ => intBits 32 c.x.simm) rfl fun _ _ => rfl
  case movu => exact h.lanes (fun c t _ => t.ur c.x.a / 2 ^ (32 * c.x.md) % 2 ^ 32) rfl fun _ _ => Nat.mod_mod ..
  case iadd => exact h.lanes (fun c t k => t.vr c.x.a k + t.vr c.x.b k) rfl fun _ _ => rfl
  case isub =>
    exact h.lanes (fun c t k => t.vr c.x.a k + (2 ^ 32 - t.vr c.x.b k)) rfl fun k _ => by
      rw [Nat.add_sub_assoc (t.vr_lt x.b k).le, Tg.past_vr]
  case imul => exact h.lanes (fun c t k => t.vr c.x.a k * t.vr c.x.b k) rfl fun _ _ => rfl
  case imad => exact h.lanes (fun c t k => t.vr c.x.a k * t.vr c.x.b k + t.vr c.x.c k) rfl fun _ _ => rfl
  case and => exact h.lanes (fun c t k => t.vr c.x.a k &&& t.vr c.x.b k) rfl fun _ _ => rfl
  case or => exact h.lanes (fun c t k => t.vr c.x.a k ||| t.vr c.x.b k) rfl fun _ _ => rfl
  case xor => exact h.lanes (fun c t k => t.vr c.x.a k ^^^ t.vr c.x.b k) rfl fun _ _ => rfl
  case shl => exact h.lanes (fun c t k => t.vr c.x.a k * 2 ^ (t.vr c.x.b k % 32)) rfl fun _ _ => by rw [Tg.past_vr]
  case shr => exact h.lanes (fun c t k => t.vr c.x.a k / 2 ^ (t.vr c.x.b k % 32)) rfl fun _ _ => by rw [Tg.past_vr]
  case sar =>
    exact h.lanes (fun c t k => intBits 32 (sInt (t.vr c.x.a k) / 2 ^ (t.vr c.x.b k % 32))) rfl fun _ _ => by rw [Tg.past_vr]
  case imin =>
    exact h.lanes (fun c t k => if ltW (c.x.md = 1) (t.vr c.x.b k) (t.vr c.x.a k) then t.vr c.x.b k else t.vr c.x.a k) rfl
      fun _ _ => by rw [imin_word, Tg.past_vr]
  case imax =>
    exact h.lanes (fun c t k => if ltW (c.x.md = 1) (t.vr c.x.a k) (t.vr c.x.b k) then t.vr c.x.b k else t.vr c.x.a k) rfl
      fun _ _ => by rw [imax_word, Tg.past_vr]
  case shfl => exact h.lanes (fun c t k => t.vr c.x.a (t.vr c.x.b k % 32)) rfl fun _ _ => rfl

end Sys2Proof
end

section
/-!
PROOFS. The Furrow's floating-point, conversion, codebook, uniform, predicate and staging instructions (spec file 15, R343 to R348,
R357, R371; logs 32 and 33).
-/
namespace Sys2Proof.Machine

/-! ### Predicate registers (R338) -/

/-- A word as the sum of its bits. -/
theorem testBit_sum_bits (b : Nat → Bool) (n : Nat) :
    (List.range n).foldl (fun a k => a + bit (b k) * 2 ^ k) 0 < 2 ^ n ∧
    ∀ lane, ((List.range n).foldl (fun a k => a + bit (b k) * 2 ^ k) 0).testBit lane = (decide (lane < n) && b lane) := by
  induction n with
  | zero => simp
  | succ n ih =>
    obtain ⟨low, bits⟩ := ih
    rw [List.range_succ, List.foldl_append]
    simp only [List.foldl_cons, List.foldl_nil]
    generalize (List.range n).foldl (fun a k => a + bit (b k) * 2 ^ k) 0 = w at low bits
    have flag := bit_lt (b n)
    refine ⟨?_, fun lane => ?_⟩
    · have : bit (b n) * 2 ^ n ≤ 1 * 2 ^ n := Nat.mul_le_mul_right _ (by omega)
      rw [Nat.pow_succ]
      omega
    · rw [Nat.add_comm, Nat.mul_comm, Nat.testBit_two_pow_mul_add _ low]
      split
      next below => rw [bits, decide_eq_true below, decide_eq_true (Nat.lt_succ_of_lt below)]
      next above =>
        by_cases top : lane = n
        · subst top
          cases b lane <;> simp [bit]
        · have beyond : ¬ lane < n + 1 := by omega
          obtain ⟨j, hj⟩ := Nat.exists_eq_add_of_lt (Nat.lt_of_le_of_ne (Nat.le_of_not_lt above) (Ne.symm top))
          rw [decide_eq_false beyond, Bool.false_and, hj, show n + j + 1 - n = j + 1 by omega]
          cases b n <;> simp [bit, Nat.testBit_succ]

/-- After a write under a mask, the lanes of the mask hold the new bits and every other predicate bit stands; p0 reads 1. -/
theorem Tg.pr_setP (t : Tg) (j mask : Nat) (f : Nat → Bool) (i lane : Nat) (low : lane < 32) :
    bitN ((t.setP j mask f).pr i) lane = if i = j ∧ i ≠ 0 ∧ bitN mask lane = true then f lane else bitN (t.pr i) lane := by
  by_cases zero : i = 0
  · simp [Tg.pr, zero]
  · by_cases same : i = j
    · subst same
      have word : (t.setP i mask f).pr i =
          (List.range 32).foldl (fun a k => a + bit (if bitN mask k = true then f k else bitN (t.pr i) k) * 2 ^ k) 0 % 2 ^ 32 := by
        simp only [Tg.setP, Tg.pr, if_neg zero, Tab.getD, Tab.find_put_self, Option.getD_some, BitVec.toNat_ofNat, apply_ite bit]
      obtain ⟨small, bits⟩ := testBit_sum_bits (fun k => if bitN mask k = true then f k else bitN (t.pr i) k) 32
      rw [word, Nat.mod_eq_of_lt small, bitN_eq_testBit, bits, decide_eq_true low, Bool.true_and]
      simp [zero]
    · simp only [Tg.setP, Tg.pr, if_neg zero, Tab.getD, Tab.find_put_ne _ _ _ _ same, same, false_and, if_false]

section
variable {s u : State} {core slot op : Nat} {t : Tg} {l : Launch} {x : Ins} (h : Issues s core slot op t l x u)
include h

/-- A comparison writes predicate D on the lanes of its predicate. -/
theorem Issues.compares {c : Instr} {g : Nat → Bool} (f : FwCtx → Tg → Nat → Bool) (run : exec c s = cmpOp core slot op s f)
    (same : ∀ k < 32, f (ctxOf core slot t l x) t.past k = g k) : Answers c s fun v => PredWrites u v core slot t x g := by
  refine h.goes run rfl ?_
  obtain ⟨st, ran, left, step⟩ := stepped_eq u.sys.now (t.past.setP x.d (predMask t x) (f (ctxOf core slot t l x) t.past))
  refine ⟨_, rfl, fun j lane _ low => ?_, ?_⟩
  · rw [step, ← same lane low]
    exact Tg.pr_setP t.past x.d (predMask t x) _ j lane low
  · dsimp only
    rw [step]
    rfl

theorem Issues.instHas (n f : Nat) : instHas u n f = instHas s n f := by
  rw [h.frame]
  rfl

theorem Issues.cbs : u.cbs = s.cbs := by rw [h.frame]

/-- The codebook that an instruction names. -/
theorem Issues.cbOf {n : Nat} {c : CbSlot} (named : l.cbs[x.md]? = some n) (held : Tab.find s.cbs n = some c) :
    cbOf (ctxOf core slot t l x) u = some c := by
  rw [Machine.cbOf, named, Option.bind_some, h.cbs, held]
end

/-- No lane fails a test that every lane of the mask passes. -/
theorem badLanes_nil {mask : Nat} {ok : Nat → Bool} (all : ∀ k < 32, bitN mask k = true → ok k = true) : badLanes mask ok = [] := by
  simp only [badLanes, lanesIn, List.filter_filter, List.filter_eq_nil_iff, List.mem_range, Bool.and_eq_true, Bool.not_eq_true',
    not_and]
  exact fun k low fails on => by rw [all k low on] at fails; cases fails

/-! ### Blocks of the local window (R344, R347) -/

section
variable {c : FwCtx} {s : State} {t : Tg} {k : Nat → Nat → Fx} (feature : instHas s c.l.inst 16 = true)
include feature

/-- An instruction without a lane touches no block. -/
theorem onBlock_idle (none : c.mask = 0) : onBlock c s t k = .go s t := by
  simp [onBlock, feature, none]

/-- A block inside the local window is served. -/
theorem onBlock_serves (some : c.mask ≠ 0) (fits : (t.ur c.x.a + fld c.x.imm 15 0) % 2 ^ 64 + mxBytes (6 + c.x.md) ≤ c.l.localBytes) :
    onBlock c s t k = k (6 + c.x.md) ((t.ur c.x.a + fld c.x.imm 15 0) % 2 ^ 64) := by
  simp only [onBlock, feature, mxOf, Bool.not_true, Bool.false_eq_true, if_false, if_neg some]
  exact if_neg (Nat.not_lt.2 fits)
end

theorem bitN_zero (k : Nat) : bitN 0 k = false := by simp [bitN]

/-- Writing a register on no lane writes nothing. -/
theorem Tg.setV_none (t : Tg) (r : Nat) (f : Nat → Nat) : t.setV r 0 f = t := by
  have none : ∀ ks : List Nat, ks.foldl (fun v k => if bitN 0 k = true then Tab.put v (32 * r + k) (BitVec.ofNat 32 (f k)) else v) t.v = t.v := by
    intro ks
    induction ks with
    | nil => rfl
    | cons k ks ih => rw [List.foldl_cons, if_neg (by simp [bitN_zero]), ih]
  rw [Tg.setV, none]

end Sys2Proof.Machine

namespace Sys2Proof
open Sys2Proof.Machine

/-- Settles O31, one case per clause: an arithmetic instruction is one write of register D (`Issues.lanes`), FCMP one of predicate D
(`Issues.compares`); the others pass their checks first. -/
theorem furrowFloatsWriteTheirLanes : Obligations.FurrowFloatsWriteTheirLanes := by
  unfold Obligations.FurrowFloatsWriteTheirLanes
  refine ⟨?fadd, ?fmul, ?ffma, ?fmin, ?fmax, ?frcp, ?fcmp, ?cvt, ?cvtCode, ?cvtFeature, ?mxunpk, ?mxpack, ?vqdec, ?vqenc, ?vqdecNone⟩
  case fadd => exact fun s core slot t l x u h => h.lanes (fun c t k => add32 (t.vr c.x.a k) (t.vr c.x.b k)) rfl fun _ _ => rfl
  case fmul => exact fun s core slot t l x u h => h.lanes (fun c t k => mul32 (t.vr c.x.a k) (t.vr c.x.b k)) rfl fun _ _ => rfl
  case ffma =>
    exact fun s core slot t l x u h => h.lanes (fun c t k => fma32 (t.vr c.x.a k) (t.vr c.x.b k) (t.vr c.x.c k)) rfl fun _ _ => rfl
  case fmin => exact fun s core slot t l x u h => h.lanes (fun c t k => min32 (t.vr c.x.a k) (t.vr c.x.b k)) rfl fun _ _ => rfl
  case fmax => exact fun s core slot t l x u h => h.lanes (fun c t k => max32 (t.vr c.x.a k) (t.vr c.x.b k)) rfl fun _ _ => rfl
  case frcp => exact fun s core slot t l x u h => h.lanes (fun c t k => div32 0x3F800000 (t.vr c.x.a k)) rfl fun _ _ => rfl
  case fcmp =>
    exact fun s core slot t l x u h => h.compares (fun c t k => if of32 (t.vr c.x.a k) = .nan ∨ of32 (t.vr c.x.b k) = .nan
      then decide (c.x.md = 1) else condOf c.x.md (fpLt (of32 (t.vr c.x.a k)) (of32 (t.vr c.x.b k)))
        (fpEq (of32 (t.vr c.x.a k)) (of32 (t.vr c.x.b k)))) rfl fun _ _ => rfl
  case cvt =>
    intro s core slot t l x u h source target feature
    have allowed : ¬ (((fld x.imm 7 0 = 4 ∨ fld x.imm 7 0 = 5) ∨ fld x.imm 15 8 = 4 ∨ fld x.imm 15 8 = 5) ∧
        instHas u l.inst 17 = false) := by
      rw [h.instHas]
      rcases feature with ⟨_, _, _, _⟩ | has
      · omega
      · simp [has]
    exact h.writes (exec_cvt ..) (by simp [source, target, allowed]) fun _ _ => rfl
  case cvtCode =>
    intro s core slot t l x u h unknown
    exact h.traps (exec_cvt ..) (by rcases unknown with source | target <;> simp [*])
  case cvtFeature =>
    intro s core slot t l x u h source target fp8 none
    have refused : ((fld x.imm 7 0 = 4 ∨ fld x.imm 7 0 = 5) ∨ fld x.imm 15 8 = 4 ∨ fld x.imm 15 8 = 5) ∧
        instHas u l.inst 17 = false := ⟨or_assoc.2 fp8, by rw [h.instHas, none]⟩
    exact h.traps (exec_cvt ..) (by simp [source, target, refused])
  case mxunpk =>
    intro s core slot t l x u h feature fits
    have has : instHas u l.inst 16 = true := by rw [h.instHas, feature]
    refine h.writes (exec_mxunpk ..) (f := fun k => (mxUnpack (6 + x.md)
      (Mem.read t.localMem ((t.ur x.a + fld x.imm 15 0) % 2 ^ 64) (mxBytes (6 + x.md)))).getD k 0) ?_ fun _ _ => rfl
    by_cases none : predMask t x = 0
    · rw [none, Tg.setV_none]
      exact onBlock_idle has none
    · exact onBlock_serves has none (fits none)
  case mxpack =>
    intro s core slot t l x u h feature some fits
    have has : instHas u l.inst 16 = true := by rw [h.instHas, feature]
    exact h.moves _ (exec_mxpack ..) (onBlock_serves has some fits)
  case vqdec =>
    intro s core slot t l x u n c h named held loaded inside entries
    have good : badLanes (predMask t x) (fun k => decide (t.vr x.a k < c.entries)) = [] :=
      badLanes_nil fun k low on => decide_eq_true (entries k low on)
    refine h.writes (exec_vqdec ..) ?_ fun _ _ => rfl
    simp [h.cbOf named held, Nat.not_le.2 inside, loaded]
    exact good
  case vqenc =>
    intro s core slot t l x u n c h named held loaded fits
    exact h.writes (exec_vqenc ..) (by simp [h.cbOf named held, Nat.not_lt.2 fits, loaded]) fun _ _ => rfl
  case vqdecNone =>
    intro s core slot t l x u h beyond
    exact h.traps (exec_vqdec ..) (by simp [cbOf, List.getElem?_eq_none beyond])

end Sys2Proof
end

section
/-!
PROOFS. Uniform, predicate, voting and staging instructions of the Furrow (spec file 15, R343 to R348, R357).
-/
namespace Sys2Proof.Machine

theorem fwKey_core {core slot : Nat} (low : slot < 16) : fwKey core slot / 16 = core := by
  unfold fwKey
  omega

theorem fwKey_slot {core slot : Nat} (low : slot < 16) : fwKey core slot % 16 = slot := by
  unfold fwKey
  omega

/-- What MOVS reads: the lane, the group's index, the core, the slot, or the time (R344). -/
def specialWord (imm lane index core slot now : Nat) : Nat :=
  if imm = 0 then lane else if imm = 1 then index else if imm = 2 then core else if imm = 3 then slot else now

/-- The time is read modulo the width of a lane. -/
theorem specialWord_mod (imm lane index core slot now : Nat) :
    specialWord imm lane index core slot (now % 2 ^ 32) % 2 ^ 32 = specialWord imm lane index core slot now % 2 ^ 32 := by
  simp only [specialWord, apply_ite (· % 2 ^ 32), Nat.mod_mod]

section
variable {s u : State} {core slot op : Nat} {t : Tg} {l : Launch} {x : Ins} (h : Issues s core slot op t l x u)
include h

/-- An instruction that halts its group. -/
theorem Issues.halts {c : Instr} {eff : FwCtx → State → Tg → Fx} {w : State} {g : Tg} {P : State → Prop}
    (run : exec c s = issue core slot op s eff) (fx : eff (ctxOf core slot t l x) u t.past = .halt w g)
    (post : P (putTg w (fwKey core slot) ((stepped w.sys.now g).pause .halted w.sys.now))) : Answers c s P :=
  .of _ (by rw [run, issue_eq h, fx]; rfl) post

theorem Issues.sys : u.sys = s.sys := by rw [h.frame]

theorem Issues.fw : u.fw = s.fw := by rw [h.frame]

theorem Issues.own : u.own = s.own := by rw [h.frame]

theorem Issues.synkoMax : synkoMax u = synkoMax s := by
  rw [h.frame]
  rfl

theorem Issues.stagedSet : stagedSet u l t.past = stagedSet s l t := by
  rw [Machine.stagedSet, h.fw]
  rfl
end

/-- A stepped group that is then halted stands halted, its registers and memory as they were (R344, R356). -/
theorem halted_eq (now : Nat) (t : Tg) :
    ∃ ran, (stepped now t).pause .halted now = { t with st := .halted, ran := ran, stepLeft := none, skipBreak := false } := by
  obtain ⟨st, ran, left, step⟩ := stepped_eq now t
  rw [step]
  exact ⟨_, rfl⟩

end Sys2Proof.Machine

namespace Sys2Proof
open Sys2Proof.Machine

/-- Settles O32, one case per clause: a write of lanes (`Issues.writes`), of a predicate (`Issues.compares`) or of the group itself
(`Issues.moves`), or the trap that a check finds (`Issues.traps`). -/
theorem furrowGroupInstructionsMoveTheGroup : Obligations.FurrowGroupInstructionsMoveTheGroup := by
  unfold Obligations.FurrowGroupInstructionsMoveTheGroup
  refine ⟨?nop, ?fence, ?movs, ?movsBad, ?umov, ?icmp, ?vote, ?red, ?setres, ?setstat, ?setstatBad, ?sadd, ?saddFull, ?brk, ?brkHalts⟩
  case nop => exact fun s core slot t l x u h => h.moves (fun g => g) (exec_fwNop ..) rfl
  case fence => exact fun s core slot t l x u h => h.moves (fun g => g) (exec_fence ..) rfl
  case movs =>
    intro s core slot t l x u h known
    have core_eq : fwKey core slot / 16 = core := fwKey_core h.slot_lt
    have slot_eq : fwKey core slot % 16 = slot := fwKey_slot h.slot_lt
    refine h.writes (exec_movs ..) (f := fun k => specialWord x.imm k t.index core slot (s.sys.now % 2 ^ 32)) ?_
      fun k _ => specialWord_mod x.imm k t.index core slot s.sys.now
    simp only [if_neg (Nat.not_lt.2 known), core_eq, slot_eq, h.sys]
    rfl
  case movsBad =>
    intro s core slot t l x u h unknown
    exact h.traps (exec_movs ..) (if_pos unknown)
  case umov =>
    intro s core slot t l x u h
    obtain ⟨v, hv, moved⟩ := h.moves (fun g => { g with u := Tab.put t.u x.d (BitVec.ofNat 64 (if x.md = 0 then intBits 64 x.simm
      else if x.md = 1 then intBits 64 (t.ur x.a + x.simm) else if x.md = 2 then t.ur x.d / 2 ^ 32 * 2 ^ 32 + t.vr x.a 0
      else t.ur x.d % 2 ^ 32 + t.vr x.a 0 * 2 ^ 32)) }) (exec_umov ..) rfl
    exact .of v hv ⟨_, moved, rfl⟩
  case icmp =>
    exact fun s core slot t l x u h => h.compares
      (fun c t k => condOf (c.x.md % 8) (ltW (bitN c.x.md 3) (t.vr c.x.a k) (t.vr c.x.b k)) (t.vr c.x.a k = t.vr c.x.b k)) rfl
      fun _ _ => rfl
  case vote => exact fun s core slot t l x u h => h.moves _ (exec_vote ..) rfl
  case red => exact fun s core slot t l x u h => h.writes (exec_red ..) rfl fun _ _ => rfl
  case setres => exact fun s core slot t l x u h => h.moves _ (exec_setres ..) rfl
  case setstat =>
    intro s core slot t l x u h free
    have allowed : ¬ (1 ≤ fld x.imm 7 0 ∧ fld x.imm 7 0 ≤ 0x7F) := by omega
    exact h.moves _ (exec_setstat ..) (if_neg allowed)
  case setstatBad =>
    intro s core slot t l x u h low high
    exact h.traps (exec_setstat ..) (if_pos ⟨low, Nat.le_of_lt_succ high⟩)
  case sadd =>
    intro s core slot t l x u h below mine room feature
    have passed : firstFail [(decide (fld x.imm 13 0 < synkoMax s), Status.badField), (owns s.own.sy (fld x.imm 13 0) l.inst, Status.notPermitted),
        ((stagedSet s l t).contains (fld x.imm 13 0) || decide ((stagedSet s l t).length < 4), Status.noResource),
        (instHas s l.inst 9, Status.featureNotNegotiated)] = none := by
      have room : ((stagedSet s l t).contains (fld x.imm 13 0) || decide ((stagedSet s l t).length < 4)) = true := by
        simpa using room
      rw [decide_eq_true below, mine, room, feature]
      rfl
    refine h.moves _ (exec_sadd ..) ?_
    simp only [h.synkoMax, h.own, h.stagedSet, h.instHas, passed]
    rfl
  case saddFull =>
    intro s core slot t l x u h below mine new full
    have refused : firstFail [(decide (fld x.imm 13 0 < synkoMax s), Status.badField), (owns s.own.sy (fld x.imm 13 0) l.inst, Status.notPermitted),
        ((stagedSet s l t).contains (fld x.imm 13 0) || decide ((stagedSet s l t).length < 4), Status.noResource),
        (instHas s l.inst 9, Status.featureNotNegotiated)] = some Status.noResource := by
      rw [decide_eq_true below, mine, new, decide_eq_false (Nat.not_lt.2 full)]
      rfl
    refine h.traps (exec_sadd ..) ?_
    simp only [h.synkoMax, h.own, h.stagedSet, h.instHas, refused]
  case brk =>
    intro s core slot t l x u h none
    refine h.moves (fun g => g) (exec_brk ..) (if_neg ?_)
    simp [h.fw, none]
  case brkHalts =>
    intro s core slot t l x u h attached
    have debugged : u.fw.dbg.src.isSome = true := by rw [h.fw, attached]
    obtain ⟨ran, halted⟩ := halted_eq u.sys.now t.past
    refine h.halts (exec_brk ..) (if_pos debugged) ⟨_, rfl, ?_⟩
    rw [halted]
    exact ⟨rfl, rfl, rfl, rfl, rfl, rfl⟩

end Sys2Proof
end

section
/-!
PROOFS. Local and global accesses of the Furrow (spec file 15, R344, R345, R353).
-/
namespace Sys2Proof.Machine

/-! ### Words stored lane by lane (R344) -/

/-- Equal bytes read equal. -/
theorem Mem.read_congr {m w : Mem} {a n : Nat} (same : ∀ j < n, Mem.get m (a + j) = Mem.get w (a + j)) : Mem.read m a n = Mem.read w a n := by
  induction n generalizing a with
  | zero => rfl
  | succ n ih =>
    have rest : ∀ j < n, Mem.get m (a + 1 + j) = Mem.get w (a + 1 + j) := fun j low => by
      rw [Nat.add_assoc, Nat.add_comm 1 j]
      exact same (j + 1) (Nat.succ_lt_succ low)
    rw [Mem.read, Mem.read, ih rest, ← Nat.add_zero a, same 0 n.succ_pos]

/-- A memory after words are stored, one for each lane. -/
def storeWords (m : Mem) (addr val : Nat → Nat) (ks : List Nat) : Mem :=
  ks.foldl (fun m k => Mem.write m (addr k) (putLE 4 (val k))) m

section
variable {addr val : Nat → Nat}

/-- A byte outside every word stored reads as before. -/
theorem get_storeWords {ks : List Nat} {a : Nat} (out : ∀ k ∈ ks, a < addr k ∨ addr k + 4 ≤ a) (m : Mem) :
    Mem.get (storeWords m addr val ks) a = Mem.get m a := by
  induction ks generalizing m with
  | nil => rfl
  | cons k ks ih =>
    have kept := ih (fun j hj => out j (List.mem_cons_of_mem _ hj)) (Mem.write m (addr k) (putLE 4 (val k)))
    exact kept.trans (Mem.get_write_other _ _ _ _ (by rw [putLE_length]; exact out k List.mem_cons_self))

/-- A word reads back when no later lane stores over it. -/
theorem read_storeWords {before after : List Nat} {k : Nat} (apart : ∀ j ∈ after, addr j + 4 ≤ addr k ∨ addr k + 4 ≤ addr j) (m : Mem) :
    Mem.read (storeWords m addr val (before ++ k :: after)) (addr k) 4 = putLE 4 (val k) := by
  have later : storeWords m addr val (before ++ k :: after) =
      storeWords (Mem.write (storeWords m addr val before) (addr k) (putLE 4 (val k))) addr val after := by
    rw [storeWords, List.foldl_append]
    rfl
  have kept : ∀ j < 4, Mem.get (storeWords m addr val (before ++ k :: after)) (addr k + j) =
      Mem.get (Mem.write (storeWords m addr val before) (addr k) (putLE 4 (val k))) (addr k + j) := fun j low => by
    rw [later]
    exact get_storeWords (fun i hi => by have := apart i hi; omega) _
  have back := Mem.read_write (storeWords m addr val before) (addr k) (putLE 4 (val k))
  rw [putLE_length] at back
  rw [Mem.read_congr kept, back]
end

theorem mem_lanesIn {mask k : Nat} : k ∈ lanesIn mask ↔ k < 32 ∧ bitN mask k = true := by
  rw [lanesIn, List.mem_filter, List.mem_range]

/-- The lanes of a mask rise: those after a lane are greater. -/
theorem lanesIn_split {mask k : Nat} (on : k ∈ lanesIn mask) :
    ∃ before after, lanesIn mask = before ++ k :: after ∧ ∀ j ∈ after, k < j := by
  obtain ⟨before, after, split⟩ := List.append_of_mem on
  have rising : (lanesIn mask).Pairwise (· < ·) := List.pairwise_lt_range.filter _
  rw [split, List.pairwise_append, List.pairwise_cons] at rising
  exact ⟨before, after, split, rising.2.1.1⟩

/-! ### The checks of an access (R344, R345) -/

/-- A lane that fails a test is found. -/
theorem badLanes_cons {mask k : Nat} {ok : Nat → Bool} (low : k < 32) (on : bitN mask k = true) (fails : ok k = false) :
    ∃ j r, badLanes mask ok = j :: r := by
  have mem : k ∈ badLanes mask ok := List.mem_filter.2 ⟨mem_lanesIn.2 ⟨low, on⟩, by rw [fails]; rfl⟩
  exact List.exists_cons_of_ne_nil (List.ne_nil_of_mem mem)

section
variable {core slot : Nat} {t : Tg} {l : Launch} {x : Ins}

/-- The checks of a local access pass. -/
theorem localFail_none (good : ∀ k < 32, bitN (predMask t x) k = true → laneAddr t x k + 4 ≤ l.localBytes ∧ laneAddr t x k % 4 = 0) :
    localFail (ctxOf core slot t l x) t.past = none := by
  have inside : badLanes (predMask t x) (fun k => decide (eaOf (ctxOf core slot t l x) t.past k + 4 ≤ l.localBytes)) = [] :=
    badLanes_nil fun k low on => decide_eq_true (good k low on).1
  have aligned : badLanes (predMask t x) (fun k => decide (eaOf (ctxOf core slot t l x) t.past k % 4 = 0)) = [] :=
    badLanes_nil fun k low on => decide_eq_true (good k low on).2
  simp only [localFail, inside, aligned]

/-- A lane outside the window is found first. -/
theorem localFail_outside {k : Nat} (low : k < 32) (on : bitN (predMask t x) k = true) (out : l.localBytes < laneAddr t x k + 4) :
    ∃ a m, localFail (ctxOf core slot t l x) t.past = some (Status.bounds, a, m) := by
  obtain ⟨j, r, found⟩ := badLanes_cons (ok := fun k => decide (eaOf (ctxOf core slot t l x) t.past k + 4 ≤ l.localBytes))
      low on (decide_eq_false (Nat.not_le.2 out))
  simp only [localFail, found]
  exact ⟨_, _, rfl⟩

/-- A lane that is not aligned is found where every lane lies inside the window. -/
theorem localFail_odd {k : Nat} (inside : ∀ k < 32, bitN (predMask t x) k = true → laneAddr t x k + 4 ≤ l.localBytes) (low : k < 32)
    (on : bitN (predMask t x) k = true) (odd : laneAddr t x k % 4 ≠ 0) :
    ∃ a m, localFail (ctxOf core slot t l x) t.past = some (Status.badField, a, m) := by
  have good : badLanes (predMask t x) (fun k => decide (eaOf (ctxOf core slot t l x) t.past k + 4 ≤ l.localBytes)) = [] :=
    badLanes_nil fun k low on => decide_eq_true (inside k low on)
  obtain ⟨j, r, found⟩ := badLanes_cons (ok := fun k => decide (eaOf (ctxOf core slot t l x) t.past k % 4 = 0)) low on (decide_eq_false odd)
  simp only [localFail, good, found]
  exact ⟨_, _, rfl⟩

section
variable {b : Bind} {use : Nat}

/-- The checks of R345 pass. -/
theorem globalFail_ok (bound : l.binds[x.md]? = some b) (allowed : bitN b.use use = true)
    (good : ∀ k < 32, bitN (predMask t x) k = true → laneAddr t x k + 4 ≤ b.len ∧ laneAddr t x k % 4 = 0) :
    globalFail (ctxOf core slot t l x) t.past use = .ok b := by
  have inside : badLanes (predMask t x) (fun k => decide (eaOf (ctxOf core slot t l x) t.past k + 4 ≤ b.len)) = [] :=
    badLanes_nil fun k low on => decide_eq_true (good k low on).1
  have aligned : badLanes (predMask t x) (fun k => decide (eaOf (ctxOf core slot t l x) t.past k % 4 = 0)) = [] :=
    badLanes_nil fun k low on => decide_eq_true (good k low on).2
  simp only [globalFail, bound, allowed, inside, aligned, Bool.not_true, Bool.false_eq_true, if_false]

/-- A binding that the launch does not have traps. -/
theorem globalFail_unbound (none : l.binds.length ≤ x.md) :
    globalFail (ctxOf core slot t l x) t.past use = .error (Status.badField, 0, allLanes) := by
  simp only [globalFail, List.getElem?_eq_none none]

/-- A binding whose use does not allow the access traps. -/
theorem globalFail_use (bound : l.binds[x.md]? = some b) (denied : bitN b.use use = false) :
    globalFail (ctxOf core slot t l x) t.past use = .error (Status.keyViolation, 0, allLanes) := by
  simp only [globalFail, bound, denied, Bool.not_false, if_true]
end

/-- The checks of CPY pass (R344). -/
structure Copies (t : Tg) (l : Launch) (x : Ins) (b : Bind) : Prop where
  bound : l.binds[x.md]? = some b
  allowed : bitN b.use (x.imm % 2) = true
  inside : t.ur x.a + t.ur x.c ≤ b.len
  size : t.ur x.c % 64 = 0 ∧ 64 ≤ t.ur x.c ∧ t.ur x.c ≤ 65536
  aligned : t.ur x.a % 64 = 0 ∧ t.ur x.b % 64 = 0
  room : t.ur x.b + t.ur x.c ≤ l.localBytes

theorem Copies.cpyFail {b : Bind} (h : Copies t l x b) : cpyFail (ctxOf core slot t l x) t.past = .ok b := by
  obtain ⟨bound, allowed, inside, size, aligned, room⟩ := h
  have shape : ¬ (t.ur x.c % 64 ≠ 0 ∨ t.ur x.c < 64 ∨ 65536 < t.ur x.c ∨ t.ur x.a % 64 ≠ 0 ∨ t.ur x.b % 64 ≠ 0) := by omega
  simp only [Machine.cpyFail, bound, allowed, Bool.not_true, Bool.false_eq_true, if_false]
  exact (if_neg (Nat.not_lt.2 inside)).trans ((if_neg shape).trans (if_neg (Nat.not_lt.2 room)))

theorem bitN_imm (n : Nat) : (bitN n 0 = true ↔ n % 2 = 1) ∧ (bitN n 0 = false ↔ n % 2 = 0) := by
  constructor <;> simp [bitN]
end

/-! ### ATOMG (R353) -/

/-- The record of an atomic in its group's log. -/
def atomEntry (c : FwCtx) (t : Tg) (b : Bind) (old : List (Nat × Nat)) : ALog :=
  { crc := atomCrc c t b, priors := (List.range 32).map fun k => BitVec.ofNat 32 (gotLane (atomLanes c t b old).1 k) }

/-- The device with an atomic noted at the end of its group's log. -/
def atomLogged (s : State) (key : Nat) (log : List ALog) (e : ALog) : State :=
  { s with fw := { s.fw with alogs := Tab.put s.fw.alogs key (log ++ [e]) } }

end Sys2Proof.Machine

namespace Sys2Proof
open Sys2Proof.Machine

/-- Settles O33, one case per clause: what the checks find (`localFail_none`, `globalFail_ok` and their failing counterparts), then the
access itself. -/
theorem furrowMemoryAccessesAreChecked : Obligations.FurrowMemoryAccessesAreChecked := by
  unfold Obligations.FurrowMemoryAccessesAreChecked
  refine ⟨?ldl, ?stl, ?ldlOut, ?stlOdd, ?lda, ?ldg, ?stg, ?stgUse, ?ldgUnbound, ?cpyIn, ?cpyOut, ?atomg, ?atomgFull⟩
  case ldl =>
    intro s core slot t l x u h good
    refine h.writes (exec_ldl ..) (f := fun k => ofLE (Mem.read t.localMem (laneAddr t x k) 4)) ?_ fun _ _ => rfl
    simp only [localFail_none good]
    rfl
  case stl =>
    intro s core slot t l x u h good
    obtain ⟨v, hv, moved⟩ := h.moves (fun g => { g with localMem := storeWords t.localMem (laneAddr t x) (t.vr x.c) (lanesIn (predMask t x)) })
      (exec_stl ..) (by simp only [localFail_none good]; rfl)
    refine .of v hv ⟨_, moved, fun a out => get_storeWords (fun k on => ?_) _, fun k low on last => ?_⟩
    · obtain ⟨low, on⟩ := mem_lanesIn.1 on
      exact out k low on
    · obtain ⟨before, after, split, rising⟩ := lanesIn_split (mem_lanesIn.2 ⟨low, on⟩)
      rw [split]
      refine read_storeWords (fun j later => ?_) _
      obtain ⟨lowj, onj⟩ := mem_lanesIn.1 (show j ∈ lanesIn (predMask t x) by rw [split]; simp [later])
      have apart := last j lowj (rising j later) onj
      have aligned := (good k low on).2
      have alignedj := (good j lowj onj).2
      omega
  case ldlOut =>
    rintro s core slot t l x u h ⟨k, low, on, out⟩
    obtain ⟨a, m, found⟩ := localFail_outside (core := core) (slot := slot) low on out
    obtain ⟨v, hv, trapped⟩ := h.traps (exec_ldl ..) (by simp only [found]; rfl)
    exact .of v hv ⟨a, m, trapped⟩
  case stlOdd =>
    rintro s core slot t l x u h inside ⟨k, low, on, odd⟩
    obtain ⟨a, m, found⟩ := localFail_odd (core := core) (slot := slot) inside low on odd
    obtain ⟨v, hv, trapped⟩ := h.traps (exec_stl ..) (by simp only [found]; rfl)
    exact .of v hv ⟨a, m, trapped⟩
  case lda =>
    intro s core slot t l x u h inside
    have good : badLanes (predMask t x) (fun k => decide (eaOf (ctxOf core slot t l x) t.past k + 4 ≤ l.args.length)) = [] :=
      badLanes_nil fun k low on => decide_eq_true (inside k low on)
    refine h.writes (exec_lda ..) (f := fun k => getLE l.args (laneAddr t x k) 4) ?_ fun _ _ => rfl
    simp only [good]
    rfl
  case ldg =>
    intro s core slot t l x u b r w h bound allowed good read
    have read : readLanes (admOf u t.past.q t.past.i) l.inst (fun k => b.addr + eaOf (ctxOf core slot t l x) t.past k) u
      (lanesIn (predMask t x)) = .ok w r := read
    exact h.writes (exec_ldg ..) (by simp only [globalFail_ok bound allowed good, read]) fun _ _ => rfl
  case stg =>
    intro s core slot t l x u b r w h bound allowed good stored
    have stored : writeLanes (admOf u t.past.q t.past.i) l.inst u ((lanesIn (predMask t x)).map fun k =>
      (k, b.addr + eaOf (ctxOf core slot t l x) t.past k, t.past.vr x.c k)) = .ok w r := stored
    exact h.moves (fun g => g) (exec_stg ..) (by simp only [globalFail_ok bound allowed good, stored])
  case stgUse =>
    intro s core slot t l x u b h bound denied
    exact h.traps (exec_stg ..) (by simp only [globalFail_use bound denied])
  case ldgUnbound =>
    intro s core slot t l x u h none
    exact h.traps (exec_ldg ..) (by simp only [globalFail_unbound none])
  case cpyIn =>
    intro s core slot t l x u b d w h bound some inward allowed inside size1 size2 size3 aligned1 aligned2 room read
    have copies : Copies t l x b :=
      ⟨bound, by rw [(bitN_imm x.imm).2.1 inward, allowed], inside, ⟨size1, size2, size3⟩, ⟨aligned1, aligned2⟩, room⟩
    have read : readMemAt (admOf u t.past.q t.past.i) u l.inst (b.addr + t.past.ur x.a) (t.past.ur x.c) = .ok w d := read
    exact h.moves (fun g => { g with localMem := Mem.write t.localMem (t.ur x.b) d }) (exec_cpy ..)
      (by simp only [if_neg some, copies.cpyFail, inward, Bool.false_eq_true, if_false, read]; rfl)
  case cpyOut =>
    intro s core slot t l x u b d w h bound some outward allowed inside size1 size2 size3 aligned1 aligned2 room stored
    have copies : Copies t l x b :=
      ⟨bound, by rw [(bitN_imm x.imm).1.1 outward, allowed], inside, ⟨size1, size2, size3⟩, ⟨aligned1, aligned2⟩, room⟩
    have stored : writeMemAt (admOf u t.past.q t.past.i) u l.inst (b.addr + t.past.ur x.a)
        (Mem.read t.past.localMem (t.past.ur x.b) (t.past.ur x.c)) =
      .ok w d := stored
    exact h.moves (fun g => g) (exec_cpy ..) (by simp only [if_neg some, copies.cpyFail, outward, if_true, stored])
  case atomg =>
    intro s core slot t l x u b w old y r h known room bound allowed good fresh read stored
    have log : (Tab.getD u.fw.alogs (alogKey t.q t.i t.index) [])[t.atomg]? = none := by
      rw [h.fw]
      exact List.getElem?_eq_none fresh
    have read : readLanes (admOf u t.past.q t.past.i) l.inst (fun k => b.addr + eaOf (ctxOf core slot t l x) t.past k) u
      (lanesIn (predMask t x)) = .ok w old := read
    have stored : writeLanes (admOf u t.past.q t.past.i) l.inst w (atomLanes (ctxOf core slot t l x) t.past b old).2 = .ok y r := stored
    refine h.goes (w := atomLogged y (alogKey t.q t.i t.index) (Tab.getD u.fw.alogs (alogKey t.q t.i t.index) [])
        (atomEntry (ctxOf core slot t l x) t.past b old))
      (g := Tg.setV { t.past with atomg := t.atomg + 1 } x.d (predMask t x) (gotLane (atomLanes (ctxOf core slot t l x) t.past b old).1))
      (exec_atomg ..) ?_ ⟨⟨_, Tab.find_put_self .., ?_, fun k low on => ?_⟩, ?_, rfl⟩
    · simp only [if_neg (Nat.not_lt.2 known), if_neg (Nat.not_le.2 room), globalFail_ok bound allowed good, log, read, stored]
      rfl
    · obtain ⟨st, ran, left, step⟩ := stepped_eq y.sys.now
        (Tg.setV { t.past with atomg := t.atomg + 1 } x.d (predMask t x) (gotLane (atomLanes (ctxOf core slot t l x) t.past b old).1))
      exact congrArg Tg.atomg step
    · obtain ⟨st, ran, left, step⟩ := stepped_eq y.sys.now
        (Tg.setV { t.past with atomg := t.atomg + 1 } x.d (predMask t x) (gotLane (atomLanes (ctxOf core slot t l x) t.past b old).1))
      refine (congrArg (Tg.vr · x.d k) step).trans ((Tg.vr_setV { t.past with atomg := t.atomg + 1 } _ _ _ x.d k low).trans ?_)
      rw [if_pos ⟨rfl, on⟩]
    · simp [putTg, atomLogged, Tab.getD, h.fw]
  case atomgFull =>
    intro s core slot t l x u h known full
    exact h.traps (exec_atomg ..) (by simp only [if_neg (Nat.not_lt.2 known), if_pos full])

end Sys2Proof
end

section
/-!
PROOFS. A state that the statement about the Furrow's control transfers does not exclude and in which one of its clauses fails, run
through the model (R212, R218, R343).
-/
namespace Sys2Proof.Machine

/-- A span of `inst` 0 over a page of HBM. -/
def codeSpan (target : Nat) : Span :=
  { inst := 0, kind := .hbm, start := 0, len := 0x1000, target := target, migr := false, migOff := 0, resHbm := false,
    readMostly := false, prefer := 0, moving := none, movingAt := 0, destroying := none, handle := 0, bad1 := false, bad2 := false }

/-- A launch whose code image is its header and one instruction. -/
def oneInstruction : Launch := newLaunch 0 0 (zeros 64) (zeros 72) []

/-- Its group, at the instruction. -/
def groupAtCode : Tg := { Tg.start 0 0 0 oneInstruction 0 0 0 with pc := 64 }

/-- Its entry, admitted before everything else. -/
def launchEntry : Infl :=
  { ent := zeros 64, seq := 0, disp := true, done := none, written := false, retired := false, deadline := none, adm := some 0,
    keys := [], spans := [1], args := none }

/-- The launch runs from span 1, which is being destroyed, while span 2 over the same page is the one in the range tree. Span 1 holds a
NOP where span 2 holds an undefined opcode. -/
def codeReplaced : State :=
  { newWorker with
    insts := [(0, { inst0 with gran := [0] })], infl := [(inflKey 0 0, launchEntry)],
    spans := [(1, { codeSpan 0 with destroying := some 1 }), (2, codeSpan 0x1000)], hbm := [(0x1047, 0xFF)],
    fw := { newWorker.fw with slots := [(0, groupAtCode)], launches := [(inflKey 0 0, oneInstruction)] } }

/-- The instruction as a new access reads it. -/
def undefinedWord : Bytes := zeros 7 ++ [0xFF]

/-- A new access reads the instruction through span 2. -/
theorem readMem_codeReplaced :
    readMem codeReplaced oneInstruction.inst (oneInstruction.codeAddr + groupAtCode.pc) 8 =
      .ok (readMem codeReplaced oneInstruction.inst (oneInstruction.codeAddr + groupAtCode.pc) 8).state undefinedWord := by
  decide +kernel

end Sys2Proof.Machine

namespace Sys2Proof
open Sys2Proof.Machine

/-- Refutes O34: the clause of an undefined opcode has the instruction that an access made now reads, and its conditions do not exclude a
launch admitted before the span of its code was destroyed and replaced. The launch still fetches through the old span (R212, R218): there
a NOP, so the group goes on where the clause has it trapped. -/
theorem not_furrowControlTransfersAndTraps : ¬ Obligations.FurrowControlTransfersAndTraps := by
  unfold Obligations.FurrowControlTransfersAndTraps
  rintro ⟨-, -, -, -, -, -, -, -, -, -, -, -, undefined, -⟩
  obtain ⟨t, ht, trapped⟩ := undefined codeReplaced 0 0 groupAtCode oneInstruction undefinedWord _ (by decide) rfl rfl (by decide +kernel)
    (by decide +kernel) (by decide) rfl (by decide) readMem_codeReplaced (by decide +kernel)
  have goesOn : readAfter (.fwNop 0 0) codeReplaced (fun t => (Tab.find t.fw.slots 0).map (·.pc)) = some (some 72) := by decide +kernel
  have retired : Tab.find t.fw.slots 0 = none := by
    rw [trapped]
    decide +kernel
  rw [readAfter_of_next _ ht, retired] at goesOn
  exact absurd goesOn (by decide)

end Sys2Proof
end

section
/-!
PROOFS. The event log, the interrupt registers and ALERT_N (spec file 18, R395 to R402; log 65).
-/
namespace Sys2Proof.Machine

/-! ### Interrupts (R401) -/

/-- Replacing the interrupt registers sends the message where their AND rises from zero. -/
theorem setInt_out_length (s : State) (stat en : BitVec 6) :
    (setInt s stat en).out.length = s.out.length + if s.intr.stat &&& s.intr.en = 0 ∧ stat &&& en ≠ 0 then 1 else 0 := by
  unfold setInt
  dsimp only
  split <;> rfl

/-- Clearing causes sends the message again where an enabled one remains. -/
theorem clearInt_intr (s : State) (bits : BitVec 6) :
    (clearInt s bits).intr = { stat := s.intr.stat &&& ~~~bits, en := s.intr.en } ∧
    (clearInt s bits).out.length = s.out.length + (if s.intr.stat &&& ~~~bits &&& s.intr.en = 0 then 0 else 1) ∧
    (s.intr.stat &&& ~~~bits &&& s.intr.en = 0 → (clearInt s bits).out = s.out) ∧
    clearInt s bits = { s with intr := (clearInt s bits).intr, out := (clearInt s bits).out } := by
  unfold clearInt
  dsimp only
  split
  · exact ⟨rfl, rfl, fun _ => rfl, rfl⟩
  next remains => exact ⟨rfl, rfl, fun none => absurd none remains, rfl⟩

/-! ### EVENT_LOG_WRITE (R395, R396) -/

theorem nextStaged_first {run : Bool} {e : Ev} (now : run = true ∨ evTender e = false) (r : List Ev) :
    nextStaged run (e :: r) = some (e, r) := by
  rw [nextStaged, if_pos (by rcases now with h | h <;> simp [h])]

theorem coalesce_none {e : Ev} {l : List LogEnt} (new : ∀ x ∈ l, evSame x.ev e = false) : coalesce e l = none := by
  induction l with
  | nil => rfl
  | cons x l ih =>
    rw [coalesce, new x List.mem_cons_self, if_neg (by simp), ih fun y hy => new y (List.mem_cons_of_mem _ hy)]
    rfl

/-- The device once the event at the front of the staging is taken from it. -/
def unstaged (s : State) (r : List Ev) : State := { s with log := { s.log with staged := r } }

section
variable {s : State} {e : Ev} {r : List Ev} (front : s.log.staged = e :: r) (now : tenderRuns s = true ∨ evTender e = false)
include front now

/-- An event that nothing coalesces is written as a new entry. -/
theorem exec_eventLogWrite_appends (alone : 2 ≤ e.sev ∨ ∀ x ∈ s.log.entries, evSame x.ev e = false) :
    exec .eventLogWrite s = .next (eventInts (appendEv (unstaged s r) e) e.sev) := by
  have new : (if e.sev ≤ 1 then coalesce e s.log.entries else none) = none := by
    rcases alone with high | apart
    · exact if_neg (by omega)
    · rw [coalesce_none apart, ite_self]
  simp only [exec_eventLogWrite, execEventLogWrite, front, nextStaged_first now, new]
  rfl

/-- An event like the newest entry that agrees with it is counted there. -/
theorem exec_eventLogWrite_counts {x : LogEnt} {es : List LogEnt} (low : e.sev ≤ 1) (entries : s.log.entries = x :: es)
    (same : evSame x.ev e = true) (near : within1ms x.ev.time e.time = true) :
    exec .eventLogWrite s = .next { s with log := { s.log with staged := r, entries := { x with rep := satInc 16 x.rep } :: es } } := by
  simp only [exec_eventLogWrite, execEventLogWrite, front, nextStaged_first now, if_pos low, entries, coalesce, same, near, if_true]
end

theorem eventInts_frame (s : State) (sev : Nat) :
    eventInts s sev = { s with intr := (eventInts s sev).intr, out := (eventInts s sev).out } := by
  unfold eventInts
  dsimp only
  split <;> split
  · rw [raise_frame (raise s 1), raise_frame s]
  · exact raise_frame ..
  · exact raise_frame ..
  · rfl

theorem eventInts_intr (s : State) (sev : Nat) :
    (eventInts s sev).intr.stat = s.intr.stat ||| (if logSevCfg s ≤ sev then 2 else 0) ||| (if sev = 3 then 32 else 0) ∧
    (eventInts s sev).intr.en = s.intr.en := by
  unfold eventInts
  dsimp only
  split <;> split <;> simp [*]

/-- A new entry stands first, under the next SEQ. -/
theorem appendEv_room {s : State} (room : s.log.entries.length < 4096) (e : Ev) :
    appendEv s e = { s with log := { s.log with
      entries := { seq := s.log.head + 1, rep := 0, ev := e } :: s.log.entries, head := s.log.head + 1 } } := by
  have notFull : decide (s.log.entries.length ≥ 4096) = false := decide_eq_false (Nat.not_le.2 room)
  simp [appendEv, notFull]
  omega

/-- In a full log it replaces the oldest one, which is counted where it was not acknowledged. -/
theorem appendEv_full {s : State} {o : LogEnt} (full : 4096 ≤ s.log.entries.length) (oldest : s.log.entries.getLast? = some o) (e : Ev) :
    appendEv s e = { s with log := { s.log with
      entries := { seq := s.log.head + 1, rep := 0, ev := e } :: s.log.entries.dropLast, head := s.log.head + 1,
      lost := if s.log.ack < o.seq then satInc 32 s.log.lost else s.log.lost } } := by
  simp [appendEv, full, oldest]

end Sys2Proof.Machine

namespace Sys2Proof
open Sys2Proof.Machine

/-- Settles O50, one case per clause. An event is appended (`exec_eventLogWrite_appends`) or counted (`exec_eventLogWrite_counts`); the
registers' writes pass `checked`. -/
theorem eventsAndInterruptsFollowTheirRules : Obligations.EventsAndInterruptsFollowTheirRules := by
  unfold Obligations.EventsAndInterruptsFollowTheirRules
  refine ⟨?appends, ?overwrites, ?coalesces, ?idle, ?ackLo, ?ackHi, ?ackAhead, ?copies, ?future, ?gone, ?clears, ?enables, ?reserved,
    ?critical, ?alert⟩
  case appends =>
    intro s e r front now room alone
    have ints := eventInts_intr (appendEv (unstaged s r) e) e.sev
    refine .of _ (exec_eventLogWrite_appends front now alone) ?_
    rw [eventInts_frame]
    rw [appendEv_room (s := unstaged s r) room] at ints ⊢
    exact ⟨rfl, rfl, rfl, rfl, ints.1, ints.2, rfl⟩
  case overwrites =>
    intro s e r o front now full high oldest
    refine .of _ (exec_eventLogWrite_appends front now (.inl high)) ?_
    rw [eventInts_frame, appendEv_full (s := unstaged s r) full oldest]
    exact ⟨rfl, rfl, rfl⟩
  case coalesces =>
    intro s e r x es front now low entries same before soon
    have near : within1ms x.ev.time e.time = true := decide_eq_true ⟨by omega, soon⟩
    exact .of _ (exec_eventLogWrite_counts front now low entries same near) ⟨rfl, rfl, rfl, rfl⟩
  case idle =>
    intro s none
    exact .of s (by simp only [exec_eventLogWrite, execEventLogWrite, none, nextStaged]) rfl
  case ackLo =>
    intro s w live taken
    refine .of { s with log := { s.log with ackLo := w.data } } ?_ ⟨rfl, rfl⟩
    simp only [exec_tnLogAckLoWrite, execTnLogAckLoWrite, live, Bool.not_true, Bool.false_eq_true, if_false]
    rw [checked_ok taken firstFail_nil]
  case ackHi =>
    intro s w live taken known
    refine .of _ ?_ rfl
    simp only [exec_tnLogAckHiWrite, execTnLogAckHiWrite, live, Bool.not_true, Bool.false_eq_true, if_false]
    rw [checked_ok taken (by rw [decide_eq_true (show ackValue s w ≤ s.log.head from known)]; rfl)]
    rfl
  case ackAhead =>
    intro s w live taken ahead free
    refine .of (reject s (regAddr s 0x0B 0x50C) none w Status.badField) ?_ ⟨reject_log .., (reject_captures free ..).2⟩
    simp only [exec_tnLogAckHiWrite, execTnLogAckHiWrite, live, Bool.not_true, Bool.false_eq_true, if_false]
    rw [checked_fail taken (by rw [decide_eq_false (show ¬ ackValue s w ≤ s.log.head from Nat.not_le.2 ahead)]; rfl)]
  case copies =>
    rintro s w v e live taken rfl some known found
    refine .of _ ?_ rfl
    simp only [exec_tnLogRselHiWrite, execTnLogRselHiWrite, live, Bool.not_true, Bool.false_eq_true, if_false]
    rw [checked_ok taken firstFail_nil, logCopy, if_neg (by omega), found]
  case future =>
    rintro s w v live taken rfl beyond
    refine .of _ ?_ rfl
    simp only [exec_tnLogRselHiWrite, execTnLogRselHiWrite, live, Bool.not_true, Bool.false_eq_true, if_false]
    rw [checked_ok taken firstFail_nil, logCopy, if_pos (.inr beyond)]
  case gone =>
    rintro s w v live taken rfl some known none
    have missing : s.log.entries.find? (fun x => x.seq = w.data.toNat * 2 ^ 32 + s.log.rselLo.toNat) = Option.none :=
      List.find?_eq_none.2 fun x hx => by simpa using none x hx
    refine .of _ ?_ rfl
    simp only [exec_tnLogRselHiWrite, execTnLogRselHiWrite, live, Bool.not_true, Bool.false_eq_true, if_false]
    rw [checked_ok taken firstFail_nil, logCopy, if_neg (by omega), missing]
  case clears =>
    intro s w live taken rsv
    obtain ⟨intr, sent, silent, frame⟩ := clearInt_intr s (w.data.setWidth 6)
    refine .of (clearInt s (w.data.setWidth 6)) ?_ ⟨intr, ?_, ?_, frame⟩
    · simp only [exec_tnIntStatClear, execTnIntStatClear, live, Bool.not_true, Bool.false_eq_true, if_false]
      rw [checked_ok taken (by rw [rsv]; rfl)]
    · rw [intr]
      exact silent
    · rw [intr, sent]
      exact fun remains => by rw [if_neg remains]
  case enables =>
    intro s w live taken rsv
    have intr := setInt_stat s s.intr.stat (w.data.setWidth 6)
    refine .of (setInt s s.intr.stat (w.data.setWidth 6)) ?_ ⟨intr, ?_, setInt_frame ..⟩
    · simp only [exec_tnIntEnWrite, execTnIntEnWrite, live, Bool.not_true, Bool.false_eq_true, if_false]
      rw [checked_ok taken (by rw [rsv]; rfl)]
    · rw [intr]
      exact setInt_out_length ..
  case reserved =>
    intro s w live taken rsv free
    refine .of (reject s (regAddr s 0x0B 0x584) none w Status.badField) ?_ ⟨?_, (reject_captures free ..).2⟩
    · simp only [exec_tnIntEnWrite, execTnIntEnWrite, live, Bool.not_true, Bool.false_eq_true, if_false]
      rw [checked_fail taken (by rw [rsv]; rfl)]
    · rw [reject, if_neg (by simp [free]), raise_en]
  case critical =>
    intro s e r front now room high
    obtain ⟨stat, -⟩ := eventInts_intr (appendEv (unstaged s r) e) e.sev
    refine .of _ (exec_eventLogWrite_appends front now (.inl (by omega))) ?_
    have crit : (eventInts (appendEv (unstaged s r) e) e.sev).intr.stat.getLsbD 5 = true := by
      rw [stat, if_pos high, BitVec.getLsbD_or]
      simp
    rw [alertN, alertLow, crit, Bool.or_true, Bool.not_true]
  case alert =>
    rintro s (owed | halted)
    · have event : lvEvent s ≠ 0 := by
        have pending : s.lv.done.isEmpty = false := by simpa using owed
        simp [lvEvent, pending, bit]
      rw [alertN, alertLow, decide_eq_true event]
      rfl
    · rw [alertN, alertLow, decide_eq_true halted]
      simp

end Sys2Proof
end

section
/-!
PROOFS. Foreground self-tests (spec file 18, R403, R404; log 54).
-/
namespace Sys2Proof.Machine

/-! ### SELFTEST_START (R403) -/

/-- The fields of a start that names a unit in service. -/
structure TestNamed (s : State) (w : RegWr) : Prop where
  live : windowLive s = true
  taken : Taken s w
  rsv : noRsv w 0x7F000000 = true
  start : bitN w.data.toNat 31 = true
  unit : fld w.data.toNat 7 0 < stUnits (fld w.data.toNat 15 8)
  serving : stInService s (fld w.data.toNat 15 8) (fld w.data.toNat 7 0) = true

/-- The device with the test of a command running. -/
def testStarted (s : State) (w : RegWr) : State :=
  { s with st := { running := true, done := false, result := false, tag := fld w.data.toNat 23 16, target := fld w.data.toNat 15 8,
                   unit := fld w.data.toNat 7 0, started := s.sys.now, detail := 0 } }

section
variable {s : State} {w : RegWr}

theorem TestNamed.exec_starts (h : TestNamed s w) (idle : s.st.running = false)
    (free : stBusy s (fld w.data.toNat 15 8) (fld w.data.toNat 7 0) = false) :
    exec (.selftestStart w) s = .next (testStarted s w) := by
  obtain ⟨live, taken, rsv, start, unit, serving⟩ := h
  simp only [exec_selftestStart, execSelftestStart, live, start, Bool.not_true, Bool.false_eq_true, if_false, if_true]
  rw [checked_ok taken (by rw [rsv]; simp [unit, serving, idle, free])]
  rfl

theorem TestNamed.exec_busy (h : TestNamed s w)
    (busy : s.st.running = true ∨ stBusy s (fld w.data.toNat 15 8) (fld w.data.toNat 7 0) = true) :
    exec (.selftestStart w) s = .next (reject s (regAddr s 0x0B 0x600) none w Status.busy) := by
  obtain ⟨live, taken, rsv, start, unit, serving⟩ := h
  simp only [exec_selftestStart, execSelftestStart, live, start, Bool.not_true, Bool.false_eq_true, if_false]
  rw [checked_fail taken]
  rw [rsv]
  rcases busy with runs | used
  · simp [unit, serving, runs]
  · cases runs : s.st.running <;> simp [unit, serving, used]

theorem exec_selftestStart_noUnit (live : windowLive s = true) (taken : Taken s w) (start : bitN w.data.toNat 31 = true)
    (none : stUnits (fld w.data.toNat 15 8) ≤ fld w.data.toNat 7 0) :
    exec (.selftestStart w) s = .next (reject s (regAddr s 0x0B 0x600) Option.none w Status.badField) := by
  have noUnit : decide (fld w.data.toNat 7 0 < stUnits (fld w.data.toNat 15 8)) = false := decide_eq_false (Nat.not_lt.2 none)
  simp only [exec_selftestStart, execSelftestStart, live, start, noUnit, Bool.not_true, Bool.false_eq_true, if_false]
  rw [checked_fail taken]
  cases rsv : noRsv w 0x7F000000 <;> simp
end

/-! ### SELFTEST_DONE (R404) -/

/-- The device with the result of its test in TN_ST. -/
def testEnded (s : State) (failed : Option Nat) : State :=
  { s with st := { s.st with running := false, done := true, result := failed.isSome,
                             detail := match failed with | some n => n % 2 ^ 32 | none => 0 } }

/-- What a result does to the target of the test. -/
def testJudged (s : State) (failed : Option Nat) : State :=
  if failed.isSome then stFail (testEnded s failed) s.st.target s.st.unit else testEnded s failed

/-- SELFTEST_DONE as it is logged. -/
def testLogged (s : State) (failed : Option Nat) : State :=
  logSev (testJudged s failed) 0x0080 Status.ok 0x0B (if failed.isSome then 2 else 0) (256 * s.st.target + s.st.unit)
    ([BitVec.ofNat 8 s.st.tag, BitVec.ofNat 8 (bit failed.isSome), 0, 0] ++ putLE 4 (match failed with | some n => n % 2 ^ 32 | none => 0))

/-- The end of a test of a target that holds no messages and no frames back. -/
theorem exec_selftestDone_ends {s : State} (runs : s.st.running = true) (rx : s.st.target ≠ 5) (rn : s.st.target ≠ 7) (failed : Option Nat) :
    exec (.selftestDone failed) s = .next (raise (testLogged s failed) 4) := by
  simp only [exec_selftestDone, execSelftestDone, runs, Bool.not_true, Bool.false_eq_true, if_false, if_neg rx, if_neg rn]
  rfl

theorem testLogged_frame (s : State) (failed : Option Nat) :
    raise (testLogged s failed) 4 = { testJudged s failed with
      log := (testLogged s failed).log, intr := (raise (testLogged s failed) 4).intr, out := (raise (testLogged s failed) 4).out } := by
  rw [raise_frame]
  exact congrArg (fun u : State => { u with intr := (raise (testLogged s failed) 4).intr, out := (raise (testLogged s failed) 4).out })
    (logSev_frame ..)

section
variable (s : State) (failed : Option Nat)

theorem testLogged_st : (raise (testLogged s failed) 4).st = (testJudged s failed).st := by rw [testLogged_frame]

theorem testLogged_ports : (raise (testLogged s failed) 4).ports = (testJudged s failed).ports := by rw [testLogged_frame]

theorem testLogged_fw : (raise (testLogged s failed) 4).fw = (testJudged s failed).fw := by rw [testLogged_frame]

theorem testLogged_cbs : (raise (testLogged s failed) 4).cbs = (testJudged s failed).cbs := by rw [testLogged_frame]

theorem testJudged_none : testJudged s none = testEnded s none := rfl
end

/-- An event is staged with its severity where there is room (R395). -/
theorem logSev_stages {s : State} (room : s.log.staged.length < 64) (id : Nat) (st : Byte) (source sev unit : Nat) (d : Bytes) :
    ∃ e ∈ (logSev s id st source sev unit d).log.staged, e.id = id ∧ e.sev = sev ∧ e.unit = unit := by
  unfold logSev
  rw [if_pos room]
  exact ⟨_, (mem_stageEv ..).2 (.inl rfl), rfl, rfl, rfl⟩

/-- A port taken out of service, its links down, its recovery window open (R38, R39). -/
def portOut (s : State) (p : Nat) : State :=
  openOwnWin (logEv (portDown (putPort s p { port s p with failed := true }) p) 0x0023 Status.ok 0x02 p [1])

theorem portOut_keeps (s : State) (p : Nat) : (portOut s p).st = s.st ∧ (port (portOut s p) p).failed = true := by
  have kept : (portOut s p).st = s.st ∧ (portOut s p).ports = (putPort s p { port s p with failed := true }).ports := by
    rw [portOut, openOwnWin_frame, logEv_frame, portDown_frame]
    exact ⟨rfl, rfl⟩
  obtain ⟨st, ports⟩ := kept
  exact ⟨st, by rw [port_congr ports, port_putPort_self]⟩

/-- A loaded codebook slot that the failing store poisons (R373). -/
def slotPoisoned (s : State) (p : Nat × CbSlot) : State :=
  if p.2.st = .loaded then
    logEv { s with cbs := Tab.put s.cbs p.1 { p.2 with st := .poisoned } } 0x0054 Status.ok 0x09 p.1 [0]
  else s

theorem slotPoisoned_frame (s : State) (p : Nat × CbSlot) :
    slotPoisoned s p = { s with cbs := (slotPoisoned s p).cbs, log := (slotPoisoned s p).log } := by
  unfold slotPoisoned
  split
  · rw [logEv_frame]
  · rfl

theorem foldl_slotPoisoned_frame (ps : List (Nat × CbSlot)) (s : State) :
    ps.foldl slotPoisoned s = { s with cbs := (ps.foldl slotPoisoned s).cbs, log := (ps.foldl slotPoisoned s).log } := by
  induction ps generalizing s with
  | nil => rfl
  | cons p ps ih =>
    rw [List.foldl_cons, ih, slotPoisoned_frame]

/-- A slot's codebook is poisoned. -/
def Poisoned (s : State) (k : Nat) : Prop := ∃ d, Tab.find s.cbs k = some d ∧ d.st = .poisoned

theorem slotPoisoned_cbs {s : State} {p : Nat × CbSlot} (loaded : p.2.st = .loaded) :
    (slotPoisoned s p).cbs = Tab.put s.cbs p.1 { p.2 with st := .poisoned } := by
  rw [slotPoisoned, if_pos loaded, logEv_cbs]

theorem Poisoned.step {s : State} {k : Nat} (h : Poisoned s k) (p : Nat × CbSlot) : Poisoned (slotPoisoned s p) k := by
  by_cases loaded : p.2.st = .loaded
  · by_cases same : k = p.1
    · exact ⟨_, by rw [slotPoisoned_cbs loaded, same, Tab.find_put_self], rfl⟩
    · obtain ⟨d, found, poisoned⟩ := h
      exact ⟨d, by rw [slotPoisoned_cbs loaded, Tab.find_put_ne _ _ _ _ same, found], poisoned⟩
  · rw [slotPoisoned, if_neg loaded]
    exact h

theorem Poisoned.foldl {k : Nat} (ps : List (Nat × CbSlot)) {s : State} (h : Poisoned s k) : Poisoned (ps.foldl slotPoisoned s) k := by
  induction ps generalizing s with
  | nil => exact h
  | cons p ps ih => exact ih (h.step p)

/-- Every loaded slot of the list is poisoned. -/
theorem foldl_slotPoisoned {ps : List (Nat × CbSlot)} {p : Nat × CbSlot} (mem : p ∈ ps) (loaded : p.2.st = .loaded) (s : State) :
    Poisoned (ps.foldl slotPoisoned s) p.1 := by
  induction ps generalizing s with
  | nil => cases mem
  | cons x ps ih =>
    rcases List.mem_cons.1 mem with rfl | later
    · exact Poisoned.foldl ps ⟨_, by rw [slotPoisoned_cbs loaded, Tab.find_put_self], rfl⟩
    · exact ih later _

/-- A record that a table answers is listed in it. -/
theorem Tab.mem_of_find {α : Type} {t : Tab α} {k : Nat} {x : α} (found : Tab.find t k = Option.some x) : (k, x) ∈ t := by
  induction t with
  | nil => cases found
  | cons p t ih =>
    obtain ⟨j, y⟩ := p
    rw [Tab.find] at found
    split at found
    next same =>
      cases found
      subst same
      exact List.mem_cons_self
    next => exact List.mem_cons_of_mem _ (ih found)

end Sys2Proof.Machine

namespace Sys2Proof
open Sys2Proof.Machine

/-- Settles O51, one case per clause. A start passes its checks or is rejected by the first that fails; an end leaves its result in TN_ST
(`testLogged_frame`) and, failing, acts on its target. -/
theorem selfTestsRunAndReport : Obligations.SelfTestsRunAndReport := by
  unfold Obligations.SelfTestsRunAndReport
  refine ⟨?starts, ?busy, ?noUnit, ?passes, ?port, ?core, ?store, ?idle⟩
  case starts =>
    intro s w live taken rsv start unit serving idle free
    exact .of _ (TestNamed.exec_starts ⟨live, taken, rsv, start, unit, serving⟩ idle free) rfl
  case busy =>
    intro s w live taken rsv start unit serving busy free
    exact .of _ (TestNamed.exec_busy ⟨live, taken, rsv, start, unit, serving⟩ busy) ⟨reject_st .., (reject_captures free ..).2⟩
  case noUnit =>
    intro s w live taken start none free
    exact .of _ (exec_selftestStart_noUnit live taken start none) ⟨reject_st .., (reject_captures free ..).2⟩
  case passes =>
    intro s runs rx rn room
    refine .of _ (exec_selftestDone_ends runs rx rn none) ⟨?_, ?_, ?_, ?_⟩
    · rw [testLogged_st, testJudged_none]
      rfl
    · rw [raise_stat, testLogged, logSev_intr, testJudged_none]
      rfl
    · rw [raise_log]
      exact logSev_stages (s := testJudged s none) room ..
    · rw [testLogged_frame, testJudged_none]
      rfl
  case port =>
    intro s n runs target
    have judged : testJudged s (some n) = portOut (testEnded s (some n)) s.st.unit := by
      simp only [testJudged, stFail, target]
      rfl
    obtain ⟨st, down⟩ := portOut_keeps (testEnded s (some n)) s.st.unit
    refine .of _ (exec_selftestDone_ends runs (by omega) (by omega) (some n)) ⟨?_, ?_⟩
    · rw [testLogged_st, judged, st]
      rfl
    · rw [port_congr (testLogged_ports s (some n)), judged, down]
  case core =>
    intro s n runs target on
    obtain ⟨u, hu, frame, -⟩ := exec_coreLost_in (s := testEnded s (some n)) (core := s.st.unit) on
    have judged : testJudged s (some n) = u := by
      have lost : execCoreLost s.st.unit (testEnded s (some n)) = .next u := hu
      simp only [testJudged, stFail, target, lost]
      rfl
    have cores : (raise (testLogged s (some n)) 4).fw.cores = s.fw.cores &&& ~~~(BitVec.ofNat 48 (2 ^ s.st.unit)) := by
      rw [testLogged_fw, judged, frame]
      exact congrArg Furrow.cores (coreLogged_fw ..)
    have st : u.st = (testEnded s (some n)).st := by rw [frame, coreLogged_frame]
    refine .of _ (exec_selftestDone_ends runs (by omega) (by omega) (some n)) ⟨?_, ?_, fun k other => ?_⟩
    · rw [testLogged_st, judged, st]
      rfl
    · exact coreIn_withoutCore_self cores
    · exact coreIn_withoutCore_ne cores other
  case store =>
    intro s n runs target
    have judged : testJudged s (some n) = s.cbs.foldl slotPoisoned (testEnded s (some n)) := by
      simp only [testJudged, stFail, target]
      rfl
    have frame := foldl_slotPoisoned_frame s.cbs (testEnded s (some n))
    refine .of _ (exec_selftestDone_ends runs (by omega) (by omega) (some n)) ⟨?_, fun k c found loaded => ?_, ?_⟩
    · rw [testLogged_st, judged, frame]
      rfl
    · rw [testLogged_cbs, judged]
      exact foldl_slotPoisoned (Tab.mem_of_find found) loaded (testEnded s (some n))
    · rw [testLogged_frame, judged, frame]
      rfl
  case idle =>
    intro s f none
    refine .of s ?_ rfl
    simp only [exec_selftestDone, execSelftestDone, none, Bool.not_false, if_true]

end Sys2Proof
end

section
/-!
PROOFS. The Furrow debugger's commands, over the mailboxes and over JTAG (spec file 15, R355 to R358; log 77).
-/
namespace Sys2Proof.Machine

/-! ### A command that runs (R356) -/

section
variable {s : State} {r : MbxReq} {code : Nat} (run : mbxIs s code = some r)
include run

/-- A command that passes its checks has its effect and answers OK. -/
theorem dbgCmd_ok (passed : dbgFail s (dbgSrc r) code r.params = none) (eff : Nat → Bytes → State → DbgRes) :
    dbgCmd code s eff = .next (mbxDone (eff (dbgSrc r) r.params s).1 Status.ok (eff (dbgSrc r) r.params s).2) := by
  simp only [dbgCmd, run, passed]

/-- A command that fails a check has no effect. -/
theorem dbgCmd_fail {st : Byte} (failed : dbgFail s (dbgSrc r) code r.params = some st) (eff : Nat → Bytes → State → DbgRes) :
    dbgCmd code s eff = .next (mbxDone s st []) := by
  simp only [dbgCmd, run, failed]
end

/-- A command on a slot that holds a group. -/
theorem onSlot_found {s : State} {p : Bytes} {g : Tg} (found : Tab.find s.fw.slots (dpKey p) = some g) (f : Tg → State) :
    onSlot s p f = (f g, []) := by
  simp only [onSlot, found]

/-- What a command that replaces one group leaves: that group, every other slot, and the mailbox's answer. -/
theorem putTg_answered (s : State) (k : Nat) (h : Tg) (st : Byte) (d : Bytes) :
    Tab.find (mbxDone (putTg s k h) st d).fw.slots k = some h ∧
    (∀ j, j ≠ k → Tab.find (mbxDone (putTg s k h) st d).fw.slots j = Tab.find s.fw.slots j) ∧
    (mbxDone (putTg s k h) st d).mbx.running = none ∧
    mbxDone (putTg s k h) st d = { s with
      fw := { s.fw with slots := (mbxDone (putTg s k h) st d).fw.slots }, mbx := (mbxDone (putTg s k h) st d).mbx,
      intr := (mbxDone (putTg s k h) st d).intr, out := (mbxDone (putTg s k h) st d).out } := by
  refine ⟨?_, fun j other => ?_, mbxDone_running .., ?_⟩
  · rw [mbxDone_fw]
    exact Tab.find_put_self ..
  · rw [mbxDone_fw]
    exact Tab.find_put_ne _ _ _ _ other
  · rw [mbxDone_frame]
    rfl

/-! ### The checks (R355, R356) -/

/-- Check 2 asks for a breakpoint number that exists. -/
theorem dbgFail_break {s : State} {n : Nat} {p : Bytes} (passed : dbgFail s n 0x77 p = none) : dpCount p ≤ 3 := by
  by_contra beyond
  have range : dpRange 0x77 p = false := by simp [dpRange, beyond]
  cases feature : offered s 27 <;> simp [dbgFail, range, feature] at passed

/-- Check 4 asks that no debugger is attached. -/
theorem dbgFail_attach {s : State} {n : Nat} {p : Bytes} (passed : dbgFail s n 0x78 p = none) : s.fw.dbg.src = none := by
  by_contra attached
  have busy : dpState s 0x78 p = false := by simp [dpState, Option.isSome_iff_ne_none.2 attached]
  cases feature : offered s 27 <;> cases range : (dpRange 0x78 p && coreIn s (dpCore p)) <;>
    simp [dbgFail, feature, range, busy, dpHostOk] at passed

/-! ### DBG_RESUME and DBG_KILL (R356) -/

/-- A pending trap that is delivered again enters the handler. -/
theorem redeliver_enters {s : State} {g : Tg} {l : Launch} {c : Byte} {a : BitVec 64} {m : BitVec 32} (pending : g.pendTrap = some (c, a, m))
    (launch : launchOf s g.q g.i = some l) (handler : l.trapv ≠ 0) (outside : g.inHandler = false) (room : pushOk l g = true)
    (quiet : s.fw.dbg.haltTrap = false) (k : Nat) :
    redeliver s k g = putTg s k
      ({ g with st := .running, ranAt := s.sys.now, stepLeft := none, dbl := false, pendTrap := none : Tg }.trapped l c a.toNat m.toNat) := by
  simp only [redeliver, pending]
  exact deliver_enters (t := { g with st := .running, ranAt := s.sys.now, stepLeft := none, dbl := false, pendTrap := none }) launch handler
    outside room (.inr quiet) rfl k c a.toNat m.toNat

/-- A killed group leaves its slot and is noted in its launch. -/
theorem killTg_of {s : State} {g : Tg} {l : Launch} (launch : launchOf s g.q g.i = some l) (k : Nat) :
    (killTg s k g).fw.slots = Tab.del s.fw.slots k ∧ ∃ m, launchOf (killTg s k g) g.q g.i = some m ∧ g.index ∈ m.retired := by
  obtain ⟨b, noted, frame⟩ := retireTg_of launch k (killStatus g) true
  refine ⟨?_, _, noted, ?_⟩
  · rw [killTg, frame]
  · simp

/-! ### DBG_DETACH (R356) -/

/-- What DBG_DETACH does to one group. -/
def released (s : State) (p : Nat × Tg) : State :=
  match p.2.st with
  | .running => s
  | .halted => putTg s p.1 (resume s p.2)
  | .dtrap => killTg s p.1 p.2

/-- The device without a debugger and without breakpoints. -/
def unattached (s : State) : State :=
  { s with fw := { s.fw with breaks := [], dbg := { s.fw.dbg with src := none, haltTrap := false, haltDtrap := false } } }

theorem detach_eq (s : State) : detach s = unattached (s.fw.slots.foldl released s) := rfl

/-- Running groups stay as they are. -/
theorem foldl_released_running {ps : List (Nat × Tg)} (running : ∀ p ∈ ps, p.2.st = .running) (s : State) :
    ps.foldl released s = s := by
  induction ps with
  | nil => rfl
  | cons p ps ih =>
    rw [List.foldl_cons, released, running p List.mem_cons_self]
    exact ih fun q hq => running q (List.mem_cons_of_mem _ hq)

/-! ### JTAG (R358) -/

/-- The device with a response in the debug data register, sent. -/
def jtagAnswered (s : State) (b : Bytes) (st : Byte) (d : Bytes) : State :=
  emit { s with fw := { s.fw with jtag := rspBlock (getLE b 0 1) (getLE b 4 4) st d } } (.fwdbg (rspBlock (getLE b 0 1) (getLE b 4 4) st d))

section
variable {s : State} {b : Bytes} (runs : tenderRuns s = true) (whole : b.length = 1040)
include runs whole

theorem exec_fwdbgUpdateDr_runs (open_ : jtagFail s b = none) (passed : dbgFail s 2 (getLE b 0 1) (slice b 16 (getLE b 2 2)) = none) :
    exec (.fwdbgUpdateDr b) s = .next (jtagAnswered (dbgEff (getLE b 0 1) 2 (slice b 16 (getLE b 2 2)) s).1 b Status.ok
      (dbgEff (getLE b 0 1) 2 (slice b 16 (getLE b 2 2)) s).2) := by
  simp only [exec_fwdbgUpdateDr, execFwdbgUpdateDr, runs, fit_of_length whole, open_, passed, Bool.not_true, Bool.false_eq_true, if_false]
  rfl

theorem exec_fwdbgUpdateDr_refused {st : Byte} (refused : jtagFail s b = some st) :
    exec (.fwdbgUpdateDr b) s = .next (jtagAnswered s b st []) := by
  simp only [exec_fwdbgUpdateDr, execFwdbgUpdateDr, runs, fit_of_length whole, refused, Bool.not_true, Bool.false_eq_true, if_false]
  rfl
end

end Sys2Proof.Machine

namespace Sys2Proof
open Sys2Proof.Machine

/-- Settles O53, one case per clause. A command that passes its checks has its effect (`dbgCmd_ok`), most often on one group
(`putTg_answered`). -/
theorem debugCommandsActOnTheirSlot : Obligations.DebugCommandsActOnTheirSlot := by
  unfold Obligations.DebugCommandsActOnTheirSlot
  refine ⟨?list, ?halt, ?resume, ?redeliver, ?step, ?read, ?write, ?kill, ?break_, ?attach, ?detachRunning, ?detachHalted, ?detachTrapped,
    ?fails, ?feature, ?notAttached, ?taken, ?jtag, ?jtagFails⟩
  case list =>
    intro s r run passed
    exact .of _ ((exec_dbgList s).trans (dbgCmd_ok run passed _)) rfl
  case halt =>
    intro s r g run passed found
    obtain ⟨here, others, ended, frame⟩ := putTg_answered s (dpKey r.params) (g.pause .halted s.sys.now) Status.ok []
    refine .of _ ((exec_dbgHalt s).trans (dbgCmd_ok run passed _)) ?_
    rw [dbgHalt, onSlot_found found]
    exact ⟨⟨_, here, rfl, rfl, rfl, rfl⟩, others, ended, frame⟩
  case resume =>
    intro s r g run passed found halted
    obtain ⟨here, others, ended, frame⟩ := putTg_answered s (dpKey r.params) (resume s g) Status.ok []
    refine .of _ ((exec_dbgResume s).trans (dbgCmd_ok run passed _)) ?_
    rw [dbgResume, onSlot_found found, if_neg (by simp [halted])]
    exact ⟨⟨_, here, rfl⟩, others, ended, frame⟩
  case redeliver =>
    intro s r g c a m l run passed found trapped pending launch handler outside room quiet
    obtain ⟨here, others, ended, frame⟩ := putTg_answered s (dpKey r.params)
      ({ g with st := .running, ranAt := s.sys.now, stepLeft := none, dbl := false, pendTrap := none : Tg }.trapped l c a.toNat m.toNat)
      Status.ok []
    refine .of _ ((exec_dbgResume s).trans (dbgCmd_ok run passed _)) ?_
    rw [dbgResume, onSlot_found found, if_pos trapped, redeliver_enters pending launch handler outside room quiet]
    exact ⟨⟨_, here, rfl, rfl, rfl, rfl, rfl⟩, others, ended, frame⟩
  case step =>
    intro s r g run passed found
    obtain ⟨here, others, ended, frame⟩ := putTg_answered s (dpKey r.params) { resume s g with stepLeft := some (dpCount r.params) } Status.ok []
    refine .of _ ((exec_dbgStep s).trans (dbgCmd_ok run passed _)) ?_
    rw [dbgStep, onSlot_found found]
    exact ⟨⟨_, here, rfl⟩, others, ended, frame⟩
  case read =>
    intro s r g run passed found
    refine .of _ ((exec_dbgRead s).trans (dbgCmd_ok run passed _)) ?_
    simp only [dbgRead, found]
    rfl
  case write =>
    intro s r g run passed found
    refine .of _ ((exec_dbgWrite s).trans (dbgCmd_ok run passed _)) ?_
    rw [dbgWrite, onSlot_found found]
    dsimp only
    split
    all_goals
      refine ⟨⟨_, _, ?_, rfl, rfl⟩, fun j other => ?_, mbxDone_running .., ?_⟩
      · rw [mbxDone_fw]
        exact Tab.find_put_self ..
      · rw [mbxDone_fw]
        exact Tab.find_put_ne _ _ _ _ other
      · rw [mbxDone_frame]
        rfl
  case kill =>
    intro s r g l run passed found launch
    obtain ⟨slots, m, noted, retired⟩ := killTg_of launch (dpKey r.params)
    refine .of _ ((exec_dbgKill s).trans (dbgCmd_ok run passed _)) ?_
    rw [dbgKill, onSlot_found found]
    refine ⟨?_, fun j other => ?_, ⟨m, ?_, retired⟩, mbxDone_running ..⟩
    · rw [mbxDone_fw, slots, Tab.find_del_self]
    · rw [mbxDone_fw, slots, Tab.find_del_ne _ _ _ other]
    · rw [launchOf, mbxDone_fw]
      exact noted
  case break_ =>
    intro s r g run passed found lists
    have low : dpCount r.params < 4 := Nat.lt_succ_of_le (dbgFail_break passed)
    have four : ((Tab.find s.fw.breaks (dpKey r.params)).getD [none, none, none, none]).length = 4 := by
      cases held : Tab.find s.fw.breaks (dpKey r.params) with
      | none => rfl
      | some l => exact lists l held
    refine .of _ ((exec_dbgBreak s).trans (dbgCmd_ok run passed _)) ?_
    rw [dbgBreak, onSlot_found found]
    refine ⟨⟨_, by rw [mbxDone_fw]; exact Tab.find_put_self .., ?_⟩, fun j other => ?_, ?_⟩
    · exact List.getElem?_set_self (by rw [four]; exact low)
    · rw [mbxDone_fw]
      exact Tab.find_put_ne _ _ _ _ other
    · rw [mbxDone_frame]
  case attach =>
    intro s r run passed
    refine .of _ ((exec_dbgAttach s).trans (dbgCmd_ok run passed _)) ⟨?_, ?_, ?_, dbgFail_attach passed, ?_⟩
    · rw [mbxDone_fw]
      rfl
    · rw [mbxDone_fw]
      rfl
    · rw [mbxDone_fw]
      rfl
    · rw [mbxDone_frame]
      rfl
  case detachRunning =>
    intro s r run passed running
    refine .of _ ((exec_dbgDetach s).trans (dbgCmd_ok run passed _)) ?_
    rw [dbgDetach, detach_eq, foldl_released_running running]
    refine ⟨?_, ?_, ?_⟩
    · rw [mbxDone_fw]
      rfl
    · rw [mbxDone_fw]
      rfl
    · rw [mbxDone_frame]
      rfl
  case detachHalted =>
    intro s r k g run passed only halted
    have resumed : s.fw.slots.foldl released s = putTg s k (resume s g) := by
      rw [only, List.foldl_cons, List.foldl_nil, released, halted]
    refine .of _ ((exec_dbgDetach s).trans (dbgCmd_ok run passed _)) ?_
    rw [dbgDetach, detach_eq, resumed, mbxDone_fw]
    refine ⟨rfl, ?_⟩
    show Tab.put s.fw.slots k (resume s g) = [(k, resume s g)]
    rw [only]
    simp [Tab.put]
  case detachTrapped =>
    intro s r k g l run passed only trapped launch
    have killed : s.fw.slots.foldl released s = killTg s k g := by
      rw [only, List.foldl_cons, List.foldl_nil, released, trapped]
    obtain ⟨slots, -⟩ := killTg_of launch k
    refine .of _ ((exec_dbgDetach s).trans (dbgCmd_ok run passed _)) ?_
    rw [dbgDetach, detach_eq, killed, mbxDone_fw]
    refine ⟨rfl, slots.trans ?_⟩
    rw [only]
    simp [Tab.del]
  case fails =>
    intro s r st run failed
    exact .of _ ((exec_dbgHalt s).trans (dbgCmd_fail run failed _)) rfl
  case feature =>
    intro s n c p none
    rw [dbgFail, none]
    rfl
  case notAttached =>
    intro s n p feature range core other
    simp [dbgFail, feature, range, core, other]
  case taken =>
    intro s n p feature range core attached
    have busy : dpState s 0x78 p = false := by simp [dpState, attached]
    simp [dbgFail, feature, range, core, busy, dpHostOk]
  case jtag =>
    intro s b runs whole open_ code passed
    have effect : dbgEff (getLE b 0 1) 2 (slice b 16 (getLE b 2 2)) s = dbgAttach 2 (slice b 16 (getLE b 2 2)) s := by
      rw [code]
      rfl
    refine .of _ (exec_fwdbgUpdateDr_runs runs whole open_ (by rw [code, passed])) ?_
    rw [effect, jtagAnswered, code]
    exact ⟨rfl, rfl, rfl⟩
  case jtagFails =>
    intro s b st runs whole refused
    exact .of _ (exec_fwdbgUpdateDr_refused runs whole refused) ⟨rfl, rfl⟩

end Sys2Proof
end

section
/-!
PROOFS. Codebook slots: CB_LOAD, the slot commands and an error of the store (spec file 16, R361 to R364, R373; log 38).
-/
namespace Sys2Proof.Machine

/-! ### CB_LOAD (R361, R363) -/

/-- The operand of a CB_LOAD. -/
abbrev cbOpd (e : Bytes) : LocOpd := { key := getLE e 28 4, need := rRead, addr := getLE e 20 8, len := getLE e 32 4 }

/-- The slot that an admitted CB_LOAD has made LOADING, before its read: by this attempt or by one before. -/
def CbOpened (u v : State) (q i inst : Nat) (e : Bytes) : Prop :=
  if cbLoading u (getLE e 12 2) then v = u
  else ∃ o, probe false (admOf u q i) (getLE e 32 4 + 1) u inst (getLE e 20 8) (getLE e 32 4) = .ok o [] ∧
    v = { o with cbs := Tab.put o.cbs (getLE e 12 2) loadingSlot }

section
variable {s u v : State} {q i : Nat} {x : Wq} {r : Infl}

/-- Opening a slot changes what a read changes, and that slot. -/
theorem CbOpened.frame {inst : Nat} {e : Bytes} (h : CbOpened u v q i inst e) :
    ReadFrame u { v with cbs := u.cbs } ∧ v.infl = u.infl ∧ ∀ n, n ≠ getLE e 12 2 → Tab.find v.cbs n = Tab.find u.cbs n := by
  unfold CbOpened at h
  split at h
  · subst h
    exact ⟨rfl, rfl, fun _ _ => rfl⟩
  · obtain ⟨o, probed, rfl⟩ := h
    have moved : ReadFrame u o := by
      have frame := probe_frame false (admOf u q i) (getLE e 32 4 + 1) u inst (getLE e 20 8) (getLE e 32 4)
      rwa [probed] at frame
    have cbs : o.cbs = u.cbs := by rw [moved]
    refine ⟨?_, by rw [moved], fun n other => ?_⟩
    · rw [← cbs]
      exact moved
    · rw [← cbs]
      exact Tab.find_put_ne _ _ _ _ other

theorem exec_cbLoad_reads (may : mayDispatch s q i 0x23 = some (x, r)) (fits : getLE r.ent 32 4 ≤ slotBytes s)
    (admitted : admitOnce s q i x.inst r [cbOpd r.ent] = (u, none)) (opened : CbOpened u v q i x.inst r.ent) :
    exec (.cbLoad q i) s = cbRead v q i x.inst r.ent := by
  rw [exec_cbLoad, execCbLoad]
  simp only [may, if_neg (Nat.not_lt.2 fits), admitted]
  unfold CbOpened at opened
  split at opened <;> rename_i loading
  · rw [if_pos loading, opened]
  · obtain ⟨o, probed, rfl⟩ := opened
    rw [if_neg loading, probed]
end

/-! ### The slot commands (R373) -/

/-- The selection and the rights of a slot command that reaches its own checks. -/
structure CbChosen (s : State) (i code : Nat) (w : RegWr) : Prop where
  open_ : CmdOpen s i 0x308 code w
  below : getPage s i 0x300 < cbSlots s
  feature : instHas s i 14 = true
  mine : owns1 s.own.cb (getPage s i 0x300) i = true

/-- The device with the three registers of a QUERY written. -/
def cbShown (s : State) (i info crc mx : Nat) : State := putPage (putPage (putPage s i 0x30C info) i 0x310 crc) i 0x314 mx

section
variable {s : State} {i code : Nat} {w : RegWr}

theorem CbChosen.head (h : CbChosen s i code w) (r : List (Bool × Byte)) : firstFail (cbHead s i w ++ r) = firstFail r := by
  obtain ⟨open_, below, feature, mine⟩ := h
  have first : (noRsv w 0xFFFFFFF0 && decide (cbSel s i < cbSlots s)) = true := by
    rw [cmdOpen_noRsv open_, decide_eq_true (show cbSel s i < cbSlots s from below)]
    rfl
  rw [cbHead, first, feature, show owns1 s.own.cb (cbSel s i) i = true from mine]
  rfl

theorem CbChosen.head_nil (h : CbChosen s i code w) : firstFail (cbHead s i w) = none := by
  have passed := h.head []
  rwa [List.append_nil] at passed

theorem cbSel_cmdTaken (s : State) (i : Nat) : cbSel (cmdTaken s i 0x308) i = cbSel s i := getPage_cmdTaken (by decide)

theorem CbChosen.exec_query_none (h : CbChosen s i 1 w) (none : Tab.find s.cbs (getPage s i 0x300) = none) :
    exec (.cbScmdQuery i w) s = .next (cbShown (cmdTaken s i 0x308) i 0 0 0) := by
  refine (exec_cmd_ok h.open_ (exec_cbScmdQuery i w s) h.head_nil).trans ?_
  simp only [cbSel_cmdTaken, show Tab.find (cmdTaken s i 0x308).cbs (cbSel s i) = Option.none from none]
  rfl

/-- CB_SINFO of a slot. -/
def cbInfo (c : CbSlot) : Nat := cbCode c.st * 2 ^ 28 + c.elem * 2 ^ 24 + c.vlen * 2 ^ 16 + bit (c.entries = 4096) * 256

theorem CbChosen.exec_query_held {c : CbSlot} (h : CbChosen s i 1 w) (held : Tab.find s.cbs (getPage s i 0x300) = some c)
    (settled : c.st ≠ .loading) : exec (.cbScmdQuery i w) s = .next (cbShown (cmdTaken s i 0x308) i (cbInfo c) c.crc.toNat c.cbmax.toNat) := by
  refine (exec_cmd_ok h.open_ (exec_cbScmdQuery i w s) h.head_nil).trans ?_
  simp only [cbSel_cmdTaken, show Tab.find (cmdTaken s i 0x308).cbs (cbSel s i) = some c from held, if_neg settled]
  rfl

theorem cbInfo_lt {c : CbSlot} (elem : c.elem < 16) (vlen : c.vlen < 256) : cbInfo c < 2 ^ 32 := by
  have code : cbCode c.st ≤ 3 := by cases c.st <;> decide
  have flag := bit_lt (c.entries = 4096)
  unfold cbInfo
  omega

variable {info crc mx : Nat}

theorem cbShown_info : getPage (cbShown s i info crc mx) i 0x30C = info % 2 ^ 32 := by
  rw [cbShown, getPage_putPage_ne (by decide), getPage_putPage_ne (by decide), getPage_putPage_self]

theorem cbShown_crc : getPage (cbShown s i info crc mx) i 0x310 = crc % 2 ^ 32 := by
  rw [cbShown, getPage_putPage_ne (by decide), getPage_putPage_self]

theorem cbShown_max : getPage (cbShown s i info crc mx) i 0x314 = mx % 2 ^ 32 := getPage_putPage_self ..

theorem cbShown_frame (s : State) (i info crc mx : Nat) : cbShown s i info crc mx = { s with pages := (cbShown s i info crc mx).pages } := rfl

theorem cbShown_taken (s : State) (i info crc mx : Nat) : cbShown (cmdTaken s i 0x308) i info crc mx = { s with
    pages := (cbShown (cmdTaken s i 0x308) i info crc mx).pages, insts := (cbShown (cmdTaken s i 0x308) i info crc mx).insts } := by
  rw [cbShown_frame, cmdTaken_frame]
end

end Sys2Proof.Machine

namespace Sys2Proof
open Sys2Proof.Machine

/-- Settles O29, one case per clause. A load reads into the slot it has opened (`exec_cbLoad_reads`); the slot commands pass their checks
(`CbChosen.head`) and show or clear the slot. -/
theorem codebooksLoadAndClear : Obligations.CodebooksLoadAndClear := by
  unfold Obligations.CodebooksLoadAndClear
  refine ⟨?loads, ?large, ?shows, ?showsNone, ?clears, ?busy, ?error⟩
  case loads =>
    intro s q i x r u o v w b may fits admitted opened read
    obtain ⟨-, found, unfinished, -, -⟩ := mayDispatch_some may
    obtain ⟨stands, admission⟩ := admitOnce_ok found admitted
    have opened : CbOpened u v q i x.inst r.ent := by
      unfold CbOpened
      split <;> rename_i loading
      · rwa [if_pos loading] at opened
      · rw [if_neg loading] at opened
        exact ⟨o, opened⟩
    obtain ⟨-, infl, others⟩ := opened.frame
    have moved := readMemAt_ok read
    have cbs : w.cbs = v.cbs := by rw [moved]
    have stands : Stands { w with cbs := Tab.put w.cbs (getLE r.ent 12 2) (loadedSlot r.ent b) } q i r (keysIn r [getLE r.ent 28 4]) :=
      stands.of_infl (by rw [moved, infl])
    refine .of (finish { w with cbs := Tab.put w.cbs (getLE r.ent 12 2) (loadedSlot r.ent b) } q i
        { status := Status.ok, cflags := 0, detail := 0, bytes := getLE r.ent 32 4, aux := 0 }) ?_
      ⟨stands.doneOk unfinished _, ⟨loadedSlot r.ent b, ?_, rfl, rfl, rfl, rfl, rfl, rfl, rfl⟩, fun n other => ?_, ?_⟩
    · rw [exec_cbLoad_reads may fits admitted opened, cbRead, read]
    · rw [finish_frame]
      exact Tab.find_put_self ..
    · have kept : u.cbs = s.cbs := by rw [admission]
      rw [finish_frame]
      exact (Tab.find_put_ne _ _ _ _ other).trans (by rw [cbs, others n other, kept])
    · rw [finish_frame]
  case large =>
    intro s q i x r may large
    obtain ⟨-, found, unfinished, -, -⟩ := mayDispatch_some may
    refine .of (finishSt s q i Status.noResource) ?_ ⟨finishSt_done _ found unfinished, finishSt_frame ..⟩
    rw [exec_cbLoad, execCbLoad]
    simp only [may, if_pos large]
  case shows =>
    intro s i w c cmdOpen below feature mine held settled elem vlen
    refine .of _ (CbChosen.exec_query_held ⟨cmdOpen, below, feature, mine⟩ held settled) ⟨?_, ?_, ?_, cbShown_taken ..⟩
    · rw [cbShown_info, Nat.mod_eq_of_lt (cbInfo_lt elem vlen), cbInfo]
    · rw [cbShown_crc, Nat.mod_eq_of_lt c.crc.isLt]
    · rw [cbShown_max, Nat.mod_eq_of_lt c.cbmax.isLt]
  case showsNone =>
    intro s i w cmdOpen below feature mine none
    exact .of _ (CbChosen.exec_query_none ⟨cmdOpen, below, feature, mine⟩ none)
      ⟨cbShown_info.trans (Nat.zero_mod _), cbShown_crc.trans (Nat.zero_mod _), cbShown_max.trans (Nat.zero_mod _), cbShown_taken ..⟩
  case clears =>
    intro s i w cmdOpen below feature mine settled free
    have notLoading : cbLoading s (cbSel s i) = false := by
      unfold cbLoading
      split
      next c held => simp [settled c held]
      next => rfl
    have passed : firstFail (cbHead s i w ++ [(!cbLoading s (cbSel s i) && !cbBusy s (cbSel s i), Status.busy)]) = none := by
      rw [CbChosen.head ⟨cmdOpen, below, feature, mine⟩, notLoading, show cbBusy s (cbSel s i) = false from free]
      rfl
    exact .of _ (exec_cmd_ok cmdOpen (exec_cbScmdClear i w s) passed) ⟨Tab.find_del_self .., fun n other => Tab.find_del_ne _ _ _ other, rfl⟩
  case busy =>
    intro s i w cmdOpen below feature mine used
    have failed : firstFail (cbHead s i w ++ [(!cbLoading s (cbSel s i) && !cbBusy s (cbSel s i), Status.busy)]) = some Status.busy := by
      rw [CbChosen.head ⟨cmdOpen, below, feature, mine⟩, show cbBusy s (cbSel s i) = true from used, Bool.not_true, Bool.and_false]
      rfl
    obtain ⟨t, ht, status, frame⟩ := exec_cmd_fail cmdOpen (exec_cbScmdClear i w s) failed
    exact .of t ht ⟨by rw [frame], status, frame⟩
  case error =>
    intro s n c held loaded room
    obtain ⟨e, mem, id, unit⟩ := logEv_stages (s := { s with cbs := Tab.put s.cbs n { c with st := .poisoned } }) room 0x0054 0 0x09 n [0]
    refine .of _ ?_ ⟨logEv_cbs .., ⟨e, mem, id, unit⟩, by rw [logEv_frame]⟩
    rw [exec_cbSlotError, execCbSlotError]
    simp only [held, ne_eq, loaded, not_true_eq_false, if_false]

end Sys2Proof
end

section
/-!
PROOFS. A state that the statement about the instance commands does not exclude and in which its clause of a forced destroy fails, run
through the model (R207, R384).
-/
namespace Sys2Proof.Machine

/-- INST_DESTROY of instance 1 with FORCE = 1, from Tender. -/
def destroyOne : MbxReq := { origin := .tender, code := 0x62, intr := false, tag := 0, params := [1, 0, 1] ++ zeros 13, discard := false }

/-- The span of instance 1 that holds its completion ring, moving for entry 5 of another queue. -/
def movingRing : Span := { codeSpan 0 with inst := 1, moving := some (9, 5) }

/-- The completion queue of instance 1. -/
def ringInMove : Cq :=
  { inst := 1, vector := 0, modCount := 0, log2 := 7, ring := 0, modTime := 0, error := false, errStatus := 0, cpi := 0, cci := 0,
    armed := false, armCount := 0, armFrom := none, lost := 0 }

/-- Instance 1 has one accepted entry, whose completion entry goes into the moving span. -/
def completionHeld : State :=
  { newWorker with
    insts := [(0, inst0), (1, { inst0 with gran := [0] })], spans := [(1, movingRing)], cqs := [(0, ringInMove)],
    wqs := [(0, { postedQueue with inst := 1 })], infl := [(inflKey 0 0, { launchEntry with done := none, spans := [] })],
    mbx.running := some destroyOne }

end Sys2Proof.Machine

namespace Sys2Proof
open Sys2Proof.Machine

/-- Refutes O54: the clause of a forced destroy does not exclude a completion entry whose write is held, here behind a move of the ring's
span (R207). Step 3 of R384 waits for it, so the instance is still there after the step; the clause has it destroyed. -/
theorem not_instanceCommandsActAsStated : ¬ Obligations.InstanceCommandsActAsStated := by
  unfold Obligations.InstanceCommandsActAsStated
  rintro ⟨-, -, -, -, -, -, -, -, -, -, -, destroyed, -⟩
  obtain ⟨t, ht, gone, -⟩ := destroyed completionHeld .mailbox .tender destroyOne.params 1 rfl (by decide) (by decide) (by decide +kernel)
    (by decide) (by decide +kernel) (by decide +kernel)
  have waits : readAfter (.instDestroyForce .mailbox) completionHeld (fun t => (Tab.find t.insts 1).isSome) = some true := by
    decide +kernel
  rw [readAfter_of_next _ ht, gone] at waits
  exact absurd waits (by decide)

end Sys2Proof
end

section
/-!
PROOFS. A state that the statement about Weir does not exclude and in which its clause of an expired map fails, run through the model
(R92, R259, R265).
-/
namespace Sys2Proof.Machine

/-- A map of slot 5 with a PERIOD of 10 units of 100 µs (R263). -/
def tenUnitMap : Bytes := [0x4D, 1, 5, 0] ++ zeros 16 ++ [0, 10] ++ zeros 10

/-- A queue pair of link 0 with one packet to send. -/
def packetDue : Qp := { Qp.fresh 0 .basin 0 0 0 0 0 0 0 1 0 false with st := .connected, sndEnd := 1 }

/-- The map of slot 5 is current, and dormancy holds the packet of link 0. -/
def heldWhileMapAges : State :=
  { newWorker with
    qps := [(1, packetDue)], links := [(0, { LinkSt.reset with up := true, dorm := .dormant })],
    wr.maps := [(5, tenUnitMap)], wr.mapValid := BitVec.ofNat 67 (2 ^ 5) }

end Sys2Proof.Machine

namespace Sys2Proof
open Sys2Proof.Machine

/-- Refutes O46: the clause of MAP_SLOT_EXPIRY has nothing of Weir changed but the valid bit. The row moves device time to the expiry, and
as time passes a link that dormancy holds counts its HOLD cycles (R259): here 4 × 10 × 100 µs of 0.8 ns in the counter of link 0. -/
theorem not_weirRatesAndMapsFollowTheirPeriods : ¬ Obligations.WeirRatesAndMapsFollowTheirPeriods := by
  unfold Obligations.WeirRatesAndMapsFollowTheirPeriods
  rintro ⟨-, -, -, -, -, -, -, -, -, -, -, expires, -⟩
  obtain ⟨t, ht, -, -, -, frame⟩ := expires heldWhileMapAges 5 tenUnitMap rfl (by decide)
  have counted : readAfter (.mapSlotExpiry 5) heldWhileMapAges (fun t => Tab.find t.wr.counters 5) = some (some 5000000) := by
    decide +kernel
  have still : t.wr.counters = heldWhileMapAges.wr.counters := by rw [frame]
  rw [readAfter_of_next _ ht, still] at counted
  exact absurd counted (by decide)

end Sys2Proof
end

section
/-!
PROOFS. Key messages, policy, attestation fragments and CRYPT_QUERY (spec file 12, R274 to R276, R284 to R286, R291; log 31).
-/
namespace Sys2Proof.Machine

/-! ### The answer to a key message (R274) -/

section
variable {s : State} {n : Option Nat} {m : Bytes}

/-- A key message is answered with its KCMD and a status, and the answer is all that is sent. -/
theorem keyRsp_says (s : State) (n : Option Nat) (m : Bytes) (st : Byte) : ∃ k tr b,
    keyRsp s n m st = { s with out := .spdm tr (.vendor k b) :: s.out } ∧ b.take 2 = [BitVec.ofNat 8 (getBE m 0 1), st] :=
  ⟨_, _, _, rfl, rfl⟩

/-- A key message that passes its checks has its effect and is answered. -/
theorem exec_keyMessage_ok {cmd : Instr} {eff : State → State} {row : Bool} (meaning : exec cmd s = keyMessage n m row s eff)
    (runs : tenderRuns s = true) (own : row = true) (pass : kmFail s n m = none) :
    exec cmd s = .next (keyRsp (eff s) n m Status.ok) := by
  rw [meaning]
  simp [keyMessage, runs, own, pass]

/-- One that fails a check is answered with that check's status. -/
theorem exec_keyMessage_fail {cmd : Instr} {eff : State → State} {row : Bool} {st : Byte} (meaning : exec cmd s = keyMessage n m row s eff)
    (runs : tenderRuns s = true) (own : row = true) (fail : kmFail s n m = some st) : exec cmd s = .next (keyRsp s n m st) := by
  rw [meaning]
  simp [keyMessage, runs, own, fail]

/-! ### The cipher record that a key message changes (R276) -/

theorem qpOf_onCipher_self {p : Qp} {f : Cipher → Cipher} {st : Byte} (found : qpOf s (getBE m 8 4) = some p) :
    qpOf (keyRsp (onCipher s m f) n m st) (getBE m 8 4) = some { p with cipher := f p.cipher } := Tab.find_modify_self _ found

theorem qpOf_onCipher_ne {k : Nat} {f : Cipher → Cipher} {st : Byte} (other : k ≠ getBE m 8 4) :
    qpOf (keyRsp (onCipher s m f) n m st) k = qpOf s k := Tab.find_modify_ne _ _ _ _ other

/-! ### The checks of R275 -/

/-- The checks after the session's, on a KEY_INSTALL in a host session whose fields are legal, for a queue pair with encryption that
the requester's instance owns. -/
theorem kmFail_install {x : Sess} {p : Qp} (qualifies : qualSess s n = some x) (host : trHost x.tr = true) (fields : kmFieldsOk s m = true)
    (kcmd : getBE m 0 1 = 1) (feature : instHas s (getBE m 12 2) 18 = true) (found : qpOf s (getBE m 8 4) = some p)
    (owned : owns s.own.qp (getBE m 8 4) (getBE m 12 2) = true) (rc : p.kind = .rc) (encrypts : qEnc p = true) (used : p.st ≠ .free) :
    kmFail s n m = firstFail [
      (!decide (getBE m 14 1 = 2) || (decide (getBE m 15 1 = p.cipher.role) && decide (slice m 48 16 = rekeyAuth p.cipher.secret (slice m 16 32))),
        Status.keyViolation),
      (if getBE m 14 1 = 2 then decide (p.st = .connected) && p.cipher.keyed && p.cipher.pending.isNone
        else decide (p.st = .init) && !p.cipher.keyed, Status.busy)] := by
  have granted : kmGranted s x m = true := by
    simp [kmGranted, kmQpn, kmInst, found, owned, rc, encrypts, used, kcmd]
  unfold kmFail
  simp only [qualifies, kmQpn, kmInst, kmSecret, found, host, fields, feature, granted, kcmd, Bool.true_or, Bool.or_true, decide_true, if_true,
    firstFail_true]
  simp

/-- A message for the device in a host session fails on nothing but the lock. -/
theorem kmFail_device {x : Sess} (qualifies : qualSess s n = some x) (host : trHost x.tr = true) (fields : kmFieldsOk s m = true)
    (kcmd : getBE m 0 1 = 3 ∨ getBE m 0 1 = 4) : kmFail s n m = if s.policy.lock = true then some Status.notPermitted else none := by
  have device : getBE m 0 1 ≠ 1 ∧ getBE m 0 1 ≠ 2 := by omega
  obtain ⟨install, commit⟩ := device
  cases lock : s.policy.lock <;> simp [kmFail, qualifies, host, fields, install, commit, lock, firstFail]

theorem kmFail_unattested (s : State) (m : Bytes) : kmFail s none m = some Status.attestRequired := rfl

/-- Every check of a list that passes holds. -/
theorem firstFail_none_holds {cs : List (Bool × Byte)} (pass : firstFail cs = none) : ∀ c ∈ cs, c.1 = true := by
  induction cs with
  | nil => simp
  | cons c r ih =>
    obtain ⟨ok, st⟩ := c
    cases ok with
    | true => simpa using ih pass
    | false => cases pass

/-- A KEY_COMMIT that passes finds a key that waits for it. -/
theorem kmFail_commit_pending {p : Qp} (kcmd : getBE m 0 1 = 2) (found : qpOf s (getBE m 8 4) = some p) (pass : kmFail s n m = none) :
    p.cipher.pending ≠ none := by
  intro idle
  unfold kmFail at pass
  split at pass
  · cases pass
  next x qualifies =>
    have refused : kmGranted s x m = false := by simp [kmGranted, kmQpn, found, kcmd, idle]
    have granted := firstFail_none_holds pass (_, Status.notPermitted) (.tail _ (.tail _ (.tail _ (.head _))))
    simp [kcmd, refused] at granted

/-! ### Attestation fragments (R285) -/

/-- A fragment of 1 to 20 bytes with its CRC reaches an MCU that runs. -/
structure FragmentIn (s : State) (b : Bytes) : Prop where
  runs : tenderRuns s = true
  length : b.length = 32
  crc : getBE b 28 4 = crcN (b.take 28)
  some_ : getBE b 2 2 ≠ 0
  short : getBE b 2 2 ≤ 20

/-- The fragments of a message there are once one more has arrived. -/
def fragsWith (s : State) (slot : Nat) (b : Bytes) : Tab Bytes :=
  Tab.put (if bitN (getBE b 0 1) 0 then [] else Tab.getD s.spdm.frags (slot * 2 ^ 32 + getBE b 4 4) []) (getBE b 1 1) (slice b 8 (getBE b 2 2))

variable {slot : Nat} {b a : Bytes}

theorem FragmentIn.exec_kept (h : FragmentIn s b) (flags : getBE b 0 1 < 8) (place : getBE b 1 1 ≤ 204) (more : bitN (getBE b 0 1) 1 = false) :
    exec (.basinAttestFragment slot b) s = .next { s with spdm := { s.spdm with
      frags := Tab.put s.spdm.frags (slot * 2 ^ 32 + getBE b 4 4) (fragsWith s slot b) } } := by
  obtain ⟨runs, length, crc, some_, short⟩ := h
  have accepted : ¬ (!tenderRuns s ∨ b.length ≠ 32 ∨ getBE b 28 4 ≠ crcN (b.take 28) ∨ 8 ≤ getBE b 0 1 ∨ 204 < getBE b 1 1 ∨
      getBE b 2 2 = 0 ∨ 20 < getBE b 2 2) := by
    simp [runs, length, crc, some_, short, flags, place]
  rw [exec_basinAttestFragment, execBasinAttestFragment, if_neg accepted, more]
  rfl

theorem FragmentIn.exec_whole (h : FragmentIn s b) (flags : getBE b 0 1 < 8) (place : getBE b 1 1 ≤ 204) (last : bitN (getBE b 0 1) 1 = true)
    (whole : gather (fragsWith s slot b) (getBE b 1 1 + 1) = some a) :
    exec (.basinAttestFragment slot b) s = .next { s with spdm := { s.spdm with
      frags := Tab.del s.spdm.frags (slot * 2 ^ 32 + getBE b 4 4), inbox := s.spdm.inbox ++ [(slot, a)] } } := by
  obtain ⟨runs, length, crc, some_, short⟩ := h
  have accepted : ¬ (!tenderRuns s ∨ b.length ≠ 32 ∨ getBE b 28 4 ≠ crcN (b.take 28) ∨ 8 ≤ getBE b 0 1 ∨ 204 < getBE b 1 1 ∨
      getBE b 2 2 = 0 ∨ 20 < getBE b 2 2) := by
    simp [runs, length, crc, some_, short, flags, place]
  unfold fragsWith at whole
  rw [exec_basinAttestFragment, execBasinAttestFragment, if_neg accepted, last]
  simp only [Bool.not_true, Bool.false_eq_true, if_false, whole]
end

end Sys2Proof.Machine

namespace Sys2Proof
open Sys2Proof.Machine

/-- Settles O48, one case per clause: a message that passes has its effect and its answer (`exec_keyMessage_ok`, `keyRsp_says`), one that fails
only its answer; the checks are those of R275 (`kmFail_install`, `kmFail_device`). -/
theorem keyMessagesActAsStated : Obligations.KeyMessagesActAsStated := by
  unfold Obligations.KeyMessagesActAsStated
  refine ⟨?initial, ?initialPasses, ?rekey, ?rekeyRefused, ?commit, ?policy, ?deviceChecks, ?unattested, ?admission, ?admissionFails,
    ?alone, ?second,
    ?first, ?damaged, ?query, ?noQuery⟩
  case initial =>
    intro s n m p runs kcmd mode pass found
    obtain ⟨k, tr, b, told, head⟩ := keyRsp_says (onCipher s m fun _ =>
      { Cipher.empty with keyed := true, secret := kmSecret m, role := getBE m 15 1 }) n m Status.ok
    refine .of _ (exec_keyMessage_ok (exec_keyInstallInitial n m s) runs (by simp [kcmd, mode]) pass)
      ⟨⟨_, qpOf_onCipher_self found, rfl, rfl, rfl, rfl, rfl, rfl⟩, fun k other => qpOf_onCipher_ne other, ⟨k, tr, b, ?_, ?_⟩, rfl⟩
    · rw [told]
      rfl
    · rw [head, kcmd]
      rfl
  case initialPasses =>
    intro s n m x p qualifies host fields kcmd mode feature found owned rc encrypts init unkeyed
    rw [kmFail_install qualifies host fields kcmd feature found owned rc encrypts (by simp [init])]
    simp [mode, init, unkeyed, firstFail]
  case rekey =>
    intro s n m p runs kcmd mode pass found
    exact .of _ (exec_keyMessage_ok (exec_keyInstallRekey n m s) runs (by simp [kcmd, mode]) pass)
      ⟨⟨_, qpOf_onCipher_self found, rfl, rfl, rfl, rfl, rfl⟩, fun k other => qpOf_onCipher_ne other, rfl⟩
  case rekeyRefused =>
    intro s n m x p qualifies host fields kcmd mode feature found owned rc encrypts used wrong
    have unproven : (decide (getBE m 15 1 = p.cipher.role) && decide (slice m 48 16 = rekeyAuth p.cipher.secret (slice m 16 32))) = false := by
      simpa [Decidable.imp_iff_not_or] using wrong
    rw [kmFail_install qualifies host fields kcmd feature found owned rc encrypts used, unproven, mode]
    rfl
  case commit =>
    intro s n m p runs kcmd pass found
    exact .of _ (exec_keyMessage_ok (exec_keyCommit n m s) runs (by simp [kcmd]) pass)
      ⟨qpOf_onCipher_self found, kmFail_commit_pending kcmd found pass, fun k other => qpOf_onCipher_ne other, rfl⟩
  case policy =>
    intro s n m runs kcmd pass
    refine .of _ (exec_keyMessage_ok (exec_cryptPolicy n m s) runs (by simp [kcmd]) pass) ⟨rfl, rfl, rfl, rfl, ⟨_, _, _, rfl, ?_⟩, rfl⟩
    rw [kcmd]
    rfl
  case deviceChecks => exact fun s n m x qualifies host fields kcmd => kmFail_device qualifies host fields kcmd
  case unattested =>
    intro s m runs kcmd
    refine .of _ (exec_keyMessage_fail (exec_cryptPolicy none m s) runs (by simp [kcmd]) (kmFail_unattested s m))
      ⟨rfl, ⟨_, _, _, rfl, ?_⟩, rfl⟩
    rw [kcmd]
    rfl
  case admission =>
    intro s n m runs kcmd pass
    exact .of _ (exec_keyMessage_ok (exec_admitSet n m s) runs (by simp [kcmd]) pass) ⟨rfl, rfl, rfl⟩
  case admissionFails =>
    intro s n m st runs kcmd fail
    refine .of _ (exec_keyMessage_fail (exec_admitSet n m s) runs (by simp [kcmd]) fail) ⟨⟨_, _, _, rfl, ?_⟩, rfl⟩
    rw [kcmd]
    rfl
  case alone =>
    intro s slot b runs length crc flags place some_ short
    have whole : gather (fragsWith s slot b) (getBE b 1 1 + 1) = some (slice b 8 (getBE b 2 2)) := by
      rw [fragsWith, flags, place]
      rfl
    exact .of _ (FragmentIn.exec_whole ⟨runs, length, crc, some_, short⟩ (by omega) (by omega) (by rw [flags]; rfl) whole)
      ⟨rfl, Tab.find_del_self .., rfl⟩
  case second =>
    intro s slot b a runs length crc flags place some_ short held
    have whole : gather (fragsWith s slot b) (getBE b 1 1 + 1) = some (a ++ slice b 8 (getBE b 2 2)) := by
      rw [fragsWith, flags, place, Tab.getD, held]
      rfl
    exact .of _ (FragmentIn.exec_whole ⟨runs, length, crc, some_, short⟩ (by omega) (by omega) (by rw [flags]; rfl) whole) ⟨rfl, rfl⟩
  case first =>
    intro s slot b runs length crc flags place some_ short
    have alone : fragsWith s slot b = [(0, slice b 8 (getBE b 2 2))] := by
      rw [fragsWith, flags, place]
      rfl
    refine .of _ (FragmentIn.exec_kept ⟨runs, length, crc, some_, short⟩ (by omega) (by omega) (by rw [flags]; rfl)) ⟨rfl, ?_, rfl⟩
    rw [alone]
    exact Tab.find_put_self ..
  case damaged =>
    intro s slot b crc
    refine .of s ?_ rfl
    rw [exec_basinAttestFragment, execBasinAttestFragment, if_pos (Or.inr (Or.inr (Or.inl crc)))]
  case query =>
    intro s r running
    refine .of _ ?_ rfl
    rw [exec_cryptQuery, execCryptQuery, running]
  case noQuery =>
    intro s idle
    refine .of s ?_ rfl
    rw [exec_cryptQuery, execCryptQuery, idle]

end Sys2Proof
end

section
/-!
PROOFS. A state that the statement about the Synko entries does not exclude and in which its clause of SYNKO_ADD fails, run through the
model (R212, R296).
-/
namespace Sys2Proof.Machine

/-- A SYNKO_ADD of 0 to counter 0. -/
def addEntry : Bytes := [0x22] ++ zeros 11 ++ [1] ++ zeros 51

/-- Its record, which holds key 5. -/
def addRecord : Infl := { launchEntry with ent := addEntry, disp := false, keys := [5], spans := [] }

/-- The entry waits in queue 0. -/
def addWithKey : State := { newWorker with wqs := [(0, postedQueue)], infl := [(inflKey 0 0, addRecord)] }

end Sys2Proof.Machine

namespace Sys2Proof
open Sys2Proof.Machine

/-- Refutes O39: the clause of SYNKO_ADD has the entry under way with no keys, and its conditions do not exclude a record that already holds
some. Dispatch keeps them (R212). -/
theorem not_counterOperationsWaitAndApply : ¬ Obligations.CounterOperationsWaitAndApply := by
  unfold Obligations.CounterOperationsWaitAndApply
  rintro ⟨adds, -⟩
  obtain ⟨t, ht, ⟨r, found, -, -, none⟩, -⟩ := adds addWithKey 0 0 postedQueue addRecord
    (by decide +kernel) (by decide) (by decide) (by decide)
  have kept : readAfter (.synkoAdd 0 0) addWithKey (fun t => (inflOf t 0 0).map (·.keys)) = some (some [5]) := by decide +kernel
  rw [readAfter_of_next _ ht, found, Option.map_some, none] at kept
  exact absurd kept (by decide)

end Sys2Proof
end

section
/-!
PROOFS. The counter commands and the gate commands (spec file 13, R294, R299, R301 to R303, R309).
-/
namespace Sys2Proof.Machine

/-- Checks that pass leave the ones after them. -/
theorem firstFail_append {a : List (Bool × Byte)} (pass : firstFail a = none) (b : List (Bool × Byte)) :
    firstFail (a ++ b) = firstFail b := by
  induction a with
  | nil => rfl
  | cons c r ih =>
    obtain ⟨ok, st⟩ := c
    cases ok with
    | true => exact ih pass
    | false => cases pass

/-! ### A counter's record (R294, R303) -/

section
variable {s : State} {n m v : Nat} {c : SyCnt} {set : Bool} {j : List (Nat × Nat × Nat)}

theorem cnt_putCnt_self (s : State) (n : Nat) (c : SyCnt) : cnt (putCnt s n c) n = c := by
  rw [cnt, putCnt, Tab.getD, Tab.find_put_self]
  rfl

theorem cnt_putCnt_ne (other : m ≠ n) : cnt (putCnt s n c) m = cnt s m := by
  rw [cnt, putCnt, Tab.getD, Tab.find_put_ne _ _ _ _ other]
  rfl

theorem releaseWaiters_none (alone : waiting s n = []) (sat : (cnt s n).sat = false) (poison : (cnt s n).poison = false) (before : Nat) :
    releaseWaiters s n before = s := by
  simp [releaseWaiters, alone, sat, poison]

/-- A change that leaves a counter neither saturated nor poisoned, and for which nobody waits, is the counter's record alone. -/
theorem applyCnt_record (alone : waiting s n = []) (sat : (changed (cnt s n) set v j).sat = false)
    (poison : (changed (cnt s n) set v j).poison = false) : applyCnt s n set v j = putCnt s n (changed (cnt s n) set v j) := by
  simp only [applyCnt, sat, Bool.false_eq_true, false_and, if_false]
  exact releaseWaiters_none (s := putCnt s n _) alone (by rw [cnt_putCnt_self, sat]) (by rw [cnt_putCnt_self, poison]) _

theorem changed_set (c : SyCnt) (v : Nat) (j : List (Nat × Nat × Nat)) :
    changed c true v j = { c with value := v, sat := false, poison := false, bad1 := false, bad2 := false, journal := j } := rfl

theorem changed_add (good : c.poison = false) (unsat : c.sat = false) (below : c.value + v < 2 ^ 48) :
    changed c false v j = { c with value := c.value + v, journal := j } := by
  have fits : ¬ 2 ^ 48 ≤ c.value + v := Nat.not_le.2 below
  simp only [changed, good, unsat, Bool.false_eq_true, or_self, if_false, if_neg fits]

/-! ### The counter commands (R302, R309) -/

variable {i : Nat} {w : RegWr}

theorem sySel_cmdTaken (s : State) (i : Nat) : sySel (cmdTaken s i 0x214) i = sySel s i := getPage_cmdTaken (by decide)

theorem syVal_cmdTaken (s : State) (i : Nat) : syVal (cmdTaken s i 0x214) i = syVal s i := by
  rw [syVal, getPage_cmdTaken (by decide), getPage_cmdTaken (by decide), syVal]

theorem putCnt_taken (s : State) (i n : Nat) (c : SyCnt) : putCnt (cmdTaken s i 0x214) n c = { s with
    sy := (putCnt (cmdTaken s i 0x214) n c).sy, pages := (putCnt (cmdTaken s i 0x214) n c).pages,
    insts := (putCnt (cmdTaken s i 0x214) n c).insts } := rfl

theorem exec_sySet_ok (cmdOpen : CmdOpen s i 0x214 1 w) (head : firstFail (syHead s i w) = none) (stays : syLeaving s i = false)
    (alone : waiting s (sySel s i) = []) : exec (.sySet i w) s =
      .next (putCnt (cmdTaken s i 0x214) (sySel s i) (changed (cnt s (sySel s i)) true (syVal s i) (cnt s (sySel s i)).journal)) := by
  refine (exec_cmd_ok cmdOpen (exec_sySet i w s) ((firstFail_append head _).trans ?_)).trans ?_
  · rw [stays]
    rfl
  · simp only [sySel_cmdTaken, syVal_cmdTaken]
    exact congrArg Host.Outcome.next (applyCnt_record alone rfl rfl)

theorem exec_syAdd_ok (cmdOpen : CmdOpen s i 0x214 2 w) (head : firstFail (syHead s i w) = none) (stays : syLeaving s i = false)
    (good : (cnt s (sySel s i)).poison = false) (unsat : (cnt s (sySel s i)).sat = false)
    (below : (cnt s (sySel s i)).value + syVal s i < 2 ^ 48) (alone : waiting s (sySel s i) = []) : exec (.syAdd i w) s =
      .next (putCnt (cmdTaken s i 0x214) (sySel s i) (changed (cnt s (sySel s i)) false (syVal s i) (cnt s (sySel s i)).journal)) := by
  refine (exec_cmd_ok cmdOpen (exec_syAdd i w s) ((firstFail_append head _).trans ?_)).trans ?_
  · rw [stays, good]
    rfl
  · simp only [sySel_cmdTaken, syVal_cmdTaken]
    have kept : changed (cnt s (sySel s i)) false (syVal s i) (cnt s (sySel s i)).journal =
      { cnt s (sySel s i) with value := (cnt s (sySel s i)).value + syVal s i } := changed_add good unsat below
    have same : cnt (cmdTaken s i 0x214) (sySel s i) = cnt s (sySel s i) := rfl
    exact congrArg Host.Outcome.next (applyCnt_record alone (by rw [same, kept, unsat]) (by rw [same, kept, good]))

/-! ### The gate commands (R301, R309) -/

variable {x : Wq} {g : Gate}

theorem wqDisabled_of_find {q : Nat} (found : Tab.find s.wqs q = some x) : wqDisabled s q = decide (x.st = .disabled) := by
  rw [wqDisabled, found]

/-- The gate registers show a gate: each value at its offset, GATED, and T(CI). -/
def gateShown (s : State) (i : Nat) (g : Gate) (t : Nat) : State :=
  [(0x224, g.counter), (0x228, g.base % 2 ^ 32), (0x22C, g.base / 2 ^ 32), (0x230, g.step), (0x234, g.every), (0x238, g.timeout), (0x240, 2 ^ 30),
    (0x244, t % 2 ^ 32), (0x248, t / 2 ^ 32 % 2 ^ 16)].foldl (fun s x => putPage s i x.1 x.2) s

/-- Writing page registers one after another changes the pages alone. -/
theorem foldl_putPage_frame (i : Nat) (l : List (Nat × Nat)) (s : State) :
    l.foldl (fun s x => putPage s i x.1 x.2) s = { s with pages := (l.foldl (fun s x => putPage s i x.1 x.2) s).pages } := by
  induction l generalizing s with
  | nil => rfl
  | cons a r ih =>
    rw [List.foldl_cons, ih]
    rfl

/-- A register that is not written again keeps what it was given. -/
theorem getPage_foldl_putPage_ne {o : Nat} {l : List (Nat × Nat)} (absent : o ∉ l.map (·.1)) (s : State) :
    getPage (l.foldl (fun s x => putPage s i x.1 x.2) s) i o = getPage s i o := by
  induction l generalizing s with
  | nil => rfl
  | cons a r ih =>
    simp only [List.map_cons, List.mem_cons, not_or] at absent
    rw [List.foldl_cons, ih absent.2, getPage_putPage_ne absent.1]

/-- A register of a list without repetition reads what the list gives it. -/
theorem getPage_foldl_putPage {o y : Nat} {l : List (Nat × Nat)} (once : (l.map (·.1)).Nodup) (mem : (o, y) ∈ l) (s : State) :
    getPage (l.foldl (fun s x => putPage s i x.1 x.2) s) i o = y % 2 ^ 32 := by
  induction l generalizing s with
  | nil => cases mem
  | cons a r ih =>
    obtain ⟨head, rest⟩ := List.nodup_cons.1 once
    rw [List.foldl_cons]
    rcases List.mem_cons.1 mem with rfl | mem
    · rw [getPage_foldl_putPage_ne head, getPage_putPage_self]
    · exact ih rest mem _

theorem getPage_gateShown {o y t : Nat} (mem : (o, y) ∈ [(0x224, g.counter), (0x228, g.base % 2 ^ 32), (0x22C, g.base / 2 ^ 32), (0x230, g.step),
    (0x234, g.every), (0x238, g.timeout), (0x240, 2 ^ 30), (0x244, t % 2 ^ 32), (0x248, t / 2 ^ 32 % 2 ^ 16)]) :
    getPage (gateShown s i g t) i o = y % 2 ^ 32 := getPage_foldl_putPage (by simp) mem s

theorem gateShown_taken (s : State) (i : Nat) (g : Gate) (t : Nat) : gateShown (cmdTaken s i 0x240) i g t = { s with
    pages := (gateShown (cmdTaken s i 0x240) i g t).pages, insts := (gateShown (cmdTaken s i 0x240) i g t).insts } := by
  rw [gateShown, foldl_putPage_frame, cmdTaken_frame]

theorem putPage_taken (s : State) (i o v : Nat) : putPage (cmdTaken s i 0x240) i o v = { s with
    pages := (putPage (cmdTaken s i 0x240) i o v).pages, insts := (putPage (cmdTaken s i 0x240) i o v).insts } := by
  rw [show putPage (cmdTaken s i 0x240) i o v = { cmdTaken s i 0x240 with pages := (putPage (cmdTaken s i 0x240) i o v).pages } from rfl,
    cmdTaken_frame]

theorem exec_gateQuery_gate (cmdOpen : CmdOpen s i 0x240 3 w) (head : firstFail (gateHead s i w false) = none)
    (found : Tab.find s.wqs (gateSel s i) = some x) (gate : x.gate = some g) :
    exec (.gateQuery i w) s = .next (gateShown (cmdTaken s i 0x240) i g (gateT g x.ci)) := by
  refine (exec_cmd_ok cmdOpen (exec_gateQuery i w s) head).trans ?_
  simp only [show Tab.find (cmdTaken s i 0x240).wqs (gateSel s i) = some x from found, gate]
  rfl

theorem exec_gateQuery_none (cmdOpen : CmdOpen s i 0x240 3 w) (head : firstFail (gateHead s i w false) = none)
    (found : Tab.find s.wqs (gateSel s i) = some x) (none : x.gate = none) :
    exec (.gateQuery i w) s = .next (putPage (cmdTaken s i 0x240) i 0x240 0) := by
  refine (exec_cmd_ok cmdOpen (exec_gateQuery i w s) head).trans ?_
  simp only [show Tab.find (cmdTaken s i 0x240).wqs (gateSel s i) = some x from found, none]
  rfl
end

end Sys2Proof.Machine

namespace Sys2Proof
open Sys2Proof.Machine

/-- Settles O40, one case per clause: a command that passes its head and its own check has its effect on the counter's record or on the
queue's gate (`exec_cmd_ok`, `applyCnt_record`), one that fails is rejected whole (`exec_cmd_fail`). -/
theorem counterAndGateCommandsActAsStated : Obligations.CounterAndGateCommandsActAsStated := by
  unfold Obligations.CounterAndGateCommandsActAsStated
  refine ⟨?set, ?add, ?addPoisoned, ?share, ?unshare, ?unshareUsed, ?gateSet, ?gateSetBusy, ?gateClear, ?gateQuery, ?gateQueryNone⟩
  case set =>
    intro s i w cmdOpen head stays alone
    refine .of _ (exec_sySet_ok cmdOpen head stays alone) ⟨?_, ?_, ?_, fun n other => cnt_putCnt_ne other, putCnt_taken ..⟩
    · rw [cnt_putCnt_self]
      rfl
    · rw [cnt_putCnt_self]
      rfl
    · rw [cnt_putCnt_self]
      rfl
  case add =>
    intro s i w cmdOpen head stays good unsat below alone
    refine .of _ (exec_syAdd_ok cmdOpen head stays good unsat below alone) ⟨?_, fun n other => cnt_putCnt_ne other, putCnt_taken ..⟩
    rw [cnt_putCnt_self, changed_add good unsat below]
  case addPoisoned =>
    intro s i w cmdOpen head stays poisoned
    obtain ⟨t, ht, status, frame⟩ := exec_cmd_fail cmdOpen (exec_syAdd i w s)
      (show firstFail _ = some Status.descriptorCrc by rw [firstFail_append head, stays, poisoned]; rfl)
    exact .of t ht ⟨by rw [frame], status, frame⟩
  case share =>
    intro s i w cmdOpen head other unshared
    have passed : firstFail (syHead s i w ++ [(decide (getPage s i 0x20C ≠ i), Status.notPermitted),
        ((cnt s (sySel s i)).share.isNone, Status.busy)]) = none := by
      rw [firstFail_append head, unshared, decide_eq_true other]
      rfl
    refine .of _ (exec_cmd_ok cmdOpen (exec_syShare i w s) passed) ⟨?_, putCnt_taken ..⟩
    rw [sySel_cmdTaken]
    rfl
  case unshare =>
    intro s i w j cmdOpen head shared unused
    exact .of _ (exec_cmd_ok cmdOpen (exec_syUnshare i w s) (by simp [firstFail_append head, shared, unused])) ⟨rfl, putCnt_taken ..⟩
  case unshareUsed =>
    intro s i w j cmdOpen head shared used
    obtain ⟨t, ht, status, frame⟩ := exec_cmd_fail cmdOpen (exec_syUnshare i w s)
      (show firstFail _ = some Status.busy by simp [firstFail_append head, shared, used])
    exact .of t ht ⟨by rw [frame], status, frame⟩
  case gateSet =>
    intro s i w x cmdOpen head found disabled
    refine .of _ (exec_cmd_ok cmdOpen (exec_gateSet i w s) (by rw [firstFail_append head, wqDisabled_of_find found, disabled]; rfl)) ⟨?_, rfl⟩
    refine (Tab.modify_of_find found _).trans ?_
    rw [getPage_cmdTaken (p := 0x224) (by decide), getPage_cmdTaken (p := 0x228) (by decide), getPage_cmdTaken (p := 0x22C) (by decide),
      getPage_cmdTaken (p := 0x230) (by decide), getPage_cmdTaken (p := 0x234) (by decide), getPage_cmdTaken (p := 0x238) (by decide)]
  case gateSetBusy =>
    intro s i w x cmdOpen head found enabled
    obtain ⟨t, ht, status, frame⟩ := exec_cmd_fail cmdOpen (exec_gateSet i w s)
      (show firstFail _ = some Status.busy by rw [firstFail_append head, wqDisabled_of_find found, decide_eq_false enabled]; rfl)
    exact .of t ht ⟨by rw [frame], status, frame⟩
  case gateClear =>
    intro s i w x cmdOpen head found disabled
    exact .of _ (exec_cmd_ok cmdOpen (exec_gateClear i w s) (by rw [firstFail_append head, wqDisabled_of_find found, disabled]; rfl))
      ⟨Tab.modify_of_find found _, rfl⟩
  case gateQuery =>
    intro s i w x g cmdOpen head found gate counter timeout
    refine .of _ (exec_gateQuery_gate cmdOpen head found gate) ⟨?_, ?_, ?_, ?_, ?_, ?_, gateShown_taken ..⟩
    · rw [getPage_gateShown (y := g.counter) (by simp), Nat.mod_eq_of_lt counter]
    · rw [getPage_gateShown (y := g.base % 2 ^ 32) (by simp), Nat.mod_mod]
    · exact getPage_gateShown (by simp)
    · rw [getPage_gateShown (y := g.timeout) (by simp), Nat.mod_eq_of_lt timeout]
    · rw [getPage_gateShown (y := 2 ^ 30) (by simp)]
      decide
    · rw [getPage_gateShown (y := gateT g x.ci % 2 ^ 32) (by simp), Nat.mod_mod]
  case gateQueryNone =>
    intro s i w x cmdOpen head found none
    exact .of _ (exec_gateQuery_none cmdOpen head found none) ⟨(getPage_putPage_self ..).trans (Nat.zero_mod _), putPage_taken ..⟩

end Sys2Proof
end

section
/-!
PROOFS. A state that the statement about group traffic does not exclude and in which its clause of COLL_TIMEOUT fails, run through the
model (R325, R331).
-/
namespace Sys2Proof.Machine

/-- A collective on the Runnel path, of the entry at index 0 of queue 0. -/
def runnelColl : Coll :=
  { q := 0, i := 0, seq := 0, sig := 0, since := 0, order := 0, runnel := true, src := [], raw := [], hits := [], sent := [], votes := [],
    voted := false, credited := [] }

/-- A group of this member and the one at slot 3, with a timeout of 1 ms. -/
def pairGroup : Group :=
  { inst := 0, size := 2, rank := 0, wide := false, runnelOk := true, chunkLog2 := 16, gen := 0, timeout := 1,
    members := [{ qpn := 2 ^ 18 - 1, peerGroup := 0, slot := 2 }, { qpn := 9, peerGroup := 0, slot := 3 }],
    error := none, seq := 1, coll := some runnelColl, scratch := 0, inbox := [], credits := [], given := [], full := [], sigs := [],
    early := [], kept := [] }

/-- Link 0 leads to slot 3, and Runnel's share of it is used up until 1 s. -/
def shareSpent : State :=
  { newWorker with
    groups := [(0, pairGroup)], infl := [(inflKey 0 0, { launchEntry with done := none, spans := [] })],
    qps := [(1, { packetDue with member := 3 })], links := [(0, { LinkSt.reset with up := true })], rn.nextAt := [(0, 1000000000)] }

end Sys2Proof.Machine

namespace Sys2Proof
open Sys2Proof.Machine

/-- Refutes O37: the clause of COLL_TIMEOUT has device time at the timeout. On the Runnel path the failing member sends COLL_ABORT (R331),
and a message that comes before its turn in Runnel's share of the link waits for it (R325): here until 1 s, the timeout being 1 ms. -/
theorem not_groupTrafficAndCommandsActAsStated : ¬ Obligations.GroupTrafficAndCommandsActAsStated := by
  unfold Obligations.GroupTrafficAndCommandsActAsStated
  rintro ⟨-, -, -, -, -, timeout, -⟩
  obtain ⟨t, ht, -, now, -⟩ := timeout shareSpent 0 pairGroup runnelColl _ rfl rfl
  have waited : readAfter (.collTimeout 0) shareSpent (fun t => t.sys.now) = some 1000000000 := by decide +kernel
  rw [readAfter_of_next _ ht, now] at waited
  exact absurd waited (by decide)

end Sys2Proof
end

section
/-!
PROOFS. Runnel streams: what sending changes, what arrives, timers and restart (spec file 14, R325 to R329, R331; logs 39, 41, 118).
-/
namespace Sys2Proof.Machine

/-! ### What sending changes (R325, R326) -/

/-- What Runnel changes as it sends: device time, which a message waits for, with the counts of Weir and the instances that follow it,
the links, the outputs, and its own state. -/
def RnFrame (s t : State) : Prop :=
  t = { s with sys := { s.sys with now := t.sys.now }, rn := t.rn, out := t.out, wr := t.wr, insts := t.insts, links := t.links }

theorem RnFrame.refl (s : State) : RnFrame s s := rfl

theorem RnFrame.trans {s t u : State} (h : RnFrame s t) (k : RnFrame t u) : RnFrame s u := by
  unfold RnFrame at *
  rw [k, h]

/-- A message, or several, went out: the streams stay, and time does not go back. -/
structure RnSends (s t : State) : Prop where
  frame : RnFrame s t
  streams : t.rn.streams = s.rn.streams
  later : s.sys.now ≤ t.sys.now

theorem RnSends.refl (s : State) : RnSends s s := ⟨.refl s, rfl, le_rfl⟩

theorem RnSends.trans {s t u : State} (h : RnSends s t) (k : RnSends t u) : RnSends s u :=
  ⟨h.frame.trans k.frame, k.streams.trans h.streams, h.later.trans k.later⟩

theorem rnCount_sends (s : State) (k : Nat) : RnSends s (rnCount s k) := ⟨rfl, rfl, le_rfl⟩

theorem emit_rnSends (s : State) (o : Out) : RnSends s (emit s o) := ⟨rfl, rfl, le_rfl⟩

theorem advanceTo_rnSends (s : State) (a : Nat) : RnSends s (advanceTo s a) := ⟨rfl, rfl, le_max_left ..⟩

theorem rnPace_sends (s : State) (l : Nat) (f : TxFrame) : RnSends s (rnPace s l f) := by
  unfold rnPace
  dsimp only
  split
  · exact ((advanceTo_rnSends s _).trans (rnCount_sends _ 6)).trans ⟨rfl, rfl, le_rfl⟩
  · exact ⟨rfl, rfl, le_rfl⟩

theorem rnEmit_sends (s : State) (slot : Nat) (x : Stream) (body : Bytes) (seq : Nat) (retx : Bool) :
    RnSends s (rnEmit s slot x body seq retx) := by
  unfold rnEmit
  split
  · exact .refl s
  next l route =>
    split
    · exact .refl s
    · have marked : RnSends s (putLink s l { link s l with busyAt := s.sys.now }) := ⟨rfl, rfl, le_rfl⟩
      exact ((marked.trans (rnPace_sends ..)).trans (emit_rnSends ..)).trans (rnCount_sends _ 0)

theorem foldl_sends {α : Type} {f : State → α → State} (step : ∀ s x, RnSends s (f s x)) (l : List α) (s : State) :
    RnSends s (l.foldl f s) := by
  induction l generalizing s with
  | nil => exact .refl s
  | cons x r ih => exact (step s x).trans (ih _)

theorem rnResend_sends (s : State) (slot : Nat) (retx : Bool) : RnSends s (rnResend s slot retx) := by
  unfold rnResend
  split
  · exact .refl s
  next x found =>
    refine foldl_sends (fun s m => ?_) _ s
    cases retx
    · exact rnEmit_sends ..
    · exact (rnCount_sends s 2).trans (rnEmit_sends ..)

/-! ### The timers and the restart (R328) -/

section
variable {s : State} {k : Nat} {x : Stream}

theorem find_putStream (s : State) (k : Nat) (x : Stream) : Tab.find (putStream s k x).rn.streams k = some x := Tab.find_put_self ..

theorem RnSends.stream {t : State} (sent : RnSends (putStream s k x) t) : Tab.find t.rn.streams k = some x := by
  rw [sent.streams, find_putStream]

theorem putStream_frame (s : State) (k : Nat) (x : Stream) : RnFrame s (putStream s k x) := rfl

theorem exec_runnelRtoExpiry_due (found : Tab.find s.rn.streams k = some x) (owing : x.unacked ≠ []) (tries : x.expiries < 16)
    (goes : rnHeld s k = false) : exec (.runnelRtoExpiry k) s = .next (rnResend (putStream (advanceTo s (x.rtoAt + x.rto)) k
      { x with rto := min (2 * x.rto) (max 1000000 (rnRto s)), rtoAt := (advanceTo s (x.rtoAt + x.rto)).sys.now, expiries := x.expiries + 1 })
      k true) := by
  rw [exec_runnelRtoExpiry, execRunnelRtoExpiry, found]
  simp only [owing, Nat.not_le.2 tries, goes, Bool.false_eq_true, or_self, if_false]
  rfl

/-- The stream of a restart: the next SEPOCH, SYNC, its unacknowledged messages numbered from 0. -/
def restarted (s : State) (x : Stream) : Stream :=
  { x with sepoch := if x.sepoch = 255 then 1 else x.sepoch + 1, sync := true, next := x.unacked.length,
           unacked := (x.unacked.zipIdx).map (fun p => { p.1 with seq := p.2 }), rto := rnRto s, rtoAt := s.sys.now, expiries := 0 }

theorem restarted_bodies (s : State) (x : Stream) : (restarted s x).unacked.map (·.body) = x.unacked.map (·.body) := by
  rw [restarted, List.map_map]
  change x.unacked.zipIdx.map (RMsg.body ∘ Prod.fst) = x.unacked.map RMsg.body
  rw [← List.map_map, List.zipIdx_map_fst]

theorem restarted_seqs (s : State) (x : Stream) : (restarted s x).unacked.map (·.seq) = List.range x.unacked.length := by
  rw [restarted, List.map_map]
  change x.unacked.zipIdx.map Prod.snd = List.range x.unacked.length
  rw [List.zipIdx_map_snd, List.range_eq_range']

theorem rnRestart_of_find (found : Tab.find s.rn.streams k = some x) :
    rnRestart s k = rnCount (rnResend (putStream s k (restarted s x)) k false) 7 := by
  rw [rnRestart, found]
  rfl

theorem exec_runnelAckDelayExpiry_due {d : Nat} (found : Tab.find s.rn.streams k = some x) (owed : x.ackOwed = some d)
    (goes : rnHeld s k = false) :
    exec (.runnelAckDelayExpiry k) s = .next (rnEmit (putStream (advanceTo s (d + rnAckDelay s)) k { x with ackOwed := none }) k
      { x with ackOwed := none } rnAckBody 0 false) := by
  rw [exec_runnelAckDelayExpiry, execRunnelAckDelayExpiry, found]
  simp only [owed, goes, Bool.false_eq_true, if_false]
  rw [rnSendAck, show Tab.find (advanceTo s (d + rnAckDelay s)).rn.streams k = some x from found]
end

/-! ### Arrivals (R83, R327 to R329) -/

section
variable {s : State} {m : Bytes} {x : Stream} {type : Nat}

/-- Where no group runs a collective, no Runnel collective goes on. -/
theorem runnelStep_idle (idle : ∀ p ∈ s.groups, p.2.coll = none) (n : Nat) : runnelStep s n = s := by
  have none_ : collOf s n = none := by
    unfold collOf
    cases found : Tab.find s.groups n with
    | none => rfl
    | some g =>
      have quiet : g.coll = none := idle (n, g) (Tab.mem_of_find found)
      simp only [quiet]
  rw [runnelStep, none_]

theorem runnelRoots_idle (idle : ∀ p ∈ s.groups, p.2.coll = none) : runnelRoots s = s :=
  List.foldl_fixed' (fun p => runnelStep_idle idle p.1) s.groups

theorem rnRow_serves (own : rnGood m = true → getBE m 1 1 = type) (serves : RnServes s m) :
    rnRow m type s = .next (rnServe (wakeBlk s .runnel) m) := by
  obtain ⟨calm, runs⟩ := serves
  have route : (rnLink s (getBE m 4 1)).filter (fun l => decide ((link s l).cal = .running)) = none := by
    rw [Option.filter_eq_none_iff]
    simpa using calm
  have mine : ¬ (rnGood m ∧ getBE m 1 1 ≠ type) := fun h => h.2 (own h.1)
  simp only [rnRow, if_neg mine, route, runs, Bool.false_eq_true, if_false]

/-- A good message for this device of a stream it has, SYNC clear. -/
structure RnHeard (s : State) (m : Bytes) (x : Stream) : Prop where
  good : rnGood m = true
  here : getBE m 5 1 = s.basin.slot
  found : Tab.find s.rn.streams (getBE m 4 1) = some x
  plain : bitN (getBE m 2 1) 0 = false

/-- The stream counts the message and stands as before. -/
abbrev rnMet (s : State) (m : Bytes) (x : Stream) : State := putStream (rnCount s 1) (getBE m 4 1) x

theorem RnHeard.streamOf (h : RnHeard s m x) : streamOf (rnCount s 1) (getBE m 4 1) = (rnCount s 1, x) := by
  rw [Machine.streamOf, show Tab.find (rnCount s 1).rn.streams (getBE m 4 1) = some x from h.found]

theorem rnMet_frame (s : State) (m : Bytes) (x : Stream) (k : Nat) (y : Stream) :
    putStream (rnMet s m x) k y = { s with rn := (putStream (rnMet s m x) k y).rn } := rfl

theorem rnMet_counted_frame (s : State) (m : Bytes) (x : Stream) (k : Nat) :
    rnCount (rnMet s m x) k = { s with rn := (rnCount (rnMet s m x) k).rn } := rfl

/-- The stream after its next message: the one after is expected, and an acknowledgement is owed. -/
def tookNext (s : State) (x : Stream) : Stream := { x with expect := (x.expect + 1) % 2 ^ 16, ackOwed := some (x.ackOwed.getD s.sys.now) }

theorem RnHeard.arrive_next (h : RnHeard s m x) (data : getBE m 1 1 ≠ 3) (unacking : bitN (getBE m 2 1) 3 = false)
    (epoch : getBE m 3 1 = x.peerEpoch) (next : getBE m 6 2 = x.expect) :
    rnArrive s m true = .deliver (putStream (rnMet s m x) (getBE m 4 1) (tookNext s x)) := by
  simp only [rnArrive, h.good, h.here, h.streamOf, h.plain, epoch, next, data, unacking, find_putStream, Option.getD_some, Bool.not_true,
    Bool.false_and, Bool.false_eq_true, if_false, if_true, ne_eq, not_true_eq_false, Bool.not_false, and_false]
  rfl

theorem RnHeard.arrive_ack (h : RnHeard s m x) {accept : Bool} (ack : getBE m 1 1 = 3) (acking : bitN (getBE m 2 1) 3 = true)
    (epoch : getBE m 3 1 = x.peerEpoch) : rnArrive s m accept = .done (rnTakeAck (rnMet s m x) (getBE m 4 1) (getBE m 8 2)) := by
  simp only [rnArrive, h.good, h.here, h.streamOf, h.plain, epoch, ack, acking, Bool.not_true, Bool.false_and, Bool.false_eq_true, if_false,
    if_true, ne_eq, not_true_eq_false, Bool.not_false, and_false]

theorem RnHeard.arrive_stale (h : RnHeard s m x) {accept : Bool} (epoch : getBE m 3 1 ≠ x.peerEpoch) :
    rnArrive s m accept = .done (rnCount (rnMet s m x) 4) := by
  simp only [rnArrive, h.good, h.here, h.streamOf, h.plain, epoch, Bool.not_true, Bool.false_and, Bool.false_eq_true, if_false, if_true,
    ne_eq, not_true_eq_false, not_false_eq_true, Bool.not_false, and_self]

theorem takeContrib_none (none_ : Tab.find s.groups (getBE m 10 2) = none) : takeContrib s m = s := by rw [takeContrib, none_]

theorem takeRunnelAbort_none (none_ : Tab.find s.groups (getBE m 10 2) = none) : takeRunnelAbort s m = s := by rw [takeRunnelAbort, none_]

theorem collAccept_none (none_ : Tab.find s.groups (getBE m 10 2) = none) : collAccept s m = true := by rw [collAccept, none_]

theorem rnServe_done {t : State} (done : ∀ accept, rnArrive s m accept = .done t) (idle : ∀ p ∈ t.groups, p.2.coll = none) :
    rnServe s m = t := by
  unfold rnServe
  simp only [done, runnelRoots_idle idle]

theorem rnServe_contrib {t : State} (type : getBE m 1 1 = 1) (delivered : rnArrive s m (collAccept s m) = .deliver t) :
    rnServe s m = runnelRoots (takeContrib t m) := by
  unfold rnServe
  simp only [type, if_true, delivered]

theorem rnServe_abort {t : State} (type : getBE m 1 1 = 2) (delivered : rnArrive s m true = .deliver t) :
    rnServe s m = runnelRoots (takeRunnelAbort t m) := by
  have other : ¬ (2 = 1) := by decide
  unfold rnServe
  simp only [type, other, if_false, decide_true, delivered]

/-- The next message of a stream, for a group that does not exist. -/
theorem RnHeard.serve_next (h : RnHeard s m x) (data : getBE m 1 1 = 1 ∨ getBE m 1 1 = 2) (idle : ∀ p ∈ s.groups, p.2.coll = none)
    (none_ : Tab.find s.groups (getBE m 10 2) = none) (unacking : bitN (getBE m 2 1) 3 = false) (epoch : getBE m 3 1 = x.peerEpoch)
    (next : getBE m 6 2 = x.expect) : rnServe s m = putStream (rnMet s m x) (getBE m 4 1) (tookNext s x) := by
  have delivered := h.arrive_next (by omega) unacking epoch next
  have idle' : ∀ p ∈ (putStream (rnMet s m x) (getBE m 4 1) (tookNext s x)).groups, p.2.coll = none := idle
  have none' : Tab.find (putStream (rnMet s m x) (getBE m 4 1) (tookNext s x)).groups (getBE m 10 2) = none := none_
  rcases data with contrib | abort
  · rw [rnServe_contrib contrib (by rw [collAccept_none none_, delivered]), takeContrib_none none', runnelRoots_idle idle']
  · rw [rnServe_abort abort delivered, takeRunnelAbort_none none', runnelRoots_idle idle']

theorem RnHeard.serve_stale (h : RnHeard s m x) (idle : ∀ p ∈ s.groups, p.2.coll = none) (epoch : getBE m 3 1 ≠ x.peerEpoch) :
    rnServe s m = rnCount (rnMet s m x) 4 := by
  have idle' : ∀ p ∈ (rnCount (rnMet s m x) 4).groups, p.2.coll = none := idle
  exact rnServe_done (fun _ => h.arrive_stale epoch) idle'

/-- The message counts as received and as discarded. -/
theorem rnCounted (s : State) (m : Bytes) (x : Stream) :
    Tab.getD (rnCount (rnMet s m x) 4).rn.counters 4 0 = (Tab.getD s.rn.counters 4 0 + 1) % 2 ^ 64 := by
  have other : Tab.getD (rnMet s m x).rn.counters 4 0 = Tab.getD s.rn.counters 4 0 := congrArg (·.getD 0) (Tab.find_put_ne _ _ _ _ (by decide))
  rw [← other]
  exact congrArg (·.getD 0) (Tab.find_put_self ..)

theorem rnServe_bad (bad : rnGood m = false) (idle : ∀ p ∈ s.groups, p.2.coll = none) : rnServe s m = rnCount s 5 := by
  have idle' : ∀ p ∈ (rnCount s 5).groups, p.2.coll = none := idle
  refine rnServe_done (fun accept => ?_) idle'
  rw [rnArrive, bad]
  rfl

theorem wakeBlk_groups (s : State) (b : Blk) : (wakeBlk s b).groups = s.groups := by rw [wakeBlk_clk]

theorem wakeBlk_rn (s : State) (b : Blk) : (wakeBlk s b).rn = s.rn := by rw [wakeBlk_clk]

theorem wakeBlk_sys (s : State) (b : Blk) : (wakeBlk s b).sys = s.sys := by rw [wakeBlk_clk]

theorem RnHeard.wake (h : RnHeard s m x) (b : Blk) : RnHeard (wakeBlk s b) m x := by
  obtain ⟨good, here, found, plain⟩ := h
  exact ⟨good, by rw [wakeBlk_clk, here], by rw [wakeBlk_rn, found], plain⟩

/-- The messages that an acknowledgement of `a` leaves. -/
def leftBy (x : Stream) (a : Nat) : List RMsg := x.unacked.filter (fun m => !((a + 2 ^ 16 - m.seq - 1) % 2 ^ 16 < 2 ^ 15))

theorem mem_leftBy {z : RMsg} {a : Nat} : z ∈ leftBy x a ↔ z ∈ x.unacked ∧ 2 ^ 15 ≤ (a + 2 ^ 16 - z.seq - 1) % 2 ^ 16 := by
  simp [leftBy, List.mem_filter]

theorem rnFlush_nothing {f k : Nat} (found : Tab.find s.rn.streams k = some x) (nothing : x.waiting = []) : rnFlush f s k = s := by
  cases f with
  | zero => rfl
  | succ f => simp only [rnFlush, found, nothing]

/-- The stream after an acknowledgement of `a` that makes progress. -/
def ackedBy (s : State) (x : Stream) (a : Nat) : Stream :=
  { x with unacked := leftBy x a, rto := rnRto s, rtoAt := s.sys.now, expiries := 0, sync := x.sync && (leftBy x a).any (fun m => m.seq = 0) }

theorem rnTakeAck_of_find {k : Nat} (found : Tab.find s.rn.streams k = some x) (a : Nat) : rnTakeAck s k a =
    if (leftBy x a).length = x.unacked.length then s else rnFlush 33 (putStream s k (ackedBy s x a)) k := by
  rw [rnTakeAck, found]
  rfl

/-- An acknowledgement leaves the stream with the messages from `a` on; with nothing waiting to be sent, that is all. -/
theorem rnTakeAck_stream {k a : Nat} (found : Tab.find s.rn.streams k = some x) (nothing : x.waiting = []) :
    ∃ y, rnTakeAck s k a = { s with rn := (rnTakeAck s k a).rn } ∧ Tab.find (rnTakeAck s k a).rn.streams k = some y ∧
      y.expect = x.expect ∧ y.waiting = [] ∧ y.unacked = leftBy x a := by
  rw [rnTakeAck_of_find found]
  split
  next all =>
    have kept : leftBy x a = x.unacked := List.filter_eq_self.2 (List.length_filter_eq_length_iff.1 all)
    exact ⟨x, rfl, found, rfl, nothing, kept.symm⟩
  next progress =>
    rw [rnFlush_nothing (find_putStream s k (ackedBy s x a)) nothing]
    exact ⟨ackedBy s x a, rfl, find_putStream .., rfl, nothing, rfl⟩

theorem RnHeard.serve_ack (h : RnHeard s m x) (idle : ∀ p ∈ s.groups, p.2.coll = none) (ack : getBE m 1 1 = 3)
    (acking : bitN (getBE m 2 1) 3 = true) (epoch : getBE m 3 1 = x.peerEpoch) (nothing : x.waiting = []) :
    ∃ y, rnServe s m = { s with rn := (rnServe s m).rn } ∧ Tab.find (rnServe s m).rn.streams (getBE m 4 1) = some y ∧
      y.expect = x.expect ∧ y.waiting = [] ∧ y.unacked = leftBy x (getBE m 8 2) := by
  obtain ⟨y, frame, taken⟩ := rnTakeAck_stream (s := rnMet s m x) (a := getBE m 8 2) (find_putStream ..) nothing
  rw [rnServe_done (fun _ => h.arrive_ack ack acking epoch) (by rwa [frame])]
  refine ⟨y, ?_, taken⟩
  rw [frame]
  rfl
end

end Sys2Proof.Machine

namespace Sys2Proof
open Sys2Proof.Machine

/-- Settles O38, one case per clause: what a timer sends changes what `RnSends` says, and an arriving message meets its stream
(`RnHeard`); with no collective running, nothing follows (`runnelRoots_idle`). -/
theorem runnelStreamsDeliverInOrder : Obligations.RunnelStreamsDeliverInOrder := by
  unfold Obligations.RunnelStreamsDeliverInOrder
  refine ⟨?expiry, ?expiryHeld, ?restart, ?ack, ?ackHeld, ?damaged, ?calibrating, ?stopped, ?next, ?abort, ?acked, ?stale⟩
  case expiry =>
    intro s k x found owing tries goes
    have sent := rnResend_sends (putStream (advanceTo s (x.rtoAt + x.rto)) k
      { x with rto := min (2 * x.rto) (max 1000000 (rnRto s)), rtoAt := (advanceTo s (x.rtoAt + x.rto)).sys.now, expiries := x.expiries + 1 })
      k true
    exact .of _ (exec_runnelRtoExpiry_due found owing tries goes) ⟨sent.later,
      ⟨_, sent.stream, rfl, rfl, rfl, rfl⟩,
      ((advanceTo_rnSends s _).frame.trans (putStream_frame ..)).trans sent.frame⟩
  case expiryHeld =>
    intro s k x found held
    refine .of s ?_ rfl
    rw [exec_runnelRtoExpiry, execRunnelRtoExpiry, found]
    simp only [held, or_true, if_true]
  case restart =>
    intro s k x found due room
    obtain ⟨e, mem, id, unit⟩ := logEv_stages room 0x0070 0 0x04 k [BitVec.ofNat 8 (if x.sepoch = 255 then 1 else x.sepoch + 1)]
    generalize logged : logEv s 0x0070 0 0x04 k [BitVec.ofNat 8 (if x.sepoch = 255 then 1 else x.sepoch + 1)] = u at mem
    have noted : u = { s with log := u.log } := by rw [← logged, logEv_frame]
    have found' : Tab.find u.rn.streams k = some x := by rw [noted, found]
    have sent := rnResend_sends (putStream u k (restarted u x)) k false
    have counted := sent.trans (rnCount_sends _ 7)
    have frame := (putStream_frame u k (restarted u x)).trans counted.frame
    have log : (rnCount (rnResend (putStream u k (restarted u x)) k false) 7).log = u.log := by rw [frame]
    refine .of (rnRestart u k) ?_ ?_
    · rw [exec_runnelStreamRestart, execRunnelStreamRestart, found]
      simp only [if_neg (Nat.not_lt.2 due), logged]
    · rw [rnRestart_of_find found']
      refine ⟨⟨restarted u x, counted.stream, rfl, rfl, rfl, restarted_bodies .., restarted_seqs ..⟩,
        ⟨e, by rwa [log], id, unit⟩, ?_⟩
      unfold RnFrame at frame
      rw [frame, noted]
  case ack =>
    intro s k x d found owed goes
    have sent := rnEmit_sends (putStream (advanceTo s (d + rnAckDelay s)) k { x with ackOwed := none }) k { x with ackOwed := none }
      rnAckBody 0 false
    exact .of _ (exec_runnelAckDelayExpiry_due found owed goes) ⟨sent.later, ⟨_, sent.stream, rfl, rfl⟩,
      ((advanceTo_rnSends s _).frame.trans (putStream_frame ..)).trans sent.frame⟩
  case ackHeld =>
    intro s k x d found owed held
    refine .of (rnWork s k) ?_ rfl
    rw [exec_runnelAckDelayExpiry, execRunnelAckDelayExpiry, found]
    simp only [owed, held, if_true]
  case damaged =>
    intro s m bad serves idle
    refine .of _ (rnRow_serves (type := 1) (by simp [bad]) serves) ?_
    exact rnServe_bad bad (by rwa [wakeBlk_groups])
  case calibrating =>
    intro s m l type route calibrating
    refine .of (putLink s l { link s l with dropped := (link s l).dropped + 1 }) ?_ rfl
    rw [exec_runnelColl, execRunnelColl, rnRow]
    simp [type, route, Option.filter_some, calibrating]
  case stopped =>
    intro s m type calm stopped
    refine .of { wakeBlk s .runnel with rn := { s.rn with held := s.rn.held ++ [m] } } ?_ rfl
    have none_ : (rnLink s (getBE m 4 1)).filter (fun l => decide ((link s l).cal = .running)) = none := by
      rw [Option.filter_eq_none_iff]
      simpa using calm
    rw [exec_runnelColl, execRunnelColl, rnRow]
    simp [type, none_, stopped, wakeBlk_rn]
  case next =>
    intro s m x good serves type here found idle none_ plain unacking epoch next
    have heard := RnHeard.wake ⟨good, here, found, plain⟩ .runnel
    rw [← wakeBlk_groups s .runnel] at idle none_
    refine .of _ (rnRow_serves (type := 1) (fun _ => type) serves) ?_
    rw [heard.serve_next (.inl type) idle none_ unacking epoch next]
    exact ⟨⟨_, find_putStream .., rfl, by rw [tookNext, wakeBlk_sys]⟩, rnMet_frame ..⟩
  case abort =>
    intro s m x good serves type here found idle none_ plain unacking epoch next
    have heard := RnHeard.wake ⟨good, here, found, plain⟩ .runnel
    rw [← wakeBlk_groups s .runnel] at idle none_
    refine .of _ (rnRow_serves (type := 2) (fun _ => type) serves) ?_
    rw [heard.serve_next (.inr type) idle none_ unacking epoch next]
    exact ⟨⟨_, find_putStream .., rfl, by rw [tookNext, wakeBlk_sys]⟩, rnMet_frame ..⟩
  case acked =>
    intro s m x good serves type here found idle none_ plain acking epoch nothing
    have heard := RnHeard.wake ⟨good, here, found, plain⟩ .runnel
    rw [← wakeBlk_groups s .runnel] at idle
    obtain ⟨y, frame, found', expect, nothing', left⟩ := heard.serve_ack idle type acking epoch nothing
    exact .of _ (rnRow_serves (type := 3) (fun _ => type) serves) ⟨⟨y, found', expect, nothing', fun z => by rw [left, mem_leftBy]⟩, frame⟩
  case stale =>
    intro s m x good serves type here found idle none_ plain epoch
    have heard := RnHeard.wake ⟨good, here, found, plain⟩ .runnel
    rw [← wakeBlk_groups s .runnel] at idle
    refine .of _ (rnRow_serves (type := 1) (fun _ => type) serves) ?_
    rw [heard.serve_stale idle epoch]
    refine ⟨find_putStream .., ?_, rnMet_counted_frame ..⟩
    rw [← wakeBlk_rn s .runnel]
    exact rnCounted _ m x

end Sys2Proof
end

section
/-!
PROOFS. A collective joins its group: what starting it and going on with it keep (spec file 14, R314 to R324, R329, R331, R337; log 37).
-/
namespace Sys2Proof.Machine

/-! ### What sending keeps (R320, R326) -/

/-- Groups and accepted entries stand as before. -/
structure CollKeeps (s t : State) : Prop where
  groups : t.groups = s.groups
  infl : t.infl = s.infl

section
variable {s t u : State}

theorem CollKeeps.refl (s : State) : CollKeeps s s := ⟨rfl, rfl⟩

theorem CollKeeps.trans (h : CollKeeps s t) (k : CollKeeps t u) : CollKeeps s u := ⟨k.groups.trans h.groups, k.infl.trans h.infl⟩

theorem RnFrame.keeps (h : RnFrame s t) : CollKeeps s t := by
  unfold RnFrame at h
  exact ⟨by rw [h], by rw [h]⟩

theorem WriteFrame.keeps (h : WriteFrame s t) : CollKeeps s t := by
  unfold WriteFrame at h
  exact ⟨by rw [h], by rw [h]⟩

theorem foldl_keeps {α : Type} {f : State → α → State} (step : ∀ s x, CollKeeps s (f s x)) (l : List α) (s : State) :
    CollKeeps s (l.foldl f s) := by
  induction l generalizing s with
  | nil => exact .refl s
  | cons x r ih => exact (step s x).trans (ih _)

theorem rnFlush_keeps (f : Nat) (s : State) (slot : Nat) : CollKeeps s (rnFlush f s slot) := by
  induction f generalizing s with
  | zero => exact .refl s
  | succ f ih =>
    unfold rnFlush
    split
    · exact .refl s
    · split
      · exact .refl s
      · split
        · exact .refl s
        · exact (((putStream_frame ..).trans (rnEmit_sends ..).frame).keeps).trans (ih _)

theorem rnWork_keeps (s : State) (slot : Nat) : CollKeeps s (rnWork s slot) := by
  have woken : CollKeeps s (wakeBlk s .runnel) := ⟨by rw [wakeBlk_clk], by rw [wakeBlk_clk]⟩
  unfold rnWork
  dsimp only
  split
  · refine woken.trans ?_
    rw [workArrives_frame]
    exact ⟨rfl, rfl⟩
  · exact woken

theorem rnSend_keeps (s : State) (slot : Nat) (body : Bytes) : CollKeeps s (rnSend s slot body) := by
  have started : CollKeeps s (streamOf (rnWork s slot) slot).1 := by
    refine (rnWork_keeps s slot).trans ?_
    unfold streamOf
    split
    · exact .refl _
    · exact ⟨rfl, rfl⟩
  exact (started.trans (putStream_frame ..).keeps).trans (rnFlush_keeps ..)

theorem groupSend_keeps (s : State) (g : Group) (rank kind slot arg sig : Nat) (data : Bytes) :
    CollKeeps s (groupSend s g rank kind slot arg sig data) := by
  unfold groupSend
  split
  · exact .refl s
  next m member =>
    obtain ⟨qps, links, out, queued⟩ := queueReq_frame s m.qpn 1 data.length (groupAddr m.peerGroup g.gen kind slot arg) sig 0 false 0 0 []
      (if data = [] then .none else .bytes data) .nobody
    rw [queued]
    exact ⟨rfl, rfl⟩

theorem sendAborts_keeps (s : State) (g : Group) (c : Coll) (st : Byte) : CollKeeps s (sendAborts s g c st) := by
  refine foldl_keeps (fun s k => ?_) _ s
  split
  · exact .refl s
  next m member =>
    have told : CollKeeps s (if (qpOf s m.qpn).any (fun p => decide (p.st = .connected)) = true then groupSend s g k 2 0 st.toNat c.sig []
        else s) := by
      split
      · exact groupSend_keeps ..
      · exact .refl s
    dsimp only
    split
    · exact told.trans (rnSend_keeps ..)
    · exact told

theorem sendContrib_keeps (s : State) (g : Group) (replay : Bool) (seq sig dt : Nat) (data : Bytes) :
    CollKeeps s (sendContrib s g replay seq sig dt data) := by
  refine foldl_keeps (fun s k => ?_) _ s
  split
  · exact .refl s
  · exact rnSend_keeps ..

theorem writePieces_frame (a : Option Nat) (s : State) (inst base : Nat) (l : List (Nat × Bytes)) :
    WriteFrame s (writePieces a s inst base l).state := by
  induction l generalizing s with
  | nil => exact .refl s
  | cons p r ih =>
    have head := writeMemAt_frame a s inst (base + p.1) p.2
    unfold writePieces
    split
    next t b written =>
      rw [written] at head
      exact head.trans (ih t)
    next => exact head

/-! ### A collective that has joined (R314) -/

/-- The entry, COLL_SEQ and SIG of a collective. -/
def collKey (c : Coll) : Nat × Nat × Nat × Nat := (c.q, c.i, c.seq, c.sig)

/-- A group that has taken a collective's COLL_SEQ, and runs it or has ended it: the entry's record is there, finished where the
collective is not running any more. -/
def Joined (t : State) (q i : Nat) (e : Bytes) (n : Nat) (g : Group) : Prop :=
  ∃ h y, Tab.find t.groups n = some h ∧ inflOf t q i = some y ∧ h.seq = (g.seq + 1) % 2 ^ 32 ∧ h.members = g.members ∧ h.rank = g.rank ∧
    (h.coll.map collKey = some (q, i, g.seq, sigOf g.seq e) ∨ (h.coll = none ∧ y.done.isSome = true))

variable {q i n : Nat} {e : Bytes} {g : Group}

theorem Joined.collJoined {r : Infl} (joined : Joined t q i r.ent n g) : CollJoined t q i r n g := by
  obtain ⟨h, y, found, record, seq, members, rank, state⟩ := joined
  refine ⟨h, found, seq, members, rank, ?_⟩
  rcases state with runs | ⟨ended, done⟩
  · obtain ⟨c, coll, key⟩ := Option.map_eq_some_iff.1 runs
    simp only [collKey, Prod.mk.injEq] at key
    exact .inl ⟨c, coll, key⟩
  · obtain ⟨d, outcome⟩ := Option.isSome_iff_exists.1 done
    exact .inr ⟨ended, d, y, record, outcome⟩

theorem Joined.keep (joined : Joined s q i e n g) (keeps : CollKeeps s t) : Joined t q i e n g := by
  obtain ⟨h, y, found, record, rest⟩ := joined
  exact ⟨h, y, by rwa [keeps.groups], by rwa [inflOf, keeps.infl], rest⟩

/-- A group put back with the same collective, whatever it has sent, taken or granted. -/
theorem Joined.put {h h' : Group} (joined : Joined s q i e n g) (found : Tab.find s.groups n = some h)
    (same : (h'.seq, h'.members, h'.rank, h'.coll.map collKey) = (h.seq, h.members, h.rank, h.coll.map collKey)) :
    Joined (putGroup s n h') q i e n g := by
  obtain ⟨h₀, y, found₀, record, seq, members, rank, state⟩ := joined
  obtain rfl : h₀ = h := Option.some.inj (found₀.symm.trans found)
  simp only [Prod.mk.injEq] at same
  obtain ⟨seq', members', rank', coll'⟩ := same
  refine ⟨h', y, Tab.find_put_self .., record, seq'.trans seq, members'.trans members, rank'.trans rank, ?_⟩
  rcases state with runs | ⟨ended, done⟩
  · exact .inl (coll'.trans runs)
  · rw [ended, Option.map_none, Option.map_eq_none_iff] at coll'
    exact .inr ⟨coll', done⟩

theorem finish_finishes {y : Infl} (record : inflOf s q i = some y) (d : Done) :
    ∃ z, inflOf (finish s q i d) q i = some z ∧ z.done.isSome = true := by
  cases done : y.done with
  | some o =>
    rw [finish_again record (by rw [done]; rfl)]
    exact ⟨y, record, by rw [done]; rfl⟩
  | none =>
    unfold finish
    rw [record]
    simp only [done, Option.isSome_none, Bool.false_eq_true, if_false]
    exact ⟨_, Tab.find_put_self .., rfl⟩

/-- A group whose collective has ended. -/
def afterColl (h : Group) (c : Coll) (err : Option Byte) : Group :=
  { h with coll := none, error := if err.isSome then err else h.error, given := [], full := [], credits := [], sigs := c.sig :: h.sigs,
           inbox := if err.isSome then [] else h.inbox }

theorem Joined.collEnd (joined : Joined s q i e n g) (d : Done) (err : Option Byte) : Joined (collEnd s n d err) q i e n g := by
  obtain ⟨h, y, found, record, seq, members, rank, state⟩ := joined
  unfold Machine.collEnd
  rw [found]
  rcases state with runs | ⟨ended, done⟩
  · obtain ⟨c, coll, key⟩ := Option.map_eq_some_iff.1 runs
    simp only [collKey, Prod.mk.injEq] at key
    obtain ⟨rfl, rfl, -, -⟩ := key
    simp only [coll]
    generalize ended : ({ putGroup s n _ with fw := _ } : State) = t
    have record' : inflOf t c.q c.i = some y := by rw [← ended]; exact record
    obtain ⟨z, finished, outcome⟩ := finish_finishes record' d
    refine ⟨afterColl h c err, z, ?_, finished, seq, members, rank, .inr ⟨rfl, outcome⟩⟩
    rw [finish_frame, ← ended]
    exact Tab.find_put_self ..
  · simp only [ended]
    exact ⟨h, y, found, record, seq, members, rank, .inr ⟨ended, done⟩⟩

theorem Joined.collFail (joined : Joined s q i e n g) (st : Byte) : Joined (collFail s n st) q i e n g := by
  unfold Machine.collFail
  split
  · exact joined
  · split
    · exact joined
    · exact (joined.keep (sendAborts_keeps ..)).collEnd ..

theorem Joined.collFinish (joined : Joined s q i e n g) (inst dst : Nat) (out : List (Nat × Bytes)) (d : Done) :
    Joined (collFinish s n inst dst out d) q i e n g := by
  have keeps := (writePieces_frame (collAdm s n) s inst dst out).keeps
  unfold Machine.collFinish
  split <;> rename_i written <;> rw [written] at keeps
  · exact joined.keep ⟨keeps.groups, keeps.infl⟩
  · exact (joined.keep keeps).collFail _
  · exact (joined.keep keeps).collEnd ..

/-! ### Its progress on the Furrow path (R319 to R323) -/

theorem Joined.giveCredit (joined : Joined s q i e n g) (rank slot sig : Nat) : Joined (giveCredit s n rank slot sig) q i e n g := by
  unfold Machine.giveCredit
  split
  · exact joined
  next h found => exact (joined.put (h' := { h with given := (rank, slot) :: h.given }) found rfl).keep (groupSend_keeps ..)

theorem Joined.sendOne {v : Env} {p : Plan} {items : Tab Item} (joined : Joined s q i e n g) (sent : sendOne s n v p items = some t) :
    Joined t q i e n g := by
  unfold Machine.sendOne at sent
  split at sent
  · cases sent
  next h found =>
    split at sent
    · cases sent
    next c coll =>
      dsimp only at sent
      split at sent
      · cases sent
      · split at sent
        · cases sent
        · cases sent
          refine (joined.put found ?_).keep (groupSend_keeps ..)
          rw [coll]
          rfl

theorem Joined.sendMany {v : Env} {p : Plan} {items : Tab Item} (joined : Joined s q i e n g) (f : Nat) :
    Joined (sendMany f s n v p items) q i e n g := by
  induction f generalizing s with
  | zero => exact joined
  | succ f ih =>
    unfold Machine.sendMany
    split
    · exact joined
    next t sent => exact ih (joined.sendOne sent)

theorem Joined.collVote (joined : Joined s q i e n g) (v : Env) : Joined (collVote s n v) q i e n g := by
  unfold Machine.collVote
  split
  · exact joined
  next h found =>
    split
    · exact joined
    next c coll =>
      split
      · exact joined
      · split
        · exact joined
        next l all =>
          refine (joined.put (h' := { h with coll := some { c with voted := true } }) found ?_).keep
            (foldl_keeps (fun _ _ => groupSend_keeps ..) _ _)
          rw [coll]
          rfl

theorem Joined.collStep (joined : Joined s q i e n g) : Joined (collStep s n) q i e n g := by
  unfold Machine.collStep
  split
  · exact joined
  · split
    · exact joined
    · dsimp only
      split
      · exact (joined.collVote _).sendMany _
      · split
        · exact ((joined.collVote _).sendMany _).collFinish ..
        · exact (joined.collVote _).sendMany _

theorem collSlot_keeps (s : State) (n inst order : Nat) : CollKeeps s (collSlot s n inst order) := by
  unfold collSlot
  split
  · split
    · exact .refl s
    · exact ⟨rfl, rfl⟩
  · exact .refl s

/-! ### Its progress on the Runnel path (R329) -/

theorem Joined.runnelStep (joined : Joined s q i e n g) : Joined (runnelStep s n) q i e n g := by
  unfold Machine.runnelStep
  split
  · exact joined
  · split
    · exact joined
    · dsimp only
      split
      · exact joined.collFail _
      · split
        · split
          · split
            · exact joined
            · exact joined.collFinish ..
          · split
            · exact joined
            · exact joined.collFinish ..
        · split
          · exact joined
          · exact joined.collFinish ..

/-! ### Its start (R314, R317, R337) -/

theorem Joined.collStart (joined : Joined s q i e n g) : Joined (collStart s n) q i e n g := by
  unfold Machine.collStart
  split
  · exact joined
  next h c r running =>
    have found : Tab.find s.groups n = some h := by
      unfold collOf at running
      split at running
      · cases running
      next h' found =>
        split at running
        · cases running
        · obtain ⟨y, -, same⟩ := Option.map_eq_some_iff.1 running
          cases same
          exact found
    dsimp only
    split
    · have kept (own : List Contrib) : Joined (putGroup s n { h with kept := own }) q i e n g := joined.put found rfl
      refine Joined.runnelStep ?_
      split
      · exact (kept _).keep (sendContrib_keeps ..)
      · exact kept _
    · refine Joined.collStep (Joined.keep ?_ (collSlot_keeps ..))
      induction rxPeers _ _ using List.reverseRecOn with
      | nil => exact joined
      | append_singleton l k ih =>
        rw [List.foldl_append]
        exact (ih.giveCredit ..).giveCredit ..

theorem joined_collBegin {y : Infl} (record : inflOf s q i = some y) (n : Nat) (g : Group) (e : Bytes) (runnel : Bool) (src : Bytes) :
    Joined (collBegin s q i n g e runnel src) q i e n g :=
  ⟨_, _, Tab.find_put_self .., Tab.find_modify_self _ record, rfl, rfl, rfl, .inl rfl⟩

/-- The record of an entry whose buffers are admitted is still there. -/
theorem collAdmit_record {inst : Nat} {r : Infl} {l : Nat × Nat} {a b : Bool} {src : Bytes} (found : inflOf s q i = some r)
    (admitted : collAdmit s q i inst r l a b = .ok u src) : ∃ y, inflOf u q i = some y := by
  unfold collAdmit at admitted
  dsimp only at admitted
  split at admitted
  · cases admitted
  next w once =>
    obtain ⟨⟨y, record, -⟩, -⟩ := admitOnce_ok found once
    suffices kept : u.infl = w.infl from ⟨y, by rwa [inflOf, kept]⟩
    split at admitted
    next x b read =>
      have read' : x.infl = w.infl := by
        split at read
        · rw [readMemAt_ok read]
        · cases read
          rfl
      split at admitted
      · cases admitted
        exact read'
      · have probed := probe_frame true (admOf x q i) (l.2 + 1) x inst (getLE r.ent 32 8) l.2
        split at admitted
        next p _ through =>
          cases admitted
          rw [through] at probed
          exact (show u.infl = x.infl by rw [show u = _ from probed]).trans read'
        next other refused => exact absurd admitted (refused _ _)
    next other refused => exact absurd admitted (refused _ _)

/-- A collective that its group can run now takes the group's COLL_SEQ, and goes on from there. -/
theorem collDispatch_joins {op : Nat} {r : Infl} {src : Bytes} (ready : CollReady s q i op r n g u src) :
    ∃ t, collDispatch q i op s = .next t ∧ CollJoined t q i r n g := by
  obtain ⟨x, may, isOp, rfl, found, good, free, books, path, admitted, fits⟩ := ready
  obtain ⟨-, record, -⟩ := mayDispatch_some may
  obtain ⟨y, record⟩ := collAdmit_record record admitted
  have share : ¬ (!onRunnel s g r.ent ∧ (match Tab.find s.insts x.inst with | some y => y.fwSlots | none => 0) = 0) := by
    rintro ⟨furrow, none_⟩
    rcases path with runnel | ⟨z, owner, slots⟩
    · simp [runnel] at furrow
    · rw [owner] at none_
      exact slots none_
  refine ⟨collStart (collBegin u q i (getLE r.ent 20 4) g r.ent (onRunnel s g r.ent) src) (getLE r.ent 20 4), ?_,
    (joined_collBegin record ..).collStart.collJoined⟩
  unfold collDispatch
  simp only [may, isOp, found, good, free, books, admitted, ne_eq, not_true_eq_false, if_false, Option.isSome_none, Bool.false_eq_true]
  exact (if_neg share).trans (if_neg fits)

theorem collDispatch_error {op : Nat} {x : Wq} {r : Infl} (may : mayDispatch s q i 0x20 = some (x, r)) (isOp : getLE r.ent 12 1 = op)
    (found : Tab.find s.groups (getLE r.ent 20 4) = some g) (error : g.error.isSome = true) :
    collDispatch q i op s = .next (finishSt s q i Status.flushed) := by
  unfold collDispatch
  simp only [may, isOp, found, error, ne_eq, not_true_eq_false, if_false, if_true]

theorem collDispatch_busy {op : Nat} {x : Wq} {r : Infl} (may : mayDispatch s q i 0x20 = some (x, r)) (isOp : getLE r.ent 12 1 = op)
    (found : Tab.find s.groups (getLE r.ent 20 4) = some g) (good : g.error = none) (busy : g.coll.isSome = true) :
    collDispatch q i op s = .next s := by
  unfold collDispatch
  simp only [may, isOp, found, good, busy, ne_eq, not_true_eq_false, if_false, if_true, Option.isSome_none, Bool.false_eq_true]

/-- A collective that waits for a Furrow slot takes the free one. -/
theorem exec_groupStart_coll {c : Coll} {k : Nat} (coll : g.coll = some c) (noLaunch : launchOf s c.q c.i = none)
    (its : s.groups.find? (fun p => match p.2.coll with | some y => y.q = c.q && y.i = c.i && !y.runnel | none => false) = some (n, g))
    (waits : s.fw.colls.any (fun p => p.2 = n) = false) (may : mayTakeSlot s g.inst = true) (first : firstWaiting s g.inst c.order = true)
    (free : pickSlot s = some k) (runs : Runs s (.furrow (k / 16))) :
    exec (.groupStart c.q c.i) s = .next { wakeBlk s (.furrow (k / 16)) with
      fw := { (wakeBlk s (.furrow (k / 16))).fw with colls := Tab.put (wakeBlk s (.furrow (k / 16))).fw.colls k n } } := by
  rw [exec_groupStart, execGroupStart]
  generalize looked : List.find? _ s.groups = holder
  obtain rfl : holder = some (n, g) := looked.symm.trans its
  simp only [noLaunch, coll, waits, may, first, free, Bool.not_true, Bool.false_eq_true, or_self, if_false]
  exact onBlk_runs runs _
end

end Sys2Proof.Machine

namespace Sys2Proof
open Sys2Proof.Machine

/-- Settles O36: a collective takes its group's COLL_SEQ as it begins (`joined_collBegin`), and whatever its start leads to keeps that
(`Joined.collStart`), on either path. -/
theorem collectivesJoinTheirGroups : Obligations.CollectivesJoinTheirGroups := by
  unfold Obligations.CollectivesJoinTheirGroups
  refine ⟨?_, ?_, ?_, ?_, ?_, ?_, ?_, ?_, ?error, ?busy, ?slot⟩
  case error =>
    intro s q i x r n g may isOp rfl found error
    obtain ⟨-, record, unfinished, -⟩ := mayDispatch_some may
    exact .of _ (collDispatch_error may isOp found error) ⟨finishSt_done _ record unfinished, finishSt_frame ..⟩
  case busy =>
    intro s q i x r n g may isOp rfl found good busy
    exact .of s (collDispatch_busy may isOp found good busy) rfl
  case slot =>
    intro s n g k c found coll noLaunch its waits may first free runs
    refine .of _ (exec_groupStart_coll coll noLaunch its waits may first free runs) ⟨Tab.find_put_self .., fun j other => ?_, rfl⟩
    refine (Tab.find_put_ne _ _ _ _ other).trans ?_
    rw [wakeBlk_clk]
  all_goals
    intro s q i r n g u src ready
    exact collDispatch_joins ready

end Sys2Proof
end

section
/-!
PROOFS. What each event leaves as it was (spec/95_what_each_step_holds.md, O59): the parts of the state a function can change, function
by function, then command by command.
-/
namespace Sys2Proof.Machine
-- An omitted argument found by `decide` is read from the checked environment: in turn, these short proofs do not each hold a thread.
set_option Elab.async false

/-! ### The parts of the state -/

/-- The parts of the state, one for each of its fields. -/
inductive Part where
  | sys | boot | asleep | flash | feat | vp | mbx | lv | clk | ports | links | basin | mgr | policy | wr | log | intr | st
  | regs | pages | own | insts | wqs | cqs | infl | accSeq | spans | keys | pieces | pieceClock | ats | bx | nextBx | allocs
  | qps | shadows | mirBlk | rxHeld | linkStats | decryptFails | decryptHi | rdHi | sy | syPend | groups | rn | fw | cbs
  | pt | cv | spdm | hbm | plot | pmem | stacksLost | out | rd | pending
  deriving DecidableEq

/-- The state s with the parts ps of the state t. -/
def mixed (ps : List Part) (s t : State) : State where
  sys := if .sys ∈ ps then t.sys else s.sys
  boot := if .boot ∈ ps then t.boot else s.boot
  asleep := if .asleep ∈ ps then t.asleep else s.asleep
  flash := if .flash ∈ ps then t.flash else s.flash
  feat := if .feat ∈ ps then t.feat else s.feat
  vp := if .vp ∈ ps then t.vp else s.vp
  mbx := if .mbx ∈ ps then t.mbx else s.mbx
  lv := if .lv ∈ ps then t.lv else s.lv
  clk := if .clk ∈ ps then t.clk else s.clk
  ports := if .ports ∈ ps then t.ports else s.ports
  links := if .links ∈ ps then t.links else s.links
  basin := if .basin ∈ ps then t.basin else s.basin
  mgr := if .mgr ∈ ps then t.mgr else s.mgr
  policy := if .policy ∈ ps then t.policy else s.policy
  wr := if .wr ∈ ps then t.wr else s.wr
  log := if .log ∈ ps then t.log else s.log
  intr := if .intr ∈ ps then t.intr else s.intr
  st := if .st ∈ ps then t.st else s.st
  regs := if .regs ∈ ps then t.regs else s.regs
  pages := if .pages ∈ ps then t.pages else s.pages
  own := if .own ∈ ps then t.own else s.own
  insts := if .insts ∈ ps then t.insts else s.insts
  wqs := if .wqs ∈ ps then t.wqs else s.wqs
  cqs := if .cqs ∈ ps then t.cqs else s.cqs
  infl := if .infl ∈ ps then t.infl else s.infl
  accSeq := if .accSeq ∈ ps then t.accSeq else s.accSeq
  spans := if .spans ∈ ps then t.spans else s.spans
  keys := if .keys ∈ ps then t.keys else s.keys
  pieces := if .pieces ∈ ps then t.pieces else s.pieces
  pieceClock := if .pieceClock ∈ ps then t.pieceClock else s.pieceClock
  ats := if .ats ∈ ps then t.ats else s.ats
  bx := if .bx ∈ ps then t.bx else s.bx
  nextBx := if .nextBx ∈ ps then t.nextBx else s.nextBx
  allocs := if .allocs ∈ ps then t.allocs else s.allocs
  qps := if .qps ∈ ps then t.qps else s.qps
  shadows := if .shadows ∈ ps then t.shadows else s.shadows
  mirBlk := if .mirBlk ∈ ps then t.mirBlk else s.mirBlk
  rxHeld := if .rxHeld ∈ ps then t.rxHeld else s.rxHeld
  linkStats := if .linkStats ∈ ps then t.linkStats else s.linkStats
  decryptFails := if .decryptFails ∈ ps then t.decryptFails else s.decryptFails
  decryptHi := if .decryptHi ∈ ps then t.decryptHi else s.decryptHi
  rdHi := if .rdHi ∈ ps then t.rdHi else s.rdHi
  sy := if .sy ∈ ps then t.sy else s.sy
  syPend := if .syPend ∈ ps then t.syPend else s.syPend
  groups := if .groups ∈ ps then t.groups else s.groups
  rn := if .rn ∈ ps then t.rn else s.rn
  fw := if .fw ∈ ps then t.fw else s.fw
  cbs := if .cbs ∈ ps then t.cbs else s.cbs
  pt := if .pt ∈ ps then t.pt else s.pt
  cv := if .cv ∈ ps then t.cv else s.cv
  spdm := if .spdm ∈ ps then t.spdm else s.spdm
  hbm := if .hbm ∈ ps then t.hbm else s.hbm
  plot := if .plot ∈ ps then t.plot else s.plot
  pmem := if .pmem ∈ ps then t.pmem else s.pmem
  stacksLost := if .stacksLost ∈ ps then t.stacksLost else s.stacksLost
  out := if .out ∈ ps then t.out else s.out
  rd := if .rd ∈ ps then t.rd else s.rd
  pending := if .pending ∈ ps then t.pending else s.pending

/-- A state's part, compared with another state's. -/
def Part.Same (s t : State) : Part → Prop
  | .sys => t.sys = s.sys
  | .boot => t.boot = s.boot
  | .asleep => t.asleep = s.asleep
  | .flash => t.flash = s.flash
  | .feat => t.feat = s.feat
  | .vp => t.vp = s.vp
  | .mbx => t.mbx = s.mbx
  | .lv => t.lv = s.lv
  | .clk => t.clk = s.clk
  | .ports => t.ports = s.ports
  | .links => t.links = s.links
  | .basin => t.basin = s.basin
  | .mgr => t.mgr = s.mgr
  | .policy => t.policy = s.policy
  | .wr => t.wr = s.wr
  | .log => t.log = s.log
  | .intr => t.intr = s.intr
  | .st => t.st = s.st
  | .regs => t.regs = s.regs
  | .pages => t.pages = s.pages
  | .own => t.own = s.own
  | .insts => t.insts = s.insts
  | .wqs => t.wqs = s.wqs
  | .cqs => t.cqs = s.cqs
  | .infl => t.infl = s.infl
  | .accSeq => t.accSeq = s.accSeq
  | .spans => t.spans = s.spans
  | .keys => t.keys = s.keys
  | .pieces => t.pieces = s.pieces
  | .pieceClock => t.pieceClock = s.pieceClock
  | .ats => t.ats = s.ats
  | .bx => t.bx = s.bx
  | .nextBx => t.nextBx = s.nextBx
  | .allocs => t.allocs = s.allocs
  | .qps => t.qps = s.qps
  | .shadows => t.shadows = s.shadows
  | .mirBlk => t.mirBlk = s.mirBlk
  | .rxHeld => t.rxHeld = s.rxHeld
  | .linkStats => t.linkStats = s.linkStats
  | .decryptFails => t.decryptFails = s.decryptFails
  | .decryptHi => t.decryptHi = s.decryptHi
  | .rdHi => t.rdHi = s.rdHi
  | .sy => t.sy = s.sy
  | .syPend => t.syPend = s.syPend
  | .groups => t.groups = s.groups
  | .rn => t.rn = s.rn
  | .fw => t.fw = s.fw
  | .cbs => t.cbs = s.cbs
  | .pt => t.pt = s.pt
  | .cv => t.cv = s.cv
  | .spdm => t.spdm = s.spdm
  | .hbm => t.hbm = s.hbm
  | .plot => t.plot = s.plot
  | .pmem => t.pmem = s.pmem
  | .stacksLost => t.stacksLost = s.stacksLost
  | .out => t.out = s.out
  | .rd => t.rd = s.rd
  | .pending => t.pending = s.pending

/-- t differs from s in the parts ps at most. -/
structure Touches (ps : List Part) (s t : State) : Prop where
  same : ∀ p, p ∉ ps → p.Same s t

namespace Touches
variable {ps qs rs : List Part} {s t u : State}

theorem of_eq (h : t = mixed ps s t) : Touches ps s t := by
  refine ⟨fun p out => ?_⟩
  cases p
  all_goals exact (congrArg _ h).trans (if_neg out)

/-- A part that is the same unless it is named. -/
theorem keep {α : Type} {p : Part} {a b : α} (h : p ∉ ps → a = b) : a = if p ∈ ps then a else b := by
  split
  · rfl
  · exact h ‹_›

theorem eq (h : Touches ps s t) : t = mixed ps s t :=
  (State.mk.injEq ..).mpr ⟨
    keep (h.same .sys), keep (h.same .boot), keep (h.same .asleep), keep (h.same .flash),
    keep (h.same .feat), keep (h.same .vp), keep (h.same .mbx), keep (h.same .lv), keep (h.same .clk),
    keep (h.same .ports), keep (h.same .links), keep (h.same .basin), keep (h.same .mgr),
    keep (h.same .policy), keep (h.same .wr), keep (h.same .log), keep (h.same .intr), keep (h.same .st),
    keep (h.same .regs), keep (h.same .pages), keep (h.same .own), keep (h.same .insts), keep (h.same .wqs),
    keep (h.same .cqs), keep (h.same .infl), keep (h.same .accSeq), keep (h.same .spans),
    keep (h.same .keys), keep (h.same .pieces), keep (h.same .pieceClock), keep (h.same .ats),
    keep (h.same .bx), keep (h.same .nextBx), keep (h.same .allocs), keep (h.same .qps),
    keep (h.same .shadows), keep (h.same .mirBlk), keep (h.same .rxHeld), keep (h.same .linkStats),
    keep (h.same .decryptFails), keep (h.same .decryptHi), keep (h.same .rdHi), keep (h.same .sy),
    keep (h.same .syPend), keep (h.same .groups), keep (h.same .rn), keep (h.same .fw), keep (h.same .cbs),
    keep (h.same .pt), keep (h.same .cv), keep (h.same .spdm), keep (h.same .hbm), keep (h.same .plot),
    keep (h.same .pmem), keep (h.same .stacksLost), keep (h.same .out), keep (h.same .rd),
    keep (h.same .pending)⟩

theorem refl (s : State) : Touches ps s s := of_eq (by simp [mixed])

theorem mono (h : Touches ps s t) (sub : ps ⊆ qs := by decide) : Touches qs s t :=
  ⟨fun p out => h.same p fun i => out (sub i)⟩

theorem trans (h : Touches ps s t) (k : Touches ps t u) : Touches ps s u := by
  refine ⟨fun p out => ?_⟩
  have first := h.same p out
  have second := k.same p out
  cases p
  all_goals exact Eq.trans second first

theorem andThen (h : Touches ps s t) (k : Touches qs t u) (left : ps ⊆ rs := by decide) (right : qs ⊆ rs := by decide) :
    Touches rs s u := (h.mono left).trans (k.mono right)

theorem ite {c : Prop} [Decidable c] (h : Touches ps s t) (k : Touches ps s u) : Touches ps s (if c then t else u) := by
  split
  · exact h
  · exact k

theorem foldl {α : Type} {f : State → α → State} (step : ∀ s x, Touches ps s (f s x)) (l : List α) (s : State) :
    Touches ps s (l.foldl f s) := by
  induction l generalizing s with
  | nil => exact refl s
  | cons x r ih => exact (step s x).trans (ih _)

end Touches

/-- Every state r answers differs from s in the parts ps at most. -/
structure Concerns (ps : List Part) (s : State) (r : Result) : Prop where
  answer : ∀ t, r = .next t → Touches ps s t

namespace Concerns
variable {ps : List Part} {s t : State} {r : Result}

theorem stay : Concerns ps s (.next s) := by
  exact ⟨by rintro _ ⟨⟩; exact .refl s⟩

theorem next (h : Touches ps s t) : Concerns ps s (.next t) := by
  exact ⟨by rintro _ ⟨⟩; exact h⟩

theorem ite {c : Prop} [Decidable c] {q : Result} (h : Concerns ps s q) (k : Concerns ps s r) :
    Concerns ps s (if c then q else r) := by
  split
  · exact h
  · exact k

theorem after (h : Touches ps s t) (k : Concerns ps t r) : Concerns ps s r := ⟨fun u its => h.trans (k.answer u its)⟩

theorem frame (h : Concerns ps s r) (its : r = .next t) : t = mixed ps s t := (h.answer t its).eq

end Concerns

variable {s : State}

/-! ### Time, clocks, the log and the power regions -/

theorem emit_touches (s : State) (o : Out) : Touches [.out] s (emit s o) := .of_eq rfl

theorem advanceTo_touches (s : State) (n : Nat) : Touches [.sys, .wr, .insts, .out] s (advanceTo s n) := .of_eq (advanceTo_frame ..)

theorem logSev_touches (s : State) (id : Nat) (st : Byte) (source sev unit : Nat) (d : Bytes) :
    Touches [.log] s (logSev s id st source sev unit d) := .of_eq (logSev_frame ..)

theorem logEv_touches (s : State) (id : Nat) (st : Byte) (source unit : Nat) (d : Bytes) :
    Touches [.log] s (logEv s id st source unit d) := .of_eq (logEv_frame ..)

theorem wakeBlk_touches (s : State) (b : Blk) : Touches [.clk] s (wakeBlk s b) := by
  unfold wakeBlk
  split
  · exact .refl s
  split
  all_goals exact .of_eq rfl

/-- An engine's work touches what it touches, and the clocks: the engine wakes for it (R72). -/
theorem onBlk_concerns {ps : List Part} {b : Blk} {k : State → Result} (work : ∀ t, Concerns ps t (k t)) (clk : .clk ∈ ps := by decide) :
    Concerns ps s (onBlk b s k) := by
  have woken : Touches ps s (wakeBlk s b) := (wakeBlk_touches s b).mono (by simpa using clk)
  unfold onBlk
  split
  · exact .next woken
  · exact .after woken (work _)

theorem releaseWakes_touches (s : State) : Touches [.clk] s (releaseWakes s) := .of_eq (releaseWakes_frame s)

theorem putRegion_touches (s : State) (n : Nat) (r : Region) : Touches [.lv] s (putRegion s n r) := .of_eq rfl

theorem onRegions_touches (s : State) (ns : List Nat) (f : Region → Region) : Touches [.lv] s (onRegions s ns f) :=
  .foldl (fun _ _ => putRegion_touches ..) ns s

theorem seenCurrent_touches (s : State) (u : PowerUnit) (i : Nat) : Touches [.lv] s (seenCurrent s u i) := by
  unfold seenCurrent
  split
  · split
    · exact putRegion_touches ..
    · exact .refl s
  · exact .refl s

theorem persistOne_touches (pkg : Bool) (s : State) (n : Nat) : Touches [.lv, .log] s (persistOne pkg s n) :=
  (putRegion_touches ..).andThen (logEv_touches ..)

theorem endV_touches (s : State) (st : Byte) : Touches [.lv] s (endV s st) := .of_eq (endV_frame ..)

/-! ### Boot -/

theorem dirAppend_touches (s : State) (r : DirRec) : Touches [.flash] s (dirAppend s r) := .of_eq rfl

theorem dropEmptyTry_touches (s : State) : Touches [.flash] s (dropEmptyTry s) := by
  unfold dropEmptyTry
  split
  · split
    · exact .refl s
    · exact dirAppend_touches ..
  · exact .refl s

theorem startCands_touches (s : State) (useTry : Bool) : Touches [.boot, .flash] s (startCands s useTry) := by
  unfold startCands
  split
  · exact (dropEmptyTry_touches s).mono.trans (.of_eq rfl)
  · exact .of_eq rfl

theorem abandon_touches (s : State) (x : SlotId) (st : Byte) : Touches [.boot] s (abandon s x st) := .of_eq (abandon_frame ..)

theorem setCand_touches (s : State) (x : SlotId) (c : Cand) : Touches [.boot] s (setCand s x c) := by
  unfold setCand
  split
  all_goals exact .of_eq rfl

theorem takeBundle_touches (s : State) (x : SlotId) (level : Nat) : Touches [.boot, .clk] s (takeBundle s x level) :=
  (setCand_touches ..).mono.trans (.of_eq rfl)

theorem judgeImage_touches (s : State) (x : SlotId) : Touches [.boot] s (judgeImage s x) := by
  unfold judgeImage
  dsimp only
  split
  · exact abandon_touches ..
  · exact .of_eq rfl

theorem bootFallback_touches (s : State) : Touches [.boot, .log] s (bootFallback s) := by
  unfold bootFallback
  split
  · exact .trans (.of_eq rfl) (logEv_touches ..).mono
  · exact .refl s

theorem trainStacks_touches (s : State) (failed : BitVec 8) : Touches [.boot, .clk, .log] s (trainStacks s failed) :=
  .trans (.of_eq rfl) (.foldl (fun _ _ => (logEv_touches ..).mono) _ _)

/-! ### Links and ports -/

theorem sendFrame_touches (s : State) (l : Nat) (f : LinkFrame) : Touches [.out] s (sendFrame s l f) := .of_eq rfl

theorem putLink_touches (s : State) (l : Nat) (x : LinkSt) : Touches [.links] s (putLink s l x) := .of_eq rfl

theorem wakeUp_touches (s : State) (l : Nat) : Touches [.links, .out] s (wakeUp s l) := .of_eq (wakeUp_frame ..)

theorem workArrives_touches (s : State) (l : Nat) : Touches [.links, .out] s (workArrives s l) := .of_eq (workArrives_frame ..)

theorem concludeOffer_touches (s : State) (l : Nat) : Touches [.links] s (concludeOffer s l) := by
  unfold concludeOffer
  dsimp only
  split
  · exact .of_eq rfl
  · exact .refl s

theorem calEnd_touches (s : State) (l : Nat) (st : Byte) : Touches [.links, .log] s (calEnd s l st) :=
  (putLink_touches ..).andThen (logSev_touches ..)

theorem retrain_touches (s : State) (l : Nat) : Touches [.links, .log] s (retrain s l) := .of_eq (retrain_frame ..)

theorem goDown_touches (s : State) (l : Nat) : Touches [.links, .log] s (goDown s l) := .of_eq (goDown_frame ..)

theorem portDown_touches (s : State) (p : Nat) : Touches [.links, .log] s (portDown s p) := .of_eq (portDown_frame ..)

theorem renegotiate_touches (s : State) : Touches [.links, .out] s (renegotiate s) := .of_eq (renegotiate_frame ..)

theorem moduleFault_touches (s : State) (p : Nat) : Touches [.ports, .links, .log] s (moduleFault s p) := by
  unfold moduleFault
  split
  · exact .refl s
  · exact (Touches.trans (.of_eq rfl) (portDown_touches ..).mono).trans (logEv_touches ..).mono

/-- A dormancy frame touches what its operation touches, or is counted on its link (R86). -/
theorem onFrame_concerns {ps : List Part} {l op : Nat} {b : Bytes} {k : LinkFrame → State} (work : ∀ f, Touches ps s (k f))
    (links : .links ∈ ps := by decide) : Concerns ps s (onFrame s l op b k) := by
  have counted : Touches ps s (putLink s l { link s l with dropped := (link s l).dropped + 1 }) :=
    (putLink_touches ..).mono (by simpa using links)
  unfold onFrame
  split
  · exact .stay
  split
  · exact .next counted
  split
  · exact .next counted
  next f read =>
    split
    · exact .next (work f)
    · exact .stay

/-! ### Roles and the manager -/

theorem setRole_touches (s : State) (r : Role) : Touches [.basin, .log] s (setRole s r) := .of_eq (setRole_frame ..)

theorem noteEpoch_touches (s : State) (e : Nat) : Touches [.basin, .out] s (noteEpoch s e) := .of_eq (noteEpoch_frame ..)

theorem sendBasin_touches (s : State) (dst : Nat) (r : CtlRec) : Touches [.out] s (sendBasin s dst r) := .of_eq rfl

theorem voidGuarantee_touches (s : State) (why : Nat) : Touches [.basin, .log] s (voidGuarantee s why) :=
  .trans (.of_eq rfl) (logEv_touches ..).mono

theorem openOwnWin_touches (s : State) : Touches [.basin, .log] s (openOwnWin s) := by
  unfold openOwnWin
  split
  · exact .of_eq rfl
  · exact (voidGuarantee_touches s 0).trans (.of_eq rfl)

theorem openBasinWin_touches (s : State) : Touches [.basin, .log] s (openBasinWin s) := by
  unfold openBasinWin
  split
  · exact .of_eq rfl
  · exact (voidGuarantee_touches s 1).trans (.of_eq rfl)

theorem becomeUnjoined_touches (s : State) : Touches [.basin, .mgr, .log] s (becomeUnjoined s) :=
  (setRole_touches s .unjoined).mono.trans (.of_eq rfl)

/-- A claim opens: the device takes itself for the manager and calls CLAIM to the Basin (R31, R33). -/
def claimCalled (s : State) (planned : Bool) : State :=
  let s := { s with basin.mgrMissing := true, mgr.claimPlanned := planned, mgr.claimSince := s.sys.now, mgr.grants := [],
                    mgr.majoritySince := if s.mgr.dir.workers = [] then some s.sys.now else none }
  sendBasin s 0 { ownCtl s 0x03 0 with flags := bit planned }

theorem claimCalled_touches (s : State) (planned : Bool) : Touches [.basin, .mgr, .out] s (claimCalled s planned) := .of_eq rfl

theorem startClaim_eq (s : State) (planned : Bool) : startClaim s planned = claimCalled (renegotiate (setRole s .claiming)) planned := rfl

theorem startClaim_touches (s : State) (planned : Bool) : Touches [.links, .basin, .mgr, .log, .out] s (startClaim s planned) := by
  rw [startClaim_eq]
  exact (((setRole_touches s .claiming).mono).trans (renegotiate_touches _).mono).trans (claimCalled_touches ..).mono

theorem withdraw_touches (s : State) : Touches [.basin, .mgr, .log, .out] s (withdraw s) :=
  .trans (.of_eq rfl) (setRole_touches ..).mono

theorem grantTo_touches (s : State) (r : CtlRec) : Touches [.basin, .out] s (grantTo s r) := .of_eq rfl

theorem hearHb_touches (s : State) (r : CtlRec) : Touches [.basin] s (hearHb s r) := .of_eq rfl

theorem adoptHb_touches (s : State) (subject : Nat) : Touches [.links, .basin, .out] s (adoptHb s subject) :=
  .trans (.of_eq rfl) (renegotiate_touches _).mono

theorem answerHb_touches (s : State) (serial : Nat) : Touches [.basin, .out] s (answerHb s serial) := by
  unfold answerHb
  split
  · exact .refl s
  dsimp only
  split
  · split
    all_goals exact .of_eq rfl
  · exact .of_eq rfl

theorem onWorker_touches (s : State) (serial : Nat) (f : Worker → Worker) : Touches [.mgr] s (onWorker s serial f) := .of_eq rfl

/-- A control message touches what its type touches, or is counted among the discards (R22). -/
theorem onCtl_concerns {ps : List Part} {type : Nat} {m : Bytes} {k : CtlRec → State} (work : ∀ r, Touches ps s (k r))
    (mgr : .mgr ∈ ps := by decide) : Concerns ps s (onCtl s type m k) := by
  unfold onCtl
  split
  · exact .stay
  split
  · exact .next (Touches.mono (ps := [.mgr]) (.of_eq rfl) (by simpa using mgr))
  next r read =>
    split
    · exact .next (work r)
    · exact .stay

/-! ### Transmission -/

/-- What a packet's transmission can change: time it waits for, its queue pair and link, the counts, and the outputs. -/
abbrev txParts : List Part := [.sys, .links, .wr, .insts, .qps, .linkStats, .out]

theorem Sends.touches {t : State} (h : Sends s t) : Touches txParts s t := by
  rw [h.frame]
  exact .of_eq rfl

theorem putQp_touches (s : State) (n : Nat) (p : Qp) : Touches [.qps] s (putQp s n p) := .of_eq rfl

theorem queueReq_touches (s : State) (n op len raddr rkey imm : Nat) (so : Bool) (a b : Nat) (m : Bytes) (buf : Buf) (who : Waiter) :
    Touches [.links, .qps, .out] s (queueReq s n op len raddr rkey imm so a b m buf who) := by
  obtain ⟨qps, links, out, queued⟩ := queueReq_frame s n op len raddr rkey imm so a b m buf who
  rw [queued]
  exact .of_eq rfl

end Sys2Proof.Machine
end

section
/-!
PROOFS. What each event leaves as it was (spec/95_what_each_step_holds.md, O59): acknowledgements, the waiters of requests, a new plot
map, the directory's commit, the partner link, the Furrow and Runnel.
-/
namespace Sys2Proof.Machine
-- An omitted argument found by `decide` is read from the checked environment: in turn, these short proofs do not each hold a thread.
set_option Elab.async false

/-! ### Acknowledgements and resume (R236, R238, R242) -/

theorem ackVia_touches (s : State) (n : Nat) (c : Ctl) : Touches [.links, .qps, .out] s (ackVia s n c) := by
  unfold ackVia
  split
  · exact .refl s
  split
  · exact (putQp_touches ..).mono
  · exact (putQp_touches ..).mono.trans (queueReq_touches ..)

theorem sendAck_touches (s : State) (n kind : Nat) (st : Byte) : Touches txParts s (sendAck s n kind st) := by
  unfold sendAck
  split
  · exact .refl s
  dsimp only
  split
  · exact (putQp_touches ..).andThen (ackVia_touches ..)
  · exact (putQp_touches ..).mono.trans (sendCtl_sends ..).touches

theorem startResync_touches (s : State) (n : Nat) : Touches txParts s (startResync s n) := by
  unfold startResync
  split
  · exact .refl s
  · exact (putQp_touches ..).mono.trans (sendCtl_sends ..).touches

theorem moveLink_touches (s : State) (n : Nat) : Touches txParts s (moveLink s n) := by
  unfold moveLink
  split
  · exact .refl s
  · exact (putQp_touches ..).mono.trans (startResync_touches ..)

/-! ### The waiters of requests (R20, R197, R239) -/

theorem finish_touches (s : State) (q i : Nat) (d : Done) : Touches [.infl] s (finish s q i d) := .of_eq (finish_frame ..)

theorem copyDone_touches (s : State) (n : Nat) (st : Byte) : Touches [.basin, .out] s (copyDone s n st) := by
  unfold copyDone
  split
  · exact .refl s
  split
  · exact .of_eq rfl
  split
  all_goals exact .of_eq rfl

theorem mirrorAnswer_touches (s : State) (n e kind : Nat) (status st : Byte) : Touches txParts s (mirrorAnswer s n e kind status st) := by
  unfold mirrorAnswer
  split
  · exact .refl s
  dsimp only
  split
  · exact (putQp_touches ..).mono
  · exact (putQp_touches ..).mono.trans (sendCtl_sends ..).touches

/-- What telling a waiter can change: the answer of a mirrored store is sent, and a copy of a plot goes on. -/
abbrev tellParts : List Part := [.sys, .links, .basin, .wr, .insts, .infl, .bx, .qps, .linkStats, .cv, .out]

theorem tellWaiter_touches (s : State) (who : Waiter) (st : Byte) (remote : Bool) (bytes : Nat) (data : Bytes) :
    Touches tellParts s (tellWaiter s who st remote bytes data) := by
  unfold tellWaiter
  cases who with
  | entry q i => exact (finish_touches ..).mono
  | basinX id => exact .of_eq rfl
  | mirrorAck n e kind status => exact (mirrorAnswer_touches ..).mono
  | culvert k sl => exact .of_eq rfl
  | hdm => exact (emit_touches ..).mono
  | copy n => exact (copyDone_touches ..).mono
  | nobody => exact .refl s

theorem endStream_touches (s : State) (n : Nat) (p : Qp) : Touches tellParts s (endStream s n p) :=
  (putQp_touches ..).mono.trans (.foldl (fun _ _ => tellWaiter_touches ..) _ _)

/-! ### A new plot map and the directory's commit (R17, R18, R29, R231, R247) -/

/-- What a committed directory can change. -/
abbrev commitParts : List Part :=
  [.sys, .links, .basin, .mgr, .wr, .own, .insts, .infl, .bx, .qps, .mirBlk, .linkStats, .cv, .out]

theorem retarget_touches (s : State) (old new : Nat) : Touches commitParts s (retarget s old new) := by
  have moved (s : State) (l : Tab Qp) : Touches commitParts s (l.foldl (fun s x =>
      match qpOf s x.1 with
      | none => s
      | some p =>
        if p.kind ≠ .basin ∨ p.member ≠ old ∨ p.st = .free ∨ p.st = .init ∨ p.st = .error then s
        else if new = 0 then endStream s x.1 p
        else startResync (putQp s x.1 { p with member := new, peer := memberAddr s new p.peer }) x.1) s) := by
    refine .foldl (fun s x => ?_) l s
    split
    · exact .refl s
    split
    · exact .refl s
    split
    · exact (endStream_touches ..).mono
    · exact (putQp_touches ..).andThen (startResync_touches ..)
  unfold retarget
  dsimp only
  split
  · split
    · exact .of_eq rfl
    · exact .trans (.of_eq rfl) (moved ..)
  · split
    · exact .refl s
    · exact moved ..

theorem autoQp_touches (kind : QpKind) (enc : Bool) (s : State) (slot : Nat) :
    Touches [.sys, .own, .qps, .out] s (autoQp kind enc s slot) := by
  unfold autoQp
  split
  · exact .refl s
  split
  · exact .refl s
  dsimp only
  split
  all_goals exact .of_eq rfl

theorem autoQps_touches (s : State) (m : PlotMap) (mirror : Nat) : Touches [.sys, .own, .qps, .out] s (autoQps s m mirror) := by
  have members : Touches [.sys, .own, .qps, .out] s ((memberSlots s m).foldl (autoQp .basin m.enc) s) :=
    .foldl (fun _ _ => autoQp_touches ..) _ s
  unfold autoQps
  split
  · exact .refl s
  dsimp only
  split
  · exact members
  · exact members.trans (autoQp_touches ..)

theorem releaseAcks_touches (s : State) : Touches txParts s (releaseAcks s) := by
  unfold releaseAcks
  split
  · exact .refl s
  refine .foldl (fun s x => ?_) _ s
  split
  · split
    · exact (putQp_touches ..).mono.trans (sendAck_touches ..)
    · exact .refl s
  · exact .refl s

theorem adoptMap_touches (s : State) (m : PlotMap) : Touches commitParts s (adoptMap s m) := by
  unfold adoptMap
  dsimp only
  refine .trans ?_ (.foldl (fun _ _ => retarget_touches ..) _ _)
  refine .trans ?_ (releaseAcks_touches _).mono
  exact .trans (.of_eq rfl) (autoQps_touches ..).mono

theorem stampCommit_touches (s : State) (a : AfterCommit) : Touches [.mgr] s (stampCommit s a) := by
  unfold stampCommit
  split
  · exact onWorker_touches ..
  · exact onWorker_touches ..
  · exact .refl s

theorem applyDir_touches (s : State) (p : PendDir) : Touches commitParts s (applyDir s p) := by
  unfold applyDir
  dsimp only
  have adopted (s : State) (a : AfterCommit) (m : PlotMap) : Touches commitParts s (adoptMap (stampCommit s a) m) :=
    (stampCommit_touches ..).mono.trans (adoptMap_touches ..)
  have noted : Touches commitParts s { s with mgr.dir := p.dir, basin.epoch := s.basin.epoch + p.bump } := .of_eq rfl
  split
  · exact noted.trans (adopted ..)
  all_goals exact (noted.trans (adopted ..)).trans (emit_touches ..).mono

theorem commitN_touches (n seq : Nat) (s : State) : Touches commitParts s (commitN n seq s) := by
  induction n generalizing s with
  | zero => exact .refl s
  | succ n ih =>
    unfold commitN
    split
    · exact .refl s
    split
    · exact (Touches.trans (.of_eq rfl) (applyDir_touches ..)).trans (ih _)
    · exact .refl s

theorem dropStandby_touches (s : State) : Touches commitParts s (dropStandby s) := by
  unfold dropStandby
  split
  · split
    · exact .trans (.of_eq rfl) (commitN_touches ..)
    · exact .refl s
  · exact .refl s

theorem sendLosts_touches (s : State) : Touches [.mgr, .out] s (sendLosts s) :=
  .trans (.of_eq rfl) (.foldl (fun _ _ => (sendBasin_touches ..).mono) _ _)

/-! ### The partner link (R139, R143, R154) -/

theorem prstTrigger_touches (s : State) (cause : Nat) : Touches [.basin, .log, .pt] s (prstTrigger s cause) := by
  unfold prstTrigger
  split
  · exact (Touches.trans (.of_eq rfl) (logEv_touches ..).mono).trans (openOwnWin_touches _).mono
  · exact .of_eq rfl
  · exact .refl s

theorem linkTrigger_touches (s : State) (cause : Nat) : Touches [.basin, .log, .pt] s (linkTrigger s cause) :=
  .trans (.of_eq rfl) (prstTrigger_touches ..)

theorem linkUp_touches (s : State) (tr : LinkTrain) : Touches [.log, .pt] s (linkUp s tr) := by
  rw [linkUp_frame]
  exact .of_eq rfl

theorem hdmServe_touches (s : State) (a : HdmAcc) (stored : Bool) :
    Touches [.links, .qps, .pt, .plot, .out] s (hdmServe s a stored) := by
  have forwarded (u : State) (reached : Touches [.links, .qps, .pt, .plot, .out] s u) (o : Nat) (d : Bytes) (who : Waiter)
      (kept : State) (waits : Touches [.links, .qps, .pt, .plot, .out] s kept) :
      Touches [.links, .qps, .pt, .plot, .out] s ((hdmForward u o d who).getD kept) := by
    unfold hdmForward
    cases mirrorQp u with
    | none => exact waits
    | some m => exact reached.trans (queueReq_touches ..).mono
  unfold hdmServe
  dsimp only
  split
  · split
    all_goals exact .of_eq rfl
  · split
    · split
      · exact forwarded s (.refl s) _ _ _ _ (.of_eq rfl)
      · exact .refl s
    split
    · exact .of_eq rfl
    split
    · exact .of_eq rfl
    split
    · exact .of_eq rfl
    · exact forwarded _ (.of_eq rfl) _ _ _ _ (.of_eq rfl)

/-! ### The Furrow and Runnel -/

theorem coreLogged_touches (s : State) (core : Nat) : Touches [.basin, .log, .fw] s (coreLogged s core) := by
  rw [coreLogged_frame]
  exact .of_eq rfl

theorem startGroup_touches (s : State) (q i k : Nat) (l : Launch) : Touches [.fw] s (startGroup s q i k l) :=
  .of_eq (startGroup_frame ..)

/-- What a Runnel message can change as it is sent. -/
abbrev rnParts : List Part := [.sys, .links, .wr, .insts, .rn, .out]

theorem RnSends.touches {s t : State} (h : RnSends s t) : Touches rnParts s t := by
  have frame := h.frame
  unfold RnFrame at frame
  rw [frame]
  exact .of_eq rfl

theorem rnSendAck_touches (s : State) (slot : Nat) : Touches rnParts s (rnSendAck s slot) := by
  unfold rnSendAck
  split
  · exact .refl s
  · exact .trans (.of_eq rfl) (rnEmit_sends ..).touches

theorem rnRestart_touches (s : State) (slot : Nat) : Touches rnParts s (rnRestart s slot) := by
  unfold rnRestart
  split
  · exact .refl s
  · exact (Touches.trans (.of_eq rfl) (rnResend_sends ..).touches).trans (.of_eq rfl)

theorem rnWork_touches (s : State) (slot : Nat) : Touches [.clk, .links, .out] s (rnWork s slot) := by
  unfold rnWork
  dsimp only
  split
  · exact (wakeBlk_touches ..).andThen (workArrives_touches ..)
  · exact (wakeBlk_touches ..).mono

/-! ### Weir's maps and the log's interrupts -/

theorem placeMap_touches (s : State) (sender : Nat) (b : Bytes) : Touches [.wr] s (placeMap s sender b) := by
  unfold placeMap
  exact .ite (.of_eq rfl) (.of_eq rfl)

theorem eventInts_touches (s : State) (sev : Nat) : Touches [.intr, .out] s (eventInts s sev) := .of_eq (eventInts_frame ..)

end Sys2Proof.Machine
end

section
/-!
PROOFS. What each event leaves as it was (spec/95_what_each_step_holds.md, O59), command by command: boot, power, links, roles.
-/
namespace Sys2Proof.Machine
-- An omitted argument found by `decide` is read from the checked environment: in turn, these short proofs do not each hold a thread.
set_option Elab.async false
variable {s : State}

/-! ### Boot (R97 to R115) -/

theorem coldRstNRise_concerns (straps : Straps) : Concerns [.sys, .boot, .flash, .clk] s (execColdRstNRise straps s) := by
  unfold execColdRstNRise
  split
  · exact .stay
  · exact .next (.ite (.of_eq rfl) (.trans (.of_eq rfl) (startCands_touches ..).mono))

theorem bundleVerify_concerns : Concerns [.boot, .flash, .clk] s (execBundleVerify s) := by
  unfold execBundleVerify
  split
  · exact .stay
  split
  · exact .stay
  next x isTry rest cands =>
    extract_lets boot t record u b
    have taken : Touches [.boot, .flash, .clk] s u := .trans (.of_eq rfl) (.ite (dirAppend_touches ..).mono (.refl t))
    split
    · split
      · exact .next (taken.trans (takeBundle_touches ..).mono)
      · exact .next (taken.trans (abandon_touches ..).mono)
    · exact .next (taken.trans (abandon_touches ..).mono)

theorem firmwareRunning_concerns : Concerns [.boot, .lv, .out] s (execFirmwareRunning s) := by
  unfold execFirmwareRunning
  split
  · exact .stay
  · dsimp only
    split
    all_goals exact .next (.of_eq rfl)

theorem imageVerify_concerns : Concerns [.boot, .log] s (execImageVerify s) := by
  unfold execImageVerify
  split
  · exact .stay
  split
  · exact .stay
  · exact .next ((bootFallback_touches s).trans (judgeImage_touches ..).mono)

theorem hbmTrained_concerns (failed : BitVec 8) : Concerns [.boot, .clk, .log] s (execHbmTrained failed s) := by
  unfold execHbmTrained
  split
  · exact .stay
  split
  · exact .next ((trainStacks_touches ..).trans (judgeImage_touches ..).mono)
  · exact .next (trainStacks_touches ..)

theorem junctionOvertemp_concerns (tempC : Nat) : Concerns [.sys] s (execJunctionOvertemp tempC s) := by
  unfold execJunctionOvertemp
  split
  · exact .stay
  · exact .next (.of_eq rfl)

theorem warmRstNRise_concerns : Concerns [.sys] s (execWarmRstNRise s) := .next (.of_eq rfl)

/-! ### Device time (R74, R75, R265) -/

/-- What a clock's correction and a map's age concern. -/
abbrev clockParts : List Part := [.sys, .wr, .insts, .out]

theorem servoOffset_touches (s : State) (off : Int) : Touches clockParts s (servoOffset s off) := by
  unfold servoOffset
  split
  all_goals exact .of_eq rfl

theorem ppsInEdge_concerns : Concerns clockParts s (execPpsInEdge s) := by
  unfold execPpsInEdge
  split
  · exact .stay
  · exact .next (servoOffset_touches ..)

theorem ptpMessage_concerns (m : PtpMsg) : Concerns clockParts s (execPtpMessage m s) := by
  unfold execPtpMessage
  split
  · exact .stay
  split
  · exact .next (.of_eq rfl)
  · split
    · exact .stay
    · exact .next (.of_eq rfl)
  · split
    · exact .next (.trans (.of_eq rfl) (servoOffset_touches ..))
    · exact .stay

theorem mapSlotExpiry_concerns (slot : Nat) : Concerns clockParts s (execMapSlotExpiry slot s) := by
  unfold execMapSlotExpiry
  split
  · exact .stay
  split
  · exact .stay
  · exact .next ((advanceTo_touches ..).trans (.of_eq rfl))

/-! ### Power (R61 to R69) -/

theorem gridExcursion_concerns (region : Nat) (deltaMv : Int) : Concerns [.lv] s (execGridExcursion region deltaMv s) := by
  unfold execGridExcursion
  split
  · exact .stay
  · exact .next (putRegion_touches ..)

theorem disagree_concerns (region : Nat) (samples : List DropSample) : Concerns [.lv] s (execDisagree region samples s) := by
  unfold execDisagree
  dsimp only
  split
  · exact .stay
  · exact .next (putRegion_touches ..)

theorem vcmdSettle_concerns (r1 r2 : Nat) : Concerns [.lv] s (execVcmdSettle r1 r2 s) := by
  unfold execVcmdSettle
  split
  · exact .stay
  dsimp only
  split
  · exact .next (.trans (.of_eq rfl) (endV_touches ..))
  · exact .next (.of_eq rfl)

theorem avsbusSilent_concerns : Concerns [.lv] s (execAvsbusSilent s) := by
  unfold execAvsbusSilent
  split
  · exact .stay
  · exact .next (endV_touches ..)

theorem vcmdTimeout_concerns : Concerns [.sys, .lv, .wr, .insts, .out] s (execVcmdTimeout s) := by
  unfold execVcmdTimeout
  split
  · exact .stay
  · exact .next ((advanceTo_touches ..).andThen (endV_touches ..))

theorem ocThrottleEnter_concerns (unit : PowerUnit) (samples : List Nat) :
    Concerns [.lv, .wr] s (execOcThrottleEnter unit samples s) := by
  unfold execOcThrottleEnter
  split
  · exact .stay
  · exact .next (((seenCurrent_touches ..).andThen (onRegions_touches ..)).trans (.of_eq rfl))

theorem throttleExit_concerns (unit : PowerUnit) (highest ns : Nat) : Concerns [.lv, .clk] s (execThrottleExit unit highest ns s) := by
  unfold execThrottleExit
  split
  · exact .stay
  · exact .next ((onRegions_touches ..).andThen (releaseWakes_touches _))

theorem ocPersist_concerns (unit : PowerUnit) : Concerns [.sys, .lv, .wr, .log, .insts, .out] s (execOcPersist unit s) := by
  unfold execOcPersist
  dsimp only
  split
  · exact .stay
  · exact .next ((advanceTo_touches ..).mono.trans (.foldl (fun _ _ => (persistOne_touches ..).mono) _ _))

theorem senseOpen_concerns (region : Nat) (pairB : Bool) (readings : List Nat) :
    Concerns [.lv, .log] s (execSenseOpen region pairB readings s) := by
  unfold execSenseOpen
  exact .ite .stay (.next ((putRegion_touches ..).andThen (logEv_touches ..)))

theorem drop_concerns (region : Nat) (samples : List DropSample) : Concerns [.lv, .log] s (execDrop region samples s) := by
  unfold execDrop
  dsimp only
  split
  · exact .stay
  · exact .next ((putRegion_touches ..).andThen (logEv_touches ..))

theorem pmbusPoll_concerns (faults : List (Nat × BitVec 16)) : Concerns [.lv, .log] s (execPmbusPoll faults s) := by
  unfold execPmbusPoll
  split
  · exact .stay
  · exact .next (.foldl (fun _ _ => .trans (.of_eq rfl) (logEv_touches ..).mono) _ _)

/-! ### Clock gates (R71, R72) -/

theorem blockGate_concerns (g : GateReq) : Concerns [.clk] s (execBlockGate g s) := by
  unfold execBlockGate
  split
  · exact .stay
  · exact .next (.ite (.of_eq rfl) (.of_eq rfl))

theorem wakeEvent_concerns (b : Blk) : Concerns [.clk] s (execWakeEvent b s) := .next (wakeBlk_touches ..)

theorem furrowPllPowerDown_concerns : Concerns [.sys, .clk, .wr, .insts, .out] s (execFurrowPllPowerDown s) := by
  unfold execFurrowPllPowerDown
  split
  · exact .stay
  split
  · exact .stay
  · exact .next ((advanceTo_touches ..).mono.trans (.of_eq rfl))

/-! ### Modules, calibration and dormancy (R78 to R94) -/

theorem moduleInsertion_concerns (port : Nat) (info : ModuleInfo) :
    Concerns [.ports, .links, .log] s (execModuleInsertion port info s) := by
  unfold execModuleInsertion
  split
  · exact .stay
  split
  · exact .next (.of_eq rfl)
  dsimp only
  split
  · exact .next (.of_eq rfl)
  · exact .next ((Touches.trans (.of_eq rfl) (portDown_touches ..).mono).trans (logEv_touches ..).mono)

theorem cmisPoll_concerns (port : Nat) (ans : CmisAnswer) : Concerns [.ports, .links, .log] s (execCmisPoll port ans s) := by
  unfold execCmisPoll
  split
  · exact .stay
  cases ans with
  | ok => exact .next (.of_eq rfl)
  | fault => exact .next (moduleFault_touches ..)
  | silent =>
    dsimp only
    split
    · exact .next (.trans (.of_eq rfl) (moduleFault_touches ..))
    · exact .next (.of_eq rfl)

theorem calIdleWindow_concerns (link ns : Nat) : Concerns [.links] s (execCalIdleWindow link ns s) := by
  unfold execCalIdleWindow
  dsimp only
  split
  · exact .stay
  · exact .next (putLink_touches ..)

theorem enterAck_concerns (link : Nat) (body : Bytes) : Concerns [.links] s (execEnterAck link body s) :=
  onFrame_concerns fun _ => .ite (putLink_touches ..) (.refl s)

theorem enterNak_concerns (link : Nat) (body : Bytes) : Concerns [.links, .out] s (execEnterNak link body s) :=
  onFrame_concerns fun _ => .ite (wakeUp_touches ..) (.refl s)

theorem cancel_concerns (link : Nat) (body : Bytes) : Concerns [.links, .out] s (execCancel link body s) :=
  onFrame_concerns fun _ => .ite (wakeUp_touches ..) (.refl s)

theorem offer_concerns (link : Nat) (body : Bytes) : Concerns [.links, .out] s (execOffer link body s) := by
  refine onFrame_concerns fun f => ?_
  have told (x : LinkSt) : Touches [.links, .out] s (sendOffer (putLink s link x) link true 0) :=
    (putLink_touches ..).andThen (sendFrame_touches ..)
  dsimp only
  split
  · exact .refl s
  split
  · split
    · exact .refl s
    · exact (putLink_touches ..).mono.trans (concludeOffer_touches ..).mono
  · exact (told _).trans (concludeOffer_touches ..).mono

theorem enter_concerns (link : Nat) (body : Bytes) : Concerns [.links, .out] s (execEnter link body s) := by
  refine onFrame_concerns fun f => ?_
  dsimp only
  split
  · exact .refl s
  split
  · exact (sendFrame_touches ..).mono
  · exact (putLink_touches ..).andThen (sendFrame_touches ..)

theorem hello_concerns (link : Nat) (body : Bytes) : Concerns [.links, .out] s (execHello link body s) := by
  refine onFrame_concerns fun f => ?_
  dsimp only
  split
  · exact .refl s
  split
  · exact (putLink_touches ..).mono.trans (wakeUp_touches ..)
  · exact (putLink_touches ..).mono

theorem linkTrained_concerns (link : Nat) (merge : Bool) : Concerns [.links, .out] s (execLinkTrained link merge s) := by
  unfold execLinkTrained
  dsimp only
  split
  · exact .stay
  split
  · exact .next (.ite (putLink_touches ..).mono (.refl s))
  · exact .next ((putLink_touches ..).mono.trans (.of_eq (beginOffer_frame ..)))

theorem calComplete_concerns (link : Nat) : Concerns [.links, .log] s (execCalComplete link s) := by
  unfold execCalComplete
  split
  · exact .stay
  · exact .next (calEnd_touches ..)

theorem linkDown_concerns (link : Nat) : Concerns [.links, .log] s (execLinkDown link s) := by
  unfold execLinkDown
  split
  · exact .stay
  · exact .next (goDown_touches ..)

/-- What a link's timer with an event concerns. -/
abbrev linkTimerParts : List Part := [.sys, .links, .wr, .log, .insts, .out]

theorem calDeferTimeout_concerns (link : Nat) : Concerns linkTimerParts s (execCalDeferTimeout link s) := by
  unfold execCalDeferTimeout
  split
  · exact .stay
  · exact .next ((advanceTo_touches ..).andThen (calEnd_touches ..))

theorem enterAckTimeout_concerns (link : Nat) : Concerns linkTimerParts s (execEnterAckTimeout link s) := by
  unfold execEnterAckTimeout
  split
  · exact .stay
  split
  · exact .stay
  · exact .next ((advanceTo_touches ..).andThen (retrain_touches ..))

theorem wakeWindowClose_concerns (link : Nat) : Concerns linkTimerParts s (execWakeWindowClose link s) := by
  unfold execWakeWindowClose
  dsimp only
  split
  · exact .stay
  · exact .next ((advanceTo_touches ..).andThen (retrain_touches ..))

/-- What a link's timer without an event concerns. -/
abbrev linkWindowParts : List Part := [.sys, .links, .wr, .insts, .out]

theorem linkTimed_touches (at_ l : Nat) (x : LinkSt) : Touches linkWindowParts s (putLink (advanceTo s at_) l x) :=
  (advanceTo_touches ..).andThen (putLink_touches ..)

theorem offerReplyTimeout_concerns (link : Nat) : Concerns linkWindowParts s (execOfferReplyTimeout link s) := by
  unfold execOfferReplyTimeout
  dsimp only
  split
  · exact .stay
  split
  · exact .next (linkTimed_touches ..)
  · exact .next ((linkTimed_touches ..).trans (sendFrame_touches ..).mono)

theorem masterIdleEnter_concerns (link : Nat) : Concerns linkWindowParts s (execMasterIdleEnter link s) := by
  have drawn (at_ : Nat) : Touches linkWindowParts s (freeStep (advanceTo s at_)) := (advanceTo_touches ..).mono.trans (.of_eq rfl)
  unfold execMasterIdleEnter
  dsimp only
  split
  · exact .stay
  · exact .next (((drawn _).trans (putLink_touches ..).mono).trans (sendFrame_touches ..).mono)

theorem wakeWindowOpen_concerns (link : Nat) : Concerns linkWindowParts s (execWakeWindowOpen link s) := by
  unfold execWakeWindowOpen
  dsimp only
  split
  · exact .stay
  · exact .next ((linkTimed_touches ..).trans (sendFrame_touches ..).mono)

theorem dormancyHoldEnd_concerns (link : Nat) : Concerns linkWindowParts s (execDormancyHoldEnd link s) := by
  unfold execDormancyHoldEnd
  dsimp only
  split
  · exact .stay
  · exact .next (linkTimed_touches ..)

theorem retrainLoopback_concerns (link : Nat) (pass : Bool) :
    Concerns [.sys, .ports, .links, .basin, .wr, .log, .insts, .out] s (execRetrainLoopback link pass s) := by
  unfold execRetrainLoopback
  dsimp only
  split
  · exact .stay
  split
  · exact .stay
  split
  · exact .next (linkTimed_touches ..).mono
  · exact .next ((((linkTimed_touches ..).mono.trans (.of_eq rfl)).trans (portDown_touches ..).mono).trans
      ((logEv_touches ..).andThen (openOwnWin_touches _)))

theorem dormMissLimit_concerns (link : Nat) : Concerns [.links, .log, .regs] s (execDormMissLimit link s) := by
  unfold execDormMissLimit
  dsimp only
  split
  · split
    · exact .next (.trans (.of_eq rfl) (logEv_touches ..).mono)
    · exact .stay
  · exact .stay

end Sys2Proof.Machine
end

section
/-!
PROOFS. What each event leaves as it was (spec/95_what_each_step_holds.md, O59), command by command: the manager and its members, the
partner link, queues, queue pairs, Weir, security, Runnel and the Furrow.
-/
namespace Sys2Proof.Machine
-- An omitted argument found by `decide` is read from the checked environment: in turn, these short proofs do not each hold a thread.
set_option Elab.async false
variable {s : State}

/-! ### Heartbeats, claims and roles (R18 to R35) -/

/-- What a heartbeat period concerns: its replies, the members lost, a directory that commits without its standby. -/
abbrev heartbeatParts : List Part :=
  [.sys, .links, .basin, .mgr, .wr, .own, .insts, .infl, .bx, .qps, .mirBlk, .linkStats, .cv, .out]

/-- The device as a heartbeat period finds it: its standby dropped if it does not follow, its lease renewed by a majority. -/
def periodBegun (s : State) : State :=
  let s := dropStandby (if s.mgr.firstHb = none then s else advanceTo s (s.basin.lastHb + periodNs s))
  if s.mgr.firstHb ≠ none ∧ majorityReplied s.mgr.dir then { s with mgr.lease := s.sys.now } else s

/-- The workers' records as a heartbeat period ends. -/
def periodWorkers (s : State) : Tab Worker :=
  if s.mgr.firstHb = none then s.mgr.dir.workers else Tab.map (fun _ w => endPeriod s w) s.mgr.dir.workers

/-- A worker's record in a directory that waits for the standby, with the replies of the period. -/
def carryReplies (ws : Tab Worker) (k : Nat) (w : Worker) : Worker :=
  match Tab.find ws k with
  | some x => { w with missed := x.missed, replied := x.replied }
  | none => w

/-- The device once the period's replies are counted, the next heartbeat numbered. -/
def periodCounted (s : State) : State :=
  { s with mgr.dir.workers := periodWorkers s,
           mgr.pend := s.mgr.pend.map fun p => { p with dir.workers := Tab.map (carryReplies (periodWorkers s)) p.dir.workers },
           mgr.hbSeq := (s.mgr.hbSeq + 1) % 2 ^ 32, mgr.firstHb := some (s.mgr.firstHb.getD s.sys.now), basin.lastHb := s.sys.now }

/-- The device with its heartbeat sent, and without a standby its directory (R18, R29). -/
def periodSent (s : State) : State :=
  let s := sendBasin s 0 { ownCtl s 0x01 (hbSubject s) with flags := 2 * bit s.basin.stby }
  if s.basin.stby then s else emit s (.replicate s.mgr.repSeq s.mgr.dir)

theorem execHeartbeatPeriod_eq (s : State) : execHeartbeatPeriod s =
    if s.basin.role ≠ .active then .next s else .next (sendLosts (periodSent (periodCounted (periodBegun s)))) := rfl

theorem periodBegun_touches (s : State) : Touches heartbeatParts s (periodBegun s) := by
  have dropped (u : State) (timed : Touches heartbeatParts s u) : Touches heartbeatParts s (dropStandby u) :=
    timed.trans (dropStandby_touches u)
  have timed := dropped _ (.ite (c := s.mgr.firstHb = none) (.refl s) (advanceTo_touches s (s.basin.lastHb + periodNs s)).mono)
  exact .ite (timed.trans (.of_eq rfl)) timed

theorem periodSent_touches (s : State) : Touches [.out] s (periodSent s) :=
  .ite (sendBasin_touches ..) ((sendBasin_touches ..).trans (emit_touches ..))

theorem heartbeatPeriod_concerns : Concerns heartbeatParts s (execHeartbeatPeriod s) := by
  rw [execHeartbeatPeriod_eq]
  refine .ite .stay (.next (.trans (.trans ?_ (periodSent_touches _).mono) (sendLosts_touches _).mono))
  exact (periodBegun_touches s).trans (.of_eq rfl)

theorem heartbeat_concerns (m : Bytes) : Concerns [.links, .basin, .mgr, .log, .out] s (execHeartbeat m s) := by
  refine onCtl_concerns fun r => ?_
  have adopted (u : State) : Touches [.links, .basin, .mgr, .log, .out] u (noteEpoch (adoptHb u r.subject) r.epoch) :=
    (adoptHb_touches ..).andThen (noteEpoch_touches ..)
  have heard : Touches [.links, .basin, .mgr, .log, .out] s (hearHb s r) := (hearHb_touches ..).mono
  have standby : Touches [.links, .basin, .mgr, .log, .out] s
      (noteEpoch (adoptHb (setRole (hearHb s r) .standby) r.subject) r.epoch) :=
    (heard.trans (setRole_touches ..).mono).trans (adopted _)
  dsimp only
  split
  · exact .refl s
  split
  · exact .refl s
  · exact .refl s
  · exact .ite standby (.refl s)
  · exact heard.trans (adopted _)
  · exact .ite (.refl s) standby
  · exact (heard.trans (adopted _)).trans (answerHb_touches ..).mono

theorem handover_concerns (m : Bytes) : Concerns [.links, .basin, .mgr, .log, .out] s (execHandover m s) := by
  refine onCtl_concerns fun r => ?_
  dsimp only
  split
  · exact .of_eq rfl
  · exact .ite (startClaim_touches ..) (.refl s)
  · exact .refl s

theorem emptyPlot_touches (s : State) : Touches [.spans, .pieces, .plot] s (emptyPlot s) := .of_eq rfl

theorem joinAck_concerns (m : Bytes) :
    Concerns [.links, .basin, .mgr, .log, .spans, .pieces, .plot, .out] s (execJoinAck m s) := by
  refine onCtl_concerns fun r => .ite (.refl s) ?_
  refine .trans (.trans (.trans ?_ (setRole_touches ..).mono) (noteEpoch_touches ..).mono) (renegotiate_touches _).mono
  exact (emptyPlot_touches s).mono.trans (.of_eq rfl)

theorem hbReply_concerns (m : Bytes) : Concerns [.mgr, .out] s (execHbReply m s) :=
  onCtl_concerns fun _ => .ite (.refl s)
    (.ite (.ite (.refl s) (onWorker_touches ..).mono) (sendBasin_touches ..).mono)

/-- What the start of a claim at its time concerns. -/
abbrev claimParts : List Part := [.sys, .links, .basin, .mgr, .wr, .log, .insts, .out]

theorem managerMissing_concerns : Concerns claimParts s (execManagerMissing s) := by
  unfold execManagerMissing
  split
  · exact .ite .stay (.next ((advanceTo_touches ..).mono.trans (.of_eq rfl)))
  · exact .next ((advanceTo_touches ..).andThen (startClaim_touches ..))
  · exact .stay

theorem unjoinedClaimStart_concerns : Concerns claimParts s (execUnjoinedClaimStart s) :=
  .ite .stay (.next ((advanceTo_touches ..).andThen (startClaim_touches ..)))

/-- What the loss of a role at its time concerns. -/
abbrev roleParts : List Part := [.sys, .basin, .mgr, .wr, .log, .insts, .out]

theorem leaseExpiry_concerns : Concerns roleParts s (execLeaseExpiry s) :=
  .ite .stay (.next (((advanceTo_touches ..).mono.trans (.of_eq rfl)).trans (setRole_touches ..).mono))

theorem claimTimeout_concerns : Concerns roleParts s (execClaimTimeout s) :=
  .ite .stay (.next (((advanceTo_touches ..).mono.trans (.of_eq rfl)).trans (setRole_touches ..).mono))

theorem leaveTimeout_concerns : Concerns roleParts s (execLeaveTimeout s) := by
  unfold execLeaveTimeout
  split
  · exact .stay
  · exact .ite .stay (.next ((advanceTo_touches ..).andThen (becomeUnjoined_touches _)))

theorem yieldingTimeout_concerns : Concerns [.sys, .basin, .wr, .log, .insts, .out] s (execYieldingTimeout s) :=
  .ite .stay (.next (((advanceTo_touches ..).mono.trans (.of_eq rfl)).trans (setRole_touches ..).mono))

theorem claim_concerns (m : Bytes) : Concerns [.basin, .mgr, .log, .out] s (execClaim m s) := by
  refine onCtl_concerns fun r => ?_
  have granted (u : State) : Touches [.basin, .mgr, .log, .out] u (grantTo u r) := (grantTo_touches ..).mono
  dsimp only
  split
  · refine .ite (.refl s) ?_
    split
    · exact granted s
    · exact .ite (granted s) (.ite ((sendBasin_touches ..).mono.trans (granted _)) (.refl s))
  · exact .ite (withdraw_touches s) (.refl s)
  · exact .ite (((sendBasin_touches ..).mono.trans (.of_eq rfl)).trans (setRole_touches ..).mono) (.refl s)
  · exact .refl s

theorem revoke_concerns (m : Bytes) : Concerns [.basin, .mgr, .log, .out] s (execRevoke m s) :=
  onCtl_concerns fun _ => .ite (withdraw_touches s) (.refl s)

theorem withdraw_concerns (m : Bytes) : Concerns [.basin, .mgr] s (execWithdraw m s) := by
  refine onCtl_concerns fun r => ?_
  dsimp only
  split
  · exact .ite (.of_eq rfl) (.refl s)
  · exact .refl s

theorem joinNak_concerns (m : Bytes) : Concerns [.basin, .mgr] s (execJoinNak m s) :=
  onCtl_concerns fun _ => .ite (.refl s) (.of_eq rfl)

theorem noticeAck_concerns (m : Bytes) : Concerns [.basin, .mgr] s (execNoticeAck m s) :=
  onCtl_concerns fun _ => .ite (.of_eq rfl) (.refl s)

theorem hbParamSwitch_concerns : Concerns [.sys, .basin, .mgr, .wr, .insts, .out] s (execHbParamSwitch s) := by
  unfold execHbParamSwitch
  split
  · exact .stay
  · exact .ite .stay (.next ((advanceTo_touches ..).mono.trans (.of_eq rfl)))

theorem joinRetry_concerns : Concerns [.basin, .out] s (execJoinRetry s) :=
  .ite .stay (.next (.trans (.of_eq rfl) (.foldl (fun _ _ => (sendBasin_touches ..).mono) _ _)))

/-- What a member's window concerns as it ends. -/
abbrev windowParts : List Part := [.sys, .basin, .wr, .insts, .out]

theorem joinTimeout_concerns : Concerns windowParts s (execJoinTimeout s) := by
  unfold execJoinTimeout
  split
  · exact .stay
  · exact .ite .stay (.next ((advanceTo_touches ..).mono.trans (.of_eq rfl)))

theorem noticeTimeout_concerns : Concerns windowParts s (execNoticeTimeout s) :=
  .ite .stay (.next ((advanceTo_touches ..).mono.trans (.of_eq rfl)))

theorem recoveryWindowExpiry_concerns (basinWide : Bool) : Concerns windowParts s (execRecoveryWindowExpiry basinWide s) := by
  unfold execRecoveryWindowExpiry
  split
  all_goals
    split
    · exact .stay
    · exact .next ((advanceTo_touches ..).mono.trans (.of_eq rfl))

theorem leaveAck_concerns (m : Bytes) : Concerns [.basin, .mgr, .log] s (execLeaveAck m s) :=
  onCtl_concerns fun _ => .ite (becomeUnjoined_touches s) (.refl s)

theorem lost_concerns (m : Bytes) : Concerns [.basin, .mgr, .log] s (execLost m s) := by
  refine onCtl_concerns fun r => ?_
  refine .ite (.ite (becomeUnjoined_touches s) (.refl s)) (.ite (.refl s) ?_)
  exact .ite (.of_eq rfl) (.trans (.of_eq rfl) (openBasinWin_touches _).mono)

theorem directoryReplication_concerns (seq : Nat) (dir : Directory) (epoch : Nat) :
    Concerns [.basin, .mgr, .out] s (execDirectoryReplication seq dir epoch s) :=
  .ite .stay (.next (.of_eq rfl))

/-! ### Periodic messages and answers -/

theorem claimPeriod_concerns : Concerns [.out] s (execClaimPeriod s) := .ite .stay (.next (sendBasin_touches ..))

theorem heldCommandResend_concerns : Concerns [.out] s (execHeldCommandResend s) :=
  .ite .stay (.next (.foldl (fun _ _ => emit_touches ..) _ s))

theorem configurationRequest_concerns : Concerns [.out] s (execConfigurationRequest s) := .ite .stay (.next (emit_touches ..))

theorem handoverPeriod_concerns : Concerns [.out] s (execHandoverPeriod s) := .ite .stay (.next (sendBasin_touches ..))

theorem workerPeriod_concerns : Concerns [.out] s (execWorkerPeriod s) := by
  refine .ite .stay (.next ?_)
  have asked : Touches [.out] s (if s.basin.leaveSince = none then s else
      sendBasin s (s.basin.mgrSerial.getD 0) (ownCtl s 0x0B 0)) := .ite (.refl s) (sendBasin_touches ..)
  exact .ite asked (asked.trans (sendBasin_touches ..))

theorem basinQueryMap_concerns (slot : Nat) : Concerns [.out] s (execBasinQueryMap slot s) := .ite .stay (.next (emit_touches ..))

theorem basinQueryAlloc_concerns (slot handle : Nat) : Concerns [.out] s (execBasinQueryAlloc slot handle s) := by
  refine .ite .stay ?_
  dsimp only
  split
  all_goals exact .next (emit_touches ..)

/-! ### The partner link (R134 to R154) -/

/-- What a partner link's timer concerns. -/
abbrev partnerTimerParts : List Part := [.sys, .basin, .wr, .log, .insts, .pt, .out]

theorem partnerHbExpiry_concerns : Concerns partnerTimerParts s (execPartnerHbExpiry s) :=
  .ite .stay (.next (((advanceTo_touches ..).mono.trans (.of_eq rfl)).trans (prstTrigger_touches ..).mono))

theorem snoopTimeout_concerns (line : Nat) : Concerns partnerTimerParts s (execSnoopTimeout line s) := by
  unfold execSnoopTimeout
  split
  · exact .stay
  · exact .next ((advanceTo_touches ..).andThen (prstTrigger_touches ..))

theorem partnerLinkDown_concerns : Concerns [.basin, .log, .pt] s (execPartnerLinkDown s) :=
  .ite (.next (.ite (.of_eq rfl) (.trans (.of_eq rfl) (prstTrigger_touches ..)))) (.ite .stay (.next (linkTrigger_touches ..)))

theorem partnerFatalError_concerns : Concerns [.basin, .log, .pt] s (execPartnerFatalError s) :=
  .ite .stay (.next (linkTrigger_touches ..))

theorem hostReset_concerns : Concerns [.basin, .log, .pt] s (execHostReset s) := .ite .stay (.next (prstTrigger_touches ..))

theorem ucieModuleLost_concerns (m : Nat) : Concerns [.basin, .log, .pt] s (execUcieModuleLost m s) := by
  have logged (p : Partner) (d : Bytes) : Touches [.basin, .log, .pt] s (logEv { s with pt := p } 0x0031 Status.ok 0x0B m d) :=
    .trans (.of_eq rfl) (logEv_touches ..).mono
  exact .ite .stay (.ite (.next ((logged ..).trans (linkTrigger_touches ..))) (.next (logged ..)))

theorem tenderCoreFail_concerns (core : Nat) : Concerns [.basin, .log, .pt] s (execTenderCoreFail core s) := by
  refine .ite .stay ?_
  extract_lets cores pt t
  have opened : Touches [.basin, .log, .pt] s t :=
    (Touches.trans (.of_eq rfl) (logEv_touches ..).mono).trans (openOwnWin_touches _).mono
  split
  · exact .ite (.next ((opened.trans (.of_eq rfl)).trans (logEv_touches ..).mono)) (.next opened)
  · exact .next opened

theorem partnerLinkTrained_concerns (tr : LinkTrain) : Concerns [.log, .pt] s (execPartnerLinkTrained tr s) :=
  .ite .stay (.ite (.next (.of_eq rfl)) (.next (.ite ((linkUp_touches ..).trans (.of_eq rfl)) (linkUp_touches ..))))

theorem partnerSnoop_concerns (line : Nat) (store : Option Bytes) : Concerns [.pmem, .out] s (execPartnerSnoop line store s) := by
  refine .ite .stay (.next ?_)
  cases store
  all_goals exact .of_eq rfl

theorem hdmAccess_concerns (a : HdmAcc) : Concerns [.links, .qps, .pt, .plot, .out] s (execHdmAccess a s) :=
  .ite .stay (.next (hdmServe_touches ..))

/-! ### Queues, keys and queue pairs -/

theorem cqFire_touches (s : State) (c : Nat) (x : Cq) : Touches [.cqs, .out] s (cqFire s c x) := .of_eq rfl

theorem cqModTimeExpiry_concerns (core : Nat) : Concerns [.sys, .wr, .insts, .cqs, .out] s (execCqModTimeExpiry core s) := by
  unfold execCqModTimeExpiry
  split
  · exact .stay
  split
  · exact .next ((advanceTo_touches ..).andThen (cqFire_touches ..))
  · exact .stay

theorem enterError_touches (s : State) (q : Nat) (st : Byte) : Touches [.wqs] s (enterError s q st) := by
  unfold enterError
  split
  · exact .refl s
  · exact .ite (.refl s) (.of_eq rfl)

theorem gateTimeoutExpiry_concerns (q : Nat) : Concerns [.sys, .wr, .insts, .wqs, .out] s (execGateTimeoutExpiry q s) := by
  unfold execGateTimeoutExpiry
  split
  · exact .stay
  split
  · exact .ite .stay (.next ((advanceTo_touches ..).andThen (enterError_touches ..)))
  · exact .stay

theorem keyFree_concerns (index : Nat) : Concerns [.pages, .insts, .keys, .pieceClock] s (execKeyFree index s) := by
  unfold execKeyFree
  split
  · exact .stay
  · exact .ite .stay (.next (.of_eq rfl))

theorem ackDelayExpiry_concerns (qp : Nat) : Concerns txParts s (execAckDelayExpiry qp s) := by
  unfold execAckDelayExpiry
  split
  · split
    · exact .ite .stay (.next ((advanceTo_touches ..).mono.trans (sendAck_touches ..)))
    · exact .stay
  · exact .stay

theorem resyncRepeat_concerns (qp : Nat) : Concerns txParts s (execResyncRepeat qp s) := by
  unfold execResyncRepeat
  split
  · exact .stay
  · exact .ite .stay (.next (((advanceTo_touches ..).mono.trans (putQp_touches ..).mono).trans (sendCtl_sends ..).touches))

theorem failoverTimeExpiry_concerns (l : Nat) : Concerns txParts s (execFailoverTimeExpiry l s) := by
  refine .ite .stay (.next (.foldl (fun u x => ?_) _ s))
  dsimp only
  split
  · exact .refl u
  · exact .ite (.refl u) (.trans (.ite (.refl u) (advanceTo_touches ..).mono) (moveLink_touches ..))

theorem linkStat_touches (s : State) (l k d : Nat) : Touches [.linkStats] s (linkStat s l k d) := .of_eq rfl

theorem rtoExpiry_concerns (qp : Nat) : Concerns [.sys, .wr, .insts, .qps, .linkStats, .out] s (execRtoExpiry qp s) := by
  unfold execRtoExpiry
  split
  · exact .stay
  · exact .ite .stay (.next (((advanceTo_touches ..).mono.trans (linkStat_touches ..).mono).trans (putQp_touches ..).mono))

theorem rnrDelayExpiry_concerns (qp : Nat) : Concerns [.sys, .wr, .insts, .qps, .out] s (execRnrDelayExpiry qp s) := by
  unfold execRnrDelayExpiry
  split
  · exact .stay
  split
  · exact .stay
  · exact .next ((advanceTo_touches ..).andThen (putQp_touches ..))

/-! ### Weir (R254 to R268) -/

/-- What Weir concerns at the end of an interval or of an idle time. -/
abbrev weirParts : List Part := [.sys, .clk, .wr, .insts, .qps, .out]

theorem rateIdleReset_concerns (qp : Nat) : Concerns weirParts s (execRateIdleReset qp s) := by
  unfold execRateIdleReset
  split
  · exact .stay
  · exact .ite .stay (onBlk_concerns fun _ => .next ((advanceTo_touches ..).andThen (putQp_touches ..)))

theorem cutCounted_touches (s : State) (l k : Nat) (f : MapAcc → MapAcc) : Touches [.wr] s (accUp (weirStat s l k) l f) := .of_eq rfl

theorem weirIntervalEnd_concerns (qp : Nat) : Concerns weirParts s (execWeirIntervalEnd qp s) := by
  unfold execWeirIntervalEnd
  split
  · exact .stay
  split
  · exact .stay
  · refine .ite .stay (onBlk_concerns fun u => .next ?_)
    refine .trans ?_ (putQp_touches ..).mono
    exact .ite ((advanceTo_touches ..).andThen (cutCounted_touches ..)) (advanceTo_touches ..).mono

/-- What the end of a map period concerns: Weir, and at a worker the queue pair its map goes by. -/
abbrev mapPeriodParts : List Part := [.sys, .clk, .links, .wr, .insts, .qps, .out]

/-- The device with its map sent to the active manager, or placed there at the manager itself (R262, R264). -/
def mapSent (s : State) : State :=
  if s.basin.role = .active then placeMap s s.basin.slot (mapBytes s)
  else match (if s.basin.mgrMissing ∨ s.basin.mgrSlot = 0 then none else basinQp s s.basin.mgrSlot) with
    | some n => queueReq s n 1 (mapBytes s).length mapAddr 0 0 false 0 0 [] (.bytes (mapBytes s)) .nobody
    | none => s

/-- The device at the start of its next map period. -/
def mapRestarted (s : State) (cfg : Nat) : State :=
  { s with wr.mapSeq := (s.wr.mapSeq + 1) % 2 ^ 32, wr.mapFrom := s.sys.now, wr.mapPeriod := fld cfg 9 0,
           wr.acc := freshAcc s, wr.thrSeen := s.lv.regions.any (fun r => r.2.throttled) }

theorem mapSent_touches (s : State) : Touches [.links, .wr, .qps, .out] s (mapSent s) := by
  refine .ite (placeMap_touches ..).mono ?_
  split
  · exact (queueReq_touches ..).mono
  · exact .refl s

theorem mapRestarted_touches (s : State) (cfg : Nat) : Touches [.wr] s (mapRestarted s cfg) := .of_eq rfl

theorem mapPeriodEnd_concerns : Concerns mapPeriodParts s (execMapPeriodEnd s) := by
  have ended (u : State) : Touches mapPeriodParts u
      (mapRestarted (mapSent (advanceTo u (u.wr.mapFrom + u.wr.mapPeriod * 100000))) (getReg s 0x03 0x300)) :=
    ((advanceTo_touches ..).andThen (mapSent_touches _)).trans (mapRestarted_touches ..).mono
  exact .ite .stay (onBlk_concerns fun u => .next (ended u))

/-! ### SPDM, IDE_KM and key messages (R269 to R291) -/

theorem onSpdm_concerns {ps : List Part} {tm : Transp} {k : State} (work : Touches ps s k) : Concerns ps s (onSpdm tm s k) :=
  .ite (.next work) .stay

theorem spdmSay_touches (s : State) (tm : Transp) (r : SpdmRsp) : Touches [.out] s (spdmSay s tm r) := .of_eq rfl

theorem onNegotiated_concerns {ps : List Part} {tm : Transp} {k : State} (work : Touches ps s k) (out : .out ∈ ps := by decide) :
    Concerns ps s (onNegotiated tm s k) :=
  onSpdm_concerns (.ite work ((spdmSay_touches ..).mono (by simpa using out)))

theorem onVerified_concerns {n : Nat} {ok : Bool} {k : Sess → State} (work : ∀ x, Touches [.spdm, .out] s (k x)) :
    Concerns [.spdm, .out] s (onVerified n ok s k) := by
  unfold onVerified onSess
  split
  · exact .next (.ite (spdmSay_touches ..).mono (.refl s))
  · exact onSpdm_concerns (.ite (.of_eq rfl) (work _))

theorem getVersion_concerns (tm : Transp) : Concerns [.spdm, .out] s (execGetVersion tm s) := onSpdm_concerns (.of_eq rfl)

theorem getCapabilities_concerns (tm : Transp) : Concerns [.spdm, .out] s (execGetCapabilities tm s) :=
  onSpdm_concerns (.ite (.of_eq rfl) (.of_eq rfl))

theorem negotiateAlgorithms_concerns (tm : Transp) (a : SpdmAlgs) : Concerns [.spdm, .out] s (execNegotiateAlgorithms tm a s) :=
  onSpdm_concerns (.ite (.of_eq rfl) (.ite (.of_eq rfl) (.of_eq rfl)))

theorem keyExchange_concerns (tm : Transp) (summary : Nat) : Concerns [.spdm, .out] s (execKeyExchange tm summary s) :=
  onNegotiated_concerns (.ite (.of_eq rfl) (.of_eq rfl))

theorem finish_concerns (sess : Nat) (verifies : Bool) : Concerns [.spdm, .out] s (execFinish sess verifies s) :=
  onVerified_concerns fun _ => .of_eq rfl

theorem keyUpdate_concerns (m : SecuredReq) : Concerns [.spdm, .out] s (execKeyUpdate m s) :=
  onVerified_concerns fun _ => .ite (.of_eq rfl) (.of_eq rfl)

theorem endSession_concerns (m : SecuredReq) : Concerns [.spdm, .out] s (execEndSession m s) :=
  onVerified_concerns fun _ => .of_eq rfl

theorem getDigests_concerns (tm : Transp) : Concerns [.out] s (execGetDigests tm s) := onNegotiated_concerns (spdmSay_touches ..)

theorem getCertificate_concerns (tm : Transp) (slot off len : Nat) : Concerns [.out] s (execGetCertificate tm slot off len s) :=
  onNegotiated_concerns (.ite (spdmSay_touches ..) (spdmSay_touches ..))

theorem challenge_concerns (tm : Transp) (slot : Nat) (nonce : Bytes) : Concerns [.out] s (execChallenge tm slot nonce s) :=
  onNegotiated_concerns (.ite (spdmSay_touches ..) (spdmSay_touches ..))

theorem getMeasurements_concerns (tm : Transp) (index : Nat) (nonce : Bytes) :
    Concerns [.out] s (execGetMeasurements tm index nonce s) :=
  onNegotiated_concerns (.ite (spdmSay_touches ..) (spdmSay_touches ..))

theorem ideKmKeyProg_concerns (sess : Option Nat) (stream : Nat) (key : Bytes) :
    Concerns [.pt, .out] s (execIdeKmKeyProg sess stream key s) := by
  refine .ite .stay ?_
  split
  · exact .next (emit_touches ..).mono
  · exact .ite (.next (emit_touches ..).mono) (.ite (.next (emit_touches ..).mono) (.next (.of_eq rfl)))

theorem keyMessage_concerns {ps : List Part} {sess : Option Nat} {m : Bytes} {row : Bool} {eff : State → State}
    (work : Touches ps s (eff s)) (out : .out ∈ ps := by decide) : Concerns ps s (keyMessage sess m row s eff) := by
  have answered (u : State) (st : Byte) : Touches ps u (keyRsp u sess m st) := (spdmSay_touches ..).mono (by simpa using out)
  unfold keyMessage
  refine .ite .stay ?_
  split
  · exact .next (answered ..)
  · exact .next (work.trans (answered ..))

theorem keyInstallInitial_concerns (sess : Option Nat) (m : Bytes) : Concerns [.qps, .out] s (execKeyInstallInitial sess m s) :=
  keyMessage_concerns (.of_eq rfl)

theorem keyInstallRekey_concerns (sess : Option Nat) (m : Bytes) : Concerns [.qps, .out] s (execKeyInstallRekey sess m s) :=
  keyMessage_concerns (.of_eq rfl)

theorem keyCommit_concerns (sess : Option Nat) (m : Bytes) : Concerns [.qps, .out] s (execKeyCommit sess m s) :=
  keyMessage_concerns (.of_eq rfl)

theorem cryptPolicy_concerns (sess : Option Nat) (m : Bytes) : Concerns [.policy, .out] s (execCryptPolicy sess m s) :=
  keyMessage_concerns (.of_eq rfl)

theorem admitSet_concerns (sess : Option Nat) (m : Bytes) : Concerns [.policy, .out] s (execAdmitSet sess m s) :=
  keyMessage_concerns (.of_eq rfl)

theorem basinAttestFragment_concerns (slot : Nat) (b : Bytes) : Concerns [.spdm] s (execBasinAttestFragment slot b s) := by
  refine .ite .stay (.ite (.next (.of_eq rfl)) ?_)
  split
  all_goals exact .next (.of_eq rfl)

/-! ### Runnel, the Furrow, codebooks and the log -/

theorem runnelRtoExpiry_concerns (slot : Nat) : Concerns rnParts s (execRunnelRtoExpiry slot s) := by
  unfold execRunnelRtoExpiry
  split
  · exact .stay
  · exact .ite .stay (.next (((advanceTo_touches ..).mono.trans (.of_eq rfl)).trans (rnResend_sends ..).touches))

theorem runnelAckDelayExpiry_concerns (slot : Nat) :
    Concerns [.sys, .clk, .links, .wr, .insts, .rn, .out] s (execRunnelAckDelayExpiry slot s) := by
  unfold execRunnelAckDelayExpiry
  split
  · exact .stay
  split
  · exact .stay
  · exact .ite (.next (rnWork_touches ..).mono) (.next ((advanceTo_touches ..).andThen (rnSendAck_touches ..)))

theorem runnelStreamRestart_concerns (slot : Nat) :
    Concerns [.sys, .links, .wr, .log, .insts, .rn, .out] s (execRunnelStreamRestart slot s) := by
  unfold execRunnelStreamRestart
  split
  · exact .stay
  · exact .ite .stay (.next ((logEv_touches ..).andThen (rnRestart_touches ..)))

theorem groupStart_concerns (q i : Nat) : Concerns [.clk, .fw] s (execGroupStart q i s) := by
  unfold execGroupStart
  dsimp only
  split
  · refine .ite .stay ?_
    split
    · exact .stay
    · exact onBlk_concerns fun _ => .next (startGroup_touches ..).mono
  · split
    · exact .stay
    · refine .ite .stay ?_
      split
      · exact .stay
      · exact onBlk_concerns fun _ => .next (.of_eq rfl)
  · exact .stay

theorem coreLost_concerns (core : Nat) : Concerns [.basin, .log, .insts, .fw] s (execCoreLost core s) := by
  cases on : coreIn s core with
  | false =>
    unfold execCoreLost
    rw [on]
    exact .stay
  | true =>
    obtain ⟨t, its, frame, -⟩ := exec_coreLost_in on
    have resized : Touches [.log, .insts] (coreLogged s core) t := .of_eq frame
    rw [← exec_coreLost, its]
    exact .next ((coreLogged_touches ..).andThen resized)

theorem cbSlotError_concerns (slot : Nat) : Concerns [.log, .cbs] s (execCbSlotError slot s) := by
  unfold execCbSlotError
  split
  · exact .stay
  · exact .ite .stay (.next (.trans (.of_eq rfl) (logEv_touches ..).mono))

theorem eventLogWrite_concerns : Concerns [.log, .intr, .out] s (execEventLogWrite s) := by
  unfold execEventLogWrite
  split
  · exact .stay
  dsimp only
  split
  · exact .next (.of_eq rfl)
  · exact .next (.trans (.of_eq rfl) (eventInts_touches ..).mono)

end Sys2Proof.Machine
end

section
/-!
PROOFS. O59: each event leaves what it does not concern (spec/95_what_each_step_holds.md).
-/
namespace Sys2Proof
open Sys2Proof.Machine

/-- Settles O59, from what each command concerns. -/
theorem eventsChangeOnlyWhatTheyConcern : Obligations.EventsChangeOnlyWhatTheyConcern := by
  unfold Obligations.EventsChangeOnlyWhatTheyConcern
  refine ⟨?_, ?_, ?_, ?_, ?_, ?_, ?_, ?_, ?_, ?_, ?_, ?_, ?_, ?_, ?_, ?_, ?_, ?_, ?_, ?_, ?_, ?_, ?_, ?_, ?_, ?_, ?_, ?_, ?_,
    ?_, ?_, ?_, ?_, ?_, ?_, ?_, ?_, ?_, ?_, ?_, ?_, ?_, ?_, ?_, ?_, ?_, ?_, ?_, ?_, ?_, ?_, ?_, ?_, ?_, ?_, ?_, ?_, ?_, ?_,
    ?_, ?_, ?_, ?_⟩
  · rintro _ s t ⟨_, rfl⟩ its
    exact (coldRstNRise_concerns ..).frame its
  · rintro _ s t rfl its
    exact bundleVerify_concerns.frame its
  · rintro _ s t rfl its
    exact firmwareRunning_concerns.frame its
  · rintro _ s t rfl its
    exact imageVerify_concerns.frame its
  · rintro _ s t ⟨_, rfl⟩ its
    exact (hbmTrained_concerns ..).frame its
  · rintro _ s t (⟨_, rfl⟩ | rfl) its
    · exact (junctionOvertemp_concerns ..).frame its
    · exact warmRstNRise_concerns.frame its
  · rintro _ s t (rfl | ⟨_, rfl⟩ | ⟨_, rfl⟩) its
    · exact ppsInEdge_concerns.frame its
    · exact (ptpMessage_concerns ..).frame its
    · exact (mapSlotExpiry_concerns ..).frame its
  · rintro _ s t (⟨_, _, rfl⟩ | ⟨_, _, rfl⟩ | ⟨_, _, rfl⟩ | rfl) its
    · exact (gridExcursion_concerns ..).frame its
    · exact (disagree_concerns ..).frame its
    · exact (vcmdSettle_concerns ..).frame its
    · exact avsbusSilent_concerns.frame its
  · rintro _ s t ⟨_, _, rfl⟩ its
    exact (ocThrottleEnter_concerns ..).frame its
  · rintro _ s t ⟨_, _, _, rfl⟩ its
    exact (throttleExit_concerns ..).frame its
  · rintro _ s t ⟨_, rfl⟩ its
    exact (ocPersist_concerns ..).frame its
  · rintro _ s t (⟨_, _, _, rfl⟩ | ⟨_, _, rfl⟩ | ⟨_, rfl⟩) its
    · exact (senseOpen_concerns ..).frame its
    · exact (drop_concerns ..).frame its
    · exact (pmbusPoll_concerns ..).frame its
  · rintro _ s t rfl its
    exact vcmdTimeout_concerns.frame its
  · rintro _ s t (⟨_, rfl⟩ | ⟨_, rfl⟩) its
    · exact (blockGate_concerns ..).frame its
    · exact (wakeEvent_concerns ..).frame its
  · rintro _ s t rfl its
    exact furrowPllPowerDown_concerns.frame its
  · rintro _ s t (⟨_, _, rfl⟩ | ⟨_, _, rfl⟩) its
    · exact (moduleInsertion_concerns ..).frame its
    · exact (cmisPoll_concerns ..).frame its
  · rintro _ s t (⟨_, _, rfl⟩ | ⟨_, _, rfl⟩) its
    · exact (calIdleWindow_concerns ..).frame its
    · exact (enterAck_concerns ..).frame its
  · rintro _ s t (⟨_, _, rfl | rfl | rfl | rfl | rfl⟩ | ⟨_, _, rfl⟩) its
    · exact (enterNak_concerns ..).frame its
    · exact (cancel_concerns ..).frame its
    · exact (offer_concerns ..).frame its
    · exact (enter_concerns ..).frame its
    · exact (hello_concerns ..).frame its
    · exact (linkTrained_concerns ..).frame its
  · rintro _ s t (⟨_, rfl | rfl⟩) its
    · exact (calComplete_concerns ..).frame its
    · exact (linkDown_concerns ..).frame its
  · rintro _ s t (⟨_, rfl | rfl | rfl⟩) its
    · exact (calDeferTimeout_concerns ..).frame its
    · exact (enterAckTimeout_concerns ..).frame its
    · exact (wakeWindowClose_concerns ..).frame its
  · rintro _ s t (⟨_, rfl | rfl | rfl | rfl⟩) its
    · exact (offerReplyTimeout_concerns ..).frame its
    · exact (masterIdleEnter_concerns ..).frame its
    · exact (wakeWindowOpen_concerns ..).frame its
    · exact (dormancyHoldEnd_concerns ..).frame its
  · rintro _ s t ⟨_, _, rfl⟩ its
    exact (retrainLoopback_concerns ..).frame its
  · rintro _ s t ⟨_, rfl⟩ its
    exact (dormMissLimit_concerns ..).frame its
  · rintro _ s t rfl its
    exact heartbeatPeriod_concerns.frame its
  · rintro _ s t (⟨_, rfl | rfl⟩) its
    · exact (heartbeat_concerns ..).frame its
    · exact (handover_concerns ..).frame its
  · rintro _ s t ⟨_, rfl⟩ its
    exact (joinAck_concerns ..).frame its
  · rintro _ s t ⟨_, rfl⟩ its
    exact (hbReply_concerns ..).frame its
  · rintro _ s t (rfl | rfl) its
    · exact managerMissing_concerns.frame its
    · exact unjoinedClaimStart_concerns.frame its
  · rintro _ s t (rfl | rfl | rfl) its
    · exact leaseExpiry_concerns.frame its
    · exact claimTimeout_concerns.frame its
    · exact leaveTimeout_concerns.frame its
  · rintro _ s t (rfl | rfl | rfl | rfl | rfl | ⟨_, rfl⟩ | ⟨_, _, rfl⟩ | ⟨_, rfl⟩ | ⟨_, _, _, _, rfl⟩ | ⟨_, _, _, rfl | rfl⟩) its
    · exact claimPeriod_concerns.frame its
    · exact heldCommandResend_concerns.frame its
    · exact configurationRequest_concerns.frame its
    · exact handoverPeriod_concerns.frame its
    · exact workerPeriod_concerns.frame its
    · exact (basinQueryMap_concerns ..).frame its
    · exact (basinQueryAlloc_concerns ..).frame its
    · exact (getDigests_concerns ..).frame its
    · exact (getCertificate_concerns ..).frame its
    · exact (challenge_concerns ..).frame its
    · exact (getMeasurements_concerns ..).frame its
  · rintro _ s t (⟨_, rfl | rfl⟩) its
    · exact (claim_concerns ..).frame its
    · exact (revoke_concerns ..).frame its
  · rintro _ s t (⟨_, rfl | rfl | rfl⟩) its
    · exact (withdraw_concerns ..).frame its
    · exact (joinNak_concerns ..).frame its
    · exact (noticeAck_concerns ..).frame its
  · rintro _ s t rfl its
    exact yieldingTimeout_concerns.frame its
  · rintro _ s t rfl its
    exact hbParamSwitch_concerns.frame its
  · rintro _ s t rfl its
    exact joinRetry_concerns.frame its
  · rintro _ s t (rfl | rfl | ⟨_, rfl⟩) its
    · exact joinTimeout_concerns.frame its
    · exact noticeTimeout_concerns.frame its
    · exact (recoveryWindowExpiry_concerns ..).frame its
  · rintro _ s t (⟨_, rfl | rfl⟩) its
    · exact (leaveAck_concerns ..).frame its
    · exact (lost_concerns ..).frame its
  · rintro _ s t ⟨_, _, _, rfl⟩ its
    exact (directoryReplication_concerns ..).frame its
  · rintro _ s t (rfl | ⟨_, rfl⟩) its
    · exact partnerHbExpiry_concerns.frame its
    · exact (snoopTimeout_concerns ..).frame its
  · rintro _ s t (rfl | rfl | rfl | ⟨_, rfl | rfl⟩) its
    · exact partnerLinkDown_concerns.frame its
    · exact partnerFatalError_concerns.frame its
    · exact hostReset_concerns.frame its
    · exact (ucieModuleLost_concerns ..).frame its
    · exact (tenderCoreFail_concerns ..).frame its
  · rintro _ s t ⟨_, rfl⟩ its
    exact (partnerLinkTrained_concerns ..).frame its
  · rintro _ s t ⟨_, _, rfl⟩ its
    exact (partnerSnoop_concerns ..).frame its
  · rintro _ s t ⟨_, rfl⟩ its
    exact (hdmAccess_concerns ..).frame its
  · rintro _ s t ⟨_, rfl⟩ its
    exact (cqModTimeExpiry_concerns ..).frame its
  · rintro _ s t ⟨_, rfl⟩ its
    exact (keyFree_concerns ..).frame its
  · rintro _ s t (⟨_, rfl | rfl | rfl⟩) its
    · exact (ackDelayExpiry_concerns ..).frame its
    · exact (resyncRepeat_concerns ..).frame its
    · exact (failoverTimeExpiry_concerns ..).frame its
  · rintro _ s t ⟨_, rfl⟩ its
    exact (rtoExpiry_concerns ..).frame its
  · rintro _ s t ⟨_, rfl⟩ its
    exact (rnrDelayExpiry_concerns ..).frame its
  · rintro _ s t (⟨_, rfl | rfl⟩) its
    · exact (rateIdleReset_concerns ..).frame its
    · exact (weirIntervalEnd_concerns ..).frame its
  · rintro _ s t rfl its
    exact mapPeriodEnd_concerns.frame its
  · rintro _ s t (⟨_, rfl | rfl⟩ | ⟨_, _, rfl⟩ | ⟨_, _, rfl⟩ | ⟨_, _, rfl⟩ | ⟨_, rfl | rfl⟩) its
    · exact (getVersion_concerns ..).frame its
    · exact (getCapabilities_concerns ..).frame its
    · exact (negotiateAlgorithms_concerns ..).frame its
    · exact (keyExchange_concerns ..).frame its
    · exact (finish_concerns ..).frame its
    · exact (keyUpdate_concerns ..).frame its
    · exact (endSession_concerns ..).frame its
  · rintro _ s t ⟨_, _, _, rfl⟩ its
    exact (ideKmKeyProg_concerns ..).frame its
  · rintro _ s t (⟨_, _, rfl | rfl | rfl⟩) its
    · exact (keyInstallInitial_concerns ..).frame its
    · exact (keyInstallRekey_concerns ..).frame its
    · exact (keyCommit_concerns ..).frame its
  · rintro _ s t (⟨_, _, rfl | rfl⟩) its
    · exact (cryptPolicy_concerns ..).frame its
    · exact (admitSet_concerns ..).frame its
  · rintro _ s t ⟨_, _, rfl⟩ its
    exact (basinAttestFragment_concerns ..).frame its
  · rintro _ s t ⟨_, rfl⟩ its
    exact (gateTimeoutExpiry_concerns ..).frame its
  · rintro _ s t ⟨_, rfl⟩ its
    exact (runnelRtoExpiry_concerns ..).frame its
  · rintro _ s t ⟨_, rfl⟩ its
    exact (runnelAckDelayExpiry_concerns ..).frame its
  · rintro _ s t ⟨_, rfl⟩ its
    exact (runnelStreamRestart_concerns ..).frame its
  · rintro _ s t ⟨_, _, rfl⟩ its
    exact (groupStart_concerns ..).frame its
  · rintro _ s t ⟨_, rfl⟩ its
    exact (coreLost_concerns ..).frame its
  · rintro _ s t ⟨_, rfl⟩ its
    exact (cbSlotError_concerns ..).frame its
  · rintro _ s t rfl its
    exact eventLogWrite_concerns.frame its

end Sys2Proof
end
